-- ==== Sys2Proof/Word.lean ====
section
/-! DEFINITION. The word types of the Votore V24 model: bytes, 16-, 32- and 64-bit words, and byte strings. -/

namespace Sys2Proof

/-- One byte. -/
abbrev Byte := BitVec 8

/-- A 16-bit field (tags, opcodes, statuses). -/
abbrev Half := BitVec 16

/-- A 32-bit register or field (00 R2, R3). -/
abbrev Word := BitVec 32

/-- A 64-bit value: PTB, HWM and expanded stamps (01 R30, R40). -/
abbrev Long := BitVec 64

/-- A byte string in ascending address order. -/
abbrev Bytes := List Byte

end Sys2Proof
end

