-- ==== Sys2Proof/Syntax.lean ====
section
/-! DEFINITION. The commands of the block: one constructor of `Instr` per row of spec/opcode_table.json, in the table's order.
A row that is an opcode names the outstanding packet it carries out (`Ref`: principal and tag); the packet's parameters
are the bytes the unit fetched. A row that is an event carries what the outside world supplies at it (a level, a
measurement, received bytes), and `t`, the PTB_CLK cycle at which it happens (the log's entry on time). -/

namespace Sys2Proof

/-- The packet an opcode row carries out: the issuing principal (0 to 63 a tenant, 64 the sideband) and its TAG (03 R154). -/
structure Ref where
  principal : Nat
  tag : Half
deriving DecidableEq, Repr

/-- An opcode's packet whose bytes the unit reads from its memory, and whether that read meets an uncorrectable error (07 R389). -/
structure LoadRef where
  ref : Ref
  poisoned : Bool
deriving DecidableEq, Repr

/-- What the host has written by the time it rings a doorbell: bytes of its memory, and the ranges, address and length, in which an
access of the unit ends in an error (03 R151). -/
structure HostPlaced where
  bytes : List (Nat × Bytes)
  faulty : List (Nat × Nat)
deriving DecidableEq, Repr

/-- What a BAR read names: an offset, and 8 bytes instead of 4 (16 R717). -/
structure RegRead where
  offset : Nat
  wide : Bool
deriving DecidableEq, Repr

/-- The host link has trained: its generation and width (03 Table 3.5), and when. -/
structure LinkUp where
  gen : Nat
  width : Nat
  t : Nat
deriving DecidableEq, Repr

/-- What a decoded A/B pair did in one filtered sample, before ENC_CFG.INV (01 R26, R28, R53). -/
inductive EdgeKind where
  | forward
  | reverse
  | both
deriving DecidableEq, Repr

/-- A transition of A and B at the input of the digital filter, and for how many of its samples the new levels hold (01 R51). -/
structure HeldEdge where
  kind : EdgeKind
  held : Nat
deriving DecidableEq, Repr

/-- A transition of Z of a port at the input of the digital filter, rising or falling, and for how many samples it holds (01 R51, R55). -/
structure ZEdge where
  port : Nat
  rising : Bool
  held : Nat
deriving DecidableEq, Repr

/-- A transition the repeater of ENCn OUT passes on: of A and B, or of Z (01 R64). -/
inductive EncSignal where
  | ab (k : EdgeKind)
  | z (rising : Bool)
deriving DecidableEq, Repr

/-- What arrives on the sideband: UDP, an ICMP echo request, or an ARP request (03 R166). -/
inductive SbKind where
  | udp | echo | arp
deriving DecidableEq, Repr

/-- What arrives on the sideband, with the address it is for (03 R166 to R168). -/
structure Datagram where
  kind : SbKind
  dstAddr : Word
  srcAddr : Word
  srcPort : Half
  dstPort : Half
  fragmented : Bool
  bytes : Bytes
deriving DecidableEq, Repr

/-- A CoaXPress packet after the standard's link layer (04 R188, R190, R199). -/
inductive CxpPacket where
  | imageHeader (stream : Byte) (scanLines : Nat)
  | scanLine (stream : Byte) (pixFirst : Nat) (format : Nat) (samples : List Nat) (crcOk : Bool)
  | event (stream : Byte) (data : Bytes)
deriving DecidableEq, Repr

/-- A CoaXPress packet as it arrives, and whether the lane's input buffer has no room for it (04 R189). -/
structure CxpArrival where
  packet : CxpPacket
  full : Bool
deriving DecidableEq, Repr

/-- A bring-up limit of a lane, and whether the condition that it limits is met in the same cycle (04 R210). -/
structure LaneLimit where
  lane : Nat
  met : Bool
deriving DecidableEq, Repr

/-- What the coax brings in the same time on a lane in TEST and on lane n XOR 1 (04 R224, R228). -/
structure TestBits where
  lane : Nat
  line : List Bool
  partner : List Bool
deriving DecidableEq, Repr

/-- A scan line, and its pixels that a detected upset in an image-pipeline buffer has corrupted (05 R257). -/
structure UpsetLine where
  k : Int
  pixels : List Nat
deriving DecidableEq, Repr

/-- How a command's accesses end: those to host memory, and a write that the memory loses, at its address (03 R151, 07 R388). -/
structure WriteEnd where
  dmaOk : Bool
  lost : Option Long
deriving DecidableEq, Repr

/-- Addresses at which RUN_TILES reads poisoned data, and loses a write (07 R387, R388). -/
structure TileErrors where
  poisonedAt : Option Long
  lost : Option Long
deriving DecidableEq, Repr

/-- The outcome of a second access to INGOT (07 R386, R388). -/
inductive RetryOutcome where
  | clean
  | corrected
  | failed
deriving DecidableEq, Repr

/-- What an ASSAY operation meets in its own memories: single-bit errors that it corrects, and an uncorrectable one (08 R426). -/
structure AsyEcc where
  corrected : Nat
  uncorrectable : Bool
deriving DecidableEq, Repr

/-- What a command of ASSAY meets: poisoned data and a lost write, at their addresses, and errors in ASSAY's own memories (07 R387,
R388; 08 R426). -/
structure AsyErrors where
  poisonedAt : Option Long
  lost : Option Long
  ecc : AsyEcc
deriving DecidableEq, Repr

/-- What LIB_LOAD, which writes no memory, meets (07 R387, 08 R426). -/
structure LoadErrors where
  poisonedAt : Option Long
  ecc : AsyEcc
deriving DecidableEq, Repr

/-- Who issues a memory request, with what its class and deadline follow from (07 R369, R377, Table 7.6; 08 R418). -/
inductive MemIssuer where
  /-- a stake, for a tile with the given SPOS_LAST -/
  | stake (k : Nat) (sposLast : Word)
  /-- PLANISH, for the scan line of a view with the given trigger SPOS -/
  | view (v : Nat) (trig : Word)
  /-- PLANISH, for a tap -/
  | tap (handle : Nat)
  /-- the command of the list that an engine runs -/
  | list (engine : Nat)
  /-- the RT unit of ASSAY, for its oldest operation -/
  | rt
  /-- HALLMARK, for the work of an admission -/
  | hallmark (adm : Nat)
  | control
  | temper
deriving DecidableEq, Repr

/-- A memory request that arrives at a SHEET bank or INGOT channel (07 R372). -/
structure MemArrival where
  id : Nat
  addr : Long
  write : Bool
  issuer : MemIssuer
deriving DecidableEq, Repr

/-- What a start-up step reports when it ends (14 Table 14.3): which resources failed it, and what it measured. -/
structure StepReport where
  ok : Bool
  failed : List Nat
  slotAValid : Bool
  slotBValid : Bool
  pstatic : Nat
  ssiWord : Option Word
  hostUp : Bool
  /-- generation and width the host link has trained to (03 Table 3.5) -/
  link : Nat × Nat
deriving DecidableEq, Repr

/-- The commands and events of the block. -/
inductive Instr where
  | descriptorFetch (tenant : Nat) (dmaOk : Bool) (t : Nat)
  | sidebandDatagram (d : Datagram) (t : Nat)
  | sidebandCacheExpiry (addr : Word) (port tag : Half)
  | noticeDelivery (tenant : Nat)
  | irqCoalesceTimeout (tenant : Nat)
  | packetTimeLimit (r : Ref)
  | deadlineExpiry (r : Ref)
  | kwSqDbWrite (tenant : Nat) (value : Word) (placed : HostPlaced)
  | kwCqDbWrite (tenant : Nat) (value : Word)
  | ringEnable (tenant : Nat)
  | ringDisable (tenant : Nat)
  | kwIrqCoalWrite (tenant : Nat) (value : Word)
  | msixUnmask (tenant : Nat) (vector : Nat)
  | w1cClear (fn : Nat) (offset : Nat) (value setNow : Word)
  | rcRead (fn : Nat) (x : RegRead) (bump : Nat)
  | rsLowRead (fn : Nat) (offset : Nat) (wide : Bool)
  | plnStatRidxWrite (view : Nat) (value : Word)
  | registerWrite (fn : Nat) (offset : Nat) (wide : Bool) (value : Long)
  | barAccessError (fn : Nat) (offset size : Nat) (write : Bool)
  | functionLevelReset (tenant : Nat)
  | numvfsReduce (n : Nat)
  | hostLinkLoss (t : Nat)
  | hostLossRelease
  | hostLinkReturn (u : LinkUp)
  | sysStatus (r : Ref)
  | sysIdentify (r : Ref)
  | sysFence (r : Ref)
  | sysOutcomes (r : Ref)
  | sysReset (r : Ref)
  | tenConfig (r : Ref)
  | sysHostlossSet (r : Ref)
  | posStatus (r : Ref)
  | posScaleSet (r : Ref)
  | posEncConfig (r : Ref)
  | posWindowSet (r : Ref)
  | posPreset (r : Ref)
  | posSsiConfig (r : Ref)
  | ledgStatus (r : Ref)
  | ledgConfig (r : Ref)
  | ledgRelease (r : Ref)
  | ledgList (r : Ref)
  | masterEdge (k : HeldEdge) (t : Nat)
  | auxEncoderEdge (port : Nat) (k : HeldEdge) (t : Nat)
  | zEdgeCapture (z : ZEdge) (t : Nat)
  | speedUpdate (t : Nat)
  | stationaryTimeout
  | windowBoundary (ssiWord : Word)
  | triggerFire (tg : Nat)
  | triggerMessageSend (lane : Nat)
  | camramBlockReceived (lane : Nat) (syncErrors : Nat) (line : List Bool)
  | camramPacketReceived (lane : Nat)
  | cxpPacketReceived (lane : Nat) (p : CxpArrival)
  | cxpAlignmentLoss (lane : Nat)
  | detectProbe (lane : Nat) (terminated : Bool)
  | trainResend (lane : Nat)
  | bitLock (lane : Nat)
  | prbsTrainVerified (lane : Nat)
  | blockLock (lane : Nat)
  | capExchange (lane : Nat) (payload : Bytes)
  | bringupTimeout (x : LaneLimit)
  | capFaultRetry (lane : Nat)
  | cxpDetectAligned (lane : Nat) (deviceRates : Byte) (connections : Nat)
  | cxpDiscoverAck (lane : Nat)
  | cxpResyncDone (lane : Nat)
  | cxpBringupTimeout (x : LaneLimit)
  | controlReply (lane : Nat) (tag : Byte) (data : Bytes)
  | controlXactTimeout (lane : Nat)
  | prbsCheckerLock (x : TestBits)
  | prbsLockLoss (lane : Nat) (line partner : List Bool)
  | eyescanDone (lane : Nat) (counts : List Nat)
  | eqAdaptation (lane : Nat) (ctle vga dfe1 : Int) (t : Nat)
  | laneStatus (r : Ref)
  | laneConfig (r : Ref)
  | laneEnable (r : Ref)
  | laneTriggerConfig (r : Ref)
  | laneCtrlXact (r : Ref)
  | lanePrbs (r : Ref) (line partner : List Bool)
  | laneInject (r : Ref)
  | laneLoopback (r : Ref)
  | laneEyescan (r : Ref)
  | laneEqBounds (r : Ref)
  | laneUnretire (r : Ref)
  | slotTimeout (channel : Nat) (k : Int)
  | scanLineConceal (channel : Nat) (k : UpsetLine)
  | scanLineProcess (view : Nat) (k : Int)
  | tilePlace (view : Nat) (row : Int) (col : Nat)
  | tapEnd (handle : Nat)
  | plnStatus (r : Ref)
  | plnChannelConfig (r : Ref)
  | plnViewConfig (r : Ref)
  | plnCalLoad (r : LoadRef)
  | plnFilterConfig (r : Ref)
  | plnLevelBounds (r : Ref)
  | plnStatConfig (r : Ref)
  | plnTapOpen (r : Ref) (pick : Nat)
  | plnTapClose (r : Ref)
  | calDark (poisonedAt : Option Long)
  | calFlat (poisonedAt : Option Long)
  | calDefect (poisonedAt : Option Long)
  | tileDispatch (bench : Nat) (t : Nat)
  | tileComplete (bench stake : Nat) (gen : Word) (t : Nat)
  | certOverrun (bench stake : Nat)
  | benchPrivateFault (bench stake cause : Nat) (t : Nat)
  | benchResetDone (bench : Nat) (imageOk : Bool)
  | chipWideFault (cause : Nat) (t : Nat)
  | fabChipLoss
  | nocLinkError (failures : Nat) (t : Nat)
  | benchLoadDone (bench : Nat)
  | fabApplied (bench : Nat)
  | fabStatus (r : Ref)
  | benchBuild (r : LoadRef) (pick : Nat)
  | benchRebuild (r : LoadRef)
  | benchRelease (r : Ref)
  | benchReset (r : Ref)
  | benchReadmit (r : Ref) (pick : Nat)
  | fabList (r : LoadRef)
  | stakeUnretire (r : Ref)
  | listStart (engine : Nat)
  | nop (engine : Nat)
  | waitEvent (engine tenant : Nat)
  | signalEvent (engine : Nat)
  | writeStamp (engine : Nat) (x : WriteEnd)
  | loadParams (poisonedAt : Option Long)
  | selectParams
  | runTiles (x : TileErrors)
  | copy (x : WriteEnd) (poisonedAt : Option Long)
  | fill (x : WriteEnd)
  | check (x : WriteEnd) (poisonedAt : Option Long)
  | memoryGrant (ingot : Bool) (bank : Nat) (arrivals : List MemArrival) (singleBit : Bool) (t : Nat)
  | requestAging (id : Nat)
  | ingotReread (addr : Long) (consumer : Nat) (outcome : RetryOutcome) (t : Nat)
  | channelTimeout (addr : Long) (consumer : Nat) (write : Bool) (outcome : RetryOutcome) (t : Nat)
  | patrolScrub (addr : Long) (singleBit : Bool)
  | drawStatus (r : Ref)
  | drawAlloc (r : Ref) (pick : Nat) (extent : Nat)
  | drawFree (r : Ref)
  | drawList (r : LoadRef)
  | drawStreamOpen (r : Ref) (pick : Nat)
  | drawStreamClose (r : Ref)
  | drawRangeSet (r : Ref)
  | drawPortMode (r : Ref)
  | drawChanUnretire (r : Ref)
  | asyStatus (r : Ref)
  | asyLibDefine (r : Ref)
  | asyList (r : LoadRef)
  | sort (x : AsyErrors)
  | merge (x : AsyErrors)
  | topk (x : AsyErrors)
  | nms (x : AsyErrors)
  | nnSearch (x : AsyErrors) (libError : Option Nat)
  | libLoad (x : LoadErrors)
  | assayRtComplete (ecc : AsyEcc) (libError : Option Nat)
  | tileResultIngest (poisoned : Bool)
  | verdictIssue (recipe : Nat) (part : Int)
  | verdictDeadline (recipe : Nat) (part : Int)
  | plateMaxLenClose (recipe : Nat)
  | actuationSwitchOn (handle : Nat) (goodCopies : Nat) (t : Nat)
  | pulseSwitchOff (channel : Nat) (t : Nat)
  | pulseCapExpiry (channel : Nat)
  | interlockSkip (handle : Nat)
  | hmStatus (r : Ref)
  | hmRingSet (r : Ref)
  | hmActSchedule (r : Ref) (pick : Nat)
  | hmActCancel (r : Ref)
  | hmPlateEdge (r : Ref)
  | hmList (r : LoadRef)
  | actEnqueue (pick : Nat)
  | inputEdgeAccept (channel : Nat) (t : Nat)
  | dioBreak (channel : Nat) (t : Nat)
  | dioOpenload (channel : Nat)
  | openloadClear (channel : Nat)
  | dioShort (channel : Nat) (overload : Bool) (t : Nat)
  | feedTrip (feed : Nat) (peakMa : Nat) (higher : Nat) (t : Nat)
  | feedReclose (feed : Nat)
  | couplerFrameError (channel : Nat) (retryOk : Bool) (t : Nat)
  | linkWatchdog (channel : Nat)
  | linkCauseClear (channel : Nat)
  | fieldSupply (supply : Nat) (mv : Nat) (t : Nat)
  | supplyCauseClear (channel : Nat)
  | dioStatus (r : Ref)
  | dioConfig (r : Ref)
  | dioUnretire (r : Ref)
  | dioSafeAssert (r : Ref)
  | dioSafeRelease (r : Ref)
  | rcpStatus (r : Ref)
  | recipeLoad (r : LoadRef) (pick : Nat)
  | recipeActivate (r : Ref)
  | recipeRelease (r : Ref)
  | recipeSwitch (recipe : Nat)
  | checkpoint (recipe : Nat)
  | tokDictLoad (r : LoadRef)
  | tokSelectSet (r : Ref)
  | telegram (r : Ref)
  | tmpCacheConfig (r : Ref) (pick : Nat)
  | tmpLabel (r : Ref)
  | tmpEpoch (r : Ref) (pick : Nat)
  | epoch (pick : Nat)
  | minibatchStart
  | minibatchCommit
  | tmpEpochDone (params : Bytes) (pick : Nat)
  | tmpShadow (r : Ref) (pick : Nat)
  | tmpPromote (r : Ref)
  | tmpRollback (r : Ref)
  | tmpList (r : LoadRef)
  | fltLogRead (r : Ref)
  | fltStatus (r : Ref)
  | fltConfig (r : Ref)
  | fltInject (r : Ref)
  | faultInjectionFire (index : Nat)
  | ctrlFault (lockstep journalOk : Bool) (t : Nat)
  | fltCtrlRestart (journalOk : Bool)
  | mgmtRestart (t : Nat)
  | pwrStatus (r : Ref)
  | thermStatus (r : Ref)
  | pwrDomain (r : Ref)
  | pwrSagSet (r : Ref)
  | pwrAvsBounds (r : Ref)
  | supplyLost (input : Nat) (mv : Nat)
  | inputOvervoltage (input : Nat) (mv : Nat)
  | sagWarn (mv : Nat) (t : Nat)
  | sagClear (mv : Nat) (t : Nat)
  | sagReset (mv : Nat) (t : Nat)
  | sagPowerUp (mv : Nat) (t : Nat)
  | railWarn (rail : Nat) (mv : Nat) (t : Nat)
  | railClear (rail : Nat) (mv : Nat) (t : Nat)
  | railReset (rail : Nat) (mv : Nat) (t : Nat)
  | pllLoss (pll : Nat) (t : Nat)
  | thermWarn (temps : List Int) (t : Nat)
  | thermClear (temps : List Int) (t : Nat)
  | thermThrottle (quadrant : Nat) (up : Bool) (temp : Int) (t : Nat)
  | thermalShutdown (temps : List Int) (t : Nat)
  | thermalCutoff (temps : List Int) (t : Nat)
  | fanFail (fan : Nat) (rpm : Nat)
  | avsAdaptation (quadrant : Nat) (proposed : Int) (critical : Bool) (t : Nat)
  | powerOn (mv : Nat) (t : Nat)
  | bootStepComplete (report : StepReport) (t : Nat)
  | keeperOverrun
  | recordWriteStart (t : Nat)
  | recordPageDone (verifyOk : Bool) (t : Nat)
  | recRead (r : Ref)
  | bootStatus (r : Ref)
  | recConfig (r : Ref)
  | bootSlotWrite (r : LoadRef)
  | bootSlotSelect (r : Ref)
  | bootSlotConfirm (r : Ref)
  | bootKeysLoad (r : LoadRef)
  | rtcSet (r : Ref)
  | ptbInterpolation (t : Nat)
  | keeperSample (a b : Bool)
  | dioInputSample (channel : Nat) (mv : Int) (ua : Nat) (t : Nat)
  | couplerStatusFrame (channel : Nat) (crcOk : Bool) (meas : Nat) (t : Nat)
  | supplyRestored (input : Nat) (mv : Nat)
  | mgmtSupplyLoss (inputs : List Nat)
  | mgmtSupplyReturn (input : Nat) (mv : Nat)
  | mgmtRestartDone (t : Nat)
  | keeperPowerLoss
  | keeperLow (low : Bool)
  | sectorEraseDone (sector : Nat) (ok : Bool)
  | sidebandLink (up : Bool)
deriving DecidableEq, Repr

end Sys2Proof
end

