-- ==== Sys2Proof/Config.lean ====
section
/-! DEFINITION. What an implementation fixes and the spec leaves open: free values without a body. Nothing in Lean can
evaluate them, so a statement about them holds whatever they are. First the operations that the microcode of a
configuration image is made of, since which of them it names is such a value. -/

namespace Sys2Proof

/-! ## Microcode (06 "Stakes, groups and quadrants", Tables 6.1 and 6.2) -/

/-- The operand formats of 06 Table 6.2, and the INT32 of an integer accumulator. -/
inductive Fmt where
  | u8 | u12 | int4 | int8 | e4m3 | bf16 | fp32 | int32
deriving DecidableEq, Repr

/-- What a tile's run reads and writes: the tile, the parameter slot, working FOIL, the result record, the accumulators. -/
inductive Area where
  | tile | params | work | out | acc
deriving DecidableEq, Repr

/-- Element `index` of an area, in a format. -/
structure Loc where
  area : Area
  fmt : Fmt
  index : Nat
deriving DecidableEq, Repr

/-- Operations of the vector unit (06 Table 6.1, R303). -/
inductive VecOp where
  | add | mul | fma | max | min
deriving DecidableEq, Repr

/-- One operation of the microcode: clear an accumulator, one MAC into it, one element of a vector operation, one conversion. -/
inductive MicroOp where
  | clear (acc : Nat)
  | mac (acc : Nat) (a b : Loc)
  | vec (op : VecOp) (dst a b c : Loc)
  | convert (dst src : Loc)
deriving DecidableEq, Repr

/-- The operations that the microcode of a configuration image carries out for one tile, in the order it fixes; the spec gives no
layout of the image (06 R298, R300). Log entry 27. -/
opaque Config.microcode : (image : Bytes) → List MicroOp

/-- Cycles that an image takes to write the last result word of a tile; they do not depend on the weights (06 "Stakes, groups and
quadrants"). Log entry 27. -/
opaque Config.tileCycles : (image input : Bytes) → Nat

/-! ## Free values -/

/-- Which way an inexact quotient is rounded where the spec gives a formula and no rounding (01 R67, 05 R263 to R277).
`site` names the place, `num / den` is the exact value. Log entry 8. -/
opaque Config.roundUp : (site : Nat) → (num : Int) → (den : Nat) → Bool

/-- The place ASSAY gives the entry with input index `i` among entries with equal keys in fast mode (08 R403: unspecified,
but the same input, operation and firmware give the same order). Log entry 9. -/
opaque Config.fastRank : (op : Nat) → (input : List (Word × Word)) → (i : Nat) → Nat

/-- Position units per metre while the encoder scale register holds 0, for which 00 R10 states no conversion.
Log entry 10. -/
opaque Config.puPerMetreAtZero : Nat

/-- CLASS of a fault-log entry of kind NOTICE (12 R599, Table 12.6 names no class for a notice). Log entry 12. -/
opaque Config.noticeClass : (code : Nat) → Nat

/-- Low byte of DETECT for a fault that Table 12.6 gives no code: the 2 us DRAM timeout, an encoder or host-link
fault (12 Table 12.6). Log entry 12. -/
opaque Config.detectCode : (cls : Nat) → Nat

/-- Receiver delay of an encoder port in ns, in RS-422 and in HTL mode; the spec gives only its bound (01 R34, Table 1.2).
Log entry 12. -/
opaque Config.receiverDelay : (htl : Bool) → Nat

/-- Which CAUSE a record carries that merges two requests (14 R676): true keeps the earlier. Log entry 12. -/
opaque Config.mergeKeeps : (earlier later : Nat) → Bool

/-- Phase of the uplink's character boundaries of a lane, in PTB_CLK cycles (04 R194). Log entry 12. -/
opaque Config.uplinkPhase : (lane : Nat) → Nat

/-- TAG of a Camram control request, by the order in which its packet was fetched (04 Table 4.5). Log entry 12. -/
opaque Config.ctrlTag : (order : Nat) → Byte

/-- State that a pattern generator starts from (04 R222 gives no seed). Log entry 121. -/
opaque Config.prbsSeed : (pattern : Nat) → BitVec 31

/-- Which bit of a pixel packet an injected error inverts (04 R226 names none). Log entry 121. -/
opaque Config.injectedBit : (lane : Nat) → (count : Nat) → Nat

/-- Raw value that a T0 record shows for a pixel not received (05 Table 5.7). Log entry 12. -/
opaque Config.absentRaw : (k : Int) → (pixel : Nat) → Nat

/-- Mref / M in 1/16384 for a column whose profile M is 0 (05 R276, stage 7). Log entry 12. -/
opaque Config.profileRatio : (sum : Nat) → (count : Nat) → Nat

/-- The gain the auto-level rule gives while LEVEL_TARGET is 0, before clamping (05 R277). Log entry 12. -/
opaque Config.levelAtZero : (g : Nat) → (sum : Nat) → (count : Nat) → Nat

/-- MEAN and VAR of a statistics bin without a valid pixel (05 R289). Log entry 12. -/
opaque Config.emptyBin : (field : Nat) → (bin : Nat) → Nat

/-- Size of a parameter slot that a configuration image declares; the spec gives no layout of the image (06 R335). Log
entry 12. -/
opaque Config.slotSize : (image : Bytes) → Nat

/-- The two of a list of live DRAM channels, as indexes, in which the run-time puts the two copies of an item: 0 an image, 1 and
2 a parameter slot, 3 a candidate (06 R336, 07 R392, 11 R559: the channels differ, and no rule names them). Log entry 124. -/
opaque Config.copyChannels : (bench item : Nat) → (live : List Nat) → Nat × Nat

/-- The reload of a bench's image or parameter sets at the end of a chip-wide recovery, in a cycle, finds both copies failed; that
lies with the memory outside the spec's state (12 R597). Log entry 124. -/
opaque Config.copiesFail : (bench now : Nat) → Bool

/-- Stake that FAB_BENCH_RESET names after a BENCH_RESET opcode, where none is at fault (06 R340, Table 6.16). Log entry
12. -/
opaque Config.resetStake : (bench : Nat) → Nat

/-- Which live stake of a bench a fault is attributed to that no stake is named for: a SHEET line of its share, poisoned data
that RUN_TILES reads (06 R346). Log entry 12. -/
opaque Config.blamedStake : (bench : Nat) → Nat

/-- INGOT word of a channel that an injected error hits (12 Table 12.7). Log entry 12. -/
opaque Config.injectedWord : (channel : Nat) → Nat

/-- Port that reads the word with an injected error (12 Table 12.7). Log entry 12. -/
opaque Config.injectedReader : (channel : Nat) → Nat

/-- Cause that FAB_BENCH_RESET names after a BENCH_RESET opcode (06 R340, Table 6.16). Log entry 12. -/
opaque Config.resetCause : (bench : Nat) → Nat

/-- Time a list command takes to run, in PTB_CLK cycles (12 R577, Table 12.3). Log entry 12. -/
opaque Config.commandRun : (engine cmd : Nat) → (body : Bytes) → Nat

/-- What a byte of a SHARED SHEET line holds after a chip-wide recovery has reinitialised it (06 R343). Log entry 12. -/
opaque Config.reinitByte : (addr : Nat) → Byte

/-- A byte that a COPY whose source and destination overlap leaves at an address where a copy of the old source would leave
`straight` (07 R363 gives no order). Log entry 12. -/
opaque Config.overlapByte : (addr : Nat) → (straight : Byte) → Byte

/-- Byte `i` of an embedding that a tile result does not carry (09 R442, Table 9.4). Log entry 12. -/
opaque Config.absentEmbed : (i : Nat) → Byte

/-- A nearest entry found by DOT lies within DIST_MAX (09 "From tile outcomes to a verdict" gives the test for a distance).
Log entry 12. -/
opaque Config.dotWithin : (key : Word) → (distMax : Nat) → Bool

/-- WORST of a part without a SCORE that is a number (09 Table 9.6). Log entry 12. -/
opaque Config.emptyWorst : Word

/-- DEF_VIEW, DEF_COL and DEF_SPOS (field 0, 1, 2) of a part without a candidate (09 Table 9.6). Log entry 12. -/
opaque Config.noDefect : (field : Nat) → (part : Int) → Nat

/-- SPOS_END of a part whose end is not yet known when a HOLD is issued for it (09 Table 9.6, R451). Log entry 12. -/
opaque Config.openEnd : (part : Int) → Word

/-- SCORE that the TEMPER bench gives the embeddings of a tile with a candidate head; the microcode is not in the spec (11
R561). Log entry 12. -/
opaque Config.shadowScore : (params : Bytes) → (embeds : List Bytes) → Word

/-- The TEMPER bench cannot take a shadowed tile without waiting (11 R561). Log entry 12. -/
opaque Config.shadowSkips : (now : Nat) → (row : Int) → (col : Nat) → Bool

/-- ENC_CFG and ENC_FILT of one port in the record's 4 bytes; the spec gives no layout of them (14 Table 14.6). Log entry 12. -/
opaque Config.encRecord : (htl inv term : Bool) → (filtN : Nat) → Nat

/-- Clock, word length and coding of the SSI port in the record's 4 bytes; the spec gives no layout of them (14 Table 14.6).
Log entry 12. -/
opaque Config.ssiRecord : (clk bits : Nat) → (gray : Bool) → Nat

/-- The bundle signature is made over the SHA-256 of the bundle's bytes, or over the bytes themselves (14 R661). Log entry 12. -/
opaque Config.bundleHashed : Bool

/-- Which of its columns an indicator shows in INDICATORS while the condition of none of them holds (00 Table 0.4). Log entries
12 and 117. -/
opaque Config.indicatorNone : (indicator : Nat) → Nat

/-- How long the SIDEBAND indicator flashes after a packet, in PTB_CLK cycles (00 Table 0.4 gives no time). Log entry 117. -/
opaque Config.flashTime : Nat

/-- Budget ID and instance that LEDGER_REVOKE names for the benches that fall with a released recipe, which no budget forces out
(02 R115, Table 2.3). Log entry 119. -/
opaque Config.releaseNamed : (bench : Nat) → Nat × Nat

/-- METHOD in the record of a run of damaged scan lines of a replace-mode channel, whose pixels are neither interpolated, held
nor set to the target (05 R262, Table 5.6). Log entry 58. -/
opaque Config.replacedMethod : (channel : Nat) → Nat

/-- An INGOT burst holds the buffered pixel `p` of scan line `k` of a channel; the spec does not place the pipeline's buffers (05
R257, 07 R387). Log entry 122. -/
opaque Config.burstHolds : (addr : Nat) → (channel : Nat) → (k : Int) → (p : Nat) → Bool

/-- Class of a request of the control processors while DRAW_PORT_MODE has their port in LABEL mode, for which 07 Table 7.6 names no
label source. Log entry 12. -/
opaque Config.controlLabel : Nat

/-- A forward edge of ENC0 is one where A leads B; the spec does not say which order is forward (01 R26, R28). Log entry 12. -/
opaque Config.aLeads : Bool

end Sys2Proof
end

