-- ==== Sys2Proof/Machine/Bits.lean ====
section
/-! DEFINITION. Byte order, bit fields, tables held as lists, saturating counters and the rounding of inexact quotients:
the helpers every chapter uses. -/

namespace Sys2Proof.Machine

/-! ## Tables held as lists -/

/-- Entry `i` of a table, or `d` beyond its end. -/
def getI {α : Type} (l : List α) (i : Nat) (d : α) : α := l.getD i d

/-- The table with entry `i` changed by `f`; unchanged beyond its end. -/
def upd {α : Type} (l : List α) (i : Nat) (f : α → α) : List α := l.modify i f

/-- The list without its element at index `i`. -/
def dropAt {α : Type} (l : List α) (i : Nat) : List α := l.eraseIdx i

/-! ## Bytes: every multi-byte field is little-endian (00 R2) -/

/-- The `n` low bytes of `v`, least significant first. -/
def leBytes (n v : Nat) : Bytes :=
  match n with
  | 0 => []
  | n + 1 => BitVec.ofNat 8 v :: leBytes n (v / 256)

def le1 (v : Nat) : Bytes := leBytes 1 v
def le2 (v : Nat) : Bytes := leBytes 2 v
def le4 (v : Nat) : Bytes := leBytes 4 v
def le8 (v : Nat) : Bytes := leBytes 8 v

/-- A signed value in `n` bytes, two's complement. -/
def leInt (n : Nat) (v : Int) : Bytes := leBytes n (v % (256 ^ n : Int)).toNat

/-- The unsigned value of a little-endian byte string. -/
def leVal (b : Bytes) : Nat :=
  match b with
  | [] => 0
  | x :: r => x.toNat + 256 * leVal r

/-- Field of `n` bytes at `off` (00 R2); bytes beyond the end read 0. -/
def fld (b : Bytes) (off n : Nat) : Nat := leVal ((b.drop off).take n)

/-- Field of `n` bytes at `off`, signed. -/
def sfld (b : Bytes) (off n : Nat) : Int :=
  let v := fld b off n
  if 2 * v < 256 ^ n then (v : Int) else (v : Int) - (256 ^ n : Int)

/-- `b` cut or zero-padded to `n` bytes. -/
def padTo (n : Nat) (b : Bytes) : Bytes := (b ++ List.replicate (n - b.length) 0).take n

/-- `n` rounded up to a multiple of 4. -/
def up4 (n : Nat) : Nat := (n + 3) / 4 * 4

def allZero (b : Bytes) : Bool := b.all (· == 0)

/-- Bits `[hi:lo]` of `v` (00 R3). -/
def bits (v hi lo : Nat) : Nat := v / 2 ^ lo % 2 ^ (hi + 1 - lo)

def bit (v i : Nat) : Bool := v / 2 ^ i % 2 == 1

def b2n (b : Bool) : Nat := if b then 1 else 0

/-! ## Counters (01 R74) -/

/-- One more, holding at 0xFFFF_FFFF. -/
def satInc (w : Word) : Word := if w = 0xFFFFFFFF then w else w + 1

/-- `n` more, holding at 0xFFFF_FFFF. -/
def satAdd (w : Word) (n : Nat) : Word :=
  if w.toNat + n < 2 ^ 32 then BitVec.ofNat 32 (w.toNat + n) else 0xFFFFFFFF

/-- Counter `i` of a table, one more, wrapping. -/
def bumpAt (l : List Word) (i : Nat) : List Word := upd l i (· + 1)

/-- Counter `i` of a table, one more, saturating. -/
def bumpSat (l : List Word) (i : Nat) : List Word := upd l i satInc

/-! ## Rounding -/

/-- The next whole number not below `a / b`. -/
def ceilDiv (a b : Nat) : Nat := (a + b - 1) / b

/-- A quotient the spec gives without a rounding: exact where it divides, else one of its two neighbours, chosen by
the implementation (log entry 8). -/
def rnd (site : Nat) (num : Int) (den : Nat) : Int :=
  if num % (den : Int) = 0 then num / (den : Int)
  else if Config.roundUp site num den then num / (den : Int) + 1 else num / (den : Int)

/-- The nearest whole number; a tie goes where the implementation takes it (log entry 8). -/
def rndNear (site num den : Nat) : Nat :=
  let r := num % den
  if 2 * r < den then num / den
  else if den < 2 * r then num / den + 1
  else if Config.roundUp site num den then num / den + 1 else num / den

/-- The nearest whole number, a tie to the even one. -/
def rndEven (num den : Nat) : Nat :=
  let q := num / den
  let r := num % den
  if den < 2 * r ∨ (2 * r = den ∧ q % 2 = 1) then q + 1 else q

/-- `v` held within `[lo, hi]`. -/
def clampN (lo hi v : Nat) : Nat := max lo (min hi v)

def clampI (lo hi v : Int) : Int := max lo (min hi v)

/-! ## Times in PTB_CLK cycles of 2.5 ns (01, "Counting and interpolation") -/

def usTicks (n : Nat) : Nat := n * 400
def msTicks (n : Nat) : Nat := n * 400000
def sTicks (n : Nat) : Nat := n * 400000000

end Sys2Proof.Machine
end

