-- ==== Sys2Proof/Machine/Crypto.lean ====
section
/-! DEFINITION. SHA-256, SHA-512 and Ed25519 signature verification, which 02 R93, 14 R657 and 14 R661 name. The
algorithms are the published ones, FIPS 180-4 and RFC 8032 (PRESUMED, log entry 14); words are Nats below 2^32 or 2^64. -/

namespace Sys2Proof.Machine

/-! ## SHA-2 -/

def rotr (w x n : Nat) : Nat := Nat.lor (x >>> n) ((x <<< (w - n)) % 2 ^ w)

def sha256KPart0 : List Nat :=
  [ 0x428A2F98, 0x71374491, 0xB5C0FBCF, 0xE9B5DBA5, 0x3956C25B, 0x59F111F1, 0x923F82A4, 0xAB1C5ED5,
    0xD807AA98, 0x12835B01, 0x243185BE, 0x550C7DC3, 0x72BE5D74, 0x80DEB1FE, 0x9BDC06A7, 0xC19BF174 ]

def sha256KPart1 : List Nat :=
  [ 0xE49B69C1, 0xEFBE4786, 0xFC19DC6, 0x240CA1CC, 0x2DE92C6F, 0x4A7484AA, 0x5CB0A9DC, 0x76F988DA,
    0x983E5152, 0xA831C66D, 0xB00327C8, 0xBF597FC7, 0xC6E00BF3, 0xD5A79147, 0x6CA6351, 0x14292967 ]

def sha256KPart2 : List Nat :=
  [ 0x27B70A85, 0x2E1B2138, 0x4D2C6DFC, 0x53380D13, 0x650A7354, 0x766A0ABB, 0x81C2C92E, 0x92722C85,
    0xA2BFE8A1, 0xA81A664B, 0xC24B8B70, 0xC76C51A3, 0xD192E819, 0xD6990624, 0xF40E3585, 0x106AA070 ]

def sha256KPart3 : List Nat :=
  [ 0x19A4C116, 0x1E376C08, 0x2748774C, 0x34B0BCB5, 0x391C0CB3, 0x4ED8AA4A, 0x5B9CCA4F, 0x682E6FF3,
    0x748F82EE, 0x78A5636F, 0x84C87814, 0x8CC70208, 0x90BEFFFA, 0xA4506CEB, 0xBEF9A3F7, 0xC67178F2 ]

/-- FIPS 180-4, 4.2.2. -/
def sha256K : List Nat := sha256KPart0 ++ sha256KPart1 ++ sha256KPart2 ++ sha256KPart3

def sha512KPart0 : List Nat :=
  [ 0x428A2F98D728AE22, 0x7137449123EF65CD, 0xB5C0FBCFEC4D3B2F, 0xE9B5DBA58189DBBC,
    0x3956C25BF348B538, 0x59F111F1B605D019, 0x923F82A4AF194F9B, 0xAB1C5ED5DA6D8118,
    0xD807AA98A3030242, 0x12835B0145706FBE, 0x243185BE4EE4B28C, 0x550C7DC3D5FFB4E2,
    0x72BE5D74F27B896F, 0x80DEB1FE3B1696B1, 0x9BDC06A725C71235, 0xC19BF174CF692694 ]

def sha512KPart1 : List Nat :=
  [ 0xE49B69C19EF14AD2, 0xEFBE4786384F25E3, 0xFC19DC68B8CD5B5, 0x240CA1CC77AC9C65,
    0x2DE92C6F592B0275, 0x4A7484AA6EA6E483, 0x5CB0A9DCBD41FBD4, 0x76F988DA831153B5,
    0x983E5152EE66DFAB, 0xA831C66D2DB43210, 0xB00327C898FB213F, 0xBF597FC7BEEF0EE4,
    0xC6E00BF33DA88FC2, 0xD5A79147930AA725, 0x6CA6351E003826F, 0x142929670A0E6E70 ]

def sha512KPart2 : List Nat :=
  [ 0x27B70A8546D22FFC, 0x2E1B21385C26C926, 0x4D2C6DFC5AC42AED, 0x53380D139D95B3DF,
    0x650A73548BAF63DE, 0x766A0ABB3C77B2A8, 0x81C2C92E47EDAEE6, 0x92722C851482353B,
    0xA2BFE8A14CF10364, 0xA81A664BBC423001, 0xC24B8B70D0F89791, 0xC76C51A30654BE30,
    0xD192E819D6EF5218, 0xD69906245565A910, 0xF40E35855771202A, 0x106AA07032BBD1B8 ]

def sha512KPart3 : List Nat :=
  [ 0x19A4C116B8D2D0C8, 0x1E376C085141AB53, 0x2748774CDF8EEB99, 0x34B0BCB5E19B48A8,
    0x391C0CB3C5C95A63, 0x4ED8AA4AE3418ACB, 0x5B9CCA4F7763E373, 0x682E6FF3D6B2B8A3,
    0x748F82EE5DEFB2FC, 0x78A5636F43172F60, 0x84C87814A1F0AB72, 0x8CC702081A6439EC,
    0x90BEFFFA23631E28, 0xA4506CEBDE82BDE9, 0xBEF9A3F7B2C67915, 0xC67178F2E372532B ]

def sha512KPart4 : List Nat :=
  [ 0xCA273ECEEA26619C, 0xD186B8C721C0C207, 0xEADA7DD6CDE0EB1E, 0xF57D4F7FEE6ED178,
    0x6F067AA72176FBA, 0xA637DC5A2C898A6, 0x113F9804BEF90DAE, 0x1B710B35131C471B,
    0x28DB77F523047D84, 0x32CAAB7B40C72493, 0x3C9EBE0A15C9BEBC, 0x431D67C49C100D4C,
    0x4CC5D4BECB3E42B6, 0x597F299CFC657E2A, 0x5FCB6FAB3AD6FAEC, 0x6C44198C4A475817 ]

/-- FIPS 180-4, 4.2.3. -/
def sha512K : List Nat := sha512KPart0 ++ sha512KPart1 ++ sha512KPart2 ++ sha512KPart3 ++ sha512KPart4

def sha256Init : List Nat :=
  [ 0x6A09E667, 0xBB67AE85, 0x3C6EF372, 0xA54FF53A, 0x510E527F, 0x9B05688C, 0x1F83D9AB, 0x5BE0CD19 ]

def sha512Init : List Nat :=
  [ 0x6A09E667F3BCC908, 0xBB67AE8584CAA73B, 0x3C6EF372FE94F82B, 0xA54FF53A5F1D36F1,
    0x510E527FADE682D1, 0x9B05688C2B3E6C1F, 0x1F83D9ABFB41BD6B, 0x5BE0CD19137E2179 ]

/-- Word size, rotation counts of the two large and two small sigmas. -/
structure Sha2 where
  w : Nat
  s0 : Nat × Nat × Nat
  s1 : Nat × Nat × Nat
  m0 : Nat × Nat × Nat
  m1 : Nat × Nat × Nat

def sha256P : Sha2 := ⟨32, (2, 13, 22), (6, 11, 25), (7, 18, 3), (17, 19, 10)⟩
def sha512P : Sha2 := ⟨64, (28, 34, 39), (14, 18, 41), (1, 8, 7), (19, 61, 6)⟩

def bigSigma (p : Sha2) (r : Nat × Nat × Nat) (x : Nat) : Nat :=
  Nat.xor (Nat.xor (rotr p.w x r.1) (rotr p.w x r.2.1)) (rotr p.w x r.2.2)

def smallSigma (p : Sha2) (r : Nat × Nat × Nat) (x : Nat) : Nat :=
  Nat.xor (Nat.xor (rotr p.w x r.1) (rotr p.w x r.2.1)) (x >>> r.2.2)

/-- The message schedule, newest word first, extended by `n` words. -/
def shaSchedule (p : Sha2) (n : Nat) (w : List Nat) : List Nat :=
  match n with
  | 0 => w
  | n + 1 =>
    let x := smallSigma p p.m1 (w.getD 1 0) + w.getD 6 0 + smallSigma p p.m0 (w.getD 14 0) + w.getD 15 0
    shaSchedule p n (x % 2 ^ p.w :: w)

/-- One round on the working variables a to h. -/
def shaRound (p : Sha2) (v : List Nat) (kw : Nat × Nat) : List Nat :=
  let x (i : Nat) := v.getD i 0
  let m := 2 ^ p.w
  let ch := Nat.xor (Nat.land (x 4) (x 5)) (Nat.land (m - 1 - x 4) (x 6))
  let t1 := x 7 + bigSigma p p.s1 (x 4) + ch + kw.1 + kw.2
  let maj := Nat.xor (Nat.xor (Nat.land (x 0) (x 1)) (Nat.land (x 0) (x 2))) (Nat.land (x 1) (x 2))
  let t2 := bigSigma p p.s0 (x 0) + maj
  [(t1 + t2) % m, x 0, x 1, x 2, (x 3 + t1) % m, x 4, x 5, x 6]

def shaRounds (p : Sha2) (v : List Nat) (l : List (Nat × Nat)) : List Nat :=
  match l with
  | [] => v
  | kw :: r => shaRounds p (shaRound p v kw) r

/-- One block of 16 words. -/
def shaBlock (p : Sha2) (k : List Nat) (h : List Nat) (blk : List Nat) : List Nat :=
  let w := (shaSchedule p (k.length - 16) blk.reverse).reverse
  List.zipWith (fun a b => (a + b) % 2 ^ p.w) h (shaRounds p h (k.zip w))

/-- Big-endian value of a byte string. -/
def beVal (b : Bytes) : Nat := leVal b.reverse

def beBytes (n v : Nat) : Bytes := (leBytes n v).reverse

/-- The words of a block of 16 x `n` bytes. -/
def beWords (count n : Nat) (b : Bytes) : List Nat :=
  match count with
  | 0 => []
  | count + 1 => beVal (b.take n) :: beWords count n (b.drop n)

/-- `k` blocks of the padded message. -/
def shaRun (p : Sha2) (k : List Nat) (count : Nat) (h : List Nat) (b : Bytes) : List Nat :=
  match count with
  | 0 => h
  | count + 1 => shaRun p k count (shaBlock p k h (beWords 16 (p.w / 8) b)) (b.drop (2 * p.w))

/-- The message with its padding: 0x80, zeros, and the bit length in the last `l` bytes of a block of `blk` bytes. -/
def shaPad (blk l : Nat) (b : Bytes) : Bytes :=
  let n := b.length
  b ++ [0x80] ++ List.replicate ((2 * blk - (n + 1 + l) % blk) % blk) 0 ++ beBytes l (8 * n)

def sha256 (b : Bytes) : Bytes :=
  let m := shaPad 64 8 b
  (shaRun sha256P sha256K (m.length / 64) sha256Init m).flatMap (beBytes 4)

def sha512 (b : Bytes) : Bytes :=
  let m := shaPad 128 16 b
  (shaRun sha512P sha512K (m.length / 128) sha512Init m).flatMap (beBytes 8)

/-! ## Ed25519 (RFC 8032) -/

def edP : Nat := 2 ^ 255 - 19

/-- The order of the base point. -/
def edL : Nat := 2 ^ 252 + 27742317777372353535851937790883648493

def fMul (a b : Nat) : Nat := a * b % edP
def fAdd (a b : Nat) : Nat := (a + b) % edP
def fSub (a b : Nat) : Nat := (a + edP - b) % edP

/-- `b ^ e` in the field, the low `n` bits of `e`. -/
def fPow (n b e acc : Nat) : Nat :=
  match n with
  | 0 => acc
  | n + 1 => fPow n (fMul b b) (e / 2) (if e % 2 = 1 then fMul acc b else acc)

def fInv (a : Nat) : Nat := fPow 255 a (edP - 2) 1

def edD : Nat := fMul (edP - 121665) (fInv 121666)

/-- A point in extended coordinates. -/
structure EdPoint where
  x : Nat
  y : Nat
  z : Nat
  t : Nat
deriving DecidableEq, Repr

def edZero : EdPoint := ⟨0, 1, 1, 0⟩

/-- Sum of two points; `d` is twice the curve constant. -/
def edAdd (d : Nat) (p q : EdPoint) : EdPoint :=
  let a := fMul (fSub p.y p.x) (fSub q.y q.x)
  let b := fMul (fAdd p.y p.x) (fAdd q.y q.x)
  let c := fMul (fMul p.t q.t) d
  let e := fMul (2 * p.z) q.z
  let f := fSub b a
  let g := fSub e c
  let h := fAdd e c
  let i := fAdd b a
  ⟨fMul f g, fMul h i, fMul g h, fMul f i⟩

/-- The low `n` bits of `k` times the point. -/
def edMul (d n k : Nat) (p acc : EdPoint) : EdPoint :=
  match n with
  | 0 => acc
  | n + 1 => edMul d n (k / 2) (edAdd d p p) (if k % 2 = 1 then edAdd d acc p else acc)

/-- The x coordinate of a point from y and its sign (RFC 8032, 5.1.3). -/
def edRecover (d y sign : Nat) : Option Nat :=
  let u := fSub (fMul y y) 1
  let v := fAdd (fMul d (fMul y y)) 1
  let v3 := fMul v (fMul v v)
  let x := fMul (fMul u v3) (fPow 255 (fMul u (fMul v (fMul v3 v3))) ((edP - 5) / 8) 1)
  let vx2 := fMul v (fMul x x)
  let r := if vx2 = u then some x
    else if vx2 = fSub 0 u then some (fMul x (fPow 255 2 ((edP - 1) / 4) 1)) else none
  match r with
  | none => none
  | some x => if x = 0 ∧ sign = 1 then none else if x % 2 = sign then some x else some (edP - x)

def edDecode (d : Nat) (b : Bytes) : Option EdPoint :=
  let v := leVal b
  let y := v % 2 ^ 255
  if edP ≤ y then none
  else (edRecover d y (v / 2 ^ 255)).map fun x => ⟨x, y, 1, fMul x y⟩

def edEncode (p : EdPoint) : Bytes :=
  let zi := fInv p.z
  leBytes 32 (fMul p.y zi + 2 ^ 255 * (fMul p.x zi % 2))

def edBaseY : Nat := fMul 4 (fInv 5)

def edNeg (p : EdPoint) : EdPoint := ⟨fSub 0 p.x, p.y, p.z, fSub 0 p.t⟩

/-- A signature (R, S) of `msg` under `key` verifies: S is below the order, and [S]B - [k]A encodes to R. -/
def edVerify (key msg sig : Bytes) : Bool :=
  let d := edD
  let s := leVal ((sig.drop 32).take 32)
  let r := sig.take 32
  match edDecode d key, edDecode d (leBytes 32 edBaseY) with
  | some a, some b =>
    let k := leVal (sha512 (r ++ key ++ msg)) % edL
    decide (sig.length = 64) && decide (s < edL) &&
      edEncode (edAdd (2 * d % edP) (edMul (2 * d % edP) 256 s b edZero) (edMul (2 * d % edP) 256 k (edNeg a) edZero)) == r
  | _, _ => false

end Sys2Proof.Machine
end

