-- ==== Sys2Proof/Machine/Float.lean ====
section
/-! DEFINITION. Comparing FP32 values held as bits (06 Table 6.2, R302, R303). -/

namespace Sys2Proof.Machine

def f32NaN (w : Word) : Bool := decide (0x7F800000 < w.toNat % 2 ^ 31)

def f32Finite (w : Word) : Bool := decide (w.toNat % 2 ^ 31 < 0x7F800000)

/-- A number that orders as the value does; +0 and -0 map alike (06 R303). -/
def f32Key (w : Word) : Int := if w.toNat < 2 ^ 31 then (w.toNat : Int) else -((w.toNat - 2 ^ 31 : Nat) : Int)

/-- `a < b`; false with a NaN. -/
def f32Lt (a b : Word) : Bool := !f32NaN a && !f32NaN b && decide (f32Key a < f32Key b)

/-- `a ≥ b`; false with a NaN. -/
def f32Ge (a b : Word) : Bool := !f32NaN a && !f32NaN b && decide (f32Key b ≤ f32Key a)

end Sys2Proof.Machine
end

