-- ==== Sys2Proof/Machine/Crc.lean ====
section
/-! DEFINITION. CRC-32C (03 R127): polynomial 0x1EDC_6F41 reflected, initial value and final XOR 0xFFFF_FFFF. -/

namespace Sys2Proof.Machine

/-- The polynomial 0x1EDC_6F41 in reflected form. -/
def crcPoly : Word := 0x82F63B78

/-- `n` bit steps of the reflected register. -/
def crcBits (n : Nat) (c : Word) : Word :=
  match n with
  | 0 => c
  | n + 1 => crcBits n (if c.getLsbD 0 then (c >>> 1) ^^^ crcPoly else c >>> 1)

/-- The register after the bytes of `b`. -/
def crcRun (c : Word) (b : Bytes) : Word :=
  match b with
  | [] => c
  | x :: r => crcRun (crcBits 8 (c ^^^ x.setWidth 32)) r

/-- CRC-32C of a byte string (03 R127). -/
def crc32c (b : Bytes) : Word := crcRun 0xFFFFFFFF b ^^^ 0xFFFFFFFF

/-- A byte string followed by its CRC-32C, little-endian. -/
def withCrc (b : Bytes) : Bytes := b ++ le4 (crc32c b).toNat

/-- The last 4 bytes are the CRC-32C of those before them. -/
def crcOk (b : Bytes) : Bool := fld b (b.length - 4) 4 == (crc32c (b.take (b.length - 4))).toNat

end Sys2Proof.Machine
end

