-- ==== Sys2Proof/Machine/State.lean ====
section
/-! DEFINITION. The state of the Votore V24 as plain data: every register, FIFO, buffer, counter, mode and pin the spec gives
the unit, grouped by chapter, and the queue of waiting commands. Each field's docstring says its width, the rule that
names it and its value at reset ("DC n" is a design choice and "PRESUMED n" a presumption, of log entry n; "MODEL n" a
field of the model's own). INVENTORY.md's list is made from these docstrings. -/

namespace Sys2Proof.Machine

/-- No command of this block stops the machine with a fault: the spec reports every error through a status, a flag, a
counter, a notice or a HOLD, and all of those are effects. The type has no constructor; nothing raises it. -/
inductive Fault where
deriving DecidableEq, Repr

/-- Why a command has no meaning. -/
inductive Refusal where
  /-- Raised by a dispatch arm of a command that has no meaning yet (safe: the machine stops where the hardware goes on). -/
  | notModelled (mnemonic : String)
deriving DecidableEq, Repr

/-- A sparse memory in canonical form: addresses strictly rising, no listed byte equal to 0, which an unlisted address
reads as (log entry 11). -/
structure Memory where
  cells : List Host.Cell
deriving DecidableEq, Repr

/-- What has left the unit at its pins and links, newest first in `State.emitted` (log entry 6). -/
inductive Emit where
  | msix (tenant vector : Nat)
  | barData (fn offset value : Nat)
  | uplink (lane : Nat) (bytes : Bytes)
  | cxpTrigger (lane : Nat) (delayNs : Nat)
  | cxpControl (lane : Nat) (bytes : Bytes)
  | probe (lane : Nat)
  | sideband (addr : Word) (port srcPort : Half) (bytes : Bytes)
  | arpReply (addr : Word)
  | echoReply (addr : Word) (bytes : Bytes)
  | grant (id : Nat)
  | patrol (addr : Nat)
  | stopKeepalive (channel : Nat)
  | testTx (lane : Nat) (bits : List Bool)
  | encoderOut (port : Nat) (signal : EncSignal)
  | fanFull (fan : Nat)
deriving DecidableEq, Repr

/-! ## Position (chapter 01) -/

/-- One encoder port's settings (01 R50, R51, R56). -/
structure EncCfg where
  /-- ENC_CFG.MODE; 1 bit; 01 R50; DC 3 (RS-422) -/
  htl : Bool
  /-- ENC_CFG.INV; 1 bit; 01 R28; DC 3 (0) -/
  inv : Bool
  /-- ENC_CFG.TERM; 1 bit; 01 R50; DC 3 (0) -/
  term : Bool
  /-- ENC_FILT.N; 8 bits; 01 R51; reset 8 (Table 1.2, RS-422) -/
  filtN : Nat
  /-- ENC_ZPER; 32 bits; 01 R56; DC 3 (0) -/
  zper : Nat
  /-- ENC_ZTOL; 32 bits; 01 R56; DC 3 (0) -/
  ztol : Nat
deriving DecidableEq, Repr

/-- An auxiliary encoder port ENC1 to ENC3 (01 R55, R73). -/
structure AuxPort where
  /-- ENCn_CNT; 64 bits; 01 R73; DC 3 (0) -/
  cnt : Long
  /-- ENCn_ZCAP; 32 bits; 01 R73; DC 3 (0) -/
  zcap : Word
  /-- last Z capture of the port; 64 bits; 01 R56; none -/
  zlast : Option Long
  /-- cycle in which a preset was last loaded, and the count it replaced; 01 R78; none -/
  loaded : Option (Nat × Long)
deriving DecidableEq, Repr

/-- The SSI port (01 R60 to R62). -/
structure SsiCfg where
  /-- SSI clock in kHz; 16 bits; 01 R60; DC 3 (100) -/
  clk : Nat
  /-- SSI word length; 8 bits; 01 R60; DC 3 (10) -/
  bits : Nat
  /-- SSI coding is Gray; 1 bit; 01 R60; DC 3 (0) -/
  gray : Bool
  /-- SSI monoflop time in us; 16 bits; 01 R60; DC 3 (20) -/
  mono : Nat
  /-- SSI_CHECK.EN; 1 bit; 01 R62; DC 3 (0) -/
  checkEn : Bool
  /-- SSI_SCALE in nm per step; 32 bits; 01 R61; DC 3 (0) -/
  scale : Nat
  /-- SSI_OFFSET in steps; 32 bits; 01 R61; DC 3 (0) -/
  offset : Nat
  /-- SSI_CHECK.TOL in pu; 32 bits; 01 R62; DC 3 (0) -/
  tol : Nat
deriving DecidableEq, Repr

/-- A setting that takes effect at a position-window boundary (01 R77, 04 R192, 05 R249). -/
inductive Reprog where
  | window (shift spdFilt spdWin : Nat)
  | preset (port : Nat) (value : Long)
  | encFilt (port n : Nat)
  | ssi (c : SsiCfg)
  | trigger (tg p f : Nat)
  | plnFilter (view h0 h1 h2 a gate pb lk pmin pmax : Nat)
  | plnLevel (view target gmin gmax : Nat)
  | cal (channel : Nat) (kind : Nat) (values : List Nat)
deriving DecidableEq, Repr

/-- A pending reprogram with its boundary, issuer and opcode (01 R77, R80). -/
structure PendingReprog where
  what : Reprog
  boundary : Long
  issuer : Nat
  opcode : Half
deriving DecidableEq, Repr

/-- The Position Time Base, the encoders and speed (chapter 01). -/
structure Position where
  /-- C, the signed master count; unbounded, PTB integer part is 16 C modulo 2^64; 01 R26, R27, R30; reset 0 (Table 16.4 PTB 0) -/
  count : Int
  /-- PTB fraction; 4 bits; 01 R36; reset 0 -/
  frac : Nat
  /-- high-water mark; 64 bits; 01 R43; reset 0 (Table 16.4) -/
  hwm : Long
  /-- PTB_STATUS.ANCHORED; 1 bit; 01 R76; reset 0 -/
  anchored : Bool
  /-- PTB_STATUS.STATIONARY; 1 bit; 01 R71, R76; reset 1 -/
  stationary : Bool
  /-- PTB_STATUS.DIR; 1 bit; 01 R76; reset 0 -/
  dirRev : Bool
  /-- PTB_STATUS W1C flags OVERSPEED to SLIP, bits 10:5; 01 R76; reset 0 -/
  flags : Word
  /-- behind as last noticed, POS_BEHIND raised; 1 bit; 01 R44, R45; reset 0 -/
  behindSeen : Bool
  /-- times of the last five consecutive forward edges, newest first; PTB_CLK cycles; 01 R35; empty -/
  fwdEdges : List Nat
  /-- time of the last master edge; PTB_CLK cycles; 01 R71; DC 3 (0) -/
  lastEdge : Nat
  /-- master edges within the speed window, newest first, with direction (true forward); 01 R67; empty -/
  edges : List (Nat × Bool)
  /-- time of the last speed update; PTB_CLK cycles; 01 R67; DC 3 (0) -/
  lastSpeed : Nat
  /-- v_raw (PTB_SPEED_RAW), um/s as an exact fraction; reported in 32 bits signed; 01 R67; DC 3 (0) -/
  vRaw : Int × Nat
  /-- v_net, um/s as an exact fraction; 01 R67; DC 3 (0) -/
  vNet : Int × Nat
  /-- v_filt (PTB_SPEED_FILT), um/s as an exact fraction; reported in 32 bits signed; 01 R67; reset 0 (Table 16.4) -/
  vFilt : Int × Nat
  /-- PTB_ZCAP; 64 bits; 01 R55; DC 3 (0) -/
  zcap : Long
  /-- PTB at the last Z capture of ENC0, not wrapped; 01 R56; none -/
  zlast : Option Int
  /-- ENC1 to ENC3; 3 ports; 01 R73; see AuxPort -/
  aux : List AuxPort
  /-- ENC0_QERR to ENC3_QERR; 4 x 32 bits RC; 01 R73; DC 3 (0) -/
  qerr : List Word
  /-- time of each port's last ENC_QERR notice; 01 R54; none -/
  qerrNotice : List (Option Nat)
  /-- PTB_REVERSALS; 32 bits RC; 01 R73; DC 3 (0) -/
  reversals : Word
  /-- PTB_OVERSPEEDS; 32 bits RC; 01 R73; DC 3 (0) -/
  overspeeds : Word
  /-- overspeed condition at the last update; 1 bit; 01 R57; reset 0 -/
  overNow : Bool
  /-- encoder scale in nm per count (PTB_SCALE); 32 bits; 01 R32; reset 0 (Table 16.4) -/
  scale : Nat
  /-- PTB_WIN.SHIFT; 5 bits; 01 R72; reset 16 -/
  shift : Nat
  /-- PTB_SPDWIN in us; 32 bits; 01 R68; reset 1000 -/
  spdWin : Nat
  /-- PTB_SPDFILT; 4 bits; 01 R68; reset 4 -/
  spdFilt : Nat
  /-- ENC_CFG, ENC_FILT, ENC_ZPER, ENC_ZTOL of ENC0 to ENC3; 01 R50, R51, R56; see EncCfg -/
  enc : List EncCfg
  /-- SSI port configuration; 01 R60 to R62; see SsiCfg -/
  ssi : SsiCfg
  /-- pending reprograms; 01 R77, R80; empty -/
  pendingRp : List PendingReprog
  /-- the next position-window boundary the HWM has not passed; 64 bits; 01 R47, R72; DC 3 (0) -/
  nextBoundary : Long
deriving DecidableEq, Repr

/-! ## Ledger (chapter 02) -/

/-- What an admission is for (15 R702 KIND codes 1 to 8). -/
inductive AdmKind where
  | recipe | bench | actuation | epoch | tap | stream | capture | shadow
deriving DecidableEq, Repr

/-- The demand of an admission on one budget instance (02 Table 2.1). -/
structure Demand where
  budget : Nat
  inst : Nat
  amount : Nat
deriving DecidableEq, Repr

/-- One admission held (02 R96, R98; 15 R702). -/
structure Admission where
  handle : Nat
  kind : AdmKind
  cls : Nat
  tenant : Nat
  fence : Word
  demands : List Demand
  spos : Word
  object : Nat
  vDecl : Nat
  recipe : Nat
  order : Nat
deriving DecidableEq, Repr

/-- The Ledger (chapter 02). -/
structure Ledger where
  /-- admissions held, oldest first; at most 512; 02 R96, R98; empty (R108) -/
  held : List Admission
  /-- order number of the next admission; 02 R98 (newest); MODEL 5 (0) -/
  nextOrder : Nat
  /-- LEDG_VTOL in per mille; 16 bits; 02 R124; reset 20 -/
  vtol : Nat
  /-- LEDG_TAMB in degrees C; 8 bits; 02 R124; reset 50 -/
  tamb : Nat
  /-- LEDG_PSTATIC in W; 16 bits; 02 R124; DC 3 (0) until step 9 of start-up -/
  pstatic : Nat
  /-- LEDG_SHARE0 to 6 in per mille; 7 x 16 bits; 02 R124; reset 600, 300, 300, 200, 200, 200, 100 -/
  share : List Nat
  /-- v_adm of the recipes held, in nm/s (LEDG_VADM in um/s, 32 bits); 0 with none; 02 R82, R105; reset 0 -/
  vadm : Nat
  /-- the v_adm that governs OVER_ADM since the last boundary, in nm/s; 02 R105, R120; reset 25 m/s -/
  vadmOver : Nat
  /-- LEDG_STATUS.OVER_ADM; 1 bit; 02 R120; reset 0 -/
  overAdm : Bool
  /-- LEDG_STATUS.THERM_FREEZE with the frozen THERMAL capacity; 02 R117, Table 2.3; none -/
  thermFreeze : Option Nat
  /-- admissions revoked and not yet made again, newest first: kind, tenant, object; 00 Table 0.4 (RUN); MODEL 117 (empty) -/
  revoked : List (AdmKind × Nat × Nat)
  /-- LEDG_REVOKES; 32 bits RC; 02 R124; reset 0 -/
  revokes : Word
  /-- LEDG_REFUSALS; 32 bits RC; 02 R124; reset 0 -/
  refusals : Word
  /-- LEDG_OVERTILES; 32 bits RC saturating; 02 R124; reset 0 -/
  overTiles : Word
deriving DecidableEq, Repr

/-! ## Kwelo (chapters 03, 15, 16) -/

/-- A notice on its way to a tenant (03 R161). -/
structure Notice where
  code : Half
  seq : Half
  spos : Word
  data : Bytes
deriving DecidableEq, Repr

/-- An outcome-log entry (03 R177, 15 Table 15.4). -/
structure OutcomeEntry where
  tag : Half
  opcode : Half
  status : Half
  fence : Word
  spos : Word
deriving DecidableEq, Repr

/-- One MSI-X table entry (16 R730). -/
structure MsixEntry where
  addr : Long
  data : Word
  masked : Bool
deriving DecidableEq, Repr

/-- One tenant: its window, rings, fence, notices and outcome log (03, 16). -/
structure Tenant where
  /-- KW_FENCE; 32 bits; 03 R155, 16 Table 16.2; reset 1 -/
  fence : Word
  /-- KW_RING_CTL.EN; 1 bit; 16 Table 16.2; reset 0 -/
  en : Bool
  /-- KW_RING_STATUS, W1C bits 6:0; 16 Table 16.2; reset 0 -/
  ringStatus : Word
  /-- KW_SQ_BASE; 64 bits; 16 Table 16.2; reset 0 -/
  sqBase : Long
  /-- KW_CQ_BASE; 64 bits; 16 Table 16.2; reset 0 -/
  cqBase : Long
  /-- KW_RING_SIZE.SQ_LOG; 4 bits; 16 Table 16.2; reset 4 -/
  sqLog : Nat
  /-- KW_RING_SIZE.CQ_LOG; 4 bits; 16 Table 16.2; reset 4 -/
  cqLog : Nat
  /-- KW_SQ_HEAD; 12 bits; 16 Table 16.2; reset 0 -/
  sqHead : Nat
  /-- submission tail last written to KW_SQ_DB; 12 bits; 03 R145; DC 3 (0) -/
  sqTail : Nat
  /-- KW_CQ_TAIL.TAIL; 12 bits; 16 Table 16.2; reset 0 -/
  cqTail : Nat
  /-- KW_CQ_TAIL.PHASE; 1 bit; 16 Table 16.2; reset 1 -/
  phase : Bool
  /-- completion head last written to KW_CQ_DB; 12 bits; 16 R725; DC 3 (0) -/
  cqHead : Nat
  /-- written and not yet returned completion entries, oldest first, as their MSI-X vectors; 03 R150, 16 R725; empty -/
  unconsumed : List Nat
  /-- completion slots reserved for replies; 03 R146; 0 -/
  reserved : Nat
  /-- KW_IRQ_COAL.COUNT; 12 bits; 16 Table 16.2; reset 0 -/
  coalCount : Nat
  /-- KW_IRQ_COAL.TIME in us; 16 bits; 16 Table 16.2; reset 0 -/
  coalTime : Nat
  /-- replies pending for vector 0; 03 R149; 0 -/
  coalPending : Nat
  /-- since when the oldest pending reply waits; 03 R149; 0 -/
  coalSince : Nat
  /-- KW_TMO in ms; 16 bits; 16 Table 16.2; reset 0 -/
  tmo : Nat
  /-- KW_NOTICE_MASK; bits 14:1; 16 Table 16.2; reset 0 -/
  noticeMask : Word
  /-- KW_FENCED; 32 bits RC saturating; 16 Table 16.2; reset 0 -/
  fenced : Word
  /-- KW_NOTICE_LOST; 32 bits RC saturating; 16 Table 16.2; reset 0 -/
  noticeLost : Word
  /-- KW_CLASSMASK; 8 bits; 03 R139; reset 0xFF tenant 0, 0x80 others -/
  classMask : Byte
  /-- undelivered notices, oldest first, at most 32; 03 R164; empty -/
  heldNotices : List Notice
  /-- notices dropped since NOTICE_OVERFLOW was last delivered; 03 R164; 0 -/
  overflow : Nat
  /-- next notice SEQ; 16 bits; 03 R165; DC 3 (0) -/
  noticeSeq : Half
  /-- MSI-X enabled; 1 bit; 16 R730; DC 3 (0: the standard's reset) -/
  msixEn : Bool
  /-- MSI-X function mask; 1 bit; 16 R730; DC 3 (0) -/
  fnMask : Bool
  /-- MSI-X table; 4 entries of 128 bits; 16 R730; DC 3 (masked: the standard's reset) -/
  msix : List MsixEntry
  /-- MSI-X pending bits; 4 bits; 16 R730; 0 -/
  pba : List Bool
  /-- outcome log, oldest first, at most 256; 03 R177; empty -/
  outcomes : List OutcomeEntry
  /-- OVERWRITTEN; 16 bits saturating; 15 R699; 0 -/
  overwritten : Nat
  /-- event counters E0 to E63; 64 x 32 bits; 06 R333; reset 0 -/
  events : List Word
  /-- actuation-log ring of host entries, object handle, 0 none; 15 R710; 0 -/
  hostARing : Nat
  /-- RS high-word latches of the function, by BAR offset; 32 bits each; 00 R14, 16 R732; DC 3 (0) -/
  latches : List (Nat × Word)
deriving DecidableEq, Repr

/-- An outstanding packet (03 R154): fetched, and not yet replied to. -/
structure Packet where
  principal : Nat
  tag : Half
  opcode : Half
  cls : Nat
  flags : Half
  deadline : Option Long
  fence : Word
  replyAddr : Long
  replyMax : Nat
  params : Bytes
  sqSlot : Half
  fetchedAt : Nat
  fetchHwm : Long
  tmo : Nat
  order : Nat
  started : Bool
  committed : Bool
  commitFence : Word
  commitSpos : Word
  /-- the whole packet as fetched, for re-execution after a restart (12 R584) -/
  raw : Bytes
  /-- EN was cleared since the fetch, so the reserved slot is gone (03 R177) -/
  orphan : Bool
  /-- where a sideband reply goes, and the request's CRC (03 R166, R170) -/
  sbAddr : Word
  sbPort : Half
  sbCrc : Word
deriving DecidableEq, Repr

/-- A reply whose commit was journalled and which waits for the end of a restart (12 R584). -/
structure WaitingReply where
  packet : Packet
  status : Half
  result : Bytes
  fence : Word
  spos : Word
deriving DecidableEq, Repr

/-- A kept sideband reply (03 R170). -/
structure SbReply where
  addr : Word
  port : Half
  tag : Half
  crc : Word
  at_ : Nat
  reply : Bytes
deriving DecidableEq, Repr

/-- The protocol engine (chapters 03, 16). -/
structure Kwelo where
  /-- tenants 0 to 63; 03 R135; see Tenant -/
  tenants : List Tenant
  /-- NumVFs; 0 to 63; 03 R140; DC 3 (63: the host has enabled every VF; no command raises it) -/
  numVfs : Nat
  /-- packets outstanding, in fetch order; 03 R154; empty -/
  outstanding : List Packet
  /-- order number of the next fetch; 03 R152; MODEL 5 (0) -/
  nextOrder : Nat
  /-- host link up; 03 R176; 0 until start-up step 7 -/
  linkUp : Bool
  /-- generation and width the host link has trained to; 03 R136, Table 3.5; DC 117 (5, 8) -/
  link : Nat × Nat
  /-- ranges of host memory, address and length, in which an access ends in an error; 03 R151; MODEL 4 (empty) -/
  badHost : List (Nat × Nat)
  /-- when the host link was last lost; 03 R178; 0 -/
  lostAt : Nat
  /-- the host-loss release of R178 has been made for this loss; 03 R178; 0 -/
  lossReleased : Bool
  /-- host-loss action is RELEASE; 03 R178; reset 0 (CONTINUE) -/
  hostLossRelease : Bool
  /-- fence generation of the sideband principal; 32 bits; 03 R155; reset 1 -/
  sbFence : Word
  /-- sideband reply cache, at most 64; 03 R170; empty -/
  sbCache : List SbReply
  /-- datagrams discarded by the allow list; 03 R168; DC 3 (0) -/
  sbDropped : Nat
  /-- sideband address; 32 bits; 03 R166; reset 192.168.100.10 -/
  sbAddr : Word
  /-- sideband prefix length; 8 bits; 03 R166; reset 24 -/
  sbPrefix : Nat
  /-- sideband allow list, four entries of address and prefix; 03 R168; reset own subnet -/
  sbAllow : List (Word × Nat)
  /-- sideband Ethernet link up; 00 Table 0.4; DC 3 (0) -/
  sbLink : Bool
  /-- when a sideband packet last arrived or left; 00 Table 0.4; none -/
  sbActive : Option Nat
  /-- replies that wait for the end of a control-processor restart; 12 R584; empty -/
  waitingReplies : List WaitingReply
deriving DecidableEq, Repr

/-! ## Lanes (chapter 04) -/

/-- Lane states (04 Table 4.11). -/
inductive LaneState where
  | disabled | detect | train | bitLock | blockLock | capExchange | active | test | capFault | retired | discover | resync
deriving DecidableEq, Repr

/-- Lane configuration (15 Table 15.7 LANE_CONFIG). -/
structure LaneCfg where
  /-- MODE is Camram; 1 bit; 04 Table 4.11; reset 0 (CoaXPress) -/
  camram : Bool
  /-- LANE_CFG.RATE_MIN; 3 bits; 04 R185; DC 3 (1) -/
  rateMin : Nat
  /-- LANE_CFG.RATE_MAX; 3 bits; 04 R185; DC 3 (7) -/
  rateMax : Nat
  /-- GROUP, lanes per camera; 04 R181; DC 3 (1) -/
  group : Nat
  /-- trigger generator; 3 bits; 04 R181; DC 3 (0) -/
  tg : Nat
  /-- CRCLIM; 16 bits; 04 R239; reset 4 -/
  crcLim : Nat
  /-- TRIGMAX in triggers per second; 32 bits; 04 R194; DC 3 (0: no limit) -/
  trigMax : Nat
  /-- VC table; 64 x 8 bits; 04 R188; DC 3 (discard) -/
  vc : List Nat
  /-- stream-ID table; 16 entries; 04 R188; DC 3 (unused) -/
  sid : List (Nat × Nat)
deriving DecidableEq, Repr

/-- A CAPABILITY accepted on a lane (04 Table 4.4). -/
structure Capability where
  rates : Byte
  lanes : Nat
  index : Nat
  formats : Byte
  cameraId : Long
  maxLineRate : Nat
  pixels : Nat
deriving DecidableEq, Repr

/-- A received word of a Camram lane with what its block says of it (04 R202, R204). -/
structure RxWord where
  w : Word
  /-- the word's block carries a stuff error or lacked its sync word -/
  bad : Bool
deriving DecidableEq, Repr

/-- A trigger sent to a camera (04 R207). -/
structure SentTrigger where
  spos : Word
  scan : Word
  k : Int
deriving DecidableEq, Repr

/-- A running eye scan (04 R231 to R235). -/
structure EyeScan where
  ref : Ref
  bitsExp : Nat
  phMin : Byte
  phStep : Nat
  phCount : Nat
  vMin : Byte
  vStep : Nat
  vCount : Nat
  sposStart : Word
  ctle : Int
  vga : Int
  dfe1 : Int
  rate : Nat
  /-- mismatches of the points measured so far, in the result's order -/
  counts : List Nat
deriving DecidableEq, Repr

/-- A CoaXPress stream since its last image header: triggers sent, oldest first, and scan lines received (04 R199). -/
structure CxpStream where
  stream : Byte
  trigs : List SentTrigger
  lines : Nat
deriving DecidableEq, Repr

/-- A control transaction in progress (04 R219, R220). -/
structure CtrlXact where
  ref : Ref
  tag : Byte
  since : Nat
deriving DecidableEq, Repr

/-- One camera lane (chapter 04). -/
structure Lane where
  /-- LANE_STATUS.STATE; 4 bits; 04 Table 4.11; reset 0 DISABLED -/
  state : LaneState
  /-- lane configuration; 04 R181; see LaneCfg -/
  cfg : LaneCfg
  /-- when the present state was entered; PTB_CLK cycles; 04 Table 4.8; 0 -/
  since : Nat
  /-- CRCLIM that applies from the next position window; 04 R181; none -/
  crcNext : Option Nat
  /-- LANE_STATUS.RATE, rate code in use; 3 bits; 04 Table 4.11; reset 0 -/
  rate : Nat
  /-- agreed rate of the bring-ups that follow; 3 bits; 04 R211, R212; none -/
  agreed : Option Nat
  /-- lower cap left by fallbacks; 3 bits; 04 R212; none -/
  cap : Option Nat
  /-- when the last probe of this DETECT was sent; 04 Table 4.8; none -/
  probed : Option Nat
  /-- successive probes that found the termination; 04 Table 4.8; 0 -/
  probes : Nat
  /-- BIT_LOCK expiries at the present rate; 04 Table 4.8; 0 -/
  bitExpiries : Nat
  /-- an upset brought the lane out of ACTIVE and no LANE_UP has followed; 04 R215, R240; 0 -/
  afterUpset : Bool
  /-- that upset was injected; 12 R603; 0 -/
  upsetInjected : Bool
  /-- scan lines not triggered since that upset; 12 Table 12.6; 0 -/
  lostLines : Nat
  /-- CAP_FAULT is for CAMERA_CHANGED, left only by re-enabling; 04 R215; 0 -/
  cameraChanged : Bool
  /-- CAPABILITY last accepted; 04 R214, R215; none -/
  capability : Option Capability
  /-- block lock is held; 04 R203, R204; 0 -/
  lock : Bool
  /-- successive missing sync words; 04 R204; 0 -/
  missedSync : Nat
  /-- words received and not yet depacketised, input buffer of 256 KiB; 04 R189; empty -/
  rx : List RxWord
  /-- words still to come of the packet being received; 04 R205; 0 -/
  rxNeed : Nat
  /-- words of the packet last begun that stand at the end of the buffer, until its end is known to be consistent; 04 R205, R206; 0 -/
  rxTail : Nat
  /-- that packet ended with its block, and the next block has not begun; 04 R205; 0 -/
  rxHold : Bool
  /-- words of a packet being dropped for want of buffer space still to come; 04 R189; 0 -/
  rxDrop : Nat
  /-- LANE_STATUS W1C flags, bits 13:10; 04 Table 4.11; reset 0 -/
  flags : Word
  /-- LANE_STATUS.PINNED; 1 bit; 04 R238; reset 0 -/
  pinned : Bool
  /-- equaliser values CTLE, VGA, DFE1; 5, 6, 6 bits; 04 R236; DC 3 (0) -/
  eq : List Int
  /-- equaliser lower bounds; 04 R237; DC 3 (0, 0, -32) -/
  eqMin : List Int
  /-- equaliser upper bounds; 04 R237; DC 3 (31, 63, 31) -/
  eqMax : List Int
  /-- when LOOP_PINNED was last raised per parameter; 04 R238; none -/
  eqNotice : List (Option Nat)
  /-- LANE_BITS; 64 bits RS; 04 Table 4.10; DC 3 (0) -/
  bits : Long
  /-- LANE_ERRS; 48 bits RS saturating; 04 Table 4.10; DC 3 (0) -/
  errs : Nat
  /-- the eleven 32-bit RC counters CRCERR to UPSETS; 04 Table 4.10; DC 3 (0) -/
  ctr : List Word
  /-- CRC errors counted in the present window; 04 R239; 0 -/
  crcWindow : Nat
  /-- pattern of the generator (0 stopped); 04 R222; DC 3 (0) -/
  prbs : Nat
  /-- rate of the test transmitter; 04 R222; DC 3 (0) -/
  prbsRate : Nat
  /-- PRBS ACTION in force (0 stop, 1 generate and check, 2 check); 15 Table 15.7; 0 -/
  prbsAction : Nat
  /-- pattern generator register, newest bit in bit 0; 31 bits; 04 R222; DC 3 (0) -/
  gen : BitVec 31
  /-- checker register, newest bit in bit 0; 31 bits; 04 R224; DC 3 (0) -/
  chk : BitVec 31
  /-- checker locked; 04 R224; 0 -/
  prbsLock : Bool
  /-- consecutive bits that matched while the checker looks for lock; 04 R224; 0 -/
  chkRun : Nat
  /-- bits and errors of the checker's present block of 1,024; 04 R224; 0, 0 -/
  chkBlock : Nat × Nat
  /-- the next generator bit is inverted, single mode; 04 R225; 0 -/
  injectNext : Bool
  /-- error injection MODE, P, N; 04 R225, R226; 0 (off) -/
  inject : Nat × Nat × Nat
  /-- pixel packets, or generator bits, since the last injected error; 04 R225, R226; 0 -/
  injectCount : Nat
  /-- loopback KIND: 0 off, 1 near, 2 far; 04 R228; 0 -/
  loopback : Nat
  /-- running eye scan; 04 R231; none -/
  eye : Option EyeScan
  /-- triggers sent, newest first, at most 64; 04 R207; empty -/
  sent : List SentTrigger
  /-- TRIGGER waiting for a character boundary, with its crossing time; 04 R194; none -/
  waiting : Option (SentTrigger × Nat)
  /-- uplink busy until; PTB_CLK cycles; 04 R194; 0 -/
  busyUntil : Nat
  /-- characters of each CONTROL fragment not yet started on the uplink; 04 R219; empty -/
  txq : List Nat
  /-- time of the last trigger sent to the camera; 04 R194; none -/
  lastTrig : Option Nat
  /-- control transactions in progress, oldest first; 04 R219; empty -/
  ctrl : List CtrlXact
  /-- CoaXPress streams by stream ID; 04 R199; empty -/
  cxp : List CxpStream
  /-- CoaXPress: target rate and connection count; 04 R217; 0 -/
  cxpTarget : Nat × Nat
deriving DecidableEq, Repr

/-- A trigger generator (04 R191). -/
structure TrigGen where
  /-- TGn pitch P in pu; 21 bits; 04 R191; DC 3 (1048576) -/
  p : Nat
  /-- TGn phase F in pu; 20 bits; 04 R191; DC 3 (0) -/
  f : Nat
  /-- scan number of the next firing; 32 bits; 04 Trigger generators; DC 3 (0) -/
  scan : Word
  /-- index k of the next position not yet passed; 04 R191; DC 3 (0) -/
  nextK : Int
  /-- P or F has changed since the last firing, so indices start afresh; 05 R283; 0 -/
  changed : Bool
deriving DecidableEq, Repr

/-- The lanes and trigger generators (chapter 04). -/
structure Lanes where
  /-- LANE00 to LANE23; 04 R180; see Lane -/
  lane : List Lane
  /-- TG0 to TG7; 04 R191; see TrigGen -/
  tg : List TrigGen
deriving DecidableEq, Repr

/-! ## PLANISH (chapter 05) -/

/-- One pixel word between stages (05 Table 5.2). -/
structure Pixel where
  value : Nat
  conc : Bool
  repl : Bool
  sat : Bool
  pad : Bool
deriving DecidableEq, Repr

/-- A raw sample in a scan-line slot: received in U12.4, at full scale, BAD (05 R254, R257). -/
structure Sample where
  value : Nat
  sat : Bool
  bad : Bool
deriving DecidableEq, Repr

/-- A scan-line slot of a channel (05 R254). -/
structure Slot where
  k : Int
  spos : Word
  scan : Word
  crossed : Nat
  /-- the trigger was sent (R193 to R195) -/
  trig : Bool
  samples : List (Option Sample)
  closed : Bool
  /-- pixels corrupted by a detected upset in an image-pipeline buffer (05 R257), or whose data was poisoned (07 R387) -/
  upset : List Nat
  /-- first slot after a change of P or F (05 R283) -/
  fresh : Bool
  /-- acquired while LEDG_STATUS.OVER_ADM was set (02 R121) -/
  overAdm : Bool
deriving DecidableEq, Repr

/-- A channel scan line after stage 2, ready for stages 3 to 5 (05 R261). -/
structure ChanLine where
  k : Int
  spos : Word
  scan : Word
  pixels : List Pixel
  overAdm : Bool
  damaged : Bool
  fresh : Bool
deriving DecidableEq, Repr

/-- Last undamaged value of a column: its scan line, value and SAT (05 R261). -/
structure Last where
  k : Int
  value : Nat
  sat : Bool
deriving DecidableEq, Repr

/-- A run of damaged scan lines that share one cause and pixel range (05 R262, Table 5.6). -/
structure ConcRun where
  cause : Nat
  first : Nat
  count : Nat
  method : Nat
  spos : Word
  scans : Nat
deriving DecidableEq, Repr

/-- A camera channel (05 R247 to R275). -/
structure Channel where
  /-- configured, and its view; 05 R248; none -/
  view : Option Nat
  /-- replace mode; 05 R264; DC 3 (0) -/
  replace : Bool
  /-- TWIN source channel; 05 R266; none -/
  twin : Option Nat
  /-- FORMAT, Camram DT of the pixels; 05 Table 15.8; DC 3 (1) -/
  format : Nat
  /-- FLIP; 05 R272; DC 3 (0) -/
  flip : Bool
  /-- SHIFT in 1/256 pixel; 8 bits; 05 R272; DC 3 (0) -/
  shift : Nat
  /-- WIDTH in pixels; 16 bits; 05 Table 15.8; DC 3 (0) -/
  width : Nat
  /-- OFS; signed; 05 R272; DC 3 (0) -/
  ofs : Int
  /-- SCALE in U2.16; 05 R272; DC 3 (65536) -/
  scale : Nat
  /-- open and closed slots, oldest first; 05 R254; empty -/
  slots : List Slot
  /-- scan lines after stage 2 not yet processed, oldest first; 05 R261; empty -/
  lines : List ChanLine
  /-- last undamaged value of each column; 05 R261; empty -/
  history : List (Option Last)
  /-- temporal filter state per column, with the scan line that last updated it; 05 R263, R269; empty -/
  temporal : List (Option (Nat × Int))
  /-- last value of each column after stage 5, from the scan lines where it was not a cluster pixel; 05 R261, R271; empty -/
  settled : List (Option Last)
  /-- dark table, U12.4; 05 R249; DC 3 (empty: 0) -/
  dark : List Nat
  /-- flat table, U2.14; 05 R249; DC 3 (empty: 1.0) -/
  flat : List Nat
  /-- defect map; 05 R271; DC 3 (empty) -/
  defects : List Nat
  /-- PLN_LATE; 32 bits RC; 05 Table 5.8; DC 3 (0) -/
  late : Word
  /-- PLN_DUP; 32 bits RC; 05 Table 5.8; DC 3 (0) -/
  dup : Word
  /-- PLN_CONC; 64 bits RS; 05 Table 5.8; DC 3 (0) -/
  conc : Long
  /-- when PLN_CONCEAL was last raised; 05 R262; none -/
  concNotice : Option Nat
  /-- runs of damaged scan lines being recorded; 05 R262; empty -/
  runs : List ConcRun
deriving DecidableEq, Repr

/-- A finished tile (05 Table 5.3). -/
structure Tile where
  view : Nat
  format : Nat
  tflags : Nat
  col : Nat
  tileW : Nat
  row : Int
  tileH : Nat
  holdReason : Nat
  sposFirst : Word
  sposLast : Word
  concPix : Nat
  satPix : Nat
  replPix : Nat
  padPix : Nat
  lflags : List Nat
  data : List Nat
  /-- conditioning block in force for the tile's row (11 R548) -/
  cond : List Nat
deriving DecidableEq, Repr

/-- A finished view scan line of the open tile row (05 stages 6 and 7). -/
structure ViewLine where
  k : Int
  spos : Word
  scan : Word
  pixels : List Pixel
  overAdm : Bool
deriving DecidableEq, Repr

/-- A view (05). -/
structure View where
  /-- configured; 05 R248; 0 -/
  configured : Bool
  /-- SURFACE is bottom; 05 R251; DC 3 (0) -/
  bottom : Bool
  /-- trigger generator; 05 R251; DC 3 (0) -/
  tg : Nat
  /-- tile format code; 05 R281; DC 3 (1) -/
  tileFmt : Nat
  /-- view width in columns; 05 R272; DC 3 (512) -/
  width : Nat
  /-- TILE_W; 05 R281; reset 512 -/
  tileW : Nat
  /-- TILE_H; 05 R281; reset 256 -/
  tileH : Nat
  /-- CONC_LIMIT in per mille; 05 R284; DC 3 (0) -/
  concLimit : Nat
  /-- MAXGAP; 05 R261; reset 8 -/
  maxGap : Nat
  /-- h0, h1, h2; 05 R267; reset 256, 0, 0 -/
  kernel : Nat × Nat × Nat
  /-- temporal exponent A; 05 R269; reset 0 -/
  tempA : Nat
  /-- GATE in U12.4; 05 R269; reset 0x0400 -/
  gate : Nat
  /-- PB; 05 R276; reset 12 -/
  pb : Nat
  /-- PMIN, PMAX in U2.14; 05 R276; reset 0.5, 2.0 -/
  prange : Nat × Nat
  /-- LK; 05 R277; reset 4 -/
  lk : Nat
  /-- LEVEL_TARGET in U12.4; 05 R280; DC 3 (0x8000) -/
  levelTarget : Nat
  /-- GMIN, GMAX in 1/4096; 05 R278; reset 0.5, 2.0 -/
  grange : Nat × Nat
  /-- level gain g in 1/4096; 05 R277; DC 3 (1.0) -/
  g : Nat
  /-- PINNED state; 05 R279; 0 -/
  pinned : Bool
  /-- when LOOP_PINNED was last raised; 05 R279; none -/
  pinNotice : Option Nat
  /-- column profile M; 05 R276; DC 3 (empty: a column starts at its first valid value) -/
  profile : List (Option Nat)
  /-- sum and count of the profile-flattened valid pixels of the window; 05 R277; 0, 0 -/
  levelSum : Nat × Nat
  /-- scan lines of the open tile row; 05 R260; empty -/
  rowLines : List ViewLine
  /-- tile row being filled; 05 Tiles; none -/
  rowOpen : Option Int
  /-- scan lines were skipped in the open row, replace mode; 05 R264; 0 -/
  rowReplaced : Bool
  /-- columns of the row already placed; 05 R259; empty -/
  placed : List Nat
  /-- statistics ring object, 0 none; 05 R287; 0 -/
  statRing : Nat
  /-- BLOCK; 05 R288; reset 1024 -/
  statBlock : Nat
  /-- BINW; 05 R288; reset 64 -/
  statBinW : Nat
  /-- PLN_STAT_WIDX; 32 bits; 05 Table 5.8; DC 3 (0) -/
  statWidx : Word
  /-- PLN_STAT_RIDX; 32 bits; 05 Table 5.8; DC 3 (0) -/
  statRidx : Word
  /-- record SEQ; 32 bits; 05 Table 5.5; DC 3 (0) -/
  statSeq : Word
  /-- scan lines of the open statistics block; 05 R288; empty -/
  statLines : List ViewLine
  /-- PLN_REPLACED; 32 bits RC; 05 Table 5.8; DC 3 (0) -/
  replaced : Word
  /-- PLN_STATLOST; 32 bits RC; 05 Table 5.8; DC 3 (0) -/
  statLost : Word
deriving DecidableEq, Repr

/-- An open tap (05 R291). -/
structure Tap where
  handle : Nat
  point : Nat
  source : Nat
  start : Long
  length : Nat
  ring : Nat
  widx : Nat
  seq : Word
  drop : Word
  tenant : Nat
deriving DecidableEq, Repr

/-- The image pipeline (chapter 05). -/
structure Planish where
  /-- CH00 to CH31; 05 R247; see Channel -/
  chan : List Channel
  /-- VIEW0 to VIEW3; 05 R247; see View -/
  view : List View
  /-- open taps, at most 8; 05 R291; empty -/
  taps : List Tap
  /-- image changes whose boundary has passed, which wait for the first scan line at or after it; 05 R249, R250; empty -/
  due : List PendingReprog
deriving DecidableEq, Repr

/-! ## Fabric and engines (chapter 06) -/

/-- What a tile's run makes: the fields marked M of 09 Table 9.4, whether an accumulation saturated (06 R299), and its
NaN-to-integer conversions (06 R304). -/
structure ModelResult where
  score : Word
  cands : List (Word × Word)
  boxes : List (Nat × Nat × Int × Int)
  emb : Bool
  embeds : List Bytes
  accSat : Bool
  nanCvt : Nat
deriving DecidableEq, Repr

/-- Bench states (06 Table 6.4). -/
inductive BenchState where
  | free | loading | built | armed | resetting | unadmitted
deriving DecidableEq, Repr

/-- A certificate as read (02 Table 2.2). -/
structure Cert where
  certId : Long
  digest : Bytes
  notAfter : Nat
  groups : Nat
  quads : Nat
  minStakes : Nat
  tileW : Nat
  tileH : Nat
  cTile : Nat
  eTile : Nat
  ingotBytes : Nat
  sheetBytes : Nat
  foilFoot : Nat
  sheetFoot : Nat
  vslots : Nat
  inFormat : Nat
  temper : Bool
  keyId : Long
  /-- the 256 bytes as read -/
  raw : Bytes
deriving DecidableEq, Repr

/-- A pending change of a bench (06 R314, R315, R337). -/
inductive BenchChange where
  | rebuild (image : Bytes) (cert : Cert) (tenant : Nat)
  | select (slot : Nat) (tenant : Nat) (opcode : Half) (candidate : Nat) (recipe : Nat)
deriving DecidableEq, Repr

/-- Where a run stands: it goes on; its tile has had its HOLD and the stake still works on it; or the stake was reset and only a
result on its way is left (06 R344). -/
inductive RunState where
  | live | cut | gone
deriving DecidableEq, Repr

/-- A tile running on a stake (06 R321). -/
structure Running where
  stake : Nat
  tile : Tile
  /-- eighths of FQ cycles counted up to `since` -/
  spent : Nat
  since : Nat
  /-- generation of the bench's admission at the dispatch (06 R344) -/
  fence : Word
  state : RunState
  /-- what the run makes of the tile (06 R306) -/
  result : ModelResult
deriving DecidableEq, Repr

/-- A bench (chapter 06). -/
structure Bench where
  /-- BENCHn_STATUS.STATE; 3 bits; 06 Table 6.14; reset 0 FREE -/
  state : BenchState
  /-- stake groups of the bench; 32 bits; 06 R308; 0 -/
  groups : Word
  /-- recipe admission served, 0 TEMPER bench; 06 R308; 0 -/
  recipe : Nat
  /-- BENCHn_STATUS.TEMPER; 1 bit; 06 Table 6.14; reset 0 -/
  temper : Bool
  /-- owner tenant; 03 R138; 0 -/
  tenant : Nat
  /-- admission handle; 06 R310; 0 -/
  handle : Nat
  /-- generation that its next admission starts at: after a revocation the bench's generation goes on; 32 bits; 06 R344; DC 3 (1) -/
  gen : Word
  /-- SHEET share in bytes; 06 R308; 0 -/
  share : Nat
  /-- configuration image, run-time copy; 06 R312, 07 R392; empty -/
  image : Bytes
  /-- certificate in force; 06 R309; none -/
  cert : Option Cert
  /-- parameter slots 0 and 1, run-time copies; 06 R311, R336; empty (zeros) -/
  slots : List Bytes
  /-- BENCHn_STATUS.SLOT; 1 bit; 06 Table 6.14; reset 0 -/
  slot : Nat
  /-- slot selected before the last selection; 11 R564; 0 -/
  prevSlot : Nat
  /-- pending change with its boundary; 06 R314, R315, R337; none -/
  change : Option (BenchChange × Long)
  /-- input queue, at most 1024 tiles; 06 R320; empty -/
  queue : List Tile
  /-- tiles in flight, and results of runs cut off that have not come; 06 R319, R344; empty -/
  running : List Running
  /-- parameter slot of the tile row last dispatched of each view: view, row, slot; 06 R322; empty -/
  rowSlot : List (Nat × Int × Nat)
  /-- INGOT address and length of the image and certificate that a build or rebuild reads; 07 R359; empty -/
  source : List (Nat × Nat)
  /-- pair of DRAM channels that holds the copies of the image and of parameter slots 0 and 1; 07 R392; none -/
  copies : List (Option (Nat × Nat))
  /-- state to return to after LOADING or RESETTING; 06 Table 6.4; FREE -/
  back : BenchState
  /-- release waits for LOADING or RESETTING to end; 06 R316; 0 -/
  releasing : Bool
  /-- packets whose reply waits for that release; 06 R316; empty -/
  releaseRefs : List Ref
  /-- image and slots are being loaded, until BENCH_LOAD_DONE; 06 R310, R314; 0 -/
  loads : Bool
  /-- packet whose reply waits for the load; 06 R310; none -/
  loadRef : Option Ref
  /-- the reset in progress: stake, cause, tiles given HOLD, injected; 06 R340; none -/
  resetting : Option (Nat × Nat × Nat × Bool)
  /-- FAB_TILES; 64 bits RS; 06 Table 6.15; DC 3 (0) -/
  tiles : Long
  /-- FAB_HOLDTILES, ECC_CORR, RESETS, FENCED, OVERRUN, ACCSAT, NANCVT; 7 x 32 bits RC; 06 Table 6.15; DC 3 (0) -/
  ctr : List Word
deriving DecidableEq, Repr

/-- One command of a list (06 Table 6.10). -/
structure Cmd where
  cmd : Nat
  arg0 : Word
  arg1 : Long
  body : Bytes
deriving DecidableEq, Repr

/-- A command list queued or running (06 R324 to R332). -/
structure CmdList where
  ref : Ref
  tenant : Nat
  engine : Nat
  inUnit : Bool
  bench : Nat
  start : Option Long
  cmds : List Cmd
  index : Nat
  running : Bool
  /-- calibration changes of its commands so far, which take effect at one boundary (15 R706) -/
  cals : List Reprog
deriving DecidableEq, Repr

/-- A tile outcome handed to HALLMARK (09 Table 9.4). -/
structure Outcome where
  bench : Nat
  /-- the recipe the bench serves, and the bench's admission -/
  recipe : Nat
  adm : Nat
  tile : Tile
  hold : Nat
  fence : Word
  result : Option ModelResult
  vslots : Nat
  /-- when the last word of its result was written (06 R344) -/
  at_ : Nat
deriving DecidableEq, Repr

/-- The fabric and the engines' queues (chapter 06). -/
structure Fabric where
  /-- benches 0 to 15; 06; see Bench -/
  bench : List Bench
  /-- retired stakes, by number; 06 R346 (FAB_LIVE); empty -/
  retiredStakes : List Nat
  /-- command lists queued and running; 06 R327; empty -/
  lists : List CmdList
  /-- tenant each engine served last, engines 1 to 6; 06 R332; DC 3 (63) -/
  lastServed : List Nat
  /-- chip-wide recovery in progress: cause, tiles given HOLD, injected; 06 R343; none -/
  chipLoss : Option (Nat × Nat × Bool)
  /-- when that recovery began; 12 R577; 0 -/
  chipSince : Nat
  /-- DRAW and ASSAY commands cut off by the chip-wide loss; 12 R579; empty -/
  cutOff : List Nat
  /-- FAB_CHIPLOSS; 32 bits RC; 06 Table 6.15; DC 3 (0) -/
  chipLosses : Word
deriving DecidableEq, Repr

/-! ## Memory (chapter 07) -/

/-- Memory tiers (07 R354). -/
inductive Tier where
  | foil | sheet | ingot
deriving DecidableEq, Repr

/-- An allocated object (07 R354 to R361). -/
structure Obj where
  handle : Nat
  tenant : Nat
  tier : Tier
  size : Nat
  anyTier : Bool
  pinned : Bool
  shared : Bool
  cls : Nat
  bench : Option Nat
  channel : Nat
  addr : Nat
  lost : Bool
  order : Nat
deriving DecidableEq, Repr

/-- A DRAM channel (07 R383 to R393). -/
structure DramChan where
  /-- retired; 07 R390 (DRAW_CHAN); 0 -/
  retired : Bool
  /-- poison table, at most 64 burst addresses; 07 R388; empty -/
  poison : List Nat
  /-- every read poisoned until the next reset; 07 R388; 0 -/
  allPoison : Bool
  /-- DRAW_ECC_CORRn; 32 bits RC; 07 Table 7.8; DC 3 (0) -/
  corr : Word
  /-- DRAW_ECC_UNCn; 32 bits RC saturating; 07 Table 7.8; DC 3 (0) -/
  unc : Word
deriving DecidableEq, Repr

/-- A memory request waiting at a SHEET bank or INGOT channel (07 R372 to R376). -/
structure MemReq where
  id : Nat
  ingot : Bool
  bank : Nat
  cls : Nat
  deadline : Option Long
  arrival : Nat
  /-- stream whose bucket pays too, none for work that goes through no stream (06 R335, 07 R373) -/
  stream : Option Nat
  addr : Long
  write : Bool
  issuer : MemIssuer
  /-- it has waited 50 us without a deadline and is ordered at `deadline` (07 R375) -/
  aged : Bool
deriving DecidableEq, Repr

/-- A host bulk transfer stream's declared rates and buckets (07 R368). -/
structure Stream where
  handle : Nat
  tenant : Nat
  sheet : Nat
  ingot : Nat
  tokS : Int
  tokI : Int
deriving DecidableEq, Repr

/-- Memory, objects, streams and arbitration (chapter 07). -/
structure Draw where
  /-- SHEET and INGOT contents by unit address; 07 R352; empty (reads 0, log entry 11) -/
  mem : Memory
  /-- objects; 07 R355; empty -/
  objs : List Obj
  /-- order number of the next object; 07 R358; MODEL 5 (0) -/
  nextOrder : Nat
  /-- DRAM channels 0 to 3; 07 R383; see DramChan -/
  chan : List DramChan
  /-- open streams; 07 R368; empty -/
  streams : List Stream
  /-- DRAW_TOKS_c; 8 x 32 bits signed; 07 R378; DC 3 (0) -/
  tokS : List Int
  /-- DRAW_TOKI_c; 8 x 32 bits signed; 07 R378; DC 3 (0) -/
  tokI : List Int
  /-- requests waiting at banks and channels; 07 R372; empty -/
  waiting : List MemReq
  /-- buckets of SHEET, of INGOT and of the streams (by handle) as the present cycle began, against which every bank and channel judges
  its grant of that cycle; 07 R380; MODEL 125 (zeros) -/
  cycleTok : List Int × List Int × List (Nat × Int × Int)
  /-- that cycle, and the banks and channels that have granted in it; 07 R372; MODEL 125 (0, empty) -/
  cycleServed : Nat × List (Bool × Nat)
  /-- DRAW_SLACKc; 8 x 32 bits RC saturating; 07 Table 7.8; DC 3 (0) -/
  slack : List Word
  /-- DRAW_LATEc; 8 x 32 bits RC saturating; 07 Table 7.8; DC 3 (0) -/
  late : List Word
  /-- DRAW_SHEET_CORR; 32 bits RC; 07 Table 7.8; DC 3 (0) -/
  sheetCorr : Word
  /-- DRAW_RANGE0 to 15; 16 x 64 bits; 07 Table 7.7; reset CLASS 7, rest 0 -/
  ranges : List Long
  /-- ports PLANISH, ASSAY, HALLMARK, control processors in RANGE mode; 4 bits; 07 Table 7.6; reset 0, 0, 0, 1 -/
  rangeMode : List Bool
deriving DecidableEq, Repr

/-! ## Parts (chapter 09) -/

/-- A retained defect candidate of a part (09 R442). -/
structure Candidate where
  score : Word
  view : Nat
  col : Nat
  spos : Word
  embed : Bytes
  /-- 0 not judged, 1 confirmed, 2 tolerated, 3 unknown; and the nearest entry's label -/
  verdict : Nat
  label : Nat
deriving DecidableEq, Repr

/-- A part being judged (09 R434 to R452). -/
structure Part where
  recipe : Nat
  id : Int
  start : Long
  /-- END; none while a plate is open -/
  stop : Option Long
  /-- reasons that occurred, first first (09 R448, R449) -/
  reasons : List Nat
  /-- view, row, col of every tile outcome folded in -/
  seen : List (Nat × Int × Nat)
  holdTiles : Nat
  /-- highest SCORE so far that is no NaN -/
  worst : Option Word
  cands : List Candidate
  /-- HOLD fixed before the close (09 R451) -/
  fixed : Bool
  /-- the per-part operation: 0 not due, 1 invoked, 2 done -/
  partOp : Nat
  issued : Bool
deriving DecidableEq, Repr

/-! ## ASSAY (chapter 08) -/

/-- A library range (08 R419, 15 R709). -/
structure LibRange where
  first : Nat
  count : Nat
  tenant : Nat
  damaged : Bool
deriving DecidableEq, Repr

/-- A library entry: 128 INT8 elements and a label (08 R419). -/
structure LibEntry where
  index : Nat
  vec : Bytes
  label : Nat
deriving DecidableEq, Repr

/-- A recipe-driven operation waiting in the RT unit (08 R424, R425). -/
structure RtOp where
  /-- per-tile (none) or the part it serves -/
  part : Option Int
  recipe : Nat
  fence : Word
  outcome : Option Outcome
deriving DecidableEq, Repr

/-- Counters of one ASSAY unit (08 Table 8.6). -/
structure AssayUnit where
  /-- ASY_OPS; 64 bits RS; 08 Table 8.6; DC 3 (0) -/
  ops : Long
  /-- ASY_NANKEYS; 32 bits RC saturating; 08 Table 8.6; DC 3 (0) -/
  nanKeys : Word
  /-- ASY_BADBOX; 32 bits RC saturating; 08 Table 8.6; DC 3 (0) -/
  badBox : Word
  /-- ASY_FAULTS; 32 bits RC saturating; 08 Table 8.6; DC 3 (0) -/
  faults : Word
deriving DecidableEq, Repr

/-- A completion of the RT unit, which a bump in the same cycle undoes (08 R425). -/
structure RtLast where
  at_ : Nat
  op : RtOp
  parts : List Part
  unit : AssayUnit
deriving DecidableEq, Repr

/-- ASSAY (chapter 08). -/
structure Assay where
  /-- library store, defined entries by index; 08 R419; empty -/
  lib : List LibEntry
  /-- library ranges, at most 32; 08 R419; empty -/
  ranges : List LibRange
  /-- RT unit operations in order of invocation; 08 R424; empty -/
  rt : List RtOp
  /-- counters of the RT unit; 08 Table 8.6; see AssayUnit -/
  rtUnit : AssayUnit
  /-- the last completion of the RT unit: its cycle, its operation, and the parts and counters before it; 08 R425; none -/
  rtLast : Option RtLast
  /-- counters of the Q unit; 08 Table 8.6; see AssayUnit -/
  qUnit : AssayUnit
  /-- ASY_ECC_CORR; 32 bits RC; 08 Table 8.6; DC 3 (0) -/
  eccCorr : Word
  /-- ASY_FENCED; 32 bits RC saturating; 08 Table 8.6; DC 3 (0) -/
  fenced : Word
deriving DecidableEq, Repr

/-! ## HALLMARK (chapter 09) -/

/-- An actuation entry (09 Table 9.6). -/
structure ActEntry where
  channel : Nat
  us : Bool
  loadMa : Nat
  spos : Word
  length : Nat
  leadUs : Nat
  latest : Nat
  maxMs : Nat
  ref : Long
deriving DecidableEq, Repr

/-- Where an admitted entry stands. -/
inductive ActState where
  | pending | held | firing
deriving DecidableEq, Repr

/-- An admitted actuation entry (09 R460 to R476). -/
structure Act where
  handle : Nat
  entry : ActEntry
  target : Long
  shift : Nat
  pOn : Long
  pOff : Long
  /-- recipe of a verdict entry, or none for a host entry -/
  recipe : Option Nat
  tenant : Nat
  state : ActState
  onAt : Nat
  onSpos : Word
deriving DecidableEq, Repr

/-- HALLMARK (chapter 09). -/
structure Hallmark where
  /-- parts open or awaiting a verdict; 09 R434, R435; empty -/
  parts : List Part
  /-- ingest queue, at most 8192 outcomes; 09 R453; empty -/
  ingest : List Outcome
  /-- actuation queue, at most 4096 entries; 09 R460; empty -/
  acts : List Act
  /-- HM_PARTS; 64 bits RS; 09 Table 9.7; DC 3 (0) -/
  nparts : Long
  /-- HM_PASS, HM_REJECT, HM_HOLD; 3 x 32 bits RC; 09 Table 9.7; DC 3 (0) -/
  verdicts : List Word
  /-- HM_DELAYED, INTERLOCK, CAPPED, ACTLATE; 4 x 32 bits RC saturating; 09 Table 9.7; DC 3 (0) -/
  actCtr : List Word
  /-- HM_FEEDREF; 16 x 32 bits RC saturating; 09 Table 9.7; DC 3 (0) -/
  feedRef : List Word
  /-- HM_FENCED, GAPTILES, EDGEERR; 3 x 32 bits RC saturating; 09 Table 9.7; DC 3 (0) -/
  tileCtr : List Word
  /-- HM_VLOST and HM_ALOST by ring object handle; 32 bits RC saturating; 09 R475; DC 3 (0) -/
  lost : List (Nat × Word)
  /-- write index of each verdict or actuation-log ring, by object handle; 09 R459, R474; 0 -/
  ringIdx : List (Nat × Nat)
  /-- next actuation-log SEQ of each ring, by object handle; 32 bits; 09 R474; DC 3 (0) -/
  actSeq : List (Nat × Word)
deriving DecidableEq, Repr

/-! ## Field I/O (chapter 10) -/

/-- One field channel (chapter 10). -/
structure DioChan where
  /-- DIO_CFGn; 64 bits; 10 Table 10.8; reset LIMIT 10, TS 10, rest 0 -/
  cfg : Long
  /-- filter count c; 8 bits; 10 R485; 0 -/
  count : Nat
  /-- DIO_STATUSn.IN, y; 10 Table 10.9; reset 0 -/
  y : Bool
  /-- DIO_STATUSn.RAW; 10 Table 10.9; reset 0 -/
  raw : Bool
  /-- DIO_STATUSn.OUT; 10 Table 10.9; reset 0 -/
  out : Bool
  /-- DIO_STATUSn.BREAK; 10 R491; reset 0 -/
  brk : Bool
  /-- DIO_STATUSn.INVALID; 10 R491; reset 0 -/
  invalid : Bool
  /-- class of the last sample and since when samples have been of it: 0 valid, 1 BREAK, 2 INVALID; 10 R491; 0, 0 -/
  cls : Nat × Nat
  /-- DIO_STATUSn.OPENLOAD; 10 R498; reset 0 -/
  openload : Bool
  /-- DIO_STATUSn.SHORT; W1C; 10 R499; reset 0 -/
  short : Bool
  /-- off after a short or an overload until the next entry; 10 R499; 0 -/
  shorted : Bool
  /-- DIO_STATUSn.CAUSE, bits 5:0; 10 Table 10.6; reset 0x04 -/
  causes : Word
  /-- DIO_STATUSn.RETIRED; 10 R501; reset 0 -/
  retired : Bool
  /-- DIO_STATUSn.MEAS; 16 bits; 10 Table 10.9; reset 0 -/
  meas : Nat
  /-- DIO_EDGESn; 32 bits RC; 10 Table 10.10; DC 3 (0) -/
  edges : Word
  /-- DIO_SHORTSn; 32 bits RC saturating; 10 Table 10.10; DC 3 (0) -/
  shorts : Word
  /-- DIO_CPLERRn; 32 bits RC saturating; 10 Table 10.10; DC 3 (0) -/
  cplErr : Word
  /-- when DIO_EDGE was last raised; 10 R489; none -/
  edgeNotice : Option Nat
  /-- time of the last sample; 10 R484, R485; none -/
  sampled : Option Nat
  /-- PTB of the sample in which y changes, until the edge is accepted; 10 R488; none -/
  dueAt : Option Long
  /-- keepalive running; 10 R483, R509; 0 until start-up step 6 -/
  keepalive : Bool
  /-- last valid coupler frame; 10 R509; 0 -/
  lastFrame : Nat
  /-- since when frames have been valid; 10 R503; 0 -/
  framesSince : Nat
  /-- since when the field supply has been at or above 19.2 V; 10 R503; none -/
  supplySince : Option Nat
  /-- the field side lost its copy of DIO_CFGn with both field supplies; 14 R674; 0 -/
  cfgLost : Bool
deriving DecidableEq, Repr

/-- One feed (chapter 10). -/
structure Feed where
  /-- FEED_STATUSk.CLOSED; 10 Table 10.9; reset 0 -/
  closed : Bool
  /-- FEED_STATUSk.TRIP; W1C; 10 Table 10.9; reset 0 -/
  trip : Bool
  /-- feed is open for a trip; 10 R500; 0 -/
  tripped : Bool
  /-- time of the trip; 10 R500; 0 -/
  tripAt : Nat
  /-- FEED_STATUSk.RETIRED; 10 Table 10.9; reset 0 -/
  retired : Bool
  /-- FEED_STATUSk.UNPOWERED; 10 Table 10.9; reset 0 -/
  unpowered : Bool
  /-- FEED_TRIPSk; 32 bits RC saturating; 10 Table 10.10; DC 3 (0) -/
  trips : Word
deriving DecidableEq, Repr

/-- Field I/O (chapter 10). -/
structure FieldIo where
  /-- DIO00 to DIO31; 10; see DioChan -/
  chan : List DioChan
  /-- FEED0 to FEED15; 10; see Feed -/
  feed : List Feed
  /-- DIO_GLOBAL.SAG_SAFE; 10 R516; reset 0 -/
  sagSafe : Bool
  /-- DIO_FIELDV: FIELD A and FIELD B in mV; 2 x 16 bits; 10 Table 10.10; DC 3 (0) -/
  fieldV : List Nat
  /-- DIO_EDGELOST; 32 bits RC saturating; 10 Table 10.10; DC 3 (0) -/
  edgeLost : Word
  /-- DIO_SAFESKIP; 32 bits RC saturating; 10 Table 10.10; DC 3 (0) -/
  safeSkip : Word
deriving DecidableEq, Repr

/-! ## Recipes, telegrams and tempering (chapter 11) -/

/-- Recipe states (11 Table 11.5). -/
inductive RecipeState where
  | held | pending | active | outgoing
deriving DecidableEq, Repr

/-- A route entry (11 Table 11.2). -/
structure Route where
  view : Nat
  bench : Nat
  colFirst : Nat
  colLast : Nat
deriving DecidableEq, Repr

/-- An action of the part block (09 Table 9.3, 11 Table 11.3). -/
structure Action where
  channel : Nat
  mode : Nat
  loadMa : Nat
  actOfs : Nat
  pre : Nat
  post : Nat
  length : Nat
  leadUs : Nat
  latest : Nat
  maxMs : Nat
deriving DecidableEq, Repr

/-- A recipe-driven ASSAY operation (08 Table 8.5, 11 Table 11.2). -/
structure AssayOp where
  cmd : Nat
  n : Nat
  nA : Nat
  k : Nat
  mode : Nat
  metric : Nat
  iou : Nat
  q : Nat
  libFirst : Nat
  libCount : Nat
deriving DecidableEq, Repr

/-- A recipe image as read (11 Tables 11.2 and 11.3). -/
structure RecipeImage where
  recipeId : Nat
  vDecl : Nat
  dictId : Nat
  thermMj : Nat
  ckptS : Nat
  views : Nat
  condN : Nat
  tileW : Nat
  tileH : Nat
  tileFmt : Nat
  rflags : Nat
  shMin : Nat
  routes : List Route
  tileOp : AssayOp
  partOp : AssayOp
  model : Nat
  edgeSrc : Nat
  edgeDio : Nat
  holdAction : Nat
  actPass : Nat
  actReject : Nat
  actReview : Nat
  sevRej : Nat
  partLen : Nat
  origin : Word
  edgeOfs : Int
  minLen : Nat
  maxLen : Nat
  viewOfs : List Nat
  lDec : Nat
  tPass : Word
  tRej : Word
  distMax : Nat
  actions : List Action
deriving DecidableEq, Repr

/-- A recipe held (11 R525, R526). -/
structure Recipe where
  handle : Nat
  tenant : Nat
  /-- fence generation of its admission, kept for the verdicts that follow its end (11 R525, 09 Table 9.6) -/
  fence : Word
  image : RecipeImage
  state : RecipeState
  /-- ORIGIN in force, expanded (09 R434, 11 R532) -/
  origin : Long
  /-- switch position of its activation, and the outgoing recipe (0 none) (11 R531) -/
  switchAt : Long
  outgoing : Nat
  issuer : Nat
  /-- E at which it is switched away, for an outgoing recipe (11 R532) -/
  endAt : Option Long
  /-- E at which it became ACTIVE (11 R532) -/
  activeFrom : Long
  /-- next STRIP part number to open; number of PLATE parts opened (09 R434, R435) -/
  nextPart : Int
  /-- previous accepted plate edge (09 R437) -/
  lastEdge : Option Long
  /-- SEQ of the next verdict (09 Table 9.6) -/
  seq : Nat
  promotions : Nat
  lastCkpt : Nat
  vring : Nat
  aring : Nat
  /-- conditioning blocks pending, with the position of their row's first scan line (11 R548, R549) -/
  blocks : List (Long × List Nat)
  /-- blocks that have taken effect, newest first, with the same positions (11 R548) -/
  block : List (Long × List Nat)
deriving DecidableEq, Repr

/-- An entry of the selection table (11 R546). -/
structure SelEntry where
  token : Nat
  kind : Nat
  views : Nat
  recipe : Nat
deriving DecidableEq, Repr

/-- A sample-cache entry (11 R551). -/
structure CacheEntry where
  /-- 0 free, 1 unlabelled, 2 labelled -/
  state : Nat
  lock : Bool
  /-- label in force, and one recorded while locked (11 R553) -/
  label : Nat
  nextLabel : Option Nat
  captureSeq : Nat
  /-- 64-bit position of the tile's first scan line, its SPOS_FIRST expanded at the capture (01 R40) -/
  first : Long
  tile : Option Tile
deriving DecidableEq, Repr

/-- The sample cache's configuration (11 R550). -/
structure CacheCfg where
  handle : Nat
  obj : Nat
  view : Nat
  stride : Nat
  colMask : Word
  capturing : Bool
  /-- bytes of an entry, fixed when the cache is configured -/
  entry : Nat
deriving DecidableEq, Repr

/-- A running epoch (11 R555 to R559). -/
structure Epoch where
  handle : Nat
  ref : Ref
  /-- requested by an EPOCH list command, whose list runs on at its end -/
  fromList : Bool
  tenant : Nat
  recipe : Nat
  bench : Nat
  passes : Nat
  b : Nat
  span : Nat
  hyper : Bytes
  entries : List Nat
  commitHwm : Long
  started : Nat
  done : Nat
deriving DecidableEq, Repr

/-- A candidate parameter set (11 R559, R561). -/
structure Cand where
  handle : Nat
  tenant : Nat
  digest : Bytes
  params : Bytes
  /-- the two INGOT channels that hold it (11 R559) -/
  copies : Option (Nat × Nat)
  /-- recipe the candidate was shadowed on, and the HWM span covered -/
  shadowRecipe : Nat
  shadowSpan : Nat
  /-- tally of live class against shadow class, live-major (11 R561) -/
  tally : List Nat
deriving DecidableEq, Repr

/-- A running shadow evaluation (11 R560, R561). -/
structure Shadow where
  handle : Nat
  cand : Nat
  bench : Nat
  recipe : Nat
  stride : Nat
  startHwm : Long
deriving DecidableEq, Repr

/-- Recipes, telegrams and TEMPER (chapter 11). -/
structure Recipes where
  /-- recipes held; 11 R525; empty -/
  recipes : List Recipe
  /-- loaded dictionary: DICT_ID and entries; 11 R537; none -/
  dict : Option (Nat × List Bytes)
  /-- selection table, at most 256 entries; 11 R546; empty -/
  select : List SelEntry
  /-- TOK_BADBYTES, REPLS, TRUNC, LATE, SELFAIL, TMP_CAPDROP, TMP_SHSKIP; 7 x 32 bits RC saturating; 11 R565; DC 3 (0) -/
  ctr : List Word
  /-- sample cache configuration; 11 R550; none -/
  cacheCfg : Option CacheCfg
  /-- sample cache entries; 11 R551; empty -/
  cache : List CacheEntry
  /-- next CAPTURE_SEQ; 11 R551; DC 3 (0) -/
  captureSeq : Nat
  /-- running epoch; 11 R555; none -/
  epoch : Option Epoch
  /-- tenants of ended epochs whose minibatch is still in flight, oldest first; 02 R112; empty -/
  lateBatch : List Nat
  /-- candidates, at most two; 11 R559; empty -/
  cands : List Cand
  /-- running shadow; 11 R560; none -/
  shadow : Option Shadow
deriving DecidableEq, Repr

/-! ## Faults (chapter 12) -/

/-- A fault-log entry (12 Table 12.6). -/
structure LogEntry where
  seq : Word
  rtc : Nat
  spos : Word
  cls : Nat
  kind : Nat
  inst : Nat
  detect : Nat
  retries : Nat
  fflags : Nat
  upsets : Nat
  code : Nat
  affected : Nat
deriving DecidableEq, Repr

/-- A scheduled injection (12 R603). -/
structure Injection where
  target : Nat
  inst : Nat
  at_ : Option Long
deriving DecidableEq, Repr

/-- Faults and recovery (chapter 12). -/
structure Faults where
  /-- THRESH and WINDOW of classes 1 to 5; 5 x 24 bits; 12 R570; reset 8 in 60 s -/
  thresh : List (Nat × Nat)
  /-- upset histories: class, instance, time; 12 R570; empty -/
  upsets : List (Nat × Nat × Nat)
  /-- fault log, newest first, at most 4096 entries; 12 R600; empty -/
  log : List LogEntry
  /-- FLT_LOG_NEXT; 32 bits; 12 Table 12.8; DC 3 (0) -/
  nextSeq : Word
  /-- Keeper tail, newest first, at most 32 entries; 12 R600; empty -/
  keeper : List LogEntry
  /-- no fault since the log was last read is false; 00 Table 0.4; 0 -/
  unread : Bool
  /-- shutdown or fatal fault logged since the log was last read; 00 Table 0.4; 0 -/
  unreadFatal : Bool
  /-- FLT_STATE.FATAL; 12 Table 12.8; reset 0 -/
  fatal : Bool
  /-- FLT_STATE.CTRL_RESTARTING; 12 Table 12.8; reset 0 -/
  restarting : Bool
  /-- times of control-processor restarts that count; 12 R585; empty -/
  restarts : List Nat
  /-- FLT_CTRLRST; 32 bits RC; 12 Table 12.8; reset 0 -/
  ctrlRst : Word
  /-- FLT_EQUIVLOST; 32 bits RC saturating; 12 Table 12.8; reset 0 -/
  equivLost : Word
  /-- retirements whose threshold was reached during a recovery: class, instance; 12 R573; empty -/
  deferred : List (Nat × Nat)
  /-- scheduled injections; 12 R603; empty -/
  injections : List Injection
  /-- one copy of a HALLMARK queue entry is injected bad, channel; 12 Table 12.7; none -/
  badCopy : Option Nat
deriving DecidableEq, Repr

/-! ## Power (chapter 13) -/

/-- Power, clocks and heat (chapter 13). -/
structure Power where
  /-- domains on, Table 13.2 codes 0 to 12 (PWR_STATUS 20:8); 13 bits; 13 R607; reset 0 -/
  domains : List Bool
  /-- PWR_STATUS.SAG; 13 Table 13.7; reset 0 -/
  sag : Bool
  /-- rails with an active warning (PWR_STATUS.RAIL); 13 R633; empty -/
  railWarn : List Nat
  /-- INA_OK and INB_OK; 2 bits; 13 Table 13.7; reset 0 -/
  inOk : List Bool
  /-- inputs disconnected for overvoltage, since when back in range; 13 R623; not disconnected -/
  overV : List Bool
  /-- PWR_STATUS.THERM; 13 R637; reset 0 -/
  therm : Bool
  /-- fans failed (PWR_STATUS.FAN); 13 R643; empty -/
  fanFailed : List Nat
  /-- fan speeds in rpm; 4; 15 Table 15.15; DC 3 (0) -/
  fans : List Nat
  /-- PWR_STATUS.KEEPER_LOW; 13 R615; reset 0 -/
  keeperLow : Bool
  /-- PWR_VIN: SUPPLY A, SUPPLY B in mV; 2 x 16 bits; 13 Table 13.7; DC 3 (0) -/
  vin : List Nat
  /-- PWR_VBUS in mV; 16 bits; 13 Table 13.7; DC 3 (0) -/
  vbus : Nat
  /-- PWR_SAG_TH in mV; 16 bits; 13 Table 13.7; reset 18500 -/
  sagTh : Nat
  /-- PWR_HOLDUP in ms; 16 bits; 13 Table 13.7; reset 0xFFFF -/
  holdup : Nat
  /-- Keeper: time of the latest SAG_WARN and of the latest sag reset; 13 R631; none -/
  sagAt : Option Nat × Option Nat
  /-- PWR_TEMP0 to 7 in 0.1 degrees C; 8 x 16 bits signed; 13 Table 13.7; DC 3 (0) -/
  temps : List Int
  /-- rails in mV, Table 13.4 order; 12 x 16 bits; 13 Table 13.4; DC 3 (0) -/
  rails : List Nat
  /-- AVS set points in mV (PWR_AVSq); 4; 13 R644; DC 3 (850) -/
  avs : List Nat
  /-- AVS VMIN; 4; 13 R644; reset 650 -/
  vmin : List Nat
  /-- AVS VMAX; 4; 13 R644; reset 850 -/
  vmax : List Nat
  /-- PWR_AVS_PIN; 4 bits; 13 Table 13.7; reset 0 -/
  avsPin : List Bool
  /-- when LOOP_PINNED was last raised per quadrant; 13 R645; none -/
  avsNotice : List (Option Nat)
  /-- CLK_FQ throttle levels; 4 x 2 bits; 13 Table 13.7; reset 0 -/
  throttle : List Nat
  /-- PWR_THROTTLES; 32 bits RC; 13 Table 13.7; reset 0 -/
  throttles : Word
  /-- CLK_LOCK; 25 bits; 13 Table 13.7; DC 3 (0) -/
  pll : List Bool
  /-- management controller restarting; 12 R588; 0 -/
  mgmtRestart : Bool
  /-- thermal shutdown or cutoff holds the unit down: 0 no, 8 shutdown, 9 cutoff; 13 R642; 0 -/
  thermalDown : Nat
  /-- a sag or rail reset holds the unit down until SAG_POWER_UP; 13 R628; 0 -/
  sagDown : Bool
deriving DecidableEq, Repr

/-! ## Start-up and the Record (chapter 14) -/

/-- The persistent record's fields (14 Table 14.6). -/
structure Rec where
  seq : Word
  rtc : Nat
  cause : Nat
  sel : Nat
  trial : Bool
  tries : Nat
  anchor : Nat
  sectors : Word
  retLanes : List Nat
  retDio : List Nat
  retFeeds : List Nat
  retDram : List Nat
  hostLoss : Bool
  encScale : Nat
  retStakes : List Nat
  enc : List EncCfg
  ssi : SsiCfg
  sagTh : Nat
  zBase : Long
  sbAddr : Word
  sbPrefix : Nat
  sbAllow : List (Word × Nat)
  thresh : List (Nat × Nat)
  ckpt : List (Nat × Nat × Nat × Nat)
deriving DecidableEq, Repr

/-- A Record write in progress (14 R675, R676). -/
structure RecWrite where
  image : Rec
  bank : Nat
  page : Nat
  /-- failed verifies of this page, pages given up before it, when this page's first program began, and the sectors in
  which a page was given up -/
  tries : Nat
  pages : Nat
  since : Nat
  failed : List Nat
deriving DecidableEq, Repr

/-- A firmware slot of the flash (14 R656, R657). -/
structure Firmware where
  valid : Bool
  version : Nat
  image : Bytes
deriving DecidableEq, Repr

/-- One key of a Nyvel key bundle (14 R661). -/
structure KeyEntry where
  keyId : Long
  usage : Nat
  key : Bytes
deriving DecidableEq, Repr

/-- One copy of the Nyvel key bundle (14 R661). -/
structure Bundle where
  seq : Word
  entries : List KeyEntry
deriving DecidableEq, Repr

/-- Start-up, flash and the Keeper (chapter 14). -/
structure Boot where
  /-- start-up step in progress, 0 none, 11 done; 14 Table 14.3; 0 -/
  step : Nat
  /-- BOOT_STATUS.SLOT; 2 bits; 14 Table 14.9; DC 3 (0) -/
  slot : Nat
  /-- BOOT_STATUS.TRIAL; 14 Table 14.9; DC 3 (0) -/
  trial : Bool
  /-- BOOT_STATUS.DONE; 14 Table 14.9; reset 0 -/
  done : Bool
  /-- BOOT_STATUS.ANCHOR; 3 bits; 14 Table 14.9; reset 0 -/
  anchor : Nat
  /-- BOOT_STATUS.DISCONT; 14 Table 14.9; reset 0 -/
  discont : Bool
  /-- BOOT_STATUS.CAUSE; 8 bits; 14 R683; reset 0x01 power-on (DC 3) -/
  cause : Nat
  /-- kind of the reset this start follows (Table 14.7); 14 R667; 1 COLD -/
  kind : Nat
  /-- fallback Z: the anchor waits for the Z edge; 14 Table 14.5; 0 -/
  waitZ : Bool
  /-- firmware slots A and B; 2 x 8 MiB; 14 Table 14.1; DC 3 (A valid, version 0, empty image; B invalid) -/
  fw : List Firmware
  /-- key bundle copies: BUNDLE_SEQ, entries (KEY_ID, USAGE, key); 14 R661; DC 3 (none) -/
  keys : List (Option Bundle)
  /-- Ocfaval firmware key, one-time-programmable; 256 bits; 14 R657; DC 3 (zeros) -/
  otpFw : Bytes
  /-- Ocfaval bundle key, one-time-programmable; 256 bits; 14 R661; DC 3 (zeros) -/
  otpBundle : Bytes
  /-- serial number, hardware revision, MGMT ROM version, MAC; 15 Table 15.2; DC 3 (zeros) -/
  identity : Bytes
  /-- Keeper count C_K; 14 R664; DC 3 (0) -/
  cK : Int
  /-- Keeper high-water count H_K; 14 R664; DC 3 (0) -/
  hK : Int
  /-- Keeper copy valid; 14 R665; DC 3 (0) -/
  keeperValid : Bool
  /-- the Keeper counts (CTRL down); 14 R664; DC 3 (1) -/
  keeperOn : Bool
  /-- last Keeper sample of A and B; 14 R664; DC 3 (0, 0) -/
  keeperAB : Bool × Bool
  /-- the Keeper's SEQ, bank and page of the record in force; 14 R672; DC 3 (none) -/
  keeperRec : Option (Word × (Nat × Nat))
  /-- Keeper real-time clock: seconds set, and when; none while invalid; 14 R663; none -/
  rtc : Option (Nat × Nat)
  /-- record in force; 256 bytes; 14 R669, R671; defaults -/
  inForce : Rec
  /-- what the next record holds that no register of another chapter holds: boot slot, ANCHOR, Z_BASE, SECTORS, sideband
  fields and checkpoints; 14 R673, R676; defaults -/
  draft : Rec
  /-- bank and page of the record in force; 14 R672; DC 3 (1, 0) -/
  place : Nat × Nat
  /-- valid records of banks A and B: page and record, newest first; 14 R670; empty -/
  banks : List (List (Nat × Rec))
  /-- CAUSE of the Record write waiting, if any; 14 R676; none -/
  wanted : Option Nat
  /-- Record write in progress; 14 R675; none -/
  writing : Option RecWrite
  /-- the write in progress was interrupted by SAG_WARN; 14 R625; 0 -/
  abandon : Bool
  /-- start of the last Record write; 14 R676; none -/
  lastWrite : Option Nat
  /-- when a start-up step began; 13 R608; MODEL 2 (0) -/
  stepAt : Nat
  /-- Keeper: times of page programs in the last 24 h (REC_PAGES24); 02 R85, 14 Table 14.9; empty -/
  pageTimes : List Nat
  /-- REC_SKIPPED; 32 bits RC saturating; 14 Table 14.9; reset 0 -/
  skipped : Word
  /-- last page programmed in banks A and B; 14 R672; none -/
  lastPage : List (Option Nat)
  /-- Record sectors (bank A 0 to 15, bank B 16 to 31) that are not wholly blank; 14 R678; empty -/
  dirty : List Nat
  /-- the Keeper's record of a thermal cutoff not yet logged; 13 R641; 0 -/
  cutoff : Bool
  /-- sector being erased, and suspended; 14 R678; none -/
  erasing : Option (Nat × Bool)
  /-- REC_DEGRADED has been raised; 14 R679; 0 -/
  degraded : Bool
deriving DecidableEq, Repr

/-- The whole unit, and the queue of commands waiting for it, first in, first out. -/
structure State where
  /-- time in PTB_CLK cycles of 2.5 ns; MODEL 2 (0) -/
  now : Nat
  /-- commands waiting; MODEL 1 (empty) -/
  pending : List Instr
  /-- what has left the unit, newest first; MODEL 6 (empty) -/
  emitted : List Emit
  /-- host memory as the unit's DMA sees and writes it; MODEL 4 (empty) -/
  host : Memory
  pos : Position
  led : Ledger
  kw : Kwelo
  lanes : Lanes
  pln : Planish
  fab : Fabric
  draw : Draw
  asy : Assay
  hm : Hallmark
  dio : FieldIo
  rcp : Recipes
  flt : Faults
  pwr : Power
  boot : Boot
deriving DecidableEq, Repr

/-! ## Reset -/

def Memory.empty : Memory := ⟨[]⟩

def EncCfg.reset : EncCfg := { htl := false, inv := false, term := false, filtN := 8, zper := 0, ztol := 0 }
def AuxPort.reset : AuxPort := { cnt := 0, zcap := 0, zlast := none, loaded := none }
def SsiCfg.reset : SsiCfg :=
  { clk := 100, bits := 10, gray := false, mono := 20, checkEn := false, scale := 0, offset := 0, tol := 0 }

def Position.reset : Position :=
  { count := 0, frac := 0, hwm := 0, anchored := false, stationary := true, dirRev := false, flags := 0
    behindSeen := false, fwdEdges := [], lastEdge := 0, edges := [], lastSpeed := 0, vRaw := (0, 1), vNet := (0, 1), vFilt := (0, 1)
    zcap := 0, zlast := none, aux := List.replicate 3 AuxPort.reset, qerr := List.replicate 4 0
    qerrNotice := List.replicate 4 none, reversals := 0, overspeeds := 0, overNow := false, scale := 0, shift := 16
    spdWin := 1000, spdFilt := 4, enc := List.replicate 4 EncCfg.reset, ssi := SsiCfg.reset, pendingRp := []
    nextBoundary := 0 }

def Ledger.reset : Ledger :=
  { held := [], nextOrder := 0, vtol := 20, tamb := 50, pstatic := 0, share := [600, 300, 300, 200, 200, 200, 100]
    vadm := 0, vadmOver := 25000000000, overAdm := false, thermFreeze := none, revoked := [], revokes := 0, refusals := 0, overTiles := 0 }

def Tenant.reset (id : Nat) : Tenant :=
  { fence := 1, en := false, ringStatus := 0, sqBase := 0, cqBase := 0, sqLog := 4, cqLog := 4, sqHead := 0, sqTail := 0
    cqTail := 0, phase := true, cqHead := 0, unconsumed := [], reserved := 0, coalCount := 0, coalTime := 0
    coalPending := 0, coalSince := 0, tmo := 0, noticeMask := 0, fenced := 0, noticeLost := 0
    classMask := if id = 0 then 0xFF else 0x80, heldNotices := [], overflow := 0, noticeSeq := 0, msixEn := false
    fnMask := false, msix := List.replicate 4 { addr := 0, data := 0, masked := true }, pba := List.replicate 4 false
    outcomes := [], overwritten := 0, events := List.replicate 64 0, hostARing := 0, latches := [] }

/-- 192.168.100.10 (03 R166). -/
def sidebandAddr : Word := 0xC0A8640A

/-- The unit's own subnet, 192.168.100.0 with a prefix of 24 (03 R168). -/
def sidebandNet : Word := 0xC0A86400

def Kwelo.reset : Kwelo :=
  { tenants := (List.range 64).map Tenant.reset, numVfs := 63, outstanding := [], nextOrder := 0, linkUp := false
    link := (5, 8), badHost := [], lostAt := 0, lossReleased := false, hostLossRelease := false, sbFence := 1, sbCache := [], sbDropped := 0
    sbAddr := sidebandAddr, sbPrefix := 24
    sbAllow := List.replicate 4 (sidebandNet, 24), sbLink := false, sbActive := none
    waitingReplies := [] }

def LaneCfg.reset : LaneCfg :=
  { camram := false, rateMin := 1, rateMax := 7, group := 1, tg := 0, crcLim := 4, trigMax := 0
    vc := List.replicate 64 0, sid := List.replicate 16 (0xFF, 0) }

def Lane.reset : Lane :=
  { state := .disabled, cfg := LaneCfg.reset, since := 0, crcNext := none, rate := 0, agreed := none, cap := none, probed := none, probes := 0, bitExpiries := 0
    afterUpset := false, upsetInjected := false, lostLines := 0, cameraChanged := false, capability := none, lock := false, missedSync := 0, rx := [], rxNeed := 0, rxTail := 0, rxHold := false, rxDrop := 0, flags := 0
    pinned := false, eq := [0, 0, 0], eqMin := [0, 0, -32], eqMax := [31, 63, 31], eqNotice := [none, none, none]
    bits := 0, errs := 0, ctr := List.replicate 11 0, crcWindow := 0, prbs := 0, prbsRate := 0, prbsAction := 0
    gen := 0, chk := 0, prbsLock := false, chkRun := 0, chkBlock := (0, 0), injectNext := false, inject := (0, 0, 0), injectCount := 0, loopback := 0, eye := none, sent := [], waiting := none
    busyUntil := 0, txq := [], lastTrig := none, ctrl := [], cxp := [], cxpTarget := (0, 0) }

def TrigGen.reset : TrigGen := { p := 1048576, f := 0, scan := 0, nextK := 0, changed := false }

def Lanes.reset : Lanes := { lane := List.replicate 24 Lane.reset, tg := List.replicate 8 TrigGen.reset }

def Channel.reset : Channel :=
  { view := none, replace := false, twin := none, format := 1, flip := false, shift := 0, width := 0, ofs := 0
    scale := 65536, slots := [], lines := [], history := [], temporal := [], settled := [], dark := [], flat := [], defects := []
    late := 0, dup := 0, conc := 0, concNotice := none, runs := [] }

def View.reset : View :=
  { configured := false, bottom := false, tg := 0, tileFmt := 1, width := 512, tileW := 512, tileH := 256, concLimit := 0
    maxGap := 8, kernel := (256, 0, 0), tempA := 0, gate := 0x400, pb := 12, prange := (8192, 32768), lk := 4
    levelTarget := 0x8000, grange := (2048, 8192), g := 4096, pinned := false, pinNotice := none, profile := []
    levelSum := (0, 0), rowLines := [], rowOpen := none, rowReplaced := false, placed := []
    statRing := 0, statBlock := 1024, statBinW := 64, statWidx := 0, statRidx := 0, statSeq := 0, statLines := []
    replaced := 0, statLost := 0 }

def Planish.reset : Planish :=
  { chan := List.replicate 32 Channel.reset, view := List.replicate 4 View.reset, taps := [], due := [] }

def Bench.reset : Bench :=
  { state := .free, groups := 0, recipe := 0, temper := false, tenant := 0, handle := 0, gen := 1, share := 0, image := []
    cert := none, slots := [[], []], slot := 0, prevSlot := 0, change := none, queue := [], running := [], rowSlot := []
    source := [], copies := [none, none, none], back := .free, releasing := false, releaseRefs := [], loads := false, loadRef := none, resetting := none, tiles := 0, ctr := List.replicate 7 0 }

def Fabric.reset : Fabric :=
  { bench := List.replicate 16 Bench.reset, retiredStakes := [], lists := [], lastServed := List.replicate 7 63
    chipLoss := none, chipSince := 0, cutOff := [], chipLosses := 0 }

def DramChan.reset : DramChan := { retired := false, poison := [], allPoison := false, corr := 0, unc := 0 }

def Draw.reset : Draw :=
  { mem := Memory.empty, objs := [], nextOrder := 0, chan := List.replicate 4 DramChan.reset, streams := []
    tokS := List.replicate 8 0, tokI := List.replicate 8 0, waiting := [], cycleTok := (List.replicate 8 0, List.replicate 8 0, [])
    cycleServed := (0, []), slack := List.replicate 8 0
    late := List.replicate 8 0, sheetCorr := 0, ranges := List.replicate 16 0xE
    rangeMode := [false, false, false, true] }

def AssayUnit.reset : AssayUnit := { ops := 0, nanKeys := 0, badBox := 0, faults := 0 }

def Assay.reset : Assay :=
  { lib := [], ranges := [], rt := [], rtUnit := AssayUnit.reset, rtLast := none, qUnit := AssayUnit.reset, eccCorr := 0, fenced := 0 }

def Hallmark.reset : Hallmark :=
  { parts := [], ingest := [], acts := [], nparts := 0, verdicts := [0, 0, 0], actCtr := [0, 0, 0, 0]
    feedRef := List.replicate 16 0, tileCtr := [0, 0, 0], lost := [], ringIdx := [], actSeq := [] }

/-- DIO_CFGn at reset: LIMIT 10, TS 10, rest 0 (10 Table 10.8). -/
def dioCfgReset : Long := 0x0A0A00

def DioChan.reset : DioChan :=
  { cfg := dioCfgReset, count := 0, y := false, raw := false, out := false, brk := false, invalid := false, cls := (0, 0)
    openload := false, short := false, shorted := false, causes := 0x04, retired := false, meas := 0, edges := 0, shorts := 0, cplErr := 0
    edgeNotice := none, sampled := none, dueAt := none, keepalive := false, lastFrame := 0, framesSince := 0, supplySince := none, cfgLost := false }

def Feed.reset : Feed :=
  { closed := false, trip := false, tripped := false, tripAt := 0, retired := false, unpowered := false
    trips := 0 }

def FieldIo.reset : FieldIo :=
  { chan := List.replicate 32 DioChan.reset, feed := List.replicate 16 Feed.reset, sagSafe := false, fieldV := [0, 0]
    edgeLost := 0, safeSkip := 0 }

def Recipes.reset : Recipes :=
  { recipes := [], dict := none, select := [], ctr := List.replicate 7 0, cacheCfg := none, cache := [], captureSeq := 0
    epoch := none, lateBatch := [], cands := [], shadow := none }

def Faults.reset : Faults :=
  { thresh := List.replicate 5 (8, 60), upsets := [], log := [], nextSeq := 0, keeper := [], unread := false
    unreadFatal := false, fatal := false, restarting := false, restarts := [], ctrlRst := 0, equivLost := 0
    deferred := [], injections := [], badCopy := none }

def Power.reset : Power :=
  { domains := List.replicate 13 false, sag := false, railWarn := [], inOk := [false, false], overV := [false, false]
    therm := false, fanFailed := [], fans := [0, 0, 0, 0], keeperLow := false, vin := [0, 0], vbus := 0, sagTh := 18500
    holdup := 0xFFFF, sagAt := (none, none), temps := List.replicate 8 0, rails := List.replicate 12 0
    avs := List.replicate 4 850, vmin := List.replicate 4 650, vmax := List.replicate 4 850
    avsPin := List.replicate 4 false, avsNotice := List.replicate 4 none, throttle := List.replicate 4 0, throttles := 0
    pll := List.replicate 25 false, mgmtRestart := false, thermalDown := 0, sagDown := false }

/-- The record the unit uses when flash holds none (14 R671). -/
def Rec.reset : Rec :=
  { seq := 0, rtc := 0, cause := 7, sel := 0, trial := false, tries := 0, anchor := 0, sectors := 0, retLanes := []
    retDio := [], retFeeds := [], retDram := [], hostLoss := false, encScale := 0, retStakes := []
    enc := List.replicate 4 EncCfg.reset, ssi := SsiCfg.reset, sagTh := 18500, zBase := 0, sbAddr := sidebandAddr
    sbPrefix := 24, sbAllow := List.replicate 4 (sidebandNet, 24), thresh := List.replicate 5 (8, 60)
    ckpt := List.replicate 4 (0, 0, 0, 0) }

def Boot.reset : Boot :=
  { step := 0, slot := 0, trial := false, done := false, anchor := 0, discont := false, cause := 1, kind := 1
    waitZ := false, fw := [{ valid := true, version := 0, image := [] }, { valid := false, version := 0, image := [] }], keys := [none, none]
    otpFw := List.replicate 32 0, otpBundle := List.replicate 32 0, identity := List.replicate 34 0, cK := 0
    hK := 0, keeperValid := false, keeperOn := true, keeperAB := (false, false), keeperRec := none, rtc := none, inForce := Rec.reset, draft := Rec.reset
    place := (1, 0), banks := [[], []], wanted := none, writing := none, abandon := false, lastWrite := none
    stepAt := 0, pageTimes := [], skipped := 0, lastPage := [none, none], dirty := [], cutoff := false, erasing := none, degraded := false }

/-- The unit right after reset, before POWER_ON starts the steps of Table 14.3 (14 R652): every register at its reset
value, no domain on, nothing held, nothing queued. -/
def State.reset : State :=
  { now := 0, pending := [], emitted := [], host := Memory.empty, pos := Position.reset, led := Ledger.reset
    kw := Kwelo.reset, lanes := Lanes.reset, pln := Planish.reset, fab := Fabric.reset, draw := Draw.reset
    asy := Assay.reset, hm := Hallmark.reset, dio := FieldIo.reset, rcp := Recipes.reset, flt := Faults.reset
    pwr := Power.reset, boot := Boot.reset }

end Sys2Proof.Machine
end

