-- ==== Sys2Proof/Machine/Memory.lean ====
section
/-! DEFINITION. The sparse memories: host memory and the unit's SHEET and INGOT. One canonical form: addresses strictly
rising, no listed byte 0, which an unlisted address reads as (log entry 11). -/

namespace Sys2Proof.Machine

/-- The byte at `a` in a list of cells. -/
def cellAt (cells : List Host.Cell) (a : Nat) : Byte :=
  match cells with
  | [] => 0
  | (k, v) :: r => if k = a then v else cellAt r a

/-- The cells with byte `v` at `a`; a byte 0 leaves no entry. -/
def setCell (cells : List Host.Cell) (a : Nat) (v : Byte) : List Host.Cell :=
  match cells with
  | [] => if v = 0 then [] else [(a, v)]
  | (k, x) :: r =>
    if k < a then (k, x) :: setCell r a v
    else if k = a then (if v = 0 then r else (a, v) :: r)
    else (if v = 0 then (k, x) :: r else (a, v) :: (k, x) :: r)

/-- Every address of the list is above `lo` and the list is in canonical form. -/
def cellsAbove (lo : Nat) (cells : List Host.Cell) : Bool :=
  match cells with
  | [] => true
  | (k, v) :: r => decide (lo < k) && (v != 0) && cellsAbove k r

/-- The canonical form of a memory. -/
def Memory.wf (m : Memory) : Bool :=
  match m.cells with
  | [] => true
  | (k, v) :: r => (v != 0) && cellsAbove k r

/-- The byte at an address. -/
def memGet (m : Memory) (a : Nat) : Byte := cellAt m.cells a

/-- The memory with one byte written. -/
def memSet (m : Memory) (a : Nat) (v : Byte) : Memory := ⟨setCell m.cells a v⟩

/-- `n` bytes from `a` upwards. -/
def memRead (m : Memory) (a n : Nat) : Bytes := (List.range n).map fun i => memGet m (a + i)

/-- The bytes written from `a` upwards. -/
def memWrite (m : Memory) (a : Nat) (b : Bytes) : Memory :=
  match b with
  | [] => m
  | x :: r => memWrite (memSet m a x) (a + 1) r

/-- Several pieces written, in order. -/
def memPlace (m : Memory) (l : List (Nat × Bytes)) : Memory :=
  match l with
  | [] => m
  | (a, b) :: r => memPlace (memWrite m a b) r

end Sys2Proof.Machine
end

