-- ==== Sys2Proof/Machine/Opcodes.lean ====
section
/-! DEFINITION. The opcode table of chapter 15: which opcodes exist, their level, the length of their parameters, and the
reserved parameter bytes that step 5 of Table 3.3 checks. -/

namespace Sys2Proof.Machine

/-! ## Status codes -/

def stOK : Half := 0x0000
def stACCEPTED : Half := 0x0001
def stBAD_OPCODE : Half := 0x0100
def stBAD_PARAM : Half := 0x0101
def stBAD_LENGTH : Half := 0x0102
def stBAD_CRC : Half := 0x0103
def stDENIED : Half := 0x0200
def stREFUSED_BUDGET : Half := 0x0300
def stREFUSED_CERT : Half := 0x0301
def stREFUSED_HORIZON : Half := 0x0302
def stBUSY : Half := 0x0400
def stFENCED : Half := 0x0500
def stTIMED_OUT : Half := 0x0501
def stRETIRED : Half := 0x0600
def stDEGRADED : Half := 0x0700
def stINTERNAL : Half := 0x0F00

/-- Privilege level of an opcode (03 R137, 15 R688). -/
inductive Level where
  | any | admin | sb | anySb
deriving DecidableEq, Repr

/-- A row of the group tables. `len` is the fixed part, the size of a repeated entry, and the least and greatest number
of entries (15 R689); `res` the reserved bits, as parameter byte and mask. -/
structure OpRow where
  code : Nat
  level : Level
  len : Nat × Nat × Nat × Nat
  res : List (Nat × Nat)
deriving DecidableEq, Repr

/-- `n` whole reserved bytes from `off`. -/
def rz (off n : Nat) : List (Nat × Nat) := (List.range n).map fun i => (off + i, 0xFF)

def opSystem : List OpRow :=
  [ ⟨0x0101, .anySb, (0, 4, 0, 1), rz 1 3⟩,
    ⟨0x0102, .anySb, (0, 0, 0, 0), []⟩,
    ⟨0x0103, .any, (0, 0, 0, 0), []⟩,
    ⟨0x0104, .any, (8, 0, 0, 0), (4, 0xFE) :: rz 5 3⟩,
    ⟨0x0110, .sb, (4, 0, 0, 0), rz 1 3⟩,
    ⟨0x0120, .admin, (4, 0, 0, 0), rz 2 2⟩,
    ⟨0x0121, .admin, (4, 0, 0, 0), rz 1 3⟩ ]

def opPosLedg : List OpRow :=
  [ ⟨0x0201, .any, (0, 0, 0, 0), []⟩,
    ⟨0x0202, .admin, (4, 0, 0, 0), []⟩,
    ⟨0x0203, .admin, (16, 0, 0, 0), rz 5 3⟩,
    ⟨0x0204, .admin, (8, 0, 0, 0), rz 2 2⟩,
    ⟨0x0205, .admin, (12, 0, 0, 0), rz 1 3⟩,
    ⟨0x0206, .admin, (20, 0, 0, 0), rz 7 1⟩,
    ⟨0x0301, .any, (4, 0, 0, 0), rz 2 2⟩,
    ⟨0x0302, .admin, (20, 0, 0, 0), rz 3 1 ++ rz 18 2⟩,
    ⟨0x0303, .any, (4, 0, 0, 0), []⟩,
    ⟨0x0304, .any, (4, 0, 0, 0), rz 2 2⟩ ]

def opLanes : List OpRow :=
  [ ⟨0x0401, .any, (4, 0, 0, 0), rz 1 3⟩,
    ⟨0x0402, .admin, (108, 0, 0, 0), []⟩,
    ⟨0x0403, .admin, (4, 0, 0, 0), rz 2 2⟩,
    ⟨0x0410, .admin, (12, 0, 0, 0), rz 1 3⟩,
    ⟨0x0420, .admin, (4, 1, 1, 1024), rz 1 1⟩,
    ⟨0x0430, .admin, (4, 0, 0, 0), []⟩,
    ⟨0x0431, .admin, (8, 0, 0, 0), rz 3 1 ++ rz 6 2⟩,
    ⟨0x0432, .admin, (4, 0, 0, 0), rz 2 2⟩,
    ⟨0x0440, .admin, (8, 0, 0, 0), []⟩,
    ⟨0x0450, .admin, (8, 0, 0, 0), rz 7 1⟩,
    ⟨0x0460, .admin, (4, 0, 0, 0), rz 1 3⟩ ]

def opImage : List OpRow :=
  [ ⟨0x0501, .any, (4, 0, 0, 0), rz 1 3⟩,
    ⟨0x0502, .admin, (20, 0, 0, 0), rz 7 1 ++ rz 10 2⟩,
    ⟨0x0503, .admin, (16, 0, 0, 0), rz 13 3⟩,
    ⟨0x0504, .admin, (32, 0, 0, 0), []⟩,
    ⟨0x0505, .admin, (16, 0, 0, 0), rz 1 1 ++ rz 7 1⟩,
    ⟨0x0506, .admin, (8, 0, 0, 0), rz 1 1⟩,
    ⟨0x0510, .admin, (12, 0, 0, 0), rz 1 1 ++ rz 6 2⟩,
    ⟨0x0520, .any, (16, 0, 0, 0), rz 2 2⟩,
    ⟨0x0521, .any, (4, 0, 0, 0), []⟩ ]

def opFabric : List OpRow :=
  [ ⟨0x0601, .any, (0, 0, 0, 0), []⟩,
    ⟨0x0602, .any, (40, 0, 0, 0), rz 1 3 ++ rz 28 4⟩,
    ⟨0x0603, .any, (32, 0, 0, 0), rz 1 7 ++ rz 20 4⟩,
    ⟨0x0604, .any, (4, 0, 0, 0), rz 1 3⟩,
    ⟨0x0605, .any, (4, 0, 0, 0), rz 1 3⟩,
    ⟨0x0606, .any, (4, 0, 0, 0), rz 1 3⟩,
    ⟨0x0610, .any, (32, 0, 0, 0), []⟩,
    ⟨0x0620, .admin, (4, 0, 0, 0), rz 1 3⟩ ]

def opDraw : List OpRow :=
  [ ⟨0x0701, .any, (0, 0, 0, 0), []⟩,
    ⟨0x0702, .any, (12, 0, 0, 0), [(8, 0x80), (9, 0xFF)]⟩,
    ⟨0x0703, .any, (4, 0, 0, 0), []⟩,
    ⟨0x0710, .any, (32, 0, 0, 0), []⟩,
    ⟨0x0720, .any, (16, 0, 0, 0), []⟩,
    ⟨0x0721, .any, (4, 0, 0, 0), []⟩,
    ⟨0x0730, .admin, (16, 0, 0, 0), rz 1 7 ++ [(8, 0xF0), (9, 0x0F)]⟩,
    ⟨0x0731, .admin, (4, 0, 0, 0), rz 2 2⟩,
    ⟨0x0740, .admin, (4, 0, 0, 0), rz 1 3⟩,
    ⟨0x0801, .any, (0, 0, 0, 0), []⟩,
    ⟨0x0802, .admin, (12, 0, 0, 0), rz 10 2⟩,
    ⟨0x0810, .any, (32, 0, 0, 0), []⟩ ]

def opHmDio : List OpRow :=
  [ ⟨0x0901, .any, (4, 0, 0, 0), rz 1 3⟩,
    ⟨0x0902, .any, (12, 0, 0, 0), []⟩,
    ⟨0x0910, .any, (32, 0, 0, 0), []⟩,
    ⟨0x0911, .any, (4, 0, 0, 0), []⟩,
    ⟨0x0920, .any, (12, 0, 0, 0), rz 5 3⟩,
    ⟨0x0930, .any, (32, 0, 0, 0), []⟩,
    ⟨0x0A01, .any, (0, 0, 0, 0), []⟩,
    ⟨0x0A02, .admin, (16, 0, 0, 0), rz 1 7⟩,
    ⟨0x0A20, .admin, (4, 0, 0, 0), rz 2 2⟩,
    ⟨0x0A30, .sb, (4, 0, 0, 0), []⟩,
    ⟨0x0A31, .sb, (8, 0, 0, 0), rz 5 3⟩ ]

def opRecipes : List OpRow :=
  [ ⟨0x0B01, .any, (4, 0, 0, 0), []⟩,
    ⟨0x0B02, .any, (8, 0, 0, 0), []⟩,
    ⟨0x0B03, .any, (16, 0, 0, 0), (12, 0xFE) :: rz 13 3⟩,
    ⟨0x0B04, .any, (4, 0, 0, 0), []⟩,
    ⟨0x0B10, .admin, (16, 0, 0, 0), rz 12 4⟩,
    ⟨0x0B11, .admin, (4, 8, 0, 256), rz 2 2⟩,
    ⟨0x0B12, .any, (16, 1, 1, 1024), [(1, 0xFC), (2, 0xF0)] ++ rz 3 1 ++ rz 10 6⟩,
    ⟨0x0B20, .admin, (12, 0, 0, 0), rz 5 1⟩,
    ⟨0x0B21, .any, (4, 12, 1, 340), rz 2 2⟩,
    ⟨0x0B22, .any, (48, 0, 0, 0), rz 12 4⟩,
    ⟨0x0B23, .any, (8, 0, 0, 0), []⟩,
    ⟨0x0B24, .any, (8, 0, 0, 0), []⟩,
    ⟨0x0B25, .any, (4, 0, 0, 0), []⟩,
    ⟨0x0B30, .any, (32, 0, 0, 0), []⟩ ]

def opFaultPower : List OpRow :=
  [ ⟨0x0C01, .sb, (8, 0, 0, 0), rz 6 2⟩,
    ⟨0x0C02, .any, (0, 0, 0, 0), []⟩,
    ⟨0x0C10, .admin, (4, 0, 0, 0), []⟩,
    ⟨0x0C20, .admin, (8, 0, 0, 0), rz 1 1⟩,
    ⟨0x0D01, .sb, (0, 0, 0, 0), []⟩,
    ⟨0x0D02, .sb, (0, 0, 0, 0), []⟩,
    ⟨0x0D10, .sb, (4, 0, 0, 0), [(2, 0xFE), (3, 0xFF)]⟩,
    ⟨0x0D20, .admin, (4, 0, 0, 0), rz 2 2⟩,
    ⟨0x0D21, .admin, (8, 0, 0, 0), rz 1 1 ++ rz 6 2⟩,
    ⟨0x0E01, .sb, (0, 0, 0, 0), []⟩,
    ⟨0x0E02, .any, (0, 0, 0, 0), []⟩,
    ⟨0x0E10, .admin, (52, 0, 0, 0), [(0, 0xF8), (1, 0xF8)] ++ rz 2 2 ++ rz 17 3 ++ rz 25 3 ++ rz 33 3 ++ rz 41 3 ++ rz 49 3⟩,
    ⟨0x0E20, .admin, (8, 0, 0, 0), rz 4 4⟩,
    ⟨0x0E21, .admin, (0, 0, 0, 0), []⟩,
    ⟨0x0E22, .admin, (0, 0, 0, 0), []⟩,
    ⟨0x0E30, .admin, (4, 0, 0, 0), []⟩,
    ⟨0x0E31, .admin, (4, 0, 0, 0), []⟩ ]

/-- Every opcode the unit recognises (15 R687). -/
def opTable : List OpRow :=
  opSystem ++ opPosLedg ++ opLanes ++ opImage ++ opFabric ++ opDraw ++ opHmDio ++ opRecipes ++ opFaultPower

/-- The row of an opcode. -/
def opRow (code : Nat) : Option OpRow := opTable.find? (·.code == code)

/-- The list opcodes (06 R323). -/
def listOpcodes : List Nat := [0x0504, 0x0610, 0x0710, 0x0810, 0x0930, 0x0B30]

/-- The opcodes the sideband principal may issue (03 Table 3.10). -/
def sbOpcodes : List Nat := [0x0101, 0x0102, 0x0110, 0x0C01, 0x0D01, 0x0D02, 0x0D10, 0x0E01, 0x0A30, 0x0A31]

/-- The parameter length agrees with the opcode's row (15 R689). -/
def opLenOk (row : OpRow) (n : Nat) : Bool :=
  let (f, e, lo, hi) := row.len
  if e = 0 then n == f
  else decide (f + e * lo ≤ n) && decide (n ≤ f + e * hi) && (n - f) % e == 0

/-- Reserved bits inside the repeated entries of TMP_LABEL (15 Table 15.14). -/
def entryReserved (code n : Nat) : List (Nat × Nat) :=
  if code = 0x0B21 then
    (List.range ((n - 4) / 12)).flatMap fun i => [(4 + 12 * i + 5, 0xFF), (4 + 12 * i + 10, 0xFF), (4 + 12 * i + 11, 0xFF)]
  else []

/-- Reserved bits of a command-list descriptor; START_SPOS is one while LFLAGS.START is clear (06 R323, Table 6.9). -/
def descReserved (params : Bytes) : List (Nat × Nat) :=
  (3, 0xFE) :: rz 24 8 ++ (if bit (fld params 3 1) 0 then [] else rz 16 4)

/-- Offset, from the packet header, of the first reserved parameter byte that is not zero (step 5 of Table 3.3). -/
def badReserved (code : Nat) (list : Bool) (params : Bytes) : Option Nat :=
  match opRow code with
  | none => none
  | some row =>
    let all := row.res ++ entryReserved code params.length ++
      (if list && listOpcodes.contains code then descReserved params else [])
    (all.find? fun (o, m) => Nat.land (fld params o 1) m != 0).map fun (o, _) => o + 0x20

/-- Opcodes of level A that change configuration: every one but a control transaction and an eye scan (12 R589, log
entry 20). -/
def configOpcode (code : Nat) : Bool :=
  match opRow code with
  | some row => decide (row.level = .admin) && code != 0x0420 && code != 0x0440
  | none => false

/-- Opcodes that request an admission (15 R694). -/
def admissionOpcodes : List Nat :=
  [0x0602, 0x0603, 0x0606, 0x0910, 0x0B02, 0x0B20, 0x0B22, 0x0B23, 0x0520, 0x0720]

end Sys2Proof.Machine
end

