-- ==== Sys2Proof/Machine/Ops.lean ====
section
/-! DEFINITION. The operations every command shares: reading and writing the parts of State, positions, MSI-X, the fault
log, notices, completion entries, replies, fences and the checks made before an opcode's own. -/

namespace Sys2Proof.Machine

/-! ## Parts of the state -/

def State.setNow (s : State) (v : Nat) : State := { s with now := v }
def State.setEmitted (s : State) (v : List Emit) : State := { s with emitted := v }
def State.setHost (s : State) (v : Memory) : State := { s with host := v }
def State.setPos (s : State) (v : Position) : State := { s with pos := v }
def State.setLed (s : State) (v : Ledger) : State := { s with led := v }
def State.setKw (s : State) (v : Kwelo) : State := { s with kw := v }
def State.setLanes (s : State) (v : Lanes) : State := { s with lanes := v }
def State.setPln (s : State) (v : Planish) : State := { s with pln := v }
def State.setFab (s : State) (v : Fabric) : State := { s with fab := v }
def State.setDraw (s : State) (v : Draw) : State := { s with draw := v }
def State.setAsy (s : State) (v : Assay) : State := { s with asy := v }
def State.setHm (s : State) (v : Hallmark) : State := { s with hm := v }
def State.setDio (s : State) (v : FieldIo) : State := { s with dio := v }
def State.setRcp (s : State) (v : Recipes) : State := { s with rcp := v }
def State.setFlt (s : State) (v : Faults) : State := { s with flt := v }
def State.setPwr (s : State) (v : Power) : State := { s with pwr := v }
def State.setBoot (s : State) (v : Boot) : State := { s with boot := v }

/-- Time does not run backwards: an event at `t` moves it on to `t` at least (log entry 2). -/
def State.at_ (s : State) (t : Nat) : State := s.setNow (max s.now t)

/-- Something leaves the unit (log entry 6). -/
def State.emit (s : State) (e : Emit) : State := s.setEmitted (e :: s.emitted)

/-- The control processors are held: they restart, or the unit is in the fatal state (12 R583, R585). -/
def ctrlHeld (s : State) : Bool := s.flt.restarting || s.flt.fatal

/-- A power domain of 13 Table 13.2 is on, by its code. -/
def domOn (s : State) (code : Nat) : Bool := getI s.pwr.domains code false

/-! ## Positions -/

/-- The PTB: 16 x C and the fraction, modulo 2^64 (01 R27, R30, R36). -/
def ptbOf (p : Position) : Long := BitVec.ofInt 64 (16 * p.count + p.frac)

def ptb (s : State) : Long := ptbOf s.pos

/-- Low 32 bits of a position. -/
def low32 (a : Long) : Word := a.setWidth 32

/-- The current SPOS. -/
def spos (s : State) : Word := low32 (ptb s)

/-- `a` lies after `b`: their difference, as a signed 64-bit value, is positive (01 R40; log entry 13). -/
def after (a b : Long) : Bool := decide (0 < (a - b).toInt)

/-- The HWM has reached `p` (01 R47). -/
def reached (s : State) (p : Long) : Bool := !after p s.pos.hwm

/-- The 64-bit position nearest to the PTB whose low 32 bits are the stamp (01 R40). -/
def expand (s : State) (w : Word) : Long := ptb s + (w - spos s).signExtend 64

/-- The stamp is no more than 2^30 pu after the current SPOS (00 R8, R9; 01 R41). -/
def inHorizon (s : State) (w : Word) : Bool :=
  let d := (w - spos s).toNat
  !(decide (2 ^ 30 < d) && decide (d ≤ 2 ^ 31))

/-- The first multiple of 2^SHIFT after `p` (01 R72). -/
def boundaryAfter (shift : Nat) (p : Long) : Long :=
  BitVec.ofNat 64 ((p.toNat / 2 ^ shift + 1) * 2 ^ shift)

/-- `a` is a boundary of the window length 2^SHIFT. -/
def isBoundary (shift : Nat) (a : Long) : Bool := a.toNat % 2 ^ shift == 0

/-- The first boundary of the window length 2^SHIFT at or after `p` (01 R77). -/
def boundaryAt (shift : Nat) (p : Long) : Long := if isBoundary shift p then p else boundaryAfter shift p

/-! ## Tenants -/

def ten (s : State) (n : Nat) : Tenant := getI s.kw.tenants n (Tenant.reset n)

def modTen (n : Nat) (f : Tenant → Tenant) (s : State) : State :=
  s.setKw { s.kw with tenants := upd s.kw.tenants n f }

/-- The function of tenant `n` exists (03 R135, R140). -/
def tenantExists (s : State) (n : Nat) : Bool := decide (n ≤ s.kw.numVfs)

/-- A fence generation after a bump: one more modulo 2^32, skipping 0 (03 R155). -/
def nextFence (w : Word) : Word := if w + 1 = 0 then 1 else w + 1

/-- Fence generation of a principal; 64 is the sideband (03 R155). -/
def fenceOf (s : State) (n : Nat) : Word := if n = 64 then s.kw.sbFence else (ten s n).fence

/-- One late lower-level completion of the tenant discarded (03 R158). -/
def countFenced (n : Nat) (s : State) : State := modTen n (fun t => { t with fenced := satInc t.fenced }) s

/-! ## MSI-X (03 R149, 16 R730) -/

/-- A message on the vector must wait: MSI-X disabled, the function masked or the vector masked. -/
def vectorHeld (t : Tenant) (v : Nat) : Bool :=
  !t.msixEn || t.fnMask || (getI t.msix v { addr := 0, data := 0, masked := true }).masked

/-- Signal a vector: send the message, or set its pending bit. Vector 3 is never signalled. -/
def msixSend (n v : Nat) (s : State) : State :=
  if v = 3 then s
  else if vectorHeld (ten s n) v then modTen n (fun t => { t with pba := upd t.pba v fun _ => true }) s
  else s.emit (.msix n v)

/-! ## The fault log (12 R599, R600) -/

/-- Seconds since 2000 of the Keeper clock, 0 while it is invalid (14 R663). -/
def rtcSeconds (s : State) : Nat :=
  match s.boot.rtc with
  | none => 0
  | some (v, since) => v + (s.now - since) / sTicks 1

/-- A log entry at the present position, to be completed by its writer; DETECT holds the class in its high byte (12 Table 12.6). -/
def entryOf (s : State) (cls kind inst : Nat) : LogEntry :=
  { seq := 0, rtc := 0, spos := spos s, cls := cls, kind := kind, inst := inst, detect := cls * 256, retries := 0, fflags := 0
    upsets := 0, code := 0, affected := 0 }

/-- Write a fault-log entry: SEQ and RTC are filled in, the newest 4,096 are kept, and 32 in the Keeper. -/
def logFault (e : LogEntry) (s : State) : State :=
  let e := { e with seq := s.flt.nextSeq, rtc := rtcSeconds s }
  s.setFlt { s.flt with
    log := (e :: s.flt.log).take 4096
    keeper := (e :: s.flt.keeper).take 32
    nextSeq := s.flt.nextSeq + 1
    unread := true
    unreadFatal := s.flt.unreadFatal || e.kind == 7
    equivLost := if bit e.fflags 0 then satInc s.flt.equivLost else s.flt.equivLost }

/-! ## Completion entries (03 R132, R147) -/

/-- Slots of the completion ring. -/
def cqSlots (t : Tenant) : Nat := 2 ^ t.cqLog

/-- An unreserved completion slot is free (03 R146, R164). -/
def slotFree (t : Tenant) : Bool := decide (t.unconsumed.length + t.reserved < cqSlots t)

/-- The tenant's completion ring may be written: link up, rings enabled. -/
def ringLive (s : State) (n : Nat) : Bool := s.kw.linkUp && (ten s n).en

/-- An access to `len` bytes of host memory at `addr` ends in an error (03 R151; log entry 4). -/
def hostBad (s : State) (addr len : Nat) : Bool :=
  s.kw.badHost.any fun (a, n) => decide (addr < a + n) && decide (a < addr + len)

/-- The write of the next completion entry would end in an error (03 R151). -/
def slotBad (s : State) (n : Nat) : Bool := hostBad s ((ten s n).cqBase.toNat + 64 * (ten s n).cqTail) 64

/-- Write a 56-byte body into the next completion slot with PHASE and CRC, and advance TAIL (03 R147). -/
def writeSlot (n vector : Nat) (body : Bytes) (s : State) : State :=
  let t := ten s n
  let entry := withCrc (padTo 56 body ++ le4 (b2n t.phase))
  let last := decide (t.cqTail + 1 = cqSlots t)
  modTen n (fun t => { t with
      cqTail := if last then 0 else t.cqTail + 1
      phase := if last then !t.phase else t.phase
      unconsumed := t.unconsumed ++ [vector] })
    (s.setHost (memWrite s.host (t.cqBase.toNat + 64 * t.cqTail) entry))

/-- The body of a notice entry (03 Table 3.8). -/
def noticeBody (t : Tenant) (nt : Notice) : Bytes :=
  [0x01, 0x01] ++ le2 nt.code.toNat ++ le2 nt.seq.toNat ++ le2 0 ++ le4 nt.spos.toNat ++ le4 t.fence.toNat ++
    padTo 40 nt.data

/-! ## Outstanding packets and replies -/

/-- The outstanding packet a row carries out (03 R154). -/
def findP (r : Ref) (s : State) : Option Packet :=
  s.kw.outstanding.find? fun p => p.principal == r.principal && p.tag == r.tag

def Packet.ref (p : Packet) : Ref := { principal := p.principal, tag := p.tag }

def sameRef (r : Ref) (p : Packet) : Bool := p.principal == r.principal && p.tag == r.tag

/-- Change the outstanding packet of a reference. -/
def modP (r : Ref) (f : Packet → Packet) (s : State) : State :=
  s.setKw { s.kw with outstanding := s.kw.outstanding.map fun p => if sameRef r p then f p else p }

/-- The packet is outstanding no more. -/
def dropP (r : Ref) (s : State) : State :=
  s.setKw { s.kw with outstanding := s.kw.outstanding.filter fun p => !sameRef r p }

/-- The packet has reached its commit point: generation and SPOS are kept for its reply (03 R134, R157). -/
def commitP (r : Ref) (s : State) : State :=
  modP r (fun p => { p with started := true, committed := true, commitFence := fenceOf s r.principal, commitSpos := spos s }) s

/-- Enter an outcome in the tenant's outcome log: 256 entries, the oldest overwritten and counted (03 R177, 15 R699). -/
def logOutcome (n : Nat) (e : OutcomeEntry) (s : State) : State :=
  modTen n (fun t => { t with
    outcomes := (t.outcomes ++ [e]).drop (t.outcomes.length + 1 - 256)
    overwritten := if 256 ≤ t.outcomes.length then min 0xFFFF (t.overwritten + 1) else t.overwritten }) s

/-- Clear EN: no fetching, and replies of packets fetched before, those that wait out a restart among them, go to the outcome
log (03 R151, R177). -/
def clearEn (n : Nat) (s : State) : State :=
  let s1 := modTen n (fun t => { t with en := false, reserved := 0 }) s
  let orphaned (p : Packet) : Packet := if p.principal = n then { p with orphan := true } else p
  s1.setKw { s1.kw with
    outstanding := s1.kw.outstanding.map orphaned
    waitingReplies := s1.kw.waitingReplies.map fun w => { w with packet := orphaned w.packet } }

def setStatus (n bitNo : Nat) (s : State) : State :=
  modTen n (fun t => { t with ringStatus := t.ringStatus ||| (1 <<< bitNo) }) s

/-- A BENCH_RELEASE that waits for LOADING or RESETTING to end is withdrawn (03 R157, 06 R316). -/
def dropRelease (r : Ref) (b : Bench) : Bench := { b with releaseRefs := b.releaseRefs.filter fun x => x != r }

/-- What a packet has queued is withdrawn without effect: its list, and a release that waits (03 R157, R159; 06 R316, R329). -/
def withdraw (r : Ref) (s : State) : State :=
  s.setFab { s.fab with
    lists := s.fab.lists.filter fun l => !(l.ref == r)
    bench := s.fab.bench.map (dropRelease r) }

/-- Packets cancelled by the bump of a ring error: with EN clear, each outcome enters the outcome log (03 R151, R157, R177). -/
def logCancelled (l : List Packet) (s : State) : State :=
  match l with
  | [] => s
  | p :: r => logCancelled r (logOutcome p.principal
      { tag := p.tag, opcode := p.opcode, status := stFENCED, fence := p.fence, spos := spos s } (withdraw p.ref (dropP p.ref s)))

/-- A ring error: EN cleared, the cause set, vector 2 signalled, the fence bumped (03 R151, R155, R157). -/
def ringError (n bitNo : Nat) (s : State) : State :=
  let s1 := msixSend n 2 (setStatus n bitNo (clearEn n s))
  let old := s1.kw.outstanding.filter fun p => p.principal == n && !p.committed
  logCancelled old (modTen n (fun t => { t with fence := nextFence t.fence }) s1)

/-! ## Notices (03 R161 to R165) -/

/-- Write a notice into the ring and signal vector 1. -/
def writeNotice (n : Nat) (nt : Notice) (s : State) : State :=
  msixSend n 1 (writeSlot n 1 (noticeBody (ten s n) nt) s)

/-- A notice can be written at once: nothing is held before it, and a slot is free; none is written while the control
processors restart (12 R583). -/
def noticeNow (s : State) (n : Nat) : Bool :=
  let t := ten s n
  ringLive s n && !ctrlHeld s && slotFree t && t.heldNotices.isEmpty && t.overflow == 0

/-- Keep a notice that cannot be written: hold it, or drop and count it (03 R164). -/
def holdNotice (n : Nat) (nt : Notice) (s : State) : State :=
  if (ten s n).heldNotices.length < 32 then modTen n (fun t => { t with heldNotices := t.heldNotices ++ [nt] }) s
  else modTen n (fun t => { t with noticeLost := satInc t.noticeLost, overflow := t.overflow + 1 }) s

/-- Address a notice to one tenant: write it, or keep it (03 R164, R165). A write that ends in an error is a ring error, and
the notice is kept (03 R151; log entry 120). -/
def noticeTo (n : Nat) (code : Half) (sp : Word) (data : Bytes) (s : State) : State :=
  if !tenantExists s n then s
  else
    let t := ten s n
    let nt : Notice := { code := code, seq := t.noticeSeq, spos := sp, data := data }
    let s1 := modTen n (fun t => { t with noticeSeq := t.noticeSeq + 1 }) s
    if !noticeNow s n then holdNotice n nt s1
    else if slotBad s n then holdNotice n nt (ringError n 2 s1)
    else writeNotice n nt s1

/-- Group of a notice code (03 Table 3.9). -/
def noticeGroup (code : Half) : Nat := code.toNat / 256

/-- The log entry of a notice raised while the host link is down (03 R176, 12 R599). -/
def logNotice (code : Half) (sp : Word) (s : State) : State :=
  logFault { entryOf s (Config.noticeClass code.toNat) 8 0 with spos := sp, code := code.toNat } s

/-- Deliver to each tenant of the list, in order. -/
def noticeAll (l : List Nat) (code : Half) (sp : Word) (data : Bytes) (s : State) : State :=
  match l with
  | [] => s
  | n :: r => noticeAll r code sp data (noticeTo n code sp data s)

/-- Raise a notice of scope Unit at position `sp` (03 R163). -/
def noticeUnitAt (code : Half) (sp : Word) (data : Bytes) (s : State) : State :=
  if !s.kw.linkUp then logNotice code sp s
  else
    let g := noticeGroup code
    let l := 0 :: ((List.range 63).map (· + 1)).filter fun n => tenantExists s n && (ten s n).noticeMask.getLsbD g
    noticeAll l code sp data s

/-- Raise a notice of scope Unit at the current SPOS. -/
def noticeUnit (code : Half) (data : Bytes) (s : State) : State := noticeUnitAt code (spos s) data s

/-- Raise a notice of scope Holder or Issuer: to the tenant concerned and to tenant 0 (03 R163). A change made from the
sideband concerns tenant 0 alone. -/
def noticeHolderAt (n : Nat) (code : Half) (sp : Word) (data : Bytes) (s : State) : State :=
  if !s.kw.linkUp then logNotice code sp s
  else if n = 0 ∨ n = 64 then noticeTo 0 code sp data s
  else noticeTo n code sp data (noticeTo 0 code sp data s)

def noticeHolder (n : Nat) (code : Half) (data : Bytes) (s : State) : State := noticeHolderAt n code (spos s) data s

/-- NOTICE_OVERFLOW, which takes the first free slot after notices were dropped (03 R164). -/
def writeOverflow (n : Nat) (s : State) : State :=
  let t := ten s n
  let nt : Notice := { code := 0x0101, seq := t.noticeSeq, spos := spos s, data := le4 t.overflow }
  writeNotice n nt (modTen n (fun t => { t with noticeSeq := t.noticeSeq + 1, overflow := 0 }) s)

/-- Deliver one waiting notice into a free slot: NOTICE_OVERFLOW first, then the oldest held (03 R164). -/
def deliverOne (n : Nat) (s : State) : State :=
  let t := ten s n
  if !(ringLive s n && !ctrlHeld s && slotFree t) || (t.overflow == 0 && t.heldNotices.isEmpty) then s
  else if slotBad s n then ringError n 2 s
  else if t.overflow ≠ 0 then writeOverflow n s
  else match t.heldNotices with
    | [] => s
    | nt :: r => writeNotice n nt (modTen n (fun t => { t with heldNotices := r }) s)

/-- Deliver waiting notices while slots are free, at most `k`. -/
def deliverMany (k n : Nat) (s : State) : State :=
  match k with
  | 0 => s
  | k + 1 => deliverMany k n (deliverOne n s)

/-! ## Replies -/

/-- The reply's own FLAGS.NOTIFY (03 Table 3.2). -/
def Packet.notify (p : Packet) : Bool := p.flags.getLsbD 2

/-- Count a reply for vector 0 and signal when it is due (03 R149, 16 R727). -/
def coalesce (n : Nat) (notify : Bool) (s : State) : State :=
  let t := ten s n
  let due := notify || (t.coalCount == 0 && t.coalTime == 0) || (t.coalCount != 0 && decide (t.coalCount ≤ t.coalPending + 1))
  if due then msixSend n 0 (modTen n (fun t => { t with coalPending := 0 }) s)
  else modTen n (fun t => { t with
    coalPending := t.coalPending + 1
    coalSince := if t.coalPending = 0 then s.now else t.coalSince }) s

/-- Bytes 0x00 to 0x17 of a reply (03 Table 3.4). -/
def replyHead (status tag opcode : Half) (sp fence : Word) (len : Nat) (slot : Half) (rflags : Nat) : Bytes :=
  [0x01, 0x00] ++ le2 status.toNat ++ le2 tag.toNat ++ le2 opcode.toNat ++ le4 sp.toNat ++ le4 fence.toNat ++ le2 len ++
    le2 slot.toNat ++ le1 rflags ++ [0, 0, 0]

/-- What a completion-ring reply carries. -/
structure ReplyInfo where
  tenant : Nat
  status : Half
  tag : Half
  opcode : Half
  sp : Word
  fence : Word
  slot : Half
  addr : Long
  max : Nat
  notify : Bool
  result : Bytes
deriving DecidableEq, Repr

/-- RFLAGS and the inline part of a result (03 R133). -/
def resultPlace (i : ReplyInfo) : Nat × Bytes :=
  let n := i.result.length
  if n ≤ 32 then (0, i.result)
  else if i.addr = 0 then (2, i.result.take 32)
  else (1 + (if i.max < n then 2 else 0), [])

/-- The bytes of a result that go to its buffer in host memory (03 R133). -/
def bufferPart (i : ReplyInfo) : Bytes := if 32 < i.result.length ∧ i.addr ≠ 0 then i.result.take i.max else []

/-- A write of the reply ends in an error: of its result buffer or of its completion entry (03 R151). -/
def replyBad (i : ReplyInfo) (s : State) : Bool :=
  hostBad s i.addr.toNat (bufferPart i).length || slotBad s i.tenant

/-- The reply's entry in the outcome log (03 R177). -/
def logReply (i : ReplyInfo) (s : State) : State :=
  logOutcome i.tenant { tag := i.tag, opcode := i.opcode, status := i.status, fence := i.fence, spos := i.sp } s

/-- Write any result buffer, then the completion entry, then signal (03 R133, R147). -/
def ringReply (i : ReplyInfo) (s : State) : State :=
  let (rflags, inl) := resultPlace i
  let s1 := s.setHost (memWrite s.host i.addr.toNat (bufferPart i))
  let s2 := modTen i.tenant (fun t => { t with reserved := t.reserved - 1 }) s1
  let body := replyHead i.status i.tag i.opcode i.sp i.fence i.result.length i.slot rflags ++ padTo 32 inl
  coalesce i.tenant i.notify (writeSlot i.tenant 0 body s2)

/-- A reply of a tenant: to the ring, or to the outcome log when it cannot be written (03 R131, R177); a write that ends in an
error is a ring error, and the reply is logged (03 R151). -/
def tenantReply (i : ReplyInfo) (orphan : Bool) (s : State) : State :=
  if !ringLive s i.tenant || orphan then logReply i s
  else if replyBad i s then logReply i (ringError i.tenant 2 s)
  else ringReply i s

/-- A sideband reply datagram (03 R169). -/
def sidebandBytes (i : ReplyInfo) : Bytes :=
  let r := i.result.take i.max
  let rflags := if i.max < i.result.length then 2 else 0
  withCrc (replyHead i.status i.tag i.opcode i.sp i.fence i.result.length 0xFFFF rflags ++ List.replicate 8 0 ++
    padTo (up4 r.length) r)

/-- The UDP port of the sideband (03 R166). -/
def sbUdpPort : Half := 47310

/-- A sideband datagram leaves from port 47310 (03 R166; 00 Table 0.4). -/
def sendSideband (addr : Word) (port : Half) (b : Bytes) (s : State) : State :=
  (s.setKw { s.kw with sbActive := some s.now }).emit (.sideband addr port sbUdpPort b)

/-- Send a sideband reply and keep it for 10 s among the last 64, in place of one with the same key (03 R169, R170). -/
def sidebandReply (addr : Word) (port : Half) (crc : Word) (i : ReplyInfo) (s : State) : State :=
  let b := sidebandBytes i
  let kept : SbReply := { addr := addr, port := port, tag := i.tag, crc := crc, at_ := s.now, reply := b }
  let rest := s.kw.sbCache.filter fun e => !(e.addr == addr && e.port == port && e.tag == i.tag)
  sendSideband addr port b (s.setKw { s.kw with sbCache := (rest ++ [kept]).drop (rest.length + 1 - 64) })

/-- The reply of a packet with its outcome. -/
def infoOf (p : Packet) (status : Half) (fence sp : Word) (result : Bytes) : ReplyInfo :=
  { tenant := p.principal, status := status, tag := p.tag, opcode := p.opcode, sp := sp, fence := fence, slot := p.sqSlot
    addr := p.replyAddr, max := p.replyMax, notify := p.notify, result := result }

/-- Write the reply of a packet that is no longer outstanding. -/
def deliver (p : Packet) (status : Half) (fence sp : Word) (result : Bytes) (s : State) : State :=
  let i := infoOf p status fence sp result
  if p.principal = 64 then sidebandReply p.sbAddr p.sbPort p.sbCrc i s
  else tenantReply i p.orphan s

/-- A packet's one outcome: it is outstanding no more, and its reply is written; a tenant's reply waits while the
control processors restart (12 R584). -/
def finish (p : Packet) (status : Half) (fence sp : Word) (result : Bytes) (s : State) : State :=
  let s1 := dropP p.ref s
  if ctrlHeld s && p.principal != 64 then
    s1.setKw { s1.kw with waitingReplies := s1.kw.waitingReplies ++
      [{ packet := p, status := status, result := result, fence := fence, spos := sp }] }
  else deliver p status fence sp result s1

/-- A packet that commits and completes in this step. -/
def done (p : Packet) (status : Half) (result : Bytes) (s : State) : State :=
  finish p status (fenceOf s p.principal) (spos s) result s

def ok (p : Packet) (result : Bytes) (s : State) : State := done p stOK result s

/-- The end of a packet that committed earlier (03 R134, R157). -/
def doneLater (p : Packet) (status : Half) (result : Bytes) (s : State) : State :=
  finish p status p.commitFence p.commitSpos result s

/-- A refusal with a result of the row's own (15 R690). -/
def refuseWith (p : Packet) (status : Half) (result : Bytes) (s : State) : State := done p status result s

/-- A refusal at step 14, naming a field by its offset from the packet header (03 R130, 15 R690). -/
def refuse (p : Packet) (status : Half) (off : Nat) (s : State) : State := done p status (le2 14 ++ le2 off) s

/-- No single field is at fault (03 R130). -/
def noField : Nat := 0xFFFF

/-- The packet ends before its commit point, without effect: what it queued is withdrawn (03 R157, R159; 06 R329). -/
def cancelP (p : Packet) (status : Half) (fence : Word) (s : State) : State :=
  finish p status fence (spos s) [] (withdraw p.ref s)

def cancelAll (l : List Packet) (s : State) : State :=
  match l with
  | [] => s
  | p :: r => cancelAll r (cancelP p stFENCED p.fence s)

/-- Bump a tenant's fence: uncommitted packets of the old generation complete with FENCED, carrying their own FENCE
(03 R155, R157). -/
def bumpFence (n : Nat) (s : State) : State :=
  let old := s.kw.outstanding.filter fun p => p.principal == n && !p.committed
  cancelAll old (modTen n (fun t => { t with fence := nextFence t.fence }) s)

/-- EN cleared by the host, or with it the fence (03 R151, R156). -/
def disableRing (n : Nat) (s : State) : State := bumpFence n (clearEn n s)

/-! ## Running an opcode -/

/-- KW_TMO of the packet has expired (03 R160). -/
def tmoExpired (s : State) (p : Packet) : Bool := p.tmo != 0 && decide (p.fetchedAt + msTicks p.tmo ≤ s.now)

/-- The packet's expanded deadline has been reached (03 R159). -/
def deadlineReached (s : State) (p : Packet) : Bool :=
  match p.deadline with
  | none => false
  | some d => reached s d

/-- Engine a packet is addressed to, by its group (03 R152; log entry 21). -/
def engineOf (opcode : Half) : Nat := opcode.toNat / 256

/-- The packet may start: earlier packets of its principal to the same engine have started, and with ORDERED every
earlier packet has its reply (03 R152, Table 3.2). No host packet starts while the control processors restart. -/
def mayStart (s : State) (p : Packet) : Bool :=
  !p.started && (p.principal == 64 || !ctrlHeld s) &&
  s.kw.outstanding.all fun q =>
    !(q.principal == p.principal && decide (q.order < p.order)) ||
      (!p.flags.getLsbD 3 && (q.started || engineOf q.opcode != engineOf p.opcode))

/-- A list opcode's descriptor sets START (06 R323). -/
def stampedOpcode (p : Packet) : Bool :=
  p.deadline.isSome || p.opcode == 0x0920 || p.opcode == 0x0B12 || p.opcode == 0x0B03 ||
    (p.opcode == 0x0C20 && fld p.params 4 4 != 0) ||
    (listOpcodes.contains p.opcode.toNat && p.flags.getLsbD 1 && bit (fld p.params 3 1) 0)

/-- A recovery of the whole unit is under way (12 R589). -/
def wideRecovery (s : State) : Bool := s.fab.chipLoss.isSome || s.flt.restarting

/-- The bench that an opcode outside the bench opcodes names, where it is being reset (12 R589): DRAW_ALLOC and TMP_EPOCH. -/
def namesReset (p : Packet) (s : State) : Bool :=
  let busy (b : Nat) : Bool := (s.fab.bench[b]?).any fun x => x.state == .resetting
  (p.opcode == 0x0702 && busy (fld p.params 10 1)) || (p.opcode == 0x0B22 && busy (fld p.params 4 1))

/-- Checks every opcode makes at step 14 before its own: R660, R654, R655, R589, R323 and R689, with the status and offset. -/
def gate (p : Packet) (row : OpRow) (s : State) : Option (Half × Nat) :=
  let g := p.opcode.toNat / 256
  if s.boot.slot = 2 ∧ p.principal ≠ 0 ∧ p.principal ≠ 64 then some (stDENIED, noField)
  else if p.principal ≠ 64 ∧ !s.boot.done ∧ g ≠ 1 ∧ g ≠ 14 then some (stBUSY, noField)
  else if !s.pos.anchored && (admissionOpcodes.contains p.opcode.toNat || stampedOpcode p) then some (stBUSY, noField)
  else if wideRecovery s && configOpcode p.opcode.toNat then some (stBUSY, noField)
  else if p.flags.getLsbD 1 != listOpcodes.contains p.opcode.toNat then some (stBAD_PARAM, 0x08)
  else if !opLenOk row p.params.length then some (stBAD_LENGTH, 0x0A)
  else if namesReset p s then some (stBUSY, noField)
  else none

/-- The packet a row may carry out now. -/
def ready (opcode : Half) (r : Ref) (s : State) : Option Packet :=
  match findP r s with
  | some p => if p.opcode = opcode ∧ mayStart s p then some p else none
  | none => none

/-- Carry out an opcode's packet: nothing when no such packet may start; TIMED_OUT when a limit has run out before the
commit (03 R159, R160); a refusal of the common step-14 checks; else the opcode's own meaning. -/
def runOp (opcode : Half) (r : Ref) (s : State) (body : Packet → State → State) : State :=
  match ready opcode r s, opRow opcode.toNat with
  | some p, some row =>
    if deadlineReached s p || tmoExpired s p then cancelP p stTIMED_OUT (fenceOf s p.principal) s
    else match gate p row s with
      | some (st, off) => refuse p st off s
      | none => body p s
  | _, _ => s

/-- Tenant whose rights a principal has: the sideband acts as tenant 0 (15 R693, log entry 22). -/
def Packet.tenant (p : Packet) : Nat := if p.principal = 64 then 0 else p.principal

/-- The tenant may act on an object of `owner` (03 R138). -/
def mayUse (p : Packet) (owner : Nat) : Bool := p.tenant == 0 || p.tenant == owner

/-- Ask for a Record write (14 R676); requests that wait together are merged into one record. -/
def wantRecord (cause : Nat) (s : State) : State :=
  s.setBoot { s.boot with
    wanted := match s.boot.wanted with
      | none => some cause
      | some c => some (if Config.mergeKeeps c cause then c else cause) }

/-- Raise a notice when none of its kind was raised in the last `gap` cycles. -/
def quiet (last : Option Nat) (gap now : Nat) : Bool :=
  match last with
  | none => true
  | some t => decide (t + gap ≤ now)

end Sys2Proof.Machine
end

