-- ==== Sys2Proof/Machine/Upsets.lean ====
section
/-! DEFINITION. Counting upsets and writing their log entries (chapter 12). -/

namespace Sys2Proof.Machine

/-- THRESH and WINDOW of a class (12 R570). -/
def threshOf (s : State) (cls : Nat) : Nat × Nat := getI s.flt.thresh (cls - 1) (8, 60)

/-- Upsets of an instance within the last WINDOW seconds (12 R570). -/
def upsetsIn (s : State) (cls inst : Nat) : Nat :=
  (s.flt.upsets.filter fun u => u.1 == cls && u.2.1 == inst && decide (s.now ≤ u.2.2 + sTicks (threshOf s cls).2)).length

/-- Count an upset toward retirement; an injected one never counts (12 R603). -/
def countUpset (cls inst : Nat) (injected : Bool) (s : State) : State :=
  if injected then s else s.setFlt { s.flt with upsets := (cls, inst, s.now) :: s.flt.upsets }

/-- The threshold of the instance is reached. -/
def atThreshold (s : State) (cls inst : Nat) : Bool := decide ((threshOf s cls).1 ≤ upsetsIn s cls inst)

/-- The history of an instance returned to service is cleared (12 R572). -/
def clearUpsets (cls inst : Nat) (s : State) : State :=
  s.setFlt { s.flt with upsets := s.flt.upsets.filter fun u => !(u.1 == cls && u.2.1 == inst) }

/-- A bench reset, a chip-wide loss or a control-processor restart is under way (12 R573, R604). -/
def recovering (s : State) : Bool := wideRecovery s || s.fab.bench.any fun b => b.resetting.isSome

/-- FFLAGS of a log entry (12 Table 12.6). -/
def fflagsOf (equivLost injected superseded : Bool) : Nat := b2n equivLost + 2 * b2n injected + 4 * b2n superseded

/-- UPSETS of an entry: the instance's upsets in the current window (12 Table 12.6). -/
def upsetsField (s : State) (cls inst : Nat) : Nat := if 1 ≤ cls ∧ cls ≤ 5 then min 0xFFFF (upsetsIn s cls inst) else 0

/-- An entry of kind UPSET with the instance's upsets in the current window. `how` is the low byte of DETECT. -/
def upsetEntry (s : State) (cls inst how : Nat) (injected : Bool) : LogEntry :=
  { entryOf s cls 1 inst with
    detect := cls * 256 + how, fflags := fflagsOf false injected false, upsets := upsetsField s cls inst }

/-- DETECT and RETRIES of the newest upset of the instance, which the end of its recovery repeats (log entry 60). -/
def lastUpset (s : State) (cls inst : Nat) : Nat × Nat :=
  match s.flt.log.find? fun e => e.kind == 1 && e.cls == cls && e.inst == inst with
  | some e => (e.detect, e.retries)
  | none => (cls * 256, 0)

/-- An entry of kind RECOVERED. -/
def recoveredEntry (s : State) (cls inst affected : Nat) (injected : Bool) : LogEntry :=
  { entryOf s cls 2 inst with
    detect := (lastUpset s cls inst).1, retries := (lastUpset s cls inst).2, fflags := fflagsOf false injected false
    upsets := upsetsField s cls inst, affected := affected }

/-- One upset: counted toward retirement where its class counts, and logged (12 R568, R599). -/
def upset (cls inst how : Nat) (counts injected : Bool) (retries affected : Nat) (s : State) : State :=
  let s1 := if counts then countUpset cls inst injected s else s
  logFault { upsetEntry s1 cls inst how injected with retries := retries, affected := affected } s1

/-- The end of a recovery (12 R599). -/
def recovered (cls inst affected : Nat) (injected : Bool) (s : State) : State :=
  logFault (recoveredEntry s cls inst affected injected) s

/-- The first entry of an unfinished recovery of the class and instance carries SUPERSEDED (12 R590, R591). -/
def supersede (cls inst : Nat) (s : State) : State :=
  let mark (e : LogEntry) : LogEntry := { e with fflags := Nat.lor e.fflags 4 }
  let rec go (l : List LogEntry) : List LogEntry :=
    match l with
    | [] => []
    | e :: r => if e.cls == cls && e.inst == inst && e.kind == 1 then mark e :: r else e :: go r
  s.setFlt { s.flt with log := go s.flt.log, keeper := go s.flt.keeper }

/-- EQUIV_LOST in the entry of `cls` just written, and FLT_EQUIV (12 R597). -/
def equivLost (e : LogEntry) (s : State) : State :=
  let seq := s.flt.nextSeq
  noticeUnit 0x0C02 (le4 seq.toNat ++ le1 e.cls) (logFault { e with fflags := Nat.lor e.fflags 1 } s)

/-- A retirement whose threshold is reached during a recovery waits for its end (12 R573). -/
def deferRetirement (cls inst : Nat) (s : State) : State :=
  s.setFlt { s.flt with deferred := if s.flt.deferred.contains (cls, inst) then s.flt.deferred else s.flt.deferred ++ [(cls, inst)] }

end Sys2Proof.Machine
end

