-- ==== Sys2Proof/Machine/Parts.lean ====
section
/-! DEFINITION. Parts on the strip and the tiles they need (chapter 09, "Part coordinates"), how a tile outcome is folded into
its parts, and the rings that HALLMARK writes. -/

namespace Sys2Proof.Machine

/-! ## Strip geometry -/

/-- A position as a whole number. -/
def posI (a : Long) : Int := a.toInt

def posL (i : Int) : Long := BitVec.ofInt 64 i

/-- The least whole number not below `a / b`. -/
def ceilI (a : Int) (b : Nat) : Int := -((-a) / (b : Int))

def viewOf (s : State) (v : Nat) : View := getI s.pln.view v View.reset

def tgOf (s : State) (v : Nat) : TrigGen := getI s.lanes.tg (viewOf s v).tg TrigGen.reset

/-- Position of trigger `k` (04 R191). -/
def trigPos (g : TrigGen) (k : Int) : Int := (g.f : Int) + k * g.p

/-- Lines of a tile row of the view. -/
def rowH (s : State) (v : Nat) : Nat := max 1 (viewOf s v).tileH

/-- Tile columns of a view (05 R272, R281). -/
def tileCols (s : State) (v : Nat) : Nat := ceilDiv (viewOf s v).width (max 1 (viewOf s v).tileW)

/-- VIEW_OFS of a view. -/
def viewOfs (im : RecipeImage) (v : Nat) : Int := ((getI im.viewOfs v 0 : Nat) : Int)

/-- First and last tile row of view `v` with a scan line in the strip coordinates [st, en). -/
def rowsOf (s : State) (im : RecipeImage) (v : Nat) (st en : Int) : Option (Int × Int) :=
  let g := tgOf s v
  let k0 := ceilI (st + viewOfs im v - g.f) (max 1 g.p)
  let k1 := ceilI (en + viewOfs im v - g.f) (max 1 g.p) - 1
  if k0 ≤ k1 then some (k0 / (rowH s v : Int), k1 / (rowH s v : Int)) else none

/-- Views a recipe judges. -/
def viewsOf (im : RecipeImage) : List Nat := (List.range 4).filter fun v => bit im.views v

/-- END of a part; an open plate reaches at most START + MAX_LEN (09 R438). -/
def partEnd (im : RecipeImage) (p : Part) : Int :=
  match p.stop with
  | some e => posI e
  | none => posI p.start + im.maxLen

/-- Close position of a part: the largest trigger position of the last scan line of any tile row that overlaps it. -/
def closePos (s : State) (im : RecipeImage) (p : Part) : Int :=
  (viewsOf im).foldl (fun m v =>
    match rowsOf s im v (posI p.start) (partEnd im p) with
    | none => m
    | some (_, j) => max m (trigPos (tgOf s v) ((j + 1) * (rowH s v : Int) - 1))) (posI p.start)

/-- Rows `j0` to `j1`. -/
def rowRange (j0 j1 : Int) : List Int := (List.range (j1 - j0 + 1).toNat).map fun (i : Nat) => j0 + (i : Int)

/-- The tiles of view `v`, columns [c0, c1), that overlap the part. -/
def tilesIn (s : State) (im : RecipeImage) (p : Part) (v c0 c1 : Nat) : List (Nat × Int × Nat) :=
  match rowsOf s im v (posI p.start) (partEnd im p) with
  | none => []
  | some (j0, j1) => (rowRange j0 j1).flatMap fun j => ((List.range c1).drop c0).map fun c => (v, j, c)

/-- Every tile that overlaps the part. -/
def tilesNeeded (s : State) (im : RecipeImage) (p : Part) : List (Nat × Int × Nat) :=
  (viewsOf im).flatMap fun v => tilesIn s im p v 0 (tileCols s v)

/-- Every tile overlapping the part has an outcome (09 R450). -/
def allSeen (s : State) (im : RecipeImage) (p : Part) : Bool := (tilesNeeded s im p).all fun t => p.seen.contains t

/-- The part still needs a tile of the bench: an open plate always may. -/
def needsBench (s : State) (im : RecipeImage) (bench : Nat) (p : Part) : Bool :=
  p.stop.isNone || im.routes.any fun r =>
    r.bench == bench && bit im.views r.view &&
      (tilesIn s im p r.view r.colFirst (r.colLast + 1)).any fun t => !p.seen.contains t

/-- The tile overlaps the part. -/
def tileInPart (s : State) (im : RecipeImage) (t : Tile) (p : Part) : Bool :=
  match rowsOf s im t.view (posI p.start) (partEnd im p) with
  | none => false
  | some (j0, j1) => bit im.views t.view && decide (j0 ≤ t.row) && decide (t.row ≤ j1)

/-! ## Recipes and their parts -/

def findRecipe (s : State) (h : Nat) : Option Recipe := s.rcp.recipes.find? (·.handle == h)

def modRecipe (h : Nat) (f : Recipe → Recipe) (s : State) : State :=
  s.setRcp { s.rcp with recipes := s.rcp.recipes.map fun r => if r.handle = h then f r else r }

def findAdm (s : State) (h : Nat) : Option Admission := s.led.held.find? (·.handle == h)

/-- The recipe's admission is still held. -/
def recipeHeld (s : State) (h : Nat) : Bool := s.led.held.any fun a => a.handle == h && a.kind == .recipe

/-- A new part (09 R434, R435). -/
def freshPart (recipe : Nat) (id : Int) (start : Long) (stop : Option Long) : Part :=
  { recipe := recipe, id := id, start := start, stop := stop, reasons := [], seen := [], holdTiles := 0, worst := none
    cands := [], fixed := false, partOp := 0, issued := false }

/-- START of STRIP part `n`. -/
def stripStart (r : Recipe) (n : Int) : Int := posI r.origin + n * r.image.partLen

/-- STRIP part `n` of the recipe is one it judges: it starts before E of a switch away (11 R532). -/
def stripJudged (r : Recipe) (n : Int) : Bool :=
  match r.endAt with
  | none => true
  | some e => decide (stripStart r n < posI e)

/-- STRIP parts that the HWM has reached and that are not open yet. -/
def stripDue (s : State) (r : Recipe) : List Int :=
  let last := (posI s.pos.hwm - posI r.origin) / (max 1 r.image.partLen : Int)
  ((List.range (last - r.nextPart + 1).toNat).map fun (i : Nat) => r.nextPart + (i : Int)).filter (stripJudged r)

/-- A recipe judges parts while it is ACTIVE, and as the outgoing one (11 Table 11.5). -/
def judging (r : Recipe) : Bool := r.state == .active || r.state == .outgoing

/-- Open the STRIP parts of a recipe that the HWM has reached (09 R434). -/
def openStrip (r : Recipe) (s : State) : State :=
  if r.image.model ≠ 0 ∨ !judging r ∨ r.image.partLen = 0 then s
  else
    let due := stripDue s r
    let parts := due.map fun n =>
      freshPart r.handle n (posL (stripStart r n)) (some (posL (stripStart r n + r.image.partLen)))
    modRecipe r.handle (fun r => { r with nextPart := r.nextPart + due.length })
      (s.setHm { s.hm with parts := s.hm.parts ++ parts })

/-- Open the parts that the HWM has reached, of every recipe. -/
def openAll (l : List Recipe) (s : State) : State :=
  match l with
  | [] => s
  | r :: rest => openAll rest (openStrip r s)

def openParts (s : State) : State := openAll s.rcp.recipes s

def modPart (recipe : Nat) (id : Int) (f : Part → Part) (s : State) : State :=
  s.setHm { s.hm with parts := s.hm.parts.map fun p => if p.recipe = recipe ∧ p.id = id then f p else p }

def findPart (s : State) (recipe : Nat) (id : Int) : Option Part :=
  s.hm.parts.find? fun p => p.recipe == recipe && p.id == id

/-- A part reason: the first to occur stays first (09 R448, R449). -/
def addReason (reason : Nat) (l : List Nat) : List Nat := if reason = 0 ∨ l.contains reason then l else l ++ [reason]

/-- HOLD fixed with a reason on the unissued parts that `sel` picks (02 R107, R113; 09 R451). -/
def fixParts (sel : Part → Bool) (reason : Nat) (s : State) : State :=
  s.setHm { s.hm with parts := s.hm.parts.map fun p =>
    if !p.issued && sel p then { p with reasons := addReason reason p.reasons, fixed := true } else p }

/-! ## Folding tile outcomes -/

/-- What a tile outcome brings to its parts. -/
structure Fold where
  tile : Tile
  /-- HOLD or UNSURE -/
  hold : Bool
  reason : Nat
  score : Option Word
  cands : List Candidate
deriving DecidableEq, Repr

/-- Insert a candidate: highest score first, the earlier one first on equal scores (09 R442). -/
def insertCand (l : List Candidate) (c : Candidate) : List Candidate :=
  match l with
  | [] => [c]
  | x :: r => if f32Lt x.score c.score then c :: x :: r else x :: insertCand r c

/-- The 16 highest-scoring candidates. -/
def keepCands (l new : List Candidate) : List Candidate := (new.foldl insertCand l).take 16

def maxScore (a b : Option Word) : Option Word :=
  match a, b with
  | some x, some y => if f32Lt x y then some y else some x
  | none, y => if y.any f32NaN then none else y
  | x, none => x

def foldPart (f : Fold) (p : Part) : Part :=
  if p.issued ∨ p.seen.contains (f.tile.view, f.tile.row, f.tile.col) then p
  else { p with
    seen := p.seen ++ [(f.tile.view, f.tile.row, f.tile.col)]
    reasons := if f.hold then addReason f.reason p.reasons else p.reasons
    holdTiles := p.holdTiles + b2n f.hold
    worst := maxScore p.worst f.score
    cands := keepCands p.cands f.cands }

/-- Fold an outcome into the parts of a recipe that the tile overlaps. -/
def foldTile (recipe : Nat) (f : Fold) (s : State) : State :=
  match findRecipe s recipe with
  | none => s
  | some r =>
    s.setHm { s.hm with parts := s.hm.parts.map fun p =>
      if p.recipe = recipe ∧ tileInPart s r.image f.tile p then foldPart f p else p }

/-- A HOLD for the tile, folded without passing through the ingest queue. -/
def foldHold (recipe : Nat) (t : Tile) (reason : Nat) (s : State) : State :=
  foldTile recipe { tile := t, hold := true, reason := reason, score := none, cands := [] } (openParts s)

/-! ## Benches and tile outcomes -/

def benchOf (s : State) (b : Nat) : Bench := getI s.fab.bench b Bench.reset

def modBench (b : Nat) (f : Bench → Bench) (s : State) : State := s.setFab { s.fab with bench := upd s.fab.bench b f }

/-- FAB counters of a bench, in the order of State; ECC_CORR and RESETS wrap, the others saturate (06 Table 6.15). -/
def bumpBench (b i n : Nat) (s : State) : State :=
  modBench b (fun x => { x with ctr := upd x.ctr i fun w => if i = 1 ∨ i = 2 then w + BitVec.ofNat 32 n else satAdd w n }) s

/-- FAB_FENCED, KW_FENCED's counterpart in the fabric (06 R344). -/
def fabFenced (b : Nat) (s : State) : State := bumpBench b 3 1 s

/-- Hand an outcome to HALLMARK; at a full ingest queue the tile is HOLD with QUEUE_FULL (09 R453). -/
def toHallmark (o : Outcome) (s : State) : State :=
  if s.hm.ingest.length < 8192 then s.setHm { s.hm with ingest := s.hm.ingest ++ [o] }
  else foldHold o.recipe o.tile (if o.hold = 0 then 0x13 else o.hold) s

/-- The bench gives a tile a HOLD outcome; the first cause names the reason (06 R345). -/
def giveHold (b : Nat) (t : Tile) (reason : Nat) (fence : Word) (s : State) : State :=
  let hold := if t.holdReason = 0 then reason else t.holdReason
  let x := benchOf s b
  toHallmark { bench := b, recipe := x.recipe, adm := x.handle, tile := t, hold := hold, fence := fence, result := none, vslots := 1, at_ := s.now }
    (bumpBench b 0 1 s)

def giveHolds (b : Nat) (l : List Tile) (reason : Nat) (fence : Word) (s : State) : State :=
  match l with
  | [] => s
  | t :: r => giveHolds b r reason fence (giveHold b t reason fence s)

/-- Tiles in flight and queued on a bench. -/
def benchTiles (x : Bench) : List Tile := ((x.running.filter fun r => r.state == .live).map (·.tile)) ++ x.queue

/-- The bench wrote the last word of the result in this very cycle (06 R344). -/
def sameCycle (s : State) (b : Nat) (o : Outcome) : Bool := o.bench == b && o.result.isSome && o.at_ == s.now

/-- Tiles that a loss at this moment gives HOLD: in flight, queued, or with a result of the same cycle (06 R340, R344). -/
def heldBy (s : State) (b : Nat) : Nat := (benchTiles (benchOf s b)).length + (s.hm.ingest.filter (sameCycle s b)).length

/-- The outcome as a HOLD in place of its result. -/
def heldOutcome (reason : Nat) (fence : Word) (o : Outcome) : Outcome :=
  { o with result := none, vslots := 1, fence := fence, hold := if o.tile.holdReason = 0 then reason else o.tile.holdReason }

/-- A count taken back; a saturated counter stays. -/
def uncount (w : Word) (n : Nat) : Word := if w = 0xFFFFFFFF then w else w - BitVec.ofNat 32 n

/-- Results whose last word falls in the cycle of a bump: the bump prevails, they are discarded and counted in FAB_FENCED, and
their tiles are HOLD (06 R344). -/
def retractResults (b reason : Nat) (fence : Word) (s : State) : State :=
  let l := s.hm.ingest.filter (sameCycle s b)
  let sats := (l.map fun o => b2n (o.result.any (·.accSat))).sum
  let nans := (l.map fun o => ((o.result.map (·.nanCvt)).getD 0)).sum
  let s1 := s.setHm { s.hm with ingest := s.hm.ingest.map fun o => if sameCycle s b o then heldOutcome reason fence o else o }
  bumpBench b 3 l.length (bumpBench b 0 l.length (modBench b (fun x => { x with
    tiles := x.tiles - BitVec.ofNat 64 l.length
    ctr := upd (upd x.ctr 5 fun w => uncount w sats) 6 fun w => uncount w nans }) s1))

/-- The run's tile has its HOLD; the stake works on until its result comes or it is reset (06 R344). -/
def cutRun (r : Running) : Running := if r.state = .live then { r with state := .cut } else r

/-- The stake is reset: what is left of its run is a result that may be on its way. -/
def goneRun (r : Running) : Running := { r with state := .gone }

/-- Cut off everything on the bench: its tiles get HOLD, its runs end without a result. -/
def flushBench (b reason : Nat) (fence : Word) (s : State) : State :=
  let s1 := retractResults b reason fence s
  giveHolds b (benchTiles (benchOf s1 b)) reason fence
    (modBench b (fun x => { x with queue := [], running := x.running.map cutRun }) s1)

/-! ## Rings in objects (09 R459, R474, R475) -/

def objOf (s : State) (h : Nat) : Option Obj := s.draw.objs.find? (·.handle == h)

def lookupN (l : List (Nat × Nat)) (k : Nat) : Nat := ((l.find? (·.1 == k)).map (·.2)).getD 0

def lookupW (l : List (Nat × Word)) (k : Nat) : Word := ((l.find? (·.1 == k)).map (·.2)).getD 0

def assign {α : Type} (l : List (Nat × α)) (k : Nat) (v : α) : List (Nat × α) := (k, v) :: l.filter fun e => e.1 != k

/-- Burst `p` meets the bytes [a, a + n). -/
def burstMeets (p a n : Nat) : Bool := decide (0 < n) && decide (p < a + n) && decide (a < p + 64)

/-- Write bytes to the unit's memory; a write to a burst removes it from the poison table (07 R388). -/
def unitWrite (a : Nat) (b : Bytes) (s : State) : State :=
  s.setDraw { s.draw with
    mem := memWrite s.draw.mem a b
    chan := s.draw.chan.map fun c => { c with poison := c.poison.filter fun p => !burstMeets p a b.length } }

def unitRead (s : State) (a n : Nat) : Bytes := memRead s.draw.mem a n

/-- Write the next record of a HALLMARK ring, or drop and count it where the ring has no space left. -/
def hmRing (ring : Nat) (bytes : Bytes) (s : State) : State :=
  let i := lookupN s.hm.ringIdx ring
  let drop := s.setHm { s.hm with lost := assign s.hm.lost ring (satInc (lookupW s.hm.lost ring)) }
  if ring = 0 then s
  else match objOf s ring with
    | none => drop
    | some o =>
      if o.lost ∨ o.size < (i + 1) * bytes.length then drop
      else unitWrite (o.addr + i * bytes.length) bytes (s.setHm { s.hm with ringIdx := assign s.hm.ringIdx ring (i + 1) })

/-- Ring that takes the log of an entry: the recipe's, or the tenant's for a host entry. -/
def actRing (s : State) (recipe : Option Nat) (tenant : Nat) : Nat :=
  match recipe with
  | some h => ((findRecipe s h).map (·.aring)).getD 0
  | none => (ten s tenant).hostARing

/-- Final outcome of an actuation entry (09 R474). -/
def logAct (e : ActEntry) (recipe : Option Nat) (tenant outcome : Nat) (target : Long) (shift : Nat) (on off : Word)
    (s : State) : State :=
  let ring := actRing s recipe tenant
  let seq := lookupW s.hm.actSeq ring
  let bytes := [0x02] ++ le1 e.channel ++ le1 outcome ++ le1 (b2n recipe.isNone) ++ le4 seq.toNat ++ le4 (low32 target).toNat ++
    le4 shift ++ le4 on.toNat ++ le4 off.toNat ++ le4 e.ref.toNat ++ le2 e.loadMa ++ le2 0
  hmRing ring bytes (s.setHm { s.hm with actSeq := assign s.hm.actSeq ring (seq + 1) })

def logActOf (a : Act) (outcome : Nat) (off : Word) (s : State) : State :=
  logAct a.entry a.recipe a.tenant outcome a.target a.shift a.onSpos off s

/-- Remove an entry from the actuation queue, with its host admission. -/
def dropAct (h : Nat) (s : State) : State :=
  (s.setHm { s.hm with acts := s.hm.acts.filter (·.handle != h) }).setLed
    { s.led with held := s.led.held.filter fun a => !(a.handle == h && a.kind == .actuation) }

/-! ## Tiles in memory and the sample cache (05 Table 5.3, 11 R551) -/

/-- Bytes of one element of a tile format. -/
def elementBytes (fmt : Nat) : Nat := if fmt = 1 then 1 else 2

/-- Bytes of the prefix: 64 + TILE_H rounded up to a multiple of 512. -/
def prefixLen (h : Nat) : Nat := ceilDiv (64 + h) 512 * 512

/-- Bytes of a tile of the given shape. -/
def tileBytes (fmt w h : Nat) : Nat := prefixLen h + w * h * elementBytes fmt

/-- Header of a cache entry; a label recorded while the entry is locked shows at once (11 R551, R553). -/
def cacheHeader (e : CacheEntry) : Bytes :=
  let t := e.tile
  let label := e.nextLabel.getD e.label
  let state := if e.nextLabel.isNone then e.state else if label = 0 then 1 else 2
  le1 state ++ le1 (b2n e.lock) ++ le1 ((t.map (·.view)).getD 0) ++ [0] ++ le2 ((t.map (·.col)).getD 0) ++ le2 label ++
    leInt 8 ((t.map (·.row)).getD 0) ++ le4 ((t.map fun t => t.sposFirst.toNat).getD 0) ++ le4 e.captureSeq ++ List.replicate 40 0

/-- Write the header of entry `i` where the cache object holds it. -/
def writeCacheHeader (i : Nat) (s : State) : State :=
  match s.rcp.cacheCfg, s.rcp.cache[i]? with
  | some c, some e => match objOf s c.obj with
    | some o => if o.lost then s else unitWrite (o.addr + i * c.entry) (cacheHeader e) s
    | none => s
  | _, _ => s

def writeCacheHeaders (l : List Nat) (s : State) : State :=
  match l with
  | [] => s
  | i :: r => writeCacheHeaders r (writeCacheHeader i s)

/-! ## Image settings (05 R249, R250, R280) -/

/-- A deferred setting of the image group on a view. -/
def applyViewSet (v : Nat) (what : Reprog) (x : View) : View :=
  match what with
  | .plnFilter w h0 h1 h2 a gate pb lk pmin pmax =>
    if w = v then { x with kernel := (h0, h1, h2), tempA := a, gate := gate, pb := pb, lk := lk, prange := (pmin, pmax) } else x
  | .plnLevel w target gmin gmax =>
    if w = v then { x with levelTarget := target, grange := (gmin, gmax), g := clampN gmin gmax x.g } else x
  | _ => x

/-- A deferred calibration table of a channel: 0 dark, 1 flat, 2 defect map. -/
def applyCal (c : Nat) (what : Reprog) (x : Channel) : Channel :=
  match what with
  | .cal d kind vals =>
    if d ≠ c then x
    else if kind = 0 then { x with dark := vals }
    else if kind = 1 then { x with flat := vals }
    else { x with defects := vals }
  | _ => x

/-- Apply a setting of the image group. -/
def applyImage (what : Reprog) (s : State) : State :=
  s.setPln { s.pln with
    view := s.pln.view.mapIdx fun v x => applyViewSet v what x
    chan := s.pln.chan.mapIdx fun c x => applyCal c what x }

/-- Two settings of the image group that the same opcode made are one change of one register (01 R80). -/
def noticeApplied (issuer : Nat) (opcode : Half) (where_ : Nat) (sp : Word) (s : State) : State :=
  noticeHolderAt issuer 0x0501 sp (le2 opcode.toNat ++ le1 where_) s

/-! ## Lanes, channels and views -/

def laneOf (s : State) (l : Nat) : Lane := getI s.lanes.lane l Lane.reset

def modLane (l : Nat) (f : Lane → Lane) (s : State) : State := s.setLanes { s.lanes with lane := upd s.lanes.lane l f }

def plnChan (s : State) (c : Nat) : Channel := getI s.pln.chan c Channel.reset

def modPlnChan (c : Nat) (f : Channel → Channel) (s : State) : State := s.setPln { s.pln with chan := upd s.pln.chan c f }

def modView (v : Nat) (f : View → View) (s : State) : State := s.setPln { s.pln with view := upd s.pln.view v f }

/-- Domain IMG is on (13 Table 13.2). -/
def imgOn (s : State) : Bool := domOn s 6

/-- Channels of a view. -/
def viewChans (s : State) (v : Nat) : List Nat := (List.range 32).filter fun c => (plnChan s c).view == some v

/-- Views whose channels are fed from a generator. -/
def tgViews (s : State) (tg : Nat) : List Nat :=
  (List.range 4).filter fun v => (viewOf s v).configured && (viewOf s v).tg == tg

/-- Lanes whose VC table routes a VC to channel `c`. -/
def lanesTo (s : State) (c : Nat) : List Nat := (List.range 24).filter fun l => (laneOf s l).cfg.vc.contains (0x80 + c)

/-- First lane of the lane's group (04 R181, R193). -/
def firstLane (s : State) (l : Nat) : Nat := l - l % max 1 (laneOf s l).cfg.group

/-- Channel `x` takes the packets of `c`: it is `c`, or a twin of one that takes them, through at most `n` twins (05 R266). -/
def takes (s : State) (n x c : Nat) : Bool :=
  x == c || match n with
    | 0 => false
    | n + 1 => match (plnChan s x).twin with
      | some d => takes s n d c
      | none => false

/-- Channels that take the packets routed to `c`: itself, its twins, and theirs (05 R266). -/
def takers (s : State) (c : Nat) : List Nat :=
  (List.range 32).filter fun x => (plnChan s x).view.isSome && takes s 32 x c

/-- The channel at the end of a chain of twins. -/
def rootOf (s : State) (n c : Nat) : Nat :=
  match n with
  | 0 => c
  | n + 1 => match (plnChan s c).twin with
    | some d => rootOf s n d
    | none => c

/-- Channel whose packets `c` takes. -/
def sourceOf (s : State) (c : Nat) : Nat := rootOf s 32 c

end Sys2Proof.Machine
end

