-- ==== Sys2Proof/Machine/Position.lean ====
section
/-! DEFINITION. The Position Time Base (chapter 01): edges, interpolation, the high-water mark, Z captures, speed, deferred
reprograms as far as this chapter owns them, and the Position group's opcodes. -/

namespace Sys2Proof.Machine

/-! ## Interpolation (01 R35 to R38) -/

/-- The last five forward edges, newest first, with no gap longer than 2^24 cycles between two of them. -/
def interpReady (edges : List Nat) : Bool :=
  match edges with
  | [a, b, c, d, e] => decide (a - b ≤ 2 ^ 24) && decide (b - c ≤ 2 ^ 24) && decide (c - d ≤ 2 ^ 24) && decide (d - e ≤ 2 ^ 24)
  | _ => false

/-- PTB_STATUS.INTERP. -/
def interpActive (s : State) : Bool := interpReady s.pos.fwdEdges

/-- The fraction at time `now`: floor(16 (t - t_e) / T_ref), at most 15, with T_ref the mean of four spacings. -/
def fractionAt (edges : List Nat) (now : Nat) : Nat :=
  match edges with
  | [a, _, _, _, e] => min 15 (64 * (now - a) / (a - e))
  | _ => 0

/-! ## The high-water mark (01 R43 to R45) -/

/-- The PTB is less than the HWM (01 R44). -/
def behindOf (p : Position) : Bool := after p.hwm (ptbOf p)

def behind (s : State) : Bool := behindOf s.pos

/-- After the PTB moved from a state that was `was` behind: the HWM advances and POS_RESUMED is raised, or the unit becomes
behind and POS_BEHIND is raised with the SPOS of the HWM. -/
def settleHwm (was : Bool) (s : State) : State :=
  let p := s.pos
  if after (ptbOf p) p.hwm then
    let s1 := s.setPos { p with hwm := ptbOf p, behindSeen := false }
    if p.behindSeen then noticeUnit 0x0202 [] s1 else s1
  else if behindOf p && !was then
    noticeUnitAt 0x0201 (low32 p.hwm) [] (s.setPos { p with behindSeen := true, reversals := p.reversals + 1 })
  else s

/-! ## Edges -/

/-- A quadrature error of a port: count unchanged, ENCn_QERR and QERR, one notice in 10 ms, a log entry (01 R53, R54; 12
R568, R599). DESIGN CHOICE (log entry 118): it is no edge of either direction, so a run of consecutive forward edges (R35)
goes on across it. -/
def quadError (port : Nat) (s : State) : State :=
  let p := s.pos
  let due := quiet (getI p.qerrNotice port none) (msTicks 10) s.now
  let s1 := s.setPos { p with
    qerr := bumpSat p.qerr port
    flags := p.flags ||| 0x80
    qerrNotice := if due then upd p.qerrNotice port fun _ => some s.now else p.qerrNotice }
  let s2 := logFault { entryOf s 0x0E 1 port with detect := 0x0E00 + Config.detectCode 0x0E % 256 } s1
  if due then noticeUnit 0x0210 (le1 port) s2 else s2

/-- Direction after ENC_CFG.INV: true is the direction of increasing position (01 R28). -/
def edgeForward (s : State) (port : Nat) (fwd : Bool) : Bool := fwd != (getI s.pos.enc port EncCfg.reset).inv

/-- A decoded master edge (01 R26, R27, R35, R38, R71). Edges older than 100 ms fall out of every speed window (01 R68). -/
def countEdge (fwd : Bool) (s : State) : State :=
  let p := s.pos
  s.setPos { p with
    count := if fwd then p.count + 1 else p.count - 1
    frac := 0
    fwdEdges := if fwd then (s.now :: p.fwdEdges).take 5 else []
    lastEdge := s.now
    edges := (s.now, fwd) :: p.edges.filter fun e => decide (s.now < e.1 + msTicks 100)
    stationary := false
    dirRev := !fwd }

/-- Domain CTRL, which holds the PTB and encoder logic, is on. -/
def ctrlOn (s : State) : Bool := domOn s 2

/-- The repeater of ENCn OUT passes on a transition of A and B, or of Z, as it was received, before the filter, while a field
supply is present, whatever the power domains do (00 R20; 01 R64 to R66; log entry 116). -/
def repeatOut (port : Nat) (signal : EncSignal) (s : State) : State :=
  if s.dio.fieldV.any (14000 ≤ ·) then s.emit (.encoderOut port signal) else s

/-- The digital filter of a port accepts a level that has been stable for `held` consecutive PTB_CLK samples: for ENC_FILT.N of
them at least (01 R51; log entry 116). -/
def filtered (s : State) (port held : Nat) : Bool := decide ((getI s.pos.enc port EncCfg.reset).filtN ≤ held)

def masterEdge (k : EdgeKind) (s : State) : State :=
  match k with
  | .both => quadError 0 s
  | .forward => settleHwm (behind s) (countEdge (edgeForward s 0 true) s)
  | .reverse => settleHwm (behind s) (countEdge (edgeForward s 0 false) s)

/-- MASTER_EDGE: repeated as received, and decoded once the filter accepts it (01 R51, R65). -/
def execMasterEdge (k : HeldEdge) (t : Nat) (s : State) : Host.Outcome State Fault Refusal :=
  let s := repeatOut 0 (.ab k.kind) (s.at_ t)
  .next (if ctrlOn s && filtered s 0 k.held then masterEdge k.kind s else s)

/-- PTB_INTERPOLATION: the fraction grows to its value at this cycle (01 R35, R36). -/
def interpolate (s : State) : State :=
  settleHwm (behind s) (s.setPos { s.pos with frac := max s.pos.frac (fractionAt s.pos.fwdEdges s.now) })

def execPtbInterpolation (t : Nat) (s : State) : Host.Outcome State Fault Refusal :=
  let s := s.at_ t
  .next (if ctrlOn s && interpActive s then interpolate s else s)

/-- A preset of the port waits for a boundary (01 R77, R78). -/
def presetPending (s : State) (port : Nat) : Bool :=
  s.pos.pendingRp.any fun r => match r.what with
    | .preset q _ => q == port
    | _ => false

/-- A preset was loaded over an all-ones count in this very cycle: a forward edge of the cycle carries the old value out
first, and the preset stands (01 R78). -/
def carriedOut (s : State) (a : AuxPort) : Bool := a.loaded == some (s.now, 0xFFFFFFFFFFFFFFFF)

/-- A decoded edge of ENC1 to ENC3; a carry with a preset pending, or loaded in the same cycle, sets CARRY (01 R73, R78). -/
def auxEdge (port : Nat) (fwd : Bool) (s : State) : State :=
  let p := s.pos
  let a := getI p.aux (port - 1) AuxPort.reset
  let same := fwd && carriedOut s a
  let carry := same || (fwd && a.cnt == 0xFFFFFFFFFFFFFFFF && presetPending s port)
  s.setPos { p with
    aux := upd p.aux (port - 1) fun a =>
      { a with cnt := if same then a.cnt else if fwd then a.cnt + 1 else a.cnt - 1, loaded := if same then none else a.loaded }
    flags := if carry then p.flags ||| 0x100 else p.flags }

/-- AUX_ENCODER_EDGE. -/
def execAuxEncoderEdge (port : Nat) (k : HeldEdge) (t : Nat) (s : State) : Host.Outcome State Fault Refusal :=
  let s := repeatOut port (.ab k.kind) (s.at_ t)
  .next (
    if !ctrlOn s || port < 1 || 3 < port || !filtered s port k.held then s
    else match k.kind with
      | .both => quadError port s
      | .forward => auxEdge port (edgeForward s port true) s
      | .reverse => auxEdge port (edgeForward s port false) s)

/-! ## Anchoring (14 R667) and Z captures (01 R55, R56) -/

/-- Set PTB and HWM, and ANCHORED; the next window boundary and the next trigger of each generator lie after the HWM (01 R31,
R49; 14 R667). DESIGN CHOICE (log entry 118): the last Z captures stand, so a Z spacing that spans an anchoring, or a preset
of ENC1 to ENC3, is compared with ENC_ZPER like any other (R56). -/
def anchorAt (count : Int) (frac : Nat) (hwm : Long) (code : Nat) (discont : Bool) (s : State) : State :=
  let p := { s.pos with count := count, frac := frac, hwm := hwm }
  let low := behindOf p
  let s1 := ((s.setPos { p with
    anchored := true, behindSeen := low, fwdEdges := [], nextBoundary := boundaryAfter p.shift hwm
    reversals := if low then p.reversals + 1 else p.reversals }).setBoot
      { s.boot with anchor := code, discont := discont, waitZ := false }).setLanes
        { s.lanes with tg := (s.lanes.tg.map fun g => { g with nextK := (hwm.toInt - (g.f : Int)) / (max 1 g.p : Int) + 1 }) }
  if low then noticeUnitAt 0x0201 (low32 hwm) [] s1 else s1

/-- Fallback Z: the PTB becomes Z_BASE at the first rising ENC0 Z edge (14 Table 14.5 row 5). -/
def zAnchor (s : State) : State :=
  let z := s.boot.draft.zBase
  anchorAt (z.toNat / 16) (z.toNat % 16) (BitVec.ofNat 64 z.toNat) 4 true s

/-- The spacing of two captures, `d` in units of 1/`unit` count, deviates from ZPER by more than ZTOL. -/
def zDeviates (e : EncCfg) (unit : Nat) (d : Int) : Bool :=
  e.zper != 0 && decide ((unit * e.ztol : Int) < ((((d.natAbs : Int) - (unit * e.zper : Int)).natAbs : Nat) : Int))

/-- ZDEV, its notice and its log entry (01 R56, 12 R568). -/
def zDeviation (port : Nat) (counts : Int) (s : State) : State :=
  let s1 := s.setPos { s.pos with flags := s.pos.flags ||| 0x200 }
  noticeUnit 0x0211 (le4 port ++ leInt 4 counts)
    (logFault { entryOf s 0x0E 1 port with detect := 0x0E00 + Config.detectCode 0x0E % 256 } s1)

/-- A rising Z edge of ENC0. DESIGN CHOICE (log entry 118): at the edge that anchors the PTB (14 Table 14.5 row 5), PTB_ZCAP
takes the PTB as it stands before the anchoring (01 R55). -/
def masterZ (s : State) : State :=
  let p := s.pos
  let here : Int := 16 * p.count + p.frac
  let s1 := s.setPos { p with zcap := ptbOf p, zlast := some here }
  let s2 := match p.zlast with
    | some z => if zDeviates (getI p.enc 0 EncCfg.reset) 16 (here - z) then zDeviation 0 (rnd 1 (here - z) 16) s1 else s1
    | none => s1
  if s.boot.waitZ && !p.anchored then zAnchor s2 else s2

/-- A rising Z edge of ENC1 to ENC3. -/
def auxZ (port : Nat) (s : State) : State :=
  let p := s.pos
  let a := getI p.aux (port - 1) AuxPort.reset
  let s1 := s.setPos { p with aux := upd p.aux (port - 1) fun a => { a with zcap := low32 a.cnt, zlast := some a.cnt } }
  match a.zlast with
  | some z =>
    let d := (a.cnt - z).toInt
    if zDeviates (getI p.enc port EncCfg.reset) 1 d then zDeviation port d s1 else s1
  | none => s1

/-- Z_EDGE_CAPTURE: a transition of Z is repeated as received; a rising one that the filter accepts is captured (01 R51, R55,
R65). -/
def execZEdgeCapture (z : ZEdge) (t : Nat) (s : State) : Host.Outcome State Fault Refusal :=
  let s := repeatOut z.port (.z z.rising) (s.at_ t)
  .next (if !ctrlOn s || 3 < z.port || !z.rising || !filtered s z.port z.held then s
    else if z.port = 0 then masterZ s else auxZ z.port s)

/-! ## Speed (01 R57, R67 to R71) -/

/-- A fraction in lowest terms. -/
def norm (q : Int × Nat) : Int × Nat :=
  let g := Nat.gcd q.1.natAbs q.2
  if g = 0 then q else (q.1 / (g : Int), q.2 / g)

/-- Edges of the window (t - W, t]. -/
def windowEdges (p : Position) (now : Nat) : List (Nat × Bool) :=
  p.edges.filter fun e => decide (now < e.1 + usTicks p.spdWin)

/-- v_raw = d E s / W in um/s, with s in nm and W in us. -/
def rawSpeed (p : Position) (now : Nat) : Int × Nat :=
  let e : Int := (windowEdges p now).length
  norm ((if p.dirRev then -e else e) * p.scale * 1000, p.spdWin)

/-- v_net = (C(t) - C(t - W)) s / W. -/
def netSpeed (p : Position) (now : Nat) : Int × Nat :=
  let w := windowEdges p now
  let f : Int := (w.filter (·.2)).length
  let r : Int := (w.filter fun e => !e.2).length
  norm ((f - r) * p.scale * 1000, p.spdWin)

/-- v_filt + (v_net - v_filt) / 2^k. -/
def filtStep (k : Nat) (vf vn : Int × Nat) : Int × Nat :=
  norm (vf.1 * (2 ^ k - 1) * vn.2 + vn.1 * vf.2, vf.2 * vn.2 * 2 ^ k)

/-- Largest edge rate of a mode, in edges per second (01 Table 1.2). -/
def edgeLimit (htl : Bool) : Nat := if htl then 500000 else 10000000

/-- The edge rate over W exceeds its limit, or |v_filt| exceeds 25 m/s (01 R57). -/
def overspeedNow (p : Position) (now : Nat) : Bool :=
  decide (edgeLimit (getI p.enc 0 EncCfg.reset).htl * p.spdWin < (windowEdges p now).length * 1000000) ||
    decide (25000000 * p.vFilt.2 < p.vFilt.1.natAbs)

/-- v_filt as reported, um/s, signed 32 bits. -/
def vFiltUm (s : State) : Int := rnd 2 s.pos.vFilt.1 s.pos.vFilt.2

def vRawUm (s : State) : Int := rnd 3 s.pos.vRaw.1 s.pos.vRaw.2

/-- One computation of the three speeds, and the overspeed check (01 R57, R67). DESIGN CHOICE (log entry 118): OVERSPEED is
set, its notice raised and PTB_OVERSPEEDS counted at the onset of a condition, and not again while it lasts. -/
def speedStep (s : State) : State :=
  let p := { s.pos with vRaw := rawSpeed s.pos s.now, vNet := netSpeed s.pos s.now }
  let p := { p with vFilt := filtStep p.spdFilt p.vFilt p.vNet, lastSpeed := s.now }
  let o := overspeedNow p s.now
  if o && !p.overNow then
    let s1 := s.setPos { p with overNow := true, flags := p.flags ||| 0x20, overspeeds := satInc p.overspeeds }
    noticeUnit 0x0212 (leInt 4 (vFiltUm s1)) s1
  else s.setPos { p with overNow := o }

/-- SPEED_UPDATE, every 10 us. -/
def execSpeedUpdate (t : Nat) (s : State) : Host.Outcome State Fault Refusal :=
  let s := s.at_ t
  .next (if ctrlOn s && decide (s.pos.lastSpeed + usTicks 10 ≤ s.now) then speedStep s else s)

/-- STATIONARY_TIMEOUT: no master edge for 100 ms (01 R71). -/
def execStationaryTimeout (s : State) : Host.Outcome State Fault Refusal :=
  .next (
    if !ctrlOn s || s.pos.stationary then s
    else
      let s := s.at_ (s.pos.lastEdge + msTicks 100)
      s.setPos { s.pos with stationary := true })

/-! ## Deferred reprograms (01 R77 to R80) -/

/-- Two reprograms write the same register (01 R80). -/
def sameRegister (a b : Reprog) : Bool :=
  match a, b with
  | .window _ _ _, .window _ _ _ => true
  | .preset p _, .preset q _ => p == q
  | .encFilt p _, .encFilt q _ => p == q
  | .ssi _, .ssi _ => true
  | .trigger p _ _, .trigger q _ _ => p == q
  | .plnFilter p _ _ _ _ _ _ _ _ _, .plnFilter q _ _ _ _ _ _ _ _ _ => p == q
  | .plnLevel p _ _ _, .plnLevel q _ _ _ => p == q
  | .cal c k _, .cal d j _ => c == d && k == j
  | _, _ => false

/-- The change waits for the next position-window boundary, in place of an earlier one of the same register (01 R77, R80). -/
def deferReprog (what : Reprog) (issuer : Nat) (opcode : Half) (s : State) : State :=
  let rest := s.pos.pendingRp.filter fun r => !sameRegister r.what what
  s.setPos { s.pos with
    pendingRp := rest ++ [{ what := what, boundary := boundaryAfter s.pos.shift s.pos.hwm, issuer := issuer, opcode := opcode }] }

/-- An earlier change of the same register is withdrawn by one that takes effect at once, whether it waits for its boundary or for
the scan line after it (01 R80, 05 R249). -/
def dropReprog (what : Reprog) (s : State) : State :=
  let other (r : PendingReprog) := !sameRegister r.what what
  (s.setPos { s.pos with pendingRp := s.pos.pendingRp.filter other }).setPln { s.pln with due := s.pln.due.filter other }

/-- FLAGS.APPLY_STATIONARY (03 Table 3.2). -/
def Packet.atOnce (p : Packet) : Bool := p.flags.getLsbD 4

/-- APPLY_STATIONARY on a strip that moves (01 R79). -/
def movingRefused (p : Packet) (s : State) : Bool := p.atOnce && !s.pos.stationary

/-! ## Registers of chapter 01 -/

/-- PTB_STATUS (01 Table 1.5). -/
def ptbStatus (s : State) : Word :=
  let p := s.pos
  BitVec.ofNat 32 (b2n p.anchored + 2 * b2n (behind s) + 4 * b2n (interpActive s) + 8 * b2n p.stationary + 16 * b2n p.dirRev)
    ||| (p.flags &&& 0x7E0)

/-- PTB_INLAG in ns: receiver delay, N x 2.5 ns and 5 ns (01 R34). -/
def inLag (s : State) : Nat :=
  let e := getI s.pos.enc 0 EncCfg.reset
  min (if e.htl then 300 else 30) (Config.receiverDelay e.htl) + (rnd 4 (5 * e.filtN) 2).toNat + 5

/-- The values of POS_STATUS: width in bytes and value, in the order of Table 15.5. DESIGN CHOICE (log entry 118): a speed
outside the signed 32-bit range is reported modulo 2^32 (01 R67 gives it no other value). -/
def posStatusRegs (s : State) : List (Nat × Nat) :=
  let p := s.pos
  [(8, (ptb s).toNat), (8, p.hwm.toNat), (8, p.zcap.toNat)] ++ p.aux.map (fun a => (8, a.cnt.toNat)) ++
  [(4, (ptbStatus s).toNat), (4, (vRawUm s % 2 ^ 32).toNat), (4, (vFiltUm s % 2 ^ 32).toNat)] ++
  p.qerr.map (fun q => (4, q.toNat)) ++
  [(4, p.reversals.toNat), (4, p.overspeeds.toNat), (4, inLag s), (4, p.shift), (4, p.scale)]

/-- A "Registers: …" result (15 R691). -/
def regBytes (l : List (Nat × Nat)) : Bytes := l.flatMap fun (n, v) => leBytes n v

/-! ## The Position group (15 Table 15.5) -/

/-- POS_STATUS. -/
def execPosStatus (r : Ref) (s : State) : Host.Outcome State Fault Refusal :=
  .next (runOp 0x0201 r s fun p s => ok p (regBytes (posStatusRegs s)) s)

/-- POS_SCALE_SET (01 R32, R33; 15 R695). -/
def execPosScaleSet (r : Ref) (s : State) : Host.Outcome State Fault Refusal :=
  .next (runOp 0x0202 r s fun p s =>
    let v := fld p.params 0 4
    if v < 100 ∨ 1000000 < v then refuse p stBAD_PARAM 0x20 s
    else if !s.led.held.isEmpty then refuse p stDENIED noField s
    else ok p [] (wantRecord 4 (s.setPos { s.pos with scale := v })))

/-- POS_ENC_CONFIG: MODE, INV, TERM and the Z check at once, FILT_N deferred (01 R50, R51, R56, R77). -/
def encConfig (p : Packet) (s : State) : State :=
  let b := p.params
  let port := fld b 0 1
  let old := getI s.pos.enc port EncCfg.reset
  let new := { old with
    htl := bit (fld b 1 1) 0, inv := bit (fld b 2 1) 0, term := bit (fld b 3 1) 0, zper := fld b 8 4, ztol := fld b 12 4 }
  let filt := Reprog.encFilt port (fld b 4 1)
  if 3 < port then refuse p stBAD_PARAM 0x20 s
  else if 1 < fld b 1 1 then refuse p stBAD_PARAM 0x21 s
  else if 1 < fld b 2 1 then refuse p stBAD_PARAM 0x22 s
  else if 1 < fld b 3 1 then refuse p stBAD_PARAM 0x23 s
  else if (new.htl != old.htl || new.inv != old.inv || new.term != old.term) && !s.led.held.isEmpty then
    refuse p stDENIED noField s
  else if movingRefused p s then refuse p stBUSY noField s
  else
    let s1 := wantRecord 4 (s.setPos { s.pos with enc := upd s.pos.enc port fun _ => new })
    if p.atOnce then
      let s2 := dropReprog filt s1
      let s3 := s2.setPos { s2.pos with enc := upd s2.pos.enc port fun e => { e with filtN := fld b 4 1 } }
      done p stACCEPTED [] (noticeHolder p.principal 0x0203 (le2 0x0203) s3)
    else done p stACCEPTED [] (deferReprog filt p.principal p.opcode s1)

def execPosEncConfig (r : Ref) (s : State) : Host.Outcome State Fault Refusal := .next (runOp 0x0203 r s encConfig)

/-- A deferred position under a new window length: one the HWM has not reached moves to the first boundary of the new length
at or after it (01 R77). -/
def realign (s : State) (n : Nat) (b : Long) : Long := if reached s b then b else boundaryAt n b

/-- The window length becomes 2^n: the next boundary lies on the new grid, and so does every setting that waits for a boundary
the HWM has not reached, a bench's change among them (01 R72, R77; 06 R337). -/
def setShift (n : Nat) (s : State) : State :=
  if n = s.pos.shift then s
  else
    let p := s.pos
    let s1 := s.setPos { p with
      shift := n
      nextBoundary := if reached s p.nextBoundary then p.nextBoundary else boundaryAfter n p.hwm
      pendingRp := p.pendingRp.map fun r => { r with boundary := realign s n r.boundary } }
    s1.setFab { s1.fab with
      bench := s1.fab.bench.map fun b => { b with change := b.change.map fun c => (c.1, realign s n c.2) } }

/-- Apply a deferred position setting (01 R77, R78). -/
def applyPosition (what : Reprog) (s : State) : State :=
  let p := s.pos
  match what with
  | .window n k w => setShift n (s.setPos { p with spdFilt := k, spdWin := w })
  | .preset port v =>
    s.setPos { p with aux := upd p.aux (port - 1) fun a => { a with cnt := v, loaded := some (s.now, a.cnt) } }
  | .encFilt port n => s.setPos { p with enc := upd p.enc port fun e => { e with filtN := n } }
  | .ssi c => s.setPos { p with ssi := c }
  | _ => s

/-- A deferred setting of this group: at once with APPLY_STATIONARY on a strip at standstill, else at the next boundary
(01 R77, R79, R80; 15 R692). -/
def posReprog (p : Packet) (what : Reprog) (s : State) : State :=
  if movingRefused p s then refuse p stBUSY noField s
  else if p.atOnce then
    done p stACCEPTED [] (noticeHolder p.principal 0x0203 (le2 p.opcode.toNat) (applyPosition what (dropReprog what s)))
  else done p stACCEPTED [] (deferReprog what p.principal p.opcode s)

/-- POS_WINDOW_SET (01 R68, R72). -/
def execPosWindowSet (r : Ref) (s : State) : Host.Outcome State Fault Refusal :=
  .next (runOp 0x0204 r s fun p s =>
    let n := fld p.params 0 1
    let k := fld p.params 1 1
    let w := fld p.params 4 4
    if n < 8 ∨ 24 < n then refuse p stBAD_PARAM 0x20 s
    else if 8 < k then refuse p stBAD_PARAM 0x21 s
    else if w < 100 ∨ 100000 < w then refuse p stBAD_PARAM 0x24 s
    else posReprog p (.window n k w) s)

/-- POS_PRESET (01 R77). -/
def execPosPreset (r : Ref) (s : State) : Host.Outcome State Fault Refusal :=
  .next (runOp 0x0205 r s fun p s =>
    let port := fld p.params 0 1
    if port < 1 ∨ 3 < port then refuse p stBAD_PARAM 0x20 s
    else posReprog p (.preset port (BitVec.ofNat 64 (fld p.params 4 8))) s)

/-- The SSI configuration a packet carries. -/
def ssiOf (b : Bytes) : SsiCfg :=
  { clk := fld b 0 2, bits := fld b 2 1, gray := bit (fld b 3 1) 0, mono := fld b 4 2, checkEn := bit (fld b 6 1) 0
    scale := fld b 8 4, offset := fld b 12 4, tol := fld b 16 4 }

/-- POS_SSI_CONFIG (01 R60 to R62, R77). Applied at once, it is written to the Record at once (14 R673). -/
def execPosSsiConfig (r : Ref) (s : State) : Host.Outcome State Fault Refusal :=
  .next (runOp 0x0206 r s fun p s =>
    let b := p.params
    let c := ssiOf b
    if c.clk < 100 ∨ 2000 < c.clk then refuse p stBAD_PARAM 0x20 s
    else if c.bits < 10 ∨ 32 < c.bits then refuse p stBAD_PARAM 0x22 s
    else if 1 < fld b 3 1 then refuse p stBAD_PARAM 0x23 s
    else if c.mono < 20 then refuse p stBAD_PARAM 0x24 s
    else if 1 < fld b 6 1 then refuse p stBAD_PARAM 0x26 s
    else posReprog p (.ssi c) (if p.atOnce && s.pos.stationary then wantRecord 4 s else s))

end Sys2Proof.Machine
end

