-- ==== Sys2Proof/Machine/Release.lean ====
section
/-! DEFINITION. What follows when an admission ends, by release (02 R107) or revocation (02 R112 to R114): its work is
abandoned, its parts get HOLD, its replies complete, its bandwidth is returned. -/

namespace Sys2Proof.Machine

/-- How an admission ends. -/
inductive Why where
  | revoked | released
deriving DecidableEq, Repr

/-- Part reason (09 Table 9.5). -/
def Why.reason : Why → Nat
  | .revoked => 0x14
  | .released => 0x23

/-! ## Bandwidth (07 R378, R379) -/

/-- Position units per metre, as numerator and denominator (00 R10). -/
def puPerMetre (s : State) : Nat × Nat :=
  if s.pos.scale = 0 then (Config.puPerMetreAtZero, 1) else (16000000000, s.pos.scale)

/-- Bytes per metre that the admissions of a class hold on a bandwidth budget (4 SHEET_BW, 5 INGOT_BW). -/
def classDemand (s : State) (budget cls : Nat) : Nat :=
  ((s.led.held.filter fun a => a.cls == cls).map fun a =>
    ((a.demands.filter fun d => d.budget == budget).map (·.amount)).sum).sum

/-- Refill for `d` bytes per metre over one position window (07 R378). -/
def refillOf (s : State) (d : Nat) : Nat :=
  let (n, m) := puPerMetre s
  ceilDiv (d * 2 ^ s.pos.shift * m) n

/-- A bucket never holds more than twice its refill. -/
def capBucket (tok : Int) (refill : Nat) : Int := min tok (2 * refill)

/-- Cut the buckets of a class to twice their new refill (07 R379). -/
def cutBuckets (cls : Nat) (s : State) : State :=
  s.setDraw { s.draw with
    tokS := upd s.draw.tokS cls fun t => capBucket t (refillOf s (classDemand s 4 cls))
    tokI := upd s.draw.tokI cls fun t => capBucket t (refillOf s (classDemand s 5 cls)) }

/-! ## Command lists (06 R330, R331) -/

/-- Stream a command runs through, if it names one (06 Table 6.12; 07 Table 7.4; 08; 15 R706). -/
def cmdStream (engine : Nat) (c : Cmd) : Option Nat :=
  if c.cmd < 0x100 then none
  else if engine = 1 ∨ engine = 2 ∨ engine = 4 then some (c.arg1.toNat % 2 ^ 32)
  else if engine = 3 ∧ c.cmd = 0x100 then some (fld c.body 4 4)
  else if engine = 3 ∧ c.cmd = 0x102 then some (fld c.body 8 4)
  else none

def listNames (h : Nat) (l : CmdList) : Bool := l.cmds.any fun c => cmdStream l.engine c == some h

/-- The result of a list packet (06 R331). -/
def listResult (completed failing : Nat) (status : Half) (poison : Option Long) : Bytes :=
  le2 completed ++ le2 failing ++ le2 status.toNat ++ le2 0 ++
    (match poison with | some a => le8 a.toNat | none => [])

def deferEach (l : List Reprog) (issuer : Nat) (opcode : Half) (s : State) : State :=
  match l with
  | [] => s
  | w :: r => deferEach r issuer opcode (deferReprog w issuer opcode s)

/-- End a list with its reply; its calibration changes wait for one boundary (15 R706). -/
def endList (l : CmdList) (status : Half) (result : Bytes) (s : State) : State :=
  let s0 := deferEach l.cals l.tenant 0x0504 s
  let s1 := s0.setFab { s0.fab with lists := s0.fab.lists.filter fun x => !(x.ref == l.ref) }
  match findP l.ref s with
  | none => s1
  | some p => if p.committed then doneLater p status result s1 else done p status result s1

/-- End a list at its present command. -/
def failList (l : CmdList) (status : Half) (poison : Option Long) (s : State) : State :=
  endList l status (listResult l.index l.index status poison) s

def failLists (ls : List CmdList) (status : Half) (s : State) : State :=
  match ls with
  | [] => s
  | l :: r => failLists r status (failList l status none s)

/-! ## What each kind of admission leaves behind -/

/-- The admission is held no more. -/
def dropAdm (h : Nat) (s : State) : State := s.setLed { s.led with held := s.led.held.filter fun a => a.handle != h }

/-- An admission that falls with another is held no more, and its class's buckets are cut (07 R379). -/
def dropHeld (h : Nat) (s : State) : State :=
  match s.led.held.find? fun a => a.handle == h with
  | none => s
  | some a => cutBuckets a.cls (dropAdm h s)

/-- A cache entry is unlocked; a label recorded meanwhile comes into force (11 R553). -/
def unlockEntry (e : CacheEntry) : CacheEntry :=
  if !e.lock then e
  else match e.nextLabel with
    | none => { e with lock := false }
    | some l => { e with lock := false, label := l, nextLabel := none, state := if l = 0 then 1 else 2 }

/-- The epoch ends without a candidate; its pending reply completes with DEGRADED_HOLD (11 R558), and the result of a minibatch
in flight will come late (02 R112). -/
def endEpoch (s : State) : State :=
  match s.rcp.epoch with
  | none => s
  | some e =>
    let s1 := writeCacheHeaders e.entries
      (dropHeld e.handle (s.setRcp { s.rcp with
        epoch := none, cache := s.rcp.cache.map unlockEntry
        lateBatch := if e.started = e.done then s.rcp.lateBatch else s.rcp.lateBatch ++ [e.tenant] }))
    if e.fromList then
      match s1.fab.lists.find? fun l => l.ref == e.ref with
      | some l => failList l stDEGRADED none s1
      | none => s1
    else match findP e.ref s1 with
      | some p => doneLater p stDEGRADED [] s1
      | none => s1

/-- HWM span covered since a position. -/
def spanSince (s : State) (p : Long) : Nat := (posI s.pos.hwm - posI p).toNat

/-- The shadow ends; its candidate keeps the span covered (11 R560 to R562). -/
def endShadow (s : State) : State :=
  match s.rcp.shadow with
  | none => s
  | some x => dropHeld x.handle (s.setRcp { s.rcp with
      shadow := none
      cands := s.rcp.cands.map fun c => if c.handle = x.cand then { c with shadowSpan := spanSince s x.startHwm } else c })

/-- Capture stops and the cache entries stay in place (15 R703). -/
def endCapture (s : State) : State :=
  s.setRcp { s.rcp with cacheCfg := s.rcp.cacheCfg.map fun c => { c with capturing := false } }

/-- Close a tap: PLN_TAP_DONE with 0 length reached, 1 closed, 2 revoked (05 R294, Table 5.9). -/
def endTap (h code : Nat) (s : State) : State :=
  match s.pln.taps.find? fun t => t.handle == h with
  | none => s
  | some t =>
    noticeHolder t.tenant 0x0503 (le4 h ++ le1 code)
      (s.setPln { s.pln with taps := s.pln.taps.filter fun t => t.handle != h })

/-- Close a stream; lists that name it end with DEGRADED_HOLD (02 R114). -/
def endStream (h : Nat) (s : State) : State :=
  failLists (s.fab.lists.filter (listNames h)) stDEGRADED
    (s.setDraw { s.draw with streams := s.draw.streams.filter fun x => x.handle != h })

/-- A host actuation ends: an entry not switched on is removed and logged CANCELLED; a pulse that is on runs on. -/
def endActuation (h : Nat) (s : State) : State :=
  match s.hm.acts.find? fun a => a.handle == h with
  | none => s
  | some a => if (a.state == .firing) then s else logActOf a 4 0 (dropAct h s)

/-- RCP_ACTIVE (11 Table 11.10). -/
def noticeActive (tenant handle code : Nat) (e : Word) (s : State) : State :=
  noticeHolderAt tenant 0x0B01 e (le4 handle ++ le1 code) s

/-- Cancel the pending activation of a recipe; its outgoing recipe stays ACTIVE (11 R536). -/
def cancelActivation (h : Nat) (s : State) : State :=
  match findRecipe s h with
  | none => s
  | some r =>
    if r.state ≠ .pending then s
    else
      let s1 := modRecipe r.outgoing (fun o => { o with endAt := none }) (modRecipe h (fun r => { r with state := .held }) s)
      noticeActive r.tenant h 2 (low32 r.switchAt) s1

/-- The bench is FREE again. Objects of its SHEET share stay and count against the common pool (06 R316); objects in its
FOIL are lost with it. -/
def freeBench (b : Nat) (s : State) : State :=
  let s0 := s.setLed { s.led with revoked := s.led.revoked.filter fun e => !(e.1 == .bench && e.2.2 == b) }
  let s1 := s0.setDraw { s.draw with objs := (s.draw.objs.map fun o =>
    if o.bench = some b then { o with bench := none, lost := o.lost || o.tier == .foil } else o) }
  modBench b (fun x => { Bench.reset with tiles := x.tiles, ctr := x.ctr, running := x.running.map goneRun }) s1

/-- Releases that wait, and whose deadline or time limit has come, end with TIMED_OUT (03 R159, R160). -/
def cancelExpired (l : List Ref) (s : State) : State :=
  match l with
  | [] => s
  | r :: t => cancelExpired t (match findP r s with
    | some p => if deadlineReached s p || tmoExpired s p then cancelP p stTIMED_OUT (fenceOf s p.principal) s else s
    | none => s)

/-- Refuse each packet of the list: the bench it named is gone (15 R693). -/
def refuseGone (l : List Ref) (s : State) : State :=
  match l with
  | [] => s
  | r :: t => refuseGone t (match findP r s with
    | some p => refuse p stBAD_PARAM 0x20 s
    | none => s)

/-- Releases that waited for LOADING or RESETTING to end, which a revocation has ended (06 R316, R317). -/
def releaseUnadmitted (b : Nat) (l : List Ref) (s : State) : State :=
  let s1 := cancelExpired l s
  match l.filterMap fun r => findP r s1 with
  | [] => s1
  | p :: rest => refuseGone (rest.map (·.ref)) (ok p [] (freeBench b s1))

/-- LOADING or RESETTING goes on until it ends. -/
def midChange (x : Bench) : Bool := x.state == .loading || x.state == .resetting

/-- State of a bench whose admission has ended: UNADMITTED after a revocation (06 R317); FREE after a release, at once or when
LOADING or RESETTING ends (06 R316). -/
def benchState (b : Nat) (why : Why) (fence : Word) (s : State) : State :=
  let x := benchOf s b
  match why with
  | .revoked =>
    releaseUnadmitted b x.releaseRefs (modBench b (fun x => { x with
      change := none, source := [], handle := 0, gen := nextFence fence, back := .unadmitted, state := .unadmitted
      releaseRefs := [] }) s)
  | .released => if midChange x then modBench b (fun x => { x with change := none, releasing := true }) s else freeBench b s

/-- A pending reply of the build or re-admission completes with DEGRADED_HOLD (02 R114). -/
def benchReply (b : Nat) (s : State) : State :=
  match (benchOf s b).loadRef with
  | none => s
  | some r =>
    let s1 := modBench b (fun x => { x with loadRef := none }) s
    match findP r s1 with
    | some p => doneLater p stDEGRADED [] s1
    | none => s1

/-- TEMPER work that needs the bench ends with it. -/
def endTemperWork (b : Nat) (temper : Bool) (s : State) : State :=
  let s1 := if temper then endEpoch s else s
  if temper || s1.rcp.shadow.any (·.bench == b) then endShadow s1 else s1

/-- The admission of a bench ends: its parts get HOLD, its tiles HOLD with REVOKED (06 Table 6.5), a pending activation of
its recipe is cancelled. `fence` is the generation of the work cut off. -/
def endBench (b : Nat) (why : Why) (fence : Word) (s : State) : State :=
  let x := benchOf s b
  let s1 := openParts s
  let s2 := match findRecipe s1 x.recipe with
    | some r => fixParts (fun p => p.recipe == x.recipe && needsBench s1 r.image b p) why.reason s1
    | none => s1
  let s3 := if x.temper then s2 else cancelActivation x.recipe s2
  benchState b why fence (endTemperWork b x.temper (benchReply b (flushBench b 0x14 fence s3)))

/-- Forget recipes that are held no more and have nothing left to judge or to log. -/
def pruneRecipes (s : State) : State :=
  s.setRcp { s.rcp with recipes := (s.rcp.recipes.filter fun r =>
    recipeHeld s r.handle || s.hm.parts.any (fun p => p.recipe == r.handle && !p.issued) ||
      s.hm.acts.any (fun a => a.recipe == some r.handle)) }

/-- A completion of the RT unit in the cycle of the recipe's bump is discarded and counted (08 R425). -/
def undoRt (h : Nat) (s : State) : State :=
  match s.asy.rtLast with
  | none => s
  | some x =>
    if x.at_ ≠ s.now ∨ x.op.recipe ≠ h then s
    else
      let before (p : Part) := (x.parts.find? fun q => q.recipe == p.recipe && q.id == p.id).getD p
      (s.setHm { s.hm with parts := s.hm.parts.map fun p => if p.recipe = h ∧ !p.issued then before p else p }).setAsy
        { s.asy with rtLast := none, rtUnit := x.unit, fenced := satInc s.asy.fenced }

/-- The admission of a recipe ends: parts whose START the HWM has passed get HOLD (09 R458), a pending activation is
cancelled, and the recipe judges nothing more. -/
def endRecipe (h : Nat) (why : Why) (s : State) : State :=
  let s0 := if why = .revoked then undoRt h s else s
  let s1 := cancelActivation h (fixParts (fun p => p.recipe == h) why.reason (openParts s0))
  pruneRecipes (modRecipe h (fun r => { r with
    state := .outgoing, endAt := some s1.pos.hwm, blocks := []
    fence := if why = .revoked then nextFence r.fence else r.fence }) s1)

/-- What follows the end of an admission, by its kind. -/
def endWork (a : Admission) (why : Why) (s : State) : State :=
  match a.kind with
  | .recipe => endRecipe a.handle why s
  | .bench => endBench a.object why a.fence s
  | .actuation => endActuation a.handle s
  | .epoch => endEpoch s
  | .tap => endTap a.handle (if why = .revoked then 2 else 1) s
  | .stream => endStream a.handle s
  | .capture => endCapture s
  | .shadow => endShadow s

/-- An admission ends: it is held no more, its buckets are cut, and its work ends. -/
def endAdm (a : Admission) (why : Why) (s : State) : State := endWork a why (cutBuckets a.cls (dropAdm a.handle s))

end Sys2Proof.Machine
end

