-- ==== Sys2Proof/Machine/Ledger.lean ====
section
/-! DEFINITION. The Ledger (chapter 02): capacities per metre, demands, admission in class order, refusals, and revocation when
capacity shrinks. -/

namespace Sys2Proof.Machine

/-! ## The admitted speed (02 R82, R105), in nm/s -/

/-- 25 m/s. -/
def vMax : Nat := 25000000000

/-- v_adm of a declared speed in um/s. -/
def vAdmOf (s : State) (vDecl : Nat) : Nat := vDecl * (1000 + s.led.vtol)

/-- Largest declared speed among the recipe admissions held. -/
def vDeclMax (held : List Admission) : Nat :=
  (held.filter fun a => a.kind == .recipe).foldl (fun m a => max m a.vDecl) 0

def hasRecipe (held : List Admission) : Bool := held.any fun a => a.kind == .recipe

/-- The v_adm that LEDG_VADM would hold: 0 with no recipe. -/
def vAdmHeld (s : State) : Nat := if hasRecipe s.led.held then vAdmOf s (vDeclMax s.led.held) else 0

/-- The v_adm capacities are computed at. -/
def vEff (v : Nat) : Nat := if v = 0 then vMax else v

/-! ## Benches -/

def quadsOf (groups : Word) : List Nat :=
  (List.range 4).filter fun q => ((List.range 8).any fun g => groups.getLsbD (8 * q + g))

def stakesOf (groups : Word) : List Nat := (List.range 256).filter fun k => groups.getLsbD (k / 8)

def liveStakes (s : State) (groups : Word) : List Nat := (stakesOf groups).filter fun k => !s.fab.retiredStakes.contains k

/-- FQ frequency in Hz of a throttle level (13 Table 13.5). -/
def levelHz (l : Nat) : Nat := getI [1250000000, 1000000000, 750000000, 500000000] l 500000000

/-- f_fab of a bench: the slowest quadrant it spans (02 Table 2.3). -/
def benchHz (s : State) (x : Bench) : Nat :=
  (quadsOf x.groups).foldl (fun m q => min m (levelHz (getI s.pwr.throttle q 0))) 1250000000

/-- Tiles per tile row that the recipe routes to the bench. -/
def routedTo (im : RecipeImage) (b : Nat) : Nat :=
  ((im.routes.filter fun r => r.bench == b).map fun r => r.colLast + 1 - r.colFirst).sum

/-- The shortest trigger pitch among the views the bench takes. DESIGN CHOICE (log entry 119): 02 R89 names one P for a bench, and
no rule says which one counts for views with different pitches. -/
def benchPitch (s : State) (im : RecipeImage) (b : Nat) : Nat :=
  max 1 ((im.routes.filter fun r => r.bench == b).foldl (fun m r =>
    let p := (tgOf s r.view).p
    if m = 0 then p else min m p) 0)

/-- Waves of a burst of `b` tiles on `m` stakes; none of them ends with no stake. -/
def waves (b m : Nat) : Nat := if b = 0 then 0 else if m = 0 then 2 ^ 40 else ceilDiv b m

/-- Tile rows per metre as a quotient, and tiles per row, of a bench. -/
def benchRow (s : State) (im : RecipeImage) (b : Nat) (x : Bench) : (Nat × Nat) × (Nat × Nat) :=
  let (n, d) := puPerMetre s
  let t := routedTo im b
  ((n, d * max 1 im.tileH * benchPitch s im b), (t, waves t (liveStakes s x.groups).length))

/-- FABRIC demand d_fab (02 R89). -/
def dFab (s : State) (im : RecipeImage) (b : Nat) (x : Bench) (cTile : Nat) : Nat :=
  let r := benchRow s im b x
  ceilDiv (r.1.1 * r.2.2 * cTile) r.1.2

/-- LATENCY demand d_lat at `v`, with `extra` us added to t_resp (02 R89, 06 R313); T_pipe + T_hm is 70 us. -/
def dLat (s : State) (im : RecipeImage) (b : Nat) (x : Bench) (cTile v extra : Nat) : Nat :=
  let f := benchHz s x
  let (n, d) := puPerMetre s
  let w := (benchRow s im b x).2.2
  ceilDiv ((w * cTile * 1000000 + (70 + extra) * f) * v * n) (f * 1000000 * 1000000000 * d)

/-- The demands of a bench from its certificate (02 R95); a TEMPER bench takes space alone. -/
def benchDemands (s : State) (b : Nat) (x : Bench) (cls v extra : Nat) : List Demand :=
  match x.cert with
  | none => []
  | some c =>
    let space : List Demand := [⟨2, b, c.foilFoot⟩, ⟨3, b, c.sheetFoot⟩]
    match findRecipe s x.recipe with
    | none => space
    | some r =>
      let w := benchRow s r.image b x
      let per (k : Nat) := ceilDiv (w.1.1 * w.2.1 * k) w.1.2
      [⟨1, b, dFab s r.image b x c.cTile⟩] ++ space ++
        [⟨4, cls, per c.sheetBytes⟩, ⟨5, cls, per c.ingotBytes⟩, ⟨6, 0, per c.vslots⟩,
          ⟨8, 0, ceilDiv (w.1.1 * w.2.1 * c.eTile) (w.1.2 * 1000000)⟩, ⟨12, b, dLat s r.image b x c.cTile v extra⟩]

/-- The bench with the certificate its admission answers to: that of a pending rebuild, once exchanged (06 R313). -/
def ledgerBench (x : Bench) : Bench :=
  match x.change with
  | some (.rebuild _ c _, _) => { x with cert := some c }
  | _ => x

/-- A held admission's demands at `v`: a bench's FABRIC and LATENCY follow its live stakes, its clock and v_adm (R105). -/
def demandsAt (s : State) (v : Nat) (a : Admission) : List Demand :=
  if a.kind ≠ .bench then a.demands
  else
    let now := benchDemands s a.object (ledgerBench (benchOf s a.object)) a.cls v 0
    a.demands.map fun d => if d.budget = 1 ∨ d.budget = 12 then (now.find? fun x => x.budget == d.budget).getD d else d

def refreshDemands (v : Nat) (s : State) : State :=
  s.setLed { s.led with held := (s.led.held.map fun a => { a with demands := demandsAt s v a }) }

/-! ## Capacities (02 Table 2.1) -/

/-- P_th in W at the rated ambient. -/
def pTh (tamb : Nat) : Nat := 240 - 4 * (tamb - 40)

def retiredChannels (s : State) : Nat := (s.draw.chan.filter (·.retired)).length

/-- SAG_WARN or an internal rail warning is active. -/
def supplyWarned (s : State) : Bool := s.pwr.sag || !s.pwr.railWarn.isEmpty

/-- Capacity of a budget instance at `v`, whatever the class. -/
def capOf (s : State) (v budget inst : Nat) : Nat :=
  match budget with
  | 1 => benchHz s (benchOf s inst) * 1000000000 / v
  | 2 => 262144
  | 3 => (benchOf s inst).share
  | 4 => 1536000000000 * 1000000000 / v
  | 5 => 163840000000 * (4 - retiredChannels s) * 1000000000 / (4 * v)
  | 6 => 2000000 * 1000000000 / v
  | 7 => if (getI s.dio.feed inst Feed.reset).retired then 0 else 1200000 * 1000000000 / v
  | 8 => match s.led.thermFreeze with
    | some f => f
    | none => (pTh s.led.tamb - s.led.pstatic) * 1000000000000 / v
  | 9 => 32768
  | 11 => 512
  | 12 => ((findRecipe s (benchOf s inst).recipe).map (·.image.lDec)).getD 0
  | _ => 0

/-- A bandwidth budget, with class caps (02 R88). -/
def classCapped (budget : Nat) : Bool := budget == 4 || budget == 5

/-- Cap of a class 0 to 6 on a bandwidth budget. -/
def classCap (s : State) (v budget cls : Nat) : Nat := capOf s v budget 0 * getI s.led.share cls 0 / 1000

/-! ## Use -/

/-- Demand of a list on a budget instance; a bandwidth budget has one total for all classes. -/
def demandOn (ds : List Demand) (budget inst : Nat) : Nat :=
  ((ds.filter fun d => d.budget == budget && (classCapped budget || d.inst == inst)).map (·.amount)).sum

def usedBy (held : List Admission) (sel : Admission → Bool) (budget inst : Nat) : Nat :=
  ((held.filter sel).map fun a => demandOn a.demands budget inst).sum

def used (held : List Admission) (budget inst : Nat) : Nat := usedBy held (fun _ => true) budget inst

def usedC (held : List Admission) (cls budget inst : Nat) : Nat := usedBy held (fun a => a.cls == cls) budget inst

/-- The instances of a budget that are looked at one by one. -/
def instances (budget : Nat) : List Nat :=
  if budget = 1 ∨ budget = 2 ∨ budget = 3 ∨ budget = 7 ∨ budget = 12 then List.range 16 else [0]

/-- Budget IDs with a capacity of their own, in order. -/
def budgetIds : List Nat := [1, 2, 3, 4, 5, 6, 7, 8, 9, 11, 12]

/-- Every budget instance, in ID order. -/
def allBudgets : List (Nat × Nat) := budgetIds.flatMap fun b => (instances b).map fun i => (b, i)

/-- One result for each budget that has any: that of its first instance (02 R109: COUNT 1 to 12; log entry 119). -/
def perBudget {α : Type} (f : Nat × Nat → Option α) : List α :=
  budgetIds.filterMap fun b => (instances b).findSome? fun i => f (b, i)

/-! ## Refusals (02 R109, Table 2.5) -/

/-- One failing budget. -/
structure Short where
  budget : Nat
  inst : Nat
  cls : Nat
  cause : Nat
  demand : Int
  free : Int
deriving DecidableEq, Repr

def Short.bytes (e : Short) : Bytes :=
  le1 e.budget ++ le1 e.inst ++ le1 e.cls ++ le1 e.cause ++ le4 0 ++ leInt 8 e.demand ++ leInt 8 e.free ++
    leInt 8 (e.demand - e.free)

def budgetPayload (l : List Short) : Bytes := le2 l.length ++ List.replicate 6 0 ++ l.flatMap Short.bytes

/-- Count a refusal. -/
def countRefusal (s : State) : State := s.setLed { s.led with refusals := s.led.refusals + 1 }

/-- SUPPLY refusal of a class-6 or class-7 request (02 R116). -/
def supplyShort (cls : Nat) : Short := { budget := 10, inst := cls, cls := cls, cause := 2, demand := 0, free := 0 }

/-- Free amount for a class and the cause it would be refused for (the admission procedure). -/
def freeFor (s : State) (v cls budget inst : Nat) : Int × Nat :=
  let held := s.led.held
  let total : Int := (capOf s v budget inst : Int) - used held budget inst
  if cls = 7 then (total, 0)
  else
    let t := total + usedC held 7 budget inst
    let c : Int := (classCap s v budget cls : Int) - usedC held cls budget inst
    if classCapped budget ∧ c < t then (c, 1) else (t, 0)

/-- The entry of one budget, if it fails. -/
def shortOn (s : State) (v cls : Nat) (ds : List Demand) (bi : Nat × Nat) : Option Short :=
  let d := demandOn ds bi.1 bi.2
  let (f, cause) := freeFor s v cls bi.1 bi.2
  let e (cause : Nat) : Short :=
    { budget := bi.1, inst := if classCapped bi.1 then cls else bi.2, cls := cls, cause := cause, demand := d, free := f }
  if d = 0 then none
  else if bi.1 = 8 ∧ s.led.thermFreeze.isSome then some (e 3)
  else if bi.1 = 9 ∧ s.boot.degraded then some (e 0)
  else if f < (d : Int) then some (e cause)
  else none

/-- The SUPPLY refusal of a request while a warning is active, which evaluates no other budget (02 R116). -/
def supplyShorts (s : State) (cls : Nat) : List Short := if 6 ≤ cls ∧ supplyWarned s then [supplyShort cls] else []

/-- Every failing budget of a request, in budget-ID order (02 R98, R109, R116, R117; 14 R679). -/
def shorts (s : State) (v cls : Nat) (ds : List Demand) : List Short :=
  if 6 ≤ cls ∧ supplyWarned s then supplyShorts s cls else perBudget (shortOn s v cls ds)

/-- The entry of one budget instance on which the admissions of class 0 to 6 would not fit at `v`: over a class cap, or over the
total. DESIGN CHOICE (log entry 119): Table 2.5 describes a request's own demand; here DEMAND is the use at `v`, FREE the
capacity, and CLASS the class of the new recipe. -/
def heldShort (s : State) (held : List Admission) (v cls : Nat) (bi : Nat × Nat) : Option Short :=
  let (b, i) := bi
  match (if classCapped b then (List.range 7).find? fun c => decide (classCap s v b c < usedC held c b i) else none) with
  | some c => some { budget := b, inst := c, cls := cls, cause := 1, demand := usedC held c b i, free := classCap s v b c }
  | none =>
    if capOf s v b i < used held b i then
      some { budget := b, inst := if classCapped b then cls else i, cls := cls, cause := 0, demand := used held b i, free := capOf s v b i }
    else none

/-- Budgets on which the admissions of class 0 to 6 would not fit at `v` (02 R104). -/
def heldShorts (s : State) (v cls : Nat) : List Short :=
  perBudget (heldShort s ((s.led.held.filter fun a => a.cls != 7).map fun a => { a with demands := demandsAt s v a }) v cls)

/-! ## Revocation (02 R110 to R119) -/

/-- Revocation causes (03 Table 3.9). -/
def cPREEMPT : Nat := 1
def cSAG : Nat := 2
def cRAIL : Nat := 3
def cTHROTTLE : Nat := 4
def cSTAKE : Nat := 5
def cDRAM : Nat := 6
def cFEED : Nat := 7
def cRECIPE : Nat := 8

/-- A revocation is counted, and LEDGER_REVOKE raised (02 R115). -/
def tellRevoked (cause budget inst : Nat) (a : Admission) (s : State) : State :=
  noticeHolder a.tenant 0x0301 (le4 a.handle ++ le1 a.cls ++ le1 cause ++ le1 budget ++ le1 inst)
    (s.setLed { s.led with revokes := s.led.revokes + 1, revoked := (a.kind, a.tenant, a.object) :: s.led.revoked })

/-- Revoke one admission: count, LEDGER_REVOKE, and the end of its work. -/
def revokeOne (cause budget inst : Nat) (a : Admission) (s : State) : State :=
  endAdm a .revoked (tellRevoked cause budget inst a s)

/-- Instance that LEDGER_REVOKE names: under a supply warning, the class of the revoked admission (02 R116). -/
def namedInst (budget inst : Nat) (a : Admission) : Nat := if budget = 10 then a.cls else inst

def revokeAll (cause budget inst : Nat) (l : List Admission) (s : State) : State :=
  match l with
  | [] => s
  | a :: r =>
    revokeAll cause budget inst r
      (if (findAdm s a.handle).isSome then revokeOne cause budget (namedInst budget inst a) a s else s)

/-- The epoch and the shadow that need a bench: they end with it (11 R558, R560). -/
def temperOf (s : State) (b : Nat) : List Admission :=
  let t := (benchOf s b).temper
  s.led.held.filter fun a =>
    (a.kind == .epoch && t) || (a.kind == .shadow && (t || s.rcp.shadow.any (·.bench == b)))

/-- Revoke a bench, after the epoch and the shadow that need it; each is a revocation of its own (02 R115). -/
def revokeBench (cause budget inst : Nat) (a : Admission) (s : State) : State :=
  revokeOne cause budget inst a (revokeAll cause budget inst (temperOf s a.object) s)

def revokeBenches (cause budget inst : Nat) (l : List Admission) (s : State) : State :=
  match l with
  | [] => s
  | a :: r =>
    revokeBenches cause budget inst r
      (if (findAdm s a.handle).isSome then revokeBench cause budget (namedInst budget inst a) a s else s)

/-- Benches that serve a recipe. -/
def benchesOf (s : State) (recipe : Nat) : List Admission :=
  s.led.held.filter fun a => a.kind == .bench && a.recipe == recipe && recipe != 0

/-- Revoke an admission; the benches of a recipe go with it, with cause RECIPE (02 Table 2.3). -/
def revoke (cause budget inst : Nat) (a : Admission) (s : State) : State :=
  if a.kind = .recipe then revokeBenches cRECIPE budget inst (benchesOf s a.handle) (revokeOne cause budget inst a s)
  else if a.kind = .bench then revokeBench cause budget inst a s
  else revokeOne cause budget inst a s

/-- The newest of a list. -/
def newest (l : List Admission) : Option Admission :=
  l.foldl (fun m a => match m with
    | none => some a
    | some b => if b.order < a.order then some a else some b) none

/-- A budget instance that is over its capacity, or over a class cap, and the admission to revoke for it. -/
def victimOn (s : State) (v : Nat) (bi : Nat × Nat) : Option (Admission × Nat × Nat) :=
  let held := s.led.held
  let has (a : Admission) := decide (0 < demandOn a.demands bi.1 bi.2)
  let overC := if classCapped bi.1 then
      (List.range 7).filter fun c => decide (classCap s v bi.1 c < usedC held c bi.1 bi.2)
    else []
  match overC.getLast? with
  | some c => (newest (held.filter fun a => a.cls == c && has a)).map fun a => (a, bi.1, c)
  | none =>
    if used held bi.1 bi.2 ≤ capOf s v bi.1 bi.2 then none
    else
      let top := (held.filter has).foldl (fun m a => max m a.cls) 0
      (newest (held.filter fun a => a.cls == top && has a)).map fun a =>
        (a, bi.1, if classCapped bi.1 then a.cls else bi.2)

/-- The lowest budget ID that does not fit, and its victim. -/
def victim (s : State) (v : Nat) : Option (Admission × Nat × Nat) := allBudgets.findSome? (victimOn s v)

/-- Revoke until everything fits; `fuel` is the number of admissions held. -/
def shrink (fuel v cause : Nat) (s : State) : State :=
  match fuel with
  | 0 => s
  | fuel + 1 =>
    match victim s v with
    | none => s
    | some (a, b, i) => shrink fuel v cause (revoke cause b i a s)

/-- Benches whose live stakes lie below the MIN_STAKES of the certificate their admission answers to are revoked, whatever their
class (02 R119, 06 R313). -/
def shortStaffed (s : State) : List Admission :=
  s.led.held.filter fun a => a.kind == .bench &&
    (match (ledgerBench (benchOf s a.object)).cert with
     | some c => decide ((liveStakes s (benchOf s a.object).groups).length < c.minStakes)
     | none => false)

def revokeStaff (l : List Admission) (s : State) : State :=
  match l with
  | [] => s
  | a :: r => revokeStaff r (if (findAdm s a.handle).isSome then revoke cSTAKE 1 a.object a s else s)

/-- One run of on_capacity_change at the v_adm it finds on entry. -/
def capacityRun (cause : Nat) (s : State) : State :=
  let v := vEff s.led.vadm
  let s1 := revokeStaff (shortStaffed s) (refreshDemands v s)
  shrink (s1.led.held.length + 1) v cause s1

/-- Recompute v_adm by R82; a rise is a capacity change of its own, with cause RECIPE (02 R105). -/
def settleVAdm (s : State) : State :=
  let v := vAdmHeld s
  if v = s.led.vadm then s
  else
    let rise := decide (vEff s.led.vadm < vEff v)
    let s1 := refreshDemands (vEff v) (s.setLed { s.led with vadm := v })
    if rise then capacityRun cRECIPE s1 else s1

/-- on_capacity_change, then v_adm at its end (02 R105, R110). -/
def onCapacityChange (cause : Nat) (s : State) : State := settleVAdm (settleVAdm (capacityRun cause s))

/-- SAG_WARN or a rail warning: class 6 and 7 go first (02 R116). -/
def onSupplyWarning (cause : Nat) (s : State) : State :=
  let go (c : Nat) (s : State) := (s.led.held.filter fun a => a.cls == c).reverse.foldl
    (fun s a => if (findAdm s a.handle).isSome then revoke cause 10 c a s else s) s
  onCapacityChange cause (go 6 (go 7 s))

/-- LEDGER_CAPACITY for a budget and instance restored (02 R118). -/
def noticeCapacity (budget inst : Nat) (s : State) : State := noticeUnit 0x0302 (le1 budget ++ le1 inst) s

/-- FABRIC and LATENCY of a bench restored. -/
def noticeBenchCapacity (b : Nat) (s : State) : State := noticeCapacity 12 b (noticeCapacity 1 b s)

/-! ## Admission (02 R96 to R104) -/

/-- A request for admission. -/
structure Request where
  kind : AdmKind
  cls : Nat
  tenant : Nat
  demands : List Demand
  object : Nat
  vDecl : Nat
  recipe : Nat
deriving DecidableEq, Repr

/-- Handles in use. -/
def usedHandles (s : State) : List Nat :=
  s.led.held.map (·.handle) ++ s.draw.objs.map (·.handle) ++ s.rcp.cands.map (·.handle) ++ s.hm.acts.map (·.handle) ++
    s.rcp.recipes.map (·.handle)

/-- A handle the unit gives out: the first from `pick` that is not 0, not in use and meets `ok` (log entry 15). -/
def freshHandle (s : State) (pick : Nat) (ok : Nat → Bool) : Nat :=
  let usedH := usedHandles s
  (((List.range (8 * usedH.length + 80)).map fun i => (pick + i) % 2 ^ 32).find? fun h =>
    h != 0 && !usedH.contains h && ok h).getD 1

/-- Every admission also takes one place of TABLE. -/
def withTable (ds : List Demand) : List Demand := ds ++ [⟨11, 0, 1⟩]

/-- Reclaim class-7 admissions, newest first, until the demands fit (02 R99). -/
def reclaim (fuel v : Nat) (ds : List Demand) (s : State) : State :=
  match fuel with
  | 0 => s
  | fuel + 1 =>
    let overAt (bi : Nat × Nat) : Option (Admission × Nat × Nat) :=
      if used s.led.held bi.1 bi.2 + demandOn ds bi.1 bi.2 ≤ capOf s v bi.1 bi.2 then none
      else (newest (s.led.held.filter fun a => a.cls == 7 && decide (0 < demandOn a.demands bi.1 bi.2))).map fun a =>
        (a, bi.1, if classCapped bi.1 then 7 else bi.2)
    match allBudgets.findSome? overAt with
    | none => s
    | some (a, b, i) => reclaim fuel v ds (revoke cPREEMPT b i a s)

/-- The new admission's own refill share goes into its class buckets (07 R379). -/
def fillBuckets (cls : Nat) (ds : List Demand) (s : State) : State :=
  let add (l : List Int) (budget : Nat) := upd l cls fun t =>
    capBucket (t + refillOf s (demandOn ds budget cls)) (refillOf s (classDemand s budget cls))
  s.setDraw { s.draw with tokS := add s.draw.tokS 4, tokI := add s.draw.tokI 5 }

/-- An admission made again takes the entry of a revoked one of its kind out of the list: the same bench, or one of the same
tenant (00 Table 0.4; log entry 117). -/
def remade (q : Request) (l : List (AdmKind × Nat × Nat)) : List (AdmKind × Nat × Nat) :=
  match l.find? fun e => e.1 == q.kind && (if q.kind = .bench then e.2.2 == q.object else e.2.1 == q.tenant) with
  | some e => l.erase e
  | none => l

/-- Enter an admission in the table. -/
def commitAdm (q : Request) (handle : Nat) (s : State) : State :=
  let a : Admission :=
    { handle := handle, kind := q.kind, cls := q.cls, tenant := q.tenant, fence := 1, demands := withTable q.demands
      spos := spos s, object := q.object, vDecl := q.vDecl, recipe := q.recipe, order := s.led.nextOrder }
  fillBuckets q.cls q.demands (s.setLed { s.led with
    held := s.led.held ++ [a], nextOrder := s.led.nextOrder + 1, revoked := remade q s.led.revoked })

/-- What admission decides: the payload of a refusal, or none when it commits; and the state after. -/
structure Decision where
  payload : Option Bytes
  state : State
deriving DecidableEq, Repr

def refused (l : List Short) (s : State) : Decision := { payload := some (budgetPayload l), state := countRefusal s }

/-- Admit a request that is no recipe. -/
def decideAdm (q : Request) (handle : Nat) (s : State) : Decision :=
  let v := vEff s.led.vadm
  let l := shorts s v q.cls (withTable q.demands)
  if !l.isEmpty then refused l s
  else
    let s1 := if q.cls = 7 then s else reclaim (s.led.held.length + 1) v (withTable q.demands) s
    { payload := none, state := commitAdm q handle s1 }

/-- Admit a recipe at the v_adm that it brings about (02 R104). -/
def admitRecipe (q : Request) (handle : Nat) (s : State) : Decision :=
  let old := s.led.vadm
  let v := max (if hasRecipe s.led.held then old else 0) (vAdmOf s q.vDecl)
  let l := if 6 ≤ q.cls ∧ supplyWarned s then supplyShorts s q.cls
    else if old ≠ 0 ∧ old < v then heldShorts s v q.cls else []
  if !l.isEmpty then refused l s
  else
    let l2 := shorts s v q.cls (withTable q.demands)
    if !l2.isEmpty then refused l2 s
    else
      let s1 := refreshDemands v s
      let s2 := reclaim (s1.led.held.length + 1) v (withTable q.demands) s1
      let s3 := commitAdm q handle s2
      { payload := none, state := s3.setLed { s3.led with vadm := v } }

/-- Exchange the demands of a bench's admission for new ones, all or nothing (06 R313); the class's refill and buckets follow, as
at a release and a commit (07 R379). -/
def exchange (a : Admission) (ds : List Demand) (s : State) : Decision :=
  let v := vEff s.led.vadm
  let s0 := s.setLed { s.led with held := s.led.held.filter fun x => x.handle != a.handle }
  let l := shorts s0 v a.cls (withTable ds)
  if !l.isEmpty then refused l s
  else
    let s1 := if a.cls = 7 then s0 else reclaim (s0.led.held.length + 1) v (withTable ds) s0
    let s2 := cutBuckets a.cls s1
    { payload := none
      state := fillBuckets a.cls ds (s2.setLed { s2.led with held := s2.led.held ++ [{ a with demands := withTable ds }] }) }

/-! ## Release by the host (02 R107) -/

/-- A bench falls with the release of its recipe: the Ledger revokes its admission with cause RECIPE (02 Table 2.3, R115), and the
bench is released and freed (15 Table 15.14; log entry 119). -/
def releaseBenches (l : List Admission) (s : State) : State :=
  match l with
  | [] => s
  | a :: r =>
    let n := Config.releaseNamed a.object
    releaseBenches r
      (if (findAdm s a.handle).isSome then endAdm a .released (tellRevoked cRECIPE (n.1 % 256) (n.2 % 256) a s) else s)

/-- Release an admission; a recipe goes with its benches (02 Table 2.3, 15 Table 15.14). -/
def release (a : Admission) (s : State) : State :=
  let benches := if a.kind = .recipe then benchesOf s a.handle else []
  settleVAdm (settleVAdm (endAdm a .released (releaseBenches benches s)))

/-- Release every admission that `sel` picks, and count them. -/
def releaseWhere (sel : Admission → Bool) (s : State) : State :=
  (s.led.held.filter sel).foldl (fun s a => if (findAdm s a.handle).isSome then release a s else s) s

/-- The admission a handle names, of a kind, that the packet's tenant may release: or the refusal (15 R693). -/
def admTarget (p : Packet) (h off : Nat) (kinds : List AdmKind) (s : State) : Sum (Half × Nat) Admission :=
  match findAdm s h with
  | none => .inl (stBAD_PARAM, off)
  | some a =>
    if !kinds.contains a.kind then .inl (stBAD_PARAM, off)
    else if !mayUse p a.tenant then .inl (stDENIED, noField)
    else .inr a

/-! ## Registers (02 Table 2.6) -/

def throttled (s : State) : Bool := s.pwr.throttle.any (· != 0)

/-- Some capacity is below nominal. -/
def capReduced (s : State) : Bool :=
  supplyWarned s || s.led.thermFreeze.isSome || throttled s || retiredChannels s != 0 ||
    s.dio.feed.any (·.retired) ||
    s.fab.bench.any fun x => (liveStakes s x.groups).length != (stakesOf x.groups).length

def ledgStatus (s : State) : Word :=
  BitVec.ofNat 32 (b2n (supplyWarned s) + 2 * b2n s.led.thermFreeze.isSome + 4 * b2n (throttled s) + 8 * b2n s.led.overAdm +
    16 * b2n (capReduced s))

/-- LEDG_VADM in um/s; DESIGN CHOICE (log entry 119): v_adm, a multiple of 1 nm/s, is rounded down (02 R105 names no rounding). -/
def ledgVAdm (s : State) : Nat := s.led.vadm / 1000

end Sys2Proof.Machine
end

