-- ==== Sys2Proof/Machine/Retire.lean ====
section
/-! DEFINITION. Field outputs and their safe states (10 R496 to R507), and the retirement of lanes, stakes, DRAM channels, field
channels and feeds (12 R570 to R574 and each chapter's own rule). -/

namespace Sys2Proof.Machine

/-! ## Field channels -/

def chanOf (s : State) (n : Nat) : DioChan := getI s.dio.chan n DioChan.reset

def modChan (n : Nat) (f : DioChan → DioChan) (s : State) : State := s.setDio { s.dio with chan := upd s.dio.chan n f }

def feedOf (s : State) (k : Nat) : Feed := getI s.dio.feed k Feed.reset

def modFeed (k : Nat) (f : Feed → Feed) (s : State) : State := s.setDio { s.dio with feed := upd s.dio.feed k f }

/-- Fields of DIO_CFGn (10 Table 10.8). -/
def DioChan.dir (c : DioChan) : Nat := bits c.cfg.toNat 1 0
def DioChan.inv (c : DioChan) : Bool := bit c.cfg.toNat 2
def DioChan.wb (c : DioChan) : Bool := bit c.cfg.toNat 3
def DioChan.ol (c : DioChan) : Bool := bit c.cfg.toNat 4
def DioChan.evt (c : DioChan) : Bool := bit c.cfg.toNat 5
def DioChan.safeOn (c : DioChan) : Bool := bit c.cfg.toNat 6
def DioChan.limit (c : DioChan) : Nat := bits c.cfg.toNat 15 8
def DioChan.ts (c : DioChan) : Nat := bits c.cfg.toNat 25 16
def DioChan.safeMa (c : DioChan) : Nat := bits c.cfg.toNat 47 32

/-- The channel is in its safe state (10 R503). -/
def DioChan.safe (c : DioChan) : Bool := c.causes != 0

/-- The entry that holds the channel on. -/
def firingOn (s : State) (n : Nat) : Option Act :=
  s.hm.acts.find? fun a => a.entry.channel == n && a.state == .firing

/-- The output is on: under an entry, or in a SAFE ON safe state, unless the channel or its feed holds it off (10 R495 to
R501, R504). -/
def outNow (s : State) (n : Nat) : Bool :=
  let c := chanOf s n
  c.dir == 2 && !c.retired && (feedOf s (n / 2)).closed &&
    (if c.safe then c.safeOn && !c.shorted else (firingOn s n).isSome)

/-- Bring DIO_STATUSn.OUT up to date; an output that is off measures 0 (10 Table 10.9), and a switch-on clears OPENLOAD (10
R498). -/
def settleOut (n : Nat) (s : State) : State :=
  let o := outNow s n
  modChan n (fun c => { c with
    out := o
    meas := if c.dir = 2 ∧ !o then 0 else c.meas
    openload := if o then false else c.openload }) s

def logFired (l : List Act) (s : State) : State :=
  match l with
  | [] => s
  | a :: r => logFired r (logActOf a 0 (spos s) (dropAct a.handle s))

/-- End the pulse that is on: logged FIRED (09 R474). -/
def endPulse (n : Nat) (s : State) : State :=
  settleOut n (logFired (s.hm.acts.filter fun a => a.entry.channel == n && a.state == .firing) s)

/-- Channels of a mask. -/
def maskChans (m : Word) : List Nat := (List.range 32).filter fun n => m.getLsbD n

def chanMask (l : List Nat) : Word := l.foldl (fun m n => m ||| ((1 : Word) <<< n)) 0

/-- A channel enters its safe state in the cycle of a switch-on: the safe state prevails, and the pulse is logged SKIPPED and
counted in DIO_SAFESKIP (10 R505, R506). -/
def skipNow (n : Nat) (s : State) : State :=
  match firingOn s n with
  | some a =>
    if a.onAt = s.now then
      let s1 := logActOf { a with onSpos := 0 } 2 0 (dropAct a.handle s)
      s1.setDio { s1.dio with safeSkip := satInc s1.dio.safeSkip }
    else s
  | none => s

/-- Set or clear a cause on one channel; a pulse that is on ends when its channel enters the safe state, unless the channel
has SAFE ON (10 R505); leaving the safe state leaves the channel off until its next entry (10 R507). -/
def causeOn (b : Nat) (on : Bool) (n : Nat) (s : State) : State :=
  let c := chanOf s n
  let s1 := modChan n (fun c => { c with causes := if on then c.causes ||| ((1 : Word) <<< b) else c.causes &&& ~~~((1 : Word) <<< b) }) s
  let s2 := if !c.safe && on && c.dir == 2 then skipNow n s1 else s1
  if (!c.safe && on && !c.safeOn) || (c.safe && !(chanOf s2 n).safe) then endPulse n s2 else settleOut n s2

def causeEach (b : Nat) (on : Bool) (l : List Nat) (s : State) : State :=
  match l with
  | [] => s
  | n :: r => causeEach b on r (causeOn b on n s)

/-- One DIO_SAFE notice for each set of causes that the changed channels now have (10 Table 10.11). -/
def noticeSafe (b : Nat) (changed : List Nat) (vals : List Word) (s : State) : State :=
  match vals with
  | [] => s
  | v :: r =>
    let m := changed.filter fun n => (chanOf s n).causes == v
    noticeSafe b changed r (noticeUnit 0x0A07 (le4 (chanMask m).toNat ++ le1 v.toNat ++ le1 b) s)

/-- Set or clear cause `b` on the channels of a list, with DIO_SAFE for those it changes (10 R503). -/
def setCause (b : Nat) (on : Bool) (l : List Nat) (s : State) : State :=
  let changed := l.filter fun n => (chanOf s n).causes.getLsbD b != on
  let s1 := causeEach b on changed s
  noticeSafe b changed ((changed.map fun n => (chanOf s1 n).causes).eraseDups) s1

def allChans : List Nat := List.range 32

/-- Before a reset: cause RESET on every channel (10 R508). -/
def causeReset (s : State) : State := setCause 2 true allChans s

/-- A feed is closed while its supply is present and it is neither tripped nor retired (10 R497). -/
def settleFeed (k : Nat) (s : State) : State :=
  let s1 := modFeed k (fun f => { f with closed := !f.unpowered && !f.tripped && !f.retired }) s
  settleOut (2 * k + 1) (settleOut (2 * k) s1)

/-- Entries of a channel that have not switched on never fire (09 R473). -/
def retireEntries (l : List Act) (s : State) : State :=
  match l with
  | [] => s
  | a :: r => retireEntries r (logActOf a 5 0 (dropAct a.handle s))

def pendingOn (s : State) (n : Nat) : List Act :=
  s.hm.acts.filter fun a => a.entry.channel == n && a.state != .firing

/-! ## Retirement -/

/-- The log entry of a retirement (12 R599). -/
def logRetired (cls inst : Nat) (s : State) : State :=
  logFault { upsetEntry s cls inst 0x09 false with kind := 3 } s

/-- A resource returns to service: its history is cleared and the return logged (12 R572, R599). -/
def returned (cls inst : Nat) (s : State) : State := logFault (entryOf s cls 5 inst) (clearUpsets cls inst s)

/-! ## A lane leaves ACTIVE -/

def eyePoints (e : EyeScan) : Nat := e.phCount * e.vCount

/-- The eye scan's result (04 Table 4.12): points not measured read 0xFFFF_FFFF (04 R235). -/
def eyeBytes (l : Nat) (e : EyeScan) (aborted : Bool) (sposEnd : Word) : Bytes :=
  le1 l ++ le1 e.rate ++ le1 (b2n aborted) ++ le1 e.bitsExp ++ [e.phMin] ++ le1 e.phStep ++ le1 e.phCount ++ [0] ++
    [e.vMin] ++ le1 e.vStep ++ le1 e.vCount ++ [0] ++ le4 e.sposStart.toNat ++ le4 sposEnd.toNat ++ leInt 1 e.ctle ++
    leInt 1 e.vga ++ leInt 1 e.dfe1 ++ List.replicate 9 0 ++
    (List.range (eyePoints e)).flatMap fun i => le4 (getI e.counts i 0xFFFFFFFF)

/-- The scan ends with its reply. -/
def endEye (l : Nat) (aborted : Bool) (s : State) : State :=
  match (laneOf s l).eye with
  | none => s
  | some e =>
    let s1 := modLane l (fun x => { x with eye := none }) s
    match findP e.ref s1 with
    | none => s1
    | some p => doneLater p stOK (eyeBytes l e aborted (spos s)) s1

/-- Lane of the group of `l` whose VC table routes a VC to the channel's source. -/
def fedBy (s : State) (l c : Nat) : Bool :=
  (lanesTo s (sourceOf s c)).any fun n => firstLane s n == firstLane s l

/-- A trigger that never started on the uplink was not sent: its slots say so (04 R195, 05 R262). -/
def unsentTrigger (l : Nat) (t : SentTrigger) (s : State) : State :=
  let unsent := fun (y : Slot) => if y.k = t.k ∧ y.scan = t.scan then { y with trig := false } else y
  let chan := s.pln.chan.mapIdx fun c x => if fedBy s l c then { x with slots := x.slots.map unsent } else x
  s.setPln { s.pln with chan }

/-- The lane leaves ACTIVE: a scan is aborted (04 R235), its block lock, its buffer and its waiting trigger are gone. -/
def leaveActive (l : Nat) (s : State) : State :=
  let s1 := match (laneOf s l).waiting with
    | some (t, _) => unsentTrigger l t s
    | none => s
  endEye l true (modLane l (fun x => { x with
    rx := [], rxNeed := 0, rxTail := 0, rxHold := false, rxDrop := 0, lock := false, missedSync := 0, waiting := none,
    txq := [], cxp := [] }) s1)

/-- Lane retirement (04 R242). -/
def retireLane (l : Nat) (s : State) : State :=
  let s1 := modLane l (fun x => { x with state := .retired, rate := 0 }) (leaveActive l s)
  noticeUnit 0x0401 (le1 l) (logRetired 1 l (wantRecord 2 s1))

/-- Bench whose groups hold a stake. -/
def benchHolding (s : State) (k : Nat) : Option Nat :=
  (List.range 16).find? fun b => (benchOf s b).groups.getLsbD (k / 8)

/-- Stake retirement, and the Ledger's response (06 R346, 02 R110, R119). -/
def retireStake (k : Nat) (s : State) : State :=
  let s1 := wantRecord 2 (s.setFab { s.fab with retiredStakes := s.fab.retiredStakes ++ [k] })
  let s2 := noticeUnit 0x0603 (le1 k ++ le1 ((benchHolding s k).getD 0xFF)) (logRetired 2 k s1)
  onCapacityChange cSTAKE s2

/-- The object lies in a DRAM channel. -/
def objIn (ch : Nat) (o : Obj) : Bool := o.tier == .ingot && o.channel == ch

/-- Unit address named by a command as its destination (07 Table 7.5, 08 Table 8.5, 06 Table 6.12): space code and value. -/
def cmdDst (engine : Nat) (c : Cmd) : Option (Nat × Nat) :=
  if c.cmd < 0x100 then none
  else if engine = 1 then some (bits c.arg0.toNat 3 2, fld c.body 8 8)
  else if engine = 4 ∧ c.cmd ≠ 0x110 then some (bits c.arg0.toNat 3 2, fld c.body 8 8)
  else if engine = 3 ∧ c.cmd = 0x102 then some (1, fld c.body 0 8)
  else none

/-- The destination lies in the object. -/
def dstIn (o : Obj) (d : Nat × Nat) : Bool :=
  if d.1 = 1 then decide (o.addr ≤ d.2) && decide (d.2 < o.addr + o.size)
  else d.1 == 2 && d.2 / 2 ^ 32 == o.handle

/-- Admissions closed, as revoked, because an object is lost: taps whose ring lies in it, and streams named by a command still
to be completed that writes into it (07 R391). -/
def lostAdms (s : State) (o : Obj) : List Admission :=
  s.led.held.filter fun a =>
    (a.kind == .tap && s.pln.taps.any fun t => t.handle == a.handle && t.ring == o.handle) ||
    (a.kind == .stream && s.fab.lists.any fun l => (l.cmds.drop l.index).any fun c =>
      cmdStream l.engine c == some a.handle && (cmdDst l.engine c).any (dstIn o))

def revokeLost (l : List Admission) (s : State) : State :=
  match l with
  | [] => s
  | a :: r => revokeLost r (if (findAdm s a.handle).isSome then revoke cDRAM 5 a.cls a s else s)

/-- Objects of a retired channel are LOST and their owners told (07 R391). -/
def loseObjects (l : List Obj) (s : State) : State :=
  match l with
  | [] => s
  | o :: r =>
    let s1 := s.setDraw { s.draw with objs := (s.draw.objs.map fun x => if x.handle = o.handle then { x with lost := true } else x) }
    loseObjects r (revokeLost (lostAdms s1 o) (noticeHolder o.tenant 0x0703 (le4 o.handle) s1))

def modDram (ch : Nat) (f : DramChan → DramChan) (s : State) : State := s.setDraw { s.draw with chan := upd s.draw.chan ch f }

def liveDram (s : State) : Nat := (s.draw.chan.filter fun c => !c.retired).length

/-- Live DRAM channels. -/
def liveChans (s : State) : List Nat := (List.range 4).filter fun ch => !(getI s.draw.chan ch DramChan.reset).retired

/-- The two different channels that take the copies of an item of a bench: 0 its image, 1 and 2 its parameter slots, 3 a
candidate tuned for it (06 R336, 07 R392, 11 R559; log entry 124). -/
def copyPair (s : State) (b item : Nat) : Option (Nat × Nat) :=
  let l := liveChans s
  let n := l.length
  if n < 2 then none
  else
    let p := Config.copyChannels b item l
    some (getI l (p.1 % n) 0, getI l ((p.1 % n + 1 + p.2 % (n - 1)) % n) 0)

/-- The run-time puts the copies of an item into two channels. -/
def placeCopy (b item : Nat) (s : State) : State :=
  modBench b (fun x => { x with copies := upd x.copies item fun _ => copyPair s b item }) s

/-- A pair of copies after its channel `ch` has gone: the copy lost is made again from the other, in another channel (07 R392). -/
def remakeCopy (s : State) (ch : Nat) (c : Nat × Nat) : Nat × Nat :=
  let other (keep : Nat) := ((liveChans s).find? fun x => x != keep).getD keep
  if c.1 = ch then (other c.2, c.2) else if c.2 = ch then (c.1, other c.1) else c

def remakeCopies (ch : Nat) (s : State) : State :=
  (s.setFab { s.fab with bench := s.fab.bench.map fun x => { x with copies := x.copies.map fun c => c.map (remakeCopy s ch) } }).setRcp
    { s.rcp with cands := s.rcp.cands.map fun c => { c with copies := c.copies.map (remakeCopy s ch) } }

/-- DRAM channel retirement, or its withholding (07 R390, R391; 12 R574). -/
def retireDram (ch : Nat) (s : State) : State :=
  if liveDram s ≤ 2 then
    noticeUnit 0x0C04 (le1 3 ++ le1 ch) (logFault { upsetEntry s 3 ch 0x09 false with kind := 4 } s)
  else
    let s1 := wantRecord 2 (remakeCopies ch (modDram ch (fun c => { c with retired := true }) s))
    let s2 := noticeUnit 0x0702 (le1 ch) (logRetired 3 ch s1)
    onCapacityChange cDRAM (loseObjects (s2.draw.objs.filter fun o => objIn ch o && !o.lost) s2)

/-- Field channel retirement (10 R501, 09 R473). -/
def retireChannel (n : Nat) (s : State) : State :=
  let s1 := endPulse n (wantRecord 2 (modChan n (fun c => { c with retired := true }) s))
  noticeUnit 0x0A06 (le1 0 ++ le1 n) (logRetired 4 n (retireEntries (pendingOn s1 n) s1))

/-- Feed retirement (10 R501). -/
def retireFeed (k : Nat) (s : State) : State :=
  let s1 := endPulse (2 * k + 1) (endPulse (2 * k) (wantRecord 2 (modFeed k (fun f => { f with retired := true }) s)))
  let s2 := retireEntries (pendingOn s1 (2 * k) ++ pendingOn s1 (2 * k + 1)) (settleFeed k s1)
  onCapacityChange cFEED (noticeUnit 0x0A06 (le1 1 ++ le1 k) (logRetired 5 k s2))

/-- The instance is retired already. -/
def isRetired (s : State) (cls inst : Nat) : Bool :=
  match cls with
  | 1 => (laneOf s inst).state == .retired
  | 2 => s.fab.retiredStakes.contains inst
  | 3 => (getI s.draw.chan inst DramChan.reset).retired
  | 4 => (chanOf s inst).retired
  | 5 => (feedOf s inst).retired
  | _ => true

def retireNow (cls inst : Nat) (s : State) : State :=
  match cls with
  | 1 => retireLane inst s
  | 2 => retireStake inst s
  | 3 => retireDram inst s
  | 4 => retireChannel inst s
  | 5 => retireFeed inst s
  | _ => s

/-- Retire the instance when its upsets have reached the threshold: at once, or for a stake and during any recovery when
that ends (06 R346; 12 R570, R573). -/
def checkRetire (cls inst : Nat) (s : State) : State :=
  if isRetired s cls inst || !atThreshold s cls inst then s
  else if recovering s || cls == 2 then deferRetirement cls inst s
  else retireNow cls inst s

/-- An upset that counts toward retirement, its log entry, and the retirement it brings about. -/
def upsetRetire (cls inst how : Nat) (injected : Bool) (retries affected : Nat) (s : State) : State :=
  let s1 := upset cls inst how true injected retries affected s
  if injected then s1 else checkRetire cls inst s1

def retireEach (l : List (Nat × Nat)) (s : State) : State :=
  match l with
  | [] => s
  | (c, i) :: r => retireEach r (if isRetired s c i then s else retireNow c i s)

/-- The end of a recovery: retirements that waited for it take effect, unless another recovery goes on (12 R573). -/
def settleRetirements (s : State) : State :=
  if recovering s then s else retireEach s.flt.deferred (s.setFlt { s.flt with deferred := [] })

end Sys2Proof.Machine
end

