-- ==== Sys2Proof/Machine/Access.lean ====
section
/-! DEFINITION. The address spaces a command names (chapter 07): host memory, unit addresses and objects; who may read or write
them, which bursts are poisoned, and which objects something refers to. -/

namespace Sys2Proof.Machine

/-! ## The address map (07 Table 7.1) -/

def sheetBase : Nat := 0x1000000000
def sheetSize : Nat := 0x4000000

/-- A unit address in INGOT. -/
def inIngot (a : Nat) : Bool := decide (a < 0x1000000000)

/-- A unit address in SHEET. -/
def inSheet (a : Nat) : Bool := decide (sheetBase ≤ a) && decide (a < sheetBase + sheetSize)

/-- Where the model keeps the content of a bench's FOIL objects, which have no unit address (07 R355; log entry 25). -/
def foilAddr (bench : Nat) : Nat := 2 ^ 40 + bench * 262144

/-! ## Rights (07 R360, R365; 03 R138) -/

def mayRead (t : Nat) (o : Obj) : Bool := t == 0 || o.tenant == t || o.shared

def mayWrite (t : Nat) (o : Obj) : Bool := t == 0 || o.tenant == t

/-- The PINNED object of SHEET or INGOT that holds a unit address; a lost one only where no other does. -/
def pinnedAt (s : State) (a : Nat) : Option Obj :=
  let l := s.draw.objs.filter fun o => o.pinned && o.tier != .foil && decide (o.addr ≤ a) && decide (a < o.addr + o.size)
  (l.find? fun o => !o.lost).or l.head?

/-- Bytes that a command may touch: in host memory, or in the unit. -/
structure Place where
  host : Bool
  addr : Nat
deriving DecidableEq, Repr

/-- `n` bytes at a unit address, as tenant `t` may use them, or the status of the refusal (07 R360, R365, R391). -/
def unitPlace (s : State) (t a n : Nat) (write : Bool) : Sum Half Place :=
  match pinnedAt s a with
  | none => .inl stBAD_PARAM
  | some o =>
    if !mayRead t o then .inl stBAD_PARAM
    else if o.lost then .inl stRETIRED
    else if write && !mayWrite t o then .inl stDENIED
    else if o.addr + o.size < a + n then .inl stBAD_PARAM
    else .inr ⟨false, a⟩

/-- `n` bytes at an offset of an object. -/
def objPlace (s : State) (t h ofs n : Nat) (write : Bool) : Sum Half Place :=
  match objOf s h with
  | none => .inl stBAD_PARAM
  | some o =>
    if !mayRead t o then .inl stDENIED
    else if o.lost then .inl stRETIRED
    else if write && !mayWrite t o then .inl stDENIED
    else if o.size < ofs + n then .inl stBAD_PARAM
    else .inr ⟨false, o.addr + ofs⟩

/-- `n` bytes at value `v` of a space: 0 host memory, 1 unit address, 2 object (07 R363). -/
def resolve (s : State) (t space v n : Nat) (write : Bool) : Sum Half Place :=
  match space with
  | 0 => .inr ⟨true, v⟩
  | 1 => unitPlace s t v n write
  | 2 => objPlace s t (v / 2 ^ 32) (v % 2 ^ 32) n write
  | _ => .inl stBAD_PARAM

def readPlace (s : State) (p : Place) (n : Nat) : Bytes := if p.host then memRead s.host p.addr n else unitRead s p.addr n

def writePlace (p : Place) (b : Bytes) (s : State) : State :=
  if p.host then s.setHost (memWrite s.host p.addr b) else unitWrite p.addr b s

/-! ## Poison (07 R386 to R388) -/

/-- The first poisoned burst that the bytes meet. -/
def poisonIn (s : State) (a n : Nat) : Option Nat :=
  let hit (ch : Nat) (c : DramChan) : List Nat :=
    c.poison.filter (fun p => burstMeets p a n) ++
      (if c.allPoison && inIngot a && a / 2 ^ 34 == ch && decide (0 < n) then [a / 64 * 64] else [])
  (s.draw.chan.mapIdx hit).flatten.foldl (fun m p => match m with
    | none => some p
    | some q => some (min p q)) none

/-- Poison in a place. -/
def poisonAt (s : State) (p : Place) (n : Nat) : Option Nat := if p.host then none else poisonIn s p.addr n

/-- The burst's channel. -/
def chanOfAddr (a : Long) : Nat := a.toNat / 2 ^ 34

/-- A delivery marked poisoned, or a write lost: counted, and DRAW_ECC_UNC raised with the consumer port (07 R386, R388, R394, Table
7.9). -/
def eccUnc (a : Long) (consumer : Nat) (s : State) : State :=
  noticeUnit 0x0701 (le8 a.toNat ++ le1 consumer) (modDram (chanOfAddr a) (fun c => { c with unc := satInc c.unc }) s)

/-- A read that met the poison table is such a delivery (07 R388, R394). -/
def tablePoison (port : Nat) (table : Option Nat) (s : State) : State :=
  match table with
  | some a => eccUnc (BitVec.ofNat 64 a) port s
  | none => s

/-- Memory port of an engine, as DRAW_ECC_UNC names it (07 Table 7.9). -/
def enginePort (engine : Nat) : Nat := getI [3, 4, 0, 5, 1, 2, 6] engine 3

/-- Burst of `n` bytes at `p` whose write is lost: `lost` names an address in it (07 R388). -/
def lostAt (lost : Option Long) (p : Place) (n : Nat) : Option Nat :=
  if p.host then none else (lost.map fun a => a.toNat / 64 * 64).filter fun a => inIngot a && burstMeets a p.addr n

/-- Bytes written but for a burst that is lost. -/
def writePlaceBut (lost : Option Nat) (p : Place) (b : Bytes) (s : State) : State :=
  match lost with
  | none => writePlace p b s
  | some a =>
    if p.host || !burstMeets a p.addr b.length then writePlace p b s
    else unitWrite (max p.addr (a + 64)) (b.drop (a + 64 - p.addr)) (unitWrite p.addr (b.take (a - p.addr)) s)

/-! ## References (07 R359) -/

/-- Places that a command names: space and value. -/
def cmdPlaces (engine : Nat) (inUnit : Bool) (c : Cmd) : List (Nat × Nat) :=
  let a := c.arg0.toNat
  let v := c.arg1.toNat
  if c.cmd = 3 then [(b2n inUnit, v)]
  else if c.cmd < 0x100 then []
  else match engine with
    | 1 => (if c.cmd = 0x101 then [] else [(bits a 1 0, fld c.body 0 8)]) ++ [(bits a 3 2, fld c.body 8 8)]
    | 2 => [(2, v / 2 ^ 32 * 2 ^ 32)]
    | 3 => if c.cmd = 0x100 then [(1, v)] else if c.cmd = 0x102 then [(1, v), (1, fld c.body 0 8)] else []
    | 4 =>
      if c.cmd = 0x110 then [(bits a 1 0, fld c.body 0 8)]
      else [(bits a 1 0, fld c.body 0 8), (bits a 3 2, fld c.body 8 8), (bits a 5 4, fld c.body 16 8)]
    | _ => []

/-- A place lies in the object. -/
def placeIn (o : Obj) (d : Nat × Nat) : Bool :=
  if d.1 = 1 then decide (o.addr ≤ d.2) && decide (d.2 < o.addr + o.size) else d.1 == 2 && d.2 / 2 ^ 32 == o.handle

/-- A queued or running list, a bench that still reads its image or certificate, a tap, a ring or the cache refers to the
object. -/
def referred (s : State) (o : Obj) : Bool :=
  s.fab.bench.any (fun x => x.source.any fun e => o.tier != .foil && decide (e.1 < o.addr + o.size) && decide (o.addr < e.1 + e.2)) ||
  (s.fab.lists.any fun l => l.cmds.any fun c => (cmdPlaces l.engine l.inUnit c).any (placeIn o)) ||
    s.pln.taps.any (fun t => t.ring == o.handle) || s.pln.view.any (fun v => v.statRing == o.handle) ||
    s.rcp.recipes.any (fun r => r.vring == o.handle || r.aring == o.handle) ||
    s.kw.tenants.any (fun t => t.hostARing == o.handle) || s.rcp.cacheCfg.any (fun c => c.obj == o.handle)

/-! ## Extents (07 R353, R357, R358) -/

/-- Extents already taken in [lo, hi), as start and end. -/
def taken (s : State) (lo hi : Nat) : List (Nat × Nat) :=
  (s.draw.objs.filter fun o => !o.lost && o.tier != .foil && decide (lo ≤ o.addr) && decide (o.addr < hi)).map
    fun o => (o.addr, o.addr + o.size)

def alignUp (a k : Nat) : Nat := ceilDiv a (2 ^ k) * 2 ^ k

/-- Places where a free extent can begin: the lower end, and the end of each extent taken. -/
def starts (s : State) (lo hi align : Nat) : List Nat :=
  ((lo :: (taken s lo hi).map (·.2)).map (alignUp · align)).filter fun a => decide (a < hi)

/-- First byte taken after `a`. -/
def nextTaken (s : State) (lo hi a : Nat) : Nat :=
  ((taken s lo hi).filter fun e => decide (a < e.2)).foldl (fun m e => min m (max a e.1)) hi

/-- Free extents as start and length. -/
def freeExtents (s : State) (lo hi align : Nat) : List (Nat × Nat) :=
  (starts s lo hi align).map fun a => (a, nextTaken s lo hi a - a)

/-- A free extent of `n` bytes, the one that implementation's `pick` chooses among those that begin lowest in each gap. -/
def findExtent (s : State) (lo hi align n pick : Nat) : Option Nat :=
  let l := (freeExtents s lo hi align).filter fun e => decide (n ≤ e.2)
  (l[pick % max 1 l.length]?).map (·.1)

def largestExtent (s : State) (lo hi align : Nat) : Nat := (freeExtents s lo hi align).foldl (fun m e => max m e.2) 0

/-- The part of an INGOT channel that tenants use. -/
def chanLo (ch : Nat) : Nat := ch * 2 ^ 34
def chanHi (ch : Nat) : Nat := (ch + 1) * 2 ^ 34 - 2 ^ 30

/-- Bytes allocated in an INGOT channel. -/
def chanUsed (s : State) (ch : Nat) : Nat := ((s.draw.objs.filter fun o => objIn ch o && !o.lost).map (·.size)).sum

/-- SHEET that tenants and benches share. -/
def sheetTotal : Nat := sheetSize - 2 ^ 20

/-- SHEET shares of all benches. -/
def sharesHeld (s : State) : Nat := (s.fab.bench.map (·.share)).sum

/-- SHEET bytes allocated from the common pool. -/
def poolUsed (s : State) : Nat :=
  ((s.draw.objs.filter fun o => o.tier == .sheet && o.bench.isNone).map (·.size)).sum

/-- Free bytes of the SHEET common pool. -/
def poolFree (s : State) : Nat := sheetTotal - sharesHeld s - poolUsed s

/-- Bytes of a bench's share that its objects take. -/
def shareUsed (s : State) (b : Nat) : Nat :=
  ((s.draw.objs.filter fun o => o.tier == .sheet && o.bench == some b).map (·.size)).sum

/-- Live channels, those with the fewest allocated bytes first (07 R357). -/
def channelOrder (s : State) : List Nat :=
  let ins (l : List Nat) (c : Nat) : List Nat :=
    let (a, b) := l.partition fun x => decide (chanUsed s x ≤ chanUsed s c)
    a ++ c :: b
  (liveChans s).foldl ins []

/-- An INGOT extent: channel and address. -/
def ingotExtent (s : State) (n align pick : Nat) : Option (Nat × Nat) :=
  (channelOrder s).findSome? fun ch => (findExtent s (chanLo ch) (chanHi ch) align n pick).map fun a => (ch, a)

/-- The object may be moved (07 R359). -/
def movable (s : State) (o : Obj) : Bool := o.anyTier && !o.pinned && o.tier == .sheet && !o.lost && !referred s o

def oldestObj (l : List Obj) : Option Obj :=
  l.foldl (fun m o => match m with
    | none => some o
    | some b => if o.order < b.order then some o else some b) none

/-- Move an object to INGOT with its content. -/
def moveObj (o : Obj) (ch a : Nat) (s : State) : State :=
  let b := unitRead s o.addr o.size
  let s1 := s.setDraw { s.draw with objs := (s.draw.objs.map fun x =>
    if x.handle = o.handle then { x with tier := .ingot, channel := ch, addr := a } else x) }
  unitWrite a b s1

/-- Move unpinned ANY objects out of SHEET, oldest first, until `n` bytes of the pool are free (07 R358). -/
def makeRoom (fuel n : Nat) (s : State) : State :=
  match fuel with
  | 0 => s
  | fuel + 1 =>
    if n ≤ poolFree s then s
    else match oldestObj (s.draw.objs.filter (movable s)) with
      | none => s
      | some o => match ingotExtent s o.size 6 0 with
        | none => s
        | some (ch, a) => makeRoom fuel n (moveObj o ch a s)

/-- Free SHEET for step 4 of R309: with every object that could be moved out. -/
def freeSheet (s : State) : Nat := poolFree s + ((s.draw.objs.filter (movable s)).map (·.size)).sum

end Sys2Proof.Machine
end

