-- ==== Sys2Proof/Machine/Lists.lean ====
section
/-! DEFINITION. Command lists (chapter 06): the descriptor, the checks of R326, the queues, LIST_START, and the commands that
every engine accepts. -/

namespace Sys2Proof.Machine

/-! ## Checking a list (06 R323 to R327) -/

/-- LEN of a command, or none where the engine does not know it (06 Tables 6.11, 6.12; 07 Table 7.4; 08 Table 8.4; 09 R431; 15
R706, R712). -/
def cmdLen (engine cmd : Nat) : Option Nat :=
  if cmd < 4 then some 1
  else match engine with
    | 1 => if cmd = 0x100 ∨ cmd = 0x101 ∨ cmd = 0x102 then some 3 else none
    | 2 => if cmd = 0x100 ∨ cmd = 0x101 ∨ cmd = 0x102 then some 2 else none
    | 3 => if cmd = 0x100 ∨ cmd = 0x102 then some 2 else if cmd = 0x101 then some 1 else none
    | 4 => if 0x100 ≤ cmd ∧ cmd ≤ 0x104 then some 4 else if cmd = 0x110 then some 2 else none
    | 5 => if cmd = 0x100 then some 3 else none
    | 6 => if cmd = 0x100 then some 4 else none
    | _ => none

/-- The fields that Table 6.11 gives no meaning are zero. -/
def commonOk (c : Cmd) : Bool :=
  match c.cmd with
  | 0 => c.arg0 == 0 && c.arg1 == 0
  | 1 => decide (c.arg0.toNat < 64) && decide (c.arg1.toNat < 2 ^ 32)
  | 2 => decide (c.arg0.toNat < 64) && c.arg1 == 0
  | 3 => c.arg0 == 0
  | _ => true

/-- The stream is held by the tenant (07 R364). -/
def streamHeld (s : State) (t h : Nat) : Bool := s.draw.streams.any fun x => x.handle == h && (t == 0 || x.tenant == t)

/-- A place named is the tenant's, or SHARED with it; how many bytes it may touch is judged when the command runs. -/
def placeOwned (s : State) (t : Nat) (d : Nat × Nat) : Bool :=
  match resolve s t d.1 (if d.1 = 2 then d.2 / 2 ^ 32 * 2 ^ 32 else d.2) 0 false with
  | .inl st => st == stRETIRED
  | .inr _ => true

/-- Recipe and bench that an EPOCH command names are the tenant's (11 R555; 15 R712). -/
def epochOwned (s : State) (t : Nat) (b : Bytes) : Bool :=
  let x := benchOf s (fld b 4 1)
  (s.led.held.any fun a => a.handle == fld b 0 4 && a.kind == .recipe && (t == 0 || a.tenant == t)) &&
    decide (fld b 4 1 < 16) && x.state != .free && (t == 0 || x.tenant == t)

/-- Every address and object a command names is owned by the tenant. ASSAY checks a body when its command runs (08 R415). -/
def namesOwned (s : State) (t engine : Nat) (inUnit : Bool) (c : Cmd) : Bool :=
  ((cmdStream engine c).all fun h => streamHeld s t h) &&
    (!(engine == 6 && c.cmd == 0x100) || epochOwned s t c.body) &&
    (engine == 4 && decide (0x100 ≤ c.cmd) || (cmdPlaces engine inUnit c).all (placeOwned s t))

def cmdOf (b : Bytes) (len : Nat) : Cmd :=
  { cmd := fld b 0 2, arg0 := BitVec.ofNat 32 (fld b 4 4), arg1 := BitVec.ofNat 64 (fld b 8 8)
    body := (b.take (16 * len)).drop 16 }

/-- The commands of a list from command `i` on, or the index of the offending one; 0xFFFF where the list as a whole is at
fault. `waits` says that only WAIT_EVENT commands came before. -/
def readCmds (s : State) (t engine : Nat) (inUnit : Bool) (n i : Nat) (waits : Bool) (b : Bytes) : Sum Nat (List Cmd) :=
  match n with
  | 0 => if b.isEmpty then .inr [] else .inl 0xFFFF
  | n + 1 =>
    if b.isEmpty then .inl 0xFFFF
    else
      let len := fld b 2 1
      let c := cmdOf b len
      if fld b 3 1 ≠ 0 ∨ cmdLen engine c.cmd ≠ some len then .inl i
      else if b.length < 16 * len then .inl 0xFFFF
      else if !commonOk c || (c.cmd == 1 && !waits) || !namesOwned s t engine inUnit c then .inl i
      else match readCmds s t engine inUnit n (i + 1) (waits && c.cmd == 1) (b.drop (16 * len)) with
        | .inl e => .inl e
        | .inr r => .inr (c :: r)

/-- The list header agrees with the descriptor (06 Table 6.10). -/
def headerOk (d b : Bytes) : Bool :=
  fld b 0 1 == 1 && fld b 1 1 == fld d 0 1 && decide (1 ≤ fld b 2 2) && decide (fld b 2 2 ≤ 4095) &&
    fld b 4 4 == fld d 4 4 && fld b 8 8 == 0

/-- The commands of a list, or the index that R326 reports. -/
def readList (s : State) (t : Nat) (d b : Bytes) : Sum Nat (List Cmd) :=
  if (crc32c b).toNat ≠ fld d 0x14 4 ∨ !headerOk d b then .inl 0xFFFF
  else readCmds s t (fld d 0 1) (fld d 1 1 == 1) (fld b 2 2) 0 true (b.drop 16)

/-- First field of the descriptor at fault, as an offset from the packet header. -/
def descBad (engine : Nat) (d : Bytes) : Option Nat :=
  if fld d 0 1 ≠ engine then some 0x20
  else if 1 < fld d 1 1 then some 0x21
  else if (engine ≠ 3 ∧ engine ≠ 6 ∧ fld d 2 1 ≠ 0) ∨ 15 < fld d 2 1 then some 0x22
  else if fld d 4 4 % 16 ≠ 0 ∨ fld d 4 4 < 32 ∨ 65536 < fld d 4 4 then some 0x24
  else if fld d 8 8 % 16 ≠ 0 then some 0x28
  else none

/-- The bench of a FABRIC or TEMPER list: none there is refused, one of another tenant denied (15 R693). -/
def descBench (p : Packet) (engine : Nat) (s : State) : Option (Half × Nat) :=
  let x := benchOf s (fld p.params 2 1)
  if engine ≠ 3 ∧ engine ≠ 6 then none
  else if x.state = .free then some (stBAD_PARAM, 0x22)
  else if !mayUse p x.tenant then some (stDENIED, noField)
  else if x.state = .resetting then some (stBUSY, noField)
  else none

/-- What stops a list packet before its list is fetched. -/
def descRefusal (p : Packet) (engine : Nat) (s : State) : Option (Half × Nat) :=
  let d := p.params
  match descBad engine d with
  | some off => some (stBAD_PARAM, off)
  | none => match descBench p engine s with
    | some e => some e
    | none =>
      if bit (fld d 3 1) 0 && !inHorizon s (BitVec.ofNat 32 (fld d 0x10 4)) then some (stREFUSED_HORIZON, 0x30)
      else if 16 ≤ (s.fab.lists.filter fun l => l.tenant == p.tenant && l.engine == engine).length then some (stBUSY, noField)
      else none

/-- Queue a list, which is outstanding until it ends (06 R326 to R329). -/
def queueList (p : Packet) (engine : Nat) (cmds : List Cmd) (s : State) : State :=
  let d := p.params
  let l : CmdList :=
    { ref := p.ref, tenant := p.tenant, engine := engine, inUnit := fld d 1 1 == 1, bench := fld d 2 1
      start := if bit (fld d 3 1) 0 then some (expand s (BitVec.ofNat 32 (fld d 0x10 4))) else none
      cmds := cmds, index := 0, running := false, cals := [] }
  modP p.ref (fun q => { q with started := true }) (s.setFab { s.fab with lists := s.fab.lists ++ [l] })

/-- Fetching the list met an error in host memory: DMA_ERR of the tenant, which cancels its packet (03 R151, R157). -/
def fetchFail (p : Packet) (s : State) : State :=
  let s1 := ringError p.tenant 2 s
  if (findP p.ref s1).isSome then refuse p stINTERNAL noField s1 else s1

/-- A command of DRAW or ASSAY carries a deadline (07 Table 7.4, 08 Table 8.4; 14 R655). -/
def cmdStamped (engine : Nat) (c : Cmd) : Bool := (engine == 1 || engine == 4) && decide (0x100 ≤ c.cmd) && decide (2 ^ 32 ≤ c.arg1.toNat)

/-- A list opcode: fetch and check the whole list, then queue it (06 R326); `poisoned` says that the fetch was delivered poisoned
(07 R386, R389). -/
def takeList (engine : Nat) (poisoned : Bool) (p : Packet) (s : State) : State :=
  let d := p.params
  match descRefusal p engine s with
  | some (st, off) => refuse p st off s
  | none =>
    if engine = 2 ∧ movingRefused p s then refuse p stBUSY noField s
    else if fld d 1 1 = 1 ∧ !inIngot (fld d 8 8) then refuse p stBAD_PARAM 0x28 s
    else match resolve s p.tenant (fld d 1 1) (fld d 8 8) (fld d 4 4) false with
    | .inl st => refuse p st 0x28 s
    | .inr a =>
      if a.host && hostBad s a.addr (fld d 4 4) then fetchFail p s
      else if (poisoned && !a.host) || (poisonAt s a (fld d 4 4)).isSome then
        refuse p stINTERNAL noField (tablePoison 3 (poisonAt s a (fld d 4 4)) s)
      else match readList s p.tenant d (readPlace s a (fld d 4 4)) with
        | .inl i => refuseWith p stBAD_PARAM (listResult 0 i stBAD_PARAM none) s
        | .inr cmds =>
          if !s.pos.anchored && cmds.any (cmdStamped engine) then refuse p stBUSY noField s else queueList p engine cmds s

/-- PLN_CAL_LOAD (15 R705). -/
def execPlnCalLoad (r : LoadRef) (s : State) : Host.Outcome State Fault Refusal :=
  .next (runOp 0x0504 r.ref s (takeList 2 r.poisoned))

/-- FAB_LIST (15 R707). -/
def execFabList (r : LoadRef) (s : State) : Host.Outcome State Fault Refusal :=
  .next (runOp 0x0610 r.ref s (takeList 3 r.poisoned))

/-- DRAW_LIST (15 R708). -/
def execDrawList (r : LoadRef) (s : State) : Host.Outcome State Fault Refusal :=
  .next (runOp 0x0710 r.ref s (takeList 1 r.poisoned))

/-- ASY_LIST (15 R709). -/
def execAsyList (r : LoadRef) (s : State) : Host.Outcome State Fault Refusal :=
  .next (runOp 0x0810 r.ref s (takeList 4 r.poisoned))

/-- HM_LIST (15 R710). -/
def execHmList (r : LoadRef) (s : State) : Host.Outcome State Fault Refusal :=
  .next (runOp 0x0930 r.ref s (takeList 5 r.poisoned))

/-- TMP_LIST (15 R712). -/
def execTmpList (r : LoadRef) (s : State) : Host.Outcome State Fault Refusal :=
  .next (runOp 0x0B30 r.ref s (takeList 6 r.poisoned))

/-! ## Serving the queues (06 R328 to R332) -/

/-- The engines serve lists: CTRL is on and no recovery of the whole unit is under way. -/
def enginesUp (s : State) : Bool := domOn s 2 && !wideRecovery s && !s.flt.fatal

/-- The oldest list of a tenant at an engine. -/
def headList (s : State) (engine t : Nat) : Option CmdList := s.fab.lists.find? fun l => l.engine == engine && l.tenant == t

def listBusy (s : State) (engine : Nat) : Bool := s.fab.lists.any fun l => l.engine == engine && l.running

/-- START_SPOS has been reached (06 R328). -/
def startReached (s : State) (l : CmdList) : Bool := l.start.all (reached s)

def CmdList.cur (l : CmdList) : Option Cmd := l.cmds[l.index]?

/-- The list can start: it waits for nothing more. -/
def canStart (s : State) (l : CmdList) : Bool :=
  !l.running && startReached s l && l.cur.any fun c => c.cmd != 1

/-- Tenants in round-robin order after the one served last (06 R332). -/
def tenantOrder (s : State) (engine : Nat) : List Nat :=
  (List.range 64).map fun i => (getI s.fab.lastServed engine 63 + 1 + i) % 64

/-- The list that the engine takes next. -/
def nextList (s : State) (engine : Nat) : Option CmdList :=
  if listBusy s engine then none
  else (tenantOrder s engine).findSome? fun t => (headList s engine t).filter (canStart s)

def modList (l : CmdList) (f : CmdList → CmdList) (s : State) : State :=
  s.setFab { s.fab with lists := (s.fab.lists.map fun x => if x.ref = l.ref then f x else x) }

/-- The packet of a list whose deadline or time limit has come (03 R159, R160). -/
def overdue (s : State) (l : CmdList) : Option Packet := (findP l.ref s).filter fun p => deadlineReached s p || tmoExpired s p

/-- LIST_START: the commit point of the engine's next list (06 R329, R332); a limit that has run out by then prevails (03 R159,
R160). -/
def execListStart (engine : Nat) (s : State) : Host.Outcome State Fault Refusal :=
  .next (
    if !enginesUp s then s
    else match nextList s engine with
      | none => s
      | some l => match overdue s l with
      | some p => cancelP p stTIMED_OUT (fenceOf s p.principal) s
      | none =>
        let s1 := commitP l.ref (modList l (fun x => { x with running := true }) s)
        s1.setFab { s1.fab with lastServed := upd s1.fab.lastServed engine fun _ => l.tenant })

/-- The present command has succeeded: the list goes on, or replies OK after its last (06 R330, R331). -/
def advance (l : CmdList) (s : State) : State :=
  if l.index + 1 < l.cmds.length then modList l (fun x => { x with index := x.index + 1 }) s
  else endList l stOK (listResult l.cmds.length 0xFFFF 0 none) s

/-- A command that failed ends its list (06 R330). -/
def failCmd (l : CmdList) (st : Half) (s : State) : State := failList l st none s

/-- Run the present command of the engine's running list, where it is the one named. -/
def withCmd (engine cmd : Nat) (s : State) (f : CmdList → Cmd → State) : State :=
  if !enginesUp s then s
  else match s.fab.lists.find? fun l => l.engine == engine && l.running with
    | none => s
    | some l => match l.cur with
      | some c => if c.cmd = cmd then f l c else s
      | none => s

/-! ## Common commands (06 Table 6.11) -/

/-- NOP. -/
def execNop (engine : Nat) (s : State) : Host.Outcome State Fault Refusal :=
  .next (withCmd engine 0 s fun l _ => advance l s)

/-- (En - target) modulo 2^32 is below 2^31. -/
def eventMet (s : State) (t : Nat) (c : Cmd) : Bool :=
  decide ((getI (ten s t).events (c.arg0.toNat % 64) 0 - c.arg1.setWidth 32).toNat < 2 ^ 31)

/-- A WAIT_EVENT is satisfied; a list of nothing else commits and replies (06 R329). -/
def passWait (l : CmdList) (s : State) : State :=
  match overdue s l with
  | some p => cancelP p stTIMED_OUT (fenceOf s p.principal) s
  | none =>
  if l.index + 1 < l.cmds.length then modList l (fun x => { x with index := x.index + 1 }) s
  else
    let s1 := commitP l.ref s
    endList l stOK (listResult l.cmds.length 0xFFFF 0 none) s1

/-- WAIT_EVENT: the tenant's oldest list at the engine goes on once its event has come. -/
def execWaitEvent (engine t : Nat) (s : State) : Host.Outcome State Fault Refusal :=
  .next (
    if !enginesUp s then s
    else match headList s engine t with
      | none => s
      | some l =>
        if l.running || !startReached s l then s
        else match l.cur with
          | some c => if c.cmd = 1 ∧ eventMet s l.tenant c then passWait l s else s
          | none => s)

/-- SIGNAL_EVENT. -/
def execSignalEvent (engine : Nat) (s : State) : Host.Outcome State Fault Refusal :=
  .next (withCmd engine 2 s fun l c =>
    advance l (modTen l.tenant (fun t => { t with events := bumpAt t.events (c.arg0.toNat % 64) }) s))

/-- A host-memory access of a running command ended in an error: DMA_ERR of the tenant, and the command fails (03 R151). -/
def dmaFail (l : CmdList) (s : State) : State := failCmd l stINTERNAL (ringError l.tenant 2 s)

/-- What WRITE_STAMP writes. -/
def stampBytes (s : State) (l : CmdList) : Bytes := le4 (spos s).toNat ++ le2 l.index ++ le2 0

/-- The command has written its data, all of it or all but the burst that was lost, which fails it (07 R387, R388). -/
def endWrite (l : CmdList) (lost : Option Nat) (s : State) : State :=
  match lost with
  | some a => failList l stINTERNAL (some (BitVec.ofNat 64 a)) s
  | none => advance l s

/-- A command whose read was delivered poisoned, at `op`, or met the poison table fails with the burst's address (06 R331, 07
R387). -/
def failPoisoned (l : CmdList) (port : Nat) (op : Option Long) (table : Option Nat) (s : State) : State :=
  match op with
  | some a => failList l stINTERNAL (some a) s
  | none => failList l stINTERNAL (table.map (BitVec.ofNat 64)) (tablePoison port table s)

/-- An access to host memory at the place ends in an error: `dmaOk` or the host says so (03 R151). -/
def hostFails (s : State) (dmaOk : Bool) (p : Place) (n : Nat) : Bool := p.host && (!dmaOk || hostBad s p.addr n)

/-- WRITE_STAMP: `dmaOk` says that an access to host memory ended without error, `lost` that the burst's write was lost. -/
def execWriteStamp (engine : Nat) (x : WriteEnd) (s : State) : Host.Outcome State Fault Refusal :=
  .next (withCmd engine 3 s fun l c =>
    match resolve s l.tenant (b2n l.inUnit) c.arg1.toNat 8 true with
    | .inl st => failCmd l st s
    | .inr a =>
      if hostFails s x.dmaOk a 8 then dmaFail l s
      else endWrite l (lostAt x.lost a 8) (writePlaceBut (lostAt x.lost a 8) a (stampBytes s l) s))

/-! ## PLANISH commands (15 R706) -/

/-- The calibration command's limits: a count of the channel's width, or up to 1,024 defects. -/
def calCountOk (s : State) (ch kind count : Nat) : Bool :=
  if kind = 2 then decide (count ≤ 1024) else count == (getI s.pln.chan ch Channel.reset).width

/-- A calibration change of a list: at once with APPLY_STATIONARY on a strip at standstill, else with the list's others at one
boundary (01 R79, 05 R249, 15 R706). -/
def takeCal (l : CmdList) (what : Reprog) (s : State) : State :=
  if (findP l.ref s).any (·.atOnce) then
    advance l (noticeApplied l.tenant 0x0504 (match what with | .cal ch _ _ => ch | _ => 0) (spos s) (applyImage what (dropReprog what s)))
  else
    advance { l with cals := l.cals ++ [what] } (modList l (fun x => { x with cals := x.cals ++ [what] }) s)

/-- CAL_DARK, CAL_FLAT and CAL_DEFECT: kind 0, 1, 2. -/
def calLoad (kind : Nat) (poisonedAt : Option Long) (s : State) (l : CmdList) (c : Cmd) : State :=
  let ch := c.arg0.toNat
  let ofs := fld c.body 0 4
  let count := fld c.body 4 4
  if 31 < ch ∨ fld c.body 8 8 ≠ 0 ∨ !calCountOk s ch kind count then failCmd l stBAD_PARAM s
  else if !streamHeld s l.tenant (c.arg1.toNat % 2 ^ 32) then failCmd l stBAD_PARAM s
  else if (findP l.ref s).any fun p => movingRefused p s then failCmd l stBUSY s
  else match objPlace s l.tenant (c.arg1.toNat / 2 ^ 32) ofs (2 * count) false with
    | .inl st => failCmd l st s
    | .inr a =>
      let table := poisonAt s a (2 * count)
      if poisonedAt.isSome || table.isSome then failPoisoned l 0 poisonedAt table s
      else
        let b := readPlace s a (2 * count)
        takeCal l (.cal ch kind ((List.range count).map fun i => fld b (2 * i) 2)) s

/-- CAL_DARK. -/
def execCalDark (poisonedAt : Option Long) (s : State) : Host.Outcome State Fault Refusal :=
  .next (withCmd 2 0x100 s (calLoad 0 poisonedAt s))

/-- CAL_FLAT. -/
def execCalFlat (poisonedAt : Option Long) (s : State) : Host.Outcome State Fault Refusal :=
  .next (withCmd 2 0x101 s (calLoad 1 poisonedAt s))

/-- CAL_DEFECT. -/
def execCalDefect (poisonedAt : Option Long) (s : State) : Host.Outcome State Fault Refusal :=
  .next (withCmd 2 0x102 s (calLoad 2 poisonedAt s))

end Sys2Proof.Machine
end

