-- ==== Sys2Proof/Machine/Arith.lean ====
section
/-! DEFINITION. The arithmetic of the fabric (06 R298 to R305): the operand formats, the MAC array, the vector unit and the
conversions. Which operations a tile's run makes is its image's microcode (log entry 27). -/

namespace Sys2Proof.Machine

/-! ## Exact numbers -/

/-- The value an operand stands for: NaN, an infinity, or a sign with m x 2^e. -/
inductive Num where
  | nan
  | inf (neg : Bool)
  | fin (neg : Bool) (m : Nat) (e : Int)
deriving DecidableEq, Repr

def signed (neg : Bool) (m : Nat) : Int := if neg then -(m : Int) else m

/-- The significands of two finite numbers on their common exponent, with signs. -/
def aligned (s : Bool) (m : Nat) (e : Int) (t : Bool) (n : Nat) (f : Int) : Int × Int :=
  (signed s (m * 2 ^ (e - min e f).toNat), signed t (n * 2 ^ (f - min e f).toNat))

/-- The exact product; infinity times zero is NaN (06 R300, R302). -/
def Num.mul (a b : Num) : Num :=
  match a, b with
  | .nan, _ => .nan
  | _, .nan => .nan
  | .inf s, .inf t => .inf (s != t)
  | .inf s, .fin t m _ => if m = 0 then .nan else .inf (s != t)
  | .fin s m _, .inf t => if m = 0 then .nan else .inf (s != t)
  | .fin s m e, .fin t n f => .fin (s != t) (m * n) (e + f)

/-- The exact sum: infinities of both signs give NaN, and a zero sum is -0 only of two -0 (06 R302, R303). -/
def Num.add (a b : Num) : Num :=
  match a, b with
  | .nan, _ => .nan
  | _, .nan => .nan
  | .inf s, .inf t => if s = t then .inf s else .nan
  | .inf s, .fin _ _ _ => .inf s
  | .fin _ _ _, .inf t => .inf t
  | .fin s m e, .fin t n f =>
    let (x, y) := aligned s m e t n f
    .fin (if x + y = 0 then s && t else decide (x + y < 0)) (x + y).natAbs (min e f)

/-- `a` is below `b`; false with a NaN. -/
def Num.below (a b : Num) : Bool :=
  match a, b with
  | .nan, _ => false
  | _, .nan => false
  | .inf s, .inf t => s && !t
  | .inf s, .fin _ _ _ => s
  | .fin _ _ _, .inf t => !t
  | .fin s m e, .fin t n f => decide ((aligned s m e t n f).1 < (aligned s m e t n f).2)

def Num.isNan (a : Num) : Bool := a == .nan

def Num.negative (a : Num) : Bool :=
  match a with
  | .nan => false
  | .inf s => s
  | .fin s _ _ => s

/-- One of two equal values: among zeros, the one with the sign that `pick` makes of both signs. -/
def Num.tie (pick : Bool → Bool → Bool) (a b : Num) : Num :=
  match a with
  | .fin s 0 e => .fin (pick s b.negative) 0 e
  | x => x

/-- Vector maximum: +0 of +0 and -0 (06 R302, R303). -/
def Num.max (a b : Num) : Num :=
  if a.isNan || b.isNan then .nan else if a.below b then b else if b.below a then a else a.tie (· && ·) b

/-- Vector minimum: -0 of +0 and -0 (06 R302, R303). -/
def Num.min (a b : Num) : Num :=
  if a.isNan || b.isNan then .nan else if a.below b then a else if b.below a then b else a.tie (· || ·) b

/-! ## Formats (06 Tables 6.2 and 6.3) -/

/-- A binary floating-point pattern with `eb` exponent and `mb` mantissa bits, as IEEE 754 reads it. -/
def ofFloat (eb mb w : Nat) : Num :=
  let m := w % 2 ^ mb
  let e := w / 2 ^ mb % 2 ^ eb
  let neg := bit w (eb + mb)
  let bias : Int := 2 ^ (eb - 1) - 1
  if e = 2 ^ eb - 1 then (if m = 0 then .inf neg else .nan)
  else if e = 0 then .fin neg m (1 - bias - mb)
  else .fin neg (2 ^ mb + m) (e - bias - mb)

/-- An E4M3 pattern: no infinity, and NaN at exponent 15, mantissa 7. -/
def ofE4m3 (w : Nat) : Num :=
  let m := w % 8
  let e := w / 8 % 16
  if e = 15 ∧ m = 7 then .nan
  else if e = 0 then .fin (bit w 7) m (-9)
  else .fin (bit w 7) (8 + m) (e - 10)

/-- The two's-complement value of `n` bits. -/
def ofTwos (n w : Nat) : Num :=
  let v := w % 2 ^ n
  if 2 * v < 2 ^ n then .fin false v 0 else .fin true (2 ^ n - v) 0

/-- The value of an element; bits [15:12] of a U12 are ignored (06 R305). -/
def fmtRead (f : Fmt) (w : Nat) : Num :=
  match f with
  | .u8 => .fin false (w % 256) 0
  | .u12 => .fin false (w % 4096) 0
  | .int4 => ofTwos 4 w
  | .int8 => ofTwos 8 w
  | .int32 => ofTwos 32 w
  | .e4m3 => ofE4m3 w
  | .bf16 => ofFloat 8 7 w
  | .fp32 => ofFloat 8 23 w

/-- Magnitude m x 2^e as exponent and mantissa bits, rounded to nearest even; it runs on above the largest finite pattern. -/
def packMagnitude (bias mb m : Nat) (e : Int) : Nat :=
  if m = 0 then 0
  else
    let low : Int := 1 - bias - mb
    let q : Int := max low ((Nat.log2 m : Int) + e - mb)
    let k := if q ≤ e then m * 2 ^ (e - q).toNat else rndEven m (2 ^ (q - e).toNat)
    (q - low).toNat * 2 ^ mb + k

/-- A number in an IEEE format of 8 exponent bits; NaN is the canonical one (06 R302, R304). -/
def packFloat (mb : Nat) (x : Num) : Nat :=
  let top := 255 * 2 ^ mb
  match x with
  | .nan => top + 2 ^ (mb - 1)
  | .inf s => b2n s * 2 ^ (mb + 8) + top
  | .fin s m e => b2n s * 2 ^ (mb + 8) + min top (packMagnitude 127 mb m e)

/-- A number in E4M3: magnitudes above 448 saturate, and NaN is 0x7F (06 R302, R304). -/
def packE4m3 (x : Num) : Nat :=
  match x with
  | .nan => 0x7F
  | .inf s => b2n s * 128 + 0x7E
  | .fin s m e => b2n s * 128 + min 0x7E (packMagnitude 7 3 m e)

/-- The nearest integer, ties to even, held within [lo, hi]; NaN gives 0 (06 R304). -/
def Num.toInt (lo hi : Int) (x : Num) : Int :=
  match x with
  | .nan => 0
  | .inf s => if s then lo else hi
  | .fin s m e => clampI lo hi (signed s (if 0 ≤ e then m * 2 ^ e.toNat else rndEven m (2 ^ (-e).toNat)))

/-- The bits of an integer in `n` bits. -/
def twos (n : Nat) (v : Int) : Nat := (v % (2 ^ n : Int)).toNat

/-- Limits and width of an integer format. -/
def fmtRange (f : Fmt) : Option (Int × Int × Nat) :=
  match f with
  | .u8 => some (0, 255, 8)
  | .u12 => some (0, 4095, 16)
  | .int4 => some (-8, 7, 4)
  | .int8 => some (-128, 127, 8)
  | .int32 => some (-(2 ^ 31), 2 ^ 31 - 1, 32)
  | _ => none

/-- A number written in a format; bits [15:12] of a U12 are zero (06 R304, R305). -/
def fmtWrite (f : Fmt) (x : Num) : Nat :=
  match f with
  | .e4m3 => packE4m3 x
  | .bf16 => packFloat 7 x
  | .fp32 => packFloat 23 x
  | _ => match fmtRange f with
    | some (lo, hi, n) => twos n (x.toInt lo hi)
    | none => 0

/-- The conversion is one of NaN to an integer format, which FAB_NANCVT counts (06 R304). -/
def nanToInt (f : Fmt) (x : Num) : Bool := x.isNan && (fmtRange f).isSome

/-! ## The MAC array (06 R298 to R303, Table 6.1) -/

/-- The operand pairs of Table 6.1 that accumulate in INT32. -/
def intPairs : List (Fmt × Fmt) := [(.int4, .int4), (.int8, .int8), (.u8, .int8), (.u12, .int8)]

/-- The operand pairs of Table 6.1 that accumulate in FP32. -/
def floatPairs : List (Fmt × Fmt) := [(.e4m3, .e4m3), (.bf16, .bf16)]

/-- The MAC array accepts the pair (06 R298). -/
def pairOk (a b : Fmt) : Bool := intPairs.contains (a, b) || floatPairs.contains (a, b)

/-- An operand as the MAC array reads it: a BF16 subnormal is a zero of its sign (06 R301). -/
def macRead (f : Fmt) (w : Nat) : Num :=
  if f = .bf16 ∧ w / 128 % 256 = 0 then .fin (bit w 15) 0 0 else fmtRead f w

/-- A subnormal FP32 result of an accumulator is a zero of its sign (06 R301). -/
def flushF32 (w : Nat) : Nat := if w / 2 ^ 23 % 256 = 0 then w / 2 ^ 31 * 2 ^ 31 else w

/-- An integer accumulation, which saturates at the INT32 range; the Bool says that it did (06 R299). -/
def macInt (acc : Nat) (x y : Num) : Nat × Bool :=
  let lo : Int := -(2 ^ 31)
  let hi : Int := 2 ^ 31 - 1
  match (fmtRead .int32 acc).add (x.mul y) with
  | .fin s m e =>
    let v := signed s (m * 2 ^ e.toNat)
    (twos 32 (clampI lo hi v), decide (v < lo) || decide (hi < v))
  | _ => (acc, false)

/-- A floating accumulation: the exact product, rounded once into FP32 (06 R300, R301). -/
def macFloat (acc : Nat) (x y : Num) : Nat := flushF32 (fmtWrite .fp32 ((fmtRead .fp32 acc).add (x.mul y)))

/-- One MAC of an accepted pair into an accumulator. -/
def macStep (fa fb : Fmt) (acc x y : Nat) : Nat × Bool :=
  if intPairs.contains (fa, fb) then macInt acc (macRead fa x) (macRead fb y)
  else if floatPairs.contains (fa, fb) then (macFloat acc (macRead fa x) (macRead fb y), false)
  else (acc, false)

/-! ## The vector unit (06 R301 to R303) -/

/-- One vector operation, exact; its result is rounded once, into the format it is written in. -/
def vecApply (op : VecOp) (x y z : Num) : Num :=
  match op with
  | .add => x.add y
  | .mul => x.mul y
  | .fma => (x.mul y).add z
  | .max => x.max y
  | .min => x.min y

end Sys2Proof.Machine
end

