-- ==== Sys2Proof/Machine/Micro.lean ====
section
/-! DEFINITION. One tile's run on a stake (chapter 06): the microcode of the image carried out on the tile and the parameter
slot, and the fields of the tile result record that it writes (09 Table 9.4). The result is a function of image, parameter
set and input alone (06 R306). -/

namespace Sys2Proof.Machine

/-- What a run has before it and has made so far. -/
structure TileRun where
  tile : Bytes
  params : Bytes
  work : Memory
  out : Memory
  accs : List (Nat × Nat)
  /-- an integer accumulation has saturated (06 R299) -/
  sat : Bool
  /-- NaN-to-integer conversions (06 R304) -/
  nans : Nat
deriving DecidableEq, Repr

/-- Bytes of an element; INT4 elements lie two to a byte (06 Table 6.2). -/
def fmtBytes (f : Fmt) : Nat :=
  match f with
  | .u8 => 1
  | .int4 => 1
  | .int8 => 1
  | .e4m3 => 1
  | .u12 => 2
  | .bf16 => 2
  | .fp32 => 4
  | .int32 => 4

/-- Address of the byte or bytes that hold element `i`. -/
def elemAt (f : Fmt) (i : Nat) : Nat := if f = .int4 then i / 2 else i * fmtBytes f

/-- Element `i` in the bytes that hold it: an odd INT4 element is bits [7:4]. -/
def elemIn (f : Fmt) (i v : Nat) : Nat := if f = .int4 then v / 16 ^ (i % 2) % 16 else v

/-- An accumulator; it starts at +0 (06 R303). -/
def accOf (r : TileRun) (i : Nat) : Nat := ((r.accs.find? fun e => e.1 == i).map (·.2)).getD 0

def setAcc (i v : Nat) (r : TileRun) : TileRun := { r with accs := (i, v) :: r.accs.filter fun e => e.1 != i }

/-- The element that a location names; bytes that nothing has written are zero (06 R311). -/
def readLoc (r : TileRun) (l : Loc) : Nat :=
  let a := elemAt l.fmt l.index
  let n := fmtBytes l.fmt
  match l.area with
  | .tile => elemIn l.fmt l.index (fld r.tile a n)
  | .params => elemIn l.fmt l.index (fld r.params a n)
  | .work => elemIn l.fmt l.index (leVal (memRead r.work a n))
  | .out => elemIn l.fmt l.index (leVal (memRead r.out a n))
  | .acc => accOf r l.index

/-- An element stored in a memory; an INT4 element leaves the other half of its byte. -/
def storeElem (f : Fmt) (i v : Nat) (m : Memory) : Memory :=
  let a := elemAt f i
  if f = .int4 then
    let old := (memGet m a).toNat
    memSet m a (BitVec.ofNat 8 (if i % 2 = 0 then old / 16 * 16 + v % 16 else v % 16 * 16 + old % 16))
  else memWrite m a (leBytes (fmtBytes f) v)

/-- A value written to a location; the tile and the parameters are read only. -/
def writeLoc (l : Loc) (v : Nat) (r : TileRun) : TileRun :=
  match l.area with
  | .work => { r with work := storeElem l.fmt l.index v r.work }
  | .out => { r with out := storeElem l.fmt l.index v r.out }
  | .acc => setAcc l.index v r
  | _ => r

/-- A number written in the location's format; a NaN that becomes an integer is counted (06 R304). -/
def writeNum (l : Loc) (x : Num) (r : TileRun) : TileRun :=
  writeLoc l (fmtWrite l.fmt x) { r with nans := r.nans + b2n (nanToInt l.fmt x) }

def numAt (r : TileRun) (l : Loc) : Num := fmtRead l.fmt (readLoc r l)

/-- One operation of the microcode. -/
def microStep (r : TileRun) (o : MicroOp) : TileRun :=
  match o with
  | .clear i => setAcc i 0 r
  | .mac i a b =>
    let (v, sat) := macStep a.fmt b.fmt (accOf r i) (readLoc r a) (readLoc r b)
    { setAcc i v r with sat := r.sat || sat }
  | .vec op dst a b c => writeNum dst (vecApply op (numAt r a) (numAt r b) (numAt r c)) r
  | .convert dst src => writeNum dst (numAt r src) r

/-- The whole run, in the order that the microcode fixes (06 R300). -/
def runMicro (ops : List MicroOp) (tile params : Bytes) : TileRun :=
  ops.foldl microStep
    { tile := tile, params := params, work := Memory.empty, out := Memory.empty, accs := [], sat := false, nans := 0 }

def outFld (m : Memory) (off n : Nat) : Nat := leVal (memRead m off n)

/-- The fields marked M of a tile result record (09 Table 9.4), with what the run counts. -/
def resultOf (r : TileRun) : ModelResult :=
  let m := r.out
  let n := min 64 (outFld m 0x1E 2)
  let word (off : Nat) : Word := BitVec.ofNat 32 (outFld m off 4)
  let box (off : Nat) := (outFld m off 2, outFld m (off + 2) 2, sfld (memRead m (off + 8) 4) 0 4, sfld (memRead m (off + 12) 4) 0 4)
  let emb := memGet m 0x1D == 1
  { score := word 0x20, cands := (List.range n).map fun i => (word (0x40 + 8 * i), word (0x44 + 8 * i))
    boxes := (List.range n).map fun i => box (0x40 + 8 * n + 16 * i), emb := emb
    embeds := if emb then (List.range n).map fun i => memRead m (0x40 + 24 * n + 128 * i) 128 else []
    accSat := r.sat, nanCvt := r.nans }

/-- The operand pairs that an image names (06 R298). -/
def imagePairs (image : Bytes) : List (Fmt × Fmt) :=
  (Config.microcode image).filterMap fun o => match o with
    | .mac _ a b => some (a.fmt, b.fmt)
    | _ => none

/-- The image names an operand pair outside Table 6.1 (06 R298). -/
def badPairs (image : Bytes) : Bool := (imagePairs image).any fun p => !pairOk p.1 p.2

/-- What a stake makes of a tile: a function of the image, the parameter set and the input (06 R306). -/
def tileResult (image params input : Bytes) : ModelResult := resultOf (runMicro (Config.microcode image) input params)

/-- The input of a tile's run: the tile as placed, and the conditioning block of its row (05 Table 5.3, 11 R548). -/
def tileInput (tile : Bytes) (cond : List Nat) : Bytes := tile ++ cond.flatMap le2

end Sys2Proof.Machine
end

