-- ==== Sys2Proof/Machine/Slots.lean ====
section
/-! DEFINITION. PLANISH up to its stage 2 (chapter 05): scan-line slots, segments, concealment, and the writing of
statistics and tap records. -/

namespace Sys2Proof.Machine

/-! ## Slots (05 R254 to R258) -/

/-- Open the slot of a channel at a firing; one whose trigger is not sent is closed and wholly damaged (04 R195). OVER_ADM is
taken as it stands at the firing: the spec does not name the instant at which a scan line counts as acquired (02 R121; DESIGN
CHOICE, log entry 119). -/
def openSlot (c : Nat) (k : Int) (sp scan : Word) (sent fresh : Bool) (s : State) : State :=
  let x : Slot :=
    { k := k, spos := sp, scan := scan, crossed := s.now, trig := sent, samples := List.replicate (plnChan s c).width none
      closed := !sent, upset := [], fresh := fresh, overAdm := s.led.overAdm }
  modPlnChan c (fun ch => { ch with slots := ch.slots ++ [x] }) s

/-- Open the slots of a list of channels; `sentOn` are the lanes that were sent the trigger. -/
def openSlots (l : List Nat) (k : Int) (sp scan : Word) (sentOn : List Nat) (fresh : Bool) (s : State) : State :=
  match l with
  | [] => s
  | c :: r =>
    let sent := (lanesTo s (sourceOf s c)).any fun ln => sentOn.contains (firstLane s ln)
    openSlots r k sp scan sentOn fresh (openSlot c k sp scan sent fresh s)

/-- 30 us after the crossing. -/
def slotLimit (x : Slot) : Nat := x.crossed + usTicks 30

/-- Slots whose limit has passed are closed (05 R254); at the limit itself completion comes first. -/
def expireSlots (now : Nat) (c : Channel) : Channel :=
  { c with slots := (c.slots.map fun x => if decide (slotLimit x < now) then { x with closed := true } else x) }

/-- A segment: scan line, pixel range, samples in U12.4 with SAT, and whether its packet is BAD. -/
structure Segment where
  k : Int
  scan : Word
  first : Nat
  count : Nat
  samples : List (Nat × Bool)
  bad : Bool
deriving DecidableEq, Repr

/-- The pixels of a segment in the slot's columns. -/
def putSamples (g : Segment) (l : List (Option Sample)) : List (Option Sample) :=
  l.mapIdx fun p o =>
    if g.first ≤ p ∧ p < g.first + g.count then
      match g.samples[p - g.first]? with
      | some (v, sat) => some { value := v, sat := sat, bad := g.bad }
      | none => o
    else o

/-- The slot with the segment; it closes complete when every pixel has arrived. -/
def fillSlot (g : Segment) (x : Slot) : Slot :=
  let l := putSamples g x.samples
  { x with samples := l, closed := l.all (·.isSome) }

/-- The segment duplicates pixels received, or lies beyond the channel width (05 R256). -/
def segDup (g : Segment) (x : Slot) : Bool :=
  decide (x.samples.length < g.first + g.count) || ((x.samples.drop g.first).take g.count).any (·.isSome)

def isSlot (g : Segment) (x : Slot) : Bool := x.k == g.k && x.scan == g.scan

/-- A channel takes a segment: into its open slot, or dropped and counted (05 R254 to R256). -/
def takeSegment (now : Nat) (g : Segment) (c : Channel) : Channel :=
  let c := expireSlots now c
  match c.slots.find? (isSlot g) with
  | none => { c with late := satInc c.late }
  | some x =>
    if x.closed then { c with late := satInc c.late }
    else if segDup g x then { c with dup := satInc c.dup }
    else { c with slots := (c.slots.map fun y => if isSlot g y then fillSlot g y else y) }

/-- A segment reaches a channel and its twins. -/
def deliverSegment (l : List Nat) (g : Segment) (s : State) : State :=
  match l with
  | [] => s
  | c :: r => deliverSegment r g (modPlnChan c (takeSegment s.now g) s)

/-- Pixels of the slot of scan line `k` are corrupted by a detected upset in the buffer that holds them (05 R257). -/
def upsetSlot (c : Nat) (k : Int) (ps : List Nat) (s : State) : State :=
  let hit (x : Slot) : Slot := if x.k = k then { x with upset := x.upset ++ ps } else x
  modPlnChan c (fun ch => { ch with slots := ch.slots.map hit }) s

/-- Every buffered pixel that a poisoned burst holds is damaged (05 R257, 07 R387; log entry 122). -/
def poisonSlots (addr : Nat) (s : State) : State :=
  let held (c : Nat) (x : Slot) := (List.range x.samples.length).filter fun p => Config.burstHolds addr c x.k p
  let chan := s.pln.chan.mapIdx fun c ch => { ch with slots := ch.slots.map fun x => { x with upset := x.upset ++ held c x } }
  s.setPln { s.pln with chan }

/-! ## Samples (04 Table 4.3, 05 Table 5.2) -/

/-- Bits of a raw sample of a pixel DT. -/
def dtBits (dt : Nat) : Nat := if dt = 1 then 8 else if dt = 2 then 10 else 12

/-- Raw pixel `i` of a payload in a DT. -/
def rawPixel (dt : Nat) (b : Bytes) (i : Nat) : Nat :=
  match dt with
  | 1 => fld b i 1
  | 2 => fld b (5 * (i / 4) + i % 4) 1 + 256 * bits (fld b (5 * (i / 4) + 4) 1) (2 * (i % 4) + 1) (2 * (i % 4))
  | _ =>
    let o := 3 * (i / 2)
    if i % 2 = 0 then fld b o 1 + 256 * bits (fld b (o + 1) 1) 3 0
    else bits (fld b (o + 1) 1) 7 4 + 16 * fld b (o + 2) 1

/-- Bytes that `n` pixels take in a DT. -/
def dtBytes (dt n : Nat) : Nat :=
  match dt with
  | 1 => n
  | 2 => ceilDiv (n * 10) 8
  | _ => ceilDiv (n * 12) 8

/-- A raw sample as U12.4, with SAT at full scale (05 R270). -/
def sampleOf (dt raw : Nat) : Nat × Bool := (raw * 2 ^ (16 - dtBits dt), raw + 1 == 2 ^ dtBits dt)

/-! ## Statistics records (05 R287 to R290) -/

/-- Bytes written around the end of a ring. -/
def ringBytes (base size at_ : Nat) (b : Bytes) (s : State) : State :=
  unitWrite base (b.drop (size - at_)) (unitWrite (base + at_) (b.take (size - at_)) s)

/-- Bytes between WIDX and RIDX that are taken. -/
def statUsed (v : View) (size : Nat) : Nat := (v.statWidx.toNat + size - v.statRidx.toNat % size) % size

/-- Write a statistics record of a view, or, without a ring or space in it, drop and count it; SEQ advances either way (05
R290). -/
def statWrite (v ty : Nat) (sp : Word) (body : Bytes) (s : State) : State :=
  let x := viewOf s v
  let b := [BitVec.ofNat 8 ty] ++ le1 v ++ le2 0 ++ le4 (16 + body.length) ++ le4 x.statSeq.toNat ++ le4 sp.toNat ++ body
  let lost := modView v (fun x => { x with statLost := satInc x.statLost, statSeq := x.statSeq + 1 }) s
  match objOf s x.statRing with
  | none => lost
  | some o =>
    if o.lost ∨ o.size ≤ statUsed x o.size + b.length then lost
    else
      modView v (fun x => { x with
          statWidx := BitVec.ofNat 32 ((x.statWidx.toNat + b.length) % o.size), statSeq := x.statSeq + 1 })
        (ringBytes o.addr o.size x.statWidx.toNat b s)

/-- The concealment record of a run (05 Table 5.6), with PLN_CONCEAL at most once per 10 ms for a channel (05 R262). -/
def concRecord (c : Nat) (x : ConcRun) (s : State) : State :=
  let ch := plnChan s c
  let v := ch.view.getD 0
  let s1 := statWrite v 2 x.spos
    (le1 c ++ le1 x.cause ++ le1 x.method ++ [0] ++ le4 x.scans ++ le2 x.first ++ le2 x.count ++ le4 0) s
  if quiet ch.concNotice (msTicks 10) s.now then
    noticeUnitAt 0x0502 x.spos (le1 v ++ le1 c ++ le1 x.cause) (modPlnChan c (fun ch => { ch with concNotice := some s.now }) s1)
  else s1

def concRecords (c : Nat) (l : List ConcRun) (s : State) : State :=
  match l with
  | [] => s
  | x :: r => concRecords c r (concRecord c x s)

def sameRun (a b : ConcRun) : Bool := a.cause == b.cause && a.first == b.first && a.count == b.count

/-- Bring the runs that `mine` picks up to date with one more scan line; the record of each run that ends is written. -/
def settleRuns (c : Nat) (mine : ConcRun → Bool) (restart : Bool) (new : List ConcRun) (s : State) : State :=
  let old := (plnChan s c).runs
  let goes (x : ConcRun) := !restart && new.any (sameRun x)
  let next := new.map fun n => match old.find? fun x => mine x && sameRun x n && !restart with
    | some x => { x with scans := x.scans + 1 }
    | none => n
  concRecords c (old.filter fun x => mine x && !goes x)
    (modPlnChan c (fun ch => { ch with runs := old.filter (fun x => !mine x) ++ next }) s)

/-- Ranges of consecutive pixels with one cause; each pixel gives its cause and method. -/
def damageRanges (i : Nat) (sp : Word) (l : List (Option (Nat × Nat))) : List ConcRun :=
  match l with
  | [] => []
  | none :: r => damageRanges (i + 1) sp r
  | some (c, m) :: r =>
    let one : ConcRun := { cause := c, first := i, count := 1, method := m, spos := sp, scans := 1 }
    match damageRanges (i + 1) sp r with
    | x :: t => if x.cause = c ∧ x.first = i + 1 then { one with count := x.count + 1 } :: t else one :: x :: t
    | [] => [one]

/-! ## Tap records (05 R291 to R293) -/

/-- The tap takes the scan line or tile at stamp `sp`: from its start to its end. -/
def tapTakes (s : State) (point source : Nat) (sp : Word) (t : Tap) : Bool :=
  let p := expand s sp
  t.point == point && t.source == source && !after t.start p &&
    (t.length == 0 || decide ((p - t.start).toNat < t.length))

/-- One record into a tap's ring, or dropped and counted. -/
def tapOne (tflags : Nat) (sp scan : Word) (first count : Nat) (data : Bytes) (t : Tap) (s : State) : State :=
  let len := 32 + data.length
  let b := le1 (0x10 + t.point) ++ le1 t.source ++ le2 tflags ++ le4 len ++ le4 t.seq.toNat ++ le4 sp.toNat ++
    le4 scan.toNat ++ le2 first ++ le2 count ++ le8 0 ++ data
  let set (t' : Tap) (s : State) :=
    s.setPln { s.pln with taps := (s.pln.taps.map fun x => if x.handle = t.handle then t' else x) }
  match objOf s t.ring with
  | some o =>
    if o.lost ∨ o.size < t.widx + len then set { t with seq := t.seq + 1, drop := satInc t.drop } s
    else set { t with seq := t.seq + 1, widx := t.widx + len } (unitWrite (o.addr + t.widx) b s)
  | none => set { t with seq := t.seq + 1, drop := satInc t.drop } s

def tapEach (tflags : Nat) (sp scan : Word) (first count : Nat) (data : Bytes) (l : List Tap) (s : State) : State :=
  match l with
  | [] => s
  | t :: r => tapEach tflags sp scan first count data r (tapOne tflags sp scan first count data t s)

/-- Every tap of the point and source that takes this record. -/
def tapRecord (point source tflags : Nat) (sp scan : Word) (first count : Nat) (data : Bytes) (s : State) : State :=
  tapEach tflags sp scan first count data (s.pln.taps.filter (tapTakes s point source sp)) s

/-! ## Stage 2: concealment (05 R257, R261 to R264) -/

/-- Why pixel `p` of a closed slot is damaged (05 R257; causes of Table 5.6); of several causes, the first to occur. -/
def causeAt (x : Slot) (p : Nat) : Option Nat :=
  if !x.trig then some 3
  else match getI x.samples p none with
    | none => some 1
    | some v => if v.bad then some 2 else if x.upset.contains p then some 4 else none

/-- The sample of an undamaged pixel. -/
def goodAt (x : Slot) (p : Nat) : Option Sample := if (causeAt x p).isSome then none else getI x.samples p none

/-- The nearest later undamaged sample of column `p` in the same tile row, over the closed slots that follow; the Bool says
that nothing still to come can change the answer. -/
def nextGood (h row : Int) (last : Int) (p : Nat) (later : List Slot) : Option (Int × Sample) × Bool :=
  match later with
  | [] => (none, decide ((last + 1) / h ≠ row))
  | y :: r =>
    if y.fresh ∨ y.k / h ≠ row then (none, true)
    else if !y.closed then (none, false)
    else match goodAt y p with
      | some g => (some (y.k, g), true)
      | none => nextGood h row y.k p r

/-- Pixel of a good sample. -/
def goodPixel (g : Sample) : Pixel := { value := g.value, conc := false, repl := false, sat := g.sat, pad := false }

/-- A concealed pixel and its method: 0 interpolate, 1 hold, 2 target. -/
def concealed (k : Int) (maxGap target : Nat) (a : Option Last) (b : Option (Int × Sample)) : Pixel × Nat :=
  let px (v : Nat) (sat : Bool) : Pixel := { value := v, conc := true, repl := false, sat := sat, pad := false }
  match a, b with
  | some a, some (kb, g) =>
    if kb - a.k - 1 ≤ (maxGap : Int) then
      (px ((a.value : Int) + rnd 5 (((g.value : Int) - a.value) * (k - a.k)) (kb - a.k).toNat).toNat (a.sat || g.sat), 0)
    else (px a.value a.sat, 1)
  | some a, none => (px a.value a.sat, 1)
  | none, _ => (px target false, 2)

/-- Stage 2 of one pixel: its value, and cause and method where it is damaged. -/
def stage2Pixel (h : Int) (maxGap target : Nat) (c : Channel) (x : Slot) (later : List Slot) (p : Nat) :
    Pixel × Option (Nat × Nat) :=
  match causeAt x p, goodAt x p with
  | none, some g => (goodPixel g, none)
  | cause, _ =>
    let a := if x.fresh then none else getI c.history p none
    let (px, m) := concealed x.k maxGap target a (nextGood h (x.k / h) x.k p later).1
    (px, some (cause.getD 1, m))

/-- Every damaged pixel of the slot has its following good line, or the row end, known. -/
def concealReady (h : Int) (x : Slot) (later : List Slot) : Bool :=
  (List.range x.samples.length).all fun p => (goodAt x p).isSome || (nextGood h (x.k / h) x.k p later).2

/-- T0 data of a slot: raw value, damaged, SAT (05 Table 5.7). -/
def t0Data (c : Channel) (x : Slot) : Bytes :=
  (List.range x.samples.length).flatMap fun p =>
    let (raw, sat) := match getI x.samples p none with
      | some v => (v.value / 2 ^ (16 - dtBits c.format), v.sat)
      | none => (Config.absentRaw x.k p % 4096, false)
    le2 (raw % 4096 + 4096 * b2n (causeAt x p).isSome + 8192 * b2n sat)

/-- Last undamaged values after a slot. -/
def nextHistory (c : Channel) (x : Slot) : List (Option Last) :=
  (List.range x.samples.length).map fun p =>
    match goodAt x p with
    | some g => some { k := x.k, value := g.value, sat := g.sat }
    | none => if x.fresh then none else getI c.history p none

/-- The slot has damage. -/
def slotDamaged (x : Slot) : Bool := (List.range x.samples.length).any fun p => (causeAt x p).isSome

/-- LEVEL_TARGET that applies to a scan line at `sp` (05 R249, R250). -/
def levelTargetAt (s : State) (v : Nat) (sp : Word) : Nat :=
  s.pln.due.foldl (fun t r => match r.what with
    | .plnLevel w target _ _ => if w = v ∧ !after r.boundary (expand s sp) then target else t
    | _ => t) (viewOf s v).levelTarget

/-- Cause and method of a damaged pixel in the records of a channel; replacement has no METHOD (05 R262; log entry 58). -/
def recordCause (n : Nat) (replace : Bool) (d : Option (Nat × Nat)) : Option (Nat × Nat) :=
  d.map fun d => (d.1, if replace then Config.replacedMethod n % 256 else d.2)

/-- Stage 2 on the oldest slot of a channel: T0, concealment and its records, and on to stage 3. -/
def stage2 (n : Nat) (x : Slot) (later : List Slot) (s : State) : State :=
  let c := plnChan s n
  let v := viewOf s (c.view.getD 0)
  let h : Int := rowH s (c.view.getD 0)
  let out := (List.range x.samples.length).map (stage2Pixel h v.maxGap (levelTargetAt s (c.view.getD 0) x.spos) c x later)
  let line : ChanLine :=
    { k := x.k, spos := x.spos, scan := x.scan, pixels := out.map (·.1), overAdm := x.overAdm, damaged := slotDamaged x
      fresh := x.fresh }
  let nconc := if c.replace then 0 else (out.filter (·.2.isSome)).length
  let s1 := tapRecord 0 n 0 x.spos x.scan 0 x.samples.length (t0Data c x) s
  let s2 := modPlnChan n (fun ch => { ch with
      slots := later, lines := ch.lines ++ [line], history := nextHistory c x, conc := ch.conc + BitVec.ofNat 64 nconc }) s1
  settleRuns n (fun r => r.cause != 5) x.fresh (damageRanges 0 x.spos (out.map fun o => recordCause n c.replace o.2)) s2

/-- Stage 2 on the oldest slot, when it is closed and what it waits for is known; a replace-mode channel waits for nothing. -/
def passSlot (n : Nat) (s : State) : State :=
  let c := plnChan s n
  match c.slots with
  | [] => s
  | x :: later =>
    if x.closed && (c.replace || concealReady (rowH s (c.view.getD 0)) x later) then stage2 n x later s else s

end Sys2Proof.Machine
end

