-- ==== Sys2Proof/Machine/LineCode.lean ====
section
/-! DEFINITION. The Camram line code (04, "Camram line code"): removing stuff bits, descrambling, and finding packets in the
words of blocks. -/

namespace Sys2Proof.Machine

/-! ## Payload bits (04 R200 to R202) -/

/-- Remove the bit that follows each run of 47; `n` payload bits are still to come, `run` of them alike stand at the end. The
count is of the removed bits that were not the inverse of their run (04 R202). -/
def destuff (n run : Nat) (last : Bool) (l : List Bool) : List Bool × Nat :=
  match l with
  | [] => ([], 0)
  | b :: r =>
    if run = 47 then
      let (o, e) := destuff n 0 b r
      (o, e + b2n (b == last))
    else match n with
      | 0 => ([], 0)
      | n + 1 =>
        let (o, e) := destuff n (if 0 < run ∧ b = last then run + 1 else 1) b r
        (b :: o, e)

/-- The scrambler register, S1 in bit 0, one place on, and its output bit S39 XOR S58. -/
def scrambleBit (r : BitVec 58) : Bool × BitVec 58 :=
  let o := r.getLsbD 38 ^^ r.getLsbD 57
  (o, (r <<< 1) ||| (if o then 1 else 0))

/-- Reverse the scrambling of a payload. -/
def descramble (r : BitVec 58) (l : List Bool) : List Bool :=
  match l with
  | [] => []
  | b :: t => let (o, r') := scrambleBit r; (b ^^ o) :: descramble r' t

/-- The value of bits sent bit 0 first. -/
def bitsVal (l : List Bool) : Nat :=
  match l with
  | [] => 0
  | b :: r => b2n b + 2 * bitsVal r

/-- The 256 words of a block's payload (04, "Camram line code"). -/
def blockWords (l : List Bool) : List Word := (List.range 256).map fun i => BitVec.ofNat 32 (bitsVal ((l.drop (32 * i)).take 32))

/-- A received block: words 1 to 255, FIRST, and whether its packets are BAD. -/
structure Block where
  words : List Word
  first : Nat
  bad : Bool
  stuffErrors : Nat
deriving DecidableEq, Repr

/-- Decode the payload of a block. -/
def readBlock (missing : Bool) (line : List Bool) : Block :=
  let (raw, err) := destuff 8192 0 false line
  let w := blockWords (descramble (BitVec.allOnes 58) raw)
  { words := w.drop 1, first := (getI w 0 0).toNat % 256, bad := missing || err != 0, stuffErrors := err }

/-! ## Words into the input buffer (04 R189, R205, R206) -/

/-- Words of a packet from its header word: header, SPOS, payload and CRC. -/
def packetWords (w : Word) : Nat := 3 + ceilDiv (bits w.toNat 31 16) 4

/-- Capacity of the input buffer in words: 256 KiB. -/
def rxWords : Nat := 65536

/-- LANE_STATUS W1C flags. -/
def flCRC : Word := 0x400
def flSTUFF : Word := 0x800
def flOVF : Word := 0x1000
def flTRIGMISS : Word := 0x2000

/-- Counter indices, in the order of 04 Table 4.10. -/
def cCRCERR : Nat := 0
def cSTUFFERR : Nat := 1
def cSYNCLOSS : Nat := 2
def cOVF : Nat := 3
def cUNMAPPED : Nat := 4
def cBADSTAMP : Nat := 5
def cTRIGMISS : Nat := 6
def cFALLBACK : Nat := 7
def cPRBSLOSS : Nat := 8
def cINJECTED : Nat := 9
def cUPSETS : Nat := 10

/-- Counters that saturate; the others wrap. -/
def laneSat (i : Nat) : Bool := i != cSYNCLOSS && i < cFALLBACK

/-- One more on a lane counter. -/
def Lane.bump (i : Nat) (x : Lane) : Lane := { x with ctr := if laneSat i then bumpSat x.ctr i else bumpAt x.ctr i }

def Lane.flag (f : Word) (x : Lane) : Lane := { x with flags := x.flags ||| f }

/-- `n` more on a lane counter. -/
def Lane.bumpBy (n i : Nat) (x : Lane) : Lane :=
  match n with
  | 0 => x
  | n + 1 => (x.bump i).bumpBy n i

/-- The packet last begun is discarded: its LENGTH is inconsistent with FIRST (04 R206). -/
def Lane.dropTail (x : Lane) : Lane :=
  { x with rx := x.rx.take (x.rx.length - x.rxTail), rxTail := 0, rxNeed := 0 }

/-- FIRST is where a packet header begins: one still incomplete there is discarded, and a drop ends (04 R206). -/
def Lane.atFirst (x : Lane) : Lane :=
  let y := if x.rxNeed = 0 then x else x.dropTail
  { y with rxDrop := 0 }

/-- Word `i` of a block arrives: a word of the packet in progress, an IDLE word, a header, or a word before FIRST that belongs to no
packet, because the packet before it ended too early (04 R189, R205, R206). -/
def takeWord (b : Block) (i : Nat) (w : Word) (x : Lane) : Lane :=
  let y := { (if i = b.first then x.atFirst else x) with rxHold := false }
  let word : RxWord := { w := w, bad := b.bad }
  if y.rxDrop ≠ 0 then { y with rxDrop := y.rxDrop - 1 }
  else if y.rxNeed ≠ 0 then
    { y with rx := y.rx ++ [word], rxNeed := y.rxNeed - 1, rxTail := y.rxTail + 1, rxHold := y.rxNeed == 1 && i == 255 }
  else if w = 0xFFFFFFFF then { y with rxTail := 0 }
  else if b.first = 0 ∨ i < b.first then y.dropTail
  else if rxWords < y.rx.length + packetWords w then
    (({ y with rxDrop := packetWords w - 1, rxTail := 0 } : Lane).bump cOVF).flag flOVF
  else { y with rx := y.rx ++ [word], rxNeed := packetWords w - 1, rxTail := 1 }

def takeWords (b : Block) (i : Nat) (l : List Word) (x : Lane) : Lane :=
  match l with
  | [] => x
  | w :: r => takeWords b (i + 1) r (takeWord b i w x)

/-! ## The packet at the front of the buffer -/

/-- The packet at the front of the buffer; none while it is incomplete, or ended with its block and the next block has yet to show
that its end is consistent (04 R205). -/
def frontOf (x : Lane) : Option (List RxWord) :=
  match x.rx with
  | [] => none
  | h :: _ =>
    let n := packetWords h.w
    if x.rx.length < n ∨ (x.rxHold ∧ x.rx.length = n) then none else some (x.rx.take n)

/-- A Camram packet's fields (04 Table 4.2). -/
structure CamPacket where
  vc : Nat
  dt : Nat
  reserved : Nat
  spos : Word
  payload : Bytes
  crcGood : Bool
  bad : Bool
deriving DecidableEq, Repr

def readPacket (l : List RxWord) : CamPacket :=
  let b := l.flatMap fun r => le4 r.w.toNat
  let h := (getI (l.map RxWord.w) 0 0).toNat
  { vc := bits h 5 0, dt := bits h 11 6, reserved := bits h 15 12, spos := getI (l.map RxWord.w) 1 0
    payload := (b.drop 8).take (bits h 31 16), crcGood := crcOk b, bad := l.any (·.bad) }

/-! ## The uplink (04, "Camram uplink and trigger timing") -/

/-- A character takes 160 ns. -/
def charTicks : Nat := 64

/-- First character boundary at or after `t`. -/
def charBoundary (l t : Nat) : Nat :=
  let p := Config.uplinkPhase l % charTicks
  p + ceilDiv (t - p) charTicks * charTicks

/-- Start the CONTROL fragments that go on the wire before `t`. -/
def drainTx (l t : Nat) (q : List Nat) (busy : Nat) : List Nat × Nat :=
  match q with
  | [] => ([], busy)
  | n :: r =>
    let st := charBoundary l busy
    if st < t then drainTx l t r (st + n * charTicks) else (n :: r, busy)

/-- An uplink message without its comma: TYPE, LEN, payload, CRC (04 Table 4.5). -/
def uplinkMsg (ty : Nat) (payload : Bytes) : Bytes := withCrc (le1 ty ++ le1 payload.length ++ payload)

end Sys2Proof.Machine
end

