-- ==== Sys2Proof/Machine/Lanes.lean ====
section
/-! DEFINITION. Lane states (chapter 04): bring-up in both modes, upsets, the control channel, test features, the eye scan and
equalisation, and the Lanes group's opcodes. -/

namespace Sys2Proof.Machine

/-! ## States -/

/-- Domain of a lane: LANE0 is code 11, LANE1 code 12 (04 R180). -/
def laneDomain (l : Nat) : Nat := if l < 12 then 11 else 12

def laneOn (s : State) (l : Nat) : Bool := domOn s (laneDomain l)

/-- The lane is enabled: in bring-up, ACTIVE, in CAP_FAULT or in TEST. -/
def Lane.enabled (x : Lane) : Bool := x.state != .disabled && x.state != .retired

/-- The lane enters a state at a rate. -/
def goLane (l : Nat) (st : LaneState) (rate : Nat) (s : State) : State :=
  modLane l (fun x => { x with state := st, rate := rate, since := s.now, probed := none, probes := 0 }) s

/-- Send an uplink message: on the wire from the next free character boundary. -/
def sendUplink (l ty : Nat) (payload : Bytes) (s : State) : State :=
  let x := laneOf s l
  let st := charBoundary l (max s.now x.busyUntil)
  (modLane l (fun x => { x with busyUntil := st + (7 + payload.length) * charTicks }) s).emit (.uplink l (uplinkMsg ty payload))

/-- TRAIN with a rate code. -/
def sendTrain (l rate : Nat) (s : State) : State := sendUplink l 2 [BitVec.ofNat 8 rate, 0] s

/-- Enter TRAIN at a rate (04 Table 4.8). -/
def goTrain (l rate : Nat) (s : State) : State := sendTrain l rate (goLane l .train rate s)

/-- Enter DETECT; the bring-up starts afresh (04 R211). -/
def goDetect (l : Nat) (s : State) : State :=
  goLane l .detect 0 (modLane l (fun x => { x with agreed := none, bitExpiries := 0 }) s)

/-! ## Notices -/

def noticeUp (l : Nat) (s : State) : State :=
  let x := laneOf s l
  noticeUnit 0x0402 (le1 l ++ le1 (b2n x.cfg.camram) ++ le1 x.rate) s

def noticeDown (l cause : Nat) (s : State) : State := noticeUnit 0x0403 (le1 l ++ le1 cause) s

/-- The lane becomes ACTIVE; after an upset its recovery has ended (04 R240, 12 R599). -/
def goActive (l rate : Nat) (s : State) : State :=
  let x := laneOf s l
  let s1 := goLane l .active rate (modLane l (fun x => { x with
    bitExpiries := 0, afterUpset := false, upsetInjected := false, lostLines := 0 }) s)
  let s2 := if x.afterUpset then recovered 1 l x.lostLines x.upsetInjected s1 else s1
  noticeUp l s2

/-! ## Upsets (04 R239 to R242) -/

/-- An upset of one lane: bring-up starts again, LANE_DOWN, and the retirement it may bring about. `how` is the low byte of
DETECT. -/
def laneFalls (l how : Nat) (injected : Bool) (s : State) : State :=
  let x := laneOf s l
  let s1 := leaveActive l (modLane l (fun x => ({ x with afterUpset := true, upsetInjected := injected } : Lane).bump cUPSETS) s)
  let s2 := if x.cfg.camram then goTrain l x.rate s1 else goDetect l s1
  upsetRetire 1 l how injected 0 0 (noticeDown l 1 s2)

def upsetEach (how : Nat) (injected : Bool) (ls : List Nat) (s : State) : State :=
  match ls with
  | [] => s
  | l :: r => upsetEach how injected r (laneFalls l how injected s)

/-- Lanes of the group of lane `l` that run in CoaXPress mode in a state. -/
def cxpGroup (s : State) (l : Nat) (sts : List LaneState) : List Nat :=
  let f := firstLane s l
  ((List.range (laneOf s f).cfg.group).map (f + ·)).filter fun n =>
    !(laneOf s n).cfg.camram && sts.contains (laneOf s n).state

/-- The other connections of a CoaXPress group come up again with the one that had the upset; they count none of their own (04
R216, R240; log entry 121). -/
def followEach (injected : Bool) (ls : List Nat) (s : State) : State :=
  match ls with
  | [] => s
  | l :: r =>
    followEach injected r (noticeDown l 1 (goDetect l (leaveActive l
      (modLane l (fun x => { x with afterUpset := true, upsetInjected := injected }) s))))

/-- A lane upset. -/
def laneUpset (l how : Nat) (injected : Bool) (s : State) : State :=
  let others := if (laneOf s l).cfg.camram then [] else (cxpGroup s l [.active]).filter (· != l)
  followEach injected others (laneFalls l how injected s)

/-- Loss of block lock, or of link alignment on every lane of a group (04 R204). -/
def lockLoss (l : Nat) (s : State) : State :=
  let x := laneOf s l
  let s1 := modLane l (fun x => ({ x with lock := false, missedSync := 0 } : Lane).bump cSYNCLOSS) s
  if x.state = .active then laneFalls l 0x06 false s1 else s1

def lockLossEach (ls : List Nat) (s : State) : State :=
  match ls with
  | [] => s
  | l :: r => lockLossEach r (lockLoss l s)

/-- CXP_ALIGNMENT_LOSS. -/
def execCxpAlignmentLoss (l : Nat) (s : State) : Host.Outcome State Fault Refusal :=
  .next (lockLossEach (cxpGroup s l [.active, .discover]) s)

/-! ## CAMRAM_BLOCK_RECEIVED (04 R200 to R206) -/

/-- The lane holds block lock. -/
def Lane.locked (x : Lane) : Bool := x.cfg.camram && x.lock && (x.state == .active || x.state == .capExchange)

/-- The words of a block go to the input buffer. -/
def takeBlock (b : Block) (x : Lane) : Lane :=
  let x1 := if b.stuffErrors = 0 then x else (x.bumpBy b.stuffErrors cSTUFFERR).flag flSTUFF
  if x1.state = .active then takeWords b 1 b.words x1 else x1

def blockReceived (l syncErrors : Nat) (line : List Bool) (s : State) : State :=
  let missing := decide (4 < syncErrors)
  let n := if missing then (laneOf s l).missedSync + 1 else 0
  if 4 ≤ n then lockLoss l s
  else modLane l (fun x => takeBlock (readBlock missing line) { x with missedSync := n }) s

/-- CAMRAM_BLOCK_RECEIVED: `syncErrors` is the number of sync-word bits in error, `line` the bits after it as received. -/
def execCamramBlockReceived (l syncErrors : Nat) (line : List Bool) (s : State) : Host.Outcome State Fault Refusal :=
  .next (if (laneOf s l).locked then blockReceived l syncErrors line s else s)

/-! ## Camram bring-up (04 R210 to R215) -/

def inState (s : State) (l : Nat) (camram : Bool) (st : LaneState) : Bool :=
  let x := laneOf s l
  x.cfg.camram == camram && x.state == st

/-- DETECT_PROBE: a probe of the port termination, 12 ms after the one before (04 Table 4.8). -/
def execDetectProbe (l : Nat) (terminated : Bool) (s : State) : Host.Outcome State Fault Refusal :=
  .next (
    if !inState s l true .detect then s
    else
      let x := laneOf s l
      let s1 := (match x.probed with | none => s | some t => s.at_ (t + msTicks 12)).emit (.probe l)
      let s2 := modLane l (fun x => { x with probed := some s1.now, probes := if terminated then x.probes + 1 else 0 }) s1
      if terminated && x.probes == 1 then goTrain l 1 s2 else s2)

/-- TRAIN_RESEND: TRAIN goes out every 100 us. -/
def execTrainResend (l : Nat) (s : State) : Host.Outcome State Fault Refusal :=
  .next (
    if !inState s l true .train then s
    else
      let x := laneOf s l
      sendTrain l x.rate (s.at_ (x.since + ((s.now - x.since) / usTicks 100 + 1) * usTicks 100)))

/-- BIT_LOCK: clock recovery has locked. -/
def execBitLock (l : Nat) (s : State) : Host.Outcome State Fault Refusal :=
  .next (if inState s l true .train then goLane l .bitLock (laneOf s l).rate s else s)

/-- PRBS_TRAIN_VERIFIED: 2^24 bits without error; TRAIN_DONE is sent. -/
def execPrbsTrainVerified (l : Nat) (s : State) : Host.Outcome State Fault Refusal :=
  .next (if inState s l true .bitLock then sendUplink l 3 [] (goLane l .blockLock (laneOf s l).rate s) else s)

/-- BLOCK_LOCK: four successive sync words. -/
def execBlockLock (l : Nat) (s : State) : Host.Outcome State Fault Refusal :=
  .next (
    if inState s l true .blockLock then
      goLane l .capExchange (laneOf s l).rate (modLane l (fun x => { x with lock := true, missedSync := 0 }) s)
    else s)

/-- CAPABILITY as read (04 Table 4.4). -/
def readCapability (b : Bytes) : Capability :=
  { rates := BitVec.ofNat 8 (fld b 1 1), lanes := fld b 2 1, index := fld b 3 1, formats := BitVec.ofNat 8 (fld b 4 1)
    cameraId := BitVec.ofNat 64 (fld b 8 8), maxLineRate := fld b 0x10 4, pixels := fld b 0x14 2 }

/-- A reserved field of a CAPABILITY is not zero (04 Table 4.4, R208). -/
def capReserved (b : Bytes) : Bool := fld b 5 3 != 0 || fld b 0x16 2 != 0

/-- Channels to which the lane's VC table routes a VC. -/
def laneChannels (s : State) (l : Nat) : List Nat :=
  (List.range 32).filter fun c => (laneOf s l).cfg.vc.contains (0x80 + c) && (plnChan s c).view.isSome

/-- CAPABILITY conflicts with the lane configuration (04 R214). -/
def capConflict (s : State) (l : Nat) (c : Capability) : Bool :=
  let x := laneOf s l
  c.lanes != x.cfg.group || c.index != l % max 1 x.cfg.group || c.maxLineRate == 0 || !c.rates.getLsbD 1 ||
    (laneChannels s l).any fun n =>
      let ch := plnChan s n
      ch.width != c.pixels || !c.formats.getLsbD ch.format

/-- The highest rate code the camera supports within the limits and the cap (04 R211). -/
def agreedRate (x : Lane) (rates : Byte) : Option Nat :=
  let top := min x.cfg.rateMax (x.cap.getD 7)
  ((List.range 8).reverse.find? fun c => rates.getLsbD c && decide (1 ≤ c) && decide (c ≤ top)).bind fun c =>
    if x.cfg.rateMin ≤ c then some c else none

/-- Enter CAP_FAULT. -/
def capFault (l : Nat) (changed : Bool) (s : State) : State :=
  noticeDown l (if changed then 5 else 4)
    (goLane l .capFault 0 (modLane l (fun x => { x with cameraChanged := changed }) s))

/-- A CAPABILITY is checked and acknowledged (04 Table 4.8, R211, R214, R215). -/
def capExchange (l : Nat) (b : Bytes) (s : State) : State :=
  let x := laneOf s l
  let c := readCapability b
  let changed := x.afterUpset && (match x.capability with | some o => o.cameraId != c.cameraId | none => false)
  if capReserved b then modLane l (Lane.bump cUNMAPPED) s
  else if fld b 0 1 ≠ 1 then s
  else if capConflict s l c then capFault l false s
  else if changed then capFault l true s
  else match agreedRate x c.rates with
    | none => goDetect l s
    | some r =>
      let s1 := sendUplink l 4 [BitVec.ofNat 8 r, BitVec.ofNat 8 c.lanes, 0, 0]
        (modLane l (fun x => { x with agreed := some r, capability := some c, bitExpiries := if r = x.rate then x.bitExpiries else 0 }) s)
      if r = x.rate then goActive l r s1 else goTrain l r s1

/-- CAP_EXCHANGE. -/
def execCapExchange (l : Nat) (payload : Bytes) (s : State) : Host.Outcome State Fault Refusal :=
  .next (if inState s l true .capExchange && (laneOf s l).lock then capExchange l payload s else s)

/-- Back to DETECT from a bring-up at the agreed rate: the rate is lowered by one code, not below RATE_MIN (04 R212). -/
def fallback (l : Nat) (s : State) : State :=
  let x := laneOf s l
  if x.agreed = some x.rate ∧ x.cfg.rateMin < x.rate then
    modLane l (fun x => ({ x with cap := some (x.rate - 1) } : Lane).bump cFALLBACK) s
  else s

/-- The time limit of a Camram state (04 Table 4.8). -/
def bringupLimit (st : LaneState) : Option Nat :=
  match st with
  | .train => some (msTicks 50)
  | .bitLock => some (msTicks 20)
  | .blockLock => some (msTicks 5)
  | .capExchange => some (msTicks 10)
  | _ => none

/-- What follows a state's time limit. -/
def bringupExpired (l : Nat) (s : State) : State :=
  let x := laneOf s l
  match x.state with
  | .train => goDetect l (fallback l s)
  | .bitLock =>
    if 2 ≤ x.bitExpiries then goDetect l (fallback l s)
    else goTrain l x.rate (modLane l (fun x => { x with bitExpiries := x.bitExpiries + 1 }) s)
  | _ => goTrain l x.rate s

/-- BRINGUP_TIMEOUT: `met` says that the state's condition is met in the same instant; it then prevails, and its own command moves
the lane on (04 R210). -/
def execBringupTimeout (q : LaneLimit) (s : State) : Host.Outcome State Fault Refusal :=
  let x := laneOf s q.lane
  .next (
    if !x.cfg.camram || q.met then s
    else match bringupLimit x.state with
      | some d => bringupExpired q.lane (s.at_ (x.since + d))
      | none => s)

/-- CAP_FAULT_RETRY: once per second, unless the camera has changed (04 R214, R215). -/
def execCapFaultRetry (l : Nat) (s : State) : Host.Outcome State Fault Refusal :=
  let x := laneOf s l
  .next (
    if !inState s l true .capFault || x.cameraChanged then s
    else
      goDetect l (s.at_ (x.since + sTicks 1)))

/-! ## CoaXPress bring-up (04 R216, R217) -/

/-- The master, the first lane of its group, is in the state. -/
def masterIn (s : State) (l : Nat) (st : LaneState) : Bool := firstLane s l == l && inState s l false st

def goEach (st : LaneState) (rate : Nat) (ls : List Nat) (s : State) : State :=
  match ls with
  | [] => s
  | l :: r => goEach st rate r (goLane l st rate s)

/-- Highest rate code the device supports that lies within the limits, and under the caps, of every lane listed (04 R185, R217). -/
def groupRate (s : State) (ls : List Nat) (rates : Byte) : Option Nat :=
  (List.range 8).reverse.find? fun c => decide (1 ≤ c) && rates.getLsbD c && ls.all fun l =>
    let x := laneOf s l
    decide (x.cfg.rateMin ≤ c) && decide (c ≤ min x.cfg.rateMax (x.cap.getD 7))

/-- CXP_DETECT_ALIGNED: the master is aligned at CXP-1. The operands are what the bootstrap registers say. -/
def execCxpDetectAligned (l : Nat) (deviceRates : Byte) (connections : Nat) (s : State) : Host.Outcome State Fault Refusal :=
  .next (
    if !masterIn s l .detect then s
    else
      let n := min connections (laneOf s l).cfg.group
      let ls := (cxpGroup s l [.detect]).filter fun k => decide (k < l + n)
      let target := (groupRate s ls deviceRates).getD 0
      goEach .discover 1 ls (modLane l (fun x => { x with cxpTarget := (target, n) }) s))

/-- CXP_DISCOVER_ACK: the configuration is acknowledged; without a rate within the limits there is none. -/
def execCxpDiscoverAck (l : Nat) (s : State) : Host.Outcome State Fault Refusal :=
  let t := (laneOf s l).cxpTarget.1
  .next (if masterIn s l .discover && t != 0 then goEach .resync t (cxpGroup s l [.discover]) s else s)

def activeEach (rate : Nat) (ls : List Nat) (s : State) : State :=
  match ls with
  | [] => s
  | l :: r => activeEach rate r (goActive l rate s)

/-- CXP_RESYNC_DONE: every connection is aligned at the target rate. -/
def execCxpResyncDone (l : Nat) (s : State) : Host.Outcome State Fault Refusal :=
  .next (
    if masterIn s l .resync then
      activeEach (laneOf s l).rate (cxpGroup s l [.resync]) (modLane l (fun x => { x with agreed := some x.rate }) s)
    else s)

def detectEach (ls : List Nat) (s : State) : State :=
  match ls with
  | [] => s
  | l :: r => detectEach r (goDetect l s)

/-- CXP_BRINGUP_TIMEOUT: DISCOVER after 500 ms, RESYNC after 100 ms with the target lowered by one code (04 Table 4.9). `met` says
that the state's condition is met in the same instant; it then prevails (04 R216). -/
def execCxpBringupTimeout (q : LaneLimit) (s : State) : Host.Outcome State Fault Refusal :=
  let l := q.lane
  let x := laneOf s l
  .next (
    if q.met then s
    else if masterIn s l .discover then detectEach (cxpGroup s l [.discover]) (s.at_ (x.since + msTicks 500))
    else if masterIn s l .resync then
      detectEach (cxpGroup s l [.resync])
        (modLane l (fun x => ({ x with cap := some (x.rate - 1) } : Lane).bump cFALLBACK) (s.at_ (x.since + msTicks 100)))
    else s)

/-! ## The control channel (04 R218 to R221) -/

/-- Pieces of 6 bytes. -/
def pieces (n : Nat) (b : Bytes) : List Bytes :=
  match n with
  | 0 => []
  | n + 1 => if b.length ≤ 6 then [b] else b.take 6 :: pieces n (b.drop 6)

/-- CONTROL messages of a request: fragments in index order, LAST on the final one (04 Table 4.5, R219). -/
def ctrlMessages (tag : Byte) (b : Bytes) : List Bytes :=
  let ps := pieces b.length b
  ps.mapIdx fun i p => uplinkMsg 5 ([BitVec.ofNat 8 (128 * b2n (i + 1 == ps.length) + i % 128), tag] ++ p)

def emitUplinks (l : Nat) (ms : List Bytes) (s : State) : State :=
  match ms with
  | [] => s
  | m :: r => emitUplinks l r (s.emit (.uplink l m))

/-- Start a transaction: the packet commits with the first request character. -/
def startCtrl (l : Nat) (p : Packet) (b : Bytes) (s : State) : State :=
  let tag := Config.ctrlTag p.order
  let x : CtrlXact := { ref := p.ref, tag := tag, since := s.now }
  let s1 := modLane l (fun y => { y with ctrl := y.ctrl ++ [x] }) (commitP p.ref s)
  if (laneOf s l).cfg.camram then
    let ms := ctrlMessages tag b
    emitUplinks l ms (modLane l (fun y => { y with
      busyUntil := max s.now y.busyUntil, txq := y.txq ++ ms.map fun m => m.length + 1 }) s1)
  else s1.emit (.cxpControl l b)

/-- LANE_CTRL_XACT. -/
def execLaneCtrlXact (r : Ref) (s : State) : Host.Outcome State Fault Refusal :=
  .next (runOp 0x0420 r s fun p s =>
    let l := fld p.params 0 1
    let n := fld p.params 2 2
    let x := laneOf s l
    if 23 < l then refuse p stBAD_PARAM 0x20 s
    else if n < 1 ∨ 1024 < n then refuse p stBAD_PARAM 0x22 s
    else if n ≠ p.params.length - 4 then refuse p stBAD_LENGTH 0x0A s
    else if x.state = .retired then refuse p stRETIRED 0x20 s
    else if !x.cfg.camram && x.state != .active then refuse p stBUSY noField s
    else startCtrl l p (p.params.drop 4) s)

/-- A complete reply arrives; one that no transaction waits for is discarded and counted in KW_FENCED (04 R220). -/
def ctrlAnswer (l : Nat) (tag : Byte) (data : Bytes) (s : State) : State :=
  match (laneOf s l).ctrl.find? fun x => x.tag == tag with
  | none => countFenced 0 s
  | some x =>
    let s1 := modLane l (fun y => { y with ctrl := y.ctrl.filter fun z => !(z.ref == x.ref) }) s
    match findP x.ref s1 with
    | none => countFenced 0 s1
    | some p => doneLater p stOK data s1

/-- CONTROL_REPLY. -/
def execControlReply (l : Nat) (tag : Byte) (data : Bytes) (s : State) : Host.Outcome State Fault Refusal :=
  .next (if (laneOf s l).state = .active then ctrlAnswer l tag data s else s)

/-- CONTROL_XACT_TIMEOUT: no complete reply within 200 ms of the oldest transaction (04 R220). -/
def execControlXactTimeout (l : Nat) (s : State) : Host.Outcome State Fault Refusal :=
  .next (match (laneOf s l).ctrl with
    | [] => s
    | x :: rest =>
      let s1 := modLane l (fun y => { y with ctrl := rest }) (s.at_ (x.since + msTicks 200))
      match findP x.ref s1 with
      | none => s1
      | some p => doneLater p stTIMED_OUT [] s1)

/-! ## Test features (04 R222 to R228) -/

/-- 48-bit saturating count. -/
def add48 (a n : Nat) : Nat := min (2 ^ 48 - 1) (a + n)

/-- Taps of a pattern: PRBS7 x^7 + x^6 + 1, PRBS15 x^15 + x^14 + 1, PRBS23 x^23 + x^18 + 1, PRBS31 x^31 + x^28 + 1 (04 R222). -/
def prbsTaps (pattern : Nat) : Nat × Nat :=
  match pattern with
  | 7 => (7, 6)
  | 15 => (15, 14)
  | 23 => (23, 18)
  | _ => (31, 28)

/-- The bit that follows those in a register, whose newest bit is bit 0. -/
def prbsNext (pattern : Nat) (r : BitVec 31) : Bool :=
  let (a, b) := prbsTaps pattern
  r.getLsbD (a - 1) ^^ r.getLsbD (b - 1)

/-- A register one bit on. -/
def prbsShift (r : BitVec 31) (b : Bool) : BitVec 31 := (r <<< 1) ||| (if b then 1 else 0)

/-- One generator bit: inverted in single mode, or once in every 2^P bits in periodic mode; each inversion is counted (04 R225,
R227). -/
def genBit (x : Lane) : Bool × Lane :=
  let o := prbsNext x.prbs x.gen
  let periodic := x.inject.1 == 2
  let due := periodic && decide (2 ^ x.inject.2.1 ≤ x.injectCount + 1)
  let y := { x with gen := prbsShift x.gen o, injectNext := false
                    injectCount := if due then 0 else if periodic then x.injectCount + 1 else x.injectCount }
  if x.injectNext || due then (!o, y.bump cINJECTED) else (o, y)

/-- `n` generator bits. -/
def genBits (n : Nat) (x : Lane) : List Bool × Lane :=
  match n with
  | 0 => ([], x)
  | n + 1 =>
    let (b, y) := genBit x
    let (r, z) := genBits n y
    (b :: r, z)

/-- The checker looks for lock: it predicts from the bits received, and locks after 64 that match (04 R224). -/
def seekBit (x : Lane) (b : Bool) : Lane :=
  let run := if b = prbsNext x.prbs x.chk then x.chkRun + 1 else 0
  { x with chk := prbsShift x.chk b, chkRun := if run = 64 then 0 else run, prbsLock := run == 64, chkBlock := (0, 0) }

/-- The locked checker runs free and counts each mismatch; it loses lock when a block of 1,024 bits holds 256 errors (04 R224). -/
def freeBit (x : Lane) (b : Bool) : Lane :=
  let pred := prbsNext x.prbs x.chk
  let e := b2n (b != pred)
  let (n, errs) := (x.chkBlock.1 + 1, x.chkBlock.2 + e)
  let y := { x with chk := prbsShift x.chk pred, bits := x.bits + 1, errs := add48 x.errs e, chkBlock := if n = 1024 then (0, 0) else (n, errs) }
  if 256 ≤ errs then ({ y with prbsLock := false, chkRun := 0, chkBlock := (0, 0) } : Lane).bump cPRBSLOSS else y

def checkBit (x : Lane) (b : Bool) : Lane := if x.prbsLock then freeBit x b else seekBit x b

/-- The generator runs: in TEST, under ACTION 1. -/
def Lane.generating (x : Lane) : Bool := x.state == .test && x.prbsAction == 1

/-- The checker runs: in TEST, under ACTION 1 or 2. -/
def Lane.checking (x : Lane) : Bool := x.state == .test && x.prbsAction != 0

/-- The lane that far loopback of lane `l` transmits on. -/
def loopPartner (l : Nat) : Nat := if l % 2 = 0 then l + 1 else l - 1

def sendTest (l : Nat) (b : List Bool) (s : State) : State := if b.isEmpty then s else s.emit (.testTx l b)

/-- A lane in TEST over as many bit times as `line` has bits: the generator sends as many bits, unless its transmitter repeats the
partner's; the receiver takes them under near loopback, else `line` from the coax; far loopback sends on the partner what was
received; and the checker checks it (04 R222 to R228). -/
def testLine (l : Nat) (line : List Bool) (s : State) : State :=
  let x := laneOf s l
  if x.state ≠ .test then s
  else
    let (sent, y) := if x.generating then genBits line.length x else ([], x)
    let received := if x.loopback = 1 then sent else line
    let z := if x.checking then received.foldl checkBit y else y
    let s1 := modLane l (fun _ => z) s
    let s2 := if (laneOf s (loopPartner l)).loopback = 2 then s1 else sendTest l sent s1
    if x.loopback = 2 then sendTest (loopPartner l) line s2 else s2

/-- Both lanes of a pair in the same time: what the coax brings on lane `l`, and on its partner (04 R228). -/
def testPair (l : Nat) (line partner : List Bool) (s : State) : State := testLine (loopPartner l) partner (testLine l line s)

/-- PRBS_CHECKER_LOCK: bits of the line up to the 64th that matches. -/
def execPrbsCheckerLock (x : TestBits) (s : State) : Host.Outcome State Fault Refusal :=
  .next (testPair x.lane x.line x.partner s)

/-- PRBS_LOCK_LOSS: bits of the line up to the block of 1,024 with 256 errors. -/
def execPrbsLockLoss (l : Nat) (line partner : List Bool) (s : State) : Host.Outcome State Fault Refusal :=
  .next (testPair l line partner s)

/-- Rate codes that exist in the lane's mode (04 R184). -/
def topRate (camram : Bool) : Nat := if camram then 5 else 7

/-- Start, stop or read a pattern; a new run clears LANE_BITS and LANE_ERRS (04 R222, R229). -/
def prbsAct (pat rate act : Nat) (x : Lane) : Lane :=
  match act with
  | 0 => { x with prbs := 0, prbsAction := 0, prbsLock := false, injectNext := false }
  | 3 => x
  | _ => { x with
      prbs := pat, prbsRate := rate, prbsAction := act, gen := Config.prbsSeed pat, prbsLock := false, chkRun := 0
      chkBlock := (0, 0), bits := 0, errs := 0 }

/-- LANE_PRBS; `line` and `partner` hold the bits received since the last command on this lane, on it and on its partner. -/
def execLanePrbs (r : Ref) (line partner : List Bool) (s : State) : Host.Outcome State Fault Refusal :=
  .next (runOp 0x0430 r s fun p s =>
    let l := fld p.params 0 1
    let pat := fld p.params 1 1
    let rate := fld p.params 2 1
    let act := fld p.params 3 1
    let x := laneOf s l
    if 23 < l then refuse p stBAD_PARAM 0x20 s
    else if !([7, 15, 23, 31].contains pat) then refuse p stBAD_PARAM 0x21 s
    else if rate < 1 ∨ topRate x.cfg.camram < rate then refuse p stBAD_PARAM 0x22 s
    else if 3 < act then refuse p stBAD_PARAM 0x23 s
    else if x.state ≠ .test then refuse p stDENIED noField s
    else
      let s1 := modLane l (prbsAct pat rate act) (testPair l line partner s)
      let y := laneOf s1 l
      ok p (le1 (b2n y.prbsLock) ++ List.replicate 3 0 ++ le8 y.bits.toNat ++ le8 y.errs) s1)

/-- LANE_INJECT (04 R225, R226). -/
def execLaneInject (r : Ref) (s : State) : Host.Outcome State Fault Refusal :=
  .next (runOp 0x0431 r s fun p s =>
    let l := fld p.params 0 1
    let mode := fld p.params 1 1
    let pexp := fld p.params 2 1
    let n := fld p.params 4 2
    let x := laneOf s l
    if 23 < l then refuse p stBAD_PARAM 0x20 s
    else if 3 < mode then refuse p stBAD_PARAM 0x21 s
    else if mode = 2 ∧ (pexp < 10 ∨ 40 < pexp) then refuse p stBAD_PARAM 0x22 s
    else if mode = 3 ∧ n = 0 then refuse p stBAD_PARAM 0x24 s
    else if (mode = 1 ∨ mode = 2) ∧ x.state ≠ .test then refuse p stDENIED noField s
    else if mode = 3 ∧ x.state ≠ .active then refuse p stDENIED noField s
    else ok p [] (modLane l (fun x => { x with
      inject := (mode, pexp, n), injectCount := 0, injectNext := mode == 1 && x.generating }) s))

/-- LANE_LOOPBACK (04 R228). -/
def execLaneLoopback (r : Ref) (s : State) : Host.Outcome State Fault Refusal :=
  .next (runOp 0x0432 r s fun p s =>
    let l := fld p.params 0 1
    let kind := fld p.params 1 1
    if 23 < l then refuse p stBAD_PARAM 0x20 s
    else if 2 < kind then refuse p stBAD_PARAM 0x21 s
    else if (laneOf s l).state ≠ .test then refuse p stDENIED noField s
    else if kind = 2 ∧ (laneOf s (loopPartner l)).state ≠ .test then refuse p stDENIED noField s
    else ok p [] (modLane l (fun x => { x with loopback := kind }) s))

/-! ## The eye scan (04 R231 to R235) -/

/-- A scan runs on the lane's quad. -/
def eyeBusy (s : State) (l : Nat) : Bool := (List.range 24).any fun n => n / 4 == l / 4 && (laneOf s n).eye.isSome

/-- First parameter of LANE_EYESCAN out of range (04 R232, R234). -/
def eyeBad (b : Bytes) : Option Nat :=
  let last (o : Nat) : Int := sfld b o 1 + (fld b (o + 1) 1 : Int) * ((fld b (o + 2) 1 : Int) - 1)
  if fld b 1 1 < 20 ∨ 40 < fld b 1 1 then some 0x21
  else if sfld b 2 1 < -32 ∨ 32 < sfld b 2 1 then some 0x22
  else if fld b 3 1 < 1 ∨ 64 < fld b 3 1 then some 0x23
  else if fld b 4 1 = 0 ∨ 32 < last 2 then some 0x24
  else if sfld b 5 1 < -127 then some 0x25
  else if fld b 6 1 < 1 ∨ 254 < fld b 6 1 then some 0x26
  else if fld b 7 1 = 0 ∨ 127 < last 5 then some 0x27
  else if 1016 < fld b 4 1 * fld b 7 1 then some noField
  else none

/-- LANE_EYESCAN: it starts on an ACTIVE lane; on another it ends at once, aborted with no point measured. -/
def execLaneEyescan (r : Ref) (s : State) : Host.Outcome State Fault Refusal :=
  .next (runOp 0x0440 r s fun p s =>
    let b := p.params
    let l := fld b 0 1
    let x := laneOf s l
    if 23 < l then refuse p stBAD_PARAM 0x20 s
    else if !x.cfg.camram then refuse p stBAD_PARAM 0x20 s
    else match eyeBad b with
      | some off => refuse p stBAD_PARAM off s
      | none =>
        if eyeBusy s l then refuse p stBUSY noField s
        else
          let e : EyeScan :=
            { ref := p.ref, bitsExp := fld b 1 1, phMin := BitVec.ofNat 8 (fld b 2 1), phStep := fld b 3 1, phCount := fld b 4 1
              vMin := BitVec.ofNat 8 (fld b 5 1), vStep := fld b 6 1, vCount := fld b 7 1, sposStart := spos s
              ctle := getI x.eq 0 0, vga := getI x.eq 1 0, dfe1 := getI x.eq 2 0, rate := x.rate, counts := [] }
          let s1 := modLane l (fun x => { x with eye := some e }) (commitP p.ref s)
          if x.state = .active then s1
          else endEye l true s1)

/-- More points of a scan are measured, each saturating at 0xFFFF_FFFE (04 Table 4.12). -/
def addPoints (counts : List Nat) (e : EyeScan) : EyeScan :=
  { e with counts := (e.counts ++ counts.map (min 0xFFFFFFFE)).take (eyePoints e) }

/-- EYESCAN_DONE: the next points are measured; the scan ends with its last (04 R232, R234). -/
def execEyescanDone (l : Nat) (counts : List Nat) (s : State) : Host.Outcome State Fault Refusal :=
  .next (
    if (laneOf s l).state = .active then
      let s1 := modLane l (fun x => { x with eye := x.eye.map (addPoints counts) }) s
      if (laneOf s1 l).eye.any fun e => e.counts.length == eyePoints e then endEye l false s1 else s1
    else s)

/-! ## Equalisation (04 R236 to R238) -/

/-- LOOP_PINNED of a lane parameter, at most once per second. -/
def eqPinned (l i : Nat) (upper : Bool) (s : State) : State :=
  if quiet (getI (laneOf s l).eqNotice i none) (sTicks 1) s.now then
    noticeUnit 0x0C01 (le2 (0x0400 + 0x20 * i + l) ++ le1 (b2n upper))
      (modLane l (fun x => { x with eqNotice := upd x.eqNotice i fun _ => some s.now }) s)
  else s

/-- One parameter moves to the proposed value, within its bounds. -/
def adaptOne (l i : Nat) (v : Int) (s : State) : State :=
  let x := laneOf s l
  let lo := getI x.eqMin i 0
  let hi := getI x.eqMax i 0
  let s1 := modLane l (fun x => { x with eq := upd x.eq i fun _ => clampI lo hi v, pinned := x.pinned || decide (v < lo) || decide (hi < v) }) s
  if v < lo then eqPinned l i false s1
  else if hi < v then eqPinned l i true s1
  else s1

/-- EQ_ADAPTATION. -/
def execEqAdaptation (l : Nat) (ctle vga dfe1 : Int) (t : Nat) (s : State) : Host.Outcome State Fault Refusal :=
  let s := s.at_ t
  .next (
    if (laneOf s l).enabled then
      adaptOne l 2 dfe1 (adaptOne l 1 vga (adaptOne l 0 ctle (modLane l (fun x => { x with pinned := false }) s)))
    else s)

/-- LANE_EQ_BOUNDS (04 R237); a parameter moved to a bound is at it, so PINNED is set (04 Table 4.11): minima and maxima in the order of the packet. -/
def execLaneEqBounds (r : Ref) (s : State) : Host.Outcome State Fault Refusal :=
  .next (runOp 0x0450 r s fun p s =>
    let b := p.params
    let l := fld b 0 1
    let lo : List Int := [(fld b 1 1 : Int), (fld b 3 1 : Int), sfld b 5 1]
    let hi : List Int := [(fld b 2 1 : Int), (fld b 4 1 : Int), sfld b 6 1]
    let range : List (Int × Int) := [(0, 31), (0, 63), (-32, 31)]
    let bad (i : Nat) : Option Nat :=
      let (rl, rh) := getI range i (0, 0)
      if getI lo i 0 < rl ∨ rh < getI lo i 0 then some (0x21 + 2 * i)
      else if getI hi i 0 < rl ∨ rh < getI hi i 0 ∨ getI hi i 0 < getI lo i 0 then some (0x22 + 2 * i)
      else none
    if 23 < l then refuse p stBAD_PARAM 0x20 s
    else match [0, 1, 2].findSome? bad with
      | some off => refuse p stBAD_PARAM off s
      | none => ok p [] (modLane l (fun x => { x with
          eqMin := lo, eqMax := hi, eq := x.eq.mapIdx fun i v => clampI (getI lo i 0) (getI hi i 0) v
          pinned := x.pinned || (List.range 3).any fun i =>
            decide (getI x.eq i 0 < getI lo i 0) || decide (getI hi i 0 < getI x.eq i 0) }) s))

/-! ## The remaining Lanes opcodes (15 Table 15.7) -/

def LaneState.code : LaneState → Nat
  | .disabled => 0
  | .detect => 1
  | .train => 2
  | .bitLock => 3
  | .blockLock => 4
  | .capExchange => 5
  | .active => 6
  | .test => 7
  | .capFault => 8
  | .retired => 9
  | .discover => 10
  | .resync => 11

/-- Rate code in use, 0 when none (04 Table 4.11): in TEST that of the test transmitter while a pattern runs; a CoaXPress lane in
DETECT receives at CXP-1 (Table 4.9). -/
def rateInUse (x : Lane) : Nat :=
  match x.state with
  | .disabled => 0
  | .retired => 0
  | .capFault => 0
  | .test => if x.prbsAction = 0 then 0 else x.prbsRate
  | .detect => if x.cfg.camram then 0 else 1
  | _ => x.rate

/-- LANE_STATUS (04 Table 4.11). -/
def laneStatusReg (s : State) (l : Nat) : Word :=
  let x := laneOf s l
  BitVec.ofNat 32 (x.state.code + 16 * b2n x.cfg.camram + 32 * (rateInUse x % 8) + 256 * b2n x.pinned + 512 * b2n (eyeBusy s l)) |||
    (x.flags &&& 0x3C00)

def eqBytes (x : Lane) : Bytes := x.eq.flatMap (leInt 1) ++ [0]

/-- LANE_STATUS, the opcode. -/
def execLaneStatus (r : Ref) (s : State) : Host.Outcome State Fault Refusal :=
  .next (runOp 0x0401 r s fun p s =>
    let l := fld p.params 0 1
    let x := laneOf s l
    if 23 < l then refuse p stBAD_PARAM 0x20 s
    else ok p (le4 (laneStatusReg s l).toNat ++ eqBytes x ++ le8 x.bits.toNat ++ le8 x.errs ++ x.ctr.flatMap fun w => le4 w.toNat) s)

/-- The channel is used by a held recipe admission: its view is one the recipe judges. -/
def channelHeld (s : State) (c : Nat) : Bool :=
  s.rcp.recipes.any fun r => recipeHeld s r.handle && (plnChan s c).view.any fun v => bit r.image.views v

/-- A VC of the lane is routed to a channel used by a held recipe (04 R182). -/
def laneUsed (s : State) (l : Nat) : Bool :=
  (List.range 32).any fun n => (laneOf s l).cfg.vc.contains (0x80 + n) && (takers s n).any (channelHeld s)

/-- Fields of LANE_CONFIG. -/
def laneCfgOf (b : Bytes) : LaneCfg :=
  { camram := fld b 1 1 == 1, rateMin := fld b 2 1, rateMax := fld b 3 1, group := fld b 4 1, tg := fld b 5 1
    crcLim := fld b 6 2, trigMax := fld b 8 4, vc := (List.range 64).map fun i => fld b (12 + i) 1
    sid := (List.range 16).map fun i => (fld b (76 + 2 * i) 1, fld b (77 + 2 * i) 1) }

/-- A VC-table entry that exists. -/
def vcOk (v : Nat) : Bool := v == 0 || v == 1 || (decide (0x80 ≤ v) && decide (v ≤ 0x9F))

/-- The lane would route to a channel of a view fed from another generator (05 R251). -/
def tgClash (s : State) (vc : List Nat) (tg : Nat) : Bool :=
  (List.range 32).any fun n => vc.contains (0x80 + n) && (takers s n).any fun c =>
    (plnChan s c).view.any fun v => (viewOf s v).configured && (viewOf s v).tg != tg

/-- First field of a LANE_CONFIG at fault (04 R184, R185; 05 R251). -/
def laneCfgBad (s : State) (b : Bytes) : Option Nat :=
  let c := laneCfgOf b
  if 23 < fld b 0 1 then some 0x20
  else if 1 < fld b 1 1 then some 0x21
  else if c.rateMin < 1 ∨ topRate c.camram < c.rateMin then some 0x22
  else if c.rateMax < c.rateMin ∨ topRate c.camram < c.rateMax then some 0x23
  else if !([1, 2, 4].contains c.group) then some 0x24
  else if 7 < c.tg then some 0x25
  else match c.vc.findIdx? fun v => !vcOk v with
    | some i => some (0x2C + i)
    | none => match c.sid.findIdx? fun e => e.1 != 0xFF && decide (63 < e.2) with
      | some i => some (0x6D + 2 * i)
      | none => if tgClash s c.vc c.tg then some 0x25 else none

/-- LANE_CONFIG (04 R181). -/
def execLaneConfig (r : Ref) (s : State) : Host.Outcome State Fault Refusal :=
  .next (runOp 0x0402 r s fun p s =>
    let b := p.params
    let l := fld b 0 1
    let c := laneCfgOf b
    let x := laneOf s l
    match laneCfgBad s b with
    | some off => refuse p stBAD_PARAM off s
    | none =>
      if !x.enabled then ok p [] (modLane l (fun x => { x with cfg := c, crcNext := none }) s)
      else if ({ c with crcLim := x.cfg.crcLim, trigMax := x.cfg.trigMax } : LaneCfg) ≠ x.cfg then refuse p stDENIED noField s
      else ok p [] (modLane l (fun x => { x with cfg := { x.cfg with trigMax := c.trigMax }, crcNext := some c.crcLim }) s))

/-- What a lane forgets when it is disabled (04 R212, R215). -/
def forgetLane (x : Lane) : Lane :=
  { x with cap := none, agreed := none, afterUpset := false, upsetInjected := false, lostLines := 0, cameraChanged := false
           bitExpiries := 0, prbs := 0, prbsAction := 0, prbsLock := false, injectNext := false, inject := (0, 0, 0), loopback := 0
           cfg := { x.cfg with crcLim := x.crcNext.getD x.cfg.crcLim }, crcNext := none }

/-- Take a lane out of service to DISABLED or TEST, with LANE_DOWN if it was enabled. -/
def stopLane (l : Nat) (dest : LaneState) (cause : Nat) (s : State) : State :=
  let was := (laneOf s l).enabled && (laneOf s l).state != .test
  let s1 := goLane l dest 0 (modLane l forgetLane (leaveActive l s))
  if was then noticeDown l cause s1 else s1

/-- LANE_ENABLE (04 R182, R223). A lane whose domain is off cannot be enabled. -/
def execLaneEnable (r : Ref) (s : State) : Host.Outcome State Fault Refusal :=
  .next (runOp 0x0403 r s fun p s =>
    let l := fld p.params 0 1
    let st := fld p.params 1 1
    let x := laneOf s l
    if 23 < l then refuse p stBAD_PARAM 0x20 s
    else if 2 < st then refuse p stBAD_PARAM 0x21 s
    else if x.state = .retired then refuse p stRETIRED 0x20 s
    else if st = 1 then
      if x.enabled && x.state != .test then ok p [] s
      else if !laneOn s l then refuse p stDENIED noField s
      else ok p [] (goDetect l (modLane l forgetLane s))
    else if x.enabled && laneUsed s l then refuse p stDENIED noField s
    else if st = 0 then ok p [] (if x.enabled then stopLane l .disabled 3 s else s)
    else if !laneOn s l || laneUsed s l then refuse p stDENIED noField s
    else ok p [] (if x.state = .test then s else stopLane l .test 3 s))

/-- LANE_UNRETIRE (04 R243; 12 R572; 15 R695). -/
def execLaneUnretire (r : Ref) (s : State) : Host.Outcome State Fault Refusal :=
  .next (runOp 0x0460 r s fun p s =>
    let l := fld p.params 0 1
    if 23 < l ∨ (laneOf s l).state ≠ .retired then refuse p stBAD_PARAM 0x20 s
    else
      let s1 := returned 1 l (wantRecord 3 (modLane l forgetLane s))
      ok p [] (if laneOn s1 l then goDetect l s1 else goLane l .disabled 0 s1))

/-- LANE_TRIGGER_CONFIG takes effect: the next firing is at the first new position at or after `from_` (04 R191, R192). -/
def applyTrigger (tg p f : Nat) (from_ : Int) (s : State) : State :=
  s.setLanes { s.lanes with tg := upd s.lanes.tg tg fun g =>
    { g with p := p, f := f, nextK := ceilI (from_ - f) (max 1 p), changed := true } }

/-- LANE_TRIGGER_CONFIG. -/
def execLaneTriggerConfig (r : Ref) (s : State) : Host.Outcome State Fault Refusal :=
  .next (runOp 0x0410 r s fun p s =>
    let tg := fld p.params 0 1
    let pitch := fld p.params 4 4
    let phase := fld p.params 8 4
    if 7 < tg then refuse p stBAD_PARAM 0x20 s
    else if pitch < 16 ∨ 2 ^ 20 < pitch then refuse p stBAD_PARAM 0x24 s
    else if pitch ≤ phase then refuse p stBAD_PARAM 0x28 s
    else if movingRefused p s then refuse p stBUSY noField s
    else
      let what := Reprog.trigger tg pitch phase
      if p.atOnce then
        done p stACCEPTED [] (noticeHolder p.principal 0x0203 (le2 0x0410)
          (applyTrigger tg pitch phase (posI s.pos.hwm + 1) (dropReprog what s)))
      else done p stACCEPTED [] (deferReprog what p.principal p.opcode s))

/-- Domain LANE0 or LANE1 is switched off: its lanes go to DISABLED without an upset (04 R245). -/
def domainOffLanes (ls : List Nat) (s : State) : State :=
  match ls with
  | [] => s
  | l :: r =>
    domainOffLanes r (if (laneOf s l).enabled then
      noticeDown l 2 (goLane l .disabled 0 (modLane l forgetLane (leaveActive l s))) else s)

end Sys2Proof.Machine
end

