-- ==== Sys2Proof/Machine/Receive.lean ====
section
/-! DEFINITION. Trigger generators and what the cameras send (chapter 04): TRIGGER_FIRE, TRIGGER_MESSAGE_SEND, and the packets
of both modes with their routing. -/

namespace Sys2Proof.Machine

/-! ## Triggers (04 R191 to R199) -/

/-- Shortest spacing of triggers to the lane's camera, in triggers per second; 0 is no limit (04 R194). -/
def trigRate (x : Lane) : Nat :=
  if x.cfg.camram then (match x.capability with | some c => c.maxLineRate | none => 0) else x.cfg.trigMax

/-- A trigger on the lane must be skipped (04 R194). -/
def trigSkipped (now : Nat) (x : Lane) : Bool :=
  (x.cfg.camram && x.waiting.isSome) ||
    (trigRate x != 0 && (match x.lastTrig with | some t => decide ((now - t) * trigRate x < sTicks 1) | none => false))

/-- LANE_TRIGLAT_CXP in ns (04 R198). -/
def cxpLatency : Nat := 4000

/-- Give the trigger to a lane: it waits for the uplink, or in CoaXPress mode is sent at once. -/
def giveTrigger (l : Nat) (t : SentTrigger) (s : State) : State :=
  let x := laneOf s l
  if x.cfg.camram then modLane l (fun x => { x with waiting := some (t, s.now), lastTrig := some s.now }) s
  else
    (modLane l (fun x => { x with
      lastTrig := some s.now, sent := (t :: x.sent).take 64
      cxp := (x.cxp.map fun c => { c with trigs := c.trigs ++ [t] }) }) s).emit (.cxpTrigger l cxpLatency)

/-- One lane at a firing of its generator; the lanes that were sent the trigger are collected. -/
def triggerLane (t : SentTrigger) (l : Nat) (a : List Nat × State) : List Nat × State :=
  let (got, s) := a
  let x := laneOf s l
  if x.state ≠ .active then
    (got, modLane l (fun x => { x with lostLines := if x.afterUpset then x.lostLines + 1 else x.lostLines }) s)
  else if trigSkipped s.now x then (got, modLane l (fun x => (x.bump cTRIGMISS).flag flTRIGMISS) s)
  else (l :: got, giveTrigger l t s)

def triggerLanes (t : SentTrigger) (ls : List Nat) (a : List Nat × State) : List Nat × State :=
  match ls with
  | [] => a
  | l :: r => triggerLanes t r (triggerLane t l a)

/-- First lanes of the groups that take their triggers from a generator. -/
def tgLanes (s : State) (tg : Nat) : List Nat :=
  (List.range 24).filter fun l => firstLane s l == l && (laneOf s l).cfg.tg == tg && (laneOf s l).enabled

/-- A recipe's blocks whose row starts at `p` or before take effect (11 R548). -/
def applyBlocks (p : Long) (r : Recipe) : Recipe :=
  let ready := r.blocks.filter fun b => !after b.1 p
  { r with blocks := r.blocks.filter (fun b => after b.1 p), block := (ready.reverse ++ r.block).take 16 }

/-- Conditioning blocks of the recipes that judge a view of the generator. -/
def applyCond (tg : Nat) (p : Long) (s : State) : State :=
  s.setRcp { s.rcp with recipes := (s.rcp.recipes.map fun r =>
    if (tgViews s tg).any fun v => bit r.image.views v then applyBlocks p r else r) }

/-- The firing at index k. -/
def fire (tg : Nat) (s : State) : State :=
  let g := getI s.lanes.tg tg TrigGen.reset
  let p := posL (trigPos g g.nextK)
  let t : SentTrigger := { spos := low32 p, scan := g.scan, k := g.nextK }
  let s1 := s.setLanes { s.lanes with tg := upd s.lanes.tg tg fun g =>
    { g with scan := g.scan + 1, nextK := g.nextK + 1, changed := false } }
  let s2 := applyCond tg p s1
  let (sent, s3) := triggerLanes t (tgLanes s2 tg) ([], s2)
  if imgOn s3 then
    openSlots ((tgViews s3 tg).flatMap (viewChans s3)) t.k t.spos t.scan sent g.changed s3
  else s3

/-- A change of the generator's P or F is due before its next position (04 R192). -/
def tgBlocked (s : State) (tg : Nat) : Bool :=
  let g := getI s.lanes.tg tg TrigGen.reset
  s.pos.pendingRp.any fun r => match r.what with
    | .trigger n _ _ => n == tg && !after r.boundary (posL (trigPos g g.nextK))
    | _ => false

/-- The generator's next position has been reached, and the unit is not behind (01 R46, R47). -/
def tgDue (s : State) (tg : Nat) : Bool :=
  decide (tg < 8) && s.pos.anchored && ctrlOn s && !behind s && !tgBlocked s tg &&
    (let g := getI s.lanes.tg tg TrigGen.reset; reached s (posL (trigPos g g.nextK)))

/-- TRIGGER_FIRE. -/
def execTriggerFire (tg : Nat) (s : State) : Host.Outcome State Fault Refusal :=
  .next (if tgDue s tg then fire tg s else s)

/-- FINE in units of 2.5 ns: 6.000 us less the time from the crossing to the end of the comma. -/
def fineOf (crossed commaEnd : Nat) : Nat := usTicks 6 - (commaEnd - crossed)

/-- The TRIGGER message starts at the first character boundary at or after the crossing that no message takes. -/
def sendTrigger (l : Nat) (t : SentTrigger) (crossed : Nat) (s : State) : State :=
  let x := laneOf s l
  let (q, busy) := drainTx l crossed x.txq x.busyUntil
  let st := charBoundary l (max crossed busy)
  let fine := fineOf crossed (st + charTicks)
  (modLane l (fun x => { x with
    waiting := none, txq := q, busyUntil := st + 17 * charTicks, sent := (t :: x.sent).take 64 }) (s.at_ st)).emit
      (.uplink l (uplinkMsg 1 (le4 t.spos.toNat ++ le4 t.scan.toNat ++ le2 fine)))

/-- TRIGGER_MESSAGE_SEND. -/
def execTriggerMessageSend (l : Nat) (s : State) : Host.Outcome State Fault Refusal :=
  .next (match (laneOf s l).waiting with
    | some (t, crossed) => if (laneOf s l).state = .active then sendTrigger l t crossed s else s
    | none => s)

/-! ## Camram packets (04 R188 to R190, R205 to R208, R226) -/

def unmapped (l : Nat) (s : State) : State := modLane l (Lane.bump cUNMAPPED) s

/-- LANE_CAM_EVENT with the first 32 bytes (04 R190). -/
def camEvent (l vc : Nat) (data : Bytes) (s : State) : State :=
  noticeUnit 0x0404 (le1 l ++ le1 vc ++ le2 data.length ++ data.take 32) s

/-- VC-table entry of a lane. -/
def vcOf (s : State) (l vc : Nat) : Nat := getI (laneOf s l).cfg.vc vc 0

/-- The trigger a stamp names: one of the last 64 sent to the camera (04 R207). -/
def findTrigger (s : State) (l : Nat) (sp scan : Word) : Option SentTrigger :=
  (laneOf s (firstLane s l)).sent.find? fun t => t.spos == sp && t.scan == scan

/-- The lane's camera announces the pixel DT (04 R208). -/
def announced (s : State) (l dt : Nat) : Bool :=
  match (laneOf s (firstLane s l)).capability with
  | some c => c.formats.getLsbD dt
  | none => match (laneOf s l).capability with
    | some c => c.formats.getLsbD dt
    | none => false

def isPixel (dt : Nat) : Bool := dt == 1 || dt == 2 || dt == 3

/-- A pixel packet: BADSTAMP, or its segment to the channel and its twins. -/
def pixelPacket (l : Nat) (p : CamPacket) (bad : Bool) (s : State) : State :=
  let v := vcOf s l p.vc
  let scan := BitVec.ofNat 32 (fld p.payload 0 4)
  let first := fld p.payload 4 2
  let count := fld p.payload 6 2
  let data := p.payload.drop 8
  let n := (List.range (count + 1)).foldl (fun m i => if dtBytes p.dt i ≤ data.length then i else m) 0
  if !announced s l p.dt || v < 0x80 then unmapped l s
  else match findTrigger s l p.spos scan with
    | none => modLane l (Lane.bump cBADSTAMP) s
    | some t =>
      deliverSegment (takers s (v - 0x80))
        { k := t.k, scan := t.scan, first := first, count := count, bad := bad
          samples := (List.range n).map fun i => sampleOf p.dt (rawPixel p.dt data i) } s

/-- A pixel packet of a lane is one of those in which LANE_INJECT MODE 3 inverts a bit: one in every N (04 R226). -/
def injectDue (x : Lane) : Bool := x.inject.1 == 3 && decide (x.inject.2.2 ≤ x.injectCount + 1)

/-- Count the pixel packets between two injections, and the injections (04 R226, R227). -/
def countInject (l : Nat) (s : State) : State :=
  modLane l (fun x =>
    if x.inject.1 ≠ 3 then x
    else if injectDue x then ({ x with injectCount := 0 } : Lane).bump cINJECTED
    else { x with injectCount := x.injectCount + 1 }) s

/-- Bit that an injection inverts, of `n` bits. -/
def injectAt (l n : Nat) (s : State) : Nat := Config.injectedBit l (getI (laneOf s l).ctr cINJECTED 0).toNat % max 1 n

/-- Invert bit `i` of a packet's words, after the deserialiser and before the CRC check (04 R226). -/
def flipBit (i : Nat) (l : List RxWord) : List RxWord := upd l (i / 32) fun r => { r with w := r.w ^^^ ((1 : Word) <<< (i % 32)) }

/-- Count a CRC failure; an injected one is no part of the window's growth (04 R205, R227, R239). -/
def countCrc (l : Nat) (injected : Bool) (s : State) : State :=
  modLane l (fun x => { (x.bump cCRCERR).flag flCRC with crcWindow := if injected then x.crcWindow else x.crcWindow + 1 }) s

/-- Route a packet by its VC and its data type (04 R188, R190, R208). An event and a control reply marked BAD are delivered like any
other: their notice and their reply have no field for the mark (log entry 54). -/
def routePacket (l : Nat) (p : CamPacket) (bad : Bool) (s : State) : State :=
  let v := vcOf s l p.vc
  if p.reserved ≠ 0 ∨ v = 0 then unmapped l s
  else if isPixel p.dt then pixelPacket l p bad s
  else if p.dt = 0x20 then if v = 1 then camEvent l p.vc p.payload s else unmapped l s
  else if p.dt = 0x21 then ctrlAnswer l (getI p.payload 0 0) (p.payload.drop 1) s
  else if p.dt = 0x3E ∧ p.vc = 0 then if capReserved p.payload then unmapped l s else s
  else unmapped l s

/-- A packet's words have been taken from the buffer: an injected error inverts one of their bits, and the CRC is checked (04 R205,
R226, R227). -/
def packetTaken (l : Nat) (w : List RxWord) (s : State) : State :=
  let p := readPacket w
  let inj := isPixel p.dt && injectDue (laneOf s l)
  let s1 := if isPixel p.dt then countInject l s else s
  let q := if inj then readPacket (flipBit (injectAt l (32 * w.length) s) w) else p
  let s2 := if q.crcGood then s1 else countCrc l (inj && p.crcGood) s1
  routePacket l q (q.bad || !q.crcGood) s2

/-- CAMRAM_PACKET_RECEIVED: the packet at the front of the input buffer. -/
def execCamramPacketReceived (l : Nat) (s : State) : Host.Outcome State Fault Refusal :=
  .next (
    if !inState s l true .active then s
    else match frontOf (laneOf s l) with
      | none => s
      | some w =>
        packetTaken l w (modLane l (fun x => { x with
          rx := x.rx.drop w.length, rxTail := min x.rxTail (x.rx.length - w.length) }) s))

/-! ## CoaXPress packets (04 R188, R190, R199) -/

/-- VC of a stream ID on a lane. -/
def streamVc (s : State) (l : Nat) (stream : Byte) : Option Nat :=
  if stream = 0xFF then none
  else ((laneOf s l).cfg.sid.find? fun e => e.1 == stream.toNat).map (·.2)

def modStream (l : Nat) (stream : Byte) (f : CxpStream → CxpStream) (s : State) : State :=
  modLane l (fun x => { x with cxp := (x.cxp.map fun c => if c.stream = stream then f c else c) }) s

/-- Close the slots of triggers that got no scan line: missing (04 R199). -/
def closeMissing (ts : List SentTrigger) (c : Channel) : Channel :=
  { c with slots := (c.slots.map fun x => if ts.any (fun t => t.k == x.k && t.scan == x.scan) then { x with closed := true } else x) }

def missEach (ts : List SentTrigger) (cs : List Nat) (s : State) : State :=
  match cs with
  | [] => s
  | c :: r => missEach ts r (modPlnChan c (closeMissing ts) s)

/-- An image header: the missing lines of the image before it, and pairing starts afresh. -/
def cxpHeader (l : Nat) (stream : Byte) (vc : Nat) (s : State) : State :=
  let f := firstLane s l
  let old := (laneOf s f).cxp.find? fun c => c.stream == stream
  let left := match old with | some c => c.trigs.drop c.lines | none => []
  let v := vcOf s l vc
  let s1 := if 0x80 ≤ v then missEach left (takers s (v - 0x80)) s else s
  modLane f (fun x => { x with
    cxp := (x.cxp.filter fun c => c.stream != stream) ++ [{ stream := stream, trigs := [], lines := 0 }] }) s1

/-- A piece of a scan line; one from pixel 0 on starts the next scan line, which takes the next trigger. -/
def cxpLine (l : Nat) (stream : Byte) (vc first format : Nat) (samples : List Nat) (crcGood : Bool) (s : State) : State :=
  let f := firstLane s l
  let x := laneOf s l
  let inj := injectDue x
  let at_ := injectAt l (samples.length * dtBits format) s
  let samples := if inj then upd samples (at_ / max 1 (dtBits format)) fun r => Nat.xor r (2 ^ (at_ % max 1 (dtBits format))) else samples
  let s0 := countInject l s
  let s1 := if crcGood && !inj then s0 else countCrc l (inj && crcGood) s0
  let crcGood := crcGood && !inj
  let v := vcOf s l vc
  if !isPixel format || v < 0x80 then unmapped l s1
  else
    let s2 := if first = 0 then modStream f stream (fun c => { c with lines := c.lines + 1 }) s1 else s1
    match (laneOf s2 f).cxp.find? fun c => c.stream == stream with
    | none => modLane l (Lane.bump cBADSTAMP) s2
    | some c =>
      match (if c.lines = 0 then none else c.trigs[c.lines - 1]?) with
      | none => modLane l (Lane.bump cBADSTAMP) s2
      | some t =>
        deliverSegment (takers s2 (v - 0x80))
          { k := t.k, scan := t.scan, first := first, count := samples.length, bad := !crcGood
            samples := samples.map fun r => sampleOf format (r % 2 ^ dtBits format) } s2

/-- A CoaXPress packet by the VC of its stream (04 R188, R190). -/
def cxpPacket (l : Nat) (p : CxpPacket) (s : State) : State :=
  match p with
  | .imageHeader stream _ => match streamVc s l stream with
    | none => unmapped l s
    | some vc => if vcOf s l vc < 0x80 then unmapped l s else cxpHeader l stream vc s
  | .scanLine stream first format samples good => match streamVc s l stream with
    | none => unmapped l s
    | some vc => cxpLine l stream vc first format samples good s
  | .event stream data => match streamVc s l stream with
    | none => unmapped l s
    | some vc => if vcOf s l vc = 1 then camEvent l vc data s else unmapped l s

/-- CXP_PACKET_RECEIVED: `full` says that the lane's input buffer has no room for the packet, which is then dropped whole and counted
(04 R189). -/
def execCxpPacketReceived (l : Nat) (p : CxpArrival) (s : State) : Host.Outcome State Fault Refusal :=
  .next (
    if !inState s l false .active then s
    else if p.full then modLane l (fun x => (x.bump cOVF).flag flOVF) s
    else cxpPacket l p.packet s)

end Sys2Proof.Machine
end

