-- ==== Sys2Proof/Machine/Planish.lean ====
section
/-! DEFINITION. PLANISH stages 3 to 8 (chapter 05): noise reduction, correction, replacement, stitching, normalisation,
statistics, tiles and their way to the benches and the sample cache. -/

namespace Sys2Proof.Machine

/-! ## Deferred image settings (05 R249, R250, R280) -/

def applyImages (l : List PendingReprog) (s : State) : State :=
  match l with
  | [] => s
  | r :: t => applyImages t (applyImage r.what s)

/-- The setting concerns view `v`. -/
def concernsView (s : State) (v : Nat) (what : Reprog) : Bool :=
  match what with
  | .plnFilter w _ _ _ _ _ _ _ _ _ => w == v
  | .plnLevel w _ _ _ => w == v
  | .cal c _ _ => (plnChan s c).view == some v
  | _ => false

/-- The changes that a scan line of view `v` at stamp `sp` is the first to meet. -/
def settleImages (v : Nat) (sp : Word) (s : State) : State :=
  let now (r : PendingReprog) := concernsView s v r.what && !after r.boundary (expand s sp)
  applyImages (s.pln.due.filter now) (s.setPln { s.pln with due := s.pln.due.filter fun r => !now r })

/-! ## Stages 3 to 5: one channel (05 R263, R267 to R271) -/

def pixelAt (l : List Pixel) (p : Int) : Option Pixel := if p < 0 then none else l[p.toNat]?

/-- Weight of the tap at distance `d`. -/
def tapWeight (k : Nat × Nat × Nat) (d : Int) : Nat :=
  if d = 0 then k.1 else if d.natAbs = 1 then k.2.1 else if d.natAbs = 2 then k.2.2 else 0

/-- The taps of pixel `p` that take part, with their weights (05 R268). -/
def tapsOf (k : Nat × Nat × Nat) (defects : List Nat) (l : List Pixel) (p : Nat) : List (Nat × Pixel) :=
  ([-2, -1, 0, 1, 2] : List Int).filterMap fun d =>
    match pixelAt l (p + d) with
    | some x => if x.conc || defects.contains ((p : Int) + d).toNat || tapWeight k d == 0 then none else some (tapWeight k d, x)
    | none => none

/-- Spatial filter of one pixel: the remaining taps scaled to a sum of 256; unchanged with none. -/
def spatial (k : Nat × Nat × Nat) (defects : List Nat) (l : List Pixel) (p : Nat) (x : Pixel) : Pixel :=
  let ts := tapsOf k defects l p
  let w := (ts.map (·.1)).sum
  if w = 0 then x
  else { x with
    value := (rnd 6 ((ts.map fun t => t.1 * t.2.value).sum : Nat) w).toNat
    sat := x.sat || ts.any fun t => t.2.sat }

/-- Temporal filter of one pixel: the output and the new state (05 R263, R269). A concealed pixel leaves the state. -/
def temporal (a gate maxGap : Nat) (st : Option (Nat × Int)) (x : Pixel) : Pixel × Option (Nat × Int) :=
  match st with
  | none => (x, if x.conc then none else some (x.value, 0))
  | some (sv, gap) =>
    let d : Int := (x.value : Int) - sv
    let y := if gate < d.natAbs then x.value else ((sv : Int) + d / (2 ^ a : Nat)).toNat
    if x.conc then ({ x with value := y }, some (sv, gap + 1))
    else if (maxGap : Int) < gap then (x, some (x.value, 0))
    else ({ x with value := y }, some (y, 0))

/-- Dark and flat-field correction of one pixel (05, stage 4). -/
def flatField (d g : Nat) (x : Pixel) : Pixel :=
  { x with value := (clampI 0 65535 (rnd 7 (((x.value : Int) - d) * g) 16384)).toNat }

/-- The nearest pixel outside the map within 4 columns, going by `step`. -/
def nearestGood (defects : List Nat) (l : List Pixel) (p : Nat) (step : Int) : Option Pixel :=
  ([1, 2, 3, 4] : List Int).findSome? fun i =>
    let q : Int := p + step * i
    if defects.contains q.toNat then none else pixelAt l q

/-- Replacement of a defect-map pixel; none where it must be concealed (05 R271). -/
def replaceDefect (defects : List Nat) (l : List Pixel) (p : Nat) (x : Pixel) : Option Pixel :=
  match nearestGood defects l p (-1), nearestGood defects l p 1 with
  | some a, some b => some { x with value := (rnd 8 (a.value + b.value) 2).toNat, repl := true, sat := x.sat || a.sat || b.sat, conc := a.conc || b.conc }
  | some a, none => some { x with value := a.value, repl := true, sat := x.sat || a.sat, conc := a.conc }
  | none, some b => some { x with value := b.value, repl := true, sat := x.sat || b.sat, conc := b.conc }
  | none, none => none

/-- Stage 5 of one pixel, with the method of one that is concealed as part of a cluster: its column has no undamaged value on a
scan line to which the map applies, so the last value from before the map is held, and without one the target taken (05 R261,
R271; log entry 58). -/
def stage5 (defects : List Nat) (target : Nat) (last : Option Last) (l : List Pixel) (p : Nat) (x : Pixel) : Pixel × Option Nat :=
  if !defects.contains p then (x, none)
  else match replaceDefect defects l p x with
    | some y => (y, none)
    | none => match last with
      | some a => ({ x with value := a.value, sat := x.sat || a.sat, conc := true }, some 1)
      | none => ({ x with value := target, conc := true }, some 2)

/-- The column's last value after stage 5 that neither stage 2 nor a cluster concealed. -/
def nextSettled (k : Int) (old : Option Last) (y : Pixel) (cluster : Option Nat) : Option Last :=
  if y.conc || cluster.isSome then old else some { k := k, value := y.value, sat := y.sat }

/-- Pixel words (05 Table 5.2). -/
def Pixel.word (x : Pixel) : Nat :=
  x.value % 65536 + 2 ^ 16 * b2n x.conc + 2 ^ 17 * b2n x.repl + 2 ^ 18 * b2n x.sat + 2 ^ 19 * b2n x.pad

def pixelBytes (l : List Pixel) : Bytes := l.flatMap fun x => le4 x.word

/-- Stages 3 to 5 of a channel's line: the pixels go on, the taps T1 and T2 and the cluster records are written. PLN_CONC counts
a pixel once, whether stage 2 or stage 5 concealed it (05 R295). -/
def stages35 (n : Nat) (v : View) (x : ChanLine) (s : State) : List Pixel × State :=
  let c := plnChan s n
  let l1 := x.pixels.mapIdx fun p px => spatial v.kernel c.defects x.pixels p px
  let t := l1.mapIdx fun p px => temporal v.tempA v.gate v.maxGap (getI c.temporal p none) px
  let l3 := t.map (·.1)
  let l4 := l3.mapIdx fun p px => flatField (getI c.dark p 0) (getI c.flat p 16384) px
  let r := l4.mapIdx fun p px => stage5 c.defects v.levelTarget (getI c.settled p none) l4 p px
  let l5 := r.map (·.1)
  let clusters := r.map fun y => y.2.map fun m => (5, m)
  let nconc := ((l4.zip r).filter fun y => !y.1.conc && y.2.2.isSome).length
  let s1 := tapRecord 1 n 0 x.spos x.scan 0 l3.length (pixelBytes l3) s
  let s2 := modPlnChan n (fun ch => { ch with
    temporal := t.map (·.2), conc := ch.conc + BitVec.ofNat 64 nconc
    settled := r.mapIdx fun p y => nextSettled x.k (getI c.settled p none) y.1 y.2 }) s1
  let s3 := settleRuns n (fun r => r.cause == 5) x.fresh (damageRanges 0 x.spos clusters) s2
  (l5, tapRecord 2 n 0 x.spos x.scan 0 l5.length (pixelBytes l5) s3)

/-! ## Stage 6: stitching (05 R272 to R275) -/

/-- First and last view column that a channel's pixels reach, in its own geometry. -/
def chanSpan (c : Channel) : Int × Int :=
  let o : Int := c.ofs * 2 ^ 24
  (ceilI (o + (c.shift * c.scale : Nat)) (2 ^ 24), (o + ((256 * ((c.width : Int) - 1) + c.shift) * (c.scale : Int))) / 2 ^ 24)

/-- Blend two pixels by weights `wa` and `wb`; the flags are the union of those of pixels with weight. -/
def blend (site : Nat) (a b : Pixel) (wa wb : Nat) : Pixel :=
  let f (p : Pixel → Bool) := (p a && wa != 0) || (p b && wb != 0)
  { value := (rnd site (a.value * wa + b.value * wb : Nat) (wa + wb)).toNat
    conc := f (·.conc), repl := f (·.repl), sat := f (·.sat), pad := false }

/-- The pixel of a channel's line at view column `x`, resampled by linear interpolation. -/
def resample (c : Channel) (l : List Pixel) (x : Nat) : Option Pixel :=
  let l := if c.flip then l.reverse else l
  let den : Nat := 256 * max 1 c.scale
  let num : Int := ((x : Int) - c.ofs) * 2 ^ 24 - (c.shift * c.scale : Nat)
  let p0 := num / (den : Int)
  let fr := (num % (den : Int)).toNat
  match pixelAt l p0 with
  | none => none
  | some a =>
    if fr = 0 then some a
    else match pixelAt l (p0 + 1) with
      | some b => some (blend 9 a b (den - fr) fr)
      | none => none

def padPixel : Pixel := { value := 0, conc := false, repl := false, sat := false, pad := true }

def flagged (p : Pixel) : Bool := p.conc || p.repl

/-- An overlap on columns `x0` to `x1`: left pixel, right pixel, at column `x` (05 R274). -/
def overlap (x0 x1 x : Int) (a b : Pixel) : Pixel :=
  if flagged a && !flagged b then b
  else if flagged b && !flagged a then a
  else
    let wb := (2 * (x - x0) + 1).toNat
    blend 12 a b ((2 * (x1 - x0 + 1)).toNat - wb) wb

/-- One view column from the channels that cover it, in order of their left edges. -/
def stitchColumn (ls : List (Channel × List Pixel)) (x : Nat) : Pixel :=
  let hits := ls.filterMap fun cl => (resample cl.1 cl.2 x).map fun p => (cl.1, p)
  match hits with
  | [] => padPixel
  | [(_, p)] => p
  | (c1, p1) :: (c2, p2) :: _ =>
    let a := chanSpan c1
    let b := chanSpan c2
    let x0 := max a.1 b.1
    let x1 := min a.2 b.2
    if a.1 ≤ b.1 then overlap x0 x1 x p1 p2 else overlap x0 x1 x p2 p1

def stitch (width : Nat) (ls : List (Channel × List Pixel)) : List Pixel := (List.range width).map (stitchColumn ls)

/-! ## Stage 7: normalisation (05 R276 to R280) -/

/-- A pixel that updates the profile and the auto-level mean. -/
def validPx (p : Pixel) : Bool := !(p.conc || p.repl || p.sat || p.pad)

/-- M[c] after a pixel: it starts at its first valid value. -/
def nextProfile (pb : Nat) (m : Option Nat) (p : Pixel) : Option Nat :=
  if !validPx p then m
  else match m with
    | none => some p.value
    | some m => some ((m : Int) + ((p.value : Int) - m) / (2 ^ pb : Nat)).toNat

/-- clamp(Mref / M, PMIN, PMAX) as a fraction, with the profile's sum and count of valid columns. -/
def profileGain (prange : Nat × Nat) (sum count : Nat) (m : Option Nat) : Nat × Nat :=
  let (num, den) := match m with
    | none => (1, 1)
    | some 0 => (Config.profileRatio sum count, 16384)
    | some m => (sum, count * m)
  let (lo, hi) := prange
  if num * 16384 < lo * den then (lo, 16384) else if hi * den < num * 16384 then (hi, 16384) else (num, den)

/-- Stage 7 of a view line: the pixels after it, the new profile, and the profile-flattened valid pixels. -/
def normalise (v : View) (l : List Pixel) : List Pixel × List (Option Nat) × List Nat :=
  let prof := l.mapIdx fun c p => nextProfile v.pb (getI v.profile c none) p
  let known := prof.filterMap id
  let gain := prof.map (profileGain v.prange known.sum known.length)
  let out := l.mapIdx fun c p =>
    let (n, d) := getI gain c (1, 1)
    if p.pad then p else { p with value := min 65535 (rnd 13 (p.value * n * v.g : Nat) (d * 4096)).toNat }
  let flat := (l.mapIdx fun c p => (c, p)).filterMap fun (c, p) =>
    let (n, d) := getI gain c (1, 1)
    if validPx p then some (rnd 14 (p.value * n : Nat) d).toNat else none
  (out, prof, flat)

/-! ## Statistics blocks (05 R287 to R289) -/

/-- MEAN, VAR, SAT and CONC of the pixels of one bin over a block. -/
def binBytes (bin : Nat) (ps : List Pixel) : Bytes :=
  let ok := (ps.filter fun p => !(p.conc || p.pad)).map (·.value)
  let n := ok.length
  let s1 := ok.sum
  let s2 := (ok.map fun v => v * v).sum
  let (mean, var) := if n = 0 then (Config.emptyBin 0 bin, Config.emptyBin 1 bin)
    else ((rnd 10 (16 * s1 : Nat) n).toNat, min 0xFFFFFFFF (rnd 11 (n * s2 - s1 * s1 : Nat) (16 * n * n)).toNat)
  le4 mean ++ le4 var ++ le4 (ps.filter (·.sat)).length ++ le4 (ps.filter (·.conc)).length

/-- The block record of a view's open block (05 Table 5.6). -/
def blockRecord (v : Nat) (s : State) : State :=
  let x := viewOf s v
  match x.statLines with
  | [] => s
  | l :: _ =>
    let nb := ceilDiv x.width (max 1 x.statBinW)
    let px (b : Nat) := x.statLines.flatMap fun y => (y.pixels.drop (b * x.statBinW)).take x.statBinW
    let all := x.statLines.flatMap (·.pixels)
    let hist (i : Nat) := (all.filter fun p => !(p.conc || p.pad) && p.value / 256 == i).length
    let body := leInt 4 (l.k / x.statBlock) ++ le4 x.statLines.length ++ le2 nb ++ le2 x.statBinW ++ le4 0 ++
      (List.range nb).flatMap (fun b => binBytes b (px b)) ++ (List.range 256).flatMap fun i => le4 (hist i)
    modView v (fun x => { x with statLines := [] }) (statWrite v 1 l.spos body s)

/-- A view line joins its scan block; a block ends with its last line, or where a line of another block follows. -/
def statLine (v : Nat) (fresh : Bool) (y : ViewLine) (s : State) : State :=
  let x := viewOf s v
  let blk : Int := max 1 x.statBlock
  let ends := match x.statLines with
    | [] => false
    | l :: _ => fresh || l.k / blk != y.k / blk
  let s1 := if ends then blockRecord v s else s
  let s2 := modView v (fun x => { x with statLines := x.statLines ++ [y] }) s1
  if (y.k + 1) / blk ≠ y.k / blk then blockRecord v s2 else s2

/-! ## SCAN_LINE_PROCESS (05 R250, R258, R264) -/

/-- Stage 2 is done for clean slots at index `k` that head their channel. -/
def passClean (k : Int) (ns : List Nat) (s : State) : State :=
  match ns with
  | [] => s
  | n :: r =>
    let c := plnChan s n
    passClean k r (match c.lines, c.slots with
      | [], x :: _ => if x.k = k ∧ !slotDamaged x then passSlot n s else s
      | _, _ => s)

/-- The channels' lines at index `k`, when every channel of the view has it next (05 R258). -/
def linesAt (s : State) (v : Nat) (k : Int) : Option (List (Nat × ChanLine)) :=
  let ns := viewChans s v
  if ns.isEmpty then none
  else
    let l := ns.filterMap fun n => match (plnChan s n).lines with
      | x :: _ => if x.k = k then some (n, x) else none
      | [] => none
    if l.length = ns.length then some l else none

/-- The view's channels run in replace mode. -/
def replaceView (s : State) (v : Nat) : Bool := (viewChans s v).any fun n => (plnChan s n).replace

/-- The open row takes the line: it is of the row, or no row is open; a replace-mode row takes the next good line. -/
def rowTakes (s : State) (v : Nat) (k : Int) (fresh : Bool) : Bool :=
  let x := viewOf s v
  match x.rowOpen with
  | none => true
  | some j => !fresh && (if replaceView s v then decide (x.rowLines.length < rowH s v) else k / (rowH s v : Int) == j)

def dropLines (l : List (Nat × ChanLine)) (s : State) : State :=
  match l with
  | [] => s
  | (n, _) :: r => dropLines r (modPlnChan n (fun c => { c with lines := c.lines.drop 1 }) s)

/-- Stages 3 to 5 on every channel of a view. -/
def allStages35 (v : View) (l : List (Nat × ChanLine)) (s : State) : List (Channel × List Pixel) × State :=
  match l with
  | [] => ([], s)
  | (n, x) :: r =>
    let (px, s1) := stages35 n v x s
    let (rest, s2) := allStages35 v r s1
    ((plnChan s n, px) :: rest, s2)

/-- A view scan line through stages 3 to 7. -/
def viewLine (v : Nat) (k : Int) (l : List (Nat × ChanLine)) (x : ChanLine) (s : State) : State :=
  let s0 := settleImages v x.spos s
  let vw := viewOf s0 v
  let (cs, s1) := allStages35 vw l s0
  let l6 := stitch vw.width cs
  let (l7, prof, flat) := normalise vw l6
  let y : ViewLine := { k := k, spos := x.spos, scan := x.scan, pixels := l7, overAdm := l.any (·.2.overAdm) }
  let s2 := tapRecord 4 v 0 x.spos x.scan 0 l7.length (pixelBytes l7)
    (tapRecord 3 v 0 x.spos x.scan 0 l6.length (pixelBytes l6) s1)
  let s3 := modView v (fun w => { w with
    profile := prof, levelSum := (w.levelSum.1 + flat.sum, w.levelSum.2 + flat.length)
    rowLines := w.rowLines ++ [y], rowOpen := some (w.rowOpen.getD (k / (rowH s v : Int))) }) s2
  statLine v x.fresh y s3

/-- A scan line that replacement skips leaves a gap of one scan line in every column's temporal state (05 R263). -/
def skipGap (l : List (Nat × ChanLine)) (s : State) : State :=
  match l with
  | [] => s
  | (n, _) :: r =>
    skipGap r (modPlnChan n (fun c => { c with temporal := c.temporal.map fun st => st.map fun (v, gap) => (v, gap + 1) }) s)

/-- Replacement skips the view scan line: it is counted, and the row that the next good lines fill is REPLACED (05 R264). -/
def skipLine (v : Nat) (l : List (Nat × ChanLine)) (s : State) : State :=
  let s1 := if l.any (·.2.fresh) then blockRecord v s else s
  modView v (fun w => { w with replaced := satInc w.replaced, rowReplaced := true }) (skipGap l s1)

def processLine (v : Nat) (k : Int) (l : List (Nat × ChanLine)) (s : State) : State :=
  match l with
  | [] => s
  | (_, x) :: _ =>
    if !rowTakes s v k (l.any (·.2.fresh)) then s
    else
      let s1 := dropLines l s
      if replaceView s v && l.any (·.2.damaged) then skipLine v l s1
      else viewLine v k l x s1

/-- SCAN_LINE_PROCESS. -/
def execScanLineProcess (v : Nat) (k : Int) (s : State) : Host.Outcome State Fault Refusal :=
  .next (
    if !imgOn s || !(viewOf s v).configured then s
    else
      let s1 := passClean k (viewChans s v) s
      match linesAt s1 v k with
      | some l => processLine v k l s1
      | none => s)

/-- SLOT_TIMEOUT: 30 us after the crossing an open slot closes (05 R254). -/
def execSlotTimeout (c : Nat) (k : Int) (s : State) : Host.Outcome State Fault Refusal :=
  .next (match (plnChan s c).slots.find? fun x => x.k == k && !x.closed with
    | none => s
    | some x =>
      modPlnChan c (fun ch => { ch with slots := (ch.slots.map fun y => if y = x then { y with closed := true } else y) })
        (s.at_ (slotLimit x)))

/-- SCAN_LINE_CONCEAL: the pixels of the line's buffer that a detected upset has corrupted are damaged (05 R257), and stage 2 is
done on a channel's oldest scan line (05 R261, R262). -/
def execScanLineConceal (c : Nat) (q : UpsetLine) (s : State) : Host.Outcome State Fault Refusal :=
  .next (
    if !imgOn s then s
    else
      let s1 := upsetSlot c q.k q.pixels s
      match (plnChan s1 c).slots with
      | x :: _ => if x.k = q.k then passSlot c s1 else s1
      | [] => s1)

/-! ## Tiles (05, "Tiles"; R281 to R286) -/

/-- BF16 of VALUE / 16, to nearest even. -/
def bf16Of (v : Nat) : Nat :=
  if v = 0 then 0
  else
    let e := Nat.log2 v
    let m := if e ≤ 7 then v * 2 ^ (7 - e) else rndEven v (2 ^ (e - 7))
    (e + 122) * 128 + m

/-- One element in the tile format: 1 U8, 2 U12, 6 BF16. -/
def elementOf (fmt v : Nat) : Nat :=
  if fmt = 1 then min 255 (rndNear 15 v 256) else if fmt = 2 then min 4095 (rndNear 16 v 16) else bf16Of v

/-- Line `i` of the open row: by its index, or in replace mode in order. -/
def rowLine (s : State) (v : Nat) (j : Int) (i : Nat) : Option ViewLine :=
  let x := viewOf s v
  if replaceView s v then x.rowLines[i]? else x.rowLines.find? fun y => y.k == j * (rowH s v : Int) + i

/-- Pixels of a tile line; columns beyond the view are PAD (05 R282). -/
def tileLine (col w : Nat) (y : Option ViewLine) : List Pixel :=
  match y with
  | none => List.replicate w padPixel
  | some y => (List.range w).map fun i => getI y.pixels (col * w + i) padPixel

/-- LFLAGS of a tile line (05 Table 5.3). -/
def lineFlags (l : List Pixel) : Nat :=
  let live := l.filter fun p => !p.pad
  b2n (l.any (·.conc)) + 2 * b2n (!live.isEmpty && live.all (·.conc)) + 4 * b2n (l.any (·.sat)) + 8 * b2n (l.any (·.repl))

/-- The block in force for a row whose first scan line is at `p` (11 R548). -/
def blockAt (r : Recipe) (p : Long) : List Nat :=
  ((r.block.find? fun b => !after b.1 p).map (·.2)).getD (List.replicate r.image.condN 0x0101)

/-- The finished tile of the open row at a column. -/
def buildTile (s : State) (v : Nat) (j : Int) (col : Nat) : Tile :=
  let x := viewOf s v
  let ls := (List.range (rowH s v)).map fun i => rowLine s v j i
  let px := ls.map (tileLine col x.tileW)
  let all := px.flatten
  let cnt (f : Pixel → Bool) := (all.filter f).length
  let spos0 := (x.rowLines.head?.map (·.spos)).getD 0
  let spos1 := (x.rowLines.getLast?.map (·.spos)).getD 0
  let oa := ls.any fun y => y.any (·.overAdm)
  let co := decide (x.concLimit * (x.tileW * rowH s v - cnt (·.pad)) < cnt (·.conc) * 1000)
  let part := ls.any (·.isNone) || decide (x.width < (col + 1) * x.tileW)
  { view := v, format := x.tileFmt, tflags := b2n co + 2 * b2n x.rowReplaced + 4 * b2n part + 8 * b2n oa, col := col
    tileW := x.tileW, row := j, tileH := rowH s v, holdReason := b2n co, sposFirst := spos0, sposLast := spos1
    concPix := cnt (·.conc), satPix := cnt (·.sat), replPix := cnt (·.repl), padPix := cnt (·.pad)
    lflags := px.map lineFlags, data := all.map fun p => elementOf x.tileFmt p.value, cond := [] }

/-- The tile as placed in SHEET (05 Table 5.3). -/
def Tile.bytes (t : Tile) : Bytes :=
  padTo (prefixLen t.tileH)
    (le1 t.view ++ le1 t.format ++ le2 t.tflags ++ le2 t.col ++ le2 t.tileW ++ leInt 8 t.row ++ le2 t.tileH ++ le2 t.holdReason ++
      le4 t.sposFirst.toNat ++ le4 t.sposLast.toNat ++ le4 t.concPix ++ le4 t.satPix ++ le4 t.replPix ++ le4 t.padPix ++
      List.replicate 20 0 ++ t.lflags.flatMap le1) ++
    t.data.flatMap (leBytes (elementBytes t.format))

/-! ## Where tiles go (06 R320, R341, R343; 02 R121; 11 R533, R552) -/

/-- Generation of the bench's admission. -/
def benchFence (s : State) (b : Nat) : Word := ((findAdm s (benchOf s b).handle).map (·.fence)).getD 0

/-- One more tile given HOLD in the recovery under way (06 R341, R343, Table 6.16). -/
def countArrival (b : Nat) (s : State) : State :=
  match s.fab.chipLoss with
  | some (c, n, i) => s.setFab { s.fab with chipLoss := some (c, n + 1, i) }
  | none => modBench b (fun x => { x with resetting := x.resetting.map fun (k, c, n, i) => (k, c, n + 1, i) }) s

/-- A tile arrives at a bench. -/
def enqueueTile (b : Nat) (t : Tile) (s : State) : State :=
  let x := benchOf s b
  match x.state with
  | .resetting => countArrival b (giveHold b t (if s.fab.chipLoss.isSome then 0x11 else 0x10) (benchFence s b) s)
  | .free | .unadmitted => giveHold b t 0x14 (benchFence s b) s
  | _ =>
    if 1024 ≤ x.queue.length then giveHold b t 0x13 (benchFence s b) s
    else modBench b (fun x => { x with queue := x.queue ++ [t] }) s

/-- The row overlaps the parts that the recipe judges (11 R532, R533). -/
def rowOfRecipe (s : State) (r : Recipe) (v : Nat) (j : Int) : Bool :=
  let g := tgOf s v
  let h : Int := rowH s v
  let k0 := ceilI (posI r.activeFrom + viewOfs r.image v - g.f) (max 1 g.p)
  let fromOk := decide (k0 / h ≤ j)
  let toOk := match r.endAt with
    | none => true
    | some e =>
      if r.image.model = 0 then decide (j ≤ (ceilI (posI e + viewOfs r.image v - g.f) (max 1 g.p) - 1) / h)
      else s.hm.parts.any fun p => p.recipe == r.handle && !p.issued &&
        (match rowsOf s r.image v (posI p.start) (partEnd r.image p) with
         | some (a, b) => decide (a ≤ j) && decide (j ≤ b)
         | none => false)
  bit r.image.views v && judging r && recipeHeld s r.handle && fromOk && toOk

/-- Give the tile to the recipe's bench for its column, with the block of its row; a withheld tile gives HOLD. -/
def toRecipe (t : Tile) (rowPos : Long) (r : Recipe) (s : State) : State :=
  if bit t.tflags 3 then foldHold r.handle t 0x22 s
  else match r.image.routes.find? fun e => e.view == t.view && decide (e.colFirst ≤ t.col) && decide (t.col ≤ e.colLast) with
    | none => s
    | some e => enqueueTile e.bench { t with cond := blockAt r rowPos } s

def toRecipes (t : Tile) (rowPos : Long) (rs : List Recipe) (s : State) : State :=
  match rs with
  | [] => s
  | r :: rest => toRecipes t rowPos rest (toRecipe t rowPos r s)

/-! ## The sample cache (11 R550 to R552) -/

/-- Oldest of the entries that `f` picks, by index. -/
def oldestEntry (l : List CacheEntry) (f : CacheEntry → Bool) : Option Nat :=
  let c := (l.mapIdx fun i e => (i, e)).filter fun ie => f ie.2
  (c.foldl (fun m ie => match m with
    | none => some ie
    | some b => if ie.2.captureSeq < b.2.captureSeq then some ie else some b) none).map (·.1)

/-- The entry a capture takes (11 R552). -/
def captureEntry (l : List CacheEntry) : Option Nat :=
  ((l.findIdx? fun e => e.state == 0).or (oldestEntry l fun e => e.state == 1 && !e.lock)).or
    (oldestEntry l fun e => e.state == 2 && !e.lock)

/-- TMP_CAPDROP is counter 5. -/
def bumpRcp (i : Nat) (s : State) : State := s.setRcp { s.rcp with ctr := bumpSat s.rcp.ctr i }

/-- Capture a tile of the source view whose row and column are sampled. -/
def capture (t : Tile) (s : State) : State :=
  match s.rcp.cacheCfg with
  | none => s
  | some c =>
    if !c.capturing || c.view ≠ t.view || t.row % (max 1 c.stride : Int) ≠ 0 || !c.colMask.getLsbD t.col then s
    else match captureEntry s.rcp.cache with
      | none => bumpRcp 5 s
      | some i =>
        let e : CacheEntry := { state := 1, lock := false, label := 0, nextLabel := none, captureSeq := s.rcp.captureSeq
                                first := expand s t.sposFirst, tile := some t }
        let s1 := writeCacheHeader i (s.setRcp { s.rcp with
          cache := upd s.rcp.cache i fun _ => e, captureSeq := s.rcp.captureSeq + 1 })
        match objOf s1 c.obj with
        | some o => if o.lost then s1 else unitWrite (o.addr + i * c.entry + 64) t.bytes s1
        | none => s1

/-! ## TILE_PLACE (05 R259, R260, R283) -/

/-- Nothing more of the old numbering is to come for the view: its next lines are the first after a change (05 R283). -/
def rowCut (s : State) (v : Nat) : Bool :=
  (viewChans s v).all fun n =>
    let c := plnChan s n
    match c.lines, c.slots with
    | x :: _, _ => x.fresh
    | [], x :: _ => x.fresh
    | [], [] => (tgOf s v).changed

/-- The open row is finished. -/
def rowDone (s : State) (v : Nat) (j : Int) : Bool :=
  let x := viewOf s v
  let full := if replaceView s v then decide (rowH s v ≤ x.rowLines.length)
    else x.rowLines.any fun y => y.k + 1 == (j + 1) * (rowH s v : Int)
  full || rowCut s v

/-- Position of the row's first scan line. -/
def rowPosOf (s : State) (v : Nat) : Long := expand s (((viewOf s v).rowLines.head?.map (·.spos)).getD 0)

/-- Scan number of the row's first scan line. -/
def rowScanOf (s : State) (v : Nat) : Word := ((viewOf s v).rowLines.head?.map (·.scan)).getD 0

/-- After its last column the row closes. -/
def closeRow (v : Nat) (s : State) : State :=
  if (viewOf s v).placed.length < tileCols s v then s
  else modView v (fun x => { x with rowLines := [], rowOpen := none, rowReplaced := false, placed := [] }) s

/-- The tile is placed and goes to its recipes, the sample cache and the taps. A tile flagged OVER_ADM is counted as withheld
once, whether or not a recipe would have taken it, and still enters the sample cache: the spec withholds it from verdicts (02
R121, R122, 05 R286) and says nothing of either (DESIGN CHOICE, log entry 119). SCAN in a T5 record is that of the tile's first
scan line, as its SPOS is (05 Table 5.7; DEDUCED, log entry 58). -/
def placeTile (v : Nat) (j : Int) (col : Nat) (s : State) : State :=
  let t := buildTile s v j col
  let p := rowPosOf s v
  let s1 := modView v (fun x => { x with placed := x.placed ++ [col] }) s
  let s2 := if bit t.tflags 3 then s1.setLed { s1.led with overTiles := satInc s1.led.overTiles } else s1
  let s3 := toRecipes t p (s2.rcp.recipes.filter fun r => rowOfRecipe s2 r v j) s2
  let s4 := tapRecord 5 v t.tflags t.sposFirst (rowScanOf s v) (col * t.tileW) t.tileW t.bytes (capture t s3)
  closeRow v s4

/-- TILE_PLACE. -/
def execTilePlace (v : Nat) (j : Int) (col : Nat) (s : State) : Host.Outcome State Fault Refusal :=
  let x := viewOf s v
  .next (
    if imgOn s && x.rowOpen == some j && rowDone s v j && decide (col < tileCols s v) && !x.placed.contains col then
      placeTile v j col s
    else s)

end Sys2Proof.Machine
end

