-- ==== Sys2Proof/Machine/Benches.lean ====
section
/-! DEFINITION. Benches (chapter 06): certificates, building, rebuilding, re-admitting, releasing and resetting a bench, and the
Fabric group's opcodes. -/

namespace Sys2Proof.Machine

/-! ## Certificates (02 R91 to R95, Tables 2.2 and 2.4) -/

/-- Sum of eight 32-bit values. -/
def sum8 (b : Bytes) (off : Nat) : Nat := ((List.range 8).map fun i => fld b (off + 4 * i) 4).sum

def certOf (b : Bytes) : Cert :=
  { certId := BitVec.ofNat 64 (fld b 8 8), digest := (b.drop 0x10).take 32, notAfter := fld b 0x34 4, groups := fld b 0x38 1
    quads := fld b 0x39 1, minStakes := fld b 0x3A 2, tileW := fld b 0x3C 2, tileH := fld b 0x3E 2, cTile := fld b 0x40 4
    eTile := fld b 0x44 4, ingotBytes := sum8 b 0x48, sheetBytes := sum8 b 0x68, foilFoot := fld b 0x88 4
    sheetFoot := fld b 0x8C 4, vslots := fld b 0x90 2, inFormat := fld b 0x92 1, temper := bit (fld b 0x93 1) 0
    keyId := BitVec.ofNat 64 (fld b 0x94 8), raw := b }

/-- A sequence number after another, modulo 2^32 (00 R7). -/
def seqAfter (a b : Word) : Bool := decide (0 < (a - b).toInt)

/-- The key bundle in force: the copy with the later BUNDLE_SEQ (14 R661). -/
def bundleInForce (s : State) : Option Bundle :=
  s.boot.keys.foldl (fun m x => match m, x with
    | none, y => y
    | some a, some b => if seqAfter b.seq a.seq then some b else some a
    | m, none => m) none

/-- Key of USAGE 1 that a KEY_ID names. -/
def certKey (s : State) (id : Long) : Option Bytes :=
  match bundleInForce s with
  | none => none
  | some b => (b.entries.find? fun e => e.keyId == id && e.usage == 1).map (·.key)

/-- Check 0x0001. -/
def certForm (b : Bytes) : Bool :=
  fld b 0 4 == 0x4356594E && fld b 4 2 == 1 && fld b 6 2 == 256 && allZero ((b.drop 0x9C).take 36) && decide (fld b 0x93 1 < 2)

/-- The bench's groups and recipe against its certificate: checks 0x0007 to 0x000B. -/
def certShape (s : State) (c : Cert) (groups : Word) (recipe : Option RecipeImage) : Option Nat :=
  if c.groups ≠ ((List.range 32).filter fun g => groups.getLsbD g).length ∨ c.quads ≠ (quadsOf groups).length then some 7
  else if (liveStakes s groups).length < c.minStakes then some 8
  else if recipe.any fun im => c.tileW != im.tileW || c.tileH != im.tileH then some 9
  else if recipe.any fun im => c.inFormat != im.tileFmt then some 10
  else if c.temper != recipe.isNone then some 11
  else none

/-- The first failing check of Table 2.4, for a bench of the given image, groups and recipe. -/
def certCheck (s : State) (b image : Bytes) (groups : Word) (recipe : Option RecipeImage) : Option Nat :=
  let c := certOf b
  if !certForm b then some 1
  else match certKey s c.keyId with
    | none => some 2
    | some k =>
      if !edVerify k (sha256 (b.take 0xC0)) ((b.drop 0xC0).take 64) then some 3
      else if c.notAfter ≠ 0 ∧ s.boot.rtc.isNone then some 4
      else if c.notAfter ≠ 0 ∧ c.notAfter < rtcSeconds s then some 5
      else if c.digest ≠ sha256 image then some 6
      else certShape s c groups recipe

/-! ## States of a bench -/

/-- State a bench goes to from LOADING, RESETTING or re-admission: ARMED while its recipe is active (06 Table 6.4, 11 Table
11.5). -/
def restState (s : State) (x : Bench) : BenchState :=
  match findRecipe s x.recipe with
  | some r => if judging r && !x.temper then .armed else .built
  | none => .built

def benchHandleFence (s : State) (b : Nat) : Bytes := le4 (benchOf s b).handle ++ le4 (benchFence s b).toNat

/-- Release the bench by its admission, or without one when it is UNADMITTED (06 R316, Table 6.4). -/
def releaseBench (b : Nat) (s : State) : State :=
  match findAdm s (benchOf s b).handle with
  | some a => if a.kind = .bench ∧ a.object = b then release a s else freeBench b s
  | none => freeBench b s

/-- Releases that waited for LOADING or RESETTING to end (06 R316). -/
def pendingReleases (b : Nat) (forced : Bool) (l : List Ref) (s : State) : State :=
  let s1 := cancelExpired l s
  if forced then refuseGone l (freeBench b s1)
  else match l.filterMap fun r => findP r s1 with
    | [] => s1
    | p :: rest => refuseGone (rest.map (·.ref)) (ok p [] (releaseBench b s1))

/-- The reply of the build that loaded the bench (06 R310). -/
def buildReply (b : Nat) (s : State) : State :=
  match (benchOf s b).loadRef.bind fun r => findP r s with
  | some p => doneLater p stOK (benchHandleFence s b) (modBench b (fun x => { x with loadRef := none }) s)
  | none => s

/-- LOADING or RESETTING of a bench ends: its stakes have been reset, and runs that were cut off have left them. -/
def endChange (b : Nat) (s : State) : State :=
  let x := benchOf s b
  let s1 := modBench b (fun y => { y with
    state := if x.back = .unadmitted then .unadmitted else restState s x, resetting := none, releaseRefs := []
    loads := false, source := [], running := y.running.map goneRun }) s
  pendingReleases b x.releasing x.releaseRefs (buildReply b s1)

/-! ## BENCH_BUILD (06 R308 to R312) -/

/-- Bytes of INGOT that a packet names, or the refusal naming the field; `poisoned` says that they were delivered poisoned (07
R360, R386, R391; 15 R696). -/
def ingotBytes (p : Packet) (a n off : Nat) (poisoned : Bool) (s : State) : Sum (Half × Nat) Bytes :=
  if !inIngot a then .inl (stBAD_PARAM, off)
  else match unitPlace s p.tenant a n false with
    | .inl st => .inl (st, off)
    | .inr q => if poisoned || (poisonAt s q n).isSome then .inl (stINTERNAL, noField) else .inr (readPlace s q n)

/-- Image and certificate of a build or rebuild, whose offsets in the packet are given. -/
def readImage (p : Packet) (offImg offLen offCert : Nat) (poisoned : Bool) (s : State) : Sum (Half × Nat) (Bytes × Bytes) :=
  match ingotBytes p (fld p.params (offImg - 0x20) 8) (fld p.params (offLen - 0x20) 4) offImg poisoned s with
  | .inl e => .inl e
  | .inr image =>
    if badPairs image then .inl (stBAD_PARAM, offImg)
    else match ingotBytes p (fld p.params (offCert - 0x20) 8) 256 offCert false s with
      | .inl e => .inl e
      | .inr cert => .inr (image, cert)

/-- Where the image and the certificate of a build or rebuild lie (07 R359). -/
def sourceOfBuild (p : Packet) (offImg offLen offCert : Nat) : List (Nat × Nat) :=
  [(fld p.params (offImg - 0x20) 8, fld p.params (offLen - 0x20) 4), (fld p.params (offCert - 0x20) 8, 256)]

/-- The groups belong to some bench. -/
def groupsTaken (s : State) (groups : Word) : Bool := s.fab.bench.any fun x => x.groups &&& groups != 0

/-- Recipe that a build names: the TEMPER bench names none (02 R102, 06 R554). -/
def buildRecipe (p : Packet) (h : Nat) (s : State) : Sum (Half × Nat) (Option RecipeImage) :=
  if h = 0 then
    if s.fab.bench.any (·.temper) then .inl (stDENIED, noField)
    else if p.cls ≠ 7 then .inl (stBAD_PARAM, 0x06)
    else .inr none
  else if !recipeHeld s h then .inl (stBAD_PARAM, 0x28)
  else match findRecipe s h with
    | none => .inl (stBAD_PARAM, 0x28)
    | some r => if !mayUse p r.tenant then .inl (stDENIED, noField) else .inr (some r.image)

/-- Steps 1 and 2 of R309, and the conditions of R102, R348 and R554. -/
def buildForm (p : Packet) (s : State) : Sum (Half × Nat) (Option RecipeImage) :=
  let d := p.params
  let groups : Word := BitVec.ofNat 32 (fld d 4 4)
  if 15 < fld d 0 1 then .inl (stBAD_PARAM, 0x20)
  else if s.fab.chipLoss.isSome then .inl (stBUSY, noField)
  else if (benchOf s (fld d 0 1)).state ≠ .free ∨ groupsTaken s groups then .inl (stDENIED, noField)
  else if groups = 0 then .inl (stBAD_PARAM, 0x24)
  else if fld d 12 4 % 65536 ≠ 0 then .inl (stBAD_PARAM, 0x2C)
  else buildRecipe p (fld d 8 4) s

/-- The refusal of step 4 of R309. -/
def sheetShort (b cls share free : Nat) : Bytes :=
  budgetPayload [{ budget := 3, inst := b, cls := cls, cause := 0, demand := share, free := free }]

/-- The bench as it will be built. -/
def builtBench (p : Packet) (image cert : Bytes) (old : Bench) : Bench :=
  let d := p.params
  { old with
    state := .loading, groups := BitVec.ofNat 32 (fld d 4 4), recipe := fld d 8 4, temper := fld d 8 4 == 0
    tenant := p.tenant, share := fld d 12 4, image := image, cert := some (certOf cert), slots := [[], []], slot := 0
    prevSlot := 0, back := .built, loads := true, loadRef := some p.ref, source := sourceOfBuild p 0x30 0x38 0x40 }

def benchRequest (b cls tenant extra : Nat) (x : Bench) (s : State) : Request :=
  { kind := .bench, cls := cls, tenant := tenant, demands := benchDemands s b x cls (vEff s.led.vadm) extra, object := b
    vDecl := 0, recipe := x.recipe }

/-- The copies of the image and of both slots are put into their channels (06 R336, 07 R392). -/
def placeCopies (b : Nat) (s : State) : State := placeCopy b 2 (placeCopy b 1 (placeCopy b 0 s))

/-- Steps 4 and 5 of R309; a supply warning refuses a request of class 6 or 7 before either (02 R116). -/
def buildAdmit (p : Packet) (pick : Nat) (image cert : Bytes) (s : State) : State :=
  let b := fld p.params 0 1
  let share := fld p.params 12 4
  let s0 := makeRoom (s.draw.objs.length + 1) share s
  if !(supplyShorts s p.cls).isEmpty then
    refuseWith p stREFUSED_BUDGET (budgetPayload (supplyShorts s p.cls)) (countRefusal s)
  else if poolFree s0 < share then
    refuseWith p stREFUSED_BUDGET (sheetShort b p.cls share (freeSheet s)) (countRefusal s)
  else
    let s1 := modBench b (builtBench p image cert) s0
    let h := freshHandle s pick fun _ => true
    let r := decideAdm (benchRequest b p.cls p.tenant 0 (benchOf s1 b) s1) h s1
    match r.payload with
    | some e => refuseWith p stREFUSED_BUDGET e (countRefusal s)
    | none => commitP p.ref (placeCopies b (modBench b (fun x => { x with handle := h }) r.state))

/-- BENCH_BUILD. Its reply waits for BENCH_LOAD_DONE (06 R310). -/
def execBenchBuild (r : LoadRef) (pick : Nat) (s : State) : Host.Outcome State Fault Refusal :=
  .next (runOp 0x0602 r.ref s fun p s =>
    match buildForm p s with
    | .inl (st, off) => refuse p st off s
    | .inr im => match readImage p 0x30 0x38 0x40 r.poisoned s with
      | .inl (st, off) => refuse p st off s
      | .inr (image, cert) => match certCheck s cert image (BitVec.ofNat 32 (fld p.params 4 4)) im with
        | some c => refuseWith p stREFUSED_CERT (le2 c) s
        | none => buildAdmit p pick image cert s)

/-- BENCH_LOAD_DONE: image and slots are loaded, at most 200 us after the commit (06 R310). -/
def execBenchLoadDone (b : Nat) (s : State) : Host.Outcome State Fault Refusal :=
  .next (
    if (benchOf s b).state = .loading ∧ s.fab.chipLoss.isNone then endChange b s
    else if s.fab.chipLoss.isNone then modBench b (fun x => { x with loads := false, source := [] }) s
    else s)

/-! ## BENCH_REBUILD and BENCH_READMIT (06 R313 to R317) -/

/-- The bench a packet names at 0x20: one that exists, and that the tenant may use (15 R693; 12 R589). -/
def benchTarget (p : Packet) (s : State) : Option (Half × Nat) :=
  let x := benchOf s (fld p.params 0 1)
  if 15 < fld p.params 0 1 ∨ x.state = .free then some (stBAD_PARAM, 0x20)
  else if !mayUse p x.tenant then some (stDENIED, noField)
  else none

/-- The recipe a bench serves, for its certificate checks; none for the TEMPER bench. -/
def benchRecipe (s : State) (x : Bench) : Option RecipeImage := if x.temper then none else (findRecipe s x.recipe).map (·.image)

def rebuildRefusal (p : Packet) (s : State) : Option (Half × Nat) :=
  let x := benchOf s (fld p.params 0 1)
  match benchTarget p s with
  | some e => some e
  | none =>
    if s.fab.chipLoss.isSome ∨ x.state = .resetting then some (stBUSY, noField)
    else if x.state ≠ .built ∧ x.state ≠ .armed then some (stDENIED, noField)
    else if x.change.isSome then some (stBUSY, noField)
    else none

/-- The exchange is made: at once on a BUILT bench, at a tile row on an ARMED one (06 R314). -/
def rebuildCommit (p : Packet) (image : Bytes) (c : Cert) (s : State) : State :=
  let b := fld p.params 0 1
  let x := benchOf s b
  let bd := boundaryAfter s.pos.shift s.pos.hwm
  if x.state = .armed then
    done p stACCEPTED (le4 (benchFence s b).toNat ++ le4 (low32 bd).toNat)
      (modBench b (fun x => { x with
        change := some (.rebuild image c p.principal, bd), source := sourceOfBuild p 0x28 0x30 0x38 }) s)
  else
    ok p (le4 (benchFence s b).toNat ++ le4 0)
      (placeCopy b 0 (modBench b (fun x => { x with
        image := image, cert := some c, back := .built, state := .loading, loads := true
        source := sourceOfBuild p 0x28 0x30 0x38 }) s))

/-- Demands that stay with the admission after the exchange: LATENCY without the 200 us (06 R313). -/
def settleExchange (a : Admission) (b : Nat) (x : Bench) (s : State) : State :=
  let ds := benchDemands s b x a.cls (vEff s.led.vadm) 0
  s.setLed { s.led with held := s.led.held.map fun y => if y.handle = a.handle then { y with demands := withTable ds } else y }

def rebuildAdmit (p : Packet) (image cert : Bytes) (s : State) : State :=
  let b := fld p.params 0 1
  let x := { benchOf s b with cert := some (certOf cert) }
  match findAdm s x.handle with
  | none => refuse p stBAD_PARAM 0x20 s
  | some a =>
    let r := exchange a (benchRequest b a.cls a.tenant 200 x s).demands s
    match r.payload with
    | some e => refuseWith p stREFUSED_BUDGET e r.state
    | none => rebuildCommit p image (certOf cert) (settleExchange a b x r.state)

/-- BENCH_REBUILD. -/
def execBenchRebuild (r : LoadRef) (s : State) : Host.Outcome State Fault Refusal :=
  .next (runOp 0x0603 r.ref s fun p s =>
    match rebuildRefusal p s with
    | some (st, off) => refuse p st off s
    | none => match readImage p 0x28 0x30 0x38 r.poisoned s with
      | .inl (st, off) => refuse p st off s
      | .inr (image, cert) =>
        let x := benchOf s (fld p.params 0 1)
        match certCheck s cert image x.groups (benchRecipe s x) with
        | some c => refuseWith p stREFUSED_CERT (le2 c) s
        | none => rebuildAdmit p image cert s)

/-- Why BENCH_READMIT is refused before the certificate is checked (06 R317, R348; 02 R102). -/
def readmitRefusal (p : Packet) (s : State) : Option (Half × Nat) :=
  let x := benchOf s (fld p.params 0 1)
  match benchTarget p s with
  | some e => some e
  | none =>
    if s.fab.chipLoss.isSome ∨ x.resetting.isSome then some (stBUSY, noField)
    else if x.state ≠ .unadmitted then some (stDENIED, noField)
    else if x.temper && p.cls != 7 then some (stBAD_PARAM, 0x06)
    else if !x.temper && !recipeHeld s x.recipe then some (stBAD_PARAM, 0x20)
    else none

/-- The admission starts at the bench's generation, so that no earlier result is current (06 R344). -/
def startGen (h : Nat) (g : Word) (s : State) : State :=
  s.setLed { s.led with held := s.led.held.map fun a => if a.handle = h then { a with fence := g } else a }

def readmitAdmit (p : Packet) (pick : Nat) (s : State) : State :=
  let b := fld p.params 0 1
  let x := benchOf s b
  let h := freshHandle s pick fun _ => true
  let r := decideAdm (benchRequest b p.cls x.tenant 0 x s) h s
  match r.payload with
  | some e => refuseWith p stREFUSED_BUDGET e r.state
  | none =>
    let s1 := startGen h x.gen (modBench b (fun y => { y with handle := h, back := .built, state := if x.loads then .loading else restState r.state x })
      r.state)
    ok p (benchHandleFence s1 b) s1

/-- BENCH_READMIT. -/
def execBenchReadmit (r : Ref) (pick : Nat) (s : State) : Host.Outcome State Fault Refusal :=
  .next (runOp 0x0606 r s fun p s =>
    match readmitRefusal p s with
    | some (st, off) => refuse p st off s
    | none =>
      let x := benchOf s (fld p.params 0 1)
      match certCheck s ((x.cert.map (·.raw)).getD []) x.image x.groups (benchRecipe s x) with
      | some c => refuseWith p stREFUSED_CERT (le2 c) s
      | none => readmitAdmit p pick s)

/-- BENCH_RELEASE: in LOADING or RESETTING it waits for the end of that state (06 R316). -/
def execBenchRelease (r : Ref) (s : State) : Host.Outcome State Fault Refusal :=
  .next (runOp 0x0604 r s fun p s =>
    let b := fld p.params 0 1
    match benchTarget p s with
    | some (st, off) => refuse p st off s
    | none =>
      if midChange (benchOf s b) then
        modP p.ref (fun q => { q with started := true })
          (modBench b (fun x => { x with releaseRefs := x.releaseRefs ++ [p.ref] }) s)
      else ok p [] (releaseBench b s))

/-! ## Resetting a bench (06 R340 to R348) -/

/-- The fence generation of an admission is bumped. -/
def bumpAdm (h : Nat) (s : State) : State :=
  s.setLed { s.led with held := s.led.held.map fun a => if a.handle = h then { a with fence := nextFence a.fence } else a }

/-- A minibatch cut off by a reset of its bench is run again: the epoch resumes from the last committed one (11 R557). -/
def rewindEpoch (b : Nat) (s : State) : State :=
  if (benchOf s b).temper then
    s.setRcp { s.rcp with epoch := s.rcp.epoch.map fun e => { e with started := e.done } }
  else s

/-- Steps 1 to 3 of R340, and the start of the reload; `more` tiles of a RUN_TILES command are given HOLD with the bench's own. A
second fault during the reset starts it again (12 R590). -/
def startReset (b stake cause more : Nat) (injected : Bool) (s : State) : State :=
  let x := benchOf s b
  let s1 := bumpAdm x.handle s
  let held := heldBy s1 b + more
  let before := match x.resetting with | some (_, _, n, _) => n | none => 0
  let s2 := flushBench b 0x10 (benchFence s1 b) s1
  rewindEpoch b (bumpBench b 2 1 (modBench b (fun y => { y with
    state := .resetting, back := if midChange x then x.back else x.state
    resetting := some (stake, cause, before + held, injected) }) s2))

/-- Low byte of DETECT for a cause, numbered by the rows of Table 6.13 (12 Table 12.6). -/
def detectOf (cause : Nat) : Nat := getI [0, 1, 1, 3, 3, 4, 1, 1, 2, 5] cause 3

/-- A bench-private fault of a stake, with `more` tiles of a RUN_TILES command (06 R340, R346; 12 R590, R591). -/
def privateFaultOf (more b stake cause : Nat) (injected : Bool) (s : State) : State :=
  let x := benchOf s b
  let held := heldBy s b + more
  if x.state = .free then s
  else if s.fab.chipLoss.isSome then
    let s1 := countUpset 2 stake injected s
    let e := { upsetEntry s1 2 stake (detectOf cause) injected with fflags := fflagsOf false injected true }
    let s2 := logFault e s1
    if injected then s2 else checkRetire 2 stake s2
  else
    let s1 := match x.resetting with
      | some (k, _, _, _) => supersede 2 k s
      | none => s
    upsetRetire 2 stake (detectOf cause) injected 0 held (startReset b stake cause more injected s1)

def privateFault (b stake cause : Nat) (injected : Bool) (s : State) : State := privateFaultOf 0 b stake cause injected s

/-- BENCH_RESET (15 Table 15.9): step 1 of R340 is its commit. No stake is at fault, so no upset is counted. -/
def execBenchReset (r : Ref) (s : State) : Host.Outcome State Fault Refusal :=
  .next (runOp 0x0605 r s fun p s =>
    let b := fld p.params 0 1
    let x := benchOf s b
    match benchTarget p s with
    | some (st, off) => refuse p st off s
    | none =>
      if x.state = .resetting then refuse p stBUSY noField s
      else if x.state ≠ .built ∧ x.state ≠ .armed then refuse p stDENIED noField s
      else startReset b (256 + Config.resetStake b % 256) (Config.resetCause b % 256) 0 false (ok p [] s))

/-! ## STAKE_UNRETIRE and FAB_STATUS -/

/-- STAKE_UNRETIRE (06 R347, 02 R118, 12 R572). -/
def execStakeUnretire (r : Ref) (s : State) : Host.Outcome State Fault Refusal :=
  .next (runOp 0x0620 r s fun p s =>
    let k := fld p.params 0 1
    if !s.fab.retiredStakes.contains k then refuse p stBAD_PARAM 0x20 s
    else
      let owner := benchHolding s k
      if owner.any fun b => (benchOf s b).state != .built then refuse p stDENIED noField s
      else
        let s1 := s.setFab { s.fab with retiredStakes := s.fab.retiredStakes.filter (· != k) }
        let s2 := refreshDemands (vEff s1.led.vadm) (returned 2 k (wantRecord 3 s1))
        ok p [] (match owner with
          | some b => noticeBenchCapacity b s2
          | none => s2))

def BenchState.code : BenchState → Nat
  | .free => 0
  | .loading => 1
  | .built => 2
  | .armed => 3
  | .resetting => 4
  | .unadmitted => 5

/-- BENCHn_STATUS (06 Table 6.14). -/
def benchStatus (s : State) (b : Nat) : Word :=
  let x := benchOf s b
  BitVec.ofNat 32 (x.state.code + 8 * x.slot + 16 * b2n x.change.isSome + 32 * b2n x.temper +
    256 * (liveStakes s x.groups).length + 131072 * ((List.range 32).filter fun g => x.groups.getLsbD g).length)

/-- FAB_LIVEi (06 Table 6.15). -/
def fabLive (s : State) (i : Nat) : Word :=
  BitVec.ofNat 32 ((List.range 32).map fun j => if s.fab.retiredStakes.contains (32 * i + j) then 0 else 2 ^ j).sum

/-- FAB_STATUS (15 R691). -/
def execFabStatus (r : Ref) (s : State) : Host.Outcome State Fault Refusal :=
  .next (runOp 0x0601 r s fun p s =>
    ok p ((List.range 8).flatMap (fun i => le4 (fabLive s i).toNat) ++
      (List.range 16).flatMap fun b => le4 (benchStatus s b).toNat) s)

end Sys2Proof.Machine
end

