-- ==== Sys2Proof/Machine/Fabric.lean ====
section
/-! DEFINITION. Running tiles on the fabric (chapter 06): dispatch, completion, faults and recoveries, pending changes at a tile
row, and the FABRIC engine's commands. -/

namespace Sys2Proof.Machine

/-! ## Switching at a tile row (06 R314, R322, R337) -/

/-- Position of the first scan line of the first tile row of view `v` whose first scan line lies at or after `bd`. -/
def rowStartAfter (s : State) (v : Nat) (bd : Long) : Int :=
  let g := tgOf s v
  let h : Int := rowH s v
  let k := ceilI (posI bd - g.f) (max 1 g.p)
  trigPos g (-((-k) / h) * h)

/-- Views whose tiles the bench takes. -/
def benchViews (s : State) (x : Bench) (b : Nat) : List Nat :=
  match findRecipe s x.recipe with
  | some r => (List.range 4).filter fun v => r.image.routes.any fun e => e.view == v && e.bench == b
  | none => []

/-- The tile belongs to a row that a change at `bd` comes before. -/
def tileAfter (s : State) (bd : Long) (t : Tile) : Bool := decide (rowStartAfter s t.view bd ≤ posI (expand s t.sposFirst))

/-- A scan line of the view before the row that starts at `x` is still on its way to a tile. -/
def lineBefore (s : State) (v : Nat) (x : Int) : Bool :=
  let early (sp : Word) := decide (posI (expand s sp) < x)
  (viewOf s v).rowLines.any (fun y => early y.spos) ||
    (viewChans s v).any fun n => (plnChan s n).slots.any (fun y => early y.spos) || (plnChan s n).lines.any fun y => early y.spos

/-- Every row before the change is finished on the bench, and none is still to come. -/
def changeDue (s : State) (b : Nat) (bd : Long) : Bool :=
  let x := benchOf s b
  reached s bd && (benchTiles x).all (tileAfter s bd) &&
    (benchViews s x b).all fun v =>
      let p := rowStartAfter s v bd
      decide (p ≤ posI s.pos.hwm) && !lineBefore s v p && (let g := tgOf s v; decide (p ≤ trigPos g g.nextK))

/-- The bench's other slot selections of the same promotion are still pending. -/
def promotionOpen (s : State) (opcode : Half) (recipe : Nat) : Bool :=
  s.fab.bench.any fun x => match x.change with
    | some (.select _ _ op _ r, _) => op == opcode && r == recipe && recipe != 0
    | _ => false

/-- TMP_PROMOTED after the last bench of the recipe has switched (11 R563, R564). -/
def notePromoted (opcode : Half) (cand recipe : Nat) (bd : Long) (s : State) : State :=
  if recipe = 0 ∨ promotionOpen s opcode recipe then s
  else match findRecipe s recipe with
    | none => s
    | some r =>
      noticeHolderAt r.tenant 0x0B11 (low32 bd) (le4 recipe ++ le4 cand)
        (if opcode = 0x0B24 then modRecipe recipe (fun r => { r with promotions := r.promotions + 1 }) s else s)

/-- FAB_APPLIED (06 Table 6.16). -/
def noticeApplies (tenant b what : Nat) (bd : Long) (s : State) : State :=
  noticeHolderAt tenant 0x0604 (low32 bd) (le1 b ++ le1 what) s

/-- A pending change takes effect. -/
def applyChange (b : Nat) (c : BenchChange) (bd : Long) (s : State) : State :=
  match c with
  | .rebuild image cert tenant =>
    noticeApplies tenant b 1 bd (placeCopy b 0 (modBench b (fun x => { x with
      image := image, cert := some cert, change := none, back := x.state, state := .loading, loads := true }) s))
  | .select slot tenant opcode cand recipe =>
    notePromoted opcode cand recipe bd
      (noticeApplies tenant b 0 bd (modBench b (fun x => { x with prevSlot := x.slot, slot := slot, change := none }) s))

/-- FAB_APPLIED: the first tile row at or after the boundary (06 R314, R337). -/
def execFabApplied (b : Nat) (s : State) : Host.Outcome State Fault Refusal :=
  .next (match (benchOf s b).change with
    | some (c, bd) =>
      if ((benchOf s b).state = .armed ∨ (benchOf s b).state = .built) ∧ changeDue s b bd then applyChange b c bd s else s
    | none => s)

/-! ## Dispatch (06 R318 to R322) -/

/-- The stake's quadrant has power (13 Table 13.2, codes 7 to 10). -/
def stakePowered (s : State) (k : Nat) : Bool := domOn s (7 + k / 64)

/-- Stakes of the bench that are live, powered and idle, the lowest number first; a run that was cut off holds its stake. -/
def idleStakes (s : State) (x : Bench) : List Nat :=
  (liveStakes s x.groups).filter fun k => stakePowered s k && !(x.running.any fun r => r.stake == k && r.state != .gone)

/-- The tile waits for a pending change. -/
def tileWaits (s : State) (x : Bench) (t : Tile) : Bool :=
  match x.change with
  | some (_, bd) => tileAfter s bd t
  | none => false

/-- The tile that the bench dispatches next, and what stays queued: queue order among the rows that come before a pending change (06
R314, R319). -/
def nextTile (s : State) (x : Bench) (l : List Tile) : Option (Tile × List Tile) :=
  match l with
  | [] => none
  | t :: r => if tileWaits s x t then (nextTile s x r).map fun p => (p.1, t :: p.2) else some (t, r)

/-- Parameter slot of a tile: that of the tiles of its row dispatched before it, else the active one (06 R322). -/
def slotOf (x : Bench) (t : Tile) : Nat :=
  ((x.rowSlot.find? fun e => e.1 == t.view && e.2.1 == t.row).map (·.2.2)).getD x.slot

/-- The run of a tile on a stake. -/
def runOf (s : State) (b k : Nat) (t : Tile) : Running :=
  let x := benchOf s b
  { stake := k, tile := t, spent := 0, since := s.now, fence := benchFence s b, state := .live
    result := tileResult x.image (getI x.slots (slotOf x t) []) (tileInput t.bytes t.cond) }

/-- TILE_DISPATCH. -/
def execTileDispatch (b : Nat) (t : Nat) (s : State) : Host.Outcome State Fault Refusal :=
  let s := s.at_ t
  let x := benchOf s b
  .next (
    if x.state ≠ .armed then s
    else match nextTile s x x.queue, idleStakes s x with
      | some (tile, rest), k :: _ =>
        modBench b (fun x => { x with
          queue := rest, running := x.running ++ [runOf s b k tile]
          rowSlot := (tile.view, tile.row, slotOf x tile) :: x.rowSlot.filter fun e => e.1 != tile.view }) s
      | _, _ => s)

/-- The stake that a fault without a stake of its own is attributed to (06 R346; log entry 12). -/
def blamed (s : State) (b : Nat) : Nat :=
  let l := liveStakes s (benchOf s b).groups
  getI l (Config.blamedStake b % max 1 l.length) 0

/-! ## Cycles of a tile (06 R297, R321) -/

/-- Eighths of an FQ cycle in one PTB_CLK cycle, at the f_fab of the stake's quadrant: 25, 20, 15 or 10 (13 Table 13.5). -/
def stakeRate (s : State) (k : Nat) : Nat := levelHz (getI s.pwr.throttle (k / 64) 0) / 50000000

def eighthsOf (s : State) (r : Running) : Nat := r.spent + stakeRate s r.stake * (s.now - r.since)

/-- Cycles that the stake has counted for its tile. -/
def cyclesOf (s : State) (r : Running) : Nat := eighthsOf s r / 8

/-- The counts so far are kept before a quadrant changes its frequency. -/
def settleCycles (s : State) : State :=
  s.setFab { s.fab with bench := s.fab.bench.map fun x => { x with
    running := x.running.map fun r => { r with spent := eighthsOf s r, since := s.now } } }

def cTileOf (x : Bench) : Nat := ((x.cert.map (·.cTile)).getD 0)

/-- When the count passes C_TILE. -/
def overrunAt (s : State) (x : Bench) (r : Running) : Nat :=
  r.since + ceilDiv (8 * (cTileOf x + 1) - r.spent) (stakeRate s r.stake)

/-! ## Completion (06 R299, R304, R321, R344) -/

def dropRun (b : Nat) (r : Running) (s : State) : State :=
  modBench b (fun x => { x with running := x.running.erase r }) s

/-- Counters of a tile that ended with a result. -/
def countTile (b : Nat) (m : ModelResult) (s : State) : State :=
  bumpBench b 6 m.nanCvt (bumpBench b 5 (b2n m.accSat) (modBench b (fun x => { x with tiles := x.tiles + 1 }) s))

/-- The watchdog aborts the run, whose tile is HOLD, and resets the bench (06 R321). -/
def overrun (b : Nat) (r : Running) (s : State) : State :=
  let s1 := dropRun b r s
  let s2 := if r.state = .live then giveHold b r.tile 0x12 r.fence s1 else s1
  privateFault b r.stake 5 false (bumpBench b 4 1 s2)

/-- The run's generation is the bench's. -/
def runCurrent (s : State) (b : Nat) (r : Running) : Bool := r.state == .live && r.fence == benchFence s b

/-- The last word of a result is written. -/
def complete (b : Nat) (r : Running) (s : State) : State :=
  let x := benchOf s b
  if r.state ≠ .gone ∧ cTileOf x < cyclesOf s r then overrun b r s
  else if !runCurrent s b r then fabFenced b (dropRun b r s)
  else
    toHallmark
      { bench := b, recipe := x.recipe, adm := x.handle, tile := r.tile, hold := r.tile.holdReason, fence := r.fence
        result := some { r.result with cands := r.result.cands.take 64 }, vslots := (x.cert.map (·.vslots)).getD 0, at_ := s.now }
      (countTile b r.result (dropRun b r s))

/-- The run of stake `k` with a generation: the one that goes on, else one that was cut off. -/
def findRun (x : Bench) (k : Nat) (gen : Word) : Option Running :=
  (x.running.find? fun r => r.stake == k && r.fence == gen && r.state == .live).or
    (x.running.find? fun r => r.stake == k && r.fence == gen)

/-- TILE_COMPLETE: the result of the run that was dispatched to the stake under generation `gen`. -/
def execTileComplete (b k : Nat) (gen : Word) (t : Nat) (s : State) : Host.Outcome State Fault Refusal :=
  let s := s.at_ t
  .next (match findRun (benchOf s b) k gen with
    | some r => complete b r s
    | none => s)

/-- CERT_OVERRUN: the count of the tile on the stake passes C_TILE. -/
def execCertOverrun (b k : Nat) (s : State) : Host.Outcome State Fault Refusal :=
  .next (match (benchOf s b).running.find? fun r => r.stake == k && r.state != .gone with
    | some r => overrun b r (s.at_ (overrunAt s (benchOf s b) r))
    | none => s)

/-! ## Faults and recoveries (06 R339 to R348) -/

/-- The stake belongs to the bench. -/
def inBench (s : State) (b k : Nat) : Bool := (benchOf s b).groups.getLsbD (k / 8)

/-- A cause of scope bench-private: rows 2 to 6 of Table 6.13; row 1 is a corrected error. -/
def privateCause (c : Nat) : Bool := decide (2 ≤ c) && decide (c ≤ 6)

/-- BENCH_PRIVATE_FAULT. -/
def execBenchPrivateFault (b k cause : Nat) (t : Nat) (s : State) : Host.Outcome State Fault Refusal :=
  let s := s.at_ t
  .next (
    if (benchOf s b).state = .free ∨ !inBench s b k then s
    else if cause = 1 then bumpBench b 1 1 s
    else if privateCause cause then privateFault b k cause false s
    else s)

/-- Retirements of the bench's stakes that waited for its reset (06 R346, 12 R573). -/
def retireOfBench (b : Nat) (s : State) : State :=
  if wideRecovery s then s
  else
    let mine (x : Nat × Nat) := x.1 == 2 && inBench s b x.2
    retireEach (s.flt.deferred.filter mine) (s.setFlt { s.flt with deferred := s.flt.deferred.filter fun x => !mine x })

/-- BENCH_RESET_DONE. With both copies of the image or a parameter set failed, EQUIV_LOST is logged (12 R597). -/
def resetDone (b : Nat) (imageOk : Bool) (stake cause held : Nat) (injected : Bool) (s : State) : State :=
  let x := benchOf s b
  let inst := if stake < 256 then stake else 0
  let e := recoveredEntry s 2 inst held injected
  let s1 := endChange b s
  let s2 := if imageOk then recovered 2 inst held injected s1 else equivLost e s1
  let s3 := noticeHolder x.tenant 0x0601 (le1 b ++ le1 stake ++ le1 cause ++ [0] ++ le4 held) s2
  settleRetirements (retireOfBench b s3)

def execBenchResetDone (b : Nat) (imageOk : Bool) (s : State) : Host.Outcome State Fault Refusal :=
  .next (match (benchOf s b).resetting with
    | some (stake, cause, held, injected) => resetDone b imageOk stake cause held injected s
    | none => s)

/-- Class of a chip-wide cause (12 Table 12.2). -/
def chipClass (cause : Nat) : Nat := if cause = 7 then 6 else if cause = 8 then 7 else 8

/-- Dispatch stops on a bench, its generation is bumped and its tiles get HOLD with FABRIC_LOSS; a reset under way is
superseded (06 R343, R348). -/
def loseBench (b : Nat) (s : State) : State :=
  let x := benchOf s b
  if x.state = .free then s
  else
    let s0 := match x.resetting with
      | some (k, _, _, _) => supersede 2 (if k < 256 then k else 0) s
      | none => s
    let s1 := bumpAdm x.handle s0
    let s2 := flushBench b 0x11 (benchFence s1 b) s1
    rewindEpoch b (modBench b (fun y => { y with
      state := .resetting, back := if midChange x then x.back else x.state, resetting := none, loads := false }) s2)

def loseBenches (l : List Nat) (s : State) : State :=
  match l with
  | [] => s
  | b :: r => loseBenches r (loseBench b s)

/-- The shared SHEET lines are reinitialised (06 R343). -/
def reinitShared (l : List Obj) (s : State) : State :=
  match l with
  | [] => s
  | o :: r => reinitShared r (unitWrite o.addr ((List.range o.size).map fun i => Config.reinitByte (o.addr + i)) s)

/-- DRAW and ASSAY commands that the loss cuts off (12 R579). -/
def cutOffEngines (s : State) : List Nat :=
  [1, 4].filter fun e => s.fab.lists.any fun l => l.engine == e && l.running && l.cur.any fun c => decide (0x100 ≤ c.cmd)

/-- Steps 1 to 3 of R343: every bench is lost, and the tiles given HOLD are counted. A second fault starts the recovery again
(12 R590). -/
def chipLose (cause : Nat) (injected : Bool) (s : State) : State :=
  let held := ((List.range 16).map (heldBy s)).sum
  let (s0, before) := match s.fab.chipLoss with
    | some (c, n, _) => (supersede (chipClass c) 0 s, n)
    | none => (s, 0)
  let s1 := loseBenches (List.range 16) s0
  let s2 := reinitShared (s1.draw.objs.filter fun o => o.tier == .sheet && o.shared && !o.lost) s1
  s2.setFab { s2.fab with
    chipLoss := some (cause, before + held, injected), chipSince := s.now, cutOff := cutOffEngines s
    chipLosses := if s.fab.chipLoss.isSome then s2.fab.chipLosses else s2.fab.chipLosses + 1 }

/-- A chip-wide fault with its log entry; the loss follows three retries of a NoC link (12 Table 12.3). -/
def chipFault (cause : Nat) (injected : Bool) (s : State) : State :=
  let held := ((List.range 16).map (heldBy s)).sum
  upset (chipClass cause) 0 (detectOf cause) false injected (if cause = 8 then 3 else 0) held (chipLose cause injected s)

/-- CHIP_WIDE_FAULT: a SHARED SHEET line or the NoC; the control processors' own row is CTRL_FAULT. -/
def execChipWideFault (cause : Nat) (t : Nat) (s : State) : Host.Outcome State Fault Refusal :=
  let s := s.at_ t
  .next (if (cause = 7 ∨ cause = 8) ∧ domOn s 2 then chipFault cause false s else s)

/-- NOC_LINK_ERROR: `failures` link retries failed; after the third the loss is chip-wide (12 Tables 12.2 and 12.3). -/
def execNocLinkError (failures : Nat) (t : Nat) (s : State) : Host.Outcome State Fault Refusal :=
  let s := s.at_ t
  .next (if failures < 3 ∨ !domOn s 2 then s else chipFault 8 false s)

/-- Time `spent` is within a quarter of the packet's own limits (12 R577). -/
def withinLimit (s : State) (p : Packet) (spent : Nat) : Bool :=
  let v := vEff s.led.vadm
  let (n, d) := puPerMetre s
  (p.tmo == 0 || decide (4 * spent ≤ msTicks p.tmo)) &&
    match p.deadline with
    | none => true
    | some q => decide (4 * spent * v * n ≤ (posI q - posI p.fetchHwm).toNat * 1000000000 * d * sTicks 1)

/-- The rows of a DRAW command's source and destination meet. -/
def drawOverlaps (c : Cmd) : Bool :=
  let len := fld c.body 16 4
  let rows := fld c.body 20 4
  let a := fld c.body 0 8
  let b := fld c.body 8 8
  bits c.arg0.toNat 1 0 == bits c.arg0.toNat 3 2 && c.cmd != 0x101 &&
    decide (a < b + (rows - 1) * fld c.body 28 4 + len) && decide (b < a + (rows - 1) * fld c.body 24 4 + len)

/-- COMMAND_REPEAT: the engine's command runs again, or fails with INTERNAL (12 R579). -/
def repeatCmd (engine : Nat) (s : State) : State :=
  match s.fab.lists.find? fun l => l.engine == engine && l.running with
  | none => s
  | some l => match l.cur with
    | none => s
    | some c =>
      let spent := s.now - s.fab.chipSince + msTicks 2 + Config.commandRun engine c.cmd c.body
      let allowed := match findP l.ref s with
        | some p => withinLimit s p spent
        | none => true
      if allowed && !(engine == 1 && drawOverlaps c) then s else failCmd l stINTERNAL s

def repeatCmds (l : List Nat) (s : State) : State :=
  match l with
  | [] => s
  | e :: r => repeatCmds r (repeatCmd e s)

def endBenches (l : List Nat) (s : State) : State :=
  match l with
  | [] => s
  | b :: r => endBenches r (if (benchOf s b).state = .resetting then endChange b s else s)

/-- Every stake has been reset: what was cut off on a bench that was not RESETTING is gone too. -/
def goneRuns (s : State) : State :=
  s.setFab { s.fab with bench := s.fab.bench.map fun x => { x with running := x.running.map goneRun } }

/-- FAB_CHIP_LOSS: every bench has returned. A bench of which both copies of the image or a parameter set failed loses the
equivalence (12 R597). -/
def chipDone (cause held : Nat) (injected : Bool) (s : State) : State :=
  let cut := s.fab.cutOff
  let e := recoveredEntry s (chipClass cause) 0 held injected
  let s1 := endBenches (List.range 16) (goneRuns (s.setFab { s.fab with chipLoss := none, cutOff := [] }))
  let s2 := if (List.range 16).any fun b => (benchOf s b).state == .resetting && Config.copiesFail b s.now then equivLost e s1
    else if cause = 9 then s1
    else recovered (chipClass cause) 0 held injected s1
  let s3 := noticeUnit 0x0602 (le1 cause ++ [0, 0, 0] ++ le4 held) s2
  settleRetirements (repeatCmds cut (s3.setFab { s3.fab with chipSince := s.fab.chipSince }))

def execFabChipLoss (s : State) : Host.Outcome State Fault Refusal :=
  .next (match s.fab.chipLoss with
    | some (cause, held, injected) => chipDone cause held injected s
    | none => s)

/-! ## FABRIC engine commands (06 R334 to R338) -/

/-- LOAD_PARAMS (06 R335, R336; 07 R392). -/
def execLoadParams (poisonedAt : Option Long) (s : State) : Host.Outcome State Fault Refusal :=
  .next (withCmd 3 0x100 s fun l c =>
    let x := benchOf s l.bench
    let slot := c.arg0.toNat
    let size := fld c.body 0 4
    if 1 < slot ∨ fld c.body 8 8 ≠ 0 ∨ !streamHeld s l.tenant (fld c.body 4 4) then failCmd l stBAD_PARAM s
    else if x.state = .free ∨ size ≠ Config.slotSize x.image ∨ !inIngot c.arg1.toNat then failCmd l stBAD_PARAM s
    else if x.state = .armed ∧ slot = x.slot then failCmd l stDENIED s
    else match unitPlace s l.tenant c.arg1.toNat size false with
      | .inl st => failCmd l st s
      | .inr a =>
      let table := poisonAt s a size
      if poisonedAt.isSome || table.isSome then failPoisoned l 5 poisonedAt table s
      else advance l (placeCopy l.bench (1 + slot)
        (modBench l.bench (fun x => { x with slots := upd x.slots slot fun _ => readPlace s a size }) s)))

/-- SELECT_PARAMS (06 R315, R337). -/
def execSelectParams (s : State) : Host.Outcome State Fault Refusal :=
  .next (withCmd 3 0x101 s fun l c =>
    let x := benchOf s l.bench
    let slot := c.arg0.toNat
    if 1 < slot ∨ c.arg1 ≠ 0 ∨ x.state = .free then failCmd l stBAD_PARAM s
    else if x.change.isSome then failCmd l stBUSY s
    else if x.state = .built then advance l (modBench l.bench (fun x => { x with prevSlot := x.slot, slot := slot }) s)
    else if x.state = .armed then
      advance l (modBench l.bench (fun x => { x with
        change := some (.select slot l.tenant 0x0610 0 0, boundaryAfter s.pos.shift s.pos.hwm) }) s)
    else failCmd l stDENIED s)

/-- A tile result record (09 Table 9.4). -/
def recordBytes (t : Tile) (b hold : Nat) (fence : Word) (m : Option ModelResult) : Bytes :=
  let head := le1 t.view ++ le1 b ++ le2 t.tflags ++ le2 t.col ++ le2 hold ++ leInt 8 t.row ++ le4 t.sposFirst.toNat ++
    le4 t.sposLast.toNat ++ le4 fence.toNat
  match m with
  | none => head ++ le1 1 ++ le1 0 ++ le2 0 ++ le4 0 ++ List.replicate 28 0
  | some r =>
    let cands := r.cands.take 64
    head ++ le1 0 ++ le1 (b2n r.emb) ++ le2 cands.length ++ le4 r.score.toNat ++ List.replicate 28 0 ++
      cands.flatMap (fun c => le4 c.1.toNat ++ le4 c.2.toNat) ++
      (r.boxes.take cands.length).flatMap (fun x => le2 x.1 ++ le2 x.2.1 ++ le4 0 ++ leInt 4 x.2.2.1 ++ leInt 4 x.2.2.2) ++
      (if r.emb then (r.embeds.take cands.length).flatMap (padTo 128) else [])

/-- The header of a tile that lies in memory (05 Table 5.3). -/
def tileOfBytes (b : Bytes) : Tile :=
  { view := fld b 0 1, format := fld b 1 1, tflags := fld b 2 2, col := fld b 4 2, tileW := fld b 6 2, row := sfld b 8 8
    tileH := fld b 16 2, holdReason := fld b 18 2, sposFirst := BitVec.ofNat 32 (fld b 20 4)
    sposLast := BitVec.ofNat 32 (fld b 24 4), concPix := fld b 28 4, satPix := fld b 32 4, replPix := fld b 36 4
    padPix := fld b 40 4, lflags := [], data := [], cond := [] }

/-- The tile agrees with the certificate (06 R338). -/
def tileFits (c : Cert) (t : Tile) : Bool := t.format == c.inFormat && t.tileW == c.tileW && t.tileH == c.tileH

/-- One tile of a RUN_TILES command on its stake, in units of 1/300 of a PTB_CLK cycle. -/
structure Placed where
  stake : Nat
  start : Nat
  /-- when its last word is written, or its count passes C_TILE -/
  stop : Nat
  aborted : Bool
deriving DecidableEq, Repr

/-- Units of one FQ cycle of a stake. -/
def cycleUnits (s : State) (k : Nat) : Nat := 2400 / stakeRate s k

/-- The tiles placed in order, each on the lowest-numbered stake that is idle in its dispatch cycle; `free` says when each stake is
idle, and no tile is dispatched before the one ahead of it (06 R319, R321). A stake is idle in the cycle after it writes the
last word of its result. -/
def placeTiles (s : State) (cTile : Nat) (free : List (Nat × Nat)) (at_ : Nat) (cycles : List Nat) : List Placed :=
  match cycles with
  | [] => []
  | c :: r =>
    let start := max at_ ((free.map (·.2)).min?.getD 0)
    let k := ((free.find? fun e => decide (e.2 ≤ start)).map (·.1)).getD 0
    let stop := start + min c (cTile + 1) * cycleUnits s k
    { stake := k, start := start, stop := stop, aborted := decide (cTile < c) } ::
      placeTiles s cTile (free.map fun e => if e.1 = k then (k, stop + cycleUnits s k) else e) start r

/-- A fault of the bench in the middle of the command: when, on which stake, and by what cause. -/
structure Break where
  time : Nat
  stake : Nat
  cause : Nat
deriving DecidableEq, Repr

/-- The first fault: a tile that overruns, or one that meets poisoned data as its run starts (06 R321, 07 R387). -/
def firstBreak (l : List Placed) (poison : Option Nat) : Option Break :=
  let overs := (l.filter (·.aborted)).map fun p => { time := p.stop, stake := p.stake, cause := 5 : Break }
  let bad := ((poison.bind fun i => l[i]?).map fun p => { time := p.start, stake := p.stake, cause := 2 : Break }).toList
  (overs ++ bad).foldl (fun m x => match m with
    | none => some x
    | some y => if x.time < y.time ∨ (x.time = y.time ∧ x.cause = y.cause ∧ x.stake < y.stake) then some x else some y) none

/-- HOLD reason that the fault gives a tile, 0 for a tile whose result came before it (06 R340, R344, R345). -/
def breakHold (f : Option Break) (p : Placed) : Nat :=
  match f with
  | none => 0
  | some x => if p.aborted && p.stop == x.time then 0x12 else if p.stop < x.time then 0 else 0x10

/-- The record of one tile; an earlier cause names the reason. -/
def runRecord (b : Nat) (fence : Word) (f : Option Break) (t : Tile) (m : ModelResult) (p : Placed) : Bytes :=
  let h := breakHold f p
  if h = 0 then recordBytes t b t.holdReason fence (some m)
  else recordBytes t b (if t.holdReason = 0 then h else t.holdReason) fence none

def countTiles (b : Nat) (l : List ModelResult) (s : State) : State :=
  match l with
  | [] => s
  | m :: r => countTiles b r (countTile b m s)

/-- Count the tiles of the command, and reset the bench after a fault. -/
def countRun (b : Nat) (f : Option Break) (l : List (ModelResult × Placed)) (s : State) : State :=
  let n (h : Nat) := (l.filter fun e => breakHold f e.2 == h).length
  let s1 := countTiles b ((l.filter fun e => breakHold f e.2 == 0).map (·.1)) s
  match f with
  | none => s1
  | some x =>
    privateFaultOf (n 0x10) b x.stake x.cause false (bumpBench b 4 (n 0x12) (bumpBench b 0 (n 0x10 + n 0x12) s1))

/-- The command has written its records, or all but a lost burst: the stake whose record it meets faults, and the command fails (07
R387, R388; log entry 125). -/
def endRun (l : CmdList) (lost : Option Nat) (d : Place) (recs : List Bytes) (at_ : List Placed) (s : State) : State :=
  match lost with
  | none => advance l s
  | some a =>
    let ends := (List.range recs.length).map fun i => d.addr + ((recs.take (i + 1)).map (·.length)).sum
    let i := (ends.findIdx? fun e => decide (a < e)).getD 0
    let k := ((at_[i]?).map (·.stake)).getD (blamed s l.bench)
    endWrite l lost (privateFault l.bench k 2 false s)

/-- RUN_TILES on a BUILT bench. -/
def runTiles (l : CmdList) (c : Cmd) (poisonedAt lost : Option Long) (s : State) : State :=
  let x := benchOf s l.bench
  match x.cert with
  | none => failCmd l stDENIED s
  | some cert =>
    let n := c.arg0.toNat
    let size := tileBytes cert.inFormat cert.tileW cert.tileH
    match unitPlace s l.tenant c.arg1.toNat (n * size) false with
    | .inl st => failCmd l st s
    | .inr a =>
      let inputs := (List.range n).map fun i => unitRead s (a.addr + i * size) size
      let tiles := inputs.map tileOfBytes
      let stakes := idleStakes s x
      if !tiles.all (tileFits cert) then failCmd l stBAD_PARAM s
      else if stakes.isEmpty then s
      else
        let table := poisonIn s a.addr (n * size)
        let burst := (poisonedAt.map (·.toNat)).or table
        let runs := inputs.map fun y => tileResult x.image (getI x.slots x.slot []) (tileInput y [])
        let placed := placeTiles s cert.cTile (stakes.map fun k => (k, 0)) 0
          (inputs.map fun y => Config.tileCycles x.image (tileInput y []))
        let f := firstBreak placed (burst.map fun p => (max p a.addr - a.addr) / size)
        let recs := (tiles.zip (runs.zip placed)).map fun e => runRecord l.bench (benchFence s l.bench) f e.1 e.2.1 e.2.2
        match unitPlace s l.tenant (fld c.body 0 8) recs.flatten.length true with
        | .inl st => failCmd l st s
        | .inr d =>
          let gone := lostAt lost d recs.flatten.length
          endRun l gone d recs placed
            (countRun l.bench f (runs.zip placed) (writePlaceBut gone d recs.flatten (tablePoison 5 table s)))

/-- RUN_TILES: `poisonedAt` names a burst of the tiles that was delivered poisoned, `lost` one of the records that was lost. -/
def execRunTiles (x : TileErrors) (s : State) : Host.Outcome State Fault Refusal :=
  .next (withCmd 3 0x102 s fun l c =>
    let n := c.arg0.toNat
    if n < 1 ∨ 4096 < n ∨ fld c.body 12 4 ≠ 0 ∨ !inIngot c.arg1.toNat ∨ !streamHeld s l.tenant (fld c.body 8 4) then
      failCmd l stBAD_PARAM s
    else if (benchOf s l.bench).state ≠ .built then failCmd l stDENIED s
    else runTiles l c x.poisonedAt x.lost s)

end Sys2Proof.Machine
end

