-- ==== Sys2Proof/Machine/Assay.lean ====
section
/-! DEFINITION. ASSAY (chapter 08): the order of keys, sorting, merging, selection, box suppression and search; the Q unit's
commands, the library store, the RT unit's completions, and the ASSAY group's opcodes. -/

namespace Sys2Proof.Machine

/-! ## Keys and order (08 R398 to R403) -/

/-- An entry with its input index. -/
structure Entry where
  key : Word
  payload : Word
  idx : Nat
deriving DecidableEq, Repr

/-- The place of a key in the order of its format: U32, I32, FP32 with every NaN above +infinity and equal zeros. -/
def keyOrd (fmt : Nat) (k : Word) : Int :=
  match fmt with
  | 0 => k.toNat
  | 1 => k.toInt
  | _ => if f32NaN k then 2 ^ 32 else f32Key k

/-- The order in a direction. -/
def dirOrd (dir : Bool) (fmt : Nat) (k : Word) : Int := if dir then -(keyOrd fmt k) else keyOrd fmt k

/-- How two entries compare: by key, then by a tie-break. -/
structure Ranking where
  key : Word → Int
  tie : Entry → Int

def Ranking.before (r : Ranking) (a b : Entry) : Bool :=
  decide (r.key a.key < r.key b.key) || (r.key a.key == r.key b.key && decide (r.tie a ≤ r.tie b))

def insertEntry (r : Ranking) (e : Entry) (l : List Entry) : List Entry :=
  match l with
  | [] => [e]
  | x :: t => if r.before e x then e :: x :: t else x :: insertEntry r e t

/-- The entries in order (08 R407). -/
def sortEntries (r : Ranking) (l : List Entry) : List Entry :=
  match l with
  | [] => []
  | e :: t => insertEntry r e (sortEntries r t)

def rawEntries (l : List Entry) : List (Word × Word) := l.map fun e => (e.key, e.payload)

/-- Ties keep the input order in stable mode; in fast mode the implementation places them (08 R402, R403; log entry 9). -/
def tieOf (stable : Bool) (op : Nat) (l : List Entry) (e : Entry) : Int :=
  if stable then e.idx else (Config.fastRank op (rawEntries l) e.idx : Int)

def rankBy (dir stable : Bool) (fmt op : Nat) (l : List Entry) : Ranking := { key := dirOrd dir fmt, tie := tieOf stable op l }

/-- Entries already ordered. -/
def ordered (dir : Bool) (fmt : Nat) (l : List Entry) : Bool :=
  match l with
  | [] => true
  | a :: t => (match t with
    | [] => true
    | b :: _ => decide (dirOrd dir fmt a.key ≤ dirOrd dir fmt b.key)) && ordered dir fmt t

/-- NaN keys read (08 R405). -/
def nanCount (fmt : Nat) (l : List Entry) : Nat := if fmt = 2 then (l.filter fun e => f32NaN e.key).length else 0

/-! ## NMS (08 R410, R411) -/

/-- A box. -/
structure Box where
  x0 : Nat
  x1 : Nat
  y0 : Int
  y1 : Int
deriving DecidableEq, Repr

def Box.bad (b : Box) : Bool := decide (b.x1 < b.x0) || decide (b.y1 < b.y0)

def Box.area (b : Box) : Int := ((b.x1 : Int) - b.x0 + 1) * (b.y1 - b.y0 + 1)

/-- The overlap of two boxes, with inclusive extents. -/
def Box.inter (a b : Box) : Int :=
  let w : Int := (min a.x1 b.x1 : Nat) - (max a.x0 b.x0 : Nat) + 1
  let h : Int := min a.y1 b.y1 - max a.y0 b.y0 + 1
  if w ≤ 0 ∨ h ≤ 0 then 0 else w * h

/-- Table 8.3. -/
def boxOf (b : Bytes) : Box := { x0 := fld b 0 2, x1 := fld b 2 2, y0 := sfld b 8 4, y1 := sfld b 12 4 }

def nmsSuppresses (iou : Nat) (cross : Bool) (e f : Entry × Box) : Bool :=
  (cross || bits e.1.payload.toNat 31 24 == bits f.1.payload.toNat 31 24) &&
    decide ((iou : Int) * (e.2.area + f.2.area - e.2.inter f.2) < e.2.inter f.2 * 1000)

/-- The procedure of R410 over entries in descending order. -/
def nmsKeep (k iou : Nat) (cross : Bool) (l kept : List (Entry × Box)) : List (Entry × Box) :=
  match l with
  | [] => kept
  | e :: r =>
    if k ≤ kept.length then kept
    else nmsKeep k iou cross r (if kept.any (nmsSuppresses iou cross e) then kept else kept ++ [e])

/-- An operation's output (08 R417). -/
structure AsyOut where
  out : List Entry
  nans : Nat
  discarded : Nat
deriving DecidableEq, Repr

/-- An operation body (08 Table 8.5). -/
def opOf (cmd : Nat) (b : Bytes) : AssayOp :=
  { cmd := cmd, n := fld b 0x18 2, nA := fld b 0x1A 2, k := fld b 0x1C 2, mode := fld b 0x1E 1, metric := fld b 0x1F 1
    iou := fld b 0x20 2, q := fld b 0x22 1, libFirst := fld b 0x24 4, libCount := fld b 0x28 4 }

def AssayOp.dir (o : AssayOp) : Bool := bit o.mode 0
def AssayOp.stable (o : AssayOp) : Bool := bit o.mode 1
def AssayOp.fmt (o : AssayOp) : Nat := bits o.mode 3 2
def AssayOp.cross (o : AssayOp) : Bool := bit o.mode 4

/-- NMS of entries with their boxes: descending key, always stable. -/
def nmsRun (o : AssayOp) (l : List Entry) (box : Nat → Box) : AsyOut :=
  let sorted := sortEntries { key := dirOrd true o.fmt, tie := fun e => e.idx } l
  let pairs := (sorted.map fun e => (e, box e.idx)).filter fun p => !p.2.bad
  { out := (nmsKeep o.k o.iou o.cross pairs []).map (·.1), nans := nanCount o.fmt l
    discarded := (l.filter fun e => (box e.idx).bad).length }

/-- SORT, MERGE, TOPK and NMS on their entries. -/
def runEntries (o : AssayOp) (l : List Entry) (box : Nat → Box) : AsyOut :=
  let sorted := sortEntries (rankBy o.dir o.stable o.fmt o.cmd l) l
  match o.cmd with
  | 0x102 => { out := sorted.take o.k, nans := nanCount o.fmt l, discarded := 0 }
  | 0x103 => nmsRun o l box
  | _ => { out := sorted, nans := nanCount o.fmt l, discarded := 0 }

/-! ## NN_SEARCH (08 R412, R413) -/

def int8 (b : Byte) : Int := b.toInt

/-- The key of a query and a vector: squared distance, or dot product. -/
def nnKey (metric : Nat) (q v : Bytes) : Int :=
  ((q.zip v).map fun p => if metric = 0 then (int8 p.1 - int8 p.2) * (int8 p.1 - int8 p.2) else int8 p.1 * int8 p.2).sum

/-- Library entry `i`; one never loaded holds zeros. -/
def libEntry (lib : List LibEntry) (i : Nat) : LibEntry :=
  (lib.find? fun e => e.index == i).getD { index := i, vec := List.replicate 128 0, label := 0 }

/-- The K nearest entries of a query, nearest first; ties by index, or in fast mode as the implementation places them. -/
def nnOne (lib : List LibEntry) (o : AssayOp) (q : Bytes) : List Entry :=
  let l := (List.range o.libCount).map fun i =>
    let e := libEntry lib (o.libFirst + i)
    ({ key := BitVec.ofInt 32 (nnKey o.metric q (padTo 128 e.vec)), payload := BitVec.ofNat 32 (i + 65536 * e.label), idx := i } : Entry)
  let key (k : Word) : Int := if o.metric = 0 then k.toNat else -k.toInt
  (sortEntries { key := key, tie := tieOf o.stable o.cmd l } l).take o.k

def nnRun (lib : List LibEntry) (o : AssayOp) (qs : List Bytes) : AsyOut :=
  { out := qs.flatMap (nnOne lib o), nans := 0, discarded := 0 }

/-! ## Limits (08 R414) -/

/-- The tenant's ranges, by themselves or side by side, hold every entry; tenant 0 may use any range (03 R138). -/
def inRanges (s : State) (t first count : Nat) : Bool :=
  let mine := s.asy.ranges.filter fun r => t == 0 || r.tenant == t
  let next (p : Nat) := (mine.filter fun r => decide (r.first ≤ p) && decide (p < r.first + r.count)).foldl
    (fun m r => max m (r.first + r.count)) p
  decide (first + count ≤ (List.range 32).foldl (fun p _ => next p) first)

/-- Limits and unused fields of an operation. -/
def opOk (s : State) (t : Nat) (o : AssayOp) : Bool :=
  let nOk := decide (1 ≤ o.n) && decide (o.n ≤ 4096)
  let kOk := decide (1 ≤ o.k) && decide (o.k ≤ 256)
  let noNn := o.metric == 0 && o.q == 0 && o.libFirst == 0 && o.libCount == 0
  let modeOk := decide (o.mode < 32) && o.fmt != 3
  match o.cmd with
  | 0x100 => nOk && modeOk && o.nA == 0 && o.k == 0 && o.iou == 0 && noNn && !o.cross
  | 0x101 => nOk && modeOk && decide (o.nA ≤ o.n) && o.k == 0 && o.iou == 0 && noNn && !o.cross
  | 0x102 => nOk && modeOk && kOk && o.nA == 0 && o.iou == 0 && noNn && !o.cross
  | 0x103 => nOk && modeOk && kOk && o.nA == 0 && decide (o.iou ≤ 1000) && noNn
  | 0x104 => decide (o.mode < 32) && kOk && o.n == 0 && o.nA == 0 && o.iou == 0 && decide (o.metric ≤ 1) && decide (1 ≤ o.q) &&
      decide (o.q ≤ 16) && decide (1 ≤ o.libCount) && decide (o.libCount ≤ 65536) && !o.cross &&
      inRanges s t o.libFirst o.libCount
  | _ => false

/-- A host command's body and ARG0, with the fields that this operation does not use (08 R414, Table 8.5). -/
def bodyOk (s : State) (t : Nat) (c : Cmd) : Bool :=
  let o := opOf c.cmd c.body
  opOk s t o && decide (c.arg0.toNat < 64) && fld c.body 0x23 1 == 0 && fld c.body 0x2C 4 == 0 &&
    (if c.cmd = 0x104 then fld c.body 0 8 == 0 && bits c.arg0.toNat 1 0 == 0
     else if c.cmd = 0x103 then true
     else fld c.body 0x10 8 == 0 && bits c.arg0.toNat 5 4 == 0)

/-! ## Faults (08 R426, R427) -/

def modAsyUnit (rt : Bool) (f : AssayUnit → AssayUnit) (s : State) : State :=
  s.setAsy (if rt then { s.asy with rtUnit := f s.asy.rtUnit } else { s.asy with qUnit := f s.asy.qUnit })

/-- An uncorrectable error or poisoned input: an upset, and ASY_FAULT (08 R426, R429; 12 class 0x09). A library word's error
marks its range damaged. -/
def asyFault (rt : Bool) (op : Nat) (entry : Option Nat) (injected : Bool) (s : State) : State :=
  let unit := if rt then 0 else 1
  let s1 := modAsyUnit rt (fun u => { u with faults := satInc u.faults }) s
  let s2 := match entry with
    | some i => s1.setAsy { s1.asy with ranges := (s1.asy.ranges.map fun r =>
        if r.first ≤ i ∧ i < r.first + r.count then { r with damaged := true } else r) }
    | none => s1
  noticeUnit 0x0801 (le1 unit ++ le1 (op % 256) ++ [0, 0] ++ le4 (entry.getD 0xFFFFFFFF))
    (upset 9 unit 1 false injected 0 0 s2)

/-- The search names a damaged range. -/
def damagedIn (s : State) (o : AssayOp) : Bool :=
  s.asy.ranges.any fun r => r.damaged && decide (r.first < o.libFirst + o.libCount) && decide (o.libFirst < r.first + r.count)

/-- NaN keys that an operation has read (08 R405). -/
def countNans (rt : Bool) (n : Nat) (s : State) : State := modAsyUnit rt (fun u => { u with nanKeys := satAdd u.nanKeys n }) s

/-- Single-bit errors corrected (08 R426). -/
def countEcc (e : AsyEcc) (s : State) : State := s.setAsy { s.asy with eccCorr := s.asy.eccCorr + BitVec.ofNat 32 e.corrected }

/-- Counters of an operation that ran. -/
def countOp (rt : Bool) (discarded : Nat) (s : State) : State :=
  modAsyUnit rt (fun u => { u with ops := u.ops + 1, badBox := satAdd u.badBox discarded }) s

/-! ## Q commands (08 R415 to R418) -/

def entriesOf (n : Nat) (b : Bytes) : List Entry :=
  (List.range n).map fun i => { key := BitVec.ofNat 32 (fld b (8 * i) 4), payload := BitVec.ofNat 32 (fld b (8 * i + 4) 4), idx := i }

def entryBytes (l : List Entry) : Bytes := l.flatMap fun e => le4 e.key.toNat ++ le4 e.payload.toNat

/-- The summary and the output entries. -/
def outBytes (r : AsyOut) : Bytes :=
  le4 r.out.length ++ le4 (if r.nans = 0 then 0 else 1) ++ le4 r.nans ++ le4 r.discarded ++ entryBytes r.out

/-- A Q command fails for an ASSAY fault; a poisoned burst is named in the result (06 R331, 08 R426). -/
def asyFail (l : CmdList) (op : Nat) (entry : Option Nat) (poison : Option Long) (injected : Bool) (s : State) : State :=
  failList l stINTERNAL poison (asyFault false op entry injected s)

/-- A Q command whose input was delivered poisoned, or met the poison table (07 R387, R388; 08 R426). -/
def asyPoisoned (l : CmdList) (op : Nat) (poisonedAt : Option Long) (table : Option Nat) (s : State) : State :=
  match poisonedAt with
  | some a => asyFail l op none (some a) false s
  | none => asyFail l op none (table.map (BitVec.ofNat 64)) false (tablePoison 1 table s)

/-- The result is written at DST, or all but a lost burst, and the list goes on. A lost write is told as poisoned data is (07 R387,
R388). -/
def asyWrite (l : CmdList) (c : Cmd) (r : AsyOut) (lost : Option Long) (s : State) : State :=
  let b := outBytes r
  match resolve s l.tenant (bits c.arg0.toNat 3 2) (fld c.body 8 8) b.length true with
  | .inl st => failCmd l st s
  | .inr d =>
    let gone := lostAt lost d b.length
    let s1 := writePlaceBut gone d b (countOp false r.discarded s)
    match gone with
    | some a => asyFail l c.cmd none (some (BitVec.ofNat 64 a)) false s1
    | none => if hostFails s true d b.length then dmaFail l s else advance l s1

/-- The order that MERGE needs (08 R408). -/
def mergeOrdered (o : AssayOp) (l : List Entry) : Bool :=
  o.cmd != 0x101 || (ordered o.dir o.fmt (l.take o.nA) && ordered o.dir o.fmt (l.drop o.nA))

/-- Boxes whose reserved field is not zero (08 R414, Table 8.3). -/
def boxReserved (n : Nat) (b : Bytes) : Bool := (List.range n).any fun i => fld b (16 * i + 4) 4 != 0

/-- SORT, MERGE, TOPK and NMS: every input is read before any output is written (08 R416), and its NaN keys are counted as it is
read (08 R405). -/
def sortLike (poisonedAt lost : Option Long) (ecc : AsyEcc) (s : State) (l : CmdList) (c : Cmd) : State :=
  let o := opOf c.cmd c.body
  let n2 := if c.cmd = 0x103 then 16 * o.n else 0
  if !bodyOk s l.tenant c || !streamHeld s l.tenant (c.arg1.toNat % 2 ^ 32) then failCmd l stBAD_PARAM s
  else match resolve s l.tenant (bits c.arg0.toNat 1 0) (fld c.body 0 8) (8 * o.n) false with
    | .inl st => failCmd l st s
    | .inr a =>
      match (if c.cmd = 0x103 then resolve s l.tenant (bits c.arg0.toNat 5 4) (fld c.body 0x10 8) n2 false else .inr a) with
      | .inl st => failCmd l st s
      | .inr x =>
        let table := (poisonAt s a (8 * o.n)).or (poisonAt s x n2)
        if hostFails s true a (8 * o.n) || hostFails s true x n2 then dmaFail l s
        else if poisonedAt.isSome || table.isSome then asyPoisoned l c.cmd poisonedAt table s
        else if ecc.uncorrectable then asyFail l c.cmd none none false (countEcc ecc s)
        else
          let ins := entriesOf o.n (readPlace s a (8 * o.n))
          let boxes := readPlace s x n2
          let s1 := countEcc ecc (countNans false (nanCount o.fmt ins) s)
          if !mergeOrdered o ins || boxReserved (n2 / 16) boxes then failCmd l stBAD_PARAM s1
          else asyWrite l c (runEntries o ins fun i => boxOf (boxes.drop (16 * i))) lost s1

/-- SORT. -/
def execSort (x : AsyErrors) (s : State) : Host.Outcome State Fault Refusal :=
  .next (withCmd 4 0x100 s (sortLike x.poisonedAt x.lost x.ecc s))

/-- MERGE: input A is the first N_A entries, so that ties by index keep A before B (08 R402, R408). -/
def execMerge (x : AsyErrors) (s : State) : Host.Outcome State Fault Refusal :=
  .next (withCmd 4 0x101 s (sortLike x.poisonedAt x.lost x.ecc s))

/-- TOPK (08 R409). -/
def execTopk (x : AsyErrors) (s : State) : Host.Outcome State Fault Refusal :=
  .next (withCmd 4 0x102 s (sortLike x.poisonedAt x.lost x.ecc s))

/-- NMS. -/
def execNms (x : AsyErrors) (s : State) : Host.Outcome State Fault Refusal :=
  .next (withCmd 4 0x103 s (sortLike x.poisonedAt x.lost x.ecc s))

/-- NN_SEARCH: `libError` names a library entry whose word failed. -/
def nnSearch (poisonedAt lost : Option Long) (ecc : AsyEcc) (libError : Option Nat) (s : State) (l : CmdList) (c : Cmd) : State :=
  let o := opOf c.cmd c.body
  if !bodyOk s l.tenant c || !streamHeld s l.tenant (c.arg1.toNat % 2 ^ 32) then failCmd l stBAD_PARAM s
  else match resolve s l.tenant (bits c.arg0.toNat 5 4) (fld c.body 0x10 8) (128 * o.q) false with
    | .inl st => failCmd l st s
    | .inr x =>
      let table := poisonAt s x (128 * o.q)
      if hostFails s true x (128 * o.q) then dmaFail l s
      else if damagedIn s o then asyFail l c.cmd none none false s
      else if poisonedAt.isSome || table.isSome then asyPoisoned l c.cmd poisonedAt table s
      else if libError.isSome || ecc.uncorrectable then asyFail l c.cmd libError none false (countEcc ecc s)
      else
        let b := readPlace s x (128 * o.q)
        asyWrite l c (nnRun s.asy.lib o ((List.range o.q).map fun i => (b.drop (128 * i)).take 128)) lost (countEcc ecc s)

def execNnSearch (x : AsyErrors) (libError : Option Nat) (s : State) : Host.Outcome State Fault Refusal :=
  .next (withCmd 4 0x104 s (nnSearch x.poisonedAt x.lost x.ecc libError s))

/-! ## The library store (08 R419 to R422) -/

/-- A recipe held names library entries of a range. -/
def rangePinned (s : State) (first count : Nat) : Bool :=
  s.rcp.recipes.any fun r => recipeHeld s r.handle && bit r.image.rflags 1 &&
    decide (r.image.partOp.libFirst < first + count) && decide (first < r.image.partOp.libFirst + r.image.partOp.libCount)

/-- Entries as LIB_LOAD writes them: COUNT vectors, then COUNT labels. -/
def loadedEntries (first count : Nat) (b : Bytes) : List LibEntry :=
  (List.range count).map fun i =>
    { index := first + i, vec := (b.drop (128 * i)).take 128, label := fld b (128 * count + 2 * i) 2 }

/-- A range is whole again when a load covers it (08 R426). -/
def mendRange (first count : Nat) (r : LibRange) : LibRange :=
  if first ≤ r.first ∧ r.first + r.count ≤ first + count then { r with damaged := false } else r

/-- LIB_LOAD. -/
def libLoad (poisonedAt : Option Long) (ecc : AsyEcc) (s : State) (l : CmdList) (c : Cmd) : State :=
  let first := fld c.body 8 4
  let count := fld c.body 12 4
  if 4 ≤ c.arg0.toNat ∨ count < 1 ∨ !streamHeld s l.tenant (c.arg1.toNat % 2 ^ 32) then failCmd l stBAD_PARAM s
  else if !inRanges s l.tenant first count || rangePinned s first count then failCmd l stDENIED s
  else match resolve s l.tenant (bits c.arg0.toNat 1 0) (fld c.body 0 8) (130 * count) false with
    | .inl st => failCmd l st s
    | .inr a =>
      let table := poisonAt s a (130 * count)
      if hostFails s true a (130 * count) then dmaFail l s
      else if poisonedAt.isSome || table.isSome then asyPoisoned l c.cmd poisonedAt table s
      else if ecc.uncorrectable then asyFail l c.cmd none none false (countEcc ecc s)
      else
        let new := loadedEntries first count (readPlace s a (130 * count))
        let s1 := countEcc ecc s
        advance l (s1.setAsy { s1.asy with
          lib := (s1.asy.lib.filter fun e => !(decide (first ≤ e.index) && decide (e.index < first + count))) ++ new
          ranges := s1.asy.ranges.map (mendRange first count) })

def execLibLoad (x : LoadErrors) (s : State) : Host.Outcome State Fault Refusal :=
  .next (withCmd 4 0x110 s (libLoad x.poisonedAt x.ecc s))

/-- ASY_LIB_DEFINE (08 R419, 15 R709). -/
def execAsyLibDefine (r : Ref) (s : State) : Host.Outcome State Fault Refusal :=
  .next (runOp 0x0802 r s fun p s =>
    let first := fld p.params 0 4
    let count := fld p.params 4 4
    let owner := fld p.params 8 1
    let clash := s.asy.ranges.any fun x => decide (x.first < first + count) && decide (first < x.first + x.count)
    if 65535 < first then refuse p stBAD_PARAM 0x20 s
    else if count < 1 ∨ 65536 < first + count then refuse p stBAD_PARAM 0x24 s
    else if s.kw.numVfs < owner then refuse p stBAD_PARAM 0x28 s
    else if 1 < fld p.params 9 1 then refuse p stBAD_PARAM 0x29 s
    else if fld p.params 9 1 = 1 then
      if clash then refuse p stDENIED noField s
      else if 32 ≤ s.asy.ranges.length then refuse p stBAD_PARAM noField s
      else ok p [] (s.setAsy { s.asy with
        ranges := s.asy.ranges ++ [{ first := first, count := count, tenant := owner, damaged := false }] })
    else match s.asy.ranges.find? fun x => x.first == first && x.count == count && x.tenant == owner with
      | none => refuse p stBAD_PARAM 0x20 s
      | some x =>
        if rangePinned s first count then refuse p stDENIED noField s
        else ok p [] (s.setAsy { s.asy with ranges := s.asy.ranges.filter (· != x) }))

/-- ASY_STATUS (08 Table 8.6; 15 Table 15.11, R691): each unit's counters in table order. -/
def execAsyStatus (r : Ref) (s : State) : Host.Outcome State Fault Refusal :=
  .next (runOp 0x0801 r s fun p s =>
    let unit (u : AssayUnit) (ecc fenced : Bytes) :=
      le8 u.ops.toNat ++ le4 u.nanKeys.toNat ++ le4 u.badBox.toNat ++ ecc ++ le4 u.faults.toNat ++ fenced
    let ranges := s.asy.ranges.flatMap fun x =>
      le4 x.first ++ le4 x.count ++ le1 x.tenant ++ le1 (b2n (rangePinned s x.first x.count)) ++ le1 (b2n x.damaged) ++ [0]
    ok p (unit s.asy.rtUnit (le4 s.asy.eccCorr.toNat) (le4 s.asy.fenced.toNat) ++ unit s.asy.qUnit [] [] ++ ranges) s)

/-! ## The RT unit (08 R423 to R427; 09 R442 to R444) -/

/-- The per-tile operation of a recipe on a tile's candidates. -/
def tileOpRun (im : RecipeImage) (m : ModelResult) : AsyOut :=
  let cands := m.cands.mapIdx fun i c => ({ key := c.1, payload := c.2, idx := i } : Entry)
  let o := { im.tileOp with mode := Nat.lor im.tileOp.mode 2 }
  runEntries o cands fun i => match m.boxes[i]? with
    | some x => { x0 := x.1, x1 := x.2.1, y0 := x.2.2.1, y1 := x.2.2.2 }
    | none => { x0 := 0, x1 := 0, y0 := 0, y1 := 0 }

/-- Embedding `i` of a tile result. -/
def embedOf (m : ModelResult) (i : Nat) : Bytes :=
  match (if m.emb then m.embeds[i]? else none) with
  | some e => padTo 128 e
  | none => (List.range 128).map Config.absentEmbed

/-- A candidate of a DEFECT tile: column and scan line of its box (09 Table 9.6). -/
def candOf (s : State) (t : Tile) (m : ModelResult) (e : Entry) : Candidate :=
  let b := (m.boxes[e.idx]?).getD (0, 0, 0, 0)
  { score := e.key, view := t.view, col := b.1
    spos := BitVec.ofInt 32 ((t.sposFirst.toNat : Int) + b.2.2.1 * (tgOf s t.view).p), embed := embedOf m e.idx, verdict := 0, label := 0 }

/-- Class of a tile with a result: HOLD or UNSURE reason, 0 for CLEAN or DEFECT; and whether it is DEFECT (09 "From tile
outcomes to a verdict"; R443). -/
def classTile (im : RecipeImage) (m : ModelResult) (nan : Bool) : Nat × Bool :=
  if f32NaN m.score || nan then (0x21, false)
  else if f32Ge m.score im.tRej then (if m.cands.isEmpty then (0x20, false) else (0, true))
  else if f32Lt m.score im.tPass then (0, false)
  else (0x20, false)

/-- What a tile with a result brings to its parts, given the entries that its per-tile operation put out. -/
def resultFold (s : State) (im : RecipeImage) (t : Tile) (m : ModelResult) (out : List Entry) (nan : Bool) : Fold :=
  let (reason, defect) := classTile im m nan
  { tile := t, hold := reason != 0, reason := reason, score := some m.score
    cands := if defect then out.map (candOf s t m) else [] }

/-- Verdict on a candidate from its nearest entry (09 "From tile outcomes to a verdict"). -/
def judge (im : RecipeImage) (near : Option Entry) (c : Candidate) : Candidate :=
  match near with
  | none => { c with verdict := 3 }
  | some e =>
    let label := bits e.payload.toNat 31 16
    let within := if im.partOp.metric = 0 then decide (e.key.toNat ≤ im.distMax) else Config.dotWithin e.key im.distMax
    { c with label := label, verdict := if !within then 3 else if im.sevRej ≤ label / 4096 then 1 else 2 }

/-- The per-part search judges every retained candidate (09 R442). -/
def judgePart (s : State) (im : RecipeImage) (p : Part) : Part :=
  let o := { im.partOp with mode := Nat.lor im.partOp.mode 2 }
  { p with partOp := 2, cands := p.cands.map fun c => judge im ((nnOne s.asy.lib o c.embed).head?) c }

/-- Add a reason to the unissued part. -/
def partReason (recipe : Nat) (id : Int) (reason : Nat) (s : State) : State :=
  modPart recipe id (fun p => if p.issued then p else { p with reasons := addReason reason p.reasons, partOp := 2 }) s

/-- Operation code of an RT operation. -/
def rtCmd (im : RecipeImage) (x : RtOp) : Nat := if x.part.isSome then im.partOp.cmd else im.tileOp.cmd

/-- A lost RT operation: HOLD with ASSAY_FAULT (08 R426). -/
def rtLost (x : RtOp) (s : State) : State :=
  match x.part, x.outcome with
  | some id, _ => partReason x.recipe id 0x15 s
  | none, some o => foldHold x.recipe o.tile 0x15 s
  | none, none => s

/-- An RT operation that completed. -/
def rtDone (r : Recipe) (x : RtOp) (s : State) : State :=
  match x.part, x.outcome with
  | some id, _ =>
    match findPart s x.recipe id with
    | some _ => countOp true 0 (modPart x.recipe id (judgePart s r.image) s)
    | none => s
  | none, some o =>
    match o.result with
    | some m =>
      let res := tileOpRun r.image m
      foldTile x.recipe (resultFold s r.image o.tile m res.out (res.nans != 0))
        (countOp true res.discarded (countNans true res.nans s))
    | none => s
  | none, none => s

/-- The generation of a recipe: of its admission while held. -/
def recipeFence (s : State) (h : Nat) : Word :=
  match findAdm s h with
  | some a => a.fence
  | none => ((findRecipe s h).map (·.fence)).getD 0

/-- The completion is kept with what it changed, for a bump in the same cycle (08 R425). -/
def keepRt (x : RtOp) (before s : State) : State :=
  s.setAsy { s.asy with rtLast := some { at_ := s.now, op := x, parts := before.hm.parts, unit := before.asy.rtUnit } }

/-- ASSAY_RT_COMPLETE: the operation invoked first completes, is lost, or is discarded as fenced. -/
def execAssayRtComplete (ecc : AsyEcc) (libError : Option Nat) (s : State) : Host.Outcome State Fault Refusal :=
  .next (
    if !domOn s 2 then s
    else match s.asy.rt with
      | [] => s
      | x :: rest =>
        let s1 := countEcc ecc (s.setAsy { s.asy with rt := rest })
        match findRecipe s x.recipe with
        | none => s1.setAsy { s1.asy with fenced := satInc s1.asy.fenced }
        | some r =>
          if recipeFence s x.recipe ≠ x.fence then s1.setAsy { s1.asy with fenced := satInc s1.asy.fenced }
          else if ecc.uncorrectable || (x.part.isSome && (libError.isSome || damagedIn s r.image.partOp)) then
            rtLost x (asyFault true (rtCmd r.image x) (if x.part.isSome then libError else none) false s1)
          else keepRt x s1 (rtDone r x s1))

end Sys2Proof.Machine
end

