-- ==== Sys2Proof/Machine/PlanishOps.lean ====
section
/-! DEFINITION. The Image group's opcodes (15 Table 15.8) other than PLN_CAL_LOAD, TAP_END, and WINDOW_BOUNDARY (01 R47), at
which every deferred setting takes effect and the once-per-window work runs. -/

namespace Sys2Proof.Machine

/-! ## Configuration (05 R248, R251, R272, R273) -/

/-- The view is used by a held admission or by an open tap (05 R248). -/
def viewUsed (s : State) (v : Nat) : Bool :=
  s.rcp.recipes.any (fun r => recipeHeld s r.handle && bit r.image.views v) ||
    (s.rcp.cacheCfg.any fun c => c.capturing && c.view == v) ||
    s.pln.taps.any fun t => if t.point < 3 then (plnChan s t.source).view == some v else t.source == v

/-- A lane feeds the channel, or its source, from a generator other than `tg` (05 R251). -/
def chanClash (s : State) (source tg : Nat) : Bool := (lanesTo s source).any fun l => (laneOf s l).cfg.tg != tg

/-- Channels of the views of one surface. -/
def surfaceCount (s : State) (bottom : Bool) : Nat :=
  (((List.range 4).filter fun v => (viewOf s v).bottom == bottom).map fun v => (viewChans s v).length).sum

/-- More than two channels cover some column of the view (05 R273). -/
def tripleCover (s : State) (v : Nat) : Bool :=
  let spans := (viewChans s v).map fun n => chanSpan (plnChan s n)
  spans.any fun a => decide (2 < (spans.filter fun b => decide (b.1 ≤ a.1) && decide (a.1 ≤ b.2)).length) &&
    decide (0 ≤ a.1) && decide (a.1 < (viewOf s v).width) ||
    (decide (2 < (spans.filter fun b => decide (b.1 ≤ 0) && decide (0 ≤ b.2)).length))

/-- The channel that PLN_CHANNEL_CONFIG makes of an old one. -/
def channelOf (b : Bytes) (old : Channel) : Channel :=
  { Channel.reset with
    view := some (fld b 1 1), replace := fld b 2 1 == 1
    twin := if fld b 3 1 = 0xFF then none else some (fld b 3 1)
    format := fld b 4 1, flip := fld b 5 1 == 1, shift := fld b 6 1, width := fld b 8 2, ofs := sfld b 12 4
    scale := fld b 16 4, dark := old.dark, flat := old.flat, defects := old.defects, late := old.late, dup := old.dup
    conc := old.conc, concNotice := old.concNotice }

/-- First parameter of PLN_CHANNEL_CONFIG out of range. -/
def channelBad (b : Bytes) : Option Nat :=
  if 31 < fld b 0 1 then some 0x20
  else if 3 < fld b 1 1 then some 0x21
  else if 1 < fld b 2 1 then some 0x22
  else if fld b 3 1 ≠ 0xFF ∧ (31 < fld b 3 1 ∨ fld b 3 1 = fld b 0 1) then some 0x23
  else if !isPixel (fld b 4 1) then some 0x24
  else if 1 < fld b 5 1 then some 0x25
  else if sfld b 12 4 < -4096 ∨ 32767 < sfld b 12 4 then some 0x2C
  else if fld b 16 4 < 32768 ∨ 131072 < fld b 16 4 then some 0x30
  else none

/-- Field at fault in the grouping that a state would have (05 R251, R273). -/
def groupBad (s : State) (n : Nat) : Option Nat :=
  let c := plnChan s n
  let v := c.view.getD 0
  if 12 < (viewChans s v).length ∨ 12 < surfaceCount s (viewOf s v).bottom then some 0x21
  else if (viewChans s v).any fun m => (plnChan s m).replace != c.replace then some 0x22
  else if (viewOf s v).configured && chanClash s (sourceOf s n) (viewOf s v).tg then some 0x21
  else if tripleCover s v then some 0x2C
  else none

/-- A view starts its row and its statistics block afresh. -/
def clearRow (x : View) : View :=
  { x with rowLines := [], rowOpen := none, rowReplaced := false, placed := [], statLines := [], profile := [], levelSum := (0, 0) }

/-- Nothing stays in the pipeline of a view whose channels or shape change, so that its channels stay aligned (05 R258). -/
def emptyView (v : Nat) (s : State) : State :=
  let empty (c : Channel) : Channel :=
    if c.view = some v then { c with slots := [], lines := [], history := [], temporal := [], settled := [], runs := [] } else c
  modView v clearRow (s.setPln { s.pln with chan := s.pln.chan.map empty })

/-- PLN_CHANNEL_CONFIG. -/
def execPlnChannelConfig (r : Ref) (s : State) : Host.Outcome State Fault Refusal :=
  .next (runOp 0x0502 r s fun p s =>
    let b := p.params
    let n := fld b 0 1
    match channelBad b with
    | some off => refuse p stBAD_PARAM off s
    | none =>
      if viewUsed s (fld b 1 1) || (plnChan s n).view.any (viewUsed s) then refuse p stDENIED noField s
      else
        let s0 := match (plnChan s n).view with
          | some v => emptyView v s
          | none => s
        let s1 := emptyView (fld b 1 1) (modPlnChan n (channelOf b) s0)
        match groupBad s1 n with
        | some off => refuse p stBAD_PARAM off s
        | none => ok p [] s1)

def pow2In (lo hi n : Nat) : Bool := decide (lo ≤ n) && decide (n ≤ hi) && 2 ^ Nat.log2 n == n

/-- First parameter of PLN_VIEW_CONFIG out of range (05 R261, R272, R281, R284). -/
def viewBad (b : Bytes) : Option Nat :=
  if 3 < fld b 0 1 then some 0x20
  else if 1 < fld b 1 1 then some 0x21
  else if 7 < fld b 2 1 then some 0x22
  else if !([1, 2, 6].contains (fld b 3 1)) then some 0x23
  else if fld b 4 2 < 512 ∨ 32768 < fld b 4 2 then some 0x24
  else if fld b 6 2 < 64 ∨ 1024 < fld b 6 2 ∨ fld b 6 2 % 64 ≠ 0 then some 0x26
  else if !pow2In 16 1024 (fld b 8 2) then some 0x28
  else if 1000 < fld b 10 2 then some 0x2A
  else if 16 < fld b 12 1 then some 0x2C
  else none

/-- PLN_VIEW_CONFIG. -/
def execPlnViewConfig (r : Ref) (s : State) : Host.Outcome State Fault Refusal :=
  .next (runOp 0x0503 r s fun p s =>
    let b := p.params
    let v := fld b 0 1
    match viewBad b with
    | some off => refuse p stBAD_PARAM off s
    | none =>
      if viewUsed s v then refuse p stDENIED noField s
      else
        let s1 := modView v (fun x => { x with
          configured := true, bottom := fld b 1 1 == 1, tg := fld b 2 1, tileFmt := fld b 3 1, width := fld b 4 2
          tileW := fld b 6 2, tileH := fld b 8 2, concLimit := fld b 10 2, maxGap := fld b 12 1 }) s
        if 12 < surfaceCount s1 (fld b 1 1 == 1) then refuse p stBAD_PARAM 0x21 s
        else if (viewChans s1 v).any fun n => chanClash s1 (sourceOf s1 n) (fld b 2 1) then refuse p stBAD_PARAM 0x22 s
        else if tripleCover s1 v then refuse p stBAD_PARAM 0x24 s
        else ok p [] (emptyView v s1))

/-! ## Deferred image settings (05 R249) -/

/-- A setting of the image group: at once with APPLY_STATIONARY on a strip at standstill, else deferred. -/
def imgReprog (p : Packet) (where_ : Nat) (what : Reprog) (s : State) : State :=
  if movingRefused p s then refuse p stBUSY noField s
  else if p.atOnce then
    done p stACCEPTED [] (noticeApplied p.principal p.opcode where_ (spos s) (applyImage what (dropReprog what s)))
  else done p stACCEPTED [] (deferReprog what p.principal p.opcode s)

/-- PLN_FILTER_CONFIG (05 R267, R269, R276, R277). -/
def execPlnFilterConfig (r : Ref) (s : State) : Host.Outcome State Fault Refusal :=
  .next (runOp 0x0505 r s fun p s =>
    let b := p.params
    let v := fld b 0 1
    let h0 := fld b 2 2
    let h1 := fld b 4 1
    let h2 := fld b 5 1
    if 3 < v then refuse p stBAD_PARAM 0x20 s
    else if 256 < h0 ∨ h0 + 2 * h1 + 2 * h2 ≠ 256 then refuse p stBAD_PARAM 0x22 s
    else if 6 < fld b 6 1 then refuse p stBAD_PARAM 0x26 s
    else if fld b 10 1 < 8 ∨ 16 < fld b 10 1 then refuse p stBAD_PARAM 0x2A s
    else if 8 < fld b 11 1 then refuse p stBAD_PARAM 0x2B s
    else imgReprog p v
      (.plnFilter v h0 h1 h2 (fld b 6 1) (fld b 8 2) (fld b 10 1) (fld b 11 1) (fld b 12 2) (fld b 14 2)) s)

/-- PLN_LEVEL_BOUNDS (05 R278). -/
def execPlnLevelBounds (r : Ref) (s : State) : Host.Outcome State Fault Refusal :=
  .next (runOp 0x0506 r s fun p s =>
    let b := p.params
    let v := fld b 0 1
    let lo := fld b 4 2
    let hi := fld b 6 2
    if 3 < v then refuse p stBAD_PARAM 0x20 s
    else if lo < 1024 ∨ 16384 < lo then refuse p stBAD_PARAM 0x24 s
    else if hi < 1024 ∨ 16384 < hi ∨ hi < lo then refuse p stBAD_PARAM 0x26 s
    else imgReprog p v (.plnLevel v (fld b 2 2) lo hi) s)

/-! ## Statistics and taps -/

/-- The object a handle names serves as a ring of the packet's tenant: none, or the refusal (15 R693, 03 R138, 07 R391). -/
def ringBad (p : Packet) (h : Nat) (off : Nat) (s : State) : Option (Half × Nat) :=
  match objOf s h with
  | none => some (stBAD_PARAM, off)
  | some o =>
    if !mayUse p o.tenant then some (stDENIED, noField)
    else if o.lost then some (stRETIRED, noField)
    else if o.tier ≠ .ingot then some (stBAD_PARAM, off)
    else none

/-- PLN_STAT_CONFIG (05 R288, 15 R693). -/
def execPlnStatConfig (r : Ref) (s : State) : Host.Outcome State Fault Refusal :=
  .next (runOp 0x0510 r s fun p s =>
    let b := p.params
    let v := fld b 0 1
    let ring := fld b 8 4
    if 3 < v then refuse p stBAD_PARAM 0x20 s
    else if !pow2In 64 4096 (fld b 2 2) then refuse p stBAD_PARAM 0x22 s
    else if !pow2In 16 512 (fld b 4 2) then refuse p stBAD_PARAM 0x24 s
    else if viewUsed s v then refuse p stDENIED noField s
    else match ringBad p ring 0x28 s with
      | some (st, off) => refuse p st off s
      | none => ok p [] (modView v (fun x => { x with
          statBlock := fld b 2 2, statBinW := fld b 4 2, statRing := ring, statWidx := 0, statLines := [] }) s))

/-- PLN_STATUS (15 Table 15.8). -/
def plnStatusBytes (s : State) (v : Nat) : Bytes :=
  let x := viewOf s v
  le4 x.g ++ le4 (b2n x.pinned) ++ le4 x.replaced.toNat ++ le4 x.statLost.toNat ++ le4 x.statWidx.toNat ++ le4 x.statRidx.toNat ++
    (viewChans s v).flatMap fun n =>
      let c := plnChan s n
      le4 c.late.toNat ++ le4 c.dup.toNat ++ le8 c.conc.toNat

def execPlnStatus (r : Ref) (s : State) : Host.Outcome State Fault Refusal :=
  .next (runOp 0x0501 r s fun p s =>
    let v := fld p.params 0 1
    if 3 < v then refuse p stBAD_PARAM 0x20 s else ok p (plnStatusBytes s v) s)

/-- Worst-case bytes per metre of a tap (05 R291): its records of every scan line, or of every tile. -/
def tapDemand (s : State) (point source : Nat) : Nat :=
  let v := if point < 3 then ((plnChan s source).view).getD 0 else source
  let x := viewOf s v
  let (n, d) := puPerMetre s
  let p := max 1 (tgOf s v).p
  if point = 5 then ceilDiv (n * tileCols s v * (32 + tileBytes x.tileFmt x.tileW (rowH s v))) (d * p * rowH s v)
  else
    let bytes := if point = 0 then 32 + 2 * (plnChan s source).width
      else if point < 3 then 32 + 4 * (plnChan s source).width else 32 + 4 * x.width
    ceilDiv (n * bytes) (d * p)

/-- PLN_TAP_OPEN (05 R291, 00 R9). -/
def execPlnTapOpen (r : Ref) (pick : Nat) (s : State) : Host.Outcome State Fault Refusal :=
  .next (runOp 0x0520 r s fun p s =>
    let b := p.params
    let point := fld b 0 1
    let source := fld b 1 1
    let ring := fld b 12 4
    if 5 < point then refuse p stBAD_PARAM 0x20 s
    else if (point < 3 ∧ 31 < source) ∨ (3 ≤ point ∧ 3 < source) then refuse p stBAD_PARAM 0x21 s
    else if !inHorizon s (BitVec.ofNat 32 (fld b 4 4)) then refuse p stREFUSED_HORIZON 0x24 s
    else match ringBad p ring 0x2C s with
      | some (st, off) => refuse p st off s
      | none =>
        if 8 ≤ s.pln.taps.length then refuse p stBUSY noField s
        else
          let d := tapDemand s point source
          let h := freshHandle s pick fun h => !(s.pln.taps.any fun t => t.handle % 8 == h % 8)
          let q : Request :=
            { kind := .tap, cls := p.cls, tenant := p.tenant, demands := [⟨4, p.cls, d⟩, ⟨5, p.cls, d⟩], object := source
              vDecl := 0, recipe := 0 }
          let r := decideAdm q h s
          match r.payload with
          | some e => refuseWith p stREFUSED_BUDGET e r.state
          | none =>
            let t : Tap :=
              { handle := h, point := point, source := source, start := expand s (BitVec.ofNat 32 (fld b 4 4))
                length := fld b 8 4, ring := ring, widx := 0, seq := 0, drop := 0, tenant := p.tenant }
            ok p (le4 h) (r.state.setPln { r.state.pln with taps := r.state.pln.taps ++ [t] }))

/-- PLN_TAP_CLOSE. -/
def execPlnTapClose (r : Ref) (s : State) : Host.Outcome State Fault Refusal :=
  .next (runOp 0x0521 r s fun p s =>
    match admTarget p (fld p.params 0 4) 0x20 [.tap] s with
    | .inl (st, off) => refuse p st off s
    | .inr a => ok p [] (release a s))

/-- TAP_END: the HWM has passed the start plus the length (05 R294). -/
def execTapEnd (h : Nat) (s : State) : Host.Outcome State Fault Refusal :=
  .next (match s.pln.taps.find? fun t => t.handle == h with
    | none => s
    | some t =>
      if t.length = 0 ∨ !reached s (t.start + BitVec.ofNat 64 t.length) then s
      else
        let s1 := endTap h 0 s
        match findAdm s1 h with
        | some a => release a s1
        | none => s1)

/-! ## WINDOW_BOUNDARY -/

/-- Opcodes whose deferred settings the Record holds (14 Table 14.6, 15 R695). -/
def recordsSetting (what : Reprog) : Bool :=
  match what with
  | .encFilt _ _ => true
  | .ssi _ => true
  | _ => false

/-- Channel or view that PLN_APPLIED names. -/
def placeOf (what : Reprog) : Nat :=
  match what with
  | .plnFilter v _ _ _ _ _ _ _ _ _ => v
  | .plnLevel v _ _ _ => v
  | .cal c _ _ => c
  | _ => 0

def isImage (what : Reprog) : Bool :=
  match what with
  | .plnFilter _ _ _ _ _ _ _ _ _ _ => true
  | .plnLevel _ _ _ _ => true
  | .cal _ _ _ => true
  | _ => false

/-- One deferred setting takes effect at boundary `b`, with its notice (01 R77, 04 R192, 05 R249). -/
def applyDeferred (b : Long) (r : PendingReprog) (s : State) : State :=
  if isImage r.what then
    noticeApplied r.issuer r.opcode (placeOf r.what) (low32 b) (s.setPln { s.pln with due := s.pln.due ++ [r] })
  else
    let s1 := match r.what with
      | .trigger tg p f => applyTrigger tg p f (posI b) s
      | w => applyPosition w s
    let s2 := if recordsSetting r.what then wantRecord 4 s1 else s1
    noticeHolderAt r.issuer 0x0203 (low32 b) (le2 r.opcode.toNat) s2

def applyEach (b : Long) (l : List PendingReprog) (s : State) : State :=
  match l with
  | [] => s
  | r :: t => applyEach b t (applyDeferred b r s)

/-- Every setting due at boundary `b`. -/
def applyDue (b : Long) (s : State) : State :=
  let due := s.pos.pendingRp.filter fun r => !after r.boundary b
  applyEach b due (s.setPos { s.pos with pendingRp := s.pos.pendingRp.filter fun r => after r.boundary b })

/-- TOKEN_REFILL: the buckets of every class and stream (07 R378). -/
def refillTokens (s : State) : State :=
  s.setDraw { s.draw with
    tokS := s.draw.tokS.mapIdx fun c t => capBucket (t + refillOf s (classDemand s 4 c)) (refillOf s (classDemand s 4 c))
    tokI := s.draw.tokI.mapIdx fun c t => capBucket (t + refillOf s (classDemand s 5 c)) (refillOf s (classDemand s 5 c))
    streams := (s.draw.streams.map fun x => { x with
      tokS := capBucket (x.tokS + refillOf s x.sheet) (refillOf s x.sheet)
      tokI := capBucket (x.tokI + refillOf s x.ingot) (refillOf s x.ingot) }) }

/-- Gray code to binary. -/
def grayVal (n g : Nat) : Nat :=
  match n with
  | 0 => g
  | n + 1 => Nat.xor g (grayVal n (g / 2))

/-- Position that an SSI word stands for, as a quotient in pu (01 R60, R61). -/
def ssiQuot (s : State) (w : Word) : Int × Nat :=
  let c := s.pos.ssi
  let raw := w.toNat % 2 ^ c.bits
  let v := if c.gray then grayVal c.bits raw else raw
  let (n, d) := puPerMetre s
  (((v : Int) - c.offset) * c.scale * n, d * 1000000000)

/-- Position in pu that an SSI word stands for. -/
def ssiPu (s : State) (w : Word) : Int := rnd 17 (ssiQuot s w).1 (ssiQuot s w).2

/-- ENC_SLIP: the SSI position and the PTB differ by more than the tolerance (01 R62). -/
def ssiCheck (w : Word) (s : State) : State :=
  if !s.pos.ssi.checkEn then s
  else
    let d := ssiPu s w - (posI (ptb s))
    if (s.pos.ssi.tol : Int) < (d.natAbs : Int) then
      noticeUnit 0x0213 (leInt 8 d) (s.setPos { s.pos with flags := s.pos.flags ||| 0x400 })
    else s

/-- OVER_ADM of the window (02 R120, R122). -/
def overAdmCheck (s : State) : State :=
  let o := decide (vEff s.led.vadmOver * s.pos.vFilt.2 < s.pos.vFilt.1.natAbs * 1000)
  if o = s.led.overAdm then s
  else noticeUnit 0x0303 (le1 (b2n o)) (s.setLed { s.led with overAdm := o })

/-- A lane in which an upset can be: enabled, out of TEST, and not held in CAP_FAULT. -/
def Lane.serving (x : Lane) : Bool := x.enabled && x.state != .test && x.state != .capFault

/-- The window's CRC check of one lane, over the whole window whatever the lane's state at its end, and a new CRCLIM (04 R181,
R239). -/
def laneWindow (l : Nat) (s : State) : State :=
  let x := laneOf s l
  let s1 := modLane l (fun x => { x with
    crcWindow := 0, cfg := { x.cfg with crcLim := x.crcNext.getD x.cfg.crcLim }, crcNext := none }) s
  if x.serving ∧ x.cfg.crcLim < x.crcWindow then laneUpset l 0x02 false s1 else s1

def laneWindows (ls : List Nat) (s : State) : State :=
  match ls with
  | [] => s
  | l :: r => laneWindows r (laneWindow l s)

/-- The gain the auto-level rule gives for the window, before clamping (05 R277). -/
def levelRaw (x : View) : Int :=
  let (sum, n) := x.levelSum
  if x.levelTarget = 0 then Config.levelAtZero x.g sum n
  else
    let t : Int := x.levelTarget
    (x.g : Int) + rnd 18 ((x.g : Int) * (t * n - sum)) (x.levelTarget * 2 ^ x.lk * n)

/-- AUTO_LEVEL_UPDATE of a view, with LOOP_PINNED at a bound (05 R277 to R279). -/
def autoLevel (v : Nat) (s : State) : State :=
  let x := viewOf s v
  let (lo, hi) := x.grange
  if x.levelSum.2 = 0 then s
  else
    let raw := levelRaw x
    let pin := decide (raw < lo) || decide ((hi : Int) < raw)
    let s1 := modView v (fun x => { x with g := (clampI lo hi raw).toNat, pinned := pin, levelSum := (0, 0) }) s
    if pin && quiet x.pinNotice (sTicks 1) s.now then
      noticeUnit 0x0C01 (le2 (0x0500 + v) ++ le1 (b2n (decide ((hi : Int) < raw))))
        (modView v (fun x => { x with pinNotice := some s.now }) s1)
    else s1

def autoLevels (vs : List Nat) (s : State) : State :=
  match vs with
  | [] => s
  | v :: r => autoLevels r (autoLevel v s)

/-- A trigger position before the boundary has not fired yet. -/
def trigBefore (s : State) (b : Long) : Bool :=
  (List.range 8).any fun tg => s.pos.pendingRp.any fun r => match r.what with
    | .trigger n _ _ => n == tg && !after r.boundary b &&
        (let g := getI s.lanes.tg tg TrigGen.reset; after b (posL (trigPos g g.nextK)))
    | _ => false

/-- The boundary is due: the HWM has reached it, and every trigger before it has fired. -/
def boundaryDue (s : State) : Bool :=
  s.pos.anchored && ctrlOn s && reached s s.pos.nextBoundary && !trigBefore s s.pos.nextBoundary

/-- The work of one boundary. -/
def boundary (w : Word) (s : State) : State :=
  let b := s.pos.nextBoundary
  let s1 := applyDue b s
  let s2 := s1.setLed { s1.led with vadmOver := s1.led.vadm }
  let s3 := autoLevels (List.range 4) (laneWindows (List.range 24) (overAdmCheck (ssiCheck w (refillTokens s2))))
  s3.setPos { s3.pos with nextBoundary := boundaryAfter s3.pos.shift b }

/-- WINDOW_BOUNDARY: `w` is the word read from the SSI port for the cross-check of R62. -/
def execWindowBoundary (w : Word) (s : State) : Host.Outcome State Fault Refusal :=
  .next (if boundaryDue s then boundary w s else s)

end Sys2Proof.Machine
end

