-- ==== Sys2Proof/Machine/Timeline.lean ====
section
/-! DEFINITION. Leads and the feed timeline (chapter 09): when a pulse can be on, whether it can be admitted, and what becomes
of an actuation entry. -/

namespace Sys2Proof.Machine

/-! ## Leads (09 "Actuation and lead compensation") -/

/-- T_L in us: the entry's lead and T_out. -/
def totalLead (us : Nat) : Nat := us + 20

/-- ceil of `us` microseconds at v_adm, in pu. -/
def puAtVAdm (s : State) (us : Nat) : Nat :=
  let (n, d) := puPerMetre s
  ceilDiv (us * vEff s.led.vadm * n) (1000000000000000 * d)

/-- ceil(T_L x v_adm_pu). -/
def leadAdm (s : State) (leadUs : Nat) : Nat := puAtVAdm s (totalLead leadUs)

/-- d_lead from the filtered speed; 0 while it is not positive. -/
def dLead (s : State) (leadUs : Nat) : Nat :=
  let (n, d) := puPerMetre s
  let v := s.pos.vFilt
  if v.1 ≤ 0 then 0 else ceilDiv (totalLead leadUs * v.1.toNat * n) (1000000000000 * v.2 * d)

/-! ## The feed timeline (09 R469 to R471) -/

/-- Length of the interval [target, P_off] in pu. -/
def tailOf (s : State) (e : ActEntry) : Nat :=
  if e.us then (if totalLead e.leadUs < e.length then puAtVAdm s (e.length - totalLead e.leadUs) else 0) else e.length

/-- Entries admitted on a feed. -/
def feedActs (s : State) (k : Nat) : List Act := s.hm.acts.filter fun a => a.entry.channel / 2 == k

/-- An admitted pulse stands against one on the channel with the current, in [on, off]. -/
def conflicts (ch ma : Nat) (on off : Int) (a : Act) : Bool :=
  decide (posI a.pOn ≤ off) && decide (on ≤ posI a.pOff) && (a.entry.channel == ch || decide (1200 < a.entry.loadMa + ma))

/-- The admitted pulse that lies first. -/
def earliestAct (l : List Act) : Option Act :=
  l.foldl (fun m a => match m with
    | none => some a
    | some b => if posI a.pOn < posI b.pOn then some a else some b) none

/-- admit_pulse: the shift, or the shift that would be needed. `fuel` exceeds the number of pulses on the feed. -/
def admitPulse (fuel : Nat) (acts : List Act) (e : ActEntry) (on off : Int) (shift : Nat) : Sum Nat Nat :=
  match fuel with
  | 0 => .inr shift
  | fuel + 1 =>
    match earliestAct (acts.filter (conflicts e.channel e.loadMa (on + shift) (off + shift))) with
    | none => .inr shift
    | some q =>
      let sh := (posI q.pOff + 1 - on).toNat
      if e.latest < sh then .inl sh else admitPulse fuel acts e on off sh

/-- What became of an entry that was put forward. -/
inductive ActVerdict where
  /-- admitted, moved by a shift -/
  | admitted (shift : Nat)
  /-- refused, with the outcome that is logged -/
  | refused (status : Half) (outcome : Nat) (needed : Nat)
deriving DecidableEq, Repr

/-- LENGTH is within Table 9.6: microseconds or position units. -/
def entryLengthOk (e : ActEntry) : Bool :=
  if e.us then decide (100 ≤ e.length) && decide (e.length ≤ 10000000) else decide (1 ≤ e.length) && decide (e.length ≤ 2 ^ 30)

/-- Offset in the entry of the first field that is outside Table 9.6, or of a CHANNEL that is no output (09 R460). -/
def entryBad (s : State) (e : ActEntry) : Option Nat :=
  if 31 < e.channel ∨ (chanOf s e.channel).dir ≠ 2 then some 0
  else if e.loadMa < 1 ∨ 1000 < e.loadMa then some 2
  else if !entryLengthOk e then some 8
  else if 500000 < e.leadUs then some 12
  else if 2 ^ 24 < e.latest then some 16
  else if 60000 < e.maxMs then some 20
  else none

/-- A pulse that spans `tail` from its target, as it stands on the timeline. -/
def spanOn (s : State) (e : ActEntry) (target : Long) : Int × Int :=
  (posI target - leadAdm s e.leadUs, posI target + tailOf s e)

/-- The judgement of R460, R461, R469, R471 and R473 on an entry at a 64-bit target. -/
def judgeAct (s : State) (e : ActEntry) (target : Long) : ActVerdict :=
  let k := e.channel / 2
  let (on, off) := spanOn s e target
  if (entryBad s e).isSome then .refused stBAD_PARAM 1 0
  else if 4096 ≤ s.hm.acts.length then .refused stBUSY 1 0
  else if (chanOf s e.channel).retired || (feedOf s k).retired then .refused stRETIRED 5 0
  else if on ≤ posI s.pos.hwm then .refused stTIMED_OUT 6 0
  else match admitPulse (s.hm.acts.length + 2) (feedActs s k) e on off 0 with
    | .inr shift => .admitted shift
    | .inl needed => .refused stREFUSED_BUDGET 1 needed

/-- HM_DELAYED, INTERLOCK, CAPPED, ACTLATE: counter `i`. -/
def bumpAct (i : Nat) (s : State) : State := s.setHm { s.hm with actCtr := bumpSat s.hm.actCtr i }

/-- Enter an admitted entry in the queue (09 R462, R469). -/
def commitAct (handle : Nat) (e : ActEntry) (target : Long) (shift : Nat) (recipe : Option Nat) (tenant : Nat) (s : State) : State :=
  let (on, off) := spanOn s e target
  let a : Act :=
    { handle := handle, entry := e, target := target + BitVec.ofNat 64 shift, shift := shift, pOn := posL (on + shift)
      pOff := posL (off + shift), recipe := recipe, tenant := tenant, state := .pending, onAt := 0, onSpos := 0 }
  let s1 := s.setHm { s.hm with acts := s.hm.acts ++ [a] }
  if shift = 0 then s1 else bumpAct 0 s1

/-- Count and log a refusal (09 R457, R461, R471, R474). -/
def refuseAct (e : ActEntry) (target : Long) (status : Half) (outcome : Nat) (recipe : Option Nat) (tenant : Nat) (s : State) : State :=
  let s1 := if status = stTIMED_OUT then bumpAct 3 s
    else if status = stREFUSED_BUDGET then s.setHm { s.hm with feedRef := bumpSat s.hm.feedRef (e.channel / 2) }
    else s
  logAct e recipe tenant outcome target 0 0 0 s1

/-- The entry of Table 2.5 for a timeline refusal (09 R471). -/
def timelineShort (cls : Nat) (e : ActEntry) (needed : Nat) : Bytes :=
  budgetPayload [{ budget := 7, inst := e.channel / 2, cls := cls, cause := 4, demand := needed, free := e.latest }]

/-- An actuation entry of Table 9.6. -/
def entryOfBytes (b : Bytes) : ActEntry :=
  { channel := fld b 0 1, us := bit (fld b 1 1) 0, loadMa := fld b 2 2, spos := BitVec.ofNat 32 (fld b 4 4), length := fld b 8 4
    leadUs := fld b 12 4, latest := fld b 16 4, maxMs := fld b 20 2, ref := BitVec.ofNat 64 (fld b 24 8) }

/-! ## Host entries (09 R431, R462, R469) -/

/-- What a host entry comes to: the admission handle with the target and shift, or the status and payload of the refusal. -/
structure HostAct where
  status : Half
  result : Bytes
  state : State
deriving DecidableEq, Repr

/-- Admit a host entry: budget SUPPLY before any other (02 R116), the actuation's own judgement, then a place in the Ledger's
table. -/
def hostAct (b : Bytes) (cls tenant pick : Nat) (s : State) : HostAct :=
  let e := entryOfBytes b
  let target := expand s e.spos
  let no (st : Half) (outcome : Nat) (res : Bytes) (s : State) : HostAct :=
    { status := st, result := res, state := refuseAct e target st outcome none tenant s }
  let bad := if (entryBad s e).any (· = 0) then some 0 else if 1 < fld b 1 1 then some 1 else
    (entryBad s e).or (if fld b 22 2 ≠ 0 then some 22 else none)
  if let some o := bad then no stBAD_PARAM 1 (le2 14 ++ le2 (0x20 + o)) s
  else if !inHorizon s e.spos then no stREFUSED_HORIZON 1 (le2 14 ++ le2 0x24) s
  else if !(supplyShorts s cls).isEmpty then
    no stBUSY 1 [] (countRefusal s) |> fun x => { x with status := stREFUSED_BUDGET, result := budgetPayload (supplyShorts s cls) }
  else match judgeAct s e target with
    | .refused st outcome needed =>
      no st outcome (if st = stREFUSED_BUDGET then timelineShort cls e needed else le2 14 ++ le2 noField) s
    | .admitted shift =>
      let h := freshHandle s pick fun _ => true
      let q : Request := { kind := .actuation, cls := cls, tenant := tenant, demands := [], object := e.channel, vDecl := 0, recipe := 0 }
      let r := decideAdm q h s
      match r.payload with
      | some pl => { status := stREFUSED_BUDGET, result := pl, state := refuseAct e target stBUSY 1 none tenant r.state }
      | none =>
        { status := stOK, result := le4 h ++ le4 (low32 (target + BitVec.ofNat 64 shift)).toNat ++ le4 shift
          state := commitAct h e target shift none tenant r.state }

/-! ## Rings (09 R459, R474; 15 R710) -/

/-- Ring an object serves as from now on. -/
def startRing (h : Nat) (s : State) : State := s.setHm { s.hm with ringIdx := assign s.hm.ringIdx h 0 }

/-- The first of two rings at fault; ring 0 is none. -/
def ringsBad (p : Packet) (l : List (Nat × Nat)) (s : State) : Option (Half × Nat) :=
  l.findSome? fun (h, off) => if h = 0 then none else ringBad p h off s

end Sys2Proof.Machine
end

