-- ==== Sys2Proof/Machine/Verdicts.lean ====
section
/-! DEFINITION. Verdicts (chapter 09): ingesting tile outcomes, shadow tallies, issuing verdicts with their records and actions, and
plate edges. -/

namespace Sys2Proof.Machine

/-! ## TILE_RESULT_INGEST (09 R439 to R447) -/

/-- HM_FENCED, GAPTILES, EDGEERR: counter `i`. -/
def bumpTile (i : Nat) (s : State) : State := s.setHm { s.hm with tileCtr := bumpSat s.hm.tileCtr i }

/-- Every pixel of the tile is PAD (09 R445). -/
def allPad (t : Tile) : Bool := t.padPix == t.tileW * t.tileH

/-- A result of an older generation than its admission's (09 R446). -/
def staleOutcome (s : State) (o : Outcome) : Bool :=
  o.result.isSome && (match findAdm s o.adm with
    | some a => a.fence != o.fence
    | none => true)

/-- An operation joins the RT unit's queue (08 R424, R425). -/
def invokeRt (x : RtOp) (s : State) : State := s.setAsy { s.asy with rt := s.asy.rt ++ [x] }

/-- HOLD, or UNSURE without a candidate. -/
def holdFold (t : Tile) (reason : Nat) (score : Option Word) : Fold :=
  { tile := t, hold := true, reason := reason, score := score, cands := [] }

/-- The per-tile operation is due for a result. -/
def needsTileOp (im : RecipeImage) (m : ModelResult) : Bool := bit im.rflags 0 && !m.cands.isEmpty

/-- Candidates as the model wrote them, where the recipe has no per-tile operation. -/
def rawCands (m : ModelResult) : List Entry := m.cands.mapIdx fun i c => { key := c.1, payload := c.2, idx := i }

/-- Class the outcome and fold it, or invoke its per-tile operation first. -/
def classOutcome (r : Recipe) (o : Outcome) (poisoned : Bool) (s : State) : State :=
  if allPad o.tile then foldTile r.handle { tile := o.tile, hold := false, reason := 0, score := none, cands := [] } s
  else if poisoned then foldTile r.handle (holdFold o.tile 0x16 none) s
  else if o.hold ≠ 0 then foldTile r.handle (holdFold o.tile o.hold (o.result.map (·.score))) s
  else if bit o.tile.tflags 0 then foldTile r.handle (holdFold o.tile 1 (o.result.map (·.score))) s
  else match o.result with
    | none => foldTile r.handle (holdFold o.tile 0x16 none) s
    | some m =>
      if needsTileOp r.image m then
        invokeRt { part := none, recipe := r.handle, fence := recipeFence s r.handle, outcome := some o } s
      else foldTile r.handle (resultFold s r.image o.tile m (rawCands m) false) s

/-- Class as the shadow tally counts it: 0 CLEAN, 1 UNSURE, 2 DEFECT. -/
def tallyClass (reason : Nat) (defect : Bool) : Nat := if defect then 2 else if reason = 0 then 0 else 1

/-- Class of a score from a candidate head. -/
def shadowClass (im : RecipeImage) (w : Word) : Nat :=
  if f32NaN w then 1 else if f32Ge w im.tRej then 2 else if f32Lt w im.tPass then 0 else 1

/-- The TEMPER bench can take a tile. -/
def temperFree (s : State) : Bool := s.fab.bench.any fun x => x.temper && x.state == .built

/-- SHADOW_EVALUATE (11 R560, R561): a tile whose live class is HOLD has no place in the tally. -/
def shadowEvaluate (r : Recipe) (o : Outcome) (poisoned : Bool) (s : State) : State :=
  match s.rcp.shadow, o.result with
  | some x, some m =>
    if x.bench ≠ o.bench ∨ x.recipe ≠ r.handle ∨ poisoned ∨ o.hold ≠ 0 ∨ o.tile.row % (max 1 x.stride : Int) ≠ 0 ∨ !m.emb then s
    else if bit o.tile.tflags 0 && !allPad o.tile then s
    else if !temperFree s || Config.shadowSkips s.now o.tile.row o.tile.col then bumpRcp 6 s
    else
      let nan := needsTileOp r.image m && (tileOpRun r.image m).nans != 0
      let (reason, defect) := if allPad o.tile then (0, false) else classTile r.image m nan
      let params := ((s.rcp.cands.find? fun c => c.handle == x.cand).map (·.params)).getD []
      let i := 3 * tallyClass reason defect + shadowClass r.image (Config.shadowScore params m.embeds)
      s.setRcp { s.rcp with cands := s.rcp.cands.map fun c => if c.handle = x.cand then { c with tally := upd c.tally i (· + 1) } else c }
  | _, _ => s

def ingest (o : Outcome) (poisoned : Bool) (s : State) : State :=
  match findRecipe s o.recipe with
  | none => bumpTile 0 s
  | some r =>
    let parts := s.hm.parts.filter fun p => p.recipe == r.handle && tileInPart s r.image o.tile p
    if staleOutcome s o then bumpTile 0 s
    else if parts.isEmpty then bumpTile 1 s
    else if parts.all (·.issued) then bumpTile 0 s
    else shadowEvaluate r o poisoned (classOutcome r o poisoned s)

/-- TILE_RESULT_INGEST: the oldest outcome of the ingest queue; `poisoned` says that its record reads as poisoned. -/
def execTileResultIngest (poisoned : Bool) (s : State) : Host.Outcome State Fault Refusal :=
  .next (match s.hm.ingest with
    | [] => s
    | o :: rest => if domOn s 2 then ingest o poisoned (openParts (s.setHm { s.hm with ingest := rest })) else s)

/-! ## The outgoing recipe (11 R533, R534, Table 11.5) -/

/-- Benches of a recipe that are ARMED return to BUILT. -/
def disarm (h : Nat) (s : State) : State :=
  s.setFab { s.fab with bench := s.fab.bench.map fun x =>
    if x.recipe = h ∧ x.state = .armed then { x with state := .built } else x }

/-- OUTGOING_DONE: nothing is left to judge, and the recipe returns to HELD. -/
def outgoingDone (h : Nat) (s : State) : State :=
  match findRecipe s h with
  | some r =>
    if r.state = .outgoing ∧ recipeHeld s h ∧ (s.hm.parts.any fun p => p.recipe == h && !p.issued) = false then
      noticeActive r.tenant h 1 (low32 (r.endAt.getD s.pos.hwm))
        (disarm h (modRecipe h (fun r => { r with state := .held, endAt := none, blocks := [], block := [] }) s))
    else s
  | none => s

/-! ## Verdicts (09 R441, R448 to R459) -/

/-- Bit of a reason code (09 Table 9.5). -/
def reasonBit (code : Nat) : Nat :=
  if code = 0x100 then 16
  else if 0x20 ≤ code then code - 0x20 + 8
  else if 0x10 ≤ code then code - 0x10 + 1
  else 0

def reasonBits (l : List Nat) : Word := l.foldl (fun m c => m ||| ((1 : Word) <<< reasonBit c)) 0

/-- END of a part; of an open plate it is not known yet, and lies no more than MAX_LEN after START (09 R438, R451). -/
def endOf (im : RecipeImage) (p : Part) : Long :=
  match p.stop with
  | some e => e
  | none => p.start + BitVec.ofNat 64 ((Config.openEnd p.id).toNat % (im.maxLen + 1))

/-- Candidates with their verdicts: without a per-part search each is confirmed. -/
def judged (im : RecipeImage) (p : Part) : List Candidate :=
  if bit im.rflags 1 then p.cands else p.cands.map fun c => { c with verdict := 1 }

/-- PASS 0, REJECT 1, HOLD 2, and the part's reasons. -/
def verdictOf (im : RecipeImage) (p : Part) (forced : Bool) : Nat × List Nat :=
  let cs := judged im p
  let reasons := if cs.any (·.verdict == 3) then addReason 0x26 p.reasons else p.reasons
  if forced then (2, reasons)
  else if cs.any (·.verdict == 1) then (1, addReason 0x100 reasons)
  else if reasons.isEmpty then (0, reasons)
  else (2, reasons)

/-- Actions that a verdict enqueues, and ACTION of its record (09 R456, Table 9.6). -/
def actionMask (im : RecipeImage) (v : Nat) : Nat × Nat :=
  if v = 0 then (im.actPass, 0)
  else if v = 1 ∨ im.holdAction = 0 then (im.actReject, 1)
  else (im.actReview, 2)

/-- The entry of an action for a part. -/
def actionEntry (im : RecipeImage) (p : Part) (a : Action) : ActEntry × Long :=
  let target := p.start + BitVec.ofNat 64 a.actOfs - BitVec.ofNat 64 a.pre
  ({ channel := a.channel, us := a.mode == 1, loadMa := a.loadMa, spos := low32 target
     length := if a.mode = 2 then (posI (endOf im p) - posI p.start + a.pre + a.post).toNat else a.length
     leadUs := a.leadUs, latest := a.latest, maxMs := a.maxMs, ref := BitVec.ofInt 64 p.id }, target)

/-- Put one action forward: bit 0 refused, bit 1 delayed (09 R457, R469). -/
def enqueueAction (r : Recipe) (p : Part) (a : Action) (x : Nat × State) : Nat × State :=
  let s := x.2
  let (e, target) := actionEntry r.image p a
  match judgeAct s e target with
  | .admitted shift =>
    (Nat.lor x.1 (if shift = 0 then 0 else 2), commitAct (freshHandle s 1 fun _ => true) e target shift (some r.handle) r.tenant s)
  | .refused st outcome _ =>
    (Nat.lor x.1 1,
      noticeHolder r.tenant 0x0901 (le1 e.channel ++ [0] ++ le2 st.toNat ++ le4 0 ++ le8 e.ref.toNat)
        (refuseAct e target st outcome (some r.handle) r.tenant s))

def enqueueActions (r : Recipe) (p : Part) (l : List Action) (x : Nat × State) : Nat × State :=
  match l with
  | [] => x
  | a :: rest => enqueueActions r p rest (enqueueAction r p a x)

/-- Actions of a mask that are in use. -/
def actionsOf (im : RecipeImage) (mask : Nat) : List Action :=
  ((im.actions.mapIdx fun i a => (i, a)).filter fun x => bit mask x.1 && x.2.channel != 0xFF).map (·.2)

/-- The verdict record (09 Table 9.6). -/
def verdictRecord (s : State) (r : Recipe) (p : Part) (v action aflags : Nat) (reasons : List Nat) : Bytes :=
  let cs := judged r.image p
  let primary := if v = 1 then 0x100 else if v = 0 then 0 else (reasons.head?).getD 0
  let label := ((cs.find? (·.verdict == 1)).map (·.label)).getD 0
  let worst := p.cands.head?
  let defect (i : Nat) (f : Candidate → Nat) := (worst.map f).getD (Config.noDefect i p.id)
  [0x01] ++ le1 v ++ le1 action ++ le1 aflags ++ le2 primary ++ le2 label ++ le4 r.seq ++ le4 r.handle ++ leInt 8 p.id ++
    le4 (low32 p.start).toNat ++ le4 (low32 (endOf r.image p)).toNat ++ le4 (spos s).toNat ++ le4 (reasonBits reasons).toNat ++
    le4 p.seen.length ++ le4 p.holdTiles ++ le4 (p.worst.getD Config.emptyWorst).toNat ++ le4 (recipeFence s r.handle).toNat ++
    le1 (defect 0 (·.view)) ++ [0] ++ le2 (defect 1 (·.col)) ++ le4 (defect 2 fun c => c.spos.toNat)

/-- Issue a part's one verdict: actions, record, counters. -/
def issue (r : Recipe) (p : Part) (forced : Bool) (s : State) : State :=
  let (v, reasons) := verdictOf r.image p forced
  let (mask, action) := actionMask r.image v
  let (aflags, s1) := enqueueActions r p (actionsOf r.image mask) (0, s)
  let r1 := { r with seq := (r.seq + 1) % 2 ^ 32 }
  let s2 := hmRing r.vring (verdictRecord s1 r p v action aflags reasons) s1
  let s3 := modPart r.handle p.id (fun p => { p with issued := true, reasons := reasons, cands := judged r.image p }) (modRecipe r.handle (fun x => { x with seq := r1.seq }) s2)
  let s4 := s3.setHm { s3.hm with nparts := s3.hm.nparts + 1, verdicts := bumpAt s3.hm.verdicts v }
  pruneRecipes (outgoingDone r.handle s4)

/-- The part is closed: its last tile row has passed. -/
def closed (s : State) (im : RecipeImage) (p : Part) : Bool := p.stop.isSome && reached s (posL (closePos s im p))

/-- The per-part search is due. -/
def needsPartOp (im : RecipeImage) (p : Part) : Bool := bit im.rflags 1 && !p.cands.isEmpty && p.partOp != 2

/-- The part is closed and the HWM has reached its verdict deadline, the close position plus L_DEC (09 R450). -/
def deadlinePast (s : State) (im : RecipeImage) (p : Part) : Bool :=
  p.stop.isSome && reached s (posL (closePos s im p + im.lDec))

/-- HOLD with reason DEADLINE (09 R450). -/
def issueLate (r : Recipe) (p : Part) (s : State) : State := issue r { p with reasons := addReason 0x24 p.reasons } true s

/-- VERDICT_ISSUE: a fixed HOLD at once; HOLD with DEADLINE where the HWM is at the deadline already; else at the close with
every outcome in, after the per-part operation, which is invoked first (09 R444, R450, R451). -/
def verdictIssue (r : Recipe) (p : Part) (s : State) : State :=
  if p.fixed then issue r p true s
  else if deadlinePast s r.image p then issueLate r p s
  else if !closed s r.image p || !allSeen s r.image p then s
  else if needsPartOp r.image p then
    (if p.partOp = 0 then
      invokeRt { part := some p.id, recipe := r.handle, fence := recipeFence s r.handle, outcome := none }
        (modPart r.handle p.id (fun p => { p with partOp := 1 }) s)
     else s)
  else issue r p false s

/-- An unissued part whose verdict may be issued now (01 R46). -/
def verdictPart (s : State) (recipe : Nat) (part : Int) : Option (Recipe × Part) :=
  if behind s || !domOn s 2 then none
  else match findRecipe s recipe, findPart s recipe part with
    | some r, some p => if p.issued then none else some (r, p)
    | _, _ => none

def execVerdictIssue (recipe : Nat) (part : Int) (s : State) : Host.Outcome State Fault Refusal :=
  let s := openParts s
  .next (match verdictPart s recipe part with
    | some (r, p) => verdictIssue r p s
    | none => s)

/-- VERDICT_DEADLINE: the HWM reaches the close position plus L_DEC first (09 R450). -/
def execVerdictDeadline (recipe : Nat) (part : Int) (s : State) : Host.Outcome State Fault Refusal :=
  let s := openParts s
  .next (match verdictPart s recipe part with
    | some (r, p) =>
      if deadlinePast s r.image p then issueLate r p s else s
    | none => s)

/-! ## Plates (09 R435 to R438) -/

/-- The open plate of a recipe. -/
def openPlate (s : State) (h : Nat) : Option Part := s.hm.parts.find? fun p => p.recipe == h && p.stop.isNone

/-- Close the open plate at a position; a plate shorter than MIN_LEN has reason PLATE_EDGE (09 R438). -/
def closePlate (r : Recipe) (p : Part) (stop : Int) (s : State) : State :=
  let odd := decide (stop < posI p.start + r.image.minLen)
  modPart r.handle p.id (fun p => { p with
    stop := some (posL stop), reasons := if odd then addReason 0x25 p.reasons else p.reasons }) s

/-- START + MAX_LEN of a plate. -/
def plateLast (im : RecipeImage) (p : Part) : Int := posI p.start + im.maxLen

/-- Close the open plate at START + MAX_LEN, with part reason PLATE_EDGE (09 R438). -/
def closeLong (r : Recipe) (p : Part) (s : State) : State :=
  modPart r.handle p.id (fun p => { p with stop := some (posL (plateLast r.image p)), reasons := addReason 0x25 p.reasons }) s

/-- An edge finds the recipe's plate still open at START + MAX_LEN: a trailing edge beyond it, or a leading edge there. The
plate closes there first, so that the trailing edge is ignored under R437 (09 R438). -/
def closeOverlong (leading : Bool) (pos : Long) (s : State) (r : Recipe) : State :=
  match openPlate s r.handle with
  | none => s
  | some p =>
    let x := posI pos + r.image.edgeOfs
    if plateLast r.image p < x ∨ (leading ∧ plateLast r.image p = x) then closeLong r p s else s

/-- The recipe looks at plate edges of this kind and position: an outgoing recipe opens no plate at or after E, an incoming
one none before it (11 R532). -/
def edgeConcerns (s : State) (r : Recipe) (leading : Bool) (pos : Long) : Bool :=
  let side := match r.state with
    | .active => !leading || !after r.activeFrom pos
    | .outgoing => !leading || r.endAt.any fun e => after e pos
    | _ => false
  r.image.model == 1 && recipeHeld s r.handle && side

/-- None of the cases of R437 holds. -/
def edgeTaken (s : State) (r : Recipe) (leading : Bool) (pos : Long) : Bool :=
  !behind s && (r.lastEdge.all fun q => after pos q) && (leading != (openPlate s r.handle).isSome)

/-- PLATE_EDGE_ACCEPT: an edge that is taken opens or closes a plate. -/
def plateEdge (r : Recipe) (leading : Bool) (pos : Long) (s : State) : State :=
  let x := posI pos + r.image.edgeOfs
  let s1 := modRecipe r.handle (fun r => { r with lastEdge := some pos }) s
  if leading then
    let id := r.nextPart + 1
    modRecipe r.handle (fun r => { r with nextPart := id })
      (s1.setHm { s1.hm with parts := s1.hm.parts ++ [freshPart r.handle id (posL x) none] })
  else match openPlate s r.handle with
    | some p => closePlate r p x s1
    | none => s1

def plateEdges (l : List Recipe) (leading : Bool) (pos : Long) (s : State) : State :=
  match l with
  | [] => s
  | r :: rest => plateEdges rest leading pos (plateEdge r leading pos s)

/-- An edge for the recipes of a list: those that take it open or close a plate; an edge that concerns some recipe and that
none takes is counted in HM_EDGEERR (09 R437). -/
def edgeFor (l : List Recipe) (leading : Bool) (pos : Long) (s : State) : Bool × State :=
  let concerned := l.filter fun r => edgeConcerns s r leading pos
  let s := if behind s then s else concerned.foldl (closeOverlong leading pos) s
  let takers := concerned.filter fun r => edgeTaken s r leading pos
  if !takers.isEmpty then (true, plateEdges takers leading pos s)
  else (false, if concerned.isEmpty then s else bumpTile 2 s)

/-- PLATE_MAX_LEN_CLOSE: the HWM has reached START + MAX_LEN of an open plate (09 R438). -/
def execPlateMaxLenClose (recipe : Nat) (s : State) : Host.Outcome State Fault Refusal :=
  .next (match findRecipe s recipe, openPlate s recipe with
    | some r, some p => if reached s (posL (plateLast r.image p)) ∧ domOn s 2 then closeLong r p s else s
    | _, _ => s)

/-- A sensor edge on an input, for every recipe that judges by it (09 R436). -/
def sensorEdge (channel : Nat) (leading : Bool) (pos : Long) (s : State) : State :=
  (edgeFor (s.rcp.recipes.filter fun r => r.image.edgeSrc == 0 && r.image.edgeDio == channel) leading pos s).2

end Sys2Proof.Machine
end

