-- ==== Sys2Proof/Machine/Actuation.lean ====
section
/-! DEFINITION. Firing actuation entries (chapter 09) and the HALLMARK group's opcodes. -/

namespace Sys2Proof.Machine

/-! ## Switch-on (09 R463, R466, R472, R476; 10 R481, R500, R506) -/

def findAct (s : State) (h : Nat) : Option Act := s.hm.acts.find? (·.handle == h)

def modAct (h : Nat) (f : Act → Act) (s : State) : State :=
  s.setHm { s.hm with acts := s.hm.acts.map fun a => if a.handle = h then f a else a }

/-- The HWM has reached a position given as a whole number. -/
def hwmAt (s : State) (x : Int) : Bool := decide (x ≤ posI s.pos.hwm)

/-- The HWM has reached target - d_lead. -/
def switchDue (s : State) (a : Act) : Bool := hwmAt s (posI a.target - dLead s a.entry.leadUs)

/-- The other channel of a feed. -/
def partnerOf (ch : Nat) : Nat := if ch % 2 = 0 then ch + 1 else ch - 1

/-- Current of the load that is on at a channel: of its entry, or SAFE_MA in a SAFE ON safe state. -/
def loadOn (s : State) (ch : Nat) : Nat :=
  if !(chanOf s ch).out then 0
  else if (chanOf s ch).safe then (chanOf s ch).safeMa
  else ((firingOn s ch).map (·.entry.loadMa)).getD 0

/-- The partner is on, and the two loads exceed 1,200 mA (09 R472). -/
def interlocked (s : State) (a : Act) : Bool :=
  (chanOf s (partnerOf a.entry.channel)).out && decide (1200 < loadOn s (partnerOf a.entry.channel) + a.entry.loadMa)

/-- HM_INTERLOCK: 0 held, 1 skipped (09 R472, Table 9.8). -/
def noteInterlock (a : Act) (code : Nat) (s : State) : State :=
  noticeUnit 0x0902 (le1 (a.entry.channel / 2) ++ le1 a.entry.channel ++ le1 code) (bumpAct 1 s)

/-- The entry does not fire: logged SKIPPED (09 R474). -/
def skipAct (a : Act) (s : State) : State := pruneRecipes (logActOf a 2 0 (dropAct a.handle s))

/-- LATEST, measured from the target asked for, has been reached (09 R472). -/
def latestReached (s : State) (a : Act) : Bool :=
  hwmAt s (posI a.target - a.shift + a.entry.latest - dLead s a.entry.leadUs)

/-- HM_ACT_LOST: neither copy of the entry checks (09 R476; 12 R597). -/
def loseAct (a : Act) (s : State) : State :=
  let s1 := pruneRecipes (logActOf a 3 0 (dropAct a.handle s))
  let s2 := noticeUnit 0x0903 (le1 a.entry.channel ++ List.replicate 7 0 ++ le8 a.entry.ref.toNat) s1
  equivLost { upsetEntry s2 0x0A 0 1 false with affected := 1 } s2

/-- One copy failed and the other was used (12 class 0x0A). -/
def secondCopy (injected : Bool) (s : State) : State := recovered 0x0A 0 0 injected (upset 0x0A 0 1 false injected 0 0 s)

/-- The output switches on. -/
def fireAct (a : Act) (s : State) : State :=
  let s1 := modAct a.handle (fun a => { a with state := .firing, onAt := s.now, onSpos := spos s }) s
  settleOut a.entry.channel (modChan a.entry.channel (fun c => { c with shorted := false }) s1)

/-- What an entry that checks does at its switch-on. -/
def switchOn (a : Act) (s : State) : State :=
  let c := chanOf s a.entry.channel
  if c.dir ≠ 2 then skipAct a s
  else if c.safe then skipAct a (s.setDio { s.dio with safeSkip := satInc s.dio.safeSkip })
  else if !(feedOf s (a.entry.channel / 2)).closed then skipAct a s
  else if interlocked s a then
    (if latestReached s a then noteInterlock a 1 (skipAct a s)
     else if a.state = .held then s
     else noteInterlock a 0 (modAct a.handle (fun a => { a with state := .held }) s))
  else if a.state = .held ∧ latestReached s a then noteInterlock a 1 (skipAct a s)
  else fireAct a s

/-- The entry is injected with one bad copy (12 Table 12.7). -/
def injectedBad (s : State) (a : Act) : Bool := s.flt.badCopy == some a.entry.channel

/-- ACTUATION_SWITCH_ON: `goodCopies` of the entry's two copies check. -/
def execActuationSwitchOn (h goodCopies : Nat) (t : Nat) (s : State) : Host.Outcome State Fault Refusal :=
  let s := s.at_ t
  .next (match findAct s h with
    | none => s
    | some a =>
      if a.state = .firing ∨ !switchDue s a || !domOn s 2 then s
      else
        let inj := injectedBad s a
        let s1 := if inj then s.setFlt { s.flt with badCopy := none } else s
        let good := goodCopies - b2n inj
        if good = 0 then loseAct a s1
        else switchOn a (if good = 1 then secondCopy inj s1 else s1))

/-- INTERLOCK_SKIP: LATEST is reached while the switch-on is held (09 R472). -/
def execInterlockSkip (h : Nat) (s : State) : Host.Outcome State Fault Refusal :=
  .next (match findAct s h with
    | none => s
    | some a =>
      if a.state = .held ∧ interlocked s a ∧ latestReached s a ∧ domOn s 2 then noteInterlock a 1 (skipAct a s) else s)

/-! ## Switch-off (09 R465) -/

/-- The pulse has been on for at least 100 us. -/
def minOn (s : State) (a : Act) : Bool := decide (a.onAt + usTicks 100 ≤ s.now)

/-- The timer has run, or the HWM has reached target + LENGTH - d_lead; while the unit is behind a pu pulse ends by its cap
alone (09 R466). -/
def offDue (s : State) (a : Act) : Bool :=
  minOn s a && (if a.entry.us then decide (a.onAt + usTicks a.entry.length ≤ s.now)
    else !behind s && hwmAt s (posI a.target + a.entry.length - dLead s a.entry.leadUs))

/-- The entry held on a channel (09 R472). -/
def heldOn (s : State) (ch : Nat) : Option Act := s.hm.acts.find? fun a => a.entry.channel == ch && a.state == .held

/-- The switch-on that waited for a channel to switch off goes on (09 R472). -/
def resumeHeld (ch : Nat) (s : State) : State :=
  match heldOn s ch with
  | some a => if switchDue s a then switchOn a s else s
  | none => s

/-- The output switches off, logged FIRED, and a switch-on held for it goes on. -/
def switchOff (a : Act) (s : State) : State :=
  resumeHeld (partnerOf a.entry.channel)
    (pruneRecipes (settleOut a.entry.channel (logActOf a 0 (spos s) (dropAct a.handle s))))

/-- PULSE_SWITCH_OFF. -/
def execPulseSwitchOff (ch : Nat) (t : Nat) (s : State) : Host.Outcome State Fault Refusal :=
  let s := s.at_ t
  .next (match firingOn s ch with
    | some a => if offDue s a ∧ domOn s 2 then switchOff a s else s
    | none => s)

/-- MAX_MS of an entry; 0 means 10,000 ms. -/
def capMs (e : ActEntry) : Nat := if e.maxMs = 0 then 10000 else e.maxMs

/-- PULSE_CAP_EXPIRY: a pu pulse has been on for MAX_MS, and the HWM has not ended it before. -/
def execPulseCapExpiry (ch : Nat) (s : State) : Host.Outcome State Fault Refusal :=
  .next (match firingOn s ch with
    | some a =>
      if a.entry.us ∨ !domOn s 2 then s
      else if offDue s a ∧ s.now < a.onAt + msTicks (capMs a.entry) then switchOff a s
      else bumpAct 2 (switchOff a (s.at_ (a.onAt + msTicks (capMs a.entry))))
    | none => s)

/-! ## The HALLMARK group (15 Table 15.12) -/

/-- Rings in use: verdict rings, then actuation-log rings. -/
def verdictRings (s : State) : List Nat := (s.rcp.recipes.map (·.vring)).filter (· != 0)

def actRings (s : State) : List Nat :=
  ((s.rcp.recipes.map (·.aring)) ++ s.kw.tenants.map (·.hostARing)).filter (· != 0)

def lostBytes (s : State) (l : List Nat) : Bytes := l.flatMap fun h => le4 (lookupW s.hm.lost h).toNat

/-- HM_ registers before the per-ring ones, as width and value, in the order of Table 9.7. -/
def hmRegs (s : State) : List (Nat × Nat) :=
  [(8, s.hm.nparts.toNat)] ++ s.hm.verdicts.map (fun w => (4, w.toNat)) ++ [(4, s.hm.acts.length)] ++
    s.hm.actCtr.map (fun w => (4, w.toNat)) ++ s.hm.feedRef.map (fun w => (4, w.toNat)) ++ s.hm.tileCtr.map fun w => (4, w.toNat)

/-- HM_OUTLAG (09 R464). -/
def hmOutLag : Nat := 20000

def timelineBytes (l : List Act) : Bytes :=
  (l.take 256).flatMap fun a =>
    le4 (low32 a.pOn).toNat ++ le4 (low32 a.pOff).toNat ++ le1 a.entry.channel ++ [0] ++ le2 a.entry.loadMa

/-- HM_STATUS. -/
def execHmStatus (r : Ref) (s : State) : Host.Outcome State Fault Refusal :=
  .next (runOp 0x0901 r s fun p s =>
    let k := fld p.params 0 1
    if 15 < k ∧ k ≠ 0xFF then refuse p stBAD_PARAM 0x20 s
    else ok p (regBytes (hmRegs s) ++ lostBytes s (verdictRings s) ++ lostBytes s (actRings s) ++ le4 hmOutLag ++
      (if k = 0xFF then [] else timelineBytes (feedActs s k))) s)

/-- HM_RING_SET. -/
def execHmRingSet (r : Ref) (s : State) : Host.Outcome State Fault Refusal :=
  .next (runOp 0x0902 r s fun p s =>
    let h := fld p.params 0 4
    let v := fld p.params 4 4
    let a := fld p.params 8 4
    if h = 0 then
      match ringsBad p [(a, 0x28)] s with
      | some (st, off) => refuse p st off s
      | none => ok p [] (startRing a (modTen p.tenant (fun t => { t with hostARing := a }) s))
    else match admTarget p h 0x20 [.recipe] s with
      | .inl (st, off) => refuse p st off s
      | .inr _ => match ringsBad p [(v, 0x24), (a, 0x28)] s with
        | some (st, off) => refuse p st off s
        | none => ok p [] (startRing a (startRing v (modRecipe h (fun x => { x with vring := v, aring := a }) s))))

/-- HM_ACT_SCHEDULE (09 R460 to R473). -/
def execHmActSchedule (r : Ref) (pick : Nat) (s : State) : Host.Outcome State Fault Refusal :=
  .next (runOp 0x0910 r s fun p s =>
    let x := hostAct p.params p.cls p.tenant pick s
    done p x.status x.result x.state)

/-- HM_ACT_CANCEL. A switch-on that is due in the same cycle prevails: its ACTUATION_SWITCH_ON follows (09 R467). -/
def execHmActCancel (r : Ref) (s : State) : Host.Outcome State Fault Refusal :=
  .next (runOp 0x0911 r s fun p s =>
    match admTarget p (fld p.params 0 4) 0x20 [.actuation] s with
    | .inl (st, off) => refuse p st off s
    | .inr a =>
      if (findAct s a.handle).any fun x => x.state == .firing || (x.state == .pending && switchDue s x) then
        refuseWith p stDENIED [1] s
      else ok p [] (release a s))

/-- HM_PLATE_EDGE (09 R436, R437; 15 R710). -/
def execHmPlateEdge (r : Ref) (s : State) : Host.Outcome State Fault Refusal :=
  .next (runOp 0x0920 r s fun p s =>
    let w : Word := BitVec.ofNat 32 (fld p.params 8 4)
    match admTarget p (fld p.params 0 4) 0x20 [.recipe] s with
    | .inl (st, off) => refuse p st off s
    | .inr a => match findRecipe s a.handle with
      | none => refuse p stBAD_PARAM 0x20 s
      | some x =>
        if 1 < fld p.params 4 1 then refuse p stBAD_PARAM 0x24 s
        else if x.image.model ≠ 1 ∨ x.image.edgeSrc ≠ 1 then refuse p stBAD_PARAM 0x20 s
        else if !inHorizon s w then refuse p stREFUSED_HORIZON 0x28 s
        else
          let (taken, s1) := edgeFor [x] (fld p.params 4 1 == 0) (expand s w) s
          ok p (le1 (b2n taken) ++ [0, 0, 0]) s1)

/-- ACT_ENQUEUE: admitted as HM_ACT_SCHEDULE is (09 R431). -/
def execActEnqueue (pick : Nat) (s : State) : Host.Outcome State Fault Refusal :=
  .next (withCmd 5 0x100 s fun l c =>
    let cls := ((findP l.ref s).map (·.cls)).getD 7
    let x := hostAct c.body cls l.tenant pick s
    if c.arg0 ≠ 0 ∨ c.arg1 ≠ 0 then failCmd l stBAD_PARAM s
    else if x.status = stOK then advance l x.state else failCmd l x.status x.state)

end Sys2Proof.Machine
end

