-- ==== Sys2Proof/Machine/Draw.lean ====
section
/-! DEFINITION. The DRAW engine, arbitration and ECC of the memory tiers, and the Memory group's opcodes (chapter 07). -/

namespace Sys2Proof.Machine

/-! ## DRAW commands (07 R363 to R366) -/

/-- Offsets of the rows. -/
def rowOffsets (rows pitch : Nat) : List Nat := (List.range rows).map (· * pitch)

/-- Bytes from the first row's start to the last row's end. -/
def rowSpan (rows pitch len : Nat) : Nat := (rows - 1) * pitch + len

def readRows (s : State) (p : Place) (rows pitch len : Nat) : Bytes :=
  (rowOffsets rows pitch).flatMap fun o => readPlace s { p with addr := p.addr + o } len

/-- Rows written, but for a burst that is lost. -/
def writeRows (lost : Option Nat) (p : Place) (len : Nat) (offs : List Nat) (b : Bytes) (s : State) : State :=
  match offs with
  | [] => s
  | o :: r =>
    writeRows lost p len r (b.drop len) (writePlaceBut lost { p with addr := p.addr + o } (b.take len) s)

/-- The burst of the rows whose write is lost. -/
def rowsLost (lost : Option Long) (p : Place) (rows pitch len : Nat) : Option Nat :=
  (rowOffsets rows pitch).findSome? fun o => lostAt lost { p with addr := p.addr + o } len

/-- Burst of the poison table that the rows meet. -/
def rowsPoison (s : State) (p : Place) (rows pitch len : Nat) : Option Nat :=
  (rowOffsets rows pitch).findSome? fun o => poisonAt s { p with addr := p.addr + o } len

/-- An access to host memory in the rows ends in an error. -/
def rowsFail (s : State) (dmaOk : Bool) (p : Place) (rows pitch len : Nat) : Bool :=
  (rowOffsets rows pitch).any fun o => hostFails s dmaOk { p with addr := p.addr + o } len

/-- Fields of a DRAW command (07 Tables 7.4 and 7.5). -/
structure DrawCmd where
  srcSpace : Nat
  dstSpace : Nat
  src : Nat
  dst : Nat
  len : Nat
  rows : Nat
  srcPitch : Nat
  dstPitch : Nat
  stream : Nat
deriving DecidableEq, Repr

def drawOf (c : Cmd) : DrawCmd :=
  { srcSpace := bits c.arg0.toNat 1 0, dstSpace := bits c.arg0.toNat 3 2, src := fld c.body 0 8, dst := fld c.body 8 8
    len := fld c.body 16 4, rows := fld c.body 20 4, srcPitch := fld c.body 24 4, dstPitch := fld c.body 28 4
    stream := c.arg1.toNat % 2 ^ 32 }

/-- Fields within their ranges, and a stream of the tenant (07 R364). -/
def drawOk (s : State) (l : CmdList) (c : Cmd) : Bool :=
  let d := drawOf c
  decide (c.arg0.toNat < 16) && decide (1 ≤ d.len) && decide (d.len ≤ 2 ^ 31) && decide (1 ≤ d.rows) && decide (d.rows ≤ 65536) &&
    streamHeld s l.tenant d.stream

/-- Bytes as an overlapping COPY leaves them. -/
def overlapped (p : Place) (len : Nat) (offs : List Nat) (b : Bytes) : Bytes :=
  (offs.flatMap fun o => (List.range len).map fun i => p.addr + o + i).zipWith Config.overlapByte b

/-- The source rows and the destination rows meet in memory. -/
def placesMeet (a b : Place) (d : DrawCmd) : Bool :=
  a.host == b.host && decide (a.addr < b.addr + rowSpan d.rows d.dstPitch d.len) &&
    decide (b.addr < a.addr + rowSpan d.rows d.srcPitch d.len)

/-- COPY. `dmaOk` says that an access to host memory ended without error, `poisonedAt` names a burst that was delivered
poisoned, `lost` one whose write was lost (03 R151; 07 R387, R388). -/
def execCopy (x : WriteEnd) (poisonedAt : Option Long) (s : State) : Host.Outcome State Fault Refusal :=
  .next (withCmd 1 0x100 s fun l c =>
    let d := drawOf c
    if !drawOk s l c then failCmd l stBAD_PARAM s
    else match resolve s l.tenant d.srcSpace d.src (rowSpan d.rows d.srcPitch d.len) false with
      | .inl st => failCmd l st s
      | .inr a => match resolve s l.tenant d.dstSpace d.dst (rowSpan d.rows d.dstPitch d.len) true with
        | .inl st => failCmd l st s
        | .inr b =>
          let table := rowsPoison s a d.rows d.srcPitch d.len
          if rowsFail s x.dmaOk a d.rows d.srcPitch d.len || rowsFail s x.dmaOk b d.rows d.dstPitch d.len then dmaFail l s
          else if poisonedAt.isSome || table.isSome then failPoisoned l 4 poisonedAt table s
          else
            let data := readRows s a d.rows d.srcPitch d.len
            let offs := rowOffsets d.rows d.dstPitch
            let gone := rowsLost x.lost b d.rows d.dstPitch d.len
            endWrite l gone (writeRows gone b d.len offs (if placesMeet a b d then overlapped b d.len offs data else data) s))

/-- A row of a FILL: the pattern, from its first byte in each row. -/
def fillRow (pattern len : Nat) : Bytes := (List.range len).map fun i => BitVec.ofNat 8 (pattern / 256 ^ (i % 4))

/-- FILL (07 R363). -/
def execFill (x : WriteEnd) (s : State) : Host.Outcome State Fault Refusal :=
  .next (withCmd 1 0x101 s fun l c =>
    let d := drawOf c
    if !drawOk s l c || d.srcSpace != 0 || decide (2 ^ 32 ≤ d.src) || d.srcPitch != 0 then failCmd l stBAD_PARAM s
    else match resolve s l.tenant d.dstSpace d.dst (rowSpan d.rows d.dstPitch d.len) true with
      | .inl st => failCmd l st s
      | .inr b =>
        if rowsFail s x.dmaOk b d.rows d.dstPitch d.len then dmaFail l s
        else
          let offs := rowOffsets d.rows d.dstPitch
          let gone := rowsLost x.lost b d.rows d.dstPitch d.len
          endWrite l gone (writeRows gone b d.len offs (offs.flatMap fun _ => fillRow d.src d.len) s))

/-- CHECK: the CRC-32C of the source rows, one after another, at DST. -/
def execCheck (x : WriteEnd) (poisonedAt : Option Long) (s : State) : Host.Outcome State Fault Refusal :=
  .next (withCmd 1 0x102 s fun l c =>
    let d := drawOf c
    if !drawOk s l c then failCmd l stBAD_PARAM s
    else match resolve s l.tenant d.srcSpace d.src (rowSpan d.rows d.srcPitch d.len) false with
      | .inl st => failCmd l st s
      | .inr a => match resolve s l.tenant d.dstSpace d.dst 4 true with
        | .inl st => failCmd l st s
        | .inr b =>
          let table := rowsPoison s a d.rows d.srcPitch d.len
          if rowsFail s x.dmaOk a d.rows d.srcPitch d.len || hostFails s x.dmaOk b 4 then dmaFail l s
          else if poisonedAt.isSome || table.isSome then failPoisoned l 4 poisonedAt table s
          else
            let gone := lostAt x.lost b 4
            endWrite l gone (writePlaceBut gone b (le4 (crc32c (readRows s a d.rows d.srcPitch d.len)).toNat) s))

/-! ## Classes (07 R369, R370) -/

/-- The range register holds the address. -/
def rangeHolds (v : Long) (a : Nat) : Bool :=
  let n := v.toNat
  bit n 0 && decide (bits n 37 12 ≤ a / 4096) && decide (a / 4096 ≤ bits n 37 12 + bits n 63 38)

/-- Class of an address in RANGE mode: the first range, else the object's label, else 7. -/
def rangeClass (s : State) (a : Nat) : Nat :=
  match s.draw.ranges.find? fun v => rangeHolds v a with
  | some v => bits v.toNat 3 1
  | none => ((s.draw.objs.find? fun o => !o.lost && o.tier != .foil && decide (o.addr ≤ a) && decide (a < o.addr + o.size)).map
      (·.cls)).getD 7

/-- Class of an admission, 7 where it is held no more. -/
def admClass (s : State) (h : Nat) : Nat := ((findAdm s h).map (·.cls)).getD 7

/-- The recipe whose admission uses a view: of those that judge it, the one that was activated last. -/
def viewRecipe (s : State) (v : Nat) : Option Recipe := (s.rcp.recipes.filter fun r => judging r && bit r.image.views v).getLast?

/-- The command that an engine's list stands at. -/
def engineCmd (s : State) (engine : Nat) : Option Cmd := (s.fab.lists.find? fun l => l.engine == engine && l.running).bind (·.cur)

/-- Stream that an engine's command goes through. -/
def engineStream (s : State) (engine : Nat) : Option Nat := (engineCmd s engine).bind (cmdStream engine)

/-- Port of an issuer whose mode is selectable: 0 PLANISH, 1 ASSAY, 2 HALLMARK, 3 control processors (07 Table 7.6). -/
def selectable (i : MemIssuer) : Option Nat :=
  match i with
  | .view _ _ => some 0
  | .tap _ => some 0
  | .list 2 => some 0
  | .list 4 => some 1
  | .list 5 => some 2
  | .rt => some 1
  | .hallmark _ => some 2
  | .control => some 3
  | _ => none

/-- Label of a request in LABEL mode (07 Table 7.6). -/
def labelOf (s : State) (i : MemIssuer) : Nat :=
  match i with
  | .stake k _ => match benchHolding s k with
    | some b => admClass s (benchOf s b).handle
    | none => 7
  | .view v _ => ((viewRecipe s v).map fun r => admClass s r.handle).getD 7
  | .tap h => admClass s h
  | .list e => ((engineStream s e).map (admClass s)).getD 7
  | .rt => (s.asy.rt.head?.map fun o => admClass s o.recipe).getD 7
  | .hallmark h => admClass s h
  | .control => Config.controlLabel % 8
  | .temper => 7

/-- Class of a request (07 R369, R370). -/
def classOf (s : State) (i : MemIssuer) (a : Nat) : Nat :=
  if (selectable i).any fun p => getI s.draw.rangeMode p false then rangeClass s a else labelOf s i

/-! ## Deadlines (07 R377, 08 R418, 09 R450) -/

/-- d_lat of a bench, as its admission holds it. -/
def benchLat (s : State) (b : Nat) : Nat := ((findAdm s (benchOf s b).handle).map fun a => demandOn a.demands 12 b).getD 0

/-- T_pipe, 50 us, in pu at v_adm (02 R124). -/
def pipePu (s : State) : Int :=
  let (n, d) := puPerMetre s
  rnd 19 ((50 * vEff s.led.vadm * n : Nat) : Int) (1000000 * 1000000000 * d)

/-- SPOS_LAST of a tile plus the d_lat of the bench. -/
def tileDeadline (s : State) (b : Nat) (sposLast : Word) : Long := expand s sposLast + BitVec.ofNat 64 (benchLat s b)

/-- The verdict deadline of a part (09 "Part coordinates"). -/
def partDeadline (s : State) (recipe : Nat) (id : Int) : Option Long :=
  match findRecipe s recipe, findPart s recipe id with
  | some r, some p => some (posL (closePos s r.image p + r.image.lDec))
  | _, _ => none

/-- Deadline of a request. ARG1[63:32] of a DRAW or ASSAY command, 0 for none, stands for itself. -/
def deadlineOf (s : State) (i : MemIssuer) : Option Long :=
  match i with
  | .stake k sp => (benchHolding s k).map fun b => tileDeadline s b sp
  | .view _ trig => some (expand s trig + posL (pipePu s))
  | .list e =>
    if e ≠ 1 ∧ e ≠ 4 then none
    else (engineCmd s e).bind fun c =>
      let w := c.arg1.toNat / 2 ^ 32
      if w = 0 then none else some (expand s (BitVec.ofNat 32 w))
  | .rt => s.asy.rt.head?.bind fun o => match o.part, o.outcome with
    | some id, _ => partDeadline s o.recipe id
    | none, some x => some (tileDeadline s x.bench x.tile.sposLast)
    | none, none => none
  | _ => none

/-- Stream that a request is charged to. -/
def streamOf (s : State) (i : MemIssuer) : Option Nat :=
  match i with
  | .list e => engineStream s e
  | _ => none

/-- A request as it arrives at its bank or channel. -/
def arrive (s : State) (x : MemArrival) : Option MemReq :=
  let a := x.addr.toNat
  let at_ (ingot : Bool) (bank : Nat) : MemReq :=
    { id := x.id, ingot := ingot, bank := bank, cls := classOf s x.issuer a, deadline := deadlineOf s x.issuer, arrival := s.now
      stream := streamOf s x.issuer, addr := x.addr, write := x.write, issuer := x.issuer, aged := false }
  if inIngot a then some (at_ true (a / 2 ^ 34)) else if inSheet a then some (at_ false (bits a 9 6)) else none

/-! ## Arbitration (07 R372 to R376, R380) -/

/-- What the buckets hold. -/
def bucketsOf (s : State) : List Int × List Int × List (Nat × Int × Int) :=
  (s.draw.tokS, s.draw.tokI, s.draw.streams.map fun x => (x.handle, x.tokS, x.tokI))

/-- A grant of a bank or channel belongs to the cycle before it, if that one is not over and the bank or channel has not served in
it; else a cycle begins, and the buckets are taken as they stand (07 R372, R380). -/
def openCycle (ingot : Bool) (bank : Nat) (s : State) : State :=
  if s.draw.cycleServed.1 = s.now ∧ !s.draw.cycleServed.2.contains (ingot, bank) then
    s.setDraw { s.draw with cycleServed := (s.now, (ingot, bank) :: s.draw.cycleServed.2) }
  else s.setDraw { s.draw with cycleTok := bucketsOf s, cycleServed := (s.now, [(ingot, bank)]) }

/-- Tokens of the stream for the tier as the cycle began; a stream that was not open then holds none. -/
def streamTok (s : State) (h : Nat) (ingot : Bool) : Int :=
  ((s.draw.cycleTok.2.2.find? fun x => x.1 == h).map fun x => if ingot then x.2.2 else x.2.1).getD 0

/-- The request is eligible by the buckets as the cycle began (07 R373, R380). -/
def eligible (s : State) (r : MemReq) : Bool :=
  decide (0 < getI (if r.ingot then s.draw.cycleTok.2.1 else s.draw.cycleTok.1) r.cls 0) &&
    r.stream.all fun h => decide (0 < streamTok s h r.ingot)

/-- `a` is served before `b` within one class (07 R374): deadlines in order, then arrival. -/
def earlier (a b : MemReq) : Bool :=
  match a.deadline, b.deadline with
  | some x, some y => if x = y then decide (a.arrival < b.arrival) else after y x
  | some _, none => true
  | none, some _ => false
  | none, none => decide (a.arrival < b.arrival)

/-- `a` is served before `b`: lower class first. -/
def before (a b : MemReq) : Bool := decide (a.cls < b.cls) || (a.cls == b.cls && earlier a b)

/-- The request served first of a list; the earlier in the list of two that tie. -/
def firstOf (l : List MemReq) : Option MemReq :=
  l.foldl (fun m r => match m with
    | none => some r
    | some x => if before r x then some r else some x) none

/-- The request a bank or channel grants, and whether as slack. -/
def choose (s : State) (l : List MemReq) : Option (MemReq × Bool) :=
  match firstOf (l.filter (eligible s)) with
  | some r => some (r, false)
  | none => (firstOf l).map fun r => (r, true)

/-- 64 bytes leave the buckets (07 R380). -/
def payGrant (r : MemReq) (s : State) : State :=
  let take (ingot : Bool) (l : List Int) := if r.ingot = ingot then upd l r.cls (· - 64) else l
  let pay (x : Stream) : Stream :=
    if r.stream = some x.handle then
      { x with tokI := if r.ingot then x.tokI - 64 else x.tokI, tokS := if r.ingot then x.tokS else x.tokS - 64 }
    else x
  s.setDraw { s.draw with tokI := take true s.draw.tokI, tokS := take false s.draw.tokS, streams := s.draw.streams.map pay }

/-- The request's own deadline has been reached (07 R376). -/
def servedLate (s : State) (r : MemReq) : Bool := !r.aged && r.deadline.any (reached s)

/-- A single-bit error is corrected, written back and counted (07 R385). -/
def corrected (ingot : Bool) (bank : Nat) (s : State) : State :=
  if ingot then modDram bank (fun c => { c with corr := c.corr + 1 }) s
  else s.setDraw { s.draw with sheetCorr := s.draw.sheetCorr + 1 }

/-- What a consumer without a command of its own does with a poisoned delivery (07 R387). -/
def consumePoison (i : MemIssuer) (a : Nat) (s : State) : State :=
  match i with
  | .stake k _ => match benchHolding s k with
    | some b => privateFault b k 2 false s
    | none => s
  | .view _ _ => poisonSlots a s
  | .tap _ => poisonSlots a s
  | _ => s

/-- Consumer port of an issuer (07 Table 7.9). -/
def consumerOf (i : MemIssuer) : Nat :=
  match i with
  | .stake _ _ => 5
  | .list e => enginePort e
  | .temper => 6
  | i => (selectable i).getD 3

/-- The granted burst: a write takes it out of the poison table, and a read of an entry is delivered poisoned; the command of a list
counts its own (07 R388). -/
def touchBurst (r : MemReq) (s : State) : State :=
  let a := r.addr.toNat / 64 * 64
  if r.write then
    s.setDraw { s.draw with chan := s.draw.chan.map fun c => { c with poison := c.poison.filter fun p => p != a } }
  else match r.issuer, poisonIn s a 64 with
    | .list _, _ => s
    | i, some p => consumePoison i p (eccUnc (BitVec.ofNat 64 p) (consumerOf i) s)
    | _, none => s

def grant (r : MemReq) (slack singleBit : Bool) (s : State) : State :=
  let late := servedLate s r
  let s1 := payGrant r (s.setDraw { s.draw with
    waiting := s.draw.waiting.erase r
    slack := if slack then bumpSat s.draw.slack r.cls else s.draw.slack
    late := if late then bumpSat s.draw.late r.cls else s.draw.late })
  touchBurst r ((if singleBit then corrected r.ingot r.bank s1 else s1).emit (.grant r.id))

/-- A retired channel serves no request (07 R390). -/
def bankServes (s : State) (ingot : Bool) (bank : Nat) : Bool := !(ingot && (getI s.draw.chan bank DramChan.reset).retired)

/-- MEMORY_GRANT: `arrivals` have come since the last grant, then one request of the bank or channel is granted. -/
def execMemoryGrant (ingot : Bool) (bank : Nat) (arrivals : List MemArrival) (singleBit : Bool) (t : Nat) (s : State) :
    Host.Outcome State Fault Refusal :=
  let s := s.at_ t
  .next (
    if !domOn s 2 then s
    else
      let s1 := s.setDraw { s.draw with waiting := s.draw.waiting ++ arrivals.filterMap (arrive s) }
      let mine := s1.draw.waiting.filter fun r => r.ingot == ingot && r.bank == bank
      if !bankServes s ingot bank || mine.isEmpty then s1
      else
        let s2 := openCycle ingot bank s1
        match choose s2 mine with
        | some (r, slack) => grant r slack singleBit s2
        | none => s2)

/-- REQUEST_AGING: after 50 us a request without a deadline is ordered at the HWM of that moment (07 R375). -/
def execRequestAging (id : Nat) (s : State) : Host.Outcome State Fault Refusal :=
  .next (match s.draw.waiting.find? fun r => r.id == id && r.deadline.isNone with
    | none => s
    | some r =>
      let s := s.at_ (r.arrival + usTicks 50)
      s.setDraw { s.draw with waiting := (s.draw.waiting.map fun x =>
        if x = r then { x with deadline := some s.pos.hwm, aged := true } else x) })

/-! ## INGOT errors (07 R385 to R391) -/

/-- The access can be made again within the limits of the packet it serves (12 R577); level 1 has a bound of 1 us. -/
def rereadAllowed (s : State) (consumer : Nat) : Bool :=
  if consumer ≠ 4 then true
  else match s.fab.lists.find? fun l => l.engine == 1 && l.running with
    | none => true
    | some l => match findP l.ref s with
      | some p => withinLimit s p (usTicks 1)
      | none => true

/-- The access concerns a live INGOT channel. -/
def ingotLive (s : State) (a : Long) : Bool :=
  inIngot a.toNat && domOn s 3 && !(getI s.draw.chan (chanOfAddr a) DramChan.reset).retired

/-- PLANISH takes a poisoned delivery as damaged pixels; what the other consumers do is in their own rows (07 R387). -/
def planishPoison (a : Long) (consumer : Nat) (s : State) : State :=
  if consumer = 0 then poisonSlots (a.toNat / 64 * 64) s else s

/-- A double-bit error in INGOT: the word is read again (07 R386). -/
def doubleBit (a : Long) (consumer : Nat) (o : RetryOutcome) (injected : Bool) (s : State) : State :=
  let retry := rereadAllowed s consumer
  let bad := o == .failed || !retry
  let s1 := if bad then planishPoison a consumer (eccUnc a consumer s) else s
  let s2 := if o = .corrected ∧ retry then corrected true (chanOfAddr a) s1 else s1
  upsetRetire 3 (chanOfAddr a) 0x01 injected (b2n retry) 0 s2

/-- INGOT_REREAD. -/
def execIngotReread (a : Long) (consumer : Nat) (o : RetryOutcome) (t : Nat) (s : State) : Host.Outcome State Fault Refusal :=
  let s := s.at_ t
  .next (if ingotLive s a then doubleBit a consumer o false s else s)

/-- A write that was lost enters its burst in the poison table; a full table retires the channel, and where that is withheld
every read of it is poisoned (07 R388). -/
def poisonBurst (a : Long) (s : State) : State :=
  let ch := chanOfAddr a
  let b := a.toNat / 64 * 64
  let c := getI s.draw.chan ch DramChan.reset
  if c.poison.contains b then s
  else if c.poison.length < 64 then modDram ch (fun c => { c with poison := c.poison ++ [b] }) s
  else
    let s1 := retireDram ch s
    if (getI s1.draw.chan ch DramChan.reset).retired then s1 else modDram ch (fun c => { c with allPoison := true }) s1

/-- A channel timeout and the one reissue (07 R388). -/
def timeout (a : Long) (consumer : Nat) (write : Bool) (o : RetryOutcome) (s : State) : State :=
  let retry := rereadAllowed s consumer
  let bad := o == .failed || !retry
  let s1 := if bad then planishPoison a consumer (eccUnc a consumer s) else s
  let s2 := if bad && write then poisonBurst a s1 else s1
  let s3 := if o = .corrected ∧ retry then corrected true (chanOfAddr a) s2 else s2
  upsetRetire 3 (chanOfAddr a) (Config.detectCode 3 % 256) false (b2n retry) 0 s3

/-- CHANNEL_TIMEOUT. -/
def execChannelTimeout (a : Long) (consumer : Nat) (write : Bool) (o : RetryOutcome) (t : Nat) (s : State) :
    Host.Outcome State Fault Refusal :=
  let s := s.at_ t
  .next (if ingotLive s a then timeout a consumer write o s else s)

/-- PATROL_SCRUB: one INGOT word is read (07 R384, R385). -/
def execPatrolScrub (a : Long) (singleBit : Bool) (s : State) : Host.Outcome State Fault Refusal :=
  .next (
    if !ingotLive s a then s
    else (if singleBit then corrected true (chanOfAddr a) s else s).emit (.patrol a.toNat))

/-! ## Allocation (07 R354 to R361) -/

def Tier.code : Tier → Nat
  | .foil => 1
  | .sheet => 2
  | .ingot => 3

/-- Parameters of DRAW_ALLOC. -/
structure AllocReq where
  size : Nat
  flags : Nat
  bench : Nat
  align : Nat
deriving DecidableEq, Repr

def allocOf (b : Bytes) : AllocReq :=
  { size := ceilDiv (fld b 0 8) 64 * 64, flags := fld b 8 2, bench := fld b 10 1, align := fld b 11 1 }

/-- The bench of a FOIL object may be any the tenant owns that leaves room above FOIL_FOOT (07 R356). -/
def foilBad (p : Packet) (q : AllocReq) (s : State) : Bool :=
  let x := benchOf s q.bench
  decide (15 < q.bench) || x.state == .free || !mayUse p x.tenant ||
    decide (262144 - ((x.cert.map (·.foilFoot)).getD 0) < q.size)

/-- What stops DRAW_ALLOC before a place is sought. -/
def allocRefusal (p : Packet) (q : AllocReq) (s : State) : Option (Half × Nat) :=
  let raw := fld p.params 0 8
  let tier := bits q.flags 1 0
  if raw < 64 ∨ 2 ^ 32 < raw then some (stBAD_PARAM, 0x20)
  else if q.align < 6 ∨ 21 < q.align then some (stBAD_PARAM, 0x2B)
  else match tier with
    | 1 => if foilBad p q s then some (stBAD_PARAM, 0x2A) else none
    | 2 =>
      if q.bench = 0xFF then none
      else if 15 < q.bench ∨ (benchOf s q.bench).state = .free then some (stBAD_PARAM, 0x2A)
      else if !mayUse p (benchOf s q.bench).tenant then some (stDENIED, noField)
      else none
    | _ => if q.bench ≠ 0xFF then some (stBAD_PARAM, 0x2A) else none

/-- SHEET that tenants' objects may lie in: all but the 1 MiB of R353. -/
def sheetLo : Nat := sheetBase
def sheetHi : Nat := sheetBase + sheetTotal

/-- A SHEET extent when `room` bytes may still be taken. -/
def sheetExtent (s : State) (q : AllocReq) (room pick : Nat) : Option Nat :=
  if room < q.size then none else findExtent s sheetLo sheetHi q.align q.size pick

/-- FOIL extents of a bench are held as addresses of the model (log entry 25). -/
def foilTaken (s : State) (b : Nat) : List (Nat × Nat) :=
  (s.draw.objs.filter fun o => o.tier == .foil && o.bench == some b && !o.lost).map fun o => (o.addr, o.addr + o.size)

def foilGaps (s : State) (b align : Nat) : List (Nat × Nat) :=
  let lo := foilAddr b + (((benchOf s b).cert.map (·.foilFoot)).getD 0)
  let hi := foilAddr b + 262144
  let l := foilTaken s b
  (((lo :: l.map (·.2)).map (alignUp · align)).filter fun a => decide (a < hi)).map fun a =>
    (a, (l.filter fun e => decide (a < e.2)).foldl (fun m e => min m (max a e.1)) hi - a)

/-- Where an object goes: tier, channel and address; or the largest free extent of its tier (07 R357; 15 R708). -/
def placeObj (s : State) (q : AllocReq) (pick : Nat) : Sum Nat (Tier × Nat × Nat) :=
  let ingot : Sum Nat (Tier × Nat × Nat) :=
    match ingotExtent s q.size q.align pick with
    | some (ch, a) => .inr (.ingot, ch, a)
    | none => .inl ((channelOrder s).foldl (fun m ch => max m (largestExtent s (chanLo ch) (chanHi ch) q.align)) 0)
  let sheet (room : Nat) : Sum Nat (Tier × Nat × Nat) :=
    match sheetExtent s q room pick with
    | some a => .inr (.sheet, 0xFF, a)
    | none => .inl (min room (largestExtent s sheetLo sheetHi q.align))
  match bits q.flags 1 0 with
  | 0 =>
    if q.size ≤ 2 ^ 20 ∧ q.size + 2 ^ 20 ≤ poolFree s then
      match sheet (poolFree s) with
      | .inr r => .inr r
      | .inl _ => ingot
    else ingot
  | 1 =>
    let g := foilGaps s q.bench q.align
    match g.find? fun e => decide (q.size ≤ e.2) with
    | some e => .inr (.foil, 0xFF, e.1)
    | none => .inl (g.foldl (fun m e => max m e.2) 0)
  | 2 => sheet (if q.bench = 0xFF then poolFree s else (benchOf s q.bench).share - shareUsed s q.bench)
  | _ => ingot

/-- The result of DRAW_ALLOC (07 R355). -/
def allocResult (o : Obj) : Bytes :=
  le4 o.handle ++ le1 o.tier.code ++ le1 (if o.tier = .ingot then o.channel else 0xFF) ++ [0, 0] ++
    le8 (if o.pinned && o.tier != .foil then o.addr else 0)

/-- DRAW_ALLOC: `pick` and `extent` are the run-time's choices of handle and place. -/
def execDrawAlloc (r : Ref) (pick extent : Nat) (s : State) : Host.Outcome State Fault Refusal :=
  .next (runOp 0x0702 r s fun p s =>
    let q := allocOf p.params
    match allocRefusal p q s with
    | some (st, off) => refuse p st off s
    | none => match placeObj s q extent with
      | .inl n => refuseWith p stBUSY (le8 n) s
      | .inr (tier, ch, a) =>
        let o : Obj :=
          { handle := freshHandle s pick fun _ => true, tenant := p.tenant, tier := tier, size := q.size
            anyTier := bits q.flags 1 0 == 0, pinned := bit q.flags 2 || tier == .foil, shared := bit q.flags 3
            cls := bits q.flags 6 4, bench := if q.bench = 0xFF then none else some q.bench, channel := ch, addr := a
            lost := false, order := s.draw.nextOrder }
        ok p (allocResult o) (s.setDraw { s.draw with objs := s.draw.objs ++ [o], nextOrder := s.draw.nextOrder + 1 }))

/-- DRAW_FREE (07 R361, R391). -/
def execDrawFree (r : Ref) (s : State) : Host.Outcome State Fault Refusal :=
  .next (runOp 0x0703 r s fun p s =>
    match objOf s (fld p.params 0 4) with
    | none => refuse p stBAD_PARAM 0x20 s
    | some o =>
      if !mayUse p o.tenant then refuse p stDENIED noField s
      else if referred s o then refuse p stBUSY noField s
      else ok p [] (s.setDraw { s.draw with objs := s.draw.objs.filter fun x => x.handle != o.handle }))

/-! ## Streams, ranges, ports and channels -/

/-- DRAW_STREAM_OPEN (07 R368, R379). -/
def execDrawStreamOpen (r : Ref) (pick : Nat) (s : State) : Host.Outcome State Fault Refusal :=
  .next (runOp 0x0720 r s fun p s =>
    let sh := fld p.params 0 8
    let ig := fld p.params 8 8
    let h := freshHandle s pick fun _ => true
    let q : Request :=
      { kind := .stream, cls := p.cls, tenant := p.tenant, demands := [⟨4, p.cls, sh⟩, ⟨5, p.cls, ig⟩], object := 0xFFFF
        vDecl := 0, recipe := 0 }
    let r := decideAdm q h s
    match r.payload with
    | some e => refuseWith p stREFUSED_BUDGET e r.state
    | none =>
      let x : Stream := { handle := h, tenant := p.tenant, sheet := sh, ingot := ig, tokS := refillOf s sh, tokI := refillOf s ig }
      ok p (le4 h) (r.state.setDraw { r.state.draw with streams := r.state.draw.streams ++ [x] }))

/-- DRAW_STREAM_CLOSE. -/
def execDrawStreamClose (r : Ref) (s : State) : Host.Outcome State Fault Refusal :=
  .next (runOp 0x0721 r s fun p s =>
    match admTarget p (fld p.params 0 4) 0x20 [.stream] s with
    | .inl (st, off) => refuse p st off s
    | .inr a => if s.fab.lists.any (listNames a.handle) then refuse p stBUSY noField s else ok p [] (release a s))

/-- DRAW_RANGE_SET (07 R370, R371). -/
def execDrawRangeSet (r : Ref) (s : State) : Host.Outcome State Fault Refusal :=
  .next (runOp 0x0730 r s fun p s =>
    let i := fld p.params 0 1
    if 15 < i then refuse p stBAD_PARAM 0x20 s
    else if !s.led.held.isEmpty then refuse p stDENIED noField s
    else ok p [] (s.setDraw { s.draw with ranges := upd s.draw.ranges i fun _ => BitVec.ofNat 64 (fld p.params 8 8) }))

/-- DRAW_PORT_MODE (07 R371). -/
def execDrawPortMode (r : Ref) (s : State) : Host.Outcome State Fault Refusal :=
  .next (runOp 0x0731 r s fun p s =>
    let port := fld p.params 0 1
    if 3 < port then refuse p stBAD_PARAM 0x20 s
    else if 1 < fld p.params 1 1 then refuse p stBAD_PARAM 0x21 s
    else if !s.led.held.isEmpty then refuse p stDENIED noField s
    else ok p [] (s.setDraw { s.draw with rangeMode := upd s.draw.rangeMode port fun _ => fld p.params 1 1 == 1 }))

/-- The content of a channel is gone (07 R393). -/
def emptyChannel (ch : Nat) (m : Memory) : Memory := ⟨m.cells.filter fun c => !(inIngot c.1 && c.1 / 2 ^ 34 == ch)⟩

/-- DRAW_CHAN_UNRETIRE (07 R393, 02 R118, 12 R572). -/
def execDrawChanUnretire (r : Ref) (s : State) : Host.Outcome State Fault Refusal :=
  .next (runOp 0x0740 r s fun p s =>
    let ch := fld p.params 0 1
    if 3 < ch ∨ !(getI s.draw.chan ch DramChan.reset).retired then refuse p stBAD_PARAM 0x20 s
    else if !s.led.held.isEmpty then refuse p stDENIED noField s
    else
      let s1 := modDram ch (fun c => { c with retired := false, poison := [] })
        (s.setDraw { s.draw with mem := emptyChannel ch s.draw.mem })
      ok p [] (noticeCapacity 5 0 (returned 3 ch (wantRecord 3 s1))))

/-- DRAW_CHAN: live channels (07 Table 7.8). -/
def drawChan (s : State) : Word :=
  BitVec.ofNat 32 (s.draw.chan.mapIdx fun i c => if c.retired then 0 else 2 ^ i).sum

/-- Free bytes that tenants may allocate in an INGOT channel. -/
def ingotFree (s : State) (ch : Nat) : Nat :=
  if (getI s.draw.chan ch DramChan.reset).retired then 0 else chanHi ch - chanLo ch - chanUsed s ch

/-- DRAW_STATUS (15 Table 15.10). -/
def execDrawStatus (r : Ref) (s : State) : Host.Outcome State Fault Refusal :=
  .next (runOp 0x0701 r s fun p s =>
    ok p (le8 (poolFree s) ++ (List.range 4).flatMap (fun ch => le8 (ingotFree s ch)) ++ le4 (drawChan s).toNat ++
      s.draw.tokS.flatMap (leInt 4) ++ s.draw.tokI.flatMap (leInt 4)) s)

end Sys2Proof.Machine
end

