-- ==== Sys2Proof/Machine/Kwelo.lean ====
section
/-! DEFINITION. The protocol's commands (chapters 03 and 16): fetching and validating packets, the sideband, notices,
interrupts, time limits, doorbells, and the ring enable. -/

namespace Sys2Proof.Machine

/-! ## Validation (03 R130, Table 3.3) -/

/-- A failing step: its number, the offset of the field at fault, and the status. -/
structure Reject where
  step : Nat
  off : Nat
  status : Half
deriving DecidableEq, Repr

/-- Header fields (03 Table 3.1). -/
def hVersion (b : Bytes) : Nat := fld b 0x00 1
def hPrincipal (b : Bytes) : Nat := fld b 0x01 1
def hOpcode (b : Bytes) : Nat := fld b 0x02 2
def hTag (b : Bytes) : Nat := fld b 0x04 2
def hClass (b : Bytes) : Nat := fld b 0x06 1
def hFlags (b : Bytes) : Nat := fld b 0x08 2
def hLen (b : Bytes) : Nat := fld b 0x0A 2
def hDeadline (b : Bytes) : Word := BitVec.ofNat 32 (fld b 0x0C 4)
def hFence (b : Bytes) : Word := BitVec.ofNat 32 (fld b 0x10 4)
def hReplyAddr (b : Bytes) : Long := BitVec.ofNat 64 (fld b 0x14 8)
def hReplyMax (b : Bytes) : Nat := fld b 0x1C 2

def hParams (b : Bytes) : Bytes := (b.drop 0x20).take (hLen b)

/-- Longest packet, longest parameters and greatest REPLY_MAX of a principal (03 R130, R167). -/
def maxPacket (prin : Nat) : Nat := if prin = 64 then 1060 else 4132
def maxParams (prin : Nat) : Nat := if prin = 64 then 1024 else 4096

/-- First offset at fault in step 5: reserved fields, flags and padding, TAG 0xFFFF, DEADLINE without DL, REPLY_MAX, and on
the sideband REPLY_ADDR (03 R128, R130, R167). -/
def step5 (prin : Nat) (b : Bytes) : Option Nat :=
  let pad := ((b.drop (0x20 + hLen b)).take (b.length - 4 - (0x20 + hLen b)))
  if bit (hPrincipal b) 7 then some 0x01
  else if hTag b = 0xFFFF then some 0x04
  else if bits (hClass b) 7 3 ≠ 0 then some 0x06
  else if fld b 0x07 1 ≠ 0 then some 0x07
  else if bits (hFlags b) 15 5 ≠ 0 then some 0x08
  else if !bit (hFlags b) 0 && hDeadline b != 0 then some 0x0C
  else if prin = 64 ∧ hReplyAddr b ≠ 0 then some 0x14
  else if maxParams prin < hReplyMax b then some 0x1C
  else if fld b 0x1E 2 ≠ 0 then some 0x1E
  else match badReserved (hOpcode b) (bit (hFlags b) 1) (hParams b) with
    | some off => some off
    | none => if allZero pad then none else some (0x20 + hLen b)

/-- The principal holds the level (03 R137, R172; 15 R688). -/
def holds (prin opcode : Nat) (l : Level) : Bool :=
  if prin = 64 then sbOpcodes.contains opcode
  else match l with
    | .any | .anySb => true
    | .admin | .sb => prin == 0

/-- The class is permitted to the principal (03 R139, R167). -/
def classAllowed (s : State) (prin cls : Nat) : Bool :=
  if prin = 64 then cls == 0 else (ten s prin).classMask.getLsbD cls

/-- Steps 1 to 4 of Table 3.3, which read the packet alone. -/
def validateForm (prin : Nat) (b : Bytes) : Option Reject :=
  let n := b.length
  if n % 4 ≠ 0 ∨ n < 36 ∨ maxPacket prin < n then some ⟨1, 0xFFFF, stBAD_LENGTH⟩
  else if !crcOk b then some ⟨2, n - 4, stBAD_CRC⟩
  else if hVersion b ≠ 1 then some ⟨3, 0x00, stBAD_PARAM⟩
  else if maxParams prin < hLen b ∨ n ≠ 36 + up4 (hLen b) then some ⟨4, 0x0A, stBAD_LENGTH⟩
  else none

/-- Steps 5 to 9: contents, principal, opcode, privilege and class. -/
def validateRights (prin : Nat) (b : Bytes) (s : State) : Option Reject :=
  match step5 prin b with
  | some off => some ⟨5, off, stBAD_PARAM⟩
  | none =>
    if hPrincipal b ≠ prin then some ⟨6, 0x01, stDENIED⟩
    else match opRow (hOpcode b) with
      | none => some ⟨7, 0x02, stBAD_OPCODE⟩
      | some row =>
        if !holds prin (hOpcode b) row.level then some ⟨8, 0xFFFF, stDENIED⟩
        else if !classAllowed s prin (bits (hClass b) 2 0) then some ⟨9, 0x06, stDENIED⟩
        else none

/-- Steps 10 to 13: tag, fence and deadline. A deadline while the PTB is not anchored is refused with BUSY_RETRY (14
R655; log entry 23). -/
def validateTime (prin : Nat) (b : Bytes) (s : State) : Option Reject :=
  if s.kw.outstanding.any (fun p => p.principal == prin && p.tag.toNat == hTag b) then some ⟨10, 0x04, stBAD_PARAM⟩
  else if hFence b ≠ fenceOf s prin then some ⟨11, 0x10, stFENCED⟩
  else if !bit (hFlags b) 0 then none
  else if !s.pos.anchored then some ⟨12, 0x0C, stBUSY⟩
  else if !inHorizon s (hDeadline b) then some ⟨12, 0x0C, stREFUSED_HORIZON⟩
  else if reached s (expand s (hDeadline b)) then some ⟨13, 0x0C, stTIMED_OUT⟩
  else none

/-- Steps 1 to 13, in order; the first that fails. -/
def validate (prin : Nat) (b : Bytes) (s : State) : Option Reject :=
  ((validateForm prin b).or (validateRights prin b s)).or (validateTime prin b s)

/-- The outstanding packet made of a packet that passed validation. -/
def packetOf (prin : Nat) (b : Bytes) (slot : Half) (s : State) : Packet :=
  { principal := prin, tag := BitVec.ofNat 16 (hTag b), opcode := BitVec.ofNat 16 (hOpcode b), cls := bits (hClass b) 2 0
    flags := BitVec.ofNat 16 (hFlags b)
    deadline := if bit (hFlags b) 0 then some (expand s (hDeadline b)) else none
    fence := hFence b, replyAddr := hReplyAddr b, replyMax := hReplyMax b, params := hParams b, sqSlot := slot
    fetchedAt := s.now, fetchHwm := s.pos.hwm, tmo := if prin = 64 then 0 else (ten s prin).tmo
    order := s.kw.nextOrder, started := false, committed := false, commitFence := 0, commitSpos := 0
    raw := b, orphan := false, sbAddr := 0, sbPort := 0, sbCrc := BitVec.ofNat 32 (fld b (b.length - 4) 4) }

/-- The packet becomes outstanding, after every earlier one (03 R152, R154). -/
def addPacket (p : Packet) (s : State) : State :=
  s.setKw { s.kw with outstanding := s.kw.outstanding ++ [p], nextOrder := s.kw.nextOrder + 1 }

/-- The reply to a packet refused in validation (03 R130): tag 0xFFFF, opcode 0 and no NOTIFY when the header was not read; the
packet's own FENCE at step 11. On the sideband the result is cut at the packet's REPLY_MAX (03 R169). -/
def rejectInfo (prin : Nat) (b : Bytes) (slot : Half) (j : Reject) (s : State) : ReplyInfo :=
  { tenant := prin, status := j.status, tag := if j.step = 1 then 0xFFFF else BitVec.ofNat 16 (hTag b)
    opcode := if j.step = 1 then 0 else BitVec.ofNat 16 (hOpcode b), sp := spos s
    fence := if j.step = 11 then hFence b else fenceOf s prin, slot := slot, addr := 0
    max := if prin = 64 ∧ j.step ≠ 1 then hReplyMax b else 1024
    notify := decide (j.step ≠ 1) && bit (hFlags b) 2, result := le2 j.step ++ le2 j.off }

/-- Validate a fetched packet: reply at the first failing step, else keep it as outstanding (03 R130). -/
def accept (n : Nat) (b : Bytes) (slot : Half) (s : State) : State :=
  match validate n b s with
  | some j => tenantReply (rejectInfo n b slot j s) false s
  | none => addPacket (packetOf n b slot s) s

/-! ## DESCRIPTOR_FETCH (03 R145, R146, R151) -/

/-- A descriptor can be fetched: link up, rings enabled, no restart, a descriptor waiting and a completion slot to
reserve. -/
def canFetch (s : State) (n : Nat) : Bool :=
  let t := ten s n
  tenantExists s n && ringLive s n && !ctrlHeld s && t.sqHead != t.sqTail && slotFree t

/-- PKT_ADDR unaligned, or PKT_LEN outside 36 to 4,132 or no multiple of 4 (03 R151). -/
def badDescriptor (addr len : Nat) : Bool := addr % 8 != 0 || decide (len < 36) || decide (4132 < len) || len % 4 != 0

def fetch (n : Nat) (dmaOk : Bool) (s : State) : State :=
  let t := ten s n
  let d := memRead s.host (t.sqBase.toNat + 16 * t.sqHead) 16
  let addr := fld d 0 8
  let len := fld d 8 2
  if !dmaOk || hostBad s (t.sqBase.toNat + 16 * t.sqHead) 16 then ringError n 2 s
  else if badDescriptor addr len then ringError n 1 s
  else if hostBad s addr len then ringError n 2 s
  else accept n (memRead s.host addr len) (BitVec.ofNat 16 t.sqHead)
    (modTen n (fun t => { t with sqHead := (t.sqHead + 1) % 2 ^ t.sqLog, reserved := t.reserved + 1 }) s)

/-- DESCRIPTOR_FETCH: `dmaOk` says that the host-memory accesses ended without error. -/
def execDescriptorFetch (n : Nat) (dmaOk : Bool) (t : Nat) (s : State) : Host.Outcome State Fault Refusal :=
  let s := s.at_ t
  .next (if canFetch s n then fetch n dmaOk s else s)

/-! ## The sideband (03 R166 to R173) -/

/-- The source address lies in one of the four allowed prefixes (03 R168). -/
def allowed (s : State) (a : Word) : Bool :=
  s.kw.sbAllow.any fun (net, len) => (a ^^^ net).toNat / 2 ^ (32 - len) == 0

/-- The management controller serves the sideband (03 R173, 12 R588). -/
def mgmtUp (s : State) : Bool := domOn s 1 && !s.pwr.mgmtRestart

/-- Kept replies that are younger than 10 s (03 R170). -/
def keptReplies (s : State) : List SbReply := s.kw.sbCache.filter fun e => decide (s.now < e.at_ + sTicks 10)

def sbKey (d : Datagram) (e : SbReply) : Bool := e.addr == d.srcAddr && e.port == d.srcPort && e.tag.toNat == hTag d.bytes

def sbCrcOf (b : Bytes) : Word := BitVec.ofNat 32 (fld b (b.length - 4) 4)

/-- A sideband packet after the cache: validation with the tag check of R170, the limit of 8 (03 R171), else outstanding. A
refusal of a key in use is not kept, so that it stands in the way of no other reply of that key (log entry 120). -/
def acceptSideband (d : Datagram) (s : State) : State :=
  let b := d.bytes
  let answer (j : Reject) :=
    let i := rejectInfo 64 b 0xFFFF j s
    if j.step = 10 then sendSideband d.srcAddr d.srcPort (sidebandBytes i) s else sidebandReply d.srcAddr d.srcPort (sbCrcOf b) i s
  match (validateForm 64 b).or (validateRights 64 b s) with
  | some j => answer j
  | none =>
    if (keptReplies s).any (sbKey d) then answer ⟨10, 0x04, stBAD_PARAM⟩
    else match validateTime 64 b s with
      | some j => answer j
      | none =>
        if 8 ≤ (s.kw.outstanding.filter (·.principal == 64)).length then answer ⟨14, 0xFFFF, stBUSY⟩
        else addPacket { packetOf 64 b 0xFFFF s with sbAddr := d.srcAddr, sbPort := d.srcPort } s

/-- A datagram that passed the filters: a repeated key with the same CRC gets the kept reply (03 R170). -/
def serveSideband (d : Datagram) (s : State) : State :=
  match (keptReplies s).find? fun e => sbKey d e && e.crc == sbCrcOf d.bytes with
  | some e => sendSideband d.srcAddr d.srcPort e.reply s
  | none => acceptSideband d s

/-- The sideband answers ARP for its address and ICMP echo; it discards fragments, every other port and every other address
(03 R166). -/
def answerSideband (d : Datagram) (s : State) : State :=
  match d.kind with
  | .arp => s.emit (.arpReply d.srcAddr)
  | .echo => if d.fragmented then s else s.emit (.echoReply d.srcAddr d.bytes)
  | .udp => if d.dstPort != sbUdpPort || d.fragmented then s else serveSideband d s

/-- SIDEBAND_DATAGRAM: the allow list discards and counts whatever its port and fragments (03 R166, R168). -/
def execSidebandDatagram (d : Datagram) (t : Nat) (s : State) : Host.Outcome State Fault Refusal :=
  let s := s.at_ t
  .next (
    if !(mgmtUp s && s.kw.sbLink) then s
    else
      let s := s.setKw { s.kw with sbActive := some s.now }
      if d.kind != .arp && !allowed s d.srcAddr then s.setKw { s.kw with sbDropped := s.kw.sbDropped + 1 }
      else if d.dstAddr != s.kw.sbAddr then s
      else answerSideband d s)

/-- SIDEBAND_CACHE_EXPIRY: 10 s after a reply was kept it is kept no more (03 R170). -/
def execSidebandCacheExpiry (addr : Word) (port tag : Half) (s : State) : Host.Outcome State Fault Refusal :=
  .next (match s.kw.sbCache.find? fun e => e.addr == addr && e.port == port && e.tag == tag with
    | none => s
    | some e =>
      let s := s.at_ (e.at_ + sTicks 10)
      s.setKw { s.kw with sbCache := s.kw.sbCache.filter fun x => !(x == e) })

/-! ## Notices, interrupts and limits -/

/-- NOTICE_DELIVERY (03 R164). -/
def execNoticeDelivery (n : Nat) (s : State) : Host.Outcome State Fault Refusal := .next (deliverOne n s)

/-- IRQ_COALESCE_TIMEOUT: the oldest pending reply has waited KW_IRQ_COAL.TIME (03 R149). -/
def execIrqCoalesceTimeout (n : Nat) (s : State) : Host.Outcome State Fault Refusal :=
  let t := ten s n
  .next (
    if t.coalPending = 0 ∨ t.coalTime = 0 ∨ !s.kw.linkUp then s
    else msixSend n 0 (modTen n (fun t => { t with coalPending := 0 }) (s.at_ (t.coalSince + usTicks t.coalTime))))

/-- PACKET_TIME_LIMIT: KW_TMO ms after the fetch an uncommitted packet is cancelled (03 R160). -/
def execPacketTimeLimit (r : Ref) (s : State) : Host.Outcome State Fault Refusal :=
  .next (match findP r s with
    | none => s
    | some p =>
      if p.committed || p.tmo == 0 then s
      else
        let s := s.at_ (p.fetchedAt + msTicks p.tmo)
        cancelP p stTIMED_OUT (fenceOf s p.principal) s)

/-- DEADLINE_EXPIRY: the HWM has reached the deadline of an uncommitted packet (03 R159). -/
def execDeadlineExpiry (r : Ref) (s : State) : Host.Outcome State Fault Refusal :=
  .next (match findP r s with
    | none => s
    | some p => if p.committed || !deadlineReached s p then s else cancelP p stTIMED_OUT (fenceOf s p.principal) s)

/-! ## Doorbells and the ring enable (03 R142 to R151, 16 R721 to R727) -/

/-- The host reaches the function's BAR. -/
def barReachable (s : State) (n : Nat) : Bool := tenantExists s n && s.kw.linkUp

/-- A write to KW_SQ_DB (03 R145; 16 R722, R723). -/
def sqDoorbell (n : Nat) (v : Word) (s : State) : State :=
  let t := ten s n
  let tail := bits v.toNat 11 0
  if !t.en then s
  else if 2 ^ t.sqLog ≤ tail then ringError n 0 s
  else modTen n (fun t => { t with sqTail := tail }) s

/-- KW_SQ_DB_WRITE: `placed` is what the host has made visible in its memory before the write, and `faulty` the ranges in which
an access ends in an error from now on (03 R144, R151; log entry 4). -/
def execKwSqDbWrite (n : Nat) (v : Word) (placed : HostPlaced) (s : State) : Host.Outcome State Fault Refusal :=
  let s := (s.setHost (memPlace s.host placed.bytes)).setKw { s.kw with badHost := placed.faulty }
  .next (if barReachable s n then sqDoorbell n v s else s)

/-- Slots a KW_CQ_DB value returns (16 R725). -/
def slotsReturned (t : Tenant) (head : Nat) : Nat :=
  let size := cqSlots t
  let k := (head + size - t.cqHead) % size
  if k = 0 ∧ t.unconsumed.length = size then size else k

/-- A write to KW_CQ_DB (03 R150; 16 R722, R725). -/
def cqDoorbell (n : Nat) (v : Word) (s : State) : State :=
  let t := ten s n
  let head := bits v.toNat 11 0
  let k := slotsReturned t head
  if !t.en then s
  else if cqSlots t ≤ head ∨ t.unconsumed.length < k then ringError n 0 s
  else
    let rest := t.unconsumed.drop k
    let s1 := modTen n (fun t => { t with cqHead := head, unconsumed := rest }) s
    match rest with
    | [] => s1
    | vec :: _ => msixSend n vec s1

/-- KW_CQ_DB_WRITE. -/
def execKwCqDbWrite (n : Nat) (v : Word) (s : State) : Host.Outcome State Fault Refusal :=
  .next (if barReachable s n then cqDoorbell n v s else s)

/-- Sizes that R142 accepts. -/
def sizesOk (t : Tenant) : Bool :=
  decide (4 ≤ t.sqLog) && decide (t.sqLog ≤ 12) && decide (4 ≤ t.cqLog) && decide (t.cqLog ≤ 12) && decide (t.sqLog ≤ t.cqLog)

/-- DB_RANGE, DESC_BAD, DMA_ERR or LINK_LOST keeps EN at 0 (16 R721). -/
def enBlocked (t : Tenant) : Bool := (t.ringStatus &&& 0x17) != 0

/-- A write of EN = 1 (16 R721, 03 R142): sizes that R142 refuses set SIZE_BAD, whatever else keeps EN at 0; else the rings
start afresh, and held notices are delivered. -/
def enableRing (n : Nat) (s : State) : State :=
  let t := ten s n
  if t.en then s
  else if !sizesOk t then setStatus n 5 s
  else if enBlocked t then s
  else deliverMany 33 n (modTen n (fun t => { t with
      en := true, sqHead := 0, sqTail := 0, cqTail := 0, cqHead := 0, phase := true, unconsumed := [], reserved := 0 }) s)

/-- RING_ENABLE. -/
def execRingEnable (n : Nat) (s : State) : Host.Outcome State Fault Refusal :=
  .next (if barReachable s n then enableRing n s else s)

/-- RING_DISABLE (03 R151, R156). -/
def execRingDisable (n : Nat) (s : State) : Host.Outcome State Fault Refusal :=
  .next (if barReachable s n && (ten s n).en then disableRing n s else s)

/-- A write to KW_IRQ_COAL takes effect at once and restarts the wait of the oldest pending reply (16 R727). -/
def writeCoal (n : Nat) (v : Word) (s : State) : State :=
  let count := bits v.toNat 11 0
  let time := bits v.toNat 31 16
  let s1 := modTen n (fun t => { t with coalCount := count, coalTime := time, coalSince := s.now }) s
  let pend := (ten s n).coalPending
  if pend ≠ 0 ∧ ((count = 0 ∧ time = 0) ∨ (count ≠ 0 ∧ count ≤ pend)) then
    msixSend n 0 (modTen n (fun t => { t with coalPending := 0 }) s1)
  else s1

/-- KW_IRQ_COAL_WRITE. -/
def execKwIrqCoalWrite (n : Nat) (v : Word) (s : State) : Host.Outcome State Fault Refusal :=
  .next (if barReachable s n then writeCoal n v s else s)

/-- Send the message of a vector whose pending bit is set and which waits no more, and clear the bit (16 R730). -/
def flushPending (n v : Nat) (s : State) : State :=
  let t := ten s n
  if getI t.pba v false && !vectorHeld t v && v != 3 then
    (modTen n (fun t => { t with pba := upd t.pba v fun _ => false }) s).emit (.msix n v)
  else s

/-- Clear the mask of vector 0 to 3; 4 enables MSI-X and clears the function mask (16 R730, 03 R149; log entry 24). -/
def unmask (n v : Nat) (s : State) : State :=
  if v < 4 then flushPending n v (modTen n (fun t => { t with msix := upd t.msix v fun e => { e with masked := false } }) s)
  else
    flushPending n 2 (flushPending n 1 (flushPending n 0
      (modTen n (fun t => { t with msixEn := true, fnMask := false }) s)))

/-- MSIX_UNMASK. -/
def execMsixUnmask (n v : Nat) (s : State) : Host.Outcome State Fault Refusal :=
  .next (if barReachable s n then unmask n v s else s)

/-- FUNCTION_LEVEL_RESET: the window to its reset values, KW_FENCE bumped, KW_CLASSMASK and the admissions kept, event
counters zero (03 R140, R156; 06 R333; 16 R720). -/
def functionReset (n : Nat) (s : State) : State :=
  let s1 := disableRing n s
  modTen n (fun t =>
    { Tenant.reset n with
      fence := t.fence, classMask := t.classMask, heldNotices := t.heldNotices, overflow := t.overflow
      noticeSeq := t.noticeSeq, outcomes := t.outcomes, overwritten := t.overwritten, hostARing := t.hostARing
      latches := t.latches.filter fun e => decide (0x8000 ≤ e.1) }) s1

def execFunctionLevelReset (n : Nat) (s : State) : Host.Outcome State Fault Refusal :=
  .next (if barReachable s n then functionReset n s else s)

/-! ## The host link (03 R176 to R179) -/

/-- Every tenant whose function exists. -/
def tenantsUp (s : State) : List Nat := (List.range 64).filter (tenantExists s)

/-- One tenant at loss of the link: LINK_LOST, EN cleared, the fence bumped (03 R176). -/
def loseLink (l : List Nat) (s : State) : State :=
  match l with
  | [] => s
  | n :: r => loseLink r (disableRing n (setStatus n 4 s))

/-- Loss of the host link: admissions stay held and production continues (03 R176, 12 R599). -/
def linkLoss (s : State) : State :=
  let cut := (s.kw.outstanding.filter fun p => p.principal != 64 && !p.committed).length
  let s1 := s.setKw { s.kw with linkUp := false, lostAt := s.now, lossReleased := false }
  let s2 := loseLink (tenantsUp s1) s1
  logFault { entryOf s2 0x0B 1 0 with detect := 0x0B00 + Config.detectCode 0x0B % 256, affected := cut } s2

/-- HOST_LINK_LOSS. -/
def execHostLinkLoss (t : Nat) (s : State) : Host.Outcome State Fault Refusal :=
  let s := s.at_ t
  .next (if s.kw.linkUp then linkLoss s else s)

/-- Vector 2 on every function (03 R149). -/
def signalReturn (l : List Nat) (s : State) : State :=
  match l with
  | [] => s
  | n :: r => signalReturn r (msixSend n 2 s)

/-- Domains CTRL (code 2) and HOST (code 5) are on (13 Table 13.2). -/
def hostPowered (s : State) : Bool := domOn s 2 && domOn s 5

/-- Generation and width the host link trains to: 5.0 x8, or down to 1.0 and to x1 (03 Table 3.5). -/
def linkTrains (gen width : Nat) : Bool := decide (1 ≤ gen) && decide (gen ≤ 5) && [1, 2, 4, 8].contains width

/-- HOST_LINK_RETURN: the link has trained to a generation and width of Table 3.5 (03 R136, R149). -/
def execHostLinkReturn (u : LinkUp) (s : State) : Host.Outcome State Fault Refusal :=
  let s := s.at_ u.t
  .next (
    if s.kw.linkUp || !hostPowered s || !linkTrains u.gen u.width then s
    else
      let s1 := s.setKw { s.kw with linkUp := true, link := (u.gen, u.width) }
      signalReturn (tenantsUp s1) s1)

end Sys2Proof.Machine
end

