-- ==== Sys2Proof/Machine/Hosts.lean ====
section
/-! DEFINITION. Commands of the System and Ledger groups that need no other chapter (15 Tables 15.2 and 15.6), NUMVFS_REDUCE and
HOST_LOSS_RELEASE (chapter 03). -/

namespace Sys2Proof.Machine

/-! ## Tenants and the host link -/

/-- One tenant removed with its function: its admissions released, its objects freed, its function reset (03 R140, 07
R361). -/
def removeTenants (l : List Nat) (s : State) : State :=
  match l with
  | [] => s
  | n :: r =>
    let s1 := releaseWhere (fun a => a.tenant == n) s
    let s2 := s1.setDraw { s1.draw with objs := s1.draw.objs.filter fun o => o.tenant != n }
    removeTenants r (functionReset n s2)

/-- NUMVFS_REDUCE: the functions above `n` cease to exist. -/
def execNumvfsReduce (n : Nat) (s : State) : Host.Outcome State Fault Refusal :=
  .next (
    if s.kw.numVfs ≤ n then s
    else
      let s1 := removeTenants ((List.range 64).filter fun k => decide (n < k) && decide (k ≤ s.kw.numVfs)) s
      s1.setKw { s1.kw with numVfs := n })

/-- A verdict-path admission: a recipe or a bench that serves one (02, "Admission and class order"). -/
def verdictPath (a : Admission) : Bool := a.kind == .recipe || (a.kind == .bench && a.recipe != 0)

/-- HOST_LOSS_RELEASE: 100 ms after the loss, with the action RELEASE and the link still down (03 R178). -/
def execHostLossRelease (s : State) : Host.Outcome State Fault Refusal :=
  .next (
    if s.kw.linkUp || !s.kw.hostLossRelease || s.kw.lossReleased || !domOn s 2 || s.flt.fatal then s
    else
      let s1 := s.at_ (s.kw.lostAt + msTicks 100)
      releaseWhere verdictPath (s1.setKw { s1.kw with lossReleased := true }))

/-! ## System group -/

/-- SYS_IDENTIFY: SERIAL, HW_REV, MGMT_ROM, FW_A, FW_B, MAC (15 Table 15.2). -/
def identifyBytes (s : State) : Bytes :=
  let id := padTo 34 s.boot.identity
  let ver (i : Nat) := let f := getI s.boot.fw i { valid := false, version := 0, image := [] }; le4 (if f.valid then f.version else 0)
  id.take 24 ++ (id.drop 24).take 4 ++ ver 0 ++ ver 1 ++ (id.drop 28).take 6 ++ le2 0

def execSysIdentify (r : Ref) (s : State) : Host.Outcome State Fault Refusal :=
  .next (runOp 0x0102 r s fun p s => ok p (identifyBytes s) s)

/-- SYS_FENCE: the bump, then the reply with the new generation (03 R157). -/
def execSysFence (r : Ref) (s : State) : Host.Outcome State Fault Refusal :=
  .next (runOp 0x0103 r s fun p s =>
    let s1 := bumpFence p.principal (modP p.ref (fun q => { q with committed := true }) s)
    done p stOK (le4 (fenceOf s1 p.principal).toNat) s1)

/-- An outcome-log entry of 16 bytes (15 Table 15.4). -/
def OutcomeEntry.bytes (e : OutcomeEntry) : Bytes :=
  le2 e.tag.toNat ++ le2 e.opcode.toNat ++ le2 e.status.toNat ++ le2 0 ++ le4 e.fence.toNat ++ le4 e.spos.toNat

/-- SYS_OUTCOMES (15 R699). -/
def execSysOutcomes (r : Ref) (s : State) : Host.Outcome State Fault Refusal :=
  .next (runOp 0x0104 r s fun p s =>
    let first := fld p.params 0 2
    let count := fld p.params 2 2
    let t := ten s p.tenant
    if count < 1 ∨ 255 < count then refuse p stBAD_PARAM 0x22 s
    else
      let res := le2 t.outcomes.length ++ le2 t.overwritten ++ le4 0 ++
        ((t.outcomes.drop first).take count).flatMap OutcomeEntry.bytes
      let s1 := if bit (fld p.params 4 1) 0 then
          modTen p.tenant (fun t => { t with
            outcomes := t.outcomes.take first ++ t.outcomes.drop (first + count), overwritten := 0 }) s
        else s
      ok p res s1)

/-- TEN_CONFIG (03 R139, 15 R700). -/
def execTenConfig (r : Ref) (s : State) : Host.Outcome State Fault Refusal :=
  .next (runOp 0x0120 r s fun p s =>
    let n := fld p.params 0 1
    if n < 1 ∨ s.kw.numVfs < n then refuse p stBAD_PARAM 0x20 s
    else ok p [] (modTen n (fun t => { t with classMask := BitVec.ofNat 8 (fld p.params 1 1) }) s))

/-- SYS_HOSTLOSS_SET (03 R178, 15 R695). -/
def execSysHostlossSet (r : Ref) (s : State) : Host.Outcome State Fault Refusal :=
  .next (runOp 0x0121 r s fun p s =>
    let a := fld p.params 0 1
    if 1 < a then refuse p stBAD_PARAM 0x20 s
    else ok p [] (wantRecord 4 (s.setKw { s.kw with hostLossRelease := a == 1 })))

/-! ## Ledger group -/

/-- Instances that LEDG_STATUS accepts for a budget (15 R702). -/
def statusInst (b i : Nat) : Bool :=
  if classCapped b then decide (i < 8)
  else if b = 10 then i == 6 || i == 7
  else (instances b).contains i

/-- CAP, USED and USED7 of LEDG_STATUS (15 R702). -/
def statusRow (s : State) (b i : Nat) : Nat × Nat × Nat :=
  let v := vEff s.led.vadm
  let held := s.led.held
  if b = 10 then (if supplyWarned s then 0 else 2 ^ 64 - 1, 0, 0)
  else if classCapped b then
    (if i < 7 then classCap s v b i else capOf s v b 0, usedC held i b 0, usedC held 7 b 0)
  else (capOf s v b i, used held b i, usedC held 7 b i)

/-- LEDG_STATUS. -/
def execLedgStatus (r : Ref) (s : State) : Host.Outcome State Fault Refusal :=
  .next (runOp 0x0301 r s fun p s =>
    let b := fld p.params 0 1
    let i := fld p.params 1 1
    if b < 1 ∨ 12 < b then refuse p stBAD_PARAM 0x20 s
    else if !statusInst b i then refuse p stBAD_PARAM 0x21 s
    else
      let (c, u, u7) := statusRow s b i
      let byClass := (List.range 8).flatMap fun k => le8 (if b = 10 then 0 else usedC s.led.held k b i)
      ok p (le8 c ++ le8 u ++ le8 u7 ++ byClass ++ le4 (ledgStatus s).toNat ++ le4 (ledgVAdm s)) s)

/-- SHARE0 to SHARE6 of LEDG_CONFIG. -/
def sharesOf (b : Bytes) : List Nat := (List.range 7).map fun i => fld b (4 + 2 * i) 2

/-- LEDG_CONFIG (02 R124). -/
def execLedgConfig (r : Ref) (s : State) : Host.Outcome State Fault Refusal :=
  .next (runOp 0x0302 r s fun p s =>
    let vtol := fld p.params 0 2
    let tamb := fld p.params 2 1
    if 200 < vtol then refuse p stBAD_PARAM 0x20 s
    else if 50 < tamb then refuse p stBAD_PARAM 0x22 s
    else match (List.range 7).find? fun i => decide (1000 < getI (sharesOf p.params) i 0) with
      | some i => refuse p stBAD_PARAM (0x24 + 2 * i) s
      | none =>
        if !s.led.held.isEmpty then refuse p stDENIED noField s
        else ok p [] (s.setLed { s.led with vtol := vtol, tamb := tamb, share := sharesOf p.params }))

/-- KIND codes (15 R702). -/
def AdmKind.code : AdmKind → Nat
  | .recipe => 1
  | .bench => 2
  | .actuation => 3
  | .epoch => 4
  | .tap => 5
  | .stream => 6
  | .capture => 7
  | .shadow => 8

def Admission.bytes (a : Admission) : Bytes :=
  le4 a.handle ++ le1 a.kind.code ++ le1 a.cls ++ le1 a.tenant ++ le1 0 ++ le4 a.spos.toNat ++ le2 a.object ++ le2 0

/-- LEDG_LIST: tenant 0 sees every admission, another tenant its own (15 R702). -/
def execLedgList (r : Ref) (s : State) : Host.Outcome State Fault Refusal :=
  .next (runOp 0x0304 r s fun p s =>
    let mine := s.led.held.filter fun a => mayUse p a.tenant
    let page := (mine.drop (fld p.params 0 2)).take 255
    ok p (le2 page.length ++ le2 mine.length ++ le4 0 ++ page.flatMap Admission.bytes) s)

end Sys2Proof.Machine
end

