-- ==== Sys2Proof/Machine/FieldIo.lean ====
section
/-! DEFINITION. Field I/O (chapter 10): inputs and their filter, wire breaks, shorts, trips, couplers, field supplies, and the
Field I/O group's opcodes. -/

namespace Sys2Proof.Machine

/-! ## Inputs (10 R484 to R494) -/

/-- Domain FIELD is on: samples, frames and edges reach the logic side. -/
def fieldOn (s : State) : Bool := domOn s 4

/-- Current class of a sample (10 Table 10.4): 0 OPEN, 1 CLOSED, 2 BREAK, 3 INVALID. -/
def currentClass (ua : Nat) : Nat :=
  if ua < 500 then 2 else if ua < 1500 then 3 else if ua ≤ 3500 then 0 else if ua ≤ 6000 then 3 else 1

/-- Level at the terminal: rising at 9.0 V, falling at 8.0 V, else as before (10 Table 10.3). -/
def terminalLevel (old : Bool) (mv : Int) : Bool := if 9000 ≤ mv then true else if mv ≤ 8000 then false else old

/-- Filter input of a sample: none where it is not valid, else the level after INV (10 R485, R490). -/
def filterInput (c : DioChan) (mv : Int) (ua : Nat) : Option Bool :=
  if c.wb then
    (match currentClass ua with
     | 0 => some (false != c.inv)
     | 1 => some (true != c.inv)
     | _ => none)
  else some (terminalLevel (c.raw != c.inv) mv != c.inv)

/-- Class that the 10 ms rule follows: 0 valid, 1 BREAK, 2 INVALID (10 R491). -/
def breakClass (c : DioChan) (ua : Nat) : Nat := if c.wb then currentClass ua - 1 else 0

/-- The filter count after a valid sample (10 "Input filter"). -/
def nextCount (c : DioChan) (raw : Bool) : Nat := if raw then min c.limit (c.count + 1) else c.count - 1

/-- One sample of a channel at `now`. -/
def sampleChan (now : Nat) (mv : Int) (ua : Nat) (c : DioChan) : DioChan :=
  let k := breakClass c ua
  let c := { c with cls := if k = c.cls.1 then c.cls else (k, now) }
  match filterInput c mv ua with
  | none => c
  | some raw => { c with raw := raw, count := nextCount c raw }

/-- The count stands at the end that y has not taken, and no flag holds y (10 R485, R491). -/
def edgeDue (c : DioChan) : Bool :=
  !c.brk && !c.invalid && ((c.count == c.limit && !c.y) || (c.count == 0 && c.y))

/-- A sample after which y changes carries the stamp of the edge (10 R488). -/
def stampDue (stamp : Long) (c : DioChan) : DioChan := { c with dueAt := if edgeDue c then some stamp else none }

/-- TS has passed since the last sample (10 R484). -/
def sampleTime (now : Nat) (c : DioChan) : Bool := c.sampled.all fun t => decide (t + usTicks c.ts ≤ now)

/-- DIO_EDGE with the edge's stamp, at most once in 1 ms for a channel; an edge not notified is counted (10 R489). -/
def noteEdge (n : Nat) (level : Bool) (stamp : Long) (s : State) : State :=
  if !(chanOf s n).evt then s
  else if quiet (chanOf s n).edgeNotice (msTicks 1) s.now then
    noticeUnitAt 0x0A01 (low32 stamp) (le1 n ++ le1 (b2n level)) (modChan n (fun c => { c with edgeNotice := some s.now }) s)
  else s.setDio { s.dio with edgeLost := satInc s.dio.edgeLost }

/-- An edge is accepted: y changes, the edge is counted, stamped with the PTB of its sample, notified, and positions plates (10
R488, R489; 09 R436). -/
def acceptEdge (n : Nat) (stamp : Long) (s : State) : State :=
  let level := !(chanOf s n).y
  sensorEdge n level stamp
    (noteEdge n level stamp (modChan n (fun c => { c with y := level, edges := c.edges + 1, dueAt := none }) s))

def acceptDue (n : Nat) (s : State) : State :=
  match (chanOf s n).dueAt with
  | some stamp => if edgeDue (chanOf s n) then acceptEdge n stamp s else s
  | none => s

/-- The channel evaluates its input. -/
def isInput (s : State) (n : Nat) : Bool := decide (n < 32) && fieldOn s && (chanOf s n).dir == 1

/-- DIO_INPUT_SAMPLE: an edge left by the sample before is accepted first. There is no sample before TS has passed. -/
def execDioInputSample (n : Nat) (mv : Int) (ua t : Nat) (s : State) : Host.Outcome State Fault Refusal :=
  let s := s.at_ t
  .next (
    if isInput s n && sampleTime s.now (chanOf s n) then
      let s1 := acceptDue n s
      modChan n (fun c => stampDue (ptb s1) (sampleChan s1.now mv ua { c with sampled := some s1.now })) s1
    else s)

/-- INPUT_EDGE_ACCEPT. -/
def execInputEdgeAccept (n t : Nat) (s : State) : Host.Outcome State Fault Refusal :=
  let s := s.at_ t
  .next (if isInput s n then acceptDue n s else s)

def noticeBreak (n kind : Nat) (set : Bool) (s : State) : State :=
  noticeUnit 0x0A02 (le1 n ++ le1 kind ++ le1 (b2n set)) s

/-- Clear BREAK and INVALID where they are set. -/
def clearBreak (n : Nat) (s : State) : State :=
  let c := chanOf s n
  let s1 := if c.brk then noticeBreak n 1 false (modChan n (fun c => { c with brk := false }) s) else s
  if c.invalid then noticeBreak n 2 false (modChan n (fun c => { c with invalid := false }) s1) else s1

/-- DIO_BREAK: samples of one class for 10 ms set or clear the flags (10 R491). -/
def execDioBreak (n t : Nat) (s : State) : Host.Outcome State Fault Refusal :=
  let s := s.at_ t
  let c := chanOf s n
  .next (
    if !isInput s n || !c.wb || decide (s.now < c.cls.2 + msTicks 10) then s
    else match c.cls.1 with
      | 0 => clearBreak n s
      | 1 => if c.brk then s else noticeBreak n 1 true (modChan n (fun c => { c with brk := true }) s)
      | _ => if c.invalid then s else noticeBreak n 2 true (modChan n (fun c => { c with invalid := true }) s))

/-! ## Outputs and feeds (10 R495 to R501) -/

def isOutput (s : State) (n : Nat) : Bool := decide (n < 32) && (chanOf s n).dir == 2

/-- DIO_OPENLOAD (10 R498). -/
def execDioOpenload (n : Nat) (s : State) : Host.Outcome State Fault Refusal :=
  let c := chanOf s n
  .next (
    if isOutput s n && fieldOn s && c.ol && !c.out && !c.openload then
      noticeUnit 0x0A03 (le1 n) (modChan n (fun c => { c with openload := true }) s)
    else s)

/-- OPENLOAD_CLEAR (10 R498). -/
def execOpenloadClear (n : Nat) (s : State) : Host.Outcome State Fault Refusal :=
  .next (if isOutput s n && fieldOn s && !(chanOf s n).out then modChan n (fun c => { c with openload := false }) s else s)

/-- Pulses that are on at a channel. -/
def pulsesOn (s : State) (n : Nat) : Nat :=
  (s.hm.acts.filter fun a => a.entry.channel == n && a.state == .firing).length

/-- DIO_SHORT (10 R499). -/
def execDioShort (n : Nat) (overload : Bool) (t : Nat) (s : State) : Host.Outcome State Fault Refusal :=
  let s := s.at_ t
  .next (
    if !(isOutput s n && (chanOf s n).out) then s
    else
      let cut := pulsesOn s n
      let s1 := endPulse n (modChan n (fun c => { c with shorted := true, short := true, shorts := satInc c.shorts }) s)
      pruneRecipes (upsetRetire 4 n 0x07 false 0 cut (noticeUnit 0x0A04 (le1 n ++ le1 (b2n overload)) s1)))

/-- Open or close a feed as its state asks; pulses on its channels end when it opens. -/
def openFeed (k : Nat) (f : Feed → Feed) (s : State) : State :=
  pruneRecipes (endPulse (2 * k + 1) (endPulse (2 * k) (settleFeed k (modFeed k f s))))

/-- FEED_TRIP (10 R500); `higher` is the channel with the higher measured current. -/
def execFeedTrip (k peak higher t : Nat) (s : State) : Host.Outcome State Fault Refusal :=
  let s := s.at_ t
  .next (
    if !(decide (k < 16) && (feedOf s k).closed) then s
    else
      let n := 2 * k + higher % 2
      let s1 := openFeed k (fun f => { f with tripped := true, tripAt := s.now, trip := true, trips := satInc f.trips }) s
      let s2 := noticeUnit 0x0A05 (le1 k ++ [0] ++ le2 peak) s1
      let s3 := upsetRetire 5 k 0x07 false 0 (pulsesOn s (2 * k) + pulsesOn s (2 * k + 1)) s2
      upsetRetire 4 n 0x07 false 0 (pulsesOn s n) s3)

/-- FEED_RECLOSE: 100 ms after the trip (10 R500). -/
def execFeedReclose (k : Nat) (s : State) : Host.Outcome State Fault Refusal :=
  .next (
    if (feedOf s k).tripped then
      settleFeed k (modFeed k (fun f => { f with tripped := false }) (s.at_ ((feedOf s k).tripAt + msTicks 100)))
    else s)

/-! ## Couplers (10 R483, R509) -/

/-- MEAS that a valid frame brings: an input's current in 10 uA, or the current of an output that is on in mA (10 Table
10.9). -/
def measOf (c : DioChan) (meas : Nat) : Nat := if c.dir = 1 ∨ (c.dir = 2 ∧ c.out) then meas % 65536 else 0

/-- COUPLER_STATUS_FRAME. -/
def execCouplerStatusFrame (n : Nat) (crcOk : Bool) (meas t : Nat) (s : State) : Host.Outcome State Fault Refusal :=
  let s := s.at_ t
  .next (
    if !(decide (n < 32) && fieldOn s) then s
    else if crcOk then modChan n (fun c => { c with lastFrame := s.now, meas := measOf c meas }) s
    else modChan n (fun c => { c with cplErr := satInc c.cplErr, framesSince := s.now }) s)

/-- The switch-on whose command is lost: a pulse that is on since no more than 1 us (10 R483). -/
def lostSwitchOn (s : State) (n : Nat) : Option Act := (firingOn s n).filter fun a => decide (s.now ≤ a.onAt + usTicks 1)

/-- A switch-on lost on the way is logged SKIPPED. -/
def loseSwitchOn (n : Nat) (s : State) : State :=
  match lostSwitchOn s n with
  | some a => pruneRecipes (settleOut n (logActOf { a with onSpos := 0 } 2 0 (dropAct a.handle s)))
  | none => s

/-- Frames of a channel failed: one and its retransmission, or one alone. After the second the keepalive stops and an upset
counts (10 R483). -/
def frameError (n : Nat) (retryOk injected : Bool) (s : State) : State :=
  let s1 := modChan n (fun c => { c with cplErr := satAdd c.cplErr (if retryOk then 1 else 2) }) s
  if retryOk then s1
  else
    let s2 := loseSwitchOn n ((modChan n (fun c => { c with keepalive := false }) s1).emit (.stopKeepalive n))
    upsetRetire 4 n 0x02 injected 1 (b2n (lostSwitchOn s n).isSome) s2

/-- COUPLER_FRAME_ERROR. -/
def execCouplerFrameError (n : Nat) (retryOk : Bool) (t : Nat) (s : State) : Host.Outcome State Fault Refusal :=
  let s := s.at_ t
  .next (if isOutput s n && fieldOn s then frameError n retryOk false s else s)

/-- LINK_WATCHDOG: no valid frame for 100 us (10 R509). Once the safe state is applied the keepalive runs again while
domain FIELD is on. -/
def execLinkWatchdog (n : Nat) (s : State) : Host.Outcome State Fault Refusal :=
  .next (
    if !(decide (n < 32)) || (chanOf s n).causes.getLsbD 3 then s
    else
      let s1 := s.at_ ((chanOf s n).lastFrame + usTicks 100)
      pruneRecipes (setCause 3 true [n] (modChan n (fun c => { c with keepalive := fieldOn s1, framesSince := s1.now }) s1)))

/-- LINK_CAUSE_CLEAR: 10 ms of valid frames (10 Table 10.6). -/
def execLinkCauseClear (n : Nat) (s : State) : Host.Outcome State Fault Refusal :=
  let c := chanOf s n
  .next (
    if c.causes.getLsbD 3 && c.keepalive && fieldOn s then
      let s1 := s.at_ (c.framesSince + msTicks 10)
      pruneRecipes (setCause 3 false [n] (modChan n (fun c => { c with lastFrame := s1.now }) s1))
    else s)

/-! ## Field supplies (10 R511) -/

/-- Feeds of a field supply (10 Table 10.7). -/
def supplyFeeds (x : Nat) : List Nat := (List.range 8).map (· + 8 * x)

/-- Channels of a field supply. -/
def supplyChans (x : Nat) : List Nat := (List.range 16).map (· + 16 * x)

def openFeeds (l : List Nat) (f : Feed → Feed) (s : State) : State :=
  match l with
  | [] => s
  | k :: r => openFeeds r f (openFeed k f s)

def closeFeeds (l : List Nat) (f : Feed → Feed) (s : State) : State :=
  match l with
  | [] => s
  | k :: r => closeFeeds r f (settleFeed k (modFeed k f s))

/-- Since when the supply has been at or above 19.2 V, for its channels. -/
def setSince (l : List Nat) (v : Option Nat) (s : State) : State :=
  s.setDio { s.dio with chan := (s.dio.chan.mapIdx fun i c =>
    if l.contains i then { c with supplySince := if v.isSome && c.supplySince.isSome then c.supplySince else v } else c) }

def noticeSupply (x : Nat) (lost : Bool) (mv : Nat) (s : State) : State :=
  noticeUnit 0x0A08 (le1 x ++ le1 (b2n lost) ++ le2 mv) s

/-- Both field supplies are absent. -/
def fieldsLost (s : State) : Bool := (feedOf s 0).unpowered && (feedOf s 8).unpowered

/-- The Keeper holds its copy invalid from now on (14 R665). -/
def keeperInvalidate (s : State) : State :=
  (s.setBoot { s.boot with keeperValid := false }).setPos { s.pos with flags := s.pos.flags ||| 0x40 }

/-- With both field supplies absent the field sides lose DIO_CFGn (14 R674), and while only the Keeper is powered it
invalidates its ENC0 copy (13 R616). -/
def settleFields (s : State) : State :=
  if fieldsLost s then
    let s1 := s.setDio { s.dio with chan := (s.dio.chan.map fun c => { c with cfgLost := true }) }
    if s1.boot.keeperOn && !domOn s1 1 && !domOn s1 2 then keeperInvalidate s1 else s1
  else s

/-- A field supply is measured: below 14 V its channels take their safe states, at 19.2 V its feeds close again (10 R511). -/
def fieldSupply (x mv : Nat) (s : State) : State :=
  let s1 := s.setDio { s.dio with fieldV := upd s.dio.fieldV x fun _ => mv % 65536 }
  let s2 := setSince (supplyChans x) (if 19200 ≤ mv then some s.now else none) s1
  let out := (feedOf s (8 * x)).unpowered
  if mv < 14000 then
    let s3 := setCause 4 true (supplyChans x) (openFeeds (supplyFeeds x) (fun f => { f with unpowered := true }) s2)
    pruneRecipes (settleFields (if out then s3 else noticeSupply x true mv s3))
  else if 19200 ≤ mv ∧ out then
    noticeSupply x false mv (closeFeeds (supplyFeeds x) (fun f => { f with unpowered := false }) s2)
  else s2

/-- FIELD_SUPPLY (10 R511). -/
def execFieldSupply (x mv t : Nat) (s : State) : Host.Outcome State Fault Refusal :=
  let s := s.at_ t
  .next (if 1 < x then s else fieldSupply x mv s)

/-- SUPPLY_CAUSE_CLEAR: 100 ms at or above 19.2 V (10 Table 10.6). -/
def execSupplyCauseClear (n : Nat) (s : State) : Host.Outcome State Fault Refusal :=
  let c := chanOf s n
  .next (match c.supplySince with
    | some since =>
      if c.causes.getLsbD 4 then pruneRecipes (setCause 4 false [n] (s.at_ (since + msTicks 100))) else s
    | none => s)

/-! ## The Field I/O group (15 Table 15.13) -/

/-- DIO_STATUSn (10 Table 10.9). -/
def dioStatus (s : State) (n : Nat) : Nat :=
  let c := chanOf s n
  b2n c.y + 2 * b2n c.raw + 4 * b2n c.out + 8 * b2n c.brk + 16 * b2n c.invalid + 32 * b2n c.openload + 64 * b2n c.short +
    128 * b2n c.safe + 256 * b2n c.retired + 512 * (c.causes.toNat % 64) + 65536 * (c.meas % 65536)

/-- FEED_STATUSk.CURRENT in mA: of the feed's channels that are on. -/
def feedCurrent (s : State) (k : Nat) : Nat :=
  let ma (n : Nat) := if (chanOf s n).out then (chanOf s n).meas else 0
  ma (2 * k) + ma (2 * k + 1)

/-- FEED_STATUSk (10 Table 10.9). -/
def feedStatus (s : State) (k : Nat) : Nat :=
  let f := feedOf s k
  b2n f.closed + 2 * b2n f.trip + 4 * b2n f.retired + 8 * b2n f.unpowered + 65536 * (feedCurrent s k % 65536)

/-- DIO_LAGn in ns (10 R486). -/
def dioLag (s : State) (n : Nat) : Nat :=
  let c := chanOf s n
  4000 + c.limit * c.ts * 1000 + c.ts * 500

def fieldV (s : State) : Nat := getI s.dio.fieldV 0 0 + 65536 * getI s.dio.fieldV 1 0

/-- DIO_STATUS. -/
def execDioStatus (r : Ref) (s : State) : Host.Outcome State Fault Refusal :=
  .next (runOp 0x0A01 r s fun p s =>
    ok p ((List.range 32).flatMap (fun n => le4 (dioStatus s n)) ++ (List.range 16).flatMap (fun k => le4 (feedStatus s k)) ++
      le4 (fieldV s)) s)

/-- A held recipe names the channel as EDGE_DIO or as an action CHANNEL (10 R481). -/
def chanNamed (s : State) (n : Nat) : Bool :=
  s.rcp.recipes.any fun r => recipeHeld s r.handle &&
    ((r.image.model == 1 && r.image.edgeSrc == 0 && r.image.edgeDio == n) || r.image.actions.any fun a => a.channel == n)

/-- Offset of a DIO_CFGn field outside Table 10.8. -/
def cfgBad (v : Nat) : Option Nat :=
  if bits v 1 0 = 3 ∨ bit v 7 then some 0x28
  else if bits v 15 8 = 0 then some 0x29
  else if bits v 25 16 = 0 ∨ 1000 < bits v 25 16 then some 0x2A
  else if bits v 31 26 ≠ 0 then some 0x2B
  else if 1000 < bits v 47 32 then some 0x2C
  else if bits v 63 48 ≠ 0 then some 0x2E
  else none

/-- SAFE_MA that a configuration draws in its safe state. -/
def safeDraw (v : Nat) : Nat := if bit v 6 then bits v 47 32 else 0

/-- The refusals of R482 on a channel's new value. -/
def dioBad (s : State) (n v : Nat) : Option Nat :=
  match cfgBad v with
  | some o => some o
  | none =>
    if bit v 6 ∧ bits v 1 0 ≠ 2 then some 0x28
    else if bit v 6 ∧ bits v 47 32 = 0 then some 0x2C
    else if bit v 6 ∧ 1200 < safeDraw v + safeDraw (chanOf s (partnerOf n)).cfg.toNat then some 0x2C
    else none

/-- The configuration takes effect: count and y are 0, and a pulse that is on ends (10 R481). -/
def applyDio (n v : Nat) (s : State) : State :=
  let wb := bit v 3 && bits v 1 0 == 1
  let s1 := modChan n (fun c => { c with
    cfg := BitVec.ofNat 64 v, cfgLost := false, count := 0, y := false, cls := (0, s.now), shorted := false
    sampled := none, dueAt := none
    brk := c.brk && wb, invalid := c.invalid && wb, openload := c.openload && bits v 1 0 == 2 && bit v 4 }) s
  pruneRecipes (endPulse n s1)

/-- DIO_CONFIG (10 R481, R482, R516). -/
def execDioConfig (r : Ref) (s : State) : Host.Outcome State Fault Refusal :=
  .next (runOp 0x0A02 r s fun p s =>
    let n := fld p.params 0 1
    let v := fld p.params 8 8
    if n = 0xFF then
      if 1 < v then refuse p stBAD_PARAM 0x28 s else ok p [] (s.setDio { s.dio with sagSafe := bit v 0 })
    else if 31 < n then refuse p stBAD_PARAM 0x20 s
    else if chanNamed s n || !(pendingOn s n).isEmpty then refuse p stDENIED noField s
    else match dioBad s n v with
      | some o => refuse p stBAD_PARAM o s
      | none => ok p [] (applyDio n v s))

/-- A held admission names the channel: a recipe, or an actuation. -/
def chanHeld (s : State) (n : Nat) : Bool := chanNamed s n || s.hm.acts.any fun a => a.entry.channel == n

/-- DIO_UNRETIRE (10 R502; 12 R572; 02 R118). -/
def execDioUnretire (r : Ref) (s : State) : Host.Outcome State Fault Refusal :=
  .next (runOp 0x0A20 r s fun p s =>
    let k := fld p.params 0 1
    let n := fld p.params 1 1
    if 1 < k then refuse p stBAD_PARAM 0x20 s
    else if k = 0 then
      if 31 < n ∨ !(chanOf s n).retired then refuse p stBAD_PARAM 0x21 s
      else if chanHeld s n then refuse p stDENIED noField s
      else ok p [] (settleOut n (returned 4 n (wantRecord 3 (modChan n (fun c => { c with retired := false }) s))))
    else if 15 < n ∨ !(feedOf s n).retired then refuse p stBAD_PARAM 0x21 s
    else if chanHeld s (2 * n) || chanHeld s (2 * n + 1) then refuse p stDENIED noField s
    else
      let s1 := settleFeed n (returned 5 n (wantRecord 3 (modFeed n (fun f => { f with retired := false }) s)))
      ok p [] (noticeCapacity 7 n s1))

/-- DIO_SAFE_ASSERT: cause SB over the sideband, HOST by tenant 0 (10 R503, R510). -/
def execDioSafeAssert (r : Ref) (s : State) : Host.Outcome State Fault Refusal :=
  .next (runOp 0x0A30 r s fun p s =>
    let m : Word := BitVec.ofNat 32 (fld p.params 0 4)
    ok p [] (pruneRecipes (setCause (if p.principal = 64 then 0 else 1) true (maskChans m) s)))

/-- Causes that a principal may not clear: SB only over the sideband (10 Table 10.6, 03 R174). -/
def mayNotClear (p : Packet) (causes : Nat) : Bool := p.principal != 64 && bit causes 0

def clearIf (causes b : Nat) (l : List Nat) (s : State) : State := if bit causes b then setCause b false l s else s

/-- DIO_SAFE_RELEASE (10 R510). -/
def execDioSafeRelease (r : Ref) (s : State) : Host.Outcome State Fault Refusal :=
  .next (runOp 0x0A31 r s fun p s =>
    let l := maskChans (BitVec.ofNat 32 (fld p.params 0 4))
    let causes := fld p.params 4 1
    if 7 < causes then refuse p stBAD_PARAM 0x24 s
    else if mayNotClear p causes then refuse p stDENIED noField s
    else ok p [] (pruneRecipes (clearIf causes 2 l (clearIf causes 1 l (clearIf causes 0 l s)))))

end Sys2Proof.Machine
end

