-- ==== Sys2Proof/Machine/Recipes.lean ====
section
/-! DEFINITION. Recipes (chapter 11): the image and its checks, loading, activation and switching, release, checkpoints and
RCP_STATUS. -/

namespace Sys2Proof.Machine

/-! ## The image (11 Tables 11.2 and 11.3) -/

/-- Offset of an operation's body, and of the part block. -/
def tileOpAt : Nat := 0xC0
def partOpAt : Nat := 0xF0
def partAt : Nat := 0x120

/-- Offset of action `a`. -/
def actionAt (a : Nat) : Nat := 0x160 + 32 * a

def routeOf (b : Bytes) (i : Nat) : Route :=
  let o := 0x40 + 8 * i
  { view := fld b o 1, bench := fld b (o + 1) 1, colFirst := fld b (o + 2) 2, colLast := fld b (o + 4) 2 }

def actionOf (b : Bytes) (a : Nat) : Action :=
  let o := actionAt a
  { channel := fld b o 1, mode := fld b (o + 1) 1, loadMa := fld b (o + 2) 2, actOfs := fld b (o + 4) 4, pre := fld b (o + 8) 4
    post := fld b (o + 12) 4, length := fld b (o + 16) 4, leadUs := fld b (o + 20) 4, latest := fld b (o + 24) 4
    maxMs := fld b (o + 28) 2 }

def recipeOp (b : Bytes) (at_ : Nat) : AssayOp := opOf (fld b (at_ + 0x2C) 2) ((b.drop at_).take 48)

def imageOf (b : Bytes) : RecipeImage :=
  { recipeId := fld b 8 4, vDecl := fld b 0xC 4, dictId := fld b 0x10 4, thermMj := fld b 0x14 4, ckptS := fld b 0x18 2
    views := fld b 0x1A 1, condN := fld b 0x1B 1, tileW := fld b 0x1C 2, tileH := fld b 0x1E 2, tileFmt := fld b 0x20 1
    rflags := fld b 0x22 2, shMin := fld b 0x24 4, routes := (List.range (min 16 (fld b 0x21 1))).map (routeOf b)
    tileOp := recipeOp b tileOpAt, partOp := recipeOp b partOpAt
    model := fld b partAt 1, edgeSrc := fld b (partAt + 1) 1, edgeDio := fld b (partAt + 2) 1
    holdAction := fld b (partAt + 3) 1, actPass := fld b (partAt + 4) 1, actReject := fld b (partAt + 5) 1
    actReview := fld b (partAt + 6) 1, sevRej := fld b (partAt + 7) 1, partLen := fld b (partAt + 8) 4
    origin := BitVec.ofNat 32 (fld b (partAt + 0xC) 4), edgeOfs := sfld b (partAt + 0x10) 4, minLen := fld b (partAt + 0x14) 4
    maxLen := fld b (partAt + 0x18) 4, viewOfs := (List.range 4).map fun v => fld b (partAt + 0x1C + 4 * v) 4
    lDec := fld b (partAt + 0x2C) 4, tPass := BitVec.ofNat 32 (fld b (partAt + 0x30) 4)
    tRej := BitVec.ofNat 32 (fld b (partAt + 0x34) 4), distMax := fld b (partAt + 0x38) 4
    actions := (List.range 8).map (actionOf b) }

/-! ## The checks of R523: each gives the offset at fault -/

/-- The bytes [off, off + n) of the image are not zero. -/
def notZero (b : Bytes) (off n : Nat) : Bool := fld b off n != 0

/-- Reserved bytes of the routes in use. -/
def routeReserved (b : Bytes) : Option Nat :=
  ((List.range (min 16 (fld b 0x21 1))).map fun i => 0x46 + 8 * i).find? fun o => notZero b o 2

/-- Reserved bytes of the actions in use. -/
def actionReserved (b : Bytes) : Option Nat :=
  (((List.range 8).filter fun a => fld b (actionAt a) 1 != 0xFF).map fun a => actionAt a + 0x1E).find? fun o => notZero b o 2

/-- Reserved bytes of an operation that the image declares. -/
def opReserved (b : Bytes) (flag at_ : Nat) : Option Nat :=
  if !bit (fld b 0x22 2) flag then none
  else if notZero b (at_ + 0x23) 1 then some (at_ + 0x23)
  else if notZero b (at_ + 0x2E) 2 then some (at_ + 0x2E)
  else none

/-- Check 1: form, and the ranges that Table 11.2 gives by itself. -/
def check1 (b : Bytes) : Option Nat :=
  if fld b 0 4 ≠ 0x5256594E then some 0
  else if fld b 4 2 ≠ 1 then some 4
  else if fld b 6 2 ≠ 640 then some 6
  else if (crc32c (b.take 0x27C)).toNat ≠ fld b 0x27C 4 then some 0x27C
  else if fld b 0x18 2 < 60 ∨ 3600 < fld b 0x18 2 then some 0x18
  else if 15 < fld b 0x1A 1 then some 0x1A
  else if 32 < fld b 0x1B 1 then some 0x1B
  else if 7 < fld b 0x22 2 then some 0x22
  else if 2 ^ 30 < fld b 0x24 4 then some 0x24
  else if notZero b 0x28 24 then some 0x28
  else if notZero b (partAt + 0x3C) 4 then some (partAt + 0x3C)
  else if notZero b 0x260 28 then some 0x260
  else (routeReserved b).or ((opReserved b 0 tileOpAt).or ((opReserved b 1 partOpAt).or (actionReserved b)))

/-- Check 3 (02 R83). -/
def check3 (s : State) (im : RecipeImage) : Option Nat := if im.vDecl = 0 ∨ vMax < vAdmOf s im.vDecl then some 0x0C else none

/-- Check 4. -/
def check4 (s : State) (im : RecipeImage) : Option Nat :=
  if im.dictId = 0 then (if im.condN = 0 then none else some 0x1B)
  else if s.rcp.dict.any fun d => d.1 == im.dictId then none
  else some 0x10

/-- A view is fit to be judged: grouped as R251 asks, in conceal mode, with the recipe's tiling. -/
def viewFault (s : State) (im : RecipeImage) (v : Nat) : Option Nat :=
  let x := viewOf s v
  let n := (viewChans s v).length
  if !x.configured ∨ n < 1 ∨ 12 < n ∨ 12 < surfaceCount s x.bottom then some 0x1A
  else if (viewChans s v).any (fun c => chanClash s (sourceOf s c) x.tg) || replaceView s v then some 0x1A
  else if x.tileW ≠ im.tileW then some 0x1C
  else if x.tileH ≠ im.tileH then some 0x1E
  else if x.tileFmt ≠ im.tileFmt then some 0x20
  else none

/-- Route `i` names a view judged, a bench, and columns within the view. -/
def routeFault (s : State) (im : RecipeImage) (i : Nat) (r : Route) : Option Nat :=
  let o := 0x40 + 8 * i
  if 3 < r.view ∨ !bit im.views r.view then some o
  else if 15 < r.bench then some (o + 1)
  else if r.colLast < r.colFirst then some (o + 2)
  else if tileCols s r.view ≤ r.colLast then some (o + 4)
  else none

def routesTo (im : RecipeImage) (v c : Nat) : Nat :=
  (im.routes.filter fun r => r.view == v && decide (r.colFirst ≤ c) && decide (c ≤ r.colLast)).length

/-- Every tile column of every view judged is routed once. -/
def coverOk (s : State) (im : RecipeImage) : Bool :=
  (viewsOf im).all fun v => (List.range (tileCols s v)).all fun c => routesTo im v c == 1

/-- COL_FIRST of the first route with a column that an earlier route has. -/
def routedTwice (im : RecipeImage) : Option Nat :=
  (im.routes.mapIdx fun i r =>
    if (im.routes.take i).any fun q => q.view == r.view && decide (r.colFirst ≤ q.colLast) && decide (q.colFirst ≤ r.colLast) then
      some (0x42 + 8 * i) else none).findSome? id

/-- Check 5. -/
def check5 (s : State) (im : RecipeImage) (nroutes : Nat) : Option Nat :=
  match (viewsOf im).findSome? (viewFault s im) with
  | some o => some o
  | none =>
    if nroutes < 1 ∨ 16 < nroutes then some 0x21
    else match (im.routes.mapIdx fun i r => routeFault s im i r).findSome? id with
      | some o => some o
      | none => (routedTwice im).or (if coverOk s im then none else some 0x21)

/-- v_adm that a recipe brings about (02 R104). -/
def vAdmWith (s : State) (im : RecipeImage) : Nat :=
  max (if hasRecipe s.led.held then s.led.vadm else 0) (vAdmOf s im.vDecl)

/-- The sum over the configured channels of width by pitch, as a quotient (05 R253). -/
def pixelRate (s : State) : Nat × Nat :=
  let ps := (List.range 8).map fun g => max 1 (getI s.lanes.tg g TrigGen.reset).p
  let prod := ps.foldl (· * ·) 1
  let terms := s.pln.chan.map fun c => match c.view with
    | some v => c.width * (prod / max 1 (tgOf s v).p)
    | none => 0
  (terms.sum, prod)

/-- Check 6: no more than 18,000,000,000 pixels per second at v_adm. -/
def check6 (s : State) (im : RecipeImage) : Option Nat :=
  let (n, d) := puPerMetre s
  let (a, b) := pixelRate s
  if 18000000000 * (b * d * 1000000000) < a * n * vAdmWith s im then some noField else none

/-- SPAN of a part (09 R433). -/
def spanOf (im : RecipeImage) : Nat := if im.model = 0 then im.partLen else im.maxLen

/-- Largest trigger pitch of the views judged. -/
def pitchMax (s : State) (im : RecipeImage) : Nat := (viewsOf im).foldl (fun m v => max m (tgOf s v).p) 0

/-- ceil(T_L x v_adm_pu) at the recipe's v_adm. -/
def leadAt (s : State) (v us : Nat) : Nat :=
  let (n, d) := puPerMetre s
  ceilDiv (totalLead us * v * n) (1000000000000000 * d)

/-- The test that R433 makes on an action. -/
def actionReach (s : State) (im : RecipeImage) (a : Action) : Bool :=
  let ofs := ((viewsOf im).map fun v => getI im.viewOfs v 0).foldl max 0
  decide (spanOf im + im.tileH * pitchMax s im + ofs + im.lDec + a.pre + leadAt s (vAdmWith s im) a.leadUs ≤ a.actOfs)

/-- LENGTH in range for its mode. -/
def lengthOk (a : Action) : Bool :=
  if a.mode = 0 then decide (1 ≤ a.length) && decide (a.length ≤ 2 ^ 30)
  else if a.mode = 1 then decide (100 ≤ a.length) && decide (a.length ≤ 10000000)
  else true

/-- Action `i`, where it is in use. -/
def actionFault (s : State) (im : RecipeImage) (i : Nat) (a : Action) : Option Nat :=
  let o := actionAt i
  if a.channel = 0xFF then none
  else if 31 < a.channel then some o
  else if 2 < a.mode then some (o + 1)
  else if a.loadMa < 1 ∨ 1000 < a.loadMa then some (o + 2)
  else if !lengthOk a then some (o + 16)
  else if 500000 < a.leadUs then some (o + 20)
  else if 2 ^ 24 < a.latest then some (o + 24)
  else if 60000 < a.maxMs then some (o + 28)
  else if !actionReach s im a then some (o + 4)
  else none

/-- MODEL and the fields of its part model. -/
def modelFault (im : RecipeImage) : Option Nat :=
  if 1 < im.model then some partAt
  else if im.model = 0 then (if im.partLen < 65536 ∨ 2 ^ 28 < im.partLen then some (partAt + 8) else none)
  else if 1 < im.edgeSrc then some (partAt + 1)
  else if im.edgeSrc = 0 ∧ 31 < im.edgeDio then some (partAt + 2)
  else if im.edgeOfs < -(2 ^ 24) ∨ 2 ^ 24 < im.edgeOfs then some (partAt + 0x10)
  else if im.minLen < 16384 ∨ 2 ^ 28 < im.minLen then some (partAt + 0x14)
  else if im.maxLen < im.minLen ∨ 2 ^ 28 < im.maxLen then some (partAt + 0x18)
  else none

/-- The first VIEW_OFS above 2^24. -/
def viewOfsFault (im : RecipeImage) : Option Nat :=
  ((List.range 4).find? fun v => decide (2 ^ 24 < getI im.viewOfs v 0)).map fun v => partAt + 0x1C + 4 * v

/-- The fields that both models share. -/
def sharedFault (im : RecipeImage) : Option Nat :=
  if 1 < im.holdAction then some (partAt + 3)
  else if 15 < im.sevRej then some (partAt + 7)
  else if (viewOfsFault im).isSome then viewOfsFault im
  else if !((viewsOf im).any fun v => getI im.viewOfs v 1 == 0) then some (partAt + 0x1C)
  else if !f32Finite im.tPass then some (partAt + 0x30)
  else if !f32Finite im.tRej ∨ f32Lt im.tRej im.tPass then some (partAt + 0x34)
  else none

/-- Check 7 (09 R433). -/
def check7 (s : State) (im : RecipeImage) : Option Nat :=
  (modelFault im).or ((sharedFault im).or ((im.actions.mapIdx fun i a => actionFault s im i a).findSome? id))

/-- S(n) (08 Table 8.2). -/
def cyclesS (n : Nat) : Nat :=
  let blocks := ceilDiv n 64
  let m := if blocks ≤ 1 then 0 else Nat.log2 (blocks - 1) + 1
  let r := 2 ^ m
  r * (21 + 6 * m) + r * (m * (m + 1) / 2) / 2 + 2 * r

/-- Worst-case cycles of a recipe-driven operation (08 Table 8.2). -/
def opCycles (o : AssayOp) : Nat :=
  match o.cmd with
  | 0x102 => cyclesS o.n
  | 0x103 => cyclesS o.n + o.n * ceilDiv (min o.k o.n) 64
  | _ => ceilDiv o.libCount 4 + o.q * (cyclesS o.k + 2)

/-- W_row (08 R423). -/
def rowCycles (im : RecipeImage) : Nat :=
  let t := (im.routes.map fun r => r.colLast + 1 - r.colFirst).sum
  (if bit im.rflags 0 then t * opCycles im.tileOp else 0) + (if bit im.rflags 1 then opCycles im.partOp else 0)

/-- Smallest trigger pitch of the views judged. -/
def pitchMin (s : State) (im : RecipeImage) : Nat :=
  max 1 ((viewsOf im).foldl (fun m v => let p := (tgOf s v).p; if m = 0 then p else min m p) 0)

/-- W_row within both limits of R423. -/
def rowCyclesOk (s : State) (im : RecipeImage) : Bool :=
  let (n, d) := puPerMetre s
  let w := rowCycles im
  decide (w ≤ 18000) && decide (w * n * vAdmWith s im ≤ 1500000000 * 1000000000 * d * im.tileH * pitchMin s im)

/-- SRC, DST and AUX of an operation are zero. -/
def placesZero (b : Bytes) (at_ : Nat) : Bool := allZero ((b.drop at_).take 24)

/-- Check 8 (08 R414, R423). -/
def check8 (s : State) (t : Nat) (b : Bytes) (im : RecipeImage) : Option Nat :=
  if bit im.rflags 0 && !(([0x102, 0x103].contains im.tileOp.cmd) && opOk s t im.tileOp && placesZero b tileOpAt) then some tileOpAt
  else if bit im.rflags 1 && !(im.partOp.cmd == 0x104 && opOk s t im.partOp && placesZero b partOpAt) then some partOpAt
  else if !rowCyclesOk s im then some noField
  else none

/-- Check 9 (08 R422): a LIB_LOAD is running into the range. -/
def check9 (s : State) (im : RecipeImage) : Option Nat :=
  let o := im.partOp
  let into (c : Cmd) := c.cmd == 0x110 && decide (fld c.body 8 4 < o.libFirst + o.libCount) &&
    decide (o.libFirst < fld c.body 8 4 + fld c.body 12 4)
  if bit im.rflags 1 && s.fab.lists.any fun l => l.engine == 4 && l.running && l.cur.any into then some (partOpAt + 0x24) else none

/-- The first check of 1 to 9 that fails, with its offset. -/
def recipeCheck (s : State) (p : Packet) (b : Bytes) : Option (Nat × Nat) :=
  let im := imageOf b
  let tag (k : Nat) (o : Option Nat) : Option (Nat × Nat) := o.map fun off => (k, off)
  match tag 1 (check1 b) with
  | some e => some e
  | none =>
    if p.cls = 7 then some (2, noField)
    else (tag 3 (check3 s im)).or ((tag 4 (check4 s im)).or ((tag 5 (check5 s im (fld b 0x21 1))).or ((tag 6 (check6 s im)).or
      ((tag 7 (check7 s im)).or ((tag 8 (check8 s p.tenant b im)).or (tag 9 (check9 s im)))))))

/-! ## Demands (11 Table 11.4; 02 R106; 09 R455) -/

/-- P_m as a quotient: pixels per metre of the views judged. -/
def pixelsPerMetre (s : State) (im : RecipeImage) : Nat × Nat :=
  let (n, d) := puPerMetre s
  let ps := (viewsOf im).map fun v => max 1 (tgOf s v).p
  let prod := ps.foldl (· * ·) 1
  (n * ((viewsOf im).map fun v => (viewOf s v).width * (prod / max 1 (tgOf s v).p)).sum, d * prod)

/-- Shortest part. -/
def partMin (im : RecipeImage) : Nat := max 1 (if im.model = 0 then im.partLen else im.minLen)

/-- The action may fire: some verdict names it. -/
def actionUsed (im : RecipeImage) (i : Nat) : Bool := bit (Nat.lor im.actPass (Nat.lor im.actReject im.actReview)) i

/-- Charge per metre of an action, over the common denominator `feedDen`: one pulse per part. -/
def feedNum (s : State) (v : Nat) (im : RecipeImage) (a : Action) : Nat :=
  let (n, d) := puPerMetre s
  let us (k : Nat) := a.loadMa * k * n * v
  if a.mode = 1 then us a.length
  else
    let len := if a.mode = 0 then a.length else spanOf im + a.pre + a.post
    min (a.loadMa * len * 1000000000000000 * d) (us ((if a.maxMs = 0 then 10000 else a.maxMs) * 1000))

def feedDen (s : State) (v : Nat) (im : RecipeImage) : Nat := 1000 * (puPerMetre s).2 * partMin im * max 1 v

/-- FEED demand of feed `k` in uC per metre. -/
def feedDemand (s : State) (v : Nat) (im : RecipeImage) (k : Nat) : Nat :=
  let mine := (im.actions.mapIdx fun i a => (i, a)).filter fun x => actionUsed im x.1 && x.2.channel != 0xFF && x.2.channel / 2 == k
  ceilDiv ((mine.map fun x => feedNum s v im x.2).sum) (feedDen s v im)

def recipeDemands (s : State) (cls : Nat) (im : RecipeImage) : List Demand :=
  let (n, d) := puPerMetre s
  let (a, b) := pixelsPerMetre s im
  let v := vAdmWith s im
  [⟨4, cls, ceilDiv (8 * a) b⟩, ⟨5, cls, ceilDiv a (4 * b)⟩, ⟨6, 0, ceilDiv n (d * partMin im)⟩] ++
    (List.range 16).map (fun k => ⟨7, k, feedDemand s v im k⟩) ++
    [⟨8, 0, im.thermMj⟩, ⟨9, 0, ceilDiv 86400 (max 1 im.ckptS)⟩]

/-! ## RECIPE_LOAD (11 R521 to R525) -/

/-- The image's bytes: it lies in a PINNED object of the tenant in INGOT (11 R521). -/
def recipeBytes (p : Packet) (poisoned : Bool) (s : State) : Sum (Half × Nat) Bytes :=
  let a := fld p.params 0 8
  match unitPlace s p.tenant a 640 true with
  | .inl st => .inl (st, 0x20)
  | .inr _ => ingotBytes p a 640 0x20 poisoned s

def newRecipe (h tenant : Nat) (im : RecipeImage) (s : State) : Recipe :=
  { handle := h, tenant := tenant, fence := 1, image := im, state := .held, origin := expand s im.origin, switchAt := 0
    outgoing := 0, issuer := tenant, endAt := none, activeFrom := 0, nextPart := 0, lastEdge := none, seq := 0, promotions := 0
    lastCkpt := 0, vring := 0, aring := 0, blocks := [], block := [] }

/-- Check 10. -/
def loadAdmit (p : Packet) (pick : Nat) (im : RecipeImage) (s : State) : State :=
  let h := freshHandle s pick fun _ => true
  let q : Request :=
    { kind := .recipe, cls := p.cls, tenant := p.tenant, demands := recipeDemands s p.cls im, object := 0xFFFF
      vDecl := im.vDecl, recipe := h }
  let r := admitRecipe q h s
  match r.payload with
  | some e => refuseWith p stREFUSED_BUDGET e r.state
  | none =>
    let s1 := r.state
    ok p (le4 h ++ le4 1) (s1.setRcp { s1.rcp with recipes := s1.rcp.recipes ++ [newRecipe h p.tenant im s] })

/-- RECIPE_LOAD. -/
def execRecipeLoad (r : LoadRef) (pick : Nat) (s : State) : Host.Outcome State Fault Refusal :=
  .next (runOp 0x0B02 r.ref s fun p s =>
    match recipeBytes p r.poisoned s with
    | .inl (st, off) => refuse p st off s
    | .inr b => match recipeCheck s p b with
      | some (k, off) => refuseWith p (if k = 9 then stBUSY else stBAD_PARAM) (le2 k ++ le2 off) s
      | none => loadAdmit p pick (imageOf b) s)

/-! ## Activation (11 R528 to R536) -/

/-- What an activation comes to: its status, the offset at fault, E, and the state after. -/
structure Activation where
  status : Half
  off : Nat
  e : Long
  state : State
deriving DecidableEq, Repr

/-- The held recipe a handle names, that the tenant may use (15 R693). -/
def recipeFor (s : State) (t h off : Nat) : Sum (Half × Nat) Recipe :=
  match findRecipe s h with
  | none => .inl (stBAD_PARAM, off)
  | some r =>
    if !recipeHeld s h then .inl (stBAD_PARAM, off)
    else if t ≠ 0 ∧ t ≠ r.tenant then .inl (stDENIED, noField)
    else .inr r

/-- An optional recipe: handle 0 names none. -/
def optRecipe (s : State) (t h off : Nat) : Sum (Half × Nat) (Option Recipe) :=
  if h = 0 then .inr none
  else match recipeFor s t h off with
    | .inl e => .inl e
    | .inr r => .inr (some r)

/-- An activation, a switch or a deactivation is pending on one of the views. -/
def activationPending (s : State) (views : Nat) : Bool :=
  s.rcp.recipes.any fun r => recipeHeld s r.handle && Nat.land r.image.views views != 0 &&
    (r.state == .pending || (r.state == .active && r.endAt.isSome))

/-- Every bench routed to is BUILT under an admission that names the recipe. -/
def benchesBuilt (s : State) (r : Recipe) : Bool :=
  r.image.routes.all fun e =>
    let x := benchOf s e.bench
    x.state == .built && x.recipe == r.handle && (findAdm s x.handle).isSome

/-- The refusals of R529 and R535. -/
def activateFault (s : State) (inc old : Option Recipe) : Option (Half × Nat) :=
  let views := ((inc.or old).map (·.image.views)).getD 0
  let others := s.rcp.recipes.any fun r => recipeHeld s r.handle && r.state == .active &&
    Nat.land r.image.views views != 0 && !(old.any fun o => o.handle == r.handle)
  if inc.isNone ∧ old.isNone then some (stBAD_PARAM, 0x20)
  else if activationPending s views then some (stBUSY, noField)
  else if inc.any fun r => !benchesBuilt s r then some (stDENIED, noField)
  else if inc.isSome && others then some (stDENIED, noField)
  else if old.any fun o => o.state != .active then some (stDENIED, noField)
  else if inc.any fun i => old.any fun o => o.image.views != i.image.views then some (stBAD_PARAM, 0x24)
  else none

/-- A, or the next position-window boundary (11 R530). -/
def activateAt (s : State) (now : Bool) (w : Word) : Long :=
  let a := expand s w
  if now || reached s a then boundaryAfter s.pos.shift s.pos.hwm else a

/-- E of R531. -/
def switchPos (old : Option Recipe) (a : Long) : Long :=
  match old with
  | some o =>
    if o.image.model = 0 then
      let len := max 1 o.image.partLen
      posL (posI o.origin + ceilI (posI a - posI o.origin) len * len)
    else a
  | none => a

/-- The activation becomes pending. -/
def commitActivation (inc old : Option Recipe) (issuer : Nat) (e : Long) (s : State) : State :=
  let s1 := match old with
    | some o => modRecipe o.handle (fun r => { r with endAt := some e, issuer := if inc.isNone then issuer else r.issuer }) s
    | none => s
  match inc with
  | some i => modRecipe i.handle (fun r => { r with
      state := .pending, switchAt := e, outgoing := (old.map (·.handle)).getD 0, issuer := issuer }) s1
  | none => s1

/-- RECIPE_ACTIVATE as an opcode or a telegram asks for it. -/
def activate (t issuer h outH : Nat) (now : Bool) (w : Word) (s : State) : Activation :=
  let no (e : Half × Nat) : Activation := { status := e.1, off := e.2, e := 0, state := s }
  match optRecipe s t h 0x20, optRecipe s t outH 0x24 with
  | .inl e, _ => no e
  | _, .inl e => no e
  | .inr inc, .inr old =>
    match activateFault s inc old with
    | some e => no e
    | none =>
      if !now && !inHorizon s w then no (stREFUSED_HORIZON, 0x28)
      else
        let e := switchPos old (activateAt s now w)
        { status := stACCEPTED, off := 0, e := e, state := commitActivation inc old issuer e s }

/-- RECIPE_ACTIVATE. -/
def execRecipeActivate (r : Ref) (s : State) : Host.Outcome State Fault Refusal :=
  .next (runOp 0x0B03 r s fun p s =>
    let x := activate p.tenant p.principal (fld p.params 0 4) (fld p.params 4 4) (bit (fld p.params 12 1) 0)
      (BitVec.ofNat 32 (fld p.params 8 4)) s
    if x.status = stACCEPTED then done p stACCEPTED [] x.state else refuse p x.status x.off s)

/-! ## The switch at E (11 R532 to R534) -/

/-- Benches of the recipe that are BUILT become ARMED. -/
def arm (h : Nat) (s : State) : State :=
  s.setFab { s.fab with bench := s.fab.bench.map fun x =>
    if x.recipe = h ∧ x.state = .built ∧ !x.temper then { x with state := .armed } else x }

/-- The outgoing recipe is switched away. -/
def switchAway (h : Nat) (s : State) : State :=
  match findRecipe s h with
  | some o =>
    if o.state = .active ∧ recipeHeld s h then modRecipe h (fun r => { r with state := .outgoing }) s else s
  | none => s

/-- The incoming recipe becomes ACTIVE, and counts its parts afresh (09 R434, R435). -/
def becomeActive (r : Recipe) (s : State) : State :=
  let s1 := s.setHm { s.hm with parts := s.hm.parts.filter fun p => p.recipe != r.handle }
  arm r.handle (modRecipe r.handle (fun x => { x with
    state := .active, activeFrom := r.switchAt, origin := if r.image.model = 0 then r.switchAt else x.origin, nextPart := 0
    lastEdge := none, endAt := none, lastCkpt := s.now }) s1)

/-- RECIPE_SWITCH: the HWM has reached E; `h` is the incoming recipe, or the outgoing one of a deactivation. -/
def execRecipeSwitch (h : Nat) (s : State) : Host.Outcome State Fault Refusal :=
  .next (match findRecipe s h with
    | none => s
    | some r =>
      if !domOn s 2 || !recipeHeld s h then s
      else if r.state = .pending then
        (if reached s r.switchAt then
          let s1 := becomeActive r (switchAway r.outgoing (openParts s))
          outgoingDone r.outgoing (noticeActive r.tenant h 0 (low32 r.switchAt) s1)
         else s)
      else match r.endAt with
        | some e =>
          if r.state = .active ∧ reached s e ∧ (s.rcp.recipes.any fun x => x.state == .pending && x.outgoing == h) = false then
            outgoingDone h (noticeActive r.issuer 0 0 (low32 e) (switchAway h (openParts s)))
          else s
        | none => s)

/-! ## Release, checkpoints and status -/

/-- RECIPE_RELEASE: with its benches (15 Table 15.14). -/
def execRecipeRelease (r : Ref) (s : State) : Host.Outcome State Fault Refusal :=
  .next (runOp 0x0B04 r s fun p s =>
    match admTarget p (fld p.params 0 4) 0x20 [.recipe] s with
    | .inl (st, off) => refuse p st off s
    | .inr a => ok p [] (release a s))

/-- SEQ of the last verdict issued; 0 while there is none (log entry 49). -/
def lastSeq (r : Recipe) : Nat := r.seq - 1

/-- A checkpoint's place: the entry of the same handle, else a free one, else one of a recipe that is not ACTIVE. -/
def ckptPlace (s : State) (h : Nat) (l : List (Nat × Nat × Nat × Nat)) : Nat :=
  let live (k : Nat) := (findRecipe s k).any fun r => r.state == .active
  ((l.findIdx? fun e => e.2.1 == h).or ((l.findIdx? fun e => e.2.1 == 0).or (l.findIdx? fun e => !live e.2.1))).getD 0

/-- CHECKPOINT: CKPT_S has elapsed in state ACTIVE (11 R527). -/
def execCheckpoint (h : Nat) (s : State) : Host.Outcome State Fault Refusal :=
  .next (match findRecipe s h with
    | none => s
    | some r =>
      if r.state ≠ .active ∨ !recipeHeld s h || !domOn s 2 || s.flt.fatal then s
      else
        let s1 := s.at_ (r.lastCkpt + sTicks r.image.ckptS)
        let l := upd s1.boot.draft.ckpt (ckptPlace s1 h s1.boot.draft.ckpt) fun _ => (r.image.recipeId, h, lastSeq r, r.promotions)
        wantRecord 1 (modRecipe h (fun x => { x with lastCkpt := s1.now })
          (s1.setBoot { s1.boot with draft := { s1.boot.draft with ckpt := l } })))

def RecipeState.code : RecipeState → Nat
  | .held => 1
  | .pending => 2
  | .active => 3
  | .outgoing => 4

/-- E that RCP_STATUS shows: of a pending switch, of a switch away, or of the activation in force. -/
def statusE (r : Recipe) : Long :=
  match r.state, r.endAt with
  | .pending, _ => r.switchAt
  | .held, _ => 0
  | _, some e => e
  | _, none => r.activeFrom

/-- Tally and span of the candidate shadowed on the recipe (11 R561). -/
def shadowOf (s : State) (h : Nat) : List Nat × Nat :=
  match s.rcp.cands.find? fun c => c.shadowRecipe == h with
  | none => (List.replicate 9 0, 0)
  | some c => (c.tally, match s.rcp.shadow with
      | some x => if x.cand = c.handle then spanSince s x.startHwm else c.shadowSpan
      | none => c.shadowSpan)

/-- RCP_STATUS. -/
def execRcpStatus (r : Ref) (s : State) : Host.Outcome State Fault Refusal :=
  .next (runOp 0x0B01 r s fun p s =>
    match recipeFor s p.tenant (fld p.params 0 4) 0x20 with
    | .inl (st, off) => refuse p st off s
    | .inr x =>
      let (tally, span) := shadowOf s x.handle
      ok p (le1 x.state.code ++ le1 x.blocks.length ++ le1 s.rcp.cands.length ++ [0] ++ le4 (low32 (statusE x)).toNat ++ le4 (lastSeq x) ++
        tally.flatMap le4 ++ le8 span) s)

end Sys2Proof.Machine
end

