-- ==== Sys2Proof/Machine/Telegrams.lean ====
section
/-! DEFINITION. Telegrams (chapter 11): UTF-8 and its ill-formed subparts, the dictionary, tokens, the selection table, and
TELEGRAM. -/

namespace Sys2Proof.Machine

/-! ## UTF-8 (11 R541; RFC 3629) -/

def inRange (lo hi : Nat) (b : Byte) : Bool := decide (lo ≤ b.toNat) && decide (b.toNat ≤ hi)

/-- Length that a lead byte announces; 0 where no sequence begins with it. -/
def utf8Need (lead : Byte) : Nat :=
  if inRange 0 0x7F lead then 1
  else if inRange 0xC2 0xDF lead then 2
  else if inRange 0xE0 0xEF lead then 3
  else if inRange 0xF0 0xF4 lead then 4
  else 0

/-- The second byte allowed after a lead byte: no overlong form, no surrogate, nothing above U+10FFFF. -/
def utf8Second (lead b : Byte) : Bool :=
  match lead.toNat with
  | 0xE0 => inRange 0xA0 0xBF b
  | 0xED => inRange 0x80 0x9F b
  | 0xF0 => inRange 0x90 0xBF b
  | 0xF4 => inRange 0x80 0x8F b
  | _ => inRange 0x80 0xBF b

/-- Continuation bytes at the head of a string, `n` at most. -/
def contCount (n : Nat) (b : Bytes) : Nat :=
  match n, b with
  | n + 1, x :: r => if inRange 0x80 0xBF x then 1 + contCount n r else 0
  | _, _ => 0

/-- The first code point of a string that is not empty, or its maximal ill-formed subpart: whether it is well-formed, and
its length. -/
def utf8Head (b : Bytes) : Bool × Nat :=
  match b with
  | [] => (false, 0)
  | lead :: r =>
    let need := utf8Need lead
    if need = 0 then (false, 1)
    else if need = 1 then (true, 1)
    else match r with
      | [] => (false, 1)
      | x :: rest =>
        if !utf8Second lead x then (false, 1)
        else
          let n := 2 + contCount (need - 2) rest
          (n == need, n)

/-- Bytes of the well-formed stretch at the head of a string. -/
def wellFormedLen (fuel : Nat) (b : Bytes) : Nat :=
  match fuel with
  | 0 => 0
  | fuel + 1 => match utf8Head b with
    | (true, n) => n + wellFormedLen fuel (b.drop n)
    | (false, _) => 0

def utf8Ok (b : Bytes) : Bool := wellFormedLen b.length b == b.length

/-! ## The dictionary (11 R537, R538) -/

/-- Dictionary entries, or the index of the entry at fault. -/
def readEntries (n i : Nat) (seen : List Bytes) (b : Bytes) : Sum Nat (List Bytes) :=
  match n with
  | 0 => if b.isEmpty then .inr seen else .inl noField
  | n + 1 =>
    let len := fld b 0 1
    let e := (b.drop 1).take len
    if b.isEmpty then .inl i
    else if len = 0 ∨ 64 < len ∨ e.length ≠ len ∨ !utf8Ok e || seen.contains e then .inl i
    else readEntries n (i + 1) (seen ++ [e]) (b.drop (1 + len))

/-- The dictionary in `b`, or the index that R537 reports; 0xFFFF where no entry is at fault. -/
def readDict (b : Bytes) : Sum Nat (Nat × List Bytes) :=
  let n := b.length
  if n < 20 ∨ fld b 0 4 ≠ 0x4456594E ∨ fld b 4 4 = 0 ∨ 16384 < fld b 8 4 ∨ fld b 12 4 ≠ n then .inl noField
  else if (crc32c (b.take (n - 4))).toNat ≠ fld b (n - 4) 4 then .inl noField
  else match readEntries (fld b 8 4) 0 [] ((b.take (n - 4)).drop 16) with
    | .inl i => .inl i
    | .inr l => .inr (fld b 4 4, l)

/-- A held recipe names another dictionary. -/
def dictBound (s : State) (id : Nat) : Bool :=
  s.rcp.recipes.any fun r => recipeHeld s r.handle && r.image.dictId != 0 && r.image.dictId != id

/-- TOK_DICT_LOAD. -/
def execTokDictLoad (r : LoadRef) (s : State) : Host.Outcome State Fault Refusal :=
  .next (runOp 0x0B10 r.ref s fun p s =>
    match ingotBytes p (fld p.params 0 8) (fld p.params 8 4) 0x20 r.poisoned s with
    | .inl (st, off) => refuse p st off s
    | .inr b => match readDict b with
      | .inl i => refuse p stBAD_PARAM i s
      | .inr d =>
        if dictBound s d.1 then refuse p stDENIED noField s
        else ok p [] (s.setRcp { s.rcp with dict := some d }))

/-! ## The selection table (11 R546) -/

def selEntry (b : Bytes) (i : Nat) : SelEntry :=
  let o := 4 + 8 * i
  { token := fld b o 2, kind := fld b (o + 2) 1, views := fld b (o + 3) 1, recipe := fld b (o + 4) 4 }

/-- Field of entry `i` at fault, as an offset from the packet header. -/
def selFault (s : State) (i : Nat) (e : SelEntry) : Option Nat :=
  let o := 0x24 + 8 * i
  if 3 < e.kind then some (o + 2)
  else if 15 < e.views then some (o + 3)
  else if !recipeHeld s e.recipe then some (o + 4)
  else none

/-- TOK_SELECT_SET. -/
def execTokSelectSet (r : Ref) (s : State) : Host.Outcome State Fault Refusal :=
  .next (runOp 0x0B11 r s fun p s =>
    let n := fld p.params 0 2
    if p.params.length ≠ 4 + 8 * n then refuse p stBAD_LENGTH 0x0A s
    else
      let l := (List.range n).map (selEntry p.params)
      match (l.mapIdx fun i e => selFault s i e).findSome? id with
      | some off => refuse p stBAD_PARAM off s
      | none => ok p [] (s.setRcp { s.rcp with select := l }))

/-! ## Tokens (11 R539, R541 to R543) -/

def tokREPL : Nat := 0x100
def tokPAD : Nat := 0x101

/-- Index and length of the longest entry that the stretch begins with. -/
def longestMatch (dict : List Bytes) (stretch : Bytes) : Option (Nat × Nat) :=
  ((dict.zipIdx.map fun e => (e.2, e.1)).filter fun e => e.2.isPrefixOf stretch).foldl (fun m e => match m with
    | some (i, n) => if n < e.2.length then some (e.1, e.2.length) else some (i, n)
    | none => some (e.1, e.2.length)) none

/-- Tokens of a text, with the ill-formed bytes and subparts found. -/
structure Tokens where
  tokens : List Nat
  badBytes : Nat
  repls : Nat
deriving DecidableEq, Repr

def Tokens.add (t : List Nat) (r : Tokens) : Tokens := { r with tokens := t ++ r.tokens }

def Tokens.bad (n : Nat) (r : Tokens) : Tokens :=
  { tokens := tokREPL :: r.tokens, badBytes := n + r.badBytes, repls := 1 + r.repls }

/-- Tokenise; `fuel` is the length of the text. -/
def tokenise (dict : List Bytes) (fuel : Nat) (b : Bytes) : Tokens :=
  match fuel with
  | 0 => ⟨[], 0, 0⟩
  | fuel + 1 =>
    if b.isEmpty then ⟨[], 0, 0⟩
    else match utf8Head b with
      | (false, n) => Tokens.bad n (tokenise dict fuel (b.drop n))
      | (true, n) => match longestMatch dict (b.take (wellFormedLen b.length b)) with
        | some (i, len) => Tokens.add [0x200 + i] (tokenise dict fuel (b.drop len))
        | none => Tokens.add ((b.take n).map (·.toNat)) (tokenise dict fuel (b.drop n))

/-- Most tokens kept. -/
def tokenLimit : Nat := 256

/-! ## TELEGRAM (11 R540 to R549) -/

def bumpRcpN (i n : Nat) (s : State) : State := s.setRcp { s.rcp with ctr := upd s.rcp.ctr i fun w => satAdd w n }

/-- The counters of a telegram (11 R541, R543, R545). -/
def countTelegram (t : Tokens) (trunc late : Bool) (s : State) : State :=
  bumpRcpN 3 (b2n late) (bumpRcpN 2 (b2n trunc) (bumpRcpN 1 t.repls (bumpRcpN 0 t.badBytes s)))

/-- The entry that the kept tokens select (11 R547). -/
def selected (s : State) (kind views : Nat) (kept : List Nat) : Option SelEntry :=
  kept.findSome? fun t => s.rcp.select.find? fun e => e.token == t && e.kind == kind && e.views == views

/-- The recipe ACTIVE on the views. -/
def activeOn (s : State) (views : Nat) : Option Recipe :=
  s.rcp.recipes.find? fun r => recipeHeld s r.handle && r.state == .active && Nat.land r.image.views views != 0

/-- What a telegram's selection comes to. -/
structure Selection where
  recipe : Nat
  status : Half
  e : Option Long
  state : State
deriving DecidableEq, Repr

/-- Selection at A: nothing is switched where the recipe is already ACTIVE on the views. -/
def selectRecipe (p : Packet) (e : SelEntry) (views : Nat) (w : Word) (s : State) : Selection :=
  let already := (findRecipe s e.recipe).any fun r =>
    recipeHeld s r.handle && r.state == .active && Nat.land r.image.views views == views
  if already then { recipe := e.recipe, status := 0, e := none, state := s }
  else
    let x := activate p.tenant p.principal e.recipe (((activeOn s views).map (·.handle)).getD 0) false w s
    let okay := x.status == stACCEPTED
    let s1 := if okay then x.state else bumpRcp 4 s
    { recipe := e.recipe, status := x.status, e := if okay then some x.e else none
      state := noticeHolder p.principal 0x0B02 (le4 e.recipe ++ le2 x.status.toNat) s1 }

/-- The recipe that will be ACTIVE on view `v` at position `x`. -/
def activeAt (s : State) (v : Nat) (x : Long) : Option Recipe :=
  let l := s.rcp.recipes.filter fun r => recipeHeld s r.handle && bit r.image.views v
  (l.find? fun r => r.state == .pending && !after r.switchAt x).or
    (l.find? fun r => r.state == .active && r.endAt.all fun e => after e x)

/-- Recipes and row positions that a block at A goes to, by view. -/
def condTargets (s : State) (views : Nat) (a : Long) : List (Recipe × Long) :=
  ((List.range 4).filter (bit views)).filterMap fun v =>
    let x := posL (rowStartAfter s v a)
    ((activeAt s v x).filter fun r => r.image.condN != 0).map fun r => (r, x)

/-- The first COND_N kept tokens, padded with PAD. -/
def condBlock (n : Nat) (kept : List Nat) : List Nat :=
  let l := kept.take n
  l ++ List.replicate (n - l.length) tokPAD

/-- A block of a row takes its place among the pending ones, in order of position. -/
def insertBlock (x : Long) (blk : List Nat) (l : List (Long × List Nat)) : List (Long × List Nat) :=
  match l with
  | [] => [(x, blk)]
  | y :: r => if y.1 = x then (x, blk) :: r else if after y.1 x then (x, blk) :: y :: r else y :: insertBlock x blk r

def giveBlocks (l : List (Recipe × Long)) (kept : List Nat) (s : State) : State :=
  match l with
  | [] => s
  | (r, x) :: rest =>
    giveBlocks rest kept (modRecipe r.handle (fun q => { q with blocks := insertBlock x (condBlock q.image.condN kept) q.blocks }) s)

/-- A recipe would hold more than four pending blocks (11 R549). -/
def blocksFull (s : State) : Bool := s.rcp.recipes.any fun r => decide (4 < r.blocks.length)

/-- The result of Table 11.9. -/
def telegramResult (s : State) (t : Tokens) (kept : List Nat) (trunc late : Bool) (sel : Option Selection) (e : Long) : Bytes :=
  le2 kept.length ++ le2 (b2n trunc + 2 * b2n late + 4 * b2n sel.isSome) ++ le2 t.badBytes ++ le2 t.repls ++
    le4 ((sel.map (·.recipe)).getD 0) ++ le2 ((sel.map (·.status.toNat)).getD 0) ++ le2 0 ++ le4 (low32 e).toNat ++
    le4 ((s.rcp.dict.map (·.1)).getD 0) ++ kept.flatMap le2

/-- A telegram whose fields are in order. -/
def takeTelegram (p : Packet) (s : State) : State :=
  let b := p.params
  let views := fld b 2 1
  let w := BitVec.ofNat 32 (fld b 4 4)
  let late := reached s (expand s w)
  let a := if late then boundaryAfter s.pos.shift s.pos.hwm else expand s w
  let t := tokenise ((s.rcp.dict.map (·.2)).getD []) (fld b 8 2) (b.drop 16)
  let kept := t.tokens.take tokenLimit
  let trunc := decide (tokenLimit < t.tokens.length)
  let s1 := countTelegram t trunc late s
  let sel := if bit (fld b 1 1) 0 then (selected s (fld b 0 1) views kept).map fun e => selectRecipe p e views w s1 else none
  let s2 := (sel.map (·.state)).getD s1
  let targets := if bit (fld b 1 1) 1 then condTargets s2 views a else []
  let s3 := giveBlocks targets kept s2
  let e := ((sel.bind (·.e)).or ((targets.head?).map (·.2))).getD 0
  if blocksFull s3 then refuse p stBUSY noField s
  else ok p (telegramResult s t kept trunc late sel e) s3

/-- TELEGRAM. -/
def execTelegram (r : Ref) (s : State) : Host.Outcome State Fault Refusal :=
  .next (runOp 0x0B12 r s fun p s =>
    let n := fld p.params 8 2
    if 3 < fld p.params 0 1 then refuse p stBAD_PARAM 0x20 s
    else if n < 1 ∨ 1024 < n ∨ p.params.length ≠ 16 + n then refuse p stBAD_LENGTH 0x0A s
    else if !inHorizon s (BitVec.ofNat 32 (fld p.params 4 4)) then refuse p stREFUSED_HORIZON 0x24 s
    else takeTelegram p s)

end Sys2Proof.Machine
end

