-- ==== Sys2Proof/Machine/Temper.lean ====
section
/-! DEFINITION. Tempering (chapter 11): the sample cache, labels, epochs and their minibatches, shadow evaluation, promotion and
rollback. -/

namespace Sys2Proof.Machine

/-! ## The sample cache (11 R550 to R553) -/

def freeEntry : CacheEntry := { state := 0, lock := false, label := 0, nextLabel := none, captureSeq := 0, first := 0, tile := none }

/-- Columns that the capture takes. -/
def captureCols (s : State) (v : Nat) (mask : Word) : Nat := ((List.range (min 32 (tileCols s v))).filter fun c => mask.getLsbD c).length

/-- INGOT_BW demand of the capture, in bytes per metre. -/
def captureDemand (s : State) (v stride entry : Nat) (mask : Word) : Nat :=
  let (n, d) := puPerMetre s
  ceilDiv (n * captureCols s v mask * entry) (d * max 1 (tgOf s v).p * rowH s v * max 1 stride)

/-- What stops a cache configuration. -/
def cacheFault (s : State) (p : Packet) : Option (Half × Nat) :=
  let v := fld p.params 4 1
  let stride := fld p.params 6 2
  if p.cls ≠ 7 then some (stBAD_PARAM, 0x06)
  else match objOf s (fld p.params 0 4) with
    | none => some (stBAD_PARAM, 0x20)
    | some o =>
      if !o.pinned ∨ o.tier ≠ .ingot ∨ o.tenant ≠ 0 then some (stBAD_PARAM, 0x20)
      else if o.lost then some (stRETIRED, noField)
      else if 3 < v ∨ !(viewOf s v).configured ∨ !replaceView s v then some (stBAD_PARAM, 0x24)
      else if stride < 1 ∨ 4096 < stride then some (stBAD_PARAM, 0x26)
      else if s.rcp.epoch.isSome then some (stBUSY, noField)
      else none

/-- The old capture's admission is held no more. -/
def dropCapture (s : State) : State :=
  match s.rcp.cacheCfg.bind fun c => findAdm s c.handle with
  | some a => endAdm a .released s
  | none => s

def cacheConfig (p : Packet) (pick : Nat) (s : State) : State :=
  let v := fld p.params 4 1
  let stride := fld p.params 6 2
  let mask : Word := BitVec.ofNat 32 (fld p.params 8 4)
  let entry := 64 + tileBytes (viewOf s v).tileFmt (viewOf s v).tileW (viewOf s v).tileH
  let h := freshHandle s pick fun _ => true
  let q : Request :=
    { kind := .capture, cls := 7, tenant := p.tenant, demands := [⟨5, 7, captureDemand s v stride entry mask⟩], object := v
      vDecl := 0, recipe := 0 }
  let r := decideAdm q h (dropCapture s)
  match r.payload with
  | some e => refuseWith p stREFUSED_BUDGET e (countRefusal s)
  | none =>
    let n := ((objOf s (fld p.params 0 4)).map (·.size)).getD 0 / entry
    let c : CacheCfg := { handle := h, obj := fld p.params 0 4, view := v, stride := stride, colMask := mask, capturing := true
                          entry := entry }
    let s1 := r.state.setRcp { r.state.rcp with cacheCfg := some c, cache := List.replicate n freeEntry }
    ok p (le4 h) (writeCacheHeaders (List.range n) s1)

/-- TMP_CACHE_CONFIG. -/
def execTmpCacheConfig (r : Ref) (pick : Nat) (s : State) : Host.Outcome State Fault Refusal :=
  .next (runOp 0x0B20 r s fun p s =>
    match cacheFault s p with
    | some (st, off) => refuse p st off s
    | none => cacheConfig p pick s)

/-- A tile whose first scan line lies at `first` covers a 64-bit position and a view column (01 R40). -/
def tileCovers (view : Nat) (first x : Long) (col : Nat) (t : Tile) : Bool :=
  t.view == view && !after first x && !after x (first + (t.sposLast - t.sposFirst).setWidth 64) && t.col == col / max 1 t.tileW

/-- Newest cache entry whose tile covers the place. -/
def entryAt (l : List CacheEntry) (view : Nat) (x : Long) (col : Nat) : Option Nat :=
  (((l.mapIdx fun i e => (i, e)).filter fun e => e.2.state != 0 && e.2.tile.any (tileCovers view e.2.first x col)).foldl
    (fun (m : Option (Nat × CacheEntry)) x => match m with
      | none => some x
      | some y => if y.2.captureSeq < x.2.captureSeq then some x else some y) none).map (·.1)

/-- The cache entry that label `i` of the packet names by index or by its expanded SPOS, or the status and the offset at fault
(11 R553; 00 R9). -/
def labelTarget (s : State) (b : Bytes) (i : Nat) : Sum (Half × Nat) (Nat × Nat) :=
  let o := 4 + 12 * i
  let view := fld b (o + 4) 1
  let label := fld b (o + 8) 2
  let sp : Word := BitVec.ofNat 32 (fld b o 4)
  let idx := if view = 0xFF then some (fld b o 4) else entryAt s.rcp.cache view (expand s sp) (fld b (o + 6) 2)
  if view ≠ 0xFF ∧ 3 < view then .inl (stBAD_PARAM, 0x24 + o)
  else if view ≠ 0xFF ∧ !inHorizon s sp then .inl (stREFUSED_HORIZON, 0x20 + o)
  else match idx with
    | none => .inl (stBAD_PARAM, 0x20 + o)
    | some k =>
      if (s.rcp.cache[k]?).any fun e => e.state != 0 then .inr (k, label) else .inl (stBAD_PARAM, 0x20 + o)

/-- A label is recorded; on a locked entry it is used from the next epoch (11 R553). -/
def labelEntry (label : Nat) (e : CacheEntry) : CacheEntry :=
  if e.lock then { e with nextLabel := some label } else { e with label := label, state := if label = 0 then 1 else 2 }

def labelAll (l : List (Nat × Nat)) (s : State) : State :=
  match l with
  | [] => s
  | (k, label) :: r =>
    labelAll r (writeCacheHeader k (s.setRcp { s.rcp with cache := upd s.rcp.cache k (labelEntry label) }))

/-- First fault among the label targets. -/
def firstFault (l : List (Sum (Half × Nat) (Nat × Nat))) : Option (Half × Nat) :=
  l.findSome? fun x => match x with
    | .inl o => some o
    | .inr _ => none

def goodTargets (l : List (Sum (Half × Nat) (Nat × Nat))) : List (Nat × Nat) :=
  l.filterMap fun x => match x with
    | .inl _ => none
    | .inr t => some t

/-- TMP_LABEL: every entry or none. -/
def execTmpLabel (r : Ref) (s : State) : Host.Outcome State Fault Refusal :=
  .next (runOp 0x0B21 r s fun p s =>
    let n := fld p.params 0 2
    if p.params.length ≠ 4 + 12 * n then refuse p stBAD_LENGTH 0x0A s
    else
      let l := (List.range n).map (labelTarget s p.params)
      match firstFault l with
      | some (st, off) => refuse p st off s
      | none => ok p [] (labelAll (goodTargets l) s))

/-! ## Epochs (11 R554 to R559) -/

/-- The TEMPER bench, under its admission. -/
def temperBench (s : State) : Option Nat :=
  s.fab.bench.findIdx? fun x => x.temper && (findAdm s x.handle).isSome

/-- The bench serves the recipe under an admission. -/
def servesRecipe (s : State) (b h : Nat) : Bool :=
  let x := benchOf s b
  h != 0 && x.recipe == h && !x.temper && (findAdm s x.handle).isSome

/-- The TEMPER bench with its certificate, or why it cannot take work. -/
def temperFor (s : State) : Sum Half (Nat × Cert) :=
  match temperBench s with
  | none => .inl stDENIED
  | some b =>
    let x := benchOf s b
    match x.cert with
    | none => .inl stDENIED
    | some c => if x.state = .built then .inr (b, c) else .inl stBUSY

/-- Indices of the labelled unlocked entries. -/
def samplesOf (s : State) : List Nat :=
  ((s.rcp.cache.mapIdx fun i e => (i, e)).filter fun x => x.2.state == 2 && !x.2.lock).map (·.1)

/-- `k` tiles of a certificate in a metre of `den / num`, as demands in class 7 (02 R95, R103). -/
def tileDemands (b : Nat) (c : Cert) (k num den : Nat) : List Demand :=
  let per (x : Nat) := ceilDiv (k * x * num) (max 1 den)
  [⟨1, b, per c.cTile⟩, ⟨4, 7, per c.sheetBytes⟩, ⟨5, 7, per c.ingotBytes⟩, ⟨6, 0, per c.vslots⟩,
    ⟨8, 0, ceilDiv (k * c.eTile * num) (1000000 * max 1 den)⟩]

/-- What an epoch request comes to. -/
structure EpochReq where
  status : Half
  off : Nat
  payload : Bytes
  state : State
deriving DecidableEq, Repr

/-- Samples that do not fit the TEMPER certificate. -/
def badSample (s : State) (c : Cert) (i : Nat) : Bool :=
  !((s.rcp.cache[i]?).bind (·.tile)).any (tileFits c)

/-- What stops an epoch before its admission. -/
def epochFault (s : State) (t : Nat) (b : Bytes) : Option (Half × Nat) :=
  let n := (samplesOf s).length
  match recipeFor s t (fld b 0 4) 0x20, temperFor s with
  | .inl e, _ => some e
  | .inr _, tb =>
    if !servesRecipe s (fld b 4 1) (fld b 0 4) then some (stBAD_PARAM, 0x24)
    else if fld b 5 1 < 1 ∨ 16 < fld b 5 1 then some (stBAD_PARAM, 0x25)
    else if fld b 6 2 < 1 ∨ 256 < fld b 6 2 ∨ n < fld b 6 2 then some (stBAD_PARAM, 0x26)
    else if fld b 8 4 = 0 then some (stBAD_PARAM, 0x28)
    else match tb with
      | .inl st => some (st, noField)
      | .inr (_, c) =>
        if s.rcp.epoch.isSome ∨ 2 ≤ s.rcp.cands.length then some (stBUSY, noField)
        else if (samplesOf s).any (badSample s c) then some (stBAD_PARAM, noField)
        else none

/-- The epoch commits: its samples are locked until it ends. -/
def commitEpoch (ref : Ref) (fromList : Bool) (t h : Nat) (b : Bytes) (s : State) : State :=
  let l := samplesOf s
  let e : Epoch :=
    { handle := h, ref := ref, fromList := fromList, tenant := t, recipe := fld b 0 4, bench := fld b 4 1, passes := fld b 5 1
      b := fld b 6 2, span := fld b 8 4, hyper := (b.drop 16).take 32, entries := l, commitHwm := s.pos.hwm, started := 0, done := 0 }
  writeCacheHeaders l (s.setRcp { s.rcp with
    epoch := some e
    cache := (s.rcp.cache.map fun x => if x.state = 2 ∧ !x.lock then { x with lock := true } else x) })

/-- TMP_EPOCH as the opcode or a list command asks for it. -/
def requestEpoch (ref : Ref) (fromList : Bool) (t cls pick : Nat) (b : Bytes) (s : State) : EpochReq :=
  let no (e : Half × Nat) : EpochReq := { status := e.1, off := e.2, payload := [], state := s }
  if cls ≠ 7 then no (stBAD_PARAM, 0x06)
  else match epochFault s t b, temperFor s with
    | some e, _ => no e
    | none, .inl st => no (st, noField)
    | none, .inr (tb, c) =>
      let (n, d) := puPerMetre s
      let h := freshHandle s pick fun _ => true
      let q : Request :=
        { kind := .epoch, cls := 7, tenant := t, object := tb, vDecl := 0, recipe := 0
          demands := tileDemands tb c ((samplesOf s).length * fld b 5 1) n (d * fld b 8 4) }
      let r := decideAdm q h s
      match r.payload with
      | some e => { status := stREFUSED_BUDGET, off := noField, payload := e, state := r.state }
      | none => { status := stOK, off := 0, payload := [], state := commitEpoch ref fromList t h b r.state }

/-- TMP_EPOCH: replies when the epoch ends (15 R712). -/
def execTmpEpoch (r : Ref) (pick : Nat) (s : State) : Host.Outcome State Fault Refusal :=
  .next (runOp 0x0B22 r s fun p s =>
    let x := requestEpoch r false p.tenant p.cls pick p.params s
    if x.status = stOK then commitP r x.state
    else if x.status = stREFUSED_BUDGET then refuseWith p stREFUSED_BUDGET x.payload x.state
    else refuse p x.status x.off s)

/-- EPOCH of a TEMPER list: admitted as TMP_EPOCH is, and the list goes on when the epoch ends. -/
def execEpoch (pick : Nat) (s : State) : Host.Outcome State Fault Refusal :=
  .next (withCmd 6 0x100 s fun l c =>
    let cls := ((findP l.ref s).map (·.cls)).getD 7
    if s.rcp.epoch.any fun e => e.fromList && e.ref == l.ref then s
    else if c.arg0 ≠ 0 ∨ c.arg1 ≠ 0 ∨ fld c.body 12 4 ≠ 0 then failCmd l stBAD_PARAM s
    else
      let x := requestEpoch l.ref true l.tenant cls pick c.body s
      if x.status = stOK then x.state else failCmd l x.status x.state)

/-- S, the minibatches of an epoch (11 R556). -/
def epochSteps (e : Epoch) : Nat := ceilDiv (e.entries.length * e.passes) (max 1 e.b)

/-- The TEMPER bench runs. -/
def temperRuns (s : State) : Bool := (temperBench s).any fun b => (benchOf s b).state == .built

/-- Minibatch `i` may start: the strip moves forward and the HWM has advanced far enough. -/
def minibatchDue (s : State) (e : Epoch) : Bool :=
  e.started == e.done && decide (e.done < epochSteps e) && !s.pos.stationary && !s.pos.dirRev &&
    decide (ceilDiv (e.done * e.span) (max 1 (epochSteps e)) ≤ spanSince s e.commitHwm)

/-- MINIBATCH_START. -/
def execMinibatchStart (s : State) : Host.Outcome State Fault Refusal :=
  .next (match s.rcp.epoch with
    | none => s
    | some e =>
      if temperRuns s && minibatchDue s e then s.setRcp { s.rcp with epoch := some { e with started := e.done + 1 } } else s)

/-- MINIBATCH_COMMIT: the update commits whole (11 R557). That of a minibatch whose epoch has ended comes first: it is discarded
and counted as FENCED (02 R112). -/
def execMinibatchCommit (s : State) : Host.Outcome State Fault Refusal :=
  .next (match s.rcp.lateBatch, s.rcp.epoch with
    | t :: rest, _ => countFenced t (s.setRcp { s.rcp with lateBatch := rest })
    | [], none => s
    | [], some e =>
      if temperRuns s && e.started == e.done + 1 then s.setRcp { s.rcp with epoch := some { e with done := e.done + 1 } } else s)

/-- The packet or list that asked for the epoch goes on. -/
def epochReply (e : Epoch) (cand : Nat) (s : State) : State :=
  if e.fromList then
    match s.fab.lists.find? fun l => l.ref == e.ref with
    | some l => advance l s
    | none => s
  else match findP e.ref s with
    | some p => doneLater p stOK (le4 cand) s
    | none => s

/-- The epoch is complete: its samples are unlocked and its candidate is kept. -/
def completeEpoch (e : Epoch) (params : Bytes) (pick : Nat) (s : State) : State :=
  let h := freshHandle s pick fun _ => true
  let c : Cand :=
    { handle := h, tenant := e.tenant, digest := (((benchOf s e.bench).cert).map (·.digest)).getD [], params := params
      copies := copyPair s e.bench 3, shadowRecipe := 0
      shadowSpan := 0, tally := List.replicate 9 0 }
  let s1 := cutBuckets 7 (dropAdm e.handle (s.setRcp { s.rcp with
    epoch := none, cache := s.rcp.cache.map unlockEntry, cands := s.rcp.cands ++ [c] }))
  noticeHolder e.tenant 0x0B10 (le4 h ++ le4 (epochSteps e)) (epochReply e h (writeCacheHeaders e.entries s1))

/-- TMP_EPOCH_DONE: `params` is the candidate parameter set that the microcode wrote. -/
def execTmpEpochDone (params : Bytes) (pick : Nat) (s : State) : Host.Outcome State Fault Refusal :=
  .next (match s.rcp.epoch with
    | none => s
    | some e => if temperRuns s && e.done == epochSteps e then completeEpoch e params pick s else s)

/-! ## Shadow, promotion and rollback (11 R560 to R564) -/

/-- The candidate a handle names, that the tenant may use. -/
def candFor (s : State) (t h : Nat) : Sum (Half × Nat) Cand :=
  match s.rcp.cands.find? fun c => c.handle == h with
  | none => .inl (stBAD_PARAM, 0x20)
  | some c => if t ≠ 0 ∧ t ≠ c.tenant then .inl (stDENIED, noField) else .inr c

/-- Demands of a shadow: one tile of the TEMPER certificate for each shadowed tile result. -/
def shadowDemands (s : State) (im : RecipeImage) (b stride tb : Nat) (c : Cert) : List Demand :=
  let r := benchRow s im b (benchOf s b)
  tileDemands tb c r.2.1 r.1.1 (r.1.2 * max 1 stride)

/-- What stops the start of a shadow. -/
def shadowFault (s : State) (p : Packet) : Option (Half × Nat) :=
  let b := fld p.params 4 1
  let x := benchOf s b
  if p.cls ≠ 7 then some (stBAD_PARAM, 0x06)
  else match candFor s p.tenant (fld p.params 0 4) with
    | .inl e => some e
    | .inr _ => match findRecipe s x.recipe with
      | none => some (stBAD_PARAM, 0x24)
      | some r =>
        if !servesRecipe s b r.handle ∨ !bit r.image.rflags 2 then some (stBAD_PARAM, 0x24)
        else if !mayUse p x.tenant then some (stDENIED, noField)
        else if x.state = .resetting then some (stBUSY, noField)
        else if fld p.params 6 2 = 0 then some (stBAD_PARAM, 0x26)
        else if s.rcp.shadow.isSome then some (stBUSY, noField)
        else none

/-- The shadow starts: the candidate's tally begins afresh. -/
def commitShadow (h cand b recipe stride : Nat) (s : State) : State :=
  s.setRcp { s.rcp with
    shadow := some { handle := h, cand := cand, bench := b, recipe := recipe, stride := stride, startHwm := s.pos.hwm }
    cands := (s.rcp.cands.map fun c =>
      if c.handle = cand then { c with shadowRecipe := recipe, shadowSpan := 0, tally := List.replicate 9 0 } else c) }

def startShadow (p : Packet) (pick : Nat) (s : State) : State :=
  let b := fld p.params 4 1
  match shadowFault s p, temperFor s, findRecipe s (benchOf s b).recipe with
  | some (st, off), _, _ => refuse p st off s
  | none, .inl st, _ => refuse p st noField s
  | none, _, none => refuse p stBAD_PARAM 0x24 s
  | none, .inr (tb, c), some r =>
    let h := freshHandle s pick fun _ => true
    let q : Request :=
      { kind := .shadow, cls := 7, tenant := p.tenant, object := b, vDecl := 0, recipe := 0
        demands := shadowDemands s r.image b (fld p.params 6 2) tb c }
    let d := decideAdm q h s
    match d.payload with
    | some e => refuseWith p stREFUSED_BUDGET e d.state
    | none => ok p (le4 h) (commitShadow h (fld p.params 0 4) b r.handle (fld p.params 6 2) d.state)

/-- Stop the running shadow of a candidate on a bench. -/
def stopShadow (p : Packet) (s : State) : State :=
  match candFor s p.tenant (fld p.params 0 4) with
  | .inl (st, off) => refuse p st off s
  | .inr c => match s.rcp.shadow with
    | none => refuse p stBAD_PARAM 0x20 s
    | some x =>
      if x.cand ≠ c.handle then refuse p stBAD_PARAM 0x20 s
      else if x.bench ≠ fld p.params 4 1 then refuse p stBAD_PARAM 0x24 s
      else match findAdm s x.handle with
        | none => refuse p stBAD_PARAM 0x20 s
        | some a => if mayUse p a.tenant then ok p (le4 x.handle) (release a s) else refuse p stDENIED noField s

/-- TMP_SHADOW. -/
def execTmpShadow (r : Ref) (pick : Nat) (s : State) : Host.Outcome State Fault Refusal :=
  .next (runOp 0x0B23 r s fun p s =>
    match fld p.params 5 1 with
    | 1 => startShadow p pick s
    | 0 => stopShadow p s
    | _ => refuse p stBAD_PARAM 0x25 s)

/-- Live benches of a recipe: those that serve it under an admission. -/
def liveBenches (s : State) (h : Nat) : List Nat := (List.range 16).filter fun b => servesRecipe s b h

/-- Span the candidate has been shadowed on the recipe, if it has been. -/
def shadowedSpan (s : State) (c : Cand) (h : Nat) : Option Nat :=
  if c.shadowRecipe = h then
    some (match s.rcp.shadow with
      | some x => if x.cand = c.handle then spanSince s x.startHwm else c.shadowSpan
      | none => c.shadowSpan)
  else none

/-- The benches can take a change of parameter slot (06 R315, R589). -/
def slotFault (s : State) (h : Nat) : Option (Half × Nat) :=
  let l := liveBenches s h
  if l.isEmpty then some (stDENIED, noField)
  else if l.any fun b => (benchOf s b).change.isSome || midChange (benchOf s b) then some (stBUSY, noField)
  else none

/-- Select a slot on each bench at the boundary. -/
def selectOn (l : List Nat) (slot : Bench → Nat) (tenant : Nat) (opcode : Half) (cand recipe : Nat) (bd : Long) (s : State) : State :=
  match l with
  | [] => s
  | b :: r =>
    selectOn r slot tenant opcode cand recipe bd
      (modBench b (fun x => { x with change := some (.select (slot x) tenant opcode cand recipe, bd) }) s)

/-- Load a parameter set into the idle slot of each bench, with its copies (06 R336). -/
def loadIdle (l : List Nat) (params : Bytes) (s : State) : State :=
  match l with
  | [] => s
  | b :: r =>
    loadIdle r params (placeCopy b (2 - (benchOf s b).slot) (modBench b (fun x => { x with
      slots := upd x.slots (1 - x.slot) fun _ => params }) s))

/-- Digest and size match the bench. -/
def candFits (s : State) (c : Cand) (b : Nat) : Bool :=
  let x := benchOf s b
  x.cert.any (fun k => k.digest == c.digest) && c.params.length == Config.slotSize x.image

/-- What stops a promotion (11 R562). -/
def promoteFault (s : State) (c : Cand) (r : Recipe) : Option (Half × Nat) :=
  if !(shadowedSpan s c r.handle).any fun n => decide (r.image.shMin ≤ n) then some (stDENIED, noField)
  else if (liveBenches s r.handle).any fun b => !candFits s c b then some (stBAD_PARAM, 0x20)
  else slotFault s r.handle

/-- TMP_PROMOTE. -/
def execTmpPromote (r : Ref) (s : State) : Host.Outcome State Fault Refusal :=
  .next (runOp 0x0B24 r s fun p s =>
    match candFor s p.tenant (fld p.params 0 4), recipeFor s p.tenant (fld p.params 4 4) 0x24 with
    | .inl (st, off), _ => refuse p st off s
    | _, .inl (st, off) => refuse p st off s
    | .inr c, .inr x => match promoteFault s c x with
      | some (st, off) => refuse p st off s
      | none =>
        let l := liveBenches s x.handle
        done p stACCEPTED [] (selectOn l (fun b => 1 - b.slot) p.principal 0x0B24 c.handle x.handle
          (boundaryAfter s.pos.shift s.pos.hwm) (loadIdle l c.params s)))

/-- TMP_ROLLBACK. -/
def execTmpRollback (r : Ref) (s : State) : Host.Outcome State Fault Refusal :=
  .next (runOp 0x0B25 r s fun p s =>
    match recipeFor s p.tenant (fld p.params 0 4) 0x20 with
    | .inl (st, off) => refuse p st off s
    | .inr x => match slotFault s x.handle with
      | some (st, off) => refuse p st off s
      | none =>
        done p stACCEPTED [] (selectOn (liveBenches s x.handle) (·.prevSlot) p.principal 0x0B25 0 x.handle
          (boundaryAfter s.pos.shift s.pos.hwm) s))

end Sys2Proof.Machine
end

