-- ==== Sys2Proof/Machine/Faults.lean ====
section
/-! DEFINITION. Faults and recovery (chapter 12): the fault log's opcodes, thresholds, injection, and the control processors' restart
and fatal state. -/

namespace Sys2Proof.Machine

/-! ## The fault log (12 R599 to R602) -/

/-- An entry as Table 12.6 lays it out. -/
def LogEntry.bytes (e : LogEntry) : Bytes :=
  withCrc (le4 e.seq.toNat ++ le4 e.rtc ++ le4 e.spos.toNat ++ le1 e.cls ++ le1 e.kind ++ le2 e.inst ++ le2 e.detect ++ le1 e.retries ++
    le1 e.fflags ++ le2 e.upsets ++ le2 e.code ++ le4 e.affected)

/-- Entries held: the log, or the Keeper tail while CTRL is down; newest first. -/
def heldLog (s : State) : List LogEntry := if domOn s 2 then s.flt.log else s.flt.keeper

/-- SEQ of the oldest entry held. -/
def oldestSeq (s : State) : Word := ((heldLog s).getLast?.map (·.seq)).getD s.flt.nextSeq

/-- The entries from FIRST on, in SEQ order, at most `n`. -/
def logPage (s : State) (first : Word) (n : Nat) : List LogEntry :=
  ((heldLog s).reverse.filter fun e => decide ((e.seq - first).toNat < 2 ^ 31)).take n

/-- FLT_LOG_READ: the FAULT indicator goes out (00 Table 0.4). -/
def execFltLogRead (r : Ref) (s : State) : Host.Outcome State Fault Refusal :=
  .next (runOp 0x0C01 r s fun p s =>
    let n := fld p.params 4 2
    if n < 1 ∨ 31 < n then refuse p stBAD_PARAM 0x24 s
    else
      let page := logPage s (BitVec.ofNat 32 (fld p.params 0 4)) n
      ok p (le4 (oldestSeq s).toNat ++ le4 s.flt.nextSeq.toNat ++ page.flatMap LogEntry.bytes)
        (s.setFlt { s.flt with unread := false, unreadFatal := false }))

/-- FLT_STATE (12 Table 12.8). -/
def fltState (s : State) : Word :=
  BitVec.ofNat 32 (b2n s.flt.fatal + 2 * b2n (recovering s) + 4 * b2n s.flt.restarting)

/-- FLT_STATUS (15 Table 15.15). -/
def execFltStatus (r : Ref) (s : State) : Host.Outcome State Fault Refusal :=
  .next (runOp 0x0C02 r s fun p s =>
    ok p (le4 (fltState s).toNat ++ le4 s.flt.nextSeq.toNat ++ le4 s.flt.ctrlRst.toNat ++ le4 s.flt.equivLost.toNat ++
      s.flt.thresh.flatMap fun x => le1 x.1 ++ [0] ++ le2 x.2) s)

/-- FLT_CONFIG (12 R570, R571; 15 R695). -/
def execFltConfig (r : Ref) (s : State) : Host.Outcome State Fault Refusal :=
  .next (runOp 0x0C10 r s fun p s =>
    let cls := fld p.params 0 1
    let th := fld p.params 1 1
    let win := fld p.params 2 2
    if cls < 1 ∨ 5 < cls then refuse p stBAD_PARAM 0x20 s
    else if th < 2 ∨ 64 < th then refuse p stBAD_PARAM 0x21 s
    else if win < 1 ∨ 3600 < win then refuse p stBAD_PARAM 0x22 s
    else ok p [] (wantRecord 4 (s.setFlt { s.flt with thresh := upd s.flt.thresh (cls - 1) fun _ => (th, win) })))

/-! ## The control processors (12 R581 to R586) -/

/-- Restarts that count, within the last 600 s. -/
def restartsIn (s : State) : List Nat := s.flt.restarts.filter fun t => decide (s.now < t + sTicks 600)

/-- Packets fetched from the host and not committed. -/
def uncommitted (s : State) : List Packet := s.kw.outstanding.filter fun p => p.principal != 64 && !p.committed

/-- Low byte of DETECT: lockstep or watchdog. -/
def ctrlDetect (lockstep : Bool) : Nat := if lockstep then 5 else 4

/-- Every lane is disabled. -/
def disableLanes (l : List Nat) (s : State) : State :=
  match l with
  | [] => s
  | n :: r => disableLanes r (if (laneOf s n).enabled then stopLane n .disabled 3 s else s)

/-- The fatal state (12 R585). -/
def enterFatal (how : Nat) (s : State) : State :=
  let s1 := causeReset (s.setFlt { s.flt with fatal := true, restarting := false })
  let s2 := disableLanes (List.range 24) s1
  logFault { entryOf s2 8 7 0 with detect := 0x0800 + how, affected := (uncommitted s2).length } s2

/-- Both copies of the journal have failed (12 R585, R597). -/
def journalLost (s : State) : State :=
  enterFatal 1 (equivLost { upsetEntry s 8 0 1 false with affected := (uncommitted s).length } s)

/-- A restart begins: the fabric is handled under R343, and fetching stops. -/
def beginRestart (how : Nat) (injected : Bool) (s : State) : State :=
  let s1 := if s.flt.restarting then supersede 8 0 s else s
  let s2 := upset 8 0 how false injected 0 (uncommitted s).length (chipLose 9 injected s1)
  s2.setFlt { s2.flt with
    restarting := true
    restarts := if injected then restartsIn s else s.now :: restartsIn s
    ctrlRst := s2.flt.ctrlRst + 1 }

/-- A lockstep mismatch or a watchdog expiry (12 R582, R585, R590). An injected one never leads to the fatal state (R603). -/
def ctrlFault (lockstep injected : Bool) (s : State) : State :=
  let how := ctrlDetect lockstep
  let s1 := beginRestart how injected s
  if !injected && ((s.flt.restarting && lockstep) || decide (3 ≤ (restartsIn s1).length)) then enterFatal how s1 else s1

/-- CTRL_FAULT. -/
def execCtrlFault (lockstep journalOk : Bool) (t : Nat) (s : State) : Host.Outcome State Fault Refusal :=
  let s := s.at_ t
  .next (if !domOn s 2 || s.flt.fatal then s else if journalOk then ctrlFault lockstep false s else journalLost s)

/-- Write the replies that waited for the end of the restart. -/
def flushReplies (l : List WaitingReply) (s : State) : State :=
  match l with
  | [] => s
  | w :: r => flushReplies r (deliver w.packet w.status w.fence w.spos w.result s)

/-- Re-execute a packet from validation step 1; it keeps its fetch time for KW_TMO and its DEADLINE (12 R584). -/
def reexecute (p : Packet) (s : State) : State :=
  let s1 := dropP p.ref (s.setFab { s.fab with lists := s.fab.lists.filter fun l => !(l.ref == p.ref) })
  match validate p.principal p.raw s1 with
  | some j => tenantReply (rejectInfo p.principal p.raw p.sqSlot j s1) p.orphan s1
  | none =>
    addPacket { packetOf p.principal p.raw p.sqSlot s1 with
      fetchedAt := p.fetchedAt, fetchHwm := p.fetchHwm, tmo := p.tmo, deadline := p.deadline, orphan := p.orphan } s1

/-- Each uncommitted packet is re-executed, or times out where R577 forbids a level-3 retry; the counts of both. -/
def resumeAll (l : List Packet) (n : Nat × Nat) (s : State) : (Nat × Nat) × State :=
  match l with
  | [] => (n, s)
  | p :: r =>
    if withinLimit s p (msTicks 100) then resumeAll r (n.1 + 1, n.2) (reexecute p s)
    else resumeAll r (n.1, n.2 + 1) (cancelP p stTIMED_OUT (fenceOf s p.principal) s)

/-- The restart ends (12 R584). -/
def restartDone (s : State) : State :=
  let waiting := s.kw.waitingReplies
  let s1 := (s.setFlt { s.flt with restarting := false }).setKw { s.kw with waitingReplies := [] }
  let ((reex, timed), s2) := resumeAll (uncommitted s1) (0, 0) (flushReplies waiting s1)
  let n := (restartsIn s2).length
  let e := { recoveredEntry s2 8 0 (reex + timed) false with upsets := n }
  let s3 := logFault { e with kind := 6 } (logFault e s2)
  settleRetirements (noticeUnit 0x0C03 (le2 reex ++ le2 timed ++ le1 n) s3)

/-- FLT_CTRL_RESTART: the firmware state is restored from the journal, and fetching resumes. -/
def execFltCtrlRestart (journalOk : Bool) (s : State) : Host.Outcome State Fault Refusal :=
  .next (if !s.flt.restarting then s else if journalOk then restartDone s else journalLost s)

/-! ## The management controller (12 R588, Table 12.2) -/

/-- The management controller restarts. -/
def mgmtRestarts (s : State) : State :=
  let s1 := if s.pwr.mgmtRestart then supersede 0x0D 0 s else s
  upset 0x0D 0 4 false false 0 0 (s1.setPwr { s1.pwr with mgmtRestart := true })

/-- MGMT_RESTART: its own watchdog expired. -/
def execMgmtRestart (t : Nat) (s : State) : Host.Outcome State Fault Refusal :=
  let s := s.at_ t
  .next (if domOn s 1 then mgmtRestarts s else s)

/-- MGMT_RESTART_DONE: it answers datagrams again. -/
def execMgmtRestartDone (t : Nat) (s : State) : Host.Outcome State Fault Refusal :=
  let s := s.at_ t
  .next (if s.pwr.mgmtRestart then recovered 0x0D 0 0 false (s.setPwr { s.pwr with mgmtRestart := false }) else s)

/-! ## Injection (12 R603, R604) -/

/-- Targets of Table 12.7. -/
def injectTargets : List Nat := [2, 3, 4, 6, 7, 8, 9, 10]

/-- INSTANCE names a resource of the target. -/
def injectInstOk (s : State) (target inst : Nat) : Bool :=
  match target with
  | 2 => decide (inst < 256)
  | 3 => decide (inst < 4)
  | 4 => decide (inst < 32)
  | 6 => decide (inst < 16) && (benchOf s inst).state != .free
  | 9 => decide (inst < 2)
  | 10 => decide (inst < 32)
  | _ => true

/-- A recovery of any kind is under way: of a bench, chip-wide, of the control processors or the management controller, or the
re-bring-up of a lane after an upset (12 R604, Table 12.2). -/
def anyRecovery (s : State) : Bool :=
  recovering s || s.pwr.mgmtRestart || s.lanes.lane.any fun x => x.afterUpset && x.enabled && x.state != .active && x.state != .retired

/-- FLT_INJECT: the fault is injected by FAULT_INJECTION_FIRE. -/
def execFltInject (r : Ref) (s : State) : Host.Outcome State Fault Refusal :=
  .next (runOp 0x0C20 r s fun p s =>
    let target := fld p.params 0 1
    let inst := fld p.params 2 2
    let w : Word := BitVec.ofNat 32 (fld p.params 4 4)
    if !injectTargets.contains target then refuse p stBAD_PARAM 0x20 s
    else if !injectInstOk s target inst then refuse p stBAD_PARAM 0x22 s
    else if anyRecovery s || s.flt.fatal then refuse p stBUSY noField s
    else if w ≠ 0 ∧ !inHorizon s w then refuse p stREFUSED_HORIZON 0x24 s
    else
      let x : Injection := { target := target, inst := inst, at_ := if w = 0 then none else some (expand s w) }
      ok p [] (s.setFlt { s.flt with injections := s.flt.injections ++ [x] }))

/-- The running command that an error in ASSAY's Q unit hits. -/
def runningQ (s : State) : Option (CmdList × Cmd) :=
  (s.fab.lists.find? fun l => l.engine == 4 && l.running).bind fun l => (l.cur.filter fun c => decide (0x100 ≤ c.cmd)).map fun c => (l, c)

/-- The stake runs a tile. -/
def stakeRuns (s : State) (k : Nat) : Option Nat :=
  (benchHolding s k).filter fun b => (benchOf s b).running.any fun r => r.stake == k && runCurrent s b r

/-- The INGOT address that an injected error of a channel hits. -/
def injectedAddr (ch : Nat) : Long := BitVec.ofNat 64 (ch * 2 ^ 34 + Config.injectedWord ch % 2 ^ 34)

/-- Inject the fault, where the resource it hits is at work. -/
def inject (x : Injection) (s : State) : Option State :=
  match x.target with
  | 2 => (stakeRuns s x.inst).map fun b => privateFault b x.inst 2 true s
  | 3 =>
    if ingotLive s (injectedAddr x.inst) then some (doubleBit (injectedAddr x.inst) (Config.injectedReader x.inst % 7) .failed true s) else none
  | 4 => if isOutput s x.inst && fieldOn s then some (frameError x.inst false true s) else none
  | 6 => if (benchOf s x.inst).state = .free then none else some (privateFault x.inst (blamed s x.inst) 6 true s)
  | 7 => if domOn s 2 then some (chipFault 8 true s) else none
  | 8 => if domOn s 2 && !s.flt.fatal then some (ctrlFault true true s) else none
  | 9 =>
    if x.inst = 0 then
      match s.asy.rt with
      | [] => none
      | o :: rest =>
        let cmd := ((findRecipe s o.recipe).map fun r => rtCmd r.image o).getD 0
        some (rtLost o (asyFault true cmd none true (s.setAsy { s.asy with rt := rest })))
    else (runningQ s).map fun lc => asyFail lc.1 lc.2.cmd none none true s
  | _ => some (s.setFlt { s.flt with badCopy := some x.inst })

/-- FAULT_INJECTION_FIRE: a scheduled injection whose AT the HWM has reached. -/
def execFaultInjectionFire (index : Nat) (s : State) : Host.Outcome State Fault Refusal :=
  .next (match s.flt.injections[index]? with
    | none => s
    | some x =>
      if x.at_.all (reached s) then
        (inject x (s.setFlt { s.flt with injections := dropAt s.flt.injections index })).getD s
      else s)

end Sys2Proof.Machine
end

