-- ==== Sys2Proof/Machine/Record.lean ====
section
/-! DEFINITION. The Record (chapter 14): its bytes, the record in force, writing pages and erasing sectors, the Keeper's count and
clock, and the opcodes that read and configure the Record. -/

namespace Sys2Proof.Machine

/-! ## The record's bytes (14 Table 14.6) -/

/-- Mask of a list of bit numbers. -/
def maskOf (l : List Nat) : Nat := l.foldl (fun m n => Nat.lor m (2 ^ n)) 0

def Rec.bytes (x : Rec) : Bytes :=
  withCrc (padTo 252 ([0x56, 0x32, 0x34, 0x52] ++ le2 1 ++ le2 256 ++ le4 x.seq.toNat ++ le4 x.rtc ++ le1 x.cause ++
    le1 (x.sel + 2 * b2n x.trial) ++ le1 x.tries ++ le1 x.anchor ++ le4 x.sectors.toNat ++ le4 (maskOf x.retLanes) ++
    le4 (maskOf x.retDio) ++ le2 (maskOf x.retFeeds) ++ le1 (maskOf x.retDram) ++ le1 (b2n x.hostLoss) ++ le4 x.encScale ++
    leBytes 32 (maskOf x.retStakes) ++ (x.enc.flatMap fun e => le4 (Config.encRecord e.htl e.inv e.term e.filtN)) ++
    le4 (Config.ssiRecord x.ssi.clk x.ssi.bits x.ssi.gray) ++ le4 x.ssi.scale ++ le4 x.ssi.offset ++ le2 x.sagTh ++ le2 0 ++
    le8 x.zBase.toNat ++ le4 x.sbAddr.toNat ++ le1 x.sbPrefix ++ [0, 0, 0] ++
    (x.sbAllow.flatMap fun e => le4 e.1.toNat ++ le1 e.2 ++ [0, 0, 0]) ++
    (x.thresh.flatMap fun e => le1 e.1 ++ le2 e.2) ++ [0] ++ le8 0 ++
    (x.ckpt.flatMap fun e => le4 e.1 ++ le4 e.2.1 ++ le4 e.2.2.1 ++ le4 e.2.2.2)))

/-- The record that a write started now would hold (14 R672, R676). -/
def recordOf (s : State) (cause : Nat) : Rec :=
  { s.boot.draft with
    seq := s.boot.inForce.seq + 1
    rtc := rtcSeconds s
    cause := cause
    retLanes := (List.range 24).filter fun l => (laneOf s l).state == .retired
    retDio := (List.range 32).filter fun n => (chanOf s n).retired
    retFeeds := (List.range 16).filter fun k => (feedOf s k).retired
    retDram := (List.range 4).filter fun c => (getI s.draw.chan c DramChan.reset).retired
    retStakes := s.fab.retiredStakes
    hostLoss := s.kw.hostLossRelease
    encScale := s.pos.scale
    enc := s.pos.enc
    ssi := s.pos.ssi
    sagTh := s.pwr.sagTh
    thresh := s.flt.thresh }

/-! ## The record in force (14 R670 to R672) -/

/-- Valid records of both banks, with their places. -/
def recordsHeld (s : State) : List ((Nat × Nat) × Rec) :=
  [0, 1].flatMap fun b => (getI s.boot.banks b []).map fun e => ((b, e.1), e.2)

/-- The record whose SEQ is after that of every other. -/
def latestRecord (l : List ((Nat × Nat) × Rec)) : Option ((Nat × Nat) × Rec) :=
  l.find? fun x => l.all fun y => x.1 == y.1 || seqAfter x.2.seq y.2.seq

/-- The record with the highest SEQ as an unsigned number. -/
def highestRecord (l : List ((Nat × Nat) × Rec)) : Option ((Nat × Nat) × Rec) :=
  l.foldl (fun m x => match m with
    | none => some x
    | some y => if y.2.seq.toNat < x.2.seq.toNat then some x else some y) none

/-- A flash fault of the Record, logged (12 class 0x0C). -/
def logFlash (how inst : Nat) (s : State) : State := upset 0x0C inst how false false 0 0 s

/-- A record is in force at its place, which the Keeper notes. -/
def putInForce (place : Nat × Nat) (x : Rec) (s : State) : State :=
  s.setBoot { s.boot with inForce := x, place := place, keeperRec := some (x.seq, place) }

/-- Read the Record: the record in force, or the defaults, which are written as the first record; a choice between records
of which none is the latest, and a disagreement with the Keeper, are logged. -/
def readRecord (s : State) : State :=
  let l := recordsHeld s
  match l with
  | [] =>
    let s1 := s.setBoot { s.boot with inForce := Rec.reset, draft := Rec.reset, place := (1, 0) }
    wantRecord 7 s1
  | _ =>
    match (latestRecord l).or (highestRecord l) with
    | none => s
    | some (place, x) =>
      let s1 := if (latestRecord l).isSome then s else logFlash (Config.detectCode 0x0C % 256) place.1 s
      let agrees := s.boot.keeperRec.all fun k => k == (x.seq, place)
      let s2 := if agrees then s1 else logFlash (Config.detectCode 0x0C % 256) place.1 s1
      let s3 := putInForce place x s2
      s3.setBoot { s3.boot with draft := x }

/-! ## Sectors (14 R675 to R679) -/

/-- Record sector of a page: bank A 0 to 15, bank B 16 to 31. -/
def sectorOf (bank page : Nat) : Nat := 16 * bank + page / 256

def sectorLive (s : State) (k : Nat) : Bool := !s.boot.draft.sectors.getLsbD k

def liveSectors (s : State) (bank : Nat) : Nat := ((List.range 16).filter fun i => sectorLive s (16 * bank + i)).length

/-- Live sectors of the bank's ring from sector `i` on, once round. -/
def ringFrom (s : State) (bank i : Nat) : List Nat :=
  ((List.range 16).map fun j => (i + j) % 16).filter fun j => sectorLive s (16 * bank + j)

/-- The first blank page of the bank after page `p`, or from its first page on. -/
def blankAfter (s : State) (bank : Nat) (p : Option Nat) : Option Nat :=
  let start := match p with
    | none => 0
    | some p => p + 1
  if start % 256 ≠ 0 ∧ sectorLive s (sectorOf bank start) then some start
  else
    let first := if start % 256 = 0 then start / 256 else start / 256 + 1
    ((ringFrom s bank first).find? fun j => !s.boot.dirty.contains (16 * bank + j)).map (· * 256)

/-- The last page programmed in a bank. -/
def lastPageOf (s : State) (bank : Nat) : Option Nat := getI s.boot.lastPage bank none

/-- The live sector after the one a bank is writing. -/
def sectorAhead (s : State) (bank : Nat) : Option Nat :=
  (lastPageOf s bank).bind fun p => ((ringFrom s bank (p / 256 + 1)).head?).map (16 * bank + ·)

/-- Erase the sector ahead of a bank's write position where it is not wholly blank. -/
def eraseAhead (s : State) : State :=
  if s.boot.erasing.isSome then s
  else match [0, 1].find? fun b => (sectorAhead s b).any s.boot.dirty.contains with
    | none => s
    | some b => s.setBoot { s.boot with erasing := (sectorAhead s b).map fun k => (k, supplyWarned s) }

/-- Record writes stop when a bank has fewer than 4 live sectors (14 R679). -/
def settleDegraded (bank : Nat) (s : State) : State :=
  let n := liveSectors s bank
  if n < 4 ∧ !s.boot.degraded then
    noticeUnit 0x0E02 (le1 bank ++ le1 n) (s.setBoot { s.boot with degraded := true })
  else s

/-- Retire a Record sector, by a record with CAUSE 6 (14 R675). -/
def retireSector (k : Nat) (s : State) : State :=
  let w := s.boot.draft.sectors ||| ((1 : Word) <<< k)
  settleDegraded (k / 16) (wantRecord 6 (s.setBoot { s.boot with draft := { s.boot.draft with sectors := w } }))

def retireSectors (l : List Nat) (s : State) : State :=
  match l with
  | [] => s
  | k :: r => retireSectors r (if sectorLive s k then retireSector k s else s)

/-- A page of a bank has been programmed. -/
def pageUsed (bank page : Nat) (s : State) : State :=
  let k := sectorOf bank page
  s.setBoot { s.boot with
    lastPage := upd s.boot.lastPage bank fun _ => some page
    dirty := if s.boot.dirty.contains k then s.boot.dirty else s.boot.dirty ++ [k] }

/-- SECTOR_ERASE_DONE. -/
def eraseDone (k : Nat) (good : Bool) (s : State) : State :=
  let s1 := s.setBoot { s.boot with erasing := none }
  if good then
    eraseAhead (s1.setBoot { s1.boot with
      dirty := s1.boot.dirty.filter (· != k)
      banks := upd s1.boot.banks (k / 16) fun l => l.filter fun e => e.1 / 256 != k % 16 })
  else eraseAhead (retireSector k s1)

def execSectorEraseDone (k : Nat) (good : Bool) (s : State) : Host.Outcome State Fault Refusal :=
  .next (if s.boot.erasing = some (k, false) then eraseDone k good s else s)

/-! ## Writing (14 R675, R676) -/

/-- A write may start: none under way, no supply warning, the unit not shut down, and 2 s after the last start. -/
def mayWriteRecord (s : State) : Bool :=
  s.boot.writing.isNone && !supplyWarned s && s.pwr.thermalDown == 0 && (domOn s 1 || domOn s 2) &&
    quiet s.boot.lastWrite (sTicks 2) s.now

/-- Bank of the next record: the one that does not hold the record in force (14 R672). -/
def nextBank (s : State) : Nat := 1 - s.boot.place.1

/-- Start the write of the record wanted. -/
def startWrite (cause : Nat) (s : State) : State :=
  let bank := nextBank s
  if s.boot.degraded then s.setBoot { s.boot with wanted := none, skipped := satInc s.boot.skipped }
  else match blankAfter s bank (lastPageOf s bank) with
    | none => s
    | some page => s.setBoot { s.boot with
        wanted := none, lastWrite := some s.now, abandon := false
        writing := some { image := recordOf s cause, bank := bank, page := page, tries := 0, pages := 0, since := s.now, failed := [] } }

/-- RECORD_WRITE_START. -/
def execRecordWriteStart (t : Nat) (s : State) : Host.Outcome State Fault Refusal :=
  let s := s.at_ t
  .next (match s.boot.wanted with
    | some cause => if mayWriteRecord s then startWrite cause s else s
    | none => s)

/-- A verified page is a record, and in force. -/
def commitRecord (w : RecWrite) (s : State) : State :=
  let s1 := s.setBoot { s.boot with writing := none, banks := upd s.boot.banks w.bank fun l => (w.page, w.image) :: l }
  eraseAhead (retireSectors w.failed (putInForce (w.bank, w.page) w.image s1))

/-- The write ends without a record; the change waits for another. -/
def giveUpWrite (w : RecWrite) (s : State) : State :=
  eraseAhead (retireSectors w.failed (wantRecord w.image.cause (s.setBoot { s.boot with writing := none, abandon := false })))

/-- A page failed its verify: reprogram it, up to twice within 8 ms (12 R577), else go on to the next page, of three at most. -/
def pageFailed (w : RecWrite) (s : State) : State :=
  let s1 := logFlash 0x08 w.bank s
  if w.tries < 2 ∧ s.now + msTicks 2 ≤ w.since + msTicks 8 then
    s1.setBoot { s1.boot with writing := some { w with tries := w.tries + 1 } }
  else
    let w := { w with failed := w.failed ++ [sectorOf w.bank w.page] }
    match blankAfter s1 w.bank (some w.page) with
    | some page =>
      if w.pages < 2 ∧ s1.boot.lastWrite.all (fun t => decide (s1.now + msTicks 2 ≤ t + msTicks 32)) then
        s1.setBoot { s1.boot with writing := some { w with page := page, tries := 0, pages := w.pages + 1, since := s1.now } }
      else giveUpWrite w s1
    | none => giveUpWrite w s1

/-- Page programs that ended in the last 24 h, by the Keeper's clock (02 R85; 14 Table 14.9). -/
def pages24 (s : State) : List Nat := s.boot.pageTimes.filter fun t => decide (s.now < t + sTicks 86400)

/-- The program of a page ends. One interrupted by a supply warning makes no record: the write is requested afresh (13 R625). -/
def pageDone (w : RecWrite) (verifyOk : Bool) (s : State) : State :=
  let s1 := pageUsed w.bank w.page (s.setBoot { s.boot with pageTimes := s.now :: pages24 s })
  if s1.boot.abandon then giveUpWrite w s1
  else if verifyOk then commitRecord w s1
  else pageFailed w s1

/-- RECORD_PAGE_DONE. -/
def execRecordPageDone (verifyOk : Bool) (t : Nat) (s : State) : Host.Outcome State Fault Refusal :=
  let s := s.at_ t
  .next (match s.boot.writing with
    | some w => pageDone w verifyOk s
    | none => s)

/-- The boot ROM writes a record itself, before the chosen firmware starts (14 R658). -/
def romWrite (cause : Nat) (s : State) : State :=
  match (wantRecord cause s).boot.wanted with
  | none => s
  | some c =>
    let s1 := startWrite c s
    match s1.boot.writing with
    | some w => pageDone w true s1
    | none => s1

/-- A supply warning closes Record writes: the page under way completes, its write is abandoned, and an erase is suspended (13
R624, R625; 14 R678). -/
def closeWrites (s : State) : State :=
  s.setBoot { s.boot with
    abandon := s.boot.abandon || s.boot.writing.isSome, erasing := s.boot.erasing.map fun e => (e.1, true) }

/-- Once no warning is left an erase goes on. -/
def openWrites (s : State) : State :=
  if supplyWarned s then s else s.setBoot { s.boot with erasing := s.boot.erasing.map fun e => (e.1, false) }

/-- A reset tears the page being programmed, drops writes not started, and abandons an erase (13 R640; 14 R670, R678, R695). -/
def tearWrites (s : State) : State :=
  let s1 := match s.boot.writing with
    | some w => pageUsed w.bank w.page s
    | none => s
  s1.setBoot { s1.boot with writing := none, wanted := none, abandon := false, erasing := none }

/-! ## The Keeper (14 R663 to R666; 13 R615) -/

/-- Place of a pair of levels in the quadrature cycle in which A leads. -/
def quadPlace (ab : Bool × Bool) : Nat :=
  match ab with
  | (false, false) => 0
  | (true, false) => 1
  | (true, true) => 2
  | (false, true) => 3

/-- Places that a pair moved on, modulo 4. -/
def quadStep (old new : Bool × Bool) : Nat := (quadPlace new + 4 - quadPlace old) % 4

/-- A step of one place counts up, after INV (01 R28). -/
def keeperForward (s : State) (step : Nat) : Bool :=
  ((step == 1) == Config.aLeads) != (getI s.pos.enc 0 EncCfg.reset).inv

/-- KEEPER_SAMPLE: while CTRL is down the Keeper counts at 131,072 Hz. -/
def keeperSample (ab : Bool × Bool) (s : State) : State :=
  let step := quadStep s.boot.keeperAB ab
  let s1 := s.setBoot { s.boot with keeperAB := ab }
  if step = 2 then keeperInvalidate s1
  else if step = 0 ∨ !s.boot.keeperValid then s1
  else
    let c := if keeperForward s step then s.boot.cK + 1 else s.boot.cK - 1
    s1.setBoot { s1.boot with cK := c, hK := max s.boot.hK c }

def execKeeperSample (a b : Bool) (s : State) : Host.Outcome State Fault Refusal :=
  .next (if s.boot.keeperOn then keeperSample (a, b) s else s)

/-- KEEPER_OVERRUN (14 R665). -/
def execKeeperOverrun (s : State) : Host.Outcome State Fault Refusal :=
  .next (if s.boot.keeperOn then keeperInvalidate s else s)

/-- KEEPER_POWER_LOSS, with every supply absent: the clock is invalid, H_K is 0, and what else the Keeper held is lost (14 R663,
R667; 12 R601). -/
def execKeeperPowerLoss (s : State) : Host.Outcome State Fault Refusal :=
  .next (
    if domOn s 1 || domOn s 2 then s
    else
      let s1 := s.setBoot { s.boot with
        rtc := none, cK := 0, hK := 0, keeperValid := false, keeperRec := none, cutoff := false, pageTimes := [] }
      let s2 := s1.setFlt { s1.flt with keeper := [], nextSeq := 0 }
      s2.setPwr { s2.pwr with sagAt := (none, none) })

/-- KEEPER_LOW (13 R615). -/
def execKeeperLow (low : Bool) (s : State) : Host.Outcome State Fault Refusal := .next (s.setPwr { s.pwr with keeperLow := low })

/-- PTB count of a position that lies `d` pu from the PTB. -/
def countAt (s : State) (p : Long) : Int := (16 * s.pos.count + s.pos.frac + (p - ptb s).toInt) / 16

/-- At CTRL power-down the PTB logic hands C and H to the Keeper, which starts counting (14 R666). A PTB that is not anchored
has nothing to hand over: the copy stays invalid until the next anchoring (R665). -/
def keeperHandover (s : State) : State :=
  if s.pos.anchored then
    s.setBoot { s.boot with cK := s.pos.count, hK := countAt s s.pos.hwm, keeperValid := true, keeperOn := true }
  else s.setBoot { s.boot with keeperOn := true }

/-! ## Opcodes (15 Table 15.16) -/

/-- REC_READ (14 R680). -/
def execRecRead (r : Ref) (s : State) : Host.Outcome State Fault Refusal :=
  .next (runOp 0x0E01 r s fun p s =>
    ok p (s.boot.inForce.bytes ++ le1 s.boot.place.1 ++ [0] ++ le2 s.boot.place.2) s)

/-- The four allow-list entries of REC_CONFIG. -/
def allowOf (b : Bytes) : List (Word × Nat) :=
  (List.range 4).map fun i => (BitVec.ofNat 32 (fld b (20 + 8 * i) 4), fld b (24 + 8 * i) 1)

/-- Offset of a field of REC_CONFIG outside Table 14.6. -/
def recConfigBad (b : Bytes) : Option Nat :=
  let sel := fld b 0 1
  if bit sel 0 ∧ bits (fld b 1 1) 1 0 = 3 then some 0x21
  else if bit sel 2 ∧ 32 < fld b 16 1 then some 0x30
  else if bit sel 2 then ((List.range 4).find? fun i => decide (32 < fld b (24 + 8 * i) 1)).map fun i => 0x20 + 24 + 8 * i
  else none

/-- REC_CONFIG: the allow list is in force at once, a new address after a reset of kind COLD (14 R673). -/
def execRecConfig (r : Ref) (s : State) : Host.Outcome State Fault Refusal :=
  .next (runOp 0x0E10 r s fun p s =>
    let b := p.params
    let sel := fld b 0 1
    match recConfigBad b with
    | some off => refuse p stBAD_PARAM off s
    | none =>
      let d := s.boot.draft
      let d := if bit sel 0 then { d with anchor := fld b 1 1 } else d
      let d := if bit sel 1 then { d with zBase := BitVec.ofNat 64 (fld b 4 8) } else d
      let d := if bit sel 2 then
          { d with sbAddr := BitVec.ofNat 32 (fld b 12 4), sbPrefix := fld b 16 1, sbAllow := allowOf b }
        else d
      let s1 := s.setBoot { s.boot with draft := d }
      ok p [] (wantRecord 4 (if bit sel 2 then s1.setKw { s1.kw with sbAllow := allowOf b } else s1)))

/-- RTC_SET (14 R663). -/
def execRtcSet (r : Ref) (s : State) : Host.Outcome State Fault Refusal :=
  .next (runOp 0x0E31 r s fun p s => ok p [] (s.setBoot { s.boot with rtc := some (fld p.params 0 4, s.now) }))

end Sys2Proof.Machine
end

