-- ==== Sys2Proof/Machine/Startup.lean ====
section
/-! DEFINITION. Resets and start-up (chapter 14): power domains on and off, what a reset leaves, the steps of Table 14.3, firmware
slots, the key bundle, and their opcodes. -/

namespace Sys2Proof.Machine

/-! ## Domains and their clocks (13 Tables 13.2 and 13.3) -/

/-- Power domain of each bit of CLK_LOCK, in the row order of Table 13.3. -/
def pllDomain : List Nat := [0, 1, 1, 1, 5, 5, 11, 11, 11, 12, 12, 12, 6, 7, 8, 9, 10, 2, 3, 3, 2, 2, 4, 2, 2]

/-- A clock runs while its domain is on; NV_SCK, bit 23, runs from CTRL or MGMT, and ETH_RXC, bit 2, with the sideband link. -/
def clockOn (s : State) (i : Nat) : Bool :=
  if i = 23 then domOn s 1 || domOn s 2
  else if i = 2 then domOn s 1 && s.kw.sbLink
  else domOn s (getI pllDomain i 0)

def settleClocks (s : State) : State := s.setPwr { s.pwr with pll := (List.range 25).map (clockOn s) }

/-- Switch a domain, and with it its clocks. -/
def setDom (code : Nat) (on : Bool) (s : State) : State :=
  settleClocks (s.setPwr { s.pwr with domains := upd s.pwr.domains code fun _ => on })

def setDoms (l : List Nat) (on : Bool) (s : State) : State :=
  match l with
  | [] => s
  | c :: r => setDoms r on (setDom c on s)

/-! ## What a unit reset leaves (14 R682, Table 14.8) -/

/-- The PTB logic is held through a reset of kind WARM; else the encoder inputs' settings alone remain, which the Keeper uses. -/
def resetPos (warm : Bool) (p : Position) : Position :=
  if warm then { p with pendingRp := p.pendingRp.filter fun r => match r.what with
      | .window _ _ _ | .preset _ _ | .encFilt _ _ | .ssi _ => true
      | _ => false }
  else { Position.reset with enc := p.enc.map fun e => { e with zper := 0, ztol := 0 } }

/-- The rings, tenants and host link are as after reset; the sideband's outstanding packets and reply cache go with MGMT. -/
def resetKw (cold : Bool) (k : Kwelo) : Kwelo :=
  { Kwelo.reset with
    numVfs := k.numVfs, nextOrder := k.nextOrder, hostLossRelease := k.hostLossRelease
    outstanding := if cold then [] else k.outstanding.filter fun p => p.principal == 64
    sbCache := if cold then [] else k.sbCache
    sbDropped := if cold then 0 else k.sbDropped
    sbAddr := k.sbAddr, sbPrefix := k.sbPrefix, sbAllow := k.sbAllow, sbLink := k.sbLink }

/-- The field side of a channel keeps its configuration, its safe-state causes and its supply; RESET is set, SAG ends with
the warning (10 R508; 14 R674). -/
def resetChan (c : DioChan) : DioChan :=
  { DioChan.reset with
    cfg := c.cfg, cfgLost := c.cfgLost, shorted := c.shorted, retired := c.retired, lastFrame := c.lastFrame
    framesSince := c.framesSince, supplySince := c.supplySince, causes := (c.causes &&& 0x1B) ||| 0x04 }

def resetFeed (f : Feed) : Feed :=
  { Feed.reset with closed := f.closed, tripped := f.tripped, tripAt := f.tripAt, retired := f.retired, unpowered := f.unpowered }

def resetDio (d : FieldIo) : FieldIo :=
  { FieldIo.reset with chan := d.chan.map resetChan, feed := d.feed.map resetFeed, fieldV := d.fieldV }

/-- The Keeper tail and the numbering of the log remain (12 R600, R601); upset histories end (R572). The fatal state ends through
SYS_RESET only (R586). -/
def resetFlt (f : Faults) : Faults :=
  { Faults.reset with
    thresh := f.thresh, nextSeq := f.nextSeq, keeper := f.keeper, unread := f.unread, unreadFatal := f.unreadFatal, fatal := f.fatal }

/-- Domains on after a reset: a WARM reset keeps the rails on, the others leave KEEP, and all but COLD leave MGMT. -/
def resetDomains (kind : Nat) (l : List Bool) : List Bool :=
  if kind = 3 then l else l.mapIdx fun c on => c == 0 || (c == 1 && kind != 1 && on)

def resetPwr (kind : Nat) (p : Power) : Power :=
  { Power.reset with
    domains := resetDomains kind p.domains, inOk := p.inOk, overV := p.overV, fans := p.fans, keeperLow := p.keeperLow, vin := p.vin
    vbus := p.vbus, sagAt := p.sagAt, temps := p.temps, rails := p.rails, mgmtRestart := p.mgmtRestart && kind != 1
    thermalDown := p.thermalDown, sagDown := p.sagDown }

def resetBoot (warm : Bool) (cause kind : Nat) (b : Boot) : Boot :=
  { b with
    step := 0, done := false, slot := 0, trial := false, cause := cause, kind := kind, skipped := 0
    anchor := if warm then b.anchor else 0, discont := warm && b.discont, waitZ := warm && b.waitZ }

/-- The reset itself. KIND is that of Table 14.7: 1 COLD, 2 POWER, 3 WARM. -/
def resetState (kind cause : Nat) (s : State) : State :=
  let warm := kind == 3
  settleClocks { s with
    pos := resetPos warm s.pos, led := { Ledger.reset with nextOrder := s.led.nextOrder }, kw := resetKw (kind == 1) s.kw
    lanes := Lanes.reset, pln := Planish.reset, fab := Fabric.reset, draw := Draw.reset, asy := Assay.reset, hm := Hallmark.reset
    dio := resetDio s.dio, rcp := Recipes.reset, flt := resetFlt s.flt, pwr := resetPwr kind s.pwr
    boot := resetBoot warm cause kind s.boot }

/-- The coupler of a channel gets no keepalive any more (10 R509). -/
def stopKeepalives (l : List Nat) (s : State) : State :=
  match l with
  | [] => s
  | n :: r =>
    stopKeepalives r (if (chanOf s n).keepalive then
      (modChan n (fun c => { c with keepalive := false }) s).emit (.stopKeepalive n) else s)

/-- From the end of the keepalives on: the Record write torn, the Keeper given the count where CTRL powers down, and everything
that Table 14.8 calls lost is lost (13 R609; 14 R666, R682). -/
def resetCore (kind cause : Nat) (s : State) : State :=
  let s1 := stopKeepalives allChans (tearWrites s)
  resetState kind cause (if kind ≠ 3 ∧ domOn s 2 then keeperHandover s1 else s1)

/-- The reset of SYS_RESET from its first effect on: cause RESET on every channel (10 R508); it ends the fatal state (12 R586). -/
def unitReset (kind cause : Nat) (s : State) : State :=
  let s1 := resetCore kind cause (causeReset s)
  s1.setFlt { s1.flt with fatal := false }

/-- A reset of kind POWER that a fault of class 0x0F causes, with its log entry; `how` is the low byte of DETECT (13 R621, R627,
R640). -/
def faultReset (how cause : Nat) (s : State) : State :=
  resetCore 2 cause (upset 0x0F 0 how false false 0 0 (causeReset s))

/-- The steps of Table 14.3 begin: step 1 runs in MGMT, with KEEP on before it (13 R608). -/
def beginStart (s : State) : State :=
  let s1 := setDom 1 true (setDom 0 true s)
  s1.setBoot { s1.boot with step := 1, stepAt := s1.now }

/-! ## Step 1: the Record is read and its fields take effect (14 R670 to R674) -/

/-- Retirements that the record holds. -/
def applyRetired (x : Rec) (s : State) : State :=
  let s1 := s.setLanes { s.lanes with lane := (s.lanes.lane.mapIdx fun l y =>
    if x.retLanes.contains l then { y with state := .retired } else y) }
  let s2 := s1.setDraw { s1.draw with chan := (s1.draw.chan.mapIdx fun i c => { c with retired := x.retDram.contains i }) }
  let s3 := s2.setDio { s2.dio with
    chan := (s2.dio.chan.mapIdx fun n c => { c with retired := x.retDio.contains n })
    feed := (s2.dio.feed.mapIdx fun k f => { f with retired := x.retFeeds.contains k }) }
  closeFeeds (List.range 16) id (s3.setFab { s3.fab with retiredStakes := x.retStakes })

/-- PTB registers of the record; a reset of kind WARM holds them. -/
def applyPtb (x : Rec) (s : State) : State :=
  if s.boot.kind = 3 then s
  else s.setPos { s.pos with
    scale := x.encScale
    enc := s.pos.enc.mapIdx fun i e =>
      let y := getI x.enc i EncCfg.reset
      { e with htl := y.htl, inv := y.inv, term := y.term, filtN := y.filtN }
    ssi := { s.pos.ssi with clk := x.ssi.clk, bits := x.ssi.bits, gray := x.ssi.gray, scale := x.ssi.scale, offset := x.ssi.offset } }

/-- Sideband fields: a new address takes effect at a reset of kind COLD (14 R673). -/
def applySideband (x : Rec) (s : State) : State :=
  if s.boot.kind = 1 then s.setKw { s.kw with sbAddr := x.sbAddr, sbPrefix := x.sbPrefix, sbAllow := x.sbAllow } else s

def applyRecord (s : State) : State :=
  let x := s.boot.draft
  let s1 := applySideband x (applyPtb x (applyRetired x s))
  let s2 := s1.setKw { s1.kw with hostLossRelease := x.hostLoss }
  (s2.setFlt { s2.flt with thresh := x.thresh }).setPwr { s2.pwr with sagTh := x.sagTh }

/-- PWR_HOLDUP: ms from the latest SAG_WARN to the latest sag reset (13 R631, Table 13.7). -/
def holdupMs (at_ : Option Nat × Option Nat) : Nat :=
  match at_ with
  | (some w, some r) => if w ≤ r then min 0xFFFE ((r - w) / msTicks 1) else 0xFFFF
  | _ => 0xFFFF

/-- A bank has fewer than 4 live sectors (14 R679). -/
def recallDegraded (s : State) : State :=
  s.setBoot { s.boot with degraded := liveSectors s 0 < 4 || liveSectors s 1 < 4 }

def stepRecord (s : State) : State :=
  let s1 := applyRecord (readRecord s)
  eraseAhead (recallDegraded (s1.setPwr { s1.pwr with holdup := holdupMs s1.pwr.sagAt }))

/-! ## Step 2: firmware slots (14 R656 to R660) -/

def fwOf (s : State) (i : Nat) : Firmware := getI s.boot.fw i { valid := false, version := 0, image := [] }

/-- What Table 14.4 answers: the slot, whether it is on trial, and the record to write, if any. -/
structure SlotChoice where
  slot : Nat
  trial : Bool
  record : Option Rec
deriving DecidableEq, Repr

/-- Slot selection; none where the slot a row names is invalid, which leaves the recovery firmware. -/
def chooseSlot (d : Rec) (valid : Nat → Bool) : Option SlotChoice :=
  let other := 1 - d.sel
  if !d.trial then
    if valid d.sel then some ⟨d.sel, false, none⟩
    else if valid other then some ⟨other, false, some { d with sel := other }⟩
    else none
  else if 0 < d.tries ∧ valid d.sel then some ⟨d.sel, true, some { d with tries := d.tries - 1 }⟩
  else if valid other then some ⟨other, false, some { d with sel := other, trial := false }⟩
  else none

/-- The recovery firmware starts (14 R660, R683). -/
def recovery (s : State) : State := s.setBoot { s.boot with slot := 2, trial := false, cause := 0x0A }

def stepFirmware (r : StepReport) (s : State) : State :=
  let valid (i : Nat) : Bool := (fwOf s i).valid && (if i = 0 then r.slotAValid else r.slotBValid)
  if !r.ok then recovery s
  else match chooseSlot s.boot.draft valid with
    | none => recovery s
    | some c =>
      let s1 := match c.record with
        | none => s
        | some d => romWrite 5 (s.setBoot { s.boot with draft := d })
      s1.setBoot { s1.boot with slot := c.slot, trial := c.trial }

/-! ## Step 3: anchoring (14 R666 to R668) -/

/-- JUMP: after every position the unit reached before the reset. -/
def anchorJump (s : State) : State :=
  let c := s.boot.hK + 2 ^ 26
  anchorAt c 0 (BitVec.ofInt 64 (16 * c)) 2 true s

/-- SSI: PTB and HWM at the position of the word read. -/
def anchorSsi (w : Word) (s : State) : State :=
  let q := ssiQuot s w
  let z := ((q.1 / (q.2 : Int)) % (2 ^ 64 : Int)).toNat
  anchorAt (z / 16) (z % 16) (BitVec.ofNat 64 z) 3 true s

/-- The first applicable row of Table 14.5. -/
def stepAnchor (r : StepReport) (s : State) : State :=
  let s1 := s.setBoot { s.boot with keeperOn := false }
  let d := s.boot.draft
  if s.boot.kind = 3 then s1
  else if s.boot.keeperValid ∧ !bit d.anchor 2 then
    anchorAt s.boot.cK 0 (BitVec.ofInt 64 (16 * s.boot.hK)) 1 false s1
  else match bits d.anchor 1 0 with
    | 1 => match r.ssiWord with
      | some w => anchorSsi w s1
      | none => s1
    | 2 => s1.setBoot { s1.boot with waitZ := true }
    | _ => anchorJump s1

/-! ## Steps 4 to 10 -/

/-- Step 4: the Keeper tail becomes the log; the hold-up time and a cutoff are checked (12 R597, R601; 13 R631, R641). -/
def stepLog (s : State) : State :=
  let s1 := s.setFlt { s.flt with log := s.flt.keeper }
  let s2 := if s.boot.cause = 5 ∧ s.pwr.holdup < 30 then equivLost (upsetEntry s1 0x0F 0 9 false) s1 else s1
  if s.boot.cutoff then
    let s3 := logFault (upsetEntry s2 0x0F 0 9 false) s2
    (s3.setFlt { s3.flt with unreadFatal := true }).setBoot { s3.boot with cutoff := false }
  else s2

def stepEach (f : Nat → State → State) (l : List Nat) (s : State) : State :=
  match l with
  | [] => s
  | n :: r => stepEach f r (f n s)

/-- A DRAM channel that fails its training is retired, whatever remains (14 Table 14.3, R653). -/
def failDram (ch : Nat) (s : State) : State :=
  if isRetired s 3 ch then s
  else noticeUnit 0x0702 (le1 ch) (logRetired 3 ch (wantRecord 2 (modDram ch (fun c => { c with retired := true }) s)))

def stepMem (r : StepReport) (s : State) : State :=
  let s1 := stepEach failDram (r.failed.filter (· < 4)) s
  if liveDram s1 < 2 then enterFatal 9 s1 else s1

/-- Step 6: keepalives run; a field side that lost its configuration has its reset values (14 R674). -/
def startCoupler (now : Nat) (c : DioChan) : DioChan :=
  { c with
    keepalive := true, lastFrame := now, framesSince := now, sampled := none, dueAt := none
    cfg := if c.cfgLost then dioCfgReset else c.cfg, cfgLost := false }

def stepField (r : StepReport) (s : State) : State :=
  let s1 := s.setDio { s.dio with chan := s.dio.chan.map (startCoupler s.now) }
  stepEach (fun n s => if isRetired s 4 n then s else retireChannel n s) (r.failed.filter (· < 32))
    (stepEach settleOut allChans s1)

/-- Step 7: the link is trained, or down under R176. -/
def stepHost (r : StepReport) (s : State) : State :=
  if r.hostUp && linkTrains r.link.1 r.link.2 then s.setKw { s.kw with linkUp := true, link := r.link } else linkLoss s

def stepFabric (r : StepReport) (s : State) : State :=
  stepEach (fun k s => if isRetired s 2 k then s else retireStake k s) (r.failed.filter (· < 256)) s

def stepLanes (r : StepReport) (s : State) : State :=
  let s1 := stepEach (fun l s => if isRetired s 1 l then s else retireLane l s) (r.failed.filter (· < 24)) s
  s1.setLed { s1.led with pstatic := r.pstatic % 65536 }

/-- Step 10: DONE, and BOOT_DONE (14 Table 14.10). -/
def stepDone (s : State) : State :=
  let s1 := s.setBoot { s.boot with done := true }
  let b := s1.boot
  noticeUnit 0x0E01 (le1 b.cause ++ le1 b.slot ++ le1 b.anchor ++ le1 (b2n b.discont) ++ le4 b.inForce.seq.toNat) s1

/-- What a step does by the time it ends. -/
def stepEffect (n : Nat) (r : StepReport) (s : State) : State :=
  match n with
  | 1 => stepRecord s
  | 2 => stepFirmware r s
  | 3 => stepAnchor r s
  | 4 => stepLog s
  | 5 => stepMem r s
  | 6 => stepField r s
  | 7 => stepHost r s
  | 8 => stepFabric r s
  | 9 => stepLanes r s
  | _ => stepDone s

/-- Domains that a step brings up as it begins (13 R608; 14 Table 14.3). -/
def stepDomains (n : Nat) : List Nat :=
  match n with
  | 2 => [2]
  | 5 => [3]
  | 6 => [4]
  | 7 => [5]
  | 8 => [6, 7]
  | 9 => [11, 12]
  | _ => []

/-- Domains that a step brings up 1 ms after one another: FABQ1 to FABQ3 (13 R608; 14 Table 14.3). -/
def stepLater (n : Nat) : List Nat := if n = 8 then [8, 9, 10] else []

/-- When the last of a step's domains comes up. -/
def stepUpAt (s : State) : Nat := s.boot.stepAt + msTicks (stepLater s.boot.step).length

/-- The step after `n`: the recovery firmware starts CTRL, MEM and HOST only, and never reaches step 10 (14 R660). -/
def nextStep (rec2 : Bool) (n : Nat) : Nat :=
  if !rec2 then n + 1 else if n = 5 then 7 else if 7 ≤ n then 11 else n + 1

/-- A step may end: its domains are up, every rail is within its warning threshold, and step 3 by the row SSI has the word read
(13 R608). -/
def stepReady (r : StepReport) (s : State) : Bool :=
  s.pwr.railWarn.isEmpty && decide (stepUpAt s ≤ s.now) &&
  !(s.boot.step == 3 && s.boot.kind != 3 && !(s.boot.keeperValid && !bit s.boot.draft.anchor 2) &&
    bits s.boot.draft.anchor 1 0 == 1 && r.ssiWord.isNone)

/-- A step ends, and the next begins. -/
def completeStep (r : StepReport) (s : State) : State :=
  let n := s.boot.step
  let s1 := stepEffect n r (setDoms (stepLater n) true s)
  if s1.flt.fatal then s1
  else
    let m := nextStep (s1.boot.slot == 2) n
    setDoms (stepDomains m) true (s1.setBoot { s1.boot with step := m, stepAt := s1.now })

/-- BOOT_STEP_COMPLETE. -/
def execBootStepComplete (r : StepReport) (t : Nat) (s : State) : Host.Outcome State Fault Refusal :=
  let s := s.at_ t
  .next (if 1 ≤ s.boot.step ∧ s.boot.step ≤ 10 ∧ !s.flt.fatal ∧ stepReady r s then completeStep r s else s)

/-- POWER_ON: VBUS has been at or above 19.2 V for 100 ms on a unit that is down (14 R652). Every supply was absent before where
MGMT is off. -/
def powerOn (mv : Nat) (s : State) : State :=
  let kind := if domOn s 1 then 2 else 1
  let s1 := (s.setPwr { s.pwr with vbus := mv % 65536 }).setBoot { s.boot with cause := 1, kind := kind }
  beginStart (s1.setKw { s1.kw with sbFence := 1, sbCache := if kind = 1 then [] else s1.kw.sbCache })

def execPowerOn (mv t : Nat) (s : State) : Host.Outcome State Fault Refusal :=
  let s := s.at_ t
  .next (
    if 19200 ≤ mv ∧ s.boot.step = 0 ∧ !domOn s 2 ∧ s.pwr.thermalDown = 0 ∧ !s.pwr.sagDown then powerOn mv s else s)

/-! ## The boot opcodes (15 Table 15.16) -/

/-- BOOT_STATUS (14 Table 14.9). -/
def bootStatus (s : State) : Nat :=
  let b := s.boot
  b.slot % 4 + 4 * b2n b.trial + 8 * b2n b.done + 16 * (b.anchor % 8) + 128 * b2n b.discont + 256 * b2n b.rtc.isSome +
    65536 * (b.cause % 256)

/-- REC_PAGES24. -/
def recPages24 (s : State) : Nat := (pages24 s).length

def fwVersion (s : State) (i : Nat) : Nat := if (fwOf s i).valid then (fwOf s i).version else 0

def execBootStatus (r : Ref) (s : State) : Host.Outcome State Fault Refusal :=
  .next (runOp 0x0E02 r s fun p s =>
    ok p (le4 (bootStatus s) ++ le4 s.boot.inForce.seq.toNat ++ le4 (recPages24 s) ++ le4 s.pwr.holdup ++ le4 (fwVersion s 0) ++
      le4 (fwVersion s 1)) s)

/-- The slot that is not running; in the recovery firmware, the one SEL does not name (15 R714). -/
def idleSlot (s : State) : Nat := if s.boot.slot = 2 then 1 - s.boot.draft.sel else 1 - s.boot.slot

/-- A well-formed image whose body digest and signature verify (14 R656, R657). -/
def imageOk (key b : Bytes) : Bool :=
  let h := b.take 0xC0
  let body := (b.drop 0x100).take (fld b 0x0C 4)
  h.take 4 == [0x56, 0x32, 0x34, 0x46] && fld b 4 2 == 1 && fld b 6 2 == 0 && allZero ((b.drop 0x10).take 12) &&
    allZero ((b.drop 0x3C).take 132) && decide (256 + fld b 0x0C 4 ≤ b.length) && decide (256 + fld b 0x0C 4 ≤ 2 ^ 23) &&
    (b.drop 0x1C).take 32 == sha256 body && edVerify key (sha256 h) ((b.drop 0xC0).take 64)

/-- The bytes of an object that a packet names at 0x20, for a firmware image PINNED, in INGOT and tenant 0's (14 R659); `poisoned` says
that they were delivered poisoned (07 R387, R389). -/
def objectBytes (p : Packet) (pinned poisoned : Bool) (s : State) : Sum (Half × Nat) Bytes :=
  match objOf s (fld p.params 0 4) with
  | none => .inl (stBAD_PARAM, 0x20)
  | some o =>
    if pinned && !(o.pinned && o.tier == .ingot && o.tenant == 0) then .inl (stBAD_PARAM, 0x20)
    else match objPlace s p.tenant o.handle 0 o.size false with
      | .inl st => .inl (st, if st = stRETIRED then noField else 0x20)
      | .inr q => if poisoned || (poisonAt s q o.size).isSome then .inl (stINTERNAL, noField) else .inr (readPlace s q o.size)

/-- BOOT_SLOT_WRITE. -/
def execBootSlotWrite (r : LoadRef) (s : State) : Host.Outcome State Fault Refusal :=
  .next (runOp 0x0E20 r.ref s fun p s =>
    match objectBytes p true r.poisoned s with
    | .inl (st, off) => refuse p st off s
    | .inr b =>
      if !imageOk s.boot.otpFw b then refuse p stBAD_PARAM 0x20 s
      else
        let image := b.take (256 + fld b 0x0C 4)
        let f : Firmware := { valid := true, version := fld b 8 4, image := image }
        ok p [] (s.setBoot { s.boot with fw := upd s.boot.fw (idleSlot s) fun _ => f }))

/-- BOOT_SLOT_SELECT. -/
def execBootSlotSelect (r : Ref) (s : State) : Host.Outcome State Fault Refusal :=
  .next (runOp 0x0E21 r s fun p s =>
    if !(fwOf s (idleSlot s)).valid then refuse p stBAD_PARAM noField s
    else
      let d := { s.boot.draft with sel := idleSlot s, trial := true, tries := 3 }
      ok p [] (wantRecord 5 (s.setBoot { s.boot with draft := d })))

/-- BOOT_SLOT_CONFIRM. -/
def execBootSlotConfirm (r : Ref) (s : State) : Host.Outcome State Fault Refusal :=
  .next (runOp 0x0E22 r s fun p s =>
    if !s.boot.trial then refuse p stDENIED noField s
    else ok p [] (wantRecord 5 (s.setBoot { s.boot with trial := false, draft := { s.boot.draft with trial := false } })))

/-- A key bundle as its bytes lay it out (14 R661). -/
def bundleOf (b : Bytes) : Bundle :=
  { seq := BitVec.ofNat 32 (fld b 0 4)
    entries := (List.range (fld b 4 2)).map fun i =>
      { keyId := BitVec.ofNat 64 (fld b (6 + 48 * i) 8), usage := fld b (14 + 48 * i) 1, key := (b.drop (22 + 48 * i)).take 32 } }

/-- At most 16 entries, and a signature that verifies. -/
def bundleOk (key b : Bytes) : Bool :=
  let n := 6 + 48 * fld b 4 2
  decide (fld b 4 2 ≤ 16) && decide (n + 64 ≤ b.length) &&
    edVerify key (if Config.bundleHashed then sha256 (b.take n) else b.take n) ((b.drop n).take 64)

/-- The copy that is not in force: copy 0 where there is none. -/
def olderCopy (s : State) : Nat :=
  match getI s.boot.keys 0 none, getI s.boot.keys 1 none with
  | none, _ => 0
  | some _, none => 1
  | some a, some b => if seqAfter b.seq a.seq then 0 else 1

/-- BOOT_KEYS_LOAD. -/
def execBootKeysLoad (r : LoadRef) (s : State) : Host.Outcome State Fault Refusal :=
  .next (runOp 0x0E30 r.ref s fun p s =>
    match objectBytes p false r.poisoned s with
    | .inl (st, off) => refuse p st off s
    | .inr b =>
      let x := bundleOf b
      if !bundleOk s.boot.otpBundle b || (bundleInForce s).any (fun y => !seqAfter x.seq y.seq) then refuse p stBAD_PARAM 0x20 s
      else ok p [] (s.setBoot { s.boot with keys := upd s.boot.keys (olderCopy s) fun _ => some x }))

end Sys2Proof.Machine
end

