-- ==== Sys2Proof/Machine/Power.lean ====
section
/-! DEFINITION. Power domains, supplies, rails and heat (chapter 13), and the power and thermal group's opcodes. -/

namespace Sys2Proof.Machine

/-! ## Registers (13 Table 13.7) -/

/-- PWR_STATUS. -/
def pwrStatus (s : State) : Nat :=
  let p := s.pwr
  b2n p.sag + 2 * b2n (!p.railWarn.isEmpty) + 4 * b2n (getI p.inOk 0 false) + 8 * b2n (getI p.inOk 1 false) + 16 * b2n p.therm +
    32 * b2n (throttled s) + 64 * b2n (!p.fanFailed.isEmpty) + 128 * b2n p.keeperLow +
    256 * maskOf ((List.range 13).filter fun c => domOn s c)

def pwrVin (s : State) : Nat := getI s.pwr.vin 0 0 + 65536 * getI s.pwr.vin 1 0

/-- PWR_AVSq. -/
def pwrAvs (s : State) (q : Nat) : Nat := getI s.pwr.avs q 0 + 65536 * getI s.pwr.vmin q 0

/-- PWR_AVS_PIN. -/
def avsPinReg (s : State) : Nat := maskOf ((List.range 4).filter fun q => getI s.pwr.avsPin q false)

/-- CLK_FQ. -/
def clkFq (s : State) : Nat := ((List.range 4).map fun q => getI s.pwr.throttle q 0 * 4 ^ q).sum

/-- CLK_LOCK. -/
def clkLock (s : State) : Nat := maskOf ((List.range 25).filter fun i => getI s.pwr.pll i false)

/-- PWR_STATUS opcode (15 Table 15.15). -/
def execPwrStatus (r : Ref) (s : State) : Host.Outcome State Fault Refusal :=
  .next (runOp 0x0D01 r s fun p s =>
    ok p (le4 (pwrStatus s) ++ le4 (pwrVin s) ++ le4 s.pwr.vbus ++ le4 s.pwr.sagTh ++ le4 s.pwr.holdup ++ s.pwr.rails.flatMap le2) s)

/-- THERM_STATUS: a 16-bit register fills the low half of its 4 bytes (15 R691). -/
def execThermStatus (r : Ref) (s : State) : Host.Outcome State Fault Refusal :=
  .next (runOp 0x0D02 r s fun p s =>
    ok p (s.pwr.temps.flatMap (fun v => leInt 2 v ++ [0, 0]) ++ (List.range 4).flatMap (fun q => le4 (pwrAvs s q)) ++
      le4 (avsPinReg s) ++ le4 (clkFq s) ++ s.pwr.fans.flatMap le2) s)

/-! ## Domains (13 R610 to R613) -/

/-- Lanes that feed a view, or the source channel of a tap. -/
def viewLanes (s : State) (v : Nat) : List Nat := (viewChans s v).flatMap fun c => lanesTo s (sourceOf s c)

/-- Views and channels that an admission names, as their lanes. -/
def admLanes (s : State) (a : Admission) : List Nat :=
  match a.kind with
  | .recipe => match findRecipe s a.handle with
    | some r => (viewsOf r.image).flatMap (viewLanes s)
    | none => []
  | .tap => match s.pln.taps.find? fun t => t.handle == a.handle with
    | some t => if t.point < 3 then lanesTo s (sourceOf s t.source) else viewLanes s t.source
    | none => []
  | .capture => viewLanes s a.object
  | _ => []

/-- Output channels that an admission names. -/
def admOutputs (s : State) (a : Admission) : List Nat :=
  match a.kind with
  | .recipe => match findRecipe s a.handle with
    | some r => (r.image.actions.map (·.channel)).filter (· < 32)
    | none => []
  | .actuation => [a.object]
  | _ => []

/-- The admission names a bench. -/
def namesBench (a : Admission) : Bool := a.kind == .bench || a.kind == .epoch || a.kind == .shadow

/-- A domain is used by an admission (13 R612). -/
def usesDomain (s : State) (code : Nat) (a : Admission) : Bool :=
  if code = 4 then !(admOutputs s a).isEmpty
  else if code = 6 then a.kind == .recipe || a.kind == .tap
  else if 7 ≤ code ∧ code ≤ 10 then namesBench a && (quadsOf (benchOf s a.object).groups).contains (code - 7)
  else if code = 11 ∨ code = 12 then (admLanes s a).any fun l => laneDomain l == code
  else false

/-- Parents of a domain (13 Table 13.2). -/
def domParents (code : Nat) : List Nat := if 6 ≤ code ∧ code ≤ 10 then [2, 3] else [2]

/-- What PLANISH had in work is gone with its power. -/
def dropPipeline (s : State) : State :=
  s.setPln { s.pln with
    chan := (s.pln.chan.map fun c => { c with slots := [], lines := [], history := [], temporal := [], runs := [] })
    view := s.pln.view.map clearRow }

/-- What follows a domain's switching off (13 R613). -/
def domainOff (code : Nat) (s : State) : State :=
  let s1 := setDom code false s
  if code = 4 then stopKeepalives allChans s1
  else if code = 5 then (if s.kw.linkUp then linkLoss s1 else s1)
  else if code = 6 then dropPipeline s1
  else if code = 11 ∨ code = 12 then domainOffLanes ((List.range 24).filter fun l => laneDomain l == code) s1
  else s1

/-- What follows a domain's switching on: couplers run again (14 R674). -/
def domainOn (code : Nat) (s : State) : State :=
  let s1 := setDom code true s
  if code = 4 then s1.setDio { s1.dio with chan := s1.dio.chan.map (startCoupler s1.now) } else s1

def noticeDomain (code : Nat) (on : Bool) (released : Nat) (s : State) : State :=
  noticeUnit 0x0D0A (le1 code ++ le1 (b2n on) ++ le2 released) s

/-- Switch a domain off after releasing what uses it; the packet has committed. -/
def switchDomainOff (code : Nat) (p : Packet) (s : State) : State :=
  let s1 := pruneRecipes (releaseWhere (usesDomain s code) (commitP p.ref s))
  let n := s.led.held.length - s1.led.held.length
  let s2 := noticeDomain code false n (domainOff code s1)
  match findP p.ref s2 with
  | some q => doneLater q stOK (le2 n ++ le2 0) s2
  | none => s2

/-- PWR_DOMAIN. -/
def execPwrDomain (r : Ref) (s : State) : Host.Outcome State Fault Refusal :=
  .next (runOp 0x0D10 r s fun p s =>
    let code := fld p.params 0 1
    let on := fld p.params 1 1
    if code < 4 ∨ 12 < code then refuse p stBAD_PARAM 0x20 s
    else if 1 < on then refuse p stBAD_PARAM 0x21 s
    else if on = 1 then
      if !(domParents code).all (domOn s) then refuse p stDENIED noField s
      else if domOn s code then ok p (le2 0 ++ le2 0) s
      else ok p (le2 0 ++ le2 0) (noticeDomain code true 0 (domainOn code s))
    else if !domOn s code then ok p (le2 0 ++ le2 0) s
    else if !bit (fld p.params 2 1) 0 ∧ s.led.held.any (usesDomain s code) then refuse p stDENIED noField s
    else switchDomainOff code p s)

/-! ## The main supply (13 R622 to R632) -/

def setVbus (mv : Nat) (s : State) : State := s.setPwr { s.pwr with vbus := mv % 65536 }

/-- The channels of DIO_GLOBAL.SAG_SAFE. -/
def sagSafe (s : State) : State := if s.dio.sagSafe then setCause 5 true allChans s else s

/-- Steps 2 to 4 of R624, and the end of what they make unneeded. -/
def supplyResponse (cause : Nat) (s : State) : State := pruneRecipes (closeWrites (sagSafe (onSupplyWarning cause s)))

/-- SAG_WARN (13 R624, R631). -/
def sagWarn (s : State) : State :=
  let s1 := s.setPwr { s.pwr with sag := true, sagAt := (some s.now, s.pwr.sagAt.2) }
  supplyResponse cSAG (noticeUnit 0x0D02 (le2 s.pwr.vbus) s1)

def execSagWarn (mv t : Nat) (s : State) : Host.Outcome State Fault Refusal :=
  let s := s.at_ t
  .next (if domOn s 2 ∧ !s.pwr.sag ∧ mv < s.pwr.sagTh then sagWarn (setVbus mv s) else s)

/-- A warning has ended: cause SAG is cleared, Record writes go on and SUPPLY is back, where none is left (02 R118; 13 R625,
R626). -/
def supplyCleared (s : State) : State :=
  if supplyWarned s then s else noticeCapacity 10 0 (openWrites (pruneRecipes (setCause 5 false allChans s)))

/-- SAG_CLEAR: VBUS has been at PWR_SAG_TH + 0.5 V for 10 ms (13 R626). -/
def execSagClear (mv t : Nat) (s : State) : Host.Outcome State Fault Refusal :=
  let s := s.at_ t
  .next (
    if s.pwr.sag ∧ s.pwr.sagTh + 500 ≤ mv then
      let s1 := setVbus mv (s.setPwr { s.pwr with sag := false })
      supplyCleared (noticeUnit 0x0D03 (le2 s1.pwr.vbus) s1)
    else s)

/-- The unit is powered and may be reset by a monitor. -/
def poweredUp (s : State) : Bool := domOn s 2

def heldDown (s : State) : State := s.setPwr { s.pwr with sagDown := true }

/-- SAG_RESET (13 R627, R631). -/
def execSagReset (mv t : Nat) (s : State) : Host.Outcome State Fault Refusal :=
  let s := s.at_ t
  .next (
    if poweredUp s ∧ mv < 16800 then
      let s1 := setVbus mv s
      heldDown (faultReset 9 5 (s1.setPwr { s1.pwr with sagAt := (s1.pwr.sagAt.1, some s1.now) }))
    else s)

/-- SAG_POWER_UP: VBUS has been at or above 19.2 V for 100 ms (13 R628). -/
def execSagPowerUp (mv t : Nat) (s : State) : Host.Outcome State Fault Refusal :=
  let s := s.at_ t
  .next (
    if s.pwr.sagDown ∧ 19200 ≤ mv then
      let s1 := setVbus mv s
      beginStart (s1.setPwr { s1.pwr with sagDown := false })
    else s)

/-- PWR_SAG_SET: a threshold above VBUS warns at once (13 R647). -/
def execPwrSagSet (r : Ref) (s : State) : Host.Outcome State Fault Refusal :=
  .next (runOp 0x0D20 r s fun p s =>
    let th := fld p.params 0 2
    if th < 17500 ∨ 22000 < th ∨ th % 100 ≠ 0 then refuse p stBAD_PARAM 0x20 s
    else
      let s1 := ok p [] (wantRecord 4 (s.setPwr { s.pwr with sagTh := th }))
      if domOn s1 2 ∧ !s1.pwr.sag ∧ s1.pwr.vbus < th then sagWarn s1 else s1)

/-! ## The inputs (00 R18, R19; 13 R623) -/

/-- The higher of the inputs in range, whose ideal diode conducts (00 R18); 0 where neither is. -/
def inputInUse (p : Power) : Nat := (List.range 2).foldl (fun m x => if getI p.inOk x false then max m (getI p.vin x 0) else m) 0

/-- VBUS follows the input in use; without one the hold-up store carries it (00 R18; 13 R622). -/
def settleVbus (s : State) : State := if inputInUse s.pwr = 0 then s else s.setPwr { s.pwr with vbus := inputInUse s.pwr }

def setVin (x mv : Nat) (good over_ : Bool) (s : State) : State :=
  settleVbus (s.setPwr { s.pwr with
    vin := upd s.pwr.vin x fun _ => mv % 65536, inOk := upd s.pwr.inOk x fun _ => good, overV := upd s.pwr.overV x fun _ => over_ })

/-- An input goes out of range; SUPPLY_LOST where the other remains in range. -/
def inputLost (x mv : Nat) (over_ : Bool) (s : State) : State :=
  let s1 := setVin x mv false over_ s
  if getI s.pwr.inOk x false && getI s.pwr.inOk (1 - x) false && domOn s 2 then noticeUnit 0x0D01 (le1 x) s1 else s1

/-- SUPPLY_LOST. -/
def execSupplyLost (x mv : Nat) (s : State) : Host.Outcome State Fault Refusal :=
  .next (if x < 2 ∧ mv < 19200 then inputLost x mv (getI s.pwr.overV x false) s else s)

/-- INPUT_OVERVOLTAGE: above 30 V the input is disconnected. -/
def execInputOvervoltage (x mv : Nat) (s : State) : Host.Outcome State Fault Refusal :=
  .next (if x < 2 ∧ 30000 < mv then inputLost x mv true s else s)

/-- SUPPLY_RESTORED: back in range; for an input disconnected, since 100 ms. -/
def execSupplyRestored (x mv : Nat) (s : State) : Host.Outcome State Fault Refusal :=
  .next (if x < 2 ∧ 19200 ≤ mv ∧ mv ≤ 30000 then setVin x mv true false s else s)

/-! ## Throttling (13 R638, R639) -/

def noticeThrottle (q : Nat) (s : State) : State :=
  let s1 := s.setPwr { s.pwr with throttles := s.pwr.throttles + 1 }
  noticeUnit 0x0D08 (le1 q ++ le1 (getI s.pwr.throttle q 0) ++ leInt 2 (getI s.pwr.temps q 0)) s1

/-- The clock of a quadrant changes: cycles counted so far keep the old frequency (06 R321). -/
def setThrottle (q : Nat) (f : Nat → Nat) (s : State) : State :=
  let s1 := settleCycles s
  s1.setPwr { s1.pwr with throttle := upd s1.pwr.throttle q f }

/-- A step down: the Ledger first, at the new frequency, with cause THROTTLE. -/
def throttleDown (q : Nat) (s : State) : State :=
  if getI s.pwr.throttle q 0 < 3 then
    pruneRecipes (noticeThrottle q (onCapacityChange cTHROTTLE (setThrottle q (· + 1) s)))
  else s

def noticeFaster (old : State) (l : List Nat) (s : State) : State :=
  match l with
  | [] => s
  | b :: r =>
    noticeFaster old r (if benchHz old (benchOf old b) < benchHz s (benchOf s b) then noticeBenchCapacity b s else s)

/-- A step up: the clock first, then LEDGER_CAPACITY; at full speed the set point is back within its bounds (13 R646). -/
def throttleUp (q : Nat) (s : State) : State :=
  if 0 < getI s.pwr.throttle q 0 then
    let s1 := setThrottle q (· - 1) s
    let s2 := if getI s1.pwr.throttle q 0 = 0 then
        s1.setPwr { s1.pwr with avs := upd s1.pwr.avs q fun v => max v (getI s1.pwr.vmin q 650) }
      else s1
    noticeFaster s (List.range 16) (noticeThrottle q (refreshDemands (vEff s.led.vadm) s2))
  else s

/-- THERM_THROTTLE. -/
def execThermThrottle (q : Nat) (up : Bool) (temp : Int) (t : Nat) (s : State) : Host.Outcome State Fault Refusal :=
  let s := s.at_ t
  let s1 := s.setPwr { s.pwr with temps := upd s.pwr.temps q fun _ => temp }
  .next (
    if !(decide (q < 4) && domOn s 2) then s
    else if up ∧ temp ≤ 1000 then throttleUp q s1
    else if !up ∧ 1050 ≤ temp then throttleDown q s1
    else s)

/-! ## Rails (13 R633 to R635, Table 13.4) -/

/-- A rail: nominal, warning and reset thresholds in mV, and the domain whose power brings it up. -/
structure Rail where
  nominal : Nat
  warn : Nat
  reset : Nat
  domain : Nat
deriving DecidableEq, Repr

/-- Rails 0x01, 0x06 to 0x0C; VFQ0 to VFQ3 follow their set points. -/
def fixedRails : List (Nat × Rail) :=
  [(1, ⟨12000, 11400, 10800, 2⟩), (6, ⟨750, 710, 680, 2⟩), (7, ⟨1050, 1000, 960, 3⟩), (8, ⟨500, 475, 455, 3⟩),
    (9, ⟨900, 855, 810, 2⟩), (10, ⟨1800, 1710, 1620, 2⟩), (11, ⟨3300, 3140, 2970, 2⟩), (12, ⟨3300, 3140, 2970, 1⟩)]

/-- Quadrant of VFQ0 to VFQ3. -/
def railQuad (id : Nat) : Option Nat := if 2 ≤ id ∧ id ≤ 5 then some (id - 2) else none

def railRow (id : Nat) : Option Rail := (fixedRails.find? fun e => e.1 == id).map (·.2)

/-- Below a fraction of the set point, in per cent. -/
def belowPoint (s : State) (q pct mv : Nat) : Bool := decide (mv * 100 < getI s.pwr.avs q 0 * pct)

/-- The rail's domain is on, and its voltage lies below the threshold that `pick` or, for a set point, `pct` gives. -/
def railBelow (s : State) (id mv pct : Nat) (pick : Rail → Nat) : Bool :=
  match railQuad id, railRow id with
  | some q, _ => domOn s (7 + q) && belowPoint s q pct mv
  | none, some r => domOn s r.domain && decide (mv < pick r)
  | none, none => false

/-- At or above the warning threshold plus 2 % of nominal. -/
def railBack (s : State) (id mv : Nat) : Bool :=
  match railQuad id, railRow id with
  | some q, _ => !belowPoint s q 96 mv
  | none, some r => decide (r.warn + r.nominal / 50 ≤ mv)
  | none, none => false

def setRail (id mv : Nat) (s : State) : State := s.setPwr { s.pwr with rails := upd s.pwr.rails (id - 1) fun _ => mv % 65536 }

/-- RAIL_WARN; on VFQq the quadrant throttles by one level too. -/
def railWarn (id : Nat) (s : State) : State :=
  let s1 := supplyResponse cRAIL (noticeUnit 0x0D04 (le1 id) (s.setPwr { s.pwr with railWarn := s.pwr.railWarn ++ [id] }))
  match railQuad id with
  | some q => throttleDown q s1
  | none => s1

def execRailWarn (id mv t : Nat) (s : State) : Host.Outcome State Fault Refusal :=
  let s := s.at_ t
  .next (if !s.pwr.railWarn.contains id ∧ railBelow s id mv 94 (·.warn) then railWarn id (setRail id mv s) else s)

/-- RAIL_CLEAR (13 R634). -/
def execRailClear (id mv t : Nat) (s : State) : Host.Outcome State Fault Refusal :=
  let s := s.at_ t
  .next (
    if s.pwr.railWarn.contains id ∧ railBack s id mv then
      let s1 := setRail id mv (s.setPwr { s.pwr with railWarn := s.pwr.railWarn.filter (· != id) })
      supplyCleared (noticeUnit 0x0D07 (le1 id) s1)
    else s)

/-- A rail's reset: VMGMT restarts the management controller alone. -/
def railReset (id : Nat) (s : State) : State :=
  if id = 12 then upset 0x0F 0 9 false false 0 0 (s.setPwr { s.pwr with mgmtRestart := true })
  else heldDown (faultReset 9 6 s)

/-- RAIL_RESET. -/
def execRailReset (id mv t : Nat) (s : State) : Host.Outcome State Fault Refusal :=
  let s := s.at_ t
  .next (if railBelow s id mv 90 (·.reset) then railReset id (setRail id mv s) else s)

/-! ## Clocks (13 R621) -/

/-- PLL_LOSS: ETH_RXC, bit 2, only reads unlocked. -/
def execPllLoss (i t : Nat) (s : State) : Host.Outcome State Fault Refusal :=
  let s := s.at_ t
  .next (
    if !getI s.pwr.pll i false then s
    else if i = 2 then s.setPwr { s.pwr with pll := upd s.pwr.pll 2 fun _ => false }
    else if poweredUp s then beginStart (faultReset 6 7 s)
    else s)

/-! ## Heat (13 R636 to R643) -/

/-- Highest die sensor; T_INLET, the eighth, is none. -/
def junction (temps : List Int) : Int := ((List.range 7).map fun i => getI temps i 0).foldl max (getI temps 0 0)

def setTemps (temps : List Int) (s : State) : State :=
  s.setPwr { s.pwr with temps := (List.range 8).map fun i => getI temps i 0 }

/-- THERM_WARN: THERMAL is frozen at the amount committed (02 Table 2.3). -/
def execThermWarn (temps : List Int) (t : Nat) (s : State) : Host.Outcome State Fault Refusal :=
  let s := s.at_ t
  .next (
    if domOn s 2 ∧ !s.pwr.therm ∧ 1000 ≤ junction temps then
      let s1 := setTemps temps (s.setPwr { s.pwr with therm := true })
      noticeUnit 0x0D05 (leInt 2 (junction temps)) (s1.setLed { s1.led with thermFreeze := some (used s1.led.held 8 0) })
    else s)

/-- THERM_CLEAR: every die sensor at or below 97.0 degrees C for 1 s. -/
def execThermClear (temps : List Int) (t : Nat) (s : State) : Host.Outcome State Fault Refusal :=
  let s := s.at_ t
  .next (
    if s.pwr.therm ∧ junction temps ≤ 970 then
      let s1 := setTemps temps (s.setPwr { s.pwr with therm := false })
      noticeCapacity 8 0 (noticeUnit 0x0D06 (leInt 2 (junction temps)) (s1.setLed { s1.led with thermFreeze := none }))
    else s)

/-- The FAULT indicator shows a shutdown (00 Table 0.4). -/
def shutDown (code : Nat) (s : State) : State :=
  (s.setPwr { s.pwr with thermalDown := code }).setFlt { s.flt with unreadFatal := true }

/-- THERMAL_SHUTDOWN (13 R640, R642). -/
def execThermalShutdown (temps : List Int) (t : Nat) (s : State) : Host.Outcome State Fault Refusal :=
  let s := s.at_ t
  .next (if poweredUp s ∧ 1150 ≤ junction temps then shutDown 8 (faultReset 9 8 (setTemps temps s)) else s)

/-- THERMAL_CUTOFF: power is cut at once; the Keeper records it (13 R641). -/
def execThermalCutoff (temps : List Int) (t : Nat) (s : State) : Host.Outcome State Fault Refusal :=
  let s := s.at_ t
  .next (
    if poweredUp s ∧ 1250 ≤ junction temps then
      let s1 := resetCore 2 9 (setTemps temps s)
      (s1.setPwr { s1.pwr with thermalDown := 9 }).setBoot { s1.boot with cutoff := true }
    else s)

/-- The other fans run at full speed (13 R643). -/
def fansFull (fan : Nat) (s : State) : State :=
  ((List.range 4).filter fun k => k != fan && !s.pwr.fanFailed.contains k).foldl (fun s k => s.emit (.fanFull k)) s

/-- FAN_FAIL (13 R643). -/
def execFanFail (fan rpm : Nat) (s : State) : Host.Outcome State Fault Refusal :=
  let s1 := s.setPwr { s.pwr with fans := upd s.pwr.fans fan fun _ => rpm % 65536 }
  .next (
    if 3 < fan then s
    else if s.pwr.fanFailed.contains fan then s1
    else fansFull fan (noticeUnit 0x0D09 (le1 fan) (s1.setPwr { s1.pwr with fanFailed := s1.pwr.fanFailed ++ [fan] })))

/-! ## Adaptive voltage scaling (13 R644 to R646) -/

/-- PWR_AVS_BOUNDS. -/
def execPwrAvsBounds (r : Ref) (s : State) : Host.Outcome State Fault Refusal :=
  .next (runOp 0x0D21 r s fun p s =>
    let q := fld p.params 0 1
    let lo := fld p.params 2 2
    let hi := fld p.params 4 2
    if 3 < q then refuse p stBAD_PARAM 0x20 s
    else if lo < 600 ∨ 900 < lo ∨ hi < lo then refuse p stBAD_PARAM 0x22 s
    else if 900 < hi then refuse p stBAD_PARAM 0x24 s
    else ok p [] (s.setPwr { s.pwr with
      vmin := upd s.pwr.vmin q fun _ => lo, vmax := upd s.pwr.vmax q fun _ => hi, avs := upd s.pwr.avs q (clampN lo hi) }))

/-- The lowest set point allowed now: a throttled quadrant may go below VMIN. -/
def avsFloor (s : State) (q : Nat) : Nat := if getI s.pwr.throttle q 0 = 0 then getI s.pwr.vmin q 650 else 600

/-- LOOP_PINNED, at most once per second. -/
def noticePinned (q : Nat) (upper : Bool) (s : State) : State :=
  if quiet (getI s.pwr.avsNotice q none) (sTicks 1) s.now then
    noticeUnit 0x0C01 (le2 (0x0D00 + q) ++ le1 (b2n upper)) (s.setPwr { s.pwr with avsNotice := upd s.pwr.avsNotice q fun _ => some s.now })
  else s

/-- One adaptation of a set point. -/
def adapt (q : Nat) (proposed : Int) (critical : Bool) (s : State) : State :=
  let lo := avsFloor s q
  let hi := getI s.pwr.vmax q 850
  let v := (clampI lo hi proposed).toNat
  let pinned := decide (proposed < lo) || decide ((hi : Int) < proposed)
  let s1 := s.setPwr { s.pwr with avs := upd s.pwr.avs q fun _ => v, avsPin := upd s.pwr.avsPin q fun _ => pinned }
  let s2 := if pinned then noticePinned q (decide ((hi : Int) < proposed)) s1 else s1
  if critical ∧ v = hi then throttleDown q s2 else s2

/-- AVS_ADAPTATION. -/
def execAvsAdaptation (q : Nat) (proposed : Int) (critical : Bool) (t : Nat) (s : State) : Host.Outcome State Fault Refusal :=
  let s := s.at_ t
  .next (if q < 4 ∧ domOn s (7 + q) then adapt q proposed critical s else s)

/-! ## The management controller's supply (13 R614) -/

/-- The two main inputs and the two field supplies as measured, in that order. -/
def setInputs (l : List Nat) (s : State) : State :=
  fieldSupply 1 (getI l 3 0) (fieldSupply 0 (getI l 2 0)
    (s.setPwr { s.pwr with vin := [getI l 0 0 % 65536, getI l 1 0 % 65536], inOk := [false, false] }))

/-- MGMT loses its power: what the sideband had is gone; with CTRL down too, only the Keeper is left. -/
def mgmtDown (s : State) : State :=
  let s1 := setDom 1 false (s.setKw { s.kw with
    sbLink := false, sbCache := [], sbDropped := 0, outstanding := s.kw.outstanding.filter fun p => p.principal != 64 })
  let s2 := s1.setPwr { s1.pwr with mgmtRestart := false }
  if domOn s 2 then s2
  else settleFields ((s2.setPwr { s2.pwr with sagDown := false }).setBoot { s2.boot with step := 0 })

/-- MGMT_SUPPLY_LOSS: all four inputs are below 9 V. -/
def execMgmtSupplyLoss (inputs : List Nat) (s : State) : Host.Outcome State Fault Refusal :=
  .next (
    if domOn s 1 ∧ (List.range 4).all (fun i => getI inputs i 0 < 9000) then mgmtDown (setInputs inputs s) else s)

/-- One of the four inputs as measured. -/
def setInput (x mv : Nat) (s : State) : State :=
  if x < 2 then s.setPwr { s.pwr with vin := upd s.pwr.vin x fun _ => mv % 65536 }
  else fieldSupply (x - 2) mv s

/-- MGMT_SUPPLY_RETURN: it starts from its ROM, and with CTRL down reads the Record. -/
def execMgmtSupplyReturn (x mv : Nat) (s : State) : Host.Outcome State Fault Refusal :=
  .next (
    if domOn s 1 ∨ 3 < x ∨ mv < 9000 then s
    else
      let s1 := setDom 1 true (setDom 0 true (setInput x mv s))
      if domOn s 2 then s1 else stepRecord (s1.setBoot { s1.boot with kind := 1 }))

/-- SIDEBAND_LINK. -/
def execSidebandLink (up : Bool) (s : State) : Host.Outcome State Fault Refusal :=
  .next (if up && !domOn s 1 then s else settleClocks (s.setKw { s.kw with sbLink := up }))

end Sys2Proof.Machine
end

