-- ==== Sys2Proof/Machine/System.lean ====
section
/-! DEFINITION. SYS_STATUS and the front-panel indicators (00 Table 0.4, 15 Table 15.3), SYS_RESET (03 R175, 14 R681), and
LEDG_RELEASE (15 R703). -/

namespace Sys2Proof.Machine

/-! ## Indicators: 0 off, 1 green, 2 amber, 3 red -/

/-- The rightmost column whose condition holds (00 R17); where none does, one of the indicator's own columns, never one marked —
(log entry 117). -/
def indicator (name : Nat) (columns : List Nat) (red amber green off : Bool) : Nat :=
  if red then 3 else if amber then 2 else if green then 1 else if off then 0
  else getI columns (Config.indicatorNone name % columns.length) 0

/-- PWR A, PWR B, by the input at the connector. -/
def indPower (s : State) (x : Nat) : Nat :=
  let mv := getI s.pwr.vin x 0
  if mv < 9000 then 0 else if 19200 ≤ mv ∧ mv ≤ 30000 then 1 else 2

/-- The firmware runs: CTRL is on, past step 2, and neither restarting nor fatal. -/
def firmwareRuns (s : State) : Bool := domOn s 2 && decide (3 ≤ s.boot.step) && !ctrlHeld s

/-- RUN. DESIGN CHOICE (log entry 117): Table 0.4 does not say when "one or more admissions revoked" ends; every revoked admission
counts until it is made again. -/
def indRun (s : State) : Nat :=
  let runs := firmwareRuns s
  indicator 2 [0, 1, 2] false (runs && !s.led.revoked.isEmpty) (runs && hasRecipe s.led.held) (!runs)

/-- A lane, stake, DRAM channel, field channel or feed is retired. -/
def anyRetired (s : State) : Bool :=
  s.lanes.lane.any (fun x => x.state == .retired) || !s.fab.retiredStakes.isEmpty || s.draw.chan.any (·.retired) ||
    s.dio.chan.any (·.retired) || s.dio.feed.any (·.retired)

def indFault (s : State) : Nat := indicator 3 [0, 2, 3] s.flt.unreadFatal (anyRetired s) false (!s.flt.unread)

/-- HOST: amber at a reduced width or rate (03 Table 3.5: 5.0 x8 in full). -/
def indHost (s : State) : Nat :=
  indicator 4 [0, 1, 2] false (s.kw.linkUp && s.kw.link != (5, 8)) s.kw.linkUp (!s.kw.linkUp)

/-- SIDEBAND: amber for a time of its own after each packet (log entry 117). -/
def indSideband (s : State) : Nat :=
  indicator 5 [0, 1, 2] false (s.kw.sbLink && s.kw.sbActive.any fun t => decide (s.now < t + Config.flashTime)) s.kw.sbLink
    (!s.kw.sbLink)

/-- A lane in bring-up. -/
def inBringup (x : Lane) : Bool :=
  [LaneState.detect, .train, .bitLock, .blockLock, .capExchange, .discover, .resync].contains x.state

def indQuad (s : State) (q : Nat) : Nat :=
  let l := (List.range 4).map fun i => laneOf s (4 * q + i)
  indicator (6 + q) [0, 1, 2, 3] (l.any fun x => x.state == .retired) (l.any inBringup)
    (l.any (fun x => x.state == .active) && l.all fun x => x.state == .active || x.state == .disabled)
    (l.all fun x => x.state == .disabled)

def indField (s : State) : Nat :=
  let absent := fieldsLost s
  indicator 12 [0, 1, 2, 3] (s.dio.feed.any fun f => f.tripped || f.retired) (s.dio.chan.any fun c => c.dir == 2 && c.safe) (!absent) absent

/-- INDICATORS. -/
def indicators (s : State) : Nat :=
  indPower s 0 + 4 * indPower s 1 + 16 * indRun s + 64 * indFault s + 256 * indHost s + 1024 * indSideband s +
    ((List.range 6).map fun q => indQuad s q * 4 ^ (6 + q)).sum + 2 ^ 24 * indField s

/-! ## SYS_STATUS -/

/-- VERSION of the running and of the other slot. -/
def runningVersions (s : State) : Nat × Nat :=
  (if s.boot.slot = 2 then 0 else (fwOf s s.boot.slot).version, fwVersion s (idleSlot s))

def benchMask (s : State) (st : BenchState) : Nat := maskOf ((List.range 16).filter fun b => (benchOf s b).state == st)

def laneMask (s : State) (st : LaneState) : Nat := maskOf ((List.range 24).filter fun l => (laneOf s l).state == st)

/-- Table 15.3, with CTRL up. -/
def statusUp (s : State) (fence : Word) : Bytes :=
  le4 (runningVersions s).1 ++ le4 (runningVersions s).2 ++ le4 (bootStatus s) ++ le4 (ptbStatus s).toNat ++
    le4 (ledgStatus s).toNat ++ le4 (pwrStatus s) ++ le4 (fltState s).toNat ++ le4 (spos s).toNat ++ le8 (ptb s).toNat ++
    le8 s.pos.hwm.toNat ++ leInt 4 (vFiltUm s) ++ le2 s.led.held.length ++ le2 0 ++ le4 (indicators s) ++
    le4 s.flt.nextSeq.toNat ++ le4 fence.toNat ++ le4 (laneMask s .active) ++ le4 (laneMask s .retired) ++
    le4 (maskOf ((List.range 32).filter fun n => (chanOf s n).safe)) ++
    le4 (benchMask s .armed + 65536 * benchMask s .unadmitted) ++ le4 (rtcSeconds s) ++ le4 0 ++ le4 0

/-- The management controller's own answer while CTRL is down (15 R698). -/
def statusDown (s : State) : Bytes :=
  List.replicate 20 0 ++ le4 (pwrStatus s) ++ List.replicate 32 0 ++ le4 (indicators s) ++ List.replicate 24 0 ++
    le4 (rtcSeconds s) ++ le4 1 ++ le4 0

/-- SYS_STATUS. -/
def execSysStatus (r : Ref) (s : State) : Host.Outcome State Fault Refusal :=
  .next (runOp 0x0101 r s fun p s =>
    let named := !p.params.isEmpty
    let n := fld p.params 0 1
    if named ∧ 63 < n then refuse p stBAD_PARAM 0x20 s
    else if named ∧ p.tenant ≠ 0 ∧ n ≠ p.tenant then refuse p stDENIED noField s
    else if domOn s 2 then ok p (statusUp s (if named then (ten s n).fence else fenceOf s p.principal)) s
    else ok p (statusDown s) s)

/-! ## SYS_RESET (03 R175; 13 R642; 14 R681) -/

def bumpEach (l : List Nat) (s : State) : State :=
  match l with
  | [] => s
  | n :: r => bumpEach r (bumpFence n s)

/-- Stop fetching, bump every tenant's fence and write the resulting replies, where CTRL and the host link are up. -/
def quiesce (s : State) : State :=
  if domOn s 2 && s.kw.linkUp then bumpEach (tenantsUp s) s else s

/-- The reply to SYS_RESET. -/
def resetReply (r : Ref) (s : State) : State :=
  match findP r s with
  | some p => doneLater p stOK [] s
  | none => s

/-- Kind carried out: a unit whose CTRL is down has no logic to keep, so WARM is POWER there. -/
def resetKind (k : Nat) (s : State) : Nat := if k = 3 ∧ !domOn s 2 then 2 else k

/-- Cause of the start that follows (14 R683): that of the shutdown, or of the sag, that held the unit down. -/
def resetCause (k : Nat) (s : State) : Nat :=
  if s.pwr.thermalDown ≠ 0 then s.pwr.thermalDown else if s.pwr.sagDown then s.boot.cause else k + 1

/-- The unit starts again: at once with the rails on or VBUS at 19.2 V, else when it is back. -/
def startAgain (kind : Nat) (s : State) : State :=
  if kind = 3 ∨ 19200 ≤ s.pwr.vbus then beginStart s else heldDown (setDoms [0, 1] true s)

/-- A reset of kind COLD, POWER or WARM. -/
def resetUnit (k : Nat) (s : State) : State :=
  let kind := resetKind k s
  let s1 := unitReset kind (resetCause k s) s
  startAgain kind (s1.setPwr { s1.pwr with thermalDown := 0, sagDown := false })

/-- The reset commits, then the replies, then the reset itself; the sideband's reply comes last where MGMT stays powered. -/
def sysReset (p : Packet) (k : Nat) (s : State) : State :=
  let s1 := quiesce (commitP p.ref s)
  if k = 4 then
    let s2 := if p.principal = 64 then s1 else resetReply p.ref s1
    let s3 := if s2.kw.linkUp then linkLoss s2 else s2
    if p.principal = 64 then resetReply p.ref s3 else s3
  else if p.principal ≠ 64 ∨ k = 1 then resetUnit k (resetReply p.ref s1)
  else resetReply p.ref (resetUnit k s1)

/-- A die sensor is above 85.0 degrees C. -/
def dieHot (s : State) : Bool := (List.range 7).any fun i => decide (850 < getI s.pwr.temps i 0)

/-- SYS_RESET. -/
def execSysReset (r : Ref) (s : State) : Host.Outcome State Fault Refusal :=
  .next (runOp 0x0110 r s fun p s =>
    let k := fld p.params 0 1
    if k < 1 ∨ 4 < k then refuse p stBAD_PARAM 0x20 s
    else if k = 4 ∧ s.flt.fatal then refuse p stDENIED noField s
    else if s.pwr.thermalDown ≠ 0 ∧ dieHot s then refuse p stBUSY noField s
    else sysReset p k s)

/-! ## LEDG_RELEASE (15 R703) -/

def allKinds : List AdmKind := [.recipe, .bench, .actuation, .epoch, .tap, .stream, .capture, .shadow]

/-- A bench as BENCH_RELEASE does: the reply waits for LOADING or RESETTING to end (06 R316). -/
def ledgBench (p : Packet) (a : Admission) (s : State) : State :=
  if midChange (benchOf s a.object) then
    modP p.ref (fun q => { q with started := true })
      (modBench a.object (fun x => { x with releaseRefs := x.releaseRefs ++ [p.ref] }) s)
  else ok p [] (releaseBench a.object s)

/-- LEDG_RELEASE. -/
def execLedgRelease (r : Ref) (s : State) : Host.Outcome State Fault Refusal :=
  .next (runOp 0x0303 r s fun p s =>
    match admTarget p (fld p.params 0 4) 0x20 allKinds s with
    | .inl (st, off) => refuse p st off s
    | .inr a =>
      if a.kind = .bench then ledgBench p a s
      else if a.kind = .stream ∧ s.fab.lists.any (listNames a.handle) then refuse p stBUSY noField s
      else if a.kind = .actuation ∧ (findAct s a.handle).any (fun x => x.state == .firing) then refuseWith p stDENIED [1] s
      else ok p [] (release a s))

end Sys2Proof.Machine
end

