-- ==== Sys2Proof/Machine/Registers.lean ====
section
/-! DEFINITION. Registers in BAR0 (chapter 16): the tenant window, the position page, the unit pages and the tenant status
copies; reads that clear or latch, and writes. -/

namespace Sys2Proof.Machine

/-! ## Registers and pages (16 R734, R735) -/

/-- Access code (00 Table 0.2). -/
inductive Acc where
  | ro | rc | rs | w1c | ridx
deriving DecidableEq, Repr

/-- A register of a page: its access, its width (true: 64 bits), its value, and how its clearable part is set. -/
structure Reg where
  acc : Acc
  wide : Bool
  value : Nat
  put : Word → State → State

def ro (v : Nat) : Reg := { acc := .ro, wide := false, value := v, put := fun _ s => s }
def ro8 (v : Nat) : Reg := { acc := .ro, wide := true, value := v, put := fun _ s => s }
def rs (v : Nat) : Reg := { acc := .rs, wide := true, value := v, put := fun _ s => s }
def rc (w : Word) (put : Word → State → State) : Reg := { acc := .rc, wide := false, value := w.toNat, put := put }

/-- A W1C register: `put` sets its flags to the given ones. -/
def w1c (v : Nat) (put : Word → State → State) : Reg := { acc := .w1c, wide := false, value := v, put := put }

/-- RC counters of a table held as a list. -/
def rcs (l : List Word) (put : Nat → Word → State → State) : List Reg := l.mapIdx fun i w => rc w (put i)

/-- The offsets of a page's registers: a 64-bit register lies at a multiple of 8 (16 R735). -/
def placeRegs (off : Nat) (l : List Reg) : List (Nat × Reg) :=
  match l with
  | [] => []
  | r :: t =>
    let o := if r.wide then ceilDiv off 8 * 8 else off
    (o, r) :: placeRegs (o + if r.wide then 8 else 4) t

def setW (l : List Word) (i : Nat) (w : Word) : List Word := upd l i fun _ => w

/-! ## The unit pages (16 Table 16.3) -/

def putPtbFlags (w : Word) (s : State) : State := s.setPos { s.pos with flags := w &&& 0x7E0 }

/-- PTB_ and ENC_: the result of POS_STATUS. -/
def pagePos (s : State) : List Reg :=
  let p := s.pos
  [rs (ptb s).toNat, rs p.hwm.toNat, rs p.zcap.toNat] ++ p.aux.map (fun a => rs a.cnt.toNat) ++
  [w1c (ptbStatus s).toNat putPtbFlags, ro (vRawUm s % 2 ^ 32).toNat, ro (vFiltUm s % 2 ^ 32).toNat] ++
  rcs p.qerr (fun i w s => s.setPos { s.pos with qerr := setW s.pos.qerr i w }) ++
  [rc p.reversals fun w s => s.setPos { s.pos with reversals := w }, rc p.overspeeds fun w s => s.setPos { s.pos with overspeeds := w },
    ro (inLag s), ro p.shift, ro p.scale]

/-- LEDG_: Table 2.6. -/
def pageLedg (s : State) : List Reg :=
  let l := s.led
  [ro (ledgStatus s).toNat, ro l.vtol, ro l.tamb, ro l.pstatic] ++ l.share.map ro ++ [ro (ledgVAdm s), ro 0x00140032, ro l.held.length,
    rc l.revokes fun w s => s.setLed { s.led with revokes := w }, rc l.refusals fun w s => s.setLed { s.led with refusals := w },
    rc l.overTiles fun w s => s.setLed { s.led with overTiles := w }]

def putLaneFlags (l : Nat) (w : Word) (s : State) : State := modLane l (fun x => { x with flags := w &&& 0x3C00 }) s

/-- A lane: the result of LANE_STATUS. -/
def laneRegs (s : State) (l : Nat) : List Reg :=
  let x := laneOf s l
  [w1c (laneStatusReg s l).toNat (putLaneFlags l), ro (leVal (eqBytes x)), rs x.bits.toNat, rs x.errs] ++
    rcs x.ctr fun i w => modLane l fun x => { x with ctr := setW x.ctr i w }

/-- PLN_: Table 5.8. -/
def pagePln (s : State) : List Reg :=
  let ch := s.pln.chan
  let vw := s.pln.view
  let tap (i : Nat) : Reg := match s.pln.taps.find? fun t => t.handle % 8 == i with
    | some t => rc t.drop fun w s => s.setPln { s.pln with taps := (s.pln.taps.map fun y => if y.handle = t.handle then { y with drop := w } else y) }
    | none => ro 0
  rcs (ch.map (·.late)) (fun i w => modPlnChan i fun c => { c with late := w }) ++
  rcs (ch.map (·.dup)) (fun i w => modPlnChan i fun c => { c with dup := w }) ++ ch.map (fun c => rs c.conc.toNat) ++
  rcs (vw.map (·.replaced)) (fun i w => modView i fun x => { x with replaced := w }) ++
  rcs (vw.map (·.statLost)) (fun i w => modView i fun x => { x with statLost := w }) ++
  vw.map (fun x => ro x.statWidx.toNat) ++
  vw.mapIdx (fun i x => { ro x.statRidx.toNat with acc := .ridx, put := fun w => modView i fun x => { x with statRidx := w } }) ++
  (List.range 8).map tap

/-- BENCHb_STATUS and Table 6.15. -/
def pageFab (s : State) : List Reg :=
  let bs := List.range 16
  let ctr (k : Nat) : List Reg := bs.map fun b =>
    rc (getI (benchOf s b).ctr k 0) fun w => modBench b fun x => { x with ctr := setW x.ctr k w }
  bs.map (fun b => ro (benchStatus s b).toNat) ++ (List.range 8).map (fun i => ro (fabLive s i).toNat) ++
  bs.map (fun b => rs (benchOf s b).tiles.toNat) ++ (List.range 7).flatMap ctr ++
  [rc s.fab.chipLosses fun w s => s.setFab { s.fab with chipLosses := w }]

/-- DRAW_: Table 7.8, then the ranges. -/
def pageDraw (s : State) : List Reg :=
  let d := s.draw
  d.tokS.map (fun v => ro (v % 2 ^ 32).toNat) ++ d.tokI.map (fun v => ro (v % 2 ^ 32).toNat) ++
  rcs d.slack (fun i w s => s.setDraw { s.draw with slack := setW s.draw.slack i w }) ++
  rcs d.late (fun i w s => s.setDraw { s.draw with late := setW s.draw.late i w }) ++
  rcs (d.chan.map (·.corr)) (fun i w => modDram i fun c => { c with corr := w }) ++
  rcs (d.chan.map (·.unc)) (fun i w => modDram i fun c => { c with unc := w }) ++
  [rc d.sheetCorr fun w s => s.setDraw { s.draw with sheetCorr := w }, ro (drawChan s).toNat] ++ d.ranges.map fun r => ro8 r.toNat

def putRt (f : AssayUnit → AssayUnit) (s : State) : State := s.setAsy { s.asy with rtUnit := f s.asy.rtUnit }
def putQ (f : AssayUnit → AssayUnit) (s : State) : State := s.setAsy { s.asy with qUnit := f s.asy.qUnit }

/-- ASY_: Table 8.6, the RT unit before the Q unit. -/
def pageAsy (s : State) : List Reg :=
  let a := s.asy
  [rs a.rtUnit.ops.toNat, rs a.qUnit.ops.toNat,
    rc a.rtUnit.nanKeys fun w => putRt fun u => { u with nanKeys := w }, rc a.qUnit.nanKeys fun w => putQ fun u => { u with nanKeys := w },
    rc a.rtUnit.badBox fun w => putRt fun u => { u with badBox := w }, rc a.qUnit.badBox fun w => putQ fun u => { u with badBox := w },
    rc a.eccCorr fun w s => s.setAsy { s.asy with eccCorr := w },
    rc a.rtUnit.faults fun w => putRt fun u => { u with faults := w }, rc a.qUnit.faults fun w => putQ fun u => { u with faults := w },
    rc a.fenced fun w s => s.setAsy { s.asy with fenced := w }]

/-- HM_: Table 9.7, without the counters of rings. -/
def pageHm (s : State) : List Reg :=
  let h := s.hm
  [rs h.nparts.toNat] ++ rcs h.verdicts (fun i w s => s.setHm { s.hm with verdicts := setW s.hm.verdicts i w }) ++ [ro h.acts.length] ++
  rcs h.actCtr (fun i w s => s.setHm { s.hm with actCtr := setW s.hm.actCtr i w }) ++
  rcs h.feedRef (fun i w s => s.setHm { s.hm with feedRef := setW s.hm.feedRef i w }) ++
  rcs h.tileCtr (fun i w s => s.setHm { s.hm with tileCtr := setW s.hm.tileCtr i w }) ++ [ro hmOutLag]

def putShort (n : Nat) (w : Word) (s : State) : State := modChan n (fun c => { c with short := w.getLsbD 6 }) s
def putTrip (k : Nat) (w : Word) (s : State) : State := modFeed k (fun f => { f with trip := w.getLsbD 1 }) s

/-- DIO_ and FEED_: configuration, status, and Table 10.10. -/
def pageDio (s : State) : List Reg :=
  let d := s.dio
  d.chan.map (fun c => ro8 c.cfg.toNat) ++ d.chan.mapIdx (fun n _ => w1c (dioStatus s n) (putShort n)) ++
  d.feed.mapIdx (fun k _ => w1c (feedStatus s k) (putTrip k)) ++ [ro (b2n d.sagSafe)] ++
  rcs (d.chan.map (·.edges)) (fun n w => modChan n fun c => { c with edges := w }) ++
  [rc d.edgeLost fun w s => s.setDio { s.dio with edgeLost := w }] ++
  rcs (d.chan.map (·.shorts)) (fun n w => modChan n fun c => { c with shorts := w }) ++
  rcs (d.chan.map (·.cplErr)) (fun n w => modChan n fun c => { c with cplErr := w }) ++
  rcs (d.feed.map (·.trips)) (fun k w => modFeed k fun f => { f with trips := w }) ++
  [rc d.safeSkip fun w s => s.setDio { s.dio with safeSkip := w }] ++ d.chan.mapIdx (fun n _ => ro (dioLag s n)) ++ [ro (fieldV s)]

/-- TOK_ and TMP_ (11 R565). -/
def pageTok (s : State) : List Reg := rcs s.rcp.ctr fun i w s => s.setRcp { s.rcp with ctr := setW s.rcp.ctr i w }

/-- FLT_: Table 12.8. -/
def pageFlt (s : State) : List Reg :=
  [ro (fltState s).toNat, ro s.flt.nextSeq.toNat, rc s.flt.ctrlRst fun w s => s.setFlt { s.flt with ctrlRst := w },
    rc s.flt.equivLost fun w s => s.setFlt { s.flt with equivLost := w }]

/-- PWR_ and CLK_: Table 13.7. -/
def pagePwr (s : State) : List Reg :=
  let p := s.pwr
  [ro (pwrStatus s), ro (pwrVin s), ro p.vbus, ro p.sagTh, ro p.holdup] ++ p.temps.map (fun v => ro (v % 65536).toNat) ++
  (List.range 4).map (fun q => ro (pwrAvs s q)) ++
  [ro (avsPinReg s), rc p.throttles fun w s => s.setPwr { s.pwr with throttles := w }, ro (clkFq s), ro (clkLock s)]

/-- BOOT_ and REC_: Table 14.9. -/
def pageBoot (s : State) : List Reg :=
  [ro (bootStatus s), ro s.boot.inForce.seq.toNat, ro (recPages24 s), rc s.boot.skipped fun w s => s.setBoot { s.boot with skipped := w }]

/-- Registers of the unit pages by page number, offset / 4 KiB, with their offsets; none while their domain is off (16 R739). -/
def unitPage (s : State) (page : Nat) : List (Nat × Reg) :=
  let at0 (code : Nat) (l : List Reg) := if domOn s code then placeRegs 0 l else []
  match page with
  | 0x10 => at0 2 (pagePos s)
  | 0x11 => at0 2 (pageLedg s)
  | 0x12 => ((List.range 24).filter (laneOn s)).flatMap fun l => placeRegs (0x80 * l) (laneRegs s l)
  | 0x14 => at0 6 (pagePln s)
  | 0x15 => at0 2 (pageFab s)
  | 0x16 => at0 3 (pageDraw s)
  | 0x17 => at0 2 (pageAsy s)
  | 0x18 => at0 2 (pageHm s)
  | 0x19 => at0 4 (pageDio s)
  | 0x1A => at0 2 (pageTok s)
  | 0x1B => at0 2 (pageFlt s)
  | 0x1C => at0 2 (pagePwr s)
  | 0x1D => at0 2 (pageBoot s)
  | _ => []

/-- The unit register at an offset of the physical function. -/
def unitReg (s : State) (off : Nat) : Option Reg := ((unitPage s (off / 4096)).find? fun e => e.1 == off % 4096).map (·.2)

/-- The offset lies in a unit page whose domain is off, so that it reads zero. -/
def unitDark (s : State) (off : Nat) : Bool :=
  decide (0x10000 ≤ off) && decide (off < 0x1E000) &&
    (if off / 4096 = 0x12 then !laneOn s (off % 4096 / 0x80) else (unitPage s (off / 4096)).isEmpty)

/-! ## Reads (00 R11, R12, R14; 16 R718, R726, R731 to R739) -/

/-- A BAR read returns its data to the host (log entry 6). -/
def barRead (fn off v : Nat) (s : State) : State := s.emit (.barData fn off v)

/-- An access that is not a naturally aligned one of 4 or 8 bytes. -/
def badAccess (off size : Nat) : Bool := !(size == 4 || size == 8) || off % size != 0

/-- ACC_ERR (16 R717). -/
def accessError (fn : Nat) (s : State) : State := setStatus fn 6 s

/-- Low or high word of a 64-bit value. -/
def half (high : Bool) (v : Long) : Nat := if high then v.toNat / 2 ^ 32 else v.toNat % 2 ^ 32

/-- KW_VERSION (16 Table 16.2). -/
def kwVersion : Nat := 1

/-- A register of tenant `n`'s window, 0 at an offset that holds none or only WO fields (16 Table 16.2, R718). -/
def windowValue (n off : Nat) (s : State) : Nat :=
  let t := ten s n
  match off with
  | 0x00 => n + kwVersion * 256
  | 0x04 => t.fence.toNat
  | 0x08 => b2n t.en
  | 0x0C => t.ringStatus.toNat
  | 0x10 => half false t.sqBase
  | 0x14 => half true t.sqBase
  | 0x18 => half false t.cqBase
  | 0x1C => half true t.cqBase
  | 0x20 => t.sqLog + 256 * t.cqLog
  | 0x24 => t.sqHead
  | 0x28 => t.cqTail + 65536 * b2n t.phase
  | 0x2C => t.coalCount + 65536 * t.coalTime
  | 0x30 => t.tmo
  | 0x34 => t.noticeMask.toNat
  | 0x38 => t.fenced.toNat
  | 0x3C => t.noticeLost.toNat
  | 0x40 => t.classMask.toNat
  | _ => 0

/-- A word of the MSI-X table, or of the pending-bit array (16 R730). -/
def msixValue (n off : Nat) (s : State) : Nat :=
  let t := ten s n
  if off < 0x3040 then
    let m := getI t.msix ((off - 0x3000) / 16) { addr := 0, data := 0, masked := true }
    match off % 16 / 4 with
    | 0 => half false m.addr
    | 1 => half true m.addr
    | 2 => m.data.toNat
    | _ => b2n m.masked
  else if off = 0x3800 then ((List.range 4).map fun v => b2n (getI t.pba v false) * 2 ^ v).sum
  else 0

/-- RS pairs of the position page. -/
def pagePair (off : Nat) (s : State) : Option Nat :=
  if off = 0x4000 then some (ptb s).toNat else if off = 0x4008 then some s.pos.hwm.toNat else none

/-- The RO registers of the position page (16 Table 16.4). -/
def pageValue (off : Nat) (s : State) : Nat :=
  match off - 0x4000 with
  | 0x10 => (spos s).toNat
  | 0x14 => (ptbStatus s).toNat
  | 0x18 => (vFiltUm s % 2 ^ 32).toNat
  | 0x1C => ledgVAdm s
  | 0x20 => s.pos.scale
  | 0x24 => s.pos.shift
  | _ => 0

/-- The RS pair whose low word lies at an offset. -/
def rsPair (fn off : Nat) (s : State) : Option Nat :=
  if off < 0x5000 then pagePair off s
  else if fn = 0 then ((unitReg s off).filter fun r => r.acc == .rs).map (·.value)
  else none

/-- The high word latched at an RS pair by its low word's offset (16 R732). -/
def latched (fn off : Nat) (s : State) : Nat :=
  (((ten s fn).latches.find? fun e => e.1 == off).map fun e => e.2.toNat).getD 0

/-- A word of the unit pages: a register, the high word of a 64-bit one, or 0 (16 R718, R735). -/
def unitValue (off : Nat) (s : State) : Nat :=
  match unitReg s off with
  | some r => r.value % 2 ^ 32
  | none => match (unitReg s (off - 4)).filter fun r => r.wide && decide (4 ≤ off) with
    | some r => r.value / 2 ^ 32
    | none => 0

/-- The tenant whose status copy an offset lies in, and the offset in it (16 Table 16.1, R738). -/
def statusCopy (fn off : Nat) : Option (Nat × Nat) :=
  if fn = 0 ∧ 0x20000 ≤ off ∧ off < 0x24000 then some ((off - 0x20000) / 0x100, off % 0x100) else none

/-- What a 4-byte read of the function's BAR0 returns: RO, RW, W1C, RC and RS fields their value, the high word of an RS pair
its latch, WO and reserved fields zero (00 R4, R11; 16 R718). -/
def readValue (fn off : Nat) (s : State) : Nat :=
  match statusCopy fn off with
  | some (n, o) => if tenantExists s n then windowValue n o s else 0
  | none =>
    if off < 0x1000 then windowValue fn off s
    else if off < 0x3000 then 0
    else if off < 0x4000 then msixValue fn off s
    else match rsPair fn off s, rsPair fn (off - 4) s with
      | some v, _ => v % 2 ^ 32
      | none, some _ => if fn = 0 ∧ unitDark s off then 0 else latched fn (off - 4) s
      | none, none => if off < 0x5000 then pageValue off s else if fn = 0 then unitValue off s else 0

/-- RC fields of a tenant window (16 Table 16.2). -/
def windowRc (fn off : Nat) (s : State) : Option Reg :=
  if off = 0x38 then some (rc (ten s fn).fenced fun w => modTen fn fun t => { t with fenced := w })
  else if off = 0x3C then some (rc (ten s fn).noticeLost fun w => modTen fn fun t => { t with noticeLost := w })
  else none

/-- RC register of the function's own window or, for tenant 0, of the unit pages. -/
def rcReg (fn off : Nat) (s : State) : Option Reg :=
  if off < 0x1000 then windowRc fn off s else if fn = 0 then (unitReg s off).filter fun r => r.acc == .rc else none

/-- Load the high-word latch of one mapping in one function (16 R732). -/
def latch (fn off v : Nat) (s : State) : State :=
  modTen fn (fun t => { t with
    latches := (off, BitVec.ofNat 32 (v / 2 ^ 32)) :: t.latches.filter fun e => e.1 != off }) s

/-- What a 4-byte read does: it clears an RC field, of which `bump` increments of the same clock remain, or loads the latch of
an RS pair (00 R12, R14; 01 R75; 16 R736). A status copy clears nothing (16 R738). -/
def readEffect (fn off bump : Nat) (s : State) : State :=
  match rcReg fn off s with
  | some r => r.put (BitVec.ofNat 32 bump) s
  | none => match rsPair fn off s with
    | some v => latch fn off v s
    | none => s

/-- The high word that an 8-byte read returns: that of an RS pair from the same cycle (16 R733), else the next word's own. -/
def highValue (fn off : Nat) (s : State) : Nat :=
  match rsPair fn off s with
  | some v => v / 2 ^ 32
  | none => readValue fn (off + 4) s

/-- A read of 4 or 8 bytes; 8 bytes read both words in one cycle (16 R717). One that is not naturally aligned returns ones. -/
def regRead (fn off : Nat) (wide : Bool) (bump : Nat) (s : State) : State :=
  let size := if wide then 8 else 4
  if badAccess off size then barRead fn off (256 ^ size - 1) (accessError fn s)
  else if wide then
    barRead fn off (readValue fn off s + 2 ^ 32 * highValue fn off s) (readEffect fn (off + 4) 0 (readEffect fn off bump s))
  else barRead fn off (readValue fn off s) (readEffect fn off bump s)

/-- RC_READ: a read of any register of BAR0, which clears what it reads where that is an RC field. -/
def execRcRead (fn : Nat) (x : RegRead) (bump : Nat) (s : State) : Host.Outcome State Fault Refusal :=
  .next (if barReachable s fn then regRead fn x.offset x.wide bump s else s)

/-- RS_LOW_READ: the low word, or both words in one access, and the latch (01 R75; 16 R732, R733). -/
def execRsLowRead (fn off : Nat) (wide : Bool) (s : State) : Host.Outcome State Fault Refusal :=
  .next (if barReachable s fn then regRead fn off wide 0 s else s)

/-! ## Writes -/

/-- Flags after a write of 1s, where an event of the same clock sets `setNow` (00 R13). -/
def w1cNext (old v setNow : Word) : Word := (old &&& ~~~v) ||| setNow

/-- W1C fields of a function: KW_RING_STATUS, and those of the unit pages for tenant 0. -/
def clearFlags (fn off : Nat) (v setNow : Word) (s : State) : State :=
  if off = 0x0C then modTen fn (fun t => { t with ringStatus := w1cNext t.ringStatus v (setNow &&& 0x7F) }) s
  else if fn = 0 then
    match unitReg s off with
    | some r => if r.acc = .w1c then r.put (w1cNext (BitVec.ofNat 32 r.value) v setNow) s else s
    | none => s
  else s

/-- W1C_CLEAR. -/
def execW1cClear (fn off : Nat) (v setNow : Word) (s : State) : Host.Outcome State Fault Refusal :=
  .next (if barReachable s fn then clearFlags fn off v setNow s else s)

/-- Size of the view's statistics ring in bytes, 0 without one. -/
def statSize (s : State) (v : Nat) : Nat := ((objOf s (viewOf s v).statRing).map (·.size)).getD 0

/-- A read index inside the ring and not after the write index (16 R737). -/
def ridxOk (s : State) (v : Nat) (w : Word) : Bool :=
  let size := statSize s v
  let x := viewOf s v
  let dist (a : Word) : Nat := (a.toNat + size - x.statRidx.toNat % max 1 size) % max 1 size
  decide (w.toNat < size) && decide (dist w ≤ dist x.statWidx)

def setRidx (v : Nat) (w : Word) (s : State) : State :=
  if v < 4 ∧ imgOn s ∧ ridxOk s v w then modView v (fun x => { x with statRidx := w }) s else s

/-- PLN_STAT_RIDX_WRITE. -/
def execPlnStatRidxWrite (v : Nat) (w : Word) (s : State) : Host.Outcome State Fault Refusal :=
  .next (if barReachable s 0 then setRidx v w s else s)

/-- KW_SQ_BASE, KW_CQ_BASE and KW_RING_SIZE are ignored while EN is 1 (03 R141). -/
def ringConfig (fn : Nat) (f : Tenant → Tenant) (s : State) : State :=
  if (ten s fn).en then setStatus fn 3 s else modTen fn f s

/-- One 32-bit half of a ring address, whose bits 11:0 read zero. -/
def setHalf (old : Long) (high : Bool) (v : Word) : Long :=
  if high then BitVec.ofNat 64 (old.toNat % 2 ^ 32 + v.toNat * 2 ^ 32)
  else BitVec.ofNat 64 (old.toNat / 2 ^ 32 * 2 ^ 32 + v.toNat / 4096 * 4096)

/-- One 32-bit word of an MSI-X table entry; a vector that is no longer masked sends its pending message (16 R730). -/
def msixWrite (fn off : Nat) (v : Word) (s : State) : State :=
  let i := (off - 0x3000) / 16
  let f (e : MsixEntry) : MsixEntry := match off % 16 / 4 with
    | 0 => { e with addr := setHalf' e.addr false v }
    | 1 => { e with addr := setHalf' e.addr true v }
    | 2 => { e with data := v }
    | _ => { e with masked := v.getLsbD 0 }
  flushPending fn i (modTen fn (fun t => { t with msix := upd t.msix i f }) s)
where
  setHalf' (old : Long) (high : Bool) (v : Word) : Long :=
    if high then BitVec.ofNat 64 (old.toNat % 2 ^ 32 + v.toNat * 2 ^ 32) else BitVec.ofNat 64 (old.toNat / 2 ^ 32 * 2 ^ 32 + v.toNat)

/-- A write to a register of the tenant window or the MSI-X table by its offset (16 Table 16.2). -/
def windowWrite (fn off : Nat) (v : Word) (s : State) : State :=
  match off with
  | 0x08 => if v.getLsbD 0 then enableRing fn s else if (ten s fn).en then disableRing fn s else s
  | 0x0C => clearFlags fn off v 0 s
  | 0x10 => ringConfig fn (fun t => { t with sqBase := setHalf t.sqBase false v }) s
  | 0x14 => ringConfig fn (fun t => { t with sqBase := setHalf t.sqBase true v }) s
  | 0x18 => ringConfig fn (fun t => { t with cqBase := setHalf t.cqBase false v }) s
  | 0x1C => ringConfig fn (fun t => { t with cqBase := setHalf t.cqBase true v }) s
  | 0x20 => ringConfig fn (fun t => { t with sqLog := bits v.toNat 3 0, cqLog := bits v.toNat 11 8 }) s
  | 0x2C => writeCoal fn v s
  | 0x30 => modTen fn (fun t => { t with tmo := bits v.toNat 15 0 }) s
  | 0x34 => modTen fn (fun t => { t with noticeMask := v &&& 0x7FFE }) s
  | 0x1000 => sqDoorbell fn v s
  | 0x2000 => cqDoorbell fn v s
  | _ => if 0x3000 ≤ off ∧ off < 0x3040 then msixWrite fn off v s else s

/-- View of a PLN_STAT_RIDX register: it follows LATE, DUP, CONC, REPLACED, STATLOST and WIDX in the PLN_ page. -/
def ridxView (off : Nat) : Option Nat :=
  if 0x14230 ≤ off ∧ off < 0x14240 then some ((off - 0x14230) / 4) else none

/-- A 4-byte write to BAR0 acts by the access code of the register (00 R11; 16 R718, R737). -/
def write32 (fn off : Nat) (v : Word) (s : State) : State :=
  if off < 0x4000 then windowWrite fn off v s
  else if fn ≠ 0 then s
  else match ridxView off with
    | some view => setRidx view v s
    | none => clearFlags fn off v 0 s

/-- A write of 4 or 8 bytes; 8 bytes act on both words, the lower first. -/
def barWrite (fn off : Nat) (wide : Bool) (v : Long) (s : State) : State :=
  if off % (if wide then 8 else 4) ≠ 0 then accessError fn s
  else
    let s1 := write32 fn off (low32 v) s
    if wide then write32 fn (off + 4) (low32 (v >>> 32)) s1 else s1

/-- REGISTER_WRITE. -/
def execRegisterWrite (fn off : Nat) (wide : Bool) (v : Long) (s : State) : Host.Outcome State Fault Refusal :=
  .next (if barReachable s fn then barWrite fn off wide v s else s)

/-- BAR_ACCESS_ERROR: a write is discarded, a read returns ones. -/
def execBarAccessError (fn off size : Nat) (write : Bool) (s : State) : Host.Outcome State Fault Refusal :=
  .next (
    if barReachable s fn && badAccess off size then
      let s1 := accessError fn s
      if write then s1 else barRead fn off (256 ^ size - 1) s1
    else s)

end Sys2Proof.Machine
end

