-- ==== Sys2Proof/Machine/Dispatch.lean ====
section
/-! DEFINITION. The dispatch: one arm per command of `Instr`, each one direct call of that command's meaning. -/

namespace Sys2Proof.Machine

open Sys2Proof

def exec (i : Instr) (s : State) : Host.Outcome State Fault Refusal :=
  match i with
  | .descriptorFetch tenant dmaOk t => Sys2Proof.Machine.execDescriptorFetch tenant dmaOk t s
  | .sidebandDatagram d t => Sys2Proof.Machine.execSidebandDatagram d t s
  | .sidebandCacheExpiry addr port tag => Sys2Proof.Machine.execSidebandCacheExpiry addr port tag s
  | .noticeDelivery tenant => Sys2Proof.Machine.execNoticeDelivery tenant s
  | .irqCoalesceTimeout tenant => Sys2Proof.Machine.execIrqCoalesceTimeout tenant s
  | .packetTimeLimit r => Sys2Proof.Machine.execPacketTimeLimit r s
  | .deadlineExpiry r => Sys2Proof.Machine.execDeadlineExpiry r s
  | .kwSqDbWrite tenant value placed => Sys2Proof.Machine.execKwSqDbWrite tenant value placed s
  | .kwCqDbWrite tenant value => Sys2Proof.Machine.execKwCqDbWrite tenant value s
  | .ringEnable tenant => Sys2Proof.Machine.execRingEnable tenant s
  | .ringDisable tenant => Sys2Proof.Machine.execRingDisable tenant s
  | .kwIrqCoalWrite tenant value => Sys2Proof.Machine.execKwIrqCoalWrite tenant value s
  | .msixUnmask tenant vector => Sys2Proof.Machine.execMsixUnmask tenant vector s
  | .w1cClear fn offset value setNow => Sys2Proof.Machine.execW1cClear fn offset value setNow s
  | .rcRead fn x bump => Sys2Proof.Machine.execRcRead fn x bump s
  | .rsLowRead fn offset wide => Sys2Proof.Machine.execRsLowRead fn offset wide s
  | .plnStatRidxWrite view value => Sys2Proof.Machine.execPlnStatRidxWrite view value s
  | .registerWrite fn offset wide value => Sys2Proof.Machine.execRegisterWrite fn offset wide value s
  | .barAccessError fn offset size write => Sys2Proof.Machine.execBarAccessError fn offset size write s
  | .functionLevelReset tenant => Sys2Proof.Machine.execFunctionLevelReset tenant s
  | .numvfsReduce n => Sys2Proof.Machine.execNumvfsReduce n s
  | .hostLinkLoss t => Sys2Proof.Machine.execHostLinkLoss t s
  | .hostLossRelease => Sys2Proof.Machine.execHostLossRelease s
  | .hostLinkReturn u => Sys2Proof.Machine.execHostLinkReturn u s
  | .sysStatus r => Sys2Proof.Machine.execSysStatus r s
  | .sysIdentify r => Sys2Proof.Machine.execSysIdentify r s
  | .sysFence r => Sys2Proof.Machine.execSysFence r s
  | .sysOutcomes r => Sys2Proof.Machine.execSysOutcomes r s
  | .sysReset r => Sys2Proof.Machine.execSysReset r s
  | .tenConfig r => Sys2Proof.Machine.execTenConfig r s
  | .sysHostlossSet r => Sys2Proof.Machine.execSysHostlossSet r s
  | .posStatus r => Sys2Proof.Machine.execPosStatus r s
  | .posScaleSet r => Sys2Proof.Machine.execPosScaleSet r s
  | .posEncConfig r => Sys2Proof.Machine.execPosEncConfig r s
  | .posWindowSet r => Sys2Proof.Machine.execPosWindowSet r s
  | .posPreset r => Sys2Proof.Machine.execPosPreset r s
  | .posSsiConfig r => Sys2Proof.Machine.execPosSsiConfig r s
  | .ledgStatus r => Sys2Proof.Machine.execLedgStatus r s
  | .ledgConfig r => Sys2Proof.Machine.execLedgConfig r s
  | .ledgRelease r => Sys2Proof.Machine.execLedgRelease r s
  | .ledgList r => Sys2Proof.Machine.execLedgList r s
  | .masterEdge k t => Sys2Proof.Machine.execMasterEdge k t s
  | .auxEncoderEdge port k t => Sys2Proof.Machine.execAuxEncoderEdge port k t s
  | .zEdgeCapture z t => Sys2Proof.Machine.execZEdgeCapture z t s
  | .speedUpdate t => Sys2Proof.Machine.execSpeedUpdate t s
  | .stationaryTimeout => Sys2Proof.Machine.execStationaryTimeout s
  | .windowBoundary ssiWord => Sys2Proof.Machine.execWindowBoundary ssiWord s
  | .triggerFire tg => Sys2Proof.Machine.execTriggerFire tg s
  | .triggerMessageSend lane => Sys2Proof.Machine.execTriggerMessageSend lane s
  | .camramBlockReceived lane syncErrors line => Sys2Proof.Machine.execCamramBlockReceived lane syncErrors line s
  | .camramPacketReceived lane => Sys2Proof.Machine.execCamramPacketReceived lane s
  | .cxpPacketReceived lane p => Sys2Proof.Machine.execCxpPacketReceived lane p s
  | .cxpAlignmentLoss lane => Sys2Proof.Machine.execCxpAlignmentLoss lane s
  | .detectProbe lane terminated => Sys2Proof.Machine.execDetectProbe lane terminated s
  | .trainResend lane => Sys2Proof.Machine.execTrainResend lane s
  | .bitLock lane => Sys2Proof.Machine.execBitLock lane s
  | .prbsTrainVerified lane => Sys2Proof.Machine.execPrbsTrainVerified lane s
  | .blockLock lane => Sys2Proof.Machine.execBlockLock lane s
  | .capExchange lane payload => Sys2Proof.Machine.execCapExchange lane payload s
  | .bringupTimeout x => Sys2Proof.Machine.execBringupTimeout x s
  | .capFaultRetry lane => Sys2Proof.Machine.execCapFaultRetry lane s
  | .cxpDetectAligned lane deviceRates connections => Sys2Proof.Machine.execCxpDetectAligned lane deviceRates connections s
  | .cxpDiscoverAck lane => Sys2Proof.Machine.execCxpDiscoverAck lane s
  | .cxpResyncDone lane => Sys2Proof.Machine.execCxpResyncDone lane s
  | .cxpBringupTimeout x => Sys2Proof.Machine.execCxpBringupTimeout x s
  | .controlReply lane tag data => Sys2Proof.Machine.execControlReply lane tag data s
  | .controlXactTimeout lane => Sys2Proof.Machine.execControlXactTimeout lane s
  | .prbsCheckerLock x => Sys2Proof.Machine.execPrbsCheckerLock x s
  | .prbsLockLoss lane line partner => Sys2Proof.Machine.execPrbsLockLoss lane line partner s
  | .eyescanDone lane counts => Sys2Proof.Machine.execEyescanDone lane counts s
  | .eqAdaptation lane ctle vga dfe1 t => Sys2Proof.Machine.execEqAdaptation lane ctle vga dfe1 t s
  | .laneStatus r => Sys2Proof.Machine.execLaneStatus r s
  | .laneConfig r => Sys2Proof.Machine.execLaneConfig r s
  | .laneEnable r => Sys2Proof.Machine.execLaneEnable r s
  | .laneTriggerConfig r => Sys2Proof.Machine.execLaneTriggerConfig r s
  | .laneCtrlXact r => Sys2Proof.Machine.execLaneCtrlXact r s
  | .lanePrbs r line partner => Sys2Proof.Machine.execLanePrbs r line partner s
  | .laneInject r => Sys2Proof.Machine.execLaneInject r s
  | .laneLoopback r => Sys2Proof.Machine.execLaneLoopback r s
  | .laneEyescan r => Sys2Proof.Machine.execLaneEyescan r s
  | .laneEqBounds r => Sys2Proof.Machine.execLaneEqBounds r s
  | .laneUnretire r => Sys2Proof.Machine.execLaneUnretire r s
  | .slotTimeout channel k => Sys2Proof.Machine.execSlotTimeout channel k s
  | .scanLineConceal channel k => Sys2Proof.Machine.execScanLineConceal channel k s
  | .scanLineProcess view k => Sys2Proof.Machine.execScanLineProcess view k s
  | .tilePlace view row col => Sys2Proof.Machine.execTilePlace view row col s
  | .tapEnd handle => Sys2Proof.Machine.execTapEnd handle s
  | .plnStatus r => Sys2Proof.Machine.execPlnStatus r s
  | .plnChannelConfig r => Sys2Proof.Machine.execPlnChannelConfig r s
  | .plnViewConfig r => Sys2Proof.Machine.execPlnViewConfig r s
  | .plnCalLoad r => Sys2Proof.Machine.execPlnCalLoad r s
  | .plnFilterConfig r => Sys2Proof.Machine.execPlnFilterConfig r s
  | .plnLevelBounds r => Sys2Proof.Machine.execPlnLevelBounds r s
  | .plnStatConfig r => Sys2Proof.Machine.execPlnStatConfig r s
  | .plnTapOpen r pick => Sys2Proof.Machine.execPlnTapOpen r pick s
  | .plnTapClose r => Sys2Proof.Machine.execPlnTapClose r s
  | .calDark poisonedAt => Sys2Proof.Machine.execCalDark poisonedAt s
  | .calFlat poisonedAt => Sys2Proof.Machine.execCalFlat poisonedAt s
  | .calDefect poisonedAt => Sys2Proof.Machine.execCalDefect poisonedAt s
  | .tileDispatch bench t => Sys2Proof.Machine.execTileDispatch bench t s
  | .tileComplete bench stake gen t => Sys2Proof.Machine.execTileComplete bench stake gen t s
  | .certOverrun bench stake => Sys2Proof.Machine.execCertOverrun bench stake s
  | .benchPrivateFault bench stake cause t => Sys2Proof.Machine.execBenchPrivateFault bench stake cause t s
  | .benchResetDone bench imageOk => Sys2Proof.Machine.execBenchResetDone bench imageOk s
  | .chipWideFault cause t => Sys2Proof.Machine.execChipWideFault cause t s
  | .fabChipLoss => Sys2Proof.Machine.execFabChipLoss s
  | .nocLinkError failures t => Sys2Proof.Machine.execNocLinkError failures t s
  | .benchLoadDone bench => Sys2Proof.Machine.execBenchLoadDone bench s
  | .fabApplied bench => Sys2Proof.Machine.execFabApplied bench s
  | .fabStatus r => Sys2Proof.Machine.execFabStatus r s
  | .benchBuild r pick => Sys2Proof.Machine.execBenchBuild r pick s
  | .benchRebuild r => Sys2Proof.Machine.execBenchRebuild r s
  | .benchRelease r => Sys2Proof.Machine.execBenchRelease r s
  | .benchReset r => Sys2Proof.Machine.execBenchReset r s
  | .benchReadmit r pick => Sys2Proof.Machine.execBenchReadmit r pick s
  | .fabList r => Sys2Proof.Machine.execFabList r s
  | .stakeUnretire r => Sys2Proof.Machine.execStakeUnretire r s
  | .listStart engine => Sys2Proof.Machine.execListStart engine s
  | .nop engine => Sys2Proof.Machine.execNop engine s
  | .waitEvent engine tenant => Sys2Proof.Machine.execWaitEvent engine tenant s
  | .signalEvent engine => Sys2Proof.Machine.execSignalEvent engine s
  | .writeStamp engine x => Sys2Proof.Machine.execWriteStamp engine x s
  | .loadParams poisonedAt => Sys2Proof.Machine.execLoadParams poisonedAt s
  | .selectParams => Sys2Proof.Machine.execSelectParams s
  | .runTiles x => Sys2Proof.Machine.execRunTiles x s
  | .copy x poisonedAt => Sys2Proof.Machine.execCopy x poisonedAt s
  | .fill x => Sys2Proof.Machine.execFill x s
  | .check x poisonedAt => Sys2Proof.Machine.execCheck x poisonedAt s
  | .memoryGrant ingot bank arrivals singleBit t => Sys2Proof.Machine.execMemoryGrant ingot bank arrivals singleBit t s
  | .requestAging id => Sys2Proof.Machine.execRequestAging id s
  | .ingotReread addr consumer outcome t => Sys2Proof.Machine.execIngotReread addr consumer outcome t s
  | .channelTimeout addr consumer write outcome t => Sys2Proof.Machine.execChannelTimeout addr consumer write outcome t s
  | .patrolScrub addr singleBit => Sys2Proof.Machine.execPatrolScrub addr singleBit s
  | .drawStatus r => Sys2Proof.Machine.execDrawStatus r s
  | .drawAlloc r pick extent => Sys2Proof.Machine.execDrawAlloc r pick extent s
  | .drawFree r => Sys2Proof.Machine.execDrawFree r s
  | .drawList r => Sys2Proof.Machine.execDrawList r s
  | .drawStreamOpen r pick => Sys2Proof.Machine.execDrawStreamOpen r pick s
  | .drawStreamClose r => Sys2Proof.Machine.execDrawStreamClose r s
  | .drawRangeSet r => Sys2Proof.Machine.execDrawRangeSet r s
  | .drawPortMode r => Sys2Proof.Machine.execDrawPortMode r s
  | .drawChanUnretire r => Sys2Proof.Machine.execDrawChanUnretire r s
  | .asyStatus r => Sys2Proof.Machine.execAsyStatus r s
  | .asyLibDefine r => Sys2Proof.Machine.execAsyLibDefine r s
  | .asyList r => Sys2Proof.Machine.execAsyList r s
  | .sort x => Sys2Proof.Machine.execSort x s
  | .merge x => Sys2Proof.Machine.execMerge x s
  | .topk x => Sys2Proof.Machine.execTopk x s
  | .nms x => Sys2Proof.Machine.execNms x s
  | .nnSearch x libError => Sys2Proof.Machine.execNnSearch x libError s
  | .libLoad x => Sys2Proof.Machine.execLibLoad x s
  | .assayRtComplete ecc libError => Sys2Proof.Machine.execAssayRtComplete ecc libError s
  | .tileResultIngest poisoned => Sys2Proof.Machine.execTileResultIngest poisoned s
  | .verdictIssue recipe part => Sys2Proof.Machine.execVerdictIssue recipe part s
  | .verdictDeadline recipe part => Sys2Proof.Machine.execVerdictDeadline recipe part s
  | .plateMaxLenClose recipe => Sys2Proof.Machine.execPlateMaxLenClose recipe s
  | .actuationSwitchOn handle goodCopies t => Sys2Proof.Machine.execActuationSwitchOn handle goodCopies t s
  | .pulseSwitchOff channel t => Sys2Proof.Machine.execPulseSwitchOff channel t s
  | .pulseCapExpiry channel => Sys2Proof.Machine.execPulseCapExpiry channel s
  | .interlockSkip handle => Sys2Proof.Machine.execInterlockSkip handle s
  | .hmStatus r => Sys2Proof.Machine.execHmStatus r s
  | .hmRingSet r => Sys2Proof.Machine.execHmRingSet r s
  | .hmActSchedule r pick => Sys2Proof.Machine.execHmActSchedule r pick s
  | .hmActCancel r => Sys2Proof.Machine.execHmActCancel r s
  | .hmPlateEdge r => Sys2Proof.Machine.execHmPlateEdge r s
  | .hmList r => Sys2Proof.Machine.execHmList r s
  | .actEnqueue pick => Sys2Proof.Machine.execActEnqueue pick s
  | .inputEdgeAccept channel t => Sys2Proof.Machine.execInputEdgeAccept channel t s
  | .dioBreak channel t => Sys2Proof.Machine.execDioBreak channel t s
  | .dioOpenload channel => Sys2Proof.Machine.execDioOpenload channel s
  | .openloadClear channel => Sys2Proof.Machine.execOpenloadClear channel s
  | .dioShort channel overload t => Sys2Proof.Machine.execDioShort channel overload t s
  | .feedTrip feed peakMa higher t => Sys2Proof.Machine.execFeedTrip feed peakMa higher t s
  | .feedReclose feed => Sys2Proof.Machine.execFeedReclose feed s
  | .couplerFrameError channel retryOk t => Sys2Proof.Machine.execCouplerFrameError channel retryOk t s
  | .linkWatchdog channel => Sys2Proof.Machine.execLinkWatchdog channel s
  | .linkCauseClear channel => Sys2Proof.Machine.execLinkCauseClear channel s
  | .fieldSupply supply mv t => Sys2Proof.Machine.execFieldSupply supply mv t s
  | .supplyCauseClear channel => Sys2Proof.Machine.execSupplyCauseClear channel s
  | .dioStatus r => Sys2Proof.Machine.execDioStatus r s
  | .dioConfig r => Sys2Proof.Machine.execDioConfig r s
  | .dioUnretire r => Sys2Proof.Machine.execDioUnretire r s
  | .dioSafeAssert r => Sys2Proof.Machine.execDioSafeAssert r s
  | .dioSafeRelease r => Sys2Proof.Machine.execDioSafeRelease r s
  | .rcpStatus r => Sys2Proof.Machine.execRcpStatus r s
  | .recipeLoad r pick => Sys2Proof.Machine.execRecipeLoad r pick s
  | .recipeActivate r => Sys2Proof.Machine.execRecipeActivate r s
  | .recipeRelease r => Sys2Proof.Machine.execRecipeRelease r s
  | .recipeSwitch recipe => Sys2Proof.Machine.execRecipeSwitch recipe s
  | .checkpoint recipe => Sys2Proof.Machine.execCheckpoint recipe s
  | .tokDictLoad r => Sys2Proof.Machine.execTokDictLoad r s
  | .tokSelectSet r => Sys2Proof.Machine.execTokSelectSet r s
  | .telegram r => Sys2Proof.Machine.execTelegram r s
  | .tmpCacheConfig r pick => Sys2Proof.Machine.execTmpCacheConfig r pick s
  | .tmpLabel r => Sys2Proof.Machine.execTmpLabel r s
  | .tmpEpoch r pick => Sys2Proof.Machine.execTmpEpoch r pick s
  | .epoch pick => Sys2Proof.Machine.execEpoch pick s
  | .minibatchStart => Sys2Proof.Machine.execMinibatchStart s
  | .minibatchCommit => Sys2Proof.Machine.execMinibatchCommit s
  | .tmpEpochDone params pick => Sys2Proof.Machine.execTmpEpochDone params pick s
  | .tmpShadow r pick => Sys2Proof.Machine.execTmpShadow r pick s
  | .tmpPromote r => Sys2Proof.Machine.execTmpPromote r s
  | .tmpRollback r => Sys2Proof.Machine.execTmpRollback r s
  | .tmpList r => Sys2Proof.Machine.execTmpList r s
  | .fltLogRead r => Sys2Proof.Machine.execFltLogRead r s
  | .fltStatus r => Sys2Proof.Machine.execFltStatus r s
  | .fltConfig r => Sys2Proof.Machine.execFltConfig r s
  | .fltInject r => Sys2Proof.Machine.execFltInject r s
  | .faultInjectionFire index => Sys2Proof.Machine.execFaultInjectionFire index s
  | .ctrlFault lockstep journalOk t => Sys2Proof.Machine.execCtrlFault lockstep journalOk t s
  | .fltCtrlRestart journalOk => Sys2Proof.Machine.execFltCtrlRestart journalOk s
  | .mgmtRestart t => Sys2Proof.Machine.execMgmtRestart t s
  | .pwrStatus r => Sys2Proof.Machine.execPwrStatus r s
  | .thermStatus r => Sys2Proof.Machine.execThermStatus r s
  | .pwrDomain r => Sys2Proof.Machine.execPwrDomain r s
  | .pwrSagSet r => Sys2Proof.Machine.execPwrSagSet r s
  | .pwrAvsBounds r => Sys2Proof.Machine.execPwrAvsBounds r s
  | .supplyLost input mv => Sys2Proof.Machine.execSupplyLost input mv s
  | .inputOvervoltage input mv => Sys2Proof.Machine.execInputOvervoltage input mv s
  | .sagWarn mv t => Sys2Proof.Machine.execSagWarn mv t s
  | .sagClear mv t => Sys2Proof.Machine.execSagClear mv t s
  | .sagReset mv t => Sys2Proof.Machine.execSagReset mv t s
  | .sagPowerUp mv t => Sys2Proof.Machine.execSagPowerUp mv t s
  | .railWarn rail mv t => Sys2Proof.Machine.execRailWarn rail mv t s
  | .railClear rail mv t => Sys2Proof.Machine.execRailClear rail mv t s
  | .railReset rail mv t => Sys2Proof.Machine.execRailReset rail mv t s
  | .pllLoss pll t => Sys2Proof.Machine.execPllLoss pll t s
  | .thermWarn temps t => Sys2Proof.Machine.execThermWarn temps t s
  | .thermClear temps t => Sys2Proof.Machine.execThermClear temps t s
  | .thermThrottle quadrant up temp t => Sys2Proof.Machine.execThermThrottle quadrant up temp t s
  | .thermalShutdown temps t => Sys2Proof.Machine.execThermalShutdown temps t s
  | .thermalCutoff temps t => Sys2Proof.Machine.execThermalCutoff temps t s
  | .fanFail fan rpm => Sys2Proof.Machine.execFanFail fan rpm s
  | .avsAdaptation quadrant proposed critical t => Sys2Proof.Machine.execAvsAdaptation quadrant proposed critical t s
  | .powerOn mv t => Sys2Proof.Machine.execPowerOn mv t s
  | .bootStepComplete report t => Sys2Proof.Machine.execBootStepComplete report t s
  | .keeperOverrun => Sys2Proof.Machine.execKeeperOverrun s
  | .recordWriteStart t => Sys2Proof.Machine.execRecordWriteStart t s
  | .recordPageDone verifyOk t => Sys2Proof.Machine.execRecordPageDone verifyOk t s
  | .recRead r => Sys2Proof.Machine.execRecRead r s
  | .bootStatus r => Sys2Proof.Machine.execBootStatus r s
  | .recConfig r => Sys2Proof.Machine.execRecConfig r s
  | .bootSlotWrite r => Sys2Proof.Machine.execBootSlotWrite r s
  | .bootSlotSelect r => Sys2Proof.Machine.execBootSlotSelect r s
  | .bootSlotConfirm r => Sys2Proof.Machine.execBootSlotConfirm r s
  | .bootKeysLoad r => Sys2Proof.Machine.execBootKeysLoad r s
  | .rtcSet r => Sys2Proof.Machine.execRtcSet r s
  | .ptbInterpolation t => Sys2Proof.Machine.execPtbInterpolation t s
  | .keeperSample a b => Sys2Proof.Machine.execKeeperSample a b s
  | .dioInputSample channel mv ua t => Sys2Proof.Machine.execDioInputSample channel mv ua t s
  | .couplerStatusFrame channel crcOk meas t => Sys2Proof.Machine.execCouplerStatusFrame channel crcOk meas t s
  | .supplyRestored input mv => Sys2Proof.Machine.execSupplyRestored input mv s
  | .mgmtSupplyLoss inputs => Sys2Proof.Machine.execMgmtSupplyLoss inputs s
  | .mgmtSupplyReturn input mv => Sys2Proof.Machine.execMgmtSupplyReturn input mv s
  | .mgmtRestartDone t => Sys2Proof.Machine.execMgmtRestartDone t s
  | .keeperPowerLoss => Sys2Proof.Machine.execKeeperPowerLoss s
  | .keeperLow low => Sys2Proof.Machine.execKeeperLow low s
  | .sectorEraseDone sector ok => Sys2Proof.Machine.execSectorEraseDone sector ok s
  | .sidebandLink up => Sys2Proof.Machine.execSidebandLink up s

end Sys2Proof.Machine
end

