-- ==== Sys2Proof/Machine/Step.lean ====
section
/-! DEFINITION. One step of the block: the command at the front of the queue, or one PTB_CLK cycle of idling. -/

namespace Sys2Proof.Machine

open Sys2Proof

/-- One cycle of the platform's clock passes and nothing is commanded (DESIGN CHOICE, the log's entry on time: events
that happen at an instant carry it, so the idle cycle advances the clock alone). -/
def idle (s : State) : State := { s with now := s.now + 1 }

/-- One step: take the command at the front of the queue and carry it out on the rest, or idle. -/
def step (s : State) : Host.Outcome State Fault Refusal :=
  match s.pending with
  | [] => .next (idle s)
  | c :: cs => exec c { s with pending := cs }

/-- The state with the command a word spells put at the front of the queue; no row of the table has bits, so no word
spells one and the state stays as it is. -/
def State.withFetchWord (s : State) (nbits w : Nat) : State :=
  match decodeTableWord nbits w with
  | none => s
  | some c => { s with pending := c :: s.pending }

end Sys2Proof.Machine
end

