-- ==== Sys2Proof/Safety.lean ====
section
/-! DEFINITION. What the statements about the machine are made of: the parts of State and what it means to leave one alone,
the invariant of every state, what no command takes back, and when an outstanding packet's opcode is carried out. -/

namespace Sys2Proof.Machine

open Sys2Proof

/-! ## Frames -/

/-- The parts of State a command can change, by chapter; the queue is not among them. -/
inductive Chapter where
  | now | emitted | host | pos | led | kw | lanes | pln | fab | draw | asy | hm | dio | rcp | flt | pwr | boot
deriving DecidableEq, Repr

/-- Two states agree on a part. -/
def Chapter.same (p : Chapter) (s t : State) : Prop :=
  match p with
  | .now => t.now = s.now
  | .emitted => t.emitted = s.emitted
  | .host => t.host = s.host
  | .pos => t.pos = s.pos
  | .led => t.led = s.led
  | .kw => t.kw = s.kw
  | .lanes => t.lanes = s.lanes
  | .pln => t.pln = s.pln
  | .fab => t.fab = s.fab
  | .draw => t.draw = s.draw
  | .asy => t.asy = s.asy
  | .hm => t.hm = s.hm
  | .dio => t.dio = s.dio
  | .rcp => t.rcp = s.rcp
  | .flt => t.flt = s.flt
  | .pwr => t.pwr = s.pwr
  | .boot => t.boot = s.boot

/-- Every part outside the list is unchanged. -/
def Frame (l : List Chapter) (s t : State) : Prop := ∀ p, p ∉ l → p.same s t

/-- The parts a command may change: those its rules name, with the parts that replies (`kw`, `host`, `emitted`, and `fab` for a
list withdrawn before its commit), notices and log entries (`flt`) are written to. -/
def touches (c : Instr) : List Chapter :=
  match c with
  | .descriptorFetch _ _ _ => [.now, .emitted, .host, .kw, .fab]
  | .sidebandDatagram _ _ => [.now, .emitted, .kw]
  | .sidebandCacheExpiry _ _ _ => [.now, .kw]
  | .noticeDelivery _ => [.emitted, .host, .kw, .fab]
  | .irqCoalesceTimeout _ => [.now, .emitted, .kw]
  | .packetTimeLimit _ => [.now, .emitted, .host, .kw, .fab]
  | .deadlineExpiry _ => [.emitted, .host, .kw, .fab]
  | .kwSqDbWrite _ _ _ => [.emitted, .host, .kw, .fab]
  | .kwCqDbWrite _ _ => [.emitted, .kw, .fab]
  | .ringEnable _ => [.emitted, .host, .kw, .fab]
  | .ringDisable _ => [.emitted, .host, .kw, .fab]
  | .kwIrqCoalWrite _ _ => [.emitted, .kw]
  | .msixUnmask _ _ => [.emitted, .kw]
  | .w1cClear _ _ _ _ => [.pos, .led, .kw, .lanes, .pln, .fab, .draw, .asy, .hm, .dio, .rcp, .flt, .pwr, .boot]
  | .rcRead _ _ _ => [.emitted, .pos, .led, .kw, .lanes, .pln, .fab, .draw, .asy, .hm, .dio, .rcp, .flt, .pwr, .boot]
  | .rsLowRead _ _ _ => [.emitted, .pos, .led, .kw, .lanes, .pln, .fab, .draw, .asy, .hm, .dio, .rcp, .flt, .pwr, .boot]
  | .plnStatRidxWrite _ _ => [.pln]
  | .registerWrite _ _ _ _ => [.emitted, .host, .pos, .led, .kw, .lanes, .pln, .fab, .draw, .asy, .hm, .dio, .rcp, .flt, .pwr, .boot]
  | .barAccessError _ _ _ _ => [.emitted, .kw]
  | .functionLevelReset _ => [.emitted, .host, .kw, .fab]
  | .numvfsReduce _ => [.emitted, .host, .pos, .led, .kw, .pln, .fab, .draw, .asy, .hm, .rcp, .flt]
  | .hostLinkLoss _ => [.now, .emitted, .host, .kw, .fab, .flt]
  | .hostLossRelease => [.now, .emitted, .host, .pos, .led, .kw, .pln, .fab, .draw, .asy, .hm, .rcp, .flt]
  | .hostLinkReturn _ => [.now, .emitted, .kw]
  | .sysStatus _ => [.emitted, .host, .kw, .fab]
  | .sysIdentify _ => [.emitted, .host, .kw, .fab]
  | .sysFence _ => [.emitted, .host, .kw, .fab]
  | .sysOutcomes _ => [.emitted, .host, .kw, .fab]
  | .sysReset _ => [.emitted, .host, .pos, .led, .kw, .lanes, .pln, .fab, .draw, .asy, .hm, .dio, .rcp, .flt, .pwr, .boot]
  | .tenConfig _ => [.emitted, .host, .kw, .fab]
  | .sysHostlossSet _ => [.emitted, .host, .kw, .fab, .boot]
  | .posStatus _ => [.emitted, .host, .kw, .fab]
  | .posScaleSet _ => [.emitted, .host, .pos, .kw, .fab, .boot]
  | .posEncConfig _ => [.emitted, .host, .pos, .kw, .pln, .fab, .flt, .boot]
  | .posWindowSet _ => [.emitted, .host, .pos, .kw, .pln, .fab, .flt]
  | .posPreset _ => [.emitted, .host, .pos, .kw, .pln, .fab, .flt]
  | .posSsiConfig _ => [.emitted, .host, .pos, .kw, .pln, .fab, .flt, .boot]
  | .ledgStatus _ => [.emitted, .host, .kw, .fab]
  | .ledgConfig _ => [.emitted, .host, .led, .kw, .fab]
  | .ledgRelease _ => [.emitted, .host, .pos, .led, .kw, .pln, .fab, .draw, .asy, .hm, .rcp, .flt]
  | .ledgList _ => [.emitted, .host, .kw, .fab]
  | .masterEdge _ _ => [.now, .emitted, .host, .pos, .kw, .fab, .flt]
  | .auxEncoderEdge _ _ _ => [.now, .emitted, .host, .pos, .kw, .fab, .flt]
  | .zEdgeCapture _ _ => [.now, .emitted, .host, .pos, .kw, .lanes, .fab, .flt, .boot]
  | .speedUpdate _ => [.now, .emitted, .host, .pos, .kw, .fab, .flt]
  | .stationaryTimeout => [.now, .pos]
  | .windowBoundary _ => [.emitted, .host, .pos, .led, .kw, .lanes, .pln, .fab, .draw, .asy, .hm, .dio, .rcp, .flt, .boot]
  | .triggerFire _ => [.emitted, .lanes, .pln, .rcp]
  | .triggerMessageSend _ => [.now, .emitted, .lanes]
  | .camramBlockReceived _ _ _ => [.emitted, .host, .pos, .led, .kw, .lanes, .pln, .fab, .draw, .asy, .hm, .dio, .rcp, .flt, .boot]
  | .camramPacketReceived _ => [.emitted, .host, .kw, .lanes, .pln, .fab, .flt]
  | .cxpPacketReceived _ _ => [.emitted, .host, .kw, .lanes, .pln, .fab, .flt]
  | .cxpAlignmentLoss _ => [.emitted, .host, .pos, .led, .kw, .lanes, .pln, .fab, .draw, .asy, .hm, .dio, .rcp, .flt, .boot]
  | .detectProbe _ _ => [.now, .emitted, .lanes]
  | .trainResend _ => [.now, .emitted, .lanes]
  | .bitLock _ => [.lanes]
  | .prbsTrainVerified _ => [.emitted, .lanes]
  | .blockLock _ => [.lanes]
  | .capExchange _ _ => [.emitted, .host, .kw, .lanes, .fab, .flt]
  | .bringupTimeout _ => [.now, .emitted, .lanes]
  | .capFaultRetry _ => [.now, .lanes]
  | .cxpDetectAligned _ _ _ => [.lanes]
  | .cxpDiscoverAck _ => [.lanes]
  | .cxpResyncDone _ => [.emitted, .host, .kw, .lanes, .fab, .flt]
  | .cxpBringupTimeout _ => [.now, .lanes]
  | .controlReply _ _ _ => [.emitted, .host, .kw, .lanes, .fab]
  | .controlXactTimeout _ => [.now, .emitted, .host, .kw, .lanes, .fab]
  | .prbsCheckerLock _ => [.emitted, .lanes]
  | .prbsLockLoss _ _ _ => [.emitted, .lanes]
  | .eyescanDone _ _ => [.emitted, .host, .kw, .lanes, .fab]
  | .eqAdaptation _ _ _ _ _ => [.now, .emitted, .host, .kw, .lanes, .fab, .flt]
  | .laneStatus _ => [.emitted, .host, .kw, .fab]
  | .laneConfig _ => [.emitted, .host, .kw, .lanes, .fab]
  | .laneEnable _ => [.emitted, .host, .kw, .lanes, .pln, .fab, .flt]
  | .laneTriggerConfig _ => [.emitted, .host, .pos, .kw, .lanes, .pln, .fab, .flt]
  | .laneCtrlXact _ => [.emitted, .host, .kw, .lanes, .fab]
  | .lanePrbs _ _ _ => [.emitted, .host, .kw, .lanes, .fab]
  | .laneInject _ => [.emitted, .host, .kw, .lanes, .fab]
  | .laneLoopback _ => [.emitted, .host, .kw, .lanes, .fab]
  | .laneEyescan _ => [.emitted, .host, .kw, .lanes, .fab]
  | .laneEqBounds _ => [.emitted, .host, .kw, .lanes, .fab]
  | .laneUnretire _ => [.emitted, .host, .kw, .lanes, .fab, .flt, .boot]
  | .slotTimeout _ _ => [.now, .pln]
  | .scanLineConceal _ _ => [.emitted, .host, .kw, .pln, .fab, .draw, .flt]
  | .scanLineProcess _ _ => [.emitted, .host, .kw, .pln, .fab, .draw, .flt]
  | .tilePlace _ _ _ => [.led, .pln, .fab, .draw, .hm, .rcp]
  | .tapEnd _ => [.emitted, .host, .pos, .led, .kw, .pln, .fab, .draw, .asy, .hm, .rcp, .flt]
  | .plnStatus _ => [.emitted, .host, .kw, .fab]
  | .plnChannelConfig _ => [.emitted, .host, .kw, .pln, .fab]
  | .plnViewConfig _ => [.emitted, .host, .kw, .pln, .fab]
  | .plnCalLoad _ => [.emitted, .host, .kw, .fab, .draw, .flt]
  | .plnFilterConfig _ => [.emitted, .host, .pos, .kw, .pln, .fab, .flt]
  | .plnLevelBounds _ => [.emitted, .host, .pos, .kw, .pln, .fab, .flt]
  | .plnStatConfig _ => [.emitted, .host, .kw, .pln, .fab]
  | .plnTapOpen _ _ => [.emitted, .host, .pos, .led, .kw, .pln, .fab, .draw, .asy, .hm, .rcp, .flt]
  | .plnTapClose _ => [.emitted, .host, .pos, .led, .kw, .pln, .fab, .draw, .asy, .hm, .rcp, .flt]
  | .calDark _ => [.emitted, .host, .pos, .kw, .pln, .fab, .draw, .flt]
  | .calFlat _ => [.emitted, .host, .pos, .kw, .pln, .fab, .draw, .flt]
  | .calDefect _ => [.emitted, .host, .pos, .kw, .pln, .fab, .draw, .flt]
  | .tileDispatch _ _ => [.now, .fab]
  | .tileComplete _ _ _ _ => [.now, .emitted, .host, .pos, .led, .kw, .lanes, .pln, .fab, .draw, .asy, .hm, .dio, .rcp, .flt, .boot]
  | .certOverrun _ _ => [.now, .emitted, .host, .pos, .led, .kw, .lanes, .pln, .fab, .draw, .asy, .hm, .dio, .rcp, .flt, .boot]
  | .benchPrivateFault _ _ _ _ => [.now, .emitted, .host, .pos, .led, .kw, .lanes, .pln, .fab, .draw, .asy, .hm, .dio, .rcp, .flt, .boot]
  | .benchResetDone _ _ => [.emitted, .host, .pos, .led, .kw, .lanes, .pln, .fab, .draw, .asy, .hm, .dio, .rcp, .flt, .boot]
  | .chipWideFault _ _ => [.now, .led, .fab, .draw, .hm, .rcp, .flt]
  | .fabChipLoss => [.emitted, .host, .pos, .led, .kw, .lanes, .pln, .fab, .draw, .asy, .hm, .dio, .rcp, .flt, .boot]
  | .nocLinkError _ _ => [.now, .led, .fab, .draw, .hm, .rcp, .flt]
  | .benchLoadDone _ => [.emitted, .host, .pos, .led, .kw, .pln, .fab, .draw, .asy, .hm, .rcp, .flt]
  | .fabApplied _ => [.emitted, .host, .kw, .fab, .rcp, .flt]
  | .fabStatus _ => [.emitted, .host, .kw, .fab]
  | .benchBuild _ _ => [.emitted, .host, .pos, .led, .kw, .pln, .fab, .draw, .asy, .hm, .rcp, .flt]
  | .benchRebuild _ => [.emitted, .host, .pos, .led, .kw, .pln, .fab, .draw, .asy, .hm, .rcp, .flt]
  | .benchRelease _ => [.emitted, .host, .pos, .led, .kw, .pln, .fab, .draw, .asy, .hm, .rcp, .flt]
  | .benchReset _ => [.emitted, .host, .led, .kw, .fab, .hm, .rcp]
  | .benchReadmit _ _ => [.emitted, .host, .pos, .led, .kw, .pln, .fab, .draw, .asy, .hm, .rcp, .flt]
  | .fabList _ => [.emitted, .host, .kw, .fab, .draw, .flt]
  | .stakeUnretire _ => [.emitted, .host, .led, .kw, .fab, .flt, .boot]
  | .listStart _ => [.emitted, .host, .kw, .fab]
  | .nop _ => [.emitted, .host, .pos, .kw, .fab]
  | .waitEvent _ _ => [.emitted, .host, .pos, .kw, .fab]
  | .signalEvent _ => [.emitted, .host, .pos, .kw, .fab]
  | .writeStamp _ _ => [.emitted, .host, .pos, .kw, .fab, .draw]
  | .loadParams _ => [.emitted, .host, .pos, .kw, .fab, .draw, .flt]
  | .selectParams => [.emitted, .host, .pos, .kw, .fab]
  | .runTiles _ => [.emitted, .host, .pos, .led, .kw, .lanes, .pln, .fab, .draw, .asy, .hm, .dio, .rcp, .flt, .boot]
  | .copy _ _ => [.emitted, .host, .pos, .kw, .fab, .draw, .flt]
  | .fill _ => [.emitted, .host, .pos, .kw, .fab, .draw]
  | .check _ _ => [.emitted, .host, .pos, .kw, .fab, .draw, .flt]
  | .memoryGrant _ _ _ _ _ => [.now, .emitted, .host, .pos, .led, .kw, .lanes, .pln, .fab, .draw, .asy, .hm, .dio, .rcp, .flt, .boot]
  | .requestAging _ => [.now, .draw]
  | .ingotReread _ _ _ _ => [.now, .emitted, .host, .pos, .led, .kw, .lanes, .pln, .fab, .draw, .asy, .hm, .dio, .rcp, .flt, .boot]
  | .channelTimeout _ _ _ _ _ => [.now, .emitted, .host, .pos, .led, .kw, .lanes, .pln, .fab, .draw, .asy, .hm, .dio, .rcp, .flt, .boot]
  | .patrolScrub _ _ => [.emitted, .draw]
  | .drawStatus _ => [.emitted, .host, .kw, .fab]
  | .drawAlloc _ _ _ => [.emitted, .host, .kw, .fab, .draw]
  | .drawFree _ => [.emitted, .host, .kw, .fab, .draw]
  | .drawList _ => [.emitted, .host, .kw, .fab, .draw, .flt]
  | .drawStreamOpen _ _ => [.emitted, .host, .pos, .led, .kw, .pln, .fab, .draw, .asy, .hm, .rcp, .flt]
  | .drawStreamClose _ => [.emitted, .host, .pos, .led, .kw, .pln, .fab, .draw, .asy, .hm, .rcp, .flt]
  | .drawRangeSet _ => [.emitted, .host, .kw, .fab, .draw]
  | .drawPortMode _ => [.emitted, .host, .kw, .fab, .draw]
  | .drawChanUnretire _ => [.emitted, .host, .kw, .fab, .draw, .flt, .boot]
  | .asyStatus _ => [.emitted, .host, .kw, .fab]
  | .asyLibDefine _ => [.emitted, .host, .kw, .fab, .asy]
  | .asyList _ => [.emitted, .host, .kw, .fab, .draw, .flt]
  | .sort _ => [.emitted, .host, .pos, .kw, .fab, .draw, .asy, .flt]
  | .merge _ => [.emitted, .host, .pos, .kw, .fab, .draw, .asy, .flt]
  | .topk _ => [.emitted, .host, .pos, .kw, .fab, .draw, .asy, .flt]
  | .nms _ => [.emitted, .host, .pos, .kw, .fab, .draw, .asy, .flt]
  | .nnSearch _ _ => [.emitted, .host, .pos, .kw, .fab, .draw, .asy, .flt]
  | .libLoad _ => [.emitted, .host, .pos, .kw, .fab, .draw, .asy, .flt]
  | .assayRtComplete _ _ => [.emitted, .host, .kw, .fab, .asy, .hm, .rcp, .flt]
  | .tileResultIngest _ => [.asy, .hm, .rcp]
  | .verdictIssue _ _ => [.emitted, .host, .kw, .fab, .draw, .asy, .hm, .rcp, .flt]
  | .verdictDeadline _ _ => [.emitted, .host, .kw, .fab, .draw, .hm, .rcp, .flt]
  | .plateMaxLenClose _ => [.hm]
  | .actuationSwitchOn _ _ _ => [.now, .emitted, .host, .led, .kw, .fab, .draw, .hm, .dio, .rcp, .flt]
  | .pulseSwitchOff _ _ => [.now, .emitted, .host, .led, .kw, .fab, .draw, .hm, .dio, .rcp, .flt]
  | .pulseCapExpiry _ => [.now, .emitted, .host, .led, .kw, .fab, .draw, .hm, .dio, .rcp, .flt]
  | .interlockSkip _ => [.emitted, .host, .led, .kw, .fab, .draw, .hm, .rcp, .flt]
  | .hmStatus _ => [.emitted, .host, .kw, .fab]
  | .hmRingSet _ => [.emitted, .host, .kw, .fab, .hm, .rcp]
  | .hmActSchedule _ _ => [.emitted, .host, .pos, .led, .kw, .pln, .fab, .draw, .asy, .hm, .rcp, .flt]
  | .hmActCancel _ => [.emitted, .host, .pos, .led, .kw, .pln, .fab, .draw, .asy, .hm, .rcp, .flt]
  | .hmPlateEdge _ => [.emitted, .host, .kw, .fab, .hm, .rcp]
  | .hmList _ => [.emitted, .host, .kw, .fab, .draw, .flt]
  | .actEnqueue _ => [.emitted, .host, .pos, .led, .kw, .pln, .fab, .draw, .asy, .hm, .rcp, .flt]
  | .inputEdgeAccept _ _ => [.now, .emitted, .host, .kw, .fab, .hm, .dio, .rcp, .flt]
  | .dioBreak _ _ => [.now, .emitted, .host, .kw, .fab, .dio, .flt]
  | .dioOpenload _ => [.emitted, .host, .kw, .fab, .dio, .flt]
  | .openloadClear _ => [.dio]
  | .dioShort _ _ _ => [.now, .emitted, .host, .pos, .led, .kw, .lanes, .pln, .fab, .draw, .asy, .hm, .dio, .rcp, .flt, .boot]
  | .feedTrip _ _ _ _ => [.now, .emitted, .host, .pos, .led, .kw, .lanes, .pln, .fab, .draw, .asy, .hm, .dio, .rcp, .flt, .boot]
  | .feedReclose _ => [.now, .dio]
  | .couplerFrameError _ _ _ => [.now, .emitted, .host, .pos, .led, .kw, .lanes, .pln, .fab, .draw, .asy, .hm, .dio, .rcp, .flt, .boot]
  | .linkWatchdog _ => [.now, .emitted, .host, .led, .kw, .fab, .draw, .hm, .dio, .rcp, .flt]
  | .linkCauseClear _ => [.now, .emitted, .host, .led, .kw, .fab, .draw, .hm, .dio, .rcp, .flt]
  | .fieldSupply _ _ _ => [.now, .emitted, .host, .pos, .led, .kw, .fab, .draw, .hm, .dio, .rcp, .flt, .boot]
  | .supplyCauseClear _ => [.now, .emitted, .host, .led, .kw, .fab, .draw, .hm, .dio, .rcp, .flt]
  | .dioStatus _ => [.emitted, .host, .kw, .fab]
  | .dioConfig _ => [.emitted, .host, .led, .kw, .fab, .draw, .hm, .dio, .rcp]
  | .dioUnretire _ => [.emitted, .host, .kw, .fab, .dio, .flt, .boot]
  | .dioSafeAssert _ => [.emitted, .host, .led, .kw, .fab, .draw, .hm, .dio, .rcp, .flt]
  | .dioSafeRelease _ => [.emitted, .host, .led, .kw, .fab, .draw, .hm, .dio, .rcp, .flt]
  | .rcpStatus _ => [.emitted, .host, .kw, .fab]
  | .recipeLoad _ _ => [.emitted, .host, .pos, .led, .kw, .pln, .fab, .draw, .asy, .hm, .rcp, .flt]
  | .recipeActivate _ => [.emitted, .host, .kw, .fab, .rcp]
  | .recipeRelease _ => [.emitted, .host, .pos, .led, .kw, .pln, .fab, .draw, .asy, .hm, .rcp, .flt]
  | .recipeSwitch _ => [.emitted, .host, .kw, .fab, .hm, .rcp, .flt]
  | .checkpoint _ => [.now, .rcp, .boot]
  | .tokDictLoad _ => [.emitted, .host, .kw, .fab, .rcp]
  | .tokSelectSet _ => [.emitted, .host, .kw, .fab, .rcp]
  | .telegram _ => [.emitted, .host, .kw, .fab, .rcp, .flt]
  | .tmpCacheConfig _ _ => [.emitted, .host, .pos, .led, .kw, .pln, .fab, .draw, .asy, .hm, .rcp, .flt]
  | .tmpLabel _ => [.emitted, .host, .kw, .fab, .draw, .rcp]
  | .tmpEpoch _ _ => [.emitted, .host, .pos, .led, .kw, .pln, .fab, .draw, .asy, .hm, .rcp, .flt]
  | .epoch _ => [.emitted, .host, .pos, .led, .kw, .pln, .fab, .draw, .asy, .hm, .rcp, .flt]
  | .minibatchStart => [.rcp]
  | .minibatchCommit => [.kw, .rcp]
  | .tmpEpochDone _ _ => [.emitted, .host, .pos, .led, .kw, .fab, .draw, .rcp, .flt]
  | .tmpShadow _ _ => [.emitted, .host, .pos, .led, .kw, .pln, .fab, .draw, .asy, .hm, .rcp, .flt]
  | .tmpPromote _ => [.emitted, .host, .kw, .fab]
  | .tmpRollback _ => [.emitted, .host, .kw, .fab]
  | .tmpList _ => [.emitted, .host, .kw, .fab, .draw, .flt]
  | .fltLogRead _ => [.emitted, .host, .kw, .fab, .flt]
  | .fltStatus _ => [.emitted, .host, .kw, .fab]
  | .fltConfig _ => [.emitted, .host, .kw, .fab, .flt, .boot]
  | .fltInject _ => [.emitted, .host, .kw, .fab, .flt]
  | .faultInjectionFire _ => [.emitted, .host, .pos, .led, .kw, .lanes, .pln, .fab, .draw, .asy, .hm, .dio, .rcp, .flt, .boot]
  | .ctrlFault _ _ _ => [.now, .emitted, .host, .led, .kw, .lanes, .pln, .fab, .draw, .hm, .dio, .rcp, .flt]
  | .fltCtrlRestart _ => [.emitted, .host, .pos, .led, .kw, .lanes, .pln, .fab, .draw, .asy, .hm, .dio, .rcp, .flt, .boot]
  | .mgmtRestart _ => [.now, .flt, .pwr]
  | .pwrStatus _ => [.emitted, .host, .kw, .fab]
  | .thermStatus _ => [.emitted, .host, .kw, .fab]
  | .pwrDomain _ => [.emitted, .host, .pos, .led, .kw, .lanes, .pln, .fab, .draw, .asy, .hm, .dio, .rcp, .flt, .pwr]
  | .pwrSagSet _ => [.emitted, .host, .pos, .led, .kw, .pln, .fab, .draw, .asy, .hm, .dio, .rcp, .flt, .pwr, .boot]
  | .pwrAvsBounds _ => [.emitted, .host, .kw, .fab, .pwr]
  | .supplyLost _ _ => [.emitted, .host, .kw, .fab, .flt, .pwr]
  | .inputOvervoltage _ _ => [.emitted, .host, .kw, .fab, .flt, .pwr]
  | .sagWarn _ _ => [.now, .emitted, .host, .pos, .led, .kw, .pln, .fab, .draw, .asy, .hm, .dio, .rcp, .flt, .pwr, .boot]
  | .sagClear _ _ => [.now, .emitted, .host, .led, .kw, .fab, .draw, .hm, .dio, .rcp, .flt, .pwr, .boot]
  | .sagReset _ _ => [.now, .emitted, .host, .pos, .led, .kw, .lanes, .pln, .fab, .draw, .asy, .hm, .dio, .rcp, .flt, .pwr, .boot]
  | .sagPowerUp _ _ => [.now, .pwr, .boot]
  | .railWarn _ _ _ => [.now, .emitted, .host, .pos, .led, .kw, .pln, .fab, .draw, .asy, .hm, .dio, .rcp, .flt, .pwr, .boot]
  | .railClear _ _ _ => [.now, .emitted, .host, .led, .kw, .fab, .draw, .hm, .dio, .rcp, .flt, .pwr, .boot]
  | .railReset _ _ _ => [.now, .emitted, .host, .pos, .led, .kw, .lanes, .pln, .fab, .draw, .asy, .hm, .dio, .rcp, .flt, .pwr, .boot]
  | .pllLoss _ _ => [.now, .emitted, .host, .pos, .led, .kw, .lanes, .pln, .fab, .draw, .asy, .hm, .dio, .rcp, .flt, .pwr, .boot]
  | .thermWarn _ _ => [.now, .emitted, .host, .led, .kw, .fab, .flt, .pwr]
  | .thermClear _ _ => [.now, .emitted, .host, .led, .kw, .fab, .flt, .pwr]
  | .thermThrottle _ _ _ _ => [.now, .emitted, .host, .pos, .led, .kw, .pln, .fab, .draw, .asy, .hm, .rcp, .flt, .pwr]
  | .thermalShutdown _ _ => [.now, .emitted, .host, .pos, .led, .kw, .lanes, .pln, .fab, .draw, .asy, .hm, .dio, .rcp, .flt, .pwr, .boot]
  | .thermalCutoff _ _ => [.now, .emitted, .pos, .led, .kw, .lanes, .pln, .fab, .draw, .asy, .hm, .dio, .rcp, .flt, .pwr, .boot]
  | .fanFail _ _ => [.emitted, .host, .kw, .fab, .flt, .pwr]
  | .avsAdaptation _ _ _ _ => [.now, .emitted, .host, .pos, .led, .kw, .pln, .fab, .draw, .asy, .hm, .rcp, .flt, .pwr]
  | .powerOn _ _ => [.now, .kw, .pwr, .boot]
  | .bootStepComplete _ _ => [.now, .emitted, .host, .pos, .led, .kw, .lanes, .pln, .fab, .draw, .asy, .hm, .dio, .rcp, .flt, .pwr, .boot]
  | .keeperOverrun => [.pos, .boot]
  | .recordWriteStart _ => [.now, .boot]
  | .recordPageDone _ _ => [.now, .emitted, .host, .kw, .fab, .flt, .boot]
  | .recRead _ => [.emitted, .host, .kw, .fab]
  | .bootStatus _ => [.emitted, .host, .kw, .fab]
  | .recConfig _ => [.emitted, .host, .kw, .fab, .boot]
  | .bootSlotWrite _ => [.emitted, .host, .kw, .fab, .boot]
  | .bootSlotSelect _ => [.emitted, .host, .kw, .fab, .boot]
  | .bootSlotConfirm _ => [.emitted, .host, .kw, .fab, .boot]
  | .bootKeysLoad _ => [.emitted, .host, .kw, .fab, .boot]
  | .rtcSet _ => [.emitted, .host, .kw, .fab, .boot]
  | .ptbInterpolation _ => [.now, .emitted, .host, .pos, .kw, .fab, .flt]
  | .keeperSample _ _ => [.pos, .boot]
  | .dioInputSample _ _ _ _ => [.now, .emitted, .host, .kw, .fab, .hm, .dio, .rcp, .flt]
  | .couplerStatusFrame _ _ _ _ => [.now, .dio]
  | .supplyRestored _ _ => [.pwr]
  | .mgmtSupplyLoss _ => [.emitted, .host, .pos, .led, .kw, .fab, .draw, .hm, .dio, .rcp, .flt, .pwr, .boot]
  | .mgmtSupplyReturn _ _ => [.emitted, .host, .pos, .led, .kw, .lanes, .fab, .draw, .hm, .dio, .rcp, .flt, .pwr, .boot]
  | .mgmtRestartDone _ => [.now, .flt, .pwr]
  | .keeperPowerLoss => [.flt, .pwr, .boot]
  | .keeperLow _ => [.pwr]
  | .sectorEraseDone _ _ => [.emitted, .host, .kw, .fab, .flt, .boot]
  | .sidebandLink _ => [.kw, .pwr]

/-! ## The invariant of every state -/

/-- The block's shape, and what its memories and fences always are. -/
structure Inv (s : State) : Prop where
  /-- both memories are in canonical form (log entry 11) -/
  hostMem : s.host.wf = true
  unitMem : s.draw.mem.wf = true
  /-- 64 tenants (03 R135), and no fence generation is 0 (03 R155) -/
  tenants : s.kw.tenants.length = 64
  fences : ∀ t ∈ s.kw.tenants, t.fence ≠ 0
  sbFence : s.kw.sbFence ≠ 0
  /-- 24 lanes (04 R180) and eight trigger generators (04 R191) -/
  lanes : s.lanes.lane.length = 24
  triggers : s.lanes.tg.length = 8
  /-- 32 channels, four views (05 R247, R248) -/
  channels : s.pln.chan.length = 32
  views : s.pln.view.length = 4
  /-- 16 benches (06 R292), four INGOT channels (07 R350) -/
  benches : s.fab.bench.length = 16
  ingot : s.draw.chan.length = 4
  /-- 32 discrete channels and 16 feeds (10 R470) -/
  dio : s.dio.chan.length = 32
  feeds : s.dio.feed.length = 16
  /-- 13 power domains (13 Table 13.2) -/
  domains : s.pwr.domains.length = 13

/-- What no command takes back: the queue is the sender's, time does not run backwards, what has left the unit has left it,
and nothing writes the one-time-programmable keys or the unit's identity (14 R657, R661). -/
structure Inherits (s t : State) : Prop where
  pending : t.pending = s.pending
  now : s.now ≤ t.now
  emitted : s.emitted <:+ t.emitted
  otpFw : t.boot.otpFw = s.boot.otpFw
  otpBundle : t.boot.otpBundle = s.boot.otpBundle
  identity : t.boot.identity = s.boot.identity

/-! ## When an opcode is carried out -/

/-- The outstanding packet `p` of reference `r` is carried out as `opcode` in this step: it may start, no limit has run out
before its commit (03 R152, R159, R160), and the checks every opcode makes first at step 14 pass. -/
def opStarts (opcode : Half) (r : Ref) (p : Packet) (s : State) : Bool :=
  decide (ready opcode r s = some p) && !(deadlineReached s p || tmoExpired s p) &&
  match opRow opcode.toNat with
  | some row => (gate p row s).isNone
  | none => false

/-! ## UTF-8 (11 R541; RFC 3629) -/

/-- A Unicode scalar value: no surrogate, nothing above U+10FFFF. -/
def isScalar (c : Nat) : Prop := c < 0xD800 ∨ 0xE000 ≤ c ∧ c ≤ 0x10FFFF

/-- The UTF-8 encoding of a scalar value. -/
def utf8Of (c : Nat) : Bytes :=
  (if c < 0x80 then [c]
   else if c < 0x800 then [0xC0 + c / 64, 0x80 + c % 64]
   else if c < 0x10000 then [0xE0 + c / 4096, 0x80 + c / 64 % 64, 0x80 + c % 64]
   else [0xF0 + c / 262144, 0x80 + c / 4096 % 64, 0x80 + c / 64 % 64, 0x80 + c % 64]).map (BitVec.ofNat 8)

end Sys2Proof.Machine
end

