-- ==== Sys2Proof/Certificates/Slice0/Obligations.lean ====
section
/-! DEFINITION. The statements about the unit, for the provers. Every clause about an opcode is about a packet `p` that is carried
out in this step (`opStarts`); `ok p res s` writes its reply with the result `res` and status OK (statement
RepliesReachTheirPrincipal says what that writes), so an equation `exec c s = .next (ok p res s')` gives the whole next state. -/

open Sys2Proof Sys2Proof.Machine

/-- For every command c, rest of the queue cs and state s whose queue is c followed by cs, one step answers what exec
answers for c on s with the queue cs. On an empty queue the step answers the state with the time one cycle later and
nothing else changed (the model's choice, log entry 2). -/
def Obligations.StepTakesTheFront : Prop :=
  (∀ (c : Instr) (cs : List Instr) (s : State), s.pending = c :: cs → step s = exec c { s with pending := cs }) ∧
  (∀ s : State, s.pending = [] → step s = .next { s with now := s.now + 1 })

/-- For every command and every state, exec answers a next state: no command of the unit faults and none is refused. A
command whose condition does not hold leaves the state as it is (log entry 7), and one the spec turns away is answered
with a status. -/
def Obligations.EveryCommandCompletes : Prop :=
  ∀ (c : Instr) (s : State), ∃ t, exec c s = .next t

/-- Right after reset both memories are in canonical form, there are 64 tenants whose fence generations are 1 and so not
0, 24 lanes, 8 trigger generators, 32 channels, 4 views, 16 benches, 4 INGOT channels, 32 discrete channels, 16 feeds
and 13 power domains. -/
def Obligations.ResetIsSound : Prop :=
  Inv State.reset

/-- From every state that satisfies the invariant Inv, a step that answers a next state answers one that satisfies it:
host memory and the unit's memory stay in canonical form, the unit keeps 64 tenants none of whose fence generations is
0, the sideband's generation is not 0, and the tables of lanes, triggers, channels, views, benches, INGOT channels,
discrete channels, feeds and power domains keep their sizes. -/
def Obligations.EveryStepKeepsInv : Prop :=
  ∀ s t : State, Inv s → step s = .next t → Inv t

/-- For every command and every state that satisfies Inv, the next state has the same queue, a time that is not earlier,
everything that has left the unit before still at the end of its list, and the same one-time-programmable keys and
identity. -/
def Obligations.NothingIsTakenBack : Prop :=
  ∀ (c : Instr) (s t : State), Inv s → exec c s = .next t → Inherits s t

/-- For every command c and every state s, the next state agrees with s on every chapter outside the list touches c: on
the encoders and position, the Ledger, the protocol engine, the lanes, PLANISH, the fabric, the memories, ASSAY,
HALLMARK, the field channels, the recipes, the fault state, power, start-up, host memory, what has been emitted and
the time. The list names the chapters the command's rules write, and those its replies, notices and log entries are
written to. -/
def Obligations.OnlyItsChapters : Prop :=
  ∀ (c : Instr) (s t : State), exec c s = .next t → Frame (touches c) s t

/-- When the rings of tenant n are live, the control processors run and the reply's writes end without error, an outcome
with a result of at most 32 bytes leaves the packet outstanding no more, writes the 64 bytes of the completion entry
(the reply's 56 bytes, then PHASE, then the CRC) at the ring's next slot of host memory, advances the tail, turns the
phase over at the ring's end, releases the reserved slot, and leaves every byte of host memory outside those 64 as it
was and every other chapter untouched but what it emits. Where a write would end in an error the ring is disabled with
DMA_ERR, the fence is bumped and the outcome is entered in the tenant's outcome log. An outcome of a tenant whose rings
are not live is entered in its outcome log and leaves host memory alone; while the control processors are held it waits;
an outcome of the sideband leaves the unit as one datagram from port 47310 to the address and port it came from, and is
kept for repeats. -/
def Obligations.RepliesReachTheirPrincipal : Prop :=
  (∀ (p : Packet) (st : Half) (fence sp : Word) (res : Bytes) (s : State), Inv s → p.principal < 64 → p.orphan = false →
    ringLive s p.principal = true → ctrlHeld s = false → replyBad (infoOf p st fence sp res) s = false → res.length ≤ 32 →
    let n := p.principal
    let t := ten s n
    let u := finish p st fence sp res s
    let entry := withCrc (padTo 56 (replyHead st p.tag p.opcode sp fence res.length p.sqSlot 0 ++ padTo 32 res) ++ le4 (b2n t.phase))
    findP p.ref u = none ∧ u.host = memWrite s.host (t.cqBase.toNat + 64 * t.cqTail) entry ∧ entry.length = 64 ∧
    (∀ a, a < t.cqBase.toNat + 64 * t.cqTail ∨ t.cqBase.toNat + 64 * t.cqTail + 64 ≤ a → memGet u.host a = memGet s.host a) ∧
    (ten u n).cqTail = (if t.cqTail + 1 = 2 ^ t.cqLog then 0 else t.cqTail + 1) ∧
    (ten u n).phase = (if t.cqTail + 1 = 2 ^ t.cqLog then !t.phase else t.phase) ∧
    (ten u n).reserved = t.reserved - 1 ∧ (ten u n).fence = t.fence ∧ Frame [.emitted, .host, .kw] s u) ∧
  (∀ (p : Packet) (st : Half) (fence sp : Word) (res : Bytes) (s : State), Inv s → p.principal < 64 → p.orphan = false →
    ringLive s p.principal = true → ctrlHeld s = false → replyBad (infoOf p st fence sp res) s = true →
    let u := finish p st fence sp res s
    findP p.ref u = none ∧ u.host = s.host ∧ (ten u p.principal).en = false ∧ (ten u p.principal).ringStatus.getLsbD 2 = true ∧
    (ten u p.principal).fence = nextFence (ten s p.principal).fence ∧
    (ten u p.principal).outcomes.getLast? = some { tag := p.tag, opcode := p.opcode, status := st, fence := fence, spos := sp } ∧
    Frame [.emitted, .kw, .fab] s u) ∧
  (∀ (p : Packet) (st : Half) (fence sp : Word) (res : Bytes) (s : State), Inv s → p.principal < 64 → ctrlHeld s = false →
    (ringLive s p.principal = false ∨ p.orphan = true) →
    let u := finish p st fence sp res s
    findP p.ref u = none ∧ u.host = s.host ∧ u.emitted = s.emitted ∧
    (ten u p.principal).outcomes.getLast? = some { tag := p.tag, opcode := p.opcode, status := st, fence := fence, spos := sp } ∧
    ((ten s p.principal).outcomes.length = 256 → (ten u p.principal).outcomes.length = 256) ∧ Frame [.kw] s u) ∧
  (∀ (p : Packet) (st : Half) (fence sp : Word) (res : Bytes) (s : State), p.principal < 64 → ctrlHeld s = true →
    let u := finish p st fence sp res s
    findP p.ref u = none ∧ u.kw.tenants = s.kw.tenants ∧ Frame [.kw] s u ∧
    u.kw.waitingReplies = s.kw.waitingReplies ++ [{ packet := p, status := st, result := res, fence := fence, spos := sp }]) ∧
  (∀ (p : Packet) (st : Half) (fence sp : Word) (res : Bytes) (s : State), p.principal = 64 →
    let u := finish p st fence sp res s
    findP p.ref u = none ∧ u.host = s.host ∧ u.kw.tenants = s.kw.tenants ∧
    (∃ b, u.emitted = .sideband p.sbAddr p.sbPort 47310 b :: s.emitted ∧
      (u.kw.sbCache.getLast?).map (fun e => (e.addr, e.port, e.tag, e.crc, e.reply)) = some (p.sbAddr, p.sbPort, p.tag, p.sbCrc, b)) ∧
    Frame [.emitted, .kw] s u)

/-- A descriptor that can be fetched, is well formed and names a valid packet makes that packet outstanding, with the
fields of its bytes, moves the head on and reserves a slot; where nothing can be fetched nothing happens. A datagram
that passes the filters is answered with the kept reply of its key, or, when new and valid, becomes outstanding; ARP and
ICMP echo are answered, one from an address that is not allowed is only counted, and one to another port or address, or
a fragment, changes nothing of the packets. A kept reply is kept no more 10 s after it was kept. A held notice takes a
free slot. Pending replies that have waited their time are signalled on vector 0. An uncommitted packet whose KW_TMO has
run out or whose deadline is reached ends with TIMED_OUT and is outstanding no more. -/
def Obligations.FetchAndSideband : Prop :=
  (∀ (n t : Nat) (dmaOk : Bool) (s : State), canFetch (s.at_ t) n = false → exec (.descriptorFetch n dmaOk t) s = .next (s.at_ t)) ∧
  (∀ (n t : Nat) (s : State), Inv s → n < 64 → canFetch (s.at_ t) n = true → s.kw.badHost = [] →
    let u := s.at_ t
    let d := memRead u.host ((ten u n).sqBase.toNat + 16 * (ten u n).sqHead) 16
    let b := memRead u.host (fld d 0 8) (fld d 8 2)
    let u1 := modTen n (fun t => { t with sqHead := (t.sqHead + 1) % 2 ^ t.sqLog, reserved := t.reserved + 1 }) u
    badDescriptor (fld d 0 8) (fld d 8 2) = false → validate n b u1 = none →
    ∃ v p, exec (.descriptorFetch n true t) s = .next v ∧ v.kw.outstanding = s.kw.outstanding ++ [p] ∧ p.principal = n ∧ p.raw = b ∧
      p.opcode.toNat = hOpcode b ∧ p.tag.toNat = hTag b ∧ p.params = hParams b ∧ p.started = false ∧ p.committed = false ∧
      p.fetchedAt = max s.now t ∧ (ten v n).sqHead = ((ten s n).sqHead + 1) % 2 ^ (ten s n).sqLog ∧
      (ten v n).reserved = (ten s n).reserved + 1 ∧ Frame [.now, .kw] s v) ∧
  (∀ (d : Datagram) (t : Nat) (s : State), mgmtUp s = true → s.kw.sbLink = true →
    (d.kind = .arp → d.dstAddr = s.kw.sbAddr → ∃ v, exec (.sidebandDatagram d t) s = .next v ∧
      v.emitted = .arpReply d.srcAddr :: s.emitted ∧ v.kw.outstanding = s.kw.outstanding ∧ Frame [.now, .emitted, .kw] s v) ∧
    (d.kind ≠ .arp → allowed s d.srcAddr = false → ∃ v, exec (.sidebandDatagram d t) s = .next v ∧
      v.kw.sbDropped = s.kw.sbDropped + 1 ∧ v.kw.outstanding = s.kw.outstanding ∧ Frame [.now, .kw] s v) ∧
    (allowed s d.srcAddr = true → d.dstAddr = s.kw.sbAddr → d.kind = .echo → d.fragmented = false →
      ∃ v, exec (.sidebandDatagram d t) s = .next v ∧ v.emitted = .echoReply d.srcAddr d.bytes :: s.emitted ∧
        v.kw.outstanding = s.kw.outstanding ∧ Frame [.now, .emitted, .kw] s v) ∧
    (allowed s d.srcAddr = true → d.dstAddr ≠ s.kw.sbAddr ∨ (d.kind = .udp ∧ (d.dstPort ≠ 47310 ∨ d.fragmented = true)) →
      ∃ v, exec (.sidebandDatagram d t) s = .next v ∧ v.kw = { s.kw with sbActive := some (max s.now t) } ∧ Frame [.now, .kw] s v) ∧
    (allowed s d.srcAddr = true → d.dstAddr = s.kw.sbAddr → d.kind = .udp → d.dstPort = 47310 → d.fragmented = false →
      (∀ e, (keptReplies (s.at_ t)).find? (fun e => sbKey d e && e.crc == sbCrcOf d.bytes) = some e →
        ∃ v, exec (.sidebandDatagram d t) s = .next v ∧ v.emitted = .sideband d.srcAddr d.srcPort 47310 e.reply :: s.emitted ∧
          v.kw = { s.kw with sbActive := some (max s.now t) } ∧ Frame [.now, .emitted, .kw] s v) ∧
      ((keptReplies (s.at_ t)).any (sbKey d) = false → validate 64 d.bytes (s.at_ t) = none →
        (s.kw.outstanding.filter (·.principal == 64)).length < 8 →
        ∃ v p, exec (.sidebandDatagram d t) s = .next v ∧ v.kw.outstanding = s.kw.outstanding ++ [p] ∧ p.principal = 64 ∧
          p.raw = d.bytes ∧ p.sbAddr = d.srcAddr ∧ p.sbPort = d.srcPort ∧ Frame [.now, .kw] s v))) ∧
  (∀ (a : Word) (port tag : Half) (s : State) (e : SbReply),
    s.kw.sbCache.find? (fun e => e.addr == a && e.port == port && e.tag == tag) = some e →
    ∃ v, exec (.sidebandCacheExpiry a port tag) s = .next v ∧ v.kw.sbCache = s.kw.sbCache.filter (fun x => !(x == e)) ∧
      v.now = max s.now (e.at_ + 10 * 400000000) ∧ Frame [.now, .kw] s v) ∧
  (∀ (n : Nat) (s : State) (nt : Notice) (rest : List Notice), Inv s → n < 64 → ringLive s n = true → ctrlHeld s = false →
    slotFree (ten s n) = true → slotBad s n = false → (ten s n).overflow = 0 → (ten s n).heldNotices = nt :: rest →
    ∃ v, exec (.noticeDelivery n) s = .next v ∧ (ten v n).heldNotices = rest ∧
      (ten v n).unconsumed = (ten s n).unconsumed ++ [1] ∧ Frame [.emitted, .host, .kw] s v) ∧
  (∀ (n : Nat) (s : State), Inv s → n < 64 → s.kw.linkUp = true → (ten s n).coalPending ≠ 0 → (ten s n).coalTime ≠ 0 →
    ∃ v, exec (.irqCoalesceTimeout n) s = .next v ∧ (ten v n).coalPending = 0 ∧
      (vectorHeld (ten s n) 0 = false → v.emitted = .msix n 0 :: s.emitted) ∧
      v.now = max s.now ((ten s n).coalSince + (ten s n).coalTime * 400) ∧ Frame [.now, .emitted, .kw] s v) ∧
  (∀ (r : Ref) (p : Packet) (s : State), findP r s = some p → p.committed = false → p.tmo ≠ 0 →
    ∃ v, exec (.packetTimeLimit r) s = .next v ∧ findP r v = none ∧ v.now = max s.now (p.fetchedAt + p.tmo * 400000) ∧
      v = cancelP p stTIMED_OUT (fenceOf s p.principal) (s.at_ (p.fetchedAt + p.tmo * 400000))) ∧
  (∀ (r : Ref) (p : Packet) (s : State), findP r s = some p → p.committed = false → deadlineReached s p = true →
    ∃ v, exec (.deadlineExpiry r) s = .next v ∧ findP r v = none ∧ v = cancelP p stTIMED_OUT (fenceOf s p.principal) s)

/-- On a reachable function: a submission doorbell with a tail inside the ring sets the tail; a completion doorbell
returns the slots up to its head; EN written 1 with sizes that R142 accepts and no blocking cause starts both rings at
slot 0 with phase 1; EN cleared bumps the fence; KW_IRQ_COAL, KW_TMO and KW_NOTICE_MASK take the value written;
unmasking a vector clears its mask; a 1 written to a KW_RING_STATUS flag clears it; a read of KW_FENCED returns it and
leaves the increments of the same clock; a low-word read of PTB returns the low word and latches the high one, which the
read of the high word returns; a read of any other register of the window returns its value and changes nothing; a
statistics read index inside the ring is taken; a misaligned access or one of another size sets ACC_ERR. On a function
that the host does not reach none of them changes anything but the host's own memory. -/
def Obligations.WindowCommands : Prop :=
  (∀ (n : Nat) (v : Word) (placed : List (Nat × Bytes)) (faulty : List (Nat × Nat)) (s : State), Inv s → n < 64 → barReachable s n = true → (ten s n).en = true →
    bits v.toNat 11 0 < 2 ^ (ten s n).sqLog →
    ∃ u, exec (.kwSqDbWrite n v ⟨placed, faulty⟩) s = .next u ∧ (ten u n).sqTail = bits v.toNat 11 0 ∧ u.host = memPlace s.host placed ∧
      u.kw.badHost = faulty ∧
      Frame [.host, .kw] s u) ∧
  (∀ (n : Nat) (v : Word) (s : State), Inv s → n < 64 → barReachable s n = true → (ten s n).en = true →
    bits v.toNat 11 0 < cqSlots (ten s n) → slotsReturned (ten s n) (bits v.toNat 11 0) ≤ (ten s n).unconsumed.length →
    ∃ u, exec (.kwCqDbWrite n v) s = .next u ∧ (ten u n).cqHead = bits v.toNat 11 0 ∧
      (ten u n).unconsumed = (ten s n).unconsumed.drop (slotsReturned (ten s n) (bits v.toNat 11 0)) ∧ Frame [.emitted, .kw] s u) ∧
  (∀ (n : Nat) (s : State), Inv s → n < 64 → barReachable s n = true → (ten s n).en = false → enBlocked (ten s n) = false →
    sizesOk (ten s n) = true → (ten s n).heldNotices = [] → (ten s n).overflow = 0 →
    ∃ u, exec (.ringEnable n) s = .next u ∧ (ten u n).en = true ∧ (ten u n).sqHead = 0 ∧ (ten u n).sqTail = 0 ∧ (ten u n).cqTail = 0 ∧
      (ten u n).cqHead = 0 ∧ (ten u n).phase = true ∧ (ten u n).unconsumed = [] ∧ (ten u n).fence = (ten s n).fence ∧
      Frame [.kw] s u) ∧
  (∀ (n : Nat) (s : State), Inv s → n < 64 → barReachable s n = true → (ten s n).en = true →
    ∃ u, exec (.ringDisable n) s = .next u ∧ (ten u n).en = false ∧ (ten u n).fence = nextFence (ten s n).fence ∧
      Frame [.kw, .fab] s u) ∧
  (∀ (n : Nat) (v : Word) (s : State), Inv s → n < 64 → barReachable s n = true →
    ∃ u, exec (.kwIrqCoalWrite n v) s = .next u ∧ (ten u n).coalCount = bits v.toNat 11 0 ∧ (ten u n).coalTime = bits v.toNat 31 16 ∧
      Frame [.emitted, .kw] s u) ∧
  (∀ (n v : Nat) (s : State) (e : MsixEntry), Inv s → n < 64 → barReachable s n = true → v < 4 → (ten s n).msix[v]? = some e →
    ∃ u, exec (.msixUnmask n v) s = .next u ∧ (ten u n).msix[v]? = some { e with masked := false } ∧ Frame [.emitted, .kw] s u) ∧
  (∀ (n : Nat) (v set : Word) (s : State), Inv s → n < 64 → barReachable s n = true →
    ∃ u, exec (.w1cClear n 0x0C v set) s = .next u ∧
      (ten u n).ringStatus = ((ten s n).ringStatus &&& ~~~v) ||| (set &&& 0x7F) ∧ Frame [.kw] s u) ∧
  (∀ (n bump : Nat) (s : State), Inv s → n < 64 → barReachable s n = true →
    ∃ u, exec (.rcRead n ⟨0x38, false⟩ bump) s = .next u ∧ u.emitted = .barData n 0x38 (ten s n).fenced.toNat :: s.emitted ∧
      (ten u n).fenced = BitVec.ofNat 32 bump ∧ Frame [.emitted, .kw] s u) ∧
  (∀ (n : Nat) (s : State), Inv s → n < 64 → barReachable s n = true →
    ∃ u, exec (.rsLowRead n 0x4000 false) s = .next u ∧ u.emitted = .barData n 0x4000 ((ptb s).toNat % 2 ^ 32) :: s.emitted ∧
      (ten u n).latches.head? = some (0x4000, BitVec.ofNat 32 ((ptb s).toNat / 2 ^ 32)) ∧ Frame [.emitted, .kw] s u) ∧
  (∀ (n bump : Nat) (s : State), Inv s → n < 64 → barReachable s n = true →
    exec (.rcRead n ⟨0x4004, false⟩ bump) s = .next (s.emit (.barData n 0x4004 (latched n 0x4000 s)))) ∧
  (∀ (n off bump : Nat) (s : State), barReachable s n = true → off < 0x1000 → off % 4 = 0 → off ≠ 0x38 → off ≠ 0x3C →
    exec (.rcRead n ⟨off, false⟩ bump) s = .next (s.emit (.barData n off (windowValue n off s)))) ∧
  (∀ (v : Nat) (w : Word) (s : State), Inv s → barReachable s 0 = true → v < 4 → imgOn s = true → ridxOk s v w = true →
    ∃ u, exec (.plnStatRidxWrite v w) s = .next u ∧ (viewOf u v).statRidx = w ∧ Frame [.pln] s u) ∧
  (∀ (n : Nat) (v : Long) (s : State), Inv s → n < 64 → barReachable s n = true →
    (∃ u, exec (.registerWrite n 0x30 false v) s = .next u ∧ (ten u n).tmo = bits (low32 v).toNat 15 0 ∧ Frame [.kw] s u) ∧
    (∃ u, exec (.registerWrite n 0x34 false v) s = .next u ∧ (ten u n).noticeMask = low32 v &&& 0x7FFE ∧ Frame [.kw] s u)) ∧
  (∀ (n off size : Nat) (write : Bool) (s : State), Inv s → n < 64 → barReachable s n = true → badAccess off size = true →
    ∃ u, exec (.barAccessError n off size write) s = .next u ∧ (ten u n).ringStatus = (ten s n).ringStatus ||| 0x40 ∧
      u.emitted = (if write then s.emitted else .barData n off (256 ^ size - 1) :: s.emitted) ∧ Frame [.emitted, .kw] s u) ∧
  (∀ (n off v size bump : Nat) (w set : Word) (x : Long) (wide write : Bool) (s : State), barReachable s n = false →
    exec (.kwCqDbWrite n w) s = .next s ∧ exec (.ringEnable n) s = .next s ∧ exec (.ringDisable n) s = .next s ∧
    exec (.kwIrqCoalWrite n w) s = .next s ∧ exec (.msixUnmask n v) s = .next s ∧ exec (.w1cClear n off w set) s = .next s ∧
    exec (.rcRead n ⟨off, wide⟩ bump) s = .next s ∧ exec (.rsLowRead n off wide) s = .next s ∧
    exec (.registerWrite n off wide x) s = .next s ∧ exec (.barAccessError n off size write) s = .next s)

/-- A function-level reset bumps the fence, clears EN and the event counters, keeps KW_CLASSMASK and every admission.
Lowering NumVFs leaves that many functions. Loss of the host link leaves every admission held and every other chapter
untouched but the log, and notes the time; 100 ms later, with the action RELEASE and the link still down, every
verdict-path admission is released, once; the link's return at a generation and width of Table 3.5 marks it up at them, and
no other does. -/
def Obligations.HostSide : Prop :=
  (∀ (n : Nat) (s : State), Inv s → n < 64 → barReachable s n = true →
    ∃ u, exec (.functionLevelReset n) s = .next u ∧ (ten u n).fence = nextFence (ten s n).fence ∧ (ten u n).en = false ∧
      (ten u n).classMask = (ten s n).classMask ∧ (ten u n).events = List.replicate 64 0 ∧ u.led = s.led) ∧
  (∀ (n : Nat) (s : State), n < s.kw.numVfs →
    ∃ u, exec (.numvfsReduce n) s = .next u ∧ u.kw.numVfs = n ∧ (∀ k, n < k → tenantExists u k = false)) ∧
  (∀ (t : Nat) (s : State), s.kw.linkUp = true →
    ∃ u, exec (.hostLinkLoss t) s = .next u ∧ u.kw.linkUp = false ∧ u.kw.lostAt = max s.now t ∧ u.led = s.led ∧
      u.flt.nextSeq = s.flt.nextSeq + 1 ∧ u.host = s.host ∧ u.emitted = s.emitted ∧
      Frame [.now, .kw, .fab, .flt] s u) ∧
  (∀ s : State, s.kw.linkUp = false → s.kw.hostLossRelease = true → s.kw.lossReleased = false → domOn s 2 = true → s.flt.fatal = false →
    exec .hostLossRelease s = .next (releaseWhere verdictPath
      ((s.at_ (s.kw.lostAt + 100 * 400000)).setKw { s.kw with lossReleased := true }))) ∧
  (∀ (gen width t : Nat) (s : State), s.kw.linkUp = false → hostPowered s = true →
    (linkTrains gen width = true → ∃ u, exec (.hostLinkReturn ⟨gen, width, t⟩) s = .next u ∧ u.kw.linkUp = true ∧
      u.kw.link = (gen, width) ∧ Frame [.now, .emitted, .kw] s u) ∧
    (linkTrains gen width = false → exec (.hostLinkReturn ⟨gen, width, t⟩) s = .next (s.at_ t)))

/-- SYS_STATUS, of the issuer or of a tenant it may see, and SYS_IDENTIFY answer their tables and change nothing else. SYS_FENCE bumps the issuer's generation and
answers the new one. SYS_OUTCOMES answers the entries of the issuer's outcome log. TEN_CONFIG sets the class mask of
an existing tenant and SYS_HOSTLOSS_SET the action on loss of the host. SYS_RESET of kind HOST takes the host link
down; of kind COLD it drops every admission, every outstanding packet and the anchor, and the start that follows has
cause 2. -/
def Obligations.SystemOpcodes : Prop :=
  (∀ (r : Ref) (p : Packet) (s : State), opStarts 0x0101 r p s = true → p.params = [] →
    exec (.sysStatus r) s = .next (ok p (if domOn s 2 then statusUp s (fenceOf s p.principal) else statusDown s) s) ∧
    (statusDown s).length = 96 ∧ (∀ f, (statusUp s f).length = 96)) ∧
  (∀ (r : Ref) (p : Packet) (s : State), opStarts 0x0101 r p s = true → p.params ≠ [] → fld p.params 0 1 ≤ 63 →
    (p.tenant = 0 ∨ fld p.params 0 1 = p.tenant → exec (.sysStatus r) s =
      .next (ok p (if domOn s 2 then statusUp s (ten s (fld p.params 0 1)).fence else statusDown s) s)) ∧
    (p.tenant ≠ 0 → fld p.params 0 1 ≠ p.tenant → exec (.sysStatus r) s = .next (refuse p stDENIED noField s))) ∧
  (∀ (r : Ref) (p : Packet) (s : State), opStarts 0x0102 r p s = true → exec (.sysIdentify r) s = .next (ok p (identifyBytes s) s)) ∧
  (∀ (r : Ref) (p : Packet) (s : State), Inv s → opStarts 0x0103 r p s = true → p.principal < 64 → s.kw.badHost = [] →
    ∃ s', exec (.sysFence r) s = .next (ok p (le4 (nextFence (ten s p.principal).fence).toNat) s') ∧
      (ten s' p.principal).fence = nextFence (ten s p.principal).fence ∧ Frame [.emitted, .host, .kw, .fab] s s') ∧
  (∀ (r : Ref) (p : Packet) (s : State), opStarts 0x0104 r p s = true → 1 ≤ fld p.params 2 2 → fld p.params 2 2 ≤ 255 →
    bit (fld p.params 4 1) 0 = false →
    exec (.sysOutcomes r) s = .next (ok p (le2 (ten s p.tenant).outcomes.length ++ le2 (ten s p.tenant).overwritten ++ le4 0 ++
      (((ten s p.tenant).outcomes.drop (fld p.params 0 2)).take (fld p.params 2 2)).flatMap OutcomeEntry.bytes) s)) ∧
  (∀ (r : Ref) (p : Packet) (s : State), opStarts 0x0120 r p s = true → 1 ≤ fld p.params 0 1 → fld p.params 0 1 ≤ s.kw.numVfs →
    exec (.tenConfig r) s = .next (ok p [] (modTen (fld p.params 0 1) (fun t => { t with classMask := BitVec.ofNat 8 (fld p.params 1 1) }) s))) ∧
  (∀ (r : Ref) (p : Packet) (s : State), opStarts 0x0121 r p s = true → fld p.params 0 1 ≤ 1 →
    ∃ s', exec (.sysHostlossSet r) s = .next (ok p [] s') ∧ s'.kw.hostLossRelease = (fld p.params 0 1 == 1) ∧
      s'.boot.wanted.isSome = true ∧ Frame [.kw, .boot] s s') ∧
  (∀ (r : Ref) (p : Packet) (s : State), opStarts 0x0110 r p s = true → s.pwr.thermalDown = 0 → fld p.params 0 1 = 4 →
    s.flt.fatal = false → p.principal = 64 → s.kw.linkUp = true →
    ∃ u, exec (.sysReset r) s = .next u ∧ u.kw.linkUp = false ∧ u.led = s.led) ∧
  (∀ (r : Ref) (p : Packet) (s : State), opStarts 0x0110 r p s = true → s.pwr.thermalDown = 0 → s.pwr.sagDown = false →
    fld p.params 0 1 = 1 → 19200 ≤ s.pwr.vbus →
    ∃ u, exec (.sysReset r) s = .next u ∧ u.boot.cause = 2 ∧ u.boot.kind = 1 ∧ u.boot.step = 1 ∧ u.boot.done = false ∧
      u.led.held = [] ∧ u.kw.outstanding = [] ∧ u.pos.anchored = false ∧ u.lanes = Lanes.reset)

/-- With CTRL on, an edge that the filter accepts and that is forward after ENC_CFG.INV adds one to the master count and one
that is reverse subtracts one; the PTB after it is 16 times the count modulo 2^64; the HWM becomes the PTB exactly when
the PTB lies after it, else it stays; STATIONARY is cleared and DIR set to the direction; both channels changing at once
leave the count and the PTB and count a quadrature error. Nothing outside position, the log, the notices and what their
ring writes touch changes. -/
def Obligations.MasterEdgeMovesThePtb : Prop :=
  (∀ (k : EdgeKind) (held t : Nat) (s : State), domOn s 2 = true → filtered s 0 held = true → k ≠ .both →
    let fwd := (k == .forward) != (getI s.pos.enc 0 EncCfg.reset).inv
    ∃ u, exec (.masterEdge ⟨k, held⟩ t) s = .next u ∧ u.pos.count = (if fwd then s.pos.count + 1 else s.pos.count - 1) ∧
      ptb u = BitVec.ofInt 64 (16 * u.pos.count) ∧ u.pos.hwm = (if after (ptb u) s.pos.hwm then ptb u else s.pos.hwm) ∧
      u.pos.stationary = false ∧ u.pos.dirRev = !fwd ∧ u.pos.lastEdge = max s.now t ∧
      Frame [.now, .emitted, .host, .pos, .kw, .fab, .flt] s u) ∧
  (∀ (held t : Nat) (s : State), domOn s 2 = true → filtered s 0 held = true →
    ∃ u, exec (.masterEdge ⟨.both, held⟩ t) s = .next u ∧ u.pos.count = s.pos.count ∧ ptb u = ptb s ∧ u.pos.hwm = s.pos.hwm ∧
      u.pos.qerr = bumpSat s.pos.qerr 0 ∧ u.pos.flags = s.pos.flags ||| 0x80 ∧
      Frame [.now, .emitted, .host, .pos, .kw, .fab, .flt] s u)

/-- With CTRL on: an accepted edge of ENC1 to ENC3 moves that port's 64-bit count by one and leaves the master's, but for a
forward edge in the cycle in which a preset replaced an all-ones count, which keeps the preset and sets CARRY; both
channels changing at once are a quadrature error of the port; a rising Z edge of ENC0 captures the PTB and one of ENC1
to ENC3 that port's count, and one of ENC0 that the anchoring waits for sets PTB and HWM to Z_BASE; interpolation never
lowers the PTB fraction and keeps it at most 15 when it was, so the next count boundary is not reached; a speed update
10 us after the last computes v_raw, v_net and v_filt by the formulas; STATIONARY is set 100 ms after the last master
edge. With CTRL off, before the filter has accepted it, or at a falling Z, an edge leaves the state but for the clock,
and but for its repetition at ENCn OUT while a field supply is at 14.0 V or more (the threshold is the model's reading:
log entry 116). -/
def Obligations.OtherPositionEvents : Prop :=
  (∀ (port held t : Nat) (k : EdgeKind) (s : State) (a : AuxPort), domOn s 2 = true → 1 ≤ port → port ≤ 3 →
    filtered s port held = true → s.pos.aux[port - 1]? = some a →
    let fwd := (k == .forward) != (getI s.pos.enc port EncCfg.reset).inv
    (k ≠ .both → (fwd = false ∨ carriedOut (s.at_ t) a = false) → ∃ u, exec (.auxEncoderEdge port ⟨k, held⟩ t) s = .next u ∧
      u.pos.aux[port - 1]? = some { a with cnt := if fwd then a.cnt + 1 else a.cnt - 1 } ∧ u.pos.count = s.pos.count ∧
      u.pos.hwm = s.pos.hwm ∧ Frame [.now, .emitted, .pos] s u) ∧
    (k ≠ .both → fwd = true → carriedOut (s.at_ t) a = true → ∃ u, exec (.auxEncoderEdge port ⟨k, held⟩ t) s = .next u ∧
      u.pos.aux[port - 1]? = some { a with loaded := none } ∧ u.pos.flags = s.pos.flags ||| 0x100 ∧ Frame [.now, .emitted, .pos] s u) ∧
    (k = .both → ∃ u, exec (.auxEncoderEdge port ⟨k, held⟩ t) s = .next u ∧ u.pos.aux = s.pos.aux ∧
      u.pos.qerr = bumpSat s.pos.qerr port ∧ u.pos.flags = s.pos.flags ||| 0x80 ∧
      Frame [.now, .emitted, .host, .pos, .kw, .fab, .flt] s u)) ∧
  (∀ (held t : Nat) (s : State), domOn s 2 = true → filtered s 0 held = true →
    (s.boot.waitZ = false ∨ s.pos.anchored = true → ∃ u, exec (.zEdgeCapture ⟨0, true, held⟩ t) s = .next u ∧ u.pos.zcap = ptb s ∧
      u.pos.count = s.pos.count ∧ u.pos.hwm = s.pos.hwm) ∧
    (s.boot.waitZ = true → s.pos.anchored = false → ∃ u, exec (.zEdgeCapture ⟨0, true, held⟩ t) s = .next u ∧ u.pos.anchored = true ∧
      ptb u = s.boot.draft.zBase ∧ u.pos.hwm = s.boot.draft.zBase ∧ u.boot.waitZ = false)) ∧
  (∀ (port held t : Nat) (s : State) (a : AuxPort), domOn s 2 = true → 1 ≤ port → port ≤ 3 → filtered s port held = true →
    s.pos.aux[port - 1]? = some a →
    ∃ u, exec (.zEdgeCapture ⟨port, true, held⟩ t) s = .next u ∧ (u.pos.aux[port - 1]?).map (·.zcap) = some (low32 a.cnt) ∧ u.pos.zcap = s.pos.zcap) ∧
  (∀ (t : Nat) (s : State), domOn s 2 = true → interpActive (s.at_ t) = true →
    ∃ u, exec (.ptbInterpolation t) s = .next u ∧ s.pos.frac ≤ u.pos.frac ∧ (s.pos.frac ≤ 15 → u.pos.frac ≤ 15) ∧
      u.pos.count = s.pos.count ∧ u.pos.hwm = (if after (ptb u) s.pos.hwm then ptb u else s.pos.hwm)) ∧
  (∀ (t : Nat) (s : State), domOn s 2 = true →
    (s.pos.lastSpeed + usTicks 10 ≤ max s.now t →
      ∃ u, exec (.speedUpdate t) s = .next u ∧ u.pos.vRaw = rawSpeed s.pos (max s.now t) ∧ u.pos.vNet = netSpeed s.pos (max s.now t) ∧
        u.pos.vFilt = filtStep s.pos.spdFilt s.pos.vFilt (netSpeed s.pos (max s.now t)) ∧ u.pos.lastSpeed = max s.now t ∧
        u.pos.count = s.pos.count ∧ Frame [.now, .emitted, .host, .pos, .kw, .fab, .flt] s u) ∧
    (max s.now t < s.pos.lastSpeed + usTicks 10 → exec (.speedUpdate t) s = .next (s.at_ t))) ∧
  (∀ s : State, domOn s 2 = true → s.pos.stationary = false →
    ∃ u, exec .stationaryTimeout s = .next u ∧ u.pos.stationary = true ∧ u.now = max s.now (s.pos.lastEdge + 100 * 400000) ∧
      Frame [.now, .pos] s u) ∧
  (∀ (port held t : Nat) (k : EdgeKind) (rising : Bool) (s : State),
    let out := fun (port : Nat) (e : EncSignal) =>
      if s.dio.fieldV.any (14000 ≤ ·) then (s.at_ t).emit (.encoderOut port e) else s.at_ t
    (domOn s 2 = false ∨ filtered s 0 held = false → exec (.masterEdge ⟨k, held⟩ t) s = .next (out 0 (.ab k))) ∧
      (domOn s 2 = false ∨ filtered s port held = false → exec (.auxEncoderEdge port ⟨k, held⟩ t) s = .next (out port (.ab k))) ∧
      (domOn s 2 = false ∨ filtered s port held = false ∨ rising = false →
        exec (.zEdgeCapture ⟨port, rising, held⟩ t) s = .next (out port (.z rising))))

/-- A POS_SCALE_SET that is carried out with a value from 100 to 1,000,000 nm is refused with DENIED, and changes no
chapter but the reply's, while an admission is held; with none held the scale becomes the value and a Record write is
asked for. -/
def Obligations.ScaleOnlyWithoutAdmissions : Prop :=
  (∀ (r : Ref) (p : Packet) (s : State), opStarts 0x0202 r p s = true → 100 ≤ fld p.params 0 4 → fld p.params 0 4 ≤ 1000000 →
    s.led.held ≠ [] → exec (.posScaleSet r) s = .next (refuse p stDENIED noField s) ∧
    (∀ u, exec (.posScaleSet r) s = .next u → u.pos = s.pos ∧ u.led = s.led)) ∧
  (∀ (r : Ref) (p : Packet) (s : State), opStarts 0x0202 r p s = true → 100 ≤ fld p.params 0 4 → fld p.params 0 4 ≤ 1000000 →
    s.led.held = [] → ∃ s', exec (.posScaleSet r) s = .next (ok p [] s') ∧ s'.pos = { s.pos with scale := fld p.params 0 4 } ∧
      s'.boot.wanted.isSome = true ∧ Frame [.pos, .boot] s s')

/-- POS_STATUS answers the registers of its table and changes nothing. POS_WINDOW_SET, POS_PRESET and POS_SSI_CONFIG in range
are accepted: without APPLY_STATIONARY the change waits for the first window boundary after the HWM, in place of an
earlier change of the same register, and the setting in force is unchanged until then; with APPLY_STATIONARY at
standstill it is in force at once, and while the strip moves it is refused with BUSY_RETRY and changes nothing. A field
out of range is refused with BAD_PARAM at its offset. POS_ENC_CONFIG sets mode, inversion, termination and the Z check of
a port at once and its filter length as the others their setting, and is refused with DENIED where it would change mode,
inversion or termination while an admission is held. -/
def Obligations.PositionOpcodes : Prop :=
  (∀ (r : Ref) (p : Packet) (s : State), opStarts 0x0201 r p s = true →
    exec (.posStatus r) s = .next (ok p (regBytes (posStatusRegs s)) s)) ∧
  (∀ (r : Ref) (p : Packet) (s : State), opStarts 0x0204 r p s = true →
    let n := fld p.params 0 1
    let k := fld p.params 1 1
    let w := fld p.params 4 4
    (n < 8 ∨ 24 < n → exec (.posWindowSet r) s = .next (refuse p stBAD_PARAM 0x20 s)) ∧
    (8 ≤ n → n ≤ 24 → k ≤ 8 → 100 ≤ w → w ≤ 100000 →
      (p.atOnce = false → ∃ s', exec (.posWindowSet r) s = .next (done p stACCEPTED [] s') ∧
        s'.pos = { s.pos with pendingRp := (s.pos.pendingRp.filter fun x => !sameRegister x.what (.window 0 0 0)) ++
          [{ what := .window n k w, boundary := boundaryAfter s.pos.shift s.pos.hwm, issuer := p.principal, opcode := p.opcode }] } ∧
        Frame [.pos] s s') ∧
      (p.atOnce = true → s.pos.stationary = false → exec (.posWindowSet r) s = .next (refuse p stBUSY noField s)) ∧
      (p.atOnce = true → s.pos.stationary = true → ∃ s', exec (.posWindowSet r) s = .next (done p stACCEPTED [] s') ∧
        s'.pos.shift = n ∧ s'.pos.spdFilt = k ∧ s'.pos.spdWin = w ∧ s'.pos.hwm = s.pos.hwm ∧
        (n ≠ s.pos.shift → reached s s.pos.nextBoundary = false → s'.pos.nextBoundary = boundaryAfter n s.pos.hwm) ∧
        Frame [.emitted, .host, .pos, .kw, .pln, .fab, .flt] s s'))) ∧
  (∀ (r : Ref) (p : Packet) (s : State), opStarts 0x0205 r p s = true →
    let port := fld p.params 0 1
    let v : Long := BitVec.ofNat 64 (fld p.params 4 8)
    (port < 1 ∨ 3 < port → exec (.posPreset r) s = .next (refuse p stBAD_PARAM 0x20 s)) ∧
    (1 ≤ port → port ≤ 3 →
      (p.atOnce = false → ∃ s', exec (.posPreset r) s = .next (done p stACCEPTED [] s') ∧
        s'.pos = { s.pos with pendingRp := (s.pos.pendingRp.filter fun x => !sameRegister x.what (.preset port 0)) ++
          [{ what := .preset port v, boundary := boundaryAfter s.pos.shift s.pos.hwm, issuer := p.principal, opcode := p.opcode }] } ∧
        Frame [.pos] s s') ∧
      (p.atOnce = true → s.pos.stationary = false → exec (.posPreset r) s = .next (refuse p stBUSY noField s)) ∧
      (∀ a, p.atOnce = true → s.pos.stationary = true → s.pos.aux[port - 1]? = some a →
        ∃ s', exec (.posPreset r) s = .next (done p stACCEPTED [] s') ∧ (s'.pos.aux[port - 1]?).map (·.cnt) = some v ∧
          s'.pos.count = s.pos.count ∧ Frame [.emitted, .host, .pos, .kw, .pln, .fab, .flt] s s'))) ∧
  (∀ (r : Ref) (p : Packet) (s : State) (e : EncCfg), opStarts 0x0203 r p s = true →
    let port := fld p.params 0 1
    let new : EncCfg := { e with htl := fld p.params 1 1 == 1, inv := fld p.params 2 1 == 1, term := fld p.params 3 1 == 1
                                 zper := fld p.params 8 4, ztol := fld p.params 12 4 }
    (3 < port → exec (.posEncConfig r) s = .next (refuse p stBAD_PARAM 0x20 s)) ∧
    (port ≤ 3 → s.pos.enc[port]? = some e → fld p.params 1 1 ≤ 1 → fld p.params 2 1 ≤ 1 → fld p.params 3 1 ≤ 1 →
      (s.led.held ≠ [] → (new.htl, new.inv, new.term) ≠ (e.htl, e.inv, e.term) →
        exec (.posEncConfig r) s = .next (refuse p stDENIED noField s)) ∧
      (s.led.held = [] ∨ (new.htl, new.inv, new.term) = (e.htl, e.inv, e.term) →
        (p.atOnce = true → s.pos.stationary = false → exec (.posEncConfig r) s = .next (refuse p stBUSY noField s)) ∧
        (p.atOnce = false → ∃ s', exec (.posEncConfig r) s = .next (done p stACCEPTED [] s') ∧ s'.pos.enc[port]? = some new ∧
          (s'.pos.pendingRp.getLast?).map (fun x => (x.what, x.boundary)) =
            some (.encFilt port (fld p.params 4 1), boundaryAfter s.pos.shift s.pos.hwm) ∧
          s'.boot.wanted.isSome = true ∧ Frame [.pos, .boot] s s') ∧
        (p.atOnce = true → s.pos.stationary = true → ∃ s', exec (.posEncConfig r) s = .next (done p stACCEPTED [] s') ∧
          s'.pos.enc[port]? = some { new with filtN := fld p.params 4 1 } ∧ s'.boot.wanted.isSome = true ∧
          Frame [.emitted, .host, .pos, .kw, .pln, .fab, .flt, .boot] s s')))) ∧
  (∀ (r : Ref) (p : Packet) (s : State), opStarts 0x0206 r p s = true →
    let c := ssiOf p.params
    (c.clk < 100 ∨ 2000 < c.clk → exec (.posSsiConfig r) s = .next (refuse p stBAD_PARAM 0x20 s)) ∧
    (100 ≤ c.clk → c.clk ≤ 2000 → 10 ≤ c.bits → c.bits ≤ 32 → fld p.params 3 1 ≤ 1 → 20 ≤ c.mono → fld p.params 6 1 ≤ 1 →
      (p.atOnce = false → ∃ s', exec (.posSsiConfig r) s = .next (done p stACCEPTED [] s') ∧
        s'.pos = { s.pos with pendingRp := (s.pos.pendingRp.filter fun x => !sameRegister x.what (.ssi c)) ++
          [{ what := .ssi c, boundary := boundaryAfter s.pos.shift s.pos.hwm, issuer := p.principal, opcode := p.opcode }] } ∧
        Frame [.pos] s s') ∧
      (p.atOnce = true → s.pos.stationary = false → exec (.posSsiConfig r) s = .next (refuse p stBUSY noField s)) ∧
      (p.atOnce = true → s.pos.stationary = true → ∃ s', exec (.posSsiConfig r) s = .next (done p stACCEPTED [] s') ∧
        s'.pos.ssi = c ∧ s'.boot.wanted.isSome = true ∧ Frame [.emitted, .host, .pos, .kw, .pln, .fab, .flt, .boot] s s')))

/-- When a budget falls short the request is refused with the payload of all that do, and nothing changes but the Ledger's
count of refusals. When none does, the request is entered last with all its demands and one place of TABLE, its class and
tenant, and fence generation 1; a request of class 7 leaves every admission held before in place. -/
def Obligations.AdmissionIsAllOrNothing : Prop :=
  ∀ (q : Request) (h : Nat) (s : State),
    let l := shorts s (vEff s.led.vadm) q.cls (withTable q.demands)
    (l ≠ [] → (decideAdm q h s).payload = some (budgetPayload l) ∧
      (decideAdm q h s).state = s.setLed { s.led with refusals := s.led.refusals + 1 }) ∧
    (l = [] → (decideAdm q h s).payload = none ∧
      ∃ a, (decideAdm q h s).state.led.held.getLast? = some a ∧ a.handle = h ∧ a.kind = q.kind ∧ a.cls = q.cls ∧ a.tenant = q.tenant ∧
        a.fence = 1 ∧ a.demands = q.demands ++ [⟨11, 0, 1⟩] ∧ a.object = q.object ∧
        (q.cls = 7 → (decideAdm q h s).state.led.held = s.led.held ++ [a]))

/-- LEDG_STATUS answers capacity and use of a budget instance, in all and by class, with LEDG_STATUS and LEDG_VADM, and
LEDG_LIST the admissions the issuer may see; both change nothing else, and a budget or instance that is none is refused
with BAD_PARAM. LEDG_CONFIG in range sets tolerance, ambient and shares while no admission is held, is refused with
DENIED while one is, and out of range with BAD_PARAM. LEDG_RELEASE of an admission that the issuer may release ends it;
a stream that a list names is refused with BUSY_RETRY, a firing actuation with DENIED, a handle of none with BAD_PARAM
and another tenant's with DENIED; a bench in LOADING or RESETTING keeps the release for the end of it. -/
def Obligations.LedgerOpcodes : Prop :=
  (∀ (r : Ref) (p : Packet) (s : State), opStarts 0x0301 r p s = true →
    let b := fld p.params 0 1
    let i := fld p.params 1 1
    (b < 1 ∨ 12 < b → exec (.ledgStatus r) s = .next (refuse p stBAD_PARAM 0x20 s)) ∧
    (1 ≤ b → b ≤ 12 → statusInst b i = false → exec (.ledgStatus r) s = .next (refuse p stBAD_PARAM 0x21 s)) ∧
    (1 ≤ b → b ≤ 12 → statusInst b i = true → exec (.ledgStatus r) s = .next (ok p
      (le8 (statusRow s b i).1 ++ le8 (statusRow s b i).2.1 ++ le8 (statusRow s b i).2.2 ++
        ((List.range 8).flatMap fun k => le8 (if b = 10 then 0 else usedC s.led.held k b i)) ++
        le4 (ledgStatus s).toNat ++ le4 (ledgVAdm s)) s))) ∧
  (∀ (r : Ref) (p : Packet) (s : State), opStarts 0x0304 r p s = true →
    let mine := s.led.held.filter fun a => mayUse p a.tenant
    let page := (mine.drop (fld p.params 0 2)).take 255
    exec (.ledgList r) s = .next (ok p (le2 page.length ++ le2 mine.length ++ le4 0 ++ page.flatMap Admission.bytes) s)) ∧
  (∀ (r : Ref) (p : Packet) (s : State), opStarts 0x0302 r p s = true →
    (200 < fld p.params 0 2 → exec (.ledgConfig r) s = .next (refuse p stBAD_PARAM 0x20 s)) ∧
    (fld p.params 0 2 ≤ 200 → fld p.params 2 1 ≤ 50 → (∀ i, i < 7 → fld p.params (4 + 2 * i) 2 ≤ 1000) →
      (s.led.held = [] → exec (.ledgConfig r) s = .next (ok p []
        (s.setLed { s.led with vtol := fld p.params 0 2, tamb := fld p.params 2 1, share := sharesOf p.params }))) ∧
      (s.led.held ≠ [] → exec (.ledgConfig r) s = .next (refuse p stDENIED noField s)))) ∧
  (∀ (r : Ref) (p : Packet) (s : State), opStarts 0x0303 r p s = true →
    (findAdm s (fld p.params 0 4) = none → exec (.ledgRelease r) s = .next (refuse p stBAD_PARAM 0x20 s)) ∧
    (∀ a, findAdm s (fld p.params 0 4) = some a →
      (mayUse p a.tenant = false → exec (.ledgRelease r) s = .next (refuse p stDENIED noField s)) ∧
      (mayUse p a.tenant = true →
        (a.kind = .stream → s.fab.lists.any (listNames a.handle) = true → exec (.ledgRelease r) s = .next (refuse p stBUSY noField s)) ∧
        (a.kind = .actuation → (findAct s a.handle).any (fun x => x.state == .firing) = true →
          exec (.ledgRelease r) s = .next (refuseWith p stDENIED [1] s)) ∧
        (a.kind ≠ .bench → (a.kind = .stream → s.fab.lists.any (listNames a.handle) = false) →
          (a.kind = .actuation → (findAct s a.handle).any (fun x => x.state == .firing) = false) →
          exec (.ledgRelease r) s = .next (ok p [] (release a s)) ∧ findAdm (release a s) a.handle = none) ∧
        (a.kind = .bench → midChange (benchOf s a.object) = false →
          exec (.ledgRelease r) s = .next (ok p [] (releaseBench a.object s))) ∧
        (a.kind = .bench → midChange (benchOf s a.object) = true → Inv s → a.object < 16 →
          ∃ u, exec (.ledgRelease r) s = .next u ∧ u.led = s.led ∧
            (benchOf u a.object).releaseRefs = (benchOf s a.object).releaseRefs ++ [p.ref] ∧ Frame [.kw, .fab] s u))))

/-- When the HWM has reached the next position of a generator, a firing advances its scan number and its index by one,
leaves P and F and every other generator as they were, and changes neither the position, the Ledger nor the protocol
engine; a lane that is not ACTIVE is given no trigger; a firing before its position changes nothing. A lane's waiting
TRIGGER, with no CONTROL message before it, leaves at the first character boundary at or after the crossing that no
message takes, with the trigger's SPOS and SCAN and a FINE that puts the camera's instant 2,400 cycles of 2.5 ns after
the crossing; it is then one of the last 64 sent. -/
def Obligations.TriggersFireAndAreSent : Prop :=
  (∀ (tg : Nat) (s : State), Inv s → tg < 8 → tgDue s tg = true →
    let g := getI s.lanes.tg tg TrigGen.reset
    ∃ u, exec (.triggerFire tg) s = .next u ∧
      getI u.lanes.tg tg TrigGen.reset = { g with scan := g.scan + 1, nextK := g.nextK + 1, changed := false } ∧
      (∀ j, j ≠ tg → getI u.lanes.tg j TrigGen.reset = getI s.lanes.tg j TrigGen.reset) ∧
      (∀ l, (laneOf s l).state ≠ .active → (laneOf u l).waiting = (laneOf s l).waiting ∧ (laneOf u l).sent = (laneOf s l).sent) ∧
      Frame [.emitted, .lanes, .pln, .rcp] s u) ∧
  (∀ (tg : Nat) (s : State), tgDue s tg = false → exec (.triggerFire tg) s = .next s) ∧
  (∀ (l crossed : Nat) (t : SentTrigger) (s : State), Inv s → l < 24 → (laneOf s l).state = .active → (laneOf s l).txq = [] →
    (laneOf s l).waiting = some (t, crossed) →
    let st := charBoundary l (max crossed (laneOf s l).busyUntil)
    ∃ u fine, exec (.triggerMessageSend l) s = .next u ∧ (st + 64 ≤ crossed + 2400 → fine + (st + 64) = crossed + 2400) ∧
      u.emitted = .uplink l (uplinkMsg 1 (le4 t.spos.toNat ++ le4 t.scan.toNat ++ le2 fine)) :: s.emitted ∧
      max crossed (laneOf s l).busyUntil ≤ st ∧ (laneOf u l).waiting = none ∧ (laneOf u l).busyUntil = st + 17 * 64 ∧
      (laneOf u l).sent = (t :: (laneOf s l).sent).take 64 ∧ u.now = max s.now st ∧ Frame [.now, .emitted, .lanes] s u)

/-- A boundary that the HWM has reached sets the next boundary to the first multiple of 2^SHIFT after it; before that
nothing happens. Of the settings that wait, exactly those whose boundary is later still wait. A deferred window, preset,
filter, SSI or trigger setting has the value it was given; a new window length moves every boundary that the HWM has not
reached onto its own grid; a trigger's next position is the first of its new positions at or after the boundary. A
class's token bucket holds its content and one refill, at most its limit. -/
def Obligations.WindowBoundaryWork : Prop :=
  (∀ (w : Word) (s : State), boundaryDue s = true →
    ∃ u, exec (.windowBoundary w) s = .next u ∧ u.pos.nextBoundary = boundaryAfter u.pos.shift s.pos.nextBoundary) ∧
  (∀ (w : Word) (s : State), boundaryDue s = false → exec (.windowBoundary w) s = .next s) ∧
  (∀ (b : Long) (s : State), ((applyDue b s).pos.pendingRp.map fun r => (r.what, r.issuer, r.opcode)) =
    (s.pos.pendingRp.filter fun r => after r.boundary b).map fun r => (r.what, r.issuer, r.opcode)) ∧
  (∀ (b at_ : Long) (n k w issuer : Nat) (op : Half) (s : State),
    let u := applyDeferred b ⟨.window n k w, at_, issuer, op⟩ s
    u.pos.shift = n ∧ u.pos.spdFilt = k ∧ u.pos.spdWin = w ∧ u.pos.hwm = s.pos.hwm ∧ u.pos.count = s.pos.count ∧
    (n ≠ s.pos.shift → u.pos.pendingRp = s.pos.pendingRp.map fun r =>
      { r with boundary := if reached s r.boundary then r.boundary else boundaryAt n r.boundary })) ∧
  (∀ (b at_ : Long) (port issuer : Nat) (v : Long) (op : Half) (s : State) (a : AuxPort), s.pos.aux[port - 1]? = some a →
    ((applyDeferred b ⟨.preset port v, at_, issuer, op⟩ s).pos.aux[port - 1]?).map (·.cnt) = some v) ∧
  (∀ (b at_ : Long) (port n issuer : Nat) (op : Half) (s : State) (e : EncCfg), s.pos.enc[port]? = some e →
    (applyDeferred b ⟨.encFilt port n, at_, issuer, op⟩ s).pos.enc[port]? = some { e with filtN := n }) ∧
  (∀ (b at_ : Long) (c : SsiCfg) (issuer : Nat) (op : Half) (s : State),
    (applyDeferred b ⟨.ssi c, at_, issuer, op⟩ s).pos = { s.pos with ssi := c } ∧
    (applyDeferred b ⟨.ssi c, at_, issuer, op⟩ s).boot.wanted.isSome = true) ∧
  (∀ (b at_ : Long) (tg p f issuer : Nat) (op : Half) (s : State), tg < s.lanes.tg.length → 0 < p →
    let g := getI (applyDeferred b ⟨.trigger tg p f, at_, issuer, op⟩ s).lanes.tg tg TrigGen.reset
    g.p = p ∧ g.f = f ∧ g.changed = true ∧ posI b ≤ trigPos g g.nextK ∧ trigPos g (g.nextK - 1) < posI b) ∧
  (∀ (s : State) (c t : Nat), s.draw.tokS[c]? = some t →
    (refillTokens s).draw.tokS[c]? = some (capBucket (t + refillOf s (classDemand s 4 c)) (refillOf s (classDemand s 4 c))))

/-- A block received with at most four sync bits in error on a lane in block lock ends the run of missing sync words; the
fourth successive missing sync word is counted in LANE_SYNCLOSS and ends block lock, and on an ACTIVE lane is an upset
that leaves the lane in TRAIN or RETIRED; a lane without block lock takes no block. A packet at the front of the buffer
is taken out of it whole. A good packet with a reserved field, of a VC that routes to discard, or of a DT that is neither
pixel, EVENT, control reply nor TEST, is counted in LANE_UNMAPPED and goes no further; a good pixel packet whose stamp
names none of the triggers sent is counted in LANE_BADSTAMP, and one that names a trigger goes, as samples in U12.4 from
its first pixel, to the scan line of that trigger on every channel that takes the VC; an EVENT packet of a VC that routes
to the host raises LANE_CAM_EVENT, BAD or not (log entry 54). A packet whose CRC fails is counted in LANE_CRCERR and goes
on marked BAD. -/
def Obligations.CamramReception : Prop :=
  (∀ (l e : Nat) (line : List Bool) (s : State), Inv s → l < 24 → (laneOf s l).locked = true → e ≤ 4 →
    ∃ u, exec (.camramBlockReceived l e line) s = .next u ∧ (laneOf u l).missedSync = 0 ∧
      (∀ j, j ≠ l → laneOf u j = laneOf s j) ∧ Frame [.lanes] s u) ∧
  (∀ (l e : Nat) (line : List Bool) (s : State), Inv s → l < 24 → (laneOf s l).locked = true → 4 < e →
    (laneOf s l).missedSync = 3 →
    ((laneOf s l).state = .active →
      ∃ u, exec (.camramBlockReceived l e line) s = .next u ∧ ((laneOf u l).state = .train ∨ (laneOf u l).state = .retired) ∧
        (laneOf u l).rx = [] ∧ (laneOf u l).missedSync = 0 ∧ (laneOf u l).lock = false ∧
        (laneOf u l).ctr = bumpAt (bumpAt (laneOf s l).ctr cSYNCLOSS) cUPSETS) ∧
    ((laneOf s l).state = .capExchange → exec (.camramBlockReceived l e line) s = .next (modLane l (fun x =>
      { x with lock := false, missedSync := 0, ctr := bumpAt x.ctr cSYNCLOSS }) s))) ∧
  (∀ (l e : Nat) (line : List Bool) (s : State), (laneOf s l).locked = false → exec (.camramBlockReceived l e line) s = .next s) ∧
  (∀ (l : Nat) (s : State), inState s l true .active = false ∨ frontOf (laneOf s l) = none → exec (.camramPacketReceived l) s = .next s) ∧
  (∀ (l : Nat) (s : State) (w : List RxWord), Inv s → l < 24 → inState s l true .active = true →
    frontOf (laneOf s l) = some w → (laneOf s l).inject.1 ≠ 3 →
    let p := readPacket w
    let v := vcOf s l p.vc
    let s' := modLane l (fun x => { x with rx := x.rx.drop w.length, rxTail := min x.rxTail (x.rx.length - w.length) }) s
    (p.crcGood = false → exec (.camramPacketReceived l) s = .next (routePacket l p true (countCrc l false s')) ∧
      (laneOf (countCrc l false s') l).ctr = bumpSat (laneOf s l).ctr cCRCERR) ∧
    (p.crcGood = true →
      (p.reserved ≠ 0 ∨ v = 0 ∨ (isPixel p.dt = false ∧ p.dt ≠ 0x20 ∧ p.dt ≠ 0x21 ∧ p.dt ≠ 0x3E) →
        exec (.camramPacketReceived l) s = .next (modLane l (Lane.bump cUNMAPPED) s')) ∧
      (p.reserved = 0 → isPixel p.dt = true → announced s l p.dt = true → 0x80 ≤ v →
        findTrigger s l p.spos (BitVec.ofNat 32 (fld p.payload 0 4)) = none →
        exec (.camramPacketReceived l) s = .next (modLane l (Lane.bump cBADSTAMP) s')) ∧
      (∀ t, p.reserved = 0 → isPixel p.dt = true → announced s l p.dt = true → 0x80 ≤ v →
        findTrigger s l p.spos (BitVec.ofNat 32 (fld p.payload 0 4)) = some t →
        ∃ g : Segment, exec (.camramPacketReceived l) s = .next (deliverSegment (takers s (v - 0x80)) g s') ∧
          g.k = t.k ∧ g.scan = t.scan ∧ g.first = fld p.payload 4 2 ∧ g.count = fld p.payload 6 2 ∧ g.bad = p.bad ∧
          (∀ i, i < g.samples.length → g.samples[i]? = some (sampleOf p.dt (rawPixel p.dt (p.payload.drop 8) i)))) ∧
      (p.reserved = 0 → p.dt = 0x20 → v = 1 → exec (.camramPacketReceived l) s =
        .next (noticeUnit 0x0404 (le1 l ++ le1 p.vc ++ le2 p.payload.length ++ p.payload.take 32) s'))))

/-- A CoaXPress packet for which the lane's buffer has no room is dropped and counted in LANE_OVF; one of a stream that the
stream-ID table does not hold, or an image header whose VC routes to no channel, is dropped and counted in LANE_UNMAPPED;
and of a lane that is not ACTIVE none is taken. An image header begins a new image of its stream. A piece of a scan line
from pixel 0 on begins the image's next scan line; a piece goes to the scan line of the trigger its image pairs it with,
marked BAD and counted in LANE_CRCERR when its CRC fails; one without such a trigger is counted in LANE_BADSTAMP, and one of
no pixel format or no channel in LANE_UNMAPPED. An event whose VC routes to the host raises LANE_CAM_EVENT.
Loss of alignment is counted on every lane of the group in DISCOVER or ACTIVE, and is an upset of each ACTIVE one, which
goes to DETECT or RETIRED; where none is in those states nothing changes. A complete control reply whose TAG no
transaction waits for is counted in KW_FENCED of tenant 0; one that a transaction waits for ends it with OK and the
reply's bytes. 200 ms after the oldest transaction began its packet ends with TIMED_OUT. -/
def Obligations.CxpReceptionAndControl : Prop :=
  (∀ (l : Nat) (p : CxpPacket) (full : Bool) (s : State),
    (inState s l false .active = false → exec (.cxpPacketReceived l ⟨p, full⟩) s = .next s) ∧
    (inState s l false .active = true →
      exec (.cxpPacketReceived l ⟨p, true⟩) s = .next (modLane l (fun x => (x.bump cOVF).flag flOVF) s))) ∧
  (∀ (l : Nat) (stream : Byte) (n first format : Nat) (samples : List Nat) (data : Bytes) (good : Bool) (s : State),
    inState s l false .active = true → streamVc s l stream = none →
    exec (.cxpPacketReceived l ⟨.imageHeader stream n, false⟩) s = .next (modLane l (Lane.bump cUNMAPPED) s) ∧
    exec (.cxpPacketReceived l ⟨.event stream data, false⟩) s = .next (modLane l (Lane.bump cUNMAPPED) s) ∧
    exec (.cxpPacketReceived l ⟨.scanLine stream first format samples good, false⟩) s = .next (modLane l (Lane.bump cUNMAPPED) s)) ∧
  (∀ (l vc n : Nat) (stream : Byte) (data : Bytes) (s : State), Inv s → inState s l false .active = true → streamVc s l stream = some vc →
    (vcOf s l vc < 0x80 → exec (.cxpPacketReceived l ⟨.imageHeader stream n, false⟩) s = .next (modLane l (Lane.bump cUNMAPPED) s)) ∧
    (0x80 ≤ vcOf s l vc → ∃ u, exec (.cxpPacketReceived l ⟨.imageHeader stream n, false⟩) s = .next u ∧
      (laneOf u (firstLane s l)).cxp.getLast? = some { stream := stream, trigs := [], lines := 0 } ∧ Frame [.lanes, .pln] s u) ∧
    (vcOf s l vc = 1 → exec (.cxpPacketReceived l ⟨.event stream data, false⟩) s =
      .next (noticeUnit 0x0404 (le1 l ++ le1 vc ++ le2 data.length ++ data.take 32) s))) ∧
  (∀ (l vc first format : Nat) (stream : Byte) (samples : List Nat) (good : Bool) (s : State),
    inState s l false .active = true → streamVc s l stream = some vc → (laneOf s l).inject.1 ≠ 3 →
    let s0 := if good then s else countCrc l false s
    (isPixel format = false ∨ vcOf s l vc < 0x80 → exec (.cxpPacketReceived l ⟨.scanLine stream first format samples good, false⟩) s =
      .next (modLane l (Lane.bump cUNMAPPED) s0)) ∧
    (isPixel format = true → 0x80 ≤ vcOf s l vc →
      let s1 := if first = 0 then modStream (firstLane s l) stream (fun c => { c with lines := c.lines + 1 }) s0 else s0
      let image := (laneOf s1 (firstLane s l)).cxp.find? fun c => c.stream == stream
      let trig := image.bind fun c => if c.lines = 0 then none else c.trigs[c.lines - 1]?
      (trig = none → exec (.cxpPacketReceived l ⟨.scanLine stream first format samples good, false⟩) s =
        .next (modLane l (Lane.bump cBADSTAMP) s1)) ∧
      (∀ t, trig = some t → ∃ g : Segment, exec (.cxpPacketReceived l ⟨.scanLine stream first format samples good, false⟩) s =
          .next (deliverSegment (takers s1 (vcOf s l vc - 0x80)) g s1) ∧ g.k = t.k ∧ g.scan = t.scan ∧ g.first = first ∧
        g.count = samples.length ∧ g.bad = !good ∧ g.samples = samples.map fun r => sampleOf format (r % 2 ^ dtBits format)))) ∧
  (∀ (l : Nat) (s : State), cxpGroup s l [.active, .discover] = [] → exec (.cxpAlignmentLoss l) s = .next s) ∧
  (∀ (l : Nat) (s : State), Inv s → ∃ u, exec (.cxpAlignmentLoss l) s = .next u ∧ ∀ k ∈ cxpGroup s l [.active, .discover],
    ((laneOf s k).state = .active → ((laneOf u k).state = .detect ∨ (laneOf u k).state = .retired) ∧
      (laneOf u k).ctr = bumpAt (bumpAt (laneOf s k).ctr cSYNCLOSS) cUPSETS) ∧
    ((laneOf s k).state = .discover → (laneOf u k).state = .discover ∧ (laneOf u k).ctr = bumpAt (laneOf s k).ctr cSYNCLOSS)) ∧
  (∀ (l : Nat) (tag : Byte) (b : Bytes) (s : State), (laneOf s l).state = .active →
    (laneOf s l).ctrl.find? (fun x => x.tag == tag) = none → exec (.controlReply l tag b) s = .next (countFenced 0 s)) ∧
  (∀ (l : Nat) (tag : Byte) (b : Bytes) (s : State) (x : CtrlXact) (p : Packet), (laneOf s l).state = .active →
    (laneOf s l).ctrl.find? (fun x => x.tag == tag) = some x → findP x.ref s = some p →
    ∃ s', exec (.controlReply l tag b) s = .next (doneLater p stOK b s') ∧
      s' = modLane l (fun y => { y with ctrl := y.ctrl.filter fun z => !(z.ref == x.ref) }) s) ∧
  (∀ (l : Nat) (s : State) (x : CtrlXact) (rest : List CtrlXact) (p : Packet), (laneOf s l).ctrl = x :: rest →
    findP x.ref s = some p → exec (.controlXactTimeout l) s =
      .next (doneLater p stTIMED_OUT [] (modLane l (fun y => { y with ctrl := rest }) (s.at_ (x.since + 200 * 400000)))))

/-- Two successive probes that find the termination, 12 ms apart, take a lane from DETECT to TRAIN at rate code 1, with a
TRAIN message; a failed probe starts the count again. TRAIN goes out again every 100 us. Bit lock, 2^24 good training
bits and four sync words each lead to the next state at the same rate. A CAPABILITY without conflict whose agreed rate is
the present one makes the lane ACTIVE; at another it trains at the agreed rate; without a common rate it returns to
DETECT; a conflict, or another camera after an upset, leads to CAP_FAULT, and one with a reserved field is only counted
in LANE_UNMAPPED. Each state's limit (50, 20, 5, 10 ms) leads where Table 4.8 says, unless its condition is met in the
same instant, and CAP_FAULT returns to DETECT after one second unless the camera has changed. A command of another state
changes nothing. -/
def Obligations.CamramBringUp : Prop :=
  (∀ (l : Nat) (s : State), Inv s → l < 24 → inState s l true .detect = true →
    let at_ := match (laneOf s l).probed with | some t => max s.now (t + 12 * 400000) | none => s.now
    ((laneOf s l).probes = 0 → ∃ u, exec (.detectProbe l true) s = .next u ∧ (laneOf u l).state = .detect ∧
      (laneOf u l).probes = 1 ∧ u.emitted = .probe l :: s.emitted ∧ u.now = at_ ∧ (laneOf u l).probed = some at_) ∧
    ((laneOf s l).probes = 1 → ∃ u, exec (.detectProbe l true) s = .next u ∧ (laneOf u l).state = .train ∧ (laneOf u l).rate = 1 ∧
      u.now = at_ ∧ u.emitted = .uplink l (uplinkMsg 2 [1, 0]) :: .probe l :: s.emitted) ∧
    (∃ u, exec (.detectProbe l false) s = .next u ∧ (laneOf u l).state = .detect ∧ (laneOf u l).probes = 0)) ∧
  (∀ (l : Nat) (s : State), Inv s → l < 24 → inState s l true .train = true → (laneOf s l).rate < 256 →
    ∃ u, exec (.trainResend l) s = .next u ∧ u.emitted = .uplink l (uplinkMsg 2 [BitVec.ofNat 8 (laneOf s l).rate, 0]) :: s.emitted ∧
      (laneOf u l).state = .train ∧ (laneOf u l).since = (laneOf s l).since) ∧
  (∀ (l : Nat) (s : State), inState s l true .train = true →
    exec (.bitLock l) s = .next (goLane l .bitLock (laneOf s l).rate s)) ∧
  (∀ (l : Nat) (s : State), Inv s → l < 24 → inState s l true .bitLock = true →
    ∃ u, exec (.prbsTrainVerified l) s = .next u ∧ (laneOf u l).state = .blockLock ∧ (laneOf u l).rate = (laneOf s l).rate ∧
      u.emitted = .uplink l (uplinkMsg 3 []) :: s.emitted) ∧
  (∀ (l : Nat) (s : State), inState s l true .blockLock = true → exec (.blockLock l) s =
    .next (goLane l .capExchange (laneOf s l).rate (modLane l (fun x => { x with lock := true, missedSync := 0 }) s))) ∧
  (∀ (l : Nat) (b : Bytes) (s : State), Inv s → l < 24 → inState s l true .capExchange = true → (laneOf s l).lock = true →
    (capReserved b = true → exec (.capExchange l b) s = .next (modLane l (Lane.bump cUNMAPPED) s)) ∧
    (capReserved b = false → fld b 0 1 = 1 →
      (capConflict s l (readCapability b) = true → ∃ u, exec (.capExchange l b) s = .next u ∧ (laneOf u l).state = .capFault ∧
        (laneOf u l).cameraChanged = false) ∧
      (capConflict s l (readCapability b) = false →
        (∀ o, (laneOf s l).afterUpset = true → (laneOf s l).capability = some o → o.cameraId ≠ (readCapability b).cameraId →
          ∃ u, exec (.capExchange l b) s = .next u ∧ (laneOf u l).state = .capFault ∧ (laneOf u l).cameraChanged = true) ∧
        ((∀ o, (laneOf s l).afterUpset = true → (laneOf s l).capability = some o → o.cameraId = (readCapability b).cameraId) →
          (agreedRate (laneOf s l) (readCapability b).rates = none → exec (.capExchange l b) s = .next (goDetect l s)) ∧
          (∀ a, agreedRate (laneOf s l) (readCapability b).rates = some a → ∃ u, exec (.capExchange l b) s = .next u ∧
            (laneOf u l).agreed = some a ∧ (laneOf u l).capability = some (readCapability b) ∧ (laneOf u l).rate = a ∧
            (laneOf u l).state = (if a = (laneOf s l).rate then .active else .train)))))) ∧
  (∀ (l : Nat) (s : State), Inv s → l < 24 → inState s l true .train = true →
    ∃ u, exec (.bringupTimeout ⟨l, false⟩) s = .next u ∧ (laneOf u l).state = .detect ∧ (laneOf u l).rate = 0 ∧
      u.now = max s.now ((laneOf s l).since + 50 * 400000)) ∧
  (∀ (l : Nat) (s : State), Inv s → l < 24 → inState s l true .bitLock = true →
    ∃ u, exec (.bringupTimeout ⟨l, false⟩) s = .next u ∧ u.now = max s.now ((laneOf s l).since + 20 * 400000) ∧
      (laneOf u l).state = (if (laneOf s l).bitExpiries < 2 then .train else .detect) ∧
      ((laneOf s l).bitExpiries < 2 → (laneOf u l).rate = (laneOf s l).rate ∧ (laneOf u l).bitExpiries = (laneOf s l).bitExpiries + 1) ∧
      (2 ≤ (laneOf s l).bitExpiries → (laneOf s l).agreed = some (laneOf s l).rate → (laneOf s l).cfg.rateMin < (laneOf s l).rate →
        (laneOf u l).cap = some ((laneOf s l).rate - 1))) ∧
  (∀ (l : Nat) (s : State), Inv s → l < 24 → (inState s l true .blockLock = true ∨ inState s l true .capExchange = true) →
    ∃ u, exec (.bringupTimeout ⟨l, false⟩) s = .next u ∧ (laneOf u l).state = .train ∧ (laneOf u l).rate = (laneOf s l).rate ∧
      u.now = max s.now ((laneOf s l).since + (if (laneOf s l).state = .blockLock then 5 else 10) * 400000)) ∧
  (∀ (l : Nat) (s : State), exec (.bringupTimeout ⟨l, true⟩) s = .next s) ∧
  (∀ (l : Nat) (s : State), Inv s → l < 24 → inState s l true .capFault = true → (laneOf s l).cameraChanged = false →
    ∃ u, exec (.capFaultRetry l) s = .next u ∧ (laneOf u l).state = .detect ∧ u.now = max s.now ((laneOf s l).since + 400000000)) ∧
  (∀ (l : Nat) (s : State), inState s l true .capFault = false ∨ (laneOf s l).cameraChanged = true →
    exec (.capFaultRetry l) s = .next s) ∧
  (∀ (l : Nat) (ok : Bool) (b : Bytes) (s : State),
    (inState s l true .detect = false → exec (.detectProbe l ok) s = .next s) ∧
    (inState s l true .train = false → exec (.trainResend l) s = .next s ∧ exec (.bitLock l) s = .next s) ∧
    (inState s l true .bitLock = false → exec (.prbsTrainVerified l) s = .next s) ∧
    (inState s l true .blockLock = false → exec (.blockLock l) s = .next s) ∧
    (inState s l true .capExchange = false → exec (.capExchange l b) s = .next s))

/-- Alignment of the master at CXP-1 takes the lanes of its group that wait in DETECT, as many as the device has connections,
to DISCOVER at rate code 1, with the highest rate that the device and every one of them support as target, and leaves
every other lane's state; the acknowledgement takes the group to RESYNC at the target; alignment there makes it ACTIVE at
the target rate; DISCOVER that lasts 500 ms and RESYNC that lasts 100 ms return it to DETECT, the latter with the target
lowered by one code and one fallback counted, unless the state's condition is met in the same instant. -/
def Obligations.CxpBringUp : Prop :=
  ∀ (l : Nat) (s : State), Inv s → l < 24 → 1 ≤ (laneOf s l).cfg.group →
    (∀ (rates : Byte) (conn : Nat), masterIn s l .detect = true →
      let n := min conn (laneOf s l).cfg.group
      let ls := (cxpGroup s l [.detect]).filter fun k => decide (k < l + n)
      ∃ u, exec (.cxpDetectAligned l rates conn) s = .next u ∧ (laneOf u l).cxpTarget = ((groupRate s ls rates).getD 0, n) ∧
        (∀ k ∈ ls, (laneOf u k).state = .discover ∧ (laneOf u k).rate = 1) ∧ (∀ k, k ∉ ls → (laneOf u k).state = (laneOf s k).state) ∧
        (1 ≤ n → l ∈ ls) ∧ Frame [.lanes] s u) ∧
    (∀ (rates : Byte) (ls : List Nat) (a : Nat), groupRate s ls rates = some a →
      (rates.getLsbD a = true ∧ ∀ k ∈ ls, (laneOf s k).cfg.rateMin ≤ a ∧ a ≤ (laneOf s k).cfg.rateMax) ∧
      ∀ c, a < c → c < 8 → rates.getLsbD c = true → ∃ k ∈ ls, c < (laneOf s k).cfg.rateMin ∨
        (laneOf s k).cfg.rateMax < c ∨ (laneOf s k).cap.getD 7 < c) ∧
    (masterIn s l .discover = true → (laneOf s l).cxpTarget.1 ≠ 0 →
      ∃ u, exec (.cxpDiscoverAck l) s = .next u ∧ (∀ k ∈ cxpGroup s l [.discover], (laneOf u k).state = .resync ∧
        (laneOf u k).rate = (laneOf s l).cxpTarget.1) ∧ l ∈ cxpGroup s l [.discover] ∧ Frame [.lanes] s u) ∧
    (masterIn s l .discover = false ∨ (laneOf s l).cxpTarget.1 = 0 → exec (.cxpDiscoverAck l) s = .next s) ∧
    (masterIn s l .resync = true →
      ∃ u, exec (.cxpResyncDone l) s = .next u ∧ (∀ k ∈ cxpGroup s l [.resync], (laneOf u k).state = .active ∧
        (laneOf u k).rate = (laneOf s l).rate) ∧ l ∈ cxpGroup s l [.resync] ∧ (laneOf u l).agreed = some (laneOf s l).rate) ∧
    (masterIn s l .discover = true →
      ∃ u, exec (.cxpBringupTimeout ⟨l, false⟩) s = .next u ∧ (∀ k ∈ cxpGroup s l [.discover], (laneOf u k).state = .detect) ∧
        u.now = max s.now ((laneOf s l).since + 500 * 400000)) ∧
    (masterIn s l .resync = true →
      ∃ u, exec (.cxpBringupTimeout ⟨l, false⟩) s = .next u ∧ (∀ k ∈ cxpGroup s l [.resync], (laneOf u k).state = .detect) ∧
        u.now = max s.now ((laneOf s l).since + 100 * 400000) ∧ (laneOf u l).cap = some ((laneOf s l).rate - 1) ∧
        (laneOf u l).ctr = bumpAt (laneOf s l).ctr cFALLBACK) ∧
    exec (.cxpBringupTimeout ⟨l, true⟩) s = .next s

/-- A LANE_CONFIG without a field at fault sets the whole configuration of a lane that is not enabled. On an enabled lane
one that changes its mode, rate limits, group, tables or trigger generator is refused with DENIED, and otherwise
TRIGMAX is set at once and CRCLIM waits for the next window; a field at fault is refused with BAD_PARAM. LANE_ENABLE takes
a lane in DISABLED or TEST whose domain is on to DETECT and leaves one that is enabled, takes a lane to DISABLED or to
TEST, and refuses with DENIED to take an enabled lane that a held recipe uses out of service, and with RETIRED_RESOURCE a
retired one; LANE_UNRETIRE brings a retired lane back to DETECT and refuses any other lane. -/
def Obligations.LaneConfiguration : Prop :=
  (∀ (r : Ref) (p : Packet) (s : State), opStarts 0x0402 r p s = true →
    let l := fld p.params 0 1
    let c := laneCfgOf p.params
    let fixed := fun (x : LaneCfg) => (x.camram, x.rateMin, x.rateMax, x.group, x.vc, x.sid, x.tg)
    (∀ off, laneCfgBad s p.params = some off → exec (.laneConfig r) s = .next (refuse p stBAD_PARAM off s)) ∧
    (laneCfgBad s p.params = none →
      ((laneOf s l).enabled = false →
        exec (.laneConfig r) s = .next (ok p [] (modLane l (fun x => { x with cfg := c, crcNext := none }) s))) ∧
      ((laneOf s l).enabled = true → fixed c ≠ fixed (laneOf s l).cfg → exec (.laneConfig r) s = .next (refuse p stDENIED noField s)) ∧
      ((laneOf s l).enabled = true → fixed c = fixed (laneOf s l).cfg →
        exec (.laneConfig r) s =
          .next (ok p [] (modLane l (fun x => { x with cfg := { x.cfg with trigMax := c.trigMax }, crcNext := some c.crcLim }) s))))) ∧
  (∀ (r : Ref) (p : Packet) (s : State), opStarts 0x0403 r p s = true → fld p.params 0 1 ≤ 23 →
    let l := fld p.params 0 1
    let dest := fld p.params 1 1
    ((laneOf s l).state = .retired → dest ≤ 2 → exec (.laneEnable r) s = .next (refuse p stRETIRED 0x20 s)) ∧
    ((laneOf s l).state ≠ .retired →
      (dest = 1 → (laneOf s l).enabled = true → (laneOf s l).state ≠ .test → exec (.laneEnable r) s = .next (ok p [] s)) ∧
      (dest = 1 → (laneOf s l).state = .disabled ∨ (laneOf s l).state = .test → laneOn s l = true →
        exec (.laneEnable r) s = .next (ok p [] (goDetect l (modLane l forgetLane s)))) ∧
      (dest = 0 ∨ dest = 2 → (laneOf s l).enabled = true → laneUsed s l = true →
        exec (.laneEnable r) s = .next (refuse p stDENIED noField s)) ∧
      (dest = 0 → (laneOf s l).enabled = false → exec (.laneEnable r) s = .next (ok p [] s)) ∧
      (dest = 0 → (laneOf s l).enabled = true → laneUsed s l = false → Inv s →
        ∃ s', exec (.laneEnable r) s = .next (ok p [] s') ∧ (laneOf s' l).state = .disabled) ∧
      (dest = 2 → (laneOf s l).state = .test → laneOn s l = true → laneUsed s l = false → exec (.laneEnable r) s = .next (ok p [] s)) ∧
      (dest = 2 → (laneOf s l).state ≠ .test → laneOn s l = true → laneUsed s l = false → Inv s →
        ∃ s', exec (.laneEnable r) s = .next (ok p [] s') ∧ (laneOf s' l).state = .test))) ∧
  (∀ (r : Ref) (p : Packet) (s : State), opStarts 0x0460 r p s = true → Inv s → fld p.params 0 1 ≤ 23 →
    ((laneOf s (fld p.params 0 1)).state ≠ .retired → exec (.laneUnretire r) s = .next (refuse p stBAD_PARAM 0x20 s)) ∧
    ((laneOf s (fld p.params 0 1)).state = .retired → laneOn s (fld p.params 0 1) = true →
      ∃ s', exec (.laneUnretire r) s = .next (ok p [] s') ∧ (laneOf s' (fld p.params 0 1)).state = .detect ∧
        s'.boot.wanted.isSome = true ∧ (∀ u ∈ s'.flt.upsets, ¬(u.1 = 1 ∧ u.2.1 = fld p.params 0 1))))

/-- LANE_PRBS, LANE_INJECT in generator modes and LANE_LOOPBACK on a lane that is not in TEST are refused with DENIED; in
TEST a new PRBS run sets pattern, rate and action, clears bits and errors and starts unlocked, and a read answers them;
a loopback and an injection are set as given, a packet injection on an ACTIVE lane. A generator bit is the sum of the
two taps of its pattern, inverted and counted when an injection is due. The checker locks at the 64th successive bit
that its prediction matches; locked, it runs free, counts bits and mismatches, and loses lock, counted in LANE_PRBSLOSS,
at the 256th error of a block. LANE_EYESCAN is refused with BAD_PARAM in CoaXPress mode and with BUSY_RETRY while a scan
runs on its quad, starts on an ACTIVE lane, and ends at once on another; its last point answers OK. An adaptation of an
enabled lane leaves each parameter within its bounds, and PINNED says whether a proposal lay outside them;
LANE_EQ_BOUNDS in range moves each parameter into its new bounds. LANE_STATUS answers its table and changes nothing.
LANE_CTRL_XACT on a CoaXPress lane that is not ACTIVE is refused with BUSY_RETRY, and otherwise commits and is sent.
LANE_TRIGGER_CONFIG in range waits for the next boundary, or with APPLY_STATIONARY at standstill is in force at once. -/
def Obligations.LaneTestsAndMonitoring : Prop :=
  (∀ (r : Ref) (p : Packet) (s : State) (line other : List Bool), opStarts 0x0430 r p s = true → Inv s → fld p.params 0 1 ≤ 23 →
    fld p.params 1 1 ∈ [7, 15, 23, 31] → 1 ≤ fld p.params 2 1 → fld p.params 2 1 ≤ topRate (laneOf s (fld p.params 0 1)).cfg.camram →
    fld p.params 3 1 ≤ 3 →
    let l := fld p.params 0 1
    ((laneOf s l).state ≠ .test → exec (.lanePrbs r line other) s = .next (refuse p stDENIED noField s)) ∧
    ((laneOf s l).state = .test → fld p.params 3 1 = 1 ∨ fld p.params 3 1 = 2 →
      ∃ s', exec (.lanePrbs r line other) s = .next (ok p (List.replicate 20 0) s') ∧
        (laneOf s' l).prbs = fld p.params 1 1 ∧ (laneOf s' l).prbsRate = fld p.params 2 1 ∧ (laneOf s' l).prbsAction = fld p.params 3 1 ∧
        (laneOf s' l).prbsLock = false ∧ (laneOf s' l).bits = 0 ∧ (laneOf s' l).errs = 0 ∧ Frame [.emitted, .lanes] s s') ∧
    ((laneOf s l).state = .test → fld p.params 3 1 = 3 → exec (.lanePrbs r line other) s = .next (ok p
      (le1 (b2n (laneOf (testLine l line s) l).prbsLock) ++ List.replicate 3 0 ++ le8 (laneOf (testLine l line s) l).bits.toNat ++
        le8 (laneOf (testLine l line s) l).errs) (testPair l line other s))) ∧
    ((laneOf s l).state = .test → fld p.params 3 1 = 0 → ∃ res s', exec (.lanePrbs r line other) s = .next (ok p res s') ∧
      (laneOf s' l).checking = false ∧ (laneOf s' l).generating = false ∧ (laneOf s' l).prbsLock = false)) ∧
  (∀ (r : Ref) (p : Packet) (s : State), opStarts 0x0431 r p s = true → fld p.params 0 1 ≤ 23 → fld p.params 1 1 ≤ 3 →
    (fld p.params 1 1 = 2 → 10 ≤ fld p.params 2 1 ∧ fld p.params 2 1 ≤ 40) → (fld p.params 1 1 = 3 → 1 ≤ fld p.params 4 2) →
    let l := fld p.params 0 1
    let m := fld p.params 1 1
    ((m = 1 ∨ m = 2) ∧ (laneOf s l).state ≠ .test ∨ m = 3 ∧ (laneOf s l).state ≠ .active →
      exec (.laneInject r) s = .next (refuse p stDENIED noField s)) ∧
    ((m = 1 ∨ m = 2 → (laneOf s l).state = .test) → (m = 3 → (laneOf s l).state = .active) → exec (.laneInject r) s =
      .next (ok p [] (modLane l (fun x => { x with
        inject := (m, fld p.params 2 1, fld p.params 4 2), injectCount := 0, injectNext := m == 1 && x.generating }) s)))) ∧
  (∀ (x : Lane),
    let due := x.injectNext || (x.inject.1 == 2 && decide (2 ^ x.inject.2.1 ≤ x.injectCount + 1))
    (genBit x).1 = (prbsNext x.prbs x.gen ^^ due) ∧ (genBit x).2.ctr = (if due then bumpAt x.ctr cINJECTED else x.ctr)) ∧
  (∀ (r : BitVec 31), prbsNext 7 r = (r.getLsbD 6 ^^ r.getLsbD 5) ∧ prbsNext 15 r = (r.getLsbD 14 ^^ r.getLsbD 13) ∧
    prbsNext 23 r = (r.getLsbD 22 ^^ r.getLsbD 17) ∧ prbsNext 31 r = (r.getLsbD 30 ^^ r.getLsbD 27)) ∧
  (∀ (l : Nat) (line other : List Bool) (s : State), Inv s → l < 24 →
    exec (.prbsCheckerLock ⟨l, line, other⟩) s = .next (testPair l line other s) ∧
    exec (.prbsLockLoss l line other) s = .next (testPair l line other s) ∧
    laneOf (testPair l line other s) l = laneOf (testLine l line s) l ∧
    ((laneOf s (loopPartner l)).state ≠ .test → testPair l line other s = testLine l line s) ∧
    ((laneOf s l).state ≠ .test → testLine l line s = s) ∧
    ((laneOf s l).checking = true → (laneOf s l).loopback ≠ 1 → (laneOf s l).generating = false →
      laneOf (testLine l line s) l = line.foldl checkBit (laneOf s l) ∧ Frame [.emitted, .lanes] s (testLine l line s)) ∧
    ((laneOf s l).checking = true → (laneOf s l).loopback ≠ 1 → (laneOf s l).prbsLock = false → (laneOf s l).chkRun = 63 →
      (laneOf s l).generating = false →
      ∃ u, exec (.prbsCheckerLock ⟨l, [prbsNext (laneOf s l).prbs (laneOf s l).chk], other⟩) s = .next u ∧ (laneOf u l).prbsLock = true) ∧
    ((laneOf s l).checking = true → (laneOf s l).loopback ≠ 1 → (laneOf s l).prbsLock = true → 255 ≤ (laneOf s l).chkBlock.2 →
      (laneOf s l).generating = false →
      ∃ u, exec (.prbsLockLoss l [!prbsNext (laneOf s l).prbs (laneOf s l).chk] other) s = .next u ∧ (laneOf u l).prbsLock = false ∧
        (laneOf u l).ctr = bumpAt (laneOf s l).ctr cPRBSLOSS)) ∧
  (∀ (x : Lane) (b : Bool),
    (x.prbsLock = false → (checkBit x b).bits = x.bits ∧ (checkBit x b).errs = x.errs ∧
      ((checkBit x b).prbsLock = true ↔ b = prbsNext x.prbs x.chk ∧ x.chkRun = 63)) ∧
    (x.prbsLock = true → (checkBit x b).bits = x.bits + 1 ∧
      (checkBit x b).errs = min (2 ^ 48 - 1) (x.errs + b2n (b != prbsNext x.prbs x.chk)) ∧
      ((checkBit x b).prbsLock = false ↔ 256 ≤ x.chkBlock.2 + b2n (b != prbsNext x.prbs x.chk)))) ∧
  (∀ (r : Ref) (p : Packet) (s : State), opStarts 0x0432 r p s = true → fld p.params 0 1 ≤ 23 → fld p.params 1 1 ≤ 2 →
    let l := fld p.params 0 1
    ((laneOf s l).state ≠ .test ∨ (fld p.params 1 1 = 2 ∧ (laneOf s (loopPartner l)).state ≠ .test) →
      exec (.laneLoopback r) s = .next (refuse p stDENIED noField s)) ∧
    ((laneOf s l).state = .test → (fld p.params 1 1 = 2 → (laneOf s (loopPartner l)).state = .test) →
      exec (.laneLoopback r) s = .next (ok p [] (modLane l (fun x => { x with loopback := fld p.params 1 1 }) s)))) ∧
  (∀ (r : Ref) (p : Packet) (s : State), opStarts 0x0440 r p s = true → fld p.params 0 1 ≤ 23 →
    let l := fld p.params 0 1
    ((laneOf s l).cfg.camram = false → exec (.laneEyescan r) s = .next (refuse p stBAD_PARAM 0x20 s)) ∧
    ((laneOf s l).cfg.camram = true →
      (∀ off, eyeBad p.params = some off → exec (.laneEyescan r) s = .next (refuse p stBAD_PARAM off s)) ∧
      (eyeBad p.params = none → eyeBusy s l = true → exec (.laneEyescan r) s = .next (refuse p stBUSY noField s)) ∧
      (eyeBad p.params = none → eyeBusy s l = false → Inv s →
        ((laneOf s l).state = .active → ∃ u e, exec (.laneEyescan r) s = .next u ∧ (laneOf u l).eye = some e ∧ e.ref = p.ref ∧
          e.bitsExp = fld p.params 1 1 ∧ e.counts = [] ∧ Frame [.kw, .lanes] s u) ∧
        ((laneOf s l).state ≠ .active → ∃ u, exec (.laneEyescan r) s = .next u ∧ (laneOf u l).eye = none ∧ findP p.ref u = none)))) ∧
  (∀ (l : Nat) (counts : List Nat) (s : State) (e : EyeScan) (p : Packet), Inv s → l < 24 → (laneOf s l).state = .active →
    (laneOf s l).eye = some e → findP e.ref s = some p →
    let e' := addPoints counts e
    (e'.counts.length = eyePoints e' → ∃ res s', exec (.eyescanDone l counts) s = .next (doneLater p stOK res s') ∧
      (laneOf s' l).eye = none ∧ res.length = 32 + 4 * (e.phCount * e.vCount) ∧ Frame [.lanes] s s') ∧
    (e'.counts.length ≠ eyePoints e' → ∃ u, exec (.eyescanDone l counts) s = .next u ∧ (laneOf u l).eye = some e' ∧
      Frame [.lanes] s u)) ∧
  (∀ (l : Nat) (a b c : Int) (t : Nat) (s : State), Inv s → l < 24 →
    ((laneOf s l).enabled = true → (laneOf s l).eq.length = 3 →
      (∀ i, i < 3 → getI (laneOf s l).eqMin i 0 ≤ getI (laneOf s l).eqMax i 0) →
      ∃ u, exec (.eqAdaptation l a b c t) s = .next u ∧
        (∀ i, i < 3 → getI (laneOf s l).eqMin i 0 ≤ getI (laneOf u l).eq i 0 ∧ getI (laneOf u l).eq i 0 ≤ getI (laneOf s l).eqMax i 0) ∧
        ((laneOf u l).pinned = true ↔ ∃ i, i < 3 ∧ (getI [a, b, c] i 0 < getI (laneOf s l).eqMin i 0 ∨
          getI (laneOf s l).eqMax i 0 < getI [a, b, c] i 0)) ∧
        (laneOf u l).eqMin = (laneOf s l).eqMin ∧ (laneOf u l).eqMax = (laneOf s l).eqMax) ∧
    ((laneOf s l).enabled = false → exec (.eqAdaptation l a b c t) s = .next (s.at_ t))) ∧
  (∀ (r : Ref) (p : Packet) (s : State), opStarts 0x0450 r p s = true → Inv s → fld p.params 0 1 ≤ 23 →
    fld p.params 1 1 ≤ fld p.params 2 1 → fld p.params 2 1 ≤ 31 → fld p.params 3 1 ≤ fld p.params 4 1 → fld p.params 4 1 ≤ 63 →
    -32 ≤ sfld p.params 5 1 → sfld p.params 5 1 ≤ sfld p.params 6 1 → sfld p.params 6 1 ≤ 31 →
    ∃ s', exec (.laneEqBounds r) s = .next (ok p [] s') ∧
      (laneOf s' (fld p.params 0 1)).eqMin = [(fld p.params 1 1 : Int), (fld p.params 3 1 : Int), sfld p.params 5 1] ∧
      (laneOf s' (fld p.params 0 1)).eqMax = [(fld p.params 2 1 : Int), (fld p.params 4 1 : Int), sfld p.params 6 1] ∧
      (∀ i, i < 3 → (laneOf s (fld p.params 0 1)).eq.length = 3 →
        getI (laneOf s' (fld p.params 0 1)).eqMin i 0 ≤ getI (laneOf s' (fld p.params 0 1)).eq i 0 ∧
        getI (laneOf s' (fld p.params 0 1)).eq i 0 ≤ getI (laneOf s' (fld p.params 0 1)).eqMax i 0) ∧ Frame [.lanes] s s') ∧
  (∀ (r : Ref) (p : Packet) (s : State), opStarts 0x0401 r p s = true →
    let x := laneOf s (fld p.params 0 1)
    (23 < fld p.params 0 1 → exec (.laneStatus r) s = .next (refuse p stBAD_PARAM 0x20 s)) ∧
    (fld p.params 0 1 ≤ 23 → exec (.laneStatus r) s = .next (ok p (le4 (laneStatusReg s (fld p.params 0 1)).toNat ++
      eqBytes x ++ le8 x.bits.toNat ++ le8 x.errs ++ x.ctr.flatMap fun w => le4 w.toNat) s))) ∧
  (∀ (r : Ref) (p : Packet) (s : State), opStarts 0x0420 r p s = true → Inv s → fld p.params 0 1 ≤ 23 → 1 ≤ fld p.params 2 2 →
    fld p.params 2 2 ≤ 1024 → fld p.params 2 2 = p.params.length - 4 →
    let l := fld p.params 0 1
    ((laneOf s l).state = .retired → exec (.laneCtrlXact r) s = .next (refuse p stRETIRED 0x20 s)) ∧
    ((laneOf s l).cfg.camram = false → (laneOf s l).state ≠ .retired → (laneOf s l).state ≠ .active →
      exec (.laneCtrlXact r) s = .next (refuse p stBUSY noField s)) ∧
    ((laneOf s l).cfg.camram = false → (laneOf s l).state = .active →
      ∃ u, exec (.laneCtrlXact r) s = .next u ∧ u.emitted = .cxpControl l (p.params.drop 4) :: s.emitted ∧
        ((laneOf u l).ctrl.getLast?).map (·.ref) = some p.ref ∧ Frame [.emitted, .kw, .lanes] s u) ∧
    ((laneOf s l).cfg.camram = true → (laneOf s l).state ≠ .retired →
      ∃ u, exec (.laneCtrlXact r) s = .next u ∧ ((laneOf u l).ctrl.getLast?).map (·.ref) = some p.ref ∧
        u.emitted = ((ctrlMessages (Config.ctrlTag p.order) (p.params.drop 4)).map (Emit.uplink l)).reverse ++ s.emitted ∧
        Frame [.emitted, .kw, .lanes] s u)) ∧
  (∀ (r : Ref) (p : Packet) (s : State), opStarts 0x0410 r p s = true → Inv s → fld p.params 0 1 ≤ 7 → 16 ≤ fld p.params 4 4 →
    fld p.params 4 4 ≤ 2 ^ 20 → fld p.params 8 4 < fld p.params 4 4 →
    let tg := fld p.params 0 1
    (p.atOnce = false → ∃ s', exec (.laneTriggerConfig r) s = .next (done p stACCEPTED [] s') ∧ s'.lanes = s.lanes ∧
      (s'.pos.pendingRp.getLast?).map (fun x => (x.what, x.boundary)) =
        some (.trigger tg (fld p.params 4 4) (fld p.params 8 4), boundaryAfter s.pos.shift s.pos.hwm) ∧ Frame [.pos] s s') ∧
    (p.atOnce = true → s.pos.stationary = false → exec (.laneTriggerConfig r) s = .next (refuse p stBUSY noField s)) ∧
    (p.atOnce = true → s.pos.stationary = true → ∃ s', exec (.laneTriggerConfig r) s = .next (done p stACCEPTED [] s') ∧
      (getI s'.lanes.tg tg TrigGen.reset).p = fld p.params 4 4 ∧ (getI s'.lanes.tg tg TrigGen.reset).f = fld p.params 8 4 ∧
      posI s.pos.hwm < trigPos (getI s'.lanes.tg tg TrigGen.reset) (getI s'.lanes.tg tg TrigGen.reset).nextK))

/-- A segment whose slot is closed, or not there, advances PLN_LATE, saturating, and leaves every slot as the time limit
left it, PLN_DUP and everything else of the channel unchanged. A segment for an open slot that duplicates pixels or
lies beyond the channel width advances PLN_DUP and changes no slot. Any other segment gives its pixels, with the
packet's BAD mark, to the slot's columns and leaves the other columns; the slot closes exactly when every pixel has
arrived, and nothing else of the channel changes. -/
def Obligations.SegmentsFillSlots : Prop :=
  (∀ (now : Nat) (g : Segment) (c : Channel), ((expireSlots now c).slots.find? (isSlot g)).all (·.closed) = true →
    takeSegment now g c = { expireSlots now c with late := satInc c.late }) ∧
  (∀ (now : Nat) (g : Segment) (c : Channel) (x : Slot), (expireSlots now c).slots.find? (isSlot g) = some x → x.closed = false →
    (segDup g x = true → takeSegment now g c = { expireSlots now c with dup := satInc c.dup }) ∧
    (segDup g x = false →
      takeSegment now g c = { expireSlots now c with slots := (takeSegment now g c).slots } ∧
      fillSlot g x ∈ (takeSegment now g c).slots ∧ (takeSegment now g c).slots.length = c.slots.length ∧
      (∀ y ∈ (takeSegment now g c).slots, isSlot g y = false → y ∈ (expireSlots now c).slots))) ∧
  (∀ (g : Segment) (x : Slot) (p : Nat), p < x.samples.length →
    (fillSlot g x).samples[p]? = some (if g.first ≤ p ∧ p < g.first + g.count then
      (match g.samples[p - g.first]? with
        | some vs => some { value := vs.1, sat := vs.2, bad := g.bad }
        | none => x.samples.getD p none) else x.samples.getD p none)) ∧
  (∀ (g : Segment) (x : Slot), (fillSlot g x).closed = (fillSlot g x).samples.all (·.isSome) ∧
    (fillSlot g x).samples.length = x.samples.length ∧ (fillSlot g x).k = x.k ∧ (fillSlot g x).spos = x.spos)

/-- The slot that SLOT_TIMEOUT names closes 30 us after its crossing and no other slot changes. SCAN_LINE_CONCEAL marks the
pixels that an upset of the line's buffer hit as damaged; a closed oldest slot whose damage can be concealed, and in
replace mode any closed oldest slot, leaves the slots and becomes the channel's last line, with the same index and stamp,
one pixel per sample, undamaged pixels with their value and every damaged pixel with CONC, which PLN_CONC counts unless the
channel replaces. A view line whose channels all have it next joins the open row with the view's width of pixels; in
replace mode a damaged one is skipped and counted in PLN_REPLACED; a line of another row waits. With no such line, or with
the view unconfigured or domain IMG off, nothing changes. A finished tile is placed once, and after its last column the
row closes. -/
def Obligations.ScanLinesThroughThePipeline : Prop :=
  (∀ (c : Nat) (k : Int) (s : State),
    (∀ x, Inv s → c < 32 → (plnChan s c).slots.find? (fun x => x.k == k && !x.closed) = some x →
      ∃ u, exec (.slotTimeout c k) s = .next u ∧
        (plnChan u c).slots = (plnChan s c).slots.map (fun y => if y = x then { y with closed := true } else y) ∧
        u.now = max s.now (x.crossed + 12000) ∧ (∀ j, j ≠ c → plnChan u j = plnChan s j) ∧ Frame [.now, .pln] s u) ∧
    ((plnChan s c).slots.find? (fun x => x.k == k && !x.closed) = none → exec (.slotTimeout c k) s = .next s)) ∧
  (∀ (c : Nat) (k : Int) (upset : List Nat) (s : State), imgOn s = false → exec (.scanLineConceal c ⟨k, upset⟩) s = .next s) ∧
  (∀ (c : Nat) (upset : List Nat) (s : State) (x : Slot) (later : List Slot), Inv s → c < 32 → imgOn s = true →
    (plnChan (upsetSlot c x.k upset s) c).slots = x :: later → x.closed = true →
    (plnChan s c).replace = true ∨ concealReady (rowH s ((plnChan s c).view.getD 0)) x later = true →
    ∃ u line, exec (.scanLineConceal c ⟨x.k, upset⟩) s = .next u ∧ (plnChan u c).slots = later ∧
      (plnChan u c).lines = (plnChan s c).lines ++ [line] ∧ line.k = x.k ∧ line.spos = x.spos ∧ line.scan = x.scan ∧
      line.pixels.length = x.samples.length ∧ (∀ p ∈ upset, (causeAt x p).isSome = true) ∧
      (∀ p g, goodAt x p = some g → p < x.samples.length → line.pixels[p]? = some (goodPixel g)) ∧
      (∀ p, p < x.samples.length → (causeAt x p).isSome = true → (line.pixels[p]?).map (·.conc) = some true) ∧
      (plnChan u c).conc = (plnChan s c).conc + BitVec.ofNat 64 (if (plnChan s c).replace then 0
        else ((List.range x.samples.length).filter fun p => (causeAt x p).isSome).length)) ∧
  (∀ (v : Nat) (k : Int) (s : State) (l : List (Nat × ChanLine)), Inv s → v < 4 → imgOn s = true → (viewOf s v).configured = true →
    linesAt (passClean k (viewChans s v) s) v k = some l →
    (rowTakes (passClean k (viewChans s v) s) v k (l.any (·.2.fresh)) = false →
      exec (.scanLineProcess v k) s = .next (passClean k (viewChans s v) s)) ∧
    (rowTakes (passClean k (viewChans s v) s) v k (l.any (·.2.fresh)) = true →
      (replaceView s v = false ∨ l.any (·.2.damaged) = false →
        ∃ u y, exec (.scanLineProcess v k) s = .next u ∧ (viewOf u v).rowLines = (viewOf s v).rowLines ++ [y] ∧ y.k = k ∧
          y.pixels.length = (viewOf s v).width) ∧
      (replaceView s v = true → l.any (·.2.damaged) = true →
        ∃ u, exec (.scanLineProcess v k) s = .next u ∧ (viewOf u v).replaced = satInc (viewOf s v).replaced ∧
          (viewOf u v).rowLines = (viewOf s v).rowLines))) ∧
  (∀ (v : Nat) (k : Int) (s : State),
    imgOn s = false ∨ (viewOf s v).configured = false ∨ linesAt (passClean k (viewChans s v) s) v k = none →
    exec (.scanLineProcess v k) s = .next s) ∧
  (∀ (v col : Nat) (j : Int) (s : State), Inv s → v < 4 → imgOn s = true → (viewOf s v).rowOpen = some j → rowDone s v j = true →
    col < tileCols s v → col ∉ (viewOf s v).placed →
    ∃ u, exec (.tilePlace v j col) s = .next u ∧
      ((viewOf s v).placed.length + 1 < tileCols s v → (viewOf u v).placed = (viewOf s v).placed ++ [col] ∧ (viewOf u v).rowOpen = some j) ∧
      (tileCols s v ≤ (viewOf s v).placed.length + 1 → (viewOf u v).rowOpen = none ∧ (viewOf u v).rowLines = [] ∧ (viewOf u v).placed = []) ∧
      Frame [.led, .pln, .fab, .draw, .hm, .rcp] s u) ∧
  (∀ (v col : Nat) (j : Int) (s : State),
    imgOn s = false ∨ (viewOf s v).rowOpen ≠ some j ∨ rowDone s v j = false ∨ tileCols s v ≤ col ∨ col ∈ (viewOf s v).placed →
    exec (.tilePlace v j col) s = .next s)

/-- A finished tile carries TFLAGS.CONC_OVER, and HOLD_REASON CONCEALED (1), exactly when its CONC_PIX times 1,000 exceeds
CONC_LIMIT times the pixels that are not PAD; it has one LFLAGS entry per line and TILE_W x TILE_H elements. A
configuration of a view with CONC_LIMIT above 1,000 is not taken. -/
def Obligations.TilesCarryTheirFlags : Prop :=
  (∀ (s : State) (v col : Nat) (j : Int),
    let t := buildTile s v j col
    (bit t.tflags 0 = true ↔ (viewOf s v).concLimit * (t.tileW * t.tileH - t.padPix) < t.concPix * 1000) ∧
    (t.holdReason = if bit t.tflags 0 then 1 else 0) ∧ t.lflags.length = t.tileH ∧ t.data.length = t.tileH * t.tileW ∧
    t.tileW = (viewOf s v).tileW ∧ t.view = v ∧ t.row = j ∧ t.col = col) ∧
  (∀ (r : Ref) (p : Packet) (s : State), opStarts 0x0503 r p s = true → 1000 < fld p.params 10 2 →
    ∃ off, exec (.plnViewConfig r) s = .next (refuse p stBAD_PARAM off s))

/-- The auto-level rule leaves g within the bounds in force and leaves every other view's g, for any content of the level
sums; a view column that no channel covers is PAD with VALUE 0; a filter state or profile value is not updated from a
concealed pixel; a statistics record is written only where the ring is there and the space between WIDX and RIDX holds
it, and is else counted in PLN_STATLOST, with SEQ advancing either way. -/
def Obligations.ImageNormalisationBounds : Prop :=
  (∀ (v : Nat) (s : State), Inv s → v < 4 → (viewOf s v).grange.1 ≤ (viewOf s v).grange.2 →
    (viewOf s v).grange.1 ≤ (viewOf s v).g → (viewOf s v).g ≤ (viewOf s v).grange.2 →
    (viewOf (autoLevel v s) v).grange.1 ≤ (viewOf (autoLevel v s) v).g ∧
    (viewOf (autoLevel v s) v).g ≤ (viewOf (autoLevel v s) v).grange.2 ∧
    (∀ w, w ≠ v → (viewOf (autoLevel v s) w).g = (viewOf s w).g)) ∧
  (∀ (ls : List (Channel × List Pixel)) (x : Nat), (∀ cl ∈ ls, resample cl.1 cl.2 x = none) →
    (stitchColumn ls x).pad = true ∧ (stitchColumn ls x).value = 0) ∧
  (∀ (a gate maxGap : Nat) (sv : Nat) (gap : Int) (x : Pixel), x.conc = true →
    (temporal a gate maxGap (some (sv, gap)) x).2 = some (sv, gap + 1) ∧ (temporal a gate maxGap none x).2 = none) ∧
  (∀ (pb : Nat) (m : Option Nat) (x : Pixel), (x.conc || x.repl || x.sat || x.pad) = true → nextProfile pb m x = m) ∧
  (∀ (v ty : Nat) (sp : Word) (body : Bytes) (s : State), Inv s → v < 4 →
    (viewOf (statWrite v ty sp body s) v).statSeq = (viewOf s v).statSeq + 1 ∧
    ((∀ o, objOf s (viewOf s v).statRing = some o →
        o.lost = true ∨ o.size ≤ statUsed (viewOf s v) o.size + 16 + body.length) →
      (viewOf (statWrite v ty sp body s) v).statLost = satInc (viewOf s v).statLost ∧ (statWrite v ty sp body s).draw = s.draw) ∧
    (∀ o, objOf s (viewOf s v).statRing = some o → o.lost = false →
      statUsed (viewOf s v) o.size + 16 + body.length < o.size →
      (viewOf (statWrite v ty sp body s) v).statLost = (viewOf s v).statLost ∧
      (viewOf (statWrite v ty sp body s) v).statWidx = BitVec.ofNat 32 (((viewOf s v).statWidx.toNat + (16 + body.length)) % o.size)))

/-- PLN_STATUS answers the view's registers and changes nothing. PLN_CHANNEL_CONFIG and PLN_VIEW_CONFIG of a view in use
are refused with DENIED; one that leaves a legal grouping sets the channel or view and empties the view's pipeline, and an
illegal one or a field out of range is refused with BAD_PARAM. PLN_FILTER_CONFIG and PLN_LEVEL_BOUNDS in range wait for the
next boundary; with APPLY_STATIONARY they are in force at once on a strip at standstill and refused with BUSY_RETRY on one
that moves; a kernel whose weights do not sum to 256, or bounds out of range, are refused with BAD_PARAM. PLN_STAT_CONFIG in
range sets block, bin width and ring with an empty ring index, is refused with DENIED while the view is in use, and as its
ring is where that is at fault. PLN_TAP_OPEN with its START beyond the horizon is refused with REFUSED_HORIZON, with no tap
free with BUSY_RETRY, and without the budgets with REFUSED_BUDGET; otherwise it opens a tap with SEQ 0 and its admission.
PLN_TAP_CLOSE releases a tap the tenant may use; a tap whose end the HWM has reached is closed and released, and no other
one is. -/
def Obligations.ImageOpcodes : Prop :=
  (∀ (r : Ref) (p : Packet) (s : State), opStarts 0x0501 r p s = true →
    (3 < fld p.params 0 1 → exec (.plnStatus r) s = .next (refuse p stBAD_PARAM 0x20 s)) ∧
    (fld p.params 0 1 ≤ 3 → exec (.plnStatus r) s = .next (ok p (plnStatusBytes s (fld p.params 0 1)) s))) ∧
  (∀ (r : Ref) (p : Packet) (s : State), opStarts 0x0502 r p s = true →
    let n := fld p.params 0 1
    let v := fld p.params 1 1
    (∀ off, channelBad p.params = some off → exec (.plnChannelConfig r) s = .next (refuse p stBAD_PARAM off s)) ∧
    (channelBad p.params = none →
      (viewUsed s v = true ∨ (plnChan s n).view.any (viewUsed s) = true →
        exec (.plnChannelConfig r) s = .next (refuse p stDENIED noField s)) ∧
      (viewUsed s v = false → (plnChan s n).view.any (viewUsed s) = false →
        let t := emptyView v (modPlnChan n (channelOf p.params)
          (match (plnChan s n).view with | some w => emptyView w s | none => s))
        (groupBad t n = none → exec (.plnChannelConfig r) s = .next (ok p [] t) ∧
          (Inv s → (plnChan t n).view = some v ∧ (plnChan t n).slots = [] ∧ (plnChan t n).width = fld p.params 8 2 ∧
            (plnChan t n).format = fld p.params 4 1 ∧ (plnChan t n).ofs = sfld p.params 12 4 ∧
            (plnChan t n).scale = fld p.params 16 4 ∧ Frame [.pln] s t)) ∧
        (∀ off, groupBad t n = some off → exec (.plnChannelConfig r) s = .next (refuse p stBAD_PARAM off s))))) ∧
  (∀ (r : Ref) (p : Packet) (s : State), opStarts 0x0503 r p s = true →
    let v := fld p.params 0 1
    (∀ off, viewBad p.params = some off → exec (.plnViewConfig r) s = .next (refuse p stBAD_PARAM off s)) ∧
    (viewBad p.params = none →
      (viewUsed s v = true → exec (.plnViewConfig r) s = .next (refuse p stDENIED noField s)) ∧
      (viewUsed s v = false → Inv s →
        let t := modView v (fun x => { x with
            configured := true, bottom := fld p.params 1 1 == 1, tg := fld p.params 2 1, tileFmt := fld p.params 3 1
            width := fld p.params 4 2, tileW := fld p.params 6 2, tileH := fld p.params 8 2, concLimit := fld p.params 10 2
            maxGap := fld p.params 12 1 }) s
        (12 < surfaceCount t (fld p.params 1 1 == 1) → exec (.plnViewConfig r) s = .next (refuse p stBAD_PARAM 0x21 s)) ∧
        (surfaceCount t (fld p.params 1 1 == 1) ≤ 12 → tripleCover t v = false →
          (∀ n ∈ viewChans t v, chanClash t (sourceOf t n) (fld p.params 2 1) = false) →
          ∃ s', exec (.plnViewConfig r) s = .next (ok p [] s') ∧ (viewOf s' v).configured = true ∧
            (viewOf s' v).bottom = (fld p.params 1 1 == 1) ∧ (viewOf s' v).tileFmt = fld p.params 3 1 ∧
            (viewOf s' v).width = fld p.params 4 2 ∧ (viewOf s' v).tileW = fld p.params 6 2 ∧
            (viewOf s' v).tileH = fld p.params 8 2 ∧ (viewOf s' v).tg = fld p.params 2 1 ∧
            (viewOf s' v).concLimit = fld p.params 10 2 ∧ (viewOf s' v).maxGap = fld p.params 12 1 ∧
            (viewOf s' v).rowOpen = none ∧ (∀ n ∈ viewChans s' v, (plnChan s' n).slots = [] ∧ (plnChan s' n).lines = []) ∧
            Frame [.pln] s s')))) ∧
  (∀ (r : Ref) (p : Packet) (s : State), opStarts 0x0505 r p s = true →
    let v := fld p.params 0 1
    let what := Reprog.plnFilter v (fld p.params 2 2) (fld p.params 4 1) (fld p.params 5 1) (fld p.params 6 1) (fld p.params 8 2)
      (fld p.params 10 1) (fld p.params 11 1) (fld p.params 12 2) (fld p.params 14 2)
    (3 < v → exec (.plnFilterConfig r) s = .next (refuse p stBAD_PARAM 0x20 s)) ∧
    (v ≤ 3 → fld p.params 2 2 + 2 * fld p.params 4 1 + 2 * fld p.params 5 1 ≠ 256 →
      exec (.plnFilterConfig r) s = .next (refuse p stBAD_PARAM 0x22 s)) ∧
    (v ≤ 3 → fld p.params 2 2 + 2 * fld p.params 4 1 + 2 * fld p.params 5 1 = 256 → fld p.params 6 1 ≤ 6 → 8 ≤ fld p.params 10 1 →
      fld p.params 10 1 ≤ 16 → fld p.params 11 1 ≤ 8 →
      (p.atOnce = false → ∃ s', exec (.plnFilterConfig r) s = .next (done p stACCEPTED [] s') ∧ s'.pln = s.pln ∧
        (s'.pos.pendingRp.getLast?).map (fun x => (x.what, x.boundary)) = some (what, boundaryAfter s.pos.shift s.pos.hwm) ∧
        Frame [.pos] s s') ∧
      (p.atOnce = true → s.pos.stationary = false → exec (.plnFilterConfig r) s = .next (refuse p stBUSY noField s)) ∧
      (p.atOnce = true → s.pos.stationary = true → Inv s → ∃ s', exec (.plnFilterConfig r) s = .next (done p stACCEPTED [] s') ∧
        (viewOf s' v).kernel = (fld p.params 2 2, fld p.params 4 1, fld p.params 5 1) ∧ (viewOf s' v).tempA = fld p.params 6 1 ∧
        (viewOf s' v).gate = fld p.params 8 2 ∧ (viewOf s' v).pb = fld p.params 10 1 ∧ (viewOf s' v).lk = fld p.params 11 1 ∧
        (viewOf s' v).prange = (fld p.params 12 2, fld p.params 14 2) ∧ (∀ w, w ≠ v → viewOf s' w = viewOf s w) ∧
        Frame [.emitted, .host, .pos, .kw, .pln, .fab, .flt] s s'))) ∧
  (∀ (r : Ref) (p : Packet) (s : State), opStarts 0x0506 r p s = true →
    let v := fld p.params 0 1
    let lo := fld p.params 4 2
    let hi := fld p.params 6 2
    (3 < v → exec (.plnLevelBounds r) s = .next (refuse p stBAD_PARAM 0x20 s)) ∧
    (v ≤ 3 → lo < 1024 ∨ 16384 < lo → exec (.plnLevelBounds r) s = .next (refuse p stBAD_PARAM 0x24 s)) ∧
    (v ≤ 3 → 1024 ≤ lo → lo ≤ 16384 → hi < lo ∨ 16384 < hi → exec (.plnLevelBounds r) s = .next (refuse p stBAD_PARAM 0x26 s)) ∧
    (v ≤ 3 → 1024 ≤ lo → lo ≤ hi → hi ≤ 16384 →
      (p.atOnce = false → ∃ s', exec (.plnLevelBounds r) s = .next (done p stACCEPTED [] s') ∧ s'.pln = s.pln ∧
        (s'.pos.pendingRp.getLast?).map (fun x => (x.what, x.boundary)) =
          some (.plnLevel v (fld p.params 2 2) lo hi, boundaryAfter s.pos.shift s.pos.hwm) ∧ Frame [.pos] s s') ∧
      (p.atOnce = true → s.pos.stationary = false → exec (.plnLevelBounds r) s = .next (refuse p stBUSY noField s)) ∧
      (p.atOnce = true → s.pos.stationary = true → Inv s → ∃ s', exec (.plnLevelBounds r) s = .next (done p stACCEPTED [] s') ∧
        (viewOf s' v).levelTarget = fld p.params 2 2 ∧ (viewOf s' v).grange = (lo, hi) ∧ lo ≤ (viewOf s' v).g ∧
        (viewOf s' v).g ≤ hi ∧ (∀ w, w ≠ v → viewOf s' w = viewOf s w) ∧
        Frame [.emitted, .host, .pos, .kw, .pln, .fab, .flt] s s'))) ∧
  (∀ (r : Ref) (p : Packet) (s : State), opStarts 0x0510 r p s = true →
    (3 < fld p.params 0 1 → exec (.plnStatConfig r) s = .next (refuse p stBAD_PARAM 0x20 s)) ∧
    (fld p.params 0 1 ≤ 3 → pow2In 64 4096 (fld p.params 2 2) = false →
      exec (.plnStatConfig r) s = .next (refuse p stBAD_PARAM 0x22 s)) ∧
    (fld p.params 0 1 ≤ 3 → pow2In 64 4096 (fld p.params 2 2) = true → pow2In 16 512 (fld p.params 4 2) = false →
      exec (.plnStatConfig r) s = .next (refuse p stBAD_PARAM 0x24 s))) ∧
  (∀ (r : Ref) (p : Packet) (s : State), opStarts 0x0510 r p s = true → fld p.params 0 1 ≤ 3 →
    pow2In 64 4096 (fld p.params 2 2) = true → pow2In 16 512 (fld p.params 4 2) = true →
    (viewUsed s (fld p.params 0 1) = true → exec (.plnStatConfig r) s = .next (refuse p stDENIED noField s)) ∧
    (viewUsed s (fld p.params 0 1) = false →
      (∀ st off, ringBad p (fld p.params 8 4) 0x28 s = some (st, off) → exec (.plnStatConfig r) s = .next (refuse p st off s)) ∧
      (ringBad p (fld p.params 8 4) 0x28 s = none →
        exec (.plnStatConfig r) s = .next (ok p [] (modView (fld p.params 0 1) (fun x => { x with
          statBlock := fld p.params 2 2, statBinW := fld p.params 4 2, statRing := fld p.params 8 4, statWidx := 0, statLines := [] }) s))))) ∧
  (∀ (r : Ref) (pick : Nat) (p : Packet) (s : State), opStarts 0x0520 r p s = true →
    (5 < fld p.params 0 1 → exec (.plnTapOpen r pick) s = .next (refuse p stBAD_PARAM 0x20 s)) ∧
    (fld p.params 0 1 ≤ 5 → (if fld p.params 0 1 < 3 then 32 else 4) ≤ fld p.params 1 1 →
      exec (.plnTapOpen r pick) s = .next (refuse p stBAD_PARAM 0x21 s))) ∧
  (∀ (r : Ref) (pick : Nat) (p : Packet) (s : State), opStarts 0x0520 r p s = true → fld p.params 0 1 ≤ 5 →
    fld p.params 1 1 < (if fld p.params 0 1 < 3 then 32 else 4) →
    (inHorizon s (BitVec.ofNat 32 (fld p.params 4 4)) = false →
      exec (.plnTapOpen r pick) s = .next (refuse p stREFUSED_HORIZON 0x24 s)) ∧
    (inHorizon s (BitVec.ofNat 32 (fld p.params 4 4)) = true →
      (∀ st off, ringBad p (fld p.params 12 4) 0x2C s = some (st, off) → exec (.plnTapOpen r pick) s = .next (refuse p st off s)) ∧
      (ringBad p (fld p.params 12 4) 0x2C s = none →
        (8 ≤ s.pln.taps.length → exec (.plnTapOpen r pick) s = .next (refuse p stBUSY noField s)) ∧
        (s.pln.taps.length < 8 →
          let d := tapDemand s (fld p.params 0 1) (fld p.params 1 1)
          let l := shorts s (vEff s.led.vadm) p.cls (withTable [⟨4, p.cls, d⟩, ⟨5, p.cls, d⟩])
          (l ≠ [] → exec (.plnTapOpen r pick) s =
            .next (refuseWith p stREFUSED_BUDGET (budgetPayload l) (s.setLed { s.led with refusals := s.led.refusals + 1 }))) ∧
          (l = [] → ∃ h s', exec (.plnTapOpen r pick) s = .next (ok p (le4 h) s') ∧
            (s'.pln.taps.getLast?).map (fun t => (t.handle, t.point, t.source, t.ring, t.seq, t.widx, t.drop)) =
              some (h, fld p.params 0 1, fld p.params 1 1, fld p.params 12 4, 0, 0, 0) ∧
            (s'.pln.taps.getLast?).map (fun t => (t.start, t.length)) =
              some (expand s (BitVec.ofNat 32 (fld p.params 4 4)), fld p.params 8 4) ∧ (findAdm s' h).isSome = true))))) ∧
  (∀ (r : Ref) (p : Packet) (s : State), opStarts 0x0521 r p s = true →
    (findAdm s (fld p.params 0 4) = none → exec (.plnTapClose r) s = .next (refuse p stBAD_PARAM 0x20 s)) ∧
    (∀ a, findAdm s (fld p.params 0 4) = some a → a.kind = .tap →
      (mayUse p a.tenant = false → exec (.plnTapClose r) s = .next (refuse p stDENIED noField s)) ∧
      (mayUse p a.tenant = true → exec (.plnTapClose r) s = .next (ok p [] (release a s))))) ∧
  (∀ (h : Nat) (s : State) (t : Tap), s.pln.taps.find? (fun t => t.handle == h) = some t → t.length ≠ 0 →
    reached s (t.start + BitVec.ofNat 64 t.length) = true →
    (endTap h 0 s).pln.taps = s.pln.taps.filter (fun t => t.handle != h) ∧
    (findAdm s h = none → exec (.tapEnd h) s = .next (endTap h 0 s)) ∧
    (∀ a, findAdm s h = some a → exec (.tapEnd h) s = .next (release a (endTap h 0 s)))) ∧
  (∀ (h : Nat) (s : State) (t : Tap), s.pln.taps.find? (fun t => t.handle == h) = some t →
    (t.length = 0 ∨ reached s (t.start + BitVec.ofNat 64 t.length) = false) → exec (.tapEnd h) s = .next s)

/-- For each of the six list opcodes: a descriptor that is refused refuses the packet with that status and field; a tenant
with 16 lists on the engine is refused with BUSY_RETRY before its list is read; a calibration list with APPLY_STATIONARY on a
strip that moves is refused with BUSY_RETRY; a place that may not be read is refused as it is; a fetch that ends in an error
of host memory disables the tenant's rings with DMA_ERR, and one delivered poisoned is refused with INTERNAL; a list whose
header, CRC or commands are at fault is refused with BAD_PARAM and the result of R331 naming the command; a good list enters
the queue last, at its first command, not running, with the packet started and outstanding. -/
def Obligations.ListsAreCheckedAndQueued : Prop :=
  ∀ (r : Ref) (p : Packet) (s : State) (c : LoadRef → Instr) (code : Half) (e : Nat),
    (c, code, e) ∈ [(Instr.plnCalLoad, (0x0504 : Half), 2), (.fabList, 0x0610, 3), (.drawList, 0x0710, 1), (.asyList, 0x0810, 4),
      (.hmList, 0x0930, 5), (.tmpList, 0x0B30, 6)] → opStarts code r p s = true →
    let space := fld p.params 1 1
    let len := fld p.params 4 4
    (∀ st off q, descRefusal p e s = some (st, off) → exec (c ⟨r, q⟩) s = .next (refuse p st off s)) ∧
    (∀ q, descBad e p.params = none → descBench p e s = none → bit (fld p.params 3 1) 0 = false →
      16 ≤ (s.fab.lists.filter fun l => l.tenant == p.tenant && l.engine == e).length →
      exec (c ⟨r, q⟩) s = .next (refuse p stBUSY noField s)) ∧
    (descRefusal p e s = none →
      (∀ q, e = 2 → movingRefused p s = true → exec (c ⟨r, q⟩) s = .next (refuse p stBUSY noField s)) ∧
      (¬(e = 2 ∧ movingRefused p s = true) →
        (∀ q, space = 1 → inIngot (fld p.params 8 8) = false → exec (c ⟨r, q⟩) s = .next (refuse p stBAD_PARAM 0x28 s)) ∧
        ((space = 1 → inIngot (fld p.params 8 8) = true) →
          (∀ st q, resolve s p.tenant space (fld p.params 8 8) len false = .inl st → exec (c ⟨r, q⟩) s = .next (refuse p st 0x28 s)) ∧
          (∀ a, resolve s p.tenant space (fld p.params 8 8) len false = .inr a →
            (∀ q, a.host = true → hostBad s a.addr len = true → Inv s → p.principal ≤ 64 →
              ∃ u, exec (c ⟨r, q⟩) s = .next u ∧ findP p.ref u = none ∧ (ten u p.tenant).en = false ∧
                (ten u p.tenant).ringStatus.getLsbD 2 = true) ∧
            (∀ q, a.host = false → q = true ∨ (poisonAt s a len).isSome = true →
              ∃ s', exec (c ⟨r, q⟩) s = .next (refuse p stINTERNAL noField s') ∧ Frame [.emitted, .host, .kw, .fab, .draw, .flt] s s') ∧
            (∀ q, (a.host = true → hostBad s a.addr len = false) → (a.host = false → q = false ∧ poisonAt s a len = none) →
              (∀ i, readList s p.tenant p.params (readPlace s a len) = .inl i →
                exec (c ⟨r, q⟩) s = .next (refuseWith p stBAD_PARAM (listResult 0 i stBAD_PARAM none) s)) ∧
              (∀ cmds, readList s p.tenant p.params (readPlace s a len) = .inr cmds →
                (s.pos.anchored = false → cmds.any (cmdStamped e) = true → exec (c ⟨r, q⟩) s = .next (refuse p stBUSY noField s)) ∧
                (s.pos.anchored = true ∨ cmds.any (cmdStamped e) = false →
                  ∃ u l, exec (c ⟨r, q⟩) s = .next u ∧ u.fab.lists = s.fab.lists ++ [l] ∧ l.ref = p.ref ∧ l.tenant = p.tenant ∧ l.engine = e ∧
                    l.cmds = cmds ∧ l.index = 0 ∧ l.running = false ∧ (findP p.ref u).map (·.started) = some true ∧
                    Frame [.kw, .fab] s u)))))))

/-- LIST_START makes the engine's next list the running one and commits its packet, or, where a limit of the packet has run
out, cancels it with TIMED_OUT; with none nothing happens. A command that succeeds moves its list on by one, or, the last,
ends it with OK, the count of commands and no failing index. A command that fails ends the list with its status and index.
NOP does nothing else; SIGNAL_EVENT advances the tenant's counter by one; WRITE_STAMP writes the SPOS and the index at its
address and nowhere else, and fails with the status of a place that may not be written, with INTERNAL and the ring error
DMA_ERR where host memory fails, and with INTERNAL and the burst's address where its write is lost; a satisfied WAIT_EVENT
lets the list go on and an unsatisfied one changes nothing. -/
def Obligations.ListsRunInOrder : Prop :=
  (∀ (e : Nat) (s : State) (l : CmdList), enginesUp s = true → nextList s e = some l →
    (∀ p, overdue s l = some p → exec (.listStart e) s = .next (cancelP p stTIMED_OUT (fenceOf s p.principal) s)) ∧
    (overdue s l = none →
      ∃ u, exec (.listStart e) s = .next u ∧
        u.fab.lists = s.fab.lists.map (fun x => if x.ref = l.ref then { x with running := true } else x) ∧
        (∀ p, findP l.ref s = some p → (findP l.ref u).map (fun q => (q.committed, q.commitSpos)) = some (true, spos s)) ∧
        Frame [.kw, .fab] s u)) ∧
  (∀ (e : Nat) (s : State), enginesUp s = false ∨ nextList s e = none → exec (.listStart e) s = .next s) ∧
  (∀ (l : CmdList) (s : State), l.index + 1 < l.cmds.length →
    advance l s = s.setFab { s.fab with lists := s.fab.lists.map fun x => if x.ref = l.ref then { x with index := x.index + 1 } else x }) ∧
  (∀ (l : CmdList) (s : State) (p : Packet), l.cmds.length = l.index + 1 → l.cals = [] → findP l.ref s = some p → p.committed = true →
    advance l s = doneLater p stOK (le2 l.cmds.length ++ le2 0xFFFF ++ le2 0 ++ le2 0)
      (s.setFab { s.fab with lists := s.fab.lists.filter fun x => !(x.ref == l.ref) })) ∧
  (∀ (l : CmdList) (st : Half) (s : State) (p : Packet), l.cals = [] → findP l.ref s = some p → p.committed = true →
    failCmd l st s = doneLater p st (le2 l.index ++ le2 l.index ++ le2 st.toNat ++ le2 0)
      (s.setFab { s.fab with lists := s.fab.lists.filter fun x => !(x.ref == l.ref) })) ∧
  (∀ (e : Nat) (s : State) (l : CmdList) (c : Cmd), enginesUp s = true →
    s.fab.lists.find? (fun l => l.engine == e && l.running) = some l → l.cur = some c →
    (c.cmd = 0 → exec (.nop e) s = .next (advance l s)) ∧
    (c.cmd = 2 → ∃ s', exec (.signalEvent e) s = .next (advance l s') ∧ Frame [.kw] s s' ∧
      (l.tenant < s.kw.tenants.length →
        ten s' l.tenant = { ten s l.tenant with events := bumpAt (ten s l.tenant).events (c.arg0.toNat % 64) })) ∧
    (c.cmd = 3 →
      (∀ st dma lost, resolve s l.tenant (b2n l.inUnit) c.arg1.toNat 8 true = .inl st →
        exec (.writeStamp e ⟨dma, lost⟩) s = .next (failCmd l st s)) ∧
      (∀ a, resolve s l.tenant (b2n l.inUnit) c.arg1.toNat 8 true = .inr a →
        let bytes := le4 (spos s).toNat ++ le2 l.index ++ le2 0
        (∀ lost, a.host = true → hostBad s a.addr 8 = false → exec (.writeStamp e ⟨true, lost⟩) s =
          .next (advance l (s.setHost (memWrite s.host c.arg1.toNat bytes)))) ∧
        (∀ dma lost, a.host = true → dma = false ∨ hostBad s a.addr 8 = true →
          exec (.writeStamp e ⟨dma, lost⟩) s = .next (failCmd l stINTERNAL (ringError l.tenant 2 s))) ∧
        (∀ dma lost, a.host = false → lostAt lost a 8 = none →
          exec (.writeStamp e ⟨dma, lost⟩) s = .next (advance l (unitWrite c.arg1.toNat bytes s))) ∧
        (∀ dma lost b, a.host = false → lostAt lost a 8 = some b →
          ∃ s', exec (.writeStamp e ⟨dma, lost⟩) s = .next (failList l stINTERNAL (some (BitVec.ofNat 64 b)) s') ∧ Frame [.draw] s s')))) ∧
  (∀ (e t : Nat) (s : State) (l : CmdList) (c : Cmd), enginesUp s = true → headList s e t = some l → l.running = false →
    startReached s l = true → l.cur = some c → c.cmd = 1 →
    (eventMet s l.tenant c = false → exec (.waitEvent e t) s = .next s) ∧
    (eventMet s l.tenant c = true →
      (∀ p, overdue s l = some p → exec (.waitEvent e t) s = .next (cancelP p stTIMED_OUT (fenceOf s p.principal) s)) ∧
      (overdue s l = none → l.index + 1 < l.cmds.length → exec (.waitEvent e t) s =
        .next (s.setFab { s.fab with lists := s.fab.lists.map fun x => if x.ref = l.ref then { x with index := x.index + 1 } else x })) ∧
      (overdue s l = none → l.cmds.length ≤ l.index + 1 → exec (.waitEvent e t) s =
        .next (endList l stOK (le2 l.cmds.length ++ le2 0xFFFF ++ le2 0 ++ le2 0) (commitP l.ref s)))))

/-- A calibration command of a running PLANISH list with a count that fits its channel, a stream the tenant holds and an
object it may read without poison takes COUNT 2-byte values from the object; the list keeps the change, with its
channel and kind, until it ends, and then all changes wait for one window boundary, or with APPLY_STATIONARY at standstill
the table is in force at once; the list goes on. A count that does not fit fails with BAD_PARAM, an object that may not be
read with its status, and poisoned data with INTERNAL and its address. LOAD_PARAMS of the slot size named by the image
copies its bytes into the slot of a bench that is not ARMED on it, and is DENIED on the active slot of an ARMED bench.
SELECT_PARAMS takes effect at once on a BUILT bench, waits for the boundary on an ARMED one, fails with BUSY_RETRY while a
change is pending and is DENIED in other states. RUN_TILES on a BUILT bench whose tiles fit its certificate and stay within
its cycles writes the records of what the bench's image makes of each tile at RESULT_ADDR and to no other unit memory; a
poisoned tile resets the bench; it waits for an idle stake, and is DENIED on a bench that is not BUILT. -/
def Obligations.CalibrationAndFabricCommands : Prop :=
  (∀ (s : State) (l : CmdList) (c : Cmd) (i : Option Long → Instr) (k : Nat), (i, k) ∈ [(Instr.calDark, 0), (.calFlat, 1), (.calDefect, 2)] →
    enginesUp s = true → s.fab.lists.find? (fun l => l.engine == 2 && l.running) = some l → l.cur = some c → c.cmd = 0x100 + k →
    let ch := c.arg0.toNat
    let n := fld c.body 4 4
    (∀ q, 31 < ch ∨ fld c.body 8 8 ≠ 0 ∨ calCountOk s ch k n = false ∨ streamHeld s l.tenant (c.arg1.toNat % 2 ^ 32) = false →
      exec (i q) s = .next (failCmd l stBAD_PARAM s)) ∧
    (ch ≤ 31 → fld c.body 8 8 = 0 → calCountOk s ch k n = true → streamHeld s l.tenant (c.arg1.toNat % 2 ^ 32) = true →
      (∀ q, (findP l.ref s).any (fun p => movingRefused p s) = true → exec (i q) s = .next (failCmd l stBUSY s)) ∧
      ((findP l.ref s).any (fun p => movingRefused p s) = false →
        (∀ q st, objPlace s l.tenant (c.arg1.toNat / 2 ^ 32) (fld c.body 0 4) (2 * n) false = .inl st →
          exec (i q) s = .next (failCmd l st s)) ∧
        (∀ a, objPlace s l.tenant (c.arg1.toNat / 2 ^ 32) (fld c.body 0 4) (2 * n) false = .inr a →
          (∀ q, exec (i (some q)) s = .next (failList l stINTERNAL (some q) s)) ∧
          (∀ b, poisonAt s a (2 * n) = some b → ∃ s', exec (i none) s = .next (failList l stINTERNAL (some (BitVec.ofNat 64 b)) s') ∧
            Frame [.emitted, .host, .kw, .fab, .draw, .flt] s s') ∧
          (poisonAt s a (2 * n) = none →
            let vals := (List.range n).map fun j => fld (readPlace s a (2 * n)) (2 * j) 2
            ((findP l.ref s).any (·.atOnce) = false →
              exec (i none) s = .next (advance { l with cals := l.cals ++ [.cal ch k vals] }
                (modList l (fun x => { x with cals := x.cals ++ [.cal ch k vals] }) s))) ∧
            ((findP l.ref s).any (·.atOnce) = true → Inv s →
              ∃ s', exec (i none) s = .next (advance l s') ∧ (k = 0 → (plnChan s' ch).dark = vals) ∧
                (k = 1 → (plnChan s' ch).flat = vals) ∧ (k = 2 → (plnChan s' ch).defects = vals) ∧
                Frame [.emitted, .host, .pos, .kw, .pln, .fab, .flt] s s')))))) ∧
  (∀ (l : CmdList) (w : Reprog) (s : State) (p : Packet), l.cmds.length = l.index + 1 → l.cals = [w] → findP l.ref s = some p →
    p.committed = true → (advance l s).pos.pendingRp =
      (s.pos.pendingRp.filter fun r => !sameRegister r.what w) ++ [⟨w, boundaryAfter s.pos.shift s.pos.hwm, l.tenant, 0x0504⟩]) ∧
  (∀ (s : State) (l : CmdList) (c : Cmd), enginesUp s = true → s.fab.lists.find? (fun l => l.engine == 3 && l.running) = some l →
    l.cur = some c →
    let x := benchOf s l.bench
    (c.cmd = 0x100 →
      let n := fld c.body 0 4
      (∀ q, 1 < c.arg0.toNat ∨ fld c.body 8 8 ≠ 0 ∨ streamHeld s l.tenant (fld c.body 4 4) = false ∨ x.state = .free ∨
          n ≠ Config.slotSize x.image ∨ inIngot c.arg1.toNat = false →
        exec (.loadParams q) s = .next (failCmd l stBAD_PARAM s)) ∧
      (c.arg0.toNat ≤ 1 → fld c.body 8 8 = 0 → streamHeld s l.tenant (fld c.body 4 4) = true →
        x.state ≠ .free → n = Config.slotSize x.image → inIngot c.arg1.toNat = true →
        (x.state = .armed → c.arg0.toNat = x.slot → ∀ q, exec (.loadParams q) s = .next (failCmd l stDENIED s)) ∧
        (¬(x.state = .armed ∧ c.arg0.toNat = x.slot) →
          (∀ q st, unitPlace s l.tenant c.arg1.toNat n false = .inl st → exec (.loadParams q) s = .next (failCmd l st s)) ∧
          (∀ a, unitPlace s l.tenant c.arg1.toNat n false = .inr a →
            (∀ q, exec (.loadParams (some q)) s = .next (failList l stINTERNAL (some q) s)) ∧
            (poisonAt s a n = none → Inv s → l.bench < 16 →
              ∃ s', exec (.loadParams none) s = .next (advance l s') ∧
                (benchOf s' l.bench).slots = upd x.slots c.arg0.toNat (fun _ => readPlace s a n) ∧
                (benchOf s' l.bench).state = x.state ∧ (benchOf s' l.bench).slot = x.slot ∧
                (∀ j, j ≠ l.bench → benchOf s' j = benchOf s j) ∧ Frame [.fab] s s'))))) ∧
    (c.cmd = 0x101 →
      (1 < c.arg0.toNat ∨ c.arg1 ≠ 0 ∨ x.state = .free → exec .selectParams s = .next (failCmd l stBAD_PARAM s)) ∧
      (c.arg0.toNat ≤ 1 → c.arg1 = 0 → x.state ≠ .free →
        (x.change.isSome = true → exec .selectParams s = .next (failCmd l stBUSY s)) ∧
        (x.change = none → x.state = .built → exec .selectParams s =
          .next (advance l (modBench l.bench (fun x => { x with prevSlot := x.slot, slot := c.arg0.toNat }) s))) ∧
        (x.change = none → x.state = .armed → exec .selectParams s =
          .next (advance l (modBench l.bench (fun x => { x with
            change := some (.select c.arg0.toNat l.tenant 0x0610 0 0, boundaryAfter s.pos.shift s.pos.hwm) }) s))) ∧
        (x.change = none → x.state ≠ .built → x.state ≠ .armed → exec .selectParams s = .next (failCmd l stDENIED s)))) ∧
    (c.cmd = 0x102 → 1 ≤ c.arg0.toNat → c.arg0.toNat ≤ 4096 → fld c.body 12 4 = 0 → inIngot c.arg1.toNat = true →
      streamHeld s l.tenant (fld c.body 8 4) = true →
      (x.state ≠ .built → ∀ q lost, exec (.runTiles ⟨q, lost⟩) s = .next (failCmd l stDENIED s)) ∧
      (∀ cert, x.state = .built → x.cert = some cert →
        let n := c.arg0.toNat
        let size := tileBytes cert.inFormat cert.tileW cert.tileH
        (∀ q lost st, unitPlace s l.tenant c.arg1.toNat (n * size) false = .inl st →
          exec (.runTiles ⟨q, lost⟩) s = .next (failCmd l st s)) ∧
        (∀ a, unitPlace s l.tenant c.arg1.toNat (n * size) false = .inr a →
          let inputs := (List.range n).map fun i => unitRead s (a.addr + i * size) size
          let runs := inputs.map fun y => tileResult x.image (getI x.slots x.slot []) (tileInput y [])
          let placed := placeTiles s cert.cTile ((idleStakes s x).map fun k => (k, 0)) 0
            (inputs.map fun y => Config.tileCycles x.image (tileInput y []))
          let out := ((inputs.zip runs).map fun e =>
            recordBytes (tileOfBytes e.1) l.bench (tileOfBytes e.1).holdReason (benchFence s l.bench) (some e.2)).flatten
          (∀ q lost, inputs.any (fun y => !tileFits cert (tileOfBytes y)) = true →
            exec (.runTiles ⟨q, lost⟩) s = .next (failCmd l stBAD_PARAM s)) ∧
          (inputs.all (fun y => tileFits cert (tileOfBytes y)) = true →
            (∀ q lost, idleStakes s x = [] → exec (.runTiles ⟨q, lost⟩) s = .next s) ∧
            (∀ d, idleStakes s x ≠ [] → poisonAt s a (n * size) = none →
              (∀ y ∈ inputs, Config.tileCycles x.image (tileInput y []) ≤ cert.cTile) →
              unitPlace s l.tenant (fld c.body 0 8) out.length true = .inr d → Inv s → l.bench < 16 →
              ∃ s', exec (.runTiles ⟨none, none⟩) s = .next (advance l s') ∧ s'.draw.mem = memWrite s.draw.mem (fld c.body 0 8) out ∧
                (benchOf s' l.bench).tiles = x.tiles + BitVec.ofNat 64 n ∧ (benchOf s' l.bench).state = .built ∧
                Frame [.fab, .draw] s s') ∧
            (∀ q, idleStakes s x ≠ [] → a.addr ≤ q.toNat → q.toNat < a.addr + n * size → s.fab.chipLoss = none → Inv s →
              l.bench < 16 →
              let f := firstBreak placed (some ((max q.toNat a.addr - a.addr) / size))
              let recs := ((inputs.map tileOfBytes).zip (runs.zip placed)).map fun e =>
                runRecord l.bench (benchFence s l.bench) f e.1 e.2.1 e.2.2
              ∀ d, unitPlace s l.tenant (fld c.body 0 8) recs.flatten.length true = .inr d →
                ∃ u, exec (.runTiles ⟨some q, none⟩) s = .next u ∧ (benchOf u l.bench).state = .resetting ∧
                  (benchOf u l.bench).queue = []))))))

/-- A build whose form, image, certificate and demands are accepted, with the SHEET share free and no class-7 admission to
reclaim, commits its packet and leaves the bench LOADING, with its groups, recipe and share and an admission of its
own; no reply is written yet. A form, an image or a certificate at fault is refused with its status, and demands that do not
fit with REFUSED_BUDGET. A bench that has finished LOADING is ARMED or BUILT, or UNADMITTED where its admission ended
meanwhile, and its build's packet is answered. A release frees a bench at once, or waits for LOADING or RESETTING to end. A
rebuild of a BUILT bench goes through LOADING with the new image, and of an ARMED one waits for a tile row. A re-admission
restores ARMED or BUILT, or goes on LOADING, under a new handle at the bench's own generation. -/
def Obligations.BenchLifecycle : Prop :=
  (∀ (r : Ref) (pick : Nat) (p : Packet) (s : State) (poisoned : Bool), opStarts 0x0602 r p s = true → Inv s →
    (∀ st off, buildForm p s = .inl (st, off) → exec (.benchBuild ⟨r, poisoned⟩ pick) s = .next (refuse p st off s)) ∧
    (∀ im, buildForm p s = .inr im →
      (∀ st off, readImage p 0x30 0x38 0x40 poisoned s = .inl (st, off) →
        exec (.benchBuild ⟨r, poisoned⟩ pick) s = .next (refuse p st off s)) ∧
      (∀ image cert, readImage p 0x30 0x38 0x40 poisoned s = .inr (image, cert) →
        (∀ e, certCheck s cert image (BitVec.ofNat 32 (fld p.params 4 4)) im = some e →
          exec (.benchBuild ⟨r, poisoned⟩ pick) s = .next (refuseWith p stREFUSED_CERT (le2 e) s)) ∧
        (certCheck s cert image (BitVec.ofNat 32 (fld p.params 4 4)) im = none → poolFree s < fld p.params 12 4 →
          (∀ o ∈ s.draw.objs, movable s o = false) → supplyShorts s p.cls = [] → exec (.benchBuild ⟨r, poisoned⟩ pick) s =
          .next (refuseWith p stREFUSED_BUDGET (sheetShort (fld p.params 0 1) p.cls (fld p.params 12 4) (freeSheet s))
            (s.setLed { s.led with refusals := s.led.refusals + 1 }))) ∧
        (let b := fld p.params 0 1
         let s1 := modBench b (builtBench p image cert) s
         let l := shorts s1 (vEff s1.led.vadm) p.cls (withTable (benchRequest b p.cls p.tenant 0 (benchOf s1 b) s1).demands)
         certCheck s cert image (BitVec.ofNat 32 (fld p.params 4 4)) im = none → fld p.params 12 4 ≤ poolFree s →
         (l ≠ [] → exec (.benchBuild ⟨r, poisoned⟩ pick) s =
           .next (refuseWith p stREFUSED_BUDGET (budgetPayload l) (s.setLed { s.led with refusals := s.led.refusals + 1 }))) ∧
         (l = [] → (p.cls = 7 ∨ ∀ a ∈ s.led.held, a.cls ≠ 7) →
           ∃ u h, exec (.benchBuild ⟨r, poisoned⟩ pick) s = .next u ∧ (benchOf u b).state = .loading ∧ (benchOf u b).handle = h ∧
             (benchOf u b).groups = BitVec.ofNat 32 (fld p.params 4 4) ∧ (benchOf u b).recipe = fld p.params 8 4 ∧
             (benchOf u b).share = fld p.params 12 4 ∧ (benchOf u b).image = image ∧ (findAdm u h).isSome = true ∧
             (findP p.ref u).map (·.committed) = some true ∧ u.emitted = s.emitted ∧ u.host = s.host))))) ∧
  (∀ (b : Nat) (s : State), Inv s → b < 16 → (benchOf s b).state = .loading → s.fab.chipLoss = none →
    (benchOf s b).releaseRefs = [] → (benchOf s b).releasing = false →
    ∃ u, exec (.benchLoadDone b) s = .next u ∧
      (benchOf u b).state = (if (benchOf s b).back = .unadmitted then .unadmitted else restState s (benchOf s b)) ∧
      (∀ q p, (benchOf s b).loadRef = some q → findP q s = some p → findP q u = none ∧ (benchOf u b).loadRef = none)) ∧
  (∀ (b : Nat) (s : State), (s.fab.chipLoss.isSome = true → exec (.benchLoadDone b) s = .next s) ∧
    ((benchOf s b).state ≠ .loading → s.fab.chipLoss = none →
      exec (.benchLoadDone b) s = .next (modBench b (fun x => { x with loads := false, source := [] }) s))) ∧
  (∀ (r : Ref) (p : Packet) (s : State), opStarts 0x0604 r p s = true →
    (∀ st off, benchTarget p s = some (st, off) → exec (.benchRelease r) s = .next (refuse p st off s)) ∧
    (benchTarget p s = none →
      (midChange (benchOf s (fld p.params 0 1)) = false → exec (.benchRelease r) s = .next (ok p [] (releaseBench (fld p.params 0 1) s))) ∧
      (midChange (benchOf s (fld p.params 0 1)) = true → Inv s →
        ∃ u, exec (.benchRelease r) s = .next u ∧ (benchOf u (fld p.params 0 1)).state = (benchOf s (fld p.params 0 1)).state ∧
          (benchOf u (fld p.params 0 1)).releaseRefs = (benchOf s (fld p.params 0 1)).releaseRefs ++ [p.ref] ∧ Frame [.kw, .fab] s u))) ∧
  (∀ (r : Ref) (p : Packet) (s : State) (poisoned : Bool), opStarts 0x0603 r p s = true →
    (∀ st off, rebuildRefusal p s = some (st, off) → exec (.benchRebuild ⟨r, poisoned⟩) s = .next (refuse p st off s)) ∧
    (rebuildRefusal p s = none →
      (∀ st off, readImage p 0x28 0x30 0x38 poisoned s = .inl (st, off) →
        exec (.benchRebuild ⟨r, poisoned⟩) s = .next (refuse p st off s)) ∧
      (∀ image cert, readImage p 0x28 0x30 0x38 poisoned s = .inr (image, cert) →
        let b := fld p.params 0 1
        let x := { benchOf s b with cert := some (certOf cert) }
        (∀ e, certCheck s cert image (benchOf s b).groups (benchRecipe s (benchOf s b)) = some e →
          exec (.benchRebuild ⟨r, poisoned⟩) s = .next (refuseWith p stREFUSED_CERT (le2 e) s)) ∧
        (∀ a, certCheck s cert image (benchOf s b).groups (benchRecipe s (benchOf s b)) = none →
          findAdm s (benchOf s b).handle = some a →
          let d := exchange a (benchRequest b a.cls a.tenant 200 x s).demands s
          (∀ e, d.payload = some e → exec (.benchRebuild ⟨r, poisoned⟩) s = .next (refuseWith p stREFUSED_BUDGET e d.state)) ∧
          (d.payload = none → exec (.benchRebuild ⟨r, poisoned⟩) s =
            .next (rebuildCommit p image (certOf cert) (settleExchange a b x d.state))))))) ∧
  (∀ (p : Packet) (image : Bytes) (c : Cert) (s : State), Inv s → fld p.params 0 1 < 16 →
    let b := fld p.params 0 1
    let u := rebuildCommit p image c s
    ((benchOf s b).state = .built →
      (benchOf u b).state = .loading ∧ (benchOf u b).image = image ∧ (benchOf u b).cert = some c) ∧
    ((benchOf s b).state = .armed →
      (benchOf u b).change = some (.rebuild image c p.principal, boundaryAfter s.pos.shift s.pos.hwm) ∧
      (benchOf u b).state = .armed ∧ (benchOf u b).image = (benchOf s b).image ∧ (benchOf u b).cert = (benchOf s b).cert ∧
      (benchOf u b).queue = (benchOf s b).queue ∧ (benchOf u b).running = (benchOf s b).running)) ∧
  (∀ (r : Ref) (pick : Nat) (p : Packet) (s : State), opStarts 0x0606 r p s = true →
    (∀ st off, readmitRefusal p s = some (st, off) → exec (.benchReadmit r pick) s = .next (refuse p st off s)) ∧
    (readmitRefusal p s = none → Inv s →
      let b := fld p.params 0 1
      let x := benchOf s b
      let l := shorts s (vEff s.led.vadm) p.cls (withTable (benchRequest b p.cls x.tenant 0 x s).demands)
      (∀ e, certCheck s ((x.cert.map (·.raw)).getD []) x.image x.groups (benchRecipe s x) = some e →
        exec (.benchReadmit r pick) s = .next (refuseWith p stREFUSED_CERT (le2 e) s)) ∧
      (certCheck s ((x.cert.map (·.raw)).getD []) x.image x.groups (benchRecipe s x) = none →
        (l ≠ [] → exec (.benchReadmit r pick) s =
          .next (refuseWith p stREFUSED_BUDGET (budgetPayload l) (s.setLed { s.led with refusals := s.led.refusals + 1 }))) ∧
        (l = [] → (p.cls = 7 ∨ ∀ a ∈ s.led.held, a.cls ≠ 7) →
          ∃ u h, exec (.benchReadmit r pick) s = .next (ok p (le4 h ++ le4 x.gen.toNat) u) ∧ (benchOf u b).handle = h ∧
            (benchOf u b).state = (if x.loads then .loading else restState s x) ∧ benchFence u b = x.gen ∧
            (benchOf u b).image = x.image ∧ (benchOf u b).slots = x.slots))))

/-- The first tile of an ARMED bench's queue that waits for no pending change goes to the lowest-numbered idle live powered
stake, under the bench's generation and with the parameter slot of its row, and what the image makes of it is fixed then; a
bench that is not ARMED, has no such tile or no idle stake, dispatches nothing. A completed run leaves the stake; a result of
an older generation only advances FAB_FENCED; a current one advances FAB_TILES by one and reaches HALLMARK with its tile,
bench, recipe and generation, candidates cut to 64. A run past C_TILE is an overrun, whether found by the watchdog or at its
completion: it resets the bench, empties its queue and advances FAB_OVERRUN. -/
def Obligations.TilesOnTheFabric : Prop :=
  (∀ (b t : Nat) (s : State),
    let x := benchOf s b
    (∀ k ks tile rest, Inv s → b < 16 → x.state = .armed → nextTile (s.at_ t) x x.queue = some (tile, rest) →
      idleStakes (s.at_ t) x = k :: ks →
      ∃ u run, exec (.tileDispatch b t) s = .next u ∧ (benchOf u b).queue = rest ∧ (benchOf u b).running = x.running ++ [run] ∧
        run.stake = k ∧ run.tile = tile ∧ run.since = max s.now t ∧ run.spent = 0 ∧ run.fence = benchFence s b ∧ run.state = .live ∧
        run.result = tileResult x.image (getI x.slots (slotOf x tile) []) (tileInput tile.bytes tile.cond) ∧
        slotOf (benchOf u b) tile = slotOf x tile ∧ tile ∈ x.queue ∧
        k ∈ liveStakes s x.groups ∧ (∀ r ∈ x.running, r.state ≠ .gone → r.stake ≠ k) ∧
        (∀ j ∈ liveStakes s x.groups, stakePowered s j = true → (∀ r ∈ x.running, r.state ≠ .gone → r.stake ≠ j) → k ≤ j) ∧
        (∀ j, j ≠ b → benchOf u j = benchOf s j) ∧ Frame [.now, .fab] s u) ∧
    (x.state ≠ .armed ∨ nextTile (s.at_ t) x x.queue = none ∨ idleStakes (s.at_ t) x = [] →
      exec (.tileDispatch b t) s = .next (s.at_ t))) ∧
  (∀ (b k t : Nat) (gen : Word) (s : State), findRun (benchOf s b) k gen = none → exec (.tileComplete b k gen t) s = .next (s.at_ t)) ∧
  (∀ (b k t : Nat) (gen : Word) (s : State) (x : Running), Inv s → b < 16 → findRun (benchOf s b) k gen = some x →
    (x.state = .gone ∨ cyclesOf (s.at_ t) x ≤ cTileOf (benchOf s b) →
      (runCurrent s b x = false → ∃ u, exec (.tileComplete b k gen t) s = .next u ∧
        (benchOf u b).running = (benchOf s b).running.erase x ∧
        (benchOf u b).ctr = upd (benchOf s b).ctr 3 (fun w => satAdd w 1) ∧ (benchOf u b).tiles = (benchOf s b).tiles ∧
        Frame [.now, .fab] s u) ∧
      (runCurrent s b x = true → s.hm.ingest.length < 8192 →
        ∃ u o, exec (.tileComplete b k gen t) s = .next u ∧
          (benchOf u b).running = (benchOf s b).running.erase x ∧ (benchOf u b).tiles = (benchOf s b).tiles + 1 ∧
          u.hm.ingest = s.hm.ingest ++ [o] ∧ o.tile = x.tile ∧ o.bench = b ∧ o.recipe = (benchOf s b).recipe ∧ o.fence = x.fence ∧
          o.result = some { x.result with cands := x.result.cands.take 64 } ∧ Frame [.now, .fab, .hm] s u)) ∧
    (x.state ≠ .gone → cTileOf (benchOf s b) < cyclesOf (s.at_ t) x → (benchOf s b).state ≠ .free → s.fab.chipLoss = none →
      ∃ u, exec (.tileComplete b k gen t) s = .next u ∧ (benchOf u b).state = .resetting ∧ (benchOf u b).queue = [] ∧
        getI (benchOf u b).ctr 4 0 = satAdd (getI (benchOf s b).ctr 4 0) (if 4 < (benchOf s b).ctr.length then 1 else 0))) ∧
  (∀ (b k : Nat) (s : State),
    (∀ x, Inv s → b < 16 → (benchOf s b).running.find? (fun r => r.stake == k && r.state != .gone) = some x →
      (benchOf s b).state ≠ .free → s.fab.chipLoss = none →
      ∃ u, exec (.certOverrun b k) s = .next u ∧ (benchOf u b).state = .resetting ∧ (benchOf u b).queue = [] ∧
        getI (benchOf u b).ctr 4 0 = satAdd (getI (benchOf s b).ctr 4 0) (if 4 < (benchOf s b).ctr.length then 1 else 0)) ∧
    ((benchOf s b).running.find? (fun r => r.stake == k && r.state != .gone) = none → exec (.certOverrun b k) s = .next s))

/-- A bench-private fault of a stake of the bench bumps the fence of its admission, empties its queue, leaves it RESETTING
and every other bench as it was (but for waiting releases, which a ring error may cancel), and counts one upset of the stake;
a corrected error is only counted. A finished reset leaves the bench ARMED, BUILT or UNADMITTED. A chip-wide fault leaves
every bench that is not FREE RESETTING and is counted once; link retries below three lose nothing and the third is such a
fault. Its end leaves no bench RESETTING. -/
def Obligations.FabricFaultsAndRecovery : Prop :=
  (∀ (b k cause t : Nat) (s : State) (a : Admission), Inv s → b < 16 → (benchOf s b).state ≠ .free → inBench s b k = true →
    2 ≤ cause → cause ≤ 6 → s.fab.chipLoss = none → findAdm s (benchOf s b).handle = some a →
    ∃ u, exec (.benchPrivateFault b k cause t) s = .next u ∧ (benchOf u b).state = .resetting ∧ (benchOf u b).queue = [] ∧
      benchFence u b = nextFence a.fence ∧
      (∀ j, j ≠ b → { benchOf u j with releaseRefs := [] } = { benchOf s j with releaseRefs := [] }) ∧
      u.flt.upsets = (2, k, max s.now t) :: s.flt.upsets ∧
      ((u.flt.log.head?).map (fun e => (e.cls, e.kind, e.inst)) = some (2, 1, k))) ∧
  (∀ (b k t : Nat) (s : State), (benchOf s b).state ≠ .free → inBench s b k = true →
    exec (.benchPrivateFault b k 1 t) s = .next (bumpBench b 1 1 (s.at_ t))) ∧
  (∀ (b k cause t : Nat) (s : State), (benchOf s b).state = .free ∨ inBench s b k = false →
    exec (.benchPrivateFault b k cause t) s = .next (s.at_ t)) ∧
  (∀ (b : Nat) (good : Bool) (s : State) (x : Nat × Nat × Nat × Bool), Inv s → b < 16 → (benchOf s b).resetting = some x →
    s.flt.deferred = [] → (benchOf s b).releaseRefs = [] → (benchOf s b).releasing = false →
    ∃ u, exec (.benchResetDone b good) s = .next u ∧ (benchOf u b).resetting = none ∧
      (benchOf u b).state = (if (benchOf s b).back = .unadmitted then .unadmitted else restState s (benchOf s b)) ∧
      (∀ j, j ≠ b → { benchOf u j with releaseRefs := [] } = { benchOf s j with releaseRefs := [] })) ∧
  (∀ (b : Nat) (good : Bool) (s : State), (benchOf s b).resetting = none → exec (.benchResetDone b good) s = .next s) ∧
  (∀ (cause t : Nat) (s : State),
    ((cause = 7 ∨ cause = 8) → domOn s 2 = true → Inv s →
      ∃ u, exec (.chipWideFault cause t) s = .next u ∧
        (∀ b, b < 16 → (benchOf s b).state ≠ .free → (benchOf u b).state = .resetting ∧ (benchOf u b).queue = []) ∧
        (u.fab.chipLoss.map (·.1)) = some cause ∧
        u.fab.chipLosses = (if s.fab.chipLoss.isSome then s.fab.chipLosses else s.fab.chipLosses + 1)) ∧
    (¬((cause = 7 ∨ cause = 8) ∧ domOn s 2 = true) → exec (.chipWideFault cause t) s = .next (s.at_ t))) ∧
  (∀ (n t : Nat) (s : State), (n < 3 ∨ domOn s 2 = false → exec (.nocLinkError n t) s = .next (s.at_ t)) ∧
    (3 ≤ n → domOn s 2 = true → exec (.nocLinkError n t) s = exec (.chipWideFault 8 t) s)) ∧
  (∀ (s : State), s.fab.chipLoss = none → exec .fabChipLoss s = .next s) ∧
  (∀ (s : State) (x : Nat × Nat × Bool), Inv s → s.fab.chipLoss = some x → s.flt.deferred = [] → s.fab.cutOff = [] →
    (∀ b, (benchOf s b).releaseRefs = [] ∧ (benchOf s b).releasing = false) →
    ∃ u, exec .fabChipLoss s = .next u ∧ u.fab.chipLoss = none ∧ (∀ b, (benchOf u b).state ≠ .resetting))

/-- FAB_STATUS answers the live stakes and the bench states and changes nothing. BENCH_RESET of a BUILT or ARMED bench
answers OK and leaves it RESETTING with an empty queue, without an upset, and is refused with BUSY_RETRY while it is
RESETTING and with DENIED in other states. STAKE_UNRETIRE refuses a stake that is not retired with BAD_PARAM, and one whose
bench is not BUILT with DENIED; else the stake is live again and a Record write is wanted. A change that is due takes effect:
a slot selection makes the slot the active one, a rebuild goes through LOADING with the new image; one that is not due
changes nothing. -/
def Obligations.FabricOpcodesAndChanges : Prop :=
  (∀ (r : Ref) (p : Packet) (s : State), opStarts 0x0601 r p s = true →
    exec (.fabStatus r) s = .next (ok p ((List.range 8).flatMap (fun i => le4 (fabLive s i).toNat) ++
      (List.range 16).flatMap fun b => le4 (benchStatus s b).toNat) s)) ∧
  (∀ (r : Ref) (p : Packet) (s : State), opStarts 0x0605 r p s = true →
    let b := fld p.params 0 1
    (∀ st off, benchTarget p s = some (st, off) → exec (.benchReset r) s = .next (refuse p st off s)) ∧
    (benchTarget p s = none →
      ((benchOf s b).state = .resetting → exec (.benchReset r) s = .next (refuse p stBUSY noField s)) ∧
      ((benchOf s b).state ≠ .resetting → (benchOf s b).state ≠ .built → (benchOf s b).state ≠ .armed →
        exec (.benchReset r) s = .next (refuse p stDENIED noField s)) ∧
      ((benchOf s b).state = .built ∨ (benchOf s b).state = .armed → Inv s →
        ∃ u, exec (.benchReset r) s = .next u ∧ (benchOf u b).state = .resetting ∧ (benchOf u b).queue = [] ∧
          findP p.ref u = none ∧ u.flt = s.flt ∧
          (∀ j, j ≠ b → { benchOf u j with releaseRefs := [] } = { benchOf s j with releaseRefs := [] })))) ∧
  (∀ (r : Ref) (p : Packet) (s : State), opStarts 0x0620 r p s = true →
    (s.fab.retiredStakes.contains (fld p.params 0 1) = false → exec (.stakeUnretire r) s = .next (refuse p stBAD_PARAM 0x20 s)) ∧
    (∀ b, s.fab.retiredStakes.contains (fld p.params 0 1) = true → benchHolding s (fld p.params 0 1) = some b →
      (benchOf s b).state ≠ .built → exec (.stakeUnretire r) s = .next (refuse p stDENIED noField s)) ∧
    (s.fab.retiredStakes.contains (fld p.params 0 1) = true → (benchHolding s (fld p.params 0 1) = none ∨
        ∃ b, benchHolding s (fld p.params 0 1) = some b ∧ (benchOf s b).state = .built) →
      ∃ u, exec (.stakeUnretire r) s = .next (ok p [] u) ∧ u.fab.retiredStakes = s.fab.retiredStakes.filter (· != fld p.params 0 1) ∧
        u.boot.wanted.isSome = true ∧ (∀ x ∈ u.flt.upsets, ¬(x.1 = 2 ∧ x.2.1 = fld p.params 0 1)))) ∧
  (∀ (b slot tenant cand rcp : Nat) (op : Half) (bd : Long) (s : State), Inv s → b < 16 →
    (benchOf s b).change = some (.select slot tenant op cand rcp, bd) →
    ((benchOf s b).state = .armed ∨ (benchOf s b).state = .built) → changeDue s b bd = true →
    ∃ u, exec (.fabApplied b) s = .next u ∧ (benchOf u b).slot = slot ∧ (benchOf u b).prevSlot = (benchOf s b).slot ∧
      (benchOf u b).change = none ∧ (benchOf u b).state = (benchOf s b).state) ∧
  (∀ (b tenant : Nat) (image : Bytes) (c : Cert) (bd : Long) (s : State), Inv s → b < 16 →
    (benchOf s b).change = some (.rebuild image c tenant, bd) →
    ((benchOf s b).state = .armed ∨ (benchOf s b).state = .built) → changeDue s b bd = true →
    ∃ u, exec (.fabApplied b) s = .next u ∧ (benchOf u b).state = .loading ∧ (benchOf u b).image = image ∧
      (benchOf u b).cert = some c ∧ (benchOf u b).change = none) ∧
  (∀ (b : Nat) (s : State),
    ((benchOf s b).change = none ∨
      ∃ c bd, (benchOf s b).change = some (c, bd) ∧
        (changeDue s b bd = false ∨ ((benchOf s b).state ≠ .armed ∧ (benchOf s b).state ≠ .built))) →
    exec (.fabApplied b) s = .next s)

/-- A running DRAW list's COPY reads all rows of its source and writes them to the rows of its destination, FILL writes
its pattern from its first byte in each row, and CHECK writes the CRC-32C of its source rows as four bytes at its
destination; then the list goes on. Source and destination rows that meet leave bytes that the spec does not fix. A
poisoned source fails with INTERNAL and its address, a burst whose write is lost with INTERNAL and its address, and an error
of host memory with INTERNAL and the ring error DMA_ERR; a field out of range or a stream not held fails with BAD_PARAM,
and a place that may not be used fails with its status. Writing rows changes no byte outside them nor in the lost burst,
and rows that do not overlap one another read back as they were written. What the bytes of an overlapping COPY are, and that
a FILL's pattern starts again in each row, is the model's reading (log entries 12 and 33). -/
def Obligations.DrawCommands : Prop :=
  (∀ (s : State) (l : CmdList) (c : Cmd), enginesUp s = true →
    s.fab.lists.find? (fun l => l.engine == 1 && l.running) = some l → l.cur = some c →
    let d := drawOf c
    let srcOf := resolve s l.tenant d.srcSpace d.src (rowSpan d.rows d.srcPitch d.len) false
    let dstOf := resolve s l.tenant d.dstSpace d.dst (rowSpan d.rows d.dstPitch d.len) true
    let offs := rowOffsets d.rows d.dstPitch
    (drawOk s l c = false → ∀ dma q lost, (c.cmd = 0x100 → exec (.copy ⟨dma, lost⟩ q) s = .next (failCmd l stBAD_PARAM s)) ∧
      (c.cmd = 0x101 → exec (.fill ⟨dma, lost⟩) s = .next (failCmd l stBAD_PARAM s)) ∧
      (c.cmd = 0x102 → exec (.check ⟨dma, lost⟩ q) s = .next (failCmd l stBAD_PARAM s))) ∧
    (drawOk s l c = true →
      (∀ st dma q lost, srcOf = .inl st →
        (c.cmd = 0x100 → exec (.copy ⟨dma, lost⟩ q) s = .next (failCmd l st s)) ∧
        (c.cmd = 0x102 → exec (.check ⟨dma, lost⟩ q) s = .next (failCmd l st s))) ∧
      (∀ a, c.cmd = 0x100 → srcOf = .inr a →
        (∀ st dma q lost, dstOf = .inl st → exec (.copy ⟨dma, lost⟩ q) s = .next (failCmd l st s)) ∧
        (∀ b dma q lost, dstOf = .inr b →
          let fails := rowsFail s dma a d.rows d.srcPitch d.len || rowsFail s dma b d.rows d.dstPitch d.len
          let data := readRows s a d.rows d.srcPitch d.len
          let out := if placesMeet a b d then overlapped b d.len offs data else data
          (fails = true → exec (.copy ⟨dma, lost⟩ q) s = .next (failCmd l stINTERNAL (ringError l.tenant 2 s))) ∧
          (fails = false →
            (∀ x, q = some x → exec (.copy ⟨dma, lost⟩ q) s = .next (failList l stINTERNAL (some x) s)) ∧
            (∀ x, q = none → rowsPoison s a d.rows d.srcPitch d.len = some x →
              ∃ s', exec (.copy ⟨dma, lost⟩ q) s = .next (failList l stINTERNAL (some (BitVec.ofNat 64 x)) s') ∧
                Frame [.emitted, .host, .kw, .fab, .draw, .flt] s s') ∧
            (q = none → rowsPoison s a d.rows d.srcPitch d.len = none →
              (rowsLost lost b d.rows d.dstPitch d.len = none → exec (.copy ⟨dma, lost⟩ q) s =
                .next (advance l (writeRows none b d.len offs out s))) ∧
              (∀ g, rowsLost lost b d.rows d.dstPitch d.len = some g → exec (.copy ⟨dma, lost⟩ q) s =
                .next (failList l stINTERNAL (some (BitVec.ofNat 64 g)) (writeRows (some g) b d.len offs out s))))))) ∧
      (c.cmd = 0x101 →
        (d.srcSpace ≠ 0 ∨ 2 ^ 32 ≤ d.src ∨ d.srcPitch ≠ 0 → ∀ dma lost, exec (.fill ⟨dma, lost⟩) s = .next (failCmd l stBAD_PARAM s)) ∧
        (d.srcSpace = 0 → d.src < 2 ^ 32 → d.srcPitch = 0 →
          (∀ st dma lost, dstOf = .inl st → exec (.fill ⟨dma, lost⟩) s = .next (failCmd l st s)) ∧
          (∀ b dma lost, dstOf = .inr b →
            let data := (List.replicate d.rows (fillRow d.src d.len)).flatten
            (rowsFail s dma b d.rows d.dstPitch d.len = true →
              exec (.fill ⟨dma, lost⟩) s = .next (failCmd l stINTERNAL (ringError l.tenant 2 s))) ∧
            (rowsFail s dma b d.rows d.dstPitch d.len = false →
              (rowsLost lost b d.rows d.dstPitch d.len = none →
                exec (.fill ⟨dma, lost⟩) s = .next (advance l (writeRows none b d.len offs data s))) ∧
              (∀ g, rowsLost lost b d.rows d.dstPitch d.len = some g → exec (.fill ⟨dma, lost⟩) s =
                .next (failList l stINTERNAL (some (BitVec.ofNat 64 g)) (writeRows (some g) b d.len offs data s))))))) ∧
      (∀ a, c.cmd = 0x102 → srcOf = .inr a →
        (∀ st dma q lost, resolve s l.tenant d.dstSpace d.dst 4 true = .inl st → exec (.check ⟨dma, lost⟩ q) s = .next (failCmd l st s)) ∧
        (∀ b dma q lost, resolve s l.tenant d.dstSpace d.dst 4 true = .inr b →
          let fails := rowsFail s dma a d.rows d.srcPitch d.len || hostFails s dma b 4
          (fails = true → exec (.check ⟨dma, lost⟩ q) s = .next (failCmd l stINTERNAL (ringError l.tenant 2 s))) ∧
          (fails = false →
            (∀ x, q = some x → exec (.check ⟨dma, lost⟩ q) s = .next (failList l stINTERNAL (some x) s)) ∧
            (q = none → rowsPoison s a d.rows d.srcPitch d.len = none →
              (lostAt lost b 4 = none → exec (.check ⟨dma, lost⟩ q) s =
                .next (advance l (writePlace b (le4 (crc32c (readRows s a d.rows d.srcPitch d.len)).toNat) s))) ∧
              (∀ g, lostAt lost b 4 = some g → ∃ s', exec (.check ⟨dma, lost⟩ q) s =
                .next (failList l stINTERNAL (some (BitVec.ofNat 64 g)) s') ∧ Frame [.draw] s s'))))))) ∧
  (∀ (lost : Option Nat) (b : Place) (len : Nat) (offs : List Nat) (data : Bytes) (s : State) (x : Nat),
    ((∀ o ∈ offs, x < b.addr + o ∨ b.addr + o + len ≤ x) →
      memGet (writeRows lost b len offs data s).host x = memGet s.host x ∧
        memGet (writeRows lost b len offs data s).draw.mem x = memGet s.draw.mem x) ∧
    (∀ g, lost = some g → b.host = false → g ≤ x → x < g + 64 →
      memGet (writeRows lost b len offs data s).draw.mem x = memGet s.draw.mem x)) ∧
  (∀ (b : Place) (rows pitch len : Nat) (data : Bytes) (s : State), data.length = rows * len → len ≤ pitch →
    readRows (writeRows none b len (rowOffsets rows pitch) data s) b rows pitch len = data)

/-- A request is eligible exactly when its class bucket of its tier held tokens as the cycle began and, for a request of a
stream, its stream's bucket of that tier did too; a cycle takes the buckets as they stand when it begins. What a bank or
channel chooses among waiting requests is one of them; if any is eligible it chooses an eligible one of the lowest class
among the eligible ones, and otherwise one of the lowest class as slack, counted in its class's slack counter. A grant serves
that request, takes 64 bytes from the class bucket of its tier and from its stream's, leaves the buckets of the other tier and classes,
and changes nothing but DRAW's state and what leaves the unit, except where a read meets the poison table, which is counted
and reaches its consumer. A bank that serves nothing grants nothing; a request that has waited 50 us is ordered at the HWM. -/
def Obligations.ArbiterServesByClass : Prop :=
  (∀ (s : State) (r : MemReq), eligible s r = true ↔
    (0 < getI (if r.ingot then s.draw.cycleTok.2.1 else s.draw.cycleTok.1) r.cls 0 ∧
      ∀ h, r.stream = some h → 0 < streamTok s h r.ingot)) ∧
  (∀ (s : State) (ingot : Bool) (bank : Nat),
    (s.draw.cycleServed.1 ≠ s.now ∨ (ingot, bank) ∈ s.draw.cycleServed.2 → (openCycle ingot bank s).draw.cycleTok = bucketsOf s) ∧
    (s.draw.cycleServed.1 = s.now → (ingot, bank) ∉ s.draw.cycleServed.2 →
      (openCycle ingot bank s).draw.cycleTok = s.draw.cycleTok)) ∧
  (∀ (s : State) (l : List MemReq) (r : MemReq) (slack : Bool), choose s l = some (r, slack) → r ∈ l ∧
    (slack = false → eligible s r = true ∧ ∀ x ∈ l, eligible s x = true → r.cls ≤ x.cls ∧
      (x.cls = r.cls → r.deadline = none → x.deadline = none)) ∧
    (slack = true → ∀ x ∈ l, eligible s x = false ∧ r.cls ≤ x.cls)) ∧
  (∀ (s : State) (l : List MemReq), choose s l = none → l = []) ∧
  (∀ (s : State) (ingot : Bool) (bank t : Nat) (arrivals : List MemArrival) (single : Bool),
    let s1 := (s.at_ t).setDraw { s.draw with waiting := s.draw.waiting ++ arrivals.filterMap (arrive (s.at_ t)) }
    let mine := s1.draw.waiting.filter fun x => x.ingot == ingot && x.bank == bank
    (domOn s 2 = false → exec (.memoryGrant ingot bank arrivals single t) s = .next (s.at_ t)) ∧
    (domOn s 2 = true → bankServes s ingot bank = false ∨ mine = [] →
      exec (.memoryGrant ingot bank arrivals single t) s = .next s1) ∧
    (∀ r slack, domOn s 2 = true → bankServes s ingot bank = true → choose (openCycle ingot bank s1) mine = some (r, slack) →
      ∃ u g, exec (.memoryGrant ingot bank arrivals single t) s = .next u ∧
        (r.cls < s.draw.tokI.length → r.ingot = true → g.draw.tokS = s.draw.tokS ∧
          getI g.draw.tokI r.cls 0 = getI s.draw.tokI r.cls 0 - 64 ∧
          ∀ k, k ≠ r.cls → getI g.draw.tokI k 0 = getI s.draw.tokI k 0) ∧
        (r.cls < s.draw.tokS.length → r.ingot = false → g.draw.tokI = s.draw.tokI ∧
          getI g.draw.tokS r.cls 0 = getI s.draw.tokS r.cls 0 - 64 ∧
          ∀ k, k ≠ r.cls → getI g.draw.tokS k 0 = getI s.draw.tokS k 0) ∧
        (r.stream = none → g.draw.streams = s.draw.streams) ∧
        (∀ x ∈ s.draw.streams, r.stream = some x.handle → r.ingot = true → ({ x with tokI := x.tokI - 64 } : Stream) ∈ g.draw.streams) ∧
        (∀ x ∈ s.draw.streams, r.stream = some x.handle → r.ingot = false → ({ x with tokS := x.tokS - 64 } : Stream) ∈ g.draw.streams) ∧
        (slack = false → g.draw.slack = s.draw.slack) ∧
        (slack = true → g.draw.slack = bumpSat s.draw.slack r.cls) ∧
        g.draw.waiting = s1.draw.waiting.erase r ∧ g.emitted = .grant r.id :: s.emitted ∧
        g.draw.mem = s.draw.mem ∧ g.draw.objs = s.draw.objs ∧ Frame [.now, .emitted, .draw] s g ∧
        (r.write = true → u = g.setDraw { g.draw with chan := g.draw.chan.map fun c =>
          { c with poison := c.poison.filter fun p => p != r.addr.toNat / 64 * 64 } }) ∧
        (r.write = false → (poisonIn g (r.addr.toNat / 64 * 64) 64 = none ∨ ∃ e, r.issuer = .list e) → u = g) ∧
        (∀ p, r.write = false → poisonIn g (r.addr.toNat / 64 * 64) 64 = some p → (∀ e, r.issuer ≠ .list e) →
          u = consumePoison r.issuer p (eccUnc (BitVec.ofNat 64 p) (consumerOf r.issuer) g)))) ∧
  (∀ (s : State) (id : Nat) (r : MemReq), s.draw.waiting.find? (fun r => r.id == id && r.deadline.isNone) = some r →
    ∃ u, exec (.requestAging id) s = .next u ∧ u.now = max s.now (r.arrival + 20000) ∧
      u.draw.waiting = s.draw.waiting.map (fun x =>
        if x = r then { x with deadline := some s.pos.hwm, aged := true } else x) ∧ Frame [.now, .draw] s u) ∧
  (∀ (s : State) (id : Nat), s.draw.waiting.find? (fun r => r.id == id && r.deadline.isNone) = none →
    exec (.requestAging id) s = .next s)

/-- On a live channel, a double-bit error is delivered as poisoned when the second read fails, or may not be made within the
limits of the packet it serves, which counts an uncorrectable error, raises DRAW_ECC_UNC and damages the pixels of PLANISH
that the burst holds, and otherwise counts a correction or nothing; either way the channel has an upset that counts toward
its retirement. A lost write puts its burst into the channel's poison table while there is room, and nothing is entered
twice; with no room the channel is retired, or else everything read from it is poisoned. A timeout takes the same path with
its own detection. The patrol scrub of a word corrects and counts a single-bit error and changes nothing but DRAW's
counters. On a channel that is retired or without power nothing happens. -/
def Obligations.MemoryErrors : Prop :=
  (∀ (s : State) (consumer : Nat), consumer ≠ 4 → rereadAllowed s consumer = true) ∧
  (∀ (a : Long) (consumer t : Nat) (o : RetryOutcome) (s : State), ingotLive (s.at_ t) a = true →
    let s1 := s.at_ t
    let ch := chanOfAddr a
    (rereadAllowed s1 consumer = false → exec (.ingotReread a consumer o t) s =
      .next (upsetRetire 3 ch 1 false 0 0 (planishPoison a consumer (eccUnc a consumer s1)))) ∧
    (rereadAllowed s1 consumer = true →
      (o = .failed → exec (.ingotReread a consumer o t) s =
        .next (upsetRetire 3 ch 1 false 1 0 (planishPoison a consumer (eccUnc a consumer s1)))) ∧
      (o = .corrected → exec (.ingotReread a consumer o t) s = .next (upsetRetire 3 ch 1 false 1 0 (corrected true ch s1))) ∧
      (o = .clean → exec (.ingotReread a consumer o t) s = .next (upsetRetire 3 ch 1 false 1 0 s1)))) ∧
  (∀ (a : Long) (consumer t : Nat) (write : Bool) (o : RetryOutcome) (s : State), ingotLive (s.at_ t) a = true →
    let s1 := s.at_ t
    let ch := chanOfAddr a
    let lost := planishPoison a consumer (eccUnc a consumer s1)
    ∃ how,
      (rereadAllowed s1 consumer = false → exec (.channelTimeout a consumer write o t) s =
        .next (upsetRetire 3 ch how false 0 0 (if write then poisonBurst a lost else lost))) ∧
      (rereadAllowed s1 consumer = true →
        (o = .failed → exec (.channelTimeout a consumer write o t) s =
          .next (upsetRetire 3 ch how false 1 0 (if write then poisonBurst a lost else lost))) ∧
        (o = .corrected → exec (.channelTimeout a consumer write o t) s =
          .next (upsetRetire 3 ch how false 1 0 (corrected true ch s1))) ∧
        (o = .clean → exec (.channelTimeout a consumer write o t) s = .next (upsetRetire 3 ch how false 1 0 s1)))) ∧
  (∀ (a : Long) (consumer : Nat) (s : State) (c : DramChan), s.draw.chan[chanOfAddr a]? = some c →
    (eccUnc a consumer s).draw.chan[chanOfAddr a]? = some { c with unc := satInc c.unc } ∧
    (∀ k, k ≠ chanOfAddr a → (eccUnc a consumer s).draw.chan[k]? = s.draw.chan[k]?) ∧
    (corrected true (chanOfAddr a) s).draw.chan[chanOfAddr a]? = some { c with corr := c.corr + 1 } ∧
    (c.poison.length < 64 → (poisonBurst a s).draw.chan[chanOfAddr a]? =
      some (if c.poison.contains (a.toNat / 64 * 64) then c else { c with poison := c.poison ++ [a.toNat / 64 * 64] })) ∧
    (64 ≤ c.poison.length → c.poison.contains (a.toNat / 64 * 64) = false → Inv s →
      ∃ c', (poisonBurst a s).draw.chan[chanOfAddr a]? = some c' ∧ (c'.retired = true ∨ c'.allPoison = true))) ∧
  (∀ (a : Long) (consumer : Nat) (s : State), (consumer ≠ 0 → planishPoison a consumer s = s) ∧
    (consumer = 0 → Frame [.pln] s (planishPoison a consumer s) ∧
      ∀ (c i : Nat), (plnChan (planishPoison a consumer s) c).slots[i]? = ((plnChan s c).slots[i]?).map fun (x : Slot) =>
        ({ x with upset := x.upset ++ (List.range x.samples.length).filter fun p => Config.burstHolds (a.toNat / 64 * 64) c x.k p } : Slot))) ∧
  (∀ (a : Long) (single : Bool) (s : State), ingotLive s a = true →
    ∃ u, exec (.patrolScrub a single) s = .next u ∧ u.draw.mem = s.draw.mem ∧ Frame [.emitted, .draw] s u ∧
      (single = false → u.draw = s.draw) ∧
      (∀ c, single = true → s.draw.chan[chanOfAddr a]? = some c → u.draw.chan[chanOfAddr a]? = some { c with corr := c.corr + 1 })) ∧
  (∀ (a : Long) (consumer t : Nat) (write single : Bool) (o : RetryOutcome) (s : State), ingotLive (s.at_ t) a = false →
    exec (.ingotReread a consumer o t) s = .next (s.at_ t) ∧ exec (.channelTimeout a consumer write o t) s = .next (s.at_ t) ∧
      exec (.patrolScrub a single) s = .next s)

/-- DRAW_STATUS answers free memory, live channels and token buckets and changes nothing else. DRAW_ALLOC that nothing stops
adds one object of the issuer, of its size rounded up to 64 bytes, with its flags and class, not lost, and answers 16 bytes;
with no place it is refused with BUSY_RETRY and the largest extent; a size or alignment out of range is BAD_PARAM at its
field. DRAW_FREE removes an object of the issuer that nothing refers to, and is refused with BUSY_RETRY while something
does, with DENIED for another tenant's and with BAD_PARAM for none. A stream that the Ledger can hold opens with one
admission and its handle, is refused with REFUSED_BUDGET where it cannot, and closes by releasing it. Ranges and port modes
are set only while no admission is held, DENIED otherwise, and BAD_PARAM out of range. A retired channel comes back live,
unpoisoned and empty, and every other address keeps its byte; a channel that is not retired is BAD_PARAM. -/
def Obligations.MemoryOpcodes : Prop :=
  (∀ (r : Ref) (p : Packet) (s : State), opStarts 0x0701 r p s = true →
    exec (.drawStatus r) s = .next (ok p (le8 (poolFree s) ++ (List.range 4).flatMap (fun ch => le8 (ingotFree s ch)) ++
      le4 (drawChan s).toNat ++ s.draw.tokS.flatMap (leInt 4) ++ s.draw.tokI.flatMap (leInt 4)) s)) ∧
  (∀ (r : Ref) (p : Packet) (s : State) (pick ext : Nat), opStarts 0x0702 r p s = true →
    (fld p.params 0 8 < 64 ∨ 2 ^ 32 < fld p.params 0 8 → exec (.drawAlloc r pick ext) s = .next (refuse p stBAD_PARAM 0x20 s)) ∧
    (64 ≤ fld p.params 0 8 → fld p.params 0 8 ≤ 2 ^ 32 → fld p.params 11 1 < 6 ∨ 21 < fld p.params 11 1 →
      exec (.drawAlloc r pick ext) s = .next (refuse p stBAD_PARAM 0x2B s)) ∧
    (∀ st off, allocRefusal p (allocOf p.params) s = some (st, off) → exec (.drawAlloc r pick ext) s = .next (refuse p st off s)) ∧
    (∀ n, allocRefusal p (allocOf p.params) s = none → placeObj s (allocOf p.params) ext = .inl n →
      exec (.drawAlloc r pick ext) s = .next (refuseWith p stBUSY (le8 n) s)) ∧
    (∀ tier ch a, allocRefusal p (allocOf p.params) s = none → placeObj s (allocOf p.params) ext = .inr (tier, ch, a) →
      ∃ res o s', exec (.drawAlloc r pick ext) s = .next (ok p res s') ∧ s'.draw.objs = s.draw.objs ++ [o] ∧
        o.tenant = p.tenant ∧ o.tier = tier ∧ o.addr = a ∧ o.size % 64 = 0 ∧ fld p.params 0 8 ≤ o.size ∧
        o.size < fld p.params 0 8 + 64 ∧ o.cls = bits (fld p.params 8 2) 6 4 ∧ o.shared = bit (fld p.params 8 2) 3 ∧
        o.pinned = (bit (fld p.params 8 2) 2 || tier == .foil) ∧ o.lost = false ∧ res = allocResult o ∧ res.length = 16 ∧
        s'.draw.mem = s.draw.mem ∧ Frame [.draw] s s')) ∧
  (∀ (r : Ref) (p : Packet) (s : State), opStarts 0x0703 r p s = true →
    (objOf s (fld p.params 0 4) = none → exec (.drawFree r) s = .next (refuse p stBAD_PARAM 0x20 s)) ∧
    (∀ o, objOf s (fld p.params 0 4) = some o →
      (mayUse p o.tenant = false → exec (.drawFree r) s = .next (refuse p stDENIED noField s)) ∧
      (mayUse p o.tenant = true →
        (referred s o = true → exec (.drawFree r) s = .next (refuse p stBUSY noField s)) ∧
        (referred s o = false → ∃ s', exec (.drawFree r) s = .next (ok p [] s') ∧
          s'.draw = { s.draw with objs := s.draw.objs.filter fun x => x.handle != o.handle } ∧ Frame [.draw] s s')))) ∧
  (∀ (r : Ref) (p : Packet) (s : State) (pick : Nat), opStarts 0x0720 r p s = true →
    let l := shorts s (vEff s.led.vadm) p.cls (withTable [⟨4, p.cls, fld p.params 0 8⟩, ⟨5, p.cls, fld p.params 8 8⟩])
    (l ≠ [] → exec (.drawStreamOpen r pick) s =
      .next (refuseWith p stREFUSED_BUDGET (budgetPayload l) (s.setLed { s.led with refusals := s.led.refusals + 1 }))) ∧
    (l = [] → ∃ h s' x, exec (.drawStreamOpen r pick) s = .next (ok p (le4 h) s') ∧ x ∈ s'.draw.streams ∧ x.handle = h ∧
      x.tenant = p.tenant ∧ x.sheet = fld p.params 0 8 ∧ x.ingot = fld p.params 8 8 ∧
      ∃ a ∈ s'.led.held, a.handle = h ∧ a.kind = .stream ∧ a.cls = p.cls ∧ a.tenant = p.tenant)) ∧
  (∀ (r : Ref) (p : Packet) (s : State), opStarts 0x0721 r p s = true →
    (∀ st off, admTarget p (fld p.params 0 4) 0x20 [.stream] s = .inl (st, off) →
      exec (.drawStreamClose r) s = .next (refuse p st off s)) ∧
    (∀ a, admTarget p (fld p.params 0 4) 0x20 [.stream] s = .inr a →
      (s.fab.lists.any (listNames a.handle) = true → exec (.drawStreamClose r) s = .next (refuse p stBUSY noField s)) ∧
      (s.fab.lists.any (listNames a.handle) = false → exec (.drawStreamClose r) s = .next (ok p [] (release a s))))) ∧
  (∀ (r : Ref) (p : Packet) (s : State), opStarts 0x0730 r p s = true →
    (15 < fld p.params 0 1 → exec (.drawRangeSet r) s = .next (refuse p stBAD_PARAM 0x20 s)) ∧
    (fld p.params 0 1 ≤ 15 → s.led.held = [] → exec (.drawRangeSet r) s = .next (ok p [] (s.setDraw
      { s.draw with ranges := upd s.draw.ranges (fld p.params 0 1) fun _ => BitVec.ofNat 64 (fld p.params 8 8) }))) ∧
    (fld p.params 0 1 ≤ 15 → s.led.held ≠ [] → exec (.drawRangeSet r) s = .next (refuse p stDENIED noField s))) ∧
  (∀ (r : Ref) (p : Packet) (s : State), opStarts 0x0731 r p s = true →
    (3 < fld p.params 0 1 → exec (.drawPortMode r) s = .next (refuse p stBAD_PARAM 0x20 s)) ∧
    (fld p.params 0 1 ≤ 3 → 1 < fld p.params 1 1 → exec (.drawPortMode r) s = .next (refuse p stBAD_PARAM 0x21 s)) ∧
    (fld p.params 0 1 ≤ 3 → fld p.params 1 1 ≤ 1 → s.led.held = [] → exec (.drawPortMode r) s = .next (ok p [] (s.setDraw
      { s.draw with rangeMode := upd s.draw.rangeMode (fld p.params 0 1) fun _ => fld p.params 1 1 == 1 }))) ∧
    (fld p.params 0 1 ≤ 3 → fld p.params 1 1 ≤ 1 → s.led.held ≠ [] →
      exec (.drawPortMode r) s = .next (refuse p stDENIED noField s))) ∧
  (∀ (r : Ref) (p : Packet) (s : State), opStarts 0x0740 r p s = true →
    (3 < fld p.params 0 1 → exec (.drawChanUnretire r) s = .next (refuse p stBAD_PARAM 0x20 s)) ∧
    (∀ c, fld p.params 0 1 ≤ 3 → s.draw.chan[fld p.params 0 1]? = some c →
      (c.retired = false → exec (.drawChanUnretire r) s = .next (refuse p stBAD_PARAM 0x20 s)) ∧
      (c.retired = true → s.led.held ≠ [] → exec (.drawChanUnretire r) s = .next (refuse p stDENIED noField s)) ∧
      (c.retired = true → s.led.held = [] → ∃ s', exec (.drawChanUnretire r) s = .next (ok p [] s') ∧
        s'.draw.chan[fld p.params 0 1]? = some { c with retired := false, poison := [] } ∧ s'.boot.wanted.isSome = true ∧
        ∀ x, memGet s'.draw.mem x = if inIngot x ∧ x / 2 ^ 34 = fld p.params 0 1 then 0 else memGet s.draw.mem x)))

/-- The output of SORT and MERGE has each input entry exactly once, and TOPK's output is the first min(K, N) of those;
every output key and payload is an input entry's own. Along the output the keys never go against the order of the
format and direction, and in stable mode entries with equal keys keep their relative input order. NMS puts out only
input entries with a good box, at most K of them. In the order of FP32 every NaN is one key above plus infinity, and
the two zeros are equal. -/
def Obligations.SortIsAnOrderedCopy : Prop :=
  (∀ (o : AssayOp) (l : List Entry) (box : Nat → Box), o.cmd = 0x100 ∨ o.cmd = 0x101 → (runEntries o l box).out.Perm l) ∧
  (∀ (o : AssayOp) (l : List Entry) (box : Nat → Box), o.cmd = 0x102 →
    (runEntries o l box).out.length = min o.k l.length ∧ (∀ e ∈ (runEntries o l box).out, e ∈ l) ∧
    ∀ e ∈ (runEntries o l box).out, ∀ f ∈ l, f ∉ (runEntries o l box).out → dirOrd o.dir o.fmt e.key ≤ dirOrd o.dir o.fmt f.key) ∧
  (∀ (o : AssayOp) (l : List Entry) (box : Nat → Box), o.cmd ≠ 0x103 →
    (runEntries o l box).out.Pairwise (fun a b => dirOrd o.dir o.fmt a.key ≤ dirOrd o.dir o.fmt b.key ∧
      (o.stable = true → dirOrd o.dir o.fmt a.key = dirOrd o.dir o.fmt b.key → a.idx ≤ b.idx))) ∧
  (∀ (o : AssayOp) (l : List Entry) (box : Nat → Box), o.cmd = 0x103 → (runEntries o l box).out.length ≤ o.k ∧
    ∀ e ∈ (runEntries o l box).out, e ∈ l ∧ (box e.idx).bad = false) ∧
  (∀ (k j : Word), f32NaN k = true → keyOrd 2 j ≤ keyOrd 2 k ∧ (keyOrd 2 j = keyOrd 2 k ↔ f32NaN j = true)) ∧
  keyOrd 2 0x80000000 = keyOrd 2 0 ∧ keyOrd 2 0xFF800000 < keyOrd 2 0xFF7FFFFF ∧ keyOrd 2 0x7F7FFFFF < keyOrd 2 0x7F800000

/-- SORT, MERGE, TOPK and NMS with a good body, a held stream and readable unpoisoned input write the summary and output
entries of their operation at DST and count it with its NaN keys; MERGE needs its two inputs in order and NMS boxes without
reserved bits, else BAD_PARAM. NN_SEARCH writes the nearest entries of its library range. A poisoned input, an uncorrectable
error, a damaged range or a library word that fails ends the list with INTERNAL, and a body or stream at fault with
BAD_PARAM. LIB_LOAD outside the tenant's ranges or into a pinned range is DENIED, and otherwise replaces exactly the entries
it names. ASY_STATUS answers both units' counters and the ranges and changes nothing; ASY_LIB_DEFINE assigns a free range or
takes one back that no recipe pins. The RT unit completes its oldest operation, and one of an older generation is only
counted; a per-part search judges the part's candidates. Two operations are never mixed: the Q unit's counters stay at an
RT completion. -/
def Obligations.AssayCommands : Prop :=
  (∀ (s : State) (l : CmdList) (c : Cmd) (i : AsyErrors → Instr), enginesUp s = true →
    s.fab.lists.find? (fun l => l.engine == 4 && l.running) = some l → l.cur = some c →
    (i, c.cmd) ∈ [(Instr.sort, (0x100 : Nat)), (.merge, 0x101), (.topk, 0x102), (.nms, 0x103)] →
    let o := opOf c.cmd c.body
    let n2 := if c.cmd = 0x103 then 16 * o.n else 0
    let srcOf := resolve s l.tenant (bits c.arg0.toNat 1 0) (fld c.body 0 8) (8 * o.n) false
    let boxesOf := resolve s l.tenant (bits c.arg0.toNat 5 4) (fld c.body 0x10 8) n2 false
    (∀ q lost ecc, bodyOk s l.tenant c = false ∨ streamHeld s l.tenant (c.arg1.toNat % 2 ^ 32) = false →
      exec (i ⟨q, lost, ecc⟩) s = .next (failCmd l stBAD_PARAM s)) ∧
    (bodyOk s l.tenant c = true → streamHeld s l.tenant (c.arg1.toNat % 2 ^ 32) = true →
      (∀ q lost ecc st, srcOf = .inl st → exec (i ⟨q, lost, ecc⟩) s = .next (failCmd l st s)) ∧
      (∀ q lost ecc a st, srcOf = .inr a → c.cmd = 0x103 → boxesOf = .inl st → exec (i ⟨q, lost, ecc⟩) s = .next (failCmd l st s)) ∧
      (∀ q lost ecc a x, srcOf = .inr a → (c.cmd = 0x103 → boxesOf = .inr x) → (c.cmd ≠ 0x103 → x = a) →
        let fails := hostFails s true a (8 * o.n) || hostFails s true x n2
        let table := (poisonAt s a (8 * o.n)).or (poisonAt s x n2)
        (fails = true → exec (i ⟨q, lost, ecc⟩) s = .next (failCmd l stINTERNAL (ringError l.tenant 2 s))) ∧
        (fails = false →
          (∀ b, q = some b → exec (i ⟨q, lost, ecc⟩) s = .next (failList l stINTERNAL (some b) (asyFault false c.cmd none false s))) ∧
          (∀ b, q = none → table = some b →
            ∃ s', exec (i ⟨q, lost, ecc⟩) s = .next (failList l stINTERNAL (some (BitVec.ofNat 64 b)) (asyFault false c.cmd none false s'))) ∧
          (q = none → table = none → ecc.uncorrectable = true →
            exec (i ⟨q, lost, ecc⟩) s = .next (failCmd l stINTERNAL (asyFault false c.cmd none false (countEcc ecc s)))) ∧
          (q = none → table = none → ecc.uncorrectable = false →
            let ins := entriesOf o.n (readPlace s a (8 * o.n))
            let boxes := readPlace s x n2
            let out := runEntries o ins fun i => boxOf (boxes.drop (16 * i))
            let s1 := countEcc ecc (countNans false (nanCount o.fmt ins) s)
            (mergeOrdered o ins = false ∨ boxReserved (n2 / 16) boxes = true →
              exec (i ⟨q, lost, ecc⟩) s = .next (failCmd l stBAD_PARAM s1)) ∧
            (mergeOrdered o ins = true → boxReserved (n2 / 16) boxes = false →
              (∀ st, resolve s1 l.tenant (bits c.arg0.toNat 3 2) (fld c.body 8 8) (outBytes out).length true = .inl st →
                exec (i ⟨q, lost, ecc⟩) s = .next (failCmd l st s1)) ∧
              (∀ d, resolve s1 l.tenant (bits c.arg0.toNat 3 2) (fld c.body 8 8) (outBytes out).length true = .inr d →
                (lostAt lost d (outBytes out).length = none → hostFails s true d (outBytes out).length = false →
                  exec (i ⟨q, lost, ecc⟩) s = .next (advance l (writePlace d (outBytes out) (countOp false out.discarded s1)))) ∧
                (∀ g, lostAt lost d (outBytes out).length = some g → ∃ s', exec (i ⟨q, lost, ecc⟩) s =
                  .next (failList l stINTERNAL (some (BitVec.ofNat 64 g)) s'))))))))) ∧
  (∀ (s : State) (l : CmdList) (c : Cmd), enginesUp s = true →
    s.fab.lists.find? (fun l => l.engine == 4 && l.running) = some l → l.cur = some c → c.cmd = 0x104 →
    let o := opOf c.cmd c.body
    (∀ q lost ecc lib, bodyOk s l.tenant c = false ∨ streamHeld s l.tenant (c.arg1.toNat % 2 ^ 32) = false →
      exec (.nnSearch ⟨q, lost, ecc⟩ lib) s = .next (failCmd l stBAD_PARAM s)) ∧
    (bodyOk s l.tenant c = true → streamHeld s l.tenant (c.arg1.toNat % 2 ^ 32) = true →
      (∀ q lost ecc lib st, resolve s l.tenant (bits c.arg0.toNat 5 4) (fld c.body 0x10 8) (128 * o.q) false = .inl st →
        exec (.nnSearch ⟨q, lost, ecc⟩ lib) s = .next (failCmd l st s)) ∧
      (∀ x, resolve s l.tenant (bits c.arg0.toNat 5 4) (fld c.body 0x10 8) (128 * o.q) false = .inr x →
        hostFails s true x (128 * o.q) = false →
        (∀ q lost ecc lib, damagedIn s o = true →
          exec (.nnSearch ⟨q, lost, ecc⟩ lib) s = .next (failCmd l stINTERNAL (asyFault false 0x104 none false s))) ∧
        (damagedIn s o = false →
          (∀ b lost ecc lib, exec (.nnSearch ⟨some b, lost, ecc⟩ lib) s =
            .next (failList l stINTERNAL (some b) (asyFault false 0x104 none false s))) ∧
          (poisonAt s x (128 * o.q) = none →
            (∀ lost ecc k, exec (.nnSearch ⟨none, lost, ecc⟩ (some k)) s =
              .next (failCmd l stINTERNAL (asyFault false 0x104 (some k) false (countEcc ecc s)))) ∧
            (∀ lost ecc, ecc.uncorrectable = true → exec (.nnSearch ⟨none, lost, ecc⟩ none) s =
              .next (failCmd l stINTERNAL (asyFault false 0x104 none false (countEcc ecc s)))) ∧
            (∀ lost ecc d, ecc.uncorrectable = false →
              let out := nnRun s.asy.lib o ((List.range o.q).map fun i => ((readPlace s x (128 * o.q)).drop (128 * i)).take 128)
              out.out.length = o.q * min o.k o.libCount ∧
              (resolve s l.tenant (bits c.arg0.toNat 3 2) (fld c.body 8 8) (outBytes out).length true = .inr d →
                lostAt lost d (outBytes out).length = none → hostFails s true d (outBytes out).length = false →
                exec (.nnSearch ⟨none, lost, ecc⟩ none) s =
                  .next (advance l (writePlace d (outBytes out) (countOp false 0 (countEcc ecc s))))))))))) ∧
  (∀ (s : State) (l : CmdList) (c : Cmd), enginesUp s = true →
    s.fab.lists.find? (fun l => l.engine == 4 && l.running) = some l → l.cur = some c → c.cmd = 0x110 →
    let first := fld c.body 8 4
    let count := fld c.body 12 4
    (∀ q ecc, 4 ≤ c.arg0.toNat ∨ count = 0 ∨ streamHeld s l.tenant (c.arg1.toNat % 2 ^ 32) = false →
      exec (.libLoad ⟨q, ecc⟩) s = .next (failCmd l stBAD_PARAM s)) ∧
    (c.arg0.toNat < 4 → 1 ≤ count → streamHeld s l.tenant (c.arg1.toNat % 2 ^ 32) = true →
      (∀ q ecc, inRanges s l.tenant first count = false ∨ rangePinned s first count = true →
        exec (.libLoad ⟨q, ecc⟩) s = .next (failCmd l stDENIED s)) ∧
      (inRanges s l.tenant first count = true → rangePinned s first count = false →
        (∀ q ecc st, resolve s l.tenant (bits c.arg0.toNat 1 0) (fld c.body 0 8) (130 * count) false = .inl st →
          exec (.libLoad ⟨q, ecc⟩) s = .next (failCmd l st s)) ∧
        (∀ a, resolve s l.tenant (bits c.arg0.toNat 1 0) (fld c.body 0 8) (130 * count) false = .inr a →
          hostFails s true a (130 * count) = false →
          (∀ b ecc, exec (.libLoad ⟨some b, ecc⟩) s = .next (failList l stINTERNAL (some b) (asyFault false 0x110 none false s))) ∧
          (∀ ecc, poisonAt s a (130 * count) = none → ecc.uncorrectable = false →
            ∃ s', exec (.libLoad ⟨none, ecc⟩) s = .next (advance l s') ∧ Frame [.asy] s s' ∧ s'.asy.qUnit = s.asy.qUnit ∧
              (∀ k, k < count → libEntry s'.asy.lib (first + k) =
                { index := first + k, vec := (readPlace s a (130 * count)).drop (128 * k) |>.take 128
                  label := fld (readPlace s a (130 * count)) (128 * count + 2 * k) 2 }) ∧
              ∀ k, k < first ∨ first + count ≤ k → libEntry s'.asy.lib k = libEntry s.asy.lib k))))) ∧
  (∀ (r : Ref) (p : Packet) (s : State), opStarts 0x0801 r p s = true →
    let unit (u : AssayUnit) (ecc fenced : Bytes) :=
      le8 u.ops.toNat ++ le4 u.nanKeys.toNat ++ le4 u.badBox.toNat ++ ecc ++ le4 u.faults.toNat ++ fenced
    exec (.asyStatus r) s = .next (ok p (unit s.asy.rtUnit (le4 s.asy.eccCorr.toNat) (le4 s.asy.fenced.toNat) ++
      unit s.asy.qUnit [] [] ++ s.asy.ranges.flatMap fun x =>
        le4 x.first ++ le4 x.count ++ le1 x.tenant ++ le1 (b2n (rangePinned s x.first x.count)) ++ le1 (b2n x.damaged) ++ [0]) s)) ∧
  (∀ (r : Ref) (p : Packet) (s : State), opStarts 0x0802 r p s = true →
    let first := fld p.params 0 4
    let count := fld p.params 4 4
    let owner := fld p.params 8 1
    (65535 < first → exec (.asyLibDefine r) s = .next (refuse p stBAD_PARAM 0x20 s)) ∧
    (first ≤ 65535 → count < 1 ∨ 65536 < first + count → exec (.asyLibDefine r) s = .next (refuse p stBAD_PARAM 0x24 s)) ∧
    (first ≤ 65535 → 1 ≤ count → first + count ≤ 65536 → s.kw.numVfs < owner →
      exec (.asyLibDefine r) s = .next (refuse p stBAD_PARAM 0x28 s)) ∧
    (first ≤ 65535 → 1 ≤ count → first + count ≤ 65536 → owner ≤ s.kw.numVfs →
      (1 < fld p.params 9 1 → exec (.asyLibDefine r) s = .next (refuse p stBAD_PARAM 0x29 s)) ∧
      (fld p.params 9 1 = 1 →
        ((∃ x ∈ s.asy.ranges, x.first < first + count ∧ first < x.first + x.count) →
          exec (.asyLibDefine r) s = .next (refuse p stDENIED noField s)) ∧
        ((∀ x ∈ s.asy.ranges, first + count ≤ x.first ∨ x.first + x.count ≤ first) →
          (32 ≤ s.asy.ranges.length → exec (.asyLibDefine r) s = .next (refuse p stBAD_PARAM noField s)) ∧
          (s.asy.ranges.length < 32 → exec (.asyLibDefine r) s = .next (ok p [] (s.setAsy { s.asy with ranges := s.asy.ranges ++
            [{ first := first, count := count, tenant := owner, damaged := false }] }))))) ∧
      (fld p.params 9 1 = 0 →
        (s.asy.ranges.find? (fun x => x.first == first && x.count == count && x.tenant == owner) = none →
          exec (.asyLibDefine r) s = .next (refuse p stBAD_PARAM 0x20 s)) ∧
        (∀ x, s.asy.ranges.find? (fun x => x.first == first && x.count == count && x.tenant == owner) = some x →
          (rangePinned s first count = true → exec (.asyLibDefine r) s = .next (refuse p stDENIED noField s)) ∧
          (rangePinned s first count = false → exec (.asyLibDefine r) s =
            .next (ok p [] (s.setAsy { s.asy with ranges := s.asy.ranges.filter (· != x) }))))))) ∧
  (∀ (ecc : AsyEcc) (lib : Option Nat) (s : State), domOn s 2 = false ∨ s.asy.rt = [] → exec (.assayRtComplete ecc lib) s = .next s) ∧
  (∀ (ecc : AsyEcc) (lib : Option Nat) (s : State) (x : RtOp) (rest : List RtOp), domOn s 2 = true → s.asy.rt = x :: rest →
    ∃ u, exec (.assayRtComplete ecc lib) s = .next u ∧ u.asy.rt = rest ∧ u.asy.qUnit = s.asy.qUnit ∧ u.asy.lib = s.asy.lib ∧
      ((∀ r, findRecipe s x.recipe = some r → recipeFence s x.recipe ≠ x.fence) →
        u = countEcc ecc (s.setAsy { s.asy with rt := rest, fenced := satInc s.asy.fenced })) ∧
      (∀ r, findRecipe s x.recipe = some r → recipeFence s x.recipe = x.fence →
        (ecc.uncorrectable = true → u.asy.rtUnit.faults = satInc s.asy.rtUnit.faults ∧ u.asy.rtUnit.ops = s.asy.rtUnit.ops) ∧
        (∀ id p, ecc.uncorrectable = false → lib = none → damagedIn s r.image.partOp = false → x.part = some id →
          findPart s x.recipe id = some p → findPart u x.recipe id = some (judgePart s r.image p) ∧
            u.asy.rtUnit.ops = s.asy.rtUnit.ops + 1)))

/-- A part is REJECT exactly when one of its judged candidates is confirmed, PASS exactly when none is confirmed or
unknown and no reason is set, and HOLD otherwise or when its verdict is forced. A further reason never displaces the
first. The verdict record is 64 bytes; its PRIMARY field reads DEFECT (0x100) for a REJECT, 0 for a PASS and the first
of its reasons for a HOLD; its VERDICT, SEQ, PART_ID, RECIPE and GEN fields are the part's, its tile counts those of its
outcomes, and the position is the PTB at the issue. -/
def Obligations.VerdictsAndTheirReasons : Prop :=
  (∀ (im : RecipeImage) (p : Part),
    ((verdictOf im p false).1 = 1 ↔ ∃ c ∈ judged im p, c.verdict = 1) ∧
    ((verdictOf im p false).1 = 0 ↔ (∀ c ∈ judged im p, c.verdict ≠ 1 ∧ c.verdict ≠ 3) ∧ p.reasons = []) ∧
    (verdictOf im p false).1 ≤ 2 ∧ (verdictOf im p true).1 = 2) ∧
  (∀ (reason : Nat) (l : List Nat), l ≠ [] → (addReason reason l).head? = l.head?) ∧
  (∀ (reason : Nat), reason ≠ 0 → (addReason reason []).head? = some reason) ∧
  (∀ (s : State) (r : Recipe) (p : Part) (v action aflags : Nat) (reasons : List Nat), v ≤ 2 → r.seq < 2 ^ 32 →
    r.handle < 2 ^ 32 → p.seen.length < 2 ^ 32 → p.holdTiles < 2 ^ 32 → (∀ x ∈ reasons, x < 65536) →
    let b := verdictRecord s r p v action aflags reasons
    b.length = 64 ∧ fld b 1 1 = v ∧ fld b 8 4 = r.seq ∧ fld b 12 4 = r.handle ∧ fld b 16 8 = (BitVec.ofInt 64 p.id).toNat ∧
      fld b 24 4 = (low32 p.start).toNat ∧ fld b 32 4 = (spos s).toNat ∧ fld b 40 4 = p.seen.length ∧ fld b 44 4 = p.holdTiles ∧
      fld b 52 4 = (recipeFence s r.handle).toNat ∧
      (v = 1 → fld b 4 2 = 0x100) ∧ (v = 0 → fld b 4 2 = 0) ∧ (v = 2 → fld b 4 2 = reasons.headD 0))

/-- TILE_RESULT_INGEST takes the oldest outcome, leaves every issued part and the count of verdicts as they are, counts as
fenced one whose recipe is gone, one that is stale and one all of whose parts are issued, and counts one that overlaps no
part as a gap tile; any other is folded once into each open part that it overlaps, and one that is HOLD adds its reason
there. With nothing to ingest, or with domain CTRL off, nothing happens. VERDICT_ISSUE issues a fixed part at once, one at
its deadline with HOLD and DEADLINE, and another when it is closed and every tile has an outcome, after its per-part search
where one is due; otherwise it issues nothing. The deadline issues HOLD when the HWM has reached it, and nothing before.
Neither issues anything while the unit is behind. An issue counts one part and one verdict of its kind, advances the
recipe's SEQ and marks the part issued, and a part that is issued gets no second verdict. A plate open at START + MAX_LEN
closes there with reason PLATE_EDGE, and not before the HWM is there. -/
def Obligations.PartsReceiveOneVerdict : Prop :=
  (∀ (pz : Bool) (s : State), s.hm.ingest = [] ∨ domOn s 2 = false → exec (.tileResultIngest pz) s = .next s) ∧
  (∀ (pz : Bool) (s : State) (o : Outcome) (rest : List Outcome), domOn s 2 = true → s.hm.ingest = o :: rest →
    let s0 := openParts (s.setHm { s.hm with ingest := rest })
    ∃ u, exec (.tileResultIngest pz) s = .next u ∧ u.hm.ingest = rest ∧ u.hm.verdicts = s.hm.verdicts ∧ u.hm.nparts = s.hm.nparts ∧
      Frame [.hm, .asy, .rcp] s u ∧
      (∀ p ∈ s0.hm.parts, p.issued = true → p ∈ u.hm.parts) ∧
      (findRecipe s0 o.recipe = none → u = s0.setHm { s0.hm with tileCtr := bumpSat s0.hm.tileCtr 0 }) ∧
      (∀ r, findRecipe s0 o.recipe = some r → staleOutcome s0 o = true → u = s0.setHm { s0.hm with tileCtr := bumpSat s0.hm.tileCtr 0 }) ∧
      (∀ r, findRecipe s0 o.recipe = some r → staleOutcome s0 o = false →
        ((∀ p ∈ s0.hm.parts, p.recipe = r.handle → tileInPart s0 r.image o.tile p = false) →
          u = s0.setHm { s0.hm with tileCtr := bumpSat s0.hm.tileCtr 1 }) ∧
        ((∃ p ∈ s0.hm.parts, p.recipe = r.handle ∧ tileInPart s0 r.image o.tile p = true) →
          (∀ p ∈ s0.hm.parts, p.recipe = r.handle → tileInPart s0 r.image o.tile p = true → p.issued = true) →
          u = s0.setHm { s0.hm with tileCtr := bumpSat s0.hm.tileCtr 0 }) ∧
        ((∃ p ∈ s0.hm.parts, p.recipe = r.handle ∧ tileInPart s0 r.image o.tile p = true ∧ p.issued = false) →
          u = shadowEvaluate r o pz (classOutcome r o pz s0) ∧ u.hm.tileCtr = s0.hm.tileCtr ∧
          (∀ p ∈ s0.hm.parts, p.recipe = r.handle → tileInPart s0 r.image o.tile p = true →
            (allPad o.tile = true → foldPart { tile := o.tile, hold := false, reason := 0, score := none, cands := [] } p ∈ u.hm.parts) ∧
            (allPad o.tile = false → pz = true → foldPart (holdFold o.tile 0x16 none) p ∈ u.hm.parts) ∧
            (allPad o.tile = false → pz = false → o.hold ≠ 0 →
              foldPart (holdFold o.tile o.hold (o.result.map (·.score))) p ∈ u.hm.parts) ∧
            (allPad o.tile = false → pz = false → o.hold = 0 → bit o.tile.tflags 0 = true →
              foldPart (holdFold o.tile 1 (o.result.map (·.score))) p ∈ u.hm.parts) ∧
            (allPad o.tile = false → pz = false → o.hold = 0 → bit o.tile.tflags 0 = false → o.result = none →
              foldPart (holdFold o.tile 0x16 none) p ∈ u.hm.parts) ∧
            (∀ m, allPad o.tile = false → pz = false → o.hold = 0 → bit o.tile.tflags 0 = false → o.result = some m →
              needsTileOp r.image m = false → foldPart (resultFold s0 r.image o.tile m (rawCands m) false) p ∈ u.hm.parts) ∧
            (∀ m, allPad o.tile = false → pz = false → o.hold = 0 → bit o.tile.tflags 0 = false → o.result = some m →
              needsTileOp r.image m = true → p ∈ u.hm.parts ∧ ∃ x, u.asy.rt = s0.asy.rt ++ [x] ∧ x.outcome = some o ∧
                x.part = none ∧ x.recipe = r.handle))))) ∧
  (∀ (f : Fold) (p : Part), p.issued = false → (p.seen.contains (f.tile.view, f.tile.row, f.tile.col)) = false →
    (f.tile.view, f.tile.row, f.tile.col) ∈ (foldPart f p).seen ∧ (foldPart f p).holdTiles = p.holdTiles + (if f.hold then 1 else 0) ∧
      (foldPart f p).reasons = (if f.hold then addReason f.reason p.reasons else p.reasons) ∧ (foldPart f p).issued = false) ∧
  (∀ (f : Fold) (p : Part), p.issued = true ∨ (p.seen.contains (f.tile.view, f.tile.row, f.tile.col)) = true → foldPart f p = p) ∧
  (∀ (recipe : Nat) (part : Int) (s : State), behind (openParts s) = true ∨ domOn (openParts s) 2 = false ∨
    findRecipe (openParts s) recipe = none ∨ findPart (openParts s) recipe part = none →
    exec (.verdictIssue recipe part) s = .next (openParts s) ∧ exec (.verdictDeadline recipe part) s = .next (openParts s)) ∧
  (∀ (recipe : Nat) (part : Int) (s : State) (r : Recipe) (p : Part), behind (openParts s) = false → domOn (openParts s) 2 = true →
    findRecipe (openParts s) recipe = some r → findPart (openParts s) recipe part = some p →
    let late := p.stop.isSome && reached (openParts s) (posL (closePos (openParts s) r.image p + r.image.lDec))
    (p.issued = true → exec (.verdictIssue recipe part) s = .next (openParts s) ∧ exec (.verdictDeadline recipe part) s = .next (openParts s)) ∧
    (p.issued = false → p.fixed = true → exec (.verdictIssue recipe part) s = .next (issue r p true (openParts s))) ∧
    (p.issued = false → p.fixed = false → late = true → exec (.verdictIssue recipe part) s =
      .next (issue r { p with reasons := addReason 0x24 p.reasons } true (openParts s))) ∧
    (p.issued = false → p.fixed = false → late = false →
      (closed (openParts s) r.image p = false ∨ allSeen (openParts s) r.image p = false →
        exec (.verdictIssue recipe part) s = .next (openParts s)) ∧
      (closed (openParts s) r.image p = true → allSeen (openParts s) r.image p = true →
        (needsPartOp r.image p = false → exec (.verdictIssue recipe part) s = .next (issue r p false (openParts s))) ∧
        (needsPartOp r.image p = true → p.partOp ≠ 0 → exec (.verdictIssue recipe part) s = .next (openParts s)) ∧
        (needsPartOp r.image p = true → p.partOp = 0 → ∃ u x, exec (.verdictIssue recipe part) s = .next u ∧
          u.asy.rt = (openParts s).asy.rt ++ [x] ∧ x.part = some part ∧ x.recipe = r.handle ∧ x.outcome = none ∧
          u.hm.verdicts = (openParts s).hm.verdicts ∧ findPart u recipe part = some { p with partOp := 1 } ∧
          Frame [.hm, .asy] (openParts s) u))) ∧
    (p.issued = false → late = true → exec (.verdictDeadline recipe part) s =
      .next (issue r { p with reasons := addReason 0x24 p.reasons } true (openParts s))) ∧
    (p.issued = false → late = false → exec (.verdictDeadline recipe part) s = .next (openParts s))) ∧
  (∀ (s : State) (r : Recipe) (p : Part) (forced : Bool),
    let v := (verdictOf r.image p forced).1
    (issue r p forced s).hm.nparts = s.hm.nparts + 1 ∧ (issue r p forced s).hm.verdicts = bumpAt s.hm.verdicts v ∧
      (∀ x, findRecipe (issue r p forced s) r.handle = some x → x.seq = (r.seq + 1) % 2 ^ 32) ∧
      (issue r p forced s).hm.parts = s.hm.parts.map (fun q => if q.recipe = r.handle ∧ q.id = p.id then
        { q with issued := true, reasons := (verdictOf r.image p forced).2, cands := judged r.image q } else q)) ∧
  (∀ (recipe : Nat) (s : State) (r : Recipe) (p : Part), domOn s 2 = true → findRecipe s recipe = some r → openPlate s recipe = some p →
    (reached s (posL (posI p.start + r.image.maxLen)) = true →
      ∃ u, exec (.plateMaxLenClose recipe) s = .next u ∧ Frame [.hm] s u ∧
        (∀ q, findPart u recipe p.id = some q → q.stop = some (posL (posI p.start + r.image.maxLen)) ∧ 0x25 ∈ q.reasons) ∧
        (∀ q ∈ s.hm.parts, (q.recipe ≠ recipe ∨ q.id ≠ p.id) → q ∈ u.hm.parts)) ∧
    (reached s (posL (posI p.start + r.image.maxLen)) = false → exec (.plateMaxLenClose recipe) s = .next s)) ∧
  (∀ (recipe : Nat) (s : State), domOn s 2 = false ∨ findRecipe s recipe = none ∨ openPlate s recipe = none →
    exec (.plateMaxLenClose recipe) s = .next s)

/-- At its switch-on an entry that checks fires on an output that is configured, live, not in its safe state and on a
closed feed whose other channel does not add up to more than 1,200 mA: its channel goes on and the entry is on from
that moment. With no copy that checks it is lost and never fires; with one it fires from the other. On a channel in its
safe state, on one that is no output and on an open feed it is skipped; at an interlock it is held, or skipped once LATEST
is reached. An entry that is not due, that is on already or that is not in the queue does nothing. A timed pulse switches
off by its timer, another by position or by its cap, whichever is first, and none before 100 us; the entry is removed, the
output goes off, and a switch-on held for it goes on. -/
def Obligations.ActuationFiresOnce : Prop :=
  (∀ (h n t : Nat) (s : State) (a : Act) (c : DioChan), findAct s h = some a → s.dio.chan[a.entry.channel]? = some c →
    let s0 := s.at_ t
    let injected := s.flt.badCopy == some a.entry.channel
    let s1 := if injected then s0.setFlt { s0.flt with badCopy := none } else s0
    let good := if injected then n - 1 else n
    let s2 := if good = 1 then secondCopy injected s1 else s1
    (a.state = .firing ∨ switchDue s0 a = false ∨ domOn s 2 = false → exec (.actuationSwitchOn h n t) s = .next s0) ∧
    (a.state ≠ .firing → switchDue s0 a = true → domOn s 2 = true →
      (good = 0 → exec (.actuationSwitchOn h n t) s = .next (loseAct a s1)) ∧
      (1 ≤ good → c.dir ≠ 2 → exec (.actuationSwitchOn h n t) s = .next (skipAct a s2)) ∧
      (1 ≤ good → c.dir = 2 → c.causes ≠ 0 → exec (.actuationSwitchOn h n t) s =
        .next (skipAct a (s2.setDio { s2.dio with safeSkip := satInc s2.dio.safeSkip }))) ∧
      (1 ≤ good → c.dir = 2 → c.causes = 0 → (feedOf s (a.entry.channel / 2)).closed = false →
        exec (.actuationSwitchOn h n t) s = .next (skipAct a s2)) ∧
      (1 ≤ good → c.dir = 2 → c.causes = 0 → (feedOf s (a.entry.channel / 2)).closed = true →
        (interlocked s0 a = true → latestReached s0 a = true →
          exec (.actuationSwitchOn h n t) s = .next (noteInterlock a 1 (skipAct a s2))) ∧
        (interlocked s0 a = true → latestReached s0 a = false → a.state = .held →
          exec (.actuationSwitchOn h n t) s = .next s2) ∧
        (interlocked s0 a = true → latestReached s0 a = false → a.state = .pending →
          ∃ u, exec (.actuationSwitchOn h n t) s = .next u ∧ u.dio = s.dio ∧ (findAct u h).map (·.state) = some .held) ∧
        (interlocked s0 a = false → a.state = .held → latestReached s0 a = true →
          exec (.actuationSwitchOn h n t) s = .next (noteInterlock a 1 (skipAct a s2))) ∧
        (interlocked s0 a = false → a.state = .pending ∨ latestReached s0 a = false → c.retired = false →
          ∃ u, exec (.actuationSwitchOn h n t) s = .next u ∧
            findAct u h = some { a with state := .firing, onAt := s0.now, onSpos := spos s0 } ∧
            (u.dio.chan[a.entry.channel]?).map (·.out) = some true ∧
            (∀ k, k ≠ a.entry.channel → u.dio.chan[k]? = s.dio.chan[k]?) ∧
            Frame [.now, .hm, .dio, .flt, .emitted, .host, .kw, .fab] s u)))) ∧
  (∀ (h : Nat) (s : State) (a : Act), findAct s h = some a →
    (a.state = .held → interlocked s a = true → latestReached s a = true → domOn s 2 = true →
      exec (.interlockSkip h) s = .next (noteInterlock a 1 (skipAct a s))) ∧
    (a.state ≠ .held ∨ interlocked s a = false ∨ latestReached s a = false ∨ domOn s 2 = false →
      exec (.interlockSkip h) s = .next s)) ∧
  (∀ (ch t : Nat) (s : State) (a : Act), firingOn s ch = some a →
    let cap := a.onAt + msTicks (if a.entry.maxMs = 0 then 10000 else a.entry.maxMs)
    (offDue (s.at_ t) a = true → domOn s 2 = true → exec (.pulseSwitchOff ch t) s = .next (switchOff a (s.at_ t))) ∧
    (offDue (s.at_ t) a = false ∨ domOn s 2 = false → exec (.pulseSwitchOff ch t) s = .next (s.at_ t)) ∧
    (offDue s a = true → a.onAt + usTicks 100 ≤ s.now ∧ (a.entry.us = true → a.onAt + usTicks a.entry.length ≤ s.now) ∧
      (a.entry.us = false → behind s = false ∧ posI a.target + a.entry.length - dLead s a.entry.leadUs ≤ posI s.pos.hwm)) ∧
    (a.entry.us = false → domOn s 2 = true →
      (offDue s a = true → s.now < cap → exec (.pulseCapExpiry ch) s = .next (switchOff a s)) ∧
      (offDue s a = false ∨ cap ≤ s.now → ∃ u, exec (.pulseCapExpiry ch) s = .next u ∧ findAct u a.handle = none ∧ cap ≤ u.now ∧
        (heldOn s (partnerOf a.entry.channel) = none → u.hm.actCtr = bumpSat s.hm.actCtr 2))) ∧
    (a.entry.us = true ∨ domOn s 2 = false → exec (.pulseCapExpiry ch) s = .next s)) ∧
  (∀ (a : Act) (s : State), findAct (switchOff a s) a.handle = none ∧ findAct (skipAct a s) a.handle = none ∧
    findAct (loseAct a s) a.handle = none ∧ (loseAct a s).dio = s.dio ∧ (skipAct a s).dio = s.dio ∧
    (∀ b ∈ s.hm.acts, b.handle ≠ a.handle → b ∈ (skipAct a s).hm.acts ∧ b ∈ (loseAct a s).hm.acts) ∧
    (heldOn s (partnerOf a.entry.channel) = none →
      (∀ b ∈ s.hm.acts, b.handle ≠ a.handle → b ∈ (switchOff a s).hm.acts) ∧
      (∀ k, k ≠ a.entry.channel → (switchOff a s).dio.chan[k]? = s.dio.chan[k]?) ∧
      (∀ c, s.dio.chan[a.entry.channel]? = some c → c.causes = 0 →
        (∀ b ∈ s.hm.acts, b.entry.channel = a.entry.channel → b.state = .firing → b.handle = a.handle) →
        ((switchOff a s).dio.chan[a.entry.channel]?).map (·.out) = some false)) ∧
    (∀ b, heldOn s (partnerOf a.entry.channel) = some b → b.handle ≠ a.handle → switchDue s b = true → latestReached s b = false →
      (chanOf s b.entry.channel).dir = 2 → (chanOf s b.entry.channel).causes = 0 → (feedOf s (b.entry.channel / 2)).closed = true →
      (chanOf s a.entry.channel).causes = 0 →
      (∀ x ∈ s.hm.acts, x.entry.channel = a.entry.channel → x.state = .firing → x.handle = a.handle) →
      { b with state := .firing, onAt := s.now, onSpos := spos s } ∈ (switchOff a s).hm.acts)) ∧
  (∀ (ch h n t : Nat) (s : State), findAct s h = none → firingOn s ch = none →
    exec (.actuationSwitchOn h n t) s = .next (s.at_ t) ∧ exec (.interlockSkip h) s = .next s ∧
      exec (.pulseSwitchOff ch t) s = .next (s.at_ t) ∧ exec (.pulseCapExpiry ch) s = .next s)

/-- For a pulse put against the admitted pulses of its feed, a shift that is granted is 0 or at most LATEST, and the moved
pulse meets none that is on its channel or that adds to more than 1,200 mA; a refusal names a shift above LATEST. An
entry that is admitted joins the queue behind the others, which stay as they are, at its target moved by the shift; a
delay is counted. The judgement refuses a bad field, a full queue, a retired channel or feed and a late target, in
this order, and else answers what the timeline grants. -/
def Obligations.PulsesFitTheTimeline : Prop :=
  (∀ (acts : List Act) (e : ActEntry) (on off : Int) (n shift : Nat), acts.length < n →
    (admitPulse n acts e on off 0 = .inr shift → (shift = 0 ∨ shift ≤ e.latest) ∧
      ∀ a ∈ acts, conflicts e.channel e.loadMa (on + shift) (off + shift) a = false) ∧
    (admitPulse n acts e on off 0 = .inl shift → e.latest < shift)) ∧
  (∀ (handle shift tenant : Nat) (e : ActEntry) (target : Long) (recipe : Option Nat) (s : State),
    ∃ a, (commitAct handle e target shift recipe tenant s).hm.acts = s.hm.acts ++ [a] ∧ a.handle = handle ∧ a.entry = e ∧
      a.target = target + BitVec.ofNat 64 shift ∧ a.shift = shift ∧ a.state = .pending ∧ a.tenant = tenant ∧ a.recipe = recipe ∧
      (commitAct handle e target shift recipe tenant s).hm.actCtr = (if shift = 0 then s.hm.actCtr else bumpSat s.hm.actCtr 0) ∧
      Frame [.hm] s (commitAct handle e target shift recipe tenant s)) ∧
  (∀ (s : State) (e : ActEntry) (target : Long),
    (∀ o, entryBad s e = some o → judgeAct s e target = .refused stBAD_PARAM 1 0) ∧
    (entryBad s e = none → 4096 ≤ s.hm.acts.length → judgeAct s e target = .refused stBUSY 1 0) ∧
    (entryBad s e = none → s.hm.acts.length < 4096 → (chanOf s e.channel).retired = true ∨ (feedOf s (e.channel / 2)).retired = true →
      judgeAct s e target = .refused stRETIRED 5 0) ∧
    (entryBad s e = none → s.hm.acts.length < 4096 → (chanOf s e.channel).retired = false → (feedOf s (e.channel / 2)).retired = false →
      (posI target - leadAdm s e.leadUs ≤ posI s.pos.hwm → judgeAct s e target = .refused stTIMED_OUT 6 0) ∧
      (posI s.pos.hwm < posI target - leadAdm s e.leadUs →
        (∀ shift, judgeAct s e target = .admitted shift → shift = 0 ∨ shift ≤ e.latest) ∧
        (∀ st outcome needed, judgeAct s e target = .refused st outcome needed →
          st = stREFUSED_BUDGET ∧ outcome = 1 ∧ e.latest < needed))) ∧
    (∀ shift, judgeAct s e target = .admitted shift → posI s.pos.hwm < posI target - leadAdm s e.leadUs ∧
      s.hm.acts.length < 4096 ∧ 1 ≤ e.loadMa ∧ e.loadMa ≤ 1000 ∧ (chanOf s e.channel).dir = 2 ∧ entryLengthOk e = true))

/-- HM_STATUS of no feed, or of a feed from 0 to 15, answers the registers of its table, the losses of every ring in use,
OUTLAG and the feed's timeline, and changes nothing else; another feed is BAD_PARAM. HM_RING_SET with good rings sets the
recipe's rings, or the tenant's ring for host entries, to start at their first slot; a bad ring or recipe is refused and
changes nothing. A host entry with a field outside its table is BAD_PARAM at its offset, one beyond the horizon
REFUSED_HORIZON, one in a supply warning REFUSED_BUDGET naming SUPPLY, and then the timeline and the Ledger judge it; each
refusal is logged, and one that is admitted enters one pulse at the end of the queue. HM_ACT_SCHEDULE answers handle, target
and shift, or the refusal; ACT_ENQUEUE goes on with its list, or fails it. HM_ACT_CANCEL releases an entry that has not
switched on and is not due, and answers DENIED with 1 for another. HM_PLATE_EDGE answers whether the edge was taken; a
leading edge that is taken opens the next part at its position, and a trailing one ends the open plate at its. -/
def Obligations.HallmarkOpcodes : Prop :=
  (∀ (r : Ref) (p : Packet) (s : State), opStarts 0x0901 r p s = true →
    let k := fld p.params 0 1
    let hosts := s.kw.tenants.map (·.hostARing)
    (15 < k → k ≠ 0xFF → exec (.hmStatus r) s = .next (refuse p stBAD_PARAM 0x20 s)) ∧
    (k ≤ 15 ∨ k = 0xFF → exec (.hmStatus r) s = .next (ok p (regBytes (hmRegs s) ++
      ((s.rcp.recipes.map (·.vring)).filter (· != 0)).flatMap (fun h => le4 (lookupW s.hm.lost h).toNat) ++
      (((s.rcp.recipes.map (·.aring)) ++ hosts).filter (· != 0)).flatMap (fun h => le4 (lookupW s.hm.lost h).toNat) ++ le4 20000 ++
      (if k = 0xFF then [] else ((s.hm.acts.filter fun a => a.entry.channel / 2 == k).take 256).flatMap fun a =>
        le4 (low32 a.pOn).toNat ++ le4 (low32 a.pOff).toNat ++ le1 a.entry.channel ++ [0] ++ le2 a.entry.loadMa)) s))) ∧
  (∀ (r : Ref) (p : Packet) (s : State), opStarts 0x0902 r p s = true →
    let h := fld p.params 0 4
    let v := fld p.params 4 4
    let a := fld p.params 8 4
    (∀ st off, h = 0 → ringsBad p [(a, 0x28)] s = some (st, off) → exec (.hmRingSet r) s = .next (refuse p st off s)) ∧
    (h = 0 → ringsBad p [(a, 0x28)] s = none → ∃ s', exec (.hmRingSet r) s = .next (ok p [] s') ∧
      Frame [.kw, .hm] s s' ∧ lookupN s'.hm.ringIdx a = 0 ∧ (p.tenant < s.kw.tenants.length → (ten s' p.tenant).hostARing = a)) ∧
    (∀ st off, h ≠ 0 → admTarget p h 0x20 [.recipe] s = .inl (st, off) → exec (.hmRingSet r) s = .next (refuse p st off s)) ∧
    (∀ x, h ≠ 0 → admTarget p h 0x20 [.recipe] s = .inr x →
      (∀ st off, ringsBad p [(v, 0x24), (a, 0x28)] s = some (st, off) → exec (.hmRingSet r) s = .next (refuse p st off s)) ∧
      (ringsBad p [(v, 0x24), (a, 0x28)] s = none → ∃ s', exec (.hmRingSet r) s = .next (ok p [] s') ∧ Frame [.hm, .rcp] s s' ∧
        lookupN s'.hm.ringIdx a = 0 ∧ lookupN s'.hm.ringIdx v = 0 ∧
        (findRecipe s' h).map (fun x => (x.vring, x.aring)) = (findRecipe s h).map (fun _ => (v, a))))) ∧
  (∀ (b : Bytes) (cls tenant pick : Nat) (s : State),
    let e := entryOfBytes b
    let target := expand s e.spos
    let x := hostAct b cls tenant pick s
    (entryBad s e = some 0 → x = { status := stBAD_PARAM, result := le2 14 ++ le2 0x20, state := refuseAct e target stBAD_PARAM 1 none tenant s }) ∧
    (entryBad s e ≠ some 0 → 1 < fld b 1 1 →
      x = { status := stBAD_PARAM, result := le2 14 ++ le2 0x21, state := refuseAct e target stBAD_PARAM 1 none tenant s }) ∧
    (∀ o, entryBad s e = some o → o ≠ 0 → fld b 1 1 ≤ 1 →
      x = { status := stBAD_PARAM, result := le2 14 ++ le2 (0x20 + o), state := refuseAct e target stBAD_PARAM 1 none tenant s }) ∧
    (entryBad s e = none → fld b 1 1 ≤ 1 → fld b 22 2 ≠ 0 →
      x = { status := stBAD_PARAM, result := le2 14 ++ le2 0x36, state := refuseAct e target stBAD_PARAM 1 none tenant s }) ∧
    (entryBad s e = none → fld b 1 1 ≤ 1 → fld b 22 2 = 0 →
      (inHorizon s e.spos = false →
        x = { status := stREFUSED_HORIZON, result := le2 14 ++ le2 0x24, state := refuseAct e target stREFUSED_HORIZON 1 none tenant s }) ∧
      (inHorizon s e.spos = true → 6 ≤ cls → supplyWarned s = true → x.status = stREFUSED_BUDGET ∧
        x.result = budgetPayload (supplyShorts s cls) ∧ x.state.led = { s.led with refusals := s.led.refusals + 1 } ∧
        x.state.hm.acts = s.hm.acts) ∧
      (inHorizon s e.spos = true → supplyShorts s cls = [] →
        (∀ st outcome needed, judgeAct s e target = .refused st outcome needed →
          x = { status := st, result := if st = stREFUSED_BUDGET then timelineShort cls e needed else le2 14 ++ le2 noField,
                state := refuseAct e target st outcome none tenant s }) ∧
        (∀ shift, judgeAct s e target = .admitted shift → shorts s (vEff s.led.vadm) cls (withTable []) ≠ [] →
          x.status = stREFUSED_BUDGET ∧ x.result = budgetPayload (shorts s (vEff s.led.vadm) cls (withTable [])) ∧
          x.state.hm.acts = s.hm.acts) ∧
        (∀ shift, judgeAct s e target = .admitted shift → shorts s (vEff s.led.vadm) cls (withTable []) = [] → ∃ h a adm,
          x.status = stOK ∧ x.result = le4 h ++ le4 (low32 (target + BitVec.ofNat 64 shift)).toNat ++ le4 shift ∧
          x.state.hm.acts.getLast? = some a ∧ a.handle = h ∧ a.entry = e ∧ a.target = target + BitVec.ofNat 64 shift ∧
          a.shift = shift ∧ a.state = .pending ∧ a.recipe = none ∧ a.tenant = tenant ∧
          x.state.led.held.getLast? = some adm ∧ adm.handle = h ∧ adm.kind = .actuation ∧ adm.cls = cls ∧ adm.tenant = tenant ∧
          (cls = 7 ∨ (∀ y ∈ s.led.held, y.cls ≠ 7) → x.state.hm.acts = s.hm.acts ++ [a]))))) ∧
  (∀ (r : Ref) (p : Packet) (s : State) (pick : Nat), opStarts 0x0910 r p s = true →
    let x := hostAct p.params p.cls p.tenant pick s
    exec (.hmActSchedule r pick) s = .next (done p x.status x.result x.state)) ∧
  (∀ (pick : Nat) (s : State) (l : CmdList) (c : Cmd) (p : Packet), enginesUp s = true →
    s.fab.lists.find? (fun l => l.engine == 5 && l.running) = some l → l.cur = some c → c.cmd = 0x100 →
    (c.arg0 ≠ 0 ∨ c.arg1 ≠ 0 → exec (.actEnqueue pick) s = .next (failCmd l stBAD_PARAM s)) ∧
    (c.arg0 = 0 → c.arg1 = 0 → findP l.ref s = some p →
      let x := hostAct c.body p.cls l.tenant pick s
      (x.status = stOK → exec (.actEnqueue pick) s = .next (advance l x.state)) ∧
      (x.status ≠ stOK → exec (.actEnqueue pick) s = .next (failCmd l x.status x.state)))) ∧
  (∀ (pick : Nat) (s : State), enginesUp s = false ∨ s.fab.lists.find? (fun l => l.engine == 5 && l.running) = none →
    exec (.actEnqueue pick) s = .next s) ∧
  (∀ (r : Ref) (p : Packet) (s : State), opStarts 0x0911 r p s = true →
    (∀ st off, admTarget p (fld p.params 0 4) 0x20 [.actuation] s = .inl (st, off) →
      exec (.hmActCancel r) s = .next (refuse p st off s)) ∧
    (∀ a, admTarget p (fld p.params 0 4) 0x20 [.actuation] s = .inr a →
      let gone := (findAct s a.handle).any fun x => x.state == .firing || (x.state == .pending && switchDue s x)
      (gone = true → exec (.hmActCancel r) s = .next (refuseWith p stDENIED [1] s)) ∧
      (gone = false → exec (.hmActCancel r) s = .next (ok p [] (release a s))))) ∧
  (∀ (r : Ref) (p : Packet) (s : State), opStarts 0x0920 r p s = true →
    let w : Word := BitVec.ofNat 32 (fld p.params 8 4)
    let k := fld p.params 4 1
    (∀ st off, admTarget p (fld p.params 0 4) 0x20 [.recipe] s = .inl (st, off) →
      exec (.hmPlateEdge r) s = .next (refuse p st off s)) ∧
    (∀ a x, admTarget p (fld p.params 0 4) 0x20 [.recipe] s = .inr a → findRecipe s a.handle = some x →
      (1 < k → exec (.hmPlateEdge r) s = .next (refuse p stBAD_PARAM 0x24 s)) ∧
      (k ≤ 1 → x.image.model ≠ 1 ∨ x.image.edgeSrc ≠ 1 → exec (.hmPlateEdge r) s = .next (refuse p stBAD_PARAM 0x20 s)) ∧
      (k ≤ 1 → x.image.model = 1 → x.image.edgeSrc = 1 →
        (inHorizon s w = false → exec (.hmPlateEdge r) s = .next (refuse p stREFUSED_HORIZON 0x28 s)) ∧
        (inHorizon s w = true → ∃ taken s', exec (.hmPlateEdge r) s = .next (ok p [taken, 0, 0, 0] s') ∧
          Frame [.hm, .rcp] s s' ∧ (taken = 0 ∨ taken = 1) ∧ (taken = 0 → s'.rcp = s.rcp) ∧
          (taken = 1 → behind s = false ∧ edgeConcerns s x (k == 0) (expand s w) = true ∧
            (findRecipe s' a.handle).map (·.lastEdge) = some (some (expand s w))) ∧
          (taken = 1 → k = 0 → ∃ q, s'.hm.parts.getLast? = some q ∧ q.recipe = a.handle ∧ q.id = x.nextPart + 1 ∧
            q.start = posL (posI (expand s w) + x.image.edgeOfs) ∧ q.stop = none ∧ q.issued = false) ∧
          (∀ q, taken = 1 → k = 1 → q ∈ s.hm.parts → q.recipe = a.handle → q.stop = none →
            (∀ y ∈ s.hm.parts, y.recipe = a.handle → y.stop = none → y = q) →
            (findPart s' a.handle q.id).map (·.stop) = some (some (posL (posI (expand s w) + x.image.edgeOfs))))))))

/-- From a count settled at the end of y, no run of fewer than LIMIT samples, whatever they measure, makes an edge due,
and a sample changes neither y nor the count of edges. A sample before TS has passed since the one before, or of a channel
that is no input, changes nothing. An edge that is due is accepted, at the latest before the next sample: y changes,
DIO_EDGESn counts one, and nothing of the other channels changes; one that is not due changes nothing. BREAK and INVALID
are set after 10 ms of their class and cleared after 10 ms of valid samples, and a flag that is set keeps y from
changing. -/
def Obligations.InputFilterAcceptsEdges : Prop :=
  (∀ (c : DioChan) (l : List (Nat × Int × Nat)), l.length < c.limit →
    (c.count = 0 ∧ c.y = false ∨ c.count = c.limit ∧ c.y = true) →
    let d := l.foldl (fun d x => sampleChan x.1 x.2.1 x.2.2 d) c
    edgeDue d = false ∧ d.y = c.y ∧ d.edges = c.edges ∧ d.cfg = c.cfg) ∧
  (∀ (n : Nat) (mv : Int) (ua t : Nat) (s : State) (c : DioChan), s.dio.chan[n]? = some c →
    let now := (s.at_ t).now
    let early := c.sampled.any fun at_ => decide (now < at_ + usTicks c.ts)
    (isInput s n = false → exec (.dioInputSample n mv ua t) s = .next (s.at_ t) ∧ exec (.inputEdgeAccept n t) s = .next (s.at_ t)) ∧
    (isInput s n = true →
      (early = true → exec (.dioInputSample n mv ua t) s = .next (s.at_ t)) ∧
      (early = false → c.dueAt = none ∨ edgeDue c = false → ∃ u d, exec (.dioInputSample n mv ua t) s = .next u ∧
        u.dio.chan[n]? = some d ∧ d = { sampleChan now mv ua { c with sampled := some now } with
          dueAt := if edgeDue d then some (ptb (s.at_ t)) else none } ∧
        (∀ k, k ≠ n → u.dio.chan[k]? = s.dio.chan[k]?) ∧ Frame [.now, .dio] s u) ∧
      (∀ stamp, early = false → c.dueAt = some stamp → edgeDue c = true → ∃ u d, exec (.dioInputSample n mv ua t) s = .next u ∧
        u.dio.chan[n]? = some d ∧ d.y = (!c.y) ∧ d.edges = c.edges + 1 ∧ d.sampled = some now ∧
        (∀ k, k ≠ n → u.dio.chan[k]? = s.dio.chan[k]?)) ∧
      (∀ stamp, c.dueAt = some stamp → edgeDue c = true → ∃ u d, exec (.inputEdgeAccept n t) s = .next u ∧
        u.dio.chan[n]? = some d ∧ d.y = (!c.y) ∧ d.edges = c.edges + 1 ∧ d.count = c.count ∧ d.raw = c.raw ∧ d.dueAt = none ∧
        (∀ k, k ≠ n → u.dio.chan[k]? = s.dio.chan[k]?) ∧
        Frame [.now, .dio, .hm, .rcp, .emitted, .host, .kw, .fab, .flt] s u) ∧
      (c.dueAt = none ∨ edgeDue c = false → exec (.inputEdgeAccept n t) s = .next (s.at_ t)))) ∧
  (∀ (c : DioChan), c.brk = true ∨ c.invalid = true → edgeDue c = false) ∧
  (∀ (n t : Nat) (s : State) (c : DioChan), s.dio.chan[n]? = some c →
    (isInput s n = false ∨ c.wb = false ∨ (s.at_ t).now < c.cls.2 + msTicks 10 → exec (.dioBreak n t) s = .next (s.at_ t)) ∧
    (isInput s n = true → c.wb = true → c.cls.2 + msTicks 10 ≤ (s.at_ t).now →
      ∃ u d, exec (.dioBreak n t) s = .next u ∧ u.dio.chan[n]? = some d ∧ d.y = c.y ∧
        (c.cls.1 = 0 → d.brk = false ∧ d.invalid = false) ∧ (c.cls.1 = 1 → d.brk = true ∧ d.invalid = c.invalid) ∧
        (c.cls.1 = 2 → d.invalid = true ∧ d.brk = c.brk) ∧ (∀ k, k ≠ n → u.dio.chan[k]? = s.dio.chan[k]?) ∧
        Frame [.now, .dio, .emitted, .host, .kw, .fab, .flt] s u))

/-- An open load on an output that is off is flagged once and cleared again. A short switches its output off and counts. A
trip opens its feed and both channels and counts; after 100 ms the feed closes unless it is unpowered or retired. A
valid status frame renews its channel, a bad one is counted, and a switching command that fails twice stops the
keepalive. Without a valid frame cause LINK is set and the keepalive runs again while domain FIELD is on, and after 10 ms of
frames the cause is cleared without starting a pulse. Below 14.0 V a supply's feeds open and its channels take cause
SUPPLY; at 19.2 V or more its feeds are powered again, and the cause of a channel clears 100 ms later. An output that is
not in a SAFE ON safe state is off while its cause stands. Where none of this applies, nothing changes but the time. -/
def Obligations.OutputsFeedsAndTheirFaults : Prop :=
  (∀ (n : Nat) (s : State) (c : DioChan), s.dio.chan[n]? = some c →
    (isOutput s n = true → domOn s 4 = true → c.out = false → c.ol = true → c.openload = false →
      ∃ u, exec (.dioOpenload n) s = .next u ∧ u.dio.chan[n]? = some { c with openload := true } ∧
        (∀ k, k ≠ n → u.dio.chan[k]? = s.dio.chan[k]?)) ∧
    (isOutput s n = false ∨ domOn s 4 = false ∨ c.out = true ∨ c.ol = false ∨ c.openload = true →
      exec (.dioOpenload n) s = .next s) ∧
    (isOutput s n = true → domOn s 4 = true → c.out = false →
      ∃ u, exec (.openloadClear n) s = .next u ∧ u.dio.chan[n]? = some { c with openload := false } ∧ Frame [.dio] s u ∧
        (∀ k, k ≠ n → u.dio.chan[k]? = s.dio.chan[k]?)) ∧
    (isOutput s n = false ∨ domOn s 4 = false ∨ c.out = true → exec (.openloadClear n) s = .next s)) ∧
  (∀ (n t : Nat) (overload : Bool) (s : State) (c : DioChan), s.dio.chan[n]? = some c →
    (isOutput s n = true → c.out = true →
      ∃ u d, exec (.dioShort n overload t) s = .next u ∧ u.dio.chan[n]? = some d ∧ d.out = false ∧ d.short = true ∧
        d.shorts = satInc c.shorts ∧ d.cfg = c.cfg ∧ firingOn u n = none) ∧
    (isOutput s n = false ∨ c.out = false → exec (.dioShort n overload t) s = .next (s.at_ t))) ∧
  (∀ (k peak higher t : Nat) (s : State) (f : Feed), Inv s → s.dio.feed[k]? = some f →
    (f.closed = true → ∃ u g, exec (.feedTrip k peak higher t) s = .next u ∧ u.dio.feed[k]? = some g ∧ g.closed = false ∧
      g.trip = true ∧ g.tripped = true ∧ g.tripAt = (s.at_ t).now ∧ g.trips = satInc f.trips ∧
      (u.dio.chan[2 * k]?).map (·.out) = some false ∧ (u.dio.chan[2 * k + 1]?).map (·.out) = some false ∧
      firingOn u (2 * k) = none ∧ firingOn u (2 * k + 1) = none) ∧
    (f.closed = false → exec (.feedTrip k peak higher t) s = .next (s.at_ t)) ∧
    (f.tripped = true → ∃ u, exec (.feedReclose k) s = .next u ∧ f.tripAt + msTicks 100 ≤ u.now ∧
      u.dio.feed[k]? = some { f with tripped := false, closed := !f.unpowered && !f.retired }) ∧
    (f.tripped = false → exec (.feedReclose k) s = .next s)) ∧
  (∀ (n meas t : Nat) (ok : Bool) (s : State), 32 ≤ n ∨ domOn s 4 = false →
    exec (.couplerStatusFrame n ok meas t) s = .next (s.at_ t) ∧ exec (.couplerFrameError n ok t) s = .next (s.at_ t)) ∧
  (∀ (n meas t : Nat) (s : State) (c : DioChan), n < 32 → domOn s 4 = true → s.dio.chan[n]? = some c →
    (∃ u, exec (.couplerStatusFrame n true meas t) s = .next u ∧ Frame [.now, .dio] s u ∧
      u.dio.chan[n]? = some { c with
        lastFrame := (s.at_ t).now, meas := if c.dir = 1 ∨ (c.dir = 2 ∧ c.out = true) then meas % 65536 else 0 } ∧
      (∀ k, k ≠ n → u.dio.chan[k]? = s.dio.chan[k]?)) ∧
    (∃ u, exec (.couplerStatusFrame n false meas t) s = .next u ∧ Frame [.now, .dio] s u ∧
      u.dio.chan[n]? = some { c with cplErr := satInc c.cplErr, framesSince := (s.at_ t).now } ∧
      (∀ k, k ≠ n → u.dio.chan[k]? = s.dio.chan[k]?))) ∧
  (∀ (n t : Nat) (s : State) (c : DioChan), domOn s 4 = true → s.dio.chan[n]? = some c →
    (isOutput s n = false → ∀ retry, exec (.couplerFrameError n retry t) s = .next (s.at_ t)) ∧
    (isOutput s n = true →
      (∃ u, exec (.couplerFrameError n true t) s = .next u ∧ u.dio.chan[n]? = some { c with cplErr := satAdd c.cplErr 1 } ∧
        Frame [.now, .dio] s u) ∧
      (∃ u d, exec (.couplerFrameError n false t) s = .next u ∧ u.dio.chan[n]? = some d ∧ d.keepalive = false ∧
        d.cplErr = satAdd c.cplErr 2 ∧ .stopKeepalive n ∈ u.emitted))) ∧
  (∀ (n : Nat) (s : State) (c : DioChan), n < 32 → s.dio.chan[n]? = some c →
    (c.causes.getLsbD 3 = false → ∃ u d, exec (.linkWatchdog n) s = .next u ∧ u.dio.chan[n]? = some d ∧
      d.causes = c.causes ||| 8 ∧ d.keepalive = domOn s 4 ∧ (c.safeOn = false → d.out = false) ∧ c.lastFrame + usTicks 100 ≤ u.now) ∧
    (c.causes.getLsbD 3 = true → exec (.linkWatchdog n) s = .next s) ∧
    (c.causes.getLsbD 3 = true → c.keepalive = true → domOn s 4 = true → ∃ u d, exec (.linkCauseClear n) s = .next u ∧
      u.dio.chan[n]? = some d ∧ d.causes = c.causes &&& ~~~8 ∧ (d.causes = 0 → d.out = false) ∧ c.framesSince + msTicks 10 ≤ u.now) ∧
    (c.causes.getLsbD 3 = false ∨ c.keepalive = false ∨ domOn s 4 = false → exec (.linkCauseClear n) s = .next s)) ∧
  (∀ (x mv t : Nat) (s : State), 1 < x → exec (.fieldSupply x mv t) s = .next (s.at_ t)) ∧
  (∀ (x mv t : Nat) (s : State), Inv s → x ≤ 1 →
    (mv < 14000 → ∃ u, exec (.fieldSupply x mv t) s = .next u ∧ (x < s.dio.fieldV.length → u.dio.fieldV[x]? = some mv) ∧
      (∀ k ∈ supplyFeeds x, (u.dio.feed[k]?).map (fun f => (f.unpowered, f.closed)) = some (true, false)) ∧
      (∀ n ∈ supplyChans x, (u.dio.chan[n]?).map (fun c => (c.causes.getLsbD 4, c.out)) = some (true, false))) ∧
    (19200 ≤ mv → (feedOf s (8 * x)).unpowered = true → ∃ u, exec (.fieldSupply x mv t) s = .next u ∧
      (∀ k ∈ supplyFeeds x, (u.dio.feed[k]?).map (fun f => (f.unpowered, f.closed)) =
        (s.dio.feed[k]?).map (fun f => (false, !f.tripped && !f.retired))) ∧
      (∀ n : Nat, (u.dio.chan[n]?).map DioChan.causes = (s.dio.chan[n]?).map DioChan.causes)) ∧
    (14000 ≤ mv → mv < 19200 ∨ (feedOf s (8 * x)).unpowered = false →
      ∃ u, exec (.fieldSupply x mv t) s = .next u ∧ u.dio.feed = s.dio.feed ∧ Frame [.now, .dio] s u)) ∧
  (∀ (n : Nat) (s : State) (c : DioChan), s.dio.chan[n]? = some c →
    (∀ since, c.supplySince = some since → c.causes.getLsbD 4 = true → ∃ u d, exec (.supplyCauseClear n) s = .next u ∧
      u.dio.chan[n]? = some d ∧ d.causes = c.causes &&& ~~~16 ∧ (d.causes = 0 → d.out = false) ∧ since + msTicks 100 ≤ u.now) ∧
    (c.supplySince = none ∨ c.causes.getLsbD 4 = false → exec (.supplyCauseClear n) s = .next s))

/-- DIO_STATUS answers the status of every channel and feed and the two supply voltages, 196 bytes, and changes nothing else.
DIO_CONFIG of a channel that no held recipe names and that has no pending entry, with fields in range, sets the
configuration, count and y to 0, and leaves the output off outside its safe state; a bad field is BAD_PARAM at its offset
and a channel in use is DENIED; channel 0xFF sets SAG_SAFE. DIO_UNRETIRE returns a retired channel or feed that no admission
names; one that is not retired is BAD_PARAM and one in use DENIED. DIO_SAFE_ASSERT sets the issuer's cause on exactly the
channels of its mask. DIO_SAFE_RELEASE clears exactly the named causes there; one that names SB from the host is DENIED, and
one that names any other cause BAD_PARAM. -/
def Obligations.FieldIoOpcodes : Prop :=
  (∀ (r : Ref) (p : Packet) (s : State), opStarts 0x0A01 r p s = true → ∃ res, exec (.dioStatus r) s = .next (ok p res s) ∧
    res.length = 196 ∧ (∀ n, n < 32 → fld res (4 * n) 4 = dioStatus s n % 2 ^ 32) ∧
    (∀ k, k < 16 → fld res (128 + 4 * k) 4 = feedStatus s k % 2 ^ 32) ∧
    fld res 192 4 = (getI s.dio.fieldV 0 0 + 65536 * getI s.dio.fieldV 1 0) % 2 ^ 32) ∧
  (∀ (s : State) (n : Nat) (c : DioChan), s.dio.chan[n]? = some c →
    let v := dioStatus s n
    bit v 0 = c.y ∧ bit v 1 = c.raw ∧ bit v 2 = c.out ∧ bit v 3 = c.brk ∧ bit v 4 = c.invalid ∧ bit v 5 = c.openload ∧
      bit v 6 = c.short ∧ bit v 7 = (c.causes != 0) ∧ bit v 8 = c.retired ∧ bits v 14 9 = c.causes.toNat % 64 ∧
      bits v 31 16 = c.meas % 65536) ∧
  (∀ (r : Ref) (p : Packet) (s : State), opStarts 0x0A02 r p s = true →
    let n := fld p.params 0 1
    let v := fld p.params 8 8
    (n = 0xFF → v ≤ 1 → exec (.dioConfig r) s = .next (ok p [] (s.setDio { s.dio with sagSafe := v == 1 }))) ∧
    (n = 0xFF → 1 < v → exec (.dioConfig r) s = .next (refuse p stBAD_PARAM 0x28 s)) ∧
    (31 < n → n ≠ 0xFF → exec (.dioConfig r) s = .next (refuse p stBAD_PARAM 0x20 s)) ∧
    (n ≤ 31 → chanNamed s n = true ∨ pendingOn s n ≠ [] → exec (.dioConfig r) s = .next (refuse p stDENIED noField s)) ∧
    (∀ o, n ≤ 31 → chanNamed s n = false → pendingOn s n = [] → dioBad s n v = some o →
      exec (.dioConfig r) s = .next (refuse p stBAD_PARAM o s)) ∧
    (∀ c, n ≤ 31 → s.dio.chan[n]? = some c → chanNamed s n = false → pendingOn s n = [] → dioBad s n v = none →
      ∃ s' d, exec (.dioConfig r) s = .next (ok p [] s') ∧
        s'.dio.chan[n]? = some d ∧ d.cfg = BitVec.ofNat 64 v ∧ d.count = 0 ∧ d.y = false ∧ d.sampled = none ∧ d.dueAt = none ∧
        d.causes = c.causes ∧ d.retired = c.retired ∧ d.cfgLost = false ∧ (c.causes = 0 → d.out = false) ∧
        firingOn s' n = none ∧ ∀ k, k ≠ n → s'.dio.chan[k]? = s.dio.chan[k]?)) ∧
  (∀ (r : Ref) (p : Packet) (s : State), opStarts 0x0A20 r p s = true →
    let n := fld p.params 1 1
    (1 < fld p.params 0 1 → exec (.dioUnretire r) s = .next (refuse p stBAD_PARAM 0x20 s)) ∧
    (fld p.params 0 1 = 0 → 31 < n ∨ (chanOf s n).retired = false → exec (.dioUnretire r) s = .next (refuse p stBAD_PARAM 0x21 s)) ∧
    (fld p.params 0 1 = 1 → 15 < n ∨ (feedOf s n).retired = false → exec (.dioUnretire r) s = .next (refuse p stBAD_PARAM 0x21 s)) ∧
    (∀ c, fld p.params 0 1 = 0 → n ≤ 31 → s.dio.chan[n]? = some c → c.retired = true →
      (chanHeld s n = true → exec (.dioUnretire r) s = .next (refuse p stDENIED noField s)) ∧
      (chanHeld s n = false → ∃ s', exec (.dioUnretire r) s = .next (ok p [] s') ∧
        (s'.dio.chan[n]?).map (·.retired) = some false ∧ s'.boot.wanted.isSome = true)) ∧
    (∀ f, fld p.params 0 1 = 1 → n ≤ 15 → s.dio.feed[n]? = some f → f.retired = true →
      (chanHeld s (2 * n) = true ∨ chanHeld s (2 * n + 1) = true → exec (.dioUnretire r) s = .next (refuse p stDENIED noField s)) ∧
      (chanHeld s (2 * n) = false → chanHeld s (2 * n + 1) = false → ∃ s', exec (.dioUnretire r) s = .next (ok p [] s') ∧
        s'.dio.feed[n]? = some { f with retired := false, closed := !f.unpowered && !f.tripped } ∧ s'.boot.wanted.isSome = true))) ∧
  (∀ (r : Ref) (p : Packet) (s : State), Inv s → opStarts 0x0A30 r p s = true →
    let m : Word := BitVec.ofNat 32 (fld p.params 0 4)
    ∃ s', exec (.dioSafeAssert r) s = .next (ok p [] s') ∧ ∀ (n : Nat) (c : DioChan), s.dio.chan[n]? = some c →
      (s'.dio.chan[n]?).map (·.causes) = some (if m.getLsbD n then c.causes ||| (if p.principal = 64 then 1 else 2) else c.causes) ∧
      (m.getLsbD n = true → c.causes = 0 → c.safeOn = false → (s'.dio.chan[n]?).map (·.out) = some false)) ∧
  (∀ (r : Ref) (p : Packet) (s : State), Inv s → opStarts 0x0A31 r p s = true →
    let m : Word := BitVec.ofNat 32 (fld p.params 0 4)
    let causes := fld p.params 4 1
    (7 < causes → exec (.dioSafeRelease r) s = .next (refuse p stBAD_PARAM 0x24 s)) ∧
    (causes ≤ 7 → p.principal ≠ 64 → bit causes 0 = true → exec (.dioSafeRelease r) s = .next (refuse p stDENIED noField s)) ∧
    (causes ≤ 7 → (p.principal = 64 ∨ bit causes 0 = false) → ∃ s', exec (.dioSafeRelease r) s = .next (ok p [] s') ∧
      ∀ (n : Nat) (c : DioChan), s.dio.chan[n]? = some c → (s'.dio.chan[n]?).map (·.causes) =
        some (if m.getLsbD n then c.causes &&& ~~~(BitVec.ofNat 32 causes) else c.causes)))

/-- RECIPE_LOAD of an image that cannot be read is refused, one that fails a check with the check's number and offset, check
9 with BUSY_RETRY and every other with BAD_PARAM, and one that a budget does not hold with REFUSED_BUDGET; one that passes
adds one recipe in state HELD at the v_adm it brings about, and answers its handle and generation. RECIPE_ACTIVATE that
nothing forbids makes the incoming recipe pending at E and ends the outgoing one there, and a second pending activation of
its views is BUSY_RETRY. At E the incoming recipe becomes ACTIVE, its built benches ARMED and a STRIP recipe's ORIGIN is E,
and it counts its parts afresh; before E nothing happens. A deactivated recipe is ACTIVE no more, and HELD once nothing of
it is left to judge. RECIPE_RELEASE releases the admission. A checkpoint is written of an ACTIVE recipe and of no other.
RCP_STATUS answers state, blocks, candidates, E, SEQ, and tally and span of the shadow. -/
def Obligations.RecipesLoadSwitchAndRelease : Prop :=
  (∀ (r : Ref) (p : Packet) (s : State) (pick : Nat) (poisoned : Bool), opStarts 0x0B02 r p s = true →
    (∀ st off, recipeBytes p poisoned s = .inl (st, off) → exec (.recipeLoad ⟨r, poisoned⟩ pick) s = .next (refuse p st off s)) ∧
    (∀ b, recipeBytes p poisoned s = .inr b →
      let v := vAdmWith s (imageOf b)
      let first := if 6 ≤ p.cls ∧ supplyWarned s then supplyShorts s p.cls
        else if s.led.vadm ≠ 0 ∧ s.led.vadm < v then heldShorts s v p.cls else []
      let own := shorts s v p.cls (withTable (recipeDemands s p.cls (imageOf b)))
      (∀ k off, recipeCheck s p b = some (k, off) → exec (.recipeLoad ⟨r, poisoned⟩ pick) s =
        .next (refuseWith p (if k = 9 then stBUSY else stBAD_PARAM) (le2 k ++ le2 off) s)) ∧
      (recipeCheck s p b = none → first ≠ [] → exec (.recipeLoad ⟨r, poisoned⟩ pick) s =
        .next (refuseWith p stREFUSED_BUDGET (budgetPayload first) (s.setLed { s.led with refusals := s.led.refusals + 1 }))) ∧
      (recipeCheck s p b = none → first = [] → own ≠ [] → exec (.recipeLoad ⟨r, poisoned⟩ pick) s =
        .next (refuseWith p stREFUSED_BUDGET (budgetPayload own) (s.setLed { s.led with refusals := s.led.refusals + 1 }))) ∧
      (recipeCheck s p b = none → first = [] → own = [] →
        ∃ h s' x, exec (.recipeLoad ⟨r, poisoned⟩ pick) s = .next (ok p (le4 h ++ le4 1) s') ∧ s'.rcp.recipes.getLast? = some x ∧
          x.handle = h ∧ x.state = .held ∧ x.image = imageOf b ∧ x.tenant = p.tenant ∧ x.fence = 1 ∧ s'.led.vadm = v ∧
          ((∀ a ∈ s.led.held, a.cls ≠ 7) → s'.rcp.recipes = s.rcp.recipes ++ [x]) ∧
          ∃ a ∈ s'.led.held, a.handle = h ∧ a.kind = .recipe ∧ a.cls = p.cls))) ∧
  (∀ (r : Ref) (p : Packet) (s : State), opStarts 0x0B03 r p s = true →
    let w : Word := BitVec.ofNat 32 (fld p.params 8 4)
    let now := bit (fld p.params 12 1) 0
    (∀ st off, optRecipe s p.tenant (fld p.params 0 4) 0x20 = .inl (st, off) →
      exec (.recipeActivate r) s = .next (refuse p st off s)) ∧
    (∀ inc st off, optRecipe s p.tenant (fld p.params 0 4) 0x20 = .inr inc →
      optRecipe s p.tenant (fld p.params 4 4) 0x24 = .inl (st, off) →
      exec (.recipeActivate r) s = .next (refuse p st off s)) ∧
    (∀ inc old, optRecipe s p.tenant (fld p.params 0 4) 0x20 = .inr inc → optRecipe s p.tenant (fld p.params 4 4) 0x24 = .inr old →
      let e := switchPos old (activateAt s now w)
      (∀ st off, activateFault s inc old = some (st, off) → exec (.recipeActivate r) s = .next (refuse p st off s)) ∧
      (activateFault s inc old = none → now = false → inHorizon s w = false →
        exec (.recipeActivate r) s = .next (refuse p stREFUSED_HORIZON 0x28 s)) ∧
      (activateFault s inc old = none → now = true ∨ inHorizon s w = true →
        ∃ s', exec (.recipeActivate r) s = .next (done p stACCEPTED [] s') ∧ Frame [.rcp] s s' ∧
          (∀ i, inc = some i → (findRecipe s' i.handle).map (fun x => (x.state, x.switchAt, x.issuer)) = some (.pending, e, p.principal)) ∧
          (∀ o, old = some o → (findRecipe s' o.handle).bind (·.endAt) = some e)))) ∧
  (∀ (s : State) (i : Recipe) (old : Option Recipe), activationPending s i.image.views = true →
    activateFault s (some i) old = some (stBUSY, noField)) ∧
  (∀ (h : Nat) (s : State), findRecipe s h = none ∨ domOn s 2 = false ∨ recipeHeld s h = false →
    exec (.recipeSwitch h) s = .next s) ∧
  (∀ (h : Nat) (s : State) (r : Recipe), findRecipe s h = some r → domOn s 2 = true → recipeHeld s h = true →
    (r.state = .pending → reached s r.switchAt = false → exec (.recipeSwitch h) s = .next s) ∧
    (r.state = .pending → reached s r.switchAt = true → ∃ u x, exec (.recipeSwitch h) s = .next u ∧ findRecipe u h = some x ∧
      x.state = .active ∧ x.activeFrom = r.switchAt ∧ x.endAt = none ∧ x.nextPart = 0 ∧ x.lastEdge = none ∧
      (r.image.model = 0 → x.origin = r.switchAt) ∧ (∀ q ∈ u.hm.parts, q.recipe ≠ h) ∧
      (∀ o, r.outgoing ≠ h → findRecipe s r.outgoing = some o → o.state = .active → recipeHeld s r.outgoing = true →
        (findRecipe u r.outgoing).map (·.state) = some .outgoing ∨ (findRecipe u r.outgoing).map (·.state) = some .held) ∧
      ∀ (b : Nat) (y : Bench), s.fab.bench[b]? = some y → y.recipe = h → y.state = .built → y.temper = false →
        (u.fab.bench[b]?).map (·.state) = some .armed) ∧
    (∀ e, r.state = .active → r.endAt = some e → reached s e = true →
      (∀ x ∈ s.rcp.recipes, x.state = .pending → x.outgoing ≠ h) →
      ∃ u x, exec (.recipeSwitch h) s = .next u ∧ findRecipe u h = some x ∧ (x.state = .outgoing ∨ x.state = .held) ∧
        (x.state = .outgoing ↔ ∃ q ∈ u.hm.parts, q.recipe = h ∧ q.issued = false)) ∧
    (∀ e, r.state = .active → r.endAt = some e → reached s e = false ∨ (∃ x ∈ s.rcp.recipes, x.state = .pending ∧ x.outgoing = h) →
      exec (.recipeSwitch h) s = .next s) ∧
    (r.state = .held ∨ r.state = .outgoing ∨ (r.state = .active ∧ r.endAt = none) → exec (.recipeSwitch h) s = .next s)) ∧
  (∀ (r : Ref) (p : Packet) (s : State), opStarts 0x0B04 r p s = true →
    (∀ st off, admTarget p (fld p.params 0 4) 0x20 [.recipe] s = .inl (st, off) → exec (.recipeRelease r) s = .next (refuse p st off s)) ∧
    (∀ a, admTarget p (fld p.params 0 4) 0x20 [.recipe] s = .inr a → exec (.recipeRelease r) s = .next (ok p [] (release a s)) ∧
      findAdm (release a s) a.handle = none)) ∧
  (∀ (h : Nat) (s : State), findRecipe s h = none ∨ recipeHeld s h = false ∨ domOn s 2 = false ∨ s.flt.fatal = true →
    exec (.checkpoint h) s = .next s) ∧
  (∀ (h : Nat) (s : State) (r : Recipe), findRecipe s h = some r →
    (r.state ≠ .active → exec (.checkpoint h) s = .next s) ∧
    (r.state = .active → recipeHeld s h = true → domOn s 2 = true → s.flt.fatal = false →
      ∃ u, exec (.checkpoint h) s = .next u ∧ u.boot.wanted.isSome = true ∧ r.lastCkpt + sTicks r.image.ckptS ≤ u.now ∧
        (findRecipe u h).map (·.lastCkpt) = some u.now ∧ Frame [.now, .rcp, .boot] s u ∧
        (s.boot.draft.ckpt ≠ [] → (r.image.recipeId, h, lastSeq r, r.promotions) ∈ u.boot.draft.ckpt))) ∧
  (∀ (r : Ref) (p : Packet) (s : State), opStarts 0x0B01 r p s = true →
    (∀ st off, recipeFor s p.tenant (fld p.params 0 4) 0x20 = .inl (st, off) → exec (.rcpStatus r) s = .next (refuse p st off s)) ∧
    (∀ x, recipeFor s p.tenant (fld p.params 0 4) 0x20 = .inr x → exec (.rcpStatus r) s = .next (ok p
      (le1 x.state.code ++ le1 x.blocks.length ++ le1 s.rcp.cands.length ++ [0] ++ le4 (low32 (statusE x)).toNat ++ le4 (lastSeq x) ++
        (shadowOf s x.handle).1.flatMap le4 ++ le8 (shadowOf s x.handle).2) s)))

/-- The unit decodes exactly the UTF-8 encodings of Unicode scalar values, and what it takes as ill-formed is one byte or
the longest prefix of such an encoding. Without a dictionary every byte of the text is either a byte token or a byte
of an ill-formed subpart, each subpart is one REPL token and REPLs come from nothing else, whatever the dictionary; a
well-formed text has none. TELEGRAM in order counts the ill-formed bytes and REPLs in TOK_BADBYTES and TOK_REPLS, a
truncation in TOK_TRUNC and a late one in TOK_LATE, answers the tokens kept, at most 256, with its flags, and does not fail
for its selection; where a recipe would hold more than four pending blocks it is BUSY_RETRY and changes nothing; a kind above
3, a wrong length or a position outside the horizon is refused. TOK_DICT_LOAD and TOK_SELECT_SET replace the whole
dictionary or table, or are refused and change neither. -/
def Obligations.TelegramsBecomeTokens : Prop :=
  (∀ (b : Bytes), let t := tokenise [] b.length b
    t.tokens.length + t.badBytes = b.length + t.repls ∧ t.repls ≤ t.badBytes) ∧
  (∀ (dict : List Bytes) (b : Bytes), (tokenise dict b.length b).tokens.count tokREPL = (tokenise dict b.length b).repls) ∧
  (∀ (b : Bytes), utf8Ok b = true → (tokenise [] b.length b).repls = 0 ∧ (tokenise [] b.length b).tokens = b.map (·.toNat)) ∧
  (∀ (b : Bytes), (∀ x ∈ b, x.toNat < 128) → utf8Ok b = true) ∧
  (∀ (c : Nat) (rest : Bytes), isScalar c → utf8Head (utf8Of c ++ rest) = (true, (utf8Of c).length)) ∧
  (∀ (b : Bytes) (n : Nat), utf8Head b = (true, n) → ∃ c, isScalar c ∧ b.take n = utf8Of c) ∧
  (∀ (b : Bytes) (n : Nat), b ≠ [] → utf8Head b = (false, n) → 1 ≤ n ∧ n ≤ b.length ∧
    (n = 1 ∨ ∃ c, isScalar c ∧ b.take n <+: utf8Of c) ∧ (n = b.length ∨ ∀ c, isScalar c → ¬ b.take (n + 1) <+: utf8Of c)) ∧
  (∀ (r : Ref) (p : Packet) (s : State), opStarts 0x0B12 r p s = true →
    let b := p.params
    let n := fld b 8 2
    let w : Word := BitVec.ofNat 32 (fld b 4 4)
    (3 < fld b 0 1 → exec (.telegram r) s = .next (refuse p stBAD_PARAM 0x20 s)) ∧
    (fld b 0 1 ≤ 3 → n < 1 ∨ 1024 < n ∨ b.length ≠ 16 + n → exec (.telegram r) s = .next (refuse p stBAD_LENGTH 0x0A s)) ∧
    (fld b 0 1 ≤ 3 → 1 ≤ n → n ≤ 1024 → b.length = 16 + n → inHorizon s w = false →
      exec (.telegram r) s = .next (refuse p stREFUSED_HORIZON 0x24 s)) ∧
    (fld b 0 1 ≤ 3 → 1 ≤ n → n ≤ 1024 → b.length = 16 + n → inHorizon s w = true →
      let t := tokenise ((s.rcp.dict.map (·.2)).getD []) n (b.drop 16)
      let kept := t.tokens.take 256
      let late := reached s (expand s w)
      let a := if late then boundaryAfter s.pos.shift s.pos.hwm else expand s w
      let s1 := countTelegram t (decide (256 < t.tokens.length)) late s
      let sel := if bit (fld b 1 1) 0 then (selected s (fld b 0 1) (fld b 2 1) kept).map fun e => selectRecipe p e (fld b 2 1) w s1 else none
      let s2 := (sel.map (·.state)).getD s1
      let s3 := giveBlocks (if bit (fld b 1 1) 1 then condTargets s2 (fld b 2 1) a else []) kept s2
      (blocksFull s3 = true → exec (.telegram r) s = .next (refuse p stBUSY noField s)) ∧
      (blocksFull s3 = false → ∃ res, exec (.telegram r) s = .next (ok p res s3) ∧ res.length = 24 + 2 * kept.length ∧
        res.take 2 = le2 kept.length ∧
        fld res 2 2 = (if 256 < t.tokens.length then 1 else 0) + (if late then 2 else 0) + (if sel.isSome then 4 else 0) ∧
        fld res 8 4 = ((sel.map (·.recipe)).getD 0) % 2 ^ 32 ∧ fld res 12 2 = ((sel.map (·.status.toNat)).getD 0) ∧
        res.drop 24 = kept.flatMap le2 ∧
        (3 < s.rcp.ctr.length → getI s3.rcp.ctr 0 0 = satAdd (getI s.rcp.ctr 0 0) t.badBytes ∧
          getI s3.rcp.ctr 1 0 = satAdd (getI s.rcp.ctr 1 0) t.repls ∧
          getI s3.rcp.ctr 2 0 = satAdd (getI s.rcp.ctr 2 0) (if 256 < t.tokens.length then 1 else 0) ∧
          getI s3.rcp.ctr 3 0 = satAdd (getI s.rcp.ctr 3 0) (if late then 1 else 0))) ∧
      ((bit (fld b 1 1) 1 = false ∧ ∀ x ∈ s.rcp.recipes, x.blocks.length ≤ 4) ∨ (∀ x ∈ s.rcp.recipes, x.blocks = []) →
        blocksFull s3 = false))) ∧
  (∀ (r : Ref) (p : Packet) (poisoned : Bool) (s : State), opStarts 0x0B10 r p s = true →
    (∀ st off, ingotBytes p (fld p.params 0 8) (fld p.params 8 4) 0x20 poisoned s = .inl (st, off) →
      exec (.tokDictLoad ⟨r, poisoned⟩) s = .next (refuse p st off s)) ∧
    (∀ b, ingotBytes p (fld p.params 0 8) (fld p.params 8 4) 0x20 poisoned s = .inr b →
      (∀ i, readDict b = .inl i → exec (.tokDictLoad ⟨r, poisoned⟩) s = .next (refuse p stBAD_PARAM i s)) ∧
      (∀ d, readDict b = .inr d → dictBound s d.1 = true → exec (.tokDictLoad ⟨r, poisoned⟩) s = .next (refuse p stDENIED noField s)) ∧
      (∀ d, readDict b = .inr d → dictBound s d.1 = false →
        exec (.tokDictLoad ⟨r, poisoned⟩) s = .next (ok p [] (s.setRcp { s.rcp with dict := some d }))))) ∧
  (∀ (r : Ref) (p : Packet) (s : State), opStarts 0x0B11 r p s = true →
    let n := fld p.params 0 2
    (p.params.length ≠ 4 + 8 * n → exec (.tokSelectSet r) s = .next (refuse p stBAD_LENGTH 0x0A s)) ∧
    (∀ i off, p.params.length = 4 + 8 * n → i < n → selFault s i (selEntry p.params i) = some off →
      (∀ j, j < i → selFault s j (selEntry p.params j) = none) → exec (.tokSelectSet r) s = .next (refuse p stBAD_PARAM off s)) ∧
    (p.params.length = 4 + 8 * n → (∀ i, i < n → selFault s i (selEntry p.params i) = none) →
      exec (.tokSelectSet r) s = .next (ok p [] (s.setRcp { s.rcp with select := (List.range n).map (selEntry p.params) }))))

/-- With S = ceil(N x PASSES / B), the next minibatch of a running epoch starts exactly when the TEMPER bench runs, the
one before has committed, fewer than S have, the strip neither stands nor reverses, and the HWM has advanced by at
least ceil(i x SPAN / S) position units since the epoch's commit; otherwise nothing changes. The update of a minibatch
that has started commits whole, and none commits that has not started; one of an epoch that has ended is discarded and
counted as fenced. Nothing else of the machine changes at either. -/
def Obligations.MinibatchesFollowTheStrip : Prop :=
  (∀ (s : State) (e : Epoch), s.rcp.epoch = some e → 1 ≤ e.b →
    let S := (e.entries.length * e.passes + e.b - 1) / e.b
    let due := temperRuns s = true ∧ e.started = e.done ∧ e.done < S ∧ s.pos.stationary = false ∧ s.pos.dirRev = false ∧
      ((e.done * e.span + S - 1) / S : Nat) ≤ (posI s.pos.hwm - posI e.commitHwm).toNat
    (due → exec .minibatchStart s = .next (s.setRcp { s.rcp with epoch := some { e with started := e.done + 1 } })) ∧
    (¬ due → exec .minibatchStart s = .next s)) ∧
  (∀ (s : State) (t : Nat) (rest : List Nat), s.rcp.lateBatch = t :: rest →
    exec .minibatchCommit s = .next (modTen t (fun x => { x with fenced := satInc x.fenced }) (s.setRcp { s.rcp with lateBatch := rest }))) ∧
  (∀ (s : State) (e : Epoch), s.rcp.lateBatch = [] → s.rcp.epoch = some e →
    (temperRuns s = true → e.started = e.done + 1 →
      exec .minibatchCommit s = .next (s.setRcp { s.rcp with epoch := some { e with done := e.done + 1 } })) ∧
    (temperRuns s = false ∨ e.started ≠ e.done + 1 → exec .minibatchCommit s = .next s)) ∧
  (∀ (s : State), s.rcp.epoch = none → exec .minibatchStart s = .next s ∧
    (s.rcp.lateBatch = [] → exec .minibatchCommit s = .next s))

/-- TMP_CACHE_CONFIG that nothing forbids and the Ledger can hold configures the capture with an empty cache. TMP_LABEL
labels all the entries it names or none; a label on a locked entry waits. TMP_EPOCH and EPOCH, when nothing forbids them and
the Ledger can hold the demand, start an epoch of all labelled unlocked entries, which are locked, and the packet or list
waits for its end. When its last minibatch has committed it leaves one candidate with the parameters written, every entry
unlocked, and no epoch. TMP_SHADOW starts or stops a shadow. TMP_PROMOTE and TMP_ROLLBACK reply ACCEPTED and select
the idle or the previous slot on every live bench of the recipe at the next window boundary. What is refused changes
nothing but the Ledger's count of refusals. -/
def Obligations.TemperingCommands : Prop :=
  (∀ (r : Ref) (p : Packet) (s : State) (pick : Nat), opStarts 0x0B20 r p s = true →
    (∀ st off, cacheFault s p = some (st, off) → exec (.tmpCacheConfig r pick) s = .next (refuse p st off s)) ∧
    (cacheFault s p = none →
      let v := fld p.params 4 1
      let entry := 64 + tileBytes (viewOf s v).tileFmt (viewOf s v).tileW (viewOf s v).tileH
      let l := shorts (dropCapture s) (vEff (dropCapture s).led.vadm) 7 (withTable [⟨5, 7, captureDemand s v (fld p.params 6 2) entry
        (BitVec.ofNat 32 (fld p.params 8 4))⟩])
      (l ≠ [] → exec (.tmpCacheConfig r pick) s = .next (refuseWith p stREFUSED_BUDGET (budgetPayload l)
        (s.setLed { s.led with refusals := s.led.refusals + 1 }))) ∧
      (l = [] → ∃ h s' c, exec (.tmpCacheConfig r pick) s = .next (ok p (le4 h) s') ∧ s'.rcp.cacheCfg = some c ∧ c.handle = h ∧
        c.obj = fld p.params 0 4 ∧ c.view = v ∧ c.stride = fld p.params 6 2 ∧ c.colMask = BitVec.ofNat 32 (fld p.params 8 4) ∧
        c.capturing = true ∧ s'.rcp.cache.length = ((objOf s (fld p.params 0 4)).map (·.size)).getD 0 / entry ∧
        ∀ e ∈ s'.rcp.cache, e.state = 0 ∧ e.lock = false ∧ e.tile = none))) ∧
  (∀ (r : Ref) (p : Packet) (s : State), opStarts 0x0B21 r p s = true →
    let n := fld p.params 0 2
    (p.params.length ≠ 4 + 12 * n → exec (.tmpLabel r) s = .next (refuse p stBAD_LENGTH 0x0A s)) ∧
    (∀ i st off, p.params.length = 4 + 12 * n → i < n → labelTarget s p.params i = .inl (st, off) →
      (∀ j, j < i → ∃ t, labelTarget s p.params j = .inr t) → exec (.tmpLabel r) s = .next (refuse p st off s)) ∧
    (∀ l, p.params.length = 4 + 12 * n → l.length = n → (∀ i, i < n → labelTarget s p.params i = .inr (getI l i (0, 0))) →
      ∃ s', exec (.tmpLabel r) s = .next (ok p [] s') ∧ Frame [.rcp, .draw] s s' ∧ s'.rcp.epoch = s.rcp.epoch ∧
        s'.rcp.cache.length = s.rcp.cache.length ∧ ∀ k e, s.rcp.cache[k]? = some e → s'.rcp.cache[k]? =
          some ((l.filter fun t => t.1 == k).foldl (fun e t => labelEntry t.2 e) e))) ∧
  (∀ (e : CacheEntry) (label : Nat), (labelEntry label e).lock = e.lock ∧ (e.lock = true → (labelEntry label e).label = e.label ∧
    (unlockEntry (labelEntry label e)).label = label) ∧ (e.lock = false → (labelEntry label e).label = label)) ∧
  (∀ (s : State) (t cls pick : Nat) (b : Bytes) (ref : Ref) (fromList : Bool),
    let x := requestEpoch ref fromList t cls pick b s
    (cls ≠ 7 → x = { status := stBAD_PARAM, off := 0x06, payload := [], state := s }) ∧
    (∀ st off, cls = 7 → epochFault s t b = some (st, off) → x = { status := st, off := off, payload := [], state := s }) ∧
    (∀ tb c, cls = 7 → epochFault s t b = none → temperFor s = .inr (tb, c) →
      let l := shorts s (vEff s.led.vadm) 7 (withTable (tileDemands tb c ((samplesOf s).length * fld b 5 1) (puPerMetre s).1
        ((puPerMetre s).2 * fld b 8 4)))
      (l ≠ [] → x.status = stREFUSED_BUDGET ∧ x.payload = budgetPayload l ∧
        x.state = s.setLed { s.led with refusals := s.led.refusals + 1 }) ∧
      (l = [] → x.status = stOK ∧ (∃ e, x.state.rcp.epoch = some e ∧ e.entries = samplesOf s ∧ e.started = 0 ∧ e.done = 0 ∧ e.ref = ref ∧
        e.fromList = fromList ∧ e.tenant = t ∧ e.recipe = fld b 0 4 ∧ e.passes = fld b 5 1 ∧ e.b = fld b 6 2 ∧ e.span = fld b 8 4 ∧
        e.commitHwm = s.pos.hwm ∧ ∃ a ∈ x.state.led.held, a.handle = e.handle ∧ a.kind = .epoch ∧ a.cls = 7) ∧
        (∀ i ∈ samplesOf s, (x.state.rcp.cache[i]?).map (·.lock) = some true)))) ∧
  (∀ (r : Ref) (p : Packet) (pick : Nat) (s : State), opStarts 0x0B22 r p s = true →
    let x := requestEpoch r false p.tenant p.cls pick p.params s
    (x.status = stOK → exec (.tmpEpoch r pick) s = .next (commitP r x.state)) ∧
    (x.status = stREFUSED_BUDGET → exec (.tmpEpoch r pick) s = .next (refuseWith p stREFUSED_BUDGET x.payload x.state)) ∧
    (x.status ≠ stOK → x.status ≠ stREFUSED_BUDGET → exec (.tmpEpoch r pick) s = .next (refuse p x.status x.off s))) ∧
  (∀ (pick : Nat) (s : State) (l : CmdList) (c : Cmd) (p : Packet), enginesUp s = true →
    s.fab.lists.find? (fun l => l.engine == 6 && l.running) = some l → l.cur = some c → c.cmd = 0x100 → findP l.ref s = some p →
    let own := s.rcp.epoch.any fun e => e.fromList && e.ref == l.ref
    let x := requestEpoch l.ref true l.tenant p.cls pick c.body s
    (own = true → exec (.epoch pick) s = .next s) ∧
    (own = false → c.arg0 ≠ 0 ∨ c.arg1 ≠ 0 ∨ fld c.body 12 4 ≠ 0 → exec (.epoch pick) s = .next (failCmd l stBAD_PARAM s)) ∧
    (own = false → c.arg0 = 0 → c.arg1 = 0 → fld c.body 12 4 = 0 →
      (x.status = stOK → exec (.epoch pick) s = .next x.state) ∧
      (x.status ≠ stOK → exec (.epoch pick) s = .next (failCmd l x.status x.state)))) ∧
  (∀ (pick : Nat) (s : State), enginesUp s = false ∨ s.fab.lists.find? (fun l => l.engine == 6 && l.running) = none →
    exec (.epoch pick) s = .next s) ∧
  (∀ (s : State) (params : Bytes) (pick : Nat), s.rcp.epoch = none ∨ temperRuns s = false → exec (.tmpEpochDone params pick) s = .next s) ∧
  (∀ (s : State) (e : Epoch) (params : Bytes) (pick : Nat), s.rcp.epoch = some e → temperRuns s = true →
    (e.done = epochSteps e → ∃ u c, exec (.tmpEpochDone params pick) s = .next u ∧ u.rcp.epoch = none ∧
      u.rcp.cands = s.rcp.cands ++ [c] ∧ c.params = params ∧ c.tenant = e.tenant ∧ c.shadowRecipe = 0 ∧
      u.rcp.cache = s.rcp.cache.map unlockEntry) ∧
    (e.done ≠ epochSteps e → exec (.tmpEpochDone params pick) s = .next s)) ∧
  (∀ (r : Ref) (p : Packet) (s : State) (pick : Nat), opStarts 0x0B23 r p s = true → fld p.params 5 1 = 1 →
    (∀ st off, shadowFault s p = some (st, off) → exec (.tmpShadow r pick) s = .next (refuse p st off s)) ∧
    (∀ st, shadowFault s p = none → temperFor s = .inl st → exec (.tmpShadow r pick) s = .next (refuse p st noField s)) ∧
    (∀ tb c x, shadowFault s p = none → temperFor s = .inr (tb, c) → findRecipe s (benchOf s (fld p.params 4 1)).recipe = some x →
      let l := shorts s (vEff s.led.vadm) 7 (withTable (shadowDemands s x.image (fld p.params 4 1) (fld p.params 6 2) tb c))
      (l ≠ [] → exec (.tmpShadow r pick) s = .next (refuseWith p stREFUSED_BUDGET (budgetPayload l)
        (s.setLed { s.led with refusals := s.led.refusals + 1 }))) ∧
      (l = [] → ∃ h s' y, exec (.tmpShadow r pick) s = .next (ok p (le4 h) s') ∧ s'.rcp.shadow = some y ∧ y.handle = h ∧
        y.cand = fld p.params 0 4 ∧ y.bench = fld p.params 4 1 ∧ y.recipe = x.handle ∧ y.stride = fld p.params 6 2 ∧
        y.startHwm = s.pos.hwm ∧ ∀ k ∈ s'.rcp.cands, k.handle = y.cand → k.tally = List.replicate 9 0 ∧ k.shadowRecipe = x.handle))) ∧
  (∀ (r : Ref) (p : Packet) (s : State) (pick : Nat), opStarts 0x0B23 r p s = true →
    (1 < fld p.params 5 1 → exec (.tmpShadow r pick) s = .next (refuse p stBAD_PARAM 0x25 s)) ∧
    (∀ st off, fld p.params 5 1 = 0 → candFor s p.tenant (fld p.params 0 4) = .inl (st, off) →
      exec (.tmpShadow r pick) s = .next (refuse p st off s)) ∧
    (∀ c, fld p.params 5 1 = 0 → candFor s p.tenant (fld p.params 0 4) = .inr c →
      (s.rcp.shadow = none → exec (.tmpShadow r pick) s = .next (refuse p stBAD_PARAM 0x20 s)) ∧
      (∀ x, s.rcp.shadow = some x →
        (x.cand ≠ c.handle → exec (.tmpShadow r pick) s = .next (refuse p stBAD_PARAM 0x20 s)) ∧
        (x.cand = c.handle → x.bench ≠ fld p.params 4 1 → exec (.tmpShadow r pick) s = .next (refuse p stBAD_PARAM 0x24 s)) ∧
        (∀ a, x.cand = c.handle → x.bench = fld p.params 4 1 → findAdm s x.handle = some a →
          (mayUse p a.tenant = true → exec (.tmpShadow r pick) s = .next (ok p (le4 x.handle) (release a s))) ∧
          (mayUse p a.tenant = false → exec (.tmpShadow r pick) s = .next (refuse p stDENIED noField s)))))) ∧
  (∀ (r : Ref) (p : Packet) (s : State), opStarts 0x0B24 r p s = true →
    (∀ st off, candFor s p.tenant (fld p.params 0 4) = .inl (st, off) → exec (.tmpPromote r) s = .next (refuse p st off s)) ∧
    (∀ c, candFor s p.tenant (fld p.params 0 4) = .inr c →
      (∀ st off, recipeFor s p.tenant (fld p.params 4 4) 0x24 = .inl (st, off) → exec (.tmpPromote r) s = .next (refuse p st off s)) ∧
      (∀ x, recipeFor s p.tenant (fld p.params 4 4) 0x24 = .inr x →
        (∀ st off, promoteFault s c x = some (st, off) → exec (.tmpPromote r) s = .next (refuse p st off s)) ∧
        (promoteFault s c x = none → ∃ s', exec (.tmpPromote r) s = .next (done p stACCEPTED [] s') ∧ Frame [.fab] s s' ∧
          (∀ b, b ∉ liveBenches s x.handle → s'.fab.bench[b]? = s.fab.bench[b]?) ∧
          ∀ b y, b ∈ liveBenches s x.handle → s.fab.bench[b]? = some y → (s'.fab.bench[b]?).map (fun z => (z.change, z.slot, z.slots)) =
            some (some (.select (1 - y.slot) p.principal 0x0B24 c.handle x.handle, boundaryAfter s.pos.shift s.pos.hwm), y.slot,
              upd y.slots (1 - y.slot) fun _ => c.params))))) ∧
  (∀ (r : Ref) (p : Packet) (s : State), opStarts 0x0B25 r p s = true →
    (∀ st off, recipeFor s p.tenant (fld p.params 0 4) 0x20 = .inl (st, off) → exec (.tmpRollback r) s = .next (refuse p st off s)) ∧
    (∀ x, recipeFor s p.tenant (fld p.params 0 4) 0x20 = .inr x →
      (∀ st off, slotFault s x.handle = some (st, off) → exec (.tmpRollback r) s = .next (refuse p st off s)) ∧
      (slotFault s x.handle = none → ∃ s', exec (.tmpRollback r) s = .next (done p stACCEPTED [] s') ∧ Frame [.fab] s s' ∧
        (∀ b, b ∉ liveBenches s x.handle → s'.fab.bench[b]? = s.fab.bench[b]?) ∧
        ∀ b y, b ∈ liveBenches s x.handle → s.fab.bench[b]? = some y → (s'.fab.bench[b]?).map (·.change) =
          some (some (.select y.prevSlot p.principal 0x0B25 0 x.handle, boundaryAfter s.pos.shift s.pos.hwm)))))

/-- An upset is counted once toward retirement unless it is injected, and its entry is the newest of the log. FLT_LOG_READ
answers the oldest and next SEQ and the entries asked for, and clears the unread mark; FLT_STATUS answers its registers.
FLT_CONFIG in range sets one class's THRESH and WINDOW and keeps every history; out of range it is BAD_PARAM. FLT_INJECT of
a target and instance that exist is refused with BUSY_RETRY during a recovery of any kind and in the fatal state, and
otherwise schedules the injection, which fires only when it is reached; an injected control-processor fault never leads to
the fatal state. A control-processor fault begins a restart; the third within 600 s, a lockstep mismatch during a restart,
or the loss of both journal copies is fatal, and every field channel then has cause RESET. A restart that ends with its
journal leaves no restart. The management controller restarts and comes back. -/
def Obligations.FaultsAndRestarts : Prop :=
  (∀ (cls inst how retries affected : Nat) (counts injected : Bool) (s : State),
    let u := upset cls inst how counts injected retries affected s
    u.flt.upsets = (if counts && !injected then (cls, inst, s.now) :: s.flt.upsets else s.flt.upsets) ∧
    u.flt.nextSeq = s.flt.nextSeq + 1 ∧ Frame [.flt] s u ∧ ∃ e, u.flt.log.head? = some e ∧ u.flt.keeper.head? = some e ∧
      e.seq = s.flt.nextSeq ∧ e.cls = cls ∧ e.inst = inst ∧ e.kind = 1 ∧ bit e.fflags 1 = injected ∧ e.affected = affected) ∧
  (∀ (r : Ref) (p : Packet) (s : State), opStarts 0x0C01 r p s = true →
    let n := fld p.params 4 2
    (n < 1 ∨ 31 < n → exec (.fltLogRead r) s = .next (refuse p stBAD_PARAM 0x24 s)) ∧
    (1 ≤ n → n ≤ 31 → exec (.fltLogRead r) s = .next (ok p
      (le4 (oldestSeq s).toNat ++ le4 s.flt.nextSeq.toNat ++
        ((((heldLog s).reverse.filter fun e => decide ((e.seq - BitVec.ofNat 32 (fld p.params 0 4)).toNat < 2 ^ 31)).take n).flatMap
          LogEntry.bytes))
      (s.setFlt { s.flt with unread := false, unreadFatal := false })))) ∧
  (∀ (r : Ref) (p : Packet) (s : State), opStarts 0x0C02 r p s = true → exec (.fltStatus r) s = .next (ok p
    (le4 (b2n s.flt.fatal + 2 * b2n (recovering s) + 4 * b2n s.flt.restarting) ++ le4 s.flt.nextSeq.toNat ++ le4 s.flt.ctrlRst.toNat ++
      le4 s.flt.equivLost.toNat ++ s.flt.thresh.flatMap fun x => le1 x.1 ++ [0] ++ le2 x.2) s)) ∧
  (∀ (r : Ref) (p : Packet) (s : State), opStarts 0x0C10 r p s = true →
    let cls := fld p.params 0 1
    let th := fld p.params 1 1
    let win := fld p.params 2 2
    (cls < 1 ∨ 5 < cls → exec (.fltConfig r) s = .next (refuse p stBAD_PARAM 0x20 s)) ∧
    (1 ≤ cls → cls ≤ 5 → th < 2 ∨ 64 < th → exec (.fltConfig r) s = .next (refuse p stBAD_PARAM 0x21 s)) ∧
    (1 ≤ cls → cls ≤ 5 → 2 ≤ th → th ≤ 64 → win < 1 ∨ 3600 < win → exec (.fltConfig r) s = .next (refuse p stBAD_PARAM 0x22 s)) ∧
    (1 ≤ cls → cls ≤ 5 → 2 ≤ th → th ≤ 64 → 1 ≤ win → win ≤ 3600 →
      ∃ s', exec (.fltConfig r) s = .next (ok p [] s') ∧ s'.flt.upsets = s.flt.upsets ∧ Frame [.flt, .boot] s s' ∧
        s'.boot.wanted.isSome = true ∧ (cls ≤ s.flt.thresh.length → s'.flt.thresh[cls - 1]? = some (th, win)) ∧
        ∀ k, k ≠ cls - 1 → s'.flt.thresh[k]? = s.flt.thresh[k]?)) ∧
  (∀ (r : Ref) (p : Packet) (s : State), opStarts 0x0C20 r p s = true →
    let target := fld p.params 0 1
    let inst := fld p.params 2 2
    let w : Word := BitVec.ofNat 32 (fld p.params 4 4)
    ([2, 3, 4, 6, 7, 8, 9, 10].contains target = false → exec (.fltInject r) s = .next (refuse p stBAD_PARAM 0x20 s)) ∧
    ([2, 3, 4, 6, 7, 8, 9, 10].contains target = true →
      (injectInstOk s target inst = false → exec (.fltInject r) s = .next (refuse p stBAD_PARAM 0x22 s)) ∧
      (injectInstOk s target inst = true → anyRecovery s = true ∨ s.flt.fatal = true →
        exec (.fltInject r) s = .next (refuse p stBUSY noField s)) ∧
      (injectInstOk s target inst = true → anyRecovery s = false → s.flt.fatal = false →
        (w ≠ 0 → inHorizon s w = false → exec (.fltInject r) s = .next (refuse p stREFUSED_HORIZON 0x24 s)) ∧
        (w = 0 ∨ inHorizon s w = true → exec (.fltInject r) s = .next (ok p [] (s.setFlt { s.flt with
          injections := s.flt.injections ++ [{ target := target, inst := inst, at_ := if w = 0 then none else some (expand s w) }] })))))) ∧
  (∀ (i : Nat) (s : State), s.flt.injections[i]? = none → exec (.faultInjectionFire i) s = .next s) ∧
  (∀ (i : Nat) (s : State) (x : Injection), s.flt.injections[i]? = some x →
    let s1 := s.setFlt { s.flt with injections := dropAt s.flt.injections i }
    (x.at_.all (reached s) = false → exec (.faultInjectionFire i) s = .next s) ∧
    (x.at_.all (reached s) = true →
      (inject x s1 = none → exec (.faultInjectionFire i) s = .next s) ∧
      (∀ u, inject x s1 = some u → exec (.faultInjectionFire i) s = .next u) ∧
      (x.target = 8 → domOn s 2 = true → s.flt.fatal = false → ∃ u, exec (.faultInjectionFire i) s = .next u ∧
        u.flt.restarting = true ∧ u.flt.fatal = false ∧ u.flt.ctrlRst = s.flt.ctrlRst + 1) ∧
      (x.target = 7 → domOn s 2 = true → ∃ u, exec (.faultInjectionFire i) s = .next u ∧ u.fab.chipLoss.isSome = true) ∧
      (x.target = 10 → ∃ u, exec (.faultInjectionFire i) s = .next u ∧ u.flt.badCopy = some x.inst ∧ Frame [.flt] s u))) ∧
  (∀ (lockstep : Bool) (t : Nat) (s : State), domOn s 2 = true → s.flt.fatal = false →
    ((s.flt.restarting && lockstep) = false → (restartsIn (s.at_ t)).length < 2 → ∃ u, exec (.ctrlFault lockstep true t) s = .next u ∧
      u.flt.restarting = true ∧ u.flt.fatal = false ∧ u.flt.ctrlRst = s.flt.ctrlRst + 1 ∧ u.fab.chipLoss.isSome = true) ∧
    (2 ≤ (restartsIn (s.at_ t)).length ∨ s.flt.restarting = true ∧ lockstep = true →
      ∃ u, exec (.ctrlFault lockstep true t) s = .next u ∧ u.flt.fatal = true ∧ u.flt.restarting = false ∧
        (Inv s → ∀ (n : Nat) (c : DioChan), u.dio.chan[n]? = some c → c.causes.getLsbD 2 = true)) ∧
    (∃ u, exec (.ctrlFault lockstep false t) s = .next u ∧ u.flt.fatal = true ∧
      (Inv s → ∀ (n : Nat) (c : DioChan), u.dio.chan[n]? = some c → c.causes.getLsbD 2 = true))) ∧
  (∀ (lockstep journal : Bool) (t : Nat) (s : State), s.flt.fatal = true ∨ domOn s 2 = false →
    exec (.ctrlFault lockstep journal t) s = .next (s.at_ t)) ∧
  (∀ (s : State), (s.flt.restarting = false → ∀ j, exec (.fltCtrlRestart j) s = .next s) ∧
    (s.flt.restarting = true → (∃ u, exec (.fltCtrlRestart true) s = .next u ∧ u.flt.restarting = false) ∧
      ∃ u, exec (.fltCtrlRestart false) s = .next u ∧ u.flt.fatal = true)) ∧
  (∀ (t : Nat) (s : State),
    (domOn s 1 = true → ∃ u, exec (.mgmtRestart t) s = .next u ∧ u.pwr.mgmtRestart = true ∧ Frame [.now, .pwr, .flt] s u) ∧
    (domOn s 1 = false → exec (.mgmtRestart t) s = .next (s.at_ t)) ∧
    (s.pwr.mgmtRestart = true → ∃ u, exec (.mgmtRestartDone t) s = .next u ∧ u.pwr.mgmtRestart = false ∧ Frame [.now, .pwr, .flt] s u) ∧
    (s.pwr.mgmtRestart = false → exec (.mgmtRestartDone t) s = .next (s.at_ t)))

/-- VBUS below PWR_SAG_TH sets SAG, no admission of class 6 or 7 is then held, and with SAG_SAFE every channel takes its
cause; at PWR_SAG_TH + 0.5 V or more SAG is cleared. VBUS below 16.8 V, a rail below its reset threshold, a junction of 115.0
and a sensor of 125 degrees C end in a reset with its cause: every domain above MGMT is off, no admission is held, and every
field channel has cause RESET. After a sag the unit starts when VBUS is back. A rail below its warning threshold is listed
until it is back. A loss of lock starts the unit again. THERM, the throttle levels, failed fans, set points within their
bounds, the inputs with the VBUS they carry, the management controller's supply and the sideband link follow their events.
An event whose condition does not hold changes nothing but the time. -/
def Obligations.SupplyAndHeatEvents : Prop :=
  (∀ (mv t : Nat) (s : State),
    (domOn s 2 = true → s.pwr.sag = false → mv < s.pwr.sagTh → ∃ u, exec (.sagWarn mv t) s = .next u ∧ u.pwr.sag = true ∧
      u.pwr.vbus = mv % 65536 ∧ (∀ a ∈ u.led.held, a.cls ≠ 6 ∧ a.cls ≠ 7) ∧
      (s.dio.sagSafe = true → ∀ (n : Nat) (c : DioChan), n < 32 → u.dio.chan[n]? = some c → c.causes.getLsbD 5 = true)) ∧
    (s.pwr.sag = true ∨ s.pwr.sagTh ≤ mv ∨ domOn s 2 = false → exec (.sagWarn mv t) s = .next (s.at_ t)) ∧
    (s.pwr.sag = true → s.pwr.sagTh + 500 ≤ mv → ∃ u, exec (.sagClear mv t) s = .next u ∧ u.pwr.sag = false ∧ u.pwr.vbus = mv % 65536 ∧
      (s.pwr.railWarn = [] → ∀ (n : Nat) (c : DioChan), n < 32 → u.dio.chan[n]? = some c → c.causes.getLsbD 5 = false)) ∧
    (mv < s.pwr.sagTh + 500 ∨ s.pwr.sag = false → exec (.sagClear mv t) s = .next (s.at_ t)) ∧
    (s.pwr.sagDown = true → 19200 ≤ mv → ∃ u, exec (.sagPowerUp mv t) s = .next u ∧ u.boot.step = 1 ∧ u.pwr.sagDown = false ∧
      u.pwr.vbus = mv % 65536) ∧
    (s.pwr.sagDown = false ∨ mv < 19200 → exec (.sagPowerUp mv t) s = .next (s.at_ t))) ∧
  (∀ (s : State) (i : Instr) (cause : Nat), Inv s → domOn s 2 = true →
    ((∃ mv t, i = .sagReset mv t ∧ mv < 16800 ∧ cause = 5) ∨
      (∃ id mv t, i = .railReset id mv t ∧ id ≠ 12 ∧ railBelow s id mv 90 (·.reset) = true ∧ cause = 6) ∨
      (∃ temps t, i = .thermalShutdown temps t ∧ 1150 ≤ junction temps ∧ cause = 8) ∨
      (∃ temps t, i = .thermalCutoff temps t ∧ 1250 ≤ junction temps ∧ cause = 9)) →
    ∃ u, exec i s = .next u ∧ (∀ c, 2 ≤ c → domOn u c = false) ∧ domOn u 0 = true ∧ domOn u 1 = domOn s 1 ∧ u.led.held = [] ∧
      u.boot.cause = cause ∧ u.boot.step = 0 ∧ u.boot.done = false ∧ u.kw.linkUp = false ∧ u.flt.fatal = s.flt.fatal ∧
      u.fab.bench.all (fun b => b.state == .free) = true ∧ (cause = 5 ∨ cause = 6 → u.pwr.sagDown = true) ∧
      (cause = 8 ∨ cause = 9 → u.pwr.thermalDown = cause) ∧
      ∀ (n : Nat) (c : DioChan), u.dio.chan[n]? = some c → c.causes.getLsbD 2 = true) ∧
  (∀ (s : State) (temps : List Int) (mv t : Nat),
    (domOn s 2 = false ∨ 16800 ≤ mv → exec (.sagReset mv t) s = .next (s.at_ t)) ∧
    (domOn s 2 = false ∨ junction temps < 1150 → exec (.thermalShutdown temps t) s = .next (s.at_ t)) ∧
    (domOn s 2 = false ∨ junction temps < 1250 → exec (.thermalCutoff temps t) s = .next (s.at_ t))) ∧
  (∀ (id mv t : Nat) (s : State),
    (s.pwr.railWarn.contains id = false → railBelow s id mv 94 (·.warn) = true →
      ∃ u, exec (.railWarn id mv t) s = .next u ∧ id ∈ u.pwr.railWarn ∧ ∀ a ∈ u.led.held, a.cls ≠ 6 ∧ a.cls ≠ 7) ∧
    (s.pwr.railWarn.contains id = true ∨ railBelow s id mv 94 (·.warn) = false → exec (.railWarn id mv t) s = .next (s.at_ t)) ∧
    (s.pwr.railWarn.contains id = true → railBack s id mv = true → ∃ u, exec (.railClear id mv t) s = .next u ∧ id ∉ u.pwr.railWarn) ∧
    (s.pwr.railWarn.contains id = false ∨ railBack s id mv = false → exec (.railClear id mv t) s = .next (s.at_ t)) ∧
    (railBelow s 12 mv 90 (·.reset) = true → ∃ u, exec (.railReset 12 mv t) s = .next u ∧ u.pwr.mgmtRestart = true ∧
      Frame [.now, .pwr, .flt] s u) ∧
    (railBelow s id mv 90 (·.reset) = false → exec (.railReset id mv t) s = .next (s.at_ t))) ∧
  (∀ (i t : Nat) (s : State),
    (getI s.pwr.pll i false = true → i ≠ 2 → domOn s 2 = true → ∃ u, exec (.pllLoss i t) s = .next u ∧ u.boot.step = 1 ∧
      u.boot.cause = 7 ∧ u.led.held = []) ∧
    (getI s.pwr.pll 2 false = true → ∃ u, exec (.pllLoss 2 t) s = .next u ∧ getI u.pwr.pll 2 false = false ∧ Frame [.now, .pwr] s u) ∧
    (getI s.pwr.pll i false = false ∨ (i ≠ 2 ∧ domOn s 2 = false) → exec (.pllLoss i t) s = .next (s.at_ t))) ∧
  (∀ (temps : List Int) (t : Nat) (s : State),
    (domOn s 2 = true → s.pwr.therm = false → 1000 ≤ junction temps → ∃ u, exec (.thermWarn temps t) s = .next u ∧
      u.pwr.therm = true ∧ u.led.thermFreeze = some (used s.led.held 8 0) ∧ u.led.held = s.led.held) ∧
    (domOn s 2 = false ∨ s.pwr.therm = true ∨ junction temps < 1000 → exec (.thermWarn temps t) s = .next (s.at_ t)) ∧
    (s.pwr.therm = true → junction temps ≤ 970 → ∃ u, exec (.thermClear temps t) s = .next u ∧ u.pwr.therm = false ∧
      u.led.thermFreeze = none ∧ u.led.held = s.led.held) ∧
    (s.pwr.therm = false ∨ 970 < junction temps → exec (.thermClear temps t) s = .next (s.at_ t))) ∧
  (∀ (q t : Nat) (up : Bool) (temp : Int) (s : State), 4 ≤ q ∨ domOn s 2 = false → exec (.thermThrottle q up temp t) s = .next (s.at_ t)) ∧
  (∀ (q t k : Nat) (temp : Int) (s : State), q < 4 → domOn s 2 = true → s.pwr.throttle[q]? = some k →
    (1050 ≤ temp → ∃ u, exec (.thermThrottle q false temp t) s = .next u ∧
      u.pwr.throttle[q]? = some (if k < 3 then k + 1 else k)) ∧
    (temp ≤ 1000 → ∃ u, exec (.thermThrottle q true temp t) s = .next u ∧ u.pwr.throttle[q]? = some (k - 1)) ∧
    (1000 < temp → exec (.thermThrottle q true temp t) s = .next (s.at_ t)) ∧
    (temp < 1050 → exec (.thermThrottle q false temp t) s = .next (s.at_ t))) ∧
  (∀ (fan rpm : Nat) (s : State), (fan ≤ 3 → ∃ u, exec (.fanFail fan rpm) s = .next u ∧ fan ∈ u.pwr.fanFailed) ∧
    (3 < fan → exec (.fanFail fan rpm) s = .next s)) ∧
  (∀ (q t v : Nat) (prop : Int) (crit : Bool) (s : State), s.pwr.avs[q]? = some v →
    (4 ≤ q ∨ domOn s (7 + q) = false → exec (.avsAdaptation q prop crit t) s = .next (s.at_ t)) ∧
    (q < 4 → domOn s (7 + q) = true → ∃ u w, exec (.avsAdaptation q prop crit t) s = .next u ∧ u.pwr.avs[q]? = some w ∧
      (avsFloor s q ≤ getI s.pwr.vmax q 850 → avsFloor s q ≤ w ∧ w ≤ getI s.pwr.vmax q 850 ∧
        ((avsFloor s q : Int) ≤ prop → prop ≤ getI s.pwr.vmax q 850 → (w : Int) = prop)))) ∧
  (∀ (x mv : Nat) (s : State),
    (2 ≤ x ∨ 19200 ≤ mv → exec (.supplyLost x mv) s = .next s) ∧ (2 ≤ x ∨ mv ≤ 30000 → exec (.inputOvervoltage x mv) s = .next s) ∧
    (2 ≤ x ∨ mv < 19200 ∨ 30000 < mv → exec (.supplyRestored x mv) s = .next s)) ∧
  (∀ (x mv v : Nat) (okIn : Bool) (s : State), x < 2 → s.pwr.inOk[x]? = some okIn → s.pwr.vin[x]? = some v →
    (mv < 19200 → ∃ u, exec (.supplyLost x mv) s = .next u ∧ u.pwr.inOk[x]? = some false ∧ u.pwr.vin[x]? = some (mv % 65536) ∧
      u.pwr.vbus = if inputInUse u.pwr = 0 then s.pwr.vbus else inputInUse u.pwr) ∧
    (30000 < mv → ∃ u, exec (.inputOvervoltage x mv) s = .next u ∧ u.pwr.inOk[x]? = some false ∧
      u.pwr.vbus = if inputInUse u.pwr = 0 then s.pwr.vbus else inputInUse u.pwr) ∧
    (19200 ≤ mv → mv ≤ 30000 → ∃ u, exec (.supplyRestored x mv) s = .next u ∧ u.pwr.inOk[x]? = some true ∧ mv ≤ u.pwr.vbus ∧
      u.pwr.vbus = inputInUse u.pwr ∧ Frame [.pwr] s u)) ∧
  (∀ (l : List Nat) (x mv : Nat) (s : State), Inv s →
    (domOn s 1 = true → (∀ i, i < 4 → getI l i 0 < 9000) → ∃ u, exec (.mgmtSupplyLoss l) s = .next u ∧ domOn u 1 = false ∧
      u.kw.sbCache = [] ∧ ∀ p ∈ u.kw.outstanding, p.principal ≠ 64) ∧
    (domOn s 1 = false ∨ (∃ i, i < 4 ∧ 9000 ≤ getI l i 0) → exec (.mgmtSupplyLoss l) s = .next s) ∧
    (domOn s 1 = false → x ≤ 3 → 9000 ≤ mv → ∃ u, exec (.mgmtSupplyReturn x mv) s = .next u ∧ domOn u 1 = true ∧ domOn u 0 = true) ∧
    (domOn s 1 = true ∨ 3 < x ∨ mv < 9000 → exec (.mgmtSupplyReturn x mv) s = .next s)) ∧
  (∀ (up : Bool) (s : State), ((domOn s 1 = true ∨ up = false) → ∃ u, exec (.sidebandLink up) s = .next u ∧ u.kw.sbLink = up ∧
      Frame [.kw, .pwr] s u) ∧
    (domOn s 1 = false → exec (.sidebandLink true) s = .next s)) ∧
  (∀ (low : Bool) (s : State), exec (.keeperLow low) s = .next (s.setPwr { s.pwr with keeperLow := low }))

/-- PWR_STATUS and THERM_STATUS answer the registers of their tables and change nothing else. PWR_DOMAIN of KEEP, MGMT, CTRL
or MEM is refused with BAD_PARAM; switching on while a parent is off, and switching off without FORCE a domain that a held
admission uses, is DENIED; otherwise the domain is on, or off, afterwards, and the others as before. PWR_SAG_SET in range
sets the threshold at once, and outside is BAD_PARAM. PWR_AVS_BOUNDS in range sets the quadrant's bounds and moves its set
point to the nearest, and leaves the other quadrants; outside it is BAD_PARAM at its field. -/
def Obligations.PowerOpcodes : Prop :=
  (∀ (r : Ref) (p : Packet) (s : State),
    (opStarts 0x0D01 r p s = true → exec (.pwrStatus r) s = .next (ok p (le4 (pwrStatus s) ++
      le4 (getI s.pwr.vin 0 0 + 65536 * getI s.pwr.vin 1 0) ++ le4 s.pwr.vbus ++ le4 s.pwr.sagTh ++ le4 s.pwr.holdup ++
      s.pwr.rails.flatMap le2) s)) ∧
    (opStarts 0x0D02 r p s = true → exec (.thermStatus r) s = .next (ok p (s.pwr.temps.flatMap (fun v => leInt 2 v ++ [0, 0]) ++
      (List.range 4).flatMap (fun q => le4 (getI s.pwr.avs q 0 + 65536 * getI s.pwr.vmin q 0)) ++ le4 (avsPinReg s) ++
      le4 (clkFq s) ++ s.pwr.fans.flatMap le2) s))) ∧
  (∀ (r : Ref) (p : Packet) (s : State), opStarts 0x0D10 r p s = true →
    let c := fld p.params 0 1
    let on := fld p.params 1 1
    (c < 4 ∨ 12 < c → exec (.pwrDomain r) s = .next (refuse p stBAD_PARAM 0x20 s)) ∧
    (4 ≤ c → c ≤ 12 → 1 < on → exec (.pwrDomain r) s = .next (refuse p stBAD_PARAM 0x21 s)) ∧
    (4 ≤ c → c ≤ 12 → on = 1 → (domParents c).all (domOn s) = false →
      exec (.pwrDomain r) s = .next (refuse p stDENIED noField s)) ∧
    (4 ≤ c → c ≤ 12 → Inv s → on = 1 → (domParents c).all (domOn s) = true →
      ∃ s', exec (.pwrDomain r) s = .next (ok p [0, 0, 0, 0] s') ∧ domOn s' c = true ∧ (∀ k, k ≠ c → domOn s' k = domOn s k) ∧
        (domOn s c = true → s' = s)) ∧
    (4 ≤ c → c ≤ 12 → on = 0 → domOn s c = false → exec (.pwrDomain r) s = .next (ok p [0, 0, 0, 0] s)) ∧
    (4 ≤ c → c ≤ 12 → on = 0 → domOn s c = true → bit (fld p.params 2 1) 0 = false →
      (∃ a ∈ s.led.held, usesDomain s c a = true) → exec (.pwrDomain r) s = .next (refuse p stDENIED noField s)) ∧
    (4 ≤ c → c ≤ 12 → on = 0 → domOn s c = true →
      (bit (fld p.params 2 1) 0 = true ∨ ∀ a ∈ s.led.held, usesDomain s c a = false) →
      ∃ u, exec (.pwrDomain r) s = .next u ∧ domOn u c = false ∧ ∀ k, k ≠ c → domOn u k = domOn s k)) ∧
  (∀ (r : Ref) (p : Packet) (s : State), opStarts 0x0D20 r p s = true →
    (fld p.params 0 2 < 17500 ∨ 22000 < fld p.params 0 2 ∨ fld p.params 0 2 % 100 ≠ 0 →
      exec (.pwrSagSet r) s = .next (refuse p stBAD_PARAM 0x20 s)) ∧
    (17500 ≤ fld p.params 0 2 → fld p.params 0 2 ≤ 22000 → fld p.params 0 2 % 100 = 0 → ∃ u, exec (.pwrSagSet r) s = .next u ∧
      u.pwr.sagTh = fld p.params 0 2 ∧ (fld p.params 0 2 ≤ s.pwr.vbus → ∃ s', u = ok p [] s' ∧ Frame [.pwr, .boot] s s') ∧
      (domOn s 2 = true → s.pwr.vbus < fld p.params 0 2 → u.pwr.sag = true))) ∧
  (∀ (r : Ref) (p : Packet) (s : State), opStarts 0x0D21 r p s = true →
    let q := fld p.params 0 1
    let lo := fld p.params 2 2
    let hi := fld p.params 4 2
    (3 < q → exec (.pwrAvsBounds r) s = .next (refuse p stBAD_PARAM 0x20 s)) ∧
    (q ≤ 3 → lo < 600 ∨ 900 < lo ∨ hi < lo → exec (.pwrAvsBounds r) s = .next (refuse p stBAD_PARAM 0x22 s)) ∧
    (q ≤ 3 → 600 ≤ lo → lo ≤ 900 → lo ≤ hi → 900 < hi → exec (.pwrAvsBounds r) s = .next (refuse p stBAD_PARAM 0x24 s)) ∧
    (q ≤ 3 → 600 ≤ lo → lo ≤ hi → hi ≤ 900 → ∃ s', exec (.pwrAvsBounds r) s = .next (ok p [] s') ∧ Frame [.pwr] s s' ∧
      (∀ v, s.pwr.avs[q]? = some v → s'.pwr.avs[q]? = some (min hi (max lo v))) ∧
      (q < s.pwr.vmin.length → s'.pwr.vmin[q]? = some lo) ∧ (q < s.pwr.vmax.length → s'.pwr.vmax[q]? = some hi) ∧
      ∀ k, k ≠ q → s'.pwr.avs[k]? = s.pwr.avs[k]? ∧ s'.pwr.vmin[k]? = s.pwr.vmin[k]? ∧ s'.pwr.vmax[k]? = s.pwr.vmax[k]?))

/-- VBUS at 19.2 V or more on a unit that is down starts step 1. A step that may end leads to the next, with its domains on,
unless the unit is then fatal; step 10 sets DONE. Step 2 runs the slot that the table chooses, or the recovery firmware.
Step 3 anchors the PTB at the Keeper's count when its copy is valid and the fallback is not forced. Step 7 ends with the link
trained or down, and step 8 with every FABQ domain on. The Keeper counts one place up or down, keeps its high-water mark, and
holds its copy invalid when both levels change at once; when it loses power its clock and marks are gone. -/
def Obligations.StartUpStepByStep : Prop :=
  (∀ (mv t : Nat) (s : State), Inv s →
    (19200 ≤ mv → s.boot.step = 0 → domOn s 2 = false → s.pwr.thermalDown = 0 → s.pwr.sagDown = false →
      ∃ u, exec (.powerOn mv t) s = .next u ∧ u.boot.step = 1 ∧ u.boot.cause = 1 ∧ domOn u 0 = true ∧ domOn u 1 = true ∧
        domOn u 2 = false ∧ u.pwr.vbus = mv % 65536 ∧ u.boot.kind = (if domOn s 1 then 2 else 1)) ∧
    (mv < 19200 ∨ s.boot.step ≠ 0 ∨ domOn s 2 = true ∨ s.pwr.thermalDown ≠ 0 ∨ s.pwr.sagDown = true →
      exec (.powerOn mv t) s = .next (s.at_ t))) ∧
  (∀ (r : StepReport) (t : Nat) (s : State), Inv s →
    (s.boot.step = 0 ∨ 10 < s.boot.step ∨ s.flt.fatal = true ∨ stepReady r (s.at_ t) = false →
      exec (.bootStepComplete r t) s = .next (s.at_ t)) ∧
    (1 ≤ s.boot.step → s.boot.step ≤ 10 → s.flt.fatal = false → stepReady r (s.at_ t) = true →
      ∃ u, exec (.bootStepComplete r t) s = .next u ∧
        (u.flt.fatal = false → u.boot.step = nextStep (u.boot.slot == 2) s.boot.step ∧ (∀ c ∈ stepDomains u.boot.step, domOn u c = true)) ∧
        (s.boot.step = 10 → u.boot.done = true ∧ u.boot.step = 11) ∧
        (s.boot.step = 2 → (r.ok = false → u.boot.slot = 2 ∧ u.boot.cause = 0x0A) ∧
          (let valid (i : Nat) : Bool := (fwOf s i).valid && (if i = 0 then r.slotAValid else r.slotBValid)
           (∀ c, r.ok = true → chooseSlot s.boot.draft valid = some c → u.boot.slot = c.slot ∧ u.boot.trial = c.trial) ∧
           (r.ok = true → chooseSlot s.boot.draft valid = none → u.boot.slot = 2 ∧ u.boot.cause = 0x0A))) ∧
        (s.boot.step = 3 → s.boot.kind ≠ 3 → s.boot.keeperValid = true → bit s.boot.draft.anchor 2 = false →
          u.pos.anchored = true ∧ u.pos.count = s.boot.cK ∧ u.pos.hwm = BitVec.ofInt 64 (16 * s.boot.hK) ∧ u.boot.anchor = 1 ∧
            u.boot.keeperOn = false) ∧
        (s.boot.step = 7 → u.kw.linkUp = (r.hostUp && linkTrains r.link.1 r.link.2)) ∧
        (s.boot.step = 8 → ∀ c, 8 ≤ c → c ≤ 10 → domOn u c = true))) ∧
  (∀ (a b : Bool) (s : State), s.boot.keeperOn = true →
    (quadStep s.boot.keeperAB (a, b) = 2 → ∃ u, exec (.keeperSample a b) s = .next u ∧ u.boot.keeperValid = false ∧ u.boot.cK = s.boot.cK) ∧
    (quadStep s.boot.keeperAB (a, b) = 0 ∨ (s.boot.keeperValid = false ∧ quadStep s.boot.keeperAB (a, b) ≠ 2) →
      exec (.keeperSample a b) s = .next (s.setBoot { s.boot with keeperAB := (a, b) })) ∧
    (s.boot.keeperValid = true → quadStep s.boot.keeperAB (a, b) = 1 ∨ quadStep s.boot.keeperAB (a, b) = 3 →
      ∃ u, exec (.keeperSample a b) s = .next u ∧ (u.boot.cK = s.boot.cK + 1 ∨ u.boot.cK = s.boot.cK - 1) ∧
        u.boot.hK = max s.boot.hK u.boot.cK ∧ u.boot.keeperAB = (a, b) ∧ Frame [.boot] s u) ∧
    ∃ u, exec .keeperOverrun s = .next u ∧ u.boot.keeperValid = false ∧ u.boot.cK = s.boot.cK ∧ Frame [.boot, .pos] s u) ∧
  (∀ (a b : Bool) (s : State), s.boot.keeperOn = false → exec (.keeperSample a b) s = .next s ∧ exec .keeperOverrun s = .next s) ∧
  (∀ (s : State), (domOn s 1 = false → domOn s 2 = false → ∃ u, exec .keeperPowerLoss s = .next u ∧ u.boot.rtc = none ∧ u.boot.hK = 0 ∧
      u.boot.keeperValid = false ∧ u.flt.keeper = [] ∧ u.boot.inForce = s.boot.inForce ∧ Frame [.boot, .flt, .pwr] s u) ∧
    (domOn s 1 = true ∨ domOn s 2 = true → exec .keeperPowerLoss s = .next s))

/-- A write that is wanted and may start takes the state of its moment, with the SEQ of the record in force plus 1, to a
page of the bank that does not hold it; with a bank degraded it is counted as skipped; one that may not start, or has no
page, waits. A page that verifies puts its record in force, and one that fails, or that a supply warning has abandoned,
leaves the record in force as it was. An erased sector is clean, and one whose erase fails is retired. REC_READ,
BOOT_STATUS, REC_CONFIG, RTC_SET, BOOT_SLOT_WRITE, BOOT_SLOT_SELECT, BOOT_SLOT_CONFIRM and BOOT_KEYS_LOAD do as their rules
say: an image or bundle that does not verify, and a bundle that is not newer, is BAD_PARAM and changes nothing. -/
def Obligations.RecordAndBootOpcodes : Prop :=
  (∀ (t cause page : Nat) (s : State), s.boot.wanted = some cause → mayWriteRecord (s.at_ t) = true →
    (s.boot.degraded = true → exec (.recordWriteStart t) s =
      .next ((s.at_ t).setBoot { s.boot with wanted := none, skipped := satInc s.boot.skipped })) ∧
    (s.boot.degraded = false → blankAfter (s.at_ t) (1 - s.boot.place.1) (lastPageOf s (1 - s.boot.place.1)) = none →
      exec (.recordWriteStart t) s = .next (s.at_ t)) ∧
    (s.boot.degraded = false → blankAfter (s.at_ t) (1 - s.boot.place.1) (lastPageOf s (1 - s.boot.place.1)) = some page →
      ∃ u w, exec (.recordWriteStart t) s = .next u ∧ u.boot.writing = some w ∧ w.bank = 1 - s.boot.place.1 ∧ w.page = page ∧
        w.image.seq = s.boot.inForce.seq + 1 ∧ w.image.cause = cause ∧ w.image.encScale = s.pos.scale ∧ w.image.sagTh = s.pwr.sagTh ∧
        w.image.thresh = s.flt.thresh ∧ w.image.retStakes = s.fab.retiredStakes ∧
        u.boot.wanted = none ∧ u.boot.inForce = s.boot.inForce ∧ Frame [.now, .boot] s u)) ∧
  (∀ (t : Nat) (s : State), s.boot.wanted = none ∨ mayWriteRecord (s.at_ t) = false →
    exec (.recordWriteStart t) s = .next (s.at_ t)) ∧
  (∀ (t : Nat) (s : State) (w : RecWrite), s.boot.writing = some w →
    (s.boot.abandon = false → ∃ u, exec (.recordPageDone true t) s = .next u ∧ u.boot.inForce = w.image ∧
      u.boot.place = (w.bank, w.page) ∧ u.boot.writing = none ∧ (s.at_ t).now ∈ u.boot.pageTimes) ∧
    (∀ verified, s.boot.abandon = true ∨ verified = false → ∃ u, exec (.recordPageDone verified t) s = .next u ∧
      u.boot.inForce = s.boot.inForce ∧ u.boot.place = s.boot.place ∧ (s.at_ t).now ∈ u.boot.pageTimes ∧
      (s.boot.abandon = true → u.boot.writing = none ∧ u.boot.wanted.isSome = true))) ∧
  (∀ (t : Nat) (good : Bool) (s : State), s.boot.writing = none → exec (.recordPageDone good t) s = .next (s.at_ t)) ∧
  (∀ (k : Nat) (s : State), k < 32 →
    (s.boot.erasing = some (k, false) → (∃ u, exec (.sectorEraseDone k true) s = .next u ∧ k ∉ u.boot.dirty) ∧
      ∃ u, exec (.sectorEraseDone k false) s = .next u ∧ u.boot.draft.sectors.getLsbD k = true)) ∧
  (∀ (k : Nat) (s : State), s.boot.erasing ≠ some (k, false) → ∀ good, exec (.sectorEraseDone k good) s = .next s) ∧
  (∀ (r : Ref) (p : Packet) (s : State),
    (opStarts 0x0E01 r p s = true → exec (.recRead r) s =
      .next (ok p (s.boot.inForce.bytes ++ le1 s.boot.place.1 ++ [0] ++ le2 s.boot.place.2) s)) ∧
    (opStarts 0x0E02 r p s = true → exec (.bootStatus r) s = .next (ok p (le4 (bootStatus s) ++ le4 s.boot.inForce.seq.toNat ++
      le4 (s.boot.pageTimes.filter fun t => decide (s.now < t + sTicks 86400)).length ++ le4 s.pwr.holdup ++ le4 (fwVersion s 0) ++
      le4 (fwVersion s 1)) s)) ∧
    (opStarts 0x0E31 r p s = true → exec (.rtcSet r) s =
      .next (ok p [] (s.setBoot { s.boot with rtc := some (fld p.params 0 4, s.now) }))) ∧
    (opStarts 0x0E10 r p s = true → (∀ off, recConfigBad p.params = some off → exec (.recConfig r) s = .next (refuse p stBAD_PARAM off s)) ∧
      (recConfigBad p.params = none → ∃ s', exec (.recConfig r) s = .next (ok p [] s') ∧ Frame [.kw, .boot] s s' ∧
        s'.boot.draft.anchor = (if bit (fld p.params 0 1) 0 then fld p.params 1 1 else s.boot.draft.anchor) ∧
        s'.boot.draft.zBase = (if bit (fld p.params 0 1) 1 then BitVec.ofNat 64 (fld p.params 4 8) else s.boot.draft.zBase) ∧
        s'.boot.wanted.isSome = true ∧ s'.boot.draft.sbAddr = (if bit (fld p.params 0 1) 2 then BitVec.ofNat 32 (fld p.params 12 4)
          else s.boot.draft.sbAddr) ∧
        s'.kw.sbAddr = s.kw.sbAddr ∧ s'.kw.sbAllow = (if bit (fld p.params 0 1) 2 then allowOf p.params else s.kw.sbAllow))) ∧
    (opStarts 0x0E21 r p s = true → ((fwOf s (idleSlot s)).valid = false → exec (.bootSlotSelect r) s = .next (refuse p stBAD_PARAM noField s)) ∧
      ((fwOf s (idleSlot s)).valid = true → ∃ s', exec (.bootSlotSelect r) s = .next (ok p [] s') ∧ s'.boot.draft =
        { s.boot.draft with sel := idleSlot s, trial := true, tries := 3 } ∧ s'.boot.slot = s.boot.slot ∧ Frame [.boot] s s')) ∧
    (opStarts 0x0E22 r p s = true → (s.boot.trial = false → exec (.bootSlotConfirm r) s = .next (refuse p stDENIED noField s)) ∧
      (s.boot.trial = true → ∃ s', exec (.bootSlotConfirm r) s = .next (ok p [] s') ∧ s'.boot.trial = false ∧
        s'.boot.draft = { s.boot.draft with trial := false } ∧ Frame [.boot] s s'))) ∧
  (∀ (r : Ref) (p : Packet) (poisoned : Bool) (s : State),
    (opStarts 0x0E20 r p s = true →
      (∀ st off, objectBytes p true poisoned s = .inl (st, off) → exec (.bootSlotWrite ⟨r, poisoned⟩) s = .next (refuse p st off s)) ∧
      (∀ b, objectBytes p true poisoned s = .inr b →
        (imageOk s.boot.otpFw b = false → exec (.bootSlotWrite ⟨r, poisoned⟩) s = .next (refuse p stBAD_PARAM 0x20 s)) ∧
        (imageOk s.boot.otpFw b = true → exec (.bootSlotWrite ⟨r, poisoned⟩) s = .next (ok p [] (s.setBoot
          { s.boot with
            fw := upd s.boot.fw (idleSlot s) fun _ =>
              { valid := true, version := fld b 8 4, image := b.take (256 + fld b 0x0C 4) } }))))) ∧
    (opStarts 0x0E30 r p s = true →
      (∀ st off, objectBytes p false poisoned s = .inl (st, off) → exec (.bootKeysLoad ⟨r, poisoned⟩) s = .next (refuse p st off s)) ∧
      (∀ b, objectBytes p false poisoned s = .inr b →
        (bundleOk s.boot.otpBundle b = false ∨ (∃ y, bundleInForce s = some y ∧ seqAfter (bundleOf b).seq y.seq = false) →
          exec (.bootKeysLoad ⟨r, poisoned⟩) s = .next (refuse p stBAD_PARAM 0x20 s)) ∧
        (bundleOk s.boot.otpBundle b = true → (∀ y, bundleInForce s = some y → seqAfter (bundleOf b).seq y.seq = true) →
          exec (.bootKeysLoad ⟨r, poisoned⟩) s = .next (ok p [] (s.setBoot
            { s.boot with keys := upd s.boot.keys (olderCopy s) (fun _ => some (bundleOf b)) }))))))
end

