-- ==== Sys2Proof/Laws/Fabric.lean ====
section
/-! SUPPORT. Lemmas of the fabric's result records. -/

namespace Sys2Proof.Machine

theorem leBytes_length (n v : Nat) : (leBytes n v).length = n := by
  induction n generalizing v with
  | zero => rfl
  | succ n ih => simp [leBytes, ih]

@[simp] theorem le1_length (v : Nat) : (le1 v).length = 1 := leBytes_length 1 v
@[simp] theorem le2_length (v : Nat) : (le2 v).length = 2 := leBytes_length 2 v
@[simp] theorem le4_length (v : Nat) : (le4 v).length = 4 := leBytes_length 4 v
@[simp] theorem le8_length (v : Nat) : (le8 v).length = 8 := leBytes_length 8 v
@[simp] theorem leInt_length (n : Nat) (v : Int) : (leInt n v).length = n := leBytes_length n _

theorem flatMap_length_le {α : Type} (f : α → Bytes) (k : Nat) (h : ∀ x, (f x).length ≤ k) (l : List α) (n : Nat) (hl : l.length ≤ n) :
    (l.flatMap f).length ≤ k * n := by
  have : (l.flatMap f).length ≤ k * l.length := by
    induction l with
    | nil => simp
    | cons x r ih =>
      have := ih (by simp at hl; omega)
      have := h x
      simp [Nat.mul_add] at *
      omega
  exact this.trans (Nat.mul_le_mul_left _ hl)

/-- A tile result record has at most 64 candidates, boxes and embeddings (09 Table 9.4). -/
theorem recordBytes_length_le (t : Tile) (b hold : Nat) (fence : Word) (m : Option ModelResult) : (recordBytes t b hold fence m).length ≤ 9856 := by
  cases m with
  | none => simp [recordBytes]
  | some r =>
    have hc : (r.cands.take 64).length ≤ 64 := by simp
    have hb : (r.boxes.take (r.cands.take 64).length).length ≤ 64 := by simp
    have he : (r.embeds.take (r.cands.take 64).length).length ≤ 64 := by simp
    have h1 := flatMap_length_le (fun c : Word × Word => le4 c.1.toNat ++ le4 c.2.toNat) 8 (by simp) _ 64 hc
    have h2 := flatMap_length_le (fun x : Nat × Nat × Int × Int => le2 x.1 ++ le2 x.2.1 ++ le4 0 ++ leInt 4 x.2.2.1 ++ leInt 4 x.2.2.2) 16 (by simp) _ 64 hb
    have h3 := flatMap_length_le (padTo 128) 128 (by intro x; simp [padTo]) _ 64 he
    unfold recordBytes
    simp only [List.length_append, le1_length, le2_length, le4_length, leInt_length, List.length_replicate]
    split
    · omega
    · simp only [List.length_nil]
      omega

/-- The same of a record of RUN_TILES, whatever became of its tile. -/
theorem runRecord_length_le (b : Nat) (fence : Word) (f : Option Break) (t : Tile) (m : ModelResult) (p : Placed) :
    (runRecord b fence f t m p).length ≤ 9856 := by
  unfold runRecord
  simp only
  split <;> exact recordBytes_length_le ..

end Sys2Proof.Machine
end

