-- ==== Sys2Proof/Laws/Registers.lean ====
section
/-! SUPPORT. The registers of the unit pages, as a list of which each member keeps a predicate when its clearable part is set. -/

namespace Sys2Proof.Machine
open Sys2Proof

/-- Setting the clearable part of a register keeps `R`. -/
def RegOk (R : State → Prop) (r : Reg) : Prop := ∀ (w : Word) (s : State), R s → R (r.put w s)

theorem ro_ok {R : State → Prop} (v : Nat) : RegOk R (ro v) := fun _ _ h => h
theorem ro8_ok {R : State → Prop} (v : Nat) : RegOk R (ro8 v) := fun _ _ h => h
theorem rs_ok {R : State → Prop} (v : Nat) : RegOk R (rs v) := fun _ _ h => h
theorem rc_ok {R : State → Prop} {w : Word} {put : Word → State → State} (h : ∀ w s, R s → R (put w s)) : RegOk R (rc w put) := h
theorem w1c_ok {R : State → Prop} {v : Nat} {put : Word → State → State} (h : ∀ w s, R s → R (put w s)) : RegOk R (w1c v put) := h

def RegsOk (R : State → Prop) (l : List Reg) : Prop := ∀ r ∈ l, RegOk R r

theorem ridx_ok {R : State → Prop} {b : Bool} {v : Nat} {put : Word → State → State} (h : ∀ w s, R s → R (put w s)) :
    RegOk R { acc := .ridx, wide := b, value := v, put := put } := h

theorem regs_nil {R : State → Prop} : RegsOk R [] := fun _ h => by cases h
theorem regs_cons {R : State → Prop} {r : Reg} {l : List Reg} (h : RegOk R r) (hl : RegsOk R l) : RegsOk R (r :: l) := by
  intro x hx
  rcases List.mem_cons.1 hx with rfl | hx
  · exact h
  · exact hl _ hx
theorem regs_append {R : State → Prop} {l m : List Reg} (hl : RegsOk R l) (hm : RegsOk R m) : RegsOk R (l ++ m) := fun x hx =>
  (List.mem_append.1 hx).elim (hl x) (hm x)
theorem regs_map {R : State → Prop} {α : Type} {l : List α} {f : α → Reg} (h : ∀ a, RegOk R (f a)) : RegsOk R (l.map f) := by
  intro x hx
  obtain ⟨a, -, rfl⟩ := List.mem_map.1 hx
  exact h a
theorem regs_mapIdx {R : State → Prop} {α : Type} {l : List α} {f : Nat → α → Reg} (h : ∀ i a, RegOk R (f i a)) : RegsOk R (l.mapIdx f) := by
  intro x hx
  obtain ⟨i, hi, rfl⟩ := List.mem_mapIdx.1 hx
  exact h _ _
theorem regs_flatMap {R : State → Prop} {α : Type} {l : List α} {f : α → List Reg} (h : ∀ a, RegsOk R (f a)) : RegsOk R (l.flatMap f) := by
  intro x hx
  obtain ⟨a, -, hx⟩ := List.mem_flatMap.1 hx
  exact h a x hx
theorem regs_rcs {R : State → Prop} {l : List Word} {put : Nat → Word → State → State} (h : ∀ i w s, R s → R (put i w s)) :
    RegsOk R (rcs l put) := regs_mapIdx fun i _ => h i

theorem placeRegs_ok {R : State → Prop} {l : List Reg} (h : RegsOk R l) (off : Nat) : ∀ e ∈ placeRegs off l, RegOk R e.2 := by
  induction l generalizing off with
  | nil => intro e he; cases he
  | cons r t ih =>
    intro e he
    simp only [placeRegs, List.mem_cons] at he
    rcases he with rfl | he
    · exact h r (List.mem_cons_self ..)
    · exact ih (fun x hx => h x (List.mem_cons_of_mem _ hx)) _ e he

end Sys2Proof.Machine
end

