-- ==== Sys2Proof/Laws/State.lean ====
section
/-! SUPPORT. One lemma per part per setter of State, so that no proof unfolds a record update. -/

namespace Sys2Proof.Machine

@[simp] theorem State.setNow_pending (s : State) (v : Nat) : (s.setNow v).pending = s.pending := rfl
@[simp] theorem State.setNow_now (s : State) (v : Nat) : (s.setNow v).now = v := rfl
@[simp] theorem State.setNow_emitted (s : State) (v : Nat) : (s.setNow v).emitted = s.emitted := rfl
@[simp] theorem State.setNow_host (s : State) (v : Nat) : (s.setNow v).host = s.host := rfl
@[simp] theorem State.setNow_pos (s : State) (v : Nat) : (s.setNow v).pos = s.pos := rfl
@[simp] theorem State.setNow_led (s : State) (v : Nat) : (s.setNow v).led = s.led := rfl
@[simp] theorem State.setNow_kw (s : State) (v : Nat) : (s.setNow v).kw = s.kw := rfl
@[simp] theorem State.setNow_lanes (s : State) (v : Nat) : (s.setNow v).lanes = s.lanes := rfl
@[simp] theorem State.setNow_pln (s : State) (v : Nat) : (s.setNow v).pln = s.pln := rfl
@[simp] theorem State.setNow_fab (s : State) (v : Nat) : (s.setNow v).fab = s.fab := rfl
@[simp] theorem State.setNow_draw (s : State) (v : Nat) : (s.setNow v).draw = s.draw := rfl
@[simp] theorem State.setNow_asy (s : State) (v : Nat) : (s.setNow v).asy = s.asy := rfl
@[simp] theorem State.setNow_hm (s : State) (v : Nat) : (s.setNow v).hm = s.hm := rfl
@[simp] theorem State.setNow_dio (s : State) (v : Nat) : (s.setNow v).dio = s.dio := rfl
@[simp] theorem State.setNow_rcp (s : State) (v : Nat) : (s.setNow v).rcp = s.rcp := rfl
@[simp] theorem State.setNow_flt (s : State) (v : Nat) : (s.setNow v).flt = s.flt := rfl
@[simp] theorem State.setNow_pwr (s : State) (v : Nat) : (s.setNow v).pwr = s.pwr := rfl
@[simp] theorem State.setNow_boot (s : State) (v : Nat) : (s.setNow v).boot = s.boot := rfl
@[simp] theorem State.setEmitted_pending (s : State) (v : List Emit) : (s.setEmitted v).pending = s.pending := rfl
@[simp] theorem State.setEmitted_now (s : State) (v : List Emit) : (s.setEmitted v).now = s.now := rfl
@[simp] theorem State.setEmitted_emitted (s : State) (v : List Emit) : (s.setEmitted v).emitted = v := rfl
@[simp] theorem State.setEmitted_host (s : State) (v : List Emit) : (s.setEmitted v).host = s.host := rfl
@[simp] theorem State.setEmitted_pos (s : State) (v : List Emit) : (s.setEmitted v).pos = s.pos := rfl
@[simp] theorem State.setEmitted_led (s : State) (v : List Emit) : (s.setEmitted v).led = s.led := rfl
@[simp] theorem State.setEmitted_kw (s : State) (v : List Emit) : (s.setEmitted v).kw = s.kw := rfl
@[simp] theorem State.setEmitted_lanes (s : State) (v : List Emit) : (s.setEmitted v).lanes = s.lanes := rfl
@[simp] theorem State.setEmitted_pln (s : State) (v : List Emit) : (s.setEmitted v).pln = s.pln := rfl
@[simp] theorem State.setEmitted_fab (s : State) (v : List Emit) : (s.setEmitted v).fab = s.fab := rfl
@[simp] theorem State.setEmitted_draw (s : State) (v : List Emit) : (s.setEmitted v).draw = s.draw := rfl
@[simp] theorem State.setEmitted_asy (s : State) (v : List Emit) : (s.setEmitted v).asy = s.asy := rfl
@[simp] theorem State.setEmitted_hm (s : State) (v : List Emit) : (s.setEmitted v).hm = s.hm := rfl
@[simp] theorem State.setEmitted_dio (s : State) (v : List Emit) : (s.setEmitted v).dio = s.dio := rfl
@[simp] theorem State.setEmitted_rcp (s : State) (v : List Emit) : (s.setEmitted v).rcp = s.rcp := rfl
@[simp] theorem State.setEmitted_flt (s : State) (v : List Emit) : (s.setEmitted v).flt = s.flt := rfl
@[simp] theorem State.setEmitted_pwr (s : State) (v : List Emit) : (s.setEmitted v).pwr = s.pwr := rfl
@[simp] theorem State.setEmitted_boot (s : State) (v : List Emit) : (s.setEmitted v).boot = s.boot := rfl
@[simp] theorem State.setHost_pending (s : State) (v : Memory) : (s.setHost v).pending = s.pending := rfl
@[simp] theorem State.setHost_now (s : State) (v : Memory) : (s.setHost v).now = s.now := rfl
@[simp] theorem State.setHost_emitted (s : State) (v : Memory) : (s.setHost v).emitted = s.emitted := rfl
@[simp] theorem State.setHost_host (s : State) (v : Memory) : (s.setHost v).host = v := rfl
@[simp] theorem State.setHost_pos (s : State) (v : Memory) : (s.setHost v).pos = s.pos := rfl
@[simp] theorem State.setHost_led (s : State) (v : Memory) : (s.setHost v).led = s.led := rfl
@[simp] theorem State.setHost_kw (s : State) (v : Memory) : (s.setHost v).kw = s.kw := rfl
@[simp] theorem State.setHost_lanes (s : State) (v : Memory) : (s.setHost v).lanes = s.lanes := rfl
@[simp] theorem State.setHost_pln (s : State) (v : Memory) : (s.setHost v).pln = s.pln := rfl
@[simp] theorem State.setHost_fab (s : State) (v : Memory) : (s.setHost v).fab = s.fab := rfl
@[simp] theorem State.setHost_draw (s : State) (v : Memory) : (s.setHost v).draw = s.draw := rfl
@[simp] theorem State.setHost_asy (s : State) (v : Memory) : (s.setHost v).asy = s.asy := rfl
@[simp] theorem State.setHost_hm (s : State) (v : Memory) : (s.setHost v).hm = s.hm := rfl
@[simp] theorem State.setHost_dio (s : State) (v : Memory) : (s.setHost v).dio = s.dio := rfl
@[simp] theorem State.setHost_rcp (s : State) (v : Memory) : (s.setHost v).rcp = s.rcp := rfl
@[simp] theorem State.setHost_flt (s : State) (v : Memory) : (s.setHost v).flt = s.flt := rfl
@[simp] theorem State.setHost_pwr (s : State) (v : Memory) : (s.setHost v).pwr = s.pwr := rfl
@[simp] theorem State.setHost_boot (s : State) (v : Memory) : (s.setHost v).boot = s.boot := rfl
@[simp] theorem State.setPos_pending (s : State) (v : Position) : (s.setPos v).pending = s.pending := rfl
@[simp] theorem State.setPos_now (s : State) (v : Position) : (s.setPos v).now = s.now := rfl
@[simp] theorem State.setPos_emitted (s : State) (v : Position) : (s.setPos v).emitted = s.emitted := rfl
@[simp] theorem State.setPos_host (s : State) (v : Position) : (s.setPos v).host = s.host := rfl
@[simp] theorem State.setPos_pos (s : State) (v : Position) : (s.setPos v).pos = v := rfl
@[simp] theorem State.setPos_led (s : State) (v : Position) : (s.setPos v).led = s.led := rfl
@[simp] theorem State.setPos_kw (s : State) (v : Position) : (s.setPos v).kw = s.kw := rfl
@[simp] theorem State.setPos_lanes (s : State) (v : Position) : (s.setPos v).lanes = s.lanes := rfl
@[simp] theorem State.setPos_pln (s : State) (v : Position) : (s.setPos v).pln = s.pln := rfl
@[simp] theorem State.setPos_fab (s : State) (v : Position) : (s.setPos v).fab = s.fab := rfl
@[simp] theorem State.setPos_draw (s : State) (v : Position) : (s.setPos v).draw = s.draw := rfl
@[simp] theorem State.setPos_asy (s : State) (v : Position) : (s.setPos v).asy = s.asy := rfl
@[simp] theorem State.setPos_hm (s : State) (v : Position) : (s.setPos v).hm = s.hm := rfl
@[simp] theorem State.setPos_dio (s : State) (v : Position) : (s.setPos v).dio = s.dio := rfl
@[simp] theorem State.setPos_rcp (s : State) (v : Position) : (s.setPos v).rcp = s.rcp := rfl
@[simp] theorem State.setPos_flt (s : State) (v : Position) : (s.setPos v).flt = s.flt := rfl
@[simp] theorem State.setPos_pwr (s : State) (v : Position) : (s.setPos v).pwr = s.pwr := rfl
@[simp] theorem State.setPos_boot (s : State) (v : Position) : (s.setPos v).boot = s.boot := rfl
@[simp] theorem State.setLed_pending (s : State) (v : Ledger) : (s.setLed v).pending = s.pending := rfl
@[simp] theorem State.setLed_now (s : State) (v : Ledger) : (s.setLed v).now = s.now := rfl
@[simp] theorem State.setLed_emitted (s : State) (v : Ledger) : (s.setLed v).emitted = s.emitted := rfl
@[simp] theorem State.setLed_host (s : State) (v : Ledger) : (s.setLed v).host = s.host := rfl
@[simp] theorem State.setLed_pos (s : State) (v : Ledger) : (s.setLed v).pos = s.pos := rfl
@[simp] theorem State.setLed_led (s : State) (v : Ledger) : (s.setLed v).led = v := rfl
@[simp] theorem State.setLed_kw (s : State) (v : Ledger) : (s.setLed v).kw = s.kw := rfl
@[simp] theorem State.setLed_lanes (s : State) (v : Ledger) : (s.setLed v).lanes = s.lanes := rfl
@[simp] theorem State.setLed_pln (s : State) (v : Ledger) : (s.setLed v).pln = s.pln := rfl
@[simp] theorem State.setLed_fab (s : State) (v : Ledger) : (s.setLed v).fab = s.fab := rfl
@[simp] theorem State.setLed_draw (s : State) (v : Ledger) : (s.setLed v).draw = s.draw := rfl
@[simp] theorem State.setLed_asy (s : State) (v : Ledger) : (s.setLed v).asy = s.asy := rfl
@[simp] theorem State.setLed_hm (s : State) (v : Ledger) : (s.setLed v).hm = s.hm := rfl
@[simp] theorem State.setLed_dio (s : State) (v : Ledger) : (s.setLed v).dio = s.dio := rfl
@[simp] theorem State.setLed_rcp (s : State) (v : Ledger) : (s.setLed v).rcp = s.rcp := rfl
@[simp] theorem State.setLed_flt (s : State) (v : Ledger) : (s.setLed v).flt = s.flt := rfl
@[simp] theorem State.setLed_pwr (s : State) (v : Ledger) : (s.setLed v).pwr = s.pwr := rfl
@[simp] theorem State.setLed_boot (s : State) (v : Ledger) : (s.setLed v).boot = s.boot := rfl
@[simp] theorem State.setKw_pending (s : State) (v : Kwelo) : (s.setKw v).pending = s.pending := rfl
@[simp] theorem State.setKw_now (s : State) (v : Kwelo) : (s.setKw v).now = s.now := rfl
@[simp] theorem State.setKw_emitted (s : State) (v : Kwelo) : (s.setKw v).emitted = s.emitted := rfl
@[simp] theorem State.setKw_host (s : State) (v : Kwelo) : (s.setKw v).host = s.host := rfl
@[simp] theorem State.setKw_pos (s : State) (v : Kwelo) : (s.setKw v).pos = s.pos := rfl
@[simp] theorem State.setKw_led (s : State) (v : Kwelo) : (s.setKw v).led = s.led := rfl
@[simp] theorem State.setKw_kw (s : State) (v : Kwelo) : (s.setKw v).kw = v := rfl
@[simp] theorem State.setKw_lanes (s : State) (v : Kwelo) : (s.setKw v).lanes = s.lanes := rfl
@[simp] theorem State.setKw_pln (s : State) (v : Kwelo) : (s.setKw v).pln = s.pln := rfl
@[simp] theorem State.setKw_fab (s : State) (v : Kwelo) : (s.setKw v).fab = s.fab := rfl
@[simp] theorem State.setKw_draw (s : State) (v : Kwelo) : (s.setKw v).draw = s.draw := rfl
@[simp] theorem State.setKw_asy (s : State) (v : Kwelo) : (s.setKw v).asy = s.asy := rfl
@[simp] theorem State.setKw_hm (s : State) (v : Kwelo) : (s.setKw v).hm = s.hm := rfl
@[simp] theorem State.setKw_dio (s : State) (v : Kwelo) : (s.setKw v).dio = s.dio := rfl
@[simp] theorem State.setKw_rcp (s : State) (v : Kwelo) : (s.setKw v).rcp = s.rcp := rfl
@[simp] theorem State.setKw_flt (s : State) (v : Kwelo) : (s.setKw v).flt = s.flt := rfl
@[simp] theorem State.setKw_pwr (s : State) (v : Kwelo) : (s.setKw v).pwr = s.pwr := rfl
@[simp] theorem State.setKw_boot (s : State) (v : Kwelo) : (s.setKw v).boot = s.boot := rfl
@[simp] theorem State.setLanes_pending (s : State) (v : Lanes) : (s.setLanes v).pending = s.pending := rfl
@[simp] theorem State.setLanes_now (s : State) (v : Lanes) : (s.setLanes v).now = s.now := rfl
@[simp] theorem State.setLanes_emitted (s : State) (v : Lanes) : (s.setLanes v).emitted = s.emitted := rfl
@[simp] theorem State.setLanes_host (s : State) (v : Lanes) : (s.setLanes v).host = s.host := rfl
@[simp] theorem State.setLanes_pos (s : State) (v : Lanes) : (s.setLanes v).pos = s.pos := rfl
@[simp] theorem State.setLanes_led (s : State) (v : Lanes) : (s.setLanes v).led = s.led := rfl
@[simp] theorem State.setLanes_kw (s : State) (v : Lanes) : (s.setLanes v).kw = s.kw := rfl
@[simp] theorem State.setLanes_lanes (s : State) (v : Lanes) : (s.setLanes v).lanes = v := rfl
@[simp] theorem State.setLanes_pln (s : State) (v : Lanes) : (s.setLanes v).pln = s.pln := rfl
@[simp] theorem State.setLanes_fab (s : State) (v : Lanes) : (s.setLanes v).fab = s.fab := rfl
@[simp] theorem State.setLanes_draw (s : State) (v : Lanes) : (s.setLanes v).draw = s.draw := rfl
@[simp] theorem State.setLanes_asy (s : State) (v : Lanes) : (s.setLanes v).asy = s.asy := rfl
@[simp] theorem State.setLanes_hm (s : State) (v : Lanes) : (s.setLanes v).hm = s.hm := rfl
@[simp] theorem State.setLanes_dio (s : State) (v : Lanes) : (s.setLanes v).dio = s.dio := rfl
@[simp] theorem State.setLanes_rcp (s : State) (v : Lanes) : (s.setLanes v).rcp = s.rcp := rfl
@[simp] theorem State.setLanes_flt (s : State) (v : Lanes) : (s.setLanes v).flt = s.flt := rfl
@[simp] theorem State.setLanes_pwr (s : State) (v : Lanes) : (s.setLanes v).pwr = s.pwr := rfl
@[simp] theorem State.setLanes_boot (s : State) (v : Lanes) : (s.setLanes v).boot = s.boot := rfl
@[simp] theorem State.setPln_pending (s : State) (v : Planish) : (s.setPln v).pending = s.pending := rfl
@[simp] theorem State.setPln_now (s : State) (v : Planish) : (s.setPln v).now = s.now := rfl
@[simp] theorem State.setPln_emitted (s : State) (v : Planish) : (s.setPln v).emitted = s.emitted := rfl
@[simp] theorem State.setPln_host (s : State) (v : Planish) : (s.setPln v).host = s.host := rfl
@[simp] theorem State.setPln_pos (s : State) (v : Planish) : (s.setPln v).pos = s.pos := rfl
@[simp] theorem State.setPln_led (s : State) (v : Planish) : (s.setPln v).led = s.led := rfl
@[simp] theorem State.setPln_kw (s : State) (v : Planish) : (s.setPln v).kw = s.kw := rfl
@[simp] theorem State.setPln_lanes (s : State) (v : Planish) : (s.setPln v).lanes = s.lanes := rfl
@[simp] theorem State.setPln_pln (s : State) (v : Planish) : (s.setPln v).pln = v := rfl
@[simp] theorem State.setPln_fab (s : State) (v : Planish) : (s.setPln v).fab = s.fab := rfl
@[simp] theorem State.setPln_draw (s : State) (v : Planish) : (s.setPln v).draw = s.draw := rfl
@[simp] theorem State.setPln_asy (s : State) (v : Planish) : (s.setPln v).asy = s.asy := rfl
@[simp] theorem State.setPln_hm (s : State) (v : Planish) : (s.setPln v).hm = s.hm := rfl
@[simp] theorem State.setPln_dio (s : State) (v : Planish) : (s.setPln v).dio = s.dio := rfl
@[simp] theorem State.setPln_rcp (s : State) (v : Planish) : (s.setPln v).rcp = s.rcp := rfl
@[simp] theorem State.setPln_flt (s : State) (v : Planish) : (s.setPln v).flt = s.flt := rfl
@[simp] theorem State.setPln_pwr (s : State) (v : Planish) : (s.setPln v).pwr = s.pwr := rfl
@[simp] theorem State.setPln_boot (s : State) (v : Planish) : (s.setPln v).boot = s.boot := rfl
@[simp] theorem State.setFab_pending (s : State) (v : Fabric) : (s.setFab v).pending = s.pending := rfl
@[simp] theorem State.setFab_now (s : State) (v : Fabric) : (s.setFab v).now = s.now := rfl
@[simp] theorem State.setFab_emitted (s : State) (v : Fabric) : (s.setFab v).emitted = s.emitted := rfl
@[simp] theorem State.setFab_host (s : State) (v : Fabric) : (s.setFab v).host = s.host := rfl
@[simp] theorem State.setFab_pos (s : State) (v : Fabric) : (s.setFab v).pos = s.pos := rfl
@[simp] theorem State.setFab_led (s : State) (v : Fabric) : (s.setFab v).led = s.led := rfl
@[simp] theorem State.setFab_kw (s : State) (v : Fabric) : (s.setFab v).kw = s.kw := rfl
@[simp] theorem State.setFab_lanes (s : State) (v : Fabric) : (s.setFab v).lanes = s.lanes := rfl
@[simp] theorem State.setFab_pln (s : State) (v : Fabric) : (s.setFab v).pln = s.pln := rfl
@[simp] theorem State.setFab_fab (s : State) (v : Fabric) : (s.setFab v).fab = v := rfl
@[simp] theorem State.setFab_draw (s : State) (v : Fabric) : (s.setFab v).draw = s.draw := rfl
@[simp] theorem State.setFab_asy (s : State) (v : Fabric) : (s.setFab v).asy = s.asy := rfl
@[simp] theorem State.setFab_hm (s : State) (v : Fabric) : (s.setFab v).hm = s.hm := rfl
@[simp] theorem State.setFab_dio (s : State) (v : Fabric) : (s.setFab v).dio = s.dio := rfl
@[simp] theorem State.setFab_rcp (s : State) (v : Fabric) : (s.setFab v).rcp = s.rcp := rfl
@[simp] theorem State.setFab_flt (s : State) (v : Fabric) : (s.setFab v).flt = s.flt := rfl
@[simp] theorem State.setFab_pwr (s : State) (v : Fabric) : (s.setFab v).pwr = s.pwr := rfl
@[simp] theorem State.setFab_boot (s : State) (v : Fabric) : (s.setFab v).boot = s.boot := rfl
@[simp] theorem State.setDraw_pending (s : State) (v : Draw) : (s.setDraw v).pending = s.pending := rfl
@[simp] theorem State.setDraw_now (s : State) (v : Draw) : (s.setDraw v).now = s.now := rfl
@[simp] theorem State.setDraw_emitted (s : State) (v : Draw) : (s.setDraw v).emitted = s.emitted := rfl
@[simp] theorem State.setDraw_host (s : State) (v : Draw) : (s.setDraw v).host = s.host := rfl
@[simp] theorem State.setDraw_pos (s : State) (v : Draw) : (s.setDraw v).pos = s.pos := rfl
@[simp] theorem State.setDraw_led (s : State) (v : Draw) : (s.setDraw v).led = s.led := rfl
@[simp] theorem State.setDraw_kw (s : State) (v : Draw) : (s.setDraw v).kw = s.kw := rfl
@[simp] theorem State.setDraw_lanes (s : State) (v : Draw) : (s.setDraw v).lanes = s.lanes := rfl
@[simp] theorem State.setDraw_pln (s : State) (v : Draw) : (s.setDraw v).pln = s.pln := rfl
@[simp] theorem State.setDraw_fab (s : State) (v : Draw) : (s.setDraw v).fab = s.fab := rfl
@[simp] theorem State.setDraw_draw (s : State) (v : Draw) : (s.setDraw v).draw = v := rfl
@[simp] theorem State.setDraw_asy (s : State) (v : Draw) : (s.setDraw v).asy = s.asy := rfl
@[simp] theorem State.setDraw_hm (s : State) (v : Draw) : (s.setDraw v).hm = s.hm := rfl
@[simp] theorem State.setDraw_dio (s : State) (v : Draw) : (s.setDraw v).dio = s.dio := rfl
@[simp] theorem State.setDraw_rcp (s : State) (v : Draw) : (s.setDraw v).rcp = s.rcp := rfl
@[simp] theorem State.setDraw_flt (s : State) (v : Draw) : (s.setDraw v).flt = s.flt := rfl
@[simp] theorem State.setDraw_pwr (s : State) (v : Draw) : (s.setDraw v).pwr = s.pwr := rfl
@[simp] theorem State.setDraw_boot (s : State) (v : Draw) : (s.setDraw v).boot = s.boot := rfl
@[simp] theorem State.setAsy_pending (s : State) (v : Assay) : (s.setAsy v).pending = s.pending := rfl
@[simp] theorem State.setAsy_now (s : State) (v : Assay) : (s.setAsy v).now = s.now := rfl
@[simp] theorem State.setAsy_emitted (s : State) (v : Assay) : (s.setAsy v).emitted = s.emitted := rfl
@[simp] theorem State.setAsy_host (s : State) (v : Assay) : (s.setAsy v).host = s.host := rfl
@[simp] theorem State.setAsy_pos (s : State) (v : Assay) : (s.setAsy v).pos = s.pos := rfl
@[simp] theorem State.setAsy_led (s : State) (v : Assay) : (s.setAsy v).led = s.led := rfl
@[simp] theorem State.setAsy_kw (s : State) (v : Assay) : (s.setAsy v).kw = s.kw := rfl
@[simp] theorem State.setAsy_lanes (s : State) (v : Assay) : (s.setAsy v).lanes = s.lanes := rfl
@[simp] theorem State.setAsy_pln (s : State) (v : Assay) : (s.setAsy v).pln = s.pln := rfl
@[simp] theorem State.setAsy_fab (s : State) (v : Assay) : (s.setAsy v).fab = s.fab := rfl
@[simp] theorem State.setAsy_draw (s : State) (v : Assay) : (s.setAsy v).draw = s.draw := rfl
@[simp] theorem State.setAsy_asy (s : State) (v : Assay) : (s.setAsy v).asy = v := rfl
@[simp] theorem State.setAsy_hm (s : State) (v : Assay) : (s.setAsy v).hm = s.hm := rfl
@[simp] theorem State.setAsy_dio (s : State) (v : Assay) : (s.setAsy v).dio = s.dio := rfl
@[simp] theorem State.setAsy_rcp (s : State) (v : Assay) : (s.setAsy v).rcp = s.rcp := rfl
@[simp] theorem State.setAsy_flt (s : State) (v : Assay) : (s.setAsy v).flt = s.flt := rfl
@[simp] theorem State.setAsy_pwr (s : State) (v : Assay) : (s.setAsy v).pwr = s.pwr := rfl
@[simp] theorem State.setAsy_boot (s : State) (v : Assay) : (s.setAsy v).boot = s.boot := rfl
@[simp] theorem State.setHm_pending (s : State) (v : Hallmark) : (s.setHm v).pending = s.pending := rfl
@[simp] theorem State.setHm_now (s : State) (v : Hallmark) : (s.setHm v).now = s.now := rfl
@[simp] theorem State.setHm_emitted (s : State) (v : Hallmark) : (s.setHm v).emitted = s.emitted := rfl
@[simp] theorem State.setHm_host (s : State) (v : Hallmark) : (s.setHm v).host = s.host := rfl
@[simp] theorem State.setHm_pos (s : State) (v : Hallmark) : (s.setHm v).pos = s.pos := rfl
@[simp] theorem State.setHm_led (s : State) (v : Hallmark) : (s.setHm v).led = s.led := rfl
@[simp] theorem State.setHm_kw (s : State) (v : Hallmark) : (s.setHm v).kw = s.kw := rfl
@[simp] theorem State.setHm_lanes (s : State) (v : Hallmark) : (s.setHm v).lanes = s.lanes := rfl
@[simp] theorem State.setHm_pln (s : State) (v : Hallmark) : (s.setHm v).pln = s.pln := rfl
@[simp] theorem State.setHm_fab (s : State) (v : Hallmark) : (s.setHm v).fab = s.fab := rfl
@[simp] theorem State.setHm_draw (s : State) (v : Hallmark) : (s.setHm v).draw = s.draw := rfl
@[simp] theorem State.setHm_asy (s : State) (v : Hallmark) : (s.setHm v).asy = s.asy := rfl
@[simp] theorem State.setHm_hm (s : State) (v : Hallmark) : (s.setHm v).hm = v := rfl
@[simp] theorem State.setHm_dio (s : State) (v : Hallmark) : (s.setHm v).dio = s.dio := rfl
@[simp] theorem State.setHm_rcp (s : State) (v : Hallmark) : (s.setHm v).rcp = s.rcp := rfl
@[simp] theorem State.setHm_flt (s : State) (v : Hallmark) : (s.setHm v).flt = s.flt := rfl
@[simp] theorem State.setHm_pwr (s : State) (v : Hallmark) : (s.setHm v).pwr = s.pwr := rfl
@[simp] theorem State.setHm_boot (s : State) (v : Hallmark) : (s.setHm v).boot = s.boot := rfl
@[simp] theorem State.setDio_pending (s : State) (v : FieldIo) : (s.setDio v).pending = s.pending := rfl
@[simp] theorem State.setDio_now (s : State) (v : FieldIo) : (s.setDio v).now = s.now := rfl
@[simp] theorem State.setDio_emitted (s : State) (v : FieldIo) : (s.setDio v).emitted = s.emitted := rfl
@[simp] theorem State.setDio_host (s : State) (v : FieldIo) : (s.setDio v).host = s.host := rfl
@[simp] theorem State.setDio_pos (s : State) (v : FieldIo) : (s.setDio v).pos = s.pos := rfl
@[simp] theorem State.setDio_led (s : State) (v : FieldIo) : (s.setDio v).led = s.led := rfl
@[simp] theorem State.setDio_kw (s : State) (v : FieldIo) : (s.setDio v).kw = s.kw := rfl
@[simp] theorem State.setDio_lanes (s : State) (v : FieldIo) : (s.setDio v).lanes = s.lanes := rfl
@[simp] theorem State.setDio_pln (s : State) (v : FieldIo) : (s.setDio v).pln = s.pln := rfl
@[simp] theorem State.setDio_fab (s : State) (v : FieldIo) : (s.setDio v).fab = s.fab := rfl
@[simp] theorem State.setDio_draw (s : State) (v : FieldIo) : (s.setDio v).draw = s.draw := rfl
@[simp] theorem State.setDio_asy (s : State) (v : FieldIo) : (s.setDio v).asy = s.asy := rfl
@[simp] theorem State.setDio_hm (s : State) (v : FieldIo) : (s.setDio v).hm = s.hm := rfl
@[simp] theorem State.setDio_dio (s : State) (v : FieldIo) : (s.setDio v).dio = v := rfl
@[simp] theorem State.setDio_rcp (s : State) (v : FieldIo) : (s.setDio v).rcp = s.rcp := rfl
@[simp] theorem State.setDio_flt (s : State) (v : FieldIo) : (s.setDio v).flt = s.flt := rfl
@[simp] theorem State.setDio_pwr (s : State) (v : FieldIo) : (s.setDio v).pwr = s.pwr := rfl
@[simp] theorem State.setDio_boot (s : State) (v : FieldIo) : (s.setDio v).boot = s.boot := rfl
@[simp] theorem State.setRcp_pending (s : State) (v : Recipes) : (s.setRcp v).pending = s.pending := rfl
@[simp] theorem State.setRcp_now (s : State) (v : Recipes) : (s.setRcp v).now = s.now := rfl
@[simp] theorem State.setRcp_emitted (s : State) (v : Recipes) : (s.setRcp v).emitted = s.emitted := rfl
@[simp] theorem State.setRcp_host (s : State) (v : Recipes) : (s.setRcp v).host = s.host := rfl
@[simp] theorem State.setRcp_pos (s : State) (v : Recipes) : (s.setRcp v).pos = s.pos := rfl
@[simp] theorem State.setRcp_led (s : State) (v : Recipes) : (s.setRcp v).led = s.led := rfl
@[simp] theorem State.setRcp_kw (s : State) (v : Recipes) : (s.setRcp v).kw = s.kw := rfl
@[simp] theorem State.setRcp_lanes (s : State) (v : Recipes) : (s.setRcp v).lanes = s.lanes := rfl
@[simp] theorem State.setRcp_pln (s : State) (v : Recipes) : (s.setRcp v).pln = s.pln := rfl
@[simp] theorem State.setRcp_fab (s : State) (v : Recipes) : (s.setRcp v).fab = s.fab := rfl
@[simp] theorem State.setRcp_draw (s : State) (v : Recipes) : (s.setRcp v).draw = s.draw := rfl
@[simp] theorem State.setRcp_asy (s : State) (v : Recipes) : (s.setRcp v).asy = s.asy := rfl
@[simp] theorem State.setRcp_hm (s : State) (v : Recipes) : (s.setRcp v).hm = s.hm := rfl
@[simp] theorem State.setRcp_dio (s : State) (v : Recipes) : (s.setRcp v).dio = s.dio := rfl
@[simp] theorem State.setRcp_rcp (s : State) (v : Recipes) : (s.setRcp v).rcp = v := rfl
@[simp] theorem State.setRcp_flt (s : State) (v : Recipes) : (s.setRcp v).flt = s.flt := rfl
@[simp] theorem State.setRcp_pwr (s : State) (v : Recipes) : (s.setRcp v).pwr = s.pwr := rfl
@[simp] theorem State.setRcp_boot (s : State) (v : Recipes) : (s.setRcp v).boot = s.boot := rfl
@[simp] theorem State.setFlt_pending (s : State) (v : Faults) : (s.setFlt v).pending = s.pending := rfl
@[simp] theorem State.setFlt_now (s : State) (v : Faults) : (s.setFlt v).now = s.now := rfl
@[simp] theorem State.setFlt_emitted (s : State) (v : Faults) : (s.setFlt v).emitted = s.emitted := rfl
@[simp] theorem State.setFlt_host (s : State) (v : Faults) : (s.setFlt v).host = s.host := rfl
@[simp] theorem State.setFlt_pos (s : State) (v : Faults) : (s.setFlt v).pos = s.pos := rfl
@[simp] theorem State.setFlt_led (s : State) (v : Faults) : (s.setFlt v).led = s.led := rfl
@[simp] theorem State.setFlt_kw (s : State) (v : Faults) : (s.setFlt v).kw = s.kw := rfl
@[simp] theorem State.setFlt_lanes (s : State) (v : Faults) : (s.setFlt v).lanes = s.lanes := rfl
@[simp] theorem State.setFlt_pln (s : State) (v : Faults) : (s.setFlt v).pln = s.pln := rfl
@[simp] theorem State.setFlt_fab (s : State) (v : Faults) : (s.setFlt v).fab = s.fab := rfl
@[simp] theorem State.setFlt_draw (s : State) (v : Faults) : (s.setFlt v).draw = s.draw := rfl
@[simp] theorem State.setFlt_asy (s : State) (v : Faults) : (s.setFlt v).asy = s.asy := rfl
@[simp] theorem State.setFlt_hm (s : State) (v : Faults) : (s.setFlt v).hm = s.hm := rfl
@[simp] theorem State.setFlt_dio (s : State) (v : Faults) : (s.setFlt v).dio = s.dio := rfl
@[simp] theorem State.setFlt_rcp (s : State) (v : Faults) : (s.setFlt v).rcp = s.rcp := rfl
@[simp] theorem State.setFlt_flt (s : State) (v : Faults) : (s.setFlt v).flt = v := rfl
@[simp] theorem State.setFlt_pwr (s : State) (v : Faults) : (s.setFlt v).pwr = s.pwr := rfl
@[simp] theorem State.setFlt_boot (s : State) (v : Faults) : (s.setFlt v).boot = s.boot := rfl
@[simp] theorem State.setPwr_pending (s : State) (v : Power) : (s.setPwr v).pending = s.pending := rfl
@[simp] theorem State.setPwr_now (s : State) (v : Power) : (s.setPwr v).now = s.now := rfl
@[simp] theorem State.setPwr_emitted (s : State) (v : Power) : (s.setPwr v).emitted = s.emitted := rfl
@[simp] theorem State.setPwr_host (s : State) (v : Power) : (s.setPwr v).host = s.host := rfl
@[simp] theorem State.setPwr_pos (s : State) (v : Power) : (s.setPwr v).pos = s.pos := rfl
@[simp] theorem State.setPwr_led (s : State) (v : Power) : (s.setPwr v).led = s.led := rfl
@[simp] theorem State.setPwr_kw (s : State) (v : Power) : (s.setPwr v).kw = s.kw := rfl
@[simp] theorem State.setPwr_lanes (s : State) (v : Power) : (s.setPwr v).lanes = s.lanes := rfl
@[simp] theorem State.setPwr_pln (s : State) (v : Power) : (s.setPwr v).pln = s.pln := rfl
@[simp] theorem State.setPwr_fab (s : State) (v : Power) : (s.setPwr v).fab = s.fab := rfl
@[simp] theorem State.setPwr_draw (s : State) (v : Power) : (s.setPwr v).draw = s.draw := rfl
@[simp] theorem State.setPwr_asy (s : State) (v : Power) : (s.setPwr v).asy = s.asy := rfl
@[simp] theorem State.setPwr_hm (s : State) (v : Power) : (s.setPwr v).hm = s.hm := rfl
@[simp] theorem State.setPwr_dio (s : State) (v : Power) : (s.setPwr v).dio = s.dio := rfl
@[simp] theorem State.setPwr_rcp (s : State) (v : Power) : (s.setPwr v).rcp = s.rcp := rfl
@[simp] theorem State.setPwr_flt (s : State) (v : Power) : (s.setPwr v).flt = s.flt := rfl
@[simp] theorem State.setPwr_pwr (s : State) (v : Power) : (s.setPwr v).pwr = v := rfl
@[simp] theorem State.setPwr_boot (s : State) (v : Power) : (s.setPwr v).boot = s.boot := rfl
@[simp] theorem State.setBoot_pending (s : State) (v : Boot) : (s.setBoot v).pending = s.pending := rfl
@[simp] theorem State.setBoot_now (s : State) (v : Boot) : (s.setBoot v).now = s.now := rfl
@[simp] theorem State.setBoot_emitted (s : State) (v : Boot) : (s.setBoot v).emitted = s.emitted := rfl
@[simp] theorem State.setBoot_host (s : State) (v : Boot) : (s.setBoot v).host = s.host := rfl
@[simp] theorem State.setBoot_pos (s : State) (v : Boot) : (s.setBoot v).pos = s.pos := rfl
@[simp] theorem State.setBoot_led (s : State) (v : Boot) : (s.setBoot v).led = s.led := rfl
@[simp] theorem State.setBoot_kw (s : State) (v : Boot) : (s.setBoot v).kw = s.kw := rfl
@[simp] theorem State.setBoot_lanes (s : State) (v : Boot) : (s.setBoot v).lanes = s.lanes := rfl
@[simp] theorem State.setBoot_pln (s : State) (v : Boot) : (s.setBoot v).pln = s.pln := rfl
@[simp] theorem State.setBoot_fab (s : State) (v : Boot) : (s.setBoot v).fab = s.fab := rfl
@[simp] theorem State.setBoot_draw (s : State) (v : Boot) : (s.setBoot v).draw = s.draw := rfl
@[simp] theorem State.setBoot_asy (s : State) (v : Boot) : (s.setBoot v).asy = s.asy := rfl
@[simp] theorem State.setBoot_hm (s : State) (v : Boot) : (s.setBoot v).hm = s.hm := rfl
@[simp] theorem State.setBoot_dio (s : State) (v : Boot) : (s.setBoot v).dio = s.dio := rfl
@[simp] theorem State.setBoot_rcp (s : State) (v : Boot) : (s.setBoot v).rcp = s.rcp := rfl
@[simp] theorem State.setBoot_flt (s : State) (v : Boot) : (s.setBoot v).flt = s.flt := rfl
@[simp] theorem State.setBoot_pwr (s : State) (v : Boot) : (s.setBoot v).pwr = s.pwr := rfl
@[simp] theorem State.setBoot_boot (s : State) (v : Boot) : (s.setBoot v).boot = v := rfl

end Sys2Proof.Machine
end

