-- ==== Sys2Proof/Laws/Frames.lean ====
section
/-! SUPPORT. What every operation of the machine leaves alone: each lemma names the chapters of State that its operation can
change, and says that nothing outside a list that holds them differs from an earlier state `z`. -/

set_option maxRecDepth 4000
set_option linter.unusedTactic false
set_option linter.unreachableTactic false

namespace Sys2Proof.Machine
open Sys2Proof

theorem Frame.refl (l : List Chapter) (s : State) : Frame l s s := by
  intro p _; cases p <;> rfl
theorem Chapter.same_trans {p : Chapter} {s t u : State} (h1 : p.same s t) (h2 : p.same t u) : p.same s u := by
  cases p <;> exact Eq.trans h2 h1
theorem Frame.step {l m : List Chapter} {s t u : State} (h : Frame m t u) (hs : m ⊆ l) (h0 : Frame l s t) : Frame l s u :=
  fun p hp => Chapter.same_trans (h0 p hp) (h p fun hm => hp (hs hm))
theorem Frame.trans' {l : List Chapter} {s t u : State} (h0 : Frame l s t) (h : Frame l t u) : Frame l s u :=
  fun p hp => Chapter.same_trans (h0 p hp) (h p hp)
theorem Frame.mono {l m : List Chapter} {s t : State} (h : Frame m s t) (hs : m ⊆ l) : Frame l s t := fun p hp => h p fun hm => hp (hs hm)
theorem Frame.fold {α : Type} {l : List Chapter} {f : State → α → State} (xs : List α) {z s : State}
    (hf : ∀ s a, Frame l z s → Frame l z (f s a)) (h : Frame l z s) : Frame l z (xs.foldl f s) := by
  induction xs generalizing s with
  | nil => exact h
  | cons a r ih => exact ih (hf s a h)
/-- The same of a command's outcome. -/
def FrameNext (l : List Chapter) (s : State) (o : Host.Outcome State Fault Refusal) : Prop := ∀ t, o = .next t → Frame l s t
theorem FrameNext.next {l : List Chapter} {s t : State} (h : Frame l s t) : FrameNext l s (.next t) := by
  intro u e; cases e; exact h
theorem State.setNow_frame {l : List Chapter} {z : State} (s : State) (v : Nat) (hl : [.now] ⊆ l) (hz : Frame l z s) :
    Frame l z (s.setNow v) := by
  refine hz.trans' fun p hp => ?_
  cases p <;> first | rfl | exact absurd (hl (List.mem_singleton.2 rfl)) hp
theorem State.setEmitted_frame {l : List Chapter} {z : State} (s : State) (v : List Emit)
    (hl : [.emitted] ⊆ l) (hz : Frame l z s) : Frame l z (s.setEmitted v) := by
  refine hz.trans' fun p hp => ?_
  cases p <;> first | rfl | exact absurd (hl (List.mem_singleton.2 rfl)) hp
theorem State.setHost_frame {l : List Chapter} {z : State} (s : State) (v : Memory) (hl : [.host] ⊆ l) (hz : Frame l z s) :
    Frame l z (s.setHost v) := by
  refine hz.trans' fun p hp => ?_
  cases p <;> first | rfl | exact absurd (hl (List.mem_singleton.2 rfl)) hp
theorem State.setPos_frame {l : List Chapter} {z : State} (s : State) (v : Position) (hl : [.pos] ⊆ l) (hz : Frame l z s) :
    Frame l z (s.setPos v) := by
  refine hz.trans' fun p hp => ?_
  cases p <;> first | rfl | exact absurd (hl (List.mem_singleton.2 rfl)) hp
theorem State.setLed_frame {l : List Chapter} {z : State} (s : State) (v : Ledger) (hl : [.led] ⊆ l) (hz : Frame l z s) :
    Frame l z (s.setLed v) := by
  refine hz.trans' fun p hp => ?_
  cases p <;> first | rfl | exact absurd (hl (List.mem_singleton.2 rfl)) hp
theorem State.setKw_frame {l : List Chapter} {z : State} (s : State) (v : Kwelo) (hl : [.kw] ⊆ l) (hz : Frame l z s) :
    Frame l z (s.setKw v) := by
  refine hz.trans' fun p hp => ?_
  cases p <;> first | rfl | exact absurd (hl (List.mem_singleton.2 rfl)) hp
theorem State.setLanes_frame {l : List Chapter} {z : State} (s : State) (v : Lanes) (hl : [.lanes] ⊆ l) (hz : Frame l z s) :
    Frame l z (s.setLanes v) := by
  refine hz.trans' fun p hp => ?_
  cases p <;> first | rfl | exact absurd (hl (List.mem_singleton.2 rfl)) hp
theorem State.setPln_frame {l : List Chapter} {z : State} (s : State) (v : Planish) (hl : [.pln] ⊆ l) (hz : Frame l z s) :
    Frame l z (s.setPln v) := by
  refine hz.trans' fun p hp => ?_
  cases p <;> first | rfl | exact absurd (hl (List.mem_singleton.2 rfl)) hp
theorem State.setFab_frame {l : List Chapter} {z : State} (s : State) (v : Fabric) (hl : [.fab] ⊆ l) (hz : Frame l z s) :
    Frame l z (s.setFab v) := by
  refine hz.trans' fun p hp => ?_
  cases p <;> first | rfl | exact absurd (hl (List.mem_singleton.2 rfl)) hp
theorem State.setDraw_frame {l : List Chapter} {z : State} (s : State) (v : Draw) (hl : [.draw] ⊆ l) (hz : Frame l z s) :
    Frame l z (s.setDraw v) := by
  refine hz.trans' fun p hp => ?_
  cases p <;> first | rfl | exact absurd (hl (List.mem_singleton.2 rfl)) hp
theorem State.setAsy_frame {l : List Chapter} {z : State} (s : State) (v : Assay) (hl : [.asy] ⊆ l) (hz : Frame l z s) :
    Frame l z (s.setAsy v) := by
  refine hz.trans' fun p hp => ?_
  cases p <;> first | rfl | exact absurd (hl (List.mem_singleton.2 rfl)) hp
theorem State.setHm_frame {l : List Chapter} {z : State} (s : State) (v : Hallmark) (hl : [.hm] ⊆ l) (hz : Frame l z s) :
    Frame l z (s.setHm v) := by
  refine hz.trans' fun p hp => ?_
  cases p <;> first | rfl | exact absurd (hl (List.mem_singleton.2 rfl)) hp
theorem State.setDio_frame {l : List Chapter} {z : State} (s : State) (v : FieldIo) (hl : [.dio] ⊆ l) (hz : Frame l z s) :
    Frame l z (s.setDio v) := by
  refine hz.trans' fun p hp => ?_
  cases p <;> first | rfl | exact absurd (hl (List.mem_singleton.2 rfl)) hp
theorem State.setRcp_frame {l : List Chapter} {z : State} (s : State) (v : Recipes) (hl : [.rcp] ⊆ l) (hz : Frame l z s) :
    Frame l z (s.setRcp v) := by
  refine hz.trans' fun p hp => ?_
  cases p <;> first | rfl | exact absurd (hl (List.mem_singleton.2 rfl)) hp
theorem State.setFlt_frame {l : List Chapter} {z : State} (s : State) (v : Faults) (hl : [.flt] ⊆ l) (hz : Frame l z s) :
    Frame l z (s.setFlt v) := by
  refine hz.trans' fun p hp => ?_
  cases p <;> first | rfl | exact absurd (hl (List.mem_singleton.2 rfl)) hp
theorem State.setPwr_frame {l : List Chapter} {z : State} (s : State) (v : Power) (hl : [.pwr] ⊆ l) (hz : Frame l z s) :
    Frame l z (s.setPwr v) := by
  refine hz.trans' fun p hp => ?_
  cases p <;> first | rfl | exact absurd (hl (List.mem_singleton.2 rfl)) hp
theorem State.setBoot_frame {l : List Chapter} {z : State} (s : State) (v : Boot) (hl : [.boot] ⊆ l) (hz : Frame l z s) :
    Frame l z (s.setBoot v) := by
  refine hz.trans' fun p hp => ?_
  cases p <;> first | rfl | exact absurd (hl (List.mem_singleton.2 rfl)) hp

theorem State.at__frame {fr : List Chapter} {z : State} (s : State) (t : Nat) (hl : [.now] ⊆ fr) (hz : Frame fr z s) :
    Frame fr z (State.at_ s t) := by
  unfold State.at_
  try dsimp only
  repeat' first
    | (with_reducible first
        | exact hz | assumption | apply State.setNow_frame | apply Frame.fold)
    | split | exact List.Subset.trans (by decide) hl | intro _

theorem State.emit_frame {fr : List Chapter} {z : State} (s : State) (e : Emit) (hl : [.emitted] ⊆ fr) (hz : Frame fr z s) :
    Frame fr z (State.emit s e) := by
  unfold State.emit
  try dsimp only
  repeat' first
    | (with_reducible first
        | exact hz | assumption | apply State.setEmitted_frame | apply Frame.fold)
    | split | exact List.Subset.trans (by decide) hl | intro _

theorem modTen_frame {fr : List Chapter} {z : State} (n : Nat) (f : Tenant → Tenant) (s : State) (hl : [.kw] ⊆ fr)
    (hz : Frame fr z s) : Frame fr z (modTen n f s) := by
  unfold modTen
  try dsimp only
  repeat' first
    | (with_reducible first
        | exact hz | assumption | apply State.setKw_frame | apply Frame.fold)
    | split | exact List.Subset.trans (by decide) hl | intro _

theorem countFenced_frame {fr : List Chapter} {z : State} (n : Nat) (s : State) (hl : [.kw] ⊆ fr) (hz : Frame fr z s) :
    Frame fr z (countFenced n s) := by
  unfold countFenced
  try dsimp only
  repeat' first
    | (with_reducible first
        | exact hz | assumption | apply modTen_frame | apply Frame.fold)
    | split | exact List.Subset.trans (by decide) hl | intro _

theorem msixSend_frame {fr : List Chapter} {z : State} (n : Nat) (v : Nat) (s : State) (hl : [.emitted, .kw] ⊆ fr)
    (hz : Frame fr z s) : Frame fr z (msixSend n v s) := by
  unfold msixSend
  try dsimp only
  repeat' first
    | (with_reducible first
        | exact hz | assumption | apply modTen_frame | apply State.emit_frame | apply Frame.fold)
    | split | exact List.Subset.trans (by decide) hl | intro _

theorem logFault_frame {fr : List Chapter} {z : State} (e : LogEntry) (s : State) (hl : [.flt] ⊆ fr) (hz : Frame fr z s) :
    Frame fr z (logFault e s) := by
  unfold logFault
  try dsimp only
  repeat' first
    | (with_reducible first
        | exact hz | assumption | apply State.setFlt_frame | apply Frame.fold)
    | split | exact List.Subset.trans (by decide) hl | intro _

theorem writeSlot_frame {fr : List Chapter} {z : State} (n : Nat) (vector : Nat) (body : Bytes) (s : State)
    (hl : [.host, .kw] ⊆ fr) (hz : Frame fr z s) : Frame fr z (writeSlot n vector body s) := by
  unfold writeSlot
  try dsimp only
  repeat' first
    | (with_reducible first
        | exact hz | assumption | apply modTen_frame | apply State.setHost_frame | apply Frame.fold)
    | split | exact List.Subset.trans (by decide) hl | intro _

theorem modP_frame {fr : List Chapter} {z : State} (r : Ref) (f : Packet → Packet) (s : State) (hl : [.kw] ⊆ fr)
    (hz : Frame fr z s) : Frame fr z (modP r f s) := by
  unfold modP
  try dsimp only
  repeat' first
    | (with_reducible first
        | exact hz | assumption | apply State.setKw_frame | apply Frame.fold)
    | split | exact List.Subset.trans (by decide) hl | intro _

theorem dropP_frame {fr : List Chapter} {z : State} (r : Ref) (s : State) (hl : [.kw] ⊆ fr) (hz : Frame fr z s) :
    Frame fr z (dropP r s) := by
  unfold dropP
  try dsimp only
  repeat' first
    | (with_reducible first
        | exact hz | assumption | apply State.setKw_frame | apply Frame.fold)
    | split | exact List.Subset.trans (by decide) hl | intro _

theorem commitP_frame {fr : List Chapter} {z : State} (r : Ref) (s : State) (hl : [.kw] ⊆ fr) (hz : Frame fr z s) :
    Frame fr z (commitP r s) := by
  unfold commitP
  try dsimp only
  repeat' first
    | (with_reducible first
        | exact hz | assumption | apply modP_frame | apply Frame.fold)
    | split | exact List.Subset.trans (by decide) hl | intro _

theorem logOutcome_frame {fr : List Chapter} {z : State} (n : Nat) (e : OutcomeEntry) (s : State) (hl : [.kw] ⊆ fr)
    (hz : Frame fr z s) : Frame fr z (logOutcome n e s) := by
  unfold logOutcome
  try dsimp only
  repeat' first
    | (with_reducible first
        | exact hz | assumption | apply modTen_frame | apply Frame.fold)
    | split | exact List.Subset.trans (by decide) hl | intro _

theorem clearEn_frame {fr : List Chapter} {z : State} (n : Nat) (s : State) (hl : [.kw] ⊆ fr) (hz : Frame fr z s) :
    Frame fr z (clearEn n s) := by
  unfold clearEn
  try dsimp only
  repeat' first
    | (with_reducible first
        | exact hz | assumption | apply modTen_frame | apply State.setKw_frame | apply Frame.fold)
    | split | exact List.Subset.trans (by decide) hl | intro _

theorem setStatus_frame {fr : List Chapter} {z : State} (n : Nat) (bitNo : Nat) (s : State) (hl : [.kw] ⊆ fr)
    (hz : Frame fr z s) : Frame fr z (setStatus n bitNo s) := by
  unfold setStatus
  try dsimp only
  repeat' first
    | (with_reducible first
        | exact hz | assumption | apply modTen_frame | apply Frame.fold)
    | split | exact List.Subset.trans (by decide) hl | intro _

theorem withdraw_frame {fr : List Chapter} {z : State} (r : Ref) (s : State) (hl : [.fab] ⊆ fr) (hz : Frame fr z s) :
    Frame fr z (withdraw r s) := by
  unfold withdraw
  try dsimp only
  repeat' first
    | (with_reducible first
        | exact hz | assumption | apply State.setFab_frame | apply Frame.fold)
    | split | exact List.Subset.trans (by decide) hl | intro _

theorem logCancelled_frame {fr : List Chapter} {z : State} (l : List Packet) (s : State) (hl : [.kw, .fab] ⊆ fr)
    (hz : Frame fr z s) : Frame fr z (logCancelled l s) := by
  fun_induction logCancelled l s
  all_goals try dsimp only
  repeat' first
    | (with_reducible first
        | exact hz | apply_assumption | assumption | apply logOutcome_frame | apply withdraw_frame | apply dropP_frame
        | apply Frame.fold)
    | split | exact List.Subset.trans (by decide) hl | intro _

theorem ringError_frame {fr : List Chapter} {z : State} (n : Nat) (bitNo : Nat) (s : State)
    (hl : [.emitted, .kw, .fab] ⊆ fr) (hz : Frame fr z s) : Frame fr z (ringError n bitNo s) := by
  unfold ringError
  try dsimp only
  repeat' first
    | (with_reducible first
        | exact hz | assumption | apply msixSend_frame | apply setStatus_frame | apply clearEn_frame
        | apply logCancelled_frame | apply modTen_frame | apply Frame.fold)
    | split | exact List.Subset.trans (by decide) hl | intro _

theorem writeNotice_frame {fr : List Chapter} {z : State} (n : Nat) (nt : Notice) (s : State)
    (hl : [.emitted, .host, .kw] ⊆ fr) (hz : Frame fr z s) : Frame fr z (writeNotice n nt s) := by
  unfold writeNotice
  try dsimp only
  repeat' first
    | (with_reducible first
        | exact hz | assumption | apply msixSend_frame | apply writeSlot_frame | apply Frame.fold)
    | split | exact List.Subset.trans (by decide) hl | intro _

theorem holdNotice_frame {fr : List Chapter} {z : State} (n : Nat) (nt : Notice) (s : State) (hl : [.kw] ⊆ fr)
    (hz : Frame fr z s) : Frame fr z (holdNotice n nt s) := by
  unfold holdNotice
  try dsimp only
  repeat' first
    | (with_reducible first
        | exact hz | assumption | apply modTen_frame | apply Frame.fold)
    | split | exact List.Subset.trans (by decide) hl | intro _

theorem noticeTo_frame {fr : List Chapter} {z : State} (n : Nat) (code : Half) (sp : Word) (data : Bytes) (s : State)
    (hl : [.emitted, .host, .kw, .fab] ⊆ fr) (hz : Frame fr z s) : Frame fr z (noticeTo n code sp data s) := by
  unfold noticeTo
  try dsimp only
  repeat' first
    | (with_reducible first
        | exact hz | assumption | apply modTen_frame | apply holdNotice_frame | apply ringError_frame
        | apply writeNotice_frame | apply Frame.fold)
    | split | exact List.Subset.trans (by decide) hl | intro _

theorem logNotice_frame {fr : List Chapter} {z : State} (code : Half) (sp : Word) (s : State) (hl : [.flt] ⊆ fr)
    (hz : Frame fr z s) : Frame fr z (logNotice code sp s) := by
  unfold logNotice
  try dsimp only
  repeat' first
    | (with_reducible first
        | exact hz | assumption | apply logFault_frame | apply Frame.fold)
    | split | exact List.Subset.trans (by decide) hl | intro _

theorem noticeAll_frame {fr : List Chapter} {z : State} (l : List Nat) (code : Half) (sp : Word) (data : Bytes)
    (s : State) (hl : [.emitted, .host, .kw, .fab] ⊆ fr) (hz : Frame fr z s) :
    Frame fr z (noticeAll l code sp data s) := by
  fun_induction noticeAll l code sp data s
  all_goals try dsimp only
  repeat' first
    | (with_reducible first
        | exact hz | apply_assumption | assumption | apply noticeTo_frame | apply Frame.fold)
    | split | exact List.Subset.trans (by decide) hl | intro _

theorem noticeUnitAt_frame {fr : List Chapter} {z : State} (code : Half) (sp : Word) (data : Bytes) (s : State)
    (hl : [.emitted, .host, .kw, .fab, .flt] ⊆ fr) (hz : Frame fr z s) : Frame fr z (noticeUnitAt code sp data s) := by
  unfold noticeUnitAt
  try dsimp only
  repeat' first
    | (with_reducible first
        | exact hz | assumption | apply logNotice_frame | apply noticeAll_frame | apply Frame.fold)
    | split | exact List.Subset.trans (by decide) hl | intro _

theorem noticeUnit_frame {fr : List Chapter} {z : State} (code : Half) (data : Bytes) (s : State)
    (hl : [.emitted, .host, .kw, .fab, .flt] ⊆ fr) (hz : Frame fr z s) : Frame fr z (noticeUnit code data s) := by
  unfold noticeUnit
  try dsimp only
  repeat' first
    | (with_reducible first
        | exact hz | assumption | apply noticeUnitAt_frame | apply Frame.fold)
    | split | exact List.Subset.trans (by decide) hl | intro _

theorem noticeHolderAt_frame {fr : List Chapter} {z : State} (n : Nat) (code : Half) (sp : Word) (data : Bytes)
    (s : State) (hl : [.emitted, .host, .kw, .fab, .flt] ⊆ fr) (hz : Frame fr z s) :
    Frame fr z (noticeHolderAt n code sp data s) := by
  unfold noticeHolderAt
  try dsimp only
  repeat' first
    | (with_reducible first
        | exact hz | assumption | apply logNotice_frame | apply noticeTo_frame | apply Frame.fold)
    | split | exact List.Subset.trans (by decide) hl | intro _

theorem noticeHolder_frame {fr : List Chapter} {z : State} (n : Nat) (code : Half) (data : Bytes) (s : State)
    (hl : [.emitted, .host, .kw, .fab, .flt] ⊆ fr) (hz : Frame fr z s) : Frame fr z (noticeHolder n code data s) := by
  unfold noticeHolder
  try dsimp only
  repeat' first
    | (with_reducible first
        | exact hz | assumption | apply noticeHolderAt_frame | apply Frame.fold)
    | split | exact List.Subset.trans (by decide) hl | intro _

theorem writeOverflow_frame {fr : List Chapter} {z : State} (n : Nat) (s : State) (hl : [.emitted, .host, .kw] ⊆ fr)
    (hz : Frame fr z s) : Frame fr z (writeOverflow n s) := by
  unfold writeOverflow
  try dsimp only
  repeat' first
    | (with_reducible first
        | exact hz | assumption | apply writeNotice_frame | apply modTen_frame | apply Frame.fold)
    | split | exact List.Subset.trans (by decide) hl | intro _

theorem deliverOne_frame {fr : List Chapter} {z : State} (n : Nat) (s : State) (hl : [.emitted, .host, .kw, .fab] ⊆ fr)
    (hz : Frame fr z s) : Frame fr z (deliverOne n s) := by
  unfold deliverOne
  try dsimp only
  repeat' first
    | (with_reducible first
        | exact hz | assumption | apply ringError_frame | apply writeOverflow_frame | apply writeNotice_frame
        | apply modTen_frame | apply Frame.fold)
    | split | exact List.Subset.trans (by decide) hl | intro _

theorem deliverMany_frame {fr : List Chapter} {z : State} (k : Nat) (n : Nat) (s : State)
    (hl : [.emitted, .host, .kw, .fab] ⊆ fr) (hz : Frame fr z s) : Frame fr z (deliverMany k n s) := by
  fun_induction deliverMany k n s
  all_goals try dsimp only
  repeat' first
    | (with_reducible first
        | exact hz | apply_assumption | assumption | apply deliverOne_frame | apply Frame.fold)
    | split | exact List.Subset.trans (by decide) hl | intro _

theorem coalesce_frame {fr : List Chapter} {z : State} (n : Nat) (notify : Bool) (s : State) (hl : [.emitted, .kw] ⊆ fr)
    (hz : Frame fr z s) : Frame fr z (coalesce n notify s) := by
  unfold coalesce
  try dsimp only
  repeat' first
    | (with_reducible first
        | exact hz | assumption | apply msixSend_frame | apply modTen_frame | apply Frame.fold)
    | split | exact List.Subset.trans (by decide) hl | intro _

theorem logReply_frame {fr : List Chapter} {z : State} (i : ReplyInfo) (s : State) (hl : [.kw] ⊆ fr) (hz : Frame fr z s) :
    Frame fr z (logReply i s) := by
  unfold logReply
  try dsimp only
  repeat' first
    | (with_reducible first
        | exact hz | assumption | apply logOutcome_frame | apply Frame.fold)
    | split | exact List.Subset.trans (by decide) hl | intro _

theorem ringReply_frame {fr : List Chapter} {z : State} (i : ReplyInfo) (s : State) (hl : [.emitted, .host, .kw] ⊆ fr)
    (hz : Frame fr z s) : Frame fr z (ringReply i s) := by
  unfold ringReply
  try dsimp only
  repeat' first
    | (with_reducible first
        | exact hz | assumption | apply State.setHost_frame | apply modTen_frame | apply coalesce_frame
        | apply writeSlot_frame | apply Frame.fold)
    | split | exact List.Subset.trans (by decide) hl | intro _

theorem tenantReply_frame {fr : List Chapter} {z : State} (i : ReplyInfo) (orphan : Bool) (s : State)
    (hl : [.emitted, .host, .kw, .fab] ⊆ fr) (hz : Frame fr z s) : Frame fr z (tenantReply i orphan s) := by
  unfold tenantReply
  try dsimp only
  repeat' first
    | (with_reducible first
        | exact hz | assumption | apply logReply_frame | apply ringError_frame | apply ringReply_frame
        | apply Frame.fold)
    | split | exact List.Subset.trans (by decide) hl | intro _

theorem sendSideband_frame {fr : List Chapter} {z : State} (addr : Word) (port : Half) (b : Bytes) (s : State)
    (hl : [.emitted, .kw] ⊆ fr) (hz : Frame fr z s) : Frame fr z (sendSideband addr port b s) := by
  unfold sendSideband
  try dsimp only
  repeat' first
    | (with_reducible first
        | exact hz | assumption | apply State.emit_frame | apply State.setKw_frame | apply Frame.fold)
    | split | exact List.Subset.trans (by decide) hl | intro _

theorem sidebandReply_frame {fr : List Chapter} {z : State} (addr : Word) (port : Half) (crc : Word) (i : ReplyInfo)
    (s : State) (hl : [.emitted, .kw] ⊆ fr) (hz : Frame fr z s) : Frame fr z (sidebandReply addr port crc i s) := by
  unfold sidebandReply
  try dsimp only
  repeat' first
    | (with_reducible first
        | exact hz | assumption | apply sendSideband_frame | apply State.setKw_frame | apply Frame.fold)
    | split | exact List.Subset.trans (by decide) hl | intro _

theorem deliver_frame {fr : List Chapter} {z : State} (p : Packet) (status : Half) (fence : Word) (sp : Word)
    (result : Bytes) (s : State) (hl : [.emitted, .host, .kw, .fab] ⊆ fr) (hz : Frame fr z s) :
    Frame fr z (deliver p status fence sp result s) := by
  unfold deliver
  try dsimp only
  repeat' first
    | (with_reducible first
        | exact hz | assumption | apply sidebandReply_frame | apply tenantReply_frame | apply Frame.fold)
    | split | exact List.Subset.trans (by decide) hl | intro _

theorem finish_frame {fr : List Chapter} {z : State} (p : Packet) (status : Half) (fence : Word) (sp : Word)
    (result : Bytes) (s : State) (hl : [.emitted, .host, .kw, .fab] ⊆ fr) (hz : Frame fr z s) :
    Frame fr z (finish p status fence sp result s) := by
  unfold finish
  try dsimp only
  repeat' first
    | (with_reducible first
        | exact hz | assumption | apply dropP_frame | apply State.setKw_frame | apply deliver_frame | apply Frame.fold)
    | split | exact List.Subset.trans (by decide) hl | intro _

theorem done_frame {fr : List Chapter} {z : State} (p : Packet) (status : Half) (result : Bytes) (s : State)
    (hl : [.emitted, .host, .kw, .fab] ⊆ fr) (hz : Frame fr z s) : Frame fr z (done p status result s) := by
  unfold done
  try dsimp only
  repeat' first
    | (with_reducible first
        | exact hz | assumption | apply finish_frame | apply Frame.fold)
    | split | exact List.Subset.trans (by decide) hl | intro _

theorem ok_frame {fr : List Chapter} {z : State} (p : Packet) (result : Bytes) (s : State)
    (hl : [.emitted, .host, .kw, .fab] ⊆ fr) (hz : Frame fr z s) : Frame fr z (ok p result s) := by
  unfold ok
  try dsimp only
  repeat' first
    | (with_reducible first
        | exact hz | assumption | apply done_frame | apply Frame.fold)
    | split | exact List.Subset.trans (by decide) hl | intro _

theorem doneLater_frame {fr : List Chapter} {z : State} (p : Packet) (status : Half) (result : Bytes) (s : State)
    (hl : [.emitted, .host, .kw, .fab] ⊆ fr) (hz : Frame fr z s) : Frame fr z (doneLater p status result s) := by
  unfold doneLater
  try dsimp only
  repeat' first
    | (with_reducible first
        | exact hz | assumption | apply finish_frame | apply Frame.fold)
    | split | exact List.Subset.trans (by decide) hl | intro _

theorem refuseWith_frame {fr : List Chapter} {z : State} (p : Packet) (status : Half) (result : Bytes) (s : State)
    (hl : [.emitted, .host, .kw, .fab] ⊆ fr) (hz : Frame fr z s) : Frame fr z (refuseWith p status result s) := by
  unfold refuseWith
  try dsimp only
  repeat' first
    | (with_reducible first
        | exact hz | assumption | apply done_frame | apply Frame.fold)
    | split | exact List.Subset.trans (by decide) hl | intro _

theorem refuse_frame {fr : List Chapter} {z : State} (p : Packet) (status : Half) (off : Nat) (s : State)
    (hl : [.emitted, .host, .kw, .fab] ⊆ fr) (hz : Frame fr z s) : Frame fr z (refuse p status off s) := by
  unfold refuse
  try dsimp only
  repeat' first
    | (with_reducible first
        | exact hz | assumption | apply done_frame | apply Frame.fold)
    | split | exact List.Subset.trans (by decide) hl | intro _

theorem cancelP_frame {fr : List Chapter} {z : State} (p : Packet) (status : Half) (fence : Word) (s : State)
    (hl : [.emitted, .host, .kw, .fab] ⊆ fr) (hz : Frame fr z s) : Frame fr z (cancelP p status fence s) := by
  unfold cancelP
  try dsimp only
  repeat' first
    | (with_reducible first
        | exact hz | assumption | apply finish_frame | apply withdraw_frame | apply Frame.fold)
    | split | exact List.Subset.trans (by decide) hl | intro _

theorem cancelAll_frame {fr : List Chapter} {z : State} (l : List Packet) (s : State)
    (hl : [.emitted, .host, .kw, .fab] ⊆ fr) (hz : Frame fr z s) : Frame fr z (cancelAll l s) := by
  fun_induction cancelAll l s
  all_goals try dsimp only
  repeat' first
    | (with_reducible first
        | exact hz | apply_assumption | assumption | apply cancelP_frame | apply Frame.fold)
    | split | exact List.Subset.trans (by decide) hl | intro _

theorem bumpFence_frame {fr : List Chapter} {z : State} (n : Nat) (s : State) (hl : [.emitted, .host, .kw, .fab] ⊆ fr)
    (hz : Frame fr z s) : Frame fr z (bumpFence n s) := by
  unfold bumpFence
  try dsimp only
  repeat' first
    | (with_reducible first
        | exact hz | assumption | apply cancelAll_frame | apply modTen_frame | apply Frame.fold)
    | split | exact List.Subset.trans (by decide) hl | intro _

theorem disableRing_frame {fr : List Chapter} {z : State} (n : Nat) (s : State) (hl : [.emitted, .host, .kw, .fab] ⊆ fr)
    (hz : Frame fr z s) : Frame fr z (disableRing n s) := by
  unfold disableRing
  try dsimp only
  repeat' first
    | (with_reducible first
        | exact hz | assumption | apply bumpFence_frame | apply clearEn_frame | apply Frame.fold)
    | split | exact List.Subset.trans (by decide) hl | intro _

theorem runOp_frame {fr : List Chapter} {z : State} (opcode : Half) (r : Ref) (s : State) (body : Packet → State → State)
    (hl : [.emitted, .host, .kw, .fab] ⊆ fr) (hz : Frame fr z s) (hb : ∀ p, Frame fr z (body p s)) : Frame fr z (runOp opcode r s body) := by
  unfold runOp
  split
  · split
    · exact cancelP_frame _ _ _ _ hl hz
    · split
      · exact refuse_frame _ _ _ _ (List.Subset.trans (by decide) hl) hz
      · exact hb _
  · exact hz

theorem wantRecord_frame {fr : List Chapter} {z : State} (cause : Nat) (s : State) (hl : [.boot] ⊆ fr) (hz : Frame fr z s) :
    Frame fr z (wantRecord cause s) := by
  unfold wantRecord
  try dsimp only
  repeat' first
    | (with_reducible first
        | exact hz | assumption | apply State.setBoot_frame | apply Frame.fold)
    | split | exact List.Subset.trans (by decide) hl | intro _

theorem countUpset_frame {fr : List Chapter} {z : State} (cls : Nat) (inst : Nat) (injected : Bool) (s : State)
    (hl : [.flt] ⊆ fr) (hz : Frame fr z s) : Frame fr z (countUpset cls inst injected s) := by
  unfold countUpset
  try dsimp only
  repeat' first
    | (with_reducible first
        | exact hz | assumption | apply State.setFlt_frame | apply Frame.fold)
    | split | exact List.Subset.trans (by decide) hl | intro _

theorem clearUpsets_frame {fr : List Chapter} {z : State} (cls : Nat) (inst : Nat) (s : State) (hl : [.flt] ⊆ fr)
    (hz : Frame fr z s) : Frame fr z (clearUpsets cls inst s) := by
  unfold clearUpsets
  try dsimp only
  repeat' first
    | (with_reducible first
        | exact hz | assumption | apply State.setFlt_frame | apply Frame.fold)
    | split | exact List.Subset.trans (by decide) hl | intro _

theorem upset_frame {fr : List Chapter} {z : State} (cls : Nat) (inst : Nat) (how : Nat) (counts : Bool) (injected : Bool)
    (retries : Nat) (affected : Nat) (s : State) (hl : [.flt] ⊆ fr) (hz : Frame fr z s) :
    Frame fr z (upset cls inst how counts injected retries affected s) := by
  unfold upset
  try dsimp only
  repeat' first
    | (with_reducible first
        | exact hz | assumption | apply countUpset_frame | apply logFault_frame | apply Frame.fold)
    | split | exact List.Subset.trans (by decide) hl | intro _

theorem recovered_frame {fr : List Chapter} {z : State} (cls : Nat) (inst : Nat) (affected : Nat) (injected : Bool)
    (s : State) (hl : [.flt] ⊆ fr) (hz : Frame fr z s) : Frame fr z (recovered cls inst affected injected s) := by
  unfold recovered
  try dsimp only
  repeat' first
    | (with_reducible first
        | exact hz | assumption | apply logFault_frame | apply Frame.fold)
    | split | exact List.Subset.trans (by decide) hl | intro _

theorem supersede_frame {fr : List Chapter} {z : State} (cls inst : Nat) (s : State) (hl : [.flt] ⊆ fr) (hz : Frame fr z s) : Frame fr z (supersede cls inst s) :=
  State.setFlt_frame _ _ (List.Subset.trans (by decide) hl) hz

theorem equivLost_frame {fr : List Chapter} {z : State} (e : LogEntry) (s : State)
    (hl : [.emitted, .host, .kw, .fab, .flt] ⊆ fr) (hz : Frame fr z s) : Frame fr z (equivLost e s) := by
  unfold equivLost
  try dsimp only
  repeat' first
    | (with_reducible first
        | exact hz | assumption | apply noticeUnit_frame | apply logFault_frame | apply Frame.fold)
    | split | exact List.Subset.trans (by decide) hl | intro _

theorem deferRetirement_frame {fr : List Chapter} {z : State} (cls : Nat) (inst : Nat) (s : State) (hl : [.flt] ⊆ fr)
    (hz : Frame fr z s) : Frame fr z (deferRetirement cls inst s) := by
  unfold deferRetirement
  try dsimp only
  repeat' first
    | (with_reducible first
        | exact hz | assumption | apply State.setFlt_frame | apply Frame.fold)
    | split | exact List.Subset.trans (by decide) hl | intro _

theorem modRecipe_frame {fr : List Chapter} {z : State} (h : Nat) (f : Recipe → Recipe) (s : State) (hl : [.rcp] ⊆ fr)
    (hz : Frame fr z s) : Frame fr z (modRecipe h f s) := by
  unfold modRecipe
  try dsimp only
  repeat' first
    | (with_reducible first
        | exact hz | assumption | apply State.setRcp_frame | apply Frame.fold)
    | split | exact List.Subset.trans (by decide) hl | intro _

theorem openStrip_frame {fr : List Chapter} {z : State} (r : Recipe) (s : State) (hl : [.hm, .rcp] ⊆ fr)
    (hz : Frame fr z s) : Frame fr z (openStrip r s) := by
  unfold openStrip
  try dsimp only
  repeat' first
    | (with_reducible first
        | exact hz | assumption | apply modRecipe_frame | apply State.setHm_frame | apply Frame.fold)
    | split | exact List.Subset.trans (by decide) hl | intro _

theorem openAll_frame {fr : List Chapter} {z : State} (l : List Recipe) (s : State) (hl : [.hm, .rcp] ⊆ fr)
    (hz : Frame fr z s) : Frame fr z (openAll l s) := by
  fun_induction openAll l s
  all_goals try dsimp only
  repeat' first
    | (with_reducible first
        | exact hz | apply_assumption | assumption | apply openStrip_frame | apply Frame.fold)
    | split | exact List.Subset.trans (by decide) hl | intro _

theorem openParts_frame {fr : List Chapter} {z : State} (s : State) (hl : [.hm, .rcp] ⊆ fr) (hz : Frame fr z s) :
    Frame fr z (openParts s) := by
  unfold openParts
  try dsimp only
  repeat' first
    | (with_reducible first
        | exact hz | assumption | apply openAll_frame | apply Frame.fold)
    | split | exact List.Subset.trans (by decide) hl | intro _

theorem modPart_frame {fr : List Chapter} {z : State} (recipe : Nat) (id : Int) (f : Part → Part) (s : State)
    (hl : [.hm] ⊆ fr) (hz : Frame fr z s) : Frame fr z (modPart recipe id f s) := by
  unfold modPart
  try dsimp only
  repeat' first
    | (with_reducible first
        | exact hz | assumption | apply State.setHm_frame | apply Frame.fold)
    | split | exact List.Subset.trans (by decide) hl | intro _

theorem fixParts_frame {fr : List Chapter} {z : State} (sel : Part → Bool) (reason : Nat) (s : State) (hl : [.hm] ⊆ fr)
    (hz : Frame fr z s) : Frame fr z (fixParts sel reason s) := by
  unfold fixParts
  try dsimp only
  repeat' first
    | (with_reducible first
        | exact hz | assumption | apply State.setHm_frame | apply Frame.fold)
    | split | exact List.Subset.trans (by decide) hl | intro _

theorem foldTile_frame {fr : List Chapter} {z : State} (recipe : Nat) (f : Fold) (s : State) (hl : [.hm] ⊆ fr)
    (hz : Frame fr z s) : Frame fr z (foldTile recipe f s) := by
  unfold foldTile
  try dsimp only
  repeat' first
    | (with_reducible first
        | exact hz | assumption | apply State.setHm_frame | apply Frame.fold)
    | split | exact List.Subset.trans (by decide) hl | intro _

theorem foldHold_frame {fr : List Chapter} {z : State} (recipe : Nat) (t : Tile) (reason : Nat) (s : State)
    (hl : [.hm, .rcp] ⊆ fr) (hz : Frame fr z s) : Frame fr z (foldHold recipe t reason s) := by
  unfold foldHold
  try dsimp only
  repeat' first
    | (with_reducible first
        | exact hz | assumption | apply foldTile_frame | apply openParts_frame | apply Frame.fold)
    | split | exact List.Subset.trans (by decide) hl | intro _

theorem modBench_frame {fr : List Chapter} {z : State} (b : Nat) (f : Bench → Bench) (s : State) (hl : [.fab] ⊆ fr)
    (hz : Frame fr z s) : Frame fr z (modBench b f s) := by
  unfold modBench
  try dsimp only
  repeat' first
    | (with_reducible first
        | exact hz | assumption | apply State.setFab_frame | apply Frame.fold)
    | split | exact List.Subset.trans (by decide) hl | intro _

theorem bumpBench_frame {fr : List Chapter} {z : State} (b : Nat) (i : Nat) (n : Nat) (s : State) (hl : [.fab] ⊆ fr)
    (hz : Frame fr z s) : Frame fr z (bumpBench b i n s) := by
  unfold bumpBench
  try dsimp only
  repeat' first
    | (with_reducible first
        | exact hz | assumption | apply modBench_frame | apply Frame.fold)
    | split | exact List.Subset.trans (by decide) hl | intro _

theorem fabFenced_frame {fr : List Chapter} {z : State} (b : Nat) (s : State) (hl : [.fab] ⊆ fr) (hz : Frame fr z s) :
    Frame fr z (fabFenced b s) := by
  unfold fabFenced
  try dsimp only
  repeat' first
    | (with_reducible first
        | exact hz | assumption | apply bumpBench_frame | apply Frame.fold)
    | split | exact List.Subset.trans (by decide) hl | intro _

theorem toHallmark_frame {fr : List Chapter} {z : State} (o : Outcome) (s : State) (hl : [.hm, .rcp] ⊆ fr)
    (hz : Frame fr z s) : Frame fr z (toHallmark o s) := by
  unfold toHallmark
  try dsimp only
  repeat' first
    | (with_reducible first
        | exact hz | assumption | apply State.setHm_frame | apply foldHold_frame | apply Frame.fold)
    | split | exact List.Subset.trans (by decide) hl | intro _

theorem giveHold_frame {fr : List Chapter} {z : State} (b : Nat) (t : Tile) (reason : Nat) (fence : Word) (s : State)
    (hl : [.fab, .hm, .rcp] ⊆ fr) (hz : Frame fr z s) : Frame fr z (giveHold b t reason fence s) := by
  unfold giveHold
  try dsimp only
  repeat' first
    | (with_reducible first
        | exact hz | assumption | apply toHallmark_frame | apply bumpBench_frame | apply Frame.fold)
    | split | exact List.Subset.trans (by decide) hl | intro _

theorem giveHolds_frame {fr : List Chapter} {z : State} (b : Nat) (l : List Tile) (reason : Nat) (fence : Word)
    (s : State) (hl : [.fab, .hm, .rcp] ⊆ fr) (hz : Frame fr z s) : Frame fr z (giveHolds b l reason fence s) := by
  fun_induction giveHolds b l reason fence s
  all_goals try dsimp only
  repeat' first
    | (with_reducible first
        | exact hz | apply_assumption | assumption | apply giveHold_frame | apply Frame.fold)
    | split | exact List.Subset.trans (by decide) hl | intro _

theorem retractResults_frame {fr : List Chapter} {z : State} (b : Nat) (reason : Nat) (fence : Word) (s : State)
    (hl : [.fab, .hm] ⊆ fr) (hz : Frame fr z s) : Frame fr z (retractResults b reason fence s) := by
  unfold retractResults
  try dsimp only
  repeat' first
    | (with_reducible first
        | exact hz | assumption | apply State.setHm_frame | apply bumpBench_frame | apply modBench_frame
        | apply Frame.fold)
    | split | exact List.Subset.trans (by decide) hl | intro _

theorem flushBench_frame {fr : List Chapter} {z : State} (b : Nat) (reason : Nat) (fence : Word) (s : State)
    (hl : [.fab, .hm, .rcp] ⊆ fr) (hz : Frame fr z s) : Frame fr z (flushBench b reason fence s) := by
  unfold flushBench
  try dsimp only
  repeat' first
    | (with_reducible first
        | exact hz | assumption | apply retractResults_frame | apply giveHolds_frame | apply modBench_frame
        | apply Frame.fold)
    | split | exact List.Subset.trans (by decide) hl | intro _

theorem unitWrite_frame {fr : List Chapter} {z : State} (a : Nat) (b : Bytes) (s : State) (hl : [.draw] ⊆ fr)
    (hz : Frame fr z s) : Frame fr z (unitWrite a b s) := by
  unfold unitWrite
  try dsimp only
  repeat' first
    | (with_reducible first
        | exact hz | assumption | apply State.setDraw_frame | apply Frame.fold)
    | split | exact List.Subset.trans (by decide) hl | intro _

theorem hmRing_frame {fr : List Chapter} {z : State} (ring : Nat) (bytes : Bytes) (s : State) (hl : [.draw, .hm] ⊆ fr)
    (hz : Frame fr z s) : Frame fr z (hmRing ring bytes s) := by
  unfold hmRing
  try dsimp only
  repeat' first
    | (with_reducible first
        | exact hz | assumption | apply State.setHm_frame | apply unitWrite_frame | apply Frame.fold)
    | split | exact List.Subset.trans (by decide) hl | intro _

theorem logAct_frame {fr : List Chapter} {z : State} (e : ActEntry) (recipe : Option Nat) (tenant : Nat) (outcome : Nat)
    (target : Long) (shift : Nat) (on : Word) (off : Word) (s : State) (hl : [.draw, .hm] ⊆ fr) (hz : Frame fr z s) :
    Frame fr z (logAct e recipe tenant outcome target shift on off s) := by
  unfold logAct
  try dsimp only
  repeat' first
    | (with_reducible first
        | exact hz | assumption | apply hmRing_frame | apply State.setHm_frame | apply Frame.fold)
    | split | exact List.Subset.trans (by decide) hl | intro _

theorem logActOf_frame {fr : List Chapter} {z : State} (a : Act) (outcome : Nat) (off : Word) (s : State)
    (hl : [.draw, .hm] ⊆ fr) (hz : Frame fr z s) : Frame fr z (logActOf a outcome off s) := by
  unfold logActOf
  try dsimp only
  repeat' first
    | (with_reducible first
        | exact hz | assumption | apply logAct_frame | apply Frame.fold)
    | split | exact List.Subset.trans (by decide) hl | intro _

theorem dropAct_frame {fr : List Chapter} {z : State} (h : Nat) (s : State) (hl : [.led, .hm] ⊆ fr) (hz : Frame fr z s) :
    Frame fr z (dropAct h s) := by
  unfold dropAct
  try dsimp only
  repeat' first
    | (with_reducible first
        | exact hz | assumption | apply State.setLed_frame | apply State.setHm_frame | apply Frame.fold)
    | split | exact List.Subset.trans (by decide) hl | intro _

theorem writeCacheHeader_frame {fr : List Chapter} {z : State} (i : Nat) (s : State) (hl : [.draw] ⊆ fr)
    (hz : Frame fr z s) : Frame fr z (writeCacheHeader i s) := by
  unfold writeCacheHeader
  try dsimp only
  repeat' first
    | (with_reducible first
        | exact hz | assumption | apply unitWrite_frame | apply Frame.fold)
    | split | exact List.Subset.trans (by decide) hl | intro _

theorem writeCacheHeaders_frame {fr : List Chapter} {z : State} (l : List Nat) (s : State) (hl : [.draw] ⊆ fr)
    (hz : Frame fr z s) : Frame fr z (writeCacheHeaders l s) := by
  fun_induction writeCacheHeaders l s
  all_goals try dsimp only
  repeat' first
    | (with_reducible first
        | exact hz | apply_assumption | assumption | apply writeCacheHeader_frame | apply Frame.fold)
    | split | exact List.Subset.trans (by decide) hl | intro _

theorem applyImage_frame {fr : List Chapter} {z : State} (what : Reprog) (s : State) (hl : [.pln] ⊆ fr)
    (hz : Frame fr z s) : Frame fr z (applyImage what s) := by
  unfold applyImage
  try dsimp only
  repeat' first
    | (with_reducible first
        | exact hz | assumption | apply State.setPln_frame | apply Frame.fold)
    | split | exact List.Subset.trans (by decide) hl | intro _

theorem noticeApplied_frame {fr : List Chapter} {z : State} (issuer : Nat) (opcode : Half) (where_ : Nat) (sp : Word)
    (s : State) (hl : [.emitted, .host, .kw, .fab, .flt] ⊆ fr) (hz : Frame fr z s) :
    Frame fr z (noticeApplied issuer opcode where_ sp s) := by
  unfold noticeApplied
  try dsimp only
  repeat' first
    | (with_reducible first
        | exact hz | assumption | apply noticeHolderAt_frame | apply Frame.fold)
    | split | exact List.Subset.trans (by decide) hl | intro _

theorem modLane_frame {fr : List Chapter} {z : State} (l : Nat) (f : Lane → Lane) (s : State) (hl : [.lanes] ⊆ fr)
    (hz : Frame fr z s) : Frame fr z (modLane l f s) := by
  unfold modLane
  try dsimp only
  repeat' first
    | (with_reducible first
        | exact hz | assumption | apply State.setLanes_frame | apply Frame.fold)
    | split | exact List.Subset.trans (by decide) hl | intro _

theorem modPlnChan_frame {fr : List Chapter} {z : State} (c : Nat) (f : Channel → Channel) (s : State) (hl : [.pln] ⊆ fr)
    (hz : Frame fr z s) : Frame fr z (modPlnChan c f s) := by
  unfold modPlnChan
  try dsimp only
  repeat' first
    | (with_reducible first
        | exact hz | assumption | apply State.setPln_frame | apply Frame.fold)
    | split | exact List.Subset.trans (by decide) hl | intro _

theorem modView_frame {fr : List Chapter} {z : State} (v : Nat) (f : View → View) (s : State) (hl : [.pln] ⊆ fr)
    (hz : Frame fr z s) : Frame fr z (modView v f s) := by
  unfold modView
  try dsimp only
  repeat' first
    | (with_reducible first
        | exact hz | assumption | apply State.setPln_frame | apply Frame.fold)
    | split | exact List.Subset.trans (by decide) hl | intro _

theorem settleHwm_frame {fr : List Chapter} {z : State} (was : Bool) (s : State)
    (hl : [.emitted, .host, .pos, .kw, .fab, .flt] ⊆ fr) (hz : Frame fr z s) : Frame fr z (settleHwm was s) := by
  unfold settleHwm
  try dsimp only
  repeat' first
    | (with_reducible first
        | exact hz | assumption | apply State.setPos_frame | apply noticeUnit_frame | apply noticeUnitAt_frame
        | apply Frame.fold)
    | split | exact List.Subset.trans (by decide) hl | intro _

theorem quadError_frame {fr : List Chapter} {z : State} (port : Nat) (s : State)
    (hl : [.emitted, .host, .pos, .kw, .fab, .flt] ⊆ fr) (hz : Frame fr z s) : Frame fr z (quadError port s) := by
  unfold quadError
  try dsimp only
  repeat' first
    | (with_reducible first
        | exact hz | assumption | apply State.setPos_frame | apply logFault_frame | apply noticeUnit_frame
        | apply Frame.fold)
    | split | exact List.Subset.trans (by decide) hl | intro _

theorem countEdge_frame {fr : List Chapter} {z : State} (fwd : Bool) (s : State) (hl : [.pos] ⊆ fr) (hz : Frame fr z s) :
    Frame fr z (countEdge fwd s) := by
  unfold countEdge
  try dsimp only
  repeat' first
    | (with_reducible first
        | exact hz | assumption | apply State.setPos_frame | apply Frame.fold)
    | split | exact List.Subset.trans (by decide) hl | intro _

theorem repeatOut_frame {fr : List Chapter} {z : State} (port : Nat) (signal : EncSignal) (s : State)
    (hl : [.emitted] ⊆ fr) (hz : Frame fr z s) : Frame fr z (repeatOut port signal s) := by
  unfold repeatOut
  try dsimp only
  repeat' first
    | (with_reducible first
        | exact hz | assumption | apply State.emit_frame | apply Frame.fold)
    | split | exact List.Subset.trans (by decide) hl | intro _

theorem masterEdge_frame {fr : List Chapter} {z : State} (k : EdgeKind) (s : State)
    (hl : [.emitted, .host, .pos, .kw, .fab, .flt] ⊆ fr) (hz : Frame fr z s) : Frame fr z (masterEdge k s) := by
  unfold masterEdge
  try dsimp only
  repeat' first
    | (with_reducible first
        | exact hz | assumption | apply quadError_frame | apply settleHwm_frame | apply countEdge_frame
        | apply Frame.fold)
    | split | exact List.Subset.trans (by decide) hl | intro _

theorem interpolate_frame {fr : List Chapter} {z : State} (s : State) (hl : [.emitted, .host, .pos, .kw, .fab, .flt] ⊆ fr)
    (hz : Frame fr z s) : Frame fr z (interpolate s) := by
  unfold interpolate
  try dsimp only
  repeat' first
    | (with_reducible first
        | exact hz | assumption | apply settleHwm_frame | apply State.setPos_frame | apply Frame.fold)
    | split | exact List.Subset.trans (by decide) hl | intro _

theorem auxEdge_frame {fr : List Chapter} {z : State} (port : Nat) (fwd : Bool) (s : State) (hl : [.pos] ⊆ fr)
    (hz : Frame fr z s) : Frame fr z (auxEdge port fwd s) := by
  unfold auxEdge
  try dsimp only
  repeat' first
    | (with_reducible first
        | exact hz | assumption | apply State.setPos_frame | apply Frame.fold)
    | split | exact List.Subset.trans (by decide) hl | intro _

theorem anchorAt_frame {fr : List Chapter} {z : State} (count : Int) (frac : Nat) (hwm : Long) (code : Nat)
    (discont : Bool) (s : State) (hl : [.emitted, .host, .pos, .kw, .lanes, .fab, .flt, .boot] ⊆ fr) (hz : Frame fr z s) :
    Frame fr z (anchorAt count frac hwm code discont s) := by
  unfold anchorAt
  try dsimp only
  repeat' first
    | (with_reducible first
        | exact hz | assumption | apply State.setLanes_frame | apply State.setBoot_frame | apply State.setPos_frame
        | apply noticeUnitAt_frame | apply Frame.fold)
    | split | exact List.Subset.trans (by decide) hl | intro _

theorem zAnchor_frame {fr : List Chapter} {z : State} (s : State)
    (hl : [.emitted, .host, .pos, .kw, .lanes, .fab, .flt, .boot] ⊆ fr) (hz : Frame fr z s) : Frame fr z (zAnchor s) := by
  unfold zAnchor
  try dsimp only
  repeat' first
    | (with_reducible first
        | exact hz | assumption | apply anchorAt_frame | apply Frame.fold)
    | split | exact List.Subset.trans (by decide) hl | intro _

theorem zDeviation_frame {fr : List Chapter} {z : State} (port : Nat) (counts : Int) (s : State)
    (hl : [.emitted, .host, .pos, .kw, .fab, .flt] ⊆ fr) (hz : Frame fr z s) : Frame fr z (zDeviation port counts s) := by
  unfold zDeviation
  try dsimp only
  repeat' first
    | (with_reducible first
        | exact hz | assumption | apply State.setPos_frame | apply noticeUnit_frame | apply logFault_frame
        | apply Frame.fold)
    | split | exact List.Subset.trans (by decide) hl | intro _

theorem masterZ_frame {fr : List Chapter} {z : State} (s : State)
    (hl : [.emitted, .host, .pos, .kw, .lanes, .fab, .flt, .boot] ⊆ fr) (hz : Frame fr z s) : Frame fr z (masterZ s) := by
  unfold masterZ
  try dsimp only
  repeat' first
    | (with_reducible first
        | exact hz | assumption | apply State.setPos_frame | apply zDeviation_frame | apply zAnchor_frame
        | apply Frame.fold)
    | split | exact List.Subset.trans (by decide) hl | intro _

theorem auxZ_frame {fr : List Chapter} {z : State} (port : Nat) (s : State)
    (hl : [.emitted, .host, .pos, .kw, .fab, .flt] ⊆ fr) (hz : Frame fr z s) : Frame fr z (auxZ port s) := by
  unfold auxZ
  try dsimp only
  repeat' first
    | (with_reducible first
        | exact hz | assumption | apply State.setPos_frame | apply zDeviation_frame | apply Frame.fold)
    | split | exact List.Subset.trans (by decide) hl | intro _

theorem speedStep_frame {fr : List Chapter} {z : State} (s : State) (hl : [.emitted, .host, .pos, .kw, .fab, .flt] ⊆ fr)
    (hz : Frame fr z s) : Frame fr z (speedStep s) := by
  unfold speedStep
  try dsimp only
  repeat' first
    | (with_reducible first
        | exact hz | assumption | apply State.setPos_frame | apply noticeUnit_frame | apply Frame.fold)
    | split | exact List.Subset.trans (by decide) hl | intro _

theorem deferReprog_frame {fr : List Chapter} {z : State} (what : Reprog) (issuer : Nat) (opcode : Half) (s : State)
    (hl : [.pos] ⊆ fr) (hz : Frame fr z s) : Frame fr z (deferReprog what issuer opcode s) := by
  unfold deferReprog
  try dsimp only
  repeat' first
    | (with_reducible first
        | exact hz | assumption | apply State.setPos_frame | apply Frame.fold)
    | split | exact List.Subset.trans (by decide) hl | intro _

theorem dropReprog_frame {fr : List Chapter} {z : State} (what : Reprog) (s : State) (hl : [.pos, .pln] ⊆ fr)
    (hz : Frame fr z s) : Frame fr z (dropReprog what s) := by
  unfold dropReprog
  try dsimp only
  repeat' first
    | (with_reducible first
        | exact hz | assumption | apply State.setPln_frame | apply State.setPos_frame | apply Frame.fold)
    | split | exact List.Subset.trans (by decide) hl | intro _

theorem encConfig_frame {fr : List Chapter} {z : State} (p : Packet) (s : State)
    (hl : [.emitted, .host, .pos, .kw, .pln, .fab, .flt, .boot] ⊆ fr) (hz : Frame fr z s) :
    Frame fr z (encConfig p s) := by
  unfold encConfig
  try dsimp only
  repeat' first
    | (with_reducible first
        | exact hz | assumption | apply refuse_frame | apply wantRecord_frame | apply State.setPos_frame
        | apply dropReprog_frame | apply done_frame | apply noticeHolder_frame | apply deferReprog_frame
        | apply Frame.fold)
    | split | exact List.Subset.trans (by decide) hl | intro _

theorem setShift_frame {fr : List Chapter} {z : State} (n : Nat) (s : State) (hl : [.pos, .fab] ⊆ fr) (hz : Frame fr z s) :
    Frame fr z (setShift n s) := by
  unfold setShift
  try dsimp only
  repeat' first
    | (with_reducible first
        | exact hz | assumption | apply State.setPos_frame | apply State.setFab_frame | apply Frame.fold)
    | split | exact List.Subset.trans (by decide) hl | intro _

theorem applyPosition_frame {fr : List Chapter} {z : State} (what : Reprog) (s : State) (hl : [.pos, .fab] ⊆ fr)
    (hz : Frame fr z s) : Frame fr z (applyPosition what s) := by
  unfold applyPosition
  try dsimp only
  repeat' first
    | (with_reducible first
        | exact hz | assumption | apply setShift_frame | apply State.setPos_frame | apply Frame.fold)
    | split | exact List.Subset.trans (by decide) hl | intro _

theorem posReprog_frame {fr : List Chapter} {z : State} (p : Packet) (what : Reprog) (s : State)
    (hl : [.emitted, .host, .pos, .kw, .pln, .fab, .flt] ⊆ fr) (hz : Frame fr z s) : Frame fr z (posReprog p what s) := by
  unfold posReprog
  try dsimp only
  repeat' first
    | (with_reducible first
        | exact hz | assumption | apply refuse_frame | apply done_frame | apply noticeHolder_frame
        | apply applyPosition_frame | apply dropReprog_frame | apply deferReprog_frame | apply Frame.fold)
    | split | exact List.Subset.trans (by decide) hl | intro _

theorem cutBuckets_frame {fr : List Chapter} {z : State} (cls : Nat) (s : State) (hl : [.draw] ⊆ fr) (hz : Frame fr z s) :
    Frame fr z (cutBuckets cls s) := by
  unfold cutBuckets
  try dsimp only
  repeat' first
    | (with_reducible first
        | exact hz | assumption | apply State.setDraw_frame | apply Frame.fold)
    | split | exact List.Subset.trans (by decide) hl | intro _

theorem deferEach_frame {fr : List Chapter} {z : State} (l : List Reprog) (issuer : Nat) (opcode : Half) (s : State)
    (hl : [.pos] ⊆ fr) (hz : Frame fr z s) : Frame fr z (deferEach l issuer opcode s) := by
  fun_induction deferEach l issuer opcode s
  all_goals try dsimp only
  repeat' first
    | (with_reducible first
        | exact hz | apply_assumption | assumption | apply deferReprog_frame | apply Frame.fold)
    | split | exact List.Subset.trans (by decide) hl | intro _

theorem endList_frame {fr : List Chapter} {z : State} (l : CmdList) (status : Half) (result : Bytes) (s : State)
    (hl : [.emitted, .host, .pos, .kw, .fab] ⊆ fr) (hz : Frame fr z s) : Frame fr z (endList l status result s) := by
  unfold endList
  try dsimp only
  repeat' first
    | (with_reducible first
        | exact hz | assumption | apply deferEach_frame | apply State.setFab_frame | apply doneLater_frame
        | apply done_frame | apply Frame.fold)
    | split | exact List.Subset.trans (by decide) hl | intro _

theorem failList_frame {fr : List Chapter} {z : State} (l : CmdList) (status : Half) (poison : Option Long) (s : State)
    (hl : [.emitted, .host, .pos, .kw, .fab] ⊆ fr) (hz : Frame fr z s) : Frame fr z (failList l status poison s) := by
  unfold failList
  try dsimp only
  repeat' first
    | (with_reducible first
        | exact hz | assumption | apply endList_frame | apply Frame.fold)
    | split | exact List.Subset.trans (by decide) hl | intro _

theorem failLists_frame {fr : List Chapter} {z : State} (ls : List CmdList) (status : Half) (s : State)
    (hl : [.emitted, .host, .pos, .kw, .fab] ⊆ fr) (hz : Frame fr z s) : Frame fr z (failLists ls status s) := by
  fun_induction failLists ls status s
  all_goals try dsimp only
  repeat' first
    | (with_reducible first
        | exact hz | apply_assumption | assumption | apply failList_frame | apply Frame.fold)
    | split | exact List.Subset.trans (by decide) hl | intro _

theorem dropAdm_frame {fr : List Chapter} {z : State} (h : Nat) (s : State) (hl : [.led] ⊆ fr) (hz : Frame fr z s) :
    Frame fr z (dropAdm h s) := by
  unfold dropAdm
  try dsimp only
  repeat' first
    | (with_reducible first
        | exact hz | assumption | apply State.setLed_frame | apply Frame.fold)
    | split | exact List.Subset.trans (by decide) hl | intro _

theorem dropHeld_frame {fr : List Chapter} {z : State} (h : Nat) (s : State) (hl : [.led, .draw] ⊆ fr) (hz : Frame fr z s) :
    Frame fr z (dropHeld h s) := by
  unfold dropHeld
  try dsimp only
  repeat' first
    | (with_reducible first
        | exact hz | assumption | apply cutBuckets_frame | apply dropAdm_frame | apply Frame.fold)
    | split | exact List.Subset.trans (by decide) hl | intro _

theorem endEpoch_frame {fr : List Chapter} {z : State} (s : State)
    (hl : [.emitted, .host, .pos, .led, .kw, .fab, .draw, .rcp] ⊆ fr) (hz : Frame fr z s) : Frame fr z (endEpoch s) := by
  unfold endEpoch
  try dsimp only
  repeat' first
    | (with_reducible first
        | exact hz | assumption | apply writeCacheHeaders_frame | apply dropHeld_frame | apply State.setRcp_frame
        | apply failList_frame | apply doneLater_frame | apply Frame.fold)
    | split | exact List.Subset.trans (by decide) hl | intro _

theorem endShadow_frame {fr : List Chapter} {z : State} (s : State) (hl : [.led, .draw, .rcp] ⊆ fr) (hz : Frame fr z s) :
    Frame fr z (endShadow s) := by
  unfold endShadow
  try dsimp only
  repeat' first
    | (with_reducible first
        | exact hz | assumption | apply dropHeld_frame | apply State.setRcp_frame | apply Frame.fold)
    | split | exact List.Subset.trans (by decide) hl | intro _

theorem endCapture_frame {fr : List Chapter} {z : State} (s : State) (hl : [.rcp] ⊆ fr) (hz : Frame fr z s) :
    Frame fr z (endCapture s) := by
  unfold endCapture
  try dsimp only
  repeat' first
    | (with_reducible first
        | exact hz | assumption | apply State.setRcp_frame | apply Frame.fold)
    | split | exact List.Subset.trans (by decide) hl | intro _

theorem endTap_frame {fr : List Chapter} {z : State} (h : Nat) (code : Nat) (s : State)
    (hl : [.emitted, .host, .kw, .pln, .fab, .flt] ⊆ fr) (hz : Frame fr z s) : Frame fr z (endTap h code s) := by
  unfold endTap
  try dsimp only
  repeat' first
    | (with_reducible first
        | exact hz | assumption | apply noticeHolder_frame | apply State.setPln_frame | apply Frame.fold)
    | split | exact List.Subset.trans (by decide) hl | intro _

theorem endStream_frame {fr : List Chapter} {z : State} (h : Nat) (s : State)
    (hl : [.emitted, .host, .pos, .kw, .fab, .draw] ⊆ fr) (hz : Frame fr z s) : Frame fr z (endStream h s) := by
  unfold endStream
  try dsimp only
  repeat' first
    | (with_reducible first
        | exact hz | assumption | apply failLists_frame | apply State.setDraw_frame | apply Frame.fold)
    | split | exact List.Subset.trans (by decide) hl | intro _

theorem endActuation_frame {fr : List Chapter} {z : State} (h : Nat) (s : State) (hl : [.led, .draw, .hm] ⊆ fr)
    (hz : Frame fr z s) : Frame fr z (endActuation h s) := by
  unfold endActuation
  try dsimp only
  repeat' first
    | (with_reducible first
        | exact hz | assumption | apply logActOf_frame | apply dropAct_frame | apply Frame.fold)
    | split | exact List.Subset.trans (by decide) hl | intro _

theorem noticeActive_frame {fr : List Chapter} {z : State} (tenant : Nat) (handle : Nat) (code : Nat) (e : Word)
    (s : State) (hl : [.emitted, .host, .kw, .fab, .flt] ⊆ fr) (hz : Frame fr z s) :
    Frame fr z (noticeActive tenant handle code e s) := by
  unfold noticeActive
  try dsimp only
  repeat' first
    | (with_reducible first
        | exact hz | assumption | apply noticeHolderAt_frame | apply Frame.fold)
    | split | exact List.Subset.trans (by decide) hl | intro _

theorem cancelActivation_frame {fr : List Chapter} {z : State} (h : Nat) (s : State)
    (hl : [.emitted, .host, .kw, .fab, .rcp, .flt] ⊆ fr) (hz : Frame fr z s) : Frame fr z (cancelActivation h s) := by
  unfold cancelActivation
  try dsimp only
  repeat' first
    | (with_reducible first
        | exact hz | assumption | apply modRecipe_frame | apply noticeActive_frame | apply Frame.fold)
    | split | exact List.Subset.trans (by decide) hl | intro _

theorem freeBench_frame {fr : List Chapter} {z : State} (b : Nat) (s : State) (hl : [.led, .fab, .draw] ⊆ fr)
    (hz : Frame fr z s) : Frame fr z (freeBench b s) := by
  unfold freeBench
  try dsimp only
  repeat' first
    | (with_reducible first
        | exact hz | assumption | apply State.setLed_frame | apply State.setDraw_frame | apply modBench_frame
        | apply Frame.fold)
    | split | exact List.Subset.trans (by decide) hl | intro _

theorem cancelExpired_frame {fr : List Chapter} {z : State} (l : List Ref) (s : State)
    (hl : [.emitted, .host, .kw, .fab] ⊆ fr) (hz : Frame fr z s) : Frame fr z (cancelExpired l s) := by
  fun_induction cancelExpired l s
  all_goals try dsimp only
  repeat' first
    | (with_reducible first
        | exact hz | apply_assumption | assumption | apply cancelP_frame | apply Frame.fold)
    | split | exact List.Subset.trans (by decide) hl | intro _

theorem refuseGone_frame {fr : List Chapter} {z : State} (l : List Ref) (s : State)
    (hl : [.emitted, .host, .kw, .fab] ⊆ fr) (hz : Frame fr z s) : Frame fr z (refuseGone l s) := by
  fun_induction refuseGone l s
  all_goals try dsimp only
  repeat' first
    | (with_reducible first
        | exact hz | apply_assumption | assumption | apply refuse_frame | apply Frame.fold)
    | split | exact List.Subset.trans (by decide) hl | intro _

theorem releaseUnadmitted_frame {fr : List Chapter} {z : State} (b : Nat) (l : List Ref) (s : State)
    (hl : [.emitted, .host, .led, .kw, .fab, .draw] ⊆ fr) (hz : Frame fr z s) : Frame fr z (releaseUnadmitted b l s) := by
  unfold releaseUnadmitted
  try dsimp only
  repeat' first
    | (with_reducible first
        | exact hz | assumption | apply cancelExpired_frame | apply refuseGone_frame | apply ok_frame
        | apply freeBench_frame | apply Frame.fold)
    | split | exact List.Subset.trans (by decide) hl | intro _

theorem benchState_frame {fr : List Chapter} {z : State} (b : Nat) (why : Why) (fence : Word) (s : State)
    (hl : [.emitted, .host, .led, .kw, .fab, .draw] ⊆ fr) (hz : Frame fr z s) :
    Frame fr z (benchState b why fence s) := by
  unfold benchState
  try dsimp only
  repeat' first
    | (with_reducible first
        | exact hz | assumption | apply releaseUnadmitted_frame | apply modBench_frame | apply freeBench_frame
        | apply Frame.fold)
    | split | exact List.Subset.trans (by decide) hl | intro _

theorem benchReply_frame {fr : List Chapter} {z : State} (b : Nat) (s : State) (hl : [.emitted, .host, .kw, .fab] ⊆ fr)
    (hz : Frame fr z s) : Frame fr z (benchReply b s) := by
  unfold benchReply
  try dsimp only
  repeat' first
    | (with_reducible first
        | exact hz | assumption | apply modBench_frame | apply doneLater_frame | apply Frame.fold)
    | split | exact List.Subset.trans (by decide) hl | intro _

theorem endTemperWork_frame {fr : List Chapter} {z : State} (b : Nat) (temper : Bool) (s : State)
    (hl : [.emitted, .host, .pos, .led, .kw, .fab, .draw, .rcp] ⊆ fr) (hz : Frame fr z s) :
    Frame fr z (endTemperWork b temper s) := by
  unfold endTemperWork
  try dsimp only
  repeat' first
    | (with_reducible first
        | exact hz | assumption | apply endEpoch_frame | apply endShadow_frame | apply Frame.fold)
    | split | exact List.Subset.trans (by decide) hl | intro _

theorem endBench_frame {fr : List Chapter} {z : State} (b : Nat) (why : Why) (fence : Word) (s : State)
    (hl : [.emitted, .host, .pos, .led, .kw, .fab, .draw, .hm, .rcp, .flt] ⊆ fr) (hz : Frame fr z s) :
    Frame fr z (endBench b why fence s) := by
  unfold endBench
  try dsimp only
  repeat' first
    | (with_reducible first
        | exact hz | assumption | apply openParts_frame | apply fixParts_frame | apply cancelActivation_frame
        | apply benchState_frame | apply endTemperWork_frame | apply benchReply_frame | apply flushBench_frame
        | apply Frame.fold)
    | split | exact List.Subset.trans (by decide) hl | intro _

theorem pruneRecipes_frame {fr : List Chapter} {z : State} (s : State) (hl : [.rcp] ⊆ fr) (hz : Frame fr z s) :
    Frame fr z (pruneRecipes s) := by
  unfold pruneRecipes
  try dsimp only
  repeat' first
    | (with_reducible first
        | exact hz | assumption | apply State.setRcp_frame | apply Frame.fold)
    | split | exact List.Subset.trans (by decide) hl | intro _

theorem undoRt_frame {fr : List Chapter} {z : State} (h : Nat) (s : State) (hl : [.asy, .hm] ⊆ fr) (hz : Frame fr z s) :
    Frame fr z (undoRt h s) := by
  unfold undoRt
  try dsimp only
  repeat' first
    | (with_reducible first
        | exact hz | assumption | apply State.setAsy_frame | apply State.setHm_frame | apply Frame.fold)
    | split | exact List.Subset.trans (by decide) hl | intro _

theorem endRecipe_frame {fr : List Chapter} {z : State} (h : Nat) (why : Why) (s : State)
    (hl : [.emitted, .host, .kw, .fab, .asy, .hm, .rcp, .flt] ⊆ fr) (hz : Frame fr z s) :
    Frame fr z (endRecipe h why s) := by
  unfold endRecipe
  try dsimp only
  repeat' first
    | (with_reducible first
        | exact hz | assumption | apply undoRt_frame | apply cancelActivation_frame | apply fixParts_frame
        | apply openParts_frame | apply pruneRecipes_frame | apply modRecipe_frame | apply Frame.fold)
    | split | exact List.Subset.trans (by decide) hl | intro _

theorem endWork_frame {fr : List Chapter} {z : State} (a : Admission) (why : Why) (s : State)
    (hl : [.emitted, .host, .pos, .led, .kw, .pln, .fab, .draw, .asy, .hm, .rcp, .flt] ⊆ fr) (hz : Frame fr z s) :
    Frame fr z (endWork a why s) := by
  unfold endWork
  try dsimp only
  repeat' first
    | (with_reducible first
        | exact hz | assumption | apply endRecipe_frame | apply endBench_frame | apply endActuation_frame
        | apply endEpoch_frame | apply endTap_frame | apply endStream_frame | apply endCapture_frame
        | apply endShadow_frame | apply Frame.fold)
    | split | exact List.Subset.trans (by decide) hl | intro _

theorem endAdm_frame {fr : List Chapter} {z : State} (a : Admission) (why : Why) (s : State)
    (hl : [.emitted, .host, .pos, .led, .kw, .pln, .fab, .draw, .asy, .hm, .rcp, .flt] ⊆ fr) (hz : Frame fr z s) :
    Frame fr z (endAdm a why s) := by
  unfold endAdm
  try dsimp only
  repeat' first
    | (with_reducible first
        | exact hz | assumption | apply endWork_frame | apply cutBuckets_frame | apply dropAdm_frame
        | apply Frame.fold)
    | split | exact List.Subset.trans (by decide) hl | intro _

theorem refreshDemands_frame {fr : List Chapter} {z : State} (v : Nat) (s : State) (hl : [.led] ⊆ fr) (hz : Frame fr z s) :
    Frame fr z (refreshDemands v s) := by
  unfold refreshDemands
  try dsimp only
  repeat' first
    | (with_reducible first
        | exact hz | assumption | apply State.setLed_frame | apply Frame.fold)
    | split | exact List.Subset.trans (by decide) hl | intro _

theorem countRefusal_frame {fr : List Chapter} {z : State} (s : State) (hl : [.led] ⊆ fr) (hz : Frame fr z s) :
    Frame fr z (countRefusal s) := by
  unfold countRefusal
  try dsimp only
  repeat' first
    | (with_reducible first
        | exact hz | assumption | apply State.setLed_frame | apply Frame.fold)
    | split | exact List.Subset.trans (by decide) hl | intro _

theorem tellRevoked_frame {fr : List Chapter} {z : State} (cause : Nat) (budget : Nat) (inst : Nat) (a : Admission)
    (s : State) (hl : [.emitted, .host, .led, .kw, .fab, .flt] ⊆ fr) (hz : Frame fr z s) :
    Frame fr z (tellRevoked cause budget inst a s) := by
  unfold tellRevoked
  try dsimp only
  repeat' first
    | (with_reducible first
        | exact hz | assumption | apply noticeHolder_frame | apply State.setLed_frame | apply Frame.fold)
    | split | exact List.Subset.trans (by decide) hl | intro _

theorem revokeOne_frame {fr : List Chapter} {z : State} (cause : Nat) (budget : Nat) (inst : Nat) (a : Admission)
    (s : State) (hl : [.emitted, .host, .pos, .led, .kw, .pln, .fab, .draw, .asy, .hm, .rcp, .flt] ⊆ fr)
    (hz : Frame fr z s) : Frame fr z (revokeOne cause budget inst a s) := by
  unfold revokeOne
  try dsimp only
  repeat' first
    | (with_reducible first
        | exact hz | assumption | apply endAdm_frame | apply tellRevoked_frame | apply Frame.fold)
    | split | exact List.Subset.trans (by decide) hl | intro _

theorem revokeAll_frame {fr : List Chapter} {z : State} (cause : Nat) (budget : Nat) (inst : Nat) (l : List Admission)
    (s : State) (hl : [.emitted, .host, .pos, .led, .kw, .pln, .fab, .draw, .asy, .hm, .rcp, .flt] ⊆ fr)
    (hz : Frame fr z s) : Frame fr z (revokeAll cause budget inst l s) := by
  fun_induction revokeAll cause budget inst l s
  all_goals try dsimp only
  repeat' first
    | (with_reducible first
        | exact hz | apply_assumption | assumption | apply revokeOne_frame | apply Frame.fold)
    | split | exact List.Subset.trans (by decide) hl | intro _

theorem revokeBench_frame {fr : List Chapter} {z : State} (cause : Nat) (budget : Nat) (inst : Nat) (a : Admission)
    (s : State) (hl : [.emitted, .host, .pos, .led, .kw, .pln, .fab, .draw, .asy, .hm, .rcp, .flt] ⊆ fr)
    (hz : Frame fr z s) : Frame fr z (revokeBench cause budget inst a s) := by
  unfold revokeBench
  try dsimp only
  repeat' first
    | (with_reducible first
        | exact hz | assumption | apply revokeOne_frame | apply revokeAll_frame | apply Frame.fold)
    | split | exact List.Subset.trans (by decide) hl | intro _

theorem revokeBenches_frame {fr : List Chapter} {z : State} (cause : Nat) (budget : Nat) (inst : Nat) (l : List Admission)
    (s : State) (hl : [.emitted, .host, .pos, .led, .kw, .pln, .fab, .draw, .asy, .hm, .rcp, .flt] ⊆ fr)
    (hz : Frame fr z s) : Frame fr z (revokeBenches cause budget inst l s) := by
  fun_induction revokeBenches cause budget inst l s
  all_goals try dsimp only
  repeat' first
    | (with_reducible first
        | exact hz | apply_assumption | assumption | apply revokeBench_frame | apply Frame.fold)
    | split | exact List.Subset.trans (by decide) hl | intro _

theorem revoke_frame {fr : List Chapter} {z : State} (cause : Nat) (budget : Nat) (inst : Nat) (a : Admission) (s : State)
    (hl : [.emitted, .host, .pos, .led, .kw, .pln, .fab, .draw, .asy, .hm, .rcp, .flt] ⊆ fr) (hz : Frame fr z s) :
    Frame fr z (revoke cause budget inst a s) := by
  unfold revoke
  try dsimp only
  repeat' first
    | (with_reducible first
        | exact hz | assumption | apply revokeBenches_frame | apply revokeOne_frame | apply revokeBench_frame
        | apply Frame.fold)
    | split | exact List.Subset.trans (by decide) hl | intro _

theorem shrink_frame {fr : List Chapter} {z : State} (fuel : Nat) (v : Nat) (cause : Nat) (s : State)
    (hl : [.emitted, .host, .pos, .led, .kw, .pln, .fab, .draw, .asy, .hm, .rcp, .flt] ⊆ fr) (hz : Frame fr z s) :
    Frame fr z (shrink fuel v cause s) := by
  fun_induction shrink fuel v cause s
  all_goals try dsimp only
  repeat' first
    | (with_reducible first
        | exact hz | apply_assumption | assumption | apply revoke_frame | apply Frame.fold)
    | split | exact List.Subset.trans (by decide) hl | intro _

theorem revokeStaff_frame {fr : List Chapter} {z : State} (l : List Admission) (s : State)
    (hl : [.emitted, .host, .pos, .led, .kw, .pln, .fab, .draw, .asy, .hm, .rcp, .flt] ⊆ fr) (hz : Frame fr z s) :
    Frame fr z (revokeStaff l s) := by
  fun_induction revokeStaff l s
  all_goals try dsimp only
  repeat' first
    | (with_reducible first
        | exact hz | apply_assumption | assumption | apply revoke_frame | apply Frame.fold)
    | split | exact List.Subset.trans (by decide) hl | intro _

theorem capacityRun_frame {fr : List Chapter} {z : State} (cause : Nat) (s : State)
    (hl : [.emitted, .host, .pos, .led, .kw, .pln, .fab, .draw, .asy, .hm, .rcp, .flt] ⊆ fr) (hz : Frame fr z s) :
    Frame fr z (capacityRun cause s) := by
  unfold capacityRun
  try dsimp only
  repeat' first
    | (with_reducible first
        | exact hz | assumption | apply revokeStaff_frame | apply refreshDemands_frame | apply shrink_frame
        | apply Frame.fold)
    | split | exact List.Subset.trans (by decide) hl | intro _

theorem settleVAdm_frame {fr : List Chapter} {z : State} (s : State)
    (hl : [.emitted, .host, .pos, .led, .kw, .pln, .fab, .draw, .asy, .hm, .rcp, .flt] ⊆ fr) (hz : Frame fr z s) :
    Frame fr z (settleVAdm s) := by
  unfold settleVAdm
  try dsimp only
  repeat' first
    | (with_reducible first
        | exact hz | assumption | apply refreshDemands_frame | apply State.setLed_frame | apply capacityRun_frame
        | apply Frame.fold)
    | split | exact List.Subset.trans (by decide) hl | intro _

theorem onCapacityChange_frame {fr : List Chapter} {z : State} (cause : Nat) (s : State)
    (hl : [.emitted, .host, .pos, .led, .kw, .pln, .fab, .draw, .asy, .hm, .rcp, .flt] ⊆ fr) (hz : Frame fr z s) :
    Frame fr z (onCapacityChange cause s) := by
  unfold onCapacityChange
  try dsimp only
  repeat' first
    | (with_reducible first
        | exact hz | assumption | apply settleVAdm_frame | apply capacityRun_frame | apply Frame.fold)
    | split | exact List.Subset.trans (by decide) hl | intro _

theorem onSupplyWarning_frame {fr : List Chapter} {z : State} (cause : Nat) (s : State)
    (hl : [.emitted, .host, .pos, .led, .kw, .pln, .fab, .draw, .asy, .hm, .rcp, .flt] ⊆ fr) (hz : Frame fr z s) :
    Frame fr z (onSupplyWarning cause s) := by
  unfold onSupplyWarning
  try dsimp only
  repeat' first
    | (with_reducible first
        | exact hz | assumption | apply revoke_frame | apply onCapacityChange_frame | apply Frame.fold)
    | split | exact List.Subset.trans (by decide) hl | intro _

theorem noticeCapacity_frame {fr : List Chapter} {z : State} (budget : Nat) (inst : Nat) (s : State)
    (hl : [.emitted, .host, .kw, .fab, .flt] ⊆ fr) (hz : Frame fr z s) : Frame fr z (noticeCapacity budget inst s) := by
  unfold noticeCapacity
  try dsimp only
  repeat' first
    | (with_reducible first
        | exact hz | assumption | apply noticeUnit_frame | apply Frame.fold)
    | split | exact List.Subset.trans (by decide) hl | intro _

theorem noticeBenchCapacity_frame {fr : List Chapter} {z : State} (b : Nat) (s : State)
    (hl : [.emitted, .host, .kw, .fab, .flt] ⊆ fr) (hz : Frame fr z s) : Frame fr z (noticeBenchCapacity b s) := by
  unfold noticeBenchCapacity
  try dsimp only
  repeat' first
    | (with_reducible first
        | exact hz | assumption | apply noticeCapacity_frame | apply Frame.fold)
    | split | exact List.Subset.trans (by decide) hl | intro _

theorem reclaim_frame {fr : List Chapter} {z : State} (fuel : Nat) (v : Nat) (ds : List Demand) (s : State)
    (hl : [.emitted, .host, .pos, .led, .kw, .pln, .fab, .draw, .asy, .hm, .rcp, .flt] ⊆ fr) (hz : Frame fr z s) :
    Frame fr z (reclaim fuel v ds s) := by
  fun_induction reclaim fuel v ds s
  all_goals try dsimp only
  repeat' first
    | (with_reducible first
        | exact hz | apply_assumption | assumption | apply revoke_frame | apply Frame.fold)
    | split | exact List.Subset.trans (by decide) hl | intro _

theorem fillBuckets_frame {fr : List Chapter} {z : State} (cls : Nat) (ds : List Demand) (s : State) (hl : [.draw] ⊆ fr)
    (hz : Frame fr z s) : Frame fr z (fillBuckets cls ds s) := by
  unfold fillBuckets
  try dsimp only
  repeat' first
    | (with_reducible first
        | exact hz | assumption | apply State.setDraw_frame | apply Frame.fold)
    | split | exact List.Subset.trans (by decide) hl | intro _

theorem commitAdm_frame {fr : List Chapter} {z : State} (q : Request) (handle : Nat) (s : State) (hl : [.led, .draw] ⊆ fr)
    (hz : Frame fr z s) : Frame fr z (commitAdm q handle s) := by
  unfold commitAdm
  try dsimp only
  repeat' first
    | (with_reducible first
        | exact hz | assumption | apply fillBuckets_frame | apply State.setLed_frame | apply Frame.fold)
    | split | exact List.Subset.trans (by decide) hl | intro _

theorem refused_frame {fr : List Chapter} {z : State} (l : List Short) (s : State) (hl : [.led] ⊆ fr) (hz : Frame fr z s) :
    Frame fr z (refused l s).state := by
  unfold refused
  try dsimp only
  repeat' first
    | (with_reducible first
        | exact hz | assumption | apply countRefusal_frame | apply Frame.fold)
    | split | exact List.Subset.trans (by decide) hl | intro _

theorem decideAdm_frame {fr : List Chapter} {z : State} (q : Request) (handle : Nat) (s : State)
    (hl : [.emitted, .host, .pos, .led, .kw, .pln, .fab, .draw, .asy, .hm, .rcp, .flt] ⊆ fr) (hz : Frame fr z s) :
    Frame fr z (decideAdm q handle s).state := by
  unfold decideAdm
  try dsimp only
  repeat' first
    | (with_reducible first
        | exact hz | assumption | apply refused_frame | apply reclaim_frame | apply commitAdm_frame | apply Frame.fold)
    | split | exact List.Subset.trans (by decide) hl | intro _

theorem admitRecipe_frame {fr : List Chapter} {z : State} (q : Request) (handle : Nat) (s : State)
    (hl : [.emitted, .host, .pos, .led, .kw, .pln, .fab, .draw, .asy, .hm, .rcp, .flt] ⊆ fr) (hz : Frame fr z s) :
    Frame fr z (admitRecipe q handle s).state := by
  unfold admitRecipe
  try dsimp only
  repeat' first
    | (with_reducible first
        | exact hz | assumption | apply refused_frame | apply refreshDemands_frame | apply reclaim_frame
        | apply commitAdm_frame | apply State.setLed_frame | apply Frame.fold)
    | split | exact List.Subset.trans (by decide) hl | intro _

theorem exchange_frame {fr : List Chapter} {z : State} (a : Admission) (ds : List Demand) (s : State)
    (hl : [.emitted, .host, .pos, .led, .kw, .pln, .fab, .draw, .asy, .hm, .rcp, .flt] ⊆ fr) (hz : Frame fr z s) :
    Frame fr z (exchange a ds s).state := by
  unfold exchange
  try dsimp only
  repeat' first
    | (with_reducible first
        | exact hz | assumption | apply State.setLed_frame | apply refused_frame | apply reclaim_frame
        | apply cutBuckets_frame | apply fillBuckets_frame | apply Frame.fold)
    | split | exact List.Subset.trans (by decide) hl | intro _

theorem releaseBenches_frame {fr : List Chapter} {z : State} (l : List Admission) (s : State)
    (hl : [.emitted, .host, .pos, .led, .kw, .pln, .fab, .draw, .asy, .hm, .rcp, .flt] ⊆ fr) (hz : Frame fr z s) :
    Frame fr z (releaseBenches l s) := by
  fun_induction releaseBenches l s
  all_goals try dsimp only
  repeat' first
    | (with_reducible first
        | exact hz | apply_assumption | assumption | apply endAdm_frame | apply tellRevoked_frame | apply Frame.fold)
    | split | exact List.Subset.trans (by decide) hl | intro _

theorem release_frame {fr : List Chapter} {z : State} (a : Admission) (s : State)
    (hl : [.emitted, .host, .pos, .led, .kw, .pln, .fab, .draw, .asy, .hm, .rcp, .flt] ⊆ fr) (hz : Frame fr z s) :
    Frame fr z (release a s) := by
  unfold release
  try dsimp only
  repeat' first
    | (with_reducible first
        | exact hz | assumption | apply settleVAdm_frame | apply endAdm_frame | apply releaseBenches_frame
        | apply Frame.fold)
    | split | exact List.Subset.trans (by decide) hl | intro _

theorem releaseWhere_frame {fr : List Chapter} {z : State} (sel : Admission → Bool) (s : State)
    (hl : [.emitted, .host, .pos, .led, .kw, .pln, .fab, .draw, .asy, .hm, .rcp, .flt] ⊆ fr) (hz : Frame fr z s) :
    Frame fr z (releaseWhere sel s) := by
  unfold releaseWhere
  try dsimp only
  repeat' first
    | (with_reducible first
        | exact hz | assumption | apply release_frame | apply Frame.fold)
    | split | exact List.Subset.trans (by decide) hl | intro _

theorem modChan_frame {fr : List Chapter} {z : State} (n : Nat) (f : DioChan → DioChan) (s : State) (hl : [.dio] ⊆ fr)
    (hz : Frame fr z s) : Frame fr z (modChan n f s) := by
  unfold modChan
  try dsimp only
  repeat' first
    | (with_reducible first
        | exact hz | assumption | apply State.setDio_frame | apply Frame.fold)
    | split | exact List.Subset.trans (by decide) hl | intro _

theorem modFeed_frame {fr : List Chapter} {z : State} (k : Nat) (f : Feed → Feed) (s : State) (hl : [.dio] ⊆ fr)
    (hz : Frame fr z s) : Frame fr z (modFeed k f s) := by
  unfold modFeed
  try dsimp only
  repeat' first
    | (with_reducible first
        | exact hz | assumption | apply State.setDio_frame | apply Frame.fold)
    | split | exact List.Subset.trans (by decide) hl | intro _

theorem settleOut_frame {fr : List Chapter} {z : State} (n : Nat) (s : State) (hl : [.dio] ⊆ fr) (hz : Frame fr z s) :
    Frame fr z (settleOut n s) := by
  unfold settleOut
  try dsimp only
  repeat' first
    | (with_reducible first
        | exact hz | assumption | apply modChan_frame | apply Frame.fold)
    | split | exact List.Subset.trans (by decide) hl | intro _

theorem logFired_frame {fr : List Chapter} {z : State} (l : List Act) (s : State) (hl : [.led, .draw, .hm] ⊆ fr)
    (hz : Frame fr z s) : Frame fr z (logFired l s) := by
  fun_induction logFired l s
  all_goals try dsimp only
  repeat' first
    | (with_reducible first
        | exact hz | apply_assumption | assumption | apply logActOf_frame | apply dropAct_frame | apply Frame.fold)
    | split | exact List.Subset.trans (by decide) hl | intro _

theorem endPulse_frame {fr : List Chapter} {z : State} (n : Nat) (s : State) (hl : [.led, .draw, .hm, .dio] ⊆ fr)
    (hz : Frame fr z s) : Frame fr z (endPulse n s) := by
  unfold endPulse
  try dsimp only
  repeat' first
    | (with_reducible first
        | exact hz | assumption | apply settleOut_frame | apply logFired_frame | apply Frame.fold)
    | split | exact List.Subset.trans (by decide) hl | intro _

theorem skipNow_frame {fr : List Chapter} {z : State} (n : Nat) (s : State) (hl : [.led, .draw, .hm, .dio] ⊆ fr)
    (hz : Frame fr z s) : Frame fr z (skipNow n s) := by
  unfold skipNow
  try dsimp only
  repeat' first
    | (with_reducible first
        | exact hz | assumption | apply logActOf_frame | apply dropAct_frame | apply State.setDio_frame
        | apply Frame.fold)
    | split | exact List.Subset.trans (by decide) hl | intro _

theorem causeOn_frame {fr : List Chapter} {z : State} (b : Nat) (on : Bool) (n : Nat) (s : State)
    (hl : [.led, .draw, .hm, .dio] ⊆ fr) (hz : Frame fr z s) : Frame fr z (causeOn b on n s) := by
  unfold causeOn
  try dsimp only
  repeat' first
    | (with_reducible first
        | exact hz | assumption | apply modChan_frame | apply skipNow_frame | apply endPulse_frame
        | apply settleOut_frame | apply Frame.fold)
    | split | exact List.Subset.trans (by decide) hl | intro _

theorem causeEach_frame {fr : List Chapter} {z : State} (b : Nat) (on : Bool) (l : List Nat) (s : State)
    (hl : [.led, .draw, .hm, .dio] ⊆ fr) (hz : Frame fr z s) : Frame fr z (causeEach b on l s) := by
  fun_induction causeEach b on l s
  all_goals try dsimp only
  repeat' first
    | (with_reducible first
        | exact hz | apply_assumption | assumption | apply causeOn_frame | apply Frame.fold)
    | split | exact List.Subset.trans (by decide) hl | intro _

theorem noticeSafe_frame {fr : List Chapter} {z : State} (b : Nat) (changed : List Nat) (vals : List Word) (s : State)
    (hl : [.emitted, .host, .kw, .fab, .flt] ⊆ fr) (hz : Frame fr z s) : Frame fr z (noticeSafe b changed vals s) := by
  fun_induction noticeSafe b changed vals s
  all_goals try dsimp only
  repeat' first
    | (with_reducible first
        | exact hz | apply_assumption | assumption | apply noticeUnit_frame | apply Frame.fold)
    | split | exact List.Subset.trans (by decide) hl | intro _

theorem setCause_frame {fr : List Chapter} {z : State} (b : Nat) (on : Bool) (l : List Nat) (s : State)
    (hl : [.emitted, .host, .led, .kw, .fab, .draw, .hm, .dio, .flt] ⊆ fr) (hz : Frame fr z s) :
    Frame fr z (setCause b on l s) := by
  unfold setCause
  try dsimp only
  repeat' first
    | (with_reducible first
        | exact hz | assumption | apply causeEach_frame | apply noticeSafe_frame | apply Frame.fold)
    | split | exact List.Subset.trans (by decide) hl | intro _

theorem causeReset_frame {fr : List Chapter} {z : State} (s : State)
    (hl : [.emitted, .host, .led, .kw, .fab, .draw, .hm, .dio, .flt] ⊆ fr) (hz : Frame fr z s) :
    Frame fr z (causeReset s) := by
  unfold causeReset
  try dsimp only
  repeat' first
    | (with_reducible first
        | exact hz | assumption | apply setCause_frame | apply Frame.fold)
    | split | exact List.Subset.trans (by decide) hl | intro _

theorem settleFeed_frame {fr : List Chapter} {z : State} (k : Nat) (s : State) (hl : [.dio] ⊆ fr) (hz : Frame fr z s) :
    Frame fr z (settleFeed k s) := by
  unfold settleFeed
  try dsimp only
  repeat' first
    | (with_reducible first
        | exact hz | assumption | apply modFeed_frame | apply settleOut_frame | apply Frame.fold)
    | split | exact List.Subset.trans (by decide) hl | intro _

theorem retireEntries_frame {fr : List Chapter} {z : State} (l : List Act) (s : State) (hl : [.led, .draw, .hm] ⊆ fr)
    (hz : Frame fr z s) : Frame fr z (retireEntries l s) := by
  fun_induction retireEntries l s
  all_goals try dsimp only
  repeat' first
    | (with_reducible first
        | exact hz | apply_assumption | assumption | apply logActOf_frame | apply dropAct_frame | apply Frame.fold)
    | split | exact List.Subset.trans (by decide) hl | intro _

theorem logRetired_frame {fr : List Chapter} {z : State} (cls : Nat) (inst : Nat) (s : State) (hl : [.flt] ⊆ fr)
    (hz : Frame fr z s) : Frame fr z (logRetired cls inst s) := by
  unfold logRetired
  try dsimp only
  repeat' first
    | (with_reducible first
        | exact hz | assumption | apply logFault_frame | apply Frame.fold)
    | split | exact List.Subset.trans (by decide) hl | intro _

theorem returned_frame {fr : List Chapter} {z : State} (cls : Nat) (inst : Nat) (s : State) (hl : [.flt] ⊆ fr)
    (hz : Frame fr z s) : Frame fr z (returned cls inst s) := by
  unfold returned
  try dsimp only
  repeat' first
    | (with_reducible first
        | exact hz | assumption | apply logFault_frame | apply clearUpsets_frame | apply Frame.fold)
    | split | exact List.Subset.trans (by decide) hl | intro _

theorem endEye_frame {fr : List Chapter} {z : State} (l : Nat) (aborted : Bool) (s : State)
    (hl : [.emitted, .host, .kw, .lanes, .fab] ⊆ fr) (hz : Frame fr z s) : Frame fr z (endEye l aborted s) := by
  unfold endEye
  try dsimp only
  repeat' first
    | (with_reducible first
        | exact hz | assumption | apply modLane_frame | apply doneLater_frame | apply Frame.fold)
    | split | exact List.Subset.trans (by decide) hl | intro _

theorem unsentTrigger_frame {fr : List Chapter} {z : State} (l : Nat) (t : SentTrigger) (s : State) (hl : [.pln] ⊆ fr)
    (hz : Frame fr z s) : Frame fr z (unsentTrigger l t s) := by
  unfold unsentTrigger
  try dsimp only
  repeat' first
    | (with_reducible first
        | exact hz | assumption | apply State.setPln_frame | apply Frame.fold)
    | split | exact List.Subset.trans (by decide) hl | intro _

theorem leaveActive_frame {fr : List Chapter} {z : State} (l : Nat) (s : State)
    (hl : [.emitted, .host, .kw, .lanes, .pln, .fab] ⊆ fr) (hz : Frame fr z s) : Frame fr z (leaveActive l s) := by
  unfold leaveActive
  try dsimp only
  repeat' first
    | (with_reducible first
        | exact hz | assumption | apply unsentTrigger_frame | apply endEye_frame | apply modLane_frame
        | apply Frame.fold)
    | split | exact List.Subset.trans (by decide) hl | intro _

theorem retireLane_frame {fr : List Chapter} {z : State} (l : Nat) (s : State)
    (hl : [.emitted, .host, .kw, .lanes, .pln, .fab, .flt, .boot] ⊆ fr) (hz : Frame fr z s) :
    Frame fr z (retireLane l s) := by
  unfold retireLane
  try dsimp only
  repeat' first
    | (with_reducible first
        | exact hz | assumption | apply modLane_frame | apply leaveActive_frame | apply noticeUnit_frame
        | apply logRetired_frame | apply wantRecord_frame | apply Frame.fold)
    | split | exact List.Subset.trans (by decide) hl | intro _

theorem retireStake_frame {fr : List Chapter} {z : State} (k : Nat) (s : State)
    (hl : [.emitted, .host, .pos, .led, .kw, .pln, .fab, .draw, .asy, .hm, .rcp, .flt, .boot] ⊆ fr) (hz : Frame fr z s) :
    Frame fr z (retireStake k s) := by
  unfold retireStake
  try dsimp only
  repeat' first
    | (with_reducible first
        | exact hz | assumption | apply wantRecord_frame | apply State.setFab_frame | apply noticeUnit_frame
        | apply logRetired_frame | apply onCapacityChange_frame | apply Frame.fold)
    | split | exact List.Subset.trans (by decide) hl | intro _

theorem revokeLost_frame {fr : List Chapter} {z : State} (l : List Admission) (s : State)
    (hl : [.emitted, .host, .pos, .led, .kw, .pln, .fab, .draw, .asy, .hm, .rcp, .flt] ⊆ fr) (hz : Frame fr z s) :
    Frame fr z (revokeLost l s) := by
  fun_induction revokeLost l s
  all_goals try dsimp only
  repeat' first
    | (with_reducible first
        | exact hz | apply_assumption | assumption | apply revoke_frame | apply Frame.fold)
    | split | exact List.Subset.trans (by decide) hl | intro _

theorem loseObjects_frame {fr : List Chapter} {z : State} (l : List Obj) (s : State)
    (hl : [.emitted, .host, .pos, .led, .kw, .pln, .fab, .draw, .asy, .hm, .rcp, .flt] ⊆ fr) (hz : Frame fr z s) :
    Frame fr z (loseObjects l s) := by
  fun_induction loseObjects l s
  all_goals try dsimp only
  repeat' first
    | (with_reducible first
        | exact hz | apply_assumption | assumption | apply State.setDraw_frame | apply revokeLost_frame
        | apply noticeHolder_frame | apply Frame.fold)
    | split | exact List.Subset.trans (by decide) hl | intro _

theorem modDram_frame {fr : List Chapter} {z : State} (ch : Nat) (f : DramChan → DramChan) (s : State) (hl : [.draw] ⊆ fr)
    (hz : Frame fr z s) : Frame fr z (modDram ch f s) := by
  unfold modDram
  try dsimp only
  repeat' first
    | (with_reducible first
        | exact hz | assumption | apply State.setDraw_frame | apply Frame.fold)
    | split | exact List.Subset.trans (by decide) hl | intro _

theorem placeCopy_frame {fr : List Chapter} {z : State} (b : Nat) (item : Nat) (s : State) (hl : [.fab] ⊆ fr)
    (hz : Frame fr z s) : Frame fr z (placeCopy b item s) := by
  unfold placeCopy
  try dsimp only
  repeat' first
    | (with_reducible first
        | exact hz | assumption | apply modBench_frame | apply Frame.fold)
    | split | exact List.Subset.trans (by decide) hl | intro _

theorem remakeCopies_frame {fr : List Chapter} {z : State} (ch : Nat) (s : State) (hl : [.fab, .rcp] ⊆ fr)
    (hz : Frame fr z s) : Frame fr z (remakeCopies ch s) := by
  unfold remakeCopies
  try dsimp only
  repeat' first
    | (with_reducible first
        | exact hz | assumption | apply State.setRcp_frame | apply State.setFab_frame | apply Frame.fold)
    | split | exact List.Subset.trans (by decide) hl | intro _

theorem retireDram_frame {fr : List Chapter} {z : State} (ch : Nat) (s : State)
    (hl : [.emitted, .host, .pos, .led, .kw, .pln, .fab, .draw, .asy, .hm, .rcp, .flt, .boot] ⊆ fr) (hz : Frame fr z s) :
    Frame fr z (retireDram ch s) := by
  unfold retireDram
  try dsimp only
  repeat' first
    | (with_reducible first
        | exact hz | assumption | apply noticeUnit_frame | apply logFault_frame | apply wantRecord_frame
        | apply remakeCopies_frame | apply modDram_frame | apply logRetired_frame | apply onCapacityChange_frame
        | apply loseObjects_frame | apply Frame.fold)
    | split | exact List.Subset.trans (by decide) hl | intro _

theorem retireChannel_frame {fr : List Chapter} {z : State} (n : Nat) (s : State)
    (hl : [.emitted, .host, .led, .kw, .fab, .draw, .hm, .dio, .flt, .boot] ⊆ fr) (hz : Frame fr z s) :
    Frame fr z (retireChannel n s) := by
  unfold retireChannel
  try dsimp only
  repeat' first
    | (with_reducible first
        | exact hz | assumption | apply endPulse_frame | apply wantRecord_frame | apply modChan_frame
        | apply noticeUnit_frame | apply logRetired_frame | apply retireEntries_frame | apply Frame.fold)
    | split | exact List.Subset.trans (by decide) hl | intro _

theorem retireFeed_frame {fr : List Chapter} {z : State} (k : Nat) (s : State)
    (hl : [.emitted, .host, .pos, .led, .kw, .pln, .fab, .draw, .asy, .hm, .dio, .rcp, .flt, .boot] ⊆ fr)
    (hz : Frame fr z s) : Frame fr z (retireFeed k s) := by
  unfold retireFeed
  try dsimp only
  repeat' first
    | (with_reducible first
        | exact hz | assumption | apply endPulse_frame | apply wantRecord_frame | apply modFeed_frame
        | apply retireEntries_frame | apply settleFeed_frame | apply onCapacityChange_frame | apply noticeUnit_frame
        | apply logRetired_frame | apply Frame.fold)
    | split | exact List.Subset.trans (by decide) hl | intro _

theorem retireNow_frame {fr : List Chapter} {z : State} (cls : Nat) (inst : Nat) (s : State)
    (hl : [.emitted, .host, .pos, .led, .kw, .lanes, .pln, .fab, .draw, .asy, .hm, .dio, .rcp, .flt, .boot] ⊆ fr)
    (hz : Frame fr z s) : Frame fr z (retireNow cls inst s) := by
  unfold retireNow
  try dsimp only
  repeat' first
    | (with_reducible first
        | exact hz | assumption | apply retireLane_frame | apply retireStake_frame | apply retireDram_frame
        | apply retireChannel_frame | apply retireFeed_frame | apply Frame.fold)
    | split | exact List.Subset.trans (by decide) hl | intro _

theorem checkRetire_frame {fr : List Chapter} {z : State} (cls : Nat) (inst : Nat) (s : State)
    (hl : [.emitted, .host, .pos, .led, .kw, .lanes, .pln, .fab, .draw, .asy, .hm, .dio, .rcp, .flt, .boot] ⊆ fr)
    (hz : Frame fr z s) : Frame fr z (checkRetire cls inst s) := by
  unfold checkRetire
  try dsimp only
  repeat' first
    | (with_reducible first
        | exact hz | assumption | apply deferRetirement_frame | apply retireNow_frame | apply Frame.fold)
    | split | exact List.Subset.trans (by decide) hl | intro _

theorem upsetRetire_frame {fr : List Chapter} {z : State} (cls : Nat) (inst : Nat) (how : Nat) (injected : Bool)
    (retries : Nat) (affected : Nat) (s : State)
    (hl : [.emitted, .host, .pos, .led, .kw, .lanes, .pln, .fab, .draw, .asy, .hm, .dio, .rcp, .flt, .boot] ⊆ fr)
    (hz : Frame fr z s) : Frame fr z (upsetRetire cls inst how injected retries affected s) := by
  unfold upsetRetire
  try dsimp only
  repeat' first
    | (with_reducible first
        | exact hz | assumption | apply upset_frame | apply checkRetire_frame | apply Frame.fold)
    | split | exact List.Subset.trans (by decide) hl | intro _

theorem retireEach_frame {fr : List Chapter} {z : State} (l : List (Nat × Nat)) (s : State)
    (hl : [.emitted, .host, .pos, .led, .kw, .lanes, .pln, .fab, .draw, .asy, .hm, .dio, .rcp, .flt, .boot] ⊆ fr) (hz : Frame fr z s) :
    Frame fr z (retireEach l s) := by
  induction l generalizing s with
  | nil => exact hz
  | cons x r ih =>
    obtain ⟨c, i⟩ := x
    unfold retireEach
    apply ih
    split
    · exact hz
    · exact retireNow_frame _ _ _ (List.Subset.trans (by decide) hl) hz

theorem settleRetirements_frame {fr : List Chapter} {z : State} (s : State)
    (hl : [.emitted, .host, .pos, .led, .kw, .lanes, .pln, .fab, .draw, .asy, .hm, .dio, .rcp, .flt, .boot] ⊆ fr)
    (hz : Frame fr z s) : Frame fr z (settleRetirements s) := by
  unfold settleRetirements
  try dsimp only
  repeat' first
    | (with_reducible first
        | exact hz | assumption | apply retireEach_frame | apply State.setFlt_frame | apply Frame.fold)
    | split | exact List.Subset.trans (by decide) hl | intro _

theorem openSlot_frame {fr : List Chapter} {z : State} (c : Nat) (k : Int) (sp : Word) (scan : Word) (sent : Bool)
    (fresh : Bool) (s : State) (hl : [.pln] ⊆ fr) (hz : Frame fr z s) :
    Frame fr z (openSlot c k sp scan sent fresh s) := by
  unfold openSlot
  try dsimp only
  repeat' first
    | (with_reducible first
        | exact hz | assumption | apply modPlnChan_frame | apply Frame.fold)
    | split | exact List.Subset.trans (by decide) hl | intro _

theorem openSlots_frame {fr : List Chapter} {z : State} (l : List Nat) (k : Int) (sp : Word) (scan : Word)
    (sentOn : List Nat) (fresh : Bool) (s : State) (hl : [.pln] ⊆ fr) (hz : Frame fr z s) :
    Frame fr z (openSlots l k sp scan sentOn fresh s) := by
  fun_induction openSlots l k sp scan sentOn fresh s
  all_goals try dsimp only
  repeat' first
    | (with_reducible first
        | exact hz | apply_assumption | assumption | apply openSlot_frame | apply Frame.fold)
    | split | exact List.Subset.trans (by decide) hl | intro _

theorem deliverSegment_frame {fr : List Chapter} {z : State} (l : List Nat) (g : Segment) (s : State) (hl : [.pln] ⊆ fr)
    (hz : Frame fr z s) : Frame fr z (deliverSegment l g s) := by
  fun_induction deliverSegment l g s
  all_goals try dsimp only
  repeat' first
    | (with_reducible first
        | exact hz | apply_assumption | assumption | apply modPlnChan_frame | apply Frame.fold)
    | split | exact List.Subset.trans (by decide) hl | intro _

theorem upsetSlot_frame {fr : List Chapter} {z : State} (c : Nat) (k : Int) (ps : List Nat) (s : State) (hl : [.pln] ⊆ fr)
    (hz : Frame fr z s) : Frame fr z (upsetSlot c k ps s) := by
  unfold upsetSlot
  try dsimp only
  repeat' first
    | (with_reducible first
        | exact hz | assumption | apply modPlnChan_frame | apply Frame.fold)
    | split | exact List.Subset.trans (by decide) hl | intro _

theorem poisonSlots_frame {fr : List Chapter} {z : State} (addr : Nat) (s : State) (hl : [.pln] ⊆ fr) (hz : Frame fr z s) :
    Frame fr z (poisonSlots addr s) := by
  unfold poisonSlots
  try dsimp only
  repeat' first
    | (with_reducible first
        | exact hz | assumption | apply State.setPln_frame | apply Frame.fold)
    | split | exact List.Subset.trans (by decide) hl | intro _

theorem ringBytes_frame {fr : List Chapter} {z : State} (base : Nat) (size : Nat) (at_ : Nat) (b : Bytes) (s : State)
    (hl : [.draw] ⊆ fr) (hz : Frame fr z s) : Frame fr z (ringBytes base size at_ b s) := by
  unfold ringBytes
  try dsimp only
  repeat' first
    | (with_reducible first
        | exact hz | assumption | apply unitWrite_frame | apply Frame.fold)
    | split | exact List.Subset.trans (by decide) hl | intro _

theorem statWrite_frame {fr : List Chapter} {z : State} (v : Nat) (ty : Nat) (sp : Word) (body : Bytes) (s : State)
    (hl : [.pln, .draw] ⊆ fr) (hz : Frame fr z s) : Frame fr z (statWrite v ty sp body s) := by
  unfold statWrite
  try dsimp only
  repeat' first
    | (with_reducible first
        | exact hz | assumption | apply modView_frame | apply ringBytes_frame | apply Frame.fold)
    | split | exact List.Subset.trans (by decide) hl | intro _

theorem concRecord_frame {fr : List Chapter} {z : State} (c : Nat) (x : ConcRun) (s : State)
    (hl : [.emitted, .host, .kw, .pln, .fab, .draw, .flt] ⊆ fr) (hz : Frame fr z s) : Frame fr z (concRecord c x s) := by
  unfold concRecord
  try dsimp only
  repeat' first
    | (with_reducible first
        | exact hz | assumption | apply statWrite_frame | apply noticeUnitAt_frame | apply modPlnChan_frame
        | apply Frame.fold)
    | split | exact List.Subset.trans (by decide) hl | intro _

theorem concRecords_frame {fr : List Chapter} {z : State} (c : Nat) (l : List ConcRun) (s : State)
    (hl : [.emitted, .host, .kw, .pln, .fab, .draw, .flt] ⊆ fr) (hz : Frame fr z s) : Frame fr z (concRecords c l s) := by
  fun_induction concRecords c l s
  all_goals try dsimp only
  repeat' first
    | (with_reducible first
        | exact hz | apply_assumption | assumption | apply concRecord_frame | apply Frame.fold)
    | split | exact List.Subset.trans (by decide) hl | intro _

theorem settleRuns_frame {fr : List Chapter} {z : State} (c : Nat) (mine : ConcRun → Bool) (restart : Bool)
    (new : List ConcRun) (s : State) (hl : [.emitted, .host, .kw, .pln, .fab, .draw, .flt] ⊆ fr) (hz : Frame fr z s) :
    Frame fr z (settleRuns c mine restart new s) := by
  unfold settleRuns
  try dsimp only
  repeat' first
    | (with_reducible first
        | exact hz | assumption | apply concRecords_frame | apply modPlnChan_frame | apply Frame.fold)
    | split | exact List.Subset.trans (by decide) hl | intro _

theorem tapOne_frame {fr : List Chapter} {z : State} (tflags : Nat) (sp : Word) (scan : Word) (first : Nat) (count : Nat)
    (data : Bytes) (t : Tap) (s : State) (hl : [.pln, .draw] ⊆ fr) (hz : Frame fr z s) :
    Frame fr z (tapOne tflags sp scan first count data t s) := by
  unfold tapOne
  try dsimp only
  repeat' first
    | (with_reducible first
        | exact hz | assumption | apply State.setPln_frame | apply unitWrite_frame | apply Frame.fold)
    | split | exact List.Subset.trans (by decide) hl | intro _

theorem tapEach_frame {fr : List Chapter} {z : State} (tflags : Nat) (sp : Word) (scan : Word) (first : Nat) (count : Nat)
    (data : Bytes) (l : List Tap) (s : State) (hl : [.pln, .draw] ⊆ fr) (hz : Frame fr z s) :
    Frame fr z (tapEach tflags sp scan first count data l s) := by
  fun_induction tapEach tflags sp scan first count data l s
  all_goals try dsimp only
  repeat' first
    | (with_reducible first
        | exact hz | apply_assumption | assumption | apply tapOne_frame | apply Frame.fold)
    | split | exact List.Subset.trans (by decide) hl | intro _

theorem tapRecord_frame {fr : List Chapter} {z : State} (point : Nat) (source : Nat) (tflags : Nat) (sp : Word)
    (scan : Word) (first : Nat) (count : Nat) (data : Bytes) (s : State) (hl : [.pln, .draw] ⊆ fr) (hz : Frame fr z s) :
    Frame fr z (tapRecord point source tflags sp scan first count data s) := by
  unfold tapRecord
  try dsimp only
  repeat' first
    | (with_reducible first
        | exact hz | assumption | apply tapEach_frame | apply Frame.fold)
    | split | exact List.Subset.trans (by decide) hl | intro _

theorem stage2_frame {fr : List Chapter} {z : State} (n : Nat) (x : Slot) (later : List Slot) (s : State)
    (hl : [.emitted, .host, .kw, .pln, .fab, .draw, .flt] ⊆ fr) (hz : Frame fr z s) :
    Frame fr z (stage2 n x later s) := by
  unfold stage2
  try dsimp only
  repeat' first
    | (with_reducible first
        | exact hz | assumption | apply tapRecord_frame | apply modPlnChan_frame | apply settleRuns_frame
        | apply Frame.fold)
    | split | exact List.Subset.trans (by decide) hl | intro _

theorem passSlot_frame {fr : List Chapter} {z : State} (n : Nat) (s : State)
    (hl : [.emitted, .host, .kw, .pln, .fab, .draw, .flt] ⊆ fr) (hz : Frame fr z s) : Frame fr z (passSlot n s) := by
  unfold passSlot
  try dsimp only
  repeat' first
    | (with_reducible first
        | exact hz | assumption | apply stage2_frame | apply Frame.fold)
    | split | exact List.Subset.trans (by decide) hl | intro _

theorem goLane_frame {fr : List Chapter} {z : State} (l : Nat) (st : LaneState) (rate : Nat) (s : State)
    (hl : [.lanes] ⊆ fr) (hz : Frame fr z s) : Frame fr z (goLane l st rate s) := by
  unfold goLane
  try dsimp only
  repeat' first
    | (with_reducible first
        | exact hz | assumption | apply modLane_frame | apply Frame.fold)
    | split | exact List.Subset.trans (by decide) hl | intro _

theorem sendUplink_frame {fr : List Chapter} {z : State} (l : Nat) (ty : Nat) (payload : Bytes) (s : State)
    (hl : [.emitted, .lanes] ⊆ fr) (hz : Frame fr z s) : Frame fr z (sendUplink l ty payload s) := by
  unfold sendUplink
  try dsimp only
  repeat' first
    | (with_reducible first
        | exact hz | assumption | apply State.emit_frame | apply modLane_frame | apply Frame.fold)
    | split | exact List.Subset.trans (by decide) hl | intro _

theorem sendTrain_frame {fr : List Chapter} {z : State} (l : Nat) (rate : Nat) (s : State) (hl : [.emitted, .lanes] ⊆ fr)
    (hz : Frame fr z s) : Frame fr z (sendTrain l rate s) := by
  unfold sendTrain
  try dsimp only
  repeat' first
    | (with_reducible first
        | exact hz | assumption | apply sendUplink_frame | apply Frame.fold)
    | split | exact List.Subset.trans (by decide) hl | intro _

theorem goTrain_frame {fr : List Chapter} {z : State} (l : Nat) (rate : Nat) (s : State) (hl : [.emitted, .lanes] ⊆ fr)
    (hz : Frame fr z s) : Frame fr z (goTrain l rate s) := by
  unfold goTrain
  try dsimp only
  repeat' first
    | (with_reducible first
        | exact hz | assumption | apply sendTrain_frame | apply goLane_frame | apply Frame.fold)
    | split | exact List.Subset.trans (by decide) hl | intro _

theorem goDetect_frame {fr : List Chapter} {z : State} (l : Nat) (s : State) (hl : [.lanes] ⊆ fr) (hz : Frame fr z s) :
    Frame fr z (goDetect l s) := by
  unfold goDetect
  try dsimp only
  repeat' first
    | (with_reducible first
        | exact hz | assumption | apply goLane_frame | apply modLane_frame | apply Frame.fold)
    | split | exact List.Subset.trans (by decide) hl | intro _

theorem noticeUp_frame {fr : List Chapter} {z : State} (l : Nat) (s : State)
    (hl : [.emitted, .host, .kw, .fab, .flt] ⊆ fr) (hz : Frame fr z s) : Frame fr z (noticeUp l s) := by
  unfold noticeUp
  try dsimp only
  repeat' first
    | (with_reducible first
        | exact hz | assumption | apply noticeUnit_frame | apply Frame.fold)
    | split | exact List.Subset.trans (by decide) hl | intro _

theorem noticeDown_frame {fr : List Chapter} {z : State} (l : Nat) (cause : Nat) (s : State)
    (hl : [.emitted, .host, .kw, .fab, .flt] ⊆ fr) (hz : Frame fr z s) : Frame fr z (noticeDown l cause s) := by
  unfold noticeDown
  try dsimp only
  repeat' first
    | (with_reducible first
        | exact hz | assumption | apply noticeUnit_frame | apply Frame.fold)
    | split | exact List.Subset.trans (by decide) hl | intro _

theorem goActive_frame {fr : List Chapter} {z : State} (l : Nat) (rate : Nat) (s : State)
    (hl : [.emitted, .host, .kw, .lanes, .fab, .flt] ⊆ fr) (hz : Frame fr z s) : Frame fr z (goActive l rate s) := by
  unfold goActive
  try dsimp only
  repeat' first
    | (with_reducible first
        | exact hz | assumption | apply goLane_frame | apply modLane_frame | apply recovered_frame
        | apply noticeUp_frame | apply Frame.fold)
    | split | exact List.Subset.trans (by decide) hl | intro _

theorem laneFalls_frame {fr : List Chapter} {z : State} (l : Nat) (how : Nat) (injected : Bool) (s : State)
    (hl : [.emitted, .host, .pos, .led, .kw, .lanes, .pln, .fab, .draw, .asy, .hm, .dio, .rcp, .flt, .boot] ⊆ fr)
    (hz : Frame fr z s) : Frame fr z (laneFalls l how injected s) := by
  unfold laneFalls
  try dsimp only
  repeat' first
    | (with_reducible first
        | exact hz | assumption | apply leaveActive_frame | apply modLane_frame | apply goTrain_frame
        | apply goDetect_frame | apply upsetRetire_frame | apply noticeDown_frame | apply Frame.fold)
    | split | exact List.Subset.trans (by decide) hl | intro _

theorem upsetEach_frame {fr : List Chapter} {z : State} (how : Nat) (injected : Bool) (ls : List Nat) (s : State)
    (hl : [.emitted, .host, .pos, .led, .kw, .lanes, .pln, .fab, .draw, .asy, .hm, .dio, .rcp, .flt, .boot] ⊆ fr)
    (hz : Frame fr z s) : Frame fr z (upsetEach how injected ls s) := by
  fun_induction upsetEach how injected ls s
  all_goals try dsimp only
  repeat' first
    | (with_reducible first
        | exact hz | apply_assumption | assumption | apply laneFalls_frame | apply Frame.fold)
    | split | exact List.Subset.trans (by decide) hl | intro _

theorem followEach_frame {fr : List Chapter} {z : State} (injected : Bool) (ls : List Nat) (s : State)
    (hl : [.emitted, .host, .kw, .lanes, .pln, .fab, .flt] ⊆ fr) (hz : Frame fr z s) :
    Frame fr z (followEach injected ls s) := by
  fun_induction followEach injected ls s
  all_goals try dsimp only
  repeat' first
    | (with_reducible first
        | exact hz | apply_assumption | assumption | apply noticeDown_frame | apply goDetect_frame
        | apply leaveActive_frame | apply modLane_frame | apply Frame.fold)
    | split | exact List.Subset.trans (by decide) hl | intro _

theorem laneUpset_frame {fr : List Chapter} {z : State} (l : Nat) (how : Nat) (injected : Bool) (s : State)
    (hl : [.emitted, .host, .pos, .led, .kw, .lanes, .pln, .fab, .draw, .asy, .hm, .dio, .rcp, .flt, .boot] ⊆ fr)
    (hz : Frame fr z s) : Frame fr z (laneUpset l how injected s) := by
  unfold laneUpset
  try dsimp only
  repeat' first
    | (with_reducible first
        | exact hz | assumption | apply followEach_frame | apply laneFalls_frame | apply Frame.fold)
    | split | exact List.Subset.trans (by decide) hl | intro _

theorem lockLoss_frame {fr : List Chapter} {z : State} (l : Nat) (s : State)
    (hl : [.emitted, .host, .pos, .led, .kw, .lanes, .pln, .fab, .draw, .asy, .hm, .dio, .rcp, .flt, .boot] ⊆ fr)
    (hz : Frame fr z s) : Frame fr z (lockLoss l s) := by
  unfold lockLoss
  try dsimp only
  repeat' first
    | (with_reducible first
        | exact hz | assumption | apply modLane_frame | apply laneFalls_frame | apply Frame.fold)
    | split | exact List.Subset.trans (by decide) hl | intro _

theorem lockLossEach_frame {fr : List Chapter} {z : State} (ls : List Nat) (s : State)
    (hl : [.emitted, .host, .pos, .led, .kw, .lanes, .pln, .fab, .draw, .asy, .hm, .dio, .rcp, .flt, .boot] ⊆ fr)
    (hz : Frame fr z s) : Frame fr z (lockLossEach ls s) := by
  fun_induction lockLossEach ls s
  all_goals try dsimp only
  repeat' first
    | (with_reducible first
        | exact hz | apply_assumption | assumption | apply lockLoss_frame | apply Frame.fold)
    | split | exact List.Subset.trans (by decide) hl | intro _

theorem blockReceived_frame {fr : List Chapter} {z : State} (l : Nat) (syncErrors : Nat) (line : List Bool) (s : State)
    (hl : [.emitted, .host, .pos, .led, .kw, .lanes, .pln, .fab, .draw, .asy, .hm, .dio, .rcp, .flt, .boot] ⊆ fr)
    (hz : Frame fr z s) : Frame fr z (blockReceived l syncErrors line s) := by
  unfold blockReceived
  try dsimp only
  repeat' first
    | (with_reducible first
        | exact hz | assumption | apply lockLoss_frame | apply modLane_frame | apply Frame.fold)
    | split | exact List.Subset.trans (by decide) hl | intro _

theorem capFault_frame {fr : List Chapter} {z : State} (l : Nat) (changed : Bool) (s : State)
    (hl : [.emitted, .host, .kw, .lanes, .fab, .flt] ⊆ fr) (hz : Frame fr z s) : Frame fr z (capFault l changed s) := by
  unfold capFault
  try dsimp only
  repeat' first
    | (with_reducible first
        | exact hz | assumption | apply noticeDown_frame | apply goLane_frame | apply modLane_frame | apply Frame.fold)
    | split | exact List.Subset.trans (by decide) hl | intro _

theorem capExchange_frame {fr : List Chapter} {z : State} (l : Nat) (b : Bytes) (s : State)
    (hl : [.emitted, .host, .kw, .lanes, .fab, .flt] ⊆ fr) (hz : Frame fr z s) : Frame fr z (capExchange l b s) := by
  unfold capExchange
  try dsimp only
  repeat' first
    | (with_reducible first
        | exact hz | assumption | apply modLane_frame | apply capFault_frame | apply goDetect_frame
        | apply sendUplink_frame | apply goActive_frame | apply goTrain_frame | apply Frame.fold)
    | split | exact List.Subset.trans (by decide) hl | intro _

theorem fallback_frame {fr : List Chapter} {z : State} (l : Nat) (s : State) (hl : [.lanes] ⊆ fr) (hz : Frame fr z s) :
    Frame fr z (fallback l s) := by
  unfold fallback
  try dsimp only
  repeat' first
    | (with_reducible first
        | exact hz | assumption | apply modLane_frame | apply Frame.fold)
    | split | exact List.Subset.trans (by decide) hl | intro _

theorem bringupExpired_frame {fr : List Chapter} {z : State} (l : Nat) (s : State) (hl : [.emitted, .lanes] ⊆ fr)
    (hz : Frame fr z s) : Frame fr z (bringupExpired l s) := by
  unfold bringupExpired
  try dsimp only
  repeat' first
    | (with_reducible first
        | exact hz | assumption | apply goDetect_frame | apply fallback_frame | apply goTrain_frame
        | apply modLane_frame | apply Frame.fold)
    | split | exact List.Subset.trans (by decide) hl | intro _

theorem goEach_frame {fr : List Chapter} {z : State} (st : LaneState) (rate : Nat) (ls : List Nat) (s : State)
    (hl : [.lanes] ⊆ fr) (hz : Frame fr z s) : Frame fr z (goEach st rate ls s) := by
  fun_induction goEach st rate ls s
  all_goals try dsimp only
  repeat' first
    | (with_reducible first
        | exact hz | apply_assumption | assumption | apply goLane_frame | apply Frame.fold)
    | split | exact List.Subset.trans (by decide) hl | intro _

theorem activeEach_frame {fr : List Chapter} {z : State} (rate : Nat) (ls : List Nat) (s : State)
    (hl : [.emitted, .host, .kw, .lanes, .fab, .flt] ⊆ fr) (hz : Frame fr z s) : Frame fr z (activeEach rate ls s) := by
  fun_induction activeEach rate ls s
  all_goals try dsimp only
  repeat' first
    | (with_reducible first
        | exact hz | apply_assumption | assumption | apply goActive_frame | apply Frame.fold)
    | split | exact List.Subset.trans (by decide) hl | intro _

theorem detectEach_frame {fr : List Chapter} {z : State} (ls : List Nat) (s : State) (hl : [.lanes] ⊆ fr)
    (hz : Frame fr z s) : Frame fr z (detectEach ls s) := by
  fun_induction detectEach ls s
  all_goals try dsimp only
  repeat' first
    | (with_reducible first
        | exact hz | apply_assumption | assumption | apply goDetect_frame | apply Frame.fold)
    | split | exact List.Subset.trans (by decide) hl | intro _

theorem emitUplinks_frame {fr : List Chapter} {z : State} (l : Nat) (ms : List Bytes) (s : State) (hl : [.emitted] ⊆ fr)
    (hz : Frame fr z s) : Frame fr z (emitUplinks l ms s) := by
  fun_induction emitUplinks l ms s
  all_goals try dsimp only
  repeat' first
    | (with_reducible first
        | exact hz | apply_assumption | assumption | apply State.emit_frame | apply Frame.fold)
    | split | exact List.Subset.trans (by decide) hl | intro _

theorem startCtrl_frame {fr : List Chapter} {z : State} (l : Nat) (p : Packet) (b : Bytes) (s : State)
    (hl : [.emitted, .kw, .lanes] ⊆ fr) (hz : Frame fr z s) : Frame fr z (startCtrl l p b s) := by
  unfold startCtrl
  try dsimp only
  repeat' first
    | (with_reducible first
        | exact hz | assumption | apply modLane_frame | apply commitP_frame | apply emitUplinks_frame
        | apply State.emit_frame | apply Frame.fold)
    | split | exact List.Subset.trans (by decide) hl | intro _

theorem ctrlAnswer_frame {fr : List Chapter} {z : State} (l : Nat) (tag : Byte) (data : Bytes) (s : State)
    (hl : [.emitted, .host, .kw, .lanes, .fab] ⊆ fr) (hz : Frame fr z s) : Frame fr z (ctrlAnswer l tag data s) := by
  unfold ctrlAnswer
  try dsimp only
  repeat' first
    | (with_reducible first
        | exact hz | assumption | apply countFenced_frame | apply modLane_frame | apply doneLater_frame
        | apply Frame.fold)
    | split | exact List.Subset.trans (by decide) hl | intro _

theorem sendTest_frame {fr : List Chapter} {z : State} (l : Nat) (b : List Bool) (s : State) (hl : [.emitted] ⊆ fr)
    (hz : Frame fr z s) : Frame fr z (sendTest l b s) := by
  unfold sendTest
  try dsimp only
  repeat' first
    | (with_reducible first
        | exact hz | assumption | apply State.emit_frame | apply Frame.fold)
    | split | exact List.Subset.trans (by decide) hl | intro _

theorem testLine_frame {fr : List Chapter} {z : State} (l : Nat) (line : List Bool) (s : State)
    (hl : [.emitted, .lanes] ⊆ fr) (hz : Frame fr z s) : Frame fr z (testLine l line s) := by
  unfold testLine
  try dsimp only
  repeat' first
    | (with_reducible first
        | exact hz | assumption | apply modLane_frame | apply sendTest_frame | apply Frame.fold)
    | split | exact List.Subset.trans (by decide) hl | intro _

theorem testPair_frame {fr : List Chapter} {z : State} (l : Nat) (line partner : List Bool) (s : State)
    (hl : [.emitted, .lanes] ⊆ fr) (hz : Frame fr z s) : Frame fr z (testPair l line partner s) :=
  testLine_frame _ _ _ hl (testLine_frame _ _ _ hl hz)

theorem eqPinned_frame {fr : List Chapter} {z : State} (l : Nat) (i : Nat) (upper : Bool) (s : State)
    (hl : [.emitted, .host, .kw, .lanes, .fab, .flt] ⊆ fr) (hz : Frame fr z s) : Frame fr z (eqPinned l i upper s) := by
  unfold eqPinned
  try dsimp only
  repeat' first
    | (with_reducible first
        | exact hz | assumption | apply noticeUnit_frame | apply modLane_frame | apply Frame.fold)
    | split | exact List.Subset.trans (by decide) hl | intro _

theorem adaptOne_frame {fr : List Chapter} {z : State} (l : Nat) (i : Nat) (v : Int) (s : State)
    (hl : [.emitted, .host, .kw, .lanes, .fab, .flt] ⊆ fr) (hz : Frame fr z s) : Frame fr z (adaptOne l i v s) := by
  unfold adaptOne
  try dsimp only
  repeat' first
    | (with_reducible first
        | exact hz | assumption | apply modLane_frame | apply eqPinned_frame | apply Frame.fold)
    | split | exact List.Subset.trans (by decide) hl | intro _

theorem stopLane_frame {fr : List Chapter} {z : State} (l : Nat) (dest : LaneState) (cause : Nat) (s : State)
    (hl : [.emitted, .host, .kw, .lanes, .pln, .fab, .flt] ⊆ fr) (hz : Frame fr z s) :
    Frame fr z (stopLane l dest cause s) := by
  unfold stopLane
  try dsimp only
  repeat' first
    | (with_reducible first
        | exact hz | assumption | apply goLane_frame | apply modLane_frame | apply leaveActive_frame
        | apply noticeDown_frame | apply Frame.fold)
    | split | exact List.Subset.trans (by decide) hl | intro _

theorem applyTrigger_frame {fr : List Chapter} {z : State} (tg : Nat) (p : Nat) (f : Nat) (from_ : Int) (s : State)
    (hl : [.lanes] ⊆ fr) (hz : Frame fr z s) : Frame fr z (applyTrigger tg p f from_ s) := by
  unfold applyTrigger
  try dsimp only
  repeat' first
    | (with_reducible first
        | exact hz | assumption | apply State.setLanes_frame | apply Frame.fold)
    | split | exact List.Subset.trans (by decide) hl | intro _

theorem domainOffLanes_frame {fr : List Chapter} {z : State} (ls : List Nat) (s : State)
    (hl : [.emitted, .host, .kw, .lanes, .pln, .fab, .flt] ⊆ fr) (hz : Frame fr z s) :
    Frame fr z (domainOffLanes ls s) := by
  fun_induction domainOffLanes ls s
  all_goals try dsimp only
  repeat' first
    | (with_reducible first
        | exact hz | apply_assumption | assumption | apply noticeDown_frame | apply goLane_frame | apply modLane_frame
        | apply leaveActive_frame | apply Frame.fold)
    | split | exact List.Subset.trans (by decide) hl | intro _

theorem giveTrigger_frame {fr : List Chapter} {z : State} (l : Nat) (t : SentTrigger) (s : State)
    (hl : [.emitted, .lanes] ⊆ fr) (hz : Frame fr z s) : Frame fr z (giveTrigger l t s) := by
  unfold giveTrigger
  try dsimp only
  repeat' first
    | (with_reducible first
        | exact hz | assumption | apply modLane_frame | apply State.emit_frame | apply Frame.fold)
    | split | exact List.Subset.trans (by decide) hl | intro _

theorem triggerLane_frame {fr : List Chapter} {z : State} (t : SentTrigger) (l : Nat) (a : List Nat × State)
    (hl : [.emitted, .lanes] ⊆ fr) (hz : Frame fr z a.2) : Frame fr z (triggerLane t l a).2 := by
  unfold triggerLane
  try dsimp only
  repeat' first
    | (with_reducible first
        | exact hz | assumption | apply modLane_frame | apply giveTrigger_frame | apply Frame.fold)
    | split | exact List.Subset.trans (by decide) hl | intro _

theorem triggerLanes_frame {fr : List Chapter} {z : State} (t : SentTrigger) (ls : List Nat) (a : List Nat × State)
    (hl : [.emitted, .lanes] ⊆ fr) (hz : Frame fr z a.2) : Frame fr z (triggerLanes t ls a).2 := by
  fun_induction triggerLanes t ls a
  all_goals try dsimp only
  repeat' first
    | (with_reducible first
        | exact hz | apply_assumption | assumption | apply triggerLane_frame | apply Frame.fold)
    | split | exact List.Subset.trans (by decide) hl | intro _

theorem applyCond_frame {fr : List Chapter} {z : State} (tg : Nat) (p : Long) (s : State) (hl : [.rcp] ⊆ fr)
    (hz : Frame fr z s) : Frame fr z (applyCond tg p s) := by
  unfold applyCond
  try dsimp only
  repeat' first
    | (with_reducible first
        | exact hz | assumption | apply State.setRcp_frame | apply Frame.fold)
    | split | exact List.Subset.trans (by decide) hl | intro _

theorem fire_frame {fr : List Chapter} {z : State} (tg : Nat) (s : State) (hl : [.emitted, .lanes, .pln, .rcp] ⊆ fr)
    (hz : Frame fr z s) : Frame fr z (fire tg s) := by
  unfold fire
  try dsimp only
  repeat' first
    | (with_reducible first
        | exact hz | assumption | apply State.setLanes_frame | apply applyCond_frame | apply triggerLanes_frame
        | apply openSlots_frame | apply Frame.fold)
    | split | exact List.Subset.trans (by decide) hl | intro _

theorem sendTrigger_frame {fr : List Chapter} {z : State} (l : Nat) (t : SentTrigger) (crossed : Nat) (s : State)
    (hl : [.now, .emitted, .lanes] ⊆ fr) (hz : Frame fr z s) : Frame fr z (sendTrigger l t crossed s) := by
  unfold sendTrigger
  try dsimp only
  repeat' first
    | (with_reducible first
        | exact hz | assumption | apply State.emit_frame | apply modLane_frame | apply State.at__frame
        | apply Frame.fold)
    | split | exact List.Subset.trans (by decide) hl | intro _

theorem unmapped_frame {fr : List Chapter} {z : State} (l : Nat) (s : State) (hl : [.lanes] ⊆ fr) (hz : Frame fr z s) :
    Frame fr z (unmapped l s) := by
  unfold unmapped
  try dsimp only
  repeat' first
    | (with_reducible first
        | exact hz | assumption | apply modLane_frame | apply Frame.fold)
    | split | exact List.Subset.trans (by decide) hl | intro _

theorem camEvent_frame {fr : List Chapter} {z : State} (l : Nat) (vc : Nat) (data : Bytes) (s : State)
    (hl : [.emitted, .host, .kw, .fab, .flt] ⊆ fr) (hz : Frame fr z s) : Frame fr z (camEvent l vc data s) := by
  unfold camEvent
  try dsimp only
  repeat' first
    | (with_reducible first
        | exact hz | assumption | apply noticeUnit_frame | apply Frame.fold)
    | split | exact List.Subset.trans (by decide) hl | intro _

theorem pixelPacket_frame {fr : List Chapter} {z : State} (l : Nat) (p : CamPacket) (bad : Bool) (s : State)
    (hl : [.lanes, .pln] ⊆ fr) (hz : Frame fr z s) : Frame fr z (pixelPacket l p bad s) := by
  unfold pixelPacket
  try dsimp only
  repeat' first
    | (with_reducible first
        | exact hz | assumption | apply unmapped_frame | apply modLane_frame | apply deliverSegment_frame
        | apply Frame.fold)
    | split | exact List.Subset.trans (by decide) hl | intro _

theorem countInject_frame {fr : List Chapter} {z : State} (l : Nat) (s : State) (hl : [.lanes] ⊆ fr) (hz : Frame fr z s) :
    Frame fr z (countInject l s) := by
  unfold countInject
  try dsimp only
  repeat' first
    | (with_reducible first
        | exact hz | assumption | apply modLane_frame | apply Frame.fold)
    | split | exact List.Subset.trans (by decide) hl | intro _

theorem countCrc_frame {fr : List Chapter} {z : State} (l : Nat) (injected : Bool) (s : State) (hl : [.lanes] ⊆ fr)
    (hz : Frame fr z s) : Frame fr z (countCrc l injected s) := by
  unfold countCrc
  try dsimp only
  repeat' first
    | (with_reducible first
        | exact hz | assumption | apply modLane_frame | apply Frame.fold)
    | split | exact List.Subset.trans (by decide) hl | intro _

theorem routePacket_frame {fr : List Chapter} {z : State} (l : Nat) (p : CamPacket) (bad : Bool) (s : State)
    (hl : [.emitted, .host, .kw, .lanes, .pln, .fab, .flt] ⊆ fr) (hz : Frame fr z s) :
    Frame fr z (routePacket l p bad s) := by
  unfold routePacket
  try dsimp only
  repeat' first
    | (with_reducible first
        | exact hz | assumption | apply unmapped_frame | apply pixelPacket_frame | apply camEvent_frame
        | apply ctrlAnswer_frame | apply Frame.fold)
    | split | exact List.Subset.trans (by decide) hl | intro _

theorem packetTaken_frame {fr : List Chapter} {z : State} (l : Nat) (w : List RxWord) (s : State)
    (hl : [.emitted, .host, .kw, .lanes, .pln, .fab, .flt] ⊆ fr) (hz : Frame fr z s) :
    Frame fr z (packetTaken l w s) := by
  unfold packetTaken
  try dsimp only
  repeat' first
    | (with_reducible first
        | exact hz | assumption | apply countInject_frame | apply countCrc_frame | apply routePacket_frame
        | apply Frame.fold)
    | split | exact List.Subset.trans (by decide) hl | intro _

theorem modStream_frame {fr : List Chapter} {z : State} (l : Nat) (stream : Byte) (f : CxpStream → CxpStream) (s : State)
    (hl : [.lanes] ⊆ fr) (hz : Frame fr z s) : Frame fr z (modStream l stream f s) := by
  unfold modStream
  try dsimp only
  repeat' first
    | (with_reducible first
        | exact hz | assumption | apply modLane_frame | apply Frame.fold)
    | split | exact List.Subset.trans (by decide) hl | intro _

theorem missEach_frame {fr : List Chapter} {z : State} (ts : List SentTrigger) (cs : List Nat) (s : State)
    (hl : [.pln] ⊆ fr) (hz : Frame fr z s) : Frame fr z (missEach ts cs s) := by
  fun_induction missEach ts cs s
  all_goals try dsimp only
  repeat' first
    | (with_reducible first
        | exact hz | apply_assumption | assumption | apply modPlnChan_frame | apply Frame.fold)
    | split | exact List.Subset.trans (by decide) hl | intro _

theorem cxpHeader_frame {fr : List Chapter} {z : State} (l : Nat) (stream : Byte) (vc : Nat) (s : State)
    (hl : [.lanes, .pln] ⊆ fr) (hz : Frame fr z s) : Frame fr z (cxpHeader l stream vc s) := by
  unfold cxpHeader
  try dsimp only
  repeat' first
    | (with_reducible first
        | exact hz | assumption | apply missEach_frame | apply modLane_frame | apply Frame.fold)
    | split | exact List.Subset.trans (by decide) hl | intro _

theorem cxpLine_frame {fr : List Chapter} {z : State} (l : Nat) (stream : Byte) (vc : Nat) (first : Nat) (format : Nat)
    (samples : List Nat) (crcGood : Bool) (s : State) (hl : [.lanes, .pln] ⊆ fr) (hz : Frame fr z s) :
    Frame fr z (cxpLine l stream vc first format samples crcGood s) := by
  unfold cxpLine
  try dsimp only
  repeat' first
    | (with_reducible first
        | exact hz | assumption | apply countInject_frame | apply countCrc_frame | apply unmapped_frame
        | apply modStream_frame | apply modLane_frame | apply deliverSegment_frame | apply Frame.fold)
    | split | exact List.Subset.trans (by decide) hl | intro _

theorem cxpPacket_frame {fr : List Chapter} {z : State} (l : Nat) (p : CxpPacket) (s : State)
    (hl : [.emitted, .host, .kw, .lanes, .pln, .fab, .flt] ⊆ fr) (hz : Frame fr z s) : Frame fr z (cxpPacket l p s) := by
  unfold cxpPacket
  try dsimp only
  repeat' first
    | (with_reducible first
        | exact hz | assumption | apply unmapped_frame | apply cxpHeader_frame | apply cxpLine_frame
        | apply camEvent_frame | apply Frame.fold)
    | split | exact List.Subset.trans (by decide) hl | intro _

theorem applyImages_frame {fr : List Chapter} {z : State} (l : List PendingReprog) (s : State) (hl : [.pln] ⊆ fr)
    (hz : Frame fr z s) : Frame fr z (applyImages l s) := by
  fun_induction applyImages l s
  all_goals try dsimp only
  repeat' first
    | (with_reducible first
        | exact hz | apply_assumption | assumption | apply applyImage_frame | apply Frame.fold)
    | split | exact List.Subset.trans (by decide) hl | intro _

theorem settleImages_frame {fr : List Chapter} {z : State} (v : Nat) (sp : Word) (s : State) (hl : [.pln] ⊆ fr)
    (hz : Frame fr z s) : Frame fr z (settleImages v sp s) := by
  unfold settleImages
  try dsimp only
  repeat' first
    | (with_reducible first
        | exact hz | assumption | apply applyImages_frame | apply State.setPln_frame | apply Frame.fold)
    | split | exact List.Subset.trans (by decide) hl | intro _

theorem stages35_frame {fr : List Chapter} {z : State} (n : Nat) (v : View) (x : ChanLine) (s : State)
    (hl : [.emitted, .host, .kw, .pln, .fab, .draw, .flt] ⊆ fr) (hz : Frame fr z s) :
    Frame fr z (stages35 n v x s).2 := by
  unfold stages35
  try dsimp only
  repeat' first
    | (with_reducible first
        | exact hz | assumption | apply tapRecord_frame | apply modPlnChan_frame | apply settleRuns_frame
        | apply Frame.fold)
    | split | exact List.Subset.trans (by decide) hl | intro _

theorem blockRecord_frame {fr : List Chapter} {z : State} (v : Nat) (s : State) (hl : [.pln, .draw] ⊆ fr)
    (hz : Frame fr z s) : Frame fr z (blockRecord v s) := by
  unfold blockRecord
  try dsimp only
  repeat' first
    | (with_reducible first
        | exact hz | assumption | apply modView_frame | apply statWrite_frame | apply Frame.fold)
    | split | exact List.Subset.trans (by decide) hl | intro _

theorem statLine_frame {fr : List Chapter} {z : State} (v : Nat) (fresh : Bool) (y : ViewLine) (s : State)
    (hl : [.pln, .draw] ⊆ fr) (hz : Frame fr z s) : Frame fr z (statLine v fresh y s) := by
  unfold statLine
  try dsimp only
  repeat' first
    | (with_reducible first
        | exact hz | assumption | apply blockRecord_frame | apply modView_frame | apply Frame.fold)
    | split | exact List.Subset.trans (by decide) hl | intro _

theorem passClean_frame {fr : List Chapter} {z : State} (k : Int) (ns : List Nat) (s : State)
    (hl : [.emitted, .host, .kw, .pln, .fab, .draw, .flt] ⊆ fr) (hz : Frame fr z s) : Frame fr z (passClean k ns s) := by
  fun_induction passClean k ns s
  all_goals try dsimp only
  repeat' first
    | (with_reducible first
        | exact hz | apply_assumption | assumption | apply passSlot_frame | apply Frame.fold)
    | split | exact List.Subset.trans (by decide) hl | intro _

theorem dropLines_frame {fr : List Chapter} {z : State} (l : List (Nat × ChanLine)) (s : State) (hl : [.pln] ⊆ fr)
    (hz : Frame fr z s) : Frame fr z (dropLines l s) := by
  fun_induction dropLines l s
  all_goals try dsimp only
  repeat' first
    | (with_reducible first
        | exact hz | apply_assumption | assumption | apply modPlnChan_frame | apply Frame.fold)
    | split | exact List.Subset.trans (by decide) hl | intro _

theorem allStages35_frame {fr : List Chapter} {z : State} (v : View) (l : List (Nat × ChanLine)) (s : State) (hl : [.emitted, .host, .kw, .pln, .fab, .draw, .flt] ⊆ fr) (hz : Frame fr z s) :
    Frame fr z (allStages35 v l s).2 := by
  induction l generalizing s with
  | nil => exact hz
  | cons x r ih => exact ih _ (stages35_frame _ _ _ _ (List.Subset.trans (by decide) hl) hz)

theorem viewLine_frame {fr : List Chapter} {z : State} (v : Nat) (k : Int) (l : List (Nat × ChanLine)) (x : ChanLine)
    (s : State) (hl : [.emitted, .host, .kw, .pln, .fab, .draw, .flt] ⊆ fr) (hz : Frame fr z s) :
    Frame fr z (viewLine v k l x s) := by
  unfold viewLine
  try dsimp only
  repeat' first
    | (with_reducible first
        | exact hz | assumption | apply settleImages_frame | apply allStages35_frame | apply tapRecord_frame
        | apply modView_frame | apply statLine_frame | apply Frame.fold)
    | split | exact List.Subset.trans (by decide) hl | intro _

theorem skipGap_frame {fr : List Chapter} {z : State} (l : List (Nat × ChanLine)) (s : State) (hl : [.pln] ⊆ fr)
    (hz : Frame fr z s) : Frame fr z (skipGap l s) := by
  fun_induction skipGap l s
  all_goals try dsimp only
  repeat' first
    | (with_reducible first
        | exact hz | apply_assumption | assumption | apply modPlnChan_frame | apply Frame.fold)
    | split | exact List.Subset.trans (by decide) hl | intro _

theorem skipLine_frame {fr : List Chapter} {z : State} (v : Nat) (l : List (Nat × ChanLine)) (s : State)
    (hl : [.pln, .draw] ⊆ fr) (hz : Frame fr z s) : Frame fr z (skipLine v l s) := by
  unfold skipLine
  try dsimp only
  repeat' first
    | (with_reducible first
        | exact hz | assumption | apply blockRecord_frame | apply modView_frame | apply skipGap_frame
        | apply Frame.fold)
    | split | exact List.Subset.trans (by decide) hl | intro _

theorem processLine_frame {fr : List Chapter} {z : State} (v : Nat) (k : Int) (l : List (Nat × ChanLine)) (s : State)
    (hl : [.emitted, .host, .kw, .pln, .fab, .draw, .flt] ⊆ fr) (hz : Frame fr z s) :
    Frame fr z (processLine v k l s) := by
  unfold processLine
  try dsimp only
  repeat' first
    | (with_reducible first
        | exact hz | assumption | apply dropLines_frame | apply skipLine_frame | apply viewLine_frame
        | apply Frame.fold)
    | split | exact List.Subset.trans (by decide) hl | intro _

theorem countArrival_frame {fr : List Chapter} {z : State} (b : Nat) (s : State) (hl : [.fab] ⊆ fr) (hz : Frame fr z s) :
    Frame fr z (countArrival b s) := by
  unfold countArrival
  try dsimp only
  repeat' first
    | (with_reducible first
        | exact hz | assumption | apply State.setFab_frame | apply modBench_frame | apply Frame.fold)
    | split | exact List.Subset.trans (by decide) hl | intro _

theorem enqueueTile_frame {fr : List Chapter} {z : State} (b : Nat) (t : Tile) (s : State) (hl : [.fab, .hm, .rcp] ⊆ fr)
    (hz : Frame fr z s) : Frame fr z (enqueueTile b t s) := by
  unfold enqueueTile
  try dsimp only
  repeat' first
    | (with_reducible first
        | exact hz | assumption | apply countArrival_frame | apply giveHold_frame | apply modBench_frame
        | apply Frame.fold)
    | split | exact List.Subset.trans (by decide) hl | intro _

theorem toRecipe_frame {fr : List Chapter} {z : State} (t : Tile) (rowPos : Long) (r : Recipe) (s : State)
    (hl : [.fab, .hm, .rcp] ⊆ fr) (hz : Frame fr z s) : Frame fr z (toRecipe t rowPos r s) := by
  unfold toRecipe
  try dsimp only
  repeat' first
    | (with_reducible first
        | exact hz | assumption | apply foldHold_frame | apply enqueueTile_frame | apply Frame.fold)
    | split | exact List.Subset.trans (by decide) hl | intro _

theorem toRecipes_frame {fr : List Chapter} {z : State} (t : Tile) (rowPos : Long) (rs : List Recipe) (s : State)
    (hl : [.fab, .hm, .rcp] ⊆ fr) (hz : Frame fr z s) : Frame fr z (toRecipes t rowPos rs s) := by
  fun_induction toRecipes t rowPos rs s
  all_goals try dsimp only
  repeat' first
    | (with_reducible first
        | exact hz | apply_assumption | assumption | apply toRecipe_frame | apply Frame.fold)
    | split | exact List.Subset.trans (by decide) hl | intro _

theorem bumpRcp_frame {fr : List Chapter} {z : State} (i : Nat) (s : State) (hl : [.rcp] ⊆ fr) (hz : Frame fr z s) :
    Frame fr z (bumpRcp i s) := by
  unfold bumpRcp
  try dsimp only
  repeat' first
    | (with_reducible first
        | exact hz | assumption | apply State.setRcp_frame | apply Frame.fold)
    | split | exact List.Subset.trans (by decide) hl | intro _

theorem capture_frame {fr : List Chapter} {z : State} (t : Tile) (s : State) (hl : [.draw, .rcp] ⊆ fr) (hz : Frame fr z s) :
    Frame fr z (capture t s) := by
  unfold capture
  try dsimp only
  repeat' first
    | (with_reducible first
        | exact hz | assumption | apply bumpRcp_frame | apply writeCacheHeader_frame | apply State.setRcp_frame
        | apply unitWrite_frame | apply Frame.fold)
    | split | exact List.Subset.trans (by decide) hl | intro _

theorem closeRow_frame {fr : List Chapter} {z : State} (v : Nat) (s : State) (hl : [.pln] ⊆ fr) (hz : Frame fr z s) :
    Frame fr z (closeRow v s) := by
  unfold closeRow
  try dsimp only
  repeat' first
    | (with_reducible first
        | exact hz | assumption | apply modView_frame | apply Frame.fold)
    | split | exact List.Subset.trans (by decide) hl | intro _

theorem placeTile_frame {fr : List Chapter} {z : State} (v : Nat) (j : Int) (col : Nat) (s : State)
    (hl : [.led, .pln, .fab, .draw, .hm, .rcp] ⊆ fr) (hz : Frame fr z s) : Frame fr z (placeTile v j col s) := by
  unfold placeTile
  try dsimp only
  repeat' first
    | (with_reducible first
        | exact hz | assumption | apply modView_frame | apply State.setLed_frame | apply toRecipes_frame
        | apply tapRecord_frame | apply capture_frame | apply closeRow_frame | apply Frame.fold)
    | split | exact List.Subset.trans (by decide) hl | intro _

theorem emptyView_frame {fr : List Chapter} {z : State} (v : Nat) (s : State) (hl : [.pln] ⊆ fr) (hz : Frame fr z s) :
    Frame fr z (emptyView v s) := by
  unfold emptyView
  try dsimp only
  repeat' first
    | (with_reducible first
        | exact hz | assumption | apply modView_frame | apply State.setPln_frame | apply Frame.fold)
    | split | exact List.Subset.trans (by decide) hl | intro _

theorem imgReprog_frame {fr : List Chapter} {z : State} (p : Packet) (where_ : Nat) (what : Reprog) (s : State)
    (hl : [.emitted, .host, .pos, .kw, .pln, .fab, .flt] ⊆ fr) (hz : Frame fr z s) :
    Frame fr z (imgReprog p where_ what s) := by
  unfold imgReprog
  try dsimp only
  repeat' first
    | (with_reducible first
        | exact hz | assumption | apply refuse_frame | apply done_frame | apply noticeApplied_frame
        | apply applyImage_frame | apply dropReprog_frame | apply deferReprog_frame | apply Frame.fold)
    | split | exact List.Subset.trans (by decide) hl | intro _

theorem applyDeferred_frame {fr : List Chapter} {z : State} (b : Long) (r : PendingReprog) (s : State)
    (hl : [.emitted, .host, .pos, .kw, .lanes, .pln, .fab, .flt, .boot] ⊆ fr) (hz : Frame fr z s) :
    Frame fr z (applyDeferred b r s) := by
  unfold applyDeferred
  try dsimp only
  repeat' first
    | (with_reducible first
        | exact hz | assumption | apply noticeApplied_frame | apply State.setPln_frame | apply applyTrigger_frame
        | apply applyPosition_frame | apply wantRecord_frame | apply noticeHolderAt_frame | apply Frame.fold)
    | split | exact List.Subset.trans (by decide) hl | intro _

theorem applyEach_frame {fr : List Chapter} {z : State} (b : Long) (l : List PendingReprog) (s : State)
    (hl : [.emitted, .host, .pos, .kw, .lanes, .pln, .fab, .flt, .boot] ⊆ fr) (hz : Frame fr z s) :
    Frame fr z (applyEach b l s) := by
  fun_induction applyEach b l s
  all_goals try dsimp only
  repeat' first
    | (with_reducible first
        | exact hz | apply_assumption | assumption | apply applyDeferred_frame | apply Frame.fold)
    | split | exact List.Subset.trans (by decide) hl | intro _

theorem applyDue_frame {fr : List Chapter} {z : State} (b : Long) (s : State)
    (hl : [.emitted, .host, .pos, .kw, .lanes, .pln, .fab, .flt, .boot] ⊆ fr) (hz : Frame fr z s) :
    Frame fr z (applyDue b s) := by
  unfold applyDue
  try dsimp only
  repeat' first
    | (with_reducible first
        | exact hz | assumption | apply applyEach_frame | apply State.setPos_frame | apply Frame.fold)
    | split | exact List.Subset.trans (by decide) hl | intro _

theorem refillTokens_frame {fr : List Chapter} {z : State} (s : State) (hl : [.draw] ⊆ fr) (hz : Frame fr z s) :
    Frame fr z (refillTokens s) := by
  unfold refillTokens
  try dsimp only
  repeat' first
    | (with_reducible first
        | exact hz | assumption | apply State.setDraw_frame | apply Frame.fold)
    | split | exact List.Subset.trans (by decide) hl | intro _

theorem ssiCheck_frame {fr : List Chapter} {z : State} (w : Word) (s : State)
    (hl : [.emitted, .host, .pos, .kw, .fab, .flt] ⊆ fr) (hz : Frame fr z s) : Frame fr z (ssiCheck w s) := by
  unfold ssiCheck
  try dsimp only
  repeat' first
    | (with_reducible first
        | exact hz | assumption | apply noticeUnit_frame | apply State.setPos_frame | apply Frame.fold)
    | split | exact List.Subset.trans (by decide) hl | intro _

theorem overAdmCheck_frame {fr : List Chapter} {z : State} (s : State)
    (hl : [.emitted, .host, .led, .kw, .fab, .flt] ⊆ fr) (hz : Frame fr z s) : Frame fr z (overAdmCheck s) := by
  unfold overAdmCheck
  try dsimp only
  repeat' first
    | (with_reducible first
        | exact hz | assumption | apply noticeUnit_frame | apply State.setLed_frame | apply Frame.fold)
    | split | exact List.Subset.trans (by decide) hl | intro _

theorem laneWindow_frame {fr : List Chapter} {z : State} (l : Nat) (s : State)
    (hl : [.emitted, .host, .pos, .led, .kw, .lanes, .pln, .fab, .draw, .asy, .hm, .dio, .rcp, .flt, .boot] ⊆ fr)
    (hz : Frame fr z s) : Frame fr z (laneWindow l s) := by
  unfold laneWindow
  try dsimp only
  repeat' first
    | (with_reducible first
        | exact hz | assumption | apply modLane_frame | apply laneUpset_frame | apply Frame.fold)
    | split | exact List.Subset.trans (by decide) hl | intro _

theorem laneWindows_frame {fr : List Chapter} {z : State} (ls : List Nat) (s : State)
    (hl : [.emitted, .host, .pos, .led, .kw, .lanes, .pln, .fab, .draw, .asy, .hm, .dio, .rcp, .flt, .boot] ⊆ fr)
    (hz : Frame fr z s) : Frame fr z (laneWindows ls s) := by
  fun_induction laneWindows ls s
  all_goals try dsimp only
  repeat' first
    | (with_reducible first
        | exact hz | apply_assumption | assumption | apply laneWindow_frame | apply Frame.fold)
    | split | exact List.Subset.trans (by decide) hl | intro _

theorem autoLevel_frame {fr : List Chapter} {z : State} (v : Nat) (s : State)
    (hl : [.emitted, .host, .kw, .pln, .fab, .flt] ⊆ fr) (hz : Frame fr z s) : Frame fr z (autoLevel v s) := by
  unfold autoLevel
  try dsimp only
  repeat' first
    | (with_reducible first
        | exact hz | assumption | apply modView_frame | apply noticeUnit_frame | apply Frame.fold)
    | split | exact List.Subset.trans (by decide) hl | intro _

theorem autoLevels_frame {fr : List Chapter} {z : State} (vs : List Nat) (s : State)
    (hl : [.emitted, .host, .kw, .pln, .fab, .flt] ⊆ fr) (hz : Frame fr z s) : Frame fr z (autoLevels vs s) := by
  fun_induction autoLevels vs s
  all_goals try dsimp only
  repeat' first
    | (with_reducible first
        | exact hz | apply_assumption | assumption | apply autoLevel_frame | apply Frame.fold)
    | split | exact List.Subset.trans (by decide) hl | intro _

theorem boundary_frame {fr : List Chapter} {z : State} (w : Word) (s : State)
    (hl : [.emitted, .host, .pos, .led, .kw, .lanes, .pln, .fab, .draw, .asy, .hm, .dio, .rcp, .flt, .boot] ⊆ fr)
    (hz : Frame fr z s) : Frame fr z (boundary w s) := by
  unfold boundary
  try dsimp only
  repeat' first
    | (with_reducible first
        | exact hz | assumption | apply applyDue_frame | apply State.setLed_frame | apply autoLevels_frame
        | apply laneWindows_frame | apply overAdmCheck_frame | apply ssiCheck_frame | apply refillTokens_frame
        | apply State.setPos_frame | apply Frame.fold)
    | split | exact List.Subset.trans (by decide) hl | intro _

theorem writePlace_frame {fr : List Chapter} {z : State} (p : Place) (b : Bytes) (s : State) (hl : [.host, .draw] ⊆ fr)
    (hz : Frame fr z s) : Frame fr z (writePlace p b s) := by
  unfold writePlace
  try dsimp only
  repeat' first
    | (with_reducible first
        | exact hz | assumption | apply State.setHost_frame | apply unitWrite_frame | apply Frame.fold)
    | split | exact List.Subset.trans (by decide) hl | intro _

theorem eccUnc_frame {fr : List Chapter} {z : State} (a : Long) (consumer : Nat) (s : State)
    (hl : [.emitted, .host, .kw, .fab, .draw, .flt] ⊆ fr) (hz : Frame fr z s) : Frame fr z (eccUnc a consumer s) := by
  unfold eccUnc
  try dsimp only
  repeat' first
    | (with_reducible first
        | exact hz | assumption | apply noticeUnit_frame | apply modDram_frame | apply Frame.fold)
    | split | exact List.Subset.trans (by decide) hl | intro _

theorem tablePoison_frame {fr : List Chapter} {z : State} (port : Nat) (table : Option Nat) (s : State)
    (hl : [.emitted, .host, .kw, .fab, .draw, .flt] ⊆ fr) (hz : Frame fr z s) :
    Frame fr z (tablePoison port table s) := by
  unfold tablePoison
  try dsimp only
  repeat' first
    | (with_reducible first
        | exact hz | assumption | apply eccUnc_frame | apply Frame.fold)
    | split | exact List.Subset.trans (by decide) hl | intro _

theorem writePlaceBut_frame {fr : List Chapter} {z : State} (lost : Option Nat) (p : Place) (b : Bytes) (s : State)
    (hl : [.host, .draw] ⊆ fr) (hz : Frame fr z s) : Frame fr z (writePlaceBut lost p b s) := by
  unfold writePlaceBut
  try dsimp only
  repeat' first
    | (with_reducible first
        | exact hz | assumption | apply writePlace_frame | apply unitWrite_frame | apply Frame.fold)
    | split | exact List.Subset.trans (by decide) hl | intro _

theorem moveObj_frame {fr : List Chapter} {z : State} (o : Obj) (ch : Nat) (a : Nat) (s : State) (hl : [.draw] ⊆ fr)
    (hz : Frame fr z s) : Frame fr z (moveObj o ch a s) := by
  unfold moveObj
  try dsimp only
  repeat' first
    | (with_reducible first
        | exact hz | assumption | apply State.setDraw_frame | apply unitWrite_frame | apply Frame.fold)
    | split | exact List.Subset.trans (by decide) hl | intro _

theorem makeRoom_frame {fr : List Chapter} {z : State} (fuel n : Nat) (s : State) (hl : [.draw] ⊆ fr) (hz : Frame fr z s) :
    Frame fr z (makeRoom fuel n s) := by
  induction fuel generalizing s with
  | zero => exact hz
  | succ k ih =>
    unfold makeRoom
    repeat' first | exact hz | with_reducible apply ih | with_reducible apply moveObj_frame | split | exact List.Subset.trans (by decide) hl --  apply moveObj_frame | split

theorem queueList_frame {fr : List Chapter} {z : State} (p : Packet) (engine : Nat) (cmds : List Cmd) (s : State)
    (hl : [.kw, .fab] ⊆ fr) (hz : Frame fr z s) : Frame fr z (queueList p engine cmds s) := by
  unfold queueList
  try dsimp only
  repeat' first
    | (with_reducible first
        | exact hz | assumption | apply modP_frame | apply State.setFab_frame | apply Frame.fold)
    | split | exact List.Subset.trans (by decide) hl | intro _

theorem fetchFail_frame {fr : List Chapter} {z : State} (p : Packet) (s : State) (hl : [.emitted, .host, .kw, .fab] ⊆ fr)
    (hz : Frame fr z s) : Frame fr z (fetchFail p s) := by
  unfold fetchFail
  try dsimp only
  repeat' first
    | (with_reducible first
        | exact hz | assumption | apply ringError_frame | apply refuse_frame | apply Frame.fold)
    | split | exact List.Subset.trans (by decide) hl | intro _

theorem takeList_frame {fr : List Chapter} {z : State} (engine : Nat) (poisoned : Bool) (p : Packet) (s : State)
    (hl : [.emitted, .host, .kw, .fab, .draw, .flt] ⊆ fr) (hz : Frame fr z s) :
    Frame fr z (takeList engine poisoned p s) := by
  unfold takeList
  try dsimp only
  repeat' first
    | (with_reducible first
        | exact hz | assumption | apply refuse_frame | apply fetchFail_frame | apply tablePoison_frame
        | apply refuseWith_frame | apply queueList_frame | apply Frame.fold)
    | split | exact List.Subset.trans (by decide) hl | intro _

theorem modList_frame {fr : List Chapter} {z : State} (l : CmdList) (f : CmdList → CmdList) (s : State) (hl : [.fab] ⊆ fr)
    (hz : Frame fr z s) : Frame fr z (modList l f s) := by
  unfold modList
  try dsimp only
  repeat' first
    | (with_reducible first
        | exact hz | assumption | apply State.setFab_frame | apply Frame.fold)
    | split | exact List.Subset.trans (by decide) hl | intro _

theorem advance_frame {fr : List Chapter} {z : State} (l : CmdList) (s : State)
    (hl : [.emitted, .host, .pos, .kw, .fab] ⊆ fr) (hz : Frame fr z s) : Frame fr z (advance l s) := by
  unfold advance
  try dsimp only
  repeat' first
    | (with_reducible first
        | exact hz | assumption | apply modList_frame | apply endList_frame | apply Frame.fold)
    | split | exact List.Subset.trans (by decide) hl | intro _

theorem failCmd_frame {fr : List Chapter} {z : State} (l : CmdList) (st : Half) (s : State)
    (hl : [.emitted, .host, .pos, .kw, .fab] ⊆ fr) (hz : Frame fr z s) : Frame fr z (failCmd l st s) := by
  unfold failCmd
  try dsimp only
  repeat' first
    | (with_reducible first
        | exact hz | assumption | apply failList_frame | apply Frame.fold)
    | split | exact List.Subset.trans (by decide) hl | intro _

theorem withCmd_frame {fr : List Chapter} {z : State} (engine cmd : Nat) (s : State) (f : CmdList → Cmd → State) (hz : Frame fr z s)
    (hf : ∀ l c, Frame fr z (f l c)) : Frame fr z (withCmd engine cmd s f) := by
  unfold withCmd
  repeat' with_reducible first | exact hz | exact hf _ _ | split

theorem passWait_frame {fr : List Chapter} {z : State} (l : CmdList) (s : State)
    (hl : [.emitted, .host, .pos, .kw, .fab] ⊆ fr) (hz : Frame fr z s) : Frame fr z (passWait l s) := by
  unfold passWait
  try dsimp only
  repeat' first
    | (with_reducible first
        | exact hz | assumption | apply cancelP_frame | apply modList_frame | apply commitP_frame
        | apply endList_frame | apply Frame.fold)
    | split | exact List.Subset.trans (by decide) hl | intro _

theorem dmaFail_frame {fr : List Chapter} {z : State} (l : CmdList) (s : State)
    (hl : [.emitted, .host, .pos, .kw, .fab] ⊆ fr) (hz : Frame fr z s) : Frame fr z (dmaFail l s) := by
  unfold dmaFail
  try dsimp only
  repeat' first
    | (with_reducible first
        | exact hz | assumption | apply failCmd_frame | apply ringError_frame | apply Frame.fold)
    | split | exact List.Subset.trans (by decide) hl | intro _

theorem endWrite_frame {fr : List Chapter} {z : State} (l : CmdList) (lost : Option Nat) (s : State)
    (hl : [.emitted, .host, .pos, .kw, .fab] ⊆ fr) (hz : Frame fr z s) : Frame fr z (endWrite l lost s) := by
  unfold endWrite
  try dsimp only
  repeat' first
    | (with_reducible first
        | exact hz | assumption | apply failList_frame | apply advance_frame | apply Frame.fold)
    | split | exact List.Subset.trans (by decide) hl | intro _

theorem failPoisoned_frame {fr : List Chapter} {z : State} (l : CmdList) (port : Nat) (op : Option Long)
    (table : Option Nat) (s : State) (hl : [.emitted, .host, .pos, .kw, .fab, .draw, .flt] ⊆ fr) (hz : Frame fr z s) :
    Frame fr z (failPoisoned l port op table s) := by
  unfold failPoisoned
  try dsimp only
  repeat' first
    | (with_reducible first
        | exact hz | assumption | apply failList_frame | apply tablePoison_frame | apply Frame.fold)
    | split | exact List.Subset.trans (by decide) hl | intro _

theorem takeCal_frame {fr : List Chapter} {z : State} (l : CmdList) (what : Reprog) (s : State)
    (hl : [.emitted, .host, .pos, .kw, .pln, .fab, .flt] ⊆ fr) (hz : Frame fr z s) : Frame fr z (takeCal l what s) := by
  unfold takeCal
  try dsimp only
  repeat' first
    | (with_reducible first
        | exact hz | assumption | apply advance_frame | apply noticeApplied_frame | apply applyImage_frame
        | apply dropReprog_frame | apply modList_frame | apply Frame.fold)
    | split | exact List.Subset.trans (by decide) hl | intro _

theorem calLoad_frame {fr : List Chapter} {z : State} (kind : Nat) (poisonedAt : Option Long) (s : State) (l : CmdList)
    (c : Cmd) (hl : [.emitted, .host, .pos, .kw, .pln, .fab, .draw, .flt] ⊆ fr) (hz : Frame fr z s) :
    Frame fr z (calLoad kind poisonedAt s l c) := by
  unfold calLoad
  try dsimp only
  repeat' first
    | (with_reducible first
        | exact hz | assumption | apply failCmd_frame | apply failPoisoned_frame | apply takeCal_frame
        | apply Frame.fold)
    | split | exact List.Subset.trans (by decide) hl | intro _

theorem releaseBench_frame {fr : List Chapter} {z : State} (b : Nat) (s : State)
    (hl : [.emitted, .host, .pos, .led, .kw, .pln, .fab, .draw, .asy, .hm, .rcp, .flt] ⊆ fr) (hz : Frame fr z s) :
    Frame fr z (releaseBench b s) := by
  unfold releaseBench
  try dsimp only
  repeat' first
    | (with_reducible first
        | exact hz | assumption | apply release_frame | apply freeBench_frame | apply Frame.fold)
    | split | exact List.Subset.trans (by decide) hl | intro _

theorem pendingReleases_frame {fr : List Chapter} {z : State} (b : Nat) (forced : Bool) (l : List Ref) (s : State)
    (hl : [.emitted, .host, .pos, .led, .kw, .pln, .fab, .draw, .asy, .hm, .rcp, .flt] ⊆ fr) (hz : Frame fr z s) :
    Frame fr z (pendingReleases b forced l s) := by
  unfold pendingReleases
  try dsimp only
  repeat' first
    | (with_reducible first
        | exact hz | assumption | apply cancelExpired_frame | apply refuseGone_frame | apply freeBench_frame
        | apply ok_frame | apply releaseBench_frame | apply Frame.fold)
    | split | exact List.Subset.trans (by decide) hl | intro _

theorem buildReply_frame {fr : List Chapter} {z : State} (b : Nat) (s : State) (hl : [.emitted, .host, .kw, .fab] ⊆ fr)
    (hz : Frame fr z s) : Frame fr z (buildReply b s) := by
  unfold buildReply
  try dsimp only
  repeat' first
    | (with_reducible first
        | exact hz | assumption | apply doneLater_frame | apply modBench_frame | apply Frame.fold)
    | split | exact List.Subset.trans (by decide) hl | intro _

theorem endChange_frame {fr : List Chapter} {z : State} (b : Nat) (s : State)
    (hl : [.emitted, .host, .pos, .led, .kw, .pln, .fab, .draw, .asy, .hm, .rcp, .flt] ⊆ fr) (hz : Frame fr z s) :
    Frame fr z (endChange b s) := by
  unfold endChange
  try dsimp only
  repeat' first
    | (with_reducible first
        | exact hz | assumption | apply modBench_frame | apply pendingReleases_frame | apply buildReply_frame
        | apply Frame.fold)
    | split | exact List.Subset.trans (by decide) hl | intro _

theorem placeCopies_frame {fr : List Chapter} {z : State} (b : Nat) (s : State) (hl : [.fab] ⊆ fr) (hz : Frame fr z s) :
    Frame fr z (placeCopies b s) := by
  unfold placeCopies
  try dsimp only
  repeat' first
    | (with_reducible first
        | exact hz | assumption | apply placeCopy_frame | apply Frame.fold)
    | split | exact List.Subset.trans (by decide) hl | intro _

theorem buildAdmit_frame {fr : List Chapter} {z : State} (p : Packet) (pick : Nat) (image : Bytes) (cert : Bytes)
    (s : State) (hl : [.emitted, .host, .pos, .led, .kw, .pln, .fab, .draw, .asy, .hm, .rcp, .flt] ⊆ fr)
    (hz : Frame fr z s) : Frame fr z (buildAdmit p pick image cert s) := by
  unfold buildAdmit
  try dsimp only
  repeat' first
    | (with_reducible first
        | exact hz | assumption | apply makeRoom_frame | apply refuseWith_frame | apply countRefusal_frame
        | apply modBench_frame | apply decideAdm_frame | apply commitP_frame | apply placeCopies_frame
        | apply Frame.fold)
    | split | exact List.Subset.trans (by decide) hl | intro _

theorem rebuildCommit_frame {fr : List Chapter} {z : State} (p : Packet) (image : Bytes) (c : Cert) (s : State)
    (hl : [.emitted, .host, .kw, .fab] ⊆ fr) (hz : Frame fr z s) : Frame fr z (rebuildCommit p image c s) := by
  unfold rebuildCommit
  try dsimp only
  repeat' first
    | (with_reducible first
        | exact hz | assumption | apply done_frame | apply modBench_frame | apply ok_frame | apply placeCopy_frame
        | apply Frame.fold)
    | split | exact List.Subset.trans (by decide) hl | intro _

theorem settleExchange_frame {fr : List Chapter} {z : State} (a : Admission) (b : Nat) (x : Bench) (s : State)
    (hl : [.led] ⊆ fr) (hz : Frame fr z s) : Frame fr z (settleExchange a b x s) := by
  unfold settleExchange
  try dsimp only
  repeat' first
    | (with_reducible first
        | exact hz | assumption | apply State.setLed_frame | apply Frame.fold)
    | split | exact List.Subset.trans (by decide) hl | intro _

theorem rebuildAdmit_frame {fr : List Chapter} {z : State} (p : Packet) (image : Bytes) (cert : Bytes) (s : State)
    (hl : [.emitted, .host, .pos, .led, .kw, .pln, .fab, .draw, .asy, .hm, .rcp, .flt] ⊆ fr) (hz : Frame fr z s) :
    Frame fr z (rebuildAdmit p image cert s) := by
  unfold rebuildAdmit
  try dsimp only
  repeat' first
    | (with_reducible first
        | exact hz | assumption | apply refuse_frame | apply exchange_frame | apply refuseWith_frame
        | apply rebuildCommit_frame | apply settleExchange_frame | apply Frame.fold)
    | split | exact List.Subset.trans (by decide) hl | intro _

theorem startGen_frame {fr : List Chapter} {z : State} (h : Nat) (g : Word) (s : State) (hl : [.led] ⊆ fr)
    (hz : Frame fr z s) : Frame fr z (startGen h g s) := by
  unfold startGen
  try dsimp only
  repeat' first
    | (with_reducible first
        | exact hz | assumption | apply State.setLed_frame | apply Frame.fold)
    | split | exact List.Subset.trans (by decide) hl | intro _

theorem readmitAdmit_frame {fr : List Chapter} {z : State} (p : Packet) (pick : Nat) (s : State)
    (hl : [.emitted, .host, .pos, .led, .kw, .pln, .fab, .draw, .asy, .hm, .rcp, .flt] ⊆ fr) (hz : Frame fr z s) :
    Frame fr z (readmitAdmit p pick s) := by
  unfold readmitAdmit
  try dsimp only
  repeat' first
    | (with_reducible first
        | exact hz | assumption | apply decideAdm_frame | apply refuseWith_frame | apply startGen_frame
        | apply modBench_frame | apply ok_frame | apply Frame.fold)
    | split | exact List.Subset.trans (by decide) hl | intro _

theorem bumpAdm_frame {fr : List Chapter} {z : State} (h : Nat) (s : State) (hl : [.led] ⊆ fr) (hz : Frame fr z s) :
    Frame fr z (bumpAdm h s) := by
  unfold bumpAdm
  try dsimp only
  repeat' first
    | (with_reducible first
        | exact hz | assumption | apply State.setLed_frame | apply Frame.fold)
    | split | exact List.Subset.trans (by decide) hl | intro _

theorem rewindEpoch_frame {fr : List Chapter} {z : State} (b : Nat) (s : State) (hl : [.rcp] ⊆ fr) (hz : Frame fr z s) :
    Frame fr z (rewindEpoch b s) := by
  unfold rewindEpoch
  try dsimp only
  repeat' first
    | (with_reducible first
        | exact hz | assumption | apply State.setRcp_frame | apply Frame.fold)
    | split | exact List.Subset.trans (by decide) hl | intro _

theorem startReset_frame {fr : List Chapter} {z : State} (b : Nat) (stake : Nat) (cause : Nat) (more : Nat)
    (injected : Bool) (s : State) (hl : [.led, .fab, .hm, .rcp] ⊆ fr) (hz : Frame fr z s) :
    Frame fr z (startReset b stake cause more injected s) := by
  unfold startReset
  try dsimp only
  repeat' first
    | (with_reducible first
        | exact hz | assumption | apply bumpAdm_frame | apply flushBench_frame | apply rewindEpoch_frame
        | apply bumpBench_frame | apply modBench_frame | apply Frame.fold)
    | split | exact List.Subset.trans (by decide) hl | intro _

theorem privateFaultOf_frame {fr : List Chapter} {z : State} (more : Nat) (b : Nat) (stake : Nat) (cause : Nat)
    (injected : Bool) (s : State)
    (hl : [.emitted, .host, .pos, .led, .kw, .lanes, .pln, .fab, .draw, .asy, .hm, .dio, .rcp, .flt, .boot] ⊆ fr)
    (hz : Frame fr z s) : Frame fr z (privateFaultOf more b stake cause injected s) := by
  unfold privateFaultOf
  try dsimp only
  repeat' first
    | (with_reducible first
        | exact hz | assumption | apply countUpset_frame | apply logFault_frame | apply checkRetire_frame
        | apply supersede_frame | apply upsetRetire_frame | apply startReset_frame | apply Frame.fold)
    | split | exact List.Subset.trans (by decide) hl | intro _

theorem privateFault_frame {fr : List Chapter} {z : State} (b : Nat) (stake : Nat) (cause : Nat) (injected : Bool)
    (s : State)
    (hl : [.emitted, .host, .pos, .led, .kw, .lanes, .pln, .fab, .draw, .asy, .hm, .dio, .rcp, .flt, .boot] ⊆ fr)
    (hz : Frame fr z s) : Frame fr z (privateFault b stake cause injected s) := by
  unfold privateFault
  try dsimp only
  repeat' first
    | (with_reducible first
        | exact hz | assumption | apply privateFaultOf_frame | apply Frame.fold)
    | split | exact List.Subset.trans (by decide) hl | intro _

theorem notePromoted_frame {fr : List Chapter} {z : State} (opcode : Half) (cand : Nat) (recipe : Nat) (bd : Long)
    (s : State) (hl : [.emitted, .host, .kw, .fab, .rcp, .flt] ⊆ fr) (hz : Frame fr z s) :
    Frame fr z (notePromoted opcode cand recipe bd s) := by
  unfold notePromoted
  try dsimp only
  repeat' first
    | (with_reducible first
        | exact hz | assumption | apply noticeHolderAt_frame | apply modRecipe_frame | apply Frame.fold)
    | split | exact List.Subset.trans (by decide) hl | intro _

theorem noticeApplies_frame {fr : List Chapter} {z : State} (tenant : Nat) (b : Nat) (what : Nat) (bd : Long) (s : State)
    (hl : [.emitted, .host, .kw, .fab, .flt] ⊆ fr) (hz : Frame fr z s) :
    Frame fr z (noticeApplies tenant b what bd s) := by
  unfold noticeApplies
  try dsimp only
  repeat' first
    | (with_reducible first
        | exact hz | assumption | apply noticeHolderAt_frame | apply Frame.fold)
    | split | exact List.Subset.trans (by decide) hl | intro _

theorem applyChange_frame {fr : List Chapter} {z : State} (b : Nat) (c : BenchChange) (bd : Long) (s : State)
    (hl : [.emitted, .host, .kw, .fab, .rcp, .flt] ⊆ fr) (hz : Frame fr z s) : Frame fr z (applyChange b c bd s) := by
  unfold applyChange
  try dsimp only
  repeat' first
    | (with_reducible first
        | exact hz | assumption | apply noticeApplies_frame | apply placeCopy_frame | apply modBench_frame
        | apply notePromoted_frame | apply Frame.fold)
    | split | exact List.Subset.trans (by decide) hl | intro _

theorem settleCycles_frame {fr : List Chapter} {z : State} (s : State) (hl : [.fab] ⊆ fr) (hz : Frame fr z s) :
    Frame fr z (settleCycles s) := by
  unfold settleCycles
  try dsimp only
  repeat' first
    | (with_reducible first
        | exact hz | assumption | apply State.setFab_frame | apply Frame.fold)
    | split | exact List.Subset.trans (by decide) hl | intro _

theorem dropRun_frame {fr : List Chapter} {z : State} (b : Nat) (r : Running) (s : State) (hl : [.fab] ⊆ fr)
    (hz : Frame fr z s) : Frame fr z (dropRun b r s) := by
  unfold dropRun
  try dsimp only
  repeat' first
    | (with_reducible first
        | exact hz | assumption | apply modBench_frame | apply Frame.fold)
    | split | exact List.Subset.trans (by decide) hl | intro _

theorem countTile_frame {fr : List Chapter} {z : State} (b : Nat) (m : ModelResult) (s : State) (hl : [.fab] ⊆ fr)
    (hz : Frame fr z s) : Frame fr z (countTile b m s) := by
  unfold countTile
  try dsimp only
  repeat' first
    | (with_reducible first
        | exact hz | assumption | apply bumpBench_frame | apply modBench_frame | apply Frame.fold)
    | split | exact List.Subset.trans (by decide) hl | intro _

theorem overrun_frame {fr : List Chapter} {z : State} (b : Nat) (r : Running) (s : State)
    (hl : [.emitted, .host, .pos, .led, .kw, .lanes, .pln, .fab, .draw, .asy, .hm, .dio, .rcp, .flt, .boot] ⊆ fr)
    (hz : Frame fr z s) : Frame fr z (overrun b r s) := by
  unfold overrun
  try dsimp only
  repeat' first
    | (with_reducible first
        | exact hz | assumption | apply dropRun_frame | apply giveHold_frame | apply privateFault_frame
        | apply bumpBench_frame | apply Frame.fold)
    | split | exact List.Subset.trans (by decide) hl | intro _

theorem complete_frame {fr : List Chapter} {z : State} (b : Nat) (r : Running) (s : State)
    (hl : [.emitted, .host, .pos, .led, .kw, .lanes, .pln, .fab, .draw, .asy, .hm, .dio, .rcp, .flt, .boot] ⊆ fr)
    (hz : Frame fr z s) : Frame fr z (complete b r s) := by
  unfold complete
  try dsimp only
  repeat' first
    | (with_reducible first
        | exact hz | assumption | apply overrun_frame | apply fabFenced_frame | apply dropRun_frame
        | apply toHallmark_frame | apply countTile_frame | apply Frame.fold)
    | split | exact List.Subset.trans (by decide) hl | intro _

theorem retireOfBench_frame {fr : List Chapter} {z : State} (b : Nat) (s : State)
    (hl : [.emitted, .host, .pos, .led, .kw, .lanes, .pln, .fab, .draw, .asy, .hm, .dio, .rcp, .flt, .boot] ⊆ fr)
    (hz : Frame fr z s) : Frame fr z (retireOfBench b s) := by
  unfold retireOfBench
  try dsimp only
  repeat' first
    | (with_reducible first
        | exact hz | assumption | apply retireEach_frame | apply State.setFlt_frame | apply Frame.fold)
    | split | exact List.Subset.trans (by decide) hl | intro _

theorem resetDone_frame {fr : List Chapter} {z : State} (b : Nat) (imageOk : Bool) (stake : Nat) (cause : Nat)
    (held : Nat) (injected : Bool) (s : State)
    (hl : [.emitted, .host, .pos, .led, .kw, .lanes, .pln, .fab, .draw, .asy, .hm, .dio, .rcp, .flt, .boot] ⊆ fr)
    (hz : Frame fr z s) : Frame fr z (resetDone b imageOk stake cause held injected s) := by
  unfold resetDone
  try dsimp only
  repeat' first
    | (with_reducible first
        | exact hz | assumption | apply endChange_frame | apply recovered_frame | apply equivLost_frame
        | apply noticeHolder_frame | apply settleRetirements_frame | apply retireOfBench_frame | apply Frame.fold)
    | split | exact List.Subset.trans (by decide) hl | intro _

theorem loseBench_frame {fr : List Chapter} {z : State} (b : Nat) (s : State) (hl : [.led, .fab, .hm, .rcp, .flt] ⊆ fr)
    (hz : Frame fr z s) : Frame fr z (loseBench b s) := by
  unfold loseBench
  try dsimp only
  repeat' first
    | (with_reducible first
        | exact hz | assumption | apply supersede_frame | apply bumpAdm_frame | apply flushBench_frame
        | apply rewindEpoch_frame | apply modBench_frame | apply Frame.fold)
    | split | exact List.Subset.trans (by decide) hl | intro _

theorem loseBenches_frame {fr : List Chapter} {z : State} (l : List Nat) (s : State)
    (hl : [.led, .fab, .hm, .rcp, .flt] ⊆ fr) (hz : Frame fr z s) : Frame fr z (loseBenches l s) := by
  fun_induction loseBenches l s
  all_goals try dsimp only
  repeat' first
    | (with_reducible first
        | exact hz | apply_assumption | assumption | apply loseBench_frame | apply Frame.fold)
    | split | exact List.Subset.trans (by decide) hl | intro _

theorem reinitShared_frame {fr : List Chapter} {z : State} (l : List Obj) (s : State) (hl : [.draw] ⊆ fr)
    (hz : Frame fr z s) : Frame fr z (reinitShared l s) := by
  fun_induction reinitShared l s
  all_goals try dsimp only
  repeat' first
    | (with_reducible first
        | exact hz | apply_assumption | assumption | apply unitWrite_frame | apply Frame.fold)
    | split | exact List.Subset.trans (by decide) hl | intro _

theorem chipLose_frame {fr : List Chapter} {z : State} (cause : Nat) (injected : Bool) (s : State)
    (hl : [.led, .fab, .draw, .hm, .rcp, .flt] ⊆ fr) (hz : Frame fr z s) : Frame fr z (chipLose cause injected s) := by
  unfold chipLose
  try dsimp only
  repeat' first
    | (with_reducible first
        | exact hz | assumption | apply supersede_frame | apply loseBenches_frame | apply reinitShared_frame
        | apply State.setFab_frame | apply Frame.fold)
    | split | exact List.Subset.trans (by decide) hl | intro _

theorem chipFault_frame {fr : List Chapter} {z : State} (cause : Nat) (injected : Bool) (s : State)
    (hl : [.led, .fab, .draw, .hm, .rcp, .flt] ⊆ fr) (hz : Frame fr z s) : Frame fr z (chipFault cause injected s) := by
  unfold chipFault
  try dsimp only
  repeat' first
    | (with_reducible first
        | exact hz | assumption | apply upset_frame | apply chipLose_frame | apply Frame.fold)
    | split | exact List.Subset.trans (by decide) hl | intro _

theorem repeatCmd_frame {fr : List Chapter} {z : State} (engine : Nat) (s : State)
    (hl : [.emitted, .host, .pos, .kw, .fab] ⊆ fr) (hz : Frame fr z s) : Frame fr z (repeatCmd engine s) := by
  unfold repeatCmd
  try dsimp only
  repeat' first
    | (with_reducible first
        | exact hz | assumption | apply failCmd_frame | apply Frame.fold)
    | split | exact List.Subset.trans (by decide) hl | intro _

theorem repeatCmds_frame {fr : List Chapter} {z : State} (l : List Nat) (s : State)
    (hl : [.emitted, .host, .pos, .kw, .fab] ⊆ fr) (hz : Frame fr z s) : Frame fr z (repeatCmds l s) := by
  fun_induction repeatCmds l s
  all_goals try dsimp only
  repeat' first
    | (with_reducible first
        | exact hz | apply_assumption | assumption | apply repeatCmd_frame | apply Frame.fold)
    | split | exact List.Subset.trans (by decide) hl | intro _

theorem endBenches_frame {fr : List Chapter} {z : State} (l : List Nat) (s : State)
    (hl : [.emitted, .host, .pos, .led, .kw, .pln, .fab, .draw, .asy, .hm, .rcp, .flt] ⊆ fr) (hz : Frame fr z s) :
    Frame fr z (endBenches l s) := by
  fun_induction endBenches l s
  all_goals try dsimp only
  repeat' first
    | (with_reducible first
        | exact hz | apply_assumption | assumption | apply endChange_frame | apply Frame.fold)
    | split | exact List.Subset.trans (by decide) hl | intro _

theorem goneRuns_frame {fr : List Chapter} {z : State} (s : State) (hl : [.fab] ⊆ fr) (hz : Frame fr z s) :
    Frame fr z (goneRuns s) := by
  unfold goneRuns
  try dsimp only
  repeat' first
    | (with_reducible first
        | exact hz | assumption | apply State.setFab_frame | apply Frame.fold)
    | split | exact List.Subset.trans (by decide) hl | intro _

theorem chipDone_frame {fr : List Chapter} {z : State} (cause : Nat) (held : Nat) (injected : Bool) (s : State)
    (hl : [.emitted, .host, .pos, .led, .kw, .lanes, .pln, .fab, .draw, .asy, .hm, .dio, .rcp, .flt, .boot] ⊆ fr)
    (hz : Frame fr z s) : Frame fr z (chipDone cause held injected s) := by
  unfold chipDone
  try dsimp only
  repeat' first
    | (with_reducible first
        | exact hz | assumption | apply endBenches_frame | apply goneRuns_frame | apply State.setFab_frame
        | apply equivLost_frame | apply recovered_frame | apply noticeUnit_frame | apply settleRetirements_frame
        | apply repeatCmds_frame | apply Frame.fold)
    | split | exact List.Subset.trans (by decide) hl | intro _

theorem countTiles_frame {fr : List Chapter} {z : State} (b : Nat) (l : List ModelResult) (s : State) (hl : [.fab] ⊆ fr)
    (hz : Frame fr z s) : Frame fr z (countTiles b l s) := by
  fun_induction countTiles b l s
  all_goals try dsimp only
  repeat' first
    | (with_reducible first
        | exact hz | apply_assumption | assumption | apply countTile_frame | apply Frame.fold)
    | split | exact List.Subset.trans (by decide) hl | intro _

theorem countRun_frame {fr : List Chapter} {z : State} (b : Nat) (f : Option Break) (l : List (ModelResult × Placed))
    (s : State)
    (hl : [.emitted, .host, .pos, .led, .kw, .lanes, .pln, .fab, .draw, .asy, .hm, .dio, .rcp, .flt, .boot] ⊆ fr)
    (hz : Frame fr z s) : Frame fr z (countRun b f l s) := by
  unfold countRun
  try dsimp only
  repeat' first
    | (with_reducible first
        | exact hz | assumption | apply countTiles_frame | apply privateFaultOf_frame | apply bumpBench_frame
        | apply Frame.fold)
    | split | exact List.Subset.trans (by decide) hl | intro _

theorem endRun_frame {fr : List Chapter} {z : State} (l : CmdList) (lost : Option Nat) (d : Place) (recs : List Bytes)
    (at_ : List Placed) (s : State)
    (hl : [.emitted, .host, .pos, .led, .kw, .lanes, .pln, .fab, .draw, .asy, .hm, .dio, .rcp, .flt, .boot] ⊆ fr)
    (hz : Frame fr z s) : Frame fr z (endRun l lost d recs at_ s) := by
  unfold endRun
  try dsimp only
  repeat' first
    | (with_reducible first
        | exact hz | assumption | apply advance_frame | apply endWrite_frame | apply privateFault_frame
        | apply Frame.fold)
    | split | exact List.Subset.trans (by decide) hl | intro _

theorem runTiles_frame {fr : List Chapter} {z : State} (l : CmdList) (c : Cmd) (poisonedAt : Option Long)
    (lost : Option Long) (s : State)
    (hl : [.emitted, .host, .pos, .led, .kw, .lanes, .pln, .fab, .draw, .asy, .hm, .dio, .rcp, .flt, .boot] ⊆ fr)
    (hz : Frame fr z s) : Frame fr z (runTiles l c poisonedAt lost s) := by
  unfold runTiles
  try dsimp only
  repeat' first
    | (with_reducible first
        | exact hz | assumption | apply failCmd_frame | apply endRun_frame | apply countRun_frame
        | apply writePlaceBut_frame | apply tablePoison_frame | apply Frame.fold)
    | split | exact List.Subset.trans (by decide) hl | intro _

theorem modAsyUnit_frame {fr : List Chapter} {z : State} (rt : Bool) (f : AssayUnit → AssayUnit) (s : State)
    (hl : [.asy] ⊆ fr) (hz : Frame fr z s) : Frame fr z (modAsyUnit rt f s) := by
  unfold modAsyUnit
  try dsimp only
  repeat' first
    | (with_reducible first
        | exact hz | assumption | apply State.setAsy_frame | apply Frame.fold)
    | split | exact List.Subset.trans (by decide) hl | intro _

theorem asyFault_frame {fr : List Chapter} {z : State} (rt : Bool) (op : Nat) (entry : Option Nat) (injected : Bool)
    (s : State) (hl : [.emitted, .host, .kw, .fab, .asy, .flt] ⊆ fr) (hz : Frame fr z s) :
    Frame fr z (asyFault rt op entry injected s) := by
  unfold asyFault
  try dsimp only
  repeat' first
    | (with_reducible first
        | exact hz | assumption | apply modAsyUnit_frame | apply State.setAsy_frame | apply noticeUnit_frame
        | apply upset_frame | apply Frame.fold)
    | split | exact List.Subset.trans (by decide) hl | intro _

theorem countNans_frame {fr : List Chapter} {z : State} (rt : Bool) (n : Nat) (s : State) (hl : [.asy] ⊆ fr)
    (hz : Frame fr z s) : Frame fr z (countNans rt n s) := by
  unfold countNans
  try dsimp only
  repeat' first
    | (with_reducible first
        | exact hz | assumption | apply modAsyUnit_frame | apply Frame.fold)
    | split | exact List.Subset.trans (by decide) hl | intro _

theorem countEcc_frame {fr : List Chapter} {z : State} (e : AsyEcc) (s : State) (hl : [.asy] ⊆ fr) (hz : Frame fr z s) :
    Frame fr z (countEcc e s) := by
  unfold countEcc
  try dsimp only
  repeat' first
    | (with_reducible first
        | exact hz | assumption | apply State.setAsy_frame | apply Frame.fold)
    | split | exact List.Subset.trans (by decide) hl | intro _

theorem countOp_frame {fr : List Chapter} {z : State} (rt : Bool) (discarded : Nat) (s : State) (hl : [.asy] ⊆ fr)
    (hz : Frame fr z s) : Frame fr z (countOp rt discarded s) := by
  unfold countOp
  try dsimp only
  repeat' first
    | (with_reducible first
        | exact hz | assumption | apply modAsyUnit_frame | apply Frame.fold)
    | split | exact List.Subset.trans (by decide) hl | intro _

theorem asyFail_frame {fr : List Chapter} {z : State} (l : CmdList) (op : Nat) (entry : Option Nat) (poison : Option Long)
    (injected : Bool) (s : State) (hl : [.emitted, .host, .pos, .kw, .fab, .asy, .flt] ⊆ fr) (hz : Frame fr z s) :
    Frame fr z (asyFail l op entry poison injected s) := by
  unfold asyFail
  try dsimp only
  repeat' first
    | (with_reducible first
        | exact hz | assumption | apply failList_frame | apply asyFault_frame | apply Frame.fold)
    | split | exact List.Subset.trans (by decide) hl | intro _

theorem asyPoisoned_frame {fr : List Chapter} {z : State} (l : CmdList) (op : Nat) (poisonedAt : Option Long)
    (table : Option Nat) (s : State) (hl : [.emitted, .host, .pos, .kw, .fab, .draw, .asy, .flt] ⊆ fr) (hz : Frame fr z s) :
    Frame fr z (asyPoisoned l op poisonedAt table s) := by
  unfold asyPoisoned
  try dsimp only
  repeat' first
    | (with_reducible first
        | exact hz | assumption | apply asyFail_frame | apply tablePoison_frame | apply Frame.fold)
    | split | exact List.Subset.trans (by decide) hl | intro _

theorem asyWrite_frame {fr : List Chapter} {z : State} (l : CmdList) (c : Cmd) (r : AsyOut) (lost : Option Long)
    (s : State) (hl : [.emitted, .host, .pos, .kw, .fab, .draw, .asy, .flt] ⊆ fr) (hz : Frame fr z s) :
    Frame fr z (asyWrite l c r lost s) := by
  unfold asyWrite
  try dsimp only
  repeat' first
    | (with_reducible first
        | exact hz | assumption | apply failCmd_frame | apply writePlaceBut_frame | apply countOp_frame
        | apply asyFail_frame | apply dmaFail_frame | apply advance_frame | apply Frame.fold)
    | split | exact List.Subset.trans (by decide) hl | intro _

theorem sortLike_frame {fr : List Chapter} {z : State} (poisonedAt : Option Long) (lost : Option Long) (ecc : AsyEcc)
    (s : State) (l : CmdList) (c : Cmd) (hl : [.emitted, .host, .pos, .kw, .fab, .draw, .asy, .flt] ⊆ fr)
    (hz : Frame fr z s) : Frame fr z (sortLike poisonedAt lost ecc s l c) := by
  unfold sortLike
  try dsimp only
  repeat' first
    | (with_reducible first
        | exact hz | assumption | apply failCmd_frame | apply dmaFail_frame | apply asyPoisoned_frame
        | apply asyFail_frame | apply countEcc_frame | apply countNans_frame | apply asyWrite_frame | apply Frame.fold)
    | split | exact List.Subset.trans (by decide) hl | intro _

theorem nnSearch_frame {fr : List Chapter} {z : State} (poisonedAt : Option Long) (lost : Option Long) (ecc : AsyEcc)
    (libError : Option Nat) (s : State) (l : CmdList) (c : Cmd)
    (hl : [.emitted, .host, .pos, .kw, .fab, .draw, .asy, .flt] ⊆ fr) (hz : Frame fr z s) :
    Frame fr z (nnSearch poisonedAt lost ecc libError s l c) := by
  unfold nnSearch
  try dsimp only
  repeat' first
    | (with_reducible first
        | exact hz | assumption | apply failCmd_frame | apply dmaFail_frame | apply asyFail_frame
        | apply asyPoisoned_frame | apply countEcc_frame | apply asyWrite_frame | apply Frame.fold)
    | split | exact List.Subset.trans (by decide) hl | intro _

theorem libLoad_frame {fr : List Chapter} {z : State} (poisonedAt : Option Long) (ecc : AsyEcc) (s : State) (l : CmdList)
    (c : Cmd) (hl : [.emitted, .host, .pos, .kw, .fab, .draw, .asy, .flt] ⊆ fr) (hz : Frame fr z s) :
    Frame fr z (libLoad poisonedAt ecc s l c) := by
  unfold libLoad
  try dsimp only
  repeat' first
    | (with_reducible first
        | exact hz | assumption | apply failCmd_frame | apply dmaFail_frame | apply asyPoisoned_frame
        | apply asyFail_frame | apply countEcc_frame | apply advance_frame | apply State.setAsy_frame
        | apply Frame.fold)
    | split | exact List.Subset.trans (by decide) hl | intro _

theorem partReason_frame {fr : List Chapter} {z : State} (recipe : Nat) (id : Int) (reason : Nat) (s : State)
    (hl : [.hm] ⊆ fr) (hz : Frame fr z s) : Frame fr z (partReason recipe id reason s) := by
  unfold partReason
  try dsimp only
  repeat' first
    | (with_reducible first
        | exact hz | assumption | apply modPart_frame | apply Frame.fold)
    | split | exact List.Subset.trans (by decide) hl | intro _

theorem rtLost_frame {fr : List Chapter} {z : State} (x : RtOp) (s : State) (hl : [.hm, .rcp] ⊆ fr) (hz : Frame fr z s) :
    Frame fr z (rtLost x s) := by
  unfold rtLost
  try dsimp only
  repeat' first
    | (with_reducible first
        | exact hz | assumption | apply partReason_frame | apply foldHold_frame | apply Frame.fold)
    | split | exact List.Subset.trans (by decide) hl | intro _

theorem rtDone_frame {fr : List Chapter} {z : State} (r : Recipe) (x : RtOp) (s : State) (hl : [.asy, .hm] ⊆ fr)
    (hz : Frame fr z s) : Frame fr z (rtDone r x s) := by
  unfold rtDone
  try dsimp only
  repeat' first
    | (with_reducible first
        | exact hz | assumption | apply countOp_frame | apply modPart_frame | apply foldTile_frame
        | apply countNans_frame | apply Frame.fold)
    | split | exact List.Subset.trans (by decide) hl | intro _

theorem keepRt_frame {fr : List Chapter} {z : State} (x : RtOp) (before : State) (s : State) (hl : [.asy] ⊆ fr)
    (hz : Frame fr z s) : Frame fr z (keepRt x before s) := by
  unfold keepRt
  try dsimp only
  repeat' first
    | (with_reducible first
        | exact hz | assumption | apply State.setAsy_frame | apply Frame.fold)
    | split | exact List.Subset.trans (by decide) hl | intro _

theorem bumpAct_frame {fr : List Chapter} {z : State} (i : Nat) (s : State) (hl : [.hm] ⊆ fr) (hz : Frame fr z s) :
    Frame fr z (bumpAct i s) := by
  unfold bumpAct
  try dsimp only
  repeat' first
    | (with_reducible first
        | exact hz | assumption | apply State.setHm_frame | apply Frame.fold)
    | split | exact List.Subset.trans (by decide) hl | intro _

theorem commitAct_frame {fr : List Chapter} {z : State} (handle : Nat) (e : ActEntry) (target : Long) (shift : Nat)
    (recipe : Option Nat) (tenant : Nat) (s : State) (hl : [.hm] ⊆ fr) (hz : Frame fr z s) :
    Frame fr z (commitAct handle e target shift recipe tenant s) := by
  unfold commitAct
  try dsimp only
  repeat' first
    | (with_reducible first
        | exact hz | assumption | apply State.setHm_frame | apply bumpAct_frame | apply Frame.fold)
    | split | exact List.Subset.trans (by decide) hl | intro _

theorem refuseAct_frame {fr : List Chapter} {z : State} (e : ActEntry) (target : Long) (status : Half) (outcome : Nat)
    (recipe : Option Nat) (tenant : Nat) (s : State) (hl : [.draw, .hm] ⊆ fr) (hz : Frame fr z s) :
    Frame fr z (refuseAct e target status outcome recipe tenant s) := by
  unfold refuseAct
  try dsimp only
  repeat' first
    | (with_reducible first
        | exact hz | assumption | apply bumpAct_frame | apply State.setHm_frame | apply logAct_frame
        | apply Frame.fold)
    | split | exact List.Subset.trans (by decide) hl | intro _

theorem hostAct_frame {fr : List Chapter} {z : State} (b : Bytes) (cls : Nat) (tenant : Nat) (pick : Nat) (s : State)
    (hl : [.emitted, .host, .pos, .led, .kw, .pln, .fab, .draw, .asy, .hm, .rcp, .flt] ⊆ fr) (hz : Frame fr z s) :
    Frame fr z (hostAct b cls tenant pick s).state := by
  unfold hostAct
  try dsimp only
  repeat' first
    | (with_reducible first
        | exact hz | assumption | apply refuseAct_frame | apply countRefusal_frame | apply decideAdm_frame
        | apply commitAct_frame | apply Frame.fold)
    | split | exact List.Subset.trans (by decide) hl | intro _

theorem startRing_frame {fr : List Chapter} {z : State} (h : Nat) (s : State) (hl : [.hm] ⊆ fr) (hz : Frame fr z s) :
    Frame fr z (startRing h s) := by
  unfold startRing
  try dsimp only
  repeat' first
    | (with_reducible first
        | exact hz | assumption | apply State.setHm_frame | apply Frame.fold)
    | split | exact List.Subset.trans (by decide) hl | intro _

theorem bumpTile_frame {fr : List Chapter} {z : State} (i : Nat) (s : State) (hl : [.hm] ⊆ fr) (hz : Frame fr z s) :
    Frame fr z (bumpTile i s) := by
  unfold bumpTile
  try dsimp only
  repeat' first
    | (with_reducible first
        | exact hz | assumption | apply State.setHm_frame | apply Frame.fold)
    | split | exact List.Subset.trans (by decide) hl | intro _

theorem invokeRt_frame {fr : List Chapter} {z : State} (x : RtOp) (s : State) (hl : [.asy] ⊆ fr) (hz : Frame fr z s) :
    Frame fr z (invokeRt x s) := by
  unfold invokeRt
  try dsimp only
  repeat' first
    | (with_reducible first
        | exact hz | assumption | apply State.setAsy_frame | apply Frame.fold)
    | split | exact List.Subset.trans (by decide) hl | intro _

theorem classOutcome_frame {fr : List Chapter} {z : State} (r : Recipe) (o : Outcome) (poisoned : Bool) (s : State)
    (hl : [.asy, .hm] ⊆ fr) (hz : Frame fr z s) : Frame fr z (classOutcome r o poisoned s) := by
  unfold classOutcome
  try dsimp only
  repeat' first
    | (with_reducible first
        | exact hz | assumption | apply foldTile_frame | apply invokeRt_frame | apply Frame.fold)
    | split | exact List.Subset.trans (by decide) hl | intro _

theorem shadowEvaluate_frame {fr : List Chapter} {z : State} (r : Recipe) (o : Outcome) (poisoned : Bool) (s : State)
    (hl : [.rcp] ⊆ fr) (hz : Frame fr z s) : Frame fr z (shadowEvaluate r o poisoned s) := by
  unfold shadowEvaluate
  try dsimp only
  repeat' first
    | (with_reducible first
        | exact hz | assumption | apply bumpRcp_frame | apply State.setRcp_frame | apply Frame.fold)
    | split | exact List.Subset.trans (by decide) hl | intro _

theorem ingest_frame {fr : List Chapter} {z : State} (o : Outcome) (poisoned : Bool) (s : State)
    (hl : [.asy, .hm, .rcp] ⊆ fr) (hz : Frame fr z s) : Frame fr z (ingest o poisoned s) := by
  unfold ingest
  try dsimp only
  repeat' first
    | (with_reducible first
        | exact hz | assumption | apply bumpTile_frame | apply shadowEvaluate_frame | apply classOutcome_frame
        | apply Frame.fold)
    | split | exact List.Subset.trans (by decide) hl | intro _

theorem disarm_frame {fr : List Chapter} {z : State} (h : Nat) (s : State) (hl : [.fab] ⊆ fr) (hz : Frame fr z s) :
    Frame fr z (disarm h s) := by
  unfold disarm
  try dsimp only
  repeat' first
    | (with_reducible first
        | exact hz | assumption | apply State.setFab_frame | apply Frame.fold)
    | split | exact List.Subset.trans (by decide) hl | intro _

theorem outgoingDone_frame {fr : List Chapter} {z : State} (h : Nat) (s : State)
    (hl : [.emitted, .host, .kw, .fab, .rcp, .flt] ⊆ fr) (hz : Frame fr z s) : Frame fr z (outgoingDone h s) := by
  unfold outgoingDone
  try dsimp only
  repeat' first
    | (with_reducible first
        | exact hz | assumption | apply noticeActive_frame | apply disarm_frame | apply modRecipe_frame
        | apply Frame.fold)
    | split | exact List.Subset.trans (by decide) hl | intro _

theorem enqueueAction_frame {fr : List Chapter} {z : State} (r : Recipe) (p : Part) (a : Action) (x : Nat × State)
    (hl : [.emitted, .host, .kw, .fab, .draw, .hm, .flt] ⊆ fr) (hz : Frame fr z x.2) :
    Frame fr z (enqueueAction r p a x).2 := by
  unfold enqueueAction
  try dsimp only
  repeat' first
    | (with_reducible first
        | exact hz | assumption | apply commitAct_frame | apply noticeHolder_frame | apply refuseAct_frame
        | apply Frame.fold)
    | split | exact List.Subset.trans (by decide) hl | intro _

theorem enqueueActions_frame {fr : List Chapter} {z : State} (r : Recipe) (p : Part) (l : List Action) (x : Nat × State)
    (hl : [.emitted, .host, .kw, .fab, .draw, .hm, .flt] ⊆ fr) (hz : Frame fr z x.2) :
    Frame fr z (enqueueActions r p l x).2 := by
  fun_induction enqueueActions r p l x
  all_goals try dsimp only
  repeat' first
    | (with_reducible first
        | exact hz | apply_assumption | assumption | apply enqueueAction_frame | apply Frame.fold)
    | split | exact List.Subset.trans (by decide) hl | intro _

theorem issue_frame {fr : List Chapter} {z : State} (r : Recipe) (p : Part) (forced : Bool) (s : State)
    (hl : [.emitted, .host, .kw, .fab, .draw, .hm, .rcp, .flt] ⊆ fr) (hz : Frame fr z s) :
    Frame fr z (issue r p forced s) := by
  unfold issue
  try dsimp only
  repeat' first
    | (with_reducible first
        | exact hz | assumption | apply enqueueActions_frame | apply hmRing_frame | apply modPart_frame
        | apply modRecipe_frame | apply State.setHm_frame | apply pruneRecipes_frame | apply outgoingDone_frame
        | apply Frame.fold)
    | split | exact List.Subset.trans (by decide) hl | intro _

theorem issueLate_frame {fr : List Chapter} {z : State} (r : Recipe) (p : Part) (s : State)
    (hl : [.emitted, .host, .kw, .fab, .draw, .hm, .rcp, .flt] ⊆ fr) (hz : Frame fr z s) :
    Frame fr z (issueLate r p s) := by
  unfold issueLate
  try dsimp only
  repeat' first
    | (with_reducible first
        | exact hz | assumption | apply issue_frame | apply Frame.fold)
    | split | exact List.Subset.trans (by decide) hl | intro _

theorem verdictIssue_frame {fr : List Chapter} {z : State} (r : Recipe) (p : Part) (s : State)
    (hl : [.emitted, .host, .kw, .fab, .draw, .asy, .hm, .rcp, .flt] ⊆ fr) (hz : Frame fr z s) :
    Frame fr z (verdictIssue r p s) := by
  unfold verdictIssue
  try dsimp only
  repeat' first
    | (with_reducible first
        | exact hz | assumption | apply issue_frame | apply issueLate_frame | apply invokeRt_frame
        | apply modPart_frame | apply Frame.fold)
    | split | exact List.Subset.trans (by decide) hl | intro _

theorem closePlate_frame {fr : List Chapter} {z : State} (r : Recipe) (p : Part) (stop : Int) (s : State)
    (hl : [.hm] ⊆ fr) (hz : Frame fr z s) : Frame fr z (closePlate r p stop s) := by
  unfold closePlate
  try dsimp only
  repeat' first
    | (with_reducible first
        | exact hz | assumption | apply modPart_frame | apply Frame.fold)
    | split | exact List.Subset.trans (by decide) hl | intro _

theorem closeLong_frame {fr : List Chapter} {z : State} (r : Recipe) (p : Part) (s : State) (hl : [.hm] ⊆ fr)
    (hz : Frame fr z s) : Frame fr z (closeLong r p s) := by
  unfold closeLong
  try dsimp only
  repeat' first
    | (with_reducible first
        | exact hz | assumption | apply modPart_frame | apply Frame.fold)
    | split | exact List.Subset.trans (by decide) hl | intro _

theorem closeOverlong_frame {fr : List Chapter} {z : State} (leading : Bool) (pos : Long) (s : State) (r : Recipe)
    (hl : [.hm] ⊆ fr) (hz : Frame fr z s) : Frame fr z (closeOverlong leading pos s r) := by
  unfold closeOverlong
  try dsimp only
  repeat' first
    | (with_reducible first
        | exact hz | assumption | apply closeLong_frame | apply Frame.fold)
    | split | exact List.Subset.trans (by decide) hl | intro _

theorem plateEdge_frame {fr : List Chapter} {z : State} (r : Recipe) (leading : Bool) (pos : Long) (s : State)
    (hl : [.hm, .rcp] ⊆ fr) (hz : Frame fr z s) : Frame fr z (plateEdge r leading pos s) := by
  unfold plateEdge
  try dsimp only
  repeat' first
    | (with_reducible first
        | exact hz | assumption | apply modRecipe_frame | apply State.setHm_frame | apply closePlate_frame
        | apply Frame.fold)
    | split | exact List.Subset.trans (by decide) hl | intro _

theorem plateEdges_frame {fr : List Chapter} {z : State} (l : List Recipe) (leading : Bool) (pos : Long) (s : State)
    (hl : [.hm, .rcp] ⊆ fr) (hz : Frame fr z s) : Frame fr z (plateEdges l leading pos s) := by
  fun_induction plateEdges l leading pos s
  all_goals try dsimp only
  repeat' first
    | (with_reducible first
        | exact hz | apply_assumption | assumption | apply plateEdge_frame | apply Frame.fold)
    | split | exact List.Subset.trans (by decide) hl | intro _

theorem edgeFor_frame {fr : List Chapter} {z : State} (l : List Recipe) (leading : Bool) (pos : Long) (s : State)
    (hl : [.hm, .rcp] ⊆ fr) (hz : Frame fr z s) : Frame fr z (edgeFor l leading pos s).2 := by
  unfold edgeFor
  try dsimp only
  repeat' first
    | (with_reducible first
        | exact hz | assumption | apply closeOverlong_frame | apply plateEdges_frame | apply bumpTile_frame
        | apply Frame.fold)
    | split | exact List.Subset.trans (by decide) hl | intro _

theorem sensorEdge_frame {fr : List Chapter} {z : State} (channel : Nat) (leading : Bool) (pos : Long) (s : State)
    (hl : [.hm, .rcp] ⊆ fr) (hz : Frame fr z s) : Frame fr z (sensorEdge channel leading pos s) := by
  unfold sensorEdge
  try dsimp only
  repeat' first
    | (with_reducible first
        | exact hz | assumption | apply edgeFor_frame | apply Frame.fold)
    | split | exact List.Subset.trans (by decide) hl | intro _

theorem modAct_frame {fr : List Chapter} {z : State} (h : Nat) (f : Act → Act) (s : State) (hl : [.hm] ⊆ fr)
    (hz : Frame fr z s) : Frame fr z (modAct h f s) := by
  unfold modAct
  try dsimp only
  repeat' first
    | (with_reducible first
        | exact hz | assumption | apply State.setHm_frame | apply Frame.fold)
    | split | exact List.Subset.trans (by decide) hl | intro _

theorem noteInterlock_frame {fr : List Chapter} {z : State} (a : Act) (code : Nat) (s : State)
    (hl : [.emitted, .host, .kw, .fab, .hm, .flt] ⊆ fr) (hz : Frame fr z s) : Frame fr z (noteInterlock a code s) := by
  unfold noteInterlock
  try dsimp only
  repeat' first
    | (with_reducible first
        | exact hz | assumption | apply noticeUnit_frame | apply bumpAct_frame | apply Frame.fold)
    | split | exact List.Subset.trans (by decide) hl | intro _

theorem skipAct_frame {fr : List Chapter} {z : State} (a : Act) (s : State) (hl : [.led, .draw, .hm, .rcp] ⊆ fr)
    (hz : Frame fr z s) : Frame fr z (skipAct a s) := by
  unfold skipAct
  try dsimp only
  repeat' first
    | (with_reducible first
        | exact hz | assumption | apply pruneRecipes_frame | apply logActOf_frame | apply dropAct_frame
        | apply Frame.fold)
    | split | exact List.Subset.trans (by decide) hl | intro _

theorem loseAct_frame {fr : List Chapter} {z : State} (a : Act) (s : State)
    (hl : [.emitted, .host, .led, .kw, .fab, .draw, .hm, .rcp, .flt] ⊆ fr) (hz : Frame fr z s) :
    Frame fr z (loseAct a s) := by
  unfold loseAct
  try dsimp only
  repeat' first
    | (with_reducible first
        | exact hz | assumption | apply pruneRecipes_frame | apply logActOf_frame | apply dropAct_frame
        | apply noticeUnit_frame | apply equivLost_frame | apply Frame.fold)
    | split | exact List.Subset.trans (by decide) hl | intro _

theorem secondCopy_frame {fr : List Chapter} {z : State} (injected : Bool) (s : State) (hl : [.flt] ⊆ fr)
    (hz : Frame fr z s) : Frame fr z (secondCopy injected s) := by
  unfold secondCopy
  try dsimp only
  repeat' first
    | (with_reducible first
        | exact hz | assumption | apply recovered_frame | apply upset_frame | apply Frame.fold)
    | split | exact List.Subset.trans (by decide) hl | intro _

theorem fireAct_frame {fr : List Chapter} {z : State} (a : Act) (s : State) (hl : [.hm, .dio] ⊆ fr) (hz : Frame fr z s) :
    Frame fr z (fireAct a s) := by
  unfold fireAct
  try dsimp only
  repeat' first
    | (with_reducible first
        | exact hz | assumption | apply modAct_frame | apply settleOut_frame | apply modChan_frame | apply Frame.fold)
    | split | exact List.Subset.trans (by decide) hl | intro _

theorem switchOn_frame {fr : List Chapter} {z : State} (a : Act) (s : State)
    (hl : [.emitted, .host, .led, .kw, .fab, .draw, .hm, .dio, .rcp, .flt] ⊆ fr) (hz : Frame fr z s) :
    Frame fr z (switchOn a s) := by
  unfold switchOn
  try dsimp only
  repeat' first
    | (with_reducible first
        | exact hz | assumption | apply skipAct_frame | apply State.setDio_frame | apply noteInterlock_frame
        | apply modAct_frame | apply fireAct_frame | apply Frame.fold)
    | split | exact List.Subset.trans (by decide) hl | intro _

theorem resumeHeld_frame {fr : List Chapter} {z : State} (ch : Nat) (s : State)
    (hl : [.emitted, .host, .led, .kw, .fab, .draw, .hm, .dio, .rcp, .flt] ⊆ fr) (hz : Frame fr z s) :
    Frame fr z (resumeHeld ch s) := by
  unfold resumeHeld
  try dsimp only
  repeat' first
    | (with_reducible first
        | exact hz | assumption | apply switchOn_frame | apply Frame.fold)
    | split | exact List.Subset.trans (by decide) hl | intro _

theorem switchOff_frame {fr : List Chapter} {z : State} (a : Act) (s : State)
    (hl : [.emitted, .host, .led, .kw, .fab, .draw, .hm, .dio, .rcp, .flt] ⊆ fr) (hz : Frame fr z s) :
    Frame fr z (switchOff a s) := by
  unfold switchOff
  try dsimp only
  repeat' first
    | (with_reducible first
        | exact hz | assumption | apply resumeHeld_frame | apply pruneRecipes_frame | apply settleOut_frame
        | apply logActOf_frame | apply dropAct_frame | apply Frame.fold)
    | split | exact List.Subset.trans (by decide) hl | intro _

theorem noteEdge_frame {fr : List Chapter} {z : State} (n : Nat) (level : Bool) (stamp : Long) (s : State)
    (hl : [.emitted, .host, .kw, .fab, .dio, .flt] ⊆ fr) (hz : Frame fr z s) : Frame fr z (noteEdge n level stamp s) := by
  unfold noteEdge
  try dsimp only
  repeat' first
    | (with_reducible first
        | exact hz | assumption | apply noticeUnitAt_frame | apply modChan_frame | apply State.setDio_frame
        | apply Frame.fold)
    | split | exact List.Subset.trans (by decide) hl | intro _

theorem acceptEdge_frame {fr : List Chapter} {z : State} (n : Nat) (stamp : Long) (s : State)
    (hl : [.emitted, .host, .kw, .fab, .hm, .dio, .rcp, .flt] ⊆ fr) (hz : Frame fr z s) :
    Frame fr z (acceptEdge n stamp s) := by
  unfold acceptEdge
  try dsimp only
  repeat' first
    | (with_reducible first
        | exact hz | assumption | apply sensorEdge_frame | apply noteEdge_frame | apply modChan_frame
        | apply Frame.fold)
    | split | exact List.Subset.trans (by decide) hl | intro _

theorem acceptDue_frame {fr : List Chapter} {z : State} (n : Nat) (s : State)
    (hl : [.emitted, .host, .kw, .fab, .hm, .dio, .rcp, .flt] ⊆ fr) (hz : Frame fr z s) : Frame fr z (acceptDue n s) := by
  unfold acceptDue
  try dsimp only
  repeat' first
    | (with_reducible first
        | exact hz | assumption | apply acceptEdge_frame | apply Frame.fold)
    | split | exact List.Subset.trans (by decide) hl | intro _

theorem noticeBreak_frame {fr : List Chapter} {z : State} (n : Nat) (kind : Nat) (set : Bool) (s : State)
    (hl : [.emitted, .host, .kw, .fab, .flt] ⊆ fr) (hz : Frame fr z s) : Frame fr z (noticeBreak n kind set s) := by
  unfold noticeBreak
  try dsimp only
  repeat' first
    | (with_reducible first
        | exact hz | assumption | apply noticeUnit_frame | apply Frame.fold)
    | split | exact List.Subset.trans (by decide) hl | intro _

theorem clearBreak_frame {fr : List Chapter} {z : State} (n : Nat) (s : State)
    (hl : [.emitted, .host, .kw, .fab, .dio, .flt] ⊆ fr) (hz : Frame fr z s) : Frame fr z (clearBreak n s) := by
  unfold clearBreak
  try dsimp only
  repeat' first
    | (with_reducible first
        | exact hz | assumption | apply noticeBreak_frame | apply modChan_frame | apply Frame.fold)
    | split | exact List.Subset.trans (by decide) hl | intro _

theorem openFeed_frame {fr : List Chapter} {z : State} (k : Nat) (f : Feed → Feed) (s : State)
    (hl : [.led, .draw, .hm, .dio, .rcp] ⊆ fr) (hz : Frame fr z s) : Frame fr z (openFeed k f s) := by
  unfold openFeed
  try dsimp only
  repeat' first
    | (with_reducible first
        | exact hz | assumption | apply pruneRecipes_frame | apply endPulse_frame | apply settleFeed_frame
        | apply modFeed_frame | apply Frame.fold)
    | split | exact List.Subset.trans (by decide) hl | intro _

theorem loseSwitchOn_frame {fr : List Chapter} {z : State} (n : Nat) (s : State)
    (hl : [.led, .draw, .hm, .dio, .rcp] ⊆ fr) (hz : Frame fr z s) : Frame fr z (loseSwitchOn n s) := by
  unfold loseSwitchOn
  try dsimp only
  repeat' first
    | (with_reducible first
        | exact hz | assumption | apply pruneRecipes_frame | apply settleOut_frame | apply logActOf_frame
        | apply dropAct_frame | apply Frame.fold)
    | split | exact List.Subset.trans (by decide) hl | intro _

theorem frameError_frame {fr : List Chapter} {z : State} (n : Nat) (retryOk : Bool) (injected : Bool) (s : State)
    (hl : [.emitted, .host, .pos, .led, .kw, .lanes, .pln, .fab, .draw, .asy, .hm, .dio, .rcp, .flt, .boot] ⊆ fr)
    (hz : Frame fr z s) : Frame fr z (frameError n retryOk injected s) := by
  unfold frameError
  try dsimp only
  repeat' first
    | (with_reducible first
        | exact hz | assumption | apply modChan_frame | apply loseSwitchOn_frame | apply State.emit_frame
        | apply upsetRetire_frame | apply Frame.fold)
    | split | exact List.Subset.trans (by decide) hl | intro _

theorem openFeeds_frame {fr : List Chapter} {z : State} (l : List Nat) (f : Feed → Feed) (s : State)
    (hl : [.led, .draw, .hm, .dio, .rcp] ⊆ fr) (hz : Frame fr z s) : Frame fr z (openFeeds l f s) := by
  fun_induction openFeeds l f s
  all_goals try dsimp only
  repeat' first
    | (with_reducible first
        | exact hz | apply_assumption | assumption | apply openFeed_frame | apply Frame.fold)
    | split | exact List.Subset.trans (by decide) hl | intro _

theorem closeFeeds_frame {fr : List Chapter} {z : State} (l : List Nat) (f : Feed → Feed) (s : State) (hl : [.dio] ⊆ fr) (hz : Frame fr z s) :
    Frame fr z (closeFeeds l f s) := by
  induction l generalizing s with
  | nil => exact hz
  | cons k r ih => exact ih _ (settleFeed_frame _ _ (List.Subset.trans (by decide) hl) (modFeed_frame _ _ _ (List.Subset.trans (by decide) hl) hz))

theorem setSince_frame {fr : List Chapter} {z : State} (l : List Nat) (v : Option Nat) (s : State) (hl : [.dio] ⊆ fr)
    (hz : Frame fr z s) : Frame fr z (setSince l v s) := by
  unfold setSince
  try dsimp only
  repeat' first
    | (with_reducible first
        | exact hz | assumption | apply State.setDio_frame | apply Frame.fold)
    | split | exact List.Subset.trans (by decide) hl | intro _

theorem noticeSupply_frame {fr : List Chapter} {z : State} (x : Nat) (lost : Bool) (mv : Nat) (s : State)
    (hl : [.emitted, .host, .kw, .fab, .flt] ⊆ fr) (hz : Frame fr z s) : Frame fr z (noticeSupply x lost mv s) := by
  unfold noticeSupply
  try dsimp only
  repeat' first
    | (with_reducible first
        | exact hz | assumption | apply noticeUnit_frame | apply Frame.fold)
    | split | exact List.Subset.trans (by decide) hl | intro _

theorem keeperInvalidate_frame {fr : List Chapter} {z : State} (s : State) (hl : [.pos, .boot] ⊆ fr) (hz : Frame fr z s) :
    Frame fr z (keeperInvalidate s) := by
  unfold keeperInvalidate
  try dsimp only
  repeat' first
    | (with_reducible first
        | exact hz | assumption | apply State.setPos_frame | apply State.setBoot_frame | apply Frame.fold)
    | split | exact List.Subset.trans (by decide) hl | intro _

theorem settleFields_frame {fr : List Chapter} {z : State} (s : State) (hl : [.pos, .dio, .boot] ⊆ fr) (hz : Frame fr z s) :
    Frame fr z (settleFields s) := by
  unfold settleFields
  try dsimp only
  repeat' first
    | (with_reducible first
        | exact hz | assumption | apply State.setDio_frame | apply keeperInvalidate_frame | apply Frame.fold)
    | split | exact List.Subset.trans (by decide) hl | intro _

theorem fieldSupply_frame {fr : List Chapter} {z : State} (x : Nat) (mv : Nat) (s : State)
    (hl : [.emitted, .host, .pos, .led, .kw, .fab, .draw, .hm, .dio, .rcp, .flt, .boot] ⊆ fr) (hz : Frame fr z s) :
    Frame fr z (fieldSupply x mv s) := by
  unfold fieldSupply
  try dsimp only
  repeat' first
    | (with_reducible first
        | exact hz | assumption | apply State.setDio_frame | apply setSince_frame | apply setCause_frame
        | apply openFeeds_frame | apply pruneRecipes_frame | apply settleFields_frame | apply noticeSupply_frame
        | apply closeFeeds_frame | apply Frame.fold)
    | split | exact List.Subset.trans (by decide) hl | intro _

theorem applyDio_frame {fr : List Chapter} {z : State} (n : Nat) (v : Nat) (s : State)
    (hl : [.led, .draw, .hm, .dio, .rcp] ⊆ fr) (hz : Frame fr z s) : Frame fr z (applyDio n v s) := by
  unfold applyDio
  try dsimp only
  repeat' first
    | (with_reducible first
        | exact hz | assumption | apply modChan_frame | apply pruneRecipes_frame | apply endPulse_frame
        | apply Frame.fold)
    | split | exact List.Subset.trans (by decide) hl | intro _

theorem clearIf_frame {fr : List Chapter} {z : State} (causes : Nat) (b : Nat) (l : List Nat) (s : State)
    (hl : [.emitted, .host, .led, .kw, .fab, .draw, .hm, .dio, .flt] ⊆ fr) (hz : Frame fr z s) :
    Frame fr z (clearIf causes b l s) := by
  unfold clearIf
  try dsimp only
  repeat' first
    | (with_reducible first
        | exact hz | assumption | apply setCause_frame | apply Frame.fold)
    | split | exact List.Subset.trans (by decide) hl | intro _

theorem loadAdmit_frame {fr : List Chapter} {z : State} (p : Packet) (pick : Nat) (im : RecipeImage) (s : State)
    (hl : [.emitted, .host, .pos, .led, .kw, .pln, .fab, .draw, .asy, .hm, .rcp, .flt] ⊆ fr) (hz : Frame fr z s) :
    Frame fr z (loadAdmit p pick im s) := by
  unfold loadAdmit
  try dsimp only
  repeat' first
    | (with_reducible first
        | exact hz | assumption | apply admitRecipe_frame | apply refuseWith_frame | apply ok_frame
        | apply State.setRcp_frame | apply Frame.fold)
    | split | exact List.Subset.trans (by decide) hl | intro _

theorem commitActivation_frame {fr : List Chapter} {z : State} (inc : Option Recipe) (old : Option Recipe) (issuer : Nat)
    (e : Long) (s : State) (hl : [.rcp] ⊆ fr) (hz : Frame fr z s) : Frame fr z (commitActivation inc old issuer e s) := by
  unfold commitActivation
  try dsimp only
  repeat' first
    | (with_reducible first
        | exact hz | assumption | apply modRecipe_frame | apply Frame.fold)
    | split | exact List.Subset.trans (by decide) hl | intro _

theorem activate_frame {fr : List Chapter} {z : State} (t : Nat) (issuer : Nat) (h : Nat) (outH : Nat) (now : Bool)
    (w : Word) (s : State) (hl : [.rcp] ⊆ fr) (hz : Frame fr z s) :
    Frame fr z (activate t issuer h outH now w s).state := by
  unfold activate
  try dsimp only
  repeat' first
    | (with_reducible first
        | exact hz | assumption | apply commitActivation_frame | apply Frame.fold)
    | split | exact List.Subset.trans (by decide) hl | intro _

theorem arm_frame {fr : List Chapter} {z : State} (h : Nat) (s : State) (hl : [.fab] ⊆ fr) (hz : Frame fr z s) :
    Frame fr z (arm h s) := by
  unfold arm
  try dsimp only
  repeat' first
    | (with_reducible first
        | exact hz | assumption | apply State.setFab_frame | apply Frame.fold)
    | split | exact List.Subset.trans (by decide) hl | intro _

theorem switchAway_frame {fr : List Chapter} {z : State} (h : Nat) (s : State) (hl : [.rcp] ⊆ fr) (hz : Frame fr z s) :
    Frame fr z (switchAway h s) := by
  unfold switchAway
  try dsimp only
  repeat' first
    | (with_reducible first
        | exact hz | assumption | apply modRecipe_frame | apply Frame.fold)
    | split | exact List.Subset.trans (by decide) hl | intro _

theorem becomeActive_frame {fr : List Chapter} {z : State} (r : Recipe) (s : State) (hl : [.fab, .hm, .rcp] ⊆ fr)
    (hz : Frame fr z s) : Frame fr z (becomeActive r s) := by
  unfold becomeActive
  try dsimp only
  repeat' first
    | (with_reducible first
        | exact hz | assumption | apply State.setHm_frame | apply arm_frame | apply modRecipe_frame | apply Frame.fold)
    | split | exact List.Subset.trans (by decide) hl | intro _

theorem bumpRcpN_frame {fr : List Chapter} {z : State} (i : Nat) (n : Nat) (s : State) (hl : [.rcp] ⊆ fr)
    (hz : Frame fr z s) : Frame fr z (bumpRcpN i n s) := by
  unfold bumpRcpN
  try dsimp only
  repeat' first
    | (with_reducible first
        | exact hz | assumption | apply State.setRcp_frame | apply Frame.fold)
    | split | exact List.Subset.trans (by decide) hl | intro _

theorem countTelegram_frame {fr : List Chapter} {z : State} (t : Tokens) (trunc : Bool) (late : Bool) (s : State)
    (hl : [.rcp] ⊆ fr) (hz : Frame fr z s) : Frame fr z (countTelegram t trunc late s) := by
  unfold countTelegram
  try dsimp only
  repeat' first
    | (with_reducible first
        | exact hz | assumption | apply bumpRcpN_frame | apply Frame.fold)
    | split | exact List.Subset.trans (by decide) hl | intro _

theorem selectRecipe_frame {fr : List Chapter} {z : State} (p : Packet) (e : SelEntry) (views : Nat) (w : Word)
    (s : State) (hl : [.emitted, .host, .kw, .fab, .rcp, .flt] ⊆ fr) (hz : Frame fr z s) :
    Frame fr z (selectRecipe p e views w s).state := by
  unfold selectRecipe
  try dsimp only
  repeat' first
    | (with_reducible first
        | exact hz | assumption | apply activate_frame | apply bumpRcp_frame | apply noticeHolder_frame
        | apply Frame.fold)
    | split | exact List.Subset.trans (by decide) hl | intro _

theorem giveBlocks_frame {fr : List Chapter} {z : State} (l : List (Recipe × Long)) (kept : List Nat) (s : State)
    (hl : [.rcp] ⊆ fr) (hz : Frame fr z s) : Frame fr z (giveBlocks l kept s) := by
  fun_induction giveBlocks l kept s
  all_goals try dsimp only
  repeat' first
    | (with_reducible first
        | exact hz | apply_assumption | assumption | apply modRecipe_frame | apply Frame.fold)
    | split | exact List.Subset.trans (by decide) hl | intro _

theorem takeTelegram_frame {fr : List Chapter} {z : State} (p : Packet) (s : State)
    (hl : [.emitted, .host, .kw, .fab, .rcp, .flt] ⊆ fr) (hz : Frame fr z s) : Frame fr z (takeTelegram p s) := by
  have key : ∀ (c : Bool) (o : Option SelEntry) (views : Nat) (w : Word) (s1 : State), Frame fr z s1 →
      Frame fr z ((((if c then o.map fun e => selectRecipe p e views w s1 else none).map (·.state)).getD s1)) := by
    intro c o views w s1 h1
    cases c <;> cases o <;> first | exact h1 | exact selectRecipe_frame _ _ _ _ _ (List.Subset.trans (by decide) hl) h1
  unfold takeTelegram
  extract_lets b views w late a t kept trunc s1 sel s2 targets s3 e
  have h3 : Frame fr z s3 := giveBlocks_frame _ _ _ (List.Subset.trans (by decide) hl)
    (key _ _ _ _ _ (countTelegram_frame _ _ _ _ (List.Subset.trans (by decide) hl) hz))
  split
  · exact refuse_frame _ _ _ _ (List.Subset.trans (by decide) hl) hz
  · exact ok_frame _ _ _ (List.Subset.trans (by decide) hl) h3

theorem dropCapture_frame {fr : List Chapter} {z : State} (s : State)
    (hl : [.emitted, .host, .pos, .led, .kw, .pln, .fab, .draw, .asy, .hm, .rcp, .flt] ⊆ fr) (hz : Frame fr z s) :
    Frame fr z (dropCapture s) := by
  unfold dropCapture
  try dsimp only
  repeat' first
    | (with_reducible first
        | exact hz | assumption | apply endAdm_frame | apply Frame.fold)
    | split | exact List.Subset.trans (by decide) hl | intro _

theorem cacheConfig_frame {fr : List Chapter} {z : State} (p : Packet) (pick : Nat) (s : State)
    (hl : [.emitted, .host, .pos, .led, .kw, .pln, .fab, .draw, .asy, .hm, .rcp, .flt] ⊆ fr) (hz : Frame fr z s) :
    Frame fr z (cacheConfig p pick s) := by
  unfold cacheConfig
  try dsimp only
  repeat' first
    | (with_reducible first
        | exact hz | assumption | apply decideAdm_frame | apply dropCapture_frame | apply refuseWith_frame
        | apply countRefusal_frame | apply State.setRcp_frame | apply ok_frame | apply writeCacheHeaders_frame
        | apply Frame.fold)
    | split | exact List.Subset.trans (by decide) hl | intro _

theorem labelAll_frame {fr : List Chapter} {z : State} (l : List (Nat × Nat)) (s : State) (hl : [.draw, .rcp] ⊆ fr)
    (hz : Frame fr z s) : Frame fr z (labelAll l s) := by
  fun_induction labelAll l s
  all_goals try dsimp only
  repeat' first
    | (with_reducible first
        | exact hz | apply_assumption | assumption | apply writeCacheHeader_frame | apply State.setRcp_frame
        | apply Frame.fold)
    | split | exact List.Subset.trans (by decide) hl | intro _

theorem commitEpoch_frame {fr : List Chapter} {z : State} (ref : Ref) (fromList : Bool) (t : Nat) (h : Nat) (b : Bytes)
    (s : State) (hl : [.draw, .rcp] ⊆ fr) (hz : Frame fr z s) : Frame fr z (commitEpoch ref fromList t h b s) := by
  unfold commitEpoch
  try dsimp only
  repeat' first
    | (with_reducible first
        | exact hz | assumption | apply writeCacheHeaders_frame | apply State.setRcp_frame | apply Frame.fold)
    | split | exact List.Subset.trans (by decide) hl | intro _

theorem requestEpoch_frame {fr : List Chapter} {z : State} (ref : Ref) (fromList : Bool) (t : Nat) (cls : Nat)
    (pick : Nat) (b : Bytes) (s : State)
    (hl : [.emitted, .host, .pos, .led, .kw, .pln, .fab, .draw, .asy, .hm, .rcp, .flt] ⊆ fr) (hz : Frame fr z s) :
    Frame fr z (requestEpoch ref fromList t cls pick b s).state := by
  unfold requestEpoch
  try dsimp only
  repeat' first
    | (with_reducible first
        | exact hz | assumption | apply decideAdm_frame | apply commitEpoch_frame | apply Frame.fold)
    | split | exact List.Subset.trans (by decide) hl | intro _

theorem epochReply_frame {fr : List Chapter} {z : State} (e : Epoch) (cand : Nat) (s : State)
    (hl : [.emitted, .host, .pos, .kw, .fab] ⊆ fr) (hz : Frame fr z s) : Frame fr z (epochReply e cand s) := by
  unfold epochReply
  try dsimp only
  repeat' first
    | (with_reducible first
        | exact hz | assumption | apply advance_frame | apply doneLater_frame | apply Frame.fold)
    | split | exact List.Subset.trans (by decide) hl | intro _

theorem completeEpoch_frame {fr : List Chapter} {z : State} (e : Epoch) (params : Bytes) (pick : Nat) (s : State)
    (hl : [.emitted, .host, .pos, .led, .kw, .fab, .draw, .rcp, .flt] ⊆ fr) (hz : Frame fr z s) :
    Frame fr z (completeEpoch e params pick s) := by
  unfold completeEpoch
  try dsimp only
  repeat' first
    | (with_reducible first
        | exact hz | assumption | apply cutBuckets_frame | apply dropAdm_frame | apply State.setRcp_frame
        | apply noticeHolder_frame | apply epochReply_frame | apply writeCacheHeaders_frame | apply Frame.fold)
    | split | exact List.Subset.trans (by decide) hl | intro _

theorem commitShadow_frame {fr : List Chapter} {z : State} (h : Nat) (cand : Nat) (b : Nat) (recipe : Nat) (stride : Nat)
    (s : State) (hl : [.rcp] ⊆ fr) (hz : Frame fr z s) : Frame fr z (commitShadow h cand b recipe stride s) := by
  unfold commitShadow
  try dsimp only
  repeat' first
    | (with_reducible first
        | exact hz | assumption | apply State.setRcp_frame | apply Frame.fold)
    | split | exact List.Subset.trans (by decide) hl | intro _

theorem startShadow_frame {fr : List Chapter} {z : State} (p : Packet) (pick : Nat) (s : State)
    (hl : [.emitted, .host, .pos, .led, .kw, .pln, .fab, .draw, .asy, .hm, .rcp, .flt] ⊆ fr) (hz : Frame fr z s) :
    Frame fr z (startShadow p pick s) := by
  unfold startShadow
  try dsimp only
  repeat' first
    | (with_reducible first
        | exact hz | assumption | apply refuse_frame | apply decideAdm_frame | apply refuseWith_frame | apply ok_frame
        | apply commitShadow_frame | apply Frame.fold)
    | split | exact List.Subset.trans (by decide) hl | intro _

theorem stopShadow_frame {fr : List Chapter} {z : State} (p : Packet) (s : State)
    (hl : [.emitted, .host, .pos, .led, .kw, .pln, .fab, .draw, .asy, .hm, .rcp, .flt] ⊆ fr) (hz : Frame fr z s) :
    Frame fr z (stopShadow p s) := by
  unfold stopShadow
  try dsimp only
  repeat' first
    | (with_reducible first
        | exact hz | assumption | apply refuse_frame | apply ok_frame | apply release_frame | apply Frame.fold)
    | split | exact List.Subset.trans (by decide) hl | intro _

theorem selectOn_frame {fr : List Chapter} {z : State} (l : List Nat) (slot : Bench → Nat) (tenant : Nat) (opcode : Half)
    (cand : Nat) (recipe : Nat) (bd : Long) (s : State) (hl : [.fab] ⊆ fr) (hz : Frame fr z s) :
    Frame fr z (selectOn l slot tenant opcode cand recipe bd s) := by
  fun_induction selectOn l slot tenant opcode cand recipe bd s
  all_goals try dsimp only
  repeat' first
    | (with_reducible first
        | exact hz | apply_assumption | assumption | apply modBench_frame | apply Frame.fold)
    | split | exact List.Subset.trans (by decide) hl | intro _

theorem loadIdle_frame {fr : List Chapter} {z : State} (l : List Nat) (params : Bytes) (s : State) (hl : [.fab] ⊆ fr)
    (hz : Frame fr z s) : Frame fr z (loadIdle l params s) := by
  fun_induction loadIdle l params s
  all_goals try dsimp only
  repeat' first
    | (with_reducible first
        | exact hz | apply_assumption | assumption | apply placeCopy_frame | apply modBench_frame | apply Frame.fold)
    | split | exact List.Subset.trans (by decide) hl | intro _

theorem addPacket_frame {fr : List Chapter} {z : State} (p : Packet) (s : State) (hl : [.kw] ⊆ fr) (hz : Frame fr z s) :
    Frame fr z (addPacket p s) := by
  unfold addPacket
  try dsimp only
  repeat' first
    | (with_reducible first
        | exact hz | assumption | apply State.setKw_frame | apply Frame.fold)
    | split | exact List.Subset.trans (by decide) hl | intro _

theorem accept_frame {fr : List Chapter} {z : State} (n : Nat) (b : Bytes) (slot : Half) (s : State)
    (hl : [.emitted, .host, .kw, .fab] ⊆ fr) (hz : Frame fr z s) : Frame fr z (accept n b slot s) := by
  unfold accept
  try dsimp only
  repeat' first
    | (with_reducible first
        | exact hz | assumption | apply tenantReply_frame | apply addPacket_frame | apply Frame.fold)
    | split | exact List.Subset.trans (by decide) hl | intro _

theorem fetch_frame {fr : List Chapter} {z : State} (n : Nat) (dmaOk : Bool) (s : State)
    (hl : [.emitted, .host, .kw, .fab] ⊆ fr) (hz : Frame fr z s) : Frame fr z (fetch n dmaOk s) := by
  unfold fetch
  try dsimp only
  repeat' first
    | (with_reducible first
        | exact hz | assumption | apply ringError_frame | apply accept_frame | apply modTen_frame | apply Frame.fold)
    | split | exact List.Subset.trans (by decide) hl | intro _

theorem acceptSideband_frame {fr : List Chapter} {z : State} (d : Datagram) (s : State) (hl : [.emitted, .kw] ⊆ fr)
    (hz : Frame fr z s) : Frame fr z (acceptSideband d s) := by
  unfold acceptSideband
  try dsimp only
  repeat' first
    | (with_reducible first
        | exact hz | assumption | apply sendSideband_frame | apply sidebandReply_frame | apply addPacket_frame
        | apply Frame.fold)
    | split | exact List.Subset.trans (by decide) hl | intro _

theorem serveSideband_frame {fr : List Chapter} {z : State} (d : Datagram) (s : State) (hl : [.emitted, .kw] ⊆ fr)
    (hz : Frame fr z s) : Frame fr z (serveSideband d s) := by
  unfold serveSideband
  try dsimp only
  repeat' first
    | (with_reducible first
        | exact hz | assumption | apply sendSideband_frame | apply acceptSideband_frame | apply Frame.fold)
    | split | exact List.Subset.trans (by decide) hl | intro _

theorem answerSideband_frame {fr : List Chapter} {z : State} (d : Datagram) (s : State) (hl : [.emitted, .kw] ⊆ fr)
    (hz : Frame fr z s) : Frame fr z (answerSideband d s) := by
  unfold answerSideband
  try dsimp only
  repeat' first
    | (with_reducible first
        | exact hz | assumption | apply State.emit_frame | apply serveSideband_frame | apply Frame.fold)
    | split | exact List.Subset.trans (by decide) hl | intro _

theorem sqDoorbell_frame {fr : List Chapter} {z : State} (n : Nat) (v : Word) (s : State)
    (hl : [.emitted, .kw, .fab] ⊆ fr) (hz : Frame fr z s) : Frame fr z (sqDoorbell n v s) := by
  unfold sqDoorbell
  try dsimp only
  repeat' first
    | (with_reducible first
        | exact hz | assumption | apply ringError_frame | apply modTen_frame | apply Frame.fold)
    | split | exact List.Subset.trans (by decide) hl | intro _

theorem cqDoorbell_frame {fr : List Chapter} {z : State} (n : Nat) (v : Word) (s : State)
    (hl : [.emitted, .kw, .fab] ⊆ fr) (hz : Frame fr z s) : Frame fr z (cqDoorbell n v s) := by
  unfold cqDoorbell
  try dsimp only
  repeat' first
    | (with_reducible first
        | exact hz | assumption | apply ringError_frame | apply modTen_frame | apply msixSend_frame | apply Frame.fold)
    | split | exact List.Subset.trans (by decide) hl | intro _

theorem enableRing_frame {fr : List Chapter} {z : State} (n : Nat) (s : State) (hl : [.emitted, .host, .kw, .fab] ⊆ fr)
    (hz : Frame fr z s) : Frame fr z (enableRing n s) := by
  unfold enableRing
  try dsimp only
  repeat' first
    | (with_reducible first
        | exact hz | assumption | apply setStatus_frame | apply deliverMany_frame | apply modTen_frame
        | apply Frame.fold)
    | split | exact List.Subset.trans (by decide) hl | intro _

theorem writeCoal_frame {fr : List Chapter} {z : State} (n : Nat) (v : Word) (s : State) (hl : [.emitted, .kw] ⊆ fr)
    (hz : Frame fr z s) : Frame fr z (writeCoal n v s) := by
  unfold writeCoal
  try dsimp only
  repeat' first
    | (with_reducible first
        | exact hz | assumption | apply modTen_frame | apply msixSend_frame | apply Frame.fold)
    | split | exact List.Subset.trans (by decide) hl | intro _

theorem flushPending_frame {fr : List Chapter} {z : State} (n : Nat) (v : Nat) (s : State) (hl : [.emitted, .kw] ⊆ fr)
    (hz : Frame fr z s) : Frame fr z (flushPending n v s) := by
  unfold flushPending
  try dsimp only
  repeat' first
    | (with_reducible first
        | exact hz | assumption | apply State.emit_frame | apply modTen_frame | apply Frame.fold)
    | split | exact List.Subset.trans (by decide) hl | intro _

theorem unmask_frame {fr : List Chapter} {z : State} (n : Nat) (v : Nat) (s : State) (hl : [.emitted, .kw] ⊆ fr)
    (hz : Frame fr z s) : Frame fr z (unmask n v s) := by
  unfold unmask
  try dsimp only
  repeat' first
    | (with_reducible first
        | exact hz | assumption | apply flushPending_frame | apply modTen_frame | apply Frame.fold)
    | split | exact List.Subset.trans (by decide) hl | intro _

theorem functionReset_frame {fr : List Chapter} {z : State} (n : Nat) (s : State) (hl : [.emitted, .host, .kw, .fab] ⊆ fr)
    (hz : Frame fr z s) : Frame fr z (functionReset n s) := by
  unfold functionReset
  try dsimp only
  repeat' first
    | (with_reducible first
        | exact hz | assumption | apply disableRing_frame | apply modTen_frame | apply Frame.fold)
    | split | exact List.Subset.trans (by decide) hl | intro _

theorem loseLink_frame {fr : List Chapter} {z : State} (l : List Nat) (s : State) (hl : [.emitted, .host, .kw, .fab] ⊆ fr)
    (hz : Frame fr z s) : Frame fr z (loseLink l s) := by
  fun_induction loseLink l s
  all_goals try dsimp only
  repeat' first
    | (with_reducible first
        | exact hz | apply_assumption | assumption | apply disableRing_frame | apply setStatus_frame
        | apply Frame.fold)
    | split | exact List.Subset.trans (by decide) hl | intro _

theorem linkLoss_frame {fr : List Chapter} {z : State} (s : State) (hl : [.emitted, .host, .kw, .fab, .flt] ⊆ fr)
    (hz : Frame fr z s) : Frame fr z (linkLoss s) := by
  unfold linkLoss
  try dsimp only
  repeat' first
    | (with_reducible first
        | exact hz | assumption | apply State.setKw_frame | apply loseLink_frame | apply logFault_frame
        | apply Frame.fold)
    | split | exact List.Subset.trans (by decide) hl | intro _

theorem signalReturn_frame {fr : List Chapter} {z : State} (l : List Nat) (s : State) (hl : [.emitted, .kw] ⊆ fr)
    (hz : Frame fr z s) : Frame fr z (signalReturn l s) := by
  fun_induction signalReturn l s
  all_goals try dsimp only
  repeat' first
    | (with_reducible first
        | exact hz | apply_assumption | assumption | apply msixSend_frame | apply Frame.fold)
    | split | exact List.Subset.trans (by decide) hl | intro _

theorem removeTenants_frame {fr : List Chapter} {z : State} (l : List Nat) (s : State)
    (hl : [.emitted, .host, .pos, .led, .kw, .pln, .fab, .draw, .asy, .hm, .rcp, .flt] ⊆ fr) (hz : Frame fr z s) :
    Frame fr z (removeTenants l s) := by
  fun_induction removeTenants l s
  all_goals try dsimp only
  repeat' first
    | (with_reducible first
        | exact hz | apply_assumption | assumption | apply releaseWhere_frame | apply State.setDraw_frame
        | apply functionReset_frame | apply Frame.fold)
    | split | exact List.Subset.trans (by decide) hl | intro _

theorem writeRows_frame {fr : List Chapter} {z : State} (lost : Option Nat) (p : Place) (len : Nat) (offs : List Nat)
    (b : Bytes) (s : State) (hl : [.host, .draw] ⊆ fr) (hz : Frame fr z s) :
    Frame fr z (writeRows lost p len offs b s) := by
  fun_induction writeRows lost p len offs b s
  all_goals try dsimp only
  repeat' first
    | (with_reducible first
        | exact hz | apply_assumption | assumption | apply writePlaceBut_frame | apply Frame.fold)
    | split | exact List.Subset.trans (by decide) hl | intro _

theorem openCycle_frame {fr : List Chapter} {z : State} (ingot : Bool) (bank : Nat) (s : State) (hl : [.draw] ⊆ fr)
    (hz : Frame fr z s) : Frame fr z (openCycle ingot bank s) := by
  unfold openCycle
  try dsimp only
  repeat' first
    | (with_reducible first
        | exact hz | assumption | apply State.setDraw_frame | apply Frame.fold)
    | split | exact List.Subset.trans (by decide) hl | intro _

theorem payGrant_frame {fr : List Chapter} {z : State} (r : MemReq) (s : State) (hl : [.draw] ⊆ fr) (hz : Frame fr z s) :
    Frame fr z (payGrant r s) := by
  unfold payGrant
  try dsimp only
  repeat' first
    | (with_reducible first
        | exact hz | assumption | apply State.setDraw_frame | apply Frame.fold)
    | split | exact List.Subset.trans (by decide) hl | intro _

theorem corrected_frame {fr : List Chapter} {z : State} (ingot : Bool) (bank : Nat) (s : State) (hl : [.draw] ⊆ fr)
    (hz : Frame fr z s) : Frame fr z (corrected ingot bank s) := by
  unfold corrected
  try dsimp only
  repeat' first
    | (with_reducible first
        | exact hz | assumption | apply modDram_frame | apply State.setDraw_frame | apply Frame.fold)
    | split | exact List.Subset.trans (by decide) hl | intro _

theorem consumePoison_frame {fr : List Chapter} {z : State} (i : MemIssuer) (a : Nat) (s : State)
    (hl : [.emitted, .host, .pos, .led, .kw, .lanes, .pln, .fab, .draw, .asy, .hm, .dio, .rcp, .flt, .boot] ⊆ fr)
    (hz : Frame fr z s) : Frame fr z (consumePoison i a s) := by
  unfold consumePoison
  try dsimp only
  repeat' first
    | (with_reducible first
        | exact hz | assumption | apply privateFault_frame | apply poisonSlots_frame | apply Frame.fold)
    | split | exact List.Subset.trans (by decide) hl | intro _

theorem touchBurst_frame {fr : List Chapter} {z : State} (r : MemReq) (s : State)
    (hl : [.emitted, .host, .pos, .led, .kw, .lanes, .pln, .fab, .draw, .asy, .hm, .dio, .rcp, .flt, .boot] ⊆ fr)
    (hz : Frame fr z s) : Frame fr z (touchBurst r s) := by
  unfold touchBurst
  try dsimp only
  repeat' first
    | (with_reducible first
        | exact hz | assumption | apply State.setDraw_frame | apply consumePoison_frame | apply eccUnc_frame
        | apply Frame.fold)
    | split | exact List.Subset.trans (by decide) hl | intro _

theorem grant_frame {fr : List Chapter} {z : State} (r : MemReq) (slack : Bool) (singleBit : Bool) (s : State)
    (hl : [.emitted, .host, .pos, .led, .kw, .lanes, .pln, .fab, .draw, .asy, .hm, .dio, .rcp, .flt, .boot] ⊆ fr)
    (hz : Frame fr z s) : Frame fr z (grant r slack singleBit s) := by
  unfold grant
  try dsimp only
  repeat' first
    | (with_reducible first
        | exact hz | assumption | apply payGrant_frame | apply State.setDraw_frame | apply touchBurst_frame
        | apply State.emit_frame | apply corrected_frame | apply Frame.fold)
    | split | exact List.Subset.trans (by decide) hl | intro _

theorem planishPoison_frame {fr : List Chapter} {z : State} (a : Long) (consumer : Nat) (s : State) (hl : [.pln] ⊆ fr)
    (hz : Frame fr z s) : Frame fr z (planishPoison a consumer s) := by
  unfold planishPoison
  try dsimp only
  repeat' first
    | (with_reducible first
        | exact hz | assumption | apply poisonSlots_frame | apply Frame.fold)
    | split | exact List.Subset.trans (by decide) hl | intro _

theorem doubleBit_frame {fr : List Chapter} {z : State} (a : Long) (consumer : Nat) (o : RetryOutcome) (injected : Bool)
    (s : State)
    (hl : [.emitted, .host, .pos, .led, .kw, .lanes, .pln, .fab, .draw, .asy, .hm, .dio, .rcp, .flt, .boot] ⊆ fr)
    (hz : Frame fr z s) : Frame fr z (doubleBit a consumer o injected s) := by
  unfold doubleBit
  try dsimp only
  repeat' first
    | (with_reducible first
        | exact hz | assumption | apply planishPoison_frame | apply eccUnc_frame | apply corrected_frame
        | apply upsetRetire_frame | apply Frame.fold)
    | split | exact List.Subset.trans (by decide) hl | intro _

theorem poisonBurst_frame {fr : List Chapter} {z : State} (a : Long) (s : State)
    (hl : [.emitted, .host, .pos, .led, .kw, .pln, .fab, .draw, .asy, .hm, .rcp, .flt, .boot] ⊆ fr) (hz : Frame fr z s) :
    Frame fr z (poisonBurst a s) := by
  unfold poisonBurst
  try dsimp only
  repeat' first
    | (with_reducible first
        | exact hz | assumption | apply modDram_frame | apply retireDram_frame | apply Frame.fold)
    | split | exact List.Subset.trans (by decide) hl | intro _

theorem timeout_frame {fr : List Chapter} {z : State} (a : Long) (consumer : Nat) (write : Bool) (o : RetryOutcome)
    (s : State)
    (hl : [.emitted, .host, .pos, .led, .kw, .lanes, .pln, .fab, .draw, .asy, .hm, .dio, .rcp, .flt, .boot] ⊆ fr)
    (hz : Frame fr z s) : Frame fr z (timeout a consumer write o s) := by
  unfold timeout
  try dsimp only
  repeat' first
    | (with_reducible first
        | exact hz | assumption | apply planishPoison_frame | apply eccUnc_frame | apply poisonBurst_frame
        | apply corrected_frame | apply upsetRetire_frame | apply Frame.fold)
    | split | exact List.Subset.trans (by decide) hl | intro _

theorem disableLanes_frame {fr : List Chapter} {z : State} (l : List Nat) (s : State)
    (hl : [.emitted, .host, .kw, .lanes, .pln, .fab, .flt] ⊆ fr) (hz : Frame fr z s) : Frame fr z (disableLanes l s) := by
  fun_induction disableLanes l s
  all_goals try dsimp only
  repeat' first
    | (with_reducible first
        | exact hz | apply_assumption | assumption | apply stopLane_frame | apply Frame.fold)
    | split | exact List.Subset.trans (by decide) hl | intro _

theorem enterFatal_frame {fr : List Chapter} {z : State} (how : Nat) (s : State)
    (hl : [.emitted, .host, .led, .kw, .lanes, .pln, .fab, .draw, .hm, .dio, .flt] ⊆ fr) (hz : Frame fr z s) :
    Frame fr z (enterFatal how s) := by
  unfold enterFatal
  try dsimp only
  repeat' first
    | (with_reducible first
        | exact hz | assumption | apply causeReset_frame | apply State.setFlt_frame | apply disableLanes_frame
        | apply logFault_frame | apply Frame.fold)
    | split | exact List.Subset.trans (by decide) hl | intro _

theorem journalLost_frame {fr : List Chapter} {z : State} (s : State)
    (hl : [.emitted, .host, .led, .kw, .lanes, .pln, .fab, .draw, .hm, .dio, .flt] ⊆ fr) (hz : Frame fr z s) :
    Frame fr z (journalLost s) := by
  unfold journalLost
  try dsimp only
  repeat' first
    | (with_reducible first
        | exact hz | assumption | apply enterFatal_frame | apply equivLost_frame | apply Frame.fold)
    | split | exact List.Subset.trans (by decide) hl | intro _

theorem beginRestart_frame {fr : List Chapter} {z : State} (how : Nat) (injected : Bool) (s : State)
    (hl : [.led, .fab, .draw, .hm, .rcp, .flt] ⊆ fr) (hz : Frame fr z s) : Frame fr z (beginRestart how injected s) := by
  unfold beginRestart
  try dsimp only
  repeat' first
    | (with_reducible first
        | exact hz | assumption | apply supersede_frame | apply upset_frame | apply chipLose_frame
        | apply State.setFlt_frame | apply Frame.fold)
    | split | exact List.Subset.trans (by decide) hl | intro _

theorem ctrlFault_frame {fr : List Chapter} {z : State} (lockstep : Bool) (injected : Bool) (s : State)
    (hl : [.emitted, .host, .led, .kw, .lanes, .pln, .fab, .draw, .hm, .dio, .rcp, .flt] ⊆ fr) (hz : Frame fr z s) :
    Frame fr z (ctrlFault lockstep injected s) := by
  unfold ctrlFault
  try dsimp only
  repeat' first
    | (with_reducible first
        | exact hz | assumption | apply beginRestart_frame | apply enterFatal_frame | apply Frame.fold)
    | split | exact List.Subset.trans (by decide) hl | intro _

theorem flushReplies_frame {fr : List Chapter} {z : State} (l : List WaitingReply) (s : State)
    (hl : [.emitted, .host, .kw, .fab] ⊆ fr) (hz : Frame fr z s) : Frame fr z (flushReplies l s) := by
  fun_induction flushReplies l s
  all_goals try dsimp only
  repeat' first
    | (with_reducible first
        | exact hz | apply_assumption | assumption | apply deliver_frame | apply Frame.fold)
    | split | exact List.Subset.trans (by decide) hl | intro _

theorem reexecute_frame {fr : List Chapter} {z : State} (p : Packet) (s : State) (hl : [.emitted, .host, .kw, .fab] ⊆ fr)
    (hz : Frame fr z s) : Frame fr z (reexecute p s) := by
  unfold reexecute
  try dsimp only
  repeat' first
    | (with_reducible first
        | exact hz | assumption | apply dropP_frame | apply State.setFab_frame | apply tenantReply_frame
        | apply addPacket_frame | apply Frame.fold)
    | split | exact List.Subset.trans (by decide) hl | intro _

theorem resumeAll_frame {fr : List Chapter} {z : State} (l : List Packet) (n : Nat × Nat) (s : State) (hl : [.emitted, .host, .kw, .fab] ⊆ fr) (hz : Frame fr z s) :
    Frame fr z (resumeAll l n s).2 := by
  induction l generalizing n s with
  | nil => exact hz
  | cons p r ih =>
    unfold resumeAll
    split
    · exact ih _ _ (reexecute_frame _ _ (List.Subset.trans (by decide) hl) hz)
    · exact ih _ _ (cancelP_frame _ _ _ _ (List.Subset.trans (by decide) hl) hz)

theorem restartDone_frame {fr : List Chapter} {z : State} (s : State)
    (hl : [.emitted, .host, .pos, .led, .kw, .lanes, .pln, .fab, .draw, .asy, .hm, .dio, .rcp, .flt, .boot] ⊆ fr)
    (hz : Frame fr z s) : Frame fr z (restartDone s) := by
  unfold restartDone
  try dsimp only
  repeat' first
    | (with_reducible first
        | exact hz | assumption | apply State.setKw_frame | apply State.setFlt_frame | apply resumeAll_frame
        | apply flushReplies_frame | apply logFault_frame | apply settleRetirements_frame | apply noticeUnit_frame
        | apply Frame.fold)
    | split | exact List.Subset.trans (by decide) hl | intro _

theorem mgmtRestarts_frame {fr : List Chapter} {z : State} (s : State) (hl : [.flt, .pwr] ⊆ fr) (hz : Frame fr z s) :
    Frame fr z (mgmtRestarts s) := by
  unfold mgmtRestarts
  try dsimp only
  repeat' first
    | (with_reducible first
        | exact hz | assumption | apply supersede_frame | apply upset_frame | apply State.setPwr_frame
        | apply Frame.fold)
    | split | exact List.Subset.trans (by decide) hl | intro _

theorem inject_frame {fr : List Chapter} {z : State} (x : Injection) (s : State)
    (hl : [.emitted, .host, .pos, .led, .kw, .lanes, .pln, .fab, .draw, .asy, .hm, .dio, .rcp, .flt, .boot] ⊆ fr) (hz : Frame fr z s) :
    ∀ t, inject x s = some t → Frame fr z t := by
  have yes : ∀ (o : Option Nat) (f : Nat → State), (∀ b, Frame fr z (f b)) → ∀ t, o.map f = some t → Frame fr z t := by
    intro o f hf t ht
    obtain ⟨b, -, rfl⟩ := Option.map_eq_some_iff.1 ht
    exact hf b
  have no : ∀ t, (none : Option State) = some t → Frame fr z t := fun t ht => nomatch ht
  have one : ∀ u, Frame fr z u → ∀ t, some u = some t → Frame fr z t := fun u hu t ht => Option.some.inj ht ▸ hu
  unfold inject
  split
  · exact yes _ _ fun b => privateFault_frame _ _ _ _ _ (List.Subset.trans (by decide) hl) hz
  · split
    · exact one _ (doubleBit_frame _ _ _ _ _ (List.Subset.trans (by decide) hl) hz)
    · exact no
  · split
    · exact one _ (frameError_frame _ _ _ _ (List.Subset.trans (by decide) hl) hz)
    · exact no
  · split
    · exact no
    · exact one _ (privateFault_frame _ _ _ _ _ (List.Subset.trans (by decide) hl) hz)
  · split
    · exact one _ (chipFault_frame _ _ _ (List.Subset.trans (by decide) hl) hz)
    · exact no
  · split
    · exact one _ (ctrlFault_frame _ _ _ (List.Subset.trans (by decide) hl) hz)
    · exact no
  · split
    · split
      · exact no
      · exact one _ (rtLost_frame _ _ (List.Subset.trans (by decide) hl) (asyFault_frame _ _ _ _ _ (List.Subset.trans (by decide) hl) (State.setAsy_frame _ _ (List.Subset.trans (by decide) hl) hz)))
    · intro t ht
      obtain ⟨b, -, rfl⟩ := Option.map_eq_some_iff.1 ht
      exact asyFail_frame _ _ _ _ _ _ (List.Subset.trans (by decide) hl) hz
  · exact one _ (State.setFlt_frame _ _ (List.Subset.trans (by decide) hl) hz)

theorem logFlash_frame {fr : List Chapter} {z : State} (how : Nat) (inst : Nat) (s : State) (hl : [.flt] ⊆ fr)
    (hz : Frame fr z s) : Frame fr z (logFlash how inst s) := by
  unfold logFlash
  try dsimp only
  repeat' first
    | (with_reducible first
        | exact hz | assumption | apply upset_frame | apply Frame.fold)
    | split | exact List.Subset.trans (by decide) hl | intro _

theorem putInForce_frame {fr : List Chapter} {z : State} (place : Nat × Nat) (x : Rec) (s : State) (hl : [.boot] ⊆ fr)
    (hz : Frame fr z s) : Frame fr z (putInForce place x s) := by
  unfold putInForce
  try dsimp only
  repeat' first
    | (with_reducible first
        | exact hz | assumption | apply State.setBoot_frame | apply Frame.fold)
    | split | exact List.Subset.trans (by decide) hl | intro _

theorem readRecord_frame {fr : List Chapter} {z : State} (s : State) (hl : [.flt, .boot] ⊆ fr) (hz : Frame fr z s) :
    Frame fr z (readRecord s) := by
  unfold readRecord
  try dsimp only
  repeat' first
    | (with_reducible first
        | exact hz | assumption | apply State.setBoot_frame | apply wantRecord_frame | apply logFlash_frame
        | apply putInForce_frame | apply Frame.fold)
    | split | exact List.Subset.trans (by decide) hl | intro _

theorem eraseAhead_frame {fr : List Chapter} {z : State} (s : State) (hl : [.boot] ⊆ fr) (hz : Frame fr z s) :
    Frame fr z (eraseAhead s) := by
  unfold eraseAhead
  try dsimp only
  repeat' first
    | (with_reducible first
        | exact hz | assumption | apply State.setBoot_frame | apply Frame.fold)
    | split | exact List.Subset.trans (by decide) hl | intro _

theorem settleDegraded_frame {fr : List Chapter} {z : State} (bank : Nat) (s : State)
    (hl : [.emitted, .host, .kw, .fab, .flt, .boot] ⊆ fr) (hz : Frame fr z s) : Frame fr z (settleDegraded bank s) := by
  unfold settleDegraded
  try dsimp only
  repeat' first
    | (with_reducible first
        | exact hz | assumption | apply noticeUnit_frame | apply State.setBoot_frame | apply Frame.fold)
    | split | exact List.Subset.trans (by decide) hl | intro _

theorem retireSector_frame {fr : List Chapter} {z : State} (k : Nat) (s : State)
    (hl : [.emitted, .host, .kw, .fab, .flt, .boot] ⊆ fr) (hz : Frame fr z s) : Frame fr z (retireSector k s) := by
  unfold retireSector
  try dsimp only
  repeat' first
    | (with_reducible first
        | exact hz | assumption | apply settleDegraded_frame | apply wantRecord_frame | apply State.setBoot_frame
        | apply Frame.fold)
    | split | exact List.Subset.trans (by decide) hl | intro _

theorem retireSectors_frame {fr : List Chapter} {z : State} (l : List Nat) (s : State)
    (hl : [.emitted, .host, .kw, .fab, .flt, .boot] ⊆ fr) (hz : Frame fr z s) : Frame fr z (retireSectors l s) := by
  fun_induction retireSectors l s
  all_goals try dsimp only
  repeat' first
    | (with_reducible first
        | exact hz | apply_assumption | assumption | apply retireSector_frame | apply Frame.fold)
    | split | exact List.Subset.trans (by decide) hl | intro _

theorem pageUsed_frame {fr : List Chapter} {z : State} (bank : Nat) (page : Nat) (s : State) (hl : [.boot] ⊆ fr)
    (hz : Frame fr z s) : Frame fr z (pageUsed bank page s) := by
  unfold pageUsed
  try dsimp only
  repeat' first
    | (with_reducible first
        | exact hz | assumption | apply State.setBoot_frame | apply Frame.fold)
    | split | exact List.Subset.trans (by decide) hl | intro _

theorem eraseDone_frame {fr : List Chapter} {z : State} (k : Nat) (good : Bool) (s : State)
    (hl : [.emitted, .host, .kw, .fab, .flt, .boot] ⊆ fr) (hz : Frame fr z s) : Frame fr z (eraseDone k good s) := by
  unfold eraseDone
  try dsimp only
  repeat' first
    | (with_reducible first
        | exact hz | assumption | apply State.setBoot_frame | apply eraseAhead_frame | apply retireSector_frame
        | apply Frame.fold)
    | split | exact List.Subset.trans (by decide) hl | intro _

theorem startWrite_frame {fr : List Chapter} {z : State} (cause : Nat) (s : State) (hl : [.boot] ⊆ fr) (hz : Frame fr z s) :
    Frame fr z (startWrite cause s) := by
  unfold startWrite
  try dsimp only
  repeat' first
    | (with_reducible first
        | exact hz | assumption | apply State.setBoot_frame | apply Frame.fold)
    | split | exact List.Subset.trans (by decide) hl | intro _

theorem commitRecord_frame {fr : List Chapter} {z : State} (w : RecWrite) (s : State)
    (hl : [.emitted, .host, .kw, .fab, .flt, .boot] ⊆ fr) (hz : Frame fr z s) : Frame fr z (commitRecord w s) := by
  unfold commitRecord
  try dsimp only
  repeat' first
    | (with_reducible first
        | exact hz | assumption | apply State.setBoot_frame | apply eraseAhead_frame | apply retireSectors_frame
        | apply putInForce_frame | apply Frame.fold)
    | split | exact List.Subset.trans (by decide) hl | intro _

theorem giveUpWrite_frame {fr : List Chapter} {z : State} (w : RecWrite) (s : State)
    (hl : [.emitted, .host, .kw, .fab, .flt, .boot] ⊆ fr) (hz : Frame fr z s) : Frame fr z (giveUpWrite w s) := by
  unfold giveUpWrite
  try dsimp only
  repeat' first
    | (with_reducible first
        | exact hz | assumption | apply eraseAhead_frame | apply retireSectors_frame | apply wantRecord_frame
        | apply State.setBoot_frame | apply Frame.fold)
    | split | exact List.Subset.trans (by decide) hl | intro _

theorem pageFailed_frame {fr : List Chapter} {z : State} (w : RecWrite) (s : State)
    (hl : [.emitted, .host, .kw, .fab, .flt, .boot] ⊆ fr) (hz : Frame fr z s) : Frame fr z (pageFailed w s) := by
  unfold pageFailed
  try dsimp only
  repeat' first
    | (with_reducible first
        | exact hz | assumption | apply logFlash_frame | apply State.setBoot_frame | apply giveUpWrite_frame
        | apply Frame.fold)
    | split | exact List.Subset.trans (by decide) hl | intro _

theorem pageDone_frame {fr : List Chapter} {z : State} (w : RecWrite) (verifyOk : Bool) (s : State)
    (hl : [.emitted, .host, .kw, .fab, .flt, .boot] ⊆ fr) (hz : Frame fr z s) : Frame fr z (pageDone w verifyOk s) := by
  unfold pageDone
  try dsimp only
  repeat' first
    | (with_reducible first
        | exact hz | assumption | apply pageUsed_frame | apply State.setBoot_frame | apply giveUpWrite_frame
        | apply commitRecord_frame | apply pageFailed_frame | apply Frame.fold)
    | split | exact List.Subset.trans (by decide) hl | intro _

theorem romWrite_frame {fr : List Chapter} {z : State} (cause : Nat) (s : State)
    (hl : [.emitted, .host, .kw, .fab, .flt, .boot] ⊆ fr) (hz : Frame fr z s) : Frame fr z (romWrite cause s) := by
  unfold romWrite
  try dsimp only
  repeat' first
    | (with_reducible first
        | exact hz | assumption | apply wantRecord_frame | apply startWrite_frame | apply pageDone_frame
        | apply Frame.fold)
    | split | exact List.Subset.trans (by decide) hl | intro _

theorem closeWrites_frame {fr : List Chapter} {z : State} (s : State) (hl : [.boot] ⊆ fr) (hz : Frame fr z s) :
    Frame fr z (closeWrites s) := by
  unfold closeWrites
  try dsimp only
  repeat' first
    | (with_reducible first
        | exact hz | assumption | apply State.setBoot_frame | apply Frame.fold)
    | split | exact List.Subset.trans (by decide) hl | intro _

theorem openWrites_frame {fr : List Chapter} {z : State} (s : State) (hl : [.boot] ⊆ fr) (hz : Frame fr z s) :
    Frame fr z (openWrites s) := by
  unfold openWrites
  try dsimp only
  repeat' first
    | (with_reducible first
        | exact hz | assumption | apply State.setBoot_frame | apply Frame.fold)
    | split | exact List.Subset.trans (by decide) hl | intro _

theorem tearWrites_frame {fr : List Chapter} {z : State} (s : State) (hl : [.boot] ⊆ fr) (hz : Frame fr z s) :
    Frame fr z (tearWrites s) := by
  unfold tearWrites
  try dsimp only
  repeat' first
    | (with_reducible first
        | exact hz | assumption | apply pageUsed_frame | apply State.setBoot_frame | apply Frame.fold)
    | split | exact List.Subset.trans (by decide) hl | intro _

theorem keeperSample_frame {fr : List Chapter} {z : State} (ab : Bool × Bool) (s : State) (hl : [.pos, .boot] ⊆ fr)
    (hz : Frame fr z s) : Frame fr z (keeperSample ab s) := by
  unfold keeperSample
  try dsimp only
  repeat' first
    | (with_reducible first
        | exact hz | assumption | apply State.setBoot_frame | apply keeperInvalidate_frame | apply Frame.fold)
    | split | exact List.Subset.trans (by decide) hl | intro _

theorem keeperHandover_frame {fr : List Chapter} {z : State} (s : State) (hl : [.boot] ⊆ fr) (hz : Frame fr z s) :
    Frame fr z (keeperHandover s) := by
  unfold keeperHandover
  try dsimp only
  repeat' first
    | (with_reducible first
        | exact hz | assumption | apply State.setBoot_frame | apply Frame.fold)
    | split | exact List.Subset.trans (by decide) hl | intro _

theorem settleClocks_frame {fr : List Chapter} {z : State} (s : State) (hl : [.pwr] ⊆ fr) (hz : Frame fr z s) :
    Frame fr z (settleClocks s) := by
  unfold settleClocks
  try dsimp only
  repeat' first
    | (with_reducible first
        | exact hz | assumption | apply State.setPwr_frame | apply Frame.fold)
    | split | exact List.Subset.trans (by decide) hl | intro _

theorem setDom_frame {fr : List Chapter} {z : State} (code : Nat) (on : Bool) (s : State) (hl : [.pwr] ⊆ fr)
    (hz : Frame fr z s) : Frame fr z (setDom code on s) := by
  unfold setDom
  try dsimp only
  repeat' first
    | (with_reducible first
        | exact hz | assumption | apply settleClocks_frame | apply State.setPwr_frame | apply Frame.fold)
    | split | exact List.Subset.trans (by decide) hl | intro _

theorem setDoms_frame {fr : List Chapter} {z : State} (l : List Nat) (on : Bool) (s : State) (hl : [.pwr] ⊆ fr)
    (hz : Frame fr z s) : Frame fr z (setDoms l on s) := by
  fun_induction setDoms l on s
  all_goals try dsimp only
  repeat' first
    | (with_reducible first
        | exact hz | apply_assumption | assumption | apply setDom_frame | apply Frame.fold)
    | split | exact List.Subset.trans (by decide) hl | intro _

theorem resetState_frame {fr : List Chapter} {z : State} (kind cause : Nat) (s : State) (hl : [.pos, .led, .kw, .lanes, .pln, .fab, .draw, .asy, .hm, .dio, .rcp, .flt, .pwr, .boot] ⊆ fr) (hz : Frame fr z s) :
    Frame fr z (resetState kind cause s) := by
  unfold resetState
  dsimp only
  apply settleClocks_frame _ (List.Subset.trans (by decide) hl)
  refine hz.trans' fun p hp => ?_
  cases p <;> first | rfl | exact absurd (hl (by decide)) hp

theorem stopKeepalives_frame {fr : List Chapter} {z : State} (l : List Nat) (s : State) (hl : [.emitted, .dio] ⊆ fr)
    (hz : Frame fr z s) : Frame fr z (stopKeepalives l s) := by
  fun_induction stopKeepalives l s
  all_goals try dsimp only
  repeat' first
    | (with_reducible first
        | exact hz | apply_assumption | assumption | apply State.emit_frame | apply modChan_frame | apply Frame.fold)
    | split | exact List.Subset.trans (by decide) hl | intro _

theorem resetCore_frame {fr : List Chapter} {z : State} (kind : Nat) (cause : Nat) (s : State)
    (hl : [.emitted, .pos, .led, .kw, .lanes, .pln, .fab, .draw, .asy, .hm, .dio, .rcp, .flt, .pwr, .boot] ⊆ fr)
    (hz : Frame fr z s) : Frame fr z (resetCore kind cause s) := by
  unfold resetCore
  try dsimp only
  repeat' first
    | (with_reducible first
        | exact hz | assumption | apply stopKeepalives_frame | apply tearWrites_frame | apply resetState_frame
        | apply keeperHandover_frame | apply Frame.fold)
    | split | exact List.Subset.trans (by decide) hl | intro _

theorem unitReset_frame {fr : List Chapter} {z : State} (kind : Nat) (cause : Nat) (s : State)
    (hl : [.emitted, .host, .pos, .led, .kw, .lanes, .pln, .fab, .draw, .asy, .hm, .dio, .rcp, .flt, .pwr, .boot] ⊆ fr)
    (hz : Frame fr z s) : Frame fr z (unitReset kind cause s) := by
  unfold unitReset
  try dsimp only
  repeat' first
    | (with_reducible first
        | exact hz | assumption | apply resetCore_frame | apply causeReset_frame | apply State.setFlt_frame
        | apply Frame.fold)
    | split | exact List.Subset.trans (by decide) hl | intro _

theorem faultReset_frame {fr : List Chapter} {z : State} (how : Nat) (cause : Nat) (s : State)
    (hl : [.emitted, .host, .pos, .led, .kw, .lanes, .pln, .fab, .draw, .asy, .hm, .dio, .rcp, .flt, .pwr, .boot] ⊆ fr)
    (hz : Frame fr z s) : Frame fr z (faultReset how cause s) := by
  unfold faultReset
  try dsimp only
  repeat' first
    | (with_reducible first
        | exact hz | assumption | apply resetCore_frame | apply upset_frame | apply causeReset_frame
        | apply Frame.fold)
    | split | exact List.Subset.trans (by decide) hl | intro _

theorem beginStart_frame {fr : List Chapter} {z : State} (s : State) (hl : [.pwr, .boot] ⊆ fr) (hz : Frame fr z s) :
    Frame fr z (beginStart s) := by
  unfold beginStart
  try dsimp only
  repeat' first
    | (with_reducible first
        | exact hz | assumption | apply setDom_frame | apply State.setBoot_frame | apply Frame.fold)
    | split | exact List.Subset.trans (by decide) hl | intro _

theorem applyRetired_frame {fr : List Chapter} {z : State} (x : Rec) (s : State) (hl : [.lanes, .fab, .draw, .dio] ⊆ fr)
    (hz : Frame fr z s) : Frame fr z (applyRetired x s) := by
  unfold applyRetired
  try dsimp only
  repeat' first
    | (with_reducible first
        | exact hz | assumption | apply State.setLanes_frame | apply State.setDraw_frame | apply State.setDio_frame
        | apply closeFeeds_frame | apply State.setFab_frame | apply Frame.fold)
    | split | exact List.Subset.trans (by decide) hl | intro _

theorem applyPtb_frame {fr : List Chapter} {z : State} (x : Rec) (s : State) (hl : [.pos] ⊆ fr) (hz : Frame fr z s) :
    Frame fr z (applyPtb x s) := by
  unfold applyPtb
  try dsimp only
  repeat' first
    | (with_reducible first
        | exact hz | assumption | apply State.setPos_frame | apply Frame.fold)
    | split | exact List.Subset.trans (by decide) hl | intro _

theorem applySideband_frame {fr : List Chapter} {z : State} (x : Rec) (s : State) (hl : [.kw] ⊆ fr) (hz : Frame fr z s) :
    Frame fr z (applySideband x s) := by
  unfold applySideband
  try dsimp only
  repeat' first
    | (with_reducible first
        | exact hz | assumption | apply State.setKw_frame | apply Frame.fold)
    | split | exact List.Subset.trans (by decide) hl | intro _

theorem applyRecord_frame {fr : List Chapter} {z : State} (s : State)
    (hl : [.pos, .kw, .lanes, .fab, .draw, .dio, .flt, .pwr] ⊆ fr) (hz : Frame fr z s) : Frame fr z (applyRecord s) := by
  unfold applyRecord
  try dsimp only
  repeat' first
    | (with_reducible first
        | exact hz | assumption | apply applySideband_frame | apply applyPtb_frame | apply applyRetired_frame
        | apply State.setKw_frame | apply State.setPwr_frame | apply State.setFlt_frame | apply Frame.fold)
    | split | exact List.Subset.trans (by decide) hl | intro _

theorem recallDegraded_frame {fr : List Chapter} {z : State} (s : State) (hl : [.boot] ⊆ fr) (hz : Frame fr z s) :
    Frame fr z (recallDegraded s) := by
  unfold recallDegraded
  try dsimp only
  repeat' first
    | (with_reducible first
        | exact hz | assumption | apply State.setBoot_frame | apply Frame.fold)
    | split | exact List.Subset.trans (by decide) hl | intro _

theorem stepRecord_frame {fr : List Chapter} {z : State} (s : State)
    (hl : [.pos, .kw, .lanes, .fab, .draw, .dio, .flt, .pwr, .boot] ⊆ fr) (hz : Frame fr z s) :
    Frame fr z (stepRecord s) := by
  unfold stepRecord
  try dsimp only
  repeat' first
    | (with_reducible first
        | exact hz | assumption | apply applyRecord_frame | apply readRecord_frame | apply eraseAhead_frame
        | apply recallDegraded_frame | apply State.setPwr_frame | apply Frame.fold)
    | split | exact List.Subset.trans (by decide) hl | intro _

theorem recovery_frame {fr : List Chapter} {z : State} (s : State) (hl : [.boot] ⊆ fr) (hz : Frame fr z s) :
    Frame fr z (recovery s) := by
  unfold recovery
  try dsimp only
  repeat' first
    | (with_reducible first
        | exact hz | assumption | apply State.setBoot_frame | apply Frame.fold)
    | split | exact List.Subset.trans (by decide) hl | intro _

theorem stepFirmware_frame {fr : List Chapter} {z : State} (r : StepReport) (s : State)
    (hl : [.emitted, .host, .kw, .fab, .flt, .boot] ⊆ fr) (hz : Frame fr z s) : Frame fr z (stepFirmware r s) := by
  unfold stepFirmware
  try dsimp only
  repeat' first
    | (with_reducible first
        | exact hz | assumption | apply recovery_frame | apply romWrite_frame | apply State.setBoot_frame
        | apply Frame.fold)
    | split | exact List.Subset.trans (by decide) hl | intro _

theorem anchorJump_frame {fr : List Chapter} {z : State} (s : State)
    (hl : [.emitted, .host, .pos, .kw, .lanes, .fab, .flt, .boot] ⊆ fr) (hz : Frame fr z s) :
    Frame fr z (anchorJump s) := by
  unfold anchorJump
  try dsimp only
  repeat' first
    | (with_reducible first
        | exact hz | assumption | apply anchorAt_frame | apply Frame.fold)
    | split | exact List.Subset.trans (by decide) hl | intro _

theorem anchorSsi_frame {fr : List Chapter} {z : State} (w : Word) (s : State)
    (hl : [.emitted, .host, .pos, .kw, .lanes, .fab, .flt, .boot] ⊆ fr) (hz : Frame fr z s) :
    Frame fr z (anchorSsi w s) := by
  unfold anchorSsi
  try dsimp only
  repeat' first
    | (with_reducible first
        | exact hz | assumption | apply anchorAt_frame | apply Frame.fold)
    | split | exact List.Subset.trans (by decide) hl | intro _

theorem stepAnchor_frame {fr : List Chapter} {z : State} (r : StepReport) (s : State)
    (hl : [.emitted, .host, .pos, .kw, .lanes, .fab, .flt, .boot] ⊆ fr) (hz : Frame fr z s) :
    Frame fr z (stepAnchor r s) := by
  unfold stepAnchor
  try dsimp only
  repeat' first
    | (with_reducible first
        | exact hz | assumption | apply State.setBoot_frame | apply anchorAt_frame | apply anchorSsi_frame
        | apply anchorJump_frame | apply Frame.fold)
    | split | exact List.Subset.trans (by decide) hl | intro _

theorem stepLog_frame {fr : List Chapter} {z : State} (s : State) (hl : [.emitted, .host, .kw, .fab, .flt, .boot] ⊆ fr)
    (hz : Frame fr z s) : Frame fr z (stepLog s) := by
  unfold stepLog
  try dsimp only
  repeat' first
    | (with_reducible first
        | exact hz | assumption | apply State.setFlt_frame | apply equivLost_frame | apply logFault_frame
        | apply State.setBoot_frame | apply Frame.fold)
    | split | exact List.Subset.trans (by decide) hl | intro _

theorem stepEach_frame {fr : List Chapter} {z : State} (f : Nat → State → State) (l : List Nat) (s : State) (hz : Frame fr z s)
    (hf : ∀ n s, Frame fr z s → Frame fr z (f n s)) : Frame fr z (stepEach f l s) := by
  induction l generalizing s with
  | nil => exact hz
  | cons c r ih => exact ih _ (hf _ _ hz)

theorem failDram_frame {fr : List Chapter} {z : State} (ch : Nat) (s : State)
    (hl : [.emitted, .host, .kw, .fab, .draw, .flt, .boot] ⊆ fr) (hz : Frame fr z s) : Frame fr z (failDram ch s) := by
  unfold failDram
  try dsimp only
  repeat' first
    | (with_reducible first
        | exact hz | assumption | apply noticeUnit_frame | apply logRetired_frame | apply wantRecord_frame
        | apply modDram_frame | apply Frame.fold)
    | split | exact List.Subset.trans (by decide) hl | intro _

theorem stepMem_frame {fr : List Chapter} {z : State} (r : StepReport) (s : State)
    (hl : [.emitted, .host, .led, .kw, .lanes, .pln, .fab, .draw, .hm, .dio, .flt, .boot] ⊆ fr) (hz : Frame fr z s) :
    Frame fr z (stepMem r s) := by
  unfold stepMem
  try dsimp only
  repeat' first
    | (with_reducible first
        | exact hz | assumption | apply stepEach_frame | apply failDram_frame | apply enterFatal_frame
        | apply Frame.fold)
    | split | exact List.Subset.trans (by decide) hl | intro _

theorem stepField_frame {fr : List Chapter} {z : State} (r : StepReport) (s : State)
    (hl : [.emitted, .host, .led, .kw, .fab, .draw, .hm, .dio, .flt, .boot] ⊆ fr) (hz : Frame fr z s) :
    Frame fr z (stepField r s) := by
  unfold stepField
  try dsimp only
  repeat' first
    | (with_reducible first
        | exact hz | assumption | apply State.setDio_frame | apply stepEach_frame | apply retireChannel_frame
        | apply settleOut_frame | apply Frame.fold)
    | split | exact List.Subset.trans (by decide) hl | intro _

theorem stepHost_frame {fr : List Chapter} {z : State} (r : StepReport) (s : State)
    (hl : [.emitted, .host, .kw, .fab, .flt] ⊆ fr) (hz : Frame fr z s) : Frame fr z (stepHost r s) := by
  unfold stepHost
  try dsimp only
  repeat' first
    | (with_reducible first
        | exact hz | assumption | apply State.setKw_frame | apply linkLoss_frame | apply Frame.fold)
    | split | exact List.Subset.trans (by decide) hl | intro _

theorem stepFabric_frame {fr : List Chapter} {z : State} (r : StepReport) (s : State)
    (hl : [.emitted, .host, .pos, .led, .kw, .pln, .fab, .draw, .asy, .hm, .rcp, .flt, .boot] ⊆ fr) (hz : Frame fr z s) :
    Frame fr z (stepFabric r s) := by
  unfold stepFabric
  try dsimp only
  repeat' first
    | (with_reducible first
        | exact hz | assumption | apply stepEach_frame | apply retireStake_frame | apply Frame.fold)
    | split | exact List.Subset.trans (by decide) hl | intro _

theorem stepLanes_frame {fr : List Chapter} {z : State} (r : StepReport) (s : State)
    (hl : [.emitted, .host, .led, .kw, .lanes, .pln, .fab, .flt, .boot] ⊆ fr) (hz : Frame fr z s) :
    Frame fr z (stepLanes r s) := by
  unfold stepLanes
  try dsimp only
  repeat' first
    | (with_reducible first
        | exact hz | assumption | apply stepEach_frame | apply retireLane_frame | apply State.setLed_frame
        | apply Frame.fold)
    | split | exact List.Subset.trans (by decide) hl | intro _

theorem stepDone_frame {fr : List Chapter} {z : State} (s : State) (hl : [.emitted, .host, .kw, .fab, .flt, .boot] ⊆ fr)
    (hz : Frame fr z s) : Frame fr z (stepDone s) := by
  unfold stepDone
  try dsimp only
  repeat' first
    | (with_reducible first
        | exact hz | assumption | apply State.setBoot_frame | apply noticeUnit_frame | apply Frame.fold)
    | split | exact List.Subset.trans (by decide) hl | intro _

theorem stepEffect_frame {fr : List Chapter} {z : State} (n : Nat) (r : StepReport) (s : State)
    (hl : [.emitted, .host, .pos, .led, .kw, .lanes, .pln, .fab, .draw, .asy, .hm, .dio, .rcp, .flt, .pwr, .boot] ⊆ fr)
    (hz : Frame fr z s) : Frame fr z (stepEffect n r s) := by
  unfold stepEffect
  try dsimp only
  repeat' first
    | (with_reducible first
        | exact hz | assumption | apply stepRecord_frame | apply stepFirmware_frame | apply stepAnchor_frame
        | apply stepLog_frame | apply stepMem_frame | apply stepField_frame | apply stepHost_frame
        | apply stepFabric_frame | apply stepLanes_frame | apply stepDone_frame | apply Frame.fold)
    | split | exact List.Subset.trans (by decide) hl | intro _

theorem completeStep_frame {fr : List Chapter} {z : State} (r : StepReport) (s : State)
    (hl : [.emitted, .host, .pos, .led, .kw, .lanes, .pln, .fab, .draw, .asy, .hm, .dio, .rcp, .flt, .pwr, .boot] ⊆ fr)
    (hz : Frame fr z s) : Frame fr z (completeStep r s) := by
  unfold completeStep
  try dsimp only
  repeat' first
    | (with_reducible first
        | exact hz | assumption | apply stepEffect_frame | apply setDoms_frame | apply State.setBoot_frame
        | apply Frame.fold)
    | split | exact List.Subset.trans (by decide) hl | intro _

theorem powerOn_frame {fr : List Chapter} {z : State} (mv : Nat) (s : State) (hl : [.kw, .pwr, .boot] ⊆ fr)
    (hz : Frame fr z s) : Frame fr z (powerOn mv s) := by
  unfold powerOn
  try dsimp only
  repeat' first
    | (with_reducible first
        | exact hz | assumption | apply State.setBoot_frame | apply State.setPwr_frame | apply beginStart_frame
        | apply State.setKw_frame | apply Frame.fold)
    | split | exact List.Subset.trans (by decide) hl | intro _

theorem dropPipeline_frame {fr : List Chapter} {z : State} (s : State) (hl : [.pln] ⊆ fr) (hz : Frame fr z s) :
    Frame fr z (dropPipeline s) := by
  unfold dropPipeline
  try dsimp only
  repeat' first
    | (with_reducible first
        | exact hz | assumption | apply State.setPln_frame | apply Frame.fold)
    | split | exact List.Subset.trans (by decide) hl | intro _

theorem domainOff_frame {fr : List Chapter} {z : State} (code : Nat) (s : State)
    (hl : [.emitted, .host, .kw, .lanes, .pln, .fab, .dio, .flt, .pwr] ⊆ fr) (hz : Frame fr z s) :
    Frame fr z (domainOff code s) := by
  unfold domainOff
  try dsimp only
  repeat' first
    | (with_reducible first
        | exact hz | assumption | apply setDom_frame | apply stopKeepalives_frame | apply linkLoss_frame
        | apply dropPipeline_frame | apply domainOffLanes_frame | apply Frame.fold)
    | split | exact List.Subset.trans (by decide) hl | intro _

theorem domainOn_frame {fr : List Chapter} {z : State} (code : Nat) (s : State) (hl : [.dio, .pwr] ⊆ fr)
    (hz : Frame fr z s) : Frame fr z (domainOn code s) := by
  unfold domainOn
  try dsimp only
  repeat' first
    | (with_reducible first
        | exact hz | assumption | apply setDom_frame | apply State.setDio_frame | apply Frame.fold)
    | split | exact List.Subset.trans (by decide) hl | intro _

theorem noticeDomain_frame {fr : List Chapter} {z : State} (code : Nat) (on : Bool) (released : Nat) (s : State)
    (hl : [.emitted, .host, .kw, .fab, .flt] ⊆ fr) (hz : Frame fr z s) :
    Frame fr z (noticeDomain code on released s) := by
  unfold noticeDomain
  try dsimp only
  repeat' first
    | (with_reducible first
        | exact hz | assumption | apply noticeUnit_frame | apply Frame.fold)
    | split | exact List.Subset.trans (by decide) hl | intro _

theorem switchDomainOff_frame {fr : List Chapter} {z : State} (code : Nat) (p : Packet) (s : State)
    (hl : [.emitted, .host, .pos, .led, .kw, .lanes, .pln, .fab, .draw, .asy, .hm, .dio, .rcp, .flt, .pwr] ⊆ fr)
    (hz : Frame fr z s) : Frame fr z (switchDomainOff code p s) := by
  unfold switchDomainOff
  try dsimp only
  repeat' first
    | (with_reducible first
        | exact hz | assumption | apply pruneRecipes_frame | apply releaseWhere_frame | apply commitP_frame
        | apply noticeDomain_frame | apply domainOff_frame | apply doneLater_frame | apply Frame.fold)
    | split | exact List.Subset.trans (by decide) hl | intro _

theorem setVbus_frame {fr : List Chapter} {z : State} (mv : Nat) (s : State) (hl : [.pwr] ⊆ fr) (hz : Frame fr z s) :
    Frame fr z (setVbus mv s) := by
  unfold setVbus
  try dsimp only
  repeat' first
    | (with_reducible first
        | exact hz | assumption | apply State.setPwr_frame | apply Frame.fold)
    | split | exact List.Subset.trans (by decide) hl | intro _

theorem sagSafe_frame {fr : List Chapter} {z : State} (s : State)
    (hl : [.emitted, .host, .led, .kw, .fab, .draw, .hm, .dio, .flt] ⊆ fr) (hz : Frame fr z s) :
    Frame fr z (sagSafe s) := by
  unfold sagSafe
  try dsimp only
  repeat' first
    | (with_reducible first
        | exact hz | assumption | apply setCause_frame | apply Frame.fold)
    | split | exact List.Subset.trans (by decide) hl | intro _

theorem supplyResponse_frame {fr : List Chapter} {z : State} (cause : Nat) (s : State)
    (hl : [.emitted, .host, .pos, .led, .kw, .pln, .fab, .draw, .asy, .hm, .dio, .rcp, .flt, .boot] ⊆ fr)
    (hz : Frame fr z s) : Frame fr z (supplyResponse cause s) := by
  unfold supplyResponse
  try dsimp only
  repeat' first
    | (with_reducible first
        | exact hz | assumption | apply pruneRecipes_frame | apply closeWrites_frame | apply sagSafe_frame
        | apply onSupplyWarning_frame | apply Frame.fold)
    | split | exact List.Subset.trans (by decide) hl | intro _

theorem sagWarn_frame {fr : List Chapter} {z : State} (s : State)
    (hl : [.emitted, .host, .pos, .led, .kw, .pln, .fab, .draw, .asy, .hm, .dio, .rcp, .flt, .pwr, .boot] ⊆ fr)
    (hz : Frame fr z s) : Frame fr z (sagWarn s) := by
  unfold sagWarn
  try dsimp only
  repeat' first
    | (with_reducible first
        | exact hz | assumption | apply State.setPwr_frame | apply supplyResponse_frame | apply noticeUnit_frame
        | apply Frame.fold)
    | split | exact List.Subset.trans (by decide) hl | intro _

theorem supplyCleared_frame {fr : List Chapter} {z : State} (s : State)
    (hl : [.emitted, .host, .led, .kw, .fab, .draw, .hm, .dio, .rcp, .flt, .boot] ⊆ fr) (hz : Frame fr z s) :
    Frame fr z (supplyCleared s) := by
  unfold supplyCleared
  try dsimp only
  repeat' first
    | (with_reducible first
        | exact hz | assumption | apply noticeCapacity_frame | apply openWrites_frame | apply pruneRecipes_frame
        | apply setCause_frame | apply Frame.fold)
    | split | exact List.Subset.trans (by decide) hl | intro _

theorem heldDown_frame {fr : List Chapter} {z : State} (s : State) (hl : [.pwr] ⊆ fr) (hz : Frame fr z s) :
    Frame fr z (heldDown s) := by
  unfold heldDown
  try dsimp only
  repeat' first
    | (with_reducible first
        | exact hz | assumption | apply State.setPwr_frame | apply Frame.fold)
    | split | exact List.Subset.trans (by decide) hl | intro _

theorem settleVbus_frame {fr : List Chapter} {z : State} (s : State) (hl : [.pwr] ⊆ fr) (hz : Frame fr z s) :
    Frame fr z (settleVbus s) := by
  unfold settleVbus
  try dsimp only
  repeat' first
    | (with_reducible first
        | exact hz | assumption | apply State.setPwr_frame | apply Frame.fold)
    | split | exact List.Subset.trans (by decide) hl | intro _

theorem setVin_frame {fr : List Chapter} {z : State} (x : Nat) (mv : Nat) (good : Bool) (over_ : Bool) (s : State)
    (hl : [.pwr] ⊆ fr) (hz : Frame fr z s) : Frame fr z (setVin x mv good over_ s) := by
  unfold setVin
  try dsimp only
  repeat' first
    | (with_reducible first
        | exact hz | assumption | apply settleVbus_frame | apply State.setPwr_frame | apply Frame.fold)
    | split | exact List.Subset.trans (by decide) hl | intro _

theorem inputLost_frame {fr : List Chapter} {z : State} (x : Nat) (mv : Nat) (over_ : Bool) (s : State)
    (hl : [.emitted, .host, .kw, .fab, .flt, .pwr] ⊆ fr) (hz : Frame fr z s) : Frame fr z (inputLost x mv over_ s) := by
  unfold inputLost
  try dsimp only
  repeat' first
    | (with_reducible first
        | exact hz | assumption | apply setVin_frame | apply noticeUnit_frame | apply Frame.fold)
    | split | exact List.Subset.trans (by decide) hl | intro _

theorem noticeThrottle_frame {fr : List Chapter} {z : State} (q : Nat) (s : State)
    (hl : [.emitted, .host, .kw, .fab, .flt, .pwr] ⊆ fr) (hz : Frame fr z s) : Frame fr z (noticeThrottle q s) := by
  unfold noticeThrottle
  try dsimp only
  repeat' first
    | (with_reducible first
        | exact hz | assumption | apply State.setPwr_frame | apply noticeUnit_frame | apply Frame.fold)
    | split | exact List.Subset.trans (by decide) hl | intro _

theorem setThrottle_frame {fr : List Chapter} {z : State} (q : Nat) (f : Nat → Nat) (s : State) (hl : [.fab, .pwr] ⊆ fr)
    (hz : Frame fr z s) : Frame fr z (setThrottle q f s) := by
  unfold setThrottle
  try dsimp only
  repeat' first
    | (with_reducible first
        | exact hz | assumption | apply settleCycles_frame | apply State.setPwr_frame | apply Frame.fold)
    | split | exact List.Subset.trans (by decide) hl | intro _

theorem throttleDown_frame {fr : List Chapter} {z : State} (q : Nat) (s : State)
    (hl : [.emitted, .host, .pos, .led, .kw, .pln, .fab, .draw, .asy, .hm, .rcp, .flt, .pwr] ⊆ fr) (hz : Frame fr z s) :
    Frame fr z (throttleDown q s) := by
  unfold throttleDown
  try dsimp only
  repeat' first
    | (with_reducible first
        | exact hz | assumption | apply pruneRecipes_frame | apply noticeThrottle_frame | apply onCapacityChange_frame
        | apply setThrottle_frame | apply Frame.fold)
    | split | exact List.Subset.trans (by decide) hl | intro _

theorem noticeFaster_frame {fr : List Chapter} {z : State} (old : State) (l : List Nat) (s : State) (hl : [.emitted, .host, .kw, .fab, .flt] ⊆ fr) (hz : Frame fr z s) :
    Frame fr z (noticeFaster old l s) := by
  induction l generalizing s with
  | nil => exact hz
  | cons b r ih =>
    unfold noticeFaster
    apply ih
    split
    · exact noticeBenchCapacity_frame _ _ (List.Subset.trans (by decide) hl) hz
    · exact hz

theorem throttleUp_frame {fr : List Chapter} {z : State} (q : Nat) (s : State)
    (hl : [.emitted, .host, .led, .kw, .fab, .flt, .pwr] ⊆ fr) (hz : Frame fr z s) : Frame fr z (throttleUp q s) := by
  unfold throttleUp
  try dsimp only
  repeat' first
    | (with_reducible first
        | exact hz | assumption | apply setThrottle_frame | apply State.setPwr_frame | apply noticeFaster_frame
        | apply noticeThrottle_frame | apply refreshDemands_frame | apply Frame.fold)
    | split | exact List.Subset.trans (by decide) hl | intro _

theorem setRail_frame {fr : List Chapter} {z : State} (id : Nat) (mv : Nat) (s : State) (hl : [.pwr] ⊆ fr)
    (hz : Frame fr z s) : Frame fr z (setRail id mv s) := by
  unfold setRail
  try dsimp only
  repeat' first
    | (with_reducible first
        | exact hz | assumption | apply State.setPwr_frame | apply Frame.fold)
    | split | exact List.Subset.trans (by decide) hl | intro _

theorem railWarn_frame {fr : List Chapter} {z : State} (id : Nat) (s : State)
    (hl : [.emitted, .host, .pos, .led, .kw, .pln, .fab, .draw, .asy, .hm, .dio, .rcp, .flt, .pwr, .boot] ⊆ fr)
    (hz : Frame fr z s) : Frame fr z (railWarn id s) := by
  unfold railWarn
  try dsimp only
  repeat' first
    | (with_reducible first
        | exact hz | assumption | apply supplyResponse_frame | apply noticeUnit_frame | apply State.setPwr_frame
        | apply throttleDown_frame | apply Frame.fold)
    | split | exact List.Subset.trans (by decide) hl | intro _

theorem railReset_frame {fr : List Chapter} {z : State} (id : Nat) (s : State)
    (hl : [.emitted, .host, .pos, .led, .kw, .lanes, .pln, .fab, .draw, .asy, .hm, .dio, .rcp, .flt, .pwr, .boot] ⊆ fr)
    (hz : Frame fr z s) : Frame fr z (railReset id s) := by
  unfold railReset
  try dsimp only
  repeat' first
    | (with_reducible first
        | exact hz | assumption | apply upset_frame | apply State.setPwr_frame | apply heldDown_frame
        | apply faultReset_frame | apply Frame.fold)
    | split | exact List.Subset.trans (by decide) hl | intro _

theorem setTemps_frame {fr : List Chapter} {z : State} (temps : List Int) (s : State) (hl : [.pwr] ⊆ fr)
    (hz : Frame fr z s) : Frame fr z (setTemps temps s) := by
  unfold setTemps
  try dsimp only
  repeat' first
    | (with_reducible first
        | exact hz | assumption | apply State.setPwr_frame | apply Frame.fold)
    | split | exact List.Subset.trans (by decide) hl | intro _

theorem shutDown_frame {fr : List Chapter} {z : State} (code : Nat) (s : State) (hl : [.flt, .pwr] ⊆ fr)
    (hz : Frame fr z s) : Frame fr z (shutDown code s) := by
  unfold shutDown
  try dsimp only
  repeat' first
    | (with_reducible first
        | exact hz | assumption | apply State.setFlt_frame | apply State.setPwr_frame | apply Frame.fold)
    | split | exact List.Subset.trans (by decide) hl | intro _

theorem fansFull_frame {fr : List Chapter} {z : State} (fan : Nat) (s : State) (hl : [.emitted] ⊆ fr) (hz : Frame fr z s) :
    Frame fr z (fansFull fan s) := by
  unfold fansFull
  try dsimp only
  repeat' first
    | (with_reducible first
        | exact hz | assumption | apply State.emit_frame | apply Frame.fold)
    | split | exact List.Subset.trans (by decide) hl | intro _

theorem noticePinned_frame {fr : List Chapter} {z : State} (q : Nat) (upper : Bool) (s : State)
    (hl : [.emitted, .host, .kw, .fab, .flt, .pwr] ⊆ fr) (hz : Frame fr z s) : Frame fr z (noticePinned q upper s) := by
  unfold noticePinned
  try dsimp only
  repeat' first
    | (with_reducible first
        | exact hz | assumption | apply noticeUnit_frame | apply State.setPwr_frame | apply Frame.fold)
    | split | exact List.Subset.trans (by decide) hl | intro _

theorem adapt_frame {fr : List Chapter} {z : State} (q : Nat) (proposed : Int) (critical : Bool) (s : State)
    (hl : [.emitted, .host, .pos, .led, .kw, .pln, .fab, .draw, .asy, .hm, .rcp, .flt, .pwr] ⊆ fr) (hz : Frame fr z s) :
    Frame fr z (adapt q proposed critical s) := by
  unfold adapt
  try dsimp only
  repeat' first
    | (with_reducible first
        | exact hz | assumption | apply State.setPwr_frame | apply noticePinned_frame | apply throttleDown_frame
        | apply Frame.fold)
    | split | exact List.Subset.trans (by decide) hl | intro _

theorem setInputs_frame {fr : List Chapter} {z : State} (l : List Nat) (s : State)
    (hl : [.emitted, .host, .pos, .led, .kw, .fab, .draw, .hm, .dio, .rcp, .flt, .pwr, .boot] ⊆ fr) (hz : Frame fr z s) :
    Frame fr z (setInputs l s) := by
  unfold setInputs
  try dsimp only
  repeat' first
    | (with_reducible first
        | exact hz | assumption | apply fieldSupply_frame | apply State.setPwr_frame | apply Frame.fold)
    | split | exact List.Subset.trans (by decide) hl | intro _

theorem mgmtDown_frame {fr : List Chapter} {z : State} (s : State) (hl : [.pos, .kw, .dio, .pwr, .boot] ⊆ fr)
    (hz : Frame fr z s) : Frame fr z (mgmtDown s) := by
  unfold mgmtDown
  try dsimp only
  repeat' first
    | (with_reducible first
        | exact hz | assumption | apply setDom_frame | apply State.setKw_frame | apply State.setPwr_frame
        | apply settleFields_frame | apply State.setBoot_frame | apply Frame.fold)
    | split | exact List.Subset.trans (by decide) hl | intro _

theorem setInput_frame {fr : List Chapter} {z : State} (x : Nat) (mv : Nat) (s : State)
    (hl : [.emitted, .host, .pos, .led, .kw, .fab, .draw, .hm, .dio, .rcp, .flt, .pwr, .boot] ⊆ fr) (hz : Frame fr z s) :
    Frame fr z (setInput x mv s) := by
  unfold setInput
  try dsimp only
  repeat' first
    | (with_reducible first
        | exact hz | assumption | apply State.setPwr_frame | apply fieldSupply_frame | apply Frame.fold)
    | split | exact List.Subset.trans (by decide) hl | intro _

theorem bumpEach_frame {fr : List Chapter} {z : State} (l : List Nat) (s : State) (hl : [.emitted, .host, .kw, .fab] ⊆ fr)
    (hz : Frame fr z s) : Frame fr z (bumpEach l s) := by
  fun_induction bumpEach l s
  all_goals try dsimp only
  repeat' first
    | (with_reducible first
        | exact hz | apply_assumption | assumption | apply bumpFence_frame | apply Frame.fold)
    | split | exact List.Subset.trans (by decide) hl | intro _

theorem quiesce_frame {fr : List Chapter} {z : State} (s : State) (hl : [.emitted, .host, .kw, .fab] ⊆ fr)
    (hz : Frame fr z s) : Frame fr z (quiesce s) := by
  unfold quiesce
  try dsimp only
  repeat' first
    | (with_reducible first
        | exact hz | assumption | apply bumpEach_frame | apply Frame.fold)
    | split | exact List.Subset.trans (by decide) hl | intro _

theorem resetReply_frame {fr : List Chapter} {z : State} (r : Ref) (s : State) (hl : [.emitted, .host, .kw, .fab] ⊆ fr)
    (hz : Frame fr z s) : Frame fr z (resetReply r s) := by
  unfold resetReply
  try dsimp only
  repeat' first
    | (with_reducible first
        | exact hz | assumption | apply doneLater_frame | apply Frame.fold)
    | split | exact List.Subset.trans (by decide) hl | intro _

theorem startAgain_frame {fr : List Chapter} {z : State} (kind : Nat) (s : State) (hl : [.pwr, .boot] ⊆ fr)
    (hz : Frame fr z s) : Frame fr z (startAgain kind s) := by
  unfold startAgain
  try dsimp only
  repeat' first
    | (with_reducible first
        | exact hz | assumption | apply beginStart_frame | apply heldDown_frame | apply setDoms_frame
        | apply Frame.fold)
    | split | exact List.Subset.trans (by decide) hl | intro _

theorem resetUnit_frame {fr : List Chapter} {z : State} (k : Nat) (s : State)
    (hl : [.emitted, .host, .pos, .led, .kw, .lanes, .pln, .fab, .draw, .asy, .hm, .dio, .rcp, .flt, .pwr, .boot] ⊆ fr)
    (hz : Frame fr z s) : Frame fr z (resetUnit k s) := by
  unfold resetUnit
  try dsimp only
  repeat' first
    | (with_reducible first
        | exact hz | assumption | apply unitReset_frame | apply startAgain_frame | apply State.setPwr_frame
        | apply Frame.fold)
    | split | exact List.Subset.trans (by decide) hl | intro _

theorem sysReset_frame {fr : List Chapter} {z : State} (p : Packet) (k : Nat) (s : State)
    (hl : [.emitted, .host, .pos, .led, .kw, .lanes, .pln, .fab, .draw, .asy, .hm, .dio, .rcp, .flt, .pwr, .boot] ⊆ fr)
    (hz : Frame fr z s) : Frame fr z (sysReset p k s) := by
  unfold sysReset
  try dsimp only
  repeat' first
    | (with_reducible first
        | exact hz | assumption | apply quiesce_frame | apply commitP_frame | apply resetReply_frame
        | apply linkLoss_frame | apply resetUnit_frame | apply Frame.fold)
    | split | exact List.Subset.trans (by decide) hl | intro _

theorem ledgBench_frame {fr : List Chapter} {z : State} (p : Packet) (a : Admission) (s : State)
    (hl : [.emitted, .host, .pos, .led, .kw, .pln, .fab, .draw, .asy, .hm, .rcp, .flt] ⊆ fr) (hz : Frame fr z s) :
    Frame fr z (ledgBench p a s) := by
  unfold ledgBench
  try dsimp only
  repeat' first
    | (with_reducible first
        | exact hz | assumption | apply modP_frame | apply modBench_frame | apply ok_frame | apply releaseBench_frame
        | apply Frame.fold)
    | split | exact List.Subset.trans (by decide) hl | intro _

theorem putPtbFlags_frame {fr : List Chapter} {z : State} (w : Word) (s : State) (hl : [.pos] ⊆ fr) (hz : Frame fr z s) :
    Frame fr z (putPtbFlags w s) := by
  unfold putPtbFlags
  try dsimp only
  repeat' first
    | (with_reducible first
        | exact hz | assumption | apply State.setPos_frame | apply Frame.fold)
    | split | exact List.Subset.trans (by decide) hl | intro _

theorem putLaneFlags_frame {fr : List Chapter} {z : State} (l : Nat) (w : Word) (s : State) (hl : [.lanes] ⊆ fr)
    (hz : Frame fr z s) : Frame fr z (putLaneFlags l w s) := by
  unfold putLaneFlags
  try dsimp only
  repeat' first
    | (with_reducible first
        | exact hz | assumption | apply modLane_frame | apply Frame.fold)
    | split | exact List.Subset.trans (by decide) hl | intro _

theorem putRt_frame {fr : List Chapter} {z : State} (f : AssayUnit → AssayUnit) (s : State) (hl : [.asy] ⊆ fr)
    (hz : Frame fr z s) : Frame fr z (putRt f s) := by
  unfold putRt
  try dsimp only
  repeat' first
    | (with_reducible first
        | exact hz | assumption | apply State.setAsy_frame | apply Frame.fold)
    | split | exact List.Subset.trans (by decide) hl | intro _

theorem putQ_frame {fr : List Chapter} {z : State} (f : AssayUnit → AssayUnit) (s : State) (hl : [.asy] ⊆ fr)
    (hz : Frame fr z s) : Frame fr z (putQ f s) := by
  unfold putQ
  try dsimp only
  repeat' first
    | (with_reducible first
        | exact hz | assumption | apply State.setAsy_frame | apply Frame.fold)
    | split | exact List.Subset.trans (by decide) hl | intro _

theorem putShort_frame {fr : List Chapter} {z : State} (n : Nat) (w : Word) (s : State) (hl : [.dio] ⊆ fr)
    (hz : Frame fr z s) : Frame fr z (putShort n w s) := by
  unfold putShort
  try dsimp only
  repeat' first
    | (with_reducible first
        | exact hz | assumption | apply modChan_frame | apply Frame.fold)
    | split | exact List.Subset.trans (by decide) hl | intro _

theorem putTrip_frame {fr : List Chapter} {z : State} (k : Nat) (w : Word) (s : State) (hl : [.dio] ⊆ fr)
    (hz : Frame fr z s) : Frame fr z (putTrip k w s) := by
  unfold putTrip
  try dsimp only
  repeat' first
    | (with_reducible first
        | exact hz | assumption | apply modFeed_frame | apply Frame.fold)
    | split | exact List.Subset.trans (by decide) hl | intro _

/-- The chapters whose registers a BAR access can clear. -/
def regChapters : List Chapter := [.pos, .led, .kw, .lanes, .pln, .fab, .draw, .asy, .hm, .dio, .rcp, .flt, .pwr, .boot]

theorem unitPage_frame {fr : List Chapter} {z : State} (hl : regChapters ⊆ fr) (s : State) (page : Nat) : ∀ e ∈ unitPage s page, RegOk (Frame fr z) e.2 := by
  have at0 : ∀ (c : Nat) (l : List Reg), RegsOk (Frame fr z) l → ∀ e ∈ (if domOn s c then placeRegs 0 l else []), RegOk (Frame fr z) e.2 := by
    intro c l h e he
    split at he
    · exact placeRegs_ok h 0 e he
    · cases he
  unfold unitPage
  dsimp only
  split
  case h_3 =>
    intro e he
    simp only [List.mem_flatMap] at he
    obtain ⟨l, -, he⟩ := he
    refine placeRegs_ok ?_ _ e he
    unfold laneRegs
    repeat' with_reducible first
      | apply regs_append | apply regs_cons | exact regs_nil | apply regs_rcs | apply w1c_ok | exact ro_ok _ | exact rs_ok _ | dsimp only
    all_goals (intros; first | (unfold putLaneFlags; exact modLane_frame _ _ _ (List.Subset.trans (by decide) hl) ‹_›) | exact modLane_frame _ _ _ (List.Subset.trans (by decide) hl) ‹_›)
  case h_14 => intro e he; cases he
  all_goals
    apply at0
    first
      | unfold pagePos | unfold pageLedg | unfold pagePln | unfold pageFab | unfold pageDraw | unfold pageAsy | unfold pageHm
      | unfold pageDio | unfold pageTok | unfold pageFlt | unfold pagePwr | unfold pageBoot
    repeat' with_reducible first
      | apply regs_append | apply regs_cons | exact regs_nil | apply regs_rcs | apply regs_map | apply regs_mapIdx
      | apply regs_flatMap | apply w1c_ok | apply ridx_ok | apply rc_ok | exact ro_ok _ | exact rs_ok _ | exact ro8_ok _ | dsimp only | split | intro _
    all_goals (intros; (try unfold putPtbFlags); repeat' first
      | with_reducible assumption | with_reducible apply State.setPos_frame | with_reducible apply State.setLed_frame | with_reducible apply modPlnChan_frame
      | with_reducible apply modView_frame | with_reducible apply State.setPln_frame | with_reducible apply modBench_frame | with_reducible apply State.setFab_frame
      | with_reducible apply State.setDraw_frame | with_reducible apply modDram_frame | with_reducible apply State.setAsy_frame | with_reducible apply putRt_frame | with_reducible apply putQ_frame
      | with_reducible apply State.setHm_frame | with_reducible apply putShort_frame | with_reducible apply putTrip_frame | with_reducible apply State.setDio_frame | with_reducible apply modChan_frame
      | with_reducible apply modFeed_frame | with_reducible apply State.setRcp_frame | with_reducible apply State.setFlt_frame | with_reducible apply State.setPwr_frame
      | with_reducible apply State.setBoot_frame | exact List.Subset.trans (by decide) hl)

theorem unitReg_frame {fr : List Chapter} {z : State} (hl : regChapters ⊆ fr) {s : State} {off : Nat} {r : Reg} (h : unitReg s off = some r) : RegOk (Frame fr z) r := by
  unfold unitReg at h
  simp only [Option.map_eq_some_iff] at h
  obtain ⟨e, he, rfl⟩ := h
  exact unitPage_frame hl s _ e (List.mem_of_find?_eq_some he)

theorem windowRc_frame {fr : List Chapter} {z : State} (hl : regChapters ⊆ fr) {fn off : Nat} {s : State} {r : Reg} (h : windowRc fn off s = some r) : RegOk (Frame fr z) r := by
  unfold windowRc at h
  repeat' split at h
  all_goals first
    | cases h; done
    | (simp only [Option.some.injEq] at h; subst h; exact rc_ok fun w s hz => modTen_frame _ _ _ (List.Subset.trans (by decide) hl) hz)

theorem rcReg_frame {fr : List Chapter} {z : State} (hl : regChapters ⊆ fr) {fn off : Nat} {s : State} {r : Reg} (h : rcReg fn off s = some r) : RegOk (Frame fr z) r := by
  unfold rcReg at h
  repeat' split at h
  · exact windowRc_frame hl h
  · simp only [Option.filter_eq_some_iff] at h
    exact unitReg_frame hl h.1
  · cases h

theorem barRead_frame {fr : List Chapter} {z : State} (fn : Nat) (off : Nat) (v : Nat) (s : State) (hl : [.emitted] ⊆ fr)
    (hz : Frame fr z s) : Frame fr z (barRead fn off v s) := by
  unfold barRead
  try dsimp only
  repeat' first
    | (with_reducible first
        | exact hz | assumption | apply State.emit_frame | apply Frame.fold)
    | split | exact List.Subset.trans (by decide) hl | intro _

theorem accessError_frame {fr : List Chapter} {z : State} (fn : Nat) (s : State) (hl : [.kw] ⊆ fr) (hz : Frame fr z s) :
    Frame fr z (accessError fn s) := by
  unfold accessError
  try dsimp only
  repeat' first
    | (with_reducible first
        | exact hz | assumption | apply setStatus_frame | apply Frame.fold)
    | split | exact List.Subset.trans (by decide) hl | intro _

theorem latch_frame {fr : List Chapter} {z : State} (fn : Nat) (off : Nat) (v : Nat) (s : State) (hl : [.kw] ⊆ fr)
    (hz : Frame fr z s) : Frame fr z (latch fn off v s) := by
  unfold latch
  try dsimp only
  repeat' first
    | (with_reducible first
        | exact hz | assumption | apply modTen_frame | apply Frame.fold)
    | split | exact List.Subset.trans (by decide) hl | intro _

theorem readEffect_frame {fr : List Chapter} {z : State} (fn off bump : Nat) (s : State) (hl : [.pos, .led, .kw, .lanes, .pln, .fab, .draw, .asy, .hm, .dio, .rcp, .flt, .pwr, .boot] ⊆ fr) (hz : Frame fr z s) :
    Frame fr z (readEffect fn off bump s) := by
  unfold readEffect
  split
  · rename_i r hr
    exact rcReg_frame (List.Subset.trans (by decide) hl) hr _ _ hz
  · split
    · exact latch_frame _ _ _ _ (List.Subset.trans (by decide) hl) hz
    · exact hz

theorem regRead_frame {fr : List Chapter} {z : State} (fn : Nat) (off : Nat) (wide : Bool) (bump : Nat) (s : State)
    (hl : [.emitted, .pos, .led, .kw, .lanes, .pln, .fab, .draw, .asy, .hm, .dio, .rcp, .flt, .pwr, .boot] ⊆ fr)
    (hz : Frame fr z s) : Frame fr z (regRead fn off wide bump s) := by
  unfold regRead
  try dsimp only
  repeat' first
    | (with_reducible first
        | exact hz | assumption | apply barRead_frame | apply accessError_frame | apply readEffect_frame
        | apply Frame.fold)
    | split | exact List.Subset.trans (by decide) hl | intro _

theorem clearFlags_frame {fr : List Chapter} {z : State} (fn off : Nat) (v setNow : Word) (s : State) (hl : [.pos, .led, .kw, .lanes, .pln, .fab, .draw, .asy, .hm, .dio, .rcp, .flt, .pwr, .boot] ⊆ fr) (hz : Frame fr z s) :
    Frame fr z (clearFlags fn off v setNow s) := by
  unfold clearFlags
  split
  · exact modTen_frame _ _ _ (List.Subset.trans (by decide) hl) hz
  · split
    · split
      · rename_i r hr
        split
        · exact unitReg_frame (List.Subset.trans (by decide) hl) hr _ _ hz
        · exact hz
      · exact hz
    · exact hz

theorem setRidx_frame {fr : List Chapter} {z : State} (v : Nat) (w : Word) (s : State) (hl : [.pln] ⊆ fr)
    (hz : Frame fr z s) : Frame fr z (setRidx v w s) := by
  unfold setRidx
  try dsimp only
  repeat' first
    | (with_reducible first
        | exact hz | assumption | apply modView_frame | apply Frame.fold)
    | split | exact List.Subset.trans (by decide) hl | intro _

theorem ringConfig_frame {fr : List Chapter} {z : State} (fn : Nat) (f : Tenant → Tenant) (s : State) (hl : [.kw] ⊆ fr)
    (hz : Frame fr z s) : Frame fr z (ringConfig fn f s) := by
  unfold ringConfig
  try dsimp only
  repeat' first
    | (with_reducible first
        | exact hz | assumption | apply setStatus_frame | apply modTen_frame | apply Frame.fold)
    | split | exact List.Subset.trans (by decide) hl | intro _

theorem msixWrite_frame {fr : List Chapter} {z : State} (fn : Nat) (off : Nat) (v : Word) (s : State)
    (hl : [.emitted, .kw] ⊆ fr) (hz : Frame fr z s) : Frame fr z (msixWrite fn off v s) := by
  unfold msixWrite
  try dsimp only
  repeat' first
    | (with_reducible first
        | exact hz | assumption | apply flushPending_frame | apply modTen_frame | apply Frame.fold)
    | split | exact List.Subset.trans (by decide) hl | intro _

theorem windowWrite_frame {fr : List Chapter} {z : State} (fn : Nat) (off : Nat) (v : Word) (s : State)
    (hl : [.emitted, .host, .pos, .led, .kw, .lanes, .pln, .fab, .draw, .asy, .hm, .dio, .rcp, .flt, .pwr, .boot] ⊆ fr)
    (hz : Frame fr z s) : Frame fr z (windowWrite fn off v s) := by
  unfold windowWrite
  try dsimp only
  repeat' first
    | (with_reducible first
        | exact hz | assumption | apply enableRing_frame | apply disableRing_frame | apply clearFlags_frame
        | apply ringConfig_frame | apply writeCoal_frame | apply modTen_frame | apply sqDoorbell_frame
        | apply cqDoorbell_frame | apply msixWrite_frame | apply Frame.fold)
    | split | exact List.Subset.trans (by decide) hl | intro _

theorem write32_frame {fr : List Chapter} {z : State} (fn : Nat) (off : Nat) (v : Word) (s : State)
    (hl : [.emitted, .host, .pos, .led, .kw, .lanes, .pln, .fab, .draw, .asy, .hm, .dio, .rcp, .flt, .pwr, .boot] ⊆ fr)
    (hz : Frame fr z s) : Frame fr z (write32 fn off v s) := by
  unfold write32
  try dsimp only
  repeat' first
    | (with_reducible first
        | exact hz | assumption | apply windowWrite_frame | apply setRidx_frame | apply clearFlags_frame
        | apply Frame.fold)
    | split | exact List.Subset.trans (by decide) hl | intro _

theorem barWrite_frame {fr : List Chapter} {z : State} (fn : Nat) (off : Nat) (wide : Bool) (v : Long) (s : State)
    (hl : [.emitted, .host, .pos, .led, .kw, .lanes, .pln, .fab, .draw, .asy, .hm, .dio, .rcp, .flt, .pwr, .boot] ⊆ fr)
    (hz : Frame fr z s) : Frame fr z (barWrite fn off wide v s) := by
  unfold barWrite
  try dsimp only
  repeat' first
    | (with_reducible first
        | exact hz | assumption | apply accessError_frame | apply write32_frame | apply Frame.fold)
    | split | exact List.Subset.trans (by decide) hl | intro _

end Sys2Proof.Machine
end

