-- ==== Sys2Proof/Laws/Lawful.lean ====
section
/-! SUPPORT. What every operation of the machine can do, once for each: it keeps the invariant `Inv` and takes nothing back
(`Inherits`), measured from any earlier state `z`. Each lemma follows the definition's own branches. -/

set_option maxRecDepth 4000
set_option linter.unusedTactic false
set_option linter.unreachableTactic false

namespace Sys2Proof.Machine
open Sys2Proof

/-- The protocol engine's part of `Inv`. -/
structure KwOk (k : Kwelo) : Prop where
  tenants : k.tenants.length = 64
  fences : ∀ t ∈ k.tenants, t.fence ≠ 0
  sbFence : k.sbFence ≠ 0

/-- From `z` to `s` the machine has kept its invariant and taken nothing back. -/
structure Lawful (z s : State) : Prop where
  inv : Inv s
  inherits : Inherits z s

/-- The same of a command's outcome. -/
def LawfulNext (z : State) (o : Host.Outcome State Fault Refusal) : Prop := ∀ t, o = .next t → Lawful z t

theorem next_lawful {z s : State} (h : Lawful z s) : LawfulNext z (.next s) := by
  intro t e; cases e; exact h

theorem State.setNow_lawful {z s : State} {v : Nat} (h : Lawful z s) (hv : s.now ≤ v) : Lawful z (s.setNow v) :=
  ⟨⟨h.1.1, h.1.2, h.1.3, h.1.4, h.1.5, h.1.6, h.1.7, h.1.8, h.1.9, h.1.10, h.1.11, h.1.12, h.1.13, h.1.14⟩,
   ⟨h.2.1, le_trans h.2.2 hv, h.2.3, h.2.4, h.2.5, h.2.6⟩⟩
theorem State.setEmitted_lawful {z s : State} {v : List Emit} (h : Lawful z s) (hv : s.emitted <:+ v) : Lawful z (s.setEmitted v) :=
  ⟨⟨h.1.1, h.1.2, h.1.3, h.1.4, h.1.5, h.1.6, h.1.7, h.1.8, h.1.9, h.1.10, h.1.11, h.1.12, h.1.13, h.1.14⟩,
   ⟨h.2.1, h.2.2, h.2.3.trans hv, h.2.4, h.2.5, h.2.6⟩⟩
theorem State.setHost_lawful {z s : State} {v : Memory} (h : Lawful z s) (hv : s.host.wf = true → v.wf = true) : Lawful z (s.setHost v) :=
  ⟨⟨hv h.1.1, h.1.2, h.1.3, h.1.4, h.1.5, h.1.6, h.1.7, h.1.8, h.1.9, h.1.10, h.1.11, h.1.12, h.1.13, h.1.14⟩,
   ⟨h.2.1, h.2.2, h.2.3, h.2.4, h.2.5, h.2.6⟩⟩
theorem State.setPos_lawful {z s : State} {v : Position} (h : Lawful z s) : Lawful z (s.setPos v) :=
  ⟨⟨h.1.1, h.1.2, h.1.3, h.1.4, h.1.5, h.1.6, h.1.7, h.1.8, h.1.9, h.1.10, h.1.11, h.1.12, h.1.13, h.1.14⟩,
   ⟨h.2.1, h.2.2, h.2.3, h.2.4, h.2.5, h.2.6⟩⟩
theorem State.setLed_lawful {z s : State} {v : Ledger} (h : Lawful z s) : Lawful z (s.setLed v) :=
  ⟨⟨h.1.1, h.1.2, h.1.3, h.1.4, h.1.5, h.1.6, h.1.7, h.1.8, h.1.9, h.1.10, h.1.11, h.1.12, h.1.13, h.1.14⟩,
   ⟨h.2.1, h.2.2, h.2.3, h.2.4, h.2.5, h.2.6⟩⟩
theorem State.setAsy_lawful {z s : State} {v : Assay} (h : Lawful z s) : Lawful z (s.setAsy v) :=
  ⟨⟨h.1.1, h.1.2, h.1.3, h.1.4, h.1.5, h.1.6, h.1.7, h.1.8, h.1.9, h.1.10, h.1.11, h.1.12, h.1.13, h.1.14⟩,
   ⟨h.2.1, h.2.2, h.2.3, h.2.4, h.2.5, h.2.6⟩⟩
theorem State.setHm_lawful {z s : State} {v : Hallmark} (h : Lawful z s) : Lawful z (s.setHm v) :=
  ⟨⟨h.1.1, h.1.2, h.1.3, h.1.4, h.1.5, h.1.6, h.1.7, h.1.8, h.1.9, h.1.10, h.1.11, h.1.12, h.1.13, h.1.14⟩,
   ⟨h.2.1, h.2.2, h.2.3, h.2.4, h.2.5, h.2.6⟩⟩
theorem State.setRcp_lawful {z s : State} {v : Recipes} (h : Lawful z s) : Lawful z (s.setRcp v) :=
  ⟨⟨h.1.1, h.1.2, h.1.3, h.1.4, h.1.5, h.1.6, h.1.7, h.1.8, h.1.9, h.1.10, h.1.11, h.1.12, h.1.13, h.1.14⟩,
   ⟨h.2.1, h.2.2, h.2.3, h.2.4, h.2.5, h.2.6⟩⟩
theorem State.setFlt_lawful {z s : State} {v : Faults} (h : Lawful z s) : Lawful z (s.setFlt v) :=
  ⟨⟨h.1.1, h.1.2, h.1.3, h.1.4, h.1.5, h.1.6, h.1.7, h.1.8, h.1.9, h.1.10, h.1.11, h.1.12, h.1.13, h.1.14⟩,
   ⟨h.2.1, h.2.2, h.2.3, h.2.4, h.2.5, h.2.6⟩⟩
theorem State.setKw_lawful {z s : State} {v : Kwelo} (h : Lawful z s) (hv : KwOk s.kw → KwOk v) : Lawful z (s.setKw v) :=
  have k := hv ⟨h.1.3, h.1.4, h.1.5⟩
  ⟨⟨h.1.1, h.1.2, k.1, k.2, k.3, h.1.6, h.1.7, h.1.8, h.1.9, h.1.10, h.1.11, h.1.12, h.1.13, h.1.14⟩,
   ⟨h.2.1, h.2.2, h.2.3, h.2.4, h.2.5, h.2.6⟩⟩
theorem State.setLanes_lawful {z s : State} {v : Lanes} (h : Lawful z s) (h1 : s.lanes.lane.length = 24 → v.lane.length = 24)
    (h2 : s.lanes.tg.length = 8 → v.tg.length = 8) : Lawful z (s.setLanes v) :=
  ⟨⟨h.1.1, h.1.2, h.1.3, h.1.4, h.1.5, h1 h.1.6, h2 h.1.7, h.1.8, h.1.9, h.1.10, h.1.11, h.1.12, h.1.13, h.1.14⟩,
   ⟨h.2.1, h.2.2, h.2.3, h.2.4, h.2.5, h.2.6⟩⟩
theorem State.setPln_lawful {z s : State} {v : Planish} (h : Lawful z s) (h1 : s.pln.chan.length = 32 → v.chan.length = 32)
    (h2 : s.pln.view.length = 4 → v.view.length = 4) : Lawful z (s.setPln v) :=
  ⟨⟨h.1.1, h.1.2, h.1.3, h.1.4, h.1.5, h.1.6, h.1.7, h1 h.1.8, h2 h.1.9, h.1.10, h.1.11, h.1.12, h.1.13, h.1.14⟩,
   ⟨h.2.1, h.2.2, h.2.3, h.2.4, h.2.5, h.2.6⟩⟩
theorem State.setFab_lawful {z s : State} {v : Fabric} (h : Lawful z s) (h1 : s.fab.bench.length = 16 → v.bench.length = 16) : Lawful z (s.setFab v) :=
  ⟨⟨h.1.1, h.1.2, h.1.3, h.1.4, h.1.5, h.1.6, h.1.7, h.1.8, h.1.9, h1 h.1.10, h.1.11, h.1.12, h.1.13, h.1.14⟩,
   ⟨h.2.1, h.2.2, h.2.3, h.2.4, h.2.5, h.2.6⟩⟩
theorem State.setDraw_lawful {z s : State} {v : Draw} (h : Lawful z s) (h1 : s.draw.chan.length = 4 → v.chan.length = 4)
    (h2 : s.draw.mem.wf = true → v.mem.wf = true) : Lawful z (s.setDraw v) :=
  ⟨⟨h.1.1, h2 h.1.2, h.1.3, h.1.4, h.1.5, h.1.6, h.1.7, h.1.8, h.1.9, h.1.10, h1 h.1.11, h.1.12, h.1.13, h.1.14⟩,
   ⟨h.2.1, h.2.2, h.2.3, h.2.4, h.2.5, h.2.6⟩⟩
theorem State.setDio_lawful {z s : State} {v : FieldIo} (h : Lawful z s) (h1 : s.dio.chan.length = 32 → v.chan.length = 32)
    (h2 : s.dio.feed.length = 16 → v.feed.length = 16) : Lawful z (s.setDio v) :=
  ⟨⟨h.1.1, h.1.2, h.1.3, h.1.4, h.1.5, h.1.6, h.1.7, h.1.8, h.1.9, h.1.10, h.1.11, h1 h.1.12, h2 h.1.13, h.1.14⟩,
   ⟨h.2.1, h.2.2, h.2.3, h.2.4, h.2.5, h.2.6⟩⟩
theorem State.setPwr_lawful {z s : State} {v : Power} (h : Lawful z s) (h1 : s.pwr.domains.length = 13 → v.domains.length = 13) : Lawful z (s.setPwr v) :=
  ⟨⟨h.1.1, h.1.2, h.1.3, h.1.4, h.1.5, h.1.6, h.1.7, h.1.8, h.1.9, h.1.10, h.1.11, h.1.12, h.1.13, h1 h.1.14⟩,
   ⟨h.2.1, h.2.2, h.2.3, h.2.4, h.2.5, h.2.6⟩⟩
theorem State.setBoot_lawful {z s : State} {v : Boot} (h : Lawful z s) (h1 : v.otpFw = s.boot.otpFw) (h2 : v.otpBundle = s.boot.otpBundle)
    (h3 : v.identity = s.boot.identity) : Lawful z (s.setBoot v) :=
  ⟨⟨h.1.1, h.1.2, h.1.3, h.1.4, h.1.5, h.1.6, h.1.7, h.1.8, h.1.9, h.1.10, h.1.11, h.1.12, h.1.13, h.1.14⟩,
   ⟨h.2.1, h.2.2, h.2.3, h1.trans h.2.4, h2.trans h.2.5, h3.trans h.2.6⟩⟩
theorem KwOk.same {k v : Kwelo} (h1 : v.tenants = k.tenants) (h2 : v.sbFence = k.sbFence) (h : KwOk k) : KwOk v :=
  ⟨h1 ▸ h.1, h1 ▸ h.2, h2 ▸ h.3⟩
theorem foldl_lawful {α : Type} {z : State} {f : State → α → State} (hf : ∀ s a, Lawful z s → Lawful z (f s a)) (l : List α) {s : State}
    (h : Lawful z s) : Lawful z (l.foldl f s) := by
  induction l generalizing s with
  | nil => exact h
  | cons a l ih => exact ih (hf s a h)
@[simp] theorem upd_length {α : Type} (l : List α) (n : Nat) (f : α → α) : (upd l n f).length = l.length := by
  simp [upd]

theorem forall_upd {α : Type} {P : α → Prop} {l : List α} {n : Nat} {f : α → α} (hf : ∀ x, P x → P (f x)) (h : ∀ x ∈ l, P x) :
    ∀ x ∈ upd l n f, P x := by
  intro x hx
  unfold upd at hx
  rw [List.mem_iff_getElem?] at hx
  obtain ⟨i, hi⟩ := hx
  rw [List.getElem?_modify] at hi
  cases hl : l[i]? with
  | none => simp [hl] at hi
  | some y =>
    have hy := h y (List.mem_of_getElem? hl)
    simp [hl] at hi
    split at hi <;> subst hi
    · exact hf _ hy
    · exact hy

theorem cellsAbove_mono {lo lo' : Nat} (h : lo' ≤ lo) (c : List Host.Cell) (hc : cellsAbove lo c = true) : cellsAbove lo' c = true := by
  cases c with
  | nil => rfl
  | cons x r =>
    obtain ⟨k, v⟩ := x
    simp only [cellsAbove, Bool.and_eq_true, decide_eq_true_eq] at hc ⊢
    exact ⟨⟨lt_of_le_of_lt h hc.1.1, hc.1.2⟩, hc.2⟩

theorem setCell_above {lo a : Nat} (h : lo < a) (v : Byte) (c : List Host.Cell) (hc : cellsAbove lo c = true) :
    cellsAbove lo (setCell c a v) = true := by
  induction c generalizing lo with
  | nil => simp only [setCell]; split <;> simp_all [cellsAbove]
  | cons x r ih =>
    obtain ⟨k, y⟩ := x
    simp only [cellsAbove, Bool.and_eq_true, decide_eq_true_eq] at hc
    simp only [setCell]
    split
    · rename_i hk
      simp only [cellsAbove, Bool.and_eq_true, decide_eq_true_eq]
      exact ⟨hc.1, ih hk hc.2⟩
    · split
      · rename_i h1 h2; subst h2
        split
        · exact cellsAbove_mono hc.1.1.le _ hc.2
        · simp_all [cellsAbove]
      · split
        · simp_all [cellsAbove]
        · have : a < k := by omega
          simp_all [cellsAbove]

theorem memSet_wf (m : Memory) (a : Nat) (v : Byte) (h : m.wf = true) : (memSet m a v).wf = true := by
  obtain ⟨c⟩ := m
  cases c with
  | nil => simp only [memSet, setCell]; split <;> simp_all [Memory.wf, cellsAbove]
  | cons x r =>
    obtain ⟨k, y⟩ := x
    simp only [Memory.wf, Bool.and_eq_true] at h
    simp only [memSet, setCell]
    split
    · rename_i hk
      simp only [Memory.wf, Bool.and_eq_true]
      exact ⟨h.1, setCell_above hk v r h.2⟩
    · split
      · rename_i h1 h2; subst h2
        split
        · cases r with
          | nil => rfl
          | cons y r => simp_all [Memory.wf, cellsAbove]
        · simp_all [Memory.wf]
      · split
        · simp_all [Memory.wf]
        · have : a < k := by omega
          simp_all [Memory.wf, cellsAbove]

theorem memWrite_wf (m : Memory) (a : Nat) (b : Bytes) (h : m.wf = true) : (memWrite m a b).wf = true := by
  induction b generalizing m a with
  | nil => exact h
  | cons x r ih => exact ih _ _ (memSet_wf _ _ _ h)

theorem memPlace_wf (m : Memory) (l : List (Nat × Bytes)) (h : m.wf = true) : (memPlace m l).wf = true := by
  induction l generalizing m with
  | nil => exact h
  | cons x r ih => exact ih _ (memWrite_wf _ _ _ h)

theorem cellsAbove_filter (p : Host.Cell → Bool) {lo : Nat} (c : List Host.Cell) (h : cellsAbove lo c = true) :
    cellsAbove lo (c.filter p) = true := by
  induction c generalizing lo with
  | nil => rfl
  | cons x r ih =>
    obtain ⟨k, v⟩ := x
    simp only [cellsAbove, Bool.and_eq_true, decide_eq_true_eq] at h
    simp only [List.filter_cons]
    split
    · simp only [cellsAbove, Bool.and_eq_true, decide_eq_true_eq]
      exact ⟨h.1, ih h.2⟩
    · exact cellsAbove_mono h.1.1.le _ (ih h.2)

theorem memFilter_wf (p : Host.Cell → Bool) (m : Memory) (h : m.wf = true) : Memory.wf ⟨m.cells.filter p⟩ = true := by
  obtain ⟨c⟩ := m
  cases c with
  | nil => rfl
  | cons x r =>
    obtain ⟨k, v⟩ := x
    simp only [Memory.wf, Bool.and_eq_true] at h
    simp only [List.filter_cons]
    split
    · simp only [Memory.wf, Bool.and_eq_true]
      exact ⟨h.1, cellsAbove_filter p r h.2⟩
    · have := cellsAbove_filter p r h.2
      revert this
      cases r.filter p with
      | nil => intro _; rfl
      | cons y t =>
        obtain ⟨a, b⟩ := y
        simp only [cellsAbove, Memory.wf, Bool.and_eq_true, decide_eq_true_eq]
        exact fun h => ⟨h.1.2, h.2⟩

theorem emptyChannel_wf (ch : Nat) (m : Memory) (h : m.wf = true) : (emptyChannel ch m).wf = true := memFilter_wf _ _ h

theorem nextFence_ne (w : Word) : nextFence w ≠ 0 := by
  unfold nextFence; split
  · decide
  · assumption

theorem ite_both {α : Type} {R : α → Prop} {c : Prop} [Decidable c] {a b : α} (h1 : c → R a) (h2 : ¬c → R b) : R (if c then a else b) := by
  split
  · exact h1 ‹_›
  · exact h2 ‹_›

theorem State.at__lawful {z : State} (s : State) (t : Nat) (h : Lawful z s) : Lawful z (s.at_ t) :=
  State.setNow_lawful h (Nat.le_max_left _ _)

theorem State.emit_lawful {z : State} (s : State) (e : Emit) (h : Lawful z s) : Lawful z (s.emit e) :=
  ⟨⟨h.1.1, h.1.2, h.1.3, h.1.4, h.1.5, h.1.6, h.1.7, h.1.8, h.1.9, h.1.10, h.1.11, h.1.12, h.1.13, h.1.14⟩,
   ⟨h.2.1, h.2.2, h.2.3.trans (List.suffix_cons _ _), h.2.4, h.2.5, h.2.6⟩⟩

theorem modTen_lawful {z : State} (n : Nat) (f : Tenant → Tenant) (s : State) (h : Lawful z s)
    (hf : ∀ t, t.fence ≠ 0 → (f t).fence ≠ 0) : Lawful z (modTen n f s) :=
  State.setKw_lawful h fun k => ⟨by simpa using k.1, forall_upd hf k.2, k.3⟩

theorem countFenced_lawful {z : State} (n : Nat) (s : State) (hz : Lawful z s) : Lawful z (countFenced n s) := by
  unfold countFenced
  try dsimp only
  repeat' with_reducible first | exact hz | assumption | apply modTen_lawful | split | exact fun _ k => k | intro _
  all_goals first | rfl | assumption | (simp_all; done)

theorem msixSend_lawful {z : State} (n : Nat) (v : Nat) (s : State) (hz : Lawful z s) : Lawful z (msixSend n v s) := by
  unfold msixSend
  try dsimp only
  repeat' with_reducible first
    | exact hz | assumption | apply modTen_lawful | apply State.emit_lawful | split | exact fun _ k => k | intro _
  all_goals first | rfl | assumption | (simp_all; done)

theorem logFault_lawful {z : State} (e : LogEntry) (s : State) (hz : Lawful z s) : Lawful z (logFault e s) := by
  unfold logFault
  try dsimp only
  repeat' with_reducible first | exact hz | assumption | apply State.setFlt_lawful | split

theorem writeSlot_lawful {z : State} (n : Nat) (vector : Nat) (body : Bytes) (s : State) (hz : Lawful z s) :
    Lawful z (writeSlot n vector body s) := by
  unfold writeSlot
  try dsimp only
  repeat' with_reducible first
    | exact hz | assumption | apply modTen_lawful | apply State.setHost_lawful | split | exact fun _ k => k
    | exact memWrite_wf _ _ _ | exact memPlace_wf _ _ _ | intro _
  all_goals first | rfl | assumption | (simp_all; done)

theorem modP_lawful {z : State} (r : Ref) (f : Packet → Packet) (s : State) (hz : Lawful z s) :
    Lawful z (modP r f s) := by
  unfold modP
  try dsimp only
  repeat' with_reducible first
    | exact hz | assumption | apply State.setKw_lawful | split | exact KwOk.same rfl rfl | exact fun _ k => k
    | intro _
  all_goals first | rfl | assumption | (simp_all; done)

theorem dropP_lawful {z : State} (r : Ref) (s : State) (hz : Lawful z s) : Lawful z (dropP r s) := by
  unfold dropP
  try dsimp only
  repeat' with_reducible first
    | exact hz | assumption | apply State.setKw_lawful | split | exact KwOk.same rfl rfl | exact fun _ k => k
    | intro _
  all_goals first | rfl | assumption | (simp_all; done)

theorem commitP_lawful {z : State} (r : Ref) (s : State) (hz : Lawful z s) : Lawful z (commitP r s) := by
  unfold commitP
  try dsimp only
  repeat' with_reducible first | exact hz | assumption | apply modP_lawful | split

theorem logOutcome_lawful {z : State} (n : Nat) (e : OutcomeEntry) (s : State) (hz : Lawful z s) :
    Lawful z (logOutcome n e s) := by
  unfold logOutcome
  try dsimp only
  repeat' with_reducible first | exact hz | assumption | apply modTen_lawful | split | exact fun _ k => k | intro _
  all_goals first | rfl | assumption | (simp_all; done)

theorem clearEn_lawful {z : State} (n : Nat) (s : State) (hz : Lawful z s) : Lawful z (clearEn n s) := by
  unfold clearEn
  try dsimp only
  repeat' with_reducible first
    | exact hz | assumption | apply modTen_lawful | apply State.setKw_lawful | split | exact KwOk.same rfl rfl
    | exact fun _ k => k | intro _
  all_goals first | rfl | assumption | (simp_all; done)

theorem setStatus_lawful {z : State} (n : Nat) (bitNo : Nat) (s : State) (hz : Lawful z s) :
    Lawful z (setStatus n bitNo s) := by
  unfold setStatus
  try dsimp only
  repeat' with_reducible first | exact hz | assumption | apply modTen_lawful | split | exact fun _ k => k | intro _
  all_goals first | rfl | assumption | (simp_all; done)

theorem withdraw_lawful {z : State} (r : Ref) (s : State) (hz : Lawful z s) : Lawful z (withdraw r s) := by
  unfold withdraw
  try dsimp only
  repeat' with_reducible first | exact hz | assumption | apply State.setFab_lawful | split | exact id | intro _
  all_goals first | rfl | assumption | (simp_all; done)

theorem logCancelled_lawful {z : State} (l : List Packet) (s : State) (hz : Lawful z s) :
    Lawful z (logCancelled l s) := by
  fun_induction logCancelled l s
  all_goals try dsimp only
  repeat' with_reducible first
    | exact hz | apply_assumption | assumption | apply logOutcome_lawful | apply withdraw_lawful | apply dropP_lawful
    | split

theorem ringError_lawful {z : State} (n : Nat) (bitNo : Nat) (s : State) (hz : Lawful z s) :
    Lawful z (ringError n bitNo s) := by
  unfold ringError
  try dsimp only
  repeat' with_reducible first
    | exact hz | assumption | apply msixSend_lawful | apply setStatus_lawful | apply clearEn_lawful
    | apply logCancelled_lawful | apply modTen_lawful | split | exact fun _ k => k | intro _
  all_goals first | rfl | assumption | exact nextFence_ne _ | (simp_all; done)

theorem writeNotice_lawful {z : State} (n : Nat) (nt : Notice) (s : State) (hz : Lawful z s) :
    Lawful z (writeNotice n nt s) := by
  unfold writeNotice
  try dsimp only
  repeat' with_reducible first | exact hz | assumption | apply msixSend_lawful | apply writeSlot_lawful | split

theorem holdNotice_lawful {z : State} (n : Nat) (nt : Notice) (s : State) (hz : Lawful z s) :
    Lawful z (holdNotice n nt s) := by
  unfold holdNotice
  try dsimp only
  repeat' with_reducible first | exact hz | assumption | apply modTen_lawful | split | exact fun _ k => k | intro _
  all_goals first | rfl | assumption | (simp_all; done)

theorem noticeTo_lawful {z : State} (n : Nat) (code : Half) (sp : Word) (data : Bytes) (s : State) (hz : Lawful z s) :
    Lawful z (noticeTo n code sp data s) := by
  unfold noticeTo
  try dsimp only
  repeat' with_reducible first
    | exact hz | assumption | apply modTen_lawful | apply holdNotice_lawful | apply ringError_lawful
    | apply writeNotice_lawful | split | exact fun _ k => k | intro _
  all_goals first | rfl | assumption | (simp_all; done)

theorem logNotice_lawful {z : State} (code : Half) (sp : Word) (s : State) (hz : Lawful z s) :
    Lawful z (logNotice code sp s) := by
  unfold logNotice
  try dsimp only
  repeat' with_reducible first | exact hz | assumption | apply logFault_lawful | split

theorem noticeAll_lawful {z : State} (l : List Nat) (code : Half) (sp : Word) (data : Bytes) (s : State) (hz : Lawful z s) :
    Lawful z (noticeAll l code sp data s) := by
  fun_induction noticeAll l code sp data s
  all_goals try dsimp only
  repeat' with_reducible first | exact hz | apply_assumption | assumption | apply noticeTo_lawful | split

theorem noticeUnitAt_lawful {z : State} (code : Half) (sp : Word) (data : Bytes) (s : State) (hz : Lawful z s) :
    Lawful z (noticeUnitAt code sp data s) := by
  unfold noticeUnitAt
  try dsimp only
  repeat' with_reducible first | exact hz | assumption | apply logNotice_lawful | apply noticeAll_lawful | split

theorem noticeUnit_lawful {z : State} (code : Half) (data : Bytes) (s : State) (hz : Lawful z s) :
    Lawful z (noticeUnit code data s) := by
  unfold noticeUnit
  try dsimp only
  repeat' with_reducible first | exact hz | assumption | apply noticeUnitAt_lawful | split

theorem noticeHolderAt_lawful {z : State} (n : Nat) (code : Half) (sp : Word) (data : Bytes) (s : State) (hz : Lawful z s) :
    Lawful z (noticeHolderAt n code sp data s) := by
  unfold noticeHolderAt
  try dsimp only
  repeat' with_reducible first | exact hz | assumption | apply logNotice_lawful | apply noticeTo_lawful | split

theorem noticeHolder_lawful {z : State} (n : Nat) (code : Half) (data : Bytes) (s : State) (hz : Lawful z s) :
    Lawful z (noticeHolder n code data s) := by
  unfold noticeHolder
  try dsimp only
  repeat' with_reducible first | exact hz | assumption | apply noticeHolderAt_lawful | split

theorem writeOverflow_lawful {z : State} (n : Nat) (s : State) (hz : Lawful z s) : Lawful z (writeOverflow n s) := by
  unfold writeOverflow
  try dsimp only
  repeat' with_reducible first
    | exact hz | assumption | apply writeNotice_lawful | apply modTen_lawful | split | exact fun _ k => k | intro _
  all_goals first | rfl | assumption | (simp_all; done)

theorem deliverOne_lawful {z : State} (n : Nat) (s : State) (hz : Lawful z s) : Lawful z (deliverOne n s) := by
  unfold deliverOne
  try dsimp only
  repeat' with_reducible first
    | exact hz | assumption | apply ringError_lawful | apply writeOverflow_lawful | apply writeNotice_lawful
    | apply modTen_lawful | split | exact fun _ k => k | intro _
  all_goals first | rfl | assumption | (simp_all; done)

theorem deliverMany_lawful {z : State} (k : Nat) (n : Nat) (s : State) (hz : Lawful z s) :
    Lawful z (deliverMany k n s) := by
  fun_induction deliverMany k n s
  all_goals try dsimp only
  repeat' with_reducible first | exact hz | apply_assumption | assumption | apply deliverOne_lawful | split

theorem coalesce_lawful {z : State} (n : Nat) (notify : Bool) (s : State) (hz : Lawful z s) :
    Lawful z (coalesce n notify s) := by
  unfold coalesce
  try dsimp only
  repeat' with_reducible first
    | exact hz | assumption | apply msixSend_lawful | apply modTen_lawful | split | exact fun _ k => k | intro _
  all_goals first | rfl | assumption | (simp_all; done)

theorem logReply_lawful {z : State} (i : ReplyInfo) (s : State) (hz : Lawful z s) : Lawful z (logReply i s) := by
  unfold logReply
  try dsimp only
  repeat' with_reducible first | exact hz | assumption | apply logOutcome_lawful | split

theorem ringReply_lawful {z : State} (i : ReplyInfo) (s : State) (hz : Lawful z s) : Lawful z (ringReply i s) := by
  unfold ringReply
  try dsimp only
  repeat' with_reducible first
    | exact hz | assumption | apply State.setHost_lawful | apply modTen_lawful | apply coalesce_lawful
    | apply writeSlot_lawful | split | exact fun _ k => k | exact memWrite_wf _ _ _ | exact memPlace_wf _ _ _
    | intro _
  all_goals first | rfl | assumption | (simp_all; done)

theorem tenantReply_lawful {z : State} (i : ReplyInfo) (orphan : Bool) (s : State) (hz : Lawful z s) :
    Lawful z (tenantReply i orphan s) := by
  unfold tenantReply
  try dsimp only
  repeat' with_reducible first
    | exact hz | assumption | apply logReply_lawful | apply ringError_lawful | apply ringReply_lawful | split

theorem sendSideband_lawful {z : State} (addr : Word) (port : Half) (b : Bytes) (s : State) (hz : Lawful z s) :
    Lawful z (sendSideband addr port b s) := by
  unfold sendSideband
  try dsimp only
  repeat' with_reducible first
    | exact hz | assumption | apply State.emit_lawful | apply State.setKw_lawful | split | exact KwOk.same rfl rfl
    | exact fun _ k => k | intro _
  all_goals first | rfl | assumption | (simp_all; done)

theorem sidebandReply_lawful {z : State} (addr : Word) (port : Half) (crc : Word) (i : ReplyInfo) (s : State)
    (hz : Lawful z s) : Lawful z (sidebandReply addr port crc i s) := by
  unfold sidebandReply
  try dsimp only
  repeat' with_reducible first
    | exact hz | assumption | apply sendSideband_lawful | apply State.setKw_lawful | split | exact KwOk.same rfl rfl
    | exact fun _ k => k | intro _
  all_goals first | rfl | assumption | (simp_all; done)

theorem deliver_lawful {z : State} (p : Packet) (status : Half) (fence : Word) (sp : Word) (result : Bytes) (s : State)
    (hz : Lawful z s) : Lawful z (deliver p status fence sp result s) := by
  unfold deliver
  try dsimp only
  repeat' with_reducible first | exact hz | assumption | apply sidebandReply_lawful | apply tenantReply_lawful | split

theorem finish_lawful {z : State} (p : Packet) (status : Half) (fence : Word) (sp : Word) (result : Bytes) (s : State)
    (hz : Lawful z s) : Lawful z (finish p status fence sp result s) := by
  unfold finish
  try dsimp only
  repeat' with_reducible first
    | exact hz | assumption | apply dropP_lawful | apply State.setKw_lawful | apply deliver_lawful | split
    | exact KwOk.same rfl rfl | exact fun _ k => k | intro _
  all_goals first | rfl | assumption | (simp_all; done)

theorem done_lawful {z : State} (p : Packet) (status : Half) (result : Bytes) (s : State) (hz : Lawful z s) :
    Lawful z (done p status result s) := by
  unfold done
  try dsimp only
  repeat' with_reducible first | exact hz | assumption | apply finish_lawful | split

theorem ok_lawful {z : State} (p : Packet) (result : Bytes) (s : State) (hz : Lawful z s) : Lawful z (ok p result s) := by
  unfold ok
  try dsimp only
  repeat' with_reducible first | exact hz | assumption | apply done_lawful | split

theorem doneLater_lawful {z : State} (p : Packet) (status : Half) (result : Bytes) (s : State) (hz : Lawful z s) :
    Lawful z (doneLater p status result s) := by
  unfold doneLater
  try dsimp only
  repeat' with_reducible first | exact hz | assumption | apply finish_lawful | split

theorem refuseWith_lawful {z : State} (p : Packet) (status : Half) (result : Bytes) (s : State) (hz : Lawful z s) :
    Lawful z (refuseWith p status result s) := by
  unfold refuseWith
  try dsimp only
  repeat' with_reducible first | exact hz | assumption | apply done_lawful | split

theorem refuse_lawful {z : State} (p : Packet) (status : Half) (off : Nat) (s : State) (hz : Lawful z s) :
    Lawful z (refuse p status off s) := by
  unfold refuse
  try dsimp only
  repeat' with_reducible first | exact hz | assumption | apply done_lawful | split

theorem cancelP_lawful {z : State} (p : Packet) (status : Half) (fence : Word) (s : State) (hz : Lawful z s) :
    Lawful z (cancelP p status fence s) := by
  unfold cancelP
  try dsimp only
  repeat' with_reducible first | exact hz | assumption | apply finish_lawful | apply withdraw_lawful | split

theorem cancelAll_lawful {z : State} (l : List Packet) (s : State) (hz : Lawful z s) : Lawful z (cancelAll l s) := by
  fun_induction cancelAll l s
  all_goals try dsimp only
  repeat' with_reducible first | exact hz | apply_assumption | assumption | apply cancelP_lawful | split

theorem bumpFence_lawful {z : State} (n : Nat) (s : State) (hz : Lawful z s) : Lawful z (bumpFence n s) := by
  unfold bumpFence
  exact cancelAll_lawful _ _ (modTen_lawful _ _ _ hz fun t _ => nextFence_ne _)

theorem disableRing_lawful {z : State} (n : Nat) (s : State) (hz : Lawful z s) : Lawful z (disableRing n s) := by
  unfold disableRing
  try dsimp only
  repeat' with_reducible first | exact hz | assumption | apply bumpFence_lawful | apply clearEn_lawful | split

theorem runOp_lawful {z : State} (opcode : Half) (r : Ref) (s : State) (body : Packet → State → State) (hz : Lawful z s)
    (hb : ∀ p, Lawful z (body p s)) : Lawful z (runOp opcode r s body) := by
  unfold runOp
  split
  · split
    · exact cancelP_lawful _ _ _ _ hz
    · split
      · exact refuse_lawful _ _ _ _ hz
      · exact hb _
  · exact hz

theorem wantRecord_lawful {z : State} (cause : Nat) (s : State) (hz : Lawful z s) : Lawful z (wantRecord cause s) := by
  unfold wantRecord
  try dsimp only
  repeat' with_reducible first | exact hz | assumption | apply State.setBoot_lawful | split | rfl | intro _
  all_goals first | rfl | assumption | (simp_all; done)

theorem countUpset_lawful {z : State} (cls : Nat) (inst : Nat) (injected : Bool) (s : State) (hz : Lawful z s) :
    Lawful z (countUpset cls inst injected s) := by
  unfold countUpset
  try dsimp only
  repeat' with_reducible first | exact hz | assumption | apply State.setFlt_lawful | split

theorem clearUpsets_lawful {z : State} (cls : Nat) (inst : Nat) (s : State) (hz : Lawful z s) :
    Lawful z (clearUpsets cls inst s) := by
  unfold clearUpsets
  try dsimp only
  repeat' with_reducible first | exact hz | assumption | apply State.setFlt_lawful | split

theorem upset_lawful {z : State} (cls : Nat) (inst : Nat) (how : Nat) (counts : Bool) (injected : Bool) (retries : Nat)
    (affected : Nat) (s : State) (hz : Lawful z s) :
    Lawful z (upset cls inst how counts injected retries affected s) := by
  unfold upset
  try dsimp only
  repeat' with_reducible first | exact hz | assumption | apply countUpset_lawful | apply logFault_lawful | split

theorem recovered_lawful {z : State} (cls : Nat) (inst : Nat) (affected : Nat) (injected : Bool) (s : State)
    (hz : Lawful z s) : Lawful z (recovered cls inst affected injected s) := by
  unfold recovered
  try dsimp only
  repeat' with_reducible first | exact hz | assumption | apply logFault_lawful | split

theorem supersede_lawful {z : State} (cls inst : Nat) (s : State) (hz : Lawful z s) : Lawful z (supersede cls inst s) :=
  State.setFlt_lawful hz

theorem equivLost_lawful {z : State} (e : LogEntry) (s : State) (hz : Lawful z s) : Lawful z (equivLost e s) := by
  unfold equivLost
  try dsimp only
  repeat' with_reducible first | exact hz | assumption | apply noticeUnit_lawful | apply logFault_lawful | split

theorem deferRetirement_lawful {z : State} (cls : Nat) (inst : Nat) (s : State) (hz : Lawful z s) :
    Lawful z (deferRetirement cls inst s) := by
  unfold deferRetirement
  try dsimp only
  repeat' with_reducible first | exact hz | assumption | apply State.setFlt_lawful | split

theorem modRecipe_lawful {z : State} (h : Nat) (f : Recipe → Recipe) (s : State) (hz : Lawful z s) :
    Lawful z (modRecipe h f s) := by
  unfold modRecipe
  try dsimp only
  repeat' with_reducible first | exact hz | assumption | apply State.setRcp_lawful | split

theorem openStrip_lawful {z : State} (r : Recipe) (s : State) (hz : Lawful z s) : Lawful z (openStrip r s) := by
  unfold openStrip
  try dsimp only
  repeat' with_reducible first | exact hz | assumption | apply modRecipe_lawful | apply State.setHm_lawful | split

theorem openAll_lawful {z : State} (l : List Recipe) (s : State) (hz : Lawful z s) : Lawful z (openAll l s) := by
  fun_induction openAll l s
  all_goals try dsimp only
  repeat' with_reducible first | exact hz | apply_assumption | assumption | apply openStrip_lawful | split

theorem openParts_lawful {z : State} (s : State) (hz : Lawful z s) : Lawful z (openParts s) := by
  unfold openParts
  try dsimp only
  repeat' with_reducible first | exact hz | assumption | apply openAll_lawful | split

theorem modPart_lawful {z : State} (recipe : Nat) (id : Int) (f : Part → Part) (s : State) (hz : Lawful z s) :
    Lawful z (modPart recipe id f s) := by
  unfold modPart
  try dsimp only
  repeat' with_reducible first | exact hz | assumption | apply State.setHm_lawful | split

theorem fixParts_lawful {z : State} (sel : Part → Bool) (reason : Nat) (s : State) (hz : Lawful z s) :
    Lawful z (fixParts sel reason s) := by
  unfold fixParts
  try dsimp only
  repeat' with_reducible first | exact hz | assumption | apply State.setHm_lawful | split

theorem foldTile_lawful {z : State} (recipe : Nat) (f : Fold) (s : State) (hz : Lawful z s) :
    Lawful z (foldTile recipe f s) := by
  unfold foldTile
  try dsimp only
  repeat' with_reducible first | exact hz | assumption | apply State.setHm_lawful | split

theorem foldHold_lawful {z : State} (recipe : Nat) (t : Tile) (reason : Nat) (s : State) (hz : Lawful z s) :
    Lawful z (foldHold recipe t reason s) := by
  unfold foldHold
  try dsimp only
  repeat' with_reducible first | exact hz | assumption | apply foldTile_lawful | apply openParts_lawful | split

theorem modBench_lawful {z : State} (b : Nat) (f : Bench → Bench) (s : State) (hz : Lawful z s) :
    Lawful z (modBench b f s) := by
  unfold modBench
  try dsimp only
  repeat' with_reducible first | exact hz | assumption | apply State.setFab_lawful | split | exact id | intro _
  all_goals first | rfl | assumption | (simp_all; done)

theorem bumpBench_lawful {z : State} (b : Nat) (i : Nat) (n : Nat) (s : State) (hz : Lawful z s) :
    Lawful z (bumpBench b i n s) := by
  unfold bumpBench
  try dsimp only
  repeat' with_reducible first | exact hz | assumption | apply modBench_lawful | split

theorem fabFenced_lawful {z : State} (b : Nat) (s : State) (hz : Lawful z s) : Lawful z (fabFenced b s) := by
  unfold fabFenced
  try dsimp only
  repeat' with_reducible first | exact hz | assumption | apply bumpBench_lawful | split

theorem toHallmark_lawful {z : State} (o : Outcome) (s : State) (hz : Lawful z s) : Lawful z (toHallmark o s) := by
  unfold toHallmark
  try dsimp only
  repeat' with_reducible first | exact hz | assumption | apply State.setHm_lawful | apply foldHold_lawful | split

theorem giveHold_lawful {z : State} (b : Nat) (t : Tile) (reason : Nat) (fence : Word) (s : State) (hz : Lawful z s) :
    Lawful z (giveHold b t reason fence s) := by
  unfold giveHold
  try dsimp only
  repeat' with_reducible first | exact hz | assumption | apply toHallmark_lawful | apply bumpBench_lawful | split

theorem giveHolds_lawful {z : State} (b : Nat) (l : List Tile) (reason : Nat) (fence : Word) (s : State) (hz : Lawful z s) :
    Lawful z (giveHolds b l reason fence s) := by
  fun_induction giveHolds b l reason fence s
  all_goals try dsimp only
  repeat' with_reducible first | exact hz | apply_assumption | assumption | apply giveHold_lawful | split

theorem retractResults_lawful {z : State} (b : Nat) (reason : Nat) (fence : Word) (s : State) (hz : Lawful z s) :
    Lawful z (retractResults b reason fence s) := by
  unfold retractResults
  try dsimp only
  repeat' with_reducible first
    | exact hz | assumption | apply State.setHm_lawful | apply bumpBench_lawful | apply modBench_lawful | split

theorem flushBench_lawful {z : State} (b : Nat) (reason : Nat) (fence : Word) (s : State) (hz : Lawful z s) :
    Lawful z (flushBench b reason fence s) := by
  unfold flushBench
  try dsimp only
  repeat' with_reducible first
    | exact hz | assumption | apply retractResults_lawful | apply giveHolds_lawful | apply modBench_lawful | split

theorem unitWrite_lawful {z : State} (a : Nat) (b : Bytes) (s : State) (hz : Lawful z s) :
    Lawful z (unitWrite a b s) := by
  unfold unitWrite
  try dsimp only
  repeat' with_reducible first
    | exact hz | assumption | apply State.setDraw_lawful | split | exact memWrite_wf _ _ _ | exact memPlace_wf _ _ _
    | exact id | intro _
  all_goals first | rfl | assumption | (simp_all; done)

theorem hmRing_lawful {z : State} (ring : Nat) (bytes : Bytes) (s : State) (hz : Lawful z s) :
    Lawful z (hmRing ring bytes s) := by
  unfold hmRing
  try dsimp only
  repeat' with_reducible first | exact hz | assumption | apply State.setHm_lawful | apply unitWrite_lawful | split

theorem logAct_lawful {z : State} (e : ActEntry) (recipe : Option Nat) (tenant : Nat) (outcome : Nat) (target : Long)
    (shift : Nat) (on : Word) (off : Word) (s : State) (hz : Lawful z s) :
    Lawful z (logAct e recipe tenant outcome target shift on off s) := by
  unfold logAct
  try dsimp only
  repeat' with_reducible first | exact hz | assumption | apply hmRing_lawful | apply State.setHm_lawful | split

theorem logActOf_lawful {z : State} (a : Act) (outcome : Nat) (off : Word) (s : State) (hz : Lawful z s) :
    Lawful z (logActOf a outcome off s) := by
  unfold logActOf
  try dsimp only
  repeat' with_reducible first | exact hz | assumption | apply logAct_lawful | split

theorem dropAct_lawful {z : State} (h : Nat) (s : State) (hz : Lawful z s) : Lawful z (dropAct h s) := by
  unfold dropAct
  try dsimp only
  repeat' with_reducible first | exact hz | assumption | apply State.setLed_lawful | apply State.setHm_lawful | split

theorem writeCacheHeader_lawful {z : State} (i : Nat) (s : State) (hz : Lawful z s) :
    Lawful z (writeCacheHeader i s) := by
  unfold writeCacheHeader
  try dsimp only
  repeat' with_reducible first | exact hz | assumption | apply unitWrite_lawful | split

theorem writeCacheHeaders_lawful {z : State} (l : List Nat) (s : State) (hz : Lawful z s) :
    Lawful z (writeCacheHeaders l s) := by
  fun_induction writeCacheHeaders l s
  all_goals try dsimp only
  repeat' with_reducible first | exact hz | apply_assumption | assumption | apply writeCacheHeader_lawful | split

theorem applyImage_lawful {z : State} (what : Reprog) (s : State) (hz : Lawful z s) : Lawful z (applyImage what s) := by
  unfold applyImage
  try dsimp only
  repeat' with_reducible first | exact hz | assumption | apply State.setPln_lawful | split | exact id | intro _
  all_goals first | rfl | assumption | (simp_all; done)

theorem noticeApplied_lawful {z : State} (issuer : Nat) (opcode : Half) (where_ : Nat) (sp : Word) (s : State)
    (hz : Lawful z s) : Lawful z (noticeApplied issuer opcode where_ sp s) := by
  unfold noticeApplied
  try dsimp only
  repeat' with_reducible first | exact hz | assumption | apply noticeHolderAt_lawful | split

theorem modLane_lawful {z : State} (l : Nat) (f : Lane → Lane) (s : State) (hz : Lawful z s) :
    Lawful z (modLane l f s) := by
  unfold modLane
  try dsimp only
  repeat' with_reducible first | exact hz | assumption | apply State.setLanes_lawful | split | exact id | intro _
  all_goals first | rfl | assumption | (simp_all; done)

theorem modPlnChan_lawful {z : State} (c : Nat) (f : Channel → Channel) (s : State) (hz : Lawful z s) :
    Lawful z (modPlnChan c f s) := by
  unfold modPlnChan
  try dsimp only
  repeat' with_reducible first | exact hz | assumption | apply State.setPln_lawful | split | exact id | intro _
  all_goals first | rfl | assumption | (simp_all; done)

theorem modView_lawful {z : State} (v : Nat) (f : View → View) (s : State) (hz : Lawful z s) :
    Lawful z (modView v f s) := by
  unfold modView
  try dsimp only
  repeat' with_reducible first | exact hz | assumption | apply State.setPln_lawful | split | exact id | intro _
  all_goals first | rfl | assumption | (simp_all; done)

theorem settleHwm_lawful {z : State} (was : Bool) (s : State) (hz : Lawful z s) : Lawful z (settleHwm was s) := by
  unfold settleHwm
  try dsimp only
  repeat' with_reducible first
    | exact hz | assumption | apply State.setPos_lawful | apply noticeUnit_lawful | apply noticeUnitAt_lawful | split

theorem quadError_lawful {z : State} (port : Nat) (s : State) (hz : Lawful z s) : Lawful z (quadError port s) := by
  unfold quadError
  try dsimp only
  repeat' with_reducible first
    | exact hz | assumption | apply State.setPos_lawful | apply logFault_lawful | apply noticeUnit_lawful | split

theorem countEdge_lawful {z : State} (fwd : Bool) (s : State) (hz : Lawful z s) : Lawful z (countEdge fwd s) := by
  unfold countEdge
  try dsimp only
  repeat' with_reducible first | exact hz | assumption | apply State.setPos_lawful | split

theorem repeatOut_lawful {z : State} (port : Nat) (signal : EncSignal) (s : State) (hz : Lawful z s) :
    Lawful z (repeatOut port signal s) := by
  unfold repeatOut
  try dsimp only
  repeat' with_reducible first | exact hz | assumption | apply State.emit_lawful | split

theorem masterEdge_lawful {z : State} (k : EdgeKind) (s : State) (hz : Lawful z s) : Lawful z (masterEdge k s) := by
  unfold masterEdge
  try dsimp only
  repeat' with_reducible first
    | exact hz | assumption | apply quadError_lawful | apply settleHwm_lawful | apply countEdge_lawful | split

theorem interpolate_lawful {z : State} (s : State) (hz : Lawful z s) : Lawful z (interpolate s) := by
  unfold interpolate
  try dsimp only
  repeat' with_reducible first | exact hz | assumption | apply settleHwm_lawful | apply State.setPos_lawful | split

theorem auxEdge_lawful {z : State} (port : Nat) (fwd : Bool) (s : State) (hz : Lawful z s) :
    Lawful z (auxEdge port fwd s) := by
  unfold auxEdge
  try dsimp only
  repeat' with_reducible first | exact hz | assumption | apply State.setPos_lawful | split

theorem anchorAt_lawful {z : State} (count : Int) (frac : Nat) (hwm : Long) (code : Nat) (discont : Bool) (s : State)
    (hz : Lawful z s) : Lawful z (anchorAt count frac hwm code discont s) := by
  unfold anchorAt
  try dsimp only
  repeat' with_reducible first
    | exact hz | assumption | apply State.setLanes_lawful | apply State.setBoot_lawful | apply State.setPos_lawful
    | apply noticeUnitAt_lawful | split | exact id | rfl | intro _
  all_goals first | rfl | assumption | (simp_all; done)

theorem zAnchor_lawful {z : State} (s : State) (hz : Lawful z s) : Lawful z (zAnchor s) := by
  unfold zAnchor
  try dsimp only
  repeat' with_reducible first | exact hz | assumption | apply anchorAt_lawful | split

theorem zDeviation_lawful {z : State} (port : Nat) (counts : Int) (s : State) (hz : Lawful z s) :
    Lawful z (zDeviation port counts s) := by
  unfold zDeviation
  try dsimp only
  repeat' with_reducible first
    | exact hz | assumption | apply State.setPos_lawful | apply noticeUnit_lawful | apply logFault_lawful | split

theorem masterZ_lawful {z : State} (s : State) (hz : Lawful z s) : Lawful z (masterZ s) := by
  unfold masterZ
  try dsimp only
  repeat' with_reducible first
    | exact hz | assumption | apply State.setPos_lawful | apply zDeviation_lawful | apply zAnchor_lawful | split

theorem auxZ_lawful {z : State} (port : Nat) (s : State) (hz : Lawful z s) : Lawful z (auxZ port s) := by
  unfold auxZ
  try dsimp only
  repeat' with_reducible first | exact hz | assumption | apply State.setPos_lawful | apply zDeviation_lawful | split

theorem speedStep_lawful {z : State} (s : State) (hz : Lawful z s) : Lawful z (speedStep s) := by
  unfold speedStep
  try dsimp only
  repeat' with_reducible first | exact hz | assumption | apply State.setPos_lawful | apply noticeUnit_lawful | split

theorem deferReprog_lawful {z : State} (what : Reprog) (issuer : Nat) (opcode : Half) (s : State) (hz : Lawful z s) :
    Lawful z (deferReprog what issuer opcode s) := by
  unfold deferReprog
  try dsimp only
  repeat' with_reducible first | exact hz | assumption | apply State.setPos_lawful | split

theorem dropReprog_lawful {z : State} (what : Reprog) (s : State) (hz : Lawful z s) : Lawful z (dropReprog what s) := by
  unfold dropReprog
  try dsimp only
  repeat' with_reducible first
    | exact hz | assumption | apply State.setPln_lawful | apply State.setPos_lawful | split | exact id | intro _
  all_goals first | rfl | assumption | (simp_all; done)

theorem encConfig_lawful {z : State} (p : Packet) (s : State) (hz : Lawful z s) : Lawful z (encConfig p s) := by
  unfold encConfig
  try dsimp only
  repeat' with_reducible first
    | exact hz | assumption | apply refuse_lawful | apply wantRecord_lawful | apply State.setPos_lawful
    | apply dropReprog_lawful | apply done_lawful | apply noticeHolder_lawful | apply deferReprog_lawful | split

theorem setShift_lawful {z : State} (n : Nat) (s : State) (hz : Lawful z s) : Lawful z (setShift n s) := by
  unfold setShift
  try dsimp only
  repeat' with_reducible first
    | exact hz | assumption | apply State.setPos_lawful | apply State.setFab_lawful | split | exact id | intro _
  all_goals first | rfl | assumption | (simp_all; done)

theorem applyPosition_lawful {z : State} (what : Reprog) (s : State) (hz : Lawful z s) :
    Lawful z (applyPosition what s) := by
  unfold applyPosition
  try dsimp only
  repeat' with_reducible first | exact hz | assumption | apply setShift_lawful | apply State.setPos_lawful | split

theorem posReprog_lawful {z : State} (p : Packet) (what : Reprog) (s : State) (hz : Lawful z s) :
    Lawful z (posReprog p what s) := by
  unfold posReprog
  try dsimp only
  repeat' with_reducible first
    | exact hz | assumption | apply refuse_lawful | apply done_lawful | apply noticeHolder_lawful
    | apply applyPosition_lawful | apply dropReprog_lawful | apply deferReprog_lawful | split

theorem cutBuckets_lawful {z : State} (cls : Nat) (s : State) (hz : Lawful z s) : Lawful z (cutBuckets cls s) := by
  unfold cutBuckets
  try dsimp only
  repeat' with_reducible first
    | exact hz | assumption | apply State.setDraw_lawful | split | exact memWrite_wf _ _ _ | exact memPlace_wf _ _ _
    | exact id | intro _
  all_goals first | rfl | assumption | (simp_all; done)

theorem deferEach_lawful {z : State} (l : List Reprog) (issuer : Nat) (opcode : Half) (s : State) (hz : Lawful z s) :
    Lawful z (deferEach l issuer opcode s) := by
  fun_induction deferEach l issuer opcode s
  all_goals try dsimp only
  repeat' with_reducible first | exact hz | apply_assumption | assumption | apply deferReprog_lawful | split

theorem endList_lawful {z : State} (l : CmdList) (status : Half) (result : Bytes) (s : State) (hz : Lawful z s) :
    Lawful z (endList l status result s) := by
  unfold endList
  try dsimp only
  repeat' with_reducible first
    | exact hz | assumption | apply deferEach_lawful | apply State.setFab_lawful | apply doneLater_lawful
    | apply done_lawful | split | exact id | intro _
  all_goals first | rfl | assumption | (simp_all; done)

theorem failList_lawful {z : State} (l : CmdList) (status : Half) (poison : Option Long) (s : State) (hz : Lawful z s) :
    Lawful z (failList l status poison s) := by
  unfold failList
  try dsimp only
  repeat' with_reducible first | exact hz | assumption | apply endList_lawful | split

theorem failLists_lawful {z : State} (ls : List CmdList) (status : Half) (s : State) (hz : Lawful z s) :
    Lawful z (failLists ls status s) := by
  fun_induction failLists ls status s
  all_goals try dsimp only
  repeat' with_reducible first | exact hz | apply_assumption | assumption | apply failList_lawful | split

theorem dropAdm_lawful {z : State} (h : Nat) (s : State) (hz : Lawful z s) : Lawful z (dropAdm h s) := by
  unfold dropAdm
  try dsimp only
  repeat' with_reducible first | exact hz | assumption | apply State.setLed_lawful | split

theorem dropHeld_lawful {z : State} (h : Nat) (s : State) (hz : Lawful z s) : Lawful z (dropHeld h s) := by
  unfold dropHeld
  try dsimp only
  repeat' with_reducible first | exact hz | assumption | apply cutBuckets_lawful | apply dropAdm_lawful | split

theorem endEpoch_lawful {z : State} (s : State) (hz : Lawful z s) : Lawful z (endEpoch s) := by
  unfold endEpoch
  try dsimp only
  repeat' with_reducible first
    | exact hz | assumption | apply writeCacheHeaders_lawful | apply dropHeld_lawful | apply State.setRcp_lawful
    | apply failList_lawful | apply doneLater_lawful | split

theorem endShadow_lawful {z : State} (s : State) (hz : Lawful z s) : Lawful z (endShadow s) := by
  unfold endShadow
  try dsimp only
  repeat' with_reducible first | exact hz | assumption | apply dropHeld_lawful | apply State.setRcp_lawful | split

theorem endCapture_lawful {z : State} (s : State) (hz : Lawful z s) : Lawful z (endCapture s) := by
  unfold endCapture
  try dsimp only
  repeat' with_reducible first | exact hz | assumption | apply State.setRcp_lawful | split

theorem endTap_lawful {z : State} (h : Nat) (code : Nat) (s : State) (hz : Lawful z s) : Lawful z (endTap h code s) := by
  unfold endTap
  try dsimp only
  repeat' with_reducible first
    | exact hz | assumption | apply noticeHolder_lawful | apply State.setPln_lawful | split | exact id | intro _
  all_goals first | rfl | assumption | (simp_all; done)

theorem endStream_lawful {z : State} (h : Nat) (s : State) (hz : Lawful z s) : Lawful z (endStream h s) := by
  unfold endStream
  try dsimp only
  repeat' with_reducible first
    | exact hz | assumption | apply failLists_lawful | apply State.setDraw_lawful | split | exact memWrite_wf _ _ _
    | exact memPlace_wf _ _ _ | exact id | intro _
  all_goals first | rfl | assumption | (simp_all; done)

theorem endActuation_lawful {z : State} (h : Nat) (s : State) (hz : Lawful z s) : Lawful z (endActuation h s) := by
  unfold endActuation
  try dsimp only
  repeat' with_reducible first | exact hz | assumption | apply logActOf_lawful | apply dropAct_lawful | split

theorem noticeActive_lawful {z : State} (tenant : Nat) (handle : Nat) (code : Nat) (e : Word) (s : State)
    (hz : Lawful z s) : Lawful z (noticeActive tenant handle code e s) := by
  unfold noticeActive
  try dsimp only
  repeat' with_reducible first | exact hz | assumption | apply noticeHolderAt_lawful | split

theorem cancelActivation_lawful {z : State} (h : Nat) (s : State) (hz : Lawful z s) :
    Lawful z (cancelActivation h s) := by
  unfold cancelActivation
  try dsimp only
  repeat' with_reducible first | exact hz | assumption | apply modRecipe_lawful | apply noticeActive_lawful | split

theorem freeBench_lawful {z : State} (b : Nat) (s : State) (hz : Lawful z s) : Lawful z (freeBench b s) := by
  unfold freeBench
  try dsimp only
  repeat' with_reducible first
    | exact hz | assumption | apply State.setLed_lawful | apply State.setDraw_lawful | apply modBench_lawful | split
    | exact memWrite_wf _ _ _ | exact memPlace_wf _ _ _ | exact id | intro _
  all_goals first | rfl | assumption | (simp_all; done)

theorem cancelExpired_lawful {z : State} (l : List Ref) (s : State) (hz : Lawful z s) : Lawful z (cancelExpired l s) := by
  fun_induction cancelExpired l s
  all_goals try dsimp only
  repeat' with_reducible first | exact hz | apply_assumption | assumption | apply cancelP_lawful | split

theorem refuseGone_lawful {z : State} (l : List Ref) (s : State) (hz : Lawful z s) : Lawful z (refuseGone l s) := by
  fun_induction refuseGone l s
  all_goals try dsimp only
  repeat' with_reducible first | exact hz | apply_assumption | assumption | apply refuse_lawful | split

theorem releaseUnadmitted_lawful {z : State} (b : Nat) (l : List Ref) (s : State) (hz : Lawful z s) :
    Lawful z (releaseUnadmitted b l s) := by
  unfold releaseUnadmitted
  try dsimp only
  repeat' with_reducible first
    | exact hz | assumption | apply cancelExpired_lawful | apply refuseGone_lawful | apply ok_lawful
    | apply freeBench_lawful | split

theorem benchState_lawful {z : State} (b : Nat) (why : Why) (fence : Word) (s : State) (hz : Lawful z s) :
    Lawful z (benchState b why fence s) := by
  unfold benchState
  try dsimp only
  repeat' with_reducible first
    | exact hz | assumption | apply releaseUnadmitted_lawful | apply modBench_lawful | apply freeBench_lawful | split

theorem benchReply_lawful {z : State} (b : Nat) (s : State) (hz : Lawful z s) : Lawful z (benchReply b s) := by
  unfold benchReply
  try dsimp only
  repeat' with_reducible first | exact hz | assumption | apply modBench_lawful | apply doneLater_lawful | split

theorem endTemperWork_lawful {z : State} (b : Nat) (temper : Bool) (s : State) (hz : Lawful z s) :
    Lawful z (endTemperWork b temper s) := by
  unfold endTemperWork
  try dsimp only
  repeat' with_reducible first | exact hz | assumption | apply endEpoch_lawful | apply endShadow_lawful | split

theorem endBench_lawful {z : State} (b : Nat) (why : Why) (fence : Word) (s : State) (hz : Lawful z s) :
    Lawful z (endBench b why fence s) := by
  unfold endBench
  try dsimp only
  repeat' with_reducible first
    | exact hz | assumption | apply openParts_lawful | apply fixParts_lawful | apply cancelActivation_lawful
    | apply benchState_lawful | apply endTemperWork_lawful | apply benchReply_lawful | apply flushBench_lawful | split

theorem pruneRecipes_lawful {z : State} (s : State) (hz : Lawful z s) : Lawful z (pruneRecipes s) := by
  unfold pruneRecipes
  try dsimp only
  repeat' with_reducible first | exact hz | assumption | apply State.setRcp_lawful | split

theorem undoRt_lawful {z : State} (h : Nat) (s : State) (hz : Lawful z s) : Lawful z (undoRt h s) := by
  unfold undoRt
  try dsimp only
  repeat' with_reducible first | exact hz | assumption | apply State.setAsy_lawful | apply State.setHm_lawful | split

theorem endRecipe_lawful {z : State} (h : Nat) (why : Why) (s : State) (hz : Lawful z s) :
    Lawful z (endRecipe h why s) := by
  unfold endRecipe
  try dsimp only
  repeat' with_reducible first
    | exact hz | assumption | apply undoRt_lawful | apply cancelActivation_lawful | apply fixParts_lawful
    | apply openParts_lawful | apply pruneRecipes_lawful | apply modRecipe_lawful | split

theorem endWork_lawful {z : State} (a : Admission) (why : Why) (s : State) (hz : Lawful z s) :
    Lawful z (endWork a why s) := by
  unfold endWork
  try dsimp only
  repeat' with_reducible first
    | exact hz | assumption | apply endRecipe_lawful | apply endBench_lawful | apply endActuation_lawful
    | apply endEpoch_lawful | apply endTap_lawful | apply endStream_lawful | apply endCapture_lawful
    | apply endShadow_lawful | split

theorem endAdm_lawful {z : State} (a : Admission) (why : Why) (s : State) (hz : Lawful z s) :
    Lawful z (endAdm a why s) := by
  unfold endAdm
  try dsimp only
  repeat' with_reducible first
    | exact hz | assumption | apply endWork_lawful | apply cutBuckets_lawful | apply dropAdm_lawful | split

theorem refreshDemands_lawful {z : State} (v : Nat) (s : State) (hz : Lawful z s) : Lawful z (refreshDemands v s) := by
  unfold refreshDemands
  try dsimp only
  repeat' with_reducible first | exact hz | assumption | apply State.setLed_lawful | split

theorem countRefusal_lawful {z : State} (s : State) (hz : Lawful z s) : Lawful z (countRefusal s) := by
  unfold countRefusal
  try dsimp only
  repeat' with_reducible first | exact hz | assumption | apply State.setLed_lawful | split

theorem tellRevoked_lawful {z : State} (cause : Nat) (budget : Nat) (inst : Nat) (a : Admission) (s : State)
    (hz : Lawful z s) : Lawful z (tellRevoked cause budget inst a s) := by
  unfold tellRevoked
  try dsimp only
  repeat' with_reducible first | exact hz | assumption | apply noticeHolder_lawful | apply State.setLed_lawful | split

theorem revokeOne_lawful {z : State} (cause : Nat) (budget : Nat) (inst : Nat) (a : Admission) (s : State)
    (hz : Lawful z s) : Lawful z (revokeOne cause budget inst a s) := by
  unfold revokeOne
  try dsimp only
  repeat' with_reducible first | exact hz | assumption | apply endAdm_lawful | apply tellRevoked_lawful | split

theorem revokeAll_lawful {z : State} (cause : Nat) (budget : Nat) (inst : Nat) (l : List Admission) (s : State)
    (hz : Lawful z s) : Lawful z (revokeAll cause budget inst l s) := by
  fun_induction revokeAll cause budget inst l s
  all_goals try dsimp only
  repeat' with_reducible first | exact hz | apply_assumption | assumption | apply revokeOne_lawful | split

theorem revokeBench_lawful {z : State} (cause : Nat) (budget : Nat) (inst : Nat) (a : Admission) (s : State)
    (hz : Lawful z s) : Lawful z (revokeBench cause budget inst a s) := by
  unfold revokeBench
  try dsimp only
  repeat' with_reducible first | exact hz | assumption | apply revokeOne_lawful | apply revokeAll_lawful | split

theorem revokeBenches_lawful {z : State} (cause : Nat) (budget : Nat) (inst : Nat) (l : List Admission) (s : State)
    (hz : Lawful z s) : Lawful z (revokeBenches cause budget inst l s) := by
  fun_induction revokeBenches cause budget inst l s
  all_goals try dsimp only
  repeat' with_reducible first | exact hz | apply_assumption | assumption | apply revokeBench_lawful | split

theorem revoke_lawful {z : State} (cause : Nat) (budget : Nat) (inst : Nat) (a : Admission) (s : State) (hz : Lawful z s) :
    Lawful z (revoke cause budget inst a s) := by
  unfold revoke
  try dsimp only
  repeat' with_reducible first
    | exact hz | assumption | apply revokeBenches_lawful | apply revokeOne_lawful | apply revokeBench_lawful | split

theorem shrink_lawful {z : State} (fuel : Nat) (v : Nat) (cause : Nat) (s : State) (hz : Lawful z s) :
    Lawful z (shrink fuel v cause s) := by
  fun_induction shrink fuel v cause s
  all_goals try dsimp only
  repeat' with_reducible first | exact hz | apply_assumption | assumption | apply revoke_lawful | split

theorem revokeStaff_lawful {z : State} (l : List Admission) (s : State) (hz : Lawful z s) :
    Lawful z (revokeStaff l s) := by
  fun_induction revokeStaff l s
  all_goals try dsimp only
  repeat' with_reducible first | exact hz | apply_assumption | assumption | apply revoke_lawful | split

theorem capacityRun_lawful {z : State} (cause : Nat) (s : State) (hz : Lawful z s) : Lawful z (capacityRun cause s) := by
  unfold capacityRun
  try dsimp only
  repeat' with_reducible first
    | exact hz | assumption | apply revokeStaff_lawful | apply refreshDemands_lawful | apply shrink_lawful | split

theorem settleVAdm_lawful {z : State} (s : State) (hz : Lawful z s) : Lawful z (settleVAdm s) := by
  unfold settleVAdm
  try dsimp only
  repeat' with_reducible first
    | exact hz | assumption | apply refreshDemands_lawful | apply State.setLed_lawful | apply capacityRun_lawful
    | split

theorem onCapacityChange_lawful {z : State} (cause : Nat) (s : State) (hz : Lawful z s) :
    Lawful z (onCapacityChange cause s) := by
  unfold onCapacityChange
  try dsimp only
  repeat' with_reducible first | exact hz | assumption | apply settleVAdm_lawful | apply capacityRun_lawful | split

theorem onSupplyWarning_lawful {z : State} (cause : Nat) (s : State) (hz : Lawful z s) :
    Lawful z (onSupplyWarning cause s) := by
  have key : ∀ (c : Nat) (l : List Admission) (s : State), Lawful z s → Lawful z (l.foldl
      (fun s a => if (findAdm s a.handle).isSome then revoke cause 10 c a s else s) s) := by
    intro c l s hs
    refine foldl_lawful (fun s a h => ?_) _ hs
    split
    · exact revoke_lawful _ _ _ _ _ h
    · exact h
  unfold onSupplyWarning
  exact onCapacityChange_lawful _ _ (key _ _ _ (key _ _ _ hz))

theorem noticeCapacity_lawful {z : State} (budget : Nat) (inst : Nat) (s : State) (hz : Lawful z s) :
    Lawful z (noticeCapacity budget inst s) := by
  unfold noticeCapacity
  try dsimp only
  repeat' with_reducible first | exact hz | assumption | apply noticeUnit_lawful | split

theorem noticeBenchCapacity_lawful {z : State} (b : Nat) (s : State) (hz : Lawful z s) :
    Lawful z (noticeBenchCapacity b s) := by
  unfold noticeBenchCapacity
  try dsimp only
  repeat' with_reducible first | exact hz | assumption | apply noticeCapacity_lawful | split

theorem reclaim_lawful {z : State} (fuel : Nat) (v : Nat) (ds : List Demand) (s : State) (hz : Lawful z s) :
    Lawful z (reclaim fuel v ds s) := by
  fun_induction reclaim fuel v ds s
  all_goals try dsimp only
  repeat' with_reducible first | exact hz | apply_assumption | assumption | apply revoke_lawful | split

theorem fillBuckets_lawful {z : State} (cls : Nat) (ds : List Demand) (s : State) (hz : Lawful z s) :
    Lawful z (fillBuckets cls ds s) := by
  unfold fillBuckets
  try dsimp only
  repeat' with_reducible first
    | exact hz | assumption | apply State.setDraw_lawful | split | exact memWrite_wf _ _ _ | exact memPlace_wf _ _ _
    | exact id | intro _
  all_goals first | rfl | assumption | (simp_all; done)

theorem commitAdm_lawful {z : State} (q : Request) (handle : Nat) (s : State) (hz : Lawful z s) :
    Lawful z (commitAdm q handle s) := by
  unfold commitAdm
  try dsimp only
  repeat' with_reducible first | exact hz | assumption | apply fillBuckets_lawful | apply State.setLed_lawful | split

theorem refused_lawful {z : State} (l : List Short) (s : State) (hz : Lawful z s) : Lawful z (refused l s).state := by
  unfold refused
  try dsimp only
  repeat' with_reducible first | exact hz | assumption | apply countRefusal_lawful | split

theorem decideAdm_lawful {z : State} (q : Request) (handle : Nat) (s : State) (hz : Lawful z s) :
    Lawful z (decideAdm q handle s).state := by
  unfold decideAdm
  try dsimp only
  repeat' with_reducible first
    | exact hz | assumption | apply refused_lawful | apply reclaim_lawful | apply commitAdm_lawful | split

theorem admitRecipe_lawful {z : State} (q : Request) (handle : Nat) (s : State) (hz : Lawful z s) :
    Lawful z (admitRecipe q handle s).state := by
  unfold admitRecipe
  try dsimp only
  repeat' with_reducible first
    | exact hz | assumption | apply refused_lawful | apply refreshDemands_lawful | apply reclaim_lawful
    | apply commitAdm_lawful | apply State.setLed_lawful | split

theorem exchange_lawful {z : State} (a : Admission) (ds : List Demand) (s : State) (hz : Lawful z s) :
    Lawful z (exchange a ds s).state := by
  unfold exchange
  try dsimp only
  repeat' with_reducible first
    | exact hz | assumption | apply State.setLed_lawful | apply refused_lawful | apply reclaim_lawful
    | apply cutBuckets_lawful | apply fillBuckets_lawful | split

theorem releaseBenches_lawful {z : State} (l : List Admission) (s : State) (hz : Lawful z s) :
    Lawful z (releaseBenches l s) := by
  fun_induction releaseBenches l s
  all_goals try dsimp only
  repeat' with_reducible first
    | exact hz | apply_assumption | assumption | apply endAdm_lawful | apply tellRevoked_lawful | split

theorem release_lawful {z : State} (a : Admission) (s : State) (hz : Lawful z s) : Lawful z (release a s) := by
  unfold release
  try dsimp only
  repeat' with_reducible first
    | exact hz | assumption | apply settleVAdm_lawful | apply endAdm_lawful | apply releaseBenches_lawful | split

theorem releaseWhere_lawful {z : State} (sel : Admission → Bool) (s : State) (hz : Lawful z s) :
    Lawful z (releaseWhere sel s) := by
  unfold releaseWhere
  refine foldl_lawful (fun s a h => ?_) _ hz
  split
  · exact release_lawful _ _ h
  · exact h

theorem modChan_lawful {z : State} (n : Nat) (f : DioChan → DioChan) (s : State) (hz : Lawful z s) :
    Lawful z (modChan n f s) := by
  unfold modChan
  try dsimp only
  repeat' with_reducible first | exact hz | assumption | apply State.setDio_lawful | split | exact id | intro _
  all_goals first | rfl | assumption | (simp_all; done)

theorem modFeed_lawful {z : State} (k : Nat) (f : Feed → Feed) (s : State) (hz : Lawful z s) :
    Lawful z (modFeed k f s) := by
  unfold modFeed
  try dsimp only
  repeat' with_reducible first | exact hz | assumption | apply State.setDio_lawful | split | exact id | intro _
  all_goals first | rfl | assumption | (simp_all; done)

theorem settleOut_lawful {z : State} (n : Nat) (s : State) (hz : Lawful z s) : Lawful z (settleOut n s) := by
  unfold settleOut
  try dsimp only
  repeat' with_reducible first | exact hz | assumption | apply modChan_lawful | split

theorem logFired_lawful {z : State} (l : List Act) (s : State) (hz : Lawful z s) : Lawful z (logFired l s) := by
  fun_induction logFired l s
  all_goals try dsimp only
  repeat' with_reducible first
    | exact hz | apply_assumption | assumption | apply logActOf_lawful | apply dropAct_lawful | split

theorem endPulse_lawful {z : State} (n : Nat) (s : State) (hz : Lawful z s) : Lawful z (endPulse n s) := by
  unfold endPulse
  try dsimp only
  repeat' with_reducible first | exact hz | assumption | apply settleOut_lawful | apply logFired_lawful | split

theorem skipNow_lawful {z : State} (n : Nat) (s : State) (hz : Lawful z s) : Lawful z (skipNow n s) := by
  unfold skipNow
  try dsimp only
  repeat' with_reducible first
    | exact hz | assumption | apply logActOf_lawful | apply dropAct_lawful | apply State.setDio_lawful | split
    | exact id | intro _
  all_goals first | rfl | assumption | (simp_all; done)

theorem causeOn_lawful {z : State} (b : Nat) (on : Bool) (n : Nat) (s : State) (hz : Lawful z s) :
    Lawful z (causeOn b on n s) := by
  unfold causeOn
  try dsimp only
  repeat' with_reducible first
    | exact hz | assumption | apply modChan_lawful | apply skipNow_lawful | apply endPulse_lawful
    | apply settleOut_lawful | split

theorem causeEach_lawful {z : State} (b : Nat) (on : Bool) (l : List Nat) (s : State) (hz : Lawful z s) :
    Lawful z (causeEach b on l s) := by
  fun_induction causeEach b on l s
  all_goals try dsimp only
  repeat' with_reducible first | exact hz | apply_assumption | assumption | apply causeOn_lawful | split

theorem noticeSafe_lawful {z : State} (b : Nat) (changed : List Nat) (vals : List Word) (s : State) (hz : Lawful z s) :
    Lawful z (noticeSafe b changed vals s) := by
  fun_induction noticeSafe b changed vals s
  all_goals try dsimp only
  repeat' with_reducible first | exact hz | apply_assumption | assumption | apply noticeUnit_lawful | split

theorem setCause_lawful {z : State} (b : Nat) (on : Bool) (l : List Nat) (s : State) (hz : Lawful z s) :
    Lawful z (setCause b on l s) := by
  unfold setCause
  try dsimp only
  repeat' with_reducible first | exact hz | assumption | apply causeEach_lawful | apply noticeSafe_lawful | split

theorem causeReset_lawful {z : State} (s : State) (hz : Lawful z s) : Lawful z (causeReset s) := by
  unfold causeReset
  try dsimp only
  repeat' with_reducible first | exact hz | assumption | apply setCause_lawful | split

theorem settleFeed_lawful {z : State} (k : Nat) (s : State) (hz : Lawful z s) : Lawful z (settleFeed k s) := by
  unfold settleFeed
  try dsimp only
  repeat' with_reducible first | exact hz | assumption | apply modFeed_lawful | apply settleOut_lawful | split

theorem retireEntries_lawful {z : State} (l : List Act) (s : State) (hz : Lawful z s) : Lawful z (retireEntries l s) := by
  fun_induction retireEntries l s
  all_goals try dsimp only
  repeat' with_reducible first
    | exact hz | apply_assumption | assumption | apply logActOf_lawful | apply dropAct_lawful | split

theorem logRetired_lawful {z : State} (cls : Nat) (inst : Nat) (s : State) (hz : Lawful z s) :
    Lawful z (logRetired cls inst s) := by
  unfold logRetired
  try dsimp only
  repeat' with_reducible first | exact hz | assumption | apply logFault_lawful | split

theorem returned_lawful {z : State} (cls : Nat) (inst : Nat) (s : State) (hz : Lawful z s) :
    Lawful z (returned cls inst s) := by
  unfold returned
  try dsimp only
  repeat' with_reducible first | exact hz | assumption | apply logFault_lawful | apply clearUpsets_lawful | split

theorem endEye_lawful {z : State} (l : Nat) (aborted : Bool) (s : State) (hz : Lawful z s) :
    Lawful z (endEye l aborted s) := by
  unfold endEye
  try dsimp only
  repeat' with_reducible first | exact hz | assumption | apply modLane_lawful | apply doneLater_lawful | split

theorem unsentTrigger_lawful {z : State} (l : Nat) (t : SentTrigger) (s : State) (hz : Lawful z s) :
    Lawful z (unsentTrigger l t s) := by
  unfold unsentTrigger
  try dsimp only
  repeat' with_reducible first | exact hz | assumption | apply State.setPln_lawful | split | exact id | intro _
  all_goals first | rfl | assumption | (simp_all; done)

theorem leaveActive_lawful {z : State} (l : Nat) (s : State) (hz : Lawful z s) : Lawful z (leaveActive l s) := by
  unfold leaveActive
  try dsimp only
  repeat' with_reducible first
    | exact hz | assumption | apply unsentTrigger_lawful | apply endEye_lawful | apply modLane_lawful | split

theorem retireLane_lawful {z : State} (l : Nat) (s : State) (hz : Lawful z s) : Lawful z (retireLane l s) := by
  unfold retireLane
  try dsimp only
  repeat' with_reducible first
    | exact hz | assumption | apply modLane_lawful | apply leaveActive_lawful | apply noticeUnit_lawful
    | apply logRetired_lawful | apply wantRecord_lawful | split

theorem retireStake_lawful {z : State} (k : Nat) (s : State) (hz : Lawful z s) : Lawful z (retireStake k s) := by
  unfold retireStake
  try dsimp only
  repeat' with_reducible first
    | exact hz | assumption | apply wantRecord_lawful | apply State.setFab_lawful | apply noticeUnit_lawful
    | apply logRetired_lawful | apply onCapacityChange_lawful | split | exact id | intro _
  all_goals first | rfl | assumption | (simp_all; done)

theorem revokeLost_lawful {z : State} (l : List Admission) (s : State) (hz : Lawful z s) : Lawful z (revokeLost l s) := by
  fun_induction revokeLost l s
  all_goals try dsimp only
  repeat' with_reducible first | exact hz | apply_assumption | assumption | apply revoke_lawful | split

theorem loseObjects_lawful {z : State} (l : List Obj) (s : State) (hz : Lawful z s) : Lawful z (loseObjects l s) := by
  fun_induction loseObjects l s
  all_goals try dsimp only
  repeat' with_reducible first
    | exact hz | apply_assumption | assumption | apply State.setDraw_lawful | apply revokeLost_lawful
    | apply noticeHolder_lawful | split | exact memWrite_wf _ _ _ | exact memPlace_wf _ _ _ | exact id | intro _
  all_goals first | rfl | assumption | (simp_all; done)

theorem modDram_lawful {z : State} (ch : Nat) (f : DramChan → DramChan) (s : State) (hz : Lawful z s) :
    Lawful z (modDram ch f s) := by
  unfold modDram
  try dsimp only
  repeat' with_reducible first
    | exact hz | assumption | apply State.setDraw_lawful | split | exact memWrite_wf _ _ _ | exact memPlace_wf _ _ _
    | exact id | intro _
  all_goals first | rfl | assumption | (simp_all; done)

theorem placeCopy_lawful {z : State} (b : Nat) (item : Nat) (s : State) (hz : Lawful z s) :
    Lawful z (placeCopy b item s) := by
  unfold placeCopy
  try dsimp only
  repeat' with_reducible first | exact hz | assumption | apply modBench_lawful | split

theorem remakeCopies_lawful {z : State} (ch : Nat) (s : State) (hz : Lawful z s) : Lawful z (remakeCopies ch s) := by
  unfold remakeCopies
  try dsimp only
  repeat' with_reducible first
    | exact hz | assumption | apply State.setRcp_lawful | apply State.setFab_lawful | split | exact id | intro _
  all_goals first | rfl | assumption | (simp_all; done)

theorem retireDram_lawful {z : State} (ch : Nat) (s : State) (hz : Lawful z s) : Lawful z (retireDram ch s) := by
  unfold retireDram
  try dsimp only
  repeat' with_reducible first
    | exact hz | assumption | apply noticeUnit_lawful | apply logFault_lawful | apply wantRecord_lawful
    | apply remakeCopies_lawful | apply modDram_lawful | apply logRetired_lawful | apply onCapacityChange_lawful
    | apply loseObjects_lawful | split

theorem retireChannel_lawful {z : State} (n : Nat) (s : State) (hz : Lawful z s) : Lawful z (retireChannel n s) := by
  unfold retireChannel
  try dsimp only
  repeat' with_reducible first
    | exact hz | assumption | apply endPulse_lawful | apply wantRecord_lawful | apply modChan_lawful
    | apply noticeUnit_lawful | apply logRetired_lawful | apply retireEntries_lawful | split

theorem retireFeed_lawful {z : State} (k : Nat) (s : State) (hz : Lawful z s) : Lawful z (retireFeed k s) := by
  unfold retireFeed
  try dsimp only
  repeat' with_reducible first
    | exact hz | assumption | apply endPulse_lawful | apply wantRecord_lawful | apply modFeed_lawful
    | apply retireEntries_lawful | apply settleFeed_lawful | apply onCapacityChange_lawful | apply noticeUnit_lawful
    | apply logRetired_lawful | split

theorem retireNow_lawful {z : State} (cls : Nat) (inst : Nat) (s : State) (hz : Lawful z s) :
    Lawful z (retireNow cls inst s) := by
  unfold retireNow
  try dsimp only
  repeat' with_reducible first
    | exact hz | assumption | apply retireLane_lawful | apply retireStake_lawful | apply retireDram_lawful
    | apply retireChannel_lawful | apply retireFeed_lawful | split

theorem checkRetire_lawful {z : State} (cls : Nat) (inst : Nat) (s : State) (hz : Lawful z s) :
    Lawful z (checkRetire cls inst s) := by
  unfold checkRetire
  try dsimp only
  repeat' with_reducible first | exact hz | assumption | apply deferRetirement_lawful | apply retireNow_lawful | split

theorem upsetRetire_lawful {z : State} (cls : Nat) (inst : Nat) (how : Nat) (injected : Bool) (retries : Nat)
    (affected : Nat) (s : State) (hz : Lawful z s) : Lawful z (upsetRetire cls inst how injected retries affected s) := by
  unfold upsetRetire
  try dsimp only
  repeat' with_reducible first | exact hz | assumption | apply upset_lawful | apply checkRetire_lawful | split

theorem retireEach_lawful {z : State} (l : List (Nat × Nat)) (s : State) (hz : Lawful z s) : Lawful z (retireEach l s) := by
  induction l generalizing s with
  | nil => exact hz
  | cons x r ih =>
    obtain ⟨c, i⟩ := x
    unfold retireEach
    apply ih
    split
    · exact hz
    · exact retireNow_lawful _ _ _ hz

theorem settleRetirements_lawful {z : State} (s : State) (hz : Lawful z s) : Lawful z (settleRetirements s) := by
  unfold settleRetirements
  try dsimp only
  repeat' with_reducible first | exact hz | assumption | apply retireEach_lawful | apply State.setFlt_lawful | split

theorem openSlot_lawful {z : State} (c : Nat) (k : Int) (sp : Word) (scan : Word) (sent : Bool) (fresh : Bool) (s : State)
    (hz : Lawful z s) : Lawful z (openSlot c k sp scan sent fresh s) := by
  unfold openSlot
  try dsimp only
  repeat' with_reducible first | exact hz | assumption | apply modPlnChan_lawful | split

theorem openSlots_lawful {z : State} (l : List Nat) (k : Int) (sp : Word) (scan : Word) (sentOn : List Nat) (fresh : Bool)
    (s : State) (hz : Lawful z s) : Lawful z (openSlots l k sp scan sentOn fresh s) := by
  fun_induction openSlots l k sp scan sentOn fresh s
  all_goals try dsimp only
  repeat' with_reducible first | exact hz | apply_assumption | assumption | apply openSlot_lawful | split

theorem deliverSegment_lawful {z : State} (l : List Nat) (g : Segment) (s : State) (hz : Lawful z s) :
    Lawful z (deliverSegment l g s) := by
  fun_induction deliverSegment l g s
  all_goals try dsimp only
  repeat' with_reducible first | exact hz | apply_assumption | assumption | apply modPlnChan_lawful | split

theorem upsetSlot_lawful {z : State} (c : Nat) (k : Int) (ps : List Nat) (s : State) (hz : Lawful z s) :
    Lawful z (upsetSlot c k ps s) := by
  unfold upsetSlot
  try dsimp only
  repeat' with_reducible first | exact hz | assumption | apply modPlnChan_lawful | split

theorem poisonSlots_lawful {z : State} (addr : Nat) (s : State) (hz : Lawful z s) : Lawful z (poisonSlots addr s) := by
  unfold poisonSlots
  try dsimp only
  repeat' with_reducible first | exact hz | assumption | apply State.setPln_lawful | split | exact id | intro _
  all_goals first | rfl | assumption | (simp_all; done)

theorem ringBytes_lawful {z : State} (base : Nat) (size : Nat) (at_ : Nat) (b : Bytes) (s : State) (hz : Lawful z s) :
    Lawful z (ringBytes base size at_ b s) := by
  unfold ringBytes
  try dsimp only
  repeat' with_reducible first | exact hz | assumption | apply unitWrite_lawful | split

theorem statWrite_lawful {z : State} (v : Nat) (ty : Nat) (sp : Word) (body : Bytes) (s : State) (hz : Lawful z s) :
    Lawful z (statWrite v ty sp body s) := by
  unfold statWrite
  try dsimp only
  repeat' with_reducible first | exact hz | assumption | apply modView_lawful | apply ringBytes_lawful | split

theorem concRecord_lawful {z : State} (c : Nat) (x : ConcRun) (s : State) (hz : Lawful z s) :
    Lawful z (concRecord c x s) := by
  unfold concRecord
  try dsimp only
  repeat' with_reducible first
    | exact hz | assumption | apply statWrite_lawful | apply noticeUnitAt_lawful | apply modPlnChan_lawful | split

theorem concRecords_lawful {z : State} (c : Nat) (l : List ConcRun) (s : State) (hz : Lawful z s) :
    Lawful z (concRecords c l s) := by
  fun_induction concRecords c l s
  all_goals try dsimp only
  repeat' with_reducible first | exact hz | apply_assumption | assumption | apply concRecord_lawful | split

theorem settleRuns_lawful {z : State} (c : Nat) (mine : ConcRun → Bool) (restart : Bool) (new : List ConcRun) (s : State)
    (hz : Lawful z s) : Lawful z (settleRuns c mine restart new s) := by
  unfold settleRuns
  try dsimp only
  repeat' with_reducible first | exact hz | assumption | apply concRecords_lawful | apply modPlnChan_lawful | split

theorem tapOne_lawful {z : State} (tflags : Nat) (sp : Word) (scan : Word) (first : Nat) (count : Nat) (data : Bytes)
    (t : Tap) (s : State) (hz : Lawful z s) : Lawful z (tapOne tflags sp scan first count data t s) := by
  unfold tapOne
  try dsimp only
  repeat' with_reducible first
    | exact hz | assumption | apply State.setPln_lawful | apply unitWrite_lawful | split | exact id | intro _
  all_goals first | rfl | assumption | (simp_all; done)

theorem tapEach_lawful {z : State} (tflags : Nat) (sp : Word) (scan : Word) (first : Nat) (count : Nat) (data : Bytes)
    (l : List Tap) (s : State) (hz : Lawful z s) : Lawful z (tapEach tflags sp scan first count data l s) := by
  fun_induction tapEach tflags sp scan first count data l s
  all_goals try dsimp only
  repeat' with_reducible first | exact hz | apply_assumption | assumption | apply tapOne_lawful | split

theorem tapRecord_lawful {z : State} (point : Nat) (source : Nat) (tflags : Nat) (sp : Word) (scan : Word) (first : Nat)
    (count : Nat) (data : Bytes) (s : State) (hz : Lawful z s) :
    Lawful z (tapRecord point source tflags sp scan first count data s) := by
  unfold tapRecord
  try dsimp only
  repeat' with_reducible first | exact hz | assumption | apply tapEach_lawful | split

theorem stage2_lawful {z : State} (n : Nat) (x : Slot) (later : List Slot) (s : State) (hz : Lawful z s) :
    Lawful z (stage2 n x later s) := by
  unfold stage2
  try dsimp only
  repeat' with_reducible first
    | exact hz | assumption | apply tapRecord_lawful | apply modPlnChan_lawful | apply settleRuns_lawful | split

theorem passSlot_lawful {z : State} (n : Nat) (s : State) (hz : Lawful z s) : Lawful z (passSlot n s) := by
  unfold passSlot
  try dsimp only
  repeat' with_reducible first | exact hz | assumption | apply stage2_lawful | split

theorem goLane_lawful {z : State} (l : Nat) (st : LaneState) (rate : Nat) (s : State) (hz : Lawful z s) :
    Lawful z (goLane l st rate s) := by
  unfold goLane
  try dsimp only
  repeat' with_reducible first | exact hz | assumption | apply modLane_lawful | split

theorem sendUplink_lawful {z : State} (l : Nat) (ty : Nat) (payload : Bytes) (s : State) (hz : Lawful z s) :
    Lawful z (sendUplink l ty payload s) := by
  unfold sendUplink
  try dsimp only
  repeat' with_reducible first | exact hz | assumption | apply State.emit_lawful | apply modLane_lawful | split

theorem sendTrain_lawful {z : State} (l : Nat) (rate : Nat) (s : State) (hz : Lawful z s) :
    Lawful z (sendTrain l rate s) := by
  unfold sendTrain
  try dsimp only
  repeat' with_reducible first | exact hz | assumption | apply sendUplink_lawful | split

theorem goTrain_lawful {z : State} (l : Nat) (rate : Nat) (s : State) (hz : Lawful z s) :
    Lawful z (goTrain l rate s) := by
  unfold goTrain
  try dsimp only
  repeat' with_reducible first | exact hz | assumption | apply sendTrain_lawful | apply goLane_lawful | split

theorem goDetect_lawful {z : State} (l : Nat) (s : State) (hz : Lawful z s) : Lawful z (goDetect l s) := by
  unfold goDetect
  try dsimp only
  repeat' with_reducible first | exact hz | assumption | apply goLane_lawful | apply modLane_lawful | split

theorem noticeUp_lawful {z : State} (l : Nat) (s : State) (hz : Lawful z s) : Lawful z (noticeUp l s) := by
  unfold noticeUp
  try dsimp only
  repeat' with_reducible first | exact hz | assumption | apply noticeUnit_lawful | split

theorem noticeDown_lawful {z : State} (l : Nat) (cause : Nat) (s : State) (hz : Lawful z s) :
    Lawful z (noticeDown l cause s) := by
  unfold noticeDown
  try dsimp only
  repeat' with_reducible first | exact hz | assumption | apply noticeUnit_lawful | split

theorem goActive_lawful {z : State} (l : Nat) (rate : Nat) (s : State) (hz : Lawful z s) :
    Lawful z (goActive l rate s) := by
  unfold goActive
  try dsimp only
  repeat' with_reducible first
    | exact hz | assumption | apply goLane_lawful | apply modLane_lawful | apply recovered_lawful
    | apply noticeUp_lawful | split

theorem laneFalls_lawful {z : State} (l : Nat) (how : Nat) (injected : Bool) (s : State) (hz : Lawful z s) :
    Lawful z (laneFalls l how injected s) := by
  unfold laneFalls
  try dsimp only
  repeat' with_reducible first
    | exact hz | assumption | apply leaveActive_lawful | apply modLane_lawful | apply goTrain_lawful
    | apply goDetect_lawful | apply upsetRetire_lawful | apply noticeDown_lawful | split

theorem upsetEach_lawful {z : State} (how : Nat) (injected : Bool) (ls : List Nat) (s : State) (hz : Lawful z s) :
    Lawful z (upsetEach how injected ls s) := by
  fun_induction upsetEach how injected ls s
  all_goals try dsimp only
  repeat' with_reducible first | exact hz | apply_assumption | assumption | apply laneFalls_lawful | split

theorem followEach_lawful {z : State} (injected : Bool) (ls : List Nat) (s : State) (hz : Lawful z s) :
    Lawful z (followEach injected ls s) := by
  fun_induction followEach injected ls s
  all_goals try dsimp only
  repeat' with_reducible first
    | exact hz | apply_assumption | assumption | apply noticeDown_lawful | apply goDetect_lawful
    | apply leaveActive_lawful | apply modLane_lawful | split

theorem laneUpset_lawful {z : State} (l : Nat) (how : Nat) (injected : Bool) (s : State) (hz : Lawful z s) :
    Lawful z (laneUpset l how injected s) := by
  unfold laneUpset
  try dsimp only
  repeat' with_reducible first | exact hz | assumption | apply followEach_lawful | apply laneFalls_lawful | split

theorem lockLoss_lawful {z : State} (l : Nat) (s : State) (hz : Lawful z s) : Lawful z (lockLoss l s) := by
  unfold lockLoss
  try dsimp only
  repeat' with_reducible first | exact hz | assumption | apply modLane_lawful | apply laneFalls_lawful | split

theorem lockLossEach_lawful {z : State} (ls : List Nat) (s : State) (hz : Lawful z s) : Lawful z (lockLossEach ls s) := by
  fun_induction lockLossEach ls s
  all_goals try dsimp only
  repeat' with_reducible first | exact hz | apply_assumption | assumption | apply lockLoss_lawful | split

theorem blockReceived_lawful {z : State} (l : Nat) (syncErrors : Nat) (line : List Bool) (s : State) (hz : Lawful z s) :
    Lawful z (blockReceived l syncErrors line s) := by
  unfold blockReceived
  try dsimp only
  repeat' with_reducible first | exact hz | assumption | apply lockLoss_lawful | apply modLane_lawful | split

theorem capFault_lawful {z : State} (l : Nat) (changed : Bool) (s : State) (hz : Lawful z s) :
    Lawful z (capFault l changed s) := by
  unfold capFault
  try dsimp only
  repeat' with_reducible first
    | exact hz | assumption | apply noticeDown_lawful | apply goLane_lawful | apply modLane_lawful | split

theorem capExchange_lawful {z : State} (l : Nat) (b : Bytes) (s : State) (hz : Lawful z s) :
    Lawful z (capExchange l b s) := by
  unfold capExchange
  try dsimp only
  repeat' with_reducible first
    | exact hz | assumption | apply modLane_lawful | apply capFault_lawful | apply goDetect_lawful
    | apply sendUplink_lawful | apply goActive_lawful | apply goTrain_lawful | split

theorem fallback_lawful {z : State} (l : Nat) (s : State) (hz : Lawful z s) : Lawful z (fallback l s) := by
  unfold fallback
  try dsimp only
  repeat' with_reducible first | exact hz | assumption | apply modLane_lawful | split

theorem bringupExpired_lawful {z : State} (l : Nat) (s : State) (hz : Lawful z s) : Lawful z (bringupExpired l s) := by
  unfold bringupExpired
  try dsimp only
  repeat' with_reducible first
    | exact hz | assumption | apply goDetect_lawful | apply fallback_lawful | apply goTrain_lawful
    | apply modLane_lawful | split

theorem goEach_lawful {z : State} (st : LaneState) (rate : Nat) (ls : List Nat) (s : State) (hz : Lawful z s) :
    Lawful z (goEach st rate ls s) := by
  fun_induction goEach st rate ls s
  all_goals try dsimp only
  repeat' with_reducible first | exact hz | apply_assumption | assumption | apply goLane_lawful | split

theorem activeEach_lawful {z : State} (rate : Nat) (ls : List Nat) (s : State) (hz : Lawful z s) :
    Lawful z (activeEach rate ls s) := by
  fun_induction activeEach rate ls s
  all_goals try dsimp only
  repeat' with_reducible first | exact hz | apply_assumption | assumption | apply goActive_lawful | split

theorem detectEach_lawful {z : State} (ls : List Nat) (s : State) (hz : Lawful z s) : Lawful z (detectEach ls s) := by
  fun_induction detectEach ls s
  all_goals try dsimp only
  repeat' with_reducible first | exact hz | apply_assumption | assumption | apply goDetect_lawful | split

theorem emitUplinks_lawful {z : State} (l : Nat) (ms : List Bytes) (s : State) (hz : Lawful z s) :
    Lawful z (emitUplinks l ms s) := by
  fun_induction emitUplinks l ms s
  all_goals try dsimp only
  repeat' with_reducible first | exact hz | apply_assumption | assumption | apply State.emit_lawful | split

theorem startCtrl_lawful {z : State} (l : Nat) (p : Packet) (b : Bytes) (s : State) (hz : Lawful z s) :
    Lawful z (startCtrl l p b s) := by
  unfold startCtrl
  try dsimp only
  repeat' with_reducible first
    | exact hz | assumption | apply modLane_lawful | apply commitP_lawful | apply emitUplinks_lawful
    | apply State.emit_lawful | split

theorem ctrlAnswer_lawful {z : State} (l : Nat) (tag : Byte) (data : Bytes) (s : State) (hz : Lawful z s) :
    Lawful z (ctrlAnswer l tag data s) := by
  unfold ctrlAnswer
  try dsimp only
  repeat' with_reducible first
    | exact hz | assumption | apply countFenced_lawful | apply modLane_lawful | apply doneLater_lawful | split

theorem sendTest_lawful {z : State} (l : Nat) (b : List Bool) (s : State) (hz : Lawful z s) :
    Lawful z (sendTest l b s) := by
  unfold sendTest
  try dsimp only
  repeat' with_reducible first | exact hz | assumption | apply State.emit_lawful | split

theorem testLine_lawful {z : State} (l : Nat) (line : List Bool) (s : State) (hz : Lawful z s) :
    Lawful z (testLine l line s) := by
  unfold testLine
  try dsimp only
  repeat' with_reducible first | exact hz | assumption | apply modLane_lawful | apply sendTest_lawful | split

theorem testPair_lawful {z : State} (l : Nat) (line partner : List Bool) (s : State) (hz : Lawful z s) :
    Lawful z (testPair l line partner s) :=
  testLine_lawful _ _ _ (testLine_lawful _ _ _ hz)

theorem eqPinned_lawful {z : State} (l : Nat) (i : Nat) (upper : Bool) (s : State) (hz : Lawful z s) :
    Lawful z (eqPinned l i upper s) := by
  unfold eqPinned
  try dsimp only
  repeat' with_reducible first | exact hz | assumption | apply noticeUnit_lawful | apply modLane_lawful | split

theorem adaptOne_lawful {z : State} (l : Nat) (i : Nat) (v : Int) (s : State) (hz : Lawful z s) :
    Lawful z (adaptOne l i v s) := by
  unfold adaptOne
  try dsimp only
  repeat' with_reducible first | exact hz | assumption | apply modLane_lawful | apply eqPinned_lawful | split

theorem stopLane_lawful {z : State} (l : Nat) (dest : LaneState) (cause : Nat) (s : State) (hz : Lawful z s) :
    Lawful z (stopLane l dest cause s) := by
  unfold stopLane
  try dsimp only
  repeat' with_reducible first
    | exact hz | assumption | apply goLane_lawful | apply modLane_lawful | apply leaveActive_lawful
    | apply noticeDown_lawful | split

theorem applyTrigger_lawful {z : State} (tg : Nat) (p : Nat) (f : Nat) (from_ : Int) (s : State) (hz : Lawful z s) :
    Lawful z (applyTrigger tg p f from_ s) := by
  unfold applyTrigger
  try dsimp only
  repeat' with_reducible first | exact hz | assumption | apply State.setLanes_lawful | split | exact id | intro _
  all_goals first | rfl | assumption | (simp_all; done)

theorem domainOffLanes_lawful {z : State} (ls : List Nat) (s : State) (hz : Lawful z s) :
    Lawful z (domainOffLanes ls s) := by
  fun_induction domainOffLanes ls s
  all_goals try dsimp only
  repeat' with_reducible first
    | exact hz | apply_assumption | assumption | apply noticeDown_lawful | apply goLane_lawful | apply modLane_lawful
    | apply leaveActive_lawful | split

theorem giveTrigger_lawful {z : State} (l : Nat) (t : SentTrigger) (s : State) (hz : Lawful z s) :
    Lawful z (giveTrigger l t s) := by
  unfold giveTrigger
  try dsimp only
  repeat' with_reducible first | exact hz | assumption | apply modLane_lawful | apply State.emit_lawful | split

theorem triggerLane_lawful {z : State} (t : SentTrigger) (l : Nat) (a : List Nat × State) (hz : Lawful z a.2) :
    Lawful z (triggerLane t l a).2 := by
  unfold triggerLane
  try dsimp only
  repeat' with_reducible first | exact hz | assumption | apply modLane_lawful | apply giveTrigger_lawful | split

theorem triggerLanes_lawful {z : State} (t : SentTrigger) (ls : List Nat) (a : List Nat × State) (hz : Lawful z a.2) :
    Lawful z (triggerLanes t ls a).2 := by
  fun_induction triggerLanes t ls a
  all_goals try dsimp only
  repeat' with_reducible first | exact hz | apply_assumption | assumption | apply triggerLane_lawful | split

theorem applyCond_lawful {z : State} (tg : Nat) (p : Long) (s : State) (hz : Lawful z s) :
    Lawful z (applyCond tg p s) := by
  unfold applyCond
  try dsimp only
  repeat' with_reducible first | exact hz | assumption | apply State.setRcp_lawful | split

theorem fire_lawful {z : State} (tg : Nat) (s : State) (hz : Lawful z s) : Lawful z (fire tg s) := by
  unfold fire
  try dsimp only
  repeat' with_reducible first
    | exact hz | assumption | apply State.setLanes_lawful | apply applyCond_lawful | apply triggerLanes_lawful
    | apply openSlots_lawful | split | exact id | intro _
  all_goals first | rfl | assumption | (simp_all; done)

theorem sendTrigger_lawful {z : State} (l : Nat) (t : SentTrigger) (crossed : Nat) (s : State) (hz : Lawful z s) :
    Lawful z (sendTrigger l t crossed s) := by
  unfold sendTrigger
  try dsimp only
  repeat' with_reducible first
    | exact hz | assumption | apply State.emit_lawful | apply modLane_lawful | apply State.at__lawful | split

theorem unmapped_lawful {z : State} (l : Nat) (s : State) (hz : Lawful z s) : Lawful z (unmapped l s) := by
  unfold unmapped
  try dsimp only
  repeat' with_reducible first | exact hz | assumption | apply modLane_lawful | split

theorem camEvent_lawful {z : State} (l : Nat) (vc : Nat) (data : Bytes) (s : State) (hz : Lawful z s) :
    Lawful z (camEvent l vc data s) := by
  unfold camEvent
  try dsimp only
  repeat' with_reducible first | exact hz | assumption | apply noticeUnit_lawful | split

theorem pixelPacket_lawful {z : State} (l : Nat) (p : CamPacket) (bad : Bool) (s : State) (hz : Lawful z s) :
    Lawful z (pixelPacket l p bad s) := by
  unfold pixelPacket
  try dsimp only
  repeat' with_reducible first
    | exact hz | assumption | apply unmapped_lawful | apply modLane_lawful | apply deliverSegment_lawful | split

theorem countInject_lawful {z : State} (l : Nat) (s : State) (hz : Lawful z s) : Lawful z (countInject l s) := by
  unfold countInject
  try dsimp only
  repeat' with_reducible first | exact hz | assumption | apply modLane_lawful | split

theorem countCrc_lawful {z : State} (l : Nat) (injected : Bool) (s : State) (hz : Lawful z s) :
    Lawful z (countCrc l injected s) := by
  unfold countCrc
  try dsimp only
  repeat' with_reducible first | exact hz | assumption | apply modLane_lawful | split

theorem routePacket_lawful {z : State} (l : Nat) (p : CamPacket) (bad : Bool) (s : State) (hz : Lawful z s) :
    Lawful z (routePacket l p bad s) := by
  unfold routePacket
  try dsimp only
  repeat' with_reducible first
    | exact hz | assumption | apply unmapped_lawful | apply pixelPacket_lawful | apply camEvent_lawful
    | apply ctrlAnswer_lawful | split

theorem packetTaken_lawful {z : State} (l : Nat) (w : List RxWord) (s : State) (hz : Lawful z s) :
    Lawful z (packetTaken l w s) := by
  unfold packetTaken
  try dsimp only
  repeat' with_reducible first
    | exact hz | assumption | apply countInject_lawful | apply countCrc_lawful | apply routePacket_lawful | split

theorem modStream_lawful {z : State} (l : Nat) (stream : Byte) (f : CxpStream → CxpStream) (s : State) (hz : Lawful z s) :
    Lawful z (modStream l stream f s) := by
  unfold modStream
  try dsimp only
  repeat' with_reducible first | exact hz | assumption | apply modLane_lawful | split

theorem missEach_lawful {z : State} (ts : List SentTrigger) (cs : List Nat) (s : State) (hz : Lawful z s) :
    Lawful z (missEach ts cs s) := by
  fun_induction missEach ts cs s
  all_goals try dsimp only
  repeat' with_reducible first | exact hz | apply_assumption | assumption | apply modPlnChan_lawful | split

theorem cxpHeader_lawful {z : State} (l : Nat) (stream : Byte) (vc : Nat) (s : State) (hz : Lawful z s) :
    Lawful z (cxpHeader l stream vc s) := by
  unfold cxpHeader
  try dsimp only
  repeat' with_reducible first | exact hz | assumption | apply missEach_lawful | apply modLane_lawful | split

theorem cxpLine_lawful {z : State} (l : Nat) (stream : Byte) (vc : Nat) (first : Nat) (format : Nat) (samples : List Nat)
    (crcGood : Bool) (s : State) (hz : Lawful z s) : Lawful z (cxpLine l stream vc first format samples crcGood s) := by
  unfold cxpLine
  try dsimp only
  repeat' with_reducible first
    | exact hz | assumption | apply countInject_lawful | apply countCrc_lawful | apply unmapped_lawful
    | apply modStream_lawful | apply modLane_lawful | apply deliverSegment_lawful | split

theorem cxpPacket_lawful {z : State} (l : Nat) (p : CxpPacket) (s : State) (hz : Lawful z s) :
    Lawful z (cxpPacket l p s) := by
  unfold cxpPacket
  try dsimp only
  repeat' with_reducible first
    | exact hz | assumption | apply unmapped_lawful | apply cxpHeader_lawful | apply cxpLine_lawful
    | apply camEvent_lawful | split

theorem applyImages_lawful {z : State} (l : List PendingReprog) (s : State) (hz : Lawful z s) :
    Lawful z (applyImages l s) := by
  fun_induction applyImages l s
  all_goals try dsimp only
  repeat' with_reducible first | exact hz | apply_assumption | assumption | apply applyImage_lawful | split

theorem settleImages_lawful {z : State} (v : Nat) (sp : Word) (s : State) (hz : Lawful z s) :
    Lawful z (settleImages v sp s) := by
  unfold settleImages
  try dsimp only
  repeat' with_reducible first
    | exact hz | assumption | apply applyImages_lawful | apply State.setPln_lawful | split | exact id | intro _
  all_goals first | rfl | assumption | (simp_all; done)

theorem stages35_lawful {z : State} (n : Nat) (v : View) (x : ChanLine) (s : State) (hz : Lawful z s) :
    Lawful z (stages35 n v x s).2 := by
  unfold stages35
  try dsimp only
  repeat' with_reducible first
    | exact hz | assumption | apply tapRecord_lawful | apply modPlnChan_lawful | apply settleRuns_lawful | split

theorem blockRecord_lawful {z : State} (v : Nat) (s : State) (hz : Lawful z s) : Lawful z (blockRecord v s) := by
  unfold blockRecord
  try dsimp only
  repeat' with_reducible first | exact hz | assumption | apply modView_lawful | apply statWrite_lawful | split

theorem statLine_lawful {z : State} (v : Nat) (fresh : Bool) (y : ViewLine) (s : State) (hz : Lawful z s) :
    Lawful z (statLine v fresh y s) := by
  unfold statLine
  try dsimp only
  repeat' with_reducible first | exact hz | assumption | apply blockRecord_lawful | apply modView_lawful | split

theorem passClean_lawful {z : State} (k : Int) (ns : List Nat) (s : State) (hz : Lawful z s) :
    Lawful z (passClean k ns s) := by
  fun_induction passClean k ns s
  all_goals try dsimp only
  repeat' with_reducible first | exact hz | apply_assumption | assumption | apply passSlot_lawful | split

theorem dropLines_lawful {z : State} (l : List (Nat × ChanLine)) (s : State) (hz : Lawful z s) :
    Lawful z (dropLines l s) := by
  fun_induction dropLines l s
  all_goals try dsimp only
  repeat' with_reducible first | exact hz | apply_assumption | assumption | apply modPlnChan_lawful | split

theorem allStages35_lawful {z : State} (v : View) (l : List (Nat × ChanLine)) (s : State) (hz : Lawful z s) :
    Lawful z (allStages35 v l s).2 := by
  induction l generalizing s with
  | nil => exact hz
  | cons x r ih => exact ih _ (stages35_lawful _ _ _ _ hz)

theorem viewLine_lawful {z : State} (v : Nat) (k : Int) (l : List (Nat × ChanLine)) (x : ChanLine) (s : State)
    (hz : Lawful z s) : Lawful z (viewLine v k l x s) := by
  unfold viewLine
  try dsimp only
  repeat' with_reducible first
    | exact hz | assumption | apply settleImages_lawful | apply allStages35_lawful | apply tapRecord_lawful
    | apply modView_lawful | apply statLine_lawful | split

theorem skipGap_lawful {z : State} (l : List (Nat × ChanLine)) (s : State) (hz : Lawful z s) :
    Lawful z (skipGap l s) := by
  fun_induction skipGap l s
  all_goals try dsimp only
  repeat' with_reducible first | exact hz | apply_assumption | assumption | apply modPlnChan_lawful | split

theorem skipLine_lawful {z : State} (v : Nat) (l : List (Nat × ChanLine)) (s : State) (hz : Lawful z s) :
    Lawful z (skipLine v l s) := by
  unfold skipLine
  try dsimp only
  repeat' with_reducible first
    | exact hz | assumption | apply blockRecord_lawful | apply modView_lawful | apply skipGap_lawful | split

theorem processLine_lawful {z : State} (v : Nat) (k : Int) (l : List (Nat × ChanLine)) (s : State) (hz : Lawful z s) :
    Lawful z (processLine v k l s) := by
  unfold processLine
  try dsimp only
  repeat' with_reducible first
    | exact hz | assumption | apply dropLines_lawful | apply skipLine_lawful | apply viewLine_lawful | split

theorem countArrival_lawful {z : State} (b : Nat) (s : State) (hz : Lawful z s) : Lawful z (countArrival b s) := by
  unfold countArrival
  try dsimp only
  repeat' with_reducible first
    | exact hz | assumption | apply State.setFab_lawful | apply modBench_lawful | split | exact id | intro _
  all_goals first | rfl | assumption | (simp_all; done)

theorem enqueueTile_lawful {z : State} (b : Nat) (t : Tile) (s : State) (hz : Lawful z s) :
    Lawful z (enqueueTile b t s) := by
  unfold enqueueTile
  try dsimp only
  repeat' with_reducible first
    | exact hz | assumption | apply countArrival_lawful | apply giveHold_lawful | apply modBench_lawful | split

theorem toRecipe_lawful {z : State} (t : Tile) (rowPos : Long) (r : Recipe) (s : State) (hz : Lawful z s) :
    Lawful z (toRecipe t rowPos r s) := by
  unfold toRecipe
  try dsimp only
  repeat' with_reducible first | exact hz | assumption | apply foldHold_lawful | apply enqueueTile_lawful | split

theorem toRecipes_lawful {z : State} (t : Tile) (rowPos : Long) (rs : List Recipe) (s : State) (hz : Lawful z s) :
    Lawful z (toRecipes t rowPos rs s) := by
  fun_induction toRecipes t rowPos rs s
  all_goals try dsimp only
  repeat' with_reducible first | exact hz | apply_assumption | assumption | apply toRecipe_lawful | split

theorem bumpRcp_lawful {z : State} (i : Nat) (s : State) (hz : Lawful z s) : Lawful z (bumpRcp i s) := by
  unfold bumpRcp
  try dsimp only
  repeat' with_reducible first | exact hz | assumption | apply State.setRcp_lawful | split

theorem capture_lawful {z : State} (t : Tile) (s : State) (hz : Lawful z s) : Lawful z (capture t s) := by
  unfold capture
  try dsimp only
  repeat' with_reducible first
    | exact hz | assumption | apply bumpRcp_lawful | apply writeCacheHeader_lawful | apply State.setRcp_lawful
    | apply unitWrite_lawful | split

theorem closeRow_lawful {z : State} (v : Nat) (s : State) (hz : Lawful z s) : Lawful z (closeRow v s) := by
  unfold closeRow
  try dsimp only
  repeat' with_reducible first | exact hz | assumption | apply modView_lawful | split

theorem placeTile_lawful {z : State} (v : Nat) (j : Int) (col : Nat) (s : State) (hz : Lawful z s) :
    Lawful z (placeTile v j col s) := by
  unfold placeTile
  try dsimp only
  repeat' with_reducible first
    | exact hz | assumption | apply modView_lawful | apply State.setLed_lawful | apply toRecipes_lawful
    | apply tapRecord_lawful | apply capture_lawful | apply closeRow_lawful | split

theorem emptyView_lawful {z : State} (v : Nat) (s : State) (hz : Lawful z s) : Lawful z (emptyView v s) := by
  unfold emptyView
  try dsimp only
  repeat' with_reducible first
    | exact hz | assumption | apply modView_lawful | apply State.setPln_lawful | split | exact id | intro _
  all_goals first | rfl | assumption | (simp_all; done)

theorem imgReprog_lawful {z : State} (p : Packet) (where_ : Nat) (what : Reprog) (s : State) (hz : Lawful z s) :
    Lawful z (imgReprog p where_ what s) := by
  unfold imgReprog
  try dsimp only
  repeat' with_reducible first
    | exact hz | assumption | apply refuse_lawful | apply done_lawful | apply noticeApplied_lawful
    | apply applyImage_lawful | apply dropReprog_lawful | apply deferReprog_lawful | split

theorem applyDeferred_lawful {z : State} (b : Long) (r : PendingReprog) (s : State) (hz : Lawful z s) :
    Lawful z (applyDeferred b r s) := by
  unfold applyDeferred
  try dsimp only
  repeat' with_reducible first
    | exact hz | assumption | apply noticeApplied_lawful | apply State.setPln_lawful | apply applyTrigger_lawful
    | apply applyPosition_lawful | apply wantRecord_lawful | apply noticeHolderAt_lawful | split | exact id | intro _
  all_goals first | rfl | assumption | (simp_all; done)

theorem applyEach_lawful {z : State} (b : Long) (l : List PendingReprog) (s : State) (hz : Lawful z s) :
    Lawful z (applyEach b l s) := by
  fun_induction applyEach b l s
  all_goals try dsimp only
  repeat' with_reducible first | exact hz | apply_assumption | assumption | apply applyDeferred_lawful | split

theorem applyDue_lawful {z : State} (b : Long) (s : State) (hz : Lawful z s) : Lawful z (applyDue b s) := by
  unfold applyDue
  try dsimp only
  repeat' with_reducible first | exact hz | assumption | apply applyEach_lawful | apply State.setPos_lawful | split

theorem refillTokens_lawful {z : State} (s : State) (hz : Lawful z s) : Lawful z (refillTokens s) := by
  unfold refillTokens
  try dsimp only
  repeat' with_reducible first
    | exact hz | assumption | apply State.setDraw_lawful | split | exact memWrite_wf _ _ _ | exact memPlace_wf _ _ _
    | exact id | intro _
  all_goals first | rfl | assumption | (simp_all; done)

theorem ssiCheck_lawful {z : State} (w : Word) (s : State) (hz : Lawful z s) : Lawful z (ssiCheck w s) := by
  unfold ssiCheck
  try dsimp only
  repeat' with_reducible first | exact hz | assumption | apply noticeUnit_lawful | apply State.setPos_lawful | split

theorem overAdmCheck_lawful {z : State} (s : State) (hz : Lawful z s) : Lawful z (overAdmCheck s) := by
  unfold overAdmCheck
  try dsimp only
  repeat' with_reducible first | exact hz | assumption | apply noticeUnit_lawful | apply State.setLed_lawful | split

theorem laneWindow_lawful {z : State} (l : Nat) (s : State) (hz : Lawful z s) : Lawful z (laneWindow l s) := by
  unfold laneWindow
  try dsimp only
  repeat' with_reducible first | exact hz | assumption | apply modLane_lawful | apply laneUpset_lawful | split

theorem laneWindows_lawful {z : State} (ls : List Nat) (s : State) (hz : Lawful z s) : Lawful z (laneWindows ls s) := by
  fun_induction laneWindows ls s
  all_goals try dsimp only
  repeat' with_reducible first | exact hz | apply_assumption | assumption | apply laneWindow_lawful | split

theorem autoLevel_lawful {z : State} (v : Nat) (s : State) (hz : Lawful z s) : Lawful z (autoLevel v s) := by
  unfold autoLevel
  try dsimp only
  repeat' with_reducible first | exact hz | assumption | apply modView_lawful | apply noticeUnit_lawful | split

theorem autoLevels_lawful {z : State} (vs : List Nat) (s : State) (hz : Lawful z s) : Lawful z (autoLevels vs s) := by
  fun_induction autoLevels vs s
  all_goals try dsimp only
  repeat' with_reducible first | exact hz | apply_assumption | assumption | apply autoLevel_lawful | split

theorem boundary_lawful {z : State} (w : Word) (s : State) (hz : Lawful z s) : Lawful z (boundary w s) := by
  unfold boundary
  try dsimp only
  repeat' with_reducible first
    | exact hz | assumption | apply applyDue_lawful | apply State.setLed_lawful | apply autoLevels_lawful
    | apply laneWindows_lawful | apply overAdmCheck_lawful | apply ssiCheck_lawful | apply refillTokens_lawful
    | apply State.setPos_lawful | split

theorem writePlace_lawful {z : State} (p : Place) (b : Bytes) (s : State) (hz : Lawful z s) :
    Lawful z (writePlace p b s) := by
  unfold writePlace
  try dsimp only
  repeat' with_reducible first
    | exact hz | assumption | apply State.setHost_lawful | apply unitWrite_lawful | split | exact memWrite_wf _ _ _
    | exact memPlace_wf _ _ _ | intro _
  all_goals first | rfl | assumption | (simp_all; done)

theorem eccUnc_lawful {z : State} (a : Long) (consumer : Nat) (s : State) (hz : Lawful z s) :
    Lawful z (eccUnc a consumer s) := by
  unfold eccUnc
  try dsimp only
  repeat' with_reducible first | exact hz | assumption | apply noticeUnit_lawful | apply modDram_lawful | split

theorem tablePoison_lawful {z : State} (port : Nat) (table : Option Nat) (s : State) (hz : Lawful z s) :
    Lawful z (tablePoison port table s) := by
  unfold tablePoison
  try dsimp only
  repeat' with_reducible first | exact hz | assumption | apply eccUnc_lawful | split

theorem writePlaceBut_lawful {z : State} (lost : Option Nat) (p : Place) (b : Bytes) (s : State) (hz : Lawful z s) :
    Lawful z (writePlaceBut lost p b s) := by
  unfold writePlaceBut
  try dsimp only
  repeat' with_reducible first | exact hz | assumption | apply writePlace_lawful | apply unitWrite_lawful | split

theorem moveObj_lawful {z : State} (o : Obj) (ch : Nat) (a : Nat) (s : State) (hz : Lawful z s) :
    Lawful z (moveObj o ch a s) := by
  unfold moveObj
  try dsimp only
  repeat' with_reducible first
    | exact hz | assumption | apply State.setDraw_lawful | apply unitWrite_lawful | split | exact memWrite_wf _ _ _
    | exact memPlace_wf _ _ _ | exact id | intro _
  all_goals first | rfl | assumption | (simp_all; done)

theorem makeRoom_lawful {z : State} (fuel n : Nat) (s : State) (hz : Lawful z s) : Lawful z (makeRoom fuel n s) := by
  induction fuel generalizing s with
  | zero => exact hz
  | succ k ih =>
    unfold makeRoom
    repeat' with_reducible first | exact hz | apply ih | apply moveObj_lawful | split

theorem queueList_lawful {z : State} (p : Packet) (engine : Nat) (cmds : List Cmd) (s : State) (hz : Lawful z s) :
    Lawful z (queueList p engine cmds s) := by
  unfold queueList
  try dsimp only
  repeat' with_reducible first
    | exact hz | assumption | apply modP_lawful | apply State.setFab_lawful | split | exact id | intro _
  all_goals first | rfl | assumption | (simp_all; done)

theorem fetchFail_lawful {z : State} (p : Packet) (s : State) (hz : Lawful z s) : Lawful z (fetchFail p s) := by
  unfold fetchFail
  try dsimp only
  repeat' with_reducible first | exact hz | assumption | apply ringError_lawful | apply refuse_lawful | split

theorem takeList_lawful {z : State} (engine : Nat) (poisoned : Bool) (p : Packet) (s : State) (hz : Lawful z s) :
    Lawful z (takeList engine poisoned p s) := by
  unfold takeList
  try dsimp only
  repeat' with_reducible first
    | exact hz | assumption | apply refuse_lawful | apply fetchFail_lawful | apply tablePoison_lawful
    | apply refuseWith_lawful | apply queueList_lawful | split

theorem modList_lawful {z : State} (l : CmdList) (f : CmdList → CmdList) (s : State) (hz : Lawful z s) :
    Lawful z (modList l f s) := by
  unfold modList
  try dsimp only
  repeat' with_reducible first | exact hz | assumption | apply State.setFab_lawful | split | exact id | intro _
  all_goals first | rfl | assumption | (simp_all; done)

theorem advance_lawful {z : State} (l : CmdList) (s : State) (hz : Lawful z s) : Lawful z (advance l s) := by
  unfold advance
  try dsimp only
  repeat' with_reducible first | exact hz | assumption | apply modList_lawful | apply endList_lawful | split

theorem failCmd_lawful {z : State} (l : CmdList) (st : Half) (s : State) (hz : Lawful z s) :
    Lawful z (failCmd l st s) := by
  unfold failCmd
  try dsimp only
  repeat' with_reducible first | exact hz | assumption | apply failList_lawful | split

theorem withCmd_lawful {z : State} (engine cmd : Nat) (s : State) (f : CmdList → Cmd → State) (hz : Lawful z s)
    (hf : ∀ l c, Lawful z (f l c)) : Lawful z (withCmd engine cmd s f) := by
  unfold withCmd
  repeat' with_reducible first | exact hz | exact hf _ _ | split

theorem passWait_lawful {z : State} (l : CmdList) (s : State) (hz : Lawful z s) : Lawful z (passWait l s) := by
  unfold passWait
  try dsimp only
  repeat' with_reducible first
    | exact hz | assumption | apply cancelP_lawful | apply modList_lawful | apply commitP_lawful
    | apply endList_lawful | split

theorem dmaFail_lawful {z : State} (l : CmdList) (s : State) (hz : Lawful z s) : Lawful z (dmaFail l s) := by
  unfold dmaFail
  try dsimp only
  repeat' with_reducible first | exact hz | assumption | apply failCmd_lawful | apply ringError_lawful | split

theorem endWrite_lawful {z : State} (l : CmdList) (lost : Option Nat) (s : State) (hz : Lawful z s) :
    Lawful z (endWrite l lost s) := by
  unfold endWrite
  try dsimp only
  repeat' with_reducible first | exact hz | assumption | apply failList_lawful | apply advance_lawful | split

theorem failPoisoned_lawful {z : State} (l : CmdList) (port : Nat) (op : Option Long) (table : Option Nat) (s : State)
    (hz : Lawful z s) : Lawful z (failPoisoned l port op table s) := by
  unfold failPoisoned
  try dsimp only
  repeat' with_reducible first | exact hz | assumption | apply failList_lawful | apply tablePoison_lawful | split

theorem takeCal_lawful {z : State} (l : CmdList) (what : Reprog) (s : State) (hz : Lawful z s) :
    Lawful z (takeCal l what s) := by
  unfold takeCal
  try dsimp only
  repeat' with_reducible first
    | exact hz | assumption | apply advance_lawful | apply noticeApplied_lawful | apply applyImage_lawful
    | apply dropReprog_lawful | apply modList_lawful | split

theorem calLoad_lawful {z : State} (kind : Nat) (poisonedAt : Option Long) (s : State) (l : CmdList) (c : Cmd)
    (hz : Lawful z s) : Lawful z (calLoad kind poisonedAt s l c) := by
  unfold calLoad
  try dsimp only
  repeat' with_reducible first
    | exact hz | assumption | apply failCmd_lawful | apply failPoisoned_lawful | apply takeCal_lawful | split

theorem releaseBench_lawful {z : State} (b : Nat) (s : State) (hz : Lawful z s) : Lawful z (releaseBench b s) := by
  unfold releaseBench
  try dsimp only
  repeat' with_reducible first | exact hz | assumption | apply release_lawful | apply freeBench_lawful | split

theorem pendingReleases_lawful {z : State} (b : Nat) (forced : Bool) (l : List Ref) (s : State) (hz : Lawful z s) :
    Lawful z (pendingReleases b forced l s) := by
  unfold pendingReleases
  try dsimp only
  repeat' with_reducible first
    | exact hz | assumption | apply cancelExpired_lawful | apply refuseGone_lawful | apply freeBench_lawful
    | apply ok_lawful | apply releaseBench_lawful | split

theorem buildReply_lawful {z : State} (b : Nat) (s : State) (hz : Lawful z s) : Lawful z (buildReply b s) := by
  unfold buildReply
  try dsimp only
  repeat' with_reducible first | exact hz | assumption | apply doneLater_lawful | apply modBench_lawful | split

theorem endChange_lawful {z : State} (b : Nat) (s : State) (hz : Lawful z s) : Lawful z (endChange b s) := by
  unfold endChange
  try dsimp only
  repeat' with_reducible first
    | exact hz | assumption | apply modBench_lawful | apply pendingReleases_lawful | apply buildReply_lawful | split

theorem placeCopies_lawful {z : State} (b : Nat) (s : State) (hz : Lawful z s) : Lawful z (placeCopies b s) := by
  unfold placeCopies
  try dsimp only
  repeat' with_reducible first | exact hz | assumption | apply placeCopy_lawful | split

theorem buildAdmit_lawful {z : State} (p : Packet) (pick : Nat) (image : Bytes) (cert : Bytes) (s : State)
    (hz : Lawful z s) : Lawful z (buildAdmit p pick image cert s) := by
  unfold buildAdmit
  try dsimp only
  repeat' with_reducible first
    | exact hz | assumption | apply makeRoom_lawful | apply refuseWith_lawful | apply countRefusal_lawful
    | apply modBench_lawful | apply decideAdm_lawful | apply commitP_lawful | apply placeCopies_lawful | split

theorem rebuildCommit_lawful {z : State} (p : Packet) (image : Bytes) (c : Cert) (s : State) (hz : Lawful z s) :
    Lawful z (rebuildCommit p image c s) := by
  unfold rebuildCommit
  try dsimp only
  repeat' with_reducible first
    | exact hz | assumption | apply done_lawful | apply modBench_lawful | apply ok_lawful | apply placeCopy_lawful
    | split

theorem settleExchange_lawful {z : State} (a : Admission) (b : Nat) (x : Bench) (s : State) (hz : Lawful z s) :
    Lawful z (settleExchange a b x s) := by
  unfold settleExchange
  try dsimp only
  repeat' with_reducible first | exact hz | assumption | apply State.setLed_lawful | split

theorem rebuildAdmit_lawful {z : State} (p : Packet) (image : Bytes) (cert : Bytes) (s : State) (hz : Lawful z s) :
    Lawful z (rebuildAdmit p image cert s) := by
  unfold rebuildAdmit
  try dsimp only
  repeat' with_reducible first
    | exact hz | assumption | apply refuse_lawful | apply exchange_lawful | apply refuseWith_lawful
    | apply rebuildCommit_lawful | apply settleExchange_lawful | split

theorem startGen_lawful {z : State} (h : Nat) (g : Word) (s : State) (hz : Lawful z s) : Lawful z (startGen h g s) := by
  unfold startGen
  try dsimp only
  repeat' with_reducible first | exact hz | assumption | apply State.setLed_lawful | split

theorem readmitAdmit_lawful {z : State} (p : Packet) (pick : Nat) (s : State) (hz : Lawful z s) :
    Lawful z (readmitAdmit p pick s) := by
  unfold readmitAdmit
  try dsimp only
  repeat' with_reducible first
    | exact hz | assumption | apply decideAdm_lawful | apply refuseWith_lawful | apply startGen_lawful
    | apply modBench_lawful | apply ok_lawful | split

theorem bumpAdm_lawful {z : State} (h : Nat) (s : State) (hz : Lawful z s) : Lawful z (bumpAdm h s) := by
  unfold bumpAdm
  try dsimp only
  repeat' with_reducible first | exact hz | assumption | apply State.setLed_lawful | split

theorem rewindEpoch_lawful {z : State} (b : Nat) (s : State) (hz : Lawful z s) : Lawful z (rewindEpoch b s) := by
  unfold rewindEpoch
  try dsimp only
  repeat' with_reducible first | exact hz | assumption | apply State.setRcp_lawful | split

theorem startReset_lawful {z : State} (b : Nat) (stake : Nat) (cause : Nat) (more : Nat) (injected : Bool) (s : State)
    (hz : Lawful z s) : Lawful z (startReset b stake cause more injected s) := by
  unfold startReset
  try dsimp only
  repeat' with_reducible first
    | exact hz | assumption | apply bumpAdm_lawful | apply flushBench_lawful | apply rewindEpoch_lawful
    | apply bumpBench_lawful | apply modBench_lawful | split

theorem privateFaultOf_lawful {z : State} (more : Nat) (b : Nat) (stake : Nat) (cause : Nat) (injected : Bool) (s : State)
    (hz : Lawful z s) : Lawful z (privateFaultOf more b stake cause injected s) := by
  unfold privateFaultOf
  try dsimp only
  repeat' with_reducible first
    | exact hz | assumption | apply countUpset_lawful | apply logFault_lawful | apply checkRetire_lawful
    | apply supersede_lawful | apply upsetRetire_lawful | apply startReset_lawful | split

theorem privateFault_lawful {z : State} (b : Nat) (stake : Nat) (cause : Nat) (injected : Bool) (s : State)
    (hz : Lawful z s) : Lawful z (privateFault b stake cause injected s) := by
  unfold privateFault
  try dsimp only
  repeat' with_reducible first | exact hz | assumption | apply privateFaultOf_lawful | split

theorem notePromoted_lawful {z : State} (opcode : Half) (cand : Nat) (recipe : Nat) (bd : Long) (s : State)
    (hz : Lawful z s) : Lawful z (notePromoted opcode cand recipe bd s) := by
  unfold notePromoted
  try dsimp only
  repeat' with_reducible first | exact hz | assumption | apply noticeHolderAt_lawful | apply modRecipe_lawful | split

theorem noticeApplies_lawful {z : State} (tenant : Nat) (b : Nat) (what : Nat) (bd : Long) (s : State) (hz : Lawful z s) :
    Lawful z (noticeApplies tenant b what bd s) := by
  unfold noticeApplies
  try dsimp only
  repeat' with_reducible first | exact hz | assumption | apply noticeHolderAt_lawful | split

theorem applyChange_lawful {z : State} (b : Nat) (c : BenchChange) (bd : Long) (s : State) (hz : Lawful z s) :
    Lawful z (applyChange b c bd s) := by
  unfold applyChange
  try dsimp only
  repeat' with_reducible first
    | exact hz | assumption | apply noticeApplies_lawful | apply placeCopy_lawful | apply modBench_lawful
    | apply notePromoted_lawful | split

theorem settleCycles_lawful {z : State} (s : State) (hz : Lawful z s) : Lawful z (settleCycles s) := by
  unfold settleCycles
  try dsimp only
  repeat' with_reducible first | exact hz | assumption | apply State.setFab_lawful | split | exact id | intro _
  all_goals first | rfl | assumption | (simp_all; done)

theorem dropRun_lawful {z : State} (b : Nat) (r : Running) (s : State) (hz : Lawful z s) : Lawful z (dropRun b r s) := by
  unfold dropRun
  try dsimp only
  repeat' with_reducible first | exact hz | assumption | apply modBench_lawful | split

theorem countTile_lawful {z : State} (b : Nat) (m : ModelResult) (s : State) (hz : Lawful z s) :
    Lawful z (countTile b m s) := by
  unfold countTile
  try dsimp only
  repeat' with_reducible first | exact hz | assumption | apply bumpBench_lawful | apply modBench_lawful | split

theorem overrun_lawful {z : State} (b : Nat) (r : Running) (s : State) (hz : Lawful z s) : Lawful z (overrun b r s) := by
  unfold overrun
  try dsimp only
  repeat' with_reducible first
    | exact hz | assumption | apply dropRun_lawful | apply giveHold_lawful | apply privateFault_lawful
    | apply bumpBench_lawful | split

theorem complete_lawful {z : State} (b : Nat) (r : Running) (s : State) (hz : Lawful z s) :
    Lawful z (complete b r s) := by
  unfold complete
  try dsimp only
  repeat' with_reducible first
    | exact hz | assumption | apply overrun_lawful | apply fabFenced_lawful | apply dropRun_lawful
    | apply toHallmark_lawful | apply countTile_lawful | split

theorem retireOfBench_lawful {z : State} (b : Nat) (s : State) (hz : Lawful z s) : Lawful z (retireOfBench b s) := by
  unfold retireOfBench
  try dsimp only
  repeat' with_reducible first | exact hz | assumption | apply retireEach_lawful | apply State.setFlt_lawful | split

theorem resetDone_lawful {z : State} (b : Nat) (imageOk : Bool) (stake : Nat) (cause : Nat) (held : Nat) (injected : Bool)
    (s : State) (hz : Lawful z s) : Lawful z (resetDone b imageOk stake cause held injected s) := by
  unfold resetDone
  try dsimp only
  repeat' with_reducible first
    | exact hz | assumption | apply endChange_lawful | apply recovered_lawful | apply equivLost_lawful
    | apply noticeHolder_lawful | apply settleRetirements_lawful | apply retireOfBench_lawful | split

theorem loseBench_lawful {z : State} (b : Nat) (s : State) (hz : Lawful z s) : Lawful z (loseBench b s) := by
  unfold loseBench
  try dsimp only
  repeat' with_reducible first
    | exact hz | assumption | apply supersede_lawful | apply bumpAdm_lawful | apply flushBench_lawful
    | apply rewindEpoch_lawful | apply modBench_lawful | split

theorem loseBenches_lawful {z : State} (l : List Nat) (s : State) (hz : Lawful z s) : Lawful z (loseBenches l s) := by
  fun_induction loseBenches l s
  all_goals try dsimp only
  repeat' with_reducible first | exact hz | apply_assumption | assumption | apply loseBench_lawful | split

theorem reinitShared_lawful {z : State} (l : List Obj) (s : State) (hz : Lawful z s) : Lawful z (reinitShared l s) := by
  fun_induction reinitShared l s
  all_goals try dsimp only
  repeat' with_reducible first | exact hz | apply_assumption | assumption | apply unitWrite_lawful | split

theorem chipLose_lawful {z : State} (cause : Nat) (injected : Bool) (s : State) (hz : Lawful z s) :
    Lawful z (chipLose cause injected s) := by
  unfold chipLose
  try dsimp only
  repeat' with_reducible first
    | exact hz | assumption | apply supersede_lawful | apply loseBenches_lawful | apply reinitShared_lawful
    | apply State.setFab_lawful | split | exact id | intro _
  all_goals first | rfl | assumption | (simp_all; done)

theorem chipFault_lawful {z : State} (cause : Nat) (injected : Bool) (s : State) (hz : Lawful z s) :
    Lawful z (chipFault cause injected s) := by
  unfold chipFault
  try dsimp only
  repeat' with_reducible first | exact hz | assumption | apply upset_lawful | apply chipLose_lawful | split

theorem repeatCmd_lawful {z : State} (engine : Nat) (s : State) (hz : Lawful z s) : Lawful z (repeatCmd engine s) := by
  unfold repeatCmd
  try dsimp only
  repeat' with_reducible first | exact hz | assumption | apply failCmd_lawful | split

theorem repeatCmds_lawful {z : State} (l : List Nat) (s : State) (hz : Lawful z s) : Lawful z (repeatCmds l s) := by
  fun_induction repeatCmds l s
  all_goals try dsimp only
  repeat' with_reducible first | exact hz | apply_assumption | assumption | apply repeatCmd_lawful | split

theorem endBenches_lawful {z : State} (l : List Nat) (s : State) (hz : Lawful z s) : Lawful z (endBenches l s) := by
  fun_induction endBenches l s
  all_goals try dsimp only
  repeat' with_reducible first | exact hz | apply_assumption | assumption | apply endChange_lawful | split

theorem goneRuns_lawful {z : State} (s : State) (hz : Lawful z s) : Lawful z (goneRuns s) := by
  unfold goneRuns
  try dsimp only
  repeat' with_reducible first | exact hz | assumption | apply State.setFab_lawful | split | exact id | intro _
  all_goals first | rfl | assumption | (simp_all; done)

theorem chipDone_lawful {z : State} (cause : Nat) (held : Nat) (injected : Bool) (s : State)
    (hz : Lawful z s) : Lawful z (chipDone cause held injected s) := by
  unfold chipDone
  try dsimp only
  repeat' with_reducible first
    | exact hz | assumption | apply endBenches_lawful | apply goneRuns_lawful | apply State.setFab_lawful
    | apply equivLost_lawful | apply recovered_lawful | apply noticeUnit_lawful | apply settleRetirements_lawful
    | apply repeatCmds_lawful | split | exact id | intro _
  all_goals first | rfl | assumption | (simp_all; done)

theorem countTiles_lawful {z : State} (b : Nat) (l : List ModelResult) (s : State) (hz : Lawful z s) :
    Lawful z (countTiles b l s) := by
  fun_induction countTiles b l s
  all_goals try dsimp only
  repeat' with_reducible first | exact hz | apply_assumption | assumption | apply countTile_lawful | split

theorem countRun_lawful {z : State} (b : Nat) (f : Option Break) (l : List (ModelResult × Placed)) (s : State)
    (hz : Lawful z s) : Lawful z (countRun b f l s) := by
  unfold countRun
  try dsimp only
  repeat' with_reducible first
    | exact hz | assumption | apply countTiles_lawful | apply privateFaultOf_lawful | apply bumpBench_lawful | split

theorem endRun_lawful {z : State} (l : CmdList) (lost : Option Nat) (d : Place) (recs : List Bytes) (at_ : List Placed)
    (s : State) (hz : Lawful z s) : Lawful z (endRun l lost d recs at_ s) := by
  unfold endRun
  try dsimp only
  repeat' with_reducible first
    | exact hz | assumption | apply advance_lawful | apply endWrite_lawful | apply privateFault_lawful | split

theorem runTiles_lawful {z : State} (l : CmdList) (c : Cmd) (poisonedAt : Option Long) (lost : Option Long) (s : State)
    (hz : Lawful z s) : Lawful z (runTiles l c poisonedAt lost s) := by
  unfold runTiles
  try dsimp only
  repeat' with_reducible first
    | exact hz | assumption | apply failCmd_lawful | apply endRun_lawful | apply countRun_lawful
    | apply writePlaceBut_lawful | apply tablePoison_lawful | split

theorem modAsyUnit_lawful {z : State} (rt : Bool) (f : AssayUnit → AssayUnit) (s : State) (hz : Lawful z s) :
    Lawful z (modAsyUnit rt f s) := by
  unfold modAsyUnit
  try dsimp only
  repeat' with_reducible first | exact hz | assumption | apply State.setAsy_lawful | split

theorem asyFault_lawful {z : State} (rt : Bool) (op : Nat) (entry : Option Nat) (injected : Bool) (s : State)
    (hz : Lawful z s) : Lawful z (asyFault rt op entry injected s) := by
  unfold asyFault
  try dsimp only
  repeat' with_reducible first
    | exact hz | assumption | apply modAsyUnit_lawful | apply State.setAsy_lawful | apply noticeUnit_lawful
    | apply upset_lawful | split

theorem countNans_lawful {z : State} (rt : Bool) (n : Nat) (s : State) (hz : Lawful z s) :
    Lawful z (countNans rt n s) := by
  unfold countNans
  try dsimp only
  repeat' with_reducible first | exact hz | assumption | apply modAsyUnit_lawful | split

theorem countEcc_lawful {z : State} (e : AsyEcc) (s : State) (hz : Lawful z s) : Lawful z (countEcc e s) := by
  unfold countEcc
  try dsimp only
  repeat' with_reducible first | exact hz | assumption | apply State.setAsy_lawful | split

theorem countOp_lawful {z : State} (rt : Bool) (discarded : Nat) (s : State) (hz : Lawful z s) :
    Lawful z (countOp rt discarded s) := by
  unfold countOp
  try dsimp only
  repeat' with_reducible first | exact hz | assumption | apply modAsyUnit_lawful | split

theorem asyFail_lawful {z : State} (l : CmdList) (op : Nat) (entry : Option Nat) (poison : Option Long) (injected : Bool)
    (s : State) (hz : Lawful z s) : Lawful z (asyFail l op entry poison injected s) := by
  unfold asyFail
  try dsimp only
  repeat' with_reducible first | exact hz | assumption | apply failList_lawful | apply asyFault_lawful | split

theorem asyPoisoned_lawful {z : State} (l : CmdList) (op : Nat) (poisonedAt : Option Long) (table : Option Nat)
    (s : State) (hz : Lawful z s) : Lawful z (asyPoisoned l op poisonedAt table s) := by
  unfold asyPoisoned
  try dsimp only
  repeat' with_reducible first | exact hz | assumption | apply asyFail_lawful | apply tablePoison_lawful | split

theorem asyWrite_lawful {z : State} (l : CmdList) (c : Cmd) (r : AsyOut) (lost : Option Long) (s : State)
    (hz : Lawful z s) : Lawful z (asyWrite l c r lost s) := by
  unfold asyWrite
  try dsimp only
  repeat' with_reducible first
    | exact hz | assumption | apply failCmd_lawful | apply writePlaceBut_lawful | apply countOp_lawful
    | apply asyFail_lawful | apply dmaFail_lawful | apply advance_lawful | split

theorem sortLike_lawful {z : State} (poisonedAt : Option Long) (lost : Option Long) (ecc : AsyEcc) (s : State)
    (l : CmdList) (c : Cmd) (hz : Lawful z s) : Lawful z (sortLike poisonedAt lost ecc s l c) := by
  unfold sortLike
  try dsimp only
  repeat' with_reducible first
    | exact hz | assumption | apply failCmd_lawful | apply dmaFail_lawful | apply asyPoisoned_lawful
    | apply asyFail_lawful | apply countEcc_lawful | apply countNans_lawful | apply asyWrite_lawful | split

theorem nnSearch_lawful {z : State} (poisonedAt : Option Long) (lost : Option Long) (ecc : AsyEcc) (libError : Option Nat)
    (s : State) (l : CmdList) (c : Cmd) (hz : Lawful z s) : Lawful z (nnSearch poisonedAt lost ecc libError s l c) := by
  unfold nnSearch
  try dsimp only
  repeat' with_reducible first
    | exact hz | assumption | apply failCmd_lawful | apply dmaFail_lawful | apply asyFail_lawful
    | apply asyPoisoned_lawful | apply countEcc_lawful | apply asyWrite_lawful | split

theorem libLoad_lawful {z : State} (poisonedAt : Option Long) (ecc : AsyEcc) (s : State) (l : CmdList) (c : Cmd)
    (hz : Lawful z s) : Lawful z (libLoad poisonedAt ecc s l c) := by
  unfold libLoad
  try dsimp only
  repeat' with_reducible first
    | exact hz | assumption | apply failCmd_lawful | apply dmaFail_lawful | apply asyPoisoned_lawful
    | apply asyFail_lawful | apply countEcc_lawful | apply advance_lawful | apply State.setAsy_lawful | split

theorem partReason_lawful {z : State} (recipe : Nat) (id : Int) (reason : Nat) (s : State) (hz : Lawful z s) :
    Lawful z (partReason recipe id reason s) := by
  unfold partReason
  try dsimp only
  repeat' with_reducible first | exact hz | assumption | apply modPart_lawful | split

theorem rtLost_lawful {z : State} (x : RtOp) (s : State) (hz : Lawful z s) : Lawful z (rtLost x s) := by
  unfold rtLost
  try dsimp only
  repeat' with_reducible first | exact hz | assumption | apply partReason_lawful | apply foldHold_lawful | split

theorem rtDone_lawful {z : State} (r : Recipe) (x : RtOp) (s : State) (hz : Lawful z s) : Lawful z (rtDone r x s) := by
  unfold rtDone
  try dsimp only
  repeat' with_reducible first
    | exact hz | assumption | apply countOp_lawful | apply modPart_lawful | apply foldTile_lawful
    | apply countNans_lawful | split

theorem keepRt_lawful {z : State} (x : RtOp) (before : State) (s : State) (hz : Lawful z s) :
    Lawful z (keepRt x before s) := by
  unfold keepRt
  try dsimp only
  repeat' with_reducible first | exact hz | assumption | apply State.setAsy_lawful | split

theorem bumpAct_lawful {z : State} (i : Nat) (s : State) (hz : Lawful z s) : Lawful z (bumpAct i s) := by
  unfold bumpAct
  try dsimp only
  repeat' with_reducible first | exact hz | assumption | apply State.setHm_lawful | split

theorem commitAct_lawful {z : State} (handle : Nat) (e : ActEntry) (target : Long) (shift : Nat) (recipe : Option Nat)
    (tenant : Nat) (s : State) (hz : Lawful z s) : Lawful z (commitAct handle e target shift recipe tenant s) := by
  unfold commitAct
  try dsimp only
  repeat' with_reducible first | exact hz | assumption | apply State.setHm_lawful | apply bumpAct_lawful | split

theorem refuseAct_lawful {z : State} (e : ActEntry) (target : Long) (status : Half) (outcome : Nat) (recipe : Option Nat)
    (tenant : Nat) (s : State) (hz : Lawful z s) : Lawful z (refuseAct e target status outcome recipe tenant s) := by
  unfold refuseAct
  try dsimp only
  repeat' with_reducible first
    | exact hz | assumption | apply bumpAct_lawful | apply State.setHm_lawful | apply logAct_lawful | split

theorem hostAct_lawful {z : State} (b : Bytes) (cls : Nat) (tenant : Nat) (pick : Nat) (s : State) (hz : Lawful z s) :
    Lawful z (hostAct b cls tenant pick s).state := by
  unfold hostAct
  try dsimp only
  repeat' with_reducible first
    | exact hz | assumption | apply refuseAct_lawful | apply countRefusal_lawful | apply decideAdm_lawful
    | apply commitAct_lawful | split

theorem startRing_lawful {z : State} (h : Nat) (s : State) (hz : Lawful z s) : Lawful z (startRing h s) := by
  unfold startRing
  try dsimp only
  repeat' with_reducible first | exact hz | assumption | apply State.setHm_lawful | split

theorem bumpTile_lawful {z : State} (i : Nat) (s : State) (hz : Lawful z s) : Lawful z (bumpTile i s) := by
  unfold bumpTile
  try dsimp only
  repeat' with_reducible first | exact hz | assumption | apply State.setHm_lawful | split

theorem invokeRt_lawful {z : State} (x : RtOp) (s : State) (hz : Lawful z s) : Lawful z (invokeRt x s) := by
  unfold invokeRt
  try dsimp only
  repeat' with_reducible first | exact hz | assumption | apply State.setAsy_lawful | split

theorem classOutcome_lawful {z : State} (r : Recipe) (o : Outcome) (poisoned : Bool) (s : State) (hz : Lawful z s) :
    Lawful z (classOutcome r o poisoned s) := by
  unfold classOutcome
  try dsimp only
  repeat' with_reducible first | exact hz | assumption | apply foldTile_lawful | apply invokeRt_lawful | split

theorem shadowEvaluate_lawful {z : State} (r : Recipe) (o : Outcome) (poisoned : Bool) (s : State) (hz : Lawful z s) :
    Lawful z (shadowEvaluate r o poisoned s) := by
  unfold shadowEvaluate
  try dsimp only
  repeat' with_reducible first | exact hz | assumption | apply bumpRcp_lawful | apply State.setRcp_lawful | split

theorem ingest_lawful {z : State} (o : Outcome) (poisoned : Bool) (s : State) (hz : Lawful z s) :
    Lawful z (ingest o poisoned s) := by
  unfold ingest
  try dsimp only
  repeat' with_reducible first
    | exact hz | assumption | apply bumpTile_lawful | apply shadowEvaluate_lawful | apply classOutcome_lawful | split

theorem disarm_lawful {z : State} (h : Nat) (s : State) (hz : Lawful z s) : Lawful z (disarm h s) := by
  unfold disarm
  try dsimp only
  repeat' with_reducible first | exact hz | assumption | apply State.setFab_lawful | split | exact id | intro _
  all_goals first | rfl | assumption | (simp_all; done)

theorem outgoingDone_lawful {z : State} (h : Nat) (s : State) (hz : Lawful z s) : Lawful z (outgoingDone h s) := by
  unfold outgoingDone
  try dsimp only
  repeat' with_reducible first
    | exact hz | assumption | apply noticeActive_lawful | apply disarm_lawful | apply modRecipe_lawful | split

theorem enqueueAction_lawful {z : State} (r : Recipe) (p : Part) (a : Action) (x : Nat × State) (hz : Lawful z x.2) :
    Lawful z (enqueueAction r p a x).2 := by
  unfold enqueueAction
  try dsimp only
  repeat' with_reducible first
    | exact hz | assumption | apply commitAct_lawful | apply noticeHolder_lawful | apply refuseAct_lawful | split

theorem enqueueActions_lawful {z : State} (r : Recipe) (p : Part) (l : List Action) (x : Nat × State) (hz : Lawful z x.2) :
    Lawful z (enqueueActions r p l x).2 := by
  fun_induction enqueueActions r p l x
  all_goals try dsimp only
  repeat' with_reducible first | exact hz | apply_assumption | assumption | apply enqueueAction_lawful | split

theorem issue_lawful {z : State} (r : Recipe) (p : Part) (forced : Bool) (s : State) (hz : Lawful z s) :
    Lawful z (issue r p forced s) := by
  unfold issue
  try dsimp only
  repeat' with_reducible first
    | exact hz | assumption | apply enqueueActions_lawful | apply hmRing_lawful | apply modPart_lawful
    | apply modRecipe_lawful | apply State.setHm_lawful | apply pruneRecipes_lawful | apply outgoingDone_lawful
    | split

theorem issueLate_lawful {z : State} (r : Recipe) (p : Part) (s : State) (hz : Lawful z s) :
    Lawful z (issueLate r p s) := by
  unfold issueLate
  try dsimp only
  repeat' with_reducible first | exact hz | assumption | apply issue_lawful | split

theorem verdictIssue_lawful {z : State} (r : Recipe) (p : Part) (s : State) (hz : Lawful z s) :
    Lawful z (verdictIssue r p s) := by
  unfold verdictIssue
  try dsimp only
  repeat' with_reducible first
    | exact hz | assumption | apply issue_lawful | apply issueLate_lawful | apply invokeRt_lawful
    | apply modPart_lawful | split

theorem closePlate_lawful {z : State} (r : Recipe) (p : Part) (stop : Int) (s : State) (hz : Lawful z s) :
    Lawful z (closePlate r p stop s) := by
  unfold closePlate
  try dsimp only
  repeat' with_reducible first | exact hz | assumption | apply modPart_lawful | split

theorem closeLong_lawful {z : State} (r : Recipe) (p : Part) (s : State) (hz : Lawful z s) :
    Lawful z (closeLong r p s) := by
  unfold closeLong
  try dsimp only
  repeat' with_reducible first | exact hz | assumption | apply modPart_lawful | split

theorem closeOverlong_lawful {z : State} (leading : Bool) (pos : Long) (s : State) (r : Recipe) (hz : Lawful z s) :
    Lawful z (closeOverlong leading pos s r) := by
  unfold closeOverlong
  try dsimp only
  repeat' with_reducible first | exact hz | assumption | apply closeLong_lawful | split

theorem plateEdge_lawful {z : State} (r : Recipe) (leading : Bool) (pos : Long) (s : State) (hz : Lawful z s) :
    Lawful z (plateEdge r leading pos s) := by
  unfold plateEdge
  try dsimp only
  repeat' with_reducible first
    | exact hz | assumption | apply modRecipe_lawful | apply State.setHm_lawful | apply closePlate_lawful | split

theorem plateEdges_lawful {z : State} (l : List Recipe) (leading : Bool) (pos : Long) (s : State) (hz : Lawful z s) :
    Lawful z (plateEdges l leading pos s) := by
  fun_induction plateEdges l leading pos s
  all_goals try dsimp only
  repeat' with_reducible first | exact hz | apply_assumption | assumption | apply plateEdge_lawful | split

theorem edgeFor_lawful {z : State} (l : List Recipe) (leading : Bool) (pos : Long) (s : State) (hz : Lawful z s) :
    Lawful z (edgeFor l leading pos s).2 := by
  unfold edgeFor
  try dsimp only
  repeat' with_reducible first
    | exact hz | assumption | apply closeOverlong_lawful | apply plateEdges_lawful | apply bumpTile_lawful | split
    | apply foldl_lawful | intro _
  all_goals first | rfl | assumption | (simp_all; done)

theorem sensorEdge_lawful {z : State} (channel : Nat) (leading : Bool) (pos : Long) (s : State) (hz : Lawful z s) :
    Lawful z (sensorEdge channel leading pos s) := by
  unfold sensorEdge
  try dsimp only
  repeat' with_reducible first | exact hz | assumption | apply edgeFor_lawful | split

theorem modAct_lawful {z : State} (h : Nat) (f : Act → Act) (s : State) (hz : Lawful z s) : Lawful z (modAct h f s) := by
  unfold modAct
  try dsimp only
  repeat' with_reducible first | exact hz | assumption | apply State.setHm_lawful | split

theorem noteInterlock_lawful {z : State} (a : Act) (code : Nat) (s : State) (hz : Lawful z s) :
    Lawful z (noteInterlock a code s) := by
  unfold noteInterlock
  try dsimp only
  repeat' with_reducible first | exact hz | assumption | apply noticeUnit_lawful | apply bumpAct_lawful | split

theorem skipAct_lawful {z : State} (a : Act) (s : State) (hz : Lawful z s) : Lawful z (skipAct a s) := by
  unfold skipAct
  try dsimp only
  repeat' with_reducible first
    | exact hz | assumption | apply pruneRecipes_lawful | apply logActOf_lawful | apply dropAct_lawful | split

theorem loseAct_lawful {z : State} (a : Act) (s : State) (hz : Lawful z s) : Lawful z (loseAct a s) := by
  unfold loseAct
  try dsimp only
  repeat' with_reducible first
    | exact hz | assumption | apply pruneRecipes_lawful | apply logActOf_lawful | apply dropAct_lawful
    | apply noticeUnit_lawful | apply equivLost_lawful | split

theorem secondCopy_lawful {z : State} (injected : Bool) (s : State) (hz : Lawful z s) :
    Lawful z (secondCopy injected s) := by
  unfold secondCopy
  try dsimp only
  repeat' with_reducible first | exact hz | assumption | apply recovered_lawful | apply upset_lawful | split

theorem fireAct_lawful {z : State} (a : Act) (s : State) (hz : Lawful z s) : Lawful z (fireAct a s) := by
  unfold fireAct
  try dsimp only
  repeat' with_reducible first
    | exact hz | assumption | apply modAct_lawful | apply settleOut_lawful | apply modChan_lawful | split

theorem switchOn_lawful {z : State} (a : Act) (s : State) (hz : Lawful z s) : Lawful z (switchOn a s) := by
  unfold switchOn
  try dsimp only
  repeat' with_reducible first
    | exact hz | assumption | apply skipAct_lawful | apply State.setDio_lawful | apply noteInterlock_lawful
    | apply modAct_lawful | apply fireAct_lawful | split | exact id | intro _
  all_goals first | rfl | assumption | (simp_all; done)

theorem resumeHeld_lawful {z : State} (ch : Nat) (s : State) (hz : Lawful z s) : Lawful z (resumeHeld ch s) := by
  unfold resumeHeld
  try dsimp only
  repeat' with_reducible first | exact hz | assumption | apply switchOn_lawful | split

theorem switchOff_lawful {z : State} (a : Act) (s : State) (hz : Lawful z s) : Lawful z (switchOff a s) := by
  unfold switchOff
  try dsimp only
  repeat' with_reducible first
    | exact hz | assumption | apply resumeHeld_lawful | apply pruneRecipes_lawful | apply settleOut_lawful
    | apply logActOf_lawful | apply dropAct_lawful | split

theorem noteEdge_lawful {z : State} (n : Nat) (level : Bool) (stamp : Long) (s : State) (hz : Lawful z s) :
    Lawful z (noteEdge n level stamp s) := by
  unfold noteEdge
  try dsimp only
  repeat' with_reducible first
    | exact hz | assumption | apply noticeUnitAt_lawful | apply modChan_lawful | apply State.setDio_lawful | split
    | exact id | intro _
  all_goals first | rfl | assumption | (simp_all; done)

theorem acceptEdge_lawful {z : State} (n : Nat) (stamp : Long) (s : State) (hz : Lawful z s) :
    Lawful z (acceptEdge n stamp s) := by
  unfold acceptEdge
  try dsimp only
  repeat' with_reducible first
    | exact hz | assumption | apply sensorEdge_lawful | apply noteEdge_lawful | apply modChan_lawful | split

theorem acceptDue_lawful {z : State} (n : Nat) (s : State) (hz : Lawful z s) : Lawful z (acceptDue n s) := by
  unfold acceptDue
  try dsimp only
  repeat' with_reducible first | exact hz | assumption | apply acceptEdge_lawful | split

theorem noticeBreak_lawful {z : State} (n : Nat) (kind : Nat) (set : Bool) (s : State) (hz : Lawful z s) :
    Lawful z (noticeBreak n kind set s) := by
  unfold noticeBreak
  try dsimp only
  repeat' with_reducible first | exact hz | assumption | apply noticeUnit_lawful | split

theorem clearBreak_lawful {z : State} (n : Nat) (s : State) (hz : Lawful z s) : Lawful z (clearBreak n s) := by
  unfold clearBreak
  try dsimp only
  repeat' with_reducible first | exact hz | assumption | apply noticeBreak_lawful | apply modChan_lawful | split

theorem openFeed_lawful {z : State} (k : Nat) (f : Feed → Feed) (s : State) (hz : Lawful z s) :
    Lawful z (openFeed k f s) := by
  unfold openFeed
  try dsimp only
  repeat' with_reducible first
    | exact hz | assumption | apply pruneRecipes_lawful | apply endPulse_lawful | apply settleFeed_lawful
    | apply modFeed_lawful | split

theorem loseSwitchOn_lawful {z : State} (n : Nat) (s : State) (hz : Lawful z s) : Lawful z (loseSwitchOn n s) := by
  unfold loseSwitchOn
  try dsimp only
  repeat' with_reducible first
    | exact hz | assumption | apply pruneRecipes_lawful | apply settleOut_lawful | apply logActOf_lawful
    | apply dropAct_lawful | split

theorem frameError_lawful {z : State} (n : Nat) (retryOk : Bool) (injected : Bool) (s : State) (hz : Lawful z s) :
    Lawful z (frameError n retryOk injected s) := by
  unfold frameError
  try dsimp only
  repeat' with_reducible first
    | exact hz | assumption | apply modChan_lawful | apply loseSwitchOn_lawful | apply State.emit_lawful
    | apply upsetRetire_lawful | split

theorem openFeeds_lawful {z : State} (l : List Nat) (f : Feed → Feed) (s : State) (hz : Lawful z s) :
    Lawful z (openFeeds l f s) := by
  fun_induction openFeeds l f s
  all_goals try dsimp only
  repeat' with_reducible first | exact hz | apply_assumption | assumption | apply openFeed_lawful | split

theorem closeFeeds_lawful {z : State} (l : List Nat) (f : Feed → Feed) (s : State) (hz : Lawful z s) :
    Lawful z (closeFeeds l f s) := by
  fun_induction closeFeeds l f s
  all_goals try dsimp only
  repeat' with_reducible first
    | exact hz | apply_assumption | assumption | apply settleFeed_lawful | apply modFeed_lawful | split

theorem setSince_lawful {z : State} (l : List Nat) (v : Option Nat) (s : State) (hz : Lawful z s) :
    Lawful z (setSince l v s) := by
  unfold setSince
  try dsimp only
  repeat' with_reducible first | exact hz | assumption | apply State.setDio_lawful | split | exact id | intro _
  all_goals first | rfl | assumption | (simp_all; done)

theorem noticeSupply_lawful {z : State} (x : Nat) (lost : Bool) (mv : Nat) (s : State) (hz : Lawful z s) :
    Lawful z (noticeSupply x lost mv s) := by
  unfold noticeSupply
  try dsimp only
  repeat' with_reducible first | exact hz | assumption | apply noticeUnit_lawful | split

theorem keeperInvalidate_lawful {z : State} (s : State) (hz : Lawful z s) : Lawful z (keeperInvalidate s) := by
  unfold keeperInvalidate
  try dsimp only
  repeat' with_reducible first
    | exact hz | assumption | apply State.setPos_lawful | apply State.setBoot_lawful | split | rfl | intro _
  all_goals first | rfl | assumption | (simp_all; done)

theorem settleFields_lawful {z : State} (s : State) (hz : Lawful z s) : Lawful z (settleFields s) := by
  unfold settleFields
  try dsimp only
  repeat' with_reducible first
    | exact hz | assumption | apply State.setDio_lawful | apply keeperInvalidate_lawful | split | exact id | intro _
  all_goals first | rfl | assumption | (simp_all; done)

theorem fieldSupply_lawful {z : State} (x : Nat) (mv : Nat) (s : State) (hz : Lawful z s) :
    Lawful z (fieldSupply x mv s) := by
  unfold fieldSupply
  try dsimp only
  repeat' with_reducible first
    | exact hz | assumption | apply State.setDio_lawful | apply setSince_lawful | apply setCause_lawful
    | apply openFeeds_lawful | apply pruneRecipes_lawful | apply settleFields_lawful | apply noticeSupply_lawful
    | apply closeFeeds_lawful | split | exact id | intro _
  all_goals first | rfl | assumption | (simp_all; done)

theorem applyDio_lawful {z : State} (n : Nat) (v : Nat) (s : State) (hz : Lawful z s) : Lawful z (applyDio n v s) := by
  unfold applyDio
  try dsimp only
  repeat' with_reducible first
    | exact hz | assumption | apply modChan_lawful | apply pruneRecipes_lawful | apply endPulse_lawful | split

theorem clearIf_lawful {z : State} (causes : Nat) (b : Nat) (l : List Nat) (s : State) (hz : Lawful z s) :
    Lawful z (clearIf causes b l s) := by
  unfold clearIf
  try dsimp only
  repeat' with_reducible first | exact hz | assumption | apply setCause_lawful | split

theorem loadAdmit_lawful {z : State} (p : Packet) (pick : Nat) (im : RecipeImage) (s : State) (hz : Lawful z s) :
    Lawful z (loadAdmit p pick im s) := by
  unfold loadAdmit
  try dsimp only
  repeat' with_reducible first
    | exact hz | assumption | apply admitRecipe_lawful | apply refuseWith_lawful | apply ok_lawful
    | apply State.setRcp_lawful | split

theorem commitActivation_lawful {z : State} (inc : Option Recipe) (old : Option Recipe) (issuer : Nat) (e : Long)
    (s : State) (hz : Lawful z s) : Lawful z (commitActivation inc old issuer e s) := by
  unfold commitActivation
  try dsimp only
  repeat' with_reducible first | exact hz | assumption | apply modRecipe_lawful | split

theorem activate_lawful {z : State} (t : Nat) (issuer : Nat) (h : Nat) (outH : Nat) (now : Bool) (w : Word) (s : State)
    (hz : Lawful z s) : Lawful z (activate t issuer h outH now w s).state := by
  unfold activate
  try dsimp only
  repeat' with_reducible first | exact hz | assumption | apply commitActivation_lawful | split

theorem arm_lawful {z : State} (h : Nat) (s : State) (hz : Lawful z s) : Lawful z (arm h s) := by
  unfold arm
  try dsimp only
  repeat' with_reducible first | exact hz | assumption | apply State.setFab_lawful | split | exact id | intro _
  all_goals first | rfl | assumption | (simp_all; done)

theorem switchAway_lawful {z : State} (h : Nat) (s : State) (hz : Lawful z s) : Lawful z (switchAway h s) := by
  unfold switchAway
  try dsimp only
  repeat' with_reducible first | exact hz | assumption | apply modRecipe_lawful | split

theorem becomeActive_lawful {z : State} (r : Recipe) (s : State) (hz : Lawful z s) : Lawful z (becomeActive r s) := by
  unfold becomeActive
  try dsimp only
  repeat' with_reducible first
    | exact hz | assumption | apply State.setHm_lawful | apply arm_lawful | apply modRecipe_lawful | split

theorem bumpRcpN_lawful {z : State} (i : Nat) (n : Nat) (s : State) (hz : Lawful z s) : Lawful z (bumpRcpN i n s) := by
  unfold bumpRcpN
  try dsimp only
  repeat' with_reducible first | exact hz | assumption | apply State.setRcp_lawful | split

theorem countTelegram_lawful {z : State} (t : Tokens) (trunc : Bool) (late : Bool) (s : State) (hz : Lawful z s) :
    Lawful z (countTelegram t trunc late s) := by
  unfold countTelegram
  try dsimp only
  repeat' with_reducible first | exact hz | assumption | apply bumpRcpN_lawful | split

theorem selectRecipe_lawful {z : State} (p : Packet) (e : SelEntry) (views : Nat) (w : Word) (s : State) (hz : Lawful z s) :
    Lawful z (selectRecipe p e views w s).state := by
  unfold selectRecipe
  try dsimp only
  repeat' with_reducible first
    | exact hz | assumption | apply activate_lawful | apply bumpRcp_lawful | apply noticeHolder_lawful | split

theorem giveBlocks_lawful {z : State} (l : List (Recipe × Long)) (kept : List Nat) (s : State) (hz : Lawful z s) :
    Lawful z (giveBlocks l kept s) := by
  fun_induction giveBlocks l kept s
  all_goals try dsimp only
  repeat' with_reducible first | exact hz | apply_assumption | assumption | apply modRecipe_lawful | split

theorem takeTelegram_lawful {z : State} (p : Packet) (s : State) (hz : Lawful z s) : Lawful z (takeTelegram p s) := by
  have key : ∀ (c : Bool) (o : Option SelEntry) (views : Nat) (w : Word) (s1 : State), Lawful z s1 →
      Lawful z ((((if c then o.map fun e => selectRecipe p e views w s1 else none).map (·.state)).getD s1)) := by
    intro c o views w s1 h1
    cases c <;> cases o <;> first | exact h1 | exact selectRecipe_lawful _ _ _ _ _ h1
  unfold takeTelegram
  extract_lets b views w late a t kept trunc s1 sel s2 targets s3 e
  have h3 : Lawful z s3 := giveBlocks_lawful _ _ _ (key _ _ _ _ _ (countTelegram_lawful _ _ _ _ hz))
  split
  · exact refuse_lawful _ _ _ _ hz
  · exact ok_lawful _ _ _ h3

theorem dropCapture_lawful {z : State} (s : State) (hz : Lawful z s) : Lawful z (dropCapture s) := by
  unfold dropCapture
  try dsimp only
  repeat' with_reducible first | exact hz | assumption | apply endAdm_lawful | split

theorem cacheConfig_lawful {z : State} (p : Packet) (pick : Nat) (s : State) (hz : Lawful z s) :
    Lawful z (cacheConfig p pick s) := by
  unfold cacheConfig
  try dsimp only
  repeat' with_reducible first
    | exact hz | assumption | apply decideAdm_lawful | apply dropCapture_lawful | apply refuseWith_lawful
    | apply countRefusal_lawful | apply State.setRcp_lawful | apply ok_lawful | apply writeCacheHeaders_lawful | split

theorem labelAll_lawful {z : State} (l : List (Nat × Nat)) (s : State) (hz : Lawful z s) : Lawful z (labelAll l s) := by
  fun_induction labelAll l s
  all_goals try dsimp only
  repeat' with_reducible first
    | exact hz | apply_assumption | assumption | apply writeCacheHeader_lawful | apply State.setRcp_lawful | split

theorem commitEpoch_lawful {z : State} (ref : Ref) (fromList : Bool) (t : Nat) (h : Nat) (b : Bytes) (s : State)
    (hz : Lawful z s) : Lawful z (commitEpoch ref fromList t h b s) := by
  unfold commitEpoch
  try dsimp only
  repeat' with_reducible first
    | exact hz | assumption | apply writeCacheHeaders_lawful | apply State.setRcp_lawful | split

theorem requestEpoch_lawful {z : State} (ref : Ref) (fromList : Bool) (t : Nat) (cls : Nat) (pick : Nat) (b : Bytes)
    (s : State) (hz : Lawful z s) : Lawful z (requestEpoch ref fromList t cls pick b s).state := by
  unfold requestEpoch
  try dsimp only
  repeat' with_reducible first | exact hz | assumption | apply decideAdm_lawful | apply commitEpoch_lawful | split

theorem epochReply_lawful {z : State} (e : Epoch) (cand : Nat) (s : State) (hz : Lawful z s) :
    Lawful z (epochReply e cand s) := by
  unfold epochReply
  try dsimp only
  repeat' with_reducible first | exact hz | assumption | apply advance_lawful | apply doneLater_lawful | split

theorem completeEpoch_lawful {z : State} (e : Epoch) (params : Bytes) (pick : Nat) (s : State) (hz : Lawful z s) :
    Lawful z (completeEpoch e params pick s) := by
  unfold completeEpoch
  try dsimp only
  repeat' with_reducible first
    | exact hz | assumption | apply cutBuckets_lawful | apply dropAdm_lawful | apply State.setRcp_lawful
    | apply noticeHolder_lawful | apply epochReply_lawful | apply writeCacheHeaders_lawful | split

theorem commitShadow_lawful {z : State} (h : Nat) (cand : Nat) (b : Nat) (recipe : Nat) (stride : Nat) (s : State)
    (hz : Lawful z s) : Lawful z (commitShadow h cand b recipe stride s) := by
  unfold commitShadow
  try dsimp only
  repeat' with_reducible first | exact hz | assumption | apply State.setRcp_lawful | split

theorem startShadow_lawful {z : State} (p : Packet) (pick : Nat) (s : State) (hz : Lawful z s) :
    Lawful z (startShadow p pick s) := by
  unfold startShadow
  try dsimp only
  repeat' with_reducible first
    | exact hz | assumption | apply refuse_lawful | apply decideAdm_lawful | apply refuseWith_lawful | apply ok_lawful
    | apply commitShadow_lawful | split

theorem stopShadow_lawful {z : State} (p : Packet) (s : State) (hz : Lawful z s) : Lawful z (stopShadow p s) := by
  unfold stopShadow
  try dsimp only
  repeat' with_reducible first
    | exact hz | assumption | apply refuse_lawful | apply ok_lawful | apply release_lawful | split

theorem selectOn_lawful {z : State} (l : List Nat) (slot : Bench → Nat) (tenant : Nat) (opcode : Half) (cand : Nat)
    (recipe : Nat) (bd : Long) (s : State) (hz : Lawful z s) :
    Lawful z (selectOn l slot tenant opcode cand recipe bd s) := by
  fun_induction selectOn l slot tenant opcode cand recipe bd s
  all_goals try dsimp only
  repeat' with_reducible first | exact hz | apply_assumption | assumption | apply modBench_lawful | split

theorem loadIdle_lawful {z : State} (l : List Nat) (params : Bytes) (s : State) (hz : Lawful z s) :
    Lawful z (loadIdle l params s) := by
  fun_induction loadIdle l params s
  all_goals try dsimp only
  repeat' with_reducible first
    | exact hz | apply_assumption | assumption | apply placeCopy_lawful | apply modBench_lawful | split

theorem addPacket_lawful {z : State} (p : Packet) (s : State) (hz : Lawful z s) : Lawful z (addPacket p s) := by
  unfold addPacket
  try dsimp only
  repeat' with_reducible first
    | exact hz | assumption | apply State.setKw_lawful | split | exact KwOk.same rfl rfl | exact fun _ k => k
    | intro _
  all_goals first | rfl | assumption | (simp_all; done)

theorem accept_lawful {z : State} (n : Nat) (b : Bytes) (slot : Half) (s : State) (hz : Lawful z s) :
    Lawful z (accept n b slot s) := by
  unfold accept
  try dsimp only
  repeat' with_reducible first | exact hz | assumption | apply tenantReply_lawful | apply addPacket_lawful | split

theorem fetch_lawful {z : State} (n : Nat) (dmaOk : Bool) (s : State) (hz : Lawful z s) : Lawful z (fetch n dmaOk s) := by
  unfold fetch
  try dsimp only
  repeat' with_reducible first
    | exact hz | assumption | apply ringError_lawful | apply accept_lawful | apply modTen_lawful | split
    | exact fun _ k => k | intro _
  all_goals first | rfl | assumption | (simp_all; done)

theorem acceptSideband_lawful {z : State} (d : Datagram) (s : State) (hz : Lawful z s) :
    Lawful z (acceptSideband d s) := by
  unfold acceptSideband
  try dsimp only
  repeat' with_reducible first
    | exact hz | assumption | apply sendSideband_lawful | apply sidebandReply_lawful | apply addPacket_lawful | split

theorem serveSideband_lawful {z : State} (d : Datagram) (s : State) (hz : Lawful z s) : Lawful z (serveSideband d s) := by
  unfold serveSideband
  try dsimp only
  repeat' with_reducible first | exact hz | assumption | apply sendSideband_lawful | apply acceptSideband_lawful | split

theorem answerSideband_lawful {z : State} (d : Datagram) (s : State) (hz : Lawful z s) :
    Lawful z (answerSideband d s) := by
  unfold answerSideband
  try dsimp only
  repeat' with_reducible first | exact hz | assumption | apply State.emit_lawful | apply serveSideband_lawful | split

theorem sqDoorbell_lawful {z : State} (n : Nat) (v : Word) (s : State) (hz : Lawful z s) :
    Lawful z (sqDoorbell n v s) := by
  unfold sqDoorbell
  try dsimp only
  repeat' with_reducible first
    | exact hz | assumption | apply ringError_lawful | apply modTen_lawful | split | exact fun _ k => k | intro _
  all_goals first | rfl | assumption | (simp_all; done)

theorem cqDoorbell_lawful {z : State} (n : Nat) (v : Word) (s : State) (hz : Lawful z s) :
    Lawful z (cqDoorbell n v s) := by
  unfold cqDoorbell
  try dsimp only
  repeat' with_reducible first
    | exact hz | assumption | apply ringError_lawful | apply modTen_lawful | apply msixSend_lawful | split
    | exact fun _ k => k | intro _
  all_goals first | rfl | assumption | (simp_all; done)

theorem enableRing_lawful {z : State} (n : Nat) (s : State) (hz : Lawful z s) : Lawful z (enableRing n s) := by
  unfold enableRing
  try dsimp only
  repeat' with_reducible first
    | exact hz | assumption | apply setStatus_lawful | apply deliverMany_lawful | apply modTen_lawful | split
    | exact fun _ k => k | intro _
  all_goals first | rfl | assumption | (simp_all; done)

theorem writeCoal_lawful {z : State} (n : Nat) (v : Word) (s : State) (hz : Lawful z s) : Lawful z (writeCoal n v s) := by
  unfold writeCoal
  try dsimp only
  repeat' with_reducible first
    | exact hz | assumption | apply modTen_lawful | apply msixSend_lawful | split | exact fun _ k => k | intro _
  all_goals first | rfl | assumption | (simp_all; done)

theorem flushPending_lawful {z : State} (n : Nat) (v : Nat) (s : State) (hz : Lawful z s) :
    Lawful z (flushPending n v s) := by
  unfold flushPending
  try dsimp only
  repeat' with_reducible first
    | exact hz | assumption | apply State.emit_lawful | apply modTen_lawful | split | exact fun _ k => k | intro _
  all_goals first | rfl | assumption | (simp_all; done)

theorem unmask_lawful {z : State} (n : Nat) (v : Nat) (s : State) (hz : Lawful z s) : Lawful z (unmask n v s) := by
  unfold unmask
  try dsimp only
  repeat' with_reducible first
    | exact hz | assumption | apply flushPending_lawful | apply modTen_lawful | split | exact fun _ k => k | intro _
  all_goals first | rfl | assumption | (simp_all; done)

theorem functionReset_lawful {z : State} (n : Nat) (s : State) (hz : Lawful z s) : Lawful z (functionReset n s) := by
  unfold functionReset
  try dsimp only
  repeat' with_reducible first
    | exact hz | assumption | apply disableRing_lawful | apply modTen_lawful | split | exact fun _ k => k | intro _
  all_goals first | rfl | assumption | (simp_all; done)

theorem loseLink_lawful {z : State} (l : List Nat) (s : State) (hz : Lawful z s) : Lawful z (loseLink l s) := by
  fun_induction loseLink l s
  all_goals try dsimp only
  repeat' with_reducible first
    | exact hz | apply_assumption | assumption | apply disableRing_lawful | apply setStatus_lawful | split

theorem linkLoss_lawful {z : State} (s : State) (hz : Lawful z s) : Lawful z (linkLoss s) := by
  unfold linkLoss
  try dsimp only
  repeat' with_reducible first
    | exact hz | assumption | apply State.setKw_lawful | apply loseLink_lawful | apply logFault_lawful | split
    | exact KwOk.same rfl rfl | exact fun _ k => k | intro _
  all_goals first | rfl | assumption | (simp_all; done)

theorem signalReturn_lawful {z : State} (l : List Nat) (s : State) (hz : Lawful z s) : Lawful z (signalReturn l s) := by
  fun_induction signalReturn l s
  all_goals try dsimp only
  repeat' with_reducible first | exact hz | apply_assumption | assumption | apply msixSend_lawful | split

theorem removeTenants_lawful {z : State} (l : List Nat) (s : State) (hz : Lawful z s) : Lawful z (removeTenants l s) := by
  fun_induction removeTenants l s
  all_goals try dsimp only
  repeat' with_reducible first
    | exact hz | apply_assumption | assumption | apply releaseWhere_lawful | apply State.setDraw_lawful
    | apply functionReset_lawful | split | exact memWrite_wf _ _ _ | exact memPlace_wf _ _ _ | exact id | intro _
  all_goals first | rfl | assumption | (simp_all; done)

theorem writeRows_lawful {z : State} (lost : Option Nat) (p : Place) (len : Nat) (offs : List Nat) (b : Bytes) (s : State)
    (hz : Lawful z s) : Lawful z (writeRows lost p len offs b s) := by
  fun_induction writeRows lost p len offs b s
  all_goals try dsimp only
  repeat' with_reducible first | exact hz | apply_assumption | assumption | apply writePlaceBut_lawful | split

theorem openCycle_lawful {z : State} (ingot : Bool) (bank : Nat) (s : State) (hz : Lawful z s) :
    Lawful z (openCycle ingot bank s) := by
  unfold openCycle
  try dsimp only
  repeat' with_reducible first
    | exact hz | assumption | apply State.setDraw_lawful | split | exact memWrite_wf _ _ _ | exact memPlace_wf _ _ _
    | exact id | intro _
  all_goals first | rfl | assumption | (simp_all; done)

theorem payGrant_lawful {z : State} (r : MemReq) (s : State) (hz : Lawful z s) : Lawful z (payGrant r s) := by
  unfold payGrant
  try dsimp only
  repeat' with_reducible first
    | exact hz | assumption | apply State.setDraw_lawful | split | exact memWrite_wf _ _ _ | exact memPlace_wf _ _ _
    | exact id | intro _
  all_goals first | rfl | assumption | (simp_all; done)

theorem corrected_lawful {z : State} (ingot : Bool) (bank : Nat) (s : State) (hz : Lawful z s) :
    Lawful z (corrected ingot bank s) := by
  unfold corrected
  try dsimp only
  repeat' with_reducible first
    | exact hz | assumption | apply modDram_lawful | apply State.setDraw_lawful | split | exact memWrite_wf _ _ _
    | exact memPlace_wf _ _ _ | exact id | intro _
  all_goals first | rfl | assumption | (simp_all; done)

theorem consumePoison_lawful {z : State} (i : MemIssuer) (a : Nat) (s : State) (hz : Lawful z s) :
    Lawful z (consumePoison i a s) := by
  unfold consumePoison
  try dsimp only
  repeat' with_reducible first | exact hz | assumption | apply privateFault_lawful | apply poisonSlots_lawful | split

theorem touchBurst_lawful {z : State} (r : MemReq) (s : State) (hz : Lawful z s) : Lawful z (touchBurst r s) := by
  unfold touchBurst
  try dsimp only
  repeat' with_reducible first
    | exact hz | assumption | apply State.setDraw_lawful | apply consumePoison_lawful | apply eccUnc_lawful | split
    | exact memWrite_wf _ _ _ | exact memPlace_wf _ _ _ | exact id | intro _
  all_goals first | rfl | assumption | (simp_all; done)

theorem grant_lawful {z : State} (r : MemReq) (slack : Bool) (singleBit : Bool) (s : State) (hz : Lawful z s) :
    Lawful z (grant r slack singleBit s) := by
  unfold grant
  try dsimp only
  repeat' with_reducible first
    | exact hz | assumption | apply payGrant_lawful | apply State.setDraw_lawful | apply touchBurst_lawful
    | apply State.emit_lawful | apply corrected_lawful | split | exact memWrite_wf _ _ _ | exact memPlace_wf _ _ _
    | exact id | intro _
  all_goals first | rfl | assumption | (simp_all; done)

theorem planishPoison_lawful {z : State} (a : Long) (consumer : Nat) (s : State) (hz : Lawful z s) :
    Lawful z (planishPoison a consumer s) := by
  unfold planishPoison
  try dsimp only
  repeat' with_reducible first | exact hz | assumption | apply poisonSlots_lawful | split

theorem doubleBit_lawful {z : State} (a : Long) (consumer : Nat) (o : RetryOutcome) (injected : Bool) (s : State)
    (hz : Lawful z s) : Lawful z (doubleBit a consumer o injected s) := by
  unfold doubleBit
  try dsimp only
  repeat' with_reducible first
    | exact hz | assumption | apply planishPoison_lawful | apply eccUnc_lawful | apply corrected_lawful
    | apply upsetRetire_lawful | split

theorem poisonBurst_lawful {z : State} (a : Long) (s : State) (hz : Lawful z s) : Lawful z (poisonBurst a s) := by
  unfold poisonBurst
  try dsimp only
  repeat' with_reducible first | exact hz | assumption | apply modDram_lawful | apply retireDram_lawful | split

theorem timeout_lawful {z : State} (a : Long) (consumer : Nat) (write : Bool) (o : RetryOutcome) (s : State)
    (hz : Lawful z s) : Lawful z (timeout a consumer write o s) := by
  unfold timeout
  try dsimp only
  repeat' with_reducible first
    | exact hz | assumption | apply planishPoison_lawful | apply eccUnc_lawful | apply poisonBurst_lawful
    | apply corrected_lawful | apply upsetRetire_lawful | split

theorem disableLanes_lawful {z : State} (l : List Nat) (s : State) (hz : Lawful z s) : Lawful z (disableLanes l s) := by
  fun_induction disableLanes l s
  all_goals try dsimp only
  repeat' with_reducible first | exact hz | apply_assumption | assumption | apply stopLane_lawful | split

theorem enterFatal_lawful {z : State} (how : Nat) (s : State) (hz : Lawful z s) : Lawful z (enterFatal how s) := by
  unfold enterFatal
  try dsimp only
  repeat' with_reducible first
    | exact hz | assumption | apply causeReset_lawful | apply State.setFlt_lawful | apply disableLanes_lawful
    | apply logFault_lawful | split

theorem journalLost_lawful {z : State} (s : State) (hz : Lawful z s) : Lawful z (journalLost s) := by
  unfold journalLost
  try dsimp only
  repeat' with_reducible first | exact hz | assumption | apply enterFatal_lawful | apply equivLost_lawful | split

theorem beginRestart_lawful {z : State} (how : Nat) (injected : Bool) (s : State) (hz : Lawful z s) :
    Lawful z (beginRestart how injected s) := by
  unfold beginRestart
  try dsimp only
  repeat' with_reducible first
    | exact hz | assumption | apply supersede_lawful | apply upset_lawful | apply chipLose_lawful
    | apply State.setFlt_lawful | split

theorem ctrlFault_lawful {z : State} (lockstep : Bool) (injected : Bool) (s : State) (hz : Lawful z s) :
    Lawful z (ctrlFault lockstep injected s) := by
  unfold ctrlFault
  try dsimp only
  repeat' with_reducible first | exact hz | assumption | apply beginRestart_lawful | apply enterFatal_lawful | split

theorem flushReplies_lawful {z : State} (l : List WaitingReply) (s : State) (hz : Lawful z s) :
    Lawful z (flushReplies l s) := by
  fun_induction flushReplies l s
  all_goals try dsimp only
  repeat' with_reducible first | exact hz | apply_assumption | assumption | apply deliver_lawful | split

theorem reexecute_lawful {z : State} (p : Packet) (s : State) (hz : Lawful z s) : Lawful z (reexecute p s) := by
  unfold reexecute
  try dsimp only
  repeat' with_reducible first
    | exact hz | assumption | apply dropP_lawful | apply State.setFab_lawful | apply tenantReply_lawful
    | apply addPacket_lawful | split | exact id | intro _
  all_goals first | rfl | assumption | (simp_all; done)

theorem resumeAll_lawful {z : State} (l : List Packet) (n : Nat × Nat) (s : State) (hz : Lawful z s) :
    Lawful z (resumeAll l n s).2 := by
  induction l generalizing n s with
  | nil => exact hz
  | cons p r ih =>
    unfold resumeAll
    split
    · exact ih _ _ (reexecute_lawful _ _ hz)
    · exact ih _ _ (cancelP_lawful _ _ _ _ hz)

theorem restartDone_lawful {z : State} (s : State) (hz : Lawful z s) : Lawful z (restartDone s) := by
  unfold restartDone
  try dsimp only
  repeat' with_reducible first
    | exact hz | assumption | apply State.setKw_lawful | apply State.setFlt_lawful | apply resumeAll_lawful
    | apply flushReplies_lawful | apply logFault_lawful | apply settleRetirements_lawful | apply noticeUnit_lawful
    | split | exact KwOk.same rfl rfl | exact fun _ k => k | intro _
  all_goals first | rfl | assumption | (simp_all; done)

theorem mgmtRestarts_lawful {z : State} (s : State) (hz : Lawful z s) : Lawful z (mgmtRestarts s) := by
  unfold mgmtRestarts
  try dsimp only
  repeat' with_reducible first
    | exact hz | assumption | apply supersede_lawful | apply upset_lawful | apply State.setPwr_lawful | split
    | exact id | intro _
  all_goals first | rfl | assumption | (simp_all; done)

theorem inject_lawful {z : State} (x : Injection) (s : State) (hz : Lawful z s) : ∀ t, inject x s = some t → Lawful z t := by
  have yes : ∀ (o : Option Nat) (f : Nat → State), (∀ b, Lawful z (f b)) → ∀ t, o.map f = some t → Lawful z t := by
    intro o f hf t ht
    obtain ⟨b, -, rfl⟩ := Option.map_eq_some_iff.1 ht
    exact hf b
  have no : ∀ t, (none : Option State) = some t → Lawful z t := fun t ht => nomatch ht
  have one : ∀ u, Lawful z u → ∀ t, some u = some t → Lawful z t := fun u hu t ht => Option.some.inj ht ▸ hu
  unfold inject
  split
  · exact yes _ _ fun b => privateFault_lawful _ _ _ _ _ hz
  · split
    · exact one _ (doubleBit_lawful _ _ _ _ _ hz)
    · exact no
  · split
    · exact one _ (frameError_lawful _ _ _ _ hz)
    · exact no
  · split
    · exact no
    · exact one _ (privateFault_lawful _ _ _ _ _ hz)
  · split
    · exact one _ (chipFault_lawful _ _ _ hz)
    · exact no
  · split
    · exact one _ (ctrlFault_lawful _ _ _ hz)
    · exact no
  · split
    · split
      · exact no
      · exact one _ (rtLost_lawful _ _ (asyFault_lawful _ _ _ _ _ (State.setAsy_lawful hz)))
    · intro t ht
      obtain ⟨b, -, rfl⟩ := Option.map_eq_some_iff.1 ht
      exact asyFail_lawful _ _ _ _ _ _ hz
  · exact one _ (State.setFlt_lawful hz)

theorem logFlash_lawful {z : State} (how : Nat) (inst : Nat) (s : State) (hz : Lawful z s) :
    Lawful z (logFlash how inst s) := by
  unfold logFlash
  try dsimp only
  repeat' with_reducible first | exact hz | assumption | apply upset_lawful | split

theorem putInForce_lawful {z : State} (place : Nat × Nat) (x : Rec) (s : State) (hz : Lawful z s) :
    Lawful z (putInForce place x s) := by
  unfold putInForce
  try dsimp only
  repeat' with_reducible first | exact hz | assumption | apply State.setBoot_lawful | split | rfl | intro _
  all_goals first | rfl | assumption | (simp_all; done)

theorem readRecord_lawful {z : State} (s : State) (hz : Lawful z s) : Lawful z (readRecord s) := by
  unfold readRecord
  try dsimp only
  repeat' with_reducible first
    | exact hz | assumption | apply State.setBoot_lawful | apply wantRecord_lawful | apply logFlash_lawful
    | apply putInForce_lawful | split | rfl | intro _
  all_goals first | rfl | assumption | (simp_all; done)

theorem eraseAhead_lawful {z : State} (s : State) (hz : Lawful z s) : Lawful z (eraseAhead s) := by
  unfold eraseAhead
  try dsimp only
  repeat' with_reducible first | exact hz | assumption | apply State.setBoot_lawful | split | rfl | intro _
  all_goals first | rfl | assumption | (simp_all; done)

theorem settleDegraded_lawful {z : State} (bank : Nat) (s : State) (hz : Lawful z s) :
    Lawful z (settleDegraded bank s) := by
  unfold settleDegraded
  try dsimp only
  repeat' with_reducible first
    | exact hz | assumption | apply noticeUnit_lawful | apply State.setBoot_lawful | split | rfl | intro _
  all_goals first | rfl | assumption | (simp_all; done)

theorem retireSector_lawful {z : State} (k : Nat) (s : State) (hz : Lawful z s) : Lawful z (retireSector k s) := by
  unfold retireSector
  try dsimp only
  repeat' with_reducible first
    | exact hz | assumption | apply settleDegraded_lawful | apply wantRecord_lawful | apply State.setBoot_lawful
    | split | rfl | intro _
  all_goals first | rfl | assumption | (simp_all; done)

theorem retireSectors_lawful {z : State} (l : List Nat) (s : State) (hz : Lawful z s) : Lawful z (retireSectors l s) := by
  fun_induction retireSectors l s
  all_goals try dsimp only
  repeat' with_reducible first | exact hz | apply_assumption | assumption | apply retireSector_lawful | split

theorem pageUsed_lawful {z : State} (bank : Nat) (page : Nat) (s : State) (hz : Lawful z s) :
    Lawful z (pageUsed bank page s) := by
  unfold pageUsed
  try dsimp only
  repeat' with_reducible first | exact hz | assumption | apply State.setBoot_lawful | split | rfl | intro _
  all_goals first | rfl | assumption | (simp_all; done)

theorem eraseDone_lawful {z : State} (k : Nat) (good : Bool) (s : State) (hz : Lawful z s) :
    Lawful z (eraseDone k good s) := by
  unfold eraseDone
  try dsimp only
  repeat' with_reducible first
    | exact hz | assumption | apply State.setBoot_lawful | apply eraseAhead_lawful | apply retireSector_lawful | split
    | rfl | intro _
  all_goals first | rfl | assumption | (simp_all; done)

theorem startWrite_lawful {z : State} (cause : Nat) (s : State) (hz : Lawful z s) : Lawful z (startWrite cause s) := by
  unfold startWrite
  try dsimp only
  repeat' with_reducible first | exact hz | assumption | apply State.setBoot_lawful | split | rfl | intro _
  all_goals first | rfl | assumption | (simp_all; done)

theorem commitRecord_lawful {z : State} (w : RecWrite) (s : State) (hz : Lawful z s) : Lawful z (commitRecord w s) := by
  unfold commitRecord
  try dsimp only
  repeat' with_reducible first
    | exact hz | assumption | apply State.setBoot_lawful | apply eraseAhead_lawful | apply retireSectors_lawful
    | apply putInForce_lawful | split | rfl | intro _
  all_goals first | rfl | assumption | (simp_all; done)

theorem giveUpWrite_lawful {z : State} (w : RecWrite) (s : State) (hz : Lawful z s) : Lawful z (giveUpWrite w s) := by
  unfold giveUpWrite
  try dsimp only
  repeat' with_reducible first
    | exact hz | assumption | apply eraseAhead_lawful | apply retireSectors_lawful | apply wantRecord_lawful
    | apply State.setBoot_lawful | split | rfl | intro _
  all_goals first | rfl | assumption | (simp_all; done)

theorem pageFailed_lawful {z : State} (w : RecWrite) (s : State) (hz : Lawful z s) : Lawful z (pageFailed w s) := by
  unfold pageFailed
  try dsimp only
  repeat' with_reducible first
    | exact hz | assumption | apply logFlash_lawful | apply State.setBoot_lawful | apply giveUpWrite_lawful | split
    | rfl | intro _
  all_goals first | rfl | assumption | (simp_all; done)

theorem pageDone_lawful {z : State} (w : RecWrite) (verifyOk : Bool) (s : State) (hz : Lawful z s) :
    Lawful z (pageDone w verifyOk s) := by
  unfold pageDone
  try dsimp only
  repeat' with_reducible first
    | exact hz | assumption | apply pageUsed_lawful | apply State.setBoot_lawful | apply giveUpWrite_lawful
    | apply commitRecord_lawful | apply pageFailed_lawful | split | rfl | intro _
  all_goals first | rfl | assumption | (simp_all; done)

theorem romWrite_lawful {z : State} (cause : Nat) (s : State) (hz : Lawful z s) : Lawful z (romWrite cause s) := by
  unfold romWrite
  try dsimp only
  repeat' with_reducible first
    | exact hz | assumption | apply wantRecord_lawful | apply startWrite_lawful | apply pageDone_lawful | split

theorem closeWrites_lawful {z : State} (s : State) (hz : Lawful z s) : Lawful z (closeWrites s) := by
  unfold closeWrites
  try dsimp only
  repeat' with_reducible first | exact hz | assumption | apply State.setBoot_lawful | split | rfl | intro _
  all_goals first | rfl | assumption | (simp_all; done)

theorem openWrites_lawful {z : State} (s : State) (hz : Lawful z s) : Lawful z (openWrites s) := by
  unfold openWrites
  try dsimp only
  repeat' with_reducible first | exact hz | assumption | apply State.setBoot_lawful | split | rfl | intro _
  all_goals first | rfl | assumption | (simp_all; done)

theorem tearWrites_lawful {z : State} (s : State) (hz : Lawful z s) : Lawful z (tearWrites s) := by
  unfold tearWrites
  try dsimp only
  repeat' with_reducible first
    | exact hz | assumption | apply pageUsed_lawful | apply State.setBoot_lawful | split | rfl | intro _
  all_goals first | rfl | assumption | (simp_all; done)

theorem keeperSample_lawful {z : State} (ab : Bool × Bool) (s : State) (hz : Lawful z s) :
    Lawful z (keeperSample ab s) := by
  unfold keeperSample
  try dsimp only
  repeat' with_reducible first
    | exact hz | assumption | apply State.setBoot_lawful | apply keeperInvalidate_lawful | split | rfl | intro _
  all_goals first | rfl | assumption | (simp_all; done)

theorem keeperHandover_lawful {z : State} (s : State) (hz : Lawful z s) : Lawful z (keeperHandover s) := by
  unfold keeperHandover
  try dsimp only
  repeat' with_reducible first | exact hz | assumption | apply State.setBoot_lawful | split | rfl | intro _
  all_goals first | rfl | assumption | (simp_all; done)

theorem settleClocks_lawful {z : State} (s : State) (hz : Lawful z s) : Lawful z (settleClocks s) := by
  unfold settleClocks
  try dsimp only
  repeat' with_reducible first | exact hz | assumption | apply State.setPwr_lawful | split | exact id | intro _
  all_goals first | rfl | assumption | (simp_all; done)

theorem setDom_lawful {z : State} (code : Nat) (on : Bool) (s : State) (hz : Lawful z s) :
    Lawful z (setDom code on s) := by
  unfold setDom
  try dsimp only
  repeat' with_reducible first
    | exact hz | assumption | apply settleClocks_lawful | apply State.setPwr_lawful | split | exact id | intro _
  all_goals first | rfl | assumption | (simp_all; done)

theorem setDoms_lawful {z : State} (l : List Nat) (on : Bool) (s : State) (hz : Lawful z s) :
    Lawful z (setDoms l on s) := by
  fun_induction setDoms l on s
  all_goals try dsimp only
  repeat' with_reducible first | exact hz | apply_assumption | assumption | apply setDom_lawful | split

theorem resetState_lawful {z : State} (kind cause : Nat) (s : State) (hz : Lawful z s) :
    Lawful z (resetState kind cause s) := by
  unfold resetState
  apply settleClocks_lawful
  refine ⟨⟨hz.1.1, rfl, ?_, ?_, ?_, rfl, rfl, rfl, rfl, rfl, rfl, ?_, ?_, ?_⟩, ⟨hz.2.1, hz.2.2, hz.2.3, hz.2.4, hz.2.5, hz.2.6⟩⟩
  · rfl
  · intro t ht
    simp only [resetKw, Kwelo.reset, List.mem_map] at ht
    obtain ⟨n, -, rfl⟩ := ht
    simp [Tenant.reset]
  · simp [resetKw, Kwelo.reset]
  · have := hz.1.12; simp [resetDio, *]
  · have := hz.1.13; simp [resetDio, *]
  · have := hz.1.14
    simp only [resetPwr, resetDomains]
    split <;> simp [*]

theorem stopKeepalives_lawful {z : State} (l : List Nat) (s : State) (hz : Lawful z s) :
    Lawful z (stopKeepalives l s) := by
  fun_induction stopKeepalives l s
  all_goals try dsimp only
  repeat' with_reducible first
    | exact hz | apply_assumption | assumption | apply State.emit_lawful | apply modChan_lawful | split

theorem resetCore_lawful {z : State} (kind : Nat) (cause : Nat) (s : State) (hz : Lawful z s) :
    Lawful z (resetCore kind cause s) := by
  unfold resetCore
  try dsimp only
  repeat' with_reducible first
    | exact hz | assumption | apply stopKeepalives_lawful | apply tearWrites_lawful | apply resetState_lawful
    | apply keeperHandover_lawful | split

theorem unitReset_lawful {z : State} (kind : Nat) (cause : Nat) (s : State) (hz : Lawful z s) :
    Lawful z (unitReset kind cause s) := by
  unfold unitReset
  try dsimp only
  repeat' with_reducible first
    | exact hz | assumption | apply resetCore_lawful | apply causeReset_lawful | apply State.setFlt_lawful | split

theorem faultReset_lawful {z : State} (how : Nat) (cause : Nat) (s : State) (hz : Lawful z s) :
    Lawful z (faultReset how cause s) := by
  unfold faultReset
  try dsimp only
  repeat' with_reducible first
    | exact hz | assumption | apply resetCore_lawful | apply upset_lawful | apply causeReset_lawful | split

theorem beginStart_lawful {z : State} (s : State) (hz : Lawful z s) : Lawful z (beginStart s) := by
  unfold beginStart
  try dsimp only
  repeat' with_reducible first
    | exact hz | assumption | apply setDom_lawful | apply State.setBoot_lawful | split | rfl | intro _
  all_goals first | rfl | assumption | (simp_all; done)

theorem applyRetired_lawful {z : State} (x : Rec) (s : State) (hz : Lawful z s) : Lawful z (applyRetired x s) := by
  unfold applyRetired
  try dsimp only
  repeat' with_reducible first
    | exact hz | assumption | apply State.setLanes_lawful | apply State.setDraw_lawful | apply State.setDio_lawful
    | apply closeFeeds_lawful | apply State.setFab_lawful | split | exact memWrite_wf _ _ _ | exact memPlace_wf _ _ _
    | exact id | intro _
  all_goals first | rfl | assumption | (simp_all; done)

theorem applyPtb_lawful {z : State} (x : Rec) (s : State) (hz : Lawful z s) : Lawful z (applyPtb x s) := by
  unfold applyPtb
  try dsimp only
  repeat' with_reducible first | exact hz | assumption | apply State.setPos_lawful | split

theorem applySideband_lawful {z : State} (x : Rec) (s : State) (hz : Lawful z s) : Lawful z (applySideband x s) := by
  unfold applySideband
  try dsimp only
  repeat' with_reducible first
    | exact hz | assumption | apply State.setKw_lawful | split | exact KwOk.same rfl rfl | exact fun _ k => k
    | intro _
  all_goals first | rfl | assumption | (simp_all; done)

theorem applyRecord_lawful {z : State} (s : State) (hz : Lawful z s) : Lawful z (applyRecord s) := by
  unfold applyRecord
  try dsimp only
  repeat' with_reducible first
    | exact hz | assumption | apply applySideband_lawful | apply applyPtb_lawful | apply applyRetired_lawful
    | apply State.setKw_lawful | apply State.setPwr_lawful | apply State.setFlt_lawful | split
    | exact KwOk.same rfl rfl | exact fun _ k => k | exact id | intro _
  all_goals first | rfl | assumption | (simp_all; done)

theorem recallDegraded_lawful {z : State} (s : State) (hz : Lawful z s) : Lawful z (recallDegraded s) := by
  unfold recallDegraded
  try dsimp only
  repeat' with_reducible first | exact hz | assumption | apply State.setBoot_lawful | split | rfl | intro _
  all_goals first | rfl | assumption | (simp_all; done)

theorem stepRecord_lawful {z : State} (s : State) (hz : Lawful z s) : Lawful z (stepRecord s) := by
  unfold stepRecord
  try dsimp only
  repeat' with_reducible first
    | exact hz | assumption | apply applyRecord_lawful | apply readRecord_lawful | apply eraseAhead_lawful
    | apply recallDegraded_lawful | apply State.setPwr_lawful | split | exact id | intro _
  all_goals first | rfl | assumption | (simp_all; done)

theorem recovery_lawful {z : State} (s : State) (hz : Lawful z s) : Lawful z (recovery s) := by
  unfold recovery
  try dsimp only
  repeat' with_reducible first | exact hz | assumption | apply State.setBoot_lawful | split | rfl | intro _
  all_goals first | rfl | assumption | (simp_all; done)

theorem stepFirmware_lawful {z : State} (r : StepReport) (s : State) (hz : Lawful z s) : Lawful z (stepFirmware r s) := by
  unfold stepFirmware
  try dsimp only
  repeat' with_reducible first
    | exact hz | assumption | apply recovery_lawful | apply romWrite_lawful | apply State.setBoot_lawful | split | rfl
    | intro _
  all_goals first | rfl | assumption | (simp_all; done)

theorem anchorJump_lawful {z : State} (s : State) (hz : Lawful z s) : Lawful z (anchorJump s) := by
  unfold anchorJump
  try dsimp only
  repeat' with_reducible first | exact hz | assumption | apply anchorAt_lawful | split

theorem anchorSsi_lawful {z : State} (w : Word) (s : State) (hz : Lawful z s) : Lawful z (anchorSsi w s) := by
  unfold anchorSsi
  try dsimp only
  repeat' with_reducible first | exact hz | assumption | apply anchorAt_lawful | split

theorem stepAnchor_lawful {z : State} (r : StepReport) (s : State) (hz : Lawful z s) : Lawful z (stepAnchor r s) := by
  have h1 : Lawful z (s.setBoot { s.boot with keeperOn := false }) := State.setBoot_lawful hz rfl rfl rfl
  unfold stepAnchor
  dsimp only
  repeat' with_reducible first | exact h1 | apply anchorAt_lawful | apply anchorSsi_lawful | apply anchorJump_lawful | split
  exact State.setBoot_lawful h1 rfl rfl rfl

theorem stepLog_lawful {z : State} (s : State) (hz : Lawful z s) : Lawful z (stepLog s) := by
  unfold stepLog
  try dsimp only
  repeat' with_reducible first
    | exact hz | assumption | apply State.setFlt_lawful | apply equivLost_lawful | apply logFault_lawful
    | apply State.setBoot_lawful | split | rfl | intro _
  all_goals first | rfl | assumption | (simp_all; done)

theorem stepEach_lawful {z : State} (f : Nat → State → State) (l : List Nat) (s : State) (hz : Lawful z s)
    (hf : ∀ n s, Lawful z s → Lawful z (f n s)) : Lawful z (stepEach f l s) := by
  induction l generalizing s with
  | nil => exact hz
  | cons c r ih => exact ih _ (hf _ _ hz)

theorem failDram_lawful {z : State} (ch : Nat) (s : State) (hz : Lawful z s) : Lawful z (failDram ch s) := by
  unfold failDram
  try dsimp only
  repeat' with_reducible first
    | exact hz | assumption | apply noticeUnit_lawful | apply logRetired_lawful | apply wantRecord_lawful
    | apply modDram_lawful | split

theorem stepMem_lawful {z : State} (r : StepReport) (s : State) (hz : Lawful z s) : Lawful z (stepMem r s) := by
  unfold stepMem
  try dsimp only
  repeat' with_reducible first
    | exact hz | assumption | apply stepEach_lawful | apply failDram_lawful | apply enterFatal_lawful | split
    | intro _
  all_goals first | rfl | assumption | (simp_all; done)

theorem stepField_lawful {z : State} (r : StepReport) (s : State) (hz : Lawful z s) : Lawful z (stepField r s) := by
  unfold stepField
  try dsimp only
  repeat' with_reducible first
    | exact hz | assumption | apply State.setDio_lawful | apply stepEach_lawful | apply retireChannel_lawful
    | apply settleOut_lawful | split | exact id | intro _
  all_goals first | rfl | assumption | (simp_all; done)

theorem stepHost_lawful {z : State} (r : StepReport) (s : State) (hz : Lawful z s) : Lawful z (stepHost r s) := by
  unfold stepHost
  try dsimp only
  repeat' with_reducible first
    | exact hz | assumption | apply State.setKw_lawful | apply linkLoss_lawful | split | exact KwOk.same rfl rfl
    | exact fun _ k => k | intro _
  all_goals first | rfl | assumption | (simp_all; done)

theorem stepFabric_lawful {z : State} (r : StepReport) (s : State) (hz : Lawful z s) : Lawful z (stepFabric r s) := by
  unfold stepFabric
  try dsimp only
  repeat' with_reducible first
    | exact hz | assumption | apply stepEach_lawful | apply retireStake_lawful | split | intro _
  all_goals first | rfl | assumption | (simp_all; done)

theorem stepLanes_lawful {z : State} (r : StepReport) (s : State) (hz : Lawful z s) : Lawful z (stepLanes r s) := by
  unfold stepLanes
  try dsimp only
  repeat' with_reducible first
    | exact hz | assumption | apply stepEach_lawful | apply retireLane_lawful | apply State.setLed_lawful | split
    | intro _
  all_goals first | rfl | assumption | (simp_all; done)

theorem stepDone_lawful {z : State} (s : State) (hz : Lawful z s) : Lawful z (stepDone s) := by
  unfold stepDone
  try dsimp only
  repeat' with_reducible first
    | exact hz | assumption | apply State.setBoot_lawful | apply noticeUnit_lawful | split | rfl | intro _
  all_goals first | rfl | assumption | (simp_all; done)

theorem stepEffect_lawful {z : State} (n : Nat) (r : StepReport) (s : State) (hz : Lawful z s) :
    Lawful z (stepEffect n r s) := by
  unfold stepEffect
  try dsimp only
  repeat' with_reducible first
    | exact hz | assumption | apply stepRecord_lawful | apply stepFirmware_lawful | apply stepAnchor_lawful
    | apply stepLog_lawful | apply stepMem_lawful | apply stepField_lawful | apply stepHost_lawful
    | apply stepFabric_lawful | apply stepLanes_lawful | apply stepDone_lawful | split

theorem completeStep_lawful {z : State} (r : StepReport) (s : State) (hz : Lawful z s) : Lawful z (completeStep r s) := by
  unfold completeStep
  try dsimp only
  repeat' with_reducible first
    | exact hz | assumption | apply stepEffect_lawful | apply setDoms_lawful | apply State.setBoot_lawful | split
    | rfl | intro _
  all_goals first | rfl | assumption | (simp_all; done)

theorem powerOn_lawful {z : State} (mv : Nat) (s : State) (hz : Lawful z s) : Lawful z (powerOn mv s) := by
  unfold powerOn
  apply beginStart_lawful
  refine State.setKw_lawful (State.setBoot_lawful (State.setPwr_lawful hz id) rfl rfl rfl) fun k => ⟨k.1, k.2, ?_⟩
  dsimp only
  decide

theorem dropPipeline_lawful {z : State} (s : State) (hz : Lawful z s) : Lawful z (dropPipeline s) := by
  unfold dropPipeline
  try dsimp only
  repeat' with_reducible first | exact hz | assumption | apply State.setPln_lawful | split | exact id | intro _
  all_goals first | rfl | assumption | (simp_all; done)

theorem domainOff_lawful {z : State} (code : Nat) (s : State) (hz : Lawful z s) : Lawful z (domainOff code s) := by
  unfold domainOff
  try dsimp only
  repeat' with_reducible first
    | exact hz | assumption | apply setDom_lawful | apply stopKeepalives_lawful | apply linkLoss_lawful
    | apply dropPipeline_lawful | apply domainOffLanes_lawful | split

theorem domainOn_lawful {z : State} (code : Nat) (s : State) (hz : Lawful z s) : Lawful z (domainOn code s) := by
  unfold domainOn
  try dsimp only
  repeat' with_reducible first
    | exact hz | assumption | apply setDom_lawful | apply State.setDio_lawful | split | exact id | intro _
  all_goals first | rfl | assumption | (simp_all; done)

theorem noticeDomain_lawful {z : State} (code : Nat) (on : Bool) (released : Nat) (s : State) (hz : Lawful z s) :
    Lawful z (noticeDomain code on released s) := by
  unfold noticeDomain
  try dsimp only
  repeat' with_reducible first | exact hz | assumption | apply noticeUnit_lawful | split

theorem switchDomainOff_lawful {z : State} (code : Nat) (p : Packet) (s : State) (hz : Lawful z s) :
    Lawful z (switchDomainOff code p s) := by
  unfold switchDomainOff
  try dsimp only
  repeat' with_reducible first
    | exact hz | assumption | apply pruneRecipes_lawful | apply releaseWhere_lawful | apply commitP_lawful
    | apply noticeDomain_lawful | apply domainOff_lawful | apply doneLater_lawful | split

theorem setVbus_lawful {z : State} (mv : Nat) (s : State) (hz : Lawful z s) : Lawful z (setVbus mv s) := by
  unfold setVbus
  try dsimp only
  repeat' with_reducible first | exact hz | assumption | apply State.setPwr_lawful | split | exact id | intro _
  all_goals first | rfl | assumption | (simp_all; done)

theorem sagSafe_lawful {z : State} (s : State) (hz : Lawful z s) : Lawful z (sagSafe s) := by
  unfold sagSafe
  try dsimp only
  repeat' with_reducible first | exact hz | assumption | apply setCause_lawful | split

theorem supplyResponse_lawful {z : State} (cause : Nat) (s : State) (hz : Lawful z s) :
    Lawful z (supplyResponse cause s) := by
  unfold supplyResponse
  try dsimp only
  repeat' with_reducible first
    | exact hz | assumption | apply pruneRecipes_lawful | apply closeWrites_lawful | apply sagSafe_lawful
    | apply onSupplyWarning_lawful | split

theorem sagWarn_lawful {z : State} (s : State) (hz : Lawful z s) : Lawful z (sagWarn s) := by
  unfold sagWarn
  try dsimp only
  repeat' with_reducible first
    | exact hz | assumption | apply State.setPwr_lawful | apply supplyResponse_lawful | apply noticeUnit_lawful
    | split | exact id | intro _
  all_goals first | rfl | assumption | (simp_all; done)

theorem supplyCleared_lawful {z : State} (s : State) (hz : Lawful z s) : Lawful z (supplyCleared s) := by
  unfold supplyCleared
  try dsimp only
  repeat' with_reducible first
    | exact hz | assumption | apply noticeCapacity_lawful | apply openWrites_lawful | apply pruneRecipes_lawful
    | apply setCause_lawful | split

theorem heldDown_lawful {z : State} (s : State) (hz : Lawful z s) : Lawful z (heldDown s) := by
  unfold heldDown
  try dsimp only
  repeat' with_reducible first | exact hz | assumption | apply State.setPwr_lawful | split | exact id | intro _
  all_goals first | rfl | assumption | (simp_all; done)

theorem settleVbus_lawful {z : State} (s : State) (hz : Lawful z s) : Lawful z (settleVbus s) := by
  unfold settleVbus
  try dsimp only
  repeat' with_reducible first | exact hz | assumption | apply State.setPwr_lawful | split | exact id | intro _
  all_goals first | rfl | assumption | (simp_all; done)

theorem setVin_lawful {z : State} (x : Nat) (mv : Nat) (good : Bool) (over_ : Bool) (s : State) (hz : Lawful z s) :
    Lawful z (setVin x mv good over_ s) := by
  unfold setVin
  try dsimp only
  repeat' with_reducible first
    | exact hz | assumption | apply settleVbus_lawful | apply State.setPwr_lawful | split | exact id | intro _
  all_goals first | rfl | assumption | (simp_all; done)

theorem inputLost_lawful {z : State} (x : Nat) (mv : Nat) (over_ : Bool) (s : State) (hz : Lawful z s) :
    Lawful z (inputLost x mv over_ s) := by
  unfold inputLost
  try dsimp only
  repeat' with_reducible first | exact hz | assumption | apply setVin_lawful | apply noticeUnit_lawful | split

theorem noticeThrottle_lawful {z : State} (q : Nat) (s : State) (hz : Lawful z s) : Lawful z (noticeThrottle q s) := by
  unfold noticeThrottle
  try dsimp only
  repeat' with_reducible first
    | exact hz | assumption | apply State.setPwr_lawful | apply noticeUnit_lawful | split | exact id | intro _
  all_goals first | rfl | assumption | (simp_all; done)

theorem setThrottle_lawful {z : State} (q : Nat) (f : Nat → Nat) (s : State) (hz : Lawful z s) :
    Lawful z (setThrottle q f s) := by
  unfold setThrottle
  try dsimp only
  repeat' with_reducible first
    | exact hz | assumption | apply settleCycles_lawful | apply State.setPwr_lawful | split | exact id | intro _
  all_goals first | rfl | assumption | (simp_all; done)

theorem throttleDown_lawful {z : State} (q : Nat) (s : State) (hz : Lawful z s) : Lawful z (throttleDown q s) := by
  unfold throttleDown
  try dsimp only
  repeat' with_reducible first
    | exact hz | assumption | apply pruneRecipes_lawful | apply noticeThrottle_lawful | apply onCapacityChange_lawful
    | apply setThrottle_lawful | split

theorem noticeFaster_lawful {z : State} (old : State) (l : List Nat) (s : State) (hz : Lawful z s) :
    Lawful z (noticeFaster old l s) := by
  induction l generalizing s with
  | nil => exact hz
  | cons b r ih =>
    unfold noticeFaster
    apply ih
    split
    · exact noticeBenchCapacity_lawful _ _ hz
    · exact hz

theorem throttleUp_lawful {z : State} (q : Nat) (s : State) (hz : Lawful z s) : Lawful z (throttleUp q s) := by
  unfold throttleUp
  try dsimp only
  repeat' with_reducible first
    | exact hz | assumption | apply setThrottle_lawful | apply State.setPwr_lawful | apply noticeFaster_lawful
    | apply noticeThrottle_lawful | apply refreshDemands_lawful | split | exact id | intro _
  all_goals first | rfl | assumption | (simp_all; done)

theorem setRail_lawful {z : State} (id : Nat) (mv : Nat) (s : State) (hz : Lawful z s) : Lawful z (setRail id mv s) := by
  unfold setRail
  try dsimp only
  repeat' with_reducible first | exact hz | assumption | apply State.setPwr_lawful | split | exact id | intro _
  all_goals first | rfl | assumption | (simp_all; done)

theorem railWarn_lawful {z : State} (id : Nat) (s : State) (hz : Lawful z s) : Lawful z (railWarn id s) := by
  unfold railWarn
  try dsimp only
  repeat' with_reducible first
    | exact hz | assumption | apply supplyResponse_lawful | apply noticeUnit_lawful | apply State.setPwr_lawful
    | apply throttleDown_lawful | split | exact id | intro _
  all_goals first | rfl | assumption | (simp_all; done)

theorem railReset_lawful {z : State} (id : Nat) (s : State) (hz : Lawful z s) : Lawful z (railReset id s) := by
  unfold railReset
  try dsimp only
  repeat' with_reducible first
    | exact hz | assumption | apply upset_lawful | apply State.setPwr_lawful | apply heldDown_lawful
    | apply faultReset_lawful | split | exact id | intro _
  all_goals first | rfl | assumption | (simp_all; done)

theorem setTemps_lawful {z : State} (temps : List Int) (s : State) (hz : Lawful z s) : Lawful z (setTemps temps s) := by
  unfold setTemps
  try dsimp only
  repeat' with_reducible first | exact hz | assumption | apply State.setPwr_lawful | split | exact id | intro _
  all_goals first | rfl | assumption | (simp_all; done)

theorem shutDown_lawful {z : State} (code : Nat) (s : State) (hz : Lawful z s) : Lawful z (shutDown code s) := by
  unfold shutDown
  try dsimp only
  repeat' with_reducible first
    | exact hz | assumption | apply State.setFlt_lawful | apply State.setPwr_lawful | split | exact id | intro _
  all_goals first | rfl | assumption | (simp_all; done)

theorem fansFull_lawful {z : State} (fan : Nat) (s : State) (hz : Lawful z s) : Lawful z (fansFull fan s) := by
  unfold fansFull
  try dsimp only
  repeat' with_reducible first | exact hz | assumption | apply State.emit_lawful | split | apply foldl_lawful | intro _
  all_goals first | rfl | assumption | (simp_all; done)

theorem noticePinned_lawful {z : State} (q : Nat) (upper : Bool) (s : State) (hz : Lawful z s) :
    Lawful z (noticePinned q upper s) := by
  unfold noticePinned
  try dsimp only
  repeat' with_reducible first
    | exact hz | assumption | apply noticeUnit_lawful | apply State.setPwr_lawful | split | exact id | intro _
  all_goals first | rfl | assumption | (simp_all; done)

theorem adapt_lawful {z : State} (q : Nat) (proposed : Int) (critical : Bool) (s : State) (hz : Lawful z s) :
    Lawful z (adapt q proposed critical s) := by
  unfold adapt
  try dsimp only
  repeat' with_reducible first
    | exact hz | assumption | apply State.setPwr_lawful | apply noticePinned_lawful | apply throttleDown_lawful
    | split | exact id | intro _
  all_goals first | rfl | assumption | (simp_all; done)

theorem setInputs_lawful {z : State} (l : List Nat) (s : State) (hz : Lawful z s) : Lawful z (setInputs l s) := by
  unfold setInputs
  try dsimp only
  repeat' with_reducible first
    | exact hz | assumption | apply fieldSupply_lawful | apply State.setPwr_lawful | split | exact id | intro _
  all_goals first | rfl | assumption | (simp_all; done)

theorem mgmtDown_lawful {z : State} (s : State) (hz : Lawful z s) : Lawful z (mgmtDown s) := by
  unfold mgmtDown
  try dsimp only
  repeat' with_reducible first
    | exact hz | assumption | apply setDom_lawful | apply State.setKw_lawful | apply State.setPwr_lawful
    | apply settleFields_lawful | apply State.setBoot_lawful | split | exact KwOk.same rfl rfl | exact fun _ k => k
    | exact id | rfl | intro _
  all_goals first | rfl | assumption | (simp_all; done)

theorem setInput_lawful {z : State} (x : Nat) (mv : Nat) (s : State) (hz : Lawful z s) : Lawful z (setInput x mv s) := by
  unfold setInput
  try dsimp only
  repeat' with_reducible first
    | exact hz | assumption | apply State.setPwr_lawful | apply fieldSupply_lawful | split | exact id | intro _
  all_goals first | rfl | assumption | (simp_all; done)

theorem bumpEach_lawful {z : State} (l : List Nat) (s : State) (hz : Lawful z s) : Lawful z (bumpEach l s) := by
  fun_induction bumpEach l s
  all_goals try dsimp only
  repeat' with_reducible first | exact hz | apply_assumption | assumption | apply bumpFence_lawful | split

theorem quiesce_lawful {z : State} (s : State) (hz : Lawful z s) : Lawful z (quiesce s) := by
  unfold quiesce
  try dsimp only
  repeat' with_reducible first | exact hz | assumption | apply bumpEach_lawful | split

theorem resetReply_lawful {z : State} (r : Ref) (s : State) (hz : Lawful z s) : Lawful z (resetReply r s) := by
  unfold resetReply
  try dsimp only
  repeat' with_reducible first | exact hz | assumption | apply doneLater_lawful | split

theorem startAgain_lawful {z : State} (kind : Nat) (s : State) (hz : Lawful z s) : Lawful z (startAgain kind s) := by
  unfold startAgain
  try dsimp only
  repeat' with_reducible first
    | exact hz | assumption | apply beginStart_lawful | apply heldDown_lawful | apply setDoms_lawful | split

theorem resetUnit_lawful {z : State} (k : Nat) (s : State) (hz : Lawful z s) : Lawful z (resetUnit k s) := by
  unfold resetUnit
  try dsimp only
  repeat' with_reducible first
    | exact hz | assumption | apply unitReset_lawful | apply startAgain_lawful | apply State.setPwr_lawful | split
    | exact id | intro _
  all_goals first | rfl | assumption | (simp_all; done)

theorem sysReset_lawful {z : State} (p : Packet) (k : Nat) (s : State) (hz : Lawful z s) : Lawful z (sysReset p k s) := by
  unfold sysReset
  try dsimp only
  repeat' with_reducible first
    | exact hz | assumption | apply quiesce_lawful | apply commitP_lawful | apply resetReply_lawful
    | apply linkLoss_lawful | apply resetUnit_lawful | split

theorem ledgBench_lawful {z : State} (p : Packet) (a : Admission) (s : State) (hz : Lawful z s) :
    Lawful z (ledgBench p a s) := by
  unfold ledgBench
  try dsimp only
  repeat' with_reducible first
    | exact hz | assumption | apply modP_lawful | apply modBench_lawful | apply ok_lawful | apply releaseBench_lawful
    | split

theorem putPtbFlags_lawful {z : State} (w : Word) (s : State) (hz : Lawful z s) : Lawful z (putPtbFlags w s) := by
  unfold putPtbFlags
  try dsimp only
  repeat' with_reducible first | exact hz | assumption | apply State.setPos_lawful | split

theorem putLaneFlags_lawful {z : State} (l : Nat) (w : Word) (s : State) (hz : Lawful z s) :
    Lawful z (putLaneFlags l w s) := by
  unfold putLaneFlags
  try dsimp only
  repeat' with_reducible first | exact hz | assumption | apply modLane_lawful | split

theorem putRt_lawful {z : State} (f : AssayUnit → AssayUnit) (s : State) (hz : Lawful z s) : Lawful z (putRt f s) := by
  unfold putRt
  try dsimp only
  repeat' with_reducible first | exact hz | assumption | apply State.setAsy_lawful | split

theorem putQ_lawful {z : State} (f : AssayUnit → AssayUnit) (s : State) (hz : Lawful z s) : Lawful z (putQ f s) := by
  unfold putQ
  try dsimp only
  repeat' with_reducible first | exact hz | assumption | apply State.setAsy_lawful | split

theorem putShort_lawful {z : State} (n : Nat) (w : Word) (s : State) (hz : Lawful z s) : Lawful z (putShort n w s) := by
  unfold putShort
  try dsimp only
  repeat' with_reducible first | exact hz | assumption | apply modChan_lawful | split

theorem putTrip_lawful {z : State} (k : Nat) (w : Word) (s : State) (hz : Lawful z s) : Lawful z (putTrip k w s) := by
  unfold putTrip
  try dsimp only
  repeat' with_reducible first | exact hz | assumption | apply modFeed_lawful | split

theorem unitPage_lawful {z : State} (s : State) (page : Nat) : ∀ e ∈ unitPage s page, RegOk (Lawful z) e.2 := by
  have at0 : ∀ (c : Nat) (l : List Reg), RegsOk (Lawful z) l → ∀ e ∈ (if domOn s c then placeRegs 0 l else []), RegOk (Lawful z) e.2 := by
    intro c l h e he
    split at he
    · exact placeRegs_ok h 0 e he
    · cases he
  unfold unitPage
  dsimp only
  split
  case h_3 =>
    intro e he
    simp only [List.mem_flatMap] at he
    obtain ⟨l, -, he⟩ := he
    refine placeRegs_ok ?_ _ e he
    unfold laneRegs
    repeat' with_reducible first
      | apply regs_append | apply regs_cons | exact regs_nil | apply regs_rcs | apply w1c_ok | exact ro_ok _ | exact rs_ok _ | dsimp only
    all_goals (intros; first | (unfold putLaneFlags; exact modLane_lawful _ _ _ ‹_›) | exact modLane_lawful _ _ _ ‹_›)
  case h_14 => intro e he; cases he
  all_goals
    apply at0
    first
      | unfold pagePos | unfold pageLedg | unfold pagePln | unfold pageFab | unfold pageDraw | unfold pageAsy | unfold pageHm
      | unfold pageDio | unfold pageTok | unfold pageFlt | unfold pagePwr | unfold pageBoot
    repeat' with_reducible first
      | apply regs_append | apply regs_cons | exact regs_nil | apply regs_rcs | apply regs_map | apply regs_mapIdx
      | apply regs_flatMap | apply w1c_ok | apply ridx_ok | apply rc_ok | exact ro_ok _ | exact rs_ok _ | exact ro8_ok _ | dsimp only | split | intro _
    all_goals (intros; (try unfold putPtbFlags); repeat' with_reducible first
      | assumption | apply State.setPos_lawful | apply State.setLed_lawful | apply modPlnChan_lawful
      | apply modView_lawful | apply State.setPln_lawful | apply modBench_lawful | apply State.setFab_lawful
      | apply State.setDraw_lawful | apply modDram_lawful | apply State.setAsy_lawful | apply putRt_lawful | apply putQ_lawful
      | apply State.setHm_lawful | apply putShort_lawful | apply putTrip_lawful | apply State.setDio_lawful | apply modChan_lawful
      | apply modFeed_lawful | apply State.setRcp_lawful | apply State.setFlt_lawful | apply State.setPwr_lawful
      | apply State.setBoot_lawful | exact id | exact fun h => h | rfl)

theorem unitReg_lawful {z : State} {s : State} {off : Nat} {r : Reg} (h : unitReg s off = some r) : RegOk (Lawful z) r := by
  unfold unitReg at h
  simp only [Option.map_eq_some_iff] at h
  obtain ⟨e, he, rfl⟩ := h
  exact unitPage_lawful s _ e (List.mem_of_find?_eq_some he)

theorem windowRc_lawful {z : State} {fn off : Nat} {s : State} {r : Reg} (h : windowRc fn off s = some r) : RegOk (Lawful z) r := by
  unfold windowRc at h
  repeat' split at h
  all_goals first
    | cases h; done
    | (simp only [Option.some.injEq] at h; subst h; exact rc_ok fun w s hz => modTen_lawful _ _ _ hz fun t ht => ht)

theorem rcReg_lawful {z : State} {fn off : Nat} {s : State} {r : Reg} (h : rcReg fn off s = some r) : RegOk (Lawful z) r := by
  unfold rcReg at h
  repeat' split at h
  · exact windowRc_lawful h
  · simp only [Option.filter_eq_some_iff] at h
    exact unitReg_lawful h.1
  · cases h

theorem barRead_lawful {z : State} (fn : Nat) (off : Nat) (v : Nat) (s : State) (hz : Lawful z s) :
    Lawful z (barRead fn off v s) := by
  unfold barRead
  try dsimp only
  repeat' with_reducible first | exact hz | assumption | apply State.emit_lawful | split

theorem accessError_lawful {z : State} (fn : Nat) (s : State) (hz : Lawful z s) : Lawful z (accessError fn s) := by
  unfold accessError
  try dsimp only
  repeat' with_reducible first | exact hz | assumption | apply setStatus_lawful | split

theorem latch_lawful {z : State} (fn : Nat) (off : Nat) (v : Nat) (s : State) (hz : Lawful z s) :
    Lawful z (latch fn off v s) := by
  unfold latch
  try dsimp only
  repeat' with_reducible first | exact hz | assumption | apply modTen_lawful | split | exact fun _ k => k | intro _
  all_goals first | rfl | assumption | (simp_all; done)

theorem readEffect_lawful {z : State} (fn off bump : Nat) (s : State) (hz : Lawful z s) :
    Lawful z (readEffect fn off bump s) := by
  unfold readEffect
  split
  · rename_i r hr
    exact rcReg_lawful hr _ _ hz
  · split
    · exact latch_lawful _ _ _ _ hz
    · exact hz

theorem regRead_lawful {z : State} (fn : Nat) (off : Nat) (wide : Bool) (bump : Nat) (s : State) (hz : Lawful z s) :
    Lawful z (regRead fn off wide bump s) := by
  unfold regRead
  try dsimp only
  repeat' with_reducible first
    | exact hz | assumption | apply barRead_lawful | apply accessError_lawful | apply readEffect_lawful | split

theorem clearFlags_lawful {z : State} (fn off : Nat) (v setNow : Word) (s : State) (hz : Lawful z s) :
    Lawful z (clearFlags fn off v setNow s) := by
  unfold clearFlags
  split
  · exact modTen_lawful _ _ _ hz fun t h => h
  · split
    · split
      · rename_i r hr
        split
        · exact unitReg_lawful hr _ _ hz
        · exact hz
      · exact hz
    · exact hz

theorem setRidx_lawful {z : State} (v : Nat) (w : Word) (s : State) (hz : Lawful z s) : Lawful z (setRidx v w s) := by
  unfold setRidx
  try dsimp only
  repeat' with_reducible first | exact hz | assumption | apply modView_lawful | split

theorem ringConfig_lawful {z : State} (fn : Nat) (f : Tenant → Tenant) (s : State) (hz : Lawful z s)
    (hf : ∀ t, t.fence ≠ 0 → (f t).fence ≠ 0) : Lawful z (ringConfig fn f s) := by
  unfold ringConfig
  split
  · exact setStatus_lawful _ _ _ hz
  · exact modTen_lawful _ _ _ hz hf

theorem msixWrite_lawful {z : State} (fn : Nat) (off : Nat) (v : Word) (s : State) (hz : Lawful z s) :
    Lawful z (msixWrite fn off v s) := by
  unfold msixWrite
  try dsimp only
  repeat' with_reducible first
    | exact hz | assumption | apply flushPending_lawful | apply modTen_lawful | split | exact fun _ k => k | intro _
  all_goals first | rfl | assumption | (simp_all; done)

theorem windowWrite_lawful {z : State} (fn : Nat) (off : Nat) (v : Word) (s : State) (hz : Lawful z s) :
    Lawful z (windowWrite fn off v s) := by
  unfold windowWrite
  try dsimp only
  repeat' with_reducible first
    | exact hz | assumption | apply enableRing_lawful | apply disableRing_lawful | apply clearFlags_lawful
    | apply ringConfig_lawful | apply writeCoal_lawful | apply modTen_lawful | apply sqDoorbell_lawful
    | apply cqDoorbell_lawful | apply msixWrite_lawful | split | exact fun _ k => k | intro _
  all_goals first | rfl | assumption | (simp_all; done)

theorem write32_lawful {z : State} (fn : Nat) (off : Nat) (v : Word) (s : State) (hz : Lawful z s) :
    Lawful z (write32 fn off v s) := by
  unfold write32
  try dsimp only
  repeat' with_reducible first
    | exact hz | assumption | apply windowWrite_lawful | apply setRidx_lawful | apply clearFlags_lawful | split

theorem barWrite_lawful {z : State} (fn : Nat) (off : Nat) (wide : Bool) (v : Long) (s : State) (hz : Lawful z s) :
    Lawful z (barWrite fn off wide v s) := by
  unfold barWrite
  try dsimp only
  repeat' with_reducible first | exact hz | assumption | apply accessError_lawful | apply write32_lawful | split

end Sys2Proof.Machine
end

