-- ==== Sys2Proof/Laws/Ops.lean ====
section
/-! SUPPORT. What carrying out an opcode does: under `opStarts` an opcode's meaning is its own body. -/

namespace Sys2Proof.Machine

open Sys2Proof

/-- Carried out in this step, an opcode does what its own body says. -/
theorem runOp_starts {opcode : Half} {r : Ref} {p : Packet} {s : State} (h : opStarts opcode r p s = true)
    (body : Packet → State → State) : runOp opcode r s body = body p s := by
  simp only [opStarts, Bool.and_eq_true, decide_eq_true_eq] at h
  obtain ⟨⟨hr, hl⟩, hg⟩ := h
  simp only [Bool.not_eq_true'] at hl
  unfold runOp
  rw [hr]
  revert hg
  cases opRow opcode.toNat with
  | none => intro hg; cases hg
  | some row =>
    simp only [hl]
    cases gate p row s with
    | none => intro _; simp
    | some x => intro hg; cases hg

/-- A packet that may be carried out is outstanding under its reference, with the opcode, and has not started. -/
theorem opStarts_ready {opcode : Half} {r : Ref} {p : Packet} {s : State} (h : opStarts opcode r p s = true) :
    findP r s = some p ∧ p.opcode = opcode ∧ mayStart s p = true := by
  simp only [opStarts, Bool.and_eq_true, decide_eq_true_eq] at h
  obtain ⟨⟨h, -⟩, -⟩ := h
  unfold ready at h
  split at h
  · rename_i q hq
    split at h
    · rename_i hc; cases h; exact ⟨hq, hc.1, hc.2⟩
    · cases h
  · cases h

/-! ## The tenants -/

theorem getI_upd_self {α : Type} (l : List α) (n : Nat) (f : α → α) (d : α) (h : n < l.length) : getI (upd l n f) n d = f (getI l n d) := by
  simp [getI, upd, List.getD_eq_getElem?_getD, h]

theorem getI_upd_ne {α : Type} (l : List α) (n m : Nat) (f : α → α) (d : α) (h : n ≠ m) : getI (upd l n f) m d = getI l m d := by
  simp [getI, upd, List.getD_eq_getElem?_getD, h]

theorem ten_modTen_self (s : State) (n : Nat) (f : Tenant → Tenant) (h : n < s.kw.tenants.length) :
    ten (modTen n f s) n = f (ten s n) := by simp [ten, modTen, getI_upd_self _ _ _ _ h]

theorem ten_modTen_ne (s : State) (n m : Nat) (f : Tenant → Tenant) (h : n ≠ m) : ten (modTen n f s) m = ten s m := by
  simp [ten, modTen, getI_upd_ne _ _ _ _ _ h]

@[simp] theorem modTen_length (s : State) (n : Nat) (f : Tenant → Tenant) :
    (modTen n f s).kw.tenants.length = s.kw.tenants.length := by simp [modTen, upd]

@[simp] theorem ten_setNow (s : State) (v : Nat) (n : Nat) : ten (s.setNow v) n = ten s n := rfl
@[simp] theorem ten_setEmitted (s : State) (v : List Emit) (n : Nat) : ten (s.setEmitted v) n = ten s n := rfl
@[simp] theorem ten_setHost (s : State) (v : Memory) (n : Nat) : ten (s.setHost v) n = ten s n := rfl
@[simp] theorem ten_setPos (s : State) (v : Position) (n : Nat) : ten (s.setPos v) n = ten s n := rfl
@[simp] theorem ten_setLed (s : State) (v : Ledger) (n : Nat) : ten (s.setLed v) n = ten s n := rfl
@[simp] theorem ten_setLanes (s : State) (v : Lanes) (n : Nat) : ten (s.setLanes v) n = ten s n := rfl
@[simp] theorem ten_setPln (s : State) (v : Planish) (n : Nat) : ten (s.setPln v) n = ten s n := rfl
@[simp] theorem ten_setFab (s : State) (v : Fabric) (n : Nat) : ten (s.setFab v) n = ten s n := rfl
@[simp] theorem ten_setDraw (s : State) (v : Draw) (n : Nat) : ten (s.setDraw v) n = ten s n := rfl
@[simp] theorem ten_setAsy (s : State) (v : Assay) (n : Nat) : ten (s.setAsy v) n = ten s n := rfl
@[simp] theorem ten_setHm (s : State) (v : Hallmark) (n : Nat) : ten (s.setHm v) n = ten s n := rfl
@[simp] theorem ten_setDio (s : State) (v : FieldIo) (n : Nat) : ten (s.setDio v) n = ten s n := rfl
@[simp] theorem ten_setRcp (s : State) (v : Recipes) (n : Nat) : ten (s.setRcp v) n = ten s n := rfl
@[simp] theorem ten_setFlt (s : State) (v : Faults) (n : Nat) : ten (s.setFlt v) n = ten s n := rfl
@[simp] theorem ten_setPwr (s : State) (v : Power) (n : Nat) : ten (s.setPwr v) n = ten s n := rfl
@[simp] theorem ten_setBoot (s : State) (v : Boot) (n : Nat) : ten (s.setBoot v) n = ten s n := rfl
@[simp] theorem modTen_pending (s : State) (n : Nat) (f : Tenant → Tenant) : (modTen n f s).pending = s.pending := rfl
@[simp] theorem modTen_now (s : State) (n : Nat) (f : Tenant → Tenant) : (modTen n f s).now = s.now := rfl
@[simp] theorem modTen_emitted (s : State) (n : Nat) (f : Tenant → Tenant) : (modTen n f s).emitted = s.emitted := rfl
@[simp] theorem modTen_host (s : State) (n : Nat) (f : Tenant → Tenant) : (modTen n f s).host = s.host := rfl
@[simp] theorem modTen_pos (s : State) (n : Nat) (f : Tenant → Tenant) : (modTen n f s).pos = s.pos := rfl
@[simp] theorem modTen_led (s : State) (n : Nat) (f : Tenant → Tenant) : (modTen n f s).led = s.led := rfl
@[simp] theorem modTen_lanes (s : State) (n : Nat) (f : Tenant → Tenant) : (modTen n f s).lanes = s.lanes := rfl
@[simp] theorem modTen_pln (s : State) (n : Nat) (f : Tenant → Tenant) : (modTen n f s).pln = s.pln := rfl
@[simp] theorem modTen_fab (s : State) (n : Nat) (f : Tenant → Tenant) : (modTen n f s).fab = s.fab := rfl
@[simp] theorem modTen_draw (s : State) (n : Nat) (f : Tenant → Tenant) : (modTen n f s).draw = s.draw := rfl
@[simp] theorem modTen_asy (s : State) (n : Nat) (f : Tenant → Tenant) : (modTen n f s).asy = s.asy := rfl
@[simp] theorem modTen_hm (s : State) (n : Nat) (f : Tenant → Tenant) : (modTen n f s).hm = s.hm := rfl
@[simp] theorem modTen_dio (s : State) (n : Nat) (f : Tenant → Tenant) : (modTen n f s).dio = s.dio := rfl
@[simp] theorem modTen_rcp (s : State) (n : Nat) (f : Tenant → Tenant) : (modTen n f s).rcp = s.rcp := rfl
@[simp] theorem modTen_flt (s : State) (n : Nat) (f : Tenant → Tenant) : (modTen n f s).flt = s.flt := rfl
@[simp] theorem modTen_pwr (s : State) (n : Nat) (f : Tenant → Tenant) : (modTen n f s).pwr = s.pwr := rfl
@[simp] theorem modTen_boot (s : State) (n : Nat) (f : Tenant → Tenant) : (modTen n f s).boot = s.boot := rfl
@[simp] theorem modTen_outstanding (s : State) (n : Nat) (f : Tenant → Tenant) : (modTen n f s).kw.outstanding = s.kw.outstanding := rfl
@[simp] theorem ten_at (s : State) (t n : Nat) : ten (s.at_ t) n = ten s n := rfl
@[simp] theorem ten_emit (s : State) (e : Emit) (n : Nat) : ten (s.emit e) n = ten s n := rfl
@[simp] theorem at_kw (s : State) (t : Nat) : (s.at_ t).kw = s.kw := rfl
@[simp] theorem at_now (s : State) (t : Nat) : (s.at_ t).now = max s.now t := rfl
@[simp] theorem emit_kw (s : State) (e : Emit) : (s.emit e).kw = s.kw := rfl
@[simp] theorem emit_emitted (s : State) (e : Emit) : (s.emit e).emitted = e :: s.emitted := rfl

/-- A signalled vector changes nothing of any tenant but its pending bits. -/
theorem ten_msixSend (s : State) (n v m : Nat) (hn : n < s.kw.tenants.length) :
    ten (msixSend n v s) m = if m = n ∧ v ≠ 3 ∧ vectorHeld (ten s n) v = true
      then { ten s n with pba := upd (ten s n).pba v fun _ => true } else ten s m := by
  unfold msixSend
  by_cases h3 : v = 3
  · simp [h3]
  · by_cases hv : vectorHeld (ten s n) v = true
    · by_cases hm : m = n
      · subst hm; simp [h3, hv, ten_modTen_self _ _ _ hn]
      · simp [h3, hv, hm, ten_modTen_ne _ _ _ _ (Ne.symm hm)]
    · simp [h3, hv]

/-- What a tenant keeps whatever is signalled, written to its ring or logged for it: its fence, its enable and its class mask. -/
def sameWindow (t u : Tenant) : Prop := u.fence = t.fence ∧ u.en = t.en ∧ u.classMask = t.classMask ∧ u.events = t.events

theorem sameWindow_refl (t : Tenant) : sameWindow t t := ⟨rfl, rfl, rfl, rfl⟩
theorem sameWindow.trans {t u v : Tenant} (h : sameWindow t u) (k : sameWindow u v) : sameWindow t v :=
  ⟨k.1.trans h.1, k.2.1.trans h.2.1, k.2.2.1.trans h.2.2.1, k.2.2.2.trans h.2.2.2⟩

theorem sameWindow_modTen (s : State) (n m : Nat) (f : Tenant → Tenant) (h : ∀ t, sameWindow t (f t)) :
    sameWindow (ten s m) (ten (modTen n f s) m) := by
  by_cases hm : n = m
  · subst hm
    by_cases hn : n < s.kw.tenants.length
    · rw [ten_modTen_self _ _ _ hn]; exact h _
    · simp only [ten, modTen, State.setKw_kw, getI, upd, List.getD_eq_getElem?_getD, List.getElem?_modify]
      simp only [not_lt] at hn
      simp [List.getElem?_eq_none hn, sameWindow]
  · rw [ten_modTen_ne _ _ _ _ hm]; exact sameWindow_refl _

theorem sameWindow_msixSend (s : State) (n v m : Nat) : sameWindow (ten s m) (ten (msixSend n v s) m) := by
  unfold msixSend
  split
  · exact sameWindow_refl _
  · split
    · exact sameWindow_modTen _ _ _ _ fun _ => ⟨rfl, rfl, rfl, rfl⟩
    · exact sameWindow_refl _

theorem sameWindow_writeSlot (s : State) (n v m : Nat) (b : Bytes) : sameWindow (ten s m) (ten (writeSlot n v b s) m) :=
  sameWindow_modTen (s.setHost _) _ _ _ fun _ => ⟨rfl, rfl, rfl, rfl⟩

theorem sameWindow_coalesce (s : State) (n m : Nat) (b : Bool) : sameWindow (ten s m) (ten (coalesce n b s) m) := by
  unfold coalesce
  dsimp only
  split
  · refine sameWindow.trans ?_ (sameWindow_msixSend _ _ _ _)
    exact sameWindow_modTen _ _ _ _ fun _ => ⟨rfl, rfl, rfl, rfl⟩
  · exact sameWindow_modTen _ _ _ _ fun _ => ⟨rfl, rfl, rfl, rfl⟩

@[simp] theorem badHost_modTen (s : State) (n : Nat) (f : Tenant → Tenant) : (modTen n f s).kw.badHost = s.kw.badHost := rfl
@[simp] theorem badHost_msixSend (s : State) (n v : Nat) : (msixSend n v s).kw.badHost = s.kw.badHost := by
  unfold msixSend; split_ifs <;> rfl
@[simp] theorem badHost_writeSlot (s : State) (n v : Nat) (b : Bytes) : (writeSlot n v b s).kw.badHost = s.kw.badHost := rfl
@[simp] theorem badHost_coalesce (s : State) (n : Nat) (b : Bool) : (coalesce n b s).kw.badHost = s.kw.badHost := by
  unfold coalesce; dsimp only; split <;> simp

/-- With no host range that ends in an error, no write of a reply does (03 R151). -/
theorem replyBad_none (s : State) (i : ReplyInfo) (h : s.kw.badHost = []) : replyBad i s = false := by
  simp [replyBad, slotBad, hostBad, h]

theorem sameWindow_tenantReply (s : State) (i : ReplyInfo) (o : Bool) (m : Nat) (h : s.kw.badHost = []) :
    sameWindow (ten s m) (ten (tenantReply i o s) m) ∧ (tenantReply i o s).kw.badHost = [] := by
  unfold tenantReply
  rw [replyBad_none s i h]
  split
  · exact ⟨sameWindow_modTen _ _ _ _ fun _ => ⟨rfl, rfl, rfl, rfl⟩, h⟩
  · unfold ringReply
    dsimp only
    refine ⟨?_, by simpa using h⟩
    refine sameWindow.trans ?_ (sameWindow_coalesce _ _ _ _)
    refine sameWindow.trans ?_ (sameWindow_writeSlot _ _ _ _ _)
    exact sameWindow_modTen (s.setHost _) _ _ _ fun _ => ⟨rfl, rfl, rfl, rfl⟩

/-- A packet's outcome, wherever it is written, leaves every tenant's window as it was, where no host write ends in an error. -/
theorem sameWindow_finish (p : Packet) (st : Half) (fence sp : Word) (res : Bytes) (s : State) (m : Nat) (h : s.kw.badHost = []) :
    sameWindow (ten s m) (ten (finish p st fence sp res s) m) ∧ (finish p st fence sp res s).kw.badHost = [] := by
  unfold finish
  dsimp only
  split
  · exact ⟨sameWindow_refl _, h⟩
  · unfold deliver
    dsimp only
    split
    · exact ⟨sameWindow_refl _, h⟩
    · exact sameWindow_tenantReply (dropP p.ref s) _ _ _ h

theorem sameWindow_cancelP (p : Packet) (st : Half) (fence : Word) (s : State) (m : Nat) (h : s.kw.badHost = []) :
    sameWindow (ten s m) (ten (cancelP p st fence s) m) ∧ (cancelP p st fence s).kw.badHost = [] := by
  unfold cancelP
  exact sameWindow_finish _ _ _ _ _ (withdraw p.ref s) _ h

theorem sameWindow_cancelAll (l : List Packet) (s : State) (m : Nat) (h : s.kw.badHost = []) :
    sameWindow (ten s m) (ten (cancelAll l s) m) ∧ (cancelAll l s).kw.badHost = [] := by
  induction l generalizing s with
  | nil => exact ⟨sameWindow_refl _, h⟩
  | cons p r ih =>
    have h1 := sameWindow_cancelP p stFENCED p.fence s m h
    exact ⟨h1.1.trans (ih _ h1.2).1, (ih _ h1.2).2⟩

/-- A bump gives the tenant the next generation and nothing else of its window, where no host write ends in an error. -/
theorem bumpFence_window (n : Nat) (s : State) (hn : n < s.kw.tenants.length) (h : s.kw.badHost = []) :
    sameWindow { ten s n with fence := nextFence (ten s n).fence } (ten (bumpFence n s) n) := by
  unfold bumpFence
  refine sameWindow.trans ?_ (sameWindow_cancelAll _ (modTen n (fun t => { t with fence := nextFence t.fence }) s) _ h).1
  rw [ten_modTen_self _ _ _ hn]
  exact sameWindow_refl _

/-- A dropped packet is outstanding no more. -/
theorem findP_dropP (r : Ref) (s : State) : findP r (dropP r s) = none := by
  simp only [findP, dropP, sameRef, List.find?_eq_none]
  intro x hx
  simp at hx ⊢
  intro hp ht
  exact hx.2.elim (fun h => h hp) fun h => h ht

end Sys2Proof.Machine
end

