-- ==== Sys2Proof/Laws/Tables.lean ====
section
/-! SUPPORT. Reading back an entry of a table that was changed: lanes, image channels, views, benches, field channels and feeds;
and what their updates leave alone. -/

namespace Sys2Proof.Machine

open Sys2Proof

/-! ## laneOf and modLane -/

theorem laneOf_modLane_self (s : State) (n : Nat) (f : Lane → Lane) (h : n < s.lanes.lane.length) : laneOf (modLane n f s) n = f (laneOf s n) := by
  simp only [laneOf, modLane]
  exact getI_upd_self _ _ _ _ h

theorem laneOf_modLane_ne (s : State) (n m : Nat) (f : Lane → Lane) (h : n ≠ m) : laneOf (modLane n f s) m = laneOf s m := by
  simp only [laneOf, modLane]
  exact getI_upd_ne _ _ _ _ _ h

@[simp] theorem modLane_length (s : State) (n : Nat) (f : Lane → Lane) : (modLane n f s).lanes.lane.length = s.lanes.lane.length := by
  simp [modLane, upd]

@[simp] theorem laneOf_setNow (s : State) (v : Nat) (n : Nat) : laneOf (s.setNow v) n = laneOf s n := rfl
@[simp] theorem laneOf_setEmitted (s : State) (v : List Emit) (n : Nat) : laneOf (s.setEmitted v) n = laneOf s n := rfl
@[simp] theorem laneOf_setHost (s : State) (v : Memory) (n : Nat) : laneOf (s.setHost v) n = laneOf s n := rfl
@[simp] theorem laneOf_setPos (s : State) (v : Position) (n : Nat) : laneOf (s.setPos v) n = laneOf s n := rfl
@[simp] theorem laneOf_setLed (s : State) (v : Ledger) (n : Nat) : laneOf (s.setLed v) n = laneOf s n := rfl
@[simp] theorem laneOf_setKw (s : State) (v : Kwelo) (n : Nat) : laneOf (s.setKw v) n = laneOf s n := rfl
@[simp] theorem laneOf_setPln (s : State) (v : Planish) (n : Nat) : laneOf (s.setPln v) n = laneOf s n := rfl
@[simp] theorem laneOf_setFab (s : State) (v : Fabric) (n : Nat) : laneOf (s.setFab v) n = laneOf s n := rfl
@[simp] theorem laneOf_setDraw (s : State) (v : Draw) (n : Nat) : laneOf (s.setDraw v) n = laneOf s n := rfl
@[simp] theorem laneOf_setAsy (s : State) (v : Assay) (n : Nat) : laneOf (s.setAsy v) n = laneOf s n := rfl
@[simp] theorem laneOf_setHm (s : State) (v : Hallmark) (n : Nat) : laneOf (s.setHm v) n = laneOf s n := rfl
@[simp] theorem laneOf_setDio (s : State) (v : FieldIo) (n : Nat) : laneOf (s.setDio v) n = laneOf s n := rfl
@[simp] theorem laneOf_setRcp (s : State) (v : Recipes) (n : Nat) : laneOf (s.setRcp v) n = laneOf s n := rfl
@[simp] theorem laneOf_setFlt (s : State) (v : Faults) (n : Nat) : laneOf (s.setFlt v) n = laneOf s n := rfl
@[simp] theorem laneOf_setPwr (s : State) (v : Power) (n : Nat) : laneOf (s.setPwr v) n = laneOf s n := rfl
@[simp] theorem laneOf_setBoot (s : State) (v : Boot) (n : Nat) : laneOf (s.setBoot v) n = laneOf s n := rfl
@[simp] theorem modLane_now (s : State) (n : Nat) (f : Lane → Lane) : (modLane n f s).now = s.now := rfl
@[simp] theorem modLane_emitted (s : State) (n : Nat) (f : Lane → Lane) : (modLane n f s).emitted = s.emitted := rfl
@[simp] theorem modLane_host (s : State) (n : Nat) (f : Lane → Lane) : (modLane n f s).host = s.host := rfl
@[simp] theorem modLane_pos (s : State) (n : Nat) (f : Lane → Lane) : (modLane n f s).pos = s.pos := rfl
@[simp] theorem modLane_led (s : State) (n : Nat) (f : Lane → Lane) : (modLane n f s).led = s.led := rfl
@[simp] theorem modLane_kw (s : State) (n : Nat) (f : Lane → Lane) : (modLane n f s).kw = s.kw := rfl
@[simp] theorem modLane_pln (s : State) (n : Nat) (f : Lane → Lane) : (modLane n f s).pln = s.pln := rfl
@[simp] theorem modLane_fab (s : State) (n : Nat) (f : Lane → Lane) : (modLane n f s).fab = s.fab := rfl
@[simp] theorem modLane_draw (s : State) (n : Nat) (f : Lane → Lane) : (modLane n f s).draw = s.draw := rfl
@[simp] theorem modLane_asy (s : State) (n : Nat) (f : Lane → Lane) : (modLane n f s).asy = s.asy := rfl
@[simp] theorem modLane_hm (s : State) (n : Nat) (f : Lane → Lane) : (modLane n f s).hm = s.hm := rfl
@[simp] theorem modLane_dio (s : State) (n : Nat) (f : Lane → Lane) : (modLane n f s).dio = s.dio := rfl
@[simp] theorem modLane_rcp (s : State) (n : Nat) (f : Lane → Lane) : (modLane n f s).rcp = s.rcp := rfl
@[simp] theorem modLane_flt (s : State) (n : Nat) (f : Lane → Lane) : (modLane n f s).flt = s.flt := rfl
@[simp] theorem modLane_pwr (s : State) (n : Nat) (f : Lane → Lane) : (modLane n f s).pwr = s.pwr := rfl
@[simp] theorem modLane_boot (s : State) (n : Nat) (f : Lane → Lane) : (modLane n f s).boot = s.boot := rfl
@[simp] theorem modLane_pending (s : State) (n : Nat) (f : Lane → Lane) : (modLane n f s).pending = s.pending := rfl
@[simp] theorem laneOf_at (s : State) (t n : Nat) : laneOf (s.at_ t) n = laneOf s n := rfl
@[simp] theorem laneOf_emit (s : State) (e : Emit) (n : Nat) : laneOf (s.emit e) n = laneOf s n := rfl

/-! ## plnChan and modPlnChan -/

theorem plnChan_modPlnChan_self (s : State) (n : Nat) (f : Channel → Channel) (h : n < s.pln.chan.length) : plnChan (modPlnChan n f s) n = f (plnChan s n) := by
  simp only [plnChan, modPlnChan]
  exact getI_upd_self _ _ _ _ h

theorem plnChan_modPlnChan_ne (s : State) (n m : Nat) (f : Channel → Channel) (h : n ≠ m) : plnChan (modPlnChan n f s) m = plnChan s m := by
  simp only [plnChan, modPlnChan]
  exact getI_upd_ne _ _ _ _ _ h

@[simp] theorem modPlnChan_length (s : State) (n : Nat) (f : Channel → Channel) : (modPlnChan n f s).pln.chan.length = s.pln.chan.length := by
  simp [modPlnChan, upd]

@[simp] theorem plnChan_setNow (s : State) (v : Nat) (n : Nat) : plnChan (s.setNow v) n = plnChan s n := rfl
@[simp] theorem plnChan_setEmitted (s : State) (v : List Emit) (n : Nat) : plnChan (s.setEmitted v) n = plnChan s n := rfl
@[simp] theorem plnChan_setHost (s : State) (v : Memory) (n : Nat) : plnChan (s.setHost v) n = plnChan s n := rfl
@[simp] theorem plnChan_setPos (s : State) (v : Position) (n : Nat) : plnChan (s.setPos v) n = plnChan s n := rfl
@[simp] theorem plnChan_setLed (s : State) (v : Ledger) (n : Nat) : plnChan (s.setLed v) n = plnChan s n := rfl
@[simp] theorem plnChan_setKw (s : State) (v : Kwelo) (n : Nat) : plnChan (s.setKw v) n = plnChan s n := rfl
@[simp] theorem plnChan_setLanes (s : State) (v : Lanes) (n : Nat) : plnChan (s.setLanes v) n = plnChan s n := rfl
@[simp] theorem plnChan_setFab (s : State) (v : Fabric) (n : Nat) : plnChan (s.setFab v) n = plnChan s n := rfl
@[simp] theorem plnChan_setDraw (s : State) (v : Draw) (n : Nat) : plnChan (s.setDraw v) n = plnChan s n := rfl
@[simp] theorem plnChan_setAsy (s : State) (v : Assay) (n : Nat) : plnChan (s.setAsy v) n = plnChan s n := rfl
@[simp] theorem plnChan_setHm (s : State) (v : Hallmark) (n : Nat) : plnChan (s.setHm v) n = plnChan s n := rfl
@[simp] theorem plnChan_setDio (s : State) (v : FieldIo) (n : Nat) : plnChan (s.setDio v) n = plnChan s n := rfl
@[simp] theorem plnChan_setRcp (s : State) (v : Recipes) (n : Nat) : plnChan (s.setRcp v) n = plnChan s n := rfl
@[simp] theorem plnChan_setFlt (s : State) (v : Faults) (n : Nat) : plnChan (s.setFlt v) n = plnChan s n := rfl
@[simp] theorem plnChan_setPwr (s : State) (v : Power) (n : Nat) : plnChan (s.setPwr v) n = plnChan s n := rfl
@[simp] theorem plnChan_setBoot (s : State) (v : Boot) (n : Nat) : plnChan (s.setBoot v) n = plnChan s n := rfl
@[simp] theorem modPlnChan_now (s : State) (n : Nat) (f : Channel → Channel) : (modPlnChan n f s).now = s.now := rfl
@[simp] theorem modPlnChan_emitted (s : State) (n : Nat) (f : Channel → Channel) : (modPlnChan n f s).emitted = s.emitted := rfl
@[simp] theorem modPlnChan_host (s : State) (n : Nat) (f : Channel → Channel) : (modPlnChan n f s).host = s.host := rfl
@[simp] theorem modPlnChan_pos (s : State) (n : Nat) (f : Channel → Channel) : (modPlnChan n f s).pos = s.pos := rfl
@[simp] theorem modPlnChan_led (s : State) (n : Nat) (f : Channel → Channel) : (modPlnChan n f s).led = s.led := rfl
@[simp] theorem modPlnChan_kw (s : State) (n : Nat) (f : Channel → Channel) : (modPlnChan n f s).kw = s.kw := rfl
@[simp] theorem modPlnChan_lanes (s : State) (n : Nat) (f : Channel → Channel) : (modPlnChan n f s).lanes = s.lanes := rfl
@[simp] theorem modPlnChan_fab (s : State) (n : Nat) (f : Channel → Channel) : (modPlnChan n f s).fab = s.fab := rfl
@[simp] theorem modPlnChan_draw (s : State) (n : Nat) (f : Channel → Channel) : (modPlnChan n f s).draw = s.draw := rfl
@[simp] theorem modPlnChan_asy (s : State) (n : Nat) (f : Channel → Channel) : (modPlnChan n f s).asy = s.asy := rfl
@[simp] theorem modPlnChan_hm (s : State) (n : Nat) (f : Channel → Channel) : (modPlnChan n f s).hm = s.hm := rfl
@[simp] theorem modPlnChan_dio (s : State) (n : Nat) (f : Channel → Channel) : (modPlnChan n f s).dio = s.dio := rfl
@[simp] theorem modPlnChan_rcp (s : State) (n : Nat) (f : Channel → Channel) : (modPlnChan n f s).rcp = s.rcp := rfl
@[simp] theorem modPlnChan_flt (s : State) (n : Nat) (f : Channel → Channel) : (modPlnChan n f s).flt = s.flt := rfl
@[simp] theorem modPlnChan_pwr (s : State) (n : Nat) (f : Channel → Channel) : (modPlnChan n f s).pwr = s.pwr := rfl
@[simp] theorem modPlnChan_boot (s : State) (n : Nat) (f : Channel → Channel) : (modPlnChan n f s).boot = s.boot := rfl
@[simp] theorem modPlnChan_pending (s : State) (n : Nat) (f : Channel → Channel) : (modPlnChan n f s).pending = s.pending := rfl
@[simp] theorem plnChan_at (s : State) (t n : Nat) : plnChan (s.at_ t) n = plnChan s n := rfl
@[simp] theorem plnChan_emit (s : State) (e : Emit) (n : Nat) : plnChan (s.emit e) n = plnChan s n := rfl

/-! ## viewOf and modView -/

theorem viewOf_modView_self (s : State) (n : Nat) (f : View → View) (h : n < s.pln.view.length) : viewOf (modView n f s) n = f (viewOf s n) := by
  simp only [viewOf, modView]
  exact getI_upd_self _ _ _ _ h

theorem viewOf_modView_ne (s : State) (n m : Nat) (f : View → View) (h : n ≠ m) : viewOf (modView n f s) m = viewOf s m := by
  simp only [viewOf, modView]
  exact getI_upd_ne _ _ _ _ _ h

@[simp] theorem modView_length (s : State) (n : Nat) (f : View → View) : (modView n f s).pln.view.length = s.pln.view.length := by
  simp [modView, upd]

@[simp] theorem viewOf_setNow (s : State) (v : Nat) (n : Nat) : viewOf (s.setNow v) n = viewOf s n := rfl
@[simp] theorem viewOf_setEmitted (s : State) (v : List Emit) (n : Nat) : viewOf (s.setEmitted v) n = viewOf s n := rfl
@[simp] theorem viewOf_setHost (s : State) (v : Memory) (n : Nat) : viewOf (s.setHost v) n = viewOf s n := rfl
@[simp] theorem viewOf_setPos (s : State) (v : Position) (n : Nat) : viewOf (s.setPos v) n = viewOf s n := rfl
@[simp] theorem viewOf_setLed (s : State) (v : Ledger) (n : Nat) : viewOf (s.setLed v) n = viewOf s n := rfl
@[simp] theorem viewOf_setKw (s : State) (v : Kwelo) (n : Nat) : viewOf (s.setKw v) n = viewOf s n := rfl
@[simp] theorem viewOf_setLanes (s : State) (v : Lanes) (n : Nat) : viewOf (s.setLanes v) n = viewOf s n := rfl
@[simp] theorem viewOf_setFab (s : State) (v : Fabric) (n : Nat) : viewOf (s.setFab v) n = viewOf s n := rfl
@[simp] theorem viewOf_setDraw (s : State) (v : Draw) (n : Nat) : viewOf (s.setDraw v) n = viewOf s n := rfl
@[simp] theorem viewOf_setAsy (s : State) (v : Assay) (n : Nat) : viewOf (s.setAsy v) n = viewOf s n := rfl
@[simp] theorem viewOf_setHm (s : State) (v : Hallmark) (n : Nat) : viewOf (s.setHm v) n = viewOf s n := rfl
@[simp] theorem viewOf_setDio (s : State) (v : FieldIo) (n : Nat) : viewOf (s.setDio v) n = viewOf s n := rfl
@[simp] theorem viewOf_setRcp (s : State) (v : Recipes) (n : Nat) : viewOf (s.setRcp v) n = viewOf s n := rfl
@[simp] theorem viewOf_setFlt (s : State) (v : Faults) (n : Nat) : viewOf (s.setFlt v) n = viewOf s n := rfl
@[simp] theorem viewOf_setPwr (s : State) (v : Power) (n : Nat) : viewOf (s.setPwr v) n = viewOf s n := rfl
@[simp] theorem viewOf_setBoot (s : State) (v : Boot) (n : Nat) : viewOf (s.setBoot v) n = viewOf s n := rfl
@[simp] theorem modView_now (s : State) (n : Nat) (f : View → View) : (modView n f s).now = s.now := rfl
@[simp] theorem modView_emitted (s : State) (n : Nat) (f : View → View) : (modView n f s).emitted = s.emitted := rfl
@[simp] theorem modView_host (s : State) (n : Nat) (f : View → View) : (modView n f s).host = s.host := rfl
@[simp] theorem modView_pos (s : State) (n : Nat) (f : View → View) : (modView n f s).pos = s.pos := rfl
@[simp] theorem modView_led (s : State) (n : Nat) (f : View → View) : (modView n f s).led = s.led := rfl
@[simp] theorem modView_kw (s : State) (n : Nat) (f : View → View) : (modView n f s).kw = s.kw := rfl
@[simp] theorem modView_lanes (s : State) (n : Nat) (f : View → View) : (modView n f s).lanes = s.lanes := rfl
@[simp] theorem modView_fab (s : State) (n : Nat) (f : View → View) : (modView n f s).fab = s.fab := rfl
@[simp] theorem modView_draw (s : State) (n : Nat) (f : View → View) : (modView n f s).draw = s.draw := rfl
@[simp] theorem modView_asy (s : State) (n : Nat) (f : View → View) : (modView n f s).asy = s.asy := rfl
@[simp] theorem modView_hm (s : State) (n : Nat) (f : View → View) : (modView n f s).hm = s.hm := rfl
@[simp] theorem modView_dio (s : State) (n : Nat) (f : View → View) : (modView n f s).dio = s.dio := rfl
@[simp] theorem modView_rcp (s : State) (n : Nat) (f : View → View) : (modView n f s).rcp = s.rcp := rfl
@[simp] theorem modView_flt (s : State) (n : Nat) (f : View → View) : (modView n f s).flt = s.flt := rfl
@[simp] theorem modView_pwr (s : State) (n : Nat) (f : View → View) : (modView n f s).pwr = s.pwr := rfl
@[simp] theorem modView_boot (s : State) (n : Nat) (f : View → View) : (modView n f s).boot = s.boot := rfl
@[simp] theorem modView_pending (s : State) (n : Nat) (f : View → View) : (modView n f s).pending = s.pending := rfl
@[simp] theorem viewOf_at (s : State) (t n : Nat) : viewOf (s.at_ t) n = viewOf s n := rfl
@[simp] theorem viewOf_emit (s : State) (e : Emit) (n : Nat) : viewOf (s.emit e) n = viewOf s n := rfl

/-! ## benchOf and modBench -/

theorem benchOf_modBench_self (s : State) (n : Nat) (f : Bench → Bench) (h : n < s.fab.bench.length) : benchOf (modBench n f s) n = f (benchOf s n) := by
  simp only [benchOf, modBench]
  exact getI_upd_self _ _ _ _ h

theorem benchOf_modBench_ne (s : State) (n m : Nat) (f : Bench → Bench) (h : n ≠ m) : benchOf (modBench n f s) m = benchOf s m := by
  simp only [benchOf, modBench]
  exact getI_upd_ne _ _ _ _ _ h

@[simp] theorem modBench_length (s : State) (n : Nat) (f : Bench → Bench) : (modBench n f s).fab.bench.length = s.fab.bench.length := by
  simp [modBench, upd]

@[simp] theorem benchOf_setNow (s : State) (v : Nat) (n : Nat) : benchOf (s.setNow v) n = benchOf s n := rfl
@[simp] theorem benchOf_setEmitted (s : State) (v : List Emit) (n : Nat) : benchOf (s.setEmitted v) n = benchOf s n := rfl
@[simp] theorem benchOf_setHost (s : State) (v : Memory) (n : Nat) : benchOf (s.setHost v) n = benchOf s n := rfl
@[simp] theorem benchOf_setPos (s : State) (v : Position) (n : Nat) : benchOf (s.setPos v) n = benchOf s n := rfl
@[simp] theorem benchOf_setLed (s : State) (v : Ledger) (n : Nat) : benchOf (s.setLed v) n = benchOf s n := rfl
@[simp] theorem benchOf_setKw (s : State) (v : Kwelo) (n : Nat) : benchOf (s.setKw v) n = benchOf s n := rfl
@[simp] theorem benchOf_setLanes (s : State) (v : Lanes) (n : Nat) : benchOf (s.setLanes v) n = benchOf s n := rfl
@[simp] theorem benchOf_setPln (s : State) (v : Planish) (n : Nat) : benchOf (s.setPln v) n = benchOf s n := rfl
@[simp] theorem benchOf_setDraw (s : State) (v : Draw) (n : Nat) : benchOf (s.setDraw v) n = benchOf s n := rfl
@[simp] theorem benchOf_setAsy (s : State) (v : Assay) (n : Nat) : benchOf (s.setAsy v) n = benchOf s n := rfl
@[simp] theorem benchOf_setHm (s : State) (v : Hallmark) (n : Nat) : benchOf (s.setHm v) n = benchOf s n := rfl
@[simp] theorem benchOf_setDio (s : State) (v : FieldIo) (n : Nat) : benchOf (s.setDio v) n = benchOf s n := rfl
@[simp] theorem benchOf_setRcp (s : State) (v : Recipes) (n : Nat) : benchOf (s.setRcp v) n = benchOf s n := rfl
@[simp] theorem benchOf_setFlt (s : State) (v : Faults) (n : Nat) : benchOf (s.setFlt v) n = benchOf s n := rfl
@[simp] theorem benchOf_setPwr (s : State) (v : Power) (n : Nat) : benchOf (s.setPwr v) n = benchOf s n := rfl
@[simp] theorem benchOf_setBoot (s : State) (v : Boot) (n : Nat) : benchOf (s.setBoot v) n = benchOf s n := rfl
@[simp] theorem modBench_now (s : State) (n : Nat) (f : Bench → Bench) : (modBench n f s).now = s.now := rfl
@[simp] theorem modBench_emitted (s : State) (n : Nat) (f : Bench → Bench) : (modBench n f s).emitted = s.emitted := rfl
@[simp] theorem modBench_host (s : State) (n : Nat) (f : Bench → Bench) : (modBench n f s).host = s.host := rfl
@[simp] theorem modBench_pos (s : State) (n : Nat) (f : Bench → Bench) : (modBench n f s).pos = s.pos := rfl
@[simp] theorem modBench_led (s : State) (n : Nat) (f : Bench → Bench) : (modBench n f s).led = s.led := rfl
@[simp] theorem modBench_kw (s : State) (n : Nat) (f : Bench → Bench) : (modBench n f s).kw = s.kw := rfl
@[simp] theorem modBench_lanes (s : State) (n : Nat) (f : Bench → Bench) : (modBench n f s).lanes = s.lanes := rfl
@[simp] theorem modBench_pln (s : State) (n : Nat) (f : Bench → Bench) : (modBench n f s).pln = s.pln := rfl
@[simp] theorem modBench_draw (s : State) (n : Nat) (f : Bench → Bench) : (modBench n f s).draw = s.draw := rfl
@[simp] theorem modBench_asy (s : State) (n : Nat) (f : Bench → Bench) : (modBench n f s).asy = s.asy := rfl
@[simp] theorem modBench_hm (s : State) (n : Nat) (f : Bench → Bench) : (modBench n f s).hm = s.hm := rfl
@[simp] theorem modBench_dio (s : State) (n : Nat) (f : Bench → Bench) : (modBench n f s).dio = s.dio := rfl
@[simp] theorem modBench_rcp (s : State) (n : Nat) (f : Bench → Bench) : (modBench n f s).rcp = s.rcp := rfl
@[simp] theorem modBench_flt (s : State) (n : Nat) (f : Bench → Bench) : (modBench n f s).flt = s.flt := rfl
@[simp] theorem modBench_pwr (s : State) (n : Nat) (f : Bench → Bench) : (modBench n f s).pwr = s.pwr := rfl
@[simp] theorem modBench_boot (s : State) (n : Nat) (f : Bench → Bench) : (modBench n f s).boot = s.boot := rfl
@[simp] theorem modBench_pending (s : State) (n : Nat) (f : Bench → Bench) : (modBench n f s).pending = s.pending := rfl
@[simp] theorem benchOf_at (s : State) (t n : Nat) : benchOf (s.at_ t) n = benchOf s n := rfl
@[simp] theorem benchOf_emit (s : State) (e : Emit) (n : Nat) : benchOf (s.emit e) n = benchOf s n := rfl

/-! ## chanOf and modChan -/

theorem chanOf_modChan_self (s : State) (n : Nat) (f : DioChan → DioChan) (h : n < s.dio.chan.length) : chanOf (modChan n f s) n = f (chanOf s n) := by
  simp only [chanOf, modChan]
  exact getI_upd_self _ _ _ _ h

theorem chanOf_modChan_ne (s : State) (n m : Nat) (f : DioChan → DioChan) (h : n ≠ m) : chanOf (modChan n f s) m = chanOf s m := by
  simp only [chanOf, modChan]
  exact getI_upd_ne _ _ _ _ _ h

@[simp] theorem modChan_length (s : State) (n : Nat) (f : DioChan → DioChan) : (modChan n f s).dio.chan.length = s.dio.chan.length := by
  simp [modChan, upd]

@[simp] theorem chanOf_setNow (s : State) (v : Nat) (n : Nat) : chanOf (s.setNow v) n = chanOf s n := rfl
@[simp] theorem chanOf_setEmitted (s : State) (v : List Emit) (n : Nat) : chanOf (s.setEmitted v) n = chanOf s n := rfl
@[simp] theorem chanOf_setHost (s : State) (v : Memory) (n : Nat) : chanOf (s.setHost v) n = chanOf s n := rfl
@[simp] theorem chanOf_setPos (s : State) (v : Position) (n : Nat) : chanOf (s.setPos v) n = chanOf s n := rfl
@[simp] theorem chanOf_setLed (s : State) (v : Ledger) (n : Nat) : chanOf (s.setLed v) n = chanOf s n := rfl
@[simp] theorem chanOf_setKw (s : State) (v : Kwelo) (n : Nat) : chanOf (s.setKw v) n = chanOf s n := rfl
@[simp] theorem chanOf_setLanes (s : State) (v : Lanes) (n : Nat) : chanOf (s.setLanes v) n = chanOf s n := rfl
@[simp] theorem chanOf_setPln (s : State) (v : Planish) (n : Nat) : chanOf (s.setPln v) n = chanOf s n := rfl
@[simp] theorem chanOf_setFab (s : State) (v : Fabric) (n : Nat) : chanOf (s.setFab v) n = chanOf s n := rfl
@[simp] theorem chanOf_setDraw (s : State) (v : Draw) (n : Nat) : chanOf (s.setDraw v) n = chanOf s n := rfl
@[simp] theorem chanOf_setAsy (s : State) (v : Assay) (n : Nat) : chanOf (s.setAsy v) n = chanOf s n := rfl
@[simp] theorem chanOf_setHm (s : State) (v : Hallmark) (n : Nat) : chanOf (s.setHm v) n = chanOf s n := rfl
@[simp] theorem chanOf_setRcp (s : State) (v : Recipes) (n : Nat) : chanOf (s.setRcp v) n = chanOf s n := rfl
@[simp] theorem chanOf_setFlt (s : State) (v : Faults) (n : Nat) : chanOf (s.setFlt v) n = chanOf s n := rfl
@[simp] theorem chanOf_setPwr (s : State) (v : Power) (n : Nat) : chanOf (s.setPwr v) n = chanOf s n := rfl
@[simp] theorem chanOf_setBoot (s : State) (v : Boot) (n : Nat) : chanOf (s.setBoot v) n = chanOf s n := rfl
@[simp] theorem modChan_now (s : State) (n : Nat) (f : DioChan → DioChan) : (modChan n f s).now = s.now := rfl
@[simp] theorem modChan_emitted (s : State) (n : Nat) (f : DioChan → DioChan) : (modChan n f s).emitted = s.emitted := rfl
@[simp] theorem modChan_host (s : State) (n : Nat) (f : DioChan → DioChan) : (modChan n f s).host = s.host := rfl
@[simp] theorem modChan_pos (s : State) (n : Nat) (f : DioChan → DioChan) : (modChan n f s).pos = s.pos := rfl
@[simp] theorem modChan_led (s : State) (n : Nat) (f : DioChan → DioChan) : (modChan n f s).led = s.led := rfl
@[simp] theorem modChan_kw (s : State) (n : Nat) (f : DioChan → DioChan) : (modChan n f s).kw = s.kw := rfl
@[simp] theorem modChan_lanes (s : State) (n : Nat) (f : DioChan → DioChan) : (modChan n f s).lanes = s.lanes := rfl
@[simp] theorem modChan_pln (s : State) (n : Nat) (f : DioChan → DioChan) : (modChan n f s).pln = s.pln := rfl
@[simp] theorem modChan_fab (s : State) (n : Nat) (f : DioChan → DioChan) : (modChan n f s).fab = s.fab := rfl
@[simp] theorem modChan_draw (s : State) (n : Nat) (f : DioChan → DioChan) : (modChan n f s).draw = s.draw := rfl
@[simp] theorem modChan_asy (s : State) (n : Nat) (f : DioChan → DioChan) : (modChan n f s).asy = s.asy := rfl
@[simp] theorem modChan_hm (s : State) (n : Nat) (f : DioChan → DioChan) : (modChan n f s).hm = s.hm := rfl
@[simp] theorem modChan_rcp (s : State) (n : Nat) (f : DioChan → DioChan) : (modChan n f s).rcp = s.rcp := rfl
@[simp] theorem modChan_flt (s : State) (n : Nat) (f : DioChan → DioChan) : (modChan n f s).flt = s.flt := rfl
@[simp] theorem modChan_pwr (s : State) (n : Nat) (f : DioChan → DioChan) : (modChan n f s).pwr = s.pwr := rfl
@[simp] theorem modChan_boot (s : State) (n : Nat) (f : DioChan → DioChan) : (modChan n f s).boot = s.boot := rfl
@[simp] theorem modChan_pending (s : State) (n : Nat) (f : DioChan → DioChan) : (modChan n f s).pending = s.pending := rfl
@[simp] theorem chanOf_at (s : State) (t n : Nat) : chanOf (s.at_ t) n = chanOf s n := rfl
@[simp] theorem chanOf_emit (s : State) (e : Emit) (n : Nat) : chanOf (s.emit e) n = chanOf s n := rfl

/-! ## feedOf and modFeed -/

theorem feedOf_modFeed_self (s : State) (n : Nat) (f : Feed → Feed) (h : n < s.dio.feed.length) : feedOf (modFeed n f s) n = f (feedOf s n) := by
  simp only [feedOf, modFeed]
  exact getI_upd_self _ _ _ _ h

theorem feedOf_modFeed_ne (s : State) (n m : Nat) (f : Feed → Feed) (h : n ≠ m) : feedOf (modFeed n f s) m = feedOf s m := by
  simp only [feedOf, modFeed]
  exact getI_upd_ne _ _ _ _ _ h

@[simp] theorem modFeed_length (s : State) (n : Nat) (f : Feed → Feed) : (modFeed n f s).dio.feed.length = s.dio.feed.length := by
  simp [modFeed, upd]

@[simp] theorem feedOf_setNow (s : State) (v : Nat) (n : Nat) : feedOf (s.setNow v) n = feedOf s n := rfl
@[simp] theorem feedOf_setEmitted (s : State) (v : List Emit) (n : Nat) : feedOf (s.setEmitted v) n = feedOf s n := rfl
@[simp] theorem feedOf_setHost (s : State) (v : Memory) (n : Nat) : feedOf (s.setHost v) n = feedOf s n := rfl
@[simp] theorem feedOf_setPos (s : State) (v : Position) (n : Nat) : feedOf (s.setPos v) n = feedOf s n := rfl
@[simp] theorem feedOf_setLed (s : State) (v : Ledger) (n : Nat) : feedOf (s.setLed v) n = feedOf s n := rfl
@[simp] theorem feedOf_setKw (s : State) (v : Kwelo) (n : Nat) : feedOf (s.setKw v) n = feedOf s n := rfl
@[simp] theorem feedOf_setLanes (s : State) (v : Lanes) (n : Nat) : feedOf (s.setLanes v) n = feedOf s n := rfl
@[simp] theorem feedOf_setPln (s : State) (v : Planish) (n : Nat) : feedOf (s.setPln v) n = feedOf s n := rfl
@[simp] theorem feedOf_setFab (s : State) (v : Fabric) (n : Nat) : feedOf (s.setFab v) n = feedOf s n := rfl
@[simp] theorem feedOf_setDraw (s : State) (v : Draw) (n : Nat) : feedOf (s.setDraw v) n = feedOf s n := rfl
@[simp] theorem feedOf_setAsy (s : State) (v : Assay) (n : Nat) : feedOf (s.setAsy v) n = feedOf s n := rfl
@[simp] theorem feedOf_setHm (s : State) (v : Hallmark) (n : Nat) : feedOf (s.setHm v) n = feedOf s n := rfl
@[simp] theorem feedOf_setRcp (s : State) (v : Recipes) (n : Nat) : feedOf (s.setRcp v) n = feedOf s n := rfl
@[simp] theorem feedOf_setFlt (s : State) (v : Faults) (n : Nat) : feedOf (s.setFlt v) n = feedOf s n := rfl
@[simp] theorem feedOf_setPwr (s : State) (v : Power) (n : Nat) : feedOf (s.setPwr v) n = feedOf s n := rfl
@[simp] theorem feedOf_setBoot (s : State) (v : Boot) (n : Nat) : feedOf (s.setBoot v) n = feedOf s n := rfl
@[simp] theorem modFeed_now (s : State) (n : Nat) (f : Feed → Feed) : (modFeed n f s).now = s.now := rfl
@[simp] theorem modFeed_emitted (s : State) (n : Nat) (f : Feed → Feed) : (modFeed n f s).emitted = s.emitted := rfl
@[simp] theorem modFeed_host (s : State) (n : Nat) (f : Feed → Feed) : (modFeed n f s).host = s.host := rfl
@[simp] theorem modFeed_pos (s : State) (n : Nat) (f : Feed → Feed) : (modFeed n f s).pos = s.pos := rfl
@[simp] theorem modFeed_led (s : State) (n : Nat) (f : Feed → Feed) : (modFeed n f s).led = s.led := rfl
@[simp] theorem modFeed_kw (s : State) (n : Nat) (f : Feed → Feed) : (modFeed n f s).kw = s.kw := rfl
@[simp] theorem modFeed_lanes (s : State) (n : Nat) (f : Feed → Feed) : (modFeed n f s).lanes = s.lanes := rfl
@[simp] theorem modFeed_pln (s : State) (n : Nat) (f : Feed → Feed) : (modFeed n f s).pln = s.pln := rfl
@[simp] theorem modFeed_fab (s : State) (n : Nat) (f : Feed → Feed) : (modFeed n f s).fab = s.fab := rfl
@[simp] theorem modFeed_draw (s : State) (n : Nat) (f : Feed → Feed) : (modFeed n f s).draw = s.draw := rfl
@[simp] theorem modFeed_asy (s : State) (n : Nat) (f : Feed → Feed) : (modFeed n f s).asy = s.asy := rfl
@[simp] theorem modFeed_hm (s : State) (n : Nat) (f : Feed → Feed) : (modFeed n f s).hm = s.hm := rfl
@[simp] theorem modFeed_rcp (s : State) (n : Nat) (f : Feed → Feed) : (modFeed n f s).rcp = s.rcp := rfl
@[simp] theorem modFeed_flt (s : State) (n : Nat) (f : Feed → Feed) : (modFeed n f s).flt = s.flt := rfl
@[simp] theorem modFeed_pwr (s : State) (n : Nat) (f : Feed → Feed) : (modFeed n f s).pwr = s.pwr := rfl
@[simp] theorem modFeed_boot (s : State) (n : Nat) (f : Feed → Feed) : (modFeed n f s).boot = s.boot := rfl
@[simp] theorem modFeed_pending (s : State) (n : Nat) (f : Feed → Feed) : (modFeed n f s).pending = s.pending := rfl
@[simp] theorem feedOf_at (s : State) (t n : Nat) : feedOf (s.at_ t) n = feedOf s n := rfl
@[simp] theorem feedOf_emit (s : State) (e : Emit) (n : Nat) : feedOf (s.emit e) n = feedOf s n := rfl

/-! ## Frames give back what a chapter holds -/

theorem laneOf_frame {l : List Chapter} {s t : State} (h : Frame l s t) (hl : Chapter.lanes ∉ l) (n : Nat) : laneOf t n = laneOf s n := by
  have e : t.lanes = s.lanes := h .lanes hl
  simp only [laneOf, e]
theorem plnChan_frame {l : List Chapter} {s t : State} (h : Frame l s t) (hl : Chapter.pln ∉ l) (n : Nat) : plnChan t n = plnChan s n := by
  have e : t.pln = s.pln := h .pln hl
  simp only [plnChan, e]
theorem viewOf_frame {l : List Chapter} {s t : State} (h : Frame l s t) (hl : Chapter.pln ∉ l) (n : Nat) : viewOf t n = viewOf s n := by
  have e : t.pln = s.pln := h .pln hl
  simp only [viewOf, e]
theorem benchOf_frame {l : List Chapter} {s t : State} (h : Frame l s t) (hl : Chapter.fab ∉ l) (n : Nat) : benchOf t n = benchOf s n := by
  have e : t.fab = s.fab := h .fab hl
  simp only [benchOf, e]
theorem chanOf_frame {l : List Chapter} {s t : State} (h : Frame l s t) (hl : Chapter.dio ∉ l) (n : Nat) : chanOf t n = chanOf s n := by
  have e : t.dio = s.dio := h .dio hl
  simp only [chanOf, e]
theorem feedOf_frame {l : List Chapter} {s t : State} (h : Frame l s t) (hl : Chapter.dio ∉ l) (n : Nat) : feedOf t n = feedOf s n := by
  have e : t.dio = s.dio := h .dio hl
  simp only [feedOf, e]
theorem ten_frame {l : List Chapter} {s t : State} (h : Frame l s t) (hl : Chapter.kw ∉ l) (n : Nat) : ten t n = ten s n := by
  have e : t.kw = s.kw := h .kw hl
  simp only [ten, e]

end Sys2Proof.Machine
end

