-- ==== Sys2Proof/WellFormed.lean ====
section
/-! DEFINITION. Which commands are well formed: every operand names a resource the unit has (00_scope: 64 tenants, 24 lanes,
32 image and 32 field channels, 16 benches, 256 stakes, 4 views ...) and every value supplied with a command fits its field.
A meaning is total on any operands; a command that is not well formed names nothing the hardware has. -/

namespace Sys2Proof

/-- A principal: a tenant 0 to 63, or 64 for the sideband (03 R154). -/
def Ref.wf (r : Ref) : Bool := r.principal ≤ 64

/-- A datagram's source is a port a sender can have, and its payload fits one UDP datagram (03 R166). -/
def Datagram.wf (d : Datagram) : Bool := d.bytes.length < 65536

/-- What the host has placed, and the faulty ranges, lie within 64-bit addresses. -/
def HostPlaced.wf (x : HostPlaced) : Bool := x.bytes.all (fun y => y.1 + y.2.length ≤ 2 ^ 64) && x.faulty.all (fun y => y.1 + y.2 ≤ 2 ^ 64)

/-- A CoaXPress packet's samples fit 16 bits (04 R199, 05 Table 5.2). -/
def CxpPacket.wf (p : CxpPacket) : Bool :=
  match p with
  | .imageHeader _ _ => true
  | .scanLine _ _ _ samples _ => samples.all (· < 65536)
  | .event _ _ => true

/-- Who issues a memory request is a stake, view, engine or admission the unit has (07 R372). -/
def MemIssuer.wf (x : MemIssuer) : Bool :=
  match x with
  | .stake k _ => decide (k < 256)
  | .view v _ => decide (v < 4)
  | .tap _ => true
  | .list engine => 0 < engine && engine < 7
  | .rt => true
  | .hallmark _ => true
  | .control => true
  | .temper => true

/-- A memory request has an issuer the unit has (07 R372, R377). -/
def MemArrival.wf (q : MemArrival) : Bool := q.issuer.wf

/-- A start-up report: the resources named exist, and the standing power measured fits PSTATIC's 16 bits (14 Table 14.3). -/
def StepReport.wf (p : StepReport) : Bool := p.pstatic < 65536 && p.failed.all (· < 256)

/-- An engine: its code in a list descriptor, 1 to 6 (06 Table 6.9). -/
def engineWf (e : Nat) : Bool := 0 < e && e < 7

/-- Every operand of the command names a resource the unit has; vector 4 of MSIX_UNMASK is the function's own mask. -/
def Instr.wf (i : Instr) : Bool :=
  match i with
  | .descriptorFetch tenant _ _ => decide (tenant < 64)
  | .sidebandDatagram d _ => d.wf
  | .sidebandCacheExpiry _ _ _ => true
  | .noticeDelivery tenant => decide (tenant < 64)
  | .irqCoalesceTimeout tenant => decide (tenant < 64)
  | .packetTimeLimit r => r.wf
  | .deadlineExpiry r => r.wf
  | .kwSqDbWrite tenant _ placed => decide (tenant < 64) && placed.wf
  | .kwCqDbWrite tenant _ => decide (tenant < 64)
  | .ringEnable tenant => decide (tenant < 64)
  | .ringDisable tenant => decide (tenant < 64)
  | .kwIrqCoalWrite tenant _ => decide (tenant < 64)
  | .msixUnmask tenant vector => decide (tenant < 64) && decide (vector < 5)
  | .w1cClear fn offset _ _ => decide (fn < 64) && decide (offset < 65536)
  | .rcRead fn x _ => decide (fn < 64) && decide (x.offset < 65536)
  | .rsLowRead fn offset _ => decide (fn < 64) && decide (offset < 65536)
  | .plnStatRidxWrite view _ => decide (view < 4)
  | .registerWrite fn offset _ _ => decide (fn < 64) && decide (offset < 65536)
  | .barAccessError fn _ size _ => decide (fn < 64) && decide (0 < size)
  | .functionLevelReset tenant => decide (tenant < 64)
  | .numvfsReduce n => decide (n ≤ 63)
  | .hostLinkLoss _ => true
  | .hostLossRelease => true
  | .hostLinkReturn u => decide (1 ≤ u.gen) && decide (u.gen ≤ 5) && [1, 2, 4, 8].contains u.width
  | .sysStatus r => r.wf
  | .sysIdentify r => r.wf
  | .sysFence r => r.wf
  | .sysOutcomes r => r.wf
  | .sysReset r => r.wf
  | .tenConfig r => r.wf
  | .sysHostlossSet r => r.wf
  | .posStatus r => r.wf
  | .posScaleSet r => r.wf
  | .posEncConfig r => r.wf
  | .posWindowSet r => r.wf
  | .posPreset r => r.wf
  | .posSsiConfig r => r.wf
  | .ledgStatus r => r.wf
  | .ledgConfig r => r.wf
  | .ledgRelease r => r.wf
  | .ledgList r => r.wf
  | .masterEdge _ _ => true
  | .auxEncoderEdge port _ _ => (0 < port && port < 4)
  | .zEdgeCapture z _ => decide (z.port < 4)
  | .speedUpdate _ => true
  | .stationaryTimeout => true
  | .windowBoundary _ => true
  | .triggerFire tg => decide (tg < 8)
  | .triggerMessageSend lane => decide (lane < 24)
  | .camramBlockReceived lane _ _ => decide (lane < 24)
  | .camramPacketReceived lane => decide (lane < 24)
  | .cxpPacketReceived lane p => decide (lane < 24) && p.packet.wf
  | .cxpAlignmentLoss lane => decide (lane < 24)
  | .detectProbe lane _ => decide (lane < 24)
  | .trainResend lane => decide (lane < 24)
  | .bitLock lane => decide (lane < 24)
  | .prbsTrainVerified lane => decide (lane < 24)
  | .blockLock lane => decide (lane < 24)
  | .capExchange lane _ => decide (lane < 24)
  | .bringupTimeout x => decide (x.lane < 24)
  | .capFaultRetry lane => decide (lane < 24)
  | .cxpDetectAligned lane _ _ => decide (lane < 24)
  | .cxpDiscoverAck lane => decide (lane < 24)
  | .cxpResyncDone lane => decide (lane < 24)
  | .cxpBringupTimeout x => decide (x.lane < 24)
  | .controlReply lane _ _ => decide (lane < 24)
  | .controlXactTimeout lane => decide (lane < 24)
  | .prbsCheckerLock x => decide (x.lane < 24)
  | .prbsLockLoss lane _ _ => decide (lane < 24)
  | .eyescanDone lane _ => decide (lane < 24)
  | .eqAdaptation lane _ _ _ _ => decide (lane < 24)
  | .laneStatus r => r.wf
  | .laneConfig r => r.wf
  | .laneEnable r => r.wf
  | .laneTriggerConfig r => r.wf
  | .laneCtrlXact r => r.wf
  | .lanePrbs r _ _ => r.wf
  | .laneInject r => r.wf
  | .laneLoopback r => r.wf
  | .laneEyescan r => r.wf
  | .laneEqBounds r => r.wf
  | .laneUnretire r => r.wf
  | .slotTimeout channel _ => decide (channel < 32)
  | .scanLineConceal channel _ => decide (channel < 32)
  | .scanLineProcess view _ => decide (view < 4)
  | .tilePlace view _ _ => decide (view < 4)
  | .tapEnd _ => true
  | .plnStatus r => r.wf
  | .plnChannelConfig r => r.wf
  | .plnViewConfig r => r.wf
  | .plnCalLoad r => r.ref.wf
  | .plnFilterConfig r => r.wf
  | .plnLevelBounds r => r.wf
  | .plnStatConfig r => r.wf
  | .plnTapOpen r _ => r.wf
  | .plnTapClose r => r.wf
  | .calDark _ => true
  | .calFlat _ => true
  | .calDefect _ => true
  | .tileDispatch bench _ => decide (bench < 16)
  | .tileComplete bench stake _ _ => decide (bench < 16) && decide (stake < 256)
  | .certOverrun bench stake => decide (bench < 16) && decide (stake < 256)
  | .benchPrivateFault bench stake cause _ => decide (bench < 16) && decide (stake < 256) && (0 < cause && cause < 7)
  | .benchResetDone bench _ => decide (bench < 16)
  | .chipWideFault cause _ => (cause = 7 || cause = 8)
  | .fabChipLoss => true
  | .nocLinkError _ _ => true
  | .benchLoadDone bench => decide (bench < 16)
  | .fabApplied bench => decide (bench < 16)
  | .fabStatus r => r.wf
  | .benchBuild r _ => r.ref.wf
  | .benchRebuild r => r.ref.wf
  | .benchRelease r => r.wf
  | .benchReset r => r.wf
  | .benchReadmit r _ => r.wf
  | .fabList r => r.ref.wf
  | .stakeUnretire r => r.wf
  | .listStart engine => engineWf engine
  | .nop engine => engineWf engine
  | .waitEvent engine tenant => engineWf engine && decide (tenant < 64)
  | .signalEvent engine => engineWf engine
  | .writeStamp engine _ => engineWf engine
  | .loadParams _ => true
  | .selectParams => true
  | .runTiles _ => true
  | .copy _ _ => true
  | .fill _ => true
  | .check _ _ => true
  | .memoryGrant ingot bank arrivals _ _ => decide (bank < (if ingot then 4 else 16)) && arrivals.all MemArrival.wf
  | .requestAging _ => true
  | .ingotReread _ _ _ _ => true
  | .channelTimeout _ _ _ _ _ => true
  | .patrolScrub _ _ => true
  | .drawStatus r => r.wf
  | .drawAlloc r _ _ => r.wf
  | .drawFree r => r.wf
  | .drawList r => r.ref.wf
  | .drawStreamOpen r _ => r.wf
  | .drawStreamClose r => r.wf
  | .drawRangeSet r => r.wf
  | .drawPortMode r => r.wf
  | .drawChanUnretire r => r.wf
  | .asyStatus r => r.wf
  | .asyLibDefine r => r.wf
  | .asyList r => r.ref.wf
  | .sort _ => true
  | .merge _ => true
  | .topk _ => true
  | .nms _ => true
  | .nnSearch _ _ => true
  | .libLoad _ => true
  | .assayRtComplete _ _ => true
  | .tileResultIngest _ => true
  | .verdictIssue _ _ => true
  | .verdictDeadline _ _ => true
  | .plateMaxLenClose _ => true
  | .actuationSwitchOn _ goodCopies _ => decide (goodCopies ≤ 2)
  | .pulseSwitchOff channel _ => decide (channel < 32)
  | .pulseCapExpiry channel => decide (channel < 32)
  | .interlockSkip _ => true
  | .hmStatus r => r.wf
  | .hmRingSet r => r.wf
  | .hmActSchedule r _ => r.wf
  | .hmActCancel r => r.wf
  | .hmPlateEdge r => r.wf
  | .hmList r => r.ref.wf
  | .actEnqueue _ => true
  | .inputEdgeAccept channel _ => decide (channel < 32)
  | .dioBreak channel _ => decide (channel < 32)
  | .dioOpenload channel => decide (channel < 32)
  | .openloadClear channel => decide (channel < 32)
  | .dioShort channel _ _ => decide (channel < 32)
  | .feedTrip feed peakMa higher _ => decide (feed < 16) && decide (peakMa < 65536) && decide (higher < 2)
  | .feedReclose feed => decide (feed < 16)
  | .couplerFrameError channel _ _ => decide (channel < 32)
  | .linkWatchdog channel => decide (channel < 32)
  | .linkCauseClear channel => decide (channel < 32)
  | .fieldSupply supply _ _ => decide (supply < 2)
  | .supplyCauseClear channel => decide (channel < 32)
  | .dioStatus r => r.wf
  | .dioConfig r => r.wf
  | .dioUnretire r => r.wf
  | .dioSafeAssert r => r.wf
  | .dioSafeRelease r => r.wf
  | .rcpStatus r => r.wf
  | .recipeLoad r _ => r.ref.wf
  | .recipeActivate r => r.wf
  | .recipeRelease r => r.wf
  | .recipeSwitch _ => true
  | .checkpoint _ => true
  | .tokDictLoad r => r.ref.wf
  | .tokSelectSet r => r.wf
  | .telegram r => r.wf
  | .tmpCacheConfig r _ => r.wf
  | .tmpLabel r => r.wf
  | .tmpEpoch r _ => r.wf
  | .epoch _ => true
  | .minibatchStart => true
  | .minibatchCommit => true
  | .tmpEpochDone _ _ => true
  | .tmpShadow r _ => r.wf
  | .tmpPromote r => r.wf
  | .tmpRollback r => r.wf
  | .tmpList r => r.ref.wf
  | .fltLogRead r => r.wf
  | .fltStatus r => r.wf
  | .fltConfig r => r.wf
  | .fltInject r => r.wf
  | .faultInjectionFire _ => true
  | .ctrlFault _ _ _ => true
  | .fltCtrlRestart _ => true
  | .mgmtRestart _ => true
  | .pwrStatus r => r.wf
  | .thermStatus r => r.wf
  | .pwrDomain r => r.wf
  | .pwrSagSet r => r.wf
  | .pwrAvsBounds r => r.wf
  | .supplyLost input _ => decide (input < 2)
  | .inputOvervoltage input _ => decide (input < 2)
  | .sagWarn _ _ => true
  | .sagClear _ _ => true
  | .sagReset _ _ => true
  | .sagPowerUp _ _ => true
  | .railWarn rail _ _ => (0 < rail && rail < 13)
  | .railClear rail _ _ => (0 < rail && rail < 13)
  | .railReset rail _ _ => (0 < rail && rail < 13)
  | .pllLoss pll _ => decide (pll < 25)
  | .thermWarn temps _ => decide (temps.length = 8)
  | .thermClear temps _ => decide (temps.length = 8)
  | .thermThrottle quadrant _ _ _ => decide (quadrant < 4)
  | .thermalShutdown temps _ => decide (temps.length = 8)
  | .thermalCutoff temps _ => decide (temps.length = 8)
  | .fanFail fan rpm => decide (fan < 4) && decide (rpm < 65536)
  | .avsAdaptation quadrant _ _ _ => decide (quadrant < 4)
  | .powerOn _ _ => true
  | .bootStepComplete report _ => report.wf
  | .keeperOverrun => true
  | .recordWriteStart _ => true
  | .recordPageDone _ _ => true
  | .recRead r => r.wf
  | .bootStatus r => r.wf
  | .recConfig r => r.wf
  | .bootSlotWrite r => r.ref.wf
  | .bootSlotSelect r => r.wf
  | .bootSlotConfirm r => r.wf
  | .bootKeysLoad r => r.ref.wf
  | .rtcSet r => r.wf
  | .ptbInterpolation _ => true
  | .keeperSample _ _ => true
  | .dioInputSample channel _ _ _ => decide (channel < 32)
  | .couplerStatusFrame channel _ meas _ => decide (channel < 32) && decide (meas < 65536)
  | .supplyRestored input _ => decide (input < 2)
  | .mgmtSupplyLoss inputs => decide (inputs.length = 4)
  | .mgmtSupplyReturn input _ => decide (input < 4)
  | .mgmtRestartDone _ => true
  | .keeperPowerLoss => true
  | .keeperLow _ => true
  | .sectorEraseDone sector _ => decide (sector < 32)
  | .sidebandLink _ => true

end Sys2Proof
end

