-- ==== Sys2Proof/Tests/Slice0.lean ====
section
/-! SUPPORT. Small tests. A witness list `w…` holds, for each clause of a statement that has hypotheses, whether a concrete state and
operands meet all of them together, at a boundary value of their ranges where they have one; the theorem after it says
they all do. The well-formedness tests give each check a term that it refuses. The tests of results take their numbers
from the spec's own examples and tables. -/

namespace Sys2Proof.Machine.Tests

open Sys2Proof Sys2Proof.Machine

-- one theorem at a time, so that few threads wait at once
set_option Elab.async false

/-! ## Small states -/

/-- The unit started and anchored, with every domain on, the host link up and nothing held. -/
def up : State :=
  { State.reset with
    pos := { Position.reset with anchored := true }
    kw := { Kwelo.reset with linkUp := true, sbLink := true }
    pwr := { Power.reset with domains := List.replicate 13 true, vbus := 24000, pll := List.replicate 25 true, inOk := [true, true] }
    boot := { Boot.reset with step := 11, done := true, keeperOn := false } }

/-- A list that says whether the invariant's clauses hold. -/
def invB (s : State) : Bool :=
  s.host.wf && s.draw.mem.wf && decide (s.kw.tenants.length = 64) && s.kw.tenants.all (fun t => t.fence != 0) &&
    s.kw.sbFence != 0 && decide (s.lanes.lane.length = 24) && decide (s.lanes.tg.length = 8) &&
    decide (s.pln.chan.length = 32) && decide (s.pln.view.length = 4) && decide (s.fab.bench.length = 16) &&
    decide (s.draw.chan.length = 4) && decide (s.dio.chan.length = 32) && decide (s.dio.feed.length = 16) &&
    decide (s.pwr.domains.length = 13)

theorem inv_of (s : State) (h : invB s = true) : Inv s := by
  simp only [invB, Bool.and_eq_true, decide_eq_true_eq, List.all_eq_true, bne_iff_ne, ne_eq] at h
  obtain ⟨⟨⟨⟨⟨⟨⟨⟨⟨⟨⟨⟨⟨a, b⟩, c⟩, d⟩, e⟩, f⟩, g⟩, i⟩, j⟩, k⟩, l⟩, m⟩, n⟩, o⟩ := h
  exact ⟨a, b, c, d, e, f, g, i, j, k, l, m, n, o⟩

/-- An outstanding packet of tenant 0 with class 3 and the opcode's flag for command lists. -/
def pk (code : Half) (params : Bytes) : Packet :=
  { principal := 0, tag := 5, opcode := code, cls := 3, flags := if listOpcodes.contains code.toNat then 2 else 0, deadline := none
    fence := 1, replyAddr := 0, replyMax := 64, params := params, sqSlot := 0, fetchedAt := 0, fetchHwm := 0, tmo := 0, order := 0
    started := false, committed := false, commitFence := 0, commitSpos := 0, raw := [], orphan := false, sbAddr := 0
    sbPort := 0, sbCrc := 0 }

/-- The state with that packet outstanding. -/
def withP (p : Packet) (s : State) : State := s.setKw { s.kw with outstanding := [p] }

/-- The packet is carried out in its state, and the rest of the hypotheses hold of both. -/
def runs (p : Packet) (s : State) (f : Packet → State → Bool) : Bool :=
  opStarts p.opcode p.ref p (withP p s) && f p (withP p s)

/-- An admission of tenant 0. -/
def adm (h : Nat) (k : AdmKind) (cls object : Nat) : Admission :=
  { handle := h, kind := k, cls := cls, tenant := 0, fence := 1, demands := [⟨11, 0, 1⟩], spos := 0, object := object, vDecl := 0
    recipe := 0, order := 0 }

/-- The state with a range of host memory in which every access ends in an error. -/
def faulty (a n : Nat) (s : State) : State := s.setKw { s.kw with badHost := [(a, n)] }

/-- The state with admissions held. -/
def held (l : List Admission) (s : State) : State := s.setLed { s.led with held := l }

/-- The state with INGOT traffic taken up whole. -/
def full (s : State) : State := held [{ adm 9 .stream 3 0 with demands := [⟨4, 3, 2 ^ 62⟩] }] s

/-- The state with the rings of tenant `n` live, at addresses 4096 and 8192. -/
def rings (n : Nat) (s : State) : State := modTen n (fun t => { t with en := true, sqBase := 4096, cqBase := 8192 }) s

/-- An ASSAY operation that does nothing. -/
def noOp : AssayOp := { cmd := 0, n := 0, nA := 0, k := 0, mode := 0, metric := 0, iou := 0, q := 0, libFirst := 0, libCount := 0 }

/-- A STRIP recipe image for view 0 with parts of 65536 position units. -/
def image : RecipeImage :=
  { recipeId := 1, vDecl := 1000, dictId := 0, thermMj := 0, ckptS := 10, views := 1, condN := 0, tileW := 512, tileH := 256, tileFmt := 1
    rflags := 0, shMin := 0, routes := [], tileOp := noOp, partOp := noOp, model := 0, edgeSrc := 0, edgeDio := 0, holdAction := 0
    actPass := 0, actReject := 0, actReview := 0, sevRej := 0, partLen := 65536, origin := 0, edgeOfs := 0, minLen := 0, maxLen := 0
    viewOfs := [0], lDec := 1000, tPass := 0, tRej := 0, distMax := 0, actions := [] }

/-- A recipe of tenant 0 with that image. -/
def recipe (h : Nat) (st : RecipeState) (im : RecipeImage) : Recipe :=
  { handle := h, tenant := 0, fence := 1, image := im, state := st, origin := 0, switchAt := 0, outgoing := 0, issuer := 0, endAt := none
    activeFrom := 0, nextPart := 0, lastEdge := none, seq := 0, promotions := 0, lastCkpt := 0, vring := 0, aring := 0, blocks := [], block := [] }

/-- The state with a recipe held. -/
def withRecipe (r : Recipe) (s : State) : State :=
  let t := s.setRcp { s.rcp with recipes := [r] }
  t.setLed { t.led with held := [adm r.handle .recipe 3 r.handle] }

/-- A PINNED object of tenant 0. -/
def obj (h : Nat) (tier : Tier) (a size : Nat) : Obj :=
  { handle := h, tenant := 0, tier := tier, size := size, anyTier := false, pinned := true, shared := false, cls := 7, bench := none
    channel := 0, addr := a, lost := false, order := 0 }

/-- The state with objects. -/
def withObjs (l : List Obj) (s : State) : State := s.setDraw { s.draw with objs := l }

/-- A list of a tenant on an engine with one command. -/
def listOf (e t : Nat) (run : Bool) (c : Cmd) : CmdList :=
  { ref := ⟨0, 5⟩, tenant := t, engine := e, inUnit := false, bench := 15, start := none, cmds := [c], index := 0, running := run, cals := [] }
/-- The state with that list queued. -/
def withList (l : CmdList) (s : State) : State := s.setFab { s.fab with lists := [l] }

/-- The list with this command runs on its engine. -/
def running (s : State) (e : Nat) (c : Cmd) : Bool :=
  enginesUp s && ((s.fab.lists.find? fun l => l.engine == e && l.running) == some (listOf e 0 true c)) && (listOf e 0 true c).cur == some c

/-- Stream 3 of tenant 0 is open. -/
def withStream (s : State) : State :=
  s.setDraw { s.draw with streams := [{ handle := 3, tenant := 0, sheet := 0, ingot := 0, tokS := 0, tokI := 0 }] }

/-- The encoding of the neutral point, as a public key and as R: with S = 0 it verifies any message. -/
def neutral : Bytes := (1 : Byte) :: List.replicate 31 0

/-- A certificate for an image on stake group 0, one quadrant, tiles of 64 columns and 16 lines. -/
def cert (img : Bytes) (temper : Nat) : Bytes :=
  le4 0x4356594E ++ le2 1 ++ le2 256 ++ le8 1 ++ sha256 img ++ le4 0 ++ le4 0 ++ le1 1 ++ le1 1 ++ le2 8 ++ le2 64 ++ le2 16 ++ le4 1000 ++ le4 0 ++
    List.replicate 64 0 ++ le4 0 ++ le4 0 ++ le2 0 ++ le1 1 ++ le1 temper ++ le8 1 ++ List.replicate 36 0 ++ neutral ++ List.replicate 32 0

/-- A key bundle with that key. -/
def keyed (s : State) : State :=
  s.setBoot { s.boot with keys := [some { seq := 1, entries := [{ keyId := 1, usage := 1, key := neutral }] }, none] }

/-- Bench 15 in a state, with its certificate and an admission. -/
def bench (st : BenchState) (f : Bench → Bench) : State :=
  held [adm 4 .bench 7 15] (modBench 15 (fun x => f { x with
    state := st, groups := 1, temper := true, handle := 4, cert := some (certOf (cert [7] 1)), image := [7], slots := [[], []], back := .built }) (keyed up))

/-- A tile of 64 columns and 16 lines, and a run of it by stake 7 at a generation, with what it makes of the tile. -/
def aTile : Tile :=
  { view := 0, format := 1, tflags := 0, col := 0, tileW := 64, row := 0, tileH := 16, holdReason := 0, sposFirst := 0, sposLast := 0, concPix := 0
    satPix := 0, replPix := 0, padPix := 0, lflags := [], data := [], cond := [] }
def aResult : ModelResult := { score := 0, cands := [], boxes := [], emb := false, embeds := [], accSat := false, nanCvt := 0 }
def aRun (fence : Word) : Running :=
  { stake := 7, tile := aTile, spent := 0, since := 0, fence := fence, state := .live, result := aResult }

def aPart (f : Part → Part) : Part :=
  f { recipe := 9, id := 0, start := 0, stop := some 256, reasons := [], seen := [], holdTiles := 0, worst := none, cands := [], fixed := false
      partOp := 0, issued := false }
def aCand (v : Nat) : Candidate := { score := 0, view := 0, col := 0, spos := 0, embed := List.replicate 128 0, verdict := v, label := 0 }

/-- An entry of 200 us at 100 mA on channel 31, at a stamp. -/
def entry (us : Bool) (sp : Word) (latest : Nat) : ActEntry :=
  { channel := 31, us := us, loadMa := 1000, spos := sp, length := 200, leadUs := 0, latest := latest, maxMs := 0, ref := 0 }
def act (h : Nat) (st : ActState) (e : ActEntry) : Act :=
  { handle := h, entry := e, target := 16, shift := 0, pOn := 16, pOff := 216, recipe := none, tenant := 0, state := st, onAt := 0, onSpos := 0 }

/-- Channels 30 and 31 are outputs on a closed feed 15, in no safe state. -/
def field (hwm : Long) (acts : List Act) (f g : DioChan → DioChan) : State :=
  let o := fun c : DioChan => { c with cfg := 0x0A0A02, causes := 0 }
  let s := up.setDio { up.dio with
    chan := upd (upd up.dio.chan 31 fun c => f (o c)) 30 fun c => g (o c)
    feed := upd up.dio.feed 15 fun x => { x with closed := true } }
  (s.setHm { s.hm with acts := acts }).setPos { s.pos with hwm := hwm, count := hwm.toNat / 16, frac := hwm.toNat % 16 }

/-! ## The block and its protocol -/

theorem test_queue_front : ({ up with pending := [.stationaryTimeout, .powerOn 0 0] } : State).pending = [.stationaryTimeout, .powerOn 0 0] ∧
    State.reset.pending = [] := ⟨rfl, rfl⟩

theorem test_step_keeps_inv : Inv up ∧ ∃ t, step { up with pending := [.masterEdge ⟨.forward, 8⟩ 40] } = .next t :=
  ⟨inv_of up (by decide +kernel), _, rfl⟩

/-- A packet that asks for SYS_IDENTIFY with tag 7 and fence 1, and its descriptor at ring slot 0. -/
def asked (prin : Nat) : Bytes :=
  withCrc (le1 1 ++ le1 prin ++ le2 0x0102 ++ le2 7 ++ le1 0 ++ le1 0 ++ le2 0 ++ le2 0 ++ le4 0 ++ le4 1 ++ le8 0 ++ le2 64 ++ le2 0)
def ringed : State :=
  modTen 0 (fun t => { t with sqTail := 1 }) ((rings 0 up).setHost
    (memPlace up.host [(4096, le8 0x3000 ++ le2 36 ++ le2 0 ++ le4 0), (0x3000, asked 0)]))

def fullLog (n : Nat) (s : State) : State :=
  modTen n (fun t => { t with outcomes := List.replicate 256 { tag := 0, opcode := 0, status := 0, fence := 0, spos := 0 } }) s

def wReplies : List Bool :=
  let p := { pk 0x0101 [] with principal := 63 }
  let s := withP p (rings 63 up)
  let logged := fullLog 63 (withP { p with orphan := true } (rings 63 up))
  let res : Bytes := List.replicate 32 0
  let bad := faulty 8192 64 s
  let held := s.setFlt { s.flt with restarting := true }
  [ invB s && decide (p.principal < 64) && !p.orphan && ringLive s 63 && !ctrlHeld s && !replyBad (infoOf p 0 1 0 res) s && decide (res.length ≤ 32),
    invB bad && ringLive bad 63 && !ctrlHeld bad && replyBad (infoOf p 0 1 0 res) bad,
    invB (withP p up) && !ringLive (withP p up) 63 && !ctrlHeld (withP p up),
    invB logged && ringLive logged 63 && !ctrlHeld logged && decide ((ten logged 63).outcomes.length = 256),
    ctrlHeld held && decide (p.principal < 64), decide ({ p with principal := 64 }.principal = 64) ]

theorem test_where_replies : wReplies.all id = true := by decide +kernel

def datagram (b : Bytes) : Datagram :=
  { kind := .udp, dstAddr := 0xC0A8640A, srcAddr := 0xC0A864FF, srcPort := 1024, dstPort := 47310, fragmented := false, bytes := b }
def kept (b : Bytes) : SbReply := { addr := 0xC0A864FF, port := 1024, tag := 7, crc := sbCrcOf b, at_ := 0, reply := [] }
def notice : Notice := { code := 0x0101, seq := 0, spos := 0, data := [] }

def wFetch : List Bool :=
  let u := ringed.at_ 9
  let d := memRead u.host ((ten u 0).sqBase.toNat + 16 * (ten u 0).sqHead) 16
  let b := memRead u.host (fld d 0 8) (fld d 8 2)
  let u1 := modTen 0 (fun t => { t with sqHead := (t.sqHead + 1) % 2 ^ t.sqLog, reserved := t.reserved + 1 }) u
  let dg := datagram (asked 64)
  let sc := up.setKw { up.kw with sbCache := [kept (asked 64)] }
  let n1 := modTen 0 (fun t => { t with heldNotices := [notice] }) (rings 0 up)
  let n2 := modTen 63 (fun t => { t with coalPending := 1, coalTime := 1 }) up
  let t1 := withP { pk 0x0101 [] with tmo := 1 } up
  let t2 := withP { pk 0x0101 [] with deadline := some 0 } up
  let on := mgmtUp up && up.kw.sbLink && allowed up dg.srcAddr && dg.dstAddr == up.kw.sbAddr
  let far := { dg with srcAddr := 0xC0A86500 }
  [ !canFetch (up.at_ 0) 63, invB ringed && canFetch u 0 && ringed.kw.badHost == [] && !badDescriptor (fld d 0 8) (fld d 8 2) && (validate 0 b u1).isNone,
    on && ({ dg with kind := .arp }.kind == .arp), on && ({ dg with kind := .echo }.kind == .echo) && !dg.fragmented,
    on && far.kind != .arp && !allowed up far.srcAddr, on && { dg with dstAddr := 0xC0A864FF }.dstAddr != up.kw.sbAddr,
    on && dg.kind == .udp && { dg with dstPort := 47311 }.dstPort != 47310, on && dg.kind == .udp && { dg with fragmented := true }.fragmented,
    mgmtUp sc && sc.kw.sbLink && allowed sc dg.srcAddr && dg.dstAddr == sc.kw.sbAddr && dg.kind == .udp && dg.dstPort == 47310 && !dg.fragmented &&
      ((keptReplies (sc.at_ 3999999999)).find? (fun e => sbKey dg e && e.crc == sbCrcOf dg.bytes) == some (kept (asked 64))),
    on && dg.kind == .udp && dg.dstPort == 47310 && !dg.fragmented && !((keptReplies (up.at_ 9)).any (sbKey dg)) &&
      (validate 64 dg.bytes (up.at_ 9)).isNone && decide ((up.kw.outstanding.filter (·.principal == 64)).length < 8),
    ((sc.kw.sbCache.find? (fun e => e.addr == 0xC0A864FF && e.port == 1024 && e.tag == 7)) == some (kept (asked 64))),
    invB n1 && ringLive n1 0 && !ctrlHeld n1 && slotFree (ten n1 0) && !slotBad n1 0 && (ten n1 0).overflow == 0 && (ten n1 0).heldNotices == [notice],
    invB n2 && n2.kw.linkUp && (ten n2 63).coalPending != 0 && (ten n2 63).coalTime != 0,
    (findP ⟨0, 5⟩ t1).any (fun p => !p.committed && p.tmo != 0),
    (findP ⟨0, 5⟩ t2).any (fun p => !p.committed && deadlineReached t2 p) ]

theorem test_where_fetch : wFetch.all id = true := by decide +kernel

def wWindow : List Bool :=
  let r := rings 63 up
  let c := modTen 63 (fun t => { t with unconsumed := [0], cqTail := 1 }) r
  let obj : Obj := { handle := 9, tenant := 0, tier := .ingot, size := 4096, anyTier := false, pinned := true, shared := false, cls := 7
                     bench := none, channel := 0, addr := 0x100000000, lost := false, order := 0 }
  let v := modView 3 (fun x => { x with statRing := 9, statWidx := 64 }) (up.setDraw { up.draw with objs := [obj] })
  [ invB r && barReachable r 63 && (ten r 63).en && decide (bits (15 : Word).toNat 11 0 < 2 ^ (ten r 63).sqLog),
    invB c && barReachable c 63 && (ten c 63).en && decide (bits (1 : Word).toNat 11 0 < cqSlots (ten c 63)) &&
      decide (slotsReturned (ten c 63) (bits (1 : Word).toNat 11 0) ≤ (ten c 63).unconsumed.length),
    invB up && barReachable up 63 && !(ten up 63).en && !enBlocked (ten up 63) && sizesOk (ten up 63) && (ten up 63).heldNotices == [] &&
      (ten up 63).overflow == 0,
    barReachable up 63 && ((ten up 63).msix[3]?).isSome, barReachable up 63 && decide (0xFFC < 0x1000) && decide (0xFFC % 4 = 0),
    invB up && barReachable up 62 && !barReachable (up.setKw { up.kw with linkUp := false }) 62,
    barReachable up 0 && imgOn v && ridxOk v 3 64,
    badAccess 2 4 && badAccess 4 8 && badAccess 0 1 ]

theorem test_where_window : wWindow.all id = true := by decide +kernel

def wHost : List Bool :=
  let down := up.setKw { up.kw with linkUp := false, hostLossRelease := true }
  [ invB up && barReachable up 63, decide (62 < up.kw.numVfs), up.kw.linkUp,
    !down.kw.linkUp && down.kw.hostLossRelease && !down.kw.lossReleased && domOn down 2 && !down.flt.fatal,
    !down.kw.linkUp && hostPowered down && linkTrains 5 8 && linkTrains 1 1, !linkTrains 6 8 && !linkTrains 5 16 ]

theorem test_where_host : wHost.all id = true := by decide +kernel

def wSystem : List Bool :=
  let sb := fun b : Bytes => { pk 0x0110 b with principal := 64 }
  [ runs (pk 0x0101 []) up fun p _ => p.params == [],
    runs (pk 0x0101 (le4 63)) up fun p _ => p.params != [] && decide (fld p.params 0 1 ≤ 63) && p.tenant == 0,
    runs { pk 0x0101 (le4 63) with principal := 63 } up fun p _ => p.params != [] && fld p.params 0 1 == p.tenant,
    runs { pk 0x0101 (le4 0) with principal := 63 } up fun p _ => p.params != [] && p.tenant != 0 && fld p.params 0 1 != p.tenant,
    runs (pk 0x0102 []) up fun _ _ => true,
    runs (pk 0x0103 []) up fun p s => invB s && decide (p.principal < 64) && s.kw.badHost == [],
    runs (pk 0x0104 (le2 0 ++ le2 255 ++ le4 0)) up fun p _ =>
      decide (1 ≤ fld p.params 2 2) && decide (fld p.params 2 2 ≤ 255) && !bit (fld p.params 4 1) 0,
    runs (pk 0x0120 (le1 63 ++ le1 1 ++ le2 0)) up fun p s => decide (1 ≤ fld p.params 0 1) && decide (fld p.params 0 1 ≤ s.kw.numVfs),
    runs (pk 0x0121 (le4 1)) up fun p _ => decide (fld p.params 0 1 ≤ 1),
    runs (sb (le4 4)) up fun p s => s.pwr.thermalDown == 0 && fld p.params 0 1 == 4 && !s.flt.fatal && p.principal == 64 && s.kw.linkUp,
    runs (sb (le4 1)) up fun p s => s.pwr.thermalDown == 0 && !s.pwr.sagDown && fld p.params 0 1 == 1 && decide (19200 ≤ s.pwr.vbus) ]

theorem test_where_system : wSystem.all id = true := by decide +kernel

/-! ## Position and the Ledger -/

def wPosition : List Bool :=
  let edges := up.setPos { up.pos with fwdEdges := [50, 40, 30, 20, 10], stationary := false }
  let full := AuxPort.reset
  let load := up.setPos { up.pos with aux := upd up.pos.aux 2 fun a => { a with loaded := some (9, 0xFFFFFFFFFFFFFFFF) } }
  let waits := (up.setPos { up.pos with anchored := false }).setBoot { up.boot with waitZ := true }
  [ domOn up 2 && filtered up 0 8 && !filtered up 0 7 && decide (EdgeKind.forward ≠ .both) && decide (EdgeKind.reverse ≠ .both),
    (List.range 3).all fun i => filtered up (i + 1) 8 && up.pos.aux[i]? == some full && !carriedOut (up.at_ 9) full,
    domOn load 2 && filtered load 3 8 && (load.pos.aux[2]?).any (carriedOut (load.at_ 9)) && !(getI load.pos.enc 3 EncCfg.reset).inv,
    domOn up 2 && filtered up 0 8 && !up.boot.waitZ, domOn waits 2 && filtered waits 0 8 && waits.boot.waitZ && !waits.pos.anchored,
    domOn edges 2 && interpActive (edges.at_ 60) && decide (edges.pos.frac ≤ 15),
    domOn up 2 && decide (up.pos.lastSpeed + usTicks 10 ≤ max up.now 4000), decide (max up.now 3999 < up.pos.lastSpeed + usTicks 10),
    domOn edges 2 && !edges.pos.stationary,
    !domOn State.reset 2, domOn up 2 && !filtered up 3 7 ]

theorem test_where_position : wPosition.all id = true := by decide +kernel

/-- 00 R20: with every domain off, ENC2 OUT still repeats while FIELD B alone is present; without either it is silent. -/
theorem test_repeater :
    let s := State.reset.setDio { State.reset.dio with fieldV := [0, 24000] }
    (match exec (.auxEncoderEdge 2 ⟨.both, 0⟩ 7) s with | .next u => u.emitted | _ => []) = [.encoderOut 2 (.ab .both)] ∧
      (match exec (.auxEncoderEdge 2 ⟨.both, 0⟩ 7) State.reset with | .next u => u.emitted | _ => []) = [] := by decide +kernel

def inScale (p : Packet) : Bool := decide (100 ≤ fld p.params 0 4) && decide (fld p.params 0 4 ≤ 1000000)

def wScale : List Bool :=
  [ runs (pk 0x0202 (le4 100)) (held [adm 9 .tap 3 0] up) fun p s => inScale p && s.led.held != [],
    runs (pk 0x0202 (le4 1000000)) (held [adm 9 .tap 3 0] up) fun p s => inScale p && s.led.held != [],
    runs (pk 0x0202 (le4 100)) up fun p s => inScale p && s.led.held == [],
    runs (pk 0x0202 (le4 1000000)) up fun p s => inScale p && s.led.held == [] ]

theorem test_where_scale : wScale.all id = true := by decide +kernel

def windowOk (p : Packet) : Bool :=
  decide (8 ≤ fld p.params 0 1) && decide (fld p.params 0 1 ≤ 24) && decide (fld p.params 1 1 ≤ 8) &&
    decide (100 ≤ fld p.params 4 4) && decide (fld p.params 4 4 ≤ 100000)

def wPosOps : List Bool :=
  let low := le1 8 ++ le1 0 ++ le2 0 ++ le4 100
  let high := le1 24 ++ le1 8 ++ le2 0 ++ le4 100000
  let now := { pk 0x0204 high with flags := 0x10 }
  let moving := up.setPos { up.pos with stationary := false }
  let enc := le1 3 ++ le1 1 ++ le1 1 ++ le1 1 ++ le4 0 ++ le4 4096 ++ le4 4
  let ssi := le2 2000 ++ le1 32 ++ le1 1 ++ le2 20 ++ le1 1 ++ le1 0 ++ le4 1000 ++ le4 0 ++ le4 16
  let at_ := fun (p : Packet) => { p with flags := 0x10 }
  let preset := fun n => pk 0x0205 (le4 n ++ le8 7)
  let ports := fun (p : Packet) => decide (1 ≤ fld p.params 0 1) && decide (fld p.params 0 1 ≤ 3)
  let encOk := fun (p : Packet) (s : State) => decide (fld p.params 0 1 ≤ 3) && decide (fld p.params 1 1 ≤ 1) && decide (fld p.params 2 1 ≤ 1) &&
    decide (fld p.params 3 1 ≤ 1) && (s.pos.enc[fld p.params 0 1]?).isSome
  let changes := fun (p : Packet) (s : State) => (s.pos.enc[fld p.params 0 1]?).any fun x =>
    decide ((fld p.params 1 1 == 1, fld p.params 2 1 == 1, fld p.params 3 1 == 1) ≠ (x.htl, x.inv, x.term))
  let ssiOk := fun (p : Packet) => (let c := ssiOf p.params
    decide (100 ≤ c.clk) && decide (c.clk ≤ 2000) && decide (10 ≤ c.bits) && decide (c.bits ≤ 32) && decide (fld p.params 3 1 ≤ 1) &&
      decide (20 ≤ c.mono) && decide (fld p.params 6 1 ≤ 1))
  let tap := held [adm 9 .tap 3 0]
  [ runs (pk 0x0201 []) up fun _ _ => true,
    runs (pk 0x0204 (le4 7 ++ le4 100)) up fun p _ => decide (fld p.params 0 1 < 8), runs (pk 0x0204 (le4 25 ++ le4 100)) up fun p _ => decide (24 < fld p.params 0 1),
    runs (pk 0x0204 low) up fun p _ => windowOk p && !p.atOnce, runs (pk 0x0204 high) up fun p _ => windowOk p && !p.atOnce,
    runs now moving fun p s => windowOk p && p.atOnce && !s.pos.stationary,
    runs now (up.setPos { up.pos with nextBoundary := 65536 }) fun p s => windowOk p && p.atOnce && s.pos.stationary && decide (fld p.params 0 1 ≠ s.pos.shift) && !reached s s.pos.nextBoundary,
    runs (preset 0) up fun p _ => decide (fld p.params 0 1 < 1), runs (preset 4) up fun p _ => decide (3 < fld p.params 0 1),
    runs (preset 1) up fun p _ => ports p && !p.atOnce, runs (preset 3) up fun p _ => ports p && !p.atOnce,
    runs (at_ (preset 3)) moving fun p s => ports p && p.atOnce && !s.pos.stationary,
    runs (at_ (preset 3)) up fun p s => ports p && p.atOnce && s.pos.stationary && (s.pos.aux[2]?).isSome,
    runs (pk 0x0203 (le1 4 ++ enc.drop 1)) up fun p _ => decide (3 < fld p.params 0 1),
    runs (pk 0x0203 enc) (tap up) fun p s => encOk p s && s.led.held != [] && changes p s,
    runs (pk 0x0203 enc) up fun p s => encOk p s && s.led.held == [] && !p.atOnce,
    runs (pk 0x0203 (le1 3 ++ (if (getI up.pos.enc 3 EncCfg.reset).term then [0, 0, 1] else [0, 0, 0]) ++ enc.drop 4)) (tap up) fun p s =>
      encOk p s && s.led.held != [] && !changes p s && !p.atOnce,
    runs (at_ (pk 0x0203 enc)) moving fun p s => encOk p s && p.atOnce && !s.pos.stationary,
    runs (at_ (pk 0x0203 enc)) up fun p s => encOk p s && p.atOnce && s.pos.stationary,
    runs (pk 0x0206 (le2 99 ++ ssi.drop 2)) up fun p _ => decide ((ssiOf p.params).clk < 100),
    runs (pk 0x0206 (le2 2001 ++ ssi.drop 2)) up fun p _ => decide (2000 < (ssiOf p.params).clk),
    runs (pk 0x0206 ssi) up fun p _ => ssiOk p && !p.atOnce, runs (pk 0x0206 (le2 100 ++ le1 10 ++ ssi.drop 3)) up fun p _ => ssiOk p && !p.atOnce,
    runs (at_ (pk 0x0206 ssi)) moving fun p s => ssiOk p && p.atOnce && !s.pos.stationary,
    runs (at_ (pk 0x0206 ssi)) up fun p s => ssiOk p && p.atOnce && s.pos.stationary ]

theorem test_where_pos_ops : wPosOps.all id = true := by decide +kernel

def request (n : Nat) : Request :=
  { kind := .tap, cls := 7, tenant := 0, demands := [⟨4, 7, n⟩], object := 0, vDecl := 0, recipe := 0 }

def wAdmission : List Bool :=
  let a := shorts up (vEff up.led.vadm) (request 1).cls (withTable (request 1).demands)
  let b := shorts up (vEff up.led.vadm) (request (2 ^ 62)).cls (withTable (request (2 ^ 62)).demands)
  [ a == [], b != [] ]

theorem test_where_admission : wAdmission.all id = true := by decide +kernel

def configOk (p : Packet) : Bool :=
  decide (fld p.params 0 2 ≤ 200) && decide (fld p.params 2 1 ≤ 50) && (List.range 7).all fun i => decide (fld p.params (4 + 2 * i) 2 ≤ 1000)

def wLedger : List Bool :=
  let top := le2 200 ++ le1 50 ++ le1 0 ++ (List.replicate 7 (le2 1000)).flatten ++ le2 0
  let tap := held [adm 9 .tap 3 0] up
  let ask := fun b i => pk 0x0301 (le1 b ++ le1 i ++ le2 0)
  let rel := fun (kind : AdmKind) (o : Nat) (s : State) (f : Packet → Admission → State → Bool) =>
    runs (pk 0x0303 (le4 9)) (held [adm 9 kind 3 o] s) fun p s => (findAdm s (fld p.params 0 4)).any fun a => a.kind == kind && mayUse p a.tenant && f p a s
  let other := pk 0x0303 (le4 9)
  let firing := fun st => up.setHm { up.hm with acts := [act 9 st (entry true 16 0)] }
  let benchIn := fun st => modBench 15 (fun x => { x with state := st }) up
  let lists := up.setFab { up.fab with lists := [{ ref := ⟨0, 5⟩, tenant := 0, engine := 1, inUnit := false, bench := 15, start := none
                                                   cmds := [⟨0x100, 5, 9, []⟩], index := 0, running := false, cals := [] }] }
  [ runs (ask 0 0) up fun p _ => decide (fld p.params 0 1 < 1), runs (ask 13 0) up fun p _ => decide (12 < fld p.params 0 1),
    runs (ask 1 255) up fun p _ => fld p.params 0 1 == 1 && !statusInst (fld p.params 0 1) (fld p.params 1 1),
    runs (ask 1 0) up fun p _ => decide (1 ≤ fld p.params 0 1) && statusInst (fld p.params 0 1) (fld p.params 1 1),
    runs (ask 12 0) up fun p _ => decide (fld p.params 0 1 ≤ 12) && statusInst (fld p.params 0 1) (fld p.params 1 1),
    runs (pk 0x0304 (le4 0)) up fun _ _ => true, runs (pk 0x0302 (le2 201 ++ top.drop 2)) up fun p _ => decide (200 < fld p.params 0 2),
    runs (pk 0x0302 top) up fun p s => configOk p && s.led.held == [],
    runs (pk 0x0302 top) tap fun p s => configOk p && s.led.held != [],
    runs other up fun p s => (findAdm s (fld p.params 0 4)).isNone,
    runs { other with principal := 63 } tap fun p s => (findAdm s (fld p.params 0 4)).any fun a => !mayUse p a.tenant,
    rel .tap 0 up fun _ _ _ => true, rel .stream 3 lists fun _ a s => s.fab.lists.any (listNames a.handle),
    rel .stream 3 up fun _ a s => !s.fab.lists.any (listNames a.handle),
    rel .actuation 9 (firing .firing) fun _ a s => (findAct s a.handle).any (fun x => x.state == .firing),
    rel .actuation 9 (firing .held) fun _ a s => !(findAct s a.handle).any (fun x => x.state == .firing),
    rel .bench 15 (benchIn .built) fun _ a s => !midChange (benchOf s a.object),
    rel .bench 15 (benchIn .loading) fun _ a s => midChange (benchOf s a.object) && invB s && decide (a.object < 16) ]

theorem test_where_ledger : wLedger.all id = true := by decide +kernel

/-! ## Triggers, boundaries and the lanes -/

def wTriggers : List Bool :=
  let ten := up.setPos { up.pos with hwm := 1600, count := 100 }
  let t : SentTrigger := { spos := 1, scan := 2, k := 3 }
  let w := modLane 23 (fun x => { x with state := .active, waiting := some (t, 2400) }) up
  [ invB up && tgDue up 7, invB ten && tgDue ten 0, !tgDue (up.setPos { up.pos with hwm := -1 }) 0,
    invB w && (laneOf w 23).state == .active && (laneOf w 23).txq == [] && (laneOf w 23).waiting == some (t, 2400) ]

theorem test_where_triggers : wTriggers.all id = true := by decide +kernel

def wBoundary : List Bool :=
  [ boundaryDue up, !boundaryDue (up.setPos { up.pos with nextBoundary := 1 }), decide (7 < up.lanes.tg.length) && decide (0 < 16),
    (up.draw.tokS[7]?).isSome, (up.pos.aux[2]?).isSome, (up.pos.enc[3]?).isSome, decide (8 ≠ up.pos.shift) ]

theorem test_where_boundary : wBoundary.all id = true := by decide +kernel

def lane23 (st : LaneState) (f : Lane → Lane) : State :=
  modLane 23 (fun x => f { x with cfg := { x.cfg with camram := true }, state := st }) up

/-- Words of a packet as they are received. -/
def rxOf (b : Bytes) (bad : Bool) : List RxWord :=
  (List.range (b.length / 4)).map fun i => { w := BitVec.ofNat 32 (fld b (4 * i) 4), bad := bad }

/-- A Camram packet: VC, DT, the reserved field, the stamp and the payload. -/
def camPacket (vc dt res : Nat) (sp : Word) (payload : Bytes) : Bytes :=
  withCrc (le4 (vc + dt * 64 + res * 4096 + payload.length * 65536) ++ le4 sp.toNat ++ padTo ((payload.length + 3) / 4 * 4) payload)

def sentOne : SentTrigger := { spos := 16, scan := 2, k := 3 }
def rates : Capability := { rates := 0xFE, lanes := 1, index := 0, formats := 0xFF, cameraId := 1, maxLineRate := 1, pixels := 4 }
def active (rx : List RxWord) : State :=
  lane23 .active fun x => { x with
    rx := rx, capability := some rates, sent := [sentOne]
    cfg := { x.cfg with vc := 0x80 :: 1 :: List.replicate 62 0 } }

def camOk (s : State) (f : CamPacket → Bool) : Bool :=
  invB s && inState s 23 true .active && (laneOf s 23).inject.1 != 3 && (frontOf (laneOf s 23)).any fun w => f (readPacket w)

def wCamram : List Bool :=
  let locked := fun st => lane23 st fun x => { x with lock := true, missedSync := 3 }
  let on := fun st => invB (locked st) && (laneOf (locked st) 23).locked && (laneOf (locked st) 23).missedSync == 3 && (laneOf (locked st) 23).state == st
  let line := le4 2 ++ le2 0 ++ le2 4 ++ [1, 2, 3, 4]
  let bad := camPacket 0 1 0 16 line
  [ on .active && decide (4 ≤ 4) && decide (4 < 5), on .capExchange, !(laneOf (lane23 .blockLock id) 23).locked,
    invB (active []) && inState (active []) 23 true .active && frontOf (laneOf (active []) 23) == none, !inState (lane23 .train id) 23 true .active,
    camOk (active (rxOf (bad.dropLast ++ [0x55]) false)) fun p => !p.crcGood,
    camOk (active (rxOf (camPacket 0 0x3F 0 0 []) false)) fun p => p.crcGood && !isPixel p.dt && p.dt != 0x20 && p.dt != 0x21 && p.dt != 0x3E,
    camOk (active (rxOf (camPacket 0 1 1 0 line) false)) fun p => p.crcGood && p.reserved != 0,
    camOk (active (rxOf (camPacket 2 1 0 0 line) false)) fun p => p.crcGood && vcOf (active []) 23 p.vc == 0,
    (let s := active (rxOf (camPacket 0 1 0 17 line) false)
     camOk s fun p => p.crcGood && p.reserved == 0 && isPixel p.dt && announced s 23 p.dt && decide (0x80 ≤ vcOf s 23 p.vc) &&
      findTrigger s 23 p.spos (BitVec.ofNat 32 (fld p.payload 0 4)) == none),
    (let s := active (rxOf (camPacket 0 1 0 16 line) false)
     camOk s fun p => p.crcGood && p.reserved == 0 && isPixel p.dt && announced s 23 p.dt && decide (0x80 ≤ vcOf s 23 p.vc) &&
      findTrigger s 23 p.spos (BitVec.ofNat 32 (fld p.payload 0 4)) == some sentOne),
    (let s := active (rxOf (camPacket 1 0x20 0 0 [1, 2, 3, 4]) true)
     camOk s fun p => p.crcGood && p.reserved == 0 && p.dt == 0x20 && vcOf s 23 p.vc == 1 && p.bad) ]

theorem test_where_camram : wCamram.all id = true := by decide +kernel

def cxp (st : LaneState) (f : Lane → Lane) : State :=
  modLane 23 (fun x => f { x with state := st, cfg := { x.cfg with sid := [(7, 0)], vc := 0x80 :: List.replicate 63 0 } }) up

def wCxp : List Bool :=
  let s := cxp .active fun x => { x with cxp := [{ stream := 7, trigs := [sentOne], lines := 1 }] }
  let x : CtrlXact := { ref := ⟨0, 5⟩, tag := 9, since := 0 }
  let c := withP (pk 0x0420 []) (cxp .active fun y => { y with ctrl := [x] })
  let on := fun (s : State) => invB s && inState s 23 false .active && (laneOf s 23).inject.1 != 3 && streamVc s 23 7 == some 0
  let routed := fun v => modLane 23 (fun x => { x with cfg := { x.cfg with vc := v :: List.replicate 63 0 } }) s
  let image := fun (s : State) => (laneOf s (firstLane s 23)).cxp.find? fun c => c.stream == 7
  let trig := fun (s : State) => (image s).bind fun c => if c.lines = 0 then none else c.trigs[c.lines - 1]?
  let next := fun (s : State) => modStream (firstLane s 23) 7 (fun c => { c with lines := c.lines + 1 }) s
  [ !inState up 23 false .active, on s && streamVc s 23 8 == none, on (routed 0x7F) && decide (vcOf (routed 0x7F) 23 0 < 0x80), on (routed 1) && vcOf (routed 1) 23 0 == 1,
    on s && !isPixel 0x20, on s && isPixel 3 && decide (0x80 ≤ vcOf s 23 0) && trig s == some sentOne, trig (next s) == none,
    cxpGroup up 23 [.active, .discover] == [], invB s && cxpGroup s 23 [.active, .discover] == [23] && (laneOf s 23).state == .active,
    (let d := cxp .discover id; cxpGroup d 23 [.active, .discover] == [23] && (laneOf d 23).state == .discover),
    (laneOf c 23).state == .active && (laneOf c 23).ctrl.find? (fun x => x.tag == 8) == none,
    (laneOf c 23).ctrl.find? (fun x => x.tag == 9) == some x && (findP x.ref c).isSome && (laneOf c 23).ctrl == x :: [] ]

theorem test_where_cxp : wCxp.all id = true := by decide +kernel

/-- A CAPABILITY message of version 1: rates, lanes, index, formats, camera, line rate and pixels. -/
def capMsg (r lanes : Nat) (id : Nat) : Bytes := le1 1 ++ le1 r ++ le1 lanes ++ le1 0 ++ le1 0xFF ++ le1 0 ++ le2 0 ++ le8 id ++ le4 1 ++ le2 4

def wBringUp : List Bool :=
  let cap := lane23 .capExchange fun x => { x with rate := 1, lock := true }
  let back := lane23 .capExchange fun x => { x with rate := 1, lock := true, afterUpset := true, capability := some rates }
  let high := lane23 .capExchange fun x => { x with rate := 1, lock := true, cfg := { x.cfg with rateMin := 2 } }
  let last := lane23 .bitLock fun x => { x with bitExpiries := 2, rate := 2, agreed := some 2 }
  let bad := lane23 .capFault id
  let changed := lane23 .capFault fun x => { x with cameraChanged := true }
  let on := fun (st : LaneState) (s : State) => invB s && inState s 23 true st
  let ok := fun (s : State) (b : Bytes) => on .capExchange s && (laneOf s 23).lock && !capReserved b && fld b 0 1 == 1 && !capConflict s 23 (readCapability b)
  [ on .detect (lane23 .detect id) && (laneOf (lane23 .detect id) 23).probes == 0, (laneOf (lane23 .detect fun x => { x with probes := 1 }) 23).probes == 1,
    on .train (lane23 .train id) && decide ((laneOf (lane23 .train fun x => { x with rate := 255 }) 23).rate < 256),
    on .bitLock (lane23 .bitLock id) && decide ((laneOf (lane23 .bitLock id) 23).bitExpiries < 2), on .blockLock (lane23 .blockLock id),
    ok cap (capMsg 2 1 1) && !(laneOf cap 23).afterUpset && agreedRate (laneOf cap 23) (readCapability (capMsg 2 1 1)).rates == some 1,
    ok cap (capMsg 0xFE 1 1) && agreedRate (laneOf cap 23) (readCapability (capMsg 0xFE 1 1)).rates == some 7,
    ok high (capMsg 2 1 1) && agreedRate (laneOf high 23) (readCapability (capMsg 2 1 1)).rates == none,
    ok back (capMsg 2 1 9) && (laneOf back 23).afterUpset && (laneOf back 23).capability.any fun o => o.cameraId != (readCapability (capMsg 2 1 9)).cameraId,
    ok back (capMsg 2 1 1) && (laneOf back 23).capability.any fun o => o.cameraId == (readCapability (capMsg 2 1 1)).cameraId,
    !capReserved (capMsg 2 4 1) && capConflict cap 23 (readCapability (capMsg 2 4 1)), capReserved ((capMsg 2 1 1).take 7 ++ [1] ++ (capMsg 2 1 1).drop 8),
    on .bitLock last && (laneOf last 23).bitExpiries == 2 && (laneOf last 23).agreed == some (laneOf last 23).rate &&
      decide ((laneOf last 23).cfg.rateMin < (laneOf last 23).rate),
    on .capFault bad && !(laneOf bad 23).cameraChanged, inState changed 23 true .capFault && (laneOf changed 23).cameraChanged,
    [LaneState.detect, .train, .bitLock, .blockLock, .capExchange, .capFault].all fun st => !inState up 23 true st ]

theorem test_where_bring_up : wBringUp.all id = true := by decide +kernel

def wCxpBringUp : List Bool :=
  let s := fun st => cxp st fun x => { x with rate := 2, cxpTarget := (1, 1) }
  let on := fun st => invB (s st) && decide (1 ≤ (laneOf (s st) 23).cfg.group) && masterIn (s st) 23 st
  [ on .detect && groupRate (s .detect) [23] 0x80 == some 7, groupRate (s .detect) [23] 0x01 == none, on .discover && (laneOf (s .discover) 23).cxpTarget.1 != 0,
    !masterIn (s .detect) 23 .discover, masterIn (cxp .discover id) 23 .discover && (laneOf (cxp .discover id) 23).cxpTarget.1 == 0, on .resync ]

theorem test_where_cxp_bring_up : wCxpBringUp.all id = true := by decide +kernel

/-- LANE_CONFIG of lane 23 as it is at reset but for TRIGMAX. -/
def laneCfg (rateMax trigMax : Nat) : Bytes :=
  le1 23 ++ le1 0 ++ le1 1 ++ le1 rateMax ++ le1 1 ++ le1 0 ++ le2 4 ++ le4 trigMax ++ List.replicate 64 0 ++ (List.replicate 16 ([0xFF, 0] : Bytes)).flatten

def sameCfg (p : Packet) (s : State) : Bool :=
  let c := laneCfgOf p.params
  let d := (laneOf s (fld p.params 0 1)).cfg
  c.camram == d.camram && c.rateMin == d.rateMin && c.rateMax == d.rateMax && c.group == d.group && c.vc == d.vc && c.sid == d.sid && c.tg == d.tg

def wLaneConfig : List Bool :=
  let on := modLane 23 (fun x => { x with state := .detect }) up
  let retired := modLane 23 (fun x => { x with state := .retired }) up
  let test := lane23 .test id
  let dest := fun (dest : Nat) (s : State) (f : State → Bool) => runs (pk 0x0403 (le1 23 ++ le1 dest ++ le2 0)) s fun p s => fld p.params 1 1 == dest && f s
  let used := fun s => withRecipe (recipe 9 .held image) (modPlnChan 0 (fun c => { c with view := some 0 }) (modLane 23 (fun x => { x with
    state := .detect, cfg := { x.cfg with vc := 0x80 :: List.replicate 63 0 } }) s))
  [ runs (pk 0x0402 (le1 24 ++ (laneCfg 7 9).drop 1)) up fun p s => laneCfgBad s p.params == some 0x20,
    runs (pk 0x0402 (laneCfg 7 9)) up fun p s => laneCfgBad s p.params == none && !(laneOf s (fld p.params 0 1)).enabled,
    runs (pk 0x0402 (laneCfg 6 9)) on fun p s => laneCfgBad s p.params == none && (laneOf s (fld p.params 0 1)).enabled && !sameCfg p s,
    runs (pk 0x0402 (laneCfg 7 9)) on fun p s => laneCfgBad s p.params == none && (laneOf s (fld p.params 0 1)).enabled && sameCfg p s,
    dest 2 retired fun s => (laneOf s 23).state == .retired, dest 1 on fun s => (laneOf s 23).enabled && (laneOf s 23).state == .detect,
    dest 1 up fun s => (laneOf s 23).state == .disabled && laneOn s 23, dest 1 test fun s => (laneOf s 23).state == .test && laneOn s 23,
    dest 0 (used up) fun s => (laneOf s 23).enabled && laneUsed s 23, dest 0 up fun s => !(laneOf s 23).enabled,
    dest 0 on fun s => (laneOf s 23).enabled && !laneUsed s 23 && invB s, dest 2 test fun s => (laneOf s 23).state == .test && laneOn s 23 && !laneUsed s 23,
    dest 2 up fun s => (laneOf s 23).state != .test && laneOn s 23 && !laneUsed s 23 && invB s,
    runs (pk 0x0460 (le4 23)) up fun _ s => invB s && (laneOf s 23).state != .retired,
    runs (pk 0x0460 (le4 23)) retired fun _ s => invB s && (laneOf s 23).state == .retired && laneOn s 23 ]

theorem test_where_lane_config : wLaneConfig.all id = true := by decide +kernel

def wPrbs : List Bool :=
  let test := lane23 .test fun x => { x with prbs := 31, prbsAction := 2, prbsLock := true, chkBlock := (1000, 255) }
  let seek := lane23 .test fun x => { x with prbs := 7, prbsAction := 2, chkRun := 63 }
  let act := lane23 .active id
  let ok := fun (a : Nat) (s : State) (f : State → Bool) => runs (pk 0x0430 (le1 23 ++ le1 31 ++ le1 5 ++ le1 a)) s fun p s => invB s &&
    decide (fld p.params 0 1 ≤ 23) && [7, 15, 23, 31].contains (fld p.params 1 1) && decide (1 ≤ fld p.params 2 1) &&
    decide (fld p.params 2 1 ≤ topRate (laneOf s (fld p.params 0 1)).cfg.camram) && decide (fld p.params 3 1 ≤ 3) && fld p.params 3 1 == a && f s
  let inj := fun (m p n : Nat) (s : State) (f : State → Bool) => runs (pk 0x0431 (le1 23 ++ le1 m ++ le1 p ++ le1 0 ++ le4 n)) s fun p s => fld p.params 1 1 == m &&
    (m != 2 || decide (10 ≤ fld p.params 2 1) && decide (fld p.params 2 1 ≤ 40)) && (m != 3 || decide (1 ≤ fld p.params 4 2)) && f s
  let loop := fun (m : Nat) (s : State) (f : State → Bool) => runs (pk 0x0432 (le1 23 ++ le1 m ++ le2 0)) s fun p s => fld p.params 1 1 == m && f s
  let both := modLane (loopPartner 23) (fun x => { x with state := .test }) test
  let checks := fun (s : State) => invB s && (laneOf s 23).checking && (laneOf s 23).loopback != 1 && !(laneOf s 23).generating
  [ ok 1 act fun s => (laneOf s 23).state != .test, ok 1 test fun s => (laneOf s 23).state == .test, ok 2 test fun s => (laneOf s 23).state == .test,
    ok 3 test fun s => (laneOf s 23).state == .test, ok 0 test fun s => (laneOf s 23).state == .test,
    inj 1 0 0 act fun s => (laneOf s 23).state != .test, inj 2 10 0 test fun s => (laneOf s 23).state == .test, inj 2 40 0 test fun _ => true,
    inj 3 0 1 act fun s => (laneOf s 23).state == .active, inj 3 0 65535 test fun s => (laneOf s 23).state != .active, inj 0 0 0 up fun _ => true,
    checks test && (laneOf test 23).prbsLock && decide (255 ≤ (laneOf test 23).chkBlock.2), checks seek && !(laneOf seek 23).prbsLock && (laneOf seek 23).chkRun == 63,
    (laneOf act 23).state != .test, loop 1 act fun s => (laneOf s 23).state != .test,
    loop 2 test fun s => (laneOf s 23).state == .test && (laneOf s (loopPartner 23)).state != .test,
    loop 2 both fun s => (laneOf s 23).state == .test && (laneOf s (loopPartner 23)).state == .test ]

theorem test_where_prbs : wPrbs.all id = true := by decide +kernel

def wLaneTests : List Bool :=
  let act := lane23 .active id
  let scan : EyeScan := { ref := ⟨0, 5⟩, bitsExp := 20, phMin := 0, phStep := 1, phCount := 1, vMin := 0, vStep := 1, vCount := 2, sposStart := 0
                          ctle := 0, vga := 0, dfe1 := 0, rate := 1, counts := [7] }
  let eyeing := withP (pk 0x0440 []) (lane23 .active fun x => { x with eye := some scan })
  let points := fun l => decide ((addPoints l scan).counts.length = eyePoints (addPoints l scan))
  let near := modLane 20 (fun x => { x with eye := some scan }) act
  let eye := le1 23 ++ le1 20 ++ [0xE0] ++ le1 1 ++ le1 1 ++ [0x81] ++ le1 254 ++ le1 2
  let edge := le1 23 ++ le1 40 ++ [0x20] ++ le1 64 ++ le1 1 ++ [0x7F] ++ le1 1 ++ le1 1
  let look := fun (b : Bytes) (s : State) (bad : Option Nat) (busy : Bool) (f : State → Bool) =>
    runs (pk 0x0440 b) s fun p s => (laneOf s 23).cfg.camram && eyeBad p.params == bad && eyeBusy s 23 == busy && f s
  let x1 := fun n => le1 23 ++ le1 0 ++ le2 n ++ List.replicate n 0
  let ctrl := fun (n : Nat) (s : State) (f : State → Bool) => runs (pk 0x0420 (x1 n)) s fun p s => decide (1 ≤ fld p.params 2 2) && decide (fld p.params 2 2 ≤ 1024) &&
    fld p.params 2 2 == p.params.length - 4 && invB s && f s
  let trg := fun (a n k : Nat) (fl : Half) (s : State) (f : Packet → State → Bool) => runs { pk 0x0410 (le4 a ++ le4 n ++ le4 k) with flags := fl } s fun p s =>
    decide (fld p.params 0 1 ≤ 7) && decide (16 ≤ fld p.params 4 4) && decide (fld p.params 4 4 ≤ 2 ^ 20) && decide (fld p.params 8 4 < fld p.params 4 4) && invB s && f p s
  [ runs (pk 0x0440 eye) up fun _ s => !(laneOf s 23).cfg.camram, look (le1 23 ++ le1 19 ++ eye.drop 2) act (some 0x21) false fun _ => true,
    look eye act none false fun s => invB s && (laneOf s 23).state == .active, look edge near none true fun _ => true,
    look eye (lane23 .train id) none false fun s => invB s && (laneOf s 23).state != .active,
    invB eyeing && (laneOf eyeing 23).state == .active && (laneOf eyeing 23).eye == some scan && (findP scan.ref eyeing).isSome, points [0], !points [],
    invB act && (laneOf act 23).enabled && (laneOf act 23).eq.length == 3 &&
      (List.range 3).all fun i => decide (getI (laneOf act 23).eqMin i 0 ≤ getI (laneOf act 23).eqMax i 0), !(laneOf up 23).enabled,
    runs (pk 0x0450 (le1 23 ++ le1 31 ++ le1 31 ++ le1 0 ++ le1 63 ++ [0xE0] ++ le1 31 ++ le1 0)) act fun p s => invB s &&
      decide (fld p.params 1 1 ≤ fld p.params 2 1) && decide (fld p.params 2 1 ≤ 31) && decide (fld p.params 3 1 ≤ fld p.params 4 1) &&
      decide (fld p.params 4 1 ≤ 63) && decide (-32 ≤ sfld p.params 5 1) && decide (sfld p.params 5 1 ≤ sfld p.params 6 1) &&
      decide (sfld p.params 6 1 ≤ 31) && (laneOf s 23).eq.length == 3,
    runs (pk 0x0401 (le4 24)) up fun p _ => decide (23 < fld p.params 0 1), runs (pk 0x0401 (le4 23)) up fun p _ => decide (fld p.params 0 1 ≤ 23),
    ctrl 1 (modLane 23 (fun x => { x with state := .retired }) up) fun s => (laneOf s 23).state == .retired,
    ctrl 1 up fun s => !(laneOf s 23).cfg.camram && (laneOf s 23).state != .active && (laneOf s 23).state != .retired,
    ctrl 1024 (cxp .active id) fun s => !(laneOf s 23).cfg.camram && (laneOf s 23).state == .active, ctrl 1 act fun s => (laneOf s 23).cfg.camram,
    trg 7 16 15 0 up fun p _ => !p.atOnce, trg 0 (2 ^ 20) 0 0x10 (up.setPos { up.pos with stationary := false }) fun p s => p.atOnce && !s.pos.stationary,
    trg 0 (2 ^ 20) 0 0x10 up fun p s => p.atOnce && s.pos.stationary ]

theorem test_where_lane_tests : wLaneTests.all id = true := by decide +kernel

/-! ## The image pipeline -/

def good : Option Sample := some { value := 0x1230, sat := false, bad := false }
def slot (k : Int) (closed : Bool) (l : List (Option Sample)) : Slot :=
  { k := k, spos := 0, scan := 2, crossed := 0, trig := true, samples := l, closed := closed, upset := [], fresh := false, overAdm := false }

/-- Channel 31 of view 3, four pixels wide. -/
def pipe (f : Channel → Channel) : State :=
  modView 3 (fun v => { v with configured := true }) (modPlnChan 31 (fun c => f { c with view := some 3, width := 4 }) up)

def wSegments : List Bool :=
  let g := fun (first count : Nat) => ({ k := 7, scan := 2, first := first, count := count, samples := List.replicate count (0x10, false), bad := false } : Segment)
  let c := { Channel.reset with slots := [slot 7 false [good, none, none, none]] }
  let isNew := fun (g : Segment) (c : Channel) (dup : Bool) => (((expireSlots 12000 c).slots.find? (isSlot g)).any fun x => !x.closed && segDup g x == dup)
  [ (((expireSlots 12001 c).slots.find? (isSlot (g 0 1))).all (·.closed)), (((expireSlots 0 Channel.reset).slots.find? (isSlot (g 0 1))).all (·.closed)),
    isNew (g 0 1) c true, isNew (g 2 3) c true, isNew (g 1 3) c false ]

theorem test_where_segments : wSegments.all id = true := by decide +kernel

def wLines : List Bool :=
  let s := pipe fun c => { c with slots := [slot 7 false [none, good, none, good]] }
  let t := pipe fun c => { c with slots := [slot 255 true [none, good, none, good]] }
  let line : ChanLine := { k := 7, spos := 0, scan := 2, pixels := List.replicate 4 padPixel, overAdm := false, damaged := true, fresh := false }
  let l := pipe fun c => { c with lines := [line] }
  let r := pipe fun c => { c with lines := [line], replace := true }
  let row := modView 3 (fun v => { v with
    tileH := 16, width := 1024, rowOpen := some 0, rowLines := [{ k := 15, spos := 0, scan := 2, pixels := [], overAdm := false }] }) up
  let takes := fun s (rep : Bool) => invB s && imgOn s && (viewOf s 3).configured && (linesAt (passClean 7 (viewChans s 3) s) 3 7 == some [(31, line)]) &&
    rowTakes (passClean 7 (viewChans s 3) s) 3 7 line.fresh && replaceView (passClean 7 (viewChans s 3) s) 3 == rep
  let hit := upsetSlot 31 255 [1] t
  let waits := fun s => !rowTakes (passClean 7 (viewChans s 3) s) 3 7 line.fresh
  [ invB s && ((plnChan s 31).slots.find? (fun x => x.k == 7 && !x.closed)).isSome, ((plnChan s 31).slots.find? (fun x => x.k == 8 && !x.closed)).isNone,
    !imgOn State.reset && !(viewOf up 3).configured,
    invB t && imgOn t && (plnChan t 31).slots.head?.any fun x => x.closed && x.k == 255 && concealReady (rowH t 3) x [] && (goodAt x 1).isSome && (causeAt x 0).isSome,
    (plnChan hit 31).slots.head?.any fun x => x.closed && concealReady (rowH hit 3) x [] && (causeAt x 1).isSome,
    (let r := modPlnChan 31 (fun c => { c with replace := true }) t; (plnChan r 31).replace && invB r),
    takes l false && line.damaged, takes r true && line.damaged, (linesAt (passClean 8 (viewChans l 3) l) 3 8).isNone,
    waits (modView 3 (fun v => { v with rowOpen := some 9 }) l),
    invB row && imgOn row && (viewOf row 3).rowOpen == some 0 && rowDone row 3 0 && decide (0 < tileCols row 3) &&
      !(viewOf row 3).placed.contains 0 && decide ((viewOf row 3).placed.length + 1 < tileCols row 3),
    (let last := modView 3 (fun v => { v with placed := [0] }) row
     rowDone last 3 0 && decide (1 < tileCols last 3) && !(viewOf last 3).placed.contains 1 && decide (tileCols last 3 ≤ (viewOf last 3).placed.length + 1)),
    (viewOf (modView 3 (fun v => { v with placed := [0] }) row) 3).placed.contains 0 ]

theorem test_where_lines : wLines.all id = true := by decide +kernel

def viewParams (limit : Nat) : Bytes :=
  le1 3 ++ le1 1 ++ le1 7 ++ le1 6 ++ le2 32768 ++ le2 1024 ++ le2 1024 ++ le2 limit ++ le1 16 ++ le1 0 ++ le2 0

def wNormal : List Bool :=
  let x := { padPixel with conc := true }
  let ring := modView 3 (fun v => { v with statRing := 9 }) (withObjs [obj 9 .ingot 0x100000000 128] up)
  [ runs (pk 0x0503 (viewParams 1001)) up fun p _ => decide (1000 < fld p.params 10 2),
    decide ((viewOf up 3).grange.1 ≤ (viewOf up 3).grange.2) && decide ((viewOf up 3).grange.1 ≤ (viewOf up 3).g) &&
      decide ((viewOf up 3).g ≤ (viewOf up 3).grange.2) && invB up,
    resample Channel.reset [] 5 == none, x.conc, (x.conc || x.repl || x.sat || x.pad),
    invB ring && (objOf ring (viewOf ring 3).statRing).any (fun o => !o.lost && decide (o.size ≤ statUsed (viewOf ring 3) o.size + 16 + 112)),
    objOf up (viewOf up 3).statRing == none, (objOf ring (viewOf ring 3).statRing).any fun o => !o.lost && decide (statUsed (viewOf ring 3) o.size + 16 + 111 < o.size) ]

theorem test_where_normal : wNormal.all id = true := by decide +kernel

def chanParams (v : Nat) (ofs : Nat) : Bytes :=
  le1 31 ++ le1 v ++ le1 0 ++ le1 0xFF ++ le1 3 ++ le1 1 ++ le1 255 ++ le1 0 ++ le2 4096 ++ le2 0 ++ le4 ofs ++ le4 131072

def wImageOps : List Bool :=
  let used := withRecipe (recipe 9 .held { image with views := 8 }) up
  let crowd := up.setPln { up.pln with chan := (up.pln.chan.mapIdx fun i c => if i < 12 then { c with view := some 3 } else c) }
  let filt := fun (h0 a gate : Nat) => le1 3 ++ le1 0 ++ le2 h0 ++ le1 2 ++ le1 2 ++ le1 a ++ le1 0 ++ le2 gate ++ le1 16 ++ le1 8 ++ le2 1 ++ le2 2
  let ringd := withObjs [obj 9 .ingot 0x100000000 4096] up
  let tapOp := fun (pt src : Nat) => le1 pt ++ le1 src ++ le2 0 ++ le4 0 ++ le4 0 ++ le4 9
  let tap : Tap := { handle := 4, point := 0, source := 0, start := 0, length := 16, ring := 9, widx := 0, seq := 0, drop := 0, tenant := 0 }
  let taps := fun n => ringd.setPln { ringd.pln with taps := List.replicate n tap }
  let past := (taps 1).setPos { up.pos with hwm := 16 }
  let moving := up.setPos { up.pos with stationary := false }
  let grouped := fun (p : Packet) (s : State) => groupBad (emptyView (fld p.params 1 1) (modPlnChan (fld p.params 0 1) (channelOf p.params)
    (match (plnChan s (fld p.params 0 1)).view with | some w => emptyView w s | none => s))) (fld p.params 0 1)
  let chan := fun (p : Packet) (s : State) => channelBad p.params == none && !viewUsed s (fld p.params 1 1) &&
    !(plnChan s (fld p.params 0 1)).view.any (viewUsed s)
  let chanOk := fun (p : Packet) (s : State) => invB s && chan p s && grouped p s == none
  let when := fun (at_ : Bool) (b : Bytes) (code : Half) (s : State) (f : Packet → State → Bool) =>
    runs { pk code b with flags := if at_ then 0x10 else 0 } s fun p s => p.atOnce == at_ && invB s && f p s
  let filtOk := fun (p : Packet) (_ : State) => decide (fld p.params 0 1 ≤ 3) && fld p.params 2 2 + 2 * fld p.params 4 1 + 2 * fld p.params 5 1 == 256 &&
    decide (fld p.params 6 1 ≤ 6) && decide (8 ≤ fld p.params 10 1) && decide (fld p.params 10 1 ≤ 16) && decide (fld p.params 11 1 ≤ 8)
  let level := fun lo hi => le1 3 ++ le1 0 ++ le2 7 ++ le2 lo ++ le2 hi
  let levelOk := fun (p : Packet) (_ : State) => decide (1024 ≤ fld p.params 4 2) && decide (fld p.params 4 2 ≤ fld p.params 6 2) && decide (fld p.params 6 2 ≤ 16384)
  let stat := fun blk bin ring => le1 3 ++ le1 0 ++ le2 blk ++ le2 bin ++ le2 0 ++ le4 ring
  let statOk := fun (p : Packet) => pow2In 64 4096 (fld p.params 2 2) && pow2In 16 512 (fld p.params 4 2)
  let tapOk := fun (p : Packet) (s : State) => decide (fld p.params 0 1 ≤ 5) && decide (fld p.params 1 1 < (if fld p.params 0 1 < 3 then 32 else 4)) &&
    inHorizon s (BitVec.ofNat 32 (fld p.params 4 4)) && ringBad p (fld p.params 12 4) 0x2C s == none
  let need := fun (p : Packet) (s : State) => (let d := tapDemand s (fld p.params 0 1) (fld p.params 1 1)
    shorts s (vEff s.led.vadm) p.cls (withTable [⟨4, p.cls, d⟩, ⟨5, p.cls, d⟩]))
  let close := fun (p : Packet) (s : State) (own : Bool) => (findAdm s (fld p.params 0 4)).any fun a => mayUse p a.tenant == own && a.kind == .tap
  [ runs (pk 0x0501 (le4 3)) up fun p _ => decide (fld p.params 0 1 ≤ 3), runs (pk 0x0501 (le4 4)) up fun p _ => decide (3 < fld p.params 0 1),
    runs (pk 0x0502 (le1 32 ++ (chanParams 3 0).drop 1)) up fun p _ => channelBad p.params == some 0x20,
    runs (pk 0x0502 (chanParams 3 0xFFFFF000)) used fun p s => channelBad p.params == none && viewUsed s (fld p.params 1 1),
    runs (pk 0x0502 (chanParams 3 0xFFFFF000)) up chanOk, runs (pk 0x0502 (chanParams 3 32767)) up chanOk,
    runs (pk 0x0502 (chanParams 3 0)) crowd fun p s => chan p s && (grouped p s).isSome,
    runs (pk 0x0503 (viewParams 1001)) up fun p _ => (viewBad p.params).isSome,
    runs (pk 0x0503 (viewParams 1000)) used fun p s => viewBad p.params == none && viewUsed s (fld p.params 0 1),
    runs (pk 0x0503 (viewParams 1000)) up fun p s => viewBad p.params == none && !viewUsed s (fld p.params 0 1) && invB s &&
      decide (surfaceCount s true ≤ 12) && !tripleCover s 3 && viewChans s 3 == [],
    runs (pk 0x0505 (filt 249 0 0)) up fun p _ => decide (fld p.params 2 2 + 2 * fld p.params 4 1 + 2 * fld p.params 5 1 ≠ 256),
    when false (filt 248 6 0xFFFF) 0x0505 up filtOk, when true (filt 248 0 0) 0x0505 moving fun p s => filtOk p s && !s.pos.stationary,
    when true (filt 248 0 0) 0x0505 up fun p s => filtOk p s && s.pos.stationary,
    runs (pk 0x0506 (level 1023 1024)) up fun p _ => decide (fld p.params 4 2 < 1024), runs (pk 0x0506 (level 1025 1024)) up fun p _ => decide (fld p.params 6 2 < fld p.params 4 2),
    runs (pk 0x0506 (level 1024 16385)) up fun p _ => decide (16384 < fld p.params 6 2),
    when false (level 1024 16384) 0x0506 up levelOk, when true (level 1024 1024) 0x0506 moving fun p s => levelOk p s && !s.pos.stationary,
    when true (level 16384 16384) 0x0506 up fun p s => levelOk p s && s.pos.stationary,
    runs (pk 0x0510 (stat 32 16 0)) up fun p _ => !pow2In 64 4096 (fld p.params 2 2), runs (pk 0x0510 (stat 64 8 0)) up fun p _ => !pow2In 16 512 (fld p.params 4 2),
    runs (pk 0x0510 (stat 64 16 9)) used fun p s => statOk p && viewUsed s (fld p.params 0 1),
    runs (pk 0x0510 (stat 64 16 9)) up fun p s => statOk p && !viewUsed s (fld p.params 0 1) && (ringBad p (fld p.params 8 4) 0x28 s).isSome,
    runs (pk 0x0510 (stat 4096 512 9)) ringd fun p s => statOk p && !viewUsed s (fld p.params 0 1) && ringBad p (fld p.params 8 4) 0x28 s == none,
    runs (pk 0x0520 (tapOp 6 0)) ringd fun p _ => decide (5 < fld p.params 0 1), runs (pk 0x0520 (tapOp 3 4)) ringd fun p _ => decide (4 ≤ fld p.params 1 1),
    runs (pk 0x0520 (tapOp 5 3)) (ringd.setPos { ringd.pos with count := -0x8000000, frac := 0 }) fun p s => !inHorizon s (BitVec.ofNat 32 (fld p.params 4 4)),
    runs (pk 0x0520 (tapOp 5 3)) up fun p s => inHorizon s (BitVec.ofNat 32 (fld p.params 4 4)) && (ringBad p (fld p.params 12 4) 0x2C s).isSome,
    runs (pk 0x0520 (tapOp 5 3)) (taps 8) fun p s => tapOk p s && decide (8 ≤ s.pln.taps.length),
    runs (pk 0x0520 (tapOp 2 31)) (ringd.setPos { ringd.pos with scale := 1000 }) fun p s => tapOk p s && decide (s.pln.taps.length < 8) && need p s == [],
    runs (pk 0x0520 (tapOp 2 31)) (full (ringd.setPos { ringd.pos with scale := 1000 })) fun p s => tapOk p s && decide (s.pln.taps.length < 8) && need p s != [],
    runs (pk 0x0521 (le4 9)) up fun p s => findAdm s (fld p.params 0 4) == none, runs (pk 0x0521 (le4 9)) (held [adm 9 .tap 3 0] up) fun p s => close p s true,
    runs { pk 0x0521 (le4 9) with principal := 63 } (held [adm 9 .tap 3 0] up) fun p s => close p s false,
    (past.pln.taps.find? fun t => t.handle == 4).any fun t => t.length != 0 && reached past (t.start + BitVec.ofNat 64 t.length) && findAdm past 4 == none,
    (findAdm (held [adm 4 .tap 3 0] past) 4).isSome,
    ((taps 1).pln.taps.find? fun t => t.handle == 4).any fun t => !reached (taps 1) (t.start + BitVec.ofNat 64 t.length) ]

theorem test_where_image_ops : wImageOps.all id = true := by decide +kernel

/-! ## Command lists and the fabric -/

def img16 : Bytes := List.replicate 16 9
def stored : State :=
  let s := withObjs [obj 9 .ingot 0x10000 4096] (keyed up)
  s.setDraw { s.draw with mem := memPlace s.draw.mem [(0x10000, img16), (0x10100, cert img16 1)] }
def build : Packet :=
  { pk 0x0602 (le4 15 ++ le4 1 ++ le4 0 ++ le4 0 ++ le8 0x10000 ++ le4 16 ++ le4 0 ++ le8 0x10100) with cls := 7 }

/-- One command: code, length in units of 16 bytes, arguments and body. -/
def cmd (code len a0 a1 : Nat) (body : Bytes) : Bytes := le2 code ++ le1 len ++ le1 0 ++ le4 a0 ++ le8 a1 ++ padTo (16 * len - 16) body

/-- A list for an engine with its commands, and its descriptor. -/
def listBytes (e n : Nat) (cmds : Bytes) : Bytes := le1 1 ++ le1 e ++ le2 n ++ le4 (16 + cmds.length) ++ le8 0 ++ cmds
def desc (e : Nat) (b : Bytes) (crc : Nat) : Bytes :=
  le1 e ++ le1 0 ++ le1 (if e = 3 ∨ e = 6 then 15 else 0) ++ le1 0 ++ le4 b.length ++ le8 0x20000 ++ le4 0 ++ le4 crc ++ le8 0
def listPk (code e : Nat) (b : Bytes) (crc : Nat) : Packet := { pk (BitVec.ofNat 16 code) (desc e b crc) with flags := 2 }

def listCodes : List (Nat × Nat) := [(0x0504, 2), (0x0610, 3), (0x0710, 1), (0x0810, 4), (0x0930, 5), (0x0B30, 6)]

def wListOps : List Bool :=
  let s0 := bench .built id
  let nops := fun e => listBytes e 1 (cmd 0 1 0 0 [])
  let at_ := fun (e : Nat) (s : State) => s.setHost (memPlace s.host [(0x20000, nops e)])
  let full := fun e => s0.setFab { s0.fab with lists := List.replicate 16 (listOf e 0 false ⟨0, 0, 0, []⟩) }
  let unit := fun (p : Packet) => { p with params := p.params.take 1 ++ [1] ++ p.params.drop 2 }
  let placed := fun (e : Nat) (p : Packet) (s : State) (f : Place → Bool) => descRefusal p e s == none && !(e == 2 && movingRefused p s) &&
    (fld p.params 1 1 != 1 || inIngot (fld p.params 8 8)) && (match resolve s p.tenant (fld p.params 1 1) (fld p.params 8 8) (fld p.params 4 4) false with
      | .inr a => f a
      | .inl _ => false)
  let okList := fun (x : Nat × Nat) (crc : Nat) (good : Bool) =>
    runs (listPk x.1 x.2 (nops x.2) crc) (at_ x.2 s0) fun p s => placed x.2 p s fun a => a.host && !hostBad s a.addr (fld p.params 4 4) &&
      (match readList s p.tenant p.params (readPlace s a (fld p.params 4 4)) with
        | .inl i => !good && i == 0xFFFF
        | .inr c => good && c.length == 1 && s.pos.anchored)
  let stamped := listBytes 1 1 (cmd 0x101 3 0 (2 ^ 32 + 3) (le8 7 ++ le8 0x30000 ++ le4 4 ++ le4 1 ++ le8 0))
  let unanchored := up.setPos { up.pos with anchored := false, scale := 1000 }
  (runs { listPk 0x0504 2 (nops 2) 0 with flags := 0x12 } (s0.setPos { s0.pos with stationary := false }) fun p s => descRefusal p 2 s == none && movingRefused p s) ::
  (runs (listPk 0x0710 1 stamped (crc32c stamped).toNat) ((withStream unanchored).setHost (memPlace up.host [(0x20000, stamped)])) fun p s => placed 1 p s fun a =>
    (match readList s p.tenant p.params (readPlace s a (fld p.params 4 4)) with
      | .inr c => !s.pos.anchored && c.any (cmdStamped 1)
      | .inl _ => false)) :: (listCodes.flatMap fun x =>
    [ runs (listPk x.1 x.2 [] 0) s0 fun p s => (descRefusal p x.2 s).isSome,
      runs (listPk x.1 x.2 (nops x.2) 0) (full x.2) fun p s => descBad x.2 p.params == none && descBench p x.2 s == none &&
        !bit (fld p.params 3 1) 0 && decide (16 ≤ (s.fab.lists.filter fun l => l.tenant == p.tenant && l.engine == x.2).length),
      runs (unit { listPk x.1 x.2 (nops x.2) 0 with params := (desc x.2 (nops x.2) 0).take 8 ++ le8 (2 ^ 36) ++ (desc x.2 (nops x.2) 0).drop 16 }) s0 fun p s =>
        descRefusal p x.2 s == none && fld p.params 1 1 == 1 && !inIngot (fld p.params 8 8),
      runs (unit (listPk x.1 x.2 (nops x.2) 0)) s0 fun p s => descRefusal p x.2 s == none && inIngot (fld p.params 8 8) &&
        resolve s p.tenant (fld p.params 1 1) (fld p.params 8 8) (fld p.params 4 4) false == .inl stBAD_PARAM,
      runs (listPk x.1 x.2 (nops x.2) 0) (faulty 0x20000 16 s0) fun p s => placed x.2 p s (fun a => a.host && hostBad s a.addr (fld p.params 4 4)) && invB s &&
        decide (p.principal ≤ 64),
      runs (unit (listPk x.1 x.2 (nops x.2) 0)) (withObjs [obj 9 .ingot 0x20000 4096] s0) fun p s => placed x.2 p s fun a => !a.host,
      okList x 0 false, okList x (crc32c (nops x.2)).toNat true ])

theorem test_where_list_ops : wListOps.all id = true := by decide +kernel

def wListRun : List Bool :=
  let nop : Cmd := ⟨0, 0, 0, []⟩
  let w : Cmd := ⟨1, 63, 1, []⟩
  let l := listOf 6 63 false nop
  let wt := withList (listOf 1 0 false w) up
  let met := modTen 0 (fun t => { t with events := upd t.events 63 fun _ => 1 }) wt
  let stamp : Cmd := ⟨3, 0, 0x4000, []⟩
  let run := fun c => withList (listOf 1 0 true c) up
  let unit := { listOf 1 0 true ⟨3, 0, 0x10000, []⟩ with inUnit := true }
  let p := { pk 0x0710 [] with committed := true }
  let late := fun (l : CmdList) (s : State) => withP { pk 0x0710 [] with deadline := some 0 } (withList l s)
  let place := fun (s : State) => resolve s 0 (b2n unit.inUnit) 0x10000 8 true
  let inObj := withList unit (withObjs [obj 9 .ingot 0x10000 64] up)
  [ enginesUp up && nextList (withList l up) 6 == some l && (findP l.ref (withP (pk 0x0B30 []) (withList l up))).isSome &&
      overdue (withP (pk 0x0B30 []) (withList l up)) l == none, (overdue (late l up) l).isSome && nextList (late l up) 6 == some l && enginesUp (late l up),
    nextList up 6 == none, !enginesUp State.reset, decide (({ l with cmds := [nop, nop] } : CmdList).index + 1 < 2), l.cmds.length == l.index + 1 && l.cals == [] &&
      (findP l.ref (withP p up)).any (·.committed),
    running (run nop) 1 nop, running (run ⟨2, 63, 0, []⟩) 1 ⟨2, 63, 0, []⟩ && decide (0 < up.kw.tenants.length),
    running (run stamp) 1 stamp && resolve (run stamp) 0 0 stamp.arg1.toNat 8 true == .inr ⟨true, 0x4000⟩ && !hostBad (run stamp) 0x4000 8,
    hostBad (faulty 0x4007 1 (run stamp)) 0x4000 8,
    place inObj == .inr ⟨false, 0x10000⟩ && lostAt none ⟨false, 0x10000⟩ 8 == none && lostAt (some 0x1000000000) ⟨false, 0x10000⟩ 8 == none,
    (let s := withList { unit with cmds := [⟨3, 0, 0x100000000, []⟩] } (withObjs [obj 9 .ingot 0x100000000 64] up)
     resolve s 0 1 0x100000000 8 true == .inr ⟨false, 0x100000000⟩ && (lostAt (some 0x10000003F) ⟨false, 0x100000000⟩ 8).isSome),
    place (withList unit up) == .inl stBAD_PARAM,
    headList wt 1 0 == some (listOf 1 0 false w) && startReached wt (listOf 1 0 false w) && !eventMet wt 0 w,
    headList met 1 0 == some (listOf 1 0 false w) && eventMet met 0 w && overdue met (listOf 1 0 false w) == none,
    (overdue (late (listOf 1 0 false w) met) (listOf 1 0 false w)).isSome && enginesUp met,
    (let m := { listOf 1 0 false w with cmds := [w, nop] }
     headList (withList m met) 1 0 == some m && m.cur == some w && decide (m.index + 1 < m.cmds.length)) ]

theorem test_where_list_run : wListRun.all id = true := by decide +kernel

def wCals : List Bool :=
  let cal := fun (k n : Nat) => (⟨0x100 + k, 31, BitVec.ofNat 64 (9 * 2 ^ 32 + 3), le4 0 ++ le4 n ++ le8 0⟩ : Cmd)
  let s := fun k n => withList (listOf 2 0 true (cal k n)) (withStream (withObjs [obj 9 .ingot 0x10000 4096] (modPlnChan 31 (fun c => { c with width := 4 }) up)))
  let ok := fun k n => running (s k n) 2 (cal k n) && decide ((cal k n).arg0.toNat ≤ 31) && fld (cal k n).body 8 8 == 0 &&
    calCountOk (s k n) 31 k n && streamHeld (s k n) 0 ((cal k n).arg1.toNat % 2 ^ 32) &&
    (objPlace (s k n) 0 ((cal k n).arg1.toNat / 2 ^ 32) 0 (2 * n) false == .inr ⟨false, 0x10000⟩) && poisonAt (s k n) ⟨false, 0x10000⟩ (2 * n) == none
  let last := { listOf 2 0 true (cal 0 4) with cals := [Reprog.cal 31 0 [1, 2, 3, 4]] }
  let once := fun (fl : Half) (still : Bool) => withP { pk 0x0504 [] with flags := fl } ((s 1 4).setPos { up.pos with stationary := still })
  let packet := fun (s : State) (f : Packet → Bool) => running s 2 (cal 1 4) && (findP ⟨0, 5⟩ s).any f
  let poisoned := (s 0 4).setDraw { (s 0 4).draw with chan := upd (s 0 4).draw.chan 0 fun c => { c with poison := [0x10000] } }
  [ ok 0 4, ok 1 4, ok 2 1024, running (s 2 1025) 2 (cal 2 1025) && !calCountOk (s 2 1025) 31 2 1025, !calCountOk (s 0 3) 31 0 3,
    running poisoned 2 (cal 0 4) && (poisonAt poisoned ⟨false, 0x10000⟩ 8).isSome,
    objPlace (withStream (withList (listOf 2 0 true (cal 0 4)) up)) 0 9 0 8 false == .inl stBAD_PARAM,
    packet (once 0x12 false) fun p => movingRefused p (once 0x12 false), packet (once 0x12 true) fun p => p.atOnce && !movingRefused p (once 0x12 true) && invB (once 0x12 true),
    packet (once 2 false) fun p => !p.atOnce,
    last.cmds.length == last.index + 1 && (findP last.ref (withP { pk 0x0504 [] with committed := true } up)).any (·.committed) ]

theorem test_where_cals : wCals.all id = true := by decide +kernel

/-- The running FABRIC list of bench 15 with a command, and objects for what it reads and writes. -/
def fabric (c : Cmd) (s : State) : State :=
  withList (listOf 3 0 true c) (withStream (withObjs [obj 9 .ingot 0x10000 8192, obj 8 .ingot 0x20000 65536] s))

def wSlots : List Bool :=
  let load := fun slot => (⟨0x100, BitVec.ofNat 32 slot, 0x10000, le4 64 ++ le4 3 ++ le8 0⟩ : Cmd)
  let sel : Cmd := ⟨0x101, 1, 0, []⟩
  let loadOk := fun (c : Cmd) (s : State) => running s 3 c && decide (c.arg0.toNat ≤ 1) && fld c.body 8 8 == 0 && streamHeld s 0 (fld c.body 4 4) &&
    (benchOf s 15).state != .free && inIngot c.arg1.toNat && (unitPlace s 0 c.arg1.toNat (fld c.body 0 4) false == .inr ⟨false, 0x10000⟩) &&
    poisonAt s ⟨false, 0x10000⟩ (fld c.body 0 4) == none && invB s
  let armed := bench .armed id
  let change := fun (s : State) => (benchOf (fabric sel s) 15).change
  [ loadOk (load 0) (fabric (load 0) armed) && (benchOf armed 15).state == .armed && decide ((load 0).arg0.toNat = (benchOf armed 15).slot),
    loadOk (load 1) (fabric (load 1) armed) && decide ((load 1).arg0.toNat ≠ (benchOf armed 15).slot), running (fabric (load 2) armed) 3 (load 2) && decide (1 < (load 2).arg0.toNat),
    running (fabric sel armed) 3 sel && decide (sel.arg0.toNat ≤ 1) && sel.arg1 == 0 && change armed == none && (benchOf armed 15).state == .armed,
    change (bench .built id) == none && (benchOf (bench .built id) 15).state == .built, change (bench .loading id) == none,
    (change (bench .armed fun x => { x with change := some (.select 1 0 0 0 0, 0) })).isSome, (benchOf up 15).state == .free ]

theorem test_where_slots : wSlots.all id = true := by decide +kernel

/-- LOAD_PARAMS asks for the slot size that the image names, which the spec leaves to the image (log entry 12). -/
theorem test_where_slot_size (h : Config.slotSize [7] = 64) : fld (le4 64 ++ le4 3 ++ le8 0) 0 4 = Config.slotSize [7] ∧
    (benchOf (bench .armed id) 15).image = [7] := ⟨by rw [h]; decide +kernel, by decide +kernel⟩

/-- RUN_TILES of one tile from 0x10000, records to 0x20000, on a BUILT bench whose certificate has the cycles that the image's
microcode takes, whatever it is (log entry 27). -/
def aTileBytes : Bytes := padTo (tileBytes 1 64 16) (le1 0 ++ le1 1 ++ le2 0 ++ le2 0 ++ le2 64 ++ le8 0 ++ le2 16)
def runCmd : Cmd := ⟨0x102, 1, 0x10000, le8 0x20000 ++ le4 3 ++ le4 0⟩
def runCert : Cert := { certOf (cert [7] 1) with cTile := Config.tileCycles [7] (tileInput aTileBytes []) }
def runState : State :=
  let s := fabric runCmd (bench .built fun x => { x with cert := some runCert })
  s.setDraw { s.draw with mem := memPlace s.draw.mem [(0x10000, aTileBytes)] }

theorem test_where_run_tiles :
    (running runState 3 runCmd && decide (1 ≤ runCmd.arg0.toNat) && decide (runCmd.arg0.toNat ≤ 4096) && fld runCmd.body 12 4 == 0 &&
      inIngot runCmd.arg1.toNat && streamHeld runState 0 (fld runCmd.body 8 4) && (benchOf runState 15).state == .built && invB runState &&
      (unitPlace runState 0 0x10000 (tileBytes runCert.inFormat runCert.tileW runCert.tileH) false == .inr ⟨false, 0x10000⟩) &&
      poisonAt runState ⟨false, 0x10000⟩ (tileBytes runCert.inFormat runCert.tileW runCert.tileH) == none && runState.fab.chipLoss == none &&
      tileFits runCert (tileOfBytes aTileBytes) && idleStakes runState (benchOf runState 15) != []) = true ∧
    (benchOf runState 15).cert = some runCert ∧ (benchOf runState 15).image = [7] ∧
    unitRead runState 0x10000 (tileBytes runCert.inFormat runCert.tileW runCert.tileH) = aTileBytes ∧
    Config.tileCycles [7] (tileInput aTileBytes []) ≤ runCert.cTile ∧
    (∀ t h f m, unitPlace runState 0 0x20000 (recordBytes t 15 h f m).length true = .inr ⟨false, 0x20000⟩) ∧
    (∀ f g t m p, unitPlace runState 0 0x20000 (runRecord 15 f g t m p).length true = .inr ⟨false, 0x20000⟩) := by
  have place (n : Nat) (h : n ≤ 65536) : unitPlace runState 0 0x20000 n true = .inr ⟨false, 0x20000⟩ := by
    have a : pinnedAt runState 0x20000 = some (obj 8 .ingot 0x20000 65536) := by decide +kernel
    have b : (!mayRead 0 (obj 8 .ingot 0x20000 65536)) = false ∧ (true && !mayWrite 0 (obj 8 .ingot 0x20000 65536)) = false := by decide +kernel
    unfold unitPlace
    rw [a]
    simp only [b]
    rw [if_neg (by decide), if_neg (by decide), if_neg (by decide)]
    show (if 131072 + 65536 < 131072 + n then Sum.inl stBAD_PARAM else Sum.inr (⟨false, 0x20000⟩ : Place)) = _
    rw [if_neg (by omega)]
  refine ⟨by decide +kernel, rfl, by decide +kernel, by decide +kernel, Nat.le_refl _, fun t h f m => place _ ?_, fun f g t m p => place _ ?_⟩
  · exact (recordBytes_length_le ..).trans (by decide)
  · exact (runRecord_length_le ..).trans (by decide)

theorem test_build_reads :
    ingotBytes build (fld build.params 0x10 8) (fld build.params 0x18 4) 0x30 false stored = .inr img16 ∧
      ingotBytes build (fld build.params 0x20 8) 256 0x40 false stored = .inr (cert img16 1) := by decide +kernel

/-- BENCH_BUILD reads its image and certificate when the image's operand pairs are legal; the spec gives no microcode, so
whether they are is as free as the microcode (log entry 27). -/
theorem test_where_build_image (h : badPairs img16 = false) : readImage build 0x30 0x38 0x40 false stored = .inr (img16, cert img16 1) := by
  have a := test_build_reads.1
  have b := test_build_reads.2
  unfold readImage
  rw [show (0x30 : Nat) - 0x20 = 0x10 from rfl, show (0x38 : Nat) - 0x20 = 0x18 from rfl, show (0x40 : Nat) - 0x20 = 0x20 from rfl, a, b]
  simp [h]

def wBenches : List Bool :=
  let p := build
  let at_ := fun (b : Nat) (q : Packet) => { q with params := le4 b ++ q.params.drop 4 }
  let s1 := modBench 15 (builtBench p img16 (cert img16 1)) stored
  let more := { p with params := p.params.take 12 ++ le4 (2 ^ 31) ++ p.params.drop 16 }
  let form := fun (p : Packet) (s : State) => (match buildForm p s with
    | .inr im => im == none
    | .inl _ => false)
  let fits := fun (p : Packet) (s : State) => form p s && certCheck s (cert img16 1) img16 (BitVec.ofNat 32 (fld p.params 4 4)) none == none
  let ld := withP (pk 0x0602 []) (bench .loading fun x => { x with loadRef := some ⟨0, 5⟩ })
  let un := (bench .unadmitted fun x => { x with handle := 0, image := img16, cert := some (certOf (cert img16 1)) }).setLed Ledger.reset
  let re := { pk 0x0606 (le4 15) with cls := 7 }
  let x := benchOf un 15
  let demand := fun (s : State) => shorts s (vEff s.led.vadm) 7 (withTable (benchRequest 15 7 x.tenant 0 x s).demands)
  let rebuild := pk 0x0603 (le4 15 ++ le4 0 ++ le8 0x10000 ++ le4 16 ++ le4 0 ++ le8 0x10100)
  let lossy := up.setFab { up.fab with chipLoss := some (7, 0, false) }
  let tight := fun s => (full s).setLed { (full s).led with held := [{ adm 9 .stream 7 0 with demands := [⟨11, 0, 2 ^ 20⟩] }] }
  [ runs (at_ 16 p) stored fun p s => (match buildForm p s with
      | .inl e => e == (stBAD_PARAM, 0x20)
      | .inr _ => false),
    runs p stored fun p s => invB s && fits p s && decide (fld p.params 12 4 ≤ poolFree s) && p.cls == 7, (certCheck stored (cert [9] 1) img16 1 none).isSome,
    runs more stored fun p s => fits p s && decide (poolFree s < fld p.params 12 4) && (s.draw.objs.all fun o => !movable s o) && supplyShorts s p.cls == [],
    shorts s1 (vEff s1.led.vadm) 7 (withTable (benchRequest 15 7 0 0 (benchOf s1 15) s1).demands) == [],
    (let s := tight s1; shorts s (vEff s.led.vadm) 7 (withTable (benchRequest 15 7 0 0 (benchOf s 15) s).demands) != []),
    invB ld && (benchOf ld 15).state == .loading && ld.fab.chipLoss == none && (benchOf ld 15).releaseRefs == [] && !(benchOf ld 15).releasing &&
      (findP ⟨0, 5⟩ ld).isSome,
    decide ((benchOf up 15).state ≠ .loading) && up.fab.chipLoss == none, lossy.fab.chipLoss.isSome,
    runs (pk 0x0604 (le4 15)) up fun p s => (benchTarget p s).isSome,
    runs (pk 0x0604 (le4 15)) (bench .built id) fun p s => benchTarget p s == none && !midChange (benchOf s 15),
    runs (pk 0x0604 (le4 15)) (bench .resetting id) fun p s => benchTarget p s == none && midChange (benchOf s 15) && invB s,
    runs rebuild (bench .loading id) fun p s => (rebuildRefusal p s).isSome,
    runs rebuild (bench .built id) fun p s => rebuildRefusal p s == none && (findAdm s (benchOf s 15).handle).isSome && (benchRecipe s (benchOf s 15)) == none &&
      (benchOf s 15).state == .built && invB s,
    (match findAdm (bench .built id) 4 with
      | some a => (exchange a [] (bench .built id)).payload == none && (exchange a [⟨5, 7, 2 ^ 62⟩] (bench .built id)).payload.isSome
      | none => false),
    runs rebuild (bench .armed id) fun p s => rebuildRefusal p s == none && (benchOf s 15).state == .armed,
    runs re (bench .built id) fun p s => (readmitRefusal p s).isSome, (certCheck un ((x.cert.map (·.raw)).getD []) [9] x.groups none).isSome,
    runs re un fun p s => invB s && readmitRefusal p s == none && p.cls == 7 &&
      certCheck s ((x.cert.map (·.raw)).getD []) x.image x.groups (benchRecipe s x) == none,
    demand un == [], demand (tight un) != [] ]

theorem test_where_benches : wBenches.all id = true := by decide +kernel

def wTiles : List Bool :=
  let q := bench .armed fun x => { x with queue := [aTile] }
  let r := fun (fence : Word) (f : Running → Running) => bench .armed fun x => { x with running := [f (aRun fence)] }
  let next := fun (s : State) => nextTile (s.at_ 9) (benchOf s 15) (benchOf s 15).queue
  let found := fun (s : State) (x : Running) => findRun (benchOf s 15) 7 x.fence == some x
  let on := fun (s : State) => invB s && (benchOf s 15).state != .free && s.fab.chipLoss == none &&
    ((benchOf s 15).running.find? fun r => r.stake == 7 && r.state != .gone).isSome
  let idle := fun (s : State) => idleStakes (s.at_ 9) (benchOf s 15)
  let gone := fun x : Running => { x with state := .gone }
  let long := fun x : Running => { x with spent := 8 * 1001 }
  [ invB q && (benchOf q 15).state == .armed && (next q == some (aTile, [])) && (idle q).head? == some 0, decide ((benchOf up 15).state ≠ .armed),
    next (bench .armed id) == none, idle (q.setFab { q.fab with retiredStakes := List.range 8 }) == [], findRun (benchOf up 15) 7 1 == none,
    invB (r 2 id) && found (r 2 id) (aRun 2) && !runCurrent (r 2 id) 15 (aRun 2) && decide (cyclesOf ((r 2 id).at_ 0) (aRun 2) ≤ cTileOf (benchOf (r 2 id) 15)),
    found (r 1 gone) (gone (aRun 1)) && !runCurrent (r 1 gone) 15 (gone (aRun 1)),
    found (r 1 id) (aRun 1) && runCurrent (r 1 id) 15 (aRun 1) && decide (cyclesOf ((r 1 id).at_ 320) (aRun 1) ≤ cTileOf (benchOf (r 1 id) 15)) &&
      decide ((r 1 id).hm.ingest.length < 8192),
    on (r 1 long) && found (r 1 long) (long (aRun 1)) && decide (cTileOf (benchOf (r 1 long) 15) < cyclesOf (r 1 long) (long (aRun 1))),
    ((benchOf up 15).running.find? fun r => r.stake == 7 && r.state != .gone) == none ]

theorem test_where_tiles : wTiles.all id = true := by decide +kernel

def wFabric : List Bool :=
  let b := bench .armed id
  let rs := bench .resetting fun x => { x with resetting := some (7, 2, 0, false) }
  let lossy := rs.setFab { rs.fab with chipLoss := some (7, 0, false) }
  [ inBench b 15 7 && (benchOf b 15).state != .free, !inBench b 15 8, (benchOf rs 15).resetting.isSome && (benchOf b 15).resetting == none,
    !domOn State.reset 2, b.fab.chipLoss == none,
    invB b && (benchOf b 15).state != .free && inBench b 15 7 && decide (2 ≤ 6) && b.fab.chipLoss == none && (findAdm b (benchOf b 15).handle).isSome,
    invB rs && (benchOf rs 15).resetting == some (7, 2, 0, false) && rs.flt.deferred == [] && (benchOf rs 15).releaseRefs == [] &&
      !(benchOf rs 15).releasing,
    domOn b 2, decide (2 < 3), decide (3 ≤ 3),
    invB lossy && lossy.fab.chipLoss == some (7, 0, false) && lossy.flt.deferred == [] && lossy.fab.cutOff == [] &&
      lossy.fab.bench.all fun x => x.releaseRefs == [] && !x.releasing ]

theorem test_where_fabric : wFabric.all id = true := by decide +kernel

def wFabricOps : List Bool :=
  let ret := fun (s : State) => s.setFab { s.fab with retiredStakes := [255] }
  let last := fun st => ret (modBench 15 (fun x => { x with state := st, groups := 0x80000000, temper := true }) up)
  let c := certOf (cert [7] 1)
  let ch := fun (w : BenchChange) (bd : Long) => bench .armed fun x => { x with change := some (w, bd) }
  let reset := fun (st : BenchState) (f : State → Bool) => runs (pk 0x0605 (le4 15)) (bench st id) fun p s => invB s && benchTarget p s == none &&
    (benchOf s 15).state == st && f s
  [ runs (pk 0x0601 []) up fun _ _ => true, runs (pk 0x0605 (le4 16)) up fun p s => (benchTarget p s).isSome,
    reset .built fun _ => true, reset .armed fun _ => true, reset .resetting fun _ => true, reset .loading fun _ => true,
    runs (pk 0x0620 (le4 255)) up fun p s => !s.fab.retiredStakes.contains (fld p.params 0 1),
    runs (pk 0x0620 (le4 255)) (last .armed) fun p s => s.fab.retiredStakes.contains (fld p.params 0 1) && benchHolding s 255 == some 15 &&
      (benchOf s 15).state != .built,
    runs (pk 0x0620 (le4 255)) (last .built) fun _ s => benchHolding s 255 == some 15 && (benchOf s 15).state == .built,
    runs (pk 0x0620 (le4 255)) (ret up) fun p s => s.fab.retiredStakes.contains (fld p.params 0 1) && benchHolding s 255 == none,
    (let s := ch (.select 1 0 0 0 0) 0
     invB s && (benchOf s 15).change == some (.select 1 0 0 0 0, 0) && (benchOf s 15).state == .armed && changeDue s 15 0),
    (let s := ch (.rebuild [7] c 0) 0
     invB s && (benchOf s 15).change == some (.rebuild [7] c 0, 0) && (benchOf s 15).state == .armed && changeDue s 15 0),
    !changeDue (ch (.select 1 0 0 0 0) 1) 15 1, (benchOf up 15).change == none,
    (let s := bench .loading fun x => { x with change := some (.select 1 0 0 0 0, 0) }; (benchOf s 15).change.isSome && (benchOf s 15).state == .loading) ]

theorem test_where_fabric_ops : wFabricOps.all id = true := by decide +kernel

/-! ## Memory and ASSAY -/

/-- The body of a DRAW command. -/
def drawBody (src dst len rows sp dp : Nat) : Bytes := le8 src ++ le8 dst ++ le4 len ++ le4 rows ++ le4 sp ++ le4 dp
def drawCmd (code arg : Nat) (b : Bytes) : Cmd := ⟨code, BitVec.ofNat 32 arg, 3, b⟩
def drawing (c : Cmd) : State :=
  withList (listOf 1 0 true c) (withStream (withObjs [obj 9 .ingot 0x10000 0x200000, obj 8 .ingot 0x400000 0x200000] up))

def wDraw : List Bool :=
  let two := drawCmd 0x100 5 (drawBody 0x10000 0x400000 64 65536 0 0)
  let rows := drawCmd 0x100 5 (drawBody 0x10000 0x400000 64 2 128 64)
  let near := drawCmd 0x100 5 (drawBody 0x10000 0x10020 64 1 0 0)
  let check := drawCmd 0x102 5 (drawBody 0x10000 0x400000 1 1 0 0)
  let fill := drawCmd 0x101 4 (drawBody 0xFFFFFFFF 0x400000 5 2 0 8)
  let hole := drawCmd 0x100 5 (drawBody 0x9000 0x400000 64 1 0 0)
  let poisoned := drawing rows |> fun s => s.setDraw { s.draw with chan := upd s.draw.chan 0 fun c => { c with poison := [0x10000] } }
  let a : Place := ⟨false, 0x10000⟩
  let b : Place := ⟨false, 0x400000⟩
  let src := fun c => running (drawing c) 1 c && drawOk (drawing c) (listOf 1 0 true c) c &&
    (resolve (drawing c) 0 (drawOf c).srcSpace (drawOf c).src (rowSpan (drawOf c).rows (drawOf c).srcPitch (drawOf c).len) false == .inr a)
  let dst := fun c => (resolve (drawing c) 0 (drawOf c).dstSpace (drawOf c).dst (rowSpan (drawOf c).rows (drawOf c).dstPitch (drawOf c).len) true == .inr b)
  [ src rows && dst rows && !a.host && !b.host && (rowsPoison (drawing rows) a 2 128 64).isNone && !placesMeet a b (drawOf rows),
    (rowsPoison poisoned a 2 128 64 == some 0x10000) && drawOk poisoned (listOf 1 0 true rows) rows, drawOk (drawing two) (listOf 1 0 true two) two,
    src near && placesMeet a ⟨false, 0x10020⟩ (drawOf near) &&
      (resolve (drawing near) 0 1 0x10020 64 true == .inr ⟨false, 0x10020⟩) && (rowsPoison (drawing near) a 1 0 64).isNone,
    src check && (resolve (drawing check) 0 1 0x400000 4 true == .inr b) && (rowsPoison (drawing check) a 1 0 1).isNone,
    running (drawing fill) 1 fill && drawOk (drawing fill) (listOf 1 0 true fill) fill && (drawOf fill).srcSpace == 0 &&
      decide ((drawOf fill).src < 2 ^ 32) && (drawOf fill).srcPitch == 0 && dst fill,
    (let c := drawCmd 0x100 5 (drawBody 0x10000 0x400000 0 1 0 0)
     running (drawing c) 1 c && !drawOk (drawing c) (listOf 1 0 true c) c),
    (let c := drawCmd 0x101 5 (drawBody 0x10000 0x400000 64 65537 0 0)
     running (drawing c) 1 c && !drawOk (drawing c) (listOf 1 0 true c) c),
    drawOk (drawing hole) (listOf 1 0 true hole) hole && (resolve (drawing hole) 0 1 0x9000 64 false == .inl stBAD_PARAM),
    (let c := drawCmd 0x101 4 (drawBody (2 ^ 32) 0x400000 5 2 0 8)
     running (drawing c) 1 c && drawOk (drawing c) (listOf 1 0 true c) c && decide (2 ^ 32 ≤ (drawOf c).src)),
    !rowsFail (drawing rows) true a 2 128 64, rowsFail (drawing rows) false ⟨true, 0x4000⟩ 2 128 64 && rowsFail (faulty 0x40BF 1 (drawing rows)) true ⟨true, 0x4000⟩ 2 128 64,
    rowsLost none b 2 64 64 == none, rowsLost (some 0x40007F) b 2 64 64 == some 0x400040, rowsLost (some 0x400080) b 2 64 64 == none,
    ([0, 64] : List Nat).all fun o => decide (0x400080 < 0x400000 + o) || decide (0x400000 + o + 64 ≤ 0x400080),
    decide ((List.replicate 128 (0 : Byte)).length = 2 * 64) && decide (64 ≤ 64) ]

theorem test_where_draw : wDraw.all id = true := by decide +kernel

def memReq (id cls : Nat) (dl : Option Long) (stream : Option Nat) (is : MemIssuer) : MemReq :=
  { id := id, ingot := true, bank := 3, cls := cls, deadline := dl, arrival := 0, stream := stream, addr := 0xC00000000, write := false, issuer := is
    aged := false }

def wArbiter : List Bool :=
  let l := [memReq 1 7 none none .control, memReq 2 6 (some 5) (some 3) .temper]
  let s := (withStream up).setDraw { (withStream up).draw with waiting := l }
  let rich := s.setDraw { s.draw with tokI := List.replicate 8 64, streams := (s.draw.streams.map fun x => { x with tokI := 1 }) }
  let arr : List MemArrival := [{ id := 3, addr := 0xFFFFFFFFF, write := false, issuer := .control }]
  let after := fun (s : State) => (s.at_ 9).setDraw { s.draw with waiting := s.draw.waiting ++ arr.filterMap (arrive (s.at_ 9)) }
  let mine := fun (s : State) => (after s).draw.waiting.filter fun x => x.ingot == true && x.bank == 3
  let grants := fun (s : State) (slack : Bool) => domOn s 2 && bankServes s true 3 && (choose (openCycle true 3 (after s)) (mine s)).any (fun x => x.2 == slack)
  let dead := s.setDraw { s.draw with chan := upd s.draw.chan 3 fun c => { c with retired := true } }
  [ grants s true, grants rich false, (choose (openCycle true 3 (after rich)) (mine rich)) == some (memReq 2 6 (some 5) (some 3) .temper, false),
    (choose s []) == none, !bankServes dead true 3 && domOn dead 2, (mine up).length == 1 && !domOn State.reset 2,
    (s.draw.waiting.find? (fun r => r.id == 1 && r.deadline.isNone)).isSome, (s.draw.waiting.find? (fun r => r.id == 2 && r.deadline.isNone)) == none,
    decide (rich.draw.cycleServed.1 = rich.now) && !rich.draw.cycleServed.2.contains (true, 3), decide ((rich.at_ 9).draw.cycleServed.1 ≠ (rich.at_ 9).now),
    (let p := rich.setDraw { rich.draw with chan := upd rich.draw.chan 3 fun c => { c with poison := [0xC00000000] } }
     poisonIn p 0xC00000000 64 == some 0xC00000000) ]

theorem test_where_arbiter : wArbiter.all id = true := by decide +kernel

def wErrors : List Bool :=
  let top : Long := 0xFFFFFFFFF
  let dead := up.setDraw { up.draw with chan := upd up.draw.chan 3 fun c => { c with retired := true } }
  let full := up.setDraw { up.draw with chan := upd up.draw.chan 3 fun c => { c with poison := (List.range 64).map fun i => 0xC00000000 + 64 * i } }
  [ ingotLive (up.at_ 9) top && decide (3 ≠ 4) && rereadAllowed (up.at_ 9) 0, 
    !rereadAllowed (withList (listOf 1 0 true ⟨0x100, 5, 3, []⟩) (withP { pk 0x0710 [] with deadline := some 0 }
      ((up.setPos { up.pos with scale := 1000 }).setLed { up.led with vadm := 1000000000 }))) 4, invB full && (full.draw.chan[chanOfAddr top]?).any fun c => decide (64 ≤ c.poison.length) &&
      !c.poison.contains (top.toNat / 64 * 64),
    !ingotLive (dead.at_ 9) top, !ingotLive (up.at_ 9) 0x1000000000,
    (up.draw.chan[chanOfAddr top]?).any fun c => decide (c.poison.length < 64) ]

theorem test_where_errors : wErrors.all id = true := by decide +kernel

def alloc (size flags bench align : Nat) : Packet := pk 0x0702 (le8 size ++ le2 flags ++ le1 bench ++ le1 align)

def wMemory : List Bool :=
  let o := obj 9 .ingot 0 4096
  let os := withObjs [o] up
  let tapd := os.setKw { os.kw with tenants := upd os.kw.tenants 0 fun t => { t with hostARing := 9 } }
  let full := withObjs ((List.range 4).map fun i => { obj (i + 10) .ingot (i * 2 ^ 34) (2 ^ 34) with channel := i }) up
  let placed := fun (p : Packet) (s : State) => match placeObj s (allocOf p.params) 0 with
    | .inl _ => false
    | .inr _ => true
  let open_ := le8 1000 ++ le8 1000
  let shortFree := fun (p : Packet) (s : State) =>
    shorts s (vEff s.led.vadm) p.cls (withTable [⟨4, p.cls, fld p.params 0 8⟩, ⟨5, p.cls, fld p.params 8 8⟩]) == []
  let st := held [adm 3 .stream 3 0] (withStream up)
  let named := withList (listOf 1 0 false (drawCmd 0x100 5 (drawBody 0 0 64 1 0 0))) st
  let ret := up.setDraw { up.draw with chan := upd up.draw.chan 3 fun c => { c with retired := true } }
  let used := withObjs [o] (modBench 15 (fun x => { x with state := .loading, source := [(0, 64)] }) up)
  let badClass := pk 0x0720 (le8 (2 ^ 62) ++ le8 1000)
  let target := fun (p : Packet) (s : State) (named : Bool) => (match admTarget p (fld p.params 0 4) 0x20 [.stream] s with
    | .inr a => s.fab.lists.any (listNames a.handle) == named
    | .inl _ => false)
  let retd := fun (s : State) (r : Bool) => (s.draw.chan[3]?).any (fun c => c.retired == r)
  [ runs (pk 0x0701 []) up fun _ s => invB s, runs (alloc 63 3 255 6) up fun p _ => decide (fld p.params 0 8 < 64),
    runs (alloc (2 ^ 32 + 1) 3 255 6) up fun p _ => decide (2 ^ 32 < fld p.params 0 8),
    runs (alloc 64 3 255 5) up fun p _ => decide (64 ≤ fld p.params 0 8) && decide (fld p.params 11 1 < 6),
    runs (alloc (2 ^ 32) 3 255 22) up fun p _ => decide (fld p.params 0 8 ≤ 2 ^ 32) && decide (21 < fld p.params 11 1),
    runs (alloc 64 3 16 6) up fun p s => (allocRefusal p (allocOf p.params) s).isSome,
    runs (alloc 65 3 255 6) full fun p s => allocRefusal p (allocOf p.params) s == none && !placed p s,
    runs (alloc 65 3 255 21) up fun p s => allocRefusal p (allocOf p.params) s == none && placed p s,
    runs (pk 0x0703 (le4 9)) up fun p s => objOf s (fld p.params 0 4) == none,
    runs { pk 0x0703 (le4 9) with principal := 63 } os fun p s => (objOf s (fld p.params 0 4)).any fun o => !mayUse p o.tenant,
    runs (pk 0x0703 (le4 9)) tapd fun p s => objOf s (fld p.params 0 4) == some o && mayUse p o.tenant && referred s o,
    runs (pk 0x0703 (le4 9)) used fun p s => objOf s (fld p.params 0 4) == some o && mayUse p o.tenant && referred s o,
    runs (pk 0x0703 (le4 9)) os fun p s => objOf s (fld p.params 0 4) == some o && mayUse p o.tenant && !referred s o,
    runs { pk 0x0720 open_ with cls := 7 } up fun p s => p.cls == 7 && shortFree p s, runs (pk 0x0720 open_) up fun p s => shortFree p s,
    runs badClass up fun p s => !shortFree p s, runs (pk 0x0721 (le4 4)) st fun p s => (match admTarget p (fld p.params 0 4) 0x20 [.stream] s with
      | .inl e => e == (stBAD_PARAM, 0x20)
      | .inr _ => false),
    runs (pk 0x0721 (le4 3)) named fun p s => target p s true, runs (pk 0x0721 (le4 3)) st fun p s => target p s false,
    runs (pk 0x0730 (le8 16 ++ le8 7)) up fun p _ => decide (15 < fld p.params 0 1),
    runs (pk 0x0730 (le8 15 ++ le8 7)) up fun p s => fld p.params 0 1 == 15 && s.led.held == [], runs (pk 0x0730 (le8 15 ++ le8 7)) st fun _ s => s.led.held != [],
    runs (pk 0x0731 (le1 4 ++ le1 1 ++ le2 0)) up fun p _ => decide (3 < fld p.params 0 1),
    runs (pk 0x0731 (le1 3 ++ le1 2 ++ le2 0)) up fun p _ => decide (1 < fld p.params 1 1),
    runs (pk 0x0731 (le1 3 ++ le1 1 ++ le2 0)) up fun p s => fld p.params 0 1 == 3 && fld p.params 1 1 == 1 && s.led.held == [],
    runs (pk 0x0731 (le1 3 ++ le1 1 ++ le2 0)) st fun _ s => s.led.held != [], runs (pk 0x0740 (le4 4)) up fun p _ => decide (3 < fld p.params 0 1),
    runs (pk 0x0740 (le4 3)) up fun _ s => retd s false, runs (pk 0x0740 (le4 3)) (held [adm 3 .stream 3 0] ret) fun _ s => retd s true && s.led.held != [],
    runs (pk 0x0740 (le4 3)) ret fun _ s => retd s true && s.led.held == [] ]

theorem test_where_memory : wMemory.all id = true := by decide +kernel

/-- The body of an ASSAY command: addresses, N, N_A, K, mode, metric, IOU, Q and the library range. -/
def asyBody (src dst aux n nA k mode metric iou q first count : Nat) : Bytes :=
  le8 src ++ le8 dst ++ le8 aux ++ le2 n ++ le2 nA ++ le2 k ++ le1 mode ++ le1 metric ++ le2 iou ++ le1 q ++ le1 0 ++ le4 first ++ le4 count ++ le4 0
def asyState (c : Cmd) : State :=
  let s := withList (listOf 4 0 true c) (withStream (withObjs [obj 9 .ingot 0x10000 65536, obj 8 .ingot 0x20000 65536] up))
  let t := s.setAsy { s.asy with ranges := [{ first := 10, count := 20, tenant := 0, damaged := false }] }
  t.setDraw { t.draw with mem := memPlace t.draw.mem [(0x10000, le4 2 ++ le4 0 ++ le4 1 ++ le4 0)] }

def wAssay : List Bool :=
  let c := fun (code arg : Nat) (b : Bytes) => (⟨code, BitVec.ofNat 32 arg, 3, b⟩ : Cmd)
  let sort := c 0x100 5 (asyBody 0x10000 0x20000 0 2 0 0 0 0 0 0 0 0)
  let merge := c 0x101 5 (asyBody 0x10000 0x20000 0 2 1 0 0 0 0 0 0 0)
  let unordered := c 0x101 5 (asyBody 0x10000 0x20000 0 2 0 0 0 0 0 0 0 0)
  let topk := c 0x102 5 (asyBody 0x10000 0x20000 0 2 0 256 0 0 0 0 0 0)
  let nms := c 0x103 21 (asyBody 0x10000 0x20000 0x11000 2 0 1 1 0 100 0 0 0)
  let nn := c 0x104 20 (asyBody 0 0x20000 0x11000 0 0 1 0 0 0 1 10 20)
  let load := fun first n => c 0x110 1 (le8 0x10000 ++ le4 first ++ le4 n)
  let pinned := withRecipe (recipe 9 .held { image with rflags := 2, partOp := { noOp with libFirst := 29, libCount := 1 } }) (asyState (load 10 20))
  let ok := fun (x : Cmd) (ord : Bool) =>
    let s := asyState x
    let o := opOf x.cmd x.body
    running s 4 x && bodyOk s 0 x && streamHeld s 0 (x.arg1.toNat % 2 ^ 32) &&
      (resolve s 0 (bits x.arg0.toNat 1 0) (fld x.body 0 8) (8 * o.n) false == .inr ⟨false, 0x10000⟩) && poisonAt s ⟨false, 0x10000⟩ (8 * o.n) == none &&
      mergeOrdered o (entriesOf o.n (readPlace s ⟨false, 0x10000⟩ (8 * o.n))) == ord
  let def_ := fun n first => pk 0x0802 (le4 first ++ le4 n ++ le1 63 ++ le1 1 ++ le2 0)
  let defOk := fun (p : Packet) (s : State) => decide (fld p.params 0 4 ≤ 65535) && decide (1 ≤ fld p.params 4 4) &&
    decide (fld p.params 0 4 + fld p.params 4 4 ≤ 65536) && decide (fld p.params 8 1 ≤ s.kw.numVfs) && fld p.params 9 1 == 1
  let rt : RtOp := { part := none, recipe := 9, fence := 1, outcome := none }
  let queue := fun (x : RtOp) (im : RecipeImage) => withRecipe (recipe 9 .active im) (up.setAsy { up.asy with rt := [x] })
  let late := queue { rt with fence := 2 } image
  let part := (queue { rt with part := some 0 } image).setHm { up.hm with parts := [aPart fun p => { p with partOp := 1 }] }
  let poisoned := fun (c : Cmd) => (asyState c).setDraw { (asyState c).draw with chan := upd (asyState c).draw.chan 0 fun x => { x with poison := [0x10000] } }
  let hostNn := c 0x104 0 (asyBody 0 0x20000 0x11000 0 0 1 0 0 0 1 10 20)
  let back := fun n first => pk 0x0802 (le4 first ++ le4 n ++ le4 0)
  let find := fun (p : Packet) (s : State) => s.asy.ranges.find? fun x => x.first == fld p.params 0 4 && x.count == fld p.params 4 4 && x.tenant == fld p.params 8 1
  [ ok sort true && !(opOf sort.cmd sort.body).stable, ok merge true, ok topk true, ok nms true,
    (let s := asyState nms
     (resolve s 0 (bits nms.arg0.toNat 5 4) (fld nms.body 0x10 8) 32 false == .inr ⟨false, 0x11000⟩) && poisonAt s ⟨false, 0x11000⟩ 32 == none &&
      !boxReserved 2 (readPlace s ⟨false, 0x11000⟩ 32)),
    ok unordered false, running (poisoned sort) 4 sort && (poisonAt (poisoned sort) ⟨false, 0x10000⟩ 16).isSome,
    (let z := c 0x100 5 (asyBody 0x10000 0x20000 0 5000 0 0 0 0 0 0 0 0); running (asyState z) 4 z && !bodyOk (asyState z) 0 z),
    (resolve (asyState sort) 0 1 0x20000 32 true == .inr ⟨false, 0x20000⟩) && lostAt none ⟨false, 0x20000⟩ 32 == none && !hostFails (asyState sort) true ⟨false, 0x20000⟩ 32,
    lostAt (some 0x2003F) ⟨false, 0x20000⟩ 32 == some 0x20000, hostFails (faulty 0x10000 1 up) true ⟨true, 0x10000⟩ 16,
    (let s := asyState nn
     running s 4 nn && bodyOk s 0 nn && streamHeld s 0 3 && (resolve s 0 (bits nn.arg0.toNat 5 4) (fld nn.body 0x10 8) 128 false == .inr ⟨false, 0x11000⟩) &&
      poisonAt s ⟨false, 0x11000⟩ 128 == none && !damagedIn s (opOf nn.cmd nn.body)),
    (let s := asyState hostNn
     running s 4 hostNn && bodyOk s 0 hostNn && (resolve s 0 0 0x11000 128 false == .inr ⟨true, 0x11000⟩) && !hostFails s true ⟨true, 0x11000⟩ 128),
    (let s := asyState nn
     damagedIn (s.setAsy { s.asy with ranges := s.asy.ranges.map fun x => { x with damaged := true } }) (opOf nn.cmd nn.body)),
    (let s := asyState (load 10 20)
     running s 4 (load 10 20) && streamHeld s 0 3 && inRanges s 0 10 20 && !rangePinned s 10 20 && (resolve s 0 1 0x10000 2600 false == .inr ⟨false, 0x10000⟩)),
    running (asyState (load 10 21)) 4 (load 10 21) && !inRanges (asyState (load 10 21)) 0 10 21, rangePinned pinned 10 20,
    running (asyState (load 10 0)) 4 (load 10 0) && fld (load 10 0).body 12 4 == 0,
    runs (pk 0x0801 []) up fun _ _ => true, runs (def_ 1 65536) up fun p _ => decide (65535 < fld p.params 0 4),
    runs (def_ 2 65535) up fun p _ => decide (65536 < fld p.params 0 4 + fld p.params 4 4), runs (def_ 0 65535) up fun p _ => decide (fld p.params 4 4 < 1),
    runs (def_ 1 0) (up.setKw { up.kw with numVfs := 62 }) fun p s => decide (s.kw.numVfs < fld p.params 8 1),
    runs (pk 0x0802 (le4 0 ++ le4 1 ++ le1 63 ++ le1 2 ++ le2 0)) up fun p _ => decide (1 < fld p.params 9 1),
    runs (def_ 6 5) (asyState sort) fun p s => defOk p s && s.asy.ranges.any fun x => decide (x.first < 11) && decide (5 < x.first + x.count),
    runs (def_ 5 5) (asyState sort) fun p s => defOk p s && s.asy.ranges.all fun x => decide (10 ≤ x.first) || decide (x.first + x.count ≤ 5),
    runs (def_ 1 65535) up fun p s => defOk p s && decide (s.asy.ranges.length < 32),
    runs (def_ 1 65535) (up.setAsy { up.asy with ranges := (List.range 32).map fun i => { first := i, count := 1, tenant := 0, damaged := false } }) fun p s =>
      defOk p s && decide (32 ≤ s.asy.ranges.length) && s.asy.ranges.all fun x => decide (x.first + x.count ≤ fld p.params 0 4),
    runs (back 20 11) (asyState sort) fun p s => find p s == none, runs (back 20 10) (asyState sort) fun p s => (find p s).isSome && !rangePinned s 10 20,
    runs (back 20 10) pinned fun p s => (find p s).isSome && rangePinned s 10 20,
    domOn late 2 && late.asy.rt == [{ rt with fence := 2 }] && (findRecipe late 9).isSome && recipeFence late 9 != 2, up.asy.rt == [],
    domOn part 2 && recipeFence part 9 == 1 && (findPart part 9 0).isSome && (findRecipe part 9).any fun r => !damagedIn part r.image.partOp ]

theorem test_where_assay : wAssay.all id = true := by decide +kernel

/-! ## HALLMARK -/

/-- An ACTIVE STRIP recipe on view 0, with tile rows of 16 lines at 16 position units, and its first part of 256. -/
def judged1 (hwm : Long) (im : RecipeImage) (p : Part) : State :=
  let v := modView 0 (fun x => { x with configured := true, tileW := 512, tileH := 16 }) up
  let g := v.setLanes { v.lanes with tg := upd v.lanes.tg 0 fun g => { g with p := 16 } }
  let r := withRecipe { recipe 9 .active { im with partLen := 256 } with nextPart := 1 } g
  let q := r.setPos { r.pos with hwm := hwm, count := 16 }
  q.setHm { q.hm with parts := [p] }

def outcome (row : Int) (fence : Word) : Outcome :=
  { bench := 15, recipe := 9, adm := 4, tile := { aTile with row := row }, hold := 0, fence := fence, result := some aResult, vslots := 0, at_ := 0 }

def wVerdicts : List Bool :=
  let r := recipe 9 .active image
  [ decide (0x24 ≠ 0), ([0x10, 0x24] : List Nat).head? != none,
    (verdictOf image (aPart id) false).1 == 0, (verdictOf image (aPart fun p => { p with reasons := [0x24] }) false).1 == 2,
    decide (r.seq < 2 ^ 32) && decide (r.handle < 2 ^ 32) && decide ((aPart id).seen.length < 2 ^ 32) && decide ((aPart id).holdTiles < 2 ^ 32) &&
      ([0x24] : List Nat).all fun x => decide (x < 65536) ]

theorem test_where_verdicts : wVerdicts.all id = true := by decide +kernel

def wParts : List Bool :=
  let ing := fun (o : Outcome) (s : State) => s.setHm { s.hm with ingest := [o] }
  let s := judged1 240 image (aPart id)
  let live := held [adm 9 .recipe 3 9, adm 4 .bench 3 15] s
  let seen := fun (hwm : Long) (im : RecipeImage) (f : Part → Part) => judged1 hwm im (aPart fun p => f { p with seen := [(0, 0, 0)] })
  let ok := fun (s : State) => !behind (openParts s) && domOn (openParts s) 2 && (findRecipe (openParts s) 9).isSome && (findPart (openParts s) 9 0).isSome
  let at_ := fun (s : State) (f : Recipe → Part → State → Bool) => ok s && (match findRecipe (openParts s) 9, findPart (openParts s) 9 0 with
    | some r, some p => f r p (openParts s)
    | _, _ => false)
  let search := { image with rflags := 2 }
  let plate := judged1 100 { image with model := 1, maxLen := 100 } (aPart fun p => { p with stop := none })
  let folds := fun (o : Outcome) (f : Outcome → Recipe → Bool) => (let t := openParts live
    (findRecipe t 9).any fun r => !staleOutcome t o && f o r && t.hm.parts.any fun p => p.recipe == 9 && tileInPart t r.image o.tile p && !p.issued)
  let o := outcome 0 1
  let plain := fun (o : Outcome) => !allPad o.tile && o.hold == 0 && !bit o.tile.tflags 0
  let op := { image with rflags := 1 }
  [ domOn live 2 && (ing o live).hm.ingest == [o], up.hm.ingest == [], (findRecipe (openParts up) 9).isNone, staleOutcome (openParts live) (outcome 0 2),
    !staleOutcome (openParts live) (outcome 1 1) && (openParts live).hm.parts.all fun p => !tileInPart (openParts live) image (outcome 1 1).tile p,
    (let t := openParts (judged1 240 image (aPart fun p => { p with issued := true }))
     t.hm.parts.any (fun p => tileInPart t image o.tile p) && t.hm.parts.all fun p => p.issued || !tileInPart t image o.tile p),
    folds o fun o r => plain o && o.result == some aResult && !needsTileOp r.image aResult,
    folds { o with tile := { aTile with padPix := 1024 } } fun o _ => allPad o.tile, folds { o with hold := 0x12 } fun o _ => !allPad o.tile && o.hold != 0,
    folds { o with tile := { aTile with tflags := 1 } } fun o _ => !allPad o.tile && o.hold == 0 && bit o.tile.tflags 0,
    folds { o with result := none } fun o _ => plain o && o.result == none,
    plain o && needsTileOp op { aResult with cands := [(0, 0)] }, !(aPart id).issued && !((aPart id).seen.contains (0, 0, 0)),
    behind (openParts (s.setPos { s.pos with count := 0 })), !domOn (openParts State.reset) 2, findRecipe (openParts up) 9 == none,
    at_ (judged1 240 image (aPart fun p => { p with issued := true })) fun _ p _ => p.issued,
    at_ (judged1 240 image (aPart fun p => { p with fixed := true })) fun _ p _ => !p.issued && p.fixed,
    at_ (seen 239 image id) fun r p t => !p.issued && !p.fixed && !closed t r.image p,
    at_ s fun r p t => !p.issued && closed t r.image p && !allSeen t r.image p,
    at_ (seen 240 image id) fun r p t => closed t r.image p && allSeen t r.image p && !needsPartOp r.image p,
    at_ (seen 240 search fun p => { p with cands := [aCand 0] }) fun r p t => closed t r.image p && allSeen t r.image p && needsPartOp r.image p && p.partOp == 0,
    at_ (seen 240 { image with lDec := 0 } id) fun r p t => !p.issued && p.stop == some 256 && reached t (posL (closePos t r.image p + r.image.lDec)),
    at_ (seen 240 { image with lDec := 1 } id) fun r p t => !reached t (posL (closePos t r.image p + r.image.lDec)),
    at_ (seen 240 search fun p => { p with cands := [aCand 0], partOp := 1 }) fun r p t => closed t r.image p && allSeen t r.image p && needsPartOp r.image p && p.partOp != 0,
    domOn plate 2 && (match findRecipe plate 9, openPlate plate 9 with
      | some r, some p => reached plate (posL (posI p.start + r.image.maxLen)) &&
          !reached (plate.setPos { plate.pos with hwm := 99 }) (posL (posI p.start + r.image.maxLen))
      | _, _ => false),
    (findRecipe s 9).isSome && openPlate s 9 == none ]

theorem test_where_parts : wParts.all id = true := by decide +kernel

def wFires : List Bool :=
  let e := entry true 16 100
  let at_ := fun (s : State) (f : Act → DioChan → State → Bool) => (match findAct s 6, s.dio.chan[31]? with
    | some a, some c => a.state != .firing && switchDue (s.at_ 9) a && domOn s 2 && decide (s.flt.badCopy ≠ some a.entry.channel) && f a c s
    | _, _ => false)
  let p := field 16 [act 6 .pending e] id id
  let other := [act 6 .pending e, { act 7 .firing { e with channel := 30 } with target := 0 }]
  let lock := fun st (hwm : Long) => field hwm (upd other 0 fun a => { a with state := st }) id fun c => { c with out := true }
  let fire := fun us hwm => field hwm [{ act 6 .firing (entry us 16 0) with onAt := 0 }] (fun c => { c with out := true }) id
  let held6 := fun (s : State) (f : Act → Bool) => domOn s 2 && (findAct s 6).any fun a => a.state == .held && f a
  let quiet := fun (s : State) => (heldOn s (partnerOf 31)) == none && (chanOf s 31).causes == 0 &&
    s.hm.acts.all fun b => !(b.entry.channel == 31 && b.state == .firing) || b.handle == 6
  let waits := field 16 [{ act 6 .firing e with target := 0 }, { act 7 .held { e with channel := 30 } with target := 16 }] (fun c => { c with out := true }) id
  let good := fun (c : DioChan) (s : State) => c.dir == 2 && c.causes == 0 && (feedOf s 15).closed
  let run := fun (us : Bool) (hwm : Long) (t : Nat) => (fire us hwm).at_ t
  [ at_ p fun a c s => good c s && !interlocked (s.at_ 9) a && !c.retired && a.state == .pending,
    at_ (field 16 [act 6 .pending e] (fun c => { c with causes := 0x20 }) id) fun _ c _ => c.dir == 2 && c.causes != 0,
    at_ (field 16 [act 6 .pending e] (fun c => { c with cfg := 0x0A0A01 }) id) fun _ c _ => c.dir != 2,
    at_ (p.setDio { p.dio with feed := upd p.dio.feed 15 fun f => { f with closed := false } }) fun _ c s => !(feedOf s 15).closed && c.causes == 0,
    at_ (lock .pending 16) fun a c s => good c s && interlocked (s.at_ 9) a && !latestReached (s.at_ 9) a && a.state == .pending,
    at_ (lock .held 16) fun a _ s => interlocked (s.at_ 9) a && !latestReached (s.at_ 9) a && a.state == .held,
    at_ (lock .held 116) fun a c s => good c s && interlocked (s.at_ 9) a && latestReached (s.at_ 9) a,
    at_ (field 116 [act 6 .held e] id id) fun a c s => good c s && !interlocked (s.at_ 9) a && a.state == .held && latestReached (s.at_ 9) a,
    (p.setFlt { p.flt with badCopy := some 31 }).flt.badCopy == some (act 6 .pending e).entry.channel,
    held6 (lock .held 116) fun a => interlocked (lock .held 116) a && latestReached (lock .held 116) a, held6 (lock .held 16) fun a => !latestReached (lock .held 16) a,
    (findAct p 6).any fun a => !switchDue (p.setPos { p.pos with hwm := 0 }) a && a.state != .held,
    (firingOn (fire true 16) 31).any fun a => domOn (fire true 16) 2 && offDue (run true 16 80000) a && !offDue (run true 16 79999) a && a.entry.us,
    (firingOn (fire false 216) 31).any fun a => offDue (run false 216 40000) a && !offDue (run false 216 39999) a && !a.entry.us &&
      decide ((run false 216 40000).now < a.onAt + msTicks 10000),
    quiet (fire true 16) && (fire true 16).hm.acts.any fun a => a.handle == 6,
    (heldOn waits (partnerOf 31)).any fun b => b.handle != 6 && switchDue waits b && !latestReached waits b && (chanOf waits 30).dir == 2 && (chanOf waits 30).causes == 0 &&
      (feedOf waits 15).closed && (chanOf waits 31).causes == 0 && waits.hm.acts.all fun x => !(x.entry.channel == 31 && x.state == .firing) || x.handle == 6,
    domOn p 2 && (findAct up 6).isNone && (firingOn up 31).isNone ]

theorem test_where_fires : wFires.all id = true := by decide +kernel

def wTimeline : List Bool :=
  let e := entry false 5000 100
  let s := field 16 [] id id
  let q := { act 7 .pending { e with channel := 30 } with pOn := 5000, pOff := 5050 }
  let scaled := s.setPos { s.pos with scale := 1000 }
  let full := s.setHm { s.hm with acts := List.replicate 4096 q }
  let ret := field 16 [] (fun c => { c with retired := true }) id
  let busy := scaled.setHm { scaled.hm with acts := [{ q with pOn := 400000000, pOff := 600000000 }] }
  [ ([q] : List Act).length == 1 && (admitPulse 2 [q] e 5000 5200 0 == .inr 51), admitPulse 2 [q] { e with latest := 50 } 5000 5200 0 == .inl 51,
    entryBad s { e with loadMa := 1001 } == some 2, entryBad full e == none && decide (4096 ≤ full.hm.acts.length),
    entryBad ret e == none && decide (ret.hm.acts.length < 4096) && (chanOf ret 31).retired,
    entryBad scaled e == none && !(chanOf s 31).retired && !(feedOf s 15).retired && decide (posI 16 - leadAdm scaled 0 ≤ posI scaled.pos.hwm),
    (judgeAct scaled { e with latest := 0 } 500000000 == .admitted 0),
    entryBad busy e == none && decide (busy.hm.acts.length < 4096) && !(chanOf busy 31).retired && !(feedOf busy 15).retired &&
      decide (posI busy.pos.hwm < posI 500000000 - leadAdm busy e.leadUs) &&
      (match judgeAct busy { e with latest := 50 } 500000000 with
        | .refused _ outcome needed => outcome == 1 && decide (50 < needed)
        | .admitted _ => false) ]

theorem test_where_timeline : wTimeline.all id = true := by decide +kernel

/-- An actuation entry as parameters. -/
def entryParams (sp : Nat) : Bytes := le1 31 ++ le1 0 ++ le2 1000 ++ le4 sp ++ le4 200 ++ le4 0 ++ le4 0 ++ le2 0 ++ le2 0 ++ le8 0

def wHallmark : List Bool :=
  let s := (field 16 [] id id).setPos { up.pos with scale := 1000, hwm := 16 }
  let ringd := withObjs [obj 8 .ingot 0x10000 4096] (withRecipe (recipe 9 .active image) up)
  let act_ := fun (b : Bytes) (cls : Nat) (s : State) => (let e := entryOfBytes b
    bits (fld b 1 1) 7 1 == 0 && fld b 22 2 == 0 && inHorizon s e.spos && (judgeAct s e (expand s e.spos) == .admitted 0) &&
      (cls == 7 || s.led.held.all fun a => a.cls != 7) && shorts s (vEff s.led.vadm) cls (withTable []) == [])
  let c : Cmd := ⟨0x100, 0, 0, entryParams (2 ^ 30)⟩
  let q := withP (pk 0x0930 []) (withList (listOf 5 0 true c) s)
  let own := fun st => held [adm 6 .actuation 3 0] (field 16 [act 6 st (entry true 16 0)] id id)
  let plate := withRecipe (recipe 9 .active { image with model := 1, edgeSrc := 1, minLen := 1, maxLen := 100 }) up
  let edge := fun sp => le4 9 ++ le4 0 ++ le4 sp
  let target := fun (p : Packet) (s : State) (k : AdmKind) => (match admTarget p (fld p.params 0 4) 0x20 [k] s with
    | .inr _ => true
    | .inl _ => false)
  let base := entryParams (2 ^ 30)
  let put := fun (o : Nat) (x : Bytes) => base.take o ++ x ++ base.drop (o + x.length)
  let host := fun (b : Bytes) (s : State) (f : ActEntry → Long → Bool) => f (entryOfBytes b) (expand s (entryOfBytes b).spos)
  let good := fun (b : Bytes) (s : State) => host b s fun e _ => entryBad s e == none && decide (fld b 1 1 ≤ 1) && fld b 22 2 == 0
  let warned := s.setPwr { s.pwr with sag := true }
  let tight := held [{ adm 9 .stream 3 0 with demands := [⟨11, 0, 2 ^ 62⟩] }] s
  let due := fun (hwm : Long) => held [adm 6 .actuation 3 0] (field hwm [act 6 .pending (entry true 16 0)] id id)
  let edgeAt := fun k sp => le4 9 ++ [BitVec.ofNat 8 k, 0, 0, 0] ++ le4 sp
  let withPart := fun (s : State) => s.setHm { s.hm with parts := [aPart fun q => { q with stop := none }] }
  let plain := withRecipe (recipe 9 .active image) up
  let pl := fun (k sp : Nat) (s : State) (f : Recipe → Packet → State → Bool) => runs (pk 0x0920 (edgeAt k sp)) s fun p s =>
    target p s .recipe && (findRecipe s 9).any fun x => f x p s
  let own9 := fun (x : Recipe) => x.image.model == 1 && x.image.edgeSrc == 1
  [ runs (pk 0x0901 (le4 15)) up fun p _ => fld p.params 0 1 == 15, runs (pk 0x0901 (le4 255)) up fun p _ => fld p.params 0 1 == 0xFF,
    runs (pk 0x0901 (le4 16)) up fun p _ => decide (15 < fld p.params 0 1) && fld p.params 0 1 != 0xFF,
    runs (pk 0x0902 (le4 9 ++ le4 0 ++ le4 0)) up fun p s => fld p.params 0 4 != 0 && !target p s .recipe,
    runs (pk 0x0902 (le4 9 ++ le4 7 ++ le4 0)) ringd fun p s => fld p.params 0 4 != 0 && target p s .recipe &&
      (ringsBad p [(fld p.params 4 4, 0x24), (fld p.params 8 4, 0x28)] s).isSome,
    host (put 0 [32]) s fun e _ => entryBad s e == some 0, host (put 1 [2]) s fun e _ => entryBad s e != some 0 && decide (1 < fld (put 1 [2]) 1 1),
    host (put 2 (le2 1001)) s fun e _ => entryBad s e == some 2 && decide (fld (put 2 (le2 1001)) 1 1 ≤ 1),
    host (put 22 (le2 1)) s fun e _ => entryBad s e == none && decide (fld (put 22 (le2 1)) 1 1 ≤ 1) && fld (put 22 (le2 1)) 22 2 != 0,
    good base s && !inHorizon s (BitVec.ofNat 32 (2 ^ 30 + 17)) && good (entryParams (2 ^ 30 + 17)) s, good base s && inHorizon s (2 ^ 30) && supplyWarned warned && good base warned,
    good (entryParams 0) s && inHorizon s 0 && supplyShorts s 3 == [] && (host (entryParams 0) s fun e t => judgeAct s e t != .admitted 0 && judgeAct s e t == .refused stTIMED_OUT 6 0),
    good base tight && inHorizon tight (2 ^ 30) && supplyShorts tight 3 == [] && (host base tight fun e t => judgeAct tight e t == .admitted 0) &&
      shorts tight (vEff tight.led.vadm) 3 (withTable []) != [],
    (let c := { c with arg0 := 1 }; running (withP (pk 0x0930 []) (withList (listOf 5 0 true c) s)) 5 c && c.arg0 != 0),
    (let c := { c with body := entryParams 0 }; let q := withP (pk 0x0930 []) (withList (listOf 5 0 true c) s)
     running q 5 c && c.arg0 == 0 && c.arg1 == 0 && (findP ⟨0, 5⟩ q).isSome && (hostAct c.body 3 0 0 q).status == stTIMED_OUT),
    enginesUp up && (up.fab.lists.find? fun l => l.engine == 5 && l.running) == none,
    runs (pk 0x0911 (le4 6)) up fun p s => !target p s .actuation,
    runs (pk 0x0911 (le4 6)) (due 16) fun p s => target p s .actuation && (findAct s 6).any fun x => x.state == .pending && switchDue s x,
    runs (pk 0x0911 (le4 6)) (due 0) fun p s => target p s .actuation && (findAct s 6).any fun x => x.state == .pending && !switchDue s x,
    runs (pk 0x0920 (edgeAt 0 5)) up fun p s => !target p s .recipe, pl 2 5 plate fun _ p _ => decide (1 < fld p.params 4 1),
    pl 1 5 plain fun x p _ => decide (fld p.params 4 1 ≤ 1) && x.image.model != 1,
    pl 0 5 plate fun x p s => own9 x && inHorizon s (BitVec.ofNat 32 (fld p.params 8 4)) && !behind s && edgeConcerns s x true 5,
    pl 0 5 (withPart plate) fun x _ s => own9 x && !edgeTaken s x true 5,
    pl 1 5 (withPart plate) fun x p s => own9 x && fld p.params 4 1 == 1 && edgeTaken s x false 5 && edgeConcerns s x false 5 &&
      s.hm.parts == [aPart fun q => { q with stop := none }],
    runs (pk 0x0902 (le4 0 ++ le4 0 ++ le4 8)) up fun p s => fld p.params 0 4 == 0 && (ringsBad p [(fld p.params 8 4, 0x28)] s).isSome,
    runs (pk 0x0902 (le4 0 ++ le4 0 ++ le4 8)) ringd fun p s => fld p.params 0 4 == 0 && ringsBad p [(fld p.params 8 4, 0x28)] s == none &&
      decide (p.tenant < s.kw.tenants.length),
    runs (pk 0x0902 (le4 9 ++ le4 8 ++ le4 0)) ringd fun p s => fld p.params 0 4 != 0 && target p s .recipe &&
      ringsBad p [(fld p.params 4 4, 0x24), (fld p.params 8 4, 0x28)] s == none,
    runs (pk 0x0910 (entryParams (2 ^ 30))) s fun p s => act_ p.params p.cls s,
    running q 5 c && c.arg0 == 0 && c.arg1 == 0 && (findP ⟨0, 5⟩ q).isSome && act_ c.body 3 q,
    runs (pk 0x0911 (le4 6)) (own .firing) fun p s => target p s .actuation && (findAct s 6).map (·.state) == some .firing,
    runs (pk 0x0911 (le4 6)) (own .held) fun p s => target p s .actuation && (findAct s 6).map (·.state) != some .firing,
    runs (pk 0x0920 (edge (2 ^ 30))) plate fun p s => target p s .recipe && (findRecipe s 9).any (fun x => x.image.model == 1 && x.image.edgeSrc == 1) &&
      fld p.params 4 1 == 0 && inHorizon s (BitVec.ofNat 32 (fld p.params 8 4)),
    runs (pk 0x0920 (edge (2 ^ 30 + 1))) plate fun p s => !inHorizon s (BitVec.ofNat 32 (fld p.params 8 4)) ]

theorem test_where_hallmark : wHallmark.all id = true := by decide +kernel

/-! ## Field I/O -/

/-- Channel 31 with a configuration and no cause. -/
def chan31 (cfg : Long) (f : DioChan → DioChan) : State :=
  up.setDio { up.dio with chan := upd up.dio.chan 31 fun c => f { c with cfg := cfg, causes := 0 } }
/-- An input with a LIMIT of 10 samples. -/
def input (f : DioChan → DioChan) : State := chan31 0x10A01 f
def hasChan (s : State) (n : Nat) (f : DioChan → Bool) : Bool := (s.dio.chan[n]?).any f
def hasFeed (s : State) (k : Nat) (f : Feed → Bool) : Bool := (s.dio.feed[k]?).any f

def wFilter : List Bool :=
  let inp := fun (f : DioChan → DioChan) (q : DioChan → Bool) => isInput (input f) 31 && hasChan (input f) 31 q
  let c := chanOf (input id) 31
  let wb := fun k => (let s := chan31 0x10A09 fun c => { c with cls := (k, 0) }; isInput s 31 && hasChan s 31 fun c => c.wb &&
    c.cls.1 == k && decide (c.cls.2 + msTicks 10 ≤ (s.at_ (msTicks 10)).now) && !decide (c.cls.2 + msTicks 10 ≤ (s.at_ (msTicks 10 - 1)).now))
  let early := fun (c : DioChan) (t : Nat) => c.sampled.any fun at_ => decide (((input id).at_ t).now < at_ + usTicks c.ts)
  [ decide ((List.replicate 9 (12000, 0, 0) : List (Int × Nat × Nat)).length < c.limit) && c.count == 0 && !c.y,
    decide (9 < { c with count := 10, y := true }.limit) && decide (10 = c.limit),
    inp (fun c => { c with count := 9 }) fun c => !edgeDue c, inp (fun c => { c with count := 10 }) edgeDue,
    inp (fun c => { c with sampled := some 0 }) fun c => early c (usTicks c.ts - 1) && !early c (usTicks c.ts) && decide (0 < c.ts),
    inp id fun c => !early c 0 && c.dueAt == none, inp (fun c => { c with count := 9, dueAt := some 5 }) fun c => c.dueAt == some 5 && !edgeDue c,
    inp (fun c => { c with count := 10, dueAt := some 5 }) fun c => !early c 0 && c.dueAt == some 5 && edgeDue c,
    !isInput up 31 && hasChan up 31 (fun _ => true), inp id fun c => !c.wb, hasChan (chan31 0x10A09 id) 31 fun c => c.wb && c.cls.2 == 0,
    inp (fun c => { c with y := true }) edgeDue, inp (fun c => { c with count := 10, brk := true }) (·.brk),
    inp (fun c => { c with count := 10, invalid := true }) (·.invalid), wb 0, wb 1, wb 2 ]

theorem test_where_filter : wFilter.all id = true := by decide +kernel

/-- From a count of 0, ten samples of 12 V make an edge due, and nine do not. -/
theorem test_filter_edge :
    let c := chanOf (input id) 31
    let n := fun k => (List.range k).foldl (fun d _ => sampleChan 0 12000 0 d) c
    edgeDue (n 9) = false ∧ edgeDue (n 10) = true := by decide +kernel

def wOutputs : List Bool :=
  let s := field 16 [] (fun c => { c with cfg := 0x0A0A12 }) id
  let on := field 16 [] (fun c => { c with out := true }) id
  let trip := s.setDio { s.dio with feed := upd s.dio.feed 15 fun f => { f with closed := false, tripped := true } }
  let linked := field 16 [] (fun c => { c with causes := 8, keepalive := true }) id
  let dark := up.setDio { up.dio with feed := upd up.dio.feed 8 fun f => { f with unpowered := true } }
  let back := field 16 [] (fun c => { c with causes := 16, supplySince := some 5 }) id
  let unlinked := linked.setPwr { linked.pwr with domains := upd linked.pwr.domains 4 fun _ => false }
  [ isOutput s 31 && domOn s 4 && hasChan s 31 fun c => !c.out && c.ol && !c.openload,
    isOutput on 31 && domOn on 4 && hasChan on 31 fun c => c.out && !c.ol, !isOutput up 31 && hasChan up 31 fun _ => true,
    hasFeed on 15 fun f => f.closed && !f.tripped, decide (32 ≤ 32), !domOn unlinked 4 && hasChan unlinked 31 fun c => c.causes.getLsbD 3,
    hasChan linked 31 fun c => c.causes.getLsbD 3, hasChan s 31 fun c => c.supplySince == none, decide (1 < 2),
    decide (14000 ≤ 19200) && !(feedOf up (8 * 1)).unpowered,
    isOutput on 31 && hasChan on 31 (·.out), invB on && hasFeed on 15 (·.closed), invB trip && hasFeed trip 15 fun f => !f.closed && f.tripped,
    decide (31 < 32) && domOn s 4 && hasChan s 31 fun _ => true, hasChan s 31 fun c => !c.causes.getLsbD 3 && !c.safeOn,
    domOn linked 4 && hasChan linked 31 fun c => c.causes.getLsbD 3 && c.keepalive,
    invB up && decide (1 ≤ 1) && decide (13999 < 14000), invB dark && (feedOf dark (8 * 1)).unpowered && decide (19200 ≤ 19200),
    decide (14000 ≤ 19199 ∧ 19199 < 19200), hasChan back 31 fun c => c.causes.getLsbD 4 && c.supplySince == some 5,
    hasChan (field 16 [] (fun c => { c with supplySince := some 5 }) id) 31 fun c => !c.causes.getLsbD 4 && c.supplySince == some 5 ]

theorem test_where_outputs : wOutputs.all id = true := by decide +kernel

def wFieldIo : List Bool :=
  let cfg := fun (n : Nat) (v : Nat) => le1 n ++ List.replicate 7 0 ++ le8 v
  let free := fun (p : Packet) (s : State) => decide (fld p.params 0 1 ≤ 31) && hasChan s (fld p.params 0 1) (fun _ => true) &&
    !chanNamed s (fld p.params 0 1) && pendingOn s (fld p.params 0 1) == []
  let plate := withRecipe (recipe 9 .active { image with model := 1, edgeDio := 31 }) up
  let retC := field 16 [] (fun c => { c with retired := true }) id
  let retF := up.setDio { up.dio with feed := upd up.dio.feed 15 fun f => { f with retired := true } }
  let heldF := (field 16 [act 6 .pending (entry true 16 0)] id id) |> fun s => s.setDio { s.dio with feed := upd s.dio.feed 15 fun f => { f with retired := true } }
  let heldC := field 16 [act 6 .pending (entry true 16 0)] (fun c => { c with retired := true }) id
  [ runs (pk 0x0A01 []) up fun _ _ => true, runs (pk 0x0A02 (cfg 255 1)) up fun p _ => fld p.params 0 1 == 0xFF && decide (fld p.params 8 8 ≤ 1),
    runs (pk 0x0A02 (cfg 255 2)) up fun p _ => fld p.params 0 1 == 0xFF && decide (1 < fld p.params 8 8),
    runs (pk 0x0A02 (cfg 32 0)) up fun p _ => decide (31 < fld p.params 0 1) && fld p.params 0 1 != 0xFF,
    runs (pk 0x0A20 [2, 0, 0, 0]) up fun p _ => decide (1 < fld p.params 0 1),
    runs (pk 0x0A20 [0, 32, 0, 0]) up fun p _ => fld p.params 0 1 == 0 && decide (31 < fld p.params 1 1),
    runs (pk 0x0A20 [0, 31, 0, 0]) up fun p s => fld p.params 0 1 == 0 && !(chanOf s (fld p.params 1 1)).retired,
    runs (pk 0x0A20 [1, 16, 0, 0]) up fun p _ => fld p.params 0 1 == 1 && decide (15 < fld p.params 1 1),
    runs (pk 0x0A20 [1, 15, 0, 0]) up fun p s => fld p.params 0 1 == 1 && !(feedOf s (fld p.params 1 1)).retired,
    runs (pk 0x0A20 [1, 15, 0, 0]) heldF fun p s => fld p.params 0 1 == 1 && hasFeed s (fld p.params 1 1) (·.retired) && chanHeld s 31,
    runs (pk 0x0A31 (le4 (2 ^ 31) ++ le4 8)) up fun p s => invB s && decide (7 < fld p.params 4 1),
    runs (pk 0x0A02 (cfg 31 0x10A01)) plate fun p s => decide (fld p.params 0 1 ≤ 31) && chanNamed s 31 && hasChan s 31 fun _ => true,
    runs (pk 0x0A02 (cfg 31 0x10A01)) heldC fun p s => decide (fld p.params 0 1 ≤ 31) && pendingOn s 31 != [],
    runs (pk 0x0A02 (cfg 31 3)) up fun p s => free p s && dioBad s 31 (fld p.params 8 8) == some 0x28,
    runs (pk 0x0A02 (cfg 31 (1001 * 65536 + 0x0A01))) up fun p s => free p s && dioBad s 31 (fld p.params 8 8) == some 0x2A,
    runs (pk 0x0A02 (cfg 31 (1000 * 65536 + 0xFF01))) up fun p s => free p s && dioBad s 31 (fld p.params 8 8) == none,
    runs (pk 0x0A20 [0, 31, 0, 0]) retC fun p s => invB s && fld p.params 0 1 == 0 && hasChan s (fld p.params 1 1) (·.retired) && !chanHeld s (fld p.params 1 1),
    runs (pk 0x0A20 [0, 31, 0, 0]) heldC fun p s => invB s && fld p.params 0 1 == 0 && hasChan s (fld p.params 1 1) (·.retired) && chanHeld s (fld p.params 1 1),
    runs (pk 0x0A20 [1, 15, 0, 0]) retF fun p s => invB s && fld p.params 0 1 == 1 && hasFeed s (fld p.params 1 1) (·.retired) && !chanHeld s 30 && !chanHeld s 31,
    runs (pk 0x0A30 (le4 (2 ^ 31))) (field 16 [] id id) fun p s => invB s && fld p.params 0 4 == 2 ^ 31 && hasChan s 31 fun c => c.causes == 0 && !c.safeOn,
    runs (pk 0x0A31 (le4 (2 ^ 31) ++ le4 7)) up fun p s => invB s && decide (fld p.params 4 1 ≤ 7) && p.principal != 64 && bit (fld p.params 4 1) 0,
    runs (pk 0x0A31 (le4 (2 ^ 31) ++ le4 6)) up fun p s => invB s && decide (fld p.params 4 1 ≤ 7) && !bit (fld p.params 4 1) 0,
    runs { pk 0x0A31 (le4 (2 ^ 31) ++ le4 7) with principal := 64 } up fun p s => invB s && p.principal == 64 && bit (fld p.params 4 1) 0 ]

theorem test_where_field_io : wFieldIo.all id = true := by decide +kernel

/-! ## Recipes and telegrams -/

/-- The scale is 1,000,000, so a metre has 16,000 position units. -/
def scaled (s : State) : State := s.setPos { s.pos with scale := 1000000 }

/-- View 0 with one conceal-mode channel of 512 columns, and tiles of 512 by 256. -/
def viewed : State := scaled (modView 0 (fun v => { v with configured := true, bottom := false }) (modPlnChan 0 (fun c => { c with
  view := some 0, width := 512 }) up))

/-- The pieces of the image of a STRIP recipe for view 0, routed to bench 15, that are not zero, all but the CRC. -/
def pieces : List (Nat × Bytes) :=
  [(0, le4 0x5256594E), (4, le2 1), (6, le2 640), (8, le4 1), (0xC, le4 1000), (0x18, le2 60 ++ le1 1), (0x1C, le2 512 ++ le2 256), (0x20, le1 1 ++ le1 1),
   (0x40, [0, 15]), (0x128, le4 65536)] ++ (List.range 8).map fun a => (0x160 + 32 * a, [0xFF])
def body : Bytes := pieces.foldl (fun b x => b.take x.1 ++ x.2 ++ b.drop (x.1 + x.2.length)) (List.replicate 0x27C 0)
def imageBytes : Bytes := body ++ le4 789807020

/-- An object with bytes at its start. -/
def imaged (l : List (Nat × Bytes)) (s : State) : State :=
  let t := withObjs [obj 8 .ingot 0x10000 4096] s
  t.setDraw { t.draw with mem := memPlace t.draw.mem (l.map fun x => (0x10000 + x.1, x.2)) }

/-- The CRC register over a byte string, computed on numbers. -/
def crcNat (b : Bytes) (c : Nat) : Nat :=
  match b, c with
  | [], c => c
  | x :: r, 0 => crcNat r (crcBits 8 (x.setWidth 32)).toNat
  | x :: r, n + 1 => crcNat r (crcBits 8 (BitVec.ofNat 32 (n + 1) ^^^ x.setWidth 32)).toNat

theorem crcNat_eq (b : Bytes) (c : Word) : crcNat b c.toNat = (crcRun c b).toNat := by
  induction b generalizing c with
  | nil => rfl
  | cons x r ih =>
    rw [crcRun, ← ih]
    rcases h : c.toNat with _ | n
    · have : c = 0 := BitVec.eq_of_toNat_eq h
      simp [crcNat, this]
    · have : BitVec.ofNat 32 (n + 1) = c := by rw [← h]; simp
      simp only [crcNat, this]

theorem crcRun_append (a b : Bytes) (c : Word) : crcRun c (a ++ b) = crcRun (crcRun c a) b := by
  induction a generalizing c with
  | nil => rfl
  | cons x r ih => exact ih _

theorem crc_part (a b : Bytes) (c d : Word) (h : crcNat a c.toNat = d.toNat) : crcRun c (a ++ b) = crcRun d b := by
  rw [crcRun_append, BitVec.eq_of_toNat_eq (crcNat_eq a c ▸ h : (crcRun c a).toNat = d.toNat)]

/-- A quarter of the image. -/
def quarter (k : Nat) : Bytes := (body.drop (159 * k)).take 159
theorem body_quarters : imageBytes.take 0x27C = quarter 0 ++ (quarter 1 ++ (quarter 2 ++ (quarter 3 ++ []))) := by decide +kernel

theorem image_crc : (crc32c (imageBytes.take 0x27C)).toNat = fld imageBytes 0x27C 4 := by
  rw [crc32c, body_quarters, crc_part (quarter 0) _ _ 1971627158 (by decide +kernel), crc_part (quarter 1) _ _ 2793270622 (by decide +kernel),
    crc_part (quarter 2) _ _ 595308954 (by decide +kernel), crc_part (quarter 3) _ _ 3505160275 (by decide +kernel)]
  decide +kernel

theorem image_check1 : check1 imageBytes = none := by
  unfold check1
  rw [if_neg (by decide +kernel), if_neg (by decide +kernel), if_neg (by decide +kernel), if_neg (not_not.mpr image_crc)]
  decide +kernel

def loadP (cls : Nat) : Packet := { pk 0x0B02 (le8 0x10000) with cls := cls }
def loadable : State := imaged ((0x27C, le4 789807020) :: pieces) viewed

theorem check_class (s : State) (p : Packet) (b : Bytes) (h : check1 b = none) (c : p.cls = 7) : recipeCheck s p b = some (2, noField) := by
  simp [recipeCheck, h, c]

theorem check_rest (s : State) (p : Packet) (b : Bytes) (h : check1 b = none) (c : p.cls ≠ 7)
    (r : (check3 s (imageOf b) == none && check4 s (imageOf b) == none && check5 s (imageOf b) (fld b 0x21 1) == none &&
      check6 s (imageOf b) == none && check7 s (imageOf b) == none && check8 s p.tenant b (imageOf b) == none && check9 s (imageOf b) == none) = true) :
    recipeCheck s p b = none := by
  simp only [Bool.and_eq_true, beq_iff_eq] at r
  simp [recipeCheck, h, c, r]

theorem test_image_class : recipeCheck loadable (loadP 7) imageBytes = some (2, noField) := check_class _ _ _ image_check1 rfl
theorem test_image_passes : recipeCheck (withP (loadP 3) loadable) (loadP 3) imageBytes = none :=
  check_rest _ _ _ image_check1 (by decide) (by decide +kernel)

/-- The same in a supply warning, and with every place of the table of admissions taken. -/
def warned : State := loadable.setPwr { loadable.pwr with sag := true }
def tight : State := held [{ adm 9 .stream 3 0 with demands := [⟨11, 0, 2 ^ 62⟩] }] loadable
theorem test_image_passes_warned : recipeCheck (withP (loadP 6) warned) (loadP 6) imageBytes = none :=
  check_rest _ _ _ image_check1 (by decide) (by decide +kernel)
theorem test_image_passes_tight : recipeCheck (withP (loadP 3) tight) (loadP 3) imageBytes = none :=
  check_rest _ _ _ image_check1 (by decide) (by decide +kernel)

def wLoads : List Bool :=
  let p := loadP 3
  let s := withP p loadable
  let adms := fun (cls : Nat) (s : State) => shorts s (vAdmWith s (imageOf imageBytes)) cls (withTable (recipeDemands s cls (imageOf imageBytes)))
  [ runs p loadable fun p s => recipeBytes p false s == .inr imageBytes, runs (loadP 7) loadable fun p s => recipeBytes p false s == .inr imageBytes,
    runs p loadable (fun p s => recipeBytes p true s == .inl (stINTERNAL, noField)), runs p up fun p s => recipeBytes p false s == .inl (stBAD_PARAM, 0x20),
    runs (loadP 6) warned (fun p s => recipeBytes p false s == .inr imageBytes) && supplyWarned warned && supplyShorts warned 6 != [],
    runs p tight (fun p s => recipeBytes p false s == .inr imageBytes) && tight.led.vadm == 0 && adms 3 (withP p tight) != [],
    runs p (imaged [(0, [1])] viewed) (fun p s => recipeBytes p false s == .inr (1 :: List.replicate 639 0)) &&
      recipeCheck s p (1 :: List.replicate 639 0) == some (1, 0),
    s.led.vadm == 0 && (s.led.held.all fun a => a.cls != 7) && decide (p.cls < 6) &&
      shorts s (vAdmWith s (imageOf imageBytes)) p.cls (withTable (recipeDemands s p.cls (imageOf imageBytes))) == [] ]

theorem test_where_loads : wLoads.all id = true := by decide +kernel

/-- Recipes held by their admissions. -/
def withRecipes (l : List Recipe) (s : State) : State :=
  held (l.map fun r => adm r.handle .recipe 3 r.handle) (s.setRcp { s.rcp with recipes := l })

/-- Bench 15 serves recipe 9, with admissions of both, and of recipe 8. -/
def serving (st : BenchState) (l : List Recipe) : State :=
  let s := modBench 15 (fun x => { x with temper := false, recipe := 9 }) (bench st id)
  held (adm 4 .bench 3 15 :: l.map fun r => adm r.handle .recipe 3 r.handle) (s.setRcp { s.rcp with recipes := l })

def wActivates : List Bool :=
  let im := { image with routes := [{ view := 0, bench := 15, colFirst := 0, colLast := 0 }] }
  let inc := recipe 9 .held im
  let old := recipe 8 .active image
  let s := serving .built [inc, old]
  let at_ := fun (i o fl : Nat) (a : Word) (s : State) (f : Option Recipe → Option Recipe → Packet → State → Bool) =>
    runs (pk 0x0B03 (le4 i ++ le4 o ++ le4 a.toNat ++ [BitVec.ofNat 8 fl, 0, 0, 0])) s fun p s =>
      match optRecipe s p.tenant (fld p.params 0 4) 0x20, optRecipe s p.tenant (fld p.params 4 4) 0x24 with
      | .inr x, .inr y => f x y p s
      | _, _ => false
  let pend := withRecipes [{ inc with state := .pending, switchAt := 5 }, old] up
  let at5 := pend.setPos { pend.pos with hwm := 5 }
  let armed := serving .built [{ inc with state := .pending, switchAt := 5 }]
  let armed5 := armed.setPos { armed.pos with hwm := 5 }
  let ends := withRecipes [{ old with endAt := some 5 }] up
  let ends5 := ends.setPos { ends.pos with hwm := 5 }
  let rel := withRecipes [old] up
  let none_ := fun (x : Sum (Half × Nat) (Option Recipe)) => (match x with
    | .inl _ => true
    | .inr _ => false)
  let act3 := fun (i o : Nat) => pk 0x0B03 (le4 i ++ le4 o ++ le4 8 ++ [0, 0, 0, 0])
  let live := fun (s : State) h => (findRecipe s h).isSome && domOn s 2 && recipeHeld s h
  [ runs (act3 5 0) s fun p s => none_ (optRecipe s p.tenant (fld p.params 0 4) 0x20),
    runs (act3 9 5) s fun p s => !none_ (optRecipe s p.tenant (fld p.params 0 4) 0x20) && none_ (optRecipe s p.tenant (fld p.params 4 4) 0x24),
    at_ 9 8 0 (2 ^ 30 + 1) s fun i o p s => activateFault s i o == none && !bit (fld p.params 12 1) 0 && !inHorizon s (BitVec.ofNat 32 (fld p.params 8 4)),
    findRecipe up 9 == none, live ends 8 && (findRecipe ends 8).any (fun r => r.state == .active && r.endAt == some 5 && !reached ends 5),
    live s 9 && (findRecipe s 9).any (·.state == .held), live rel 8 && (findRecipe rel 8).any (fun r => r.state == .active && r.endAt == none),
    runs (pk 0x0B04 (le4 8)) up fun p s => (match admTarget p (fld p.params 0 4) 0x20 [.recipe] s with
      | .inl _ => true
      | .inr _ => false),
    runs (pk 0x0B01 (le4 8)) up fun p s => (match recipeFor s p.tenant (fld p.params 0 4) 0x20 with
      | .inl _ => true
      | .inr _ => false),
    at_ 9 0 0 8 s fun i o _ s => activateFault s i o == some (stDENIED, noField), at_ 0 0 0 8 s fun i o _ s => activateFault s i o == some (stBAD_PARAM, 0x20),
    at_ 9 8 1 8 s fun i o p s => activateFault s i o == none && bit (fld p.params 12 1) 0 && i == some inc && o == some old,
    at_ 9 8 0 (2 ^ 30) s fun i o p s => activateFault s i o == none && inHorizon s (BitVec.ofNat 32 (fld p.params 8 4)),
    at_ 0 8 1 8 s fun i o _ s => activateFault s i o == none && i == none && o == some old, activationPending pend inc.image.views,
    live pend 9 && (findRecipe pend 9).any (fun r => r.state == .pending && !reached pend r.switchAt),
    live at5 9 && (findRecipe at5 9).any (fun r => r.state == .pending && reached at5 r.switchAt),
    live armed5 9 && (findRecipe armed5 9).any (fun r => r.state == .pending && reached armed5 r.switchAt && r.image.model == 0) &&
      (armed5.fab.bench[15]?).any fun y => y.recipe == 9 && y.state == .built && !y.temper,
    live ends5 8 && (findRecipe ends5 8).any (fun r => r.state == .active && r.endAt == some 5 && reached ends5 5) &&
      ends5.rcp.recipes.all fun x => x.state != .pending,
    runs (pk 0x0B04 (le4 8)) rel fun p s => (match admTarget p (fld p.params 0 4) 0x20 [.recipe] s with
      | .inr _ => true
      | .inl _ => false),
    (findRecipe pend 9).any (fun r => r.state != .active),
    (findRecipe rel 8).any (fun r => r.state == .active) && recipeHeld rel 8 && domOn rel 2 && !rel.flt.fatal && rel.boot.draft.ckpt != [],
    runs (pk 0x0B01 (le4 8)) rel fun p s => (match recipeFor s p.tenant (fld p.params 0 4) 0x20 with
      | .inr _ => true
      | .inl _ => false) ]

theorem test_where_activates : wActivates.all id = true := by decide +kernel

def wTelegrams : List Bool :=
  let text := fun (fl : Nat) (b : Bytes) => [3, BitVec.ofNat 8 fl, 1, 0] ++ le4 (2 ^ 30) ++ le2 b.length ++ List.replicate 6 0 ++ b
  let ranges := fun (p : Packet) => decide (fld p.params 0 1 ≤ 3) && decide (1 ≤ fld p.params 8 2) && decide (fld p.params 8 2 ≤ 1024) &&
    p.params.length == 16 + fld p.params 8 2
  let s := withRecipe (recipe 9 .active { image with condN := 1 }) up
  let four := withRecipe { recipe 9 .active image with blocks := List.replicate 4 (0, []) } up
  let fullBlocks := withRecipe { recipe 9 .active { image with condN := 1 } with blocks := List.replicate 4 (0, []) } up
  let far := s.setPos { s.pos with hwm := 0, count := -1 }
  let dict := fun (id : Nat) (l : List Bytes) => (let body := l.flatMap fun e => le1 e.length ++ e
    let b := le4 0x4456594E ++ le4 id ++ le4 l.length ++ le4 (20 + body.length) ++ body
    b ++ le4 (crc32c b).toNat)
  let loads := fun (b : Bytes) (f : Sum Nat (Nat × List Bytes) → State → Bool) (s : State) =>
    runs (pk 0x0B10 (le8 0x10000 ++ le4 b.length ++ le4 0)) (imaged [(0, b)] s) fun p s =>
      ingotBytes p (fld p.params 0 8) (fld p.params 8 4) 0x20 false s == .inr b && f (readDict b) s
  let bound := withRecipe (recipe 9 .held { image with dictId := 7 }) up
  let sel := fun n => le2 n ++ le2 0 ++ le2 65 ++ [3, 15] ++ le4 9
  [ utf8Ok [0x41, 0xC3, 0xA9], ([0x41, 0x7F] : Bytes).all (fun x => decide (x.toNat < 128)), decide (0x10FFFF < 0xD800 ∨ 0xE000 ≤ 0x10FFFF ∧ 0x10FFFF ≤ 0x10FFFF), utf8Head [0xED, 0x9F, 0xBF] == (true, 3),
    utf8Head [0xED, 0xA0, 0x80] == (false, 1), utf8Head [0xF0, 0x9F, 0x98] == (false, 3),
    runs (pk 0x0B12 (4 :: (text 0 [0x41]).drop 1)) s fun p _ => decide (3 < fld p.params 0 1),
    runs (pk 0x0B12 ((text 0 []) ++ [0x41])) s fun p _ => decide (fld p.params 0 1 ≤ 3) && decide (fld p.params 8 2 < 1),
    runs (pk 0x0B12 ((text 0 (List.replicate 1025 0x41)).take 1040)) s fun p _ => decide (1024 < fld p.params 8 2),
    runs (pk 0x0B12 (text 0 [0x41] ++ [0])) s fun p _ => decide (1 ≤ fld p.params 8 2) && decide (fld p.params 8 2 ≤ 1024) && p.params.length != 16 + fld p.params 8 2,
    runs (pk 0x0B12 (text 2 [0x41])) fullBlocks fun p s => ranges p && inHorizon s (BitVec.ofNat 32 (fld p.params 4 4)) && (
      let t := tokenise [] 1 [0x41]
      let s1 := countTelegram t false false s
      blocksFull (giveBlocks (condTargets s1 1 (expand s (2 ^ 30))) (t.tokens.take 256) s1)),
    runs (pk 0x0B10 (le8 0x10000 ++ le4 9 ++ le4 0)) up fun p s => ingotBytes p (fld p.params 0 8) (fld p.params 8 4) 0x20 false s == .inl (stBAD_PARAM, 0x20),
    runs (pk 0x0B11 (sel 1)) up fun p s => p.params.length == 4 + 8 * fld p.params 0 2 && (selFault s 0 (selEntry p.params 0)).isSome,
    runs (pk 0x0B12 (text 0 [0x41])) far fun p s => ranges p && !inHorizon s (BitVec.ofNat 32 (fld p.params 4 4)),
    runs (pk 0x0B12 (text 3 (List.replicate 1024 0xFF))) s fun p s => ranges p && inHorizon s (BitVec.ofNat 32 (fld p.params 4 4)) &&
      (s.rcp.recipes.all fun x => x.blocks == []) && decide (2 < s.rcp.ctr.length),
    runs (pk 0x0B12 (text 1 [0x41])) four fun p s => ranges p && inHorizon s (BitVec.ofNat 32 (fld p.params 4 4)) && !bit (fld p.params 1 1) 1 &&
      s.rcp.recipes.all fun x => decide (x.blocks.length ≤ 4),
    loads (dict 7 [[0x41], [0x41]]) (fun d _ => d == .inl 1) up, loads (dict 7 [[0x41]]) (fun d s => d == .inr (7, [[0x41]]) && !dictBound s 7) bound,
    loads (dict 8 [[0x41]]) (fun d s => d == .inr (8, [[0x41]]) && dictBound s 8) bound,
    runs (pk 0x0B11 (sel 2)) s fun p _ => p.params.length != 4 + 8 * fld p.params 0 2,
    runs (pk 0x0B11 (sel 1)) s fun p s => p.params.length == 4 + 8 * fld p.params 0 2 &&
      (List.range (fld p.params 0 2)).all fun i => selFault s i (selEntry p.params i) == none ]

theorem test_where_telegrams : wTelegrams.all id = true := by decide +kernel

/-! ## Tempering -/

/-- The TEMPER bench 15, bench 14 that serves recipe 9, and a cache of two labelled tiles. -/
def tempering (f : Recipes → Recipes) : State :=
  let t := bench .built id
  let s := scaled (modBench 14 (fun x => { x with
    state := .armed, groups := 2, temper := false, handle := 5, recipe := 9, slots := [[], []], image := [7], cert := some (certOf (cert [7] 0)) }) t)
  let e : CacheEntry := { state := 2, lock := false, label := 1, nextLabel := none, captureSeq := 1, first := 5, tile := some { aTile with sposFirst := 5, sposLast := 9 } }
  held [adm 4 .bench 7 15, adm 5 .bench 3 14, adm 9 .recipe 3 9] (s.setRcp (f { s.rcp with
    recipes := [recipe 9 .active { image with rflags := 4, routes := [{ view := 0, bench := 14, colFirst := 0, colLast := 0 }] }]
    cache := [e, { e with captureSeq := 2 }] }))

def epoch (started done : Nat) : Epoch :=
  { handle := 6, ref := ⟨0, 5⟩, fromList := false, tenant := 0, recipe := 9, bench := 14, passes := 2, b := 2, span := 100, hyper := []
    entries := [0, 1], commitHwm := 0, started := started, done := done }
def inEpoch (e : Epoch) (hwm : Long) : State :=
  let s := tempering fun r => { r with epoch := some e }
  s.setPos { s.pos with stationary := false, hwm := hwm }

def wMinibatches : List Bool :=
  let ok := fun (st dn : Nat) (hwm : Long) => (let s := inEpoch (epoch st dn) hwm
    temperRuns s && s.rcp.epoch == some (epoch st dn) && decide (1 ≤ (epoch st dn).b))
  let pace := fun (dn hwm : Nat) => decide ((dn * 100 + 2 - 1) / 2 ≤ hwm)
  [ ok 0 0 0 && pace 0 0, ok 1 1 50 && pace 1 50, !pace 1 49 && ok 1 1 49, ok 2 2 100, ok 1 0 0,
    temperRuns up == false && up.rcp.epoch == none, (2 * 2 + 2 - 1) / 2 == 2 ]

theorem test_where_minibatches : wMinibatches.all id = true := by decide +kernel

def cand (h : Nat) : Cand :=
  { handle := h, tenant := 0, digest := sha256 [7], params := [], shadowRecipe := 9, shadowSpan := 0, tally := List.replicate 9 0, copies := none }

def wTempering : List Bool :=
  let p := fun code b => { pk code b with cls := 7 }
  let cfg := fun stride => le4 8 ++ [0, 0] ++ le2 stride ++ le4 1
  let v := withObjs [obj 8 .ingot 0x10000 1048576] (modPlnChan 0 (fun c => { c with replace := true }) viewed)
  let need := fun (p : Packet) (s : State) => (let v := fld p.params 4 1
    shorts s (vEff s.led.vadm) 7 (withTable [⟨5, 7, captureDemand s v (fld p.params 6 2)
      (64 + tileBytes (viewOf s v).tileFmt (viewOf s v).tileW (viewOf s v).tileH) (BitVec.ofNat 32 (fld p.params 8 4))⟩]) == [])
  let label := fun n k => le2 n ++ le2 0 ++ le4 k ++ [255, 0] ++ le2 0 ++ le2 7 ++ le2 0
  let at_ := fun k => le2 1 ++ le2 0 ++ le4 k ++ [0, 0] ++ le2 0 ++ le2 0 ++ le2 0
  let t := tempering id
  let ask := fun span => le4 9 ++ [14, 2] ++ le2 2 ++ le4 span ++ le4 0 ++ List.replicate 32 0
  let fits := fun (s : State) (b : Bytes) => (match temperFor s with
    | .inr (tb, c) => epochFault s 0 b == none && shorts s (vEff s.led.vadm) 7 (withTable (tileDemands tb c ((samplesOf s).length * fld b 5 1)
        (puPerMetre s).1 ((puPerMetre s).2 * fld b 8 4))) == []
    | .inl _ => false)
  let c : Cmd := ⟨0x100, 0, 0, ask 16000⟩
  let q := withP (p 0x0B30 []) (withList (listOf 6 0 true c) t)
  let shadow := tempering fun r => { r with cands := [cand 3] }
  let on := (let s := tempering fun r => { r with cands := [cand 3], shadow := some { handle := 7, cand := 3, bench := 14, recipe := 9, stride := 1, startHwm := 0 } }
    held (adm 7 .shadow 7 14 :: s.led.held) s)
  let has := fun (x : Sum (Half × Nat) Cand) => (match x with
    | .inr _ => true
    | .inl _ => false)
  let hasR := fun (x : Sum (Half × Nat) Recipe) => (match x with
    | .inr _ => true
    | .inl _ => false)
  let bare := held [adm 9 .recipe 3 9] shadow
  let crowd := fun (s : State) => held ({ adm 99 .stream 7 0 with demands := [⟨5, 7, 2 ^ 62⟩, ⟨11, 0, 2 ^ 62⟩] } :: s.led.held) s
  let no := fun (x : Sum (Half × Nat) Cand) => (match x with
    | .inl _ => true
    | .inr _ => false)
  let noR := fun (x : Sum (Half × Nat) Recipe) => (match x with
    | .inl _ => true
    | .inr _ => false)
  let ep := fun (cls : Nat) (b : Bytes) (s : State) => requestEpoch ⟨0, 5⟩ false 0 cls 3 b s
  let one := fun (q : State) (c : Cmd) => running q 6 c && (findP ⟨0, 5⟩ q).isSome && q.rcp.epoch == none
  let put := fun (c : Cmd) (s : State) => withP (p 0x0B30 []) (withList (listOf 6 0 true c) s)
  let shOn := le4 3 ++ [14, 1] ++ le2 1
  let shOff := fun b => le4 3 ++ [BitVec.ofNat 8 b, 0] ++ le2 0
  let noTemper := modBench 15 (fun x => { x with temper := false }) shadow
  let foreign := held ((on.led.held.filter fun a => a.handle != 7) ++ [{ adm 7 .shadow 7 14 with tenant := 3 }]) on
  let demands := fun (p : Packet) (s : State) => (match temperFor s, findRecipe s (benchOf s (fld p.params 4 1)).recipe with
    | .inr (tb, c), some x => shorts s (vEff s.led.vadm) 7 (withTable (shadowDemands s x.image (fld p.params 4 1) (fld p.params 6 2) tb c)) != []
    | _, _ => false)
  [ runs (p 0x0B20 (cfg 4096)) (crowd v) fun p s => cacheFault s p == none && !need p (dropCapture s),
    (ep 6 (ask 16000) t).status == stBAD_PARAM, epochFault t 0 (ask 0) == some (stBAD_PARAM, 0x28),
    epochFault (crowd t) 0 (ask 16000) == none && !fits (crowd t) (ask 16000),
    runs (p 0x0B22 (ask 16000)) t fun p s => (requestEpoch p.ref false p.tenant p.cls 3 p.params s).status == stOK,
    runs (p 0x0B22 (ask 16000)) (crowd t) fun p s => (requestEpoch p.ref false p.tenant p.cls 3 p.params s).status == stREFUSED_BUDGET,
    runs (p 0x0B22 (ask 0)) t fun p s => (requestEpoch p.ref false p.tenant p.cls 3 p.params s).status == stBAD_PARAM,
    (let q := q.setRcp { q.rcp with epoch := some { epoch 0 0 with fromList := true } }
     running q 6 c && (findP ⟨0, 5⟩ q).isSome && q.rcp.epoch.any fun e => e.fromList && e.ref == ⟨0, 5⟩),
    (let c := { c with arg1 := 1 }; one (put c t) c), (let c := { c with body := ask 0 }; one (put c t) c && (requestEpoch ⟨0, 5⟩ true 0 7 3 c.body (put c t)).status == stBAD_PARAM),
    (requestEpoch ⟨0, 5⟩ true 0 7 3 c.body q).status == stOK, enginesUp up && (up.fab.lists.find? fun l => l.engine == 6 && l.running) == none,
    up.rcp.epoch == none, (epoch 2 2).done == epochSteps (epoch 2 2) && temperRuns (inEpoch (epoch 2 2) 0),
    runs (p 0x0B23 (le4 4 ++ [14, 1] ++ le2 1)) shadow fun p s => fld p.params 5 1 == 1 && shadowFault s p == some (stBAD_PARAM, 0x20),
    runs (p 0x0B23 shOn) noTemper fun p s => fld p.params 5 1 == 1 && shadowFault s p == none && (match temperFor s with
      | .inl _ => true
      | .inr _ => false),
    runs (p 0x0B23 shOn) (crowd shadow) fun p s => fld p.params 5 1 == 1 && shadowFault s p == none && demands p s,
    runs (p 0x0B23 (le4 3 ++ [14, 2] ++ le2 1)) shadow fun p _ => decide (1 < fld p.params 5 1),
    runs (p 0x0B23 (le4 4 ++ [14, 0] ++ le2 1)) shadow fun p s => fld p.params 5 1 == 0 && no (candFor s p.tenant (fld p.params 0 4)),
    runs (p 0x0B23 (shOff 14)) shadow fun p s => has (candFor s p.tenant (fld p.params 0 4)) && s.rcp.shadow == none,
    runs (p 0x0B23 (shOff 14)) (on.setRcp { on.rcp with cands := [cand 3, cand 4], shadow := on.rcp.shadow.map fun x => { x with cand := 4 } }) fun p s =>
      has (candFor s p.tenant (fld p.params 0 4)) && s.rcp.shadow.any fun x => x.cand != 3,
    runs (p 0x0B23 (shOff 13)) on fun p s => has (candFor s p.tenant (fld p.params 0 4)) && s.rcp.shadow.any fun x => x.cand == 3 && x.bench != fld p.params 4 1,
    runs { p 0x0B23 (shOff 14) with principal := 0 } on fun p s => s.rcp.shadow.any fun x => (findAdm s x.handle).any fun a => mayUse p a.tenant,
    (findAdm foreign 7).any fun a => !mayUse { pk 0x0B23 (shOff 14) with principal := 1 } a.tenant,
    runs (p 0x0B24 (le4 4 ++ le4 9)) shadow fun p s => no (candFor s p.tenant (fld p.params 0 4)),
    runs (p 0x0B24 (le4 3 ++ le4 8)) shadow fun p s => has (candFor s p.tenant (fld p.params 0 4)) && noR (recipeFor s p.tenant (fld p.params 4 4) 0x24),
    runs (p 0x0B25 (le4 8)) t fun p s => noR (recipeFor s p.tenant (fld p.params 0 4) 0x20),
    runs (pk 0x0B20 (cfg 1)) v fun p s => cacheFault s p == some (stBAD_PARAM, 0x06), runs (p 0x0B20 (cfg 0)) v fun p s => cacheFault s p == some (stBAD_PARAM, 0x26),
    runs (p 0x0B20 (cfg 4096)) v fun p s => cacheFault s p == none && s.rcp.cacheCfg == none && need p s,
    runs (pk 0x0B21 (label 2 1)) t fun p _ => p.params.length != 4 + 12 * fld p.params 0 2,
    runs (pk 0x0B21 (label 1 1)) t fun p s => p.params.length == 16 && fld p.params 0 2 == 1 && labelTarget s p.params 0 == .inr (1, 7),
    runs (pk 0x0B21 (at_ 5)) t fun p s => p.params.length == 16 && labelTarget s p.params 0 == .inr (1, 0),
    runs (pk 0x0B21 (label 1 2)) t fun p s => p.params.length == 4 + 12 * fld p.params 0 2 && labelTarget s p.params 0 == .inl (stBAD_PARAM, 0x24),
    runs (pk 0x0B21 (at_ 10)) t fun p s => p.params.length == 4 + 12 * fld p.params 0 2 && labelTarget s p.params 0 == .inl (stBAD_PARAM, 0x24),
    decide (({ freeEntry with lock := true } : CacheEntry).lock = true) && !freeEntry.lock,
    runs (p 0x0B22 (ask 16000)) t fun p s => fits s p.params && p.cls == 7 && p.tenant == 0,
    running q 6 c && c.arg0 == 0 && c.arg1 == 0 && fld c.body 12 4 == 0 && q.rcp.epoch == none && (findP ⟨0, 5⟩ q).any (fun p => p.cls == 7) && fits q c.body,
    (let s := inEpoch (epoch 2 2) 100; temperRuns s && (epoch 2 2).done == epochSteps (epoch 2 2)), (epoch 1 1).done != epochSteps (epoch 1 1),
    runs (p 0x0B23 (le4 3 ++ [14, 1] ++ le2 1)) shadow fun p s => fld p.params 5 1 == 1 && shadowFault s p == none &&
      (match temperFor s, findRecipe s (benchOf s (fld p.params 4 1)).recipe with
        | .inr (tb, c), some x => shorts s (vEff s.led.vadm) 7 (withTable (shadowDemands s x.image (fld p.params 4 1) (fld p.params 6 2) tb c)) == []
        | _, _ => false),
    runs (p 0x0B23 (le4 3 ++ [14, 0] ++ le2 0)) on fun p s => fld p.params 5 1 == 0 && has (candFor s p.tenant (fld p.params 0 4)) &&
      s.rcp.shadow.any (fun x => x.cand == 3 && x.bench == fld p.params 4 1 && (findAdm s x.handle).any fun a => mayUse p a.tenant),
    runs (p 0x0B24 (le4 3 ++ le4 9)) bare fun p s => has (candFor s p.tenant (fld p.params 0 4)) && hasR (recipeFor s p.tenant (fld p.params 4 4) 0x24) &&
      promoteFault s (cand 3) (recipe 9 .active { image with rflags := 4 }) == some (stDENIED, noField),
    runs (p 0x0B24 (le4 3 ++ le4 9)) shadow fun p s => has (candFor s p.tenant (fld p.params 0 4)) && hasR (recipeFor s p.tenant (fld p.params 4 4) 0x24) &&
      liveBenches s 9 == [14] && slotFault s 9 == none && shadowedSpan s (cand 3) 9 == some 0,
    runs (p 0x0B25 (le4 9)) bare fun p s => hasR (recipeFor s p.tenant (fld p.params 0 4) 0x20) && slotFault s 9 == some (stDENIED, noField),
    runs (p 0x0B25 (le4 9)) t fun p s => hasR (recipeFor s p.tenant (fld p.params 0 4) 0x20) && slotFault s 9 == none && liveBenches s 9 == [14] ]

theorem test_where_tempering : wTempering.all id = true := by decide +kernel

/-- A candidate of the slot size that the image names (log entry 12). -/
def sized : Cand := { cand 3 with params := List.replicate (Config.slotSize [7]) 0 }

/-- It fits the bench, and nothing forbids its promotion. -/
theorem test_where_promote : promoteFault (tempering fun r => { r with cands := [sized] }) sized (recipe 9 .active image) = none := by
  have l : liveBenches (tempering fun r => { r with cands := [sized] }) 9 = [14] := by decide +kernel
  have d : ((benchOf (tempering fun r => { r with cands := [sized] }) 14).cert.any fun k => k.digest == sized.digest) = true := by decide +kernel
  have i : (benchOf (tempering fun r => { r with cands := [sized] }) 14).image = [7] := by decide +kernel
  have f : candFits (tempering fun r => { r with cands := [sized] }) sized 14 = true := by
    simp only [candFits, i, d, Bool.true_and]
    simp [sized]
  have h : shadowedSpan (tempering fun r => { r with cands := [sized] }) sized 9 = some 0 := by decide +kernel
  have g : slotFault (tempering fun r => { r with cands := [sized] }) 9 = none := by decide +kernel
  have e : (recipe 9 .active image).handle = 9 := rfl
  have m : (recipe 9 .active image).image.shMin = 0 := rfl
  simp [promoteFault, e, m, l, f, h, g]

/-! ## Faults and restarts -/

def wFaults : List Bool :=
  let at_ := fun (f : Faults → Faults) => up.setFlt (f up.flt)
  let resetting := modBench 15 (fun x => { x with state := .resetting, resetting := some ⟨2, 1, 0⟩ }) up
  let cfg := fun cls n w => le1 cls ++ le1 n ++ le2 w
  let inj := fun tg inst sp => le1 tg ++ le1 0 ++ le2 inst ++ le4 sp
  let twice := fun t => at_ fun f => { f with restarts := [t, t] }
  let x : Injection := { target := 10, inst := 31, at_ := some 5 }
  let now_ := fun (t : Nat) => at_ fun f => { f with injections := [{ target := t, inst := 0, at_ := none }] }
  let sched := fun hwm => (let s := at_ fun f => { f with injections := [x] }; s.setPos { s.pos with hwm := hwm })
  [ runs (pk 0x0C01 (le4 0 ++ le2 1 ++ le2 0)) up fun p _ => fld p.params 4 2 == 1, runs (pk 0x0C01 (le4 0 ++ le2 31 ++ le2 0)) up fun p _ => fld p.params 4 2 == 31,
    runs (pk 0x0C02 []) up fun _ _ => true, runs (pk 0x0C01 (le4 0 ++ le2 0 ++ le2 0)) up fun p _ => decide (fld p.params 4 2 < 1),
    runs (pk 0x0C01 (le4 0 ++ le2 32 ++ le2 0)) up fun p _ => decide (31 < fld p.params 4 2),
    runs (pk 0x0C10 (cfg 0 8 10)) up fun p _ => decide (fld p.params 0 1 < 1), runs (pk 0x0C10 (cfg 6 8 10)) up fun p _ => decide (5 < fld p.params 0 1),
    runs (pk 0x0C10 (cfg 1 2 0)) up fun p _ => fld p.params 1 1 == 2 && decide (fld p.params 2 2 < 1),
    runs (pk 0x0C10 (cfg 5 64 3601)) up fun p _ => fld p.params 1 1 == 64 && decide (3600 < fld p.params 2 2),
    runs (pk 0x0C20 (inj 5 0 0)) up fun p _ => !injectTargets.contains (fld p.params 0 1),
    runs (pk 0x0C20 (inj 3 4 0)) up fun p s => injectTargets.contains (fld p.params 0 1) && !injectInstOk s (fld p.params 0 1) (fld p.params 2 2),
    runs (pk 0x0C20 (inj 8 0 (2 ^ 30 + 1))) up fun p s => injectInstOk s 8 0 && !anyRecovery s && !s.flt.fatal && !inHorizon s (BitVec.ofNat 32 (fld p.params 4 4)),
    runs (pk 0x0C20 (inj 8 0 (2 ^ 30))) up fun p s => injectInstOk s 8 0 && !anyRecovery s && !s.flt.fatal && inHorizon s (BitVec.ofNat 32 (fld p.params 4 4)),
    up.flt.injections[0]? == none, ((now_ 8).flt.injections[0]?).any fun x => x.target == 8 && x.at_.all (reached (now_ 8)) && domOn (now_ 8) 2 && !(now_ 8).flt.fatal,
    ((now_ 7).flt.injections[0]?).any fun x => x.target == 7 && x.at_.all (reached (now_ 7)) && domOn (now_ 7) 2,
    ((now_ 2).flt.injections[0]?).any fun x => (inject x ((now_ 2).setFlt { (now_ 2).flt with injections := [] })).isNone,
    (let s := at_ fun f => { f with restarting := true }; domOn s 2 && !s.flt.fatal), up.pwr.mgmtRestart == false,
    (up.setPwr { up.pwr with mgmtRestart := true }).pwr.mgmtRestart,
    runs (pk 0x0C10 (cfg 1 1 10)) up fun p _ => fld p.params 0 1 == 1 && decide (fld p.params 1 1 < 2),
    runs (pk 0x0C10 (cfg 5 65 10)) up fun p _ => fld p.params 0 1 == 5 && decide (64 < fld p.params 1 1),
    runs (pk 0x0C10 (cfg 5 64 3600)) up fun p s => fld p.params 1 1 == 64 && fld p.params 2 2 == 3600 && (s.flt.thresh[4]?).isSome,
    runs (pk 0x0C20 (inj 2 255 0)) resetting fun p s => injectTargets.contains (fld p.params 0 1) && injectInstOk s (fld p.params 0 1) (fld p.params 2 2) &&
      recovering s,
    runs (pk 0x0C20 (inj 10 31 0)) up fun p s => injectTargets.contains (fld p.params 0 1) && injectInstOk s (fld p.params 0 1) (fld p.params 2 2) &&
      !recovering s && !s.flt.fatal && fld p.params 4 4 == 0,
    (sched 4).flt.injections[0]? == some x && !x.at_.all (reached (sched 4)),
    (sched 5).flt.injections[0]? == some x && x.at_.all (reached (sched 5)) &&
      (inject x ((sched 5).setFlt { (sched 5).flt with injections := dropAt (sched 5).flt.injections 0 })).isSome,
    domOn up 2 && !up.flt.fatal && !up.flt.restarting && decide ((restartsIn (up.at_ 0)).length < 2),
    domOn (twice 0) 2 && decide (2 ≤ (restartsIn ((twice 0).at_ (sTicks 600 - 1))).length) && decide ((restartsIn ((twice 0).at_ (sTicks 600))).length < 2),
    (at_ fun f => { f with restarting := true }).flt.restarting, (at_ fun f => { f with fatal := true }).flt.fatal, domOn up 1, domOn State.reset 1 == false ]

theorem test_where_faults : wFaults.all id = true := by decide +kernel

/-! ## Power and heat -/

def power (f : Power → Power) : State := up.setPwr (f up.pwr)
def down : State := up.setPwr { up.pwr with domains := [true, false] ++ List.replicate 11 false }
/-- The junction at a temperature, in tenths of a degree. -/
def hot (t : Int) : List Int := [t, 0, 0, 0, 0, 0, 0, 0]

def wPower : List Bool :=
  let ev := fun (s : State) (i : Instr) => invB s && domOn s 2 && (match exec i s with
    | .next _ => true
    | _ => false)
  let rails := power fun p => { p with avs := List.replicate 4 800 }
  let sag := power fun p => { p with sag := true }
  [ !domOn State.reset 2, decide (16800 ≤ 16800) && decide (junction (hot 1149) < 1150) && decide (junction (hot 1249) < 1250),
    !rails.pwr.railWarn.contains 2 && !railBelow rails 2 752 94 (·.warn), !railBelow rails 2 720 90 (·.reset), up.pwr.sagDown == false,
    getI up.pwr.pll 25 false == false, decide (4 ≤ 4), !up.pwr.therm && decide (970 < junction (hot 971)),
    domOn up 2 && (up.pwr.throttle[3]?).isSome && decide ((1000 : Int) < 1001) && decide ((1049 : Int) < 1050), decide (3 < 4) && decide (3 ≤ 3),
    (up.pwr.avs[4]?).isNone && (up.pwr.avs[3]?).isSome && !domOn (power fun p => { p with domains := upd p.domains 10 fun _ => false }) 10,
    decide (2 ≤ 2) && decide (30000 ≤ 30000), (up.pwr.inOk[1]?).isSome && decide (19199 < 19200), up.kw.sbLink && domOn up 1,
    domOn up 2 && !up.pwr.sag && decide (18499 < up.pwr.sagTh), sag.pwr.sag, decide (up.pwr.sagTh ≤ 18500) && decide (18999 < up.pwr.sagTh + 500),
    sag.pwr.sag && decide (sag.pwr.sagTh + 500 ≤ 19000), (power fun p => { p with sagDown := true }).pwr.sagDown && decide (19200 ≤ 19200),
    ev up (.sagReset 16799 0), ev rails (.railReset 2 719 0) && railBelow rails 2 719 90 (·.reset) && !railBelow rails 2 720 90 (·.reset),
    ev up (.thermalShutdown (hot 1150) 0) && decide (1150 ≤ junction (hot 1150)) && !decide (1150 ≤ junction (hot 1149)),
    ev up (.thermalCutoff (hot 1250) 0) && decide (1250 ≤ junction (hot 1250)),
    !rails.pwr.railWarn.contains 2 && railBelow rails 2 751 94 (·.warn) && !railBelow rails 2 752 94 (·.warn),
    (let s := power fun p => { p with avs := List.replicate 4 800, railWarn := [2] }; s.pwr.railWarn.contains 2 && railBack s 2 768 && !railBack s 2 767),
    railBelow up 12 0 90 (·.reset), railBelow up 1 0 90 (·.reset), domOn up 2 && getI up.pwr.pll 0 false && getI up.pwr.pll 2 false && getI up.pwr.pll 24 false,
    domOn up 2 && !up.pwr.therm && decide (1000 ≤ junction (hot 1000)), (power fun p => { p with therm := true }).pwr.therm && decide (junction (hot 970) ≤ 970),
    (power fun p => { p with throttle := [0, 0, 0, 2] }).pwr.throttle[3]? == some 2, (power fun p => { p with throttle := [0, 0, 0, 3] }).pwr.throttle[3]? == some 3,
    domOn up (7 + 3) && (up.pwr.avs[3]?).isSome && decide (avsFloor up 3 ≤ getI up.pwr.vmax 3 850),
    (up.pwr.inOk[1]?).isSome && (up.pwr.vin[1]?).isSome, (up.pwr.inOk[0]?).isSome && decide (19200 ≤ 30000) && decide (30000 < 30001),
    invB up && domOn up 1 && (List.range 4).all fun i => decide (getI [8999, 8999, 8999, 8999] i 0 < 9000), invB down && !domOn down 1 ]

theorem test_where_power : wPower.all id = true := by decide +kernel

def wPowerOps : List Bool :=
  let dom := fun c act force => [BitVec.ofNat 8 c, act, force, 0]
  let code := fun (p : Packet) => 4 ≤ fld p.params 0 1 && fld p.params 0 1 ≤ 12
  let noMem := power fun p => { p with domains := upd (upd p.domains 3 fun _ => false) 10 fun _ => false }
  let off := power fun p => { p with domains := upd p.domains 12 fun _ => false }
  let used := bench .built id
  let q := dom 7 0
  let avs := fun k lo hi => le1 k ++ [0] ++ le2 lo ++ le2 hi ++ [0, 0]
  [ runs (pk 0x0D10 (dom 4 2 0)) up fun p _ => code p && decide (1 < fld p.params 1 1),
    runs (pk 0x0D10 (dom 12 1 0)) up fun p s => code p && invB s && domOn s 12 && (domParents 12).all (domOn s),
    runs (pk 0x0D21 (avs 4 600 900)) up fun p _ => decide (3 < fld p.params 0 1), runs (pk 0x0D21 (avs 3 599 900)) up fun p _ => decide (fld p.params 2 2 < 600),
    runs (pk 0x0D21 (avs 3 901 901)) up fun p _ => decide (900 < fld p.params 2 2), runs (pk 0x0D21 (avs 3 700 699)) up fun p _ => decide (fld p.params 4 2 < fld p.params 2 2),
    runs (pk 0x0D21 (avs 3 900 901)) up fun p _ => fld p.params 2 2 == 900 && decide (900 < fld p.params 4 2),
    runs (pk 0x0D01 []) up fun _ _ => true, runs (pk 0x0D02 []) up fun _ _ => true, runs (pk 0x0D10 (dom 3 0 0)) up fun p _ => decide (fld p.params 0 1 < 4),
    runs (pk 0x0D10 (dom 13 0 0)) up fun p _ => decide (12 < fld p.params 0 1),
    runs (pk 0x0D10 (dom 10 1 0)) noMem fun p s => code p && fld p.params 1 1 == 1 && !(domParents 10).all (domOn s),
    runs (pk 0x0D10 (dom 12 1 0)) off fun p s => code p && invB s && fld p.params 1 1 == 1 && (domParents 12).all (domOn s),
    runs (pk 0x0D10 (dom 12 0 0)) off fun p s => code p && fld p.params 1 1 == 0 && !domOn s 12,
    runs (pk 0x0D10 (q 0)) used fun p s => code p && fld p.params 1 1 == 0 && domOn s 7 && !bit (fld p.params 2 1) 0 && s.led.held.any (usesDomain s 7),
    runs (pk 0x0D10 (q 1)) used fun p s => code p && fld p.params 1 1 == 0 && domOn s 7 && bit (fld p.params 2 1) 0,
    runs (pk 0x0D10 (q 0)) up fun p s => code p && fld p.params 1 1 == 0 && domOn s 7 && !s.led.held.any (usesDomain s 7),
    runs (pk 0x0D20 (le4 17400)) up fun p _ => decide (fld p.params 0 2 < 17500), runs (pk 0x0D20 (le4 22100)) up fun p _ => decide (22000 < fld p.params 0 2),
    runs (pk 0x0D20 (le4 17550)) up fun p _ => fld p.params 0 2 % 100 != 0,
    runs (pk 0x0D20 (le4 22000)) up fun p s => fld p.params 0 2 % 100 == 0 && decide (fld p.params 0 2 ≤ s.pwr.vbus),
    runs (pk 0x0D20 (le4 17500)) (power fun x => { x with vbus := 17499 }) fun p s => fld p.params 0 2 % 100 == 0 && domOn s 2 && decide (s.pwr.vbus < fld p.params 0 2),
    runs (pk 0x0D21 (avs 3 600 900)) up fun p s => decide (fld p.params 0 1 ≤ 3) && fld p.params 2 2 == 600 && fld p.params 4 2 == 900 && (s.pwr.avs[3]?).isSome ]

theorem test_where_power_ops : wPowerOps.all id = true := by decide +kernel

/-! ## Start-up and the Record -/

def boot (f : Boot → Boot) (s : State) : State := s.setBoot (f s.boot)
def report : StepReport := { ok := true, failed := [], slotAValid := true, slotBValid := false, pstatic := 0, ssiWord := none, hostUp := true, link := (4, 16) }
def keeper (ab : Bool × Bool) : State := boot (fun b => { b with keeperOn := true, keeperValid := true, keeperAB := ab }) up

def wStart : List Bool :=
  let down' := down
  let at_ := fun n => boot (fun b => { b with step := n, done := false }) State.reset
  let held_ := boot (fun b => { b with keeperValid := true, kind := 0, cK := -5 }) (at_ 3)
  let unready := boot (fun b => { b with kind := 0, draft := { b.draft with anchor := 1 } }) (at_ 3)
  let ready := fun n => (let s := at_ n; invB s && s.boot.step == n && !s.flt.fatal && stepReady report (s.at_ (msTicks 10)))
  let sel := fun (d : Rec → Rec) (a b : Bool) => chooseSlot (d Rec.reset) fun i => if i = 0 then a else b
  [ ready 2, ready 7, ready 8, (sel id true true).isSome, (sel id false false).isNone, report.ok && !{ report with ok := false }.ok,
    invB up && up.boot.step == 11 && !up.boot.keeperOn, (let s := up.setFlt { up.flt with fatal := true }; invB s && s.flt.fatal),
    (boot (fun b => { b with step := 0 }) down').boot.step == 0 && !domOn down' 2 && (down'.setPwr { down'.pwr with thermalDown := 8 }).pwr.thermalDown != 0,
    invB State.reset && State.reset.boot.step == 0,
    (let s := { keeper (false, false) with boot := { (keeper (false, false)).boot with keeperValid := false } }; s.boot.keeperOn && !s.boot.keeperValid && quadStep (false, false) (true, false) != 2),
    invB State.reset && State.reset.boot.step == 0 && !domOn State.reset 2 && State.reset.pwr.thermalDown == 0 && !State.reset.pwr.sagDown,
    invB up && decide (19199 < 19200) && up.boot.step != 0 && domOn up 2, invB up && decide (10 < up.boot.step), invB (at_ 1) && !(at_ 1).flt.fatal && stepReady report (at_ 1),
    invB (at_ 10) && !(at_ 10).flt.fatal && stepReady report (at_ 10), invB held_ && held_.boot.step == 3 && held_.boot.kind != 3 && held_.boot.keeperValid &&
      !bit held_.boot.draft.anchor 2 && !held_.flt.fatal, !stepReady report unready && stepReady { report with ssiWord := some 0 } unready,
    quadStep (keeper (false, false)).boot.keeperAB (true, true) == 2, quadStep (keeper (true, false)).boot.keeperAB (true, false) == 0,
    quadStep (keeper (false, true)).boot.keeperAB (false, false) == 1, quadStep (keeper (false, false)).boot.keeperAB (false, true) == 3,
    (keeper (false, false)).boot.keeperOn && (keeper (false, false)).boot.keeperValid, !up.boot.keeperOn,
    !domOn State.reset 1 && !domOn State.reset 2, domOn up 1 ]

theorem test_where_start : wStart.all id = true := by decide +kernel

def wRecord : List Bool :=
  let want := boot (fun b => { b with wanted := some 4, draft := { b.draft with sectors := 0 } }) up
  let degraded := boot (fun b => { b with degraded := true }) want
  let w : RecWrite := { image := Rec.reset, bank := 1, page := 5, tries := 0, pages := 0, since := 0, failed := [] }
  let writing := boot (fun b => { b with writing := some w }) up
  let erasing := boot (fun b => { b with erasing := some (31, false) }) up
  let rc := fun sel anchor pre => [BitVec.ofNat 8 sel, BitVec.ofNat 8 anchor, 0, 0] ++ le8 7 ++ le4 1 ++ le4 pre ++ List.replicate 32 0
  let slot := fun v => boot (fun b => { b with fw := List.replicate 2 { valid := v, version := 1, image := [] } }) up
  let objs := fun (b : Bytes) (s : State) => (let t := withObjs [{ obj 8 .ingot 0x10000 b.length with pinned := true }] s
    t.setDraw { t.draw with mem := memPlace t.draw.mem [(0x10000, b)] })
  let otp := boot (fun b => { b with otpFw := neutral, otpBundle := neutral, keys := [none, none] }) up
  let fw := [0x56, 0x32, 0x34, 0x46] ++ le2 1 ++ le2 0 ++ le4 3 ++ le4 0 ++ List.replicate 12 0 ++ sha256 [] ++ List.replicate 132 0 ++ neutral ++ List.replicate 32 0
  let bundle := le4 1 ++ le2 0 ++ neutral ++ List.replicate 32 0
  let bad := fw.take 255 ++ [1]
  let noPage := boot (fun b => { b with dirty := List.range 32 }) want
  let aband := boot (fun b => { b with abandon := true }) writing
  let newer := boot (fun b => { b with keys := [some { seq := 1, entries := [] }, none] }) otp
  [ noPage.boot.wanted == some 4 && mayWriteRecord (noPage.at_ 0) && !noPage.boot.degraded &&
      (blankAfter (noPage.at_ 0) (1 - noPage.boot.place.1) (lastPageOf noPage (1 - noPage.boot.place.1))).isNone,
    aband.boot.writing == some w && aband.boot.abandon, decide (31 < 32) && erasing.boot.erasing == some (31, false),
    runs (pk 0x0E20 (le4 8 ++ le4 0)) up fun p s => objectBytes p true false s == .inl (stBAD_PARAM, 0x20),
    runs (pk 0x0E30 (le4 8)) (objs bundle otp) fun p s => objectBytes p false true s == .inl (stINTERNAL, noField),
    runs (pk 0x0E30 (le4 8)) (objs bundle newer) fun p s => objectBytes p false false s == .inr bundle &&
      (bundleInForce s).any fun y => !seqAfter (bundleOf bundle).seq y.seq,
    (let s := want.setPwr { want.pwr with sag := true }; s.boot.wanted == some 4 && !mayWriteRecord (s.at_ 0)),
    want.boot.wanted == some 4 && mayWriteRecord (want.at_ 0) && !want.boot.degraded &&
      (blankAfter (want.at_ 0) (1 - want.boot.place.1) (lastPageOf want (1 - want.boot.place.1))).isSome,
    degraded.boot.wanted == some 4 && mayWriteRecord (degraded.at_ 0) && degraded.boot.degraded, up.boot.wanted == none, writing.boot.writing == some w && !writing.boot.abandon,
    up.boot.writing == none, erasing.boot.erasing == some (31, false), up.boot.erasing != some (31, false), runs (pk 0x0E01 []) up fun _ _ => true,
    runs (pk 0x0E02 []) up fun _ _ => true, runs (pk 0x0E31 (le4 7)) up fun _ _ => true,
    runs (pk 0x0E10 (rc 1 3 0)) up fun p _ => recConfigBad p.params == some 0x21, runs (pk 0x0E10 (rc 4 0 33)) up fun p _ => recConfigBad p.params == some 0x30,
    runs (pk 0x0E10 (rc 7 2 32)) up fun p _ => recConfigBad p.params == none, runs (pk 0x0E21 []) (slot false) fun _ s => !(fwOf s (idleSlot s)).valid,
    runs (pk 0x0E21 []) (slot true) fun _ s => (fwOf s (idleSlot s)).valid, runs (pk 0x0E22 []) (boot (fun b => { b with trial := true }) up) fun _ s => s.boot.trial,
    runs (pk 0x0E22 []) (boot (fun b => { b with trial := false }) up) fun _ s => !s.boot.trial,
    runs (pk 0x0E20 (le4 8 ++ le4 0)) (objs fw otp) fun p s => objectBytes p true false s == .inr fw && imageOk s.boot.otpFw fw,
    runs (pk 0x0E20 (le4 8 ++ le4 0)) (objs bad otp) fun p s => objectBytes p true false s == .inr bad && !imageOk s.boot.otpFw bad,
    runs (pk 0x0E30 (le4 8)) (objs (le2 0 ++ [0, 0] ++ le2 17) otp) fun p s => objectBytes p false false s == .inr [0, 0, 0, 0, 17, 0] &&
      !bundleOk s.boot.otpBundle [0, 0, 0, 0, 17, 0],
    runs (pk 0x0E30 (le4 8)) (objs bundle otp) fun p s => objectBytes p false false s == .inr bundle && bundleInForce s == none ]

theorem test_where_record : wRecord.all id = true := by decide +kernel

/-- With the neutral key the bundle's signature verifies, whether or not the bytes are hashed first (log entry 12). -/
theorem test_where_bundle : bundleOk neutral (le4 1 ++ le2 0 ++ neutral ++ List.replicate 32 0) = true := by
  have h (m : Bytes) (l : m = sha256 (le4 1 ++ le2 0) ∨ m = le4 1 ++ le2 0) : edVerify neutral m (neutral ++ List.replicate 32 0) = true := by
    rcases l with l | l <;> subst l <;> decide +kernel
  have v : edVerify neutral (if Config.bundleHashed then sha256 (le4 1 ++ le2 0) else le4 1 ++ le2 0) (neutral ++ List.replicate 32 0) = true :=
    h _ (by split <;> simp)
  have d : ((le4 1 ++ le2 0 ++ neutral ++ List.replicate 32 0 : Bytes).drop 6).take 64 = neutral ++ List.replicate 32 0 := by decide +kernel
  have n : fld (le4 1 ++ le2 0 ++ neutral ++ List.replicate 32 0) 4 2 = 0 := by decide +kernel
  have t : (le4 1 ++ le2 0 ++ neutral ++ List.replicate 32 0 : Bytes).take 6 = le4 1 ++ le2 0 := by decide +kernel
  have l : (le4 1 ++ le2 0 ++ neutral ++ List.replicate 32 0 : Bytes).length = 70 := by decide +kernel
  unfold bundleOk
  simp only [n, Nat.mul_zero, Nat.add_zero, d, t, l, v]
  decide

/-! ## Results that the spec's worked examples give -/

/-- The check value of R127. -/
theorem test_crc32c : crc32c ("123456789".toList.map fun c => BitVec.ofNat 8 c.toNat) = 0xE3069283 := by decide +kernel

/-- Line P3: 5,000 nm a count, and triggers 400 pu apart. -/
def lineP3 : State :=
  let s := up.setPos { up.pos with scale := 5000 }
  let v := modView 1 (fun x => { x with configured := true, width := 16384, tileW := 512, tileH := 256, tileFmt := 2 }) s
  v.setLanes { v.lanes with tg := v.lanes.tg.map fun g => { g with p := 400 } }

/-- The worked case of chapter 0: a marker 42.5 m ahead is in the horizon across the wrap of SPOS, and 400 m is not. -/
theorem test_horizon :
    let s := lineP3.setPos { lineP3.pos with count := 0xFFF0000, frac := 0 }
    spos s = 0xFFF00000 ∧ inHorizon s 0x080B3200 = true ∧ expand s 0x080B3200 = 0x1080B3200 ∧ inHorizon s (0xFFF00000 + 1280000000) = false := by
  decide +kernel

/-- The capacities of the worked case of chapter 2, at 18.36 m/s, and the marker's lead of Line P3 (17). -/
theorem test_capacities :
    let v := vAdmOf lineP3 18000000
    let warm := lineP3.setLed { lineP3.led with tamb := 45, pstatic := 90 }
    capOf lineP3 v 4 0 = 83660130718 ∧ capOf lineP3 v 5 0 = 8923747276 ∧ capOf lineP3 v 6 0 = 108932 ∧ capOf lineP3 v 7 2 = 65359 ∧ capOf warm v 8 0 = 7080 ∧
      leadAt lineP3 v 3000 = 177432 := by decide +kernel

/-- The cycles of Table 8.2 and of its worked case. -/
theorem test_assay_cycles : cyclesS 64 = 23 ∧ cyclesS 256 = 146 ∧ cyclesS 4096 = 4448 ∧
    opCycles { noOp with cmd := 0x103, n := 4096, k := 256 } = 20832 ∧ opCycles { noOp with cmd := 0x104, q := 16, k := 4, libCount := 12288 } = 3472 := by
  decide +kernel

/-- The lag of the plate-edge sensor of chapter 10: TS 20 us and LIMIT 25. -/
theorem test_dio_lag : dioLag (chan31 ((25 <<< 8) + (20 <<< 16) + 9) id) 31 = 514000 := by decide +kernel

/-- The capture, the epoch and the promotion of chapter 17. -/
theorem test_tempering_figures :
    captureDemand lineP3 1 4 (64 + tileBytes 2 512 256) 0xFFFFFFFF = 65680000 ∧ boundaryAfter 16 17000000000 = 17000038400 ∧ low32 17000038400 = 0xF5480000 ∧
      epochSteps { epoch 0 0 with entries := List.range 160, passes := 4, b := 64 } = 10 := by decide +kernel
theorem test_epoch_demands :
    (tileDemands 2 { certOf [] with cTile := 625000, eTile := 28125000, sheetBytes := 786432, ingotBytes := 196608 } 64000
      (puPerMetre lineP3).1 ((puPerMetre lineP3).2 * 3200000000)).map (fun d => (d.budget, d.amount)) =
      [(1, 40000000), (4, 50331648), (5, 12582912), (6, 0), (8, 1800)] := by decide +kernel

/-! ## Steps, words and ill-formed commands -/

/-- The state after a step, if there is one. -/
def after? (o : Host.Outcome State Fault Refusal) : Option State :=
  match o with
  | .next s => some s
  | _ => none

theorem test_step_idles : (after? (step up)).map (fun s => (s.now, s.pending)) = some (1, []) := by decide +kernel
theorem test_step_takes_the_front :
    (after? (step { up with pending := [.keeperLow true, .keeperOverrun] })).map (fun s => (s.pwr.keeperLow, s.pending)) = some (true, [.keeperOverrun]) := by
  decide +kernel
theorem test_no_word_spells_a_command : decodeTableWord 16 0x0101 = none := rfl
theorem test_fetch_word_places_none (s : State) (n w : Nat) : s.withFetchWord n w = s := rfl

/-- One command for each check of well-formedness, just outside it; each is refused. -/
theorem test_ill_formed_hosts : ([.sysStatus ⟨65, 0⟩, .descriptorFetch 64 true 0, .sidebandDatagram ⟨.udp, 0, 0, 0, 0, false, List.replicate 65536 0⟩ 0,
    .msixUnmask 0 5, .w1cClear 64 0 0 0, .registerWrite 0 65536 false 0, .barAccessError 0 0 0 false, .numvfsReduce 64,
    .kwSqDbWrite 0 0 ⟨[(2 ^ 64, [0])], []⟩, .kwSqDbWrite 0 0 ⟨[], [(2 ^ 64, 1)]⟩, .plnStatRidxWrite 4 0,
    .hostLinkReturn ⟨6, 4, 0⟩, .hostLinkReturn ⟨0, 4, 0⟩, .hostLinkReturn ⟨4, 3, 0⟩] : List Instr).all (fun i => !i.wf) = true := by decide +kernel
theorem test_ill_formed_lanes : ([.auxEncoderEdge 0 ⟨.forward, 0⟩ 0, .auxEncoderEdge 4 ⟨.forward, 0⟩ 0, .zEdgeCapture ⟨4, true, 0⟩ 0, .triggerFire 8, .triggerMessageSend 24,
    .cxpPacketReceived 0 ⟨.scanLine 0 0 0 [65536] true, false⟩, .slotTimeout 32 0, .scanLineProcess 4 0] : List Instr).all (fun i => !i.wf) = true := by decide +kernel
theorem test_ill_formed_fabric : ([.tileDispatch 16 0, .certOverrun 0 256, .benchPrivateFault 0 0 0 0, .benchPrivateFault 0 0 7 0, .chipWideFault 6 0,
    .tileComplete 16 0 1 0, .tileComplete 0 256 1 0, .nop 0, .nop 7, .waitEvent 1 64, .memoryGrant true 4 [] false 0,
    .memoryGrant false 16 [] false 0, .memoryGrant true 0 [⟨0, 0, true, .stake 256 0⟩] false 0, .memoryGrant true 0 [⟨0, 0, true, .view 4 0⟩] false 0,
    .memoryGrant true 0 [⟨0, 0, true, .list 7⟩] false 0] : List Instr).all (fun i => !i.wf) = true := by decide +kernel
theorem test_ill_formed_field : ([.actuationSwitchOn 0 3 0, .feedTrip 16 0 0 0, .feedTrip 0 65536 0 0, .feedTrip 0 0 2 0, .fieldSupply 2 0 0, .dioBreak 32 0,
    .supplyLost 2 0, .railWarn 0 0 0, .railReset 13 0 0, .pllLoss 25 0, .thermWarn (hot 0 ++ [0]) 0, .thermThrottle 4 true 0 0, .fanFail 4 0,
    .fanFail 0 65536] : List Instr).all (fun i => !i.wf) = true := by decide +kernel
theorem test_ill_formed_supply : ([.bootStepComplete { report with pstatic := 65536 } 0, .couplerStatusFrame 0 true 65536 0, .mgmtSupplyLoss [0, 0, 0],
    .mgmtSupplyReturn 4 0, .sectorEraseDone 32 true] : List Instr).all (fun i => !i.wf) = true := by decide +kernel
/-- The same operands at their limits are well-formed. -/
theorem test_well_formed : ([.sysStatus ⟨64, 0⟩, .msixUnmask 63 4, .numvfsReduce 63, .hostLinkReturn ⟨5, 8, 0⟩, .auxEncoderEdge 3 ⟨.both, 0⟩ 0, .benchPrivateFault 15 255 6 0, .chipWideFault 8 0,
    .memoryGrant false 15 [⟨0, 0, true, .stake 255 0⟩] false 0, .railReset 12 0 0, .pllLoss 24 0, .thermWarn (hot 0) 0,
    .mgmtSupplyReturn 3 0, .sectorEraseDone 31 true] : List Instr).all Instr.wf = true := by decide +kernel

end Sys2Proof.Machine.Tests
end

section
/-! PROOFS. What notices, log entries, repeated transitions and Record requests leave alone, as equations of the chapters
that chapter 01 reads back; and the entry of a table that was changed. -/

namespace Sys2Proof.Machine

open Sys2Proof

/-! ## Chapters outside a frame -/

theorem Frame.pos_eq {l : List Chapter} {s t : State} (h : Frame l s t) (hp : Chapter.pos ∉ l) : t.pos = s.pos := h .pos hp
theorem Frame.led_eq {l : List Chapter} {s t : State} (h : Frame l s t) (hp : Chapter.led ∉ l) : t.led = s.led := h .led hp
theorem Frame.boot_eq {l : List Chapter} {s t : State} (h : Frame l s t) (hp : Chapter.boot ∉ l) : t.boot = s.boot := h .boot hp
theorem Frame.lanes_eq {l : List Chapter} {s t : State} (h : Frame l s t) (hp : Chapter.lanes ∉ l) : t.lanes = s.lanes :=
  h .lanes hp

/-- The chapters a notice of any scope may change, measured from the state it is raised in. -/
theorem noticeUnitAt_frame_self (code : Half) (sp : Word) (data : Bytes) (s : State) :
    Frame [.emitted, .host, .kw, .fab, .flt] s (noticeUnitAt code sp data s) :=
  noticeUnitAt_frame code sp data s (List.Subset.refl _) (Frame.refl _ s)

theorem noticeHolderAt_frame_self (n : Nat) (code : Half) (sp : Word) (data : Bytes) (s : State) :
    Frame [.emitted, .host, .kw, .fab, .flt] s (noticeHolderAt n code sp data s) :=
  noticeHolderAt_frame n code sp data s (List.Subset.refl _) (Frame.refl _ s)

@[simp] theorem noticeUnitAt_pos (code : Half) (sp : Word) (data : Bytes) (s : State) :
    (noticeUnitAt code sp data s).pos = s.pos := (noticeUnitAt_frame_self code sp data s).pos_eq (by decide)
@[simp] theorem noticeUnitAt_boot (code : Half) (sp : Word) (data : Bytes) (s : State) :
    (noticeUnitAt code sp data s).boot = s.boot := (noticeUnitAt_frame_self code sp data s).boot_eq (by decide)
@[simp] theorem noticeUnit_pos (code : Half) (data : Bytes) (s : State) : (noticeUnit code data s).pos = s.pos :=
  noticeUnitAt_pos code (spos s) data s
@[simp] theorem noticeUnit_boot (code : Half) (data : Bytes) (s : State) : (noticeUnit code data s).boot = s.boot :=
  noticeUnitAt_boot code (spos s) data s
@[simp] theorem noticeHolderAt_pos (n : Nat) (code : Half) (sp : Word) (data : Bytes) (s : State) :
    (noticeHolderAt n code sp data s).pos = s.pos := (noticeHolderAt_frame_self n code sp data s).pos_eq (by decide)
@[simp] theorem noticeHolderAt_boot (n : Nat) (code : Half) (sp : Word) (data : Bytes) (s : State) :
    (noticeHolderAt n code sp data s).boot = s.boot := (noticeHolderAt_frame_self n code sp data s).boot_eq (by decide)
@[simp] theorem noticeHolderAt_lanes (n : Nat) (code : Half) (sp : Word) (data : Bytes) (s : State) :
    (noticeHolderAt n code sp data s).lanes = s.lanes := (noticeHolderAt_frame_self n code sp data s).lanes_eq (by decide)

@[simp] theorem logFault_pos (e : LogEntry) (s : State) : (logFault e s).pos = s.pos := rfl
@[simp] theorem logFault_boot (e : LogEntry) (s : State) : (logFault e s).boot = s.boot := rfl
@[simp] theorem wantRecord_pos (cause : Nat) (s : State) : (wantRecord cause s).pos = s.pos := rfl
@[simp] theorem wantRecord_lanes (cause : Nat) (s : State) : (wantRecord cause s).lanes = s.lanes := rfl

/-- A Record write that was asked for waits, whatever waited before (14 R676). -/
@[simp] theorem wantRecord_wanted_isSome (cause : Nat) (s : State) : (wantRecord cause s).boot.wanted.isSome = true := by
  unfold wantRecord
  cases hw : s.boot.wanted <;> simp

/-! ## Tables -/

theorem getElem?_upd_self {α : Type} {l : List α} {n : Nat} {a : α} (f : α → α) (h : l[n]? = some a) :
    (upd l n f)[n]? = some (f a) := by simp [upd, h]

theorem getI_of_getElem? {α : Type} {l : List α} {n : Nat} {a : α} (d : α) (h : l[n]? = some a) : getI l n d = a := by
  simp [getI, List.getD_eq_getElem?_getD, h]

end Sys2Proof.Machine
end

section
/-! PROOFS. Chapter 01's events: what each event command does when CTRL is on and the filter accepts it, what it does when not,
and what each event makes of the position. -/

namespace Sys2Proof.Machine

open Sys2Proof

/-! ## Arrival: the time moves on and the transition is repeated (01 R64, R65) -/

/-- The state in which an encoder transition that arrived at `t` is decoded. -/
def arrived (port : Nat) (signal : EncSignal) (t : Nat) (s : State) : State := repeatOut port signal (s.at_ t)

theorem arrived_eq (port : Nat) (signal : EncSignal) (t : Nat) (s : State) : arrived port signal t s =
    if s.dio.fieldV.any (14000 ≤ ·) then (s.at_ t).emit (.encoderOut port signal) else s.at_ t := rfl

theorem arrived_frame (port : Nat) (signal : EncSignal) (t : Nat) (s : State) :
    Frame [.now, .emitted] s (arrived port signal t s) :=
  repeatOut_frame port signal _ (by decide) (State.at__frame s t (by decide) (Frame.refl _ s))

@[simp] theorem arrived_pos (port : Nat) (signal : EncSignal) (t : Nat) (s : State) : (arrived port signal t s).pos = s.pos :=
  (arrived_frame port signal t s).pos_eq (by decide)
@[simp] theorem arrived_boot (port : Nat) (signal : EncSignal) (t : Nat) (s : State) : (arrived port signal t s).boot = s.boot :=
  (arrived_frame port signal t s).boot_eq (by decide)
@[simp] theorem arrived_now (port : Nat) (signal : EncSignal) (t : Nat) (s : State) : (arrived port signal t s).now = max s.now t := by
  rw [arrived_eq]; split <;> rfl
@[simp] theorem arrived_domOn (port : Nat) (signal : EncSignal) (t c : Nat) (s : State) :
    domOn (arrived port signal t s) c = domOn s c := by
  rw [arrived_eq]; split <;> rfl
@[simp] theorem arrived_filtered (port : Nat) (signal : EncSignal) (t q held : Nat) (s : State) :
    filtered (arrived port signal t s) q held = filtered s q held := by
  rw [arrived_eq]; split <;> rfl

/-! ## The commands -/

theorem exec_masterEdge (k : HeldEdge) (t : Nat) (s : State) : exec (.masterEdge k t) s =
    .next (if domOn s 2 && filtered s 0 k.held then masterEdge k.kind (arrived 0 (.ab k.kind) t s)
      else arrived 0 (.ab k.kind) t s) := by
  rw [← arrived_domOn 0 (.ab k.kind) t 2 s, ← arrived_filtered 0 (.ab k.kind) t 0 k.held s]; rfl

/-- A decoded edge of ENC1 to ENC3, by its kind. -/
def auxEvent (port : Nat) (k : EdgeKind) (s : State) : State :=
  match k with
  | .both => quadError port s
  | .forward => auxEdge port (edgeForward s port true) s
  | .reverse => auxEdge port (edgeForward s port false) s

theorem exec_auxEncoderEdge (port : Nat) (k : HeldEdge) (t : Nat) (s : State) : exec (.auxEncoderEdge port k t) s =
    .next (if !domOn s 2 || port < 1 || 3 < port || !filtered s port k.held then arrived port (.ab k.kind) t s
      else auxEvent port k.kind (arrived port (.ab k.kind) t s)) := by
  rw [← arrived_domOn port (.ab k.kind) t 2 s, ← arrived_filtered port (.ab k.kind) t port k.held s]; rfl

theorem exec_zEdgeCapture (z : ZEdge) (t : Nat) (s : State) : exec (.zEdgeCapture z t) s =
    .next (if !domOn s 2 || 3 < z.port || !z.rising || !filtered s z.port z.held then arrived z.port (.z z.rising) t s
      else if z.port = 0 then masterZ (arrived z.port (.z z.rising) t s) else auxZ z.port (arrived z.port (.z z.rising) t s)) := by
  rw [← arrived_domOn z.port (.z z.rising) t 2 s, ← arrived_filtered z.port (.z z.rising) t z.port z.held s]; rfl

theorem exec_ptbInterpolation (t : Nat) (s : State) : exec (.ptbInterpolation t) s =
    .next (if domOn s 2 && interpActive (s.at_ t) then interpolate (s.at_ t) else s.at_ t) := rfl

theorem exec_speedUpdate (t : Nat) (s : State) : exec (.speedUpdate t) s =
    .next (if domOn s 2 && decide (s.pos.lastSpeed + usTicks 10 ≤ max s.now t) then speedStep (s.at_ t) else s.at_ t) := rfl

theorem exec_stationaryTimeout (s : State) : exec .stationaryTimeout s =
    .next (if !domOn s 2 || s.pos.stationary then s
      else (s.at_ (s.pos.lastEdge + msTicks 100)).setPos { s.pos with stationary := true }) := rfl

/-! ## What each event makes of the position -/

/-- The HWM becomes the PTB exactly when the PTB lies after it (01 R43); beside it only POS_BEHIND's own fields change. -/
theorem settleHwm_pos (was : Bool) (s : State) : ∃ seen rev, (settleHwm was s).pos =
    { s.pos with hwm := if after (ptb s) s.pos.hwm then ptb s else s.pos.hwm, behindSeen := seen, reversals := rev } := by
  unfold settleHwm
  dsimp only
  by_cases ha : after (ptbOf s.pos) s.pos.hwm = true
  · rw [if_pos ha]
    refine ⟨false, s.pos.reversals, ?_⟩
    split <;> simp [ptb, ha]
  · rw [if_neg ha]
    split
    · exact ⟨true, s.pos.reversals + 1, by simp [ptb, ha]⟩
    · exact ⟨s.pos.behindSeen, s.pos.reversals, by simp [ptb, ha]⟩

/-- Whatever settles the HWM, the PTB is the one before it. -/
theorem ptb_settleHwm (was : Bool) (s : State) : ptb (settleHwm was s) = ptb s := by
  obtain ⟨seen, rev, h⟩ := settleHwm_pos was s
  simp [ptb, ptbOf, h]

/-- An edge of one channel is counted in its direction after ENC_CFG.INV (01 R26, R28). -/
theorem masterEdge_single {k : EdgeKind} (hk : k ≠ .both) (s : State) :
    masterEdge k s = settleHwm (behind s) (countEdge ((k == .forward) != (getI s.pos.enc 0 EncCfg.reset).inv) s) := by
  cases k with
  | forward => rfl
  | reverse => rfl
  | both => exact absurd rfl hk

/-- The same of ENC1 to ENC3 (01 R73). -/
theorem auxEvent_single {k : EdgeKind} (hk : k ≠ .both) (port : Nat) (s : State) :
    auxEvent port k s = auxEdge port ((k == .forward) != (getI s.pos.enc port EncCfg.reset).inv) s := by
  cases k with
  | forward => rfl
  | reverse => rfl
  | both => exact absurd rfl hk

/-- After a counted edge the fraction is 0, so the PTB is 16 C (01 R27, R38). -/
theorem ptb_countEdge (fwd : Bool) (s : State) : ptb (countEdge fwd s) = BitVec.ofInt 64 (16 * (countEdge fwd s).pos.count) := by
  simp [ptb, ptbOf, countEdge]

/-- One counted edge, and all that follows of the position (01 R26, R27, R43, R71). -/
theorem masterEdge_moves {k : EdgeKind} (hk : k ≠ .both) (s : State) :
    let fwd := (k == .forward) != (getI s.pos.enc 0 EncCfg.reset).inv
    let u := masterEdge k s
    u.pos.count = (if fwd then s.pos.count + 1 else s.pos.count - 1) ∧ ptb u = BitVec.ofInt 64 (16 * u.pos.count) ∧
      u.pos.hwm = (if after (ptb u) s.pos.hwm then ptb u else s.pos.hwm) ∧ u.pos.stationary = false ∧ u.pos.dirRev = !fwd ∧
      u.pos.lastEdge = s.now := by
  intro fwd u
  have hu : u = settleHwm (behind s) (countEdge fwd s) := masterEdge_single hk s
  obtain ⟨seen, rev, hp⟩ := settleHwm_pos (behind s) (countEdge fwd s)
  rw [hu, ptb_settleHwm, hp]
  exact ⟨rfl, ptb_countEdge fwd s, rfl, rfl, rfl, rfl⟩

/-- A quadrature error counts and flags itself and moves nothing else but the time of its notice (01 R53, R54). -/
theorem quadError_pos (port : Nat) (s : State) : ∃ times, (quadError port s).pos =
    { s.pos with qerr := bumpSat s.pos.qerr port, flags := s.pos.flags ||| 0x80, qerrNotice := times } := by
  unfold quadError
  dsimp only
  split
  · exact ⟨_, noticeUnit_pos _ _ _⟩
  · exact ⟨_, rfl⟩

/-- Loading a preset over an all-ones count carries the old value out: the forward edge of that cycle is spent (01 R78). -/
theorem auxEdge_carried {port : Nat} {s : State} {a : AuxPort} (ha : s.pos.aux[port - 1]? = some a) (hc : carriedOut s a = true) :
    (auxEdge port true s).pos.aux[port - 1]? = some { a with loaded := none } ∧
      (auxEdge port true s).pos.flags = s.pos.flags ||| 0x100 := by
  simp [auxEdge, getI_of_getElem? _ ha, hc, getElem?_upd_self _ ha]

/-- Any other edge of ENC1 to ENC3 moves the port's count by one (01 R73). -/
theorem auxEdge_counted {port : Nat} {fwd : Bool} {s : State} {a : AuxPort} (ha : s.pos.aux[port - 1]? = some a)
    (hc : fwd = false ∨ carriedOut s a = false) :
    (auxEdge port fwd s).pos.aux[port - 1]? = some { a with cnt := if fwd then a.cnt + 1 else a.cnt - 1 } := by
  have hsame : (fwd && carriedOut s a) = false := by rcases hc with h | h <;> simp [h]
  simp [auxEdge, getI_of_getElem? _ ha, hsame, getElem?_upd_self _ ha]

/-- An edge of ENC1 to ENC3 writes its table and CARRY alone. -/
theorem auxEdge_pos (port : Nat) (fwd : Bool) (s : State) : ∃ aux flags,
    (auxEdge port fwd s).pos = { s.pos with aux := aux, flags := flags } := ⟨_, _, rfl⟩

/-- Anchoring sets the PTB and the HWM, and is waited for no more (14 R667). -/
theorem anchorAt_sets (count : Int) (frac : Nat) (hwm : Long) (code : Nat) (discont : Bool) (s : State) :
    ptb (anchorAt count frac hwm code discont s) = BitVec.ofInt 64 (16 * count + frac) ∧
      (anchorAt count frac hwm code discont s).pos.hwm = hwm ∧ (anchorAt count frac hwm code discont s).pos.anchored = true ∧
      (anchorAt count frac hwm code discont s).boot.waitZ = false := by
  unfold anchorAt
  dsimp only
  split <;> simp [ptb, ptbOf]

/-- Whole counts and the rest make up a position again (01 R27, R36). -/
theorem ofInt_counts_add_fraction (z : Long) : BitVec.ofInt 64 (16 * ((z.toNat : Int) / 16) + ((z.toNat % 16 : Nat) : Int)) = z := by
  have hsum : 16 * ((z.toNat : Int) / 16) + ((z.toNat % 16 : Nat) : Int) = (z.toNat : Int) := by omega
  rw [hsum, BitVec.ofInt_natCast, BitVec.ofNat_toNat, BitVec.setWidth_eq]

/-- The fallback anchoring sets both to Z_BASE (14 Table 14.5). -/
theorem zAnchor_sets (s : State) : (zAnchor s).pos.anchored = true ∧ ptb (zAnchor s) = s.boot.draft.zBase ∧
    (zAnchor s).pos.hwm = s.boot.draft.zBase ∧ (zAnchor s).boot.waitZ = false := by
  unfold zAnchor
  obtain ⟨hptb, hhwm, hanch, hwait⟩ := anchorAt_sets (s.boot.draft.zBase.toNat / 16) (s.boot.draft.zBase.toNat % 16)
    (BitVec.ofNat 64 s.boot.draft.zBase.toNat) 4 true s
  rw [hptb, hhwm, ofInt_counts_add_fraction, BitVec.ofNat_toNat, BitVec.setWidth_eq]
  exact ⟨hanch, rfl, rfl, hwait⟩

@[simp] theorem zDeviation_pos (port : Nat) (counts : Int) (s : State) :
    (zDeviation port counts s).pos = { s.pos with flags := s.pos.flags ||| 0x200 } := by simp [zDeviation]
@[simp] theorem zDeviation_boot (port : Nat) (counts : Int) (s : State) : (zDeviation port counts s).boot = s.boot := by
  simp [zDeviation]

/-- The state in which a rising Z edge of ENC0 has captured the PTB and its spacing has been checked (01 R55, R56). -/
def masterZCaptured (s : State) : State :=
  let here : Int := 16 * s.pos.count + s.pos.frac
  let s1 := s.setPos { s.pos with zcap := ptb s, zlast := some here }
  match s.pos.zlast with
  | some z => if zDeviates (getI s.pos.enc 0 EncCfg.reset) 16 (here - z) then zDeviation 0 (rnd 1 (here - z) 16) s1 else s1
  | none => s1

/-- The capture comes first, and then the anchoring where it is waited for (14 Table 14.5). -/
theorem masterZ_eq (s : State) :
    masterZ s = if s.boot.waitZ && !s.pos.anchored then zAnchor (masterZCaptured s) else masterZCaptured s := rfl

theorem masterZCaptured_boot (s : State) : (masterZCaptured s).boot = s.boot := by
  unfold masterZCaptured
  dsimp only
  split
  · split
    · exact zDeviation_boot _ _ _
    · rfl
  · rfl

/-- Beside the capture itself only ZDEV can change (01 R55, R56). -/
theorem masterZCaptured_pos (s : State) : ∃ flags, (masterZCaptured s).pos =
    { s.pos with zcap := ptb s, zlast := some (16 * s.pos.count + s.pos.frac), flags := flags } := by
  unfold masterZCaptured
  dsimp only
  split
  · split
    · exact ⟨s.pos.flags ||| 0x200, zDeviation_pos _ _ _⟩
    · exact ⟨_, rfl⟩
  · exact ⟨_, rfl⟩

/-- A rising Z edge of ENC1 to ENC3 captures that port's count (01 R55). -/
theorem auxZ_pos (port : Nat) (s : State) : ∃ flags, (auxZ port s).pos = { s.pos with
    aux := upd s.pos.aux (port - 1) fun a => { a with zcap := low32 a.cnt, zlast := some a.cnt }, flags := flags } := by
  unfold auxZ
  dsimp only
  cases (getI s.pos.aux (port - 1) AuxPort.reset).zlast with
  | none => exact ⟨_, rfl⟩
  | some z =>
    dsimp only
    split
    · exact ⟨s.pos.flags ||| 0x200, zDeviation_pos _ _ _⟩
    · exact ⟨_, rfl⟩

/-- The fraction stops at 15 (01 R36). -/
theorem fractionAt_le (edges : List Nat) (now : Nat) : fractionAt edges now ≤ 15 := by
  unfold fractionAt
  split
  · exact Nat.min_le_left _ _
  · exact Nat.zero_le _

/-- Interpolation raises the fraction to its value at this cycle and lets the HWM follow (01 R36, R43). -/
theorem interpolate_pos (s : State) : ∃ seen rev, (interpolate s).pos = { s.pos with
    frac := max s.pos.frac (fractionAt s.pos.fwdEdges s.now)
    hwm := if after (ptb (interpolate s)) s.pos.hwm then ptb (interpolate s) else s.pos.hwm
    behindSeen := seen, reversals := rev } := by
  simp only [interpolate, ptb_settleHwm]
  exact settleHwm_pos _ _

/-- The position with the three speeds computed at this cycle (01 R67). -/
def withSpeeds (s : State) : Position :=
  { s.pos with
    vRaw := rawSpeed s.pos s.now, vNet := netSpeed s.pos s.now
    vFilt := filtStep s.pos.spdFilt s.pos.vFilt (netSpeed s.pos s.now), lastSpeed := s.now }

/-- Beside the speeds only the overspeed check's own fields change (01 R57). -/
theorem speedStep_pos (s : State) : ∃ high flags n, (speedStep s).pos =
    { withSpeeds s with overNow := high, flags := flags, overspeeds := n } := by
  have heq : speedStep s = if overspeedNow (withSpeeds s) s.now && !s.pos.overNow then
      let s1 := s.setPos { withSpeeds s with overNow := true, flags := s.pos.flags ||| 0x20, overspeeds := satInc s.pos.overspeeds }
      noticeUnit 0x0212 (leInt 4 (vFiltUm s1)) s1
    else s.setPos { withSpeeds s with overNow := overspeedNow (withSpeeds s) s.now } := rfl
  rw [heq]
  split
  · exact ⟨true, _, _, noticeUnit_pos _ _ _⟩
  · exact ⟨_, _, _, rfl⟩

end Sys2Proof.Machine
end

section
/-! PROOFS. The statements of chapter 01's events. -/

namespace Sys2Proof.Machine

open Sys2Proof

/-! ## A master edge -/

/-- The chapters a decoded master edge may write: position, the log, and the notices with what their ring writes touch. -/
theorem masterEdge_arrived_frame (k : EdgeKind) (t : Nat) (s : State) :
    Frame [.now, .emitted, .host, .pos, .kw, .fab, .flt] s (masterEdge k (arrived 0 (.ab k) t s)) :=
  masterEdge_frame k _ (by decide) ((arrived_frame 0 (.ab k) t s).mono (by decide))

theorem exec_masterEdge_accepted {s : State} {held : Nat} (k : EdgeKind) (t : Nat) (hc : domOn s 2 = true)
    (hf : filtered s 0 held = true) :
    exec (.masterEdge ⟨k, held⟩ t) s = .next (masterEdge k (arrived 0 (.ab k) t s)) := by
  simp [exec_masterEdge, hc, hf]

/-- Settles O12: an accepted edge is counted, the fraction starts again, and the HWM settles on the PTB so reached. -/
theorem masterEdgeMovesThePtb : Obligations.MasterEdgeMovesThePtb := by
  unfold Obligations.MasterEdgeMovesThePtb
  refine ⟨fun k held t s hc hf hk => ?_, fun held t s hc hf => ?_⟩
  · refine ⟨_, exec_masterEdge_accepted k t hc hf, ?_⟩
    obtain ⟨hcount, hptb, hhwm, hstat, hdir, hlast⟩ := masterEdge_moves hk (arrived 0 (.ab k) t s)
    rw [arrived_pos] at hcount hhwm hdir
    rw [arrived_now] at hlast
    exact ⟨hcount, hptb, hhwm, hstat, hdir, hlast, masterEdge_arrived_frame k t s⟩
  · refine ⟨_, exec_masterEdge_accepted .both t hc hf, ?_⟩
    obtain ⟨times, hp⟩ := quadError_pos 0 (arrived 0 (.ab .both) t s)
    have hpos : (masterEdge .both (arrived 0 (.ab .both) t s)).pos = _ := hp
    rw [ptb, hpos, arrived_pos]
    exact ⟨rfl, rfl, rfl, rfl, rfl, masterEdge_arrived_frame .both t s⟩

/-! ## The other events, once accepted -/

section Accepted

variable {s : State} (hc : domOn s 2 = true)
include hc

theorem exec_auxEncoderEdge_accepted {port held : Nat} (k : EdgeKind) (t : Nat) (h1 : 1 ≤ port) (h3 : port ≤ 3)
    (hf : filtered s port held = true) :
    exec (.auxEncoderEdge port ⟨k, held⟩ t) s = .next (auxEvent port k (arrived port (.ab k) t s)) := by
  have hlow : ¬ port < 1 := by omega
  have hhigh : ¬ 3 < port := by omega
  simp [exec_auxEncoderEdge, hc, hf, hlow, hhigh]

theorem exec_zEdgeCapture_accepted {port held : Nat} (t : Nat) (h3 : port ≤ 3) (hf : filtered s port held = true) :
    exec (.zEdgeCapture ⟨port, true, held⟩ t) s = .next (if port = 0 then masterZ (arrived port (.z true) t s)
      else auxZ port (arrived port (.z true) t s)) := by
  have hhigh : ¬ 3 < port := by omega
  simp [exec_zEdgeCapture, hc, hf, hhigh]

/-- An edge of one channel of ENC1 to ENC3 (01 R73, R78). -/
theorem exec_auxEncoderEdge_single {port held : Nat} {k : EdgeKind} {a : AuxPort} (t : Nat) (h1 : 1 ≤ port) (h3 : port ≤ 3)
    (hf : filtered s port held = true) (ha : s.pos.aux[port - 1]? = some a) (hk : k ≠ .both) :
    let fwd := (k == .forward) != (getI s.pos.enc port EncCfg.reset).inv
    ((fwd = false ∨ carriedOut (s.at_ t) a = false) → ∃ u, exec (.auxEncoderEdge port ⟨k, held⟩ t) s = .next u ∧
      u.pos.aux[port - 1]? = some { a with cnt := if fwd then a.cnt + 1 else a.cnt - 1 } ∧ u.pos.count = s.pos.count ∧
      u.pos.hwm = s.pos.hwm ∧ Frame [.now, .emitted, .pos] s u) ∧
    (fwd = true → carriedOut (s.at_ t) a = true → ∃ u, exec (.auxEncoderEdge port ⟨k, held⟩ t) s = .next u ∧
      u.pos.aux[port - 1]? = some { a with loaded := none } ∧ u.pos.flags = s.pos.flags ||| 0x100 ∧
      Frame [.now, .emitted, .pos] s u) := by
  intro fwd
  have hexec : exec (.auxEncoderEdge port ⟨k, held⟩ t) s = .next (auxEdge port fwd (arrived port (.ab k) t s)) := by
    rw [exec_auxEncoderEdge_accepted hc k t h1 h3 hf, auxEvent_single hk, arrived_pos]
  have hframe : Frame [.now, .emitted, .pos] s (auxEdge port fwd (arrived port (.ab k) t s)) :=
    auxEdge_frame port fwd _ (by decide) ((arrived_frame port (.ab k) t s).mono (by decide))
  have ha' : (arrived port (.ab k) t s).pos.aux[port - 1]? = some a := by rw [arrived_pos, ha]
  have hcarry : carriedOut (arrived port (.ab k) t s) a = carriedOut (s.at_ t) a := by simp [carriedOut]
  refine ⟨fun hno => ?_, fun hfwd hyes => ?_⟩
  · obtain ⟨aux, flags, hp⟩ := auxEdge_pos port fwd (arrived port (.ab k) t s)
    refine ⟨_, hexec, auxEdge_counted ha' (by rw [hcarry]; exact hno), ?_, ?_, hframe⟩
    · rw [hp, arrived_pos]
    · rw [hp, arrived_pos]
  · obtain ⟨haux, hflags⟩ := auxEdge_carried ha' (hcarry.trans hyes)
    rw [arrived_pos] at hflags
    rw [hfwd] at hexec hframe
    exact ⟨_, hexec, haux, hflags, hframe⟩

/-- Both channels of ENC1 to ENC3 changing at once (01 R53). -/
theorem exec_auxEncoderEdge_both {port held : Nat} (t : Nat) (h1 : 1 ≤ port) (h3 : port ≤ 3) (hf : filtered s port held = true) :
    ∃ u, exec (.auxEncoderEdge port ⟨.both, held⟩ t) s = .next u ∧ u.pos.aux = s.pos.aux ∧
      u.pos.qerr = bumpSat s.pos.qerr port ∧ u.pos.flags = s.pos.flags ||| 0x80 ∧
      Frame [.now, .emitted, .host, .pos, .kw, .fab, .flt] s u := by
  obtain ⟨times, hp⟩ := quadError_pos port (arrived port (.ab .both) t s)
  rw [arrived_pos] at hp
  refine ⟨_, exec_auxEncoderEdge_accepted hc .both t h1 h3 hf, ?_⟩
  rw [show auxEvent port .both (arrived port (.ab .both) t s) = quadError port (arrived port (.ab .both) t s) from rfl, hp]
  exact ⟨rfl, rfl, rfl, quadError_frame port _ (by decide) ((arrived_frame port (.ab .both) t s).mono (by decide))⟩

/-- A rising Z edge of ENC0 (01 R55; 14 Table 14.5). -/
theorem exec_zEdgeCapture_master {held : Nat} (t : Nat) (hf : filtered s 0 held = true) :
    (s.boot.waitZ = false ∨ s.pos.anchored = true → ∃ u, exec (.zEdgeCapture ⟨0, true, held⟩ t) s = .next u ∧ u.pos.zcap = ptb s ∧
      u.pos.count = s.pos.count ∧ u.pos.hwm = s.pos.hwm) ∧
    (s.boot.waitZ = true → s.pos.anchored = false → ∃ u, exec (.zEdgeCapture ⟨0, true, held⟩ t) s = .next u ∧ u.pos.anchored = true ∧
      ptb u = s.boot.draft.zBase ∧ u.pos.hwm = s.boot.draft.zBase ∧ u.boot.waitZ = false) := by
  have hexec := exec_zEdgeCapture_accepted hc t (Nat.zero_le 3) hf
  rw [if_pos rfl, masterZ_eq, arrived_boot, arrived_pos] at hexec
  refine ⟨fun hno => ?_, fun hwait hanch => ?_⟩
  · have hcond : (s.boot.waitZ && !s.pos.anchored) = false := by rcases hno with h | h <;> simp [h]
    rw [hcond, if_neg Bool.false_ne_true] at hexec
    obtain ⟨flags, hp⟩ := masterZCaptured_pos (arrived 0 (.z true) t s)
    rw [ptb, arrived_pos] at hp
    refine ⟨_, hexec, ?_⟩
    rw [hp]
    exact ⟨rfl, rfl, rfl⟩
  · rw [hwait, hanch, Bool.not_false, Bool.and_self, if_pos rfl] at hexec
    have hsets := zAnchor_sets (masterZCaptured (arrived 0 (.z true) t s))
    rw [masterZCaptured_boot, arrived_boot] at hsets
    exact ⟨_, hexec, hsets⟩

/-- A rising Z edge of ENC1 to ENC3 (01 R55). -/
theorem exec_zEdgeCapture_aux {port held : Nat} {a : AuxPort} (t : Nat) (h1 : 1 ≤ port) (h3 : port ≤ 3)
    (hf : filtered s port held = true) (ha : s.pos.aux[port - 1]? = some a) :
    ∃ u, exec (.zEdgeCapture ⟨port, true, held⟩ t) s = .next u ∧ (u.pos.aux[port - 1]?).map (·.zcap) = some (low32 a.cnt) ∧
      u.pos.zcap = s.pos.zcap := by
  have hexec := exec_zEdgeCapture_accepted hc t h3 hf
  rw [if_neg (by omega : ¬ port = 0)] at hexec
  obtain ⟨flags, hp⟩ := auxZ_pos port (arrived port (.z true) t s)
  rw [arrived_pos] at hp
  refine ⟨_, hexec, ?_⟩
  rw [hp]
  exact ⟨by simp [getElem?_upd_self _ ha], rfl⟩

/-- Interpolation while INTERP is set (01 R35, R36, R43). -/
theorem exec_ptbInterpolation_active {t : Nat} (hi : interpActive (s.at_ t) = true) :
    ∃ u, exec (.ptbInterpolation t) s = .next u ∧ s.pos.frac ≤ u.pos.frac ∧ (s.pos.frac ≤ 15 → u.pos.frac ≤ 15) ∧
      u.pos.count = s.pos.count ∧ u.pos.hwm = (if after (ptb u) s.pos.hwm then ptb u else s.pos.hwm) := by
  have hexec := exec_ptbInterpolation t s
  rw [hc, hi, Bool.and_self, if_pos rfl] at hexec
  obtain ⟨seen, rev, hp⟩ := interpolate_pos (s.at_ t)
  have hfrac : (interpolate (s.at_ t)).pos.frac = max s.pos.frac (fractionAt s.pos.fwdEdges (max s.now t)) := by rw [hp]; rfl
  have hle := fractionAt_le s.pos.fwdEdges (max s.now t)
  refine ⟨_, hexec, ?_, ?_, ?_, ?_⟩
  · omega
  · omega
  · rw [hp]; rfl
  · conv_lhs => rw [hp]
    rfl

/-- A speed update is carried out 10 us after the last (01 R67). -/
theorem exec_speedUpdate_due (t : Nat) :
    (s.pos.lastSpeed + usTicks 10 ≤ max s.now t →
      ∃ u, exec (.speedUpdate t) s = .next u ∧ u.pos.vRaw = rawSpeed s.pos (max s.now t) ∧ u.pos.vNet = netSpeed s.pos (max s.now t) ∧
        u.pos.vFilt = filtStep s.pos.spdFilt s.pos.vFilt (netSpeed s.pos (max s.now t)) ∧ u.pos.lastSpeed = max s.now t ∧
        u.pos.count = s.pos.count ∧ Frame [.now, .emitted, .host, .pos, .kw, .fab, .flt] s u) ∧
    (max s.now t < s.pos.lastSpeed + usTicks 10 → exec (.speedUpdate t) s = .next (s.at_ t)) := by
  rw [exec_speedUpdate, hc, Bool.true_and]
  refine ⟨fun hdue => ?_, fun hearly => ?_⟩
  · rw [if_pos (decide_eq_true hdue)]
    obtain ⟨high, flags, n, hp⟩ := speedStep_pos (s.at_ t)
    refine ⟨_, rfl, ?_⟩
    rw [hp]
    exact ⟨rfl, rfl, rfl, rfl, rfl,
      speedStep_frame _ (by decide) (State.at__frame s t (by decide) (Frame.refl _ s))⟩
  · rw [if_neg (by simpa using hearly)]

/-- Standstill is noted 100 ms after the last master edge (01 R71). -/
theorem exec_stationaryTimeout_moving (hm : s.pos.stationary = false) :
    ∃ u, exec .stationaryTimeout s = .next u ∧ u.pos.stationary = true ∧ u.now = max s.now (s.pos.lastEdge + 100 * 400000) ∧
      Frame [.now, .pos] s u := by
  rw [exec_stationaryTimeout, hc, hm]
  exact ⟨_, rfl, rfl, rfl, State.setPos_frame _ _ (by decide) (State.at__frame s _ (by decide) (Frame.refl _ s))⟩

end Accepted

/-- Not accepted, a transition is repeated and nothing else (01 R51, R65; log entry 116). -/
theorem exec_masterEdge_ignored {s : State} {held : Nat} (k : EdgeKind) (t : Nat)
    (h : domOn s 2 = false ∨ filtered s 0 held = false) :
    exec (.masterEdge ⟨k, held⟩ t) s = .next (arrived 0 (.ab k) t s) := by
  rcases h with h | h <;> simp [exec_masterEdge, h]

theorem exec_auxEncoderEdge_ignored {s : State} {port held : Nat} (k : EdgeKind) (t : Nat)
    (h : domOn s 2 = false ∨ filtered s port held = false) :
    exec (.auxEncoderEdge port ⟨k, held⟩ t) s = .next (arrived port (.ab k) t s) := by
  rcases h with h | h <;> simp [exec_auxEncoderEdge, h]

theorem exec_zEdgeCapture_ignored {s : State} {port held : Nat} {rising : Bool} (t : Nat)
    (h : domOn s 2 = false ∨ filtered s port held = false ∨ rising = false) :
    exec (.zEdgeCapture ⟨port, rising, held⟩ t) s = .next (arrived port (.z rising) t s) := by
  rcases h with h | h | h <;> simp [exec_zEdgeCapture, h]

/-- Settles O13: each event by its own lemma above. -/
theorem otherPositionEvents : Obligations.OtherPositionEvents := by
  unfold Obligations.OtherPositionEvents
  refine ⟨?_, fun held t s hc hf => exec_zEdgeCapture_master hc t hf,
    fun port held t s a hc h1 h3 hf ha => exec_zEdgeCapture_aux hc t h1 h3 hf ha,
    fun t s hc hi => exec_ptbInterpolation_active hc hi, fun t s hc => exec_speedUpdate_due hc t,
    fun s hc hm => exec_stationaryTimeout_moving hc hm, fun port held t k rising s => ⟨exec_masterEdge_ignored k t,
      exec_auxEncoderEdge_ignored k t, exec_zEdgeCapture_ignored t⟩⟩
  intro port held t k s a hc h1 h3 hf ha fwd
  refine ⟨fun hk => (exec_auxEncoderEdge_single hc t h1 h3 hf ha hk).1,
    fun hk => (exec_auxEncoderEdge_single hc t h1 h3 hf ha hk).2, ?_⟩
  rintro rfl
  exact exec_auxEncoderEdge_both hc t h1 h3 hf

end Sys2Proof.Machine
end

section
/-! PROOFS. The encoder scale, and the work of a window boundary: the settings that wait for it, each setting as it takes effect,
and the token buckets. -/

namespace Sys2Proof.Machine

open Sys2Proof

/-! ## POS_SCALE_SET (01 R33) -/

/-- Carried out with a value in range, it is refused while an admission is held and else sets the scale (01 R32, R33). -/
theorem execPosScaleSet_inRange {r : Ref} {p : Packet} {s : State} (h : opStarts 0x0202 r p s = true)
    (hlo : 100 ≤ fld p.params 0 4) (hhi : fld p.params 0 4 ≤ 1000000) : execPosScaleSet r s = .next (if s.led.held = [] then
      ok p [] (wantRecord 4 (s.setPos { s.pos with scale := fld p.params 0 4 })) else refuse p stDENIED noField s) := by
  have hrange : ¬ (fld p.params 0 4 < 100 ∨ 1000000 < fld p.params 0 4) := not_or.2 ⟨hlo.not_gt, hhi.not_gt⟩
  rw [execPosScaleSet, runOp_starts h]
  dsimp only
  rw [if_neg hrange]
  by_cases hheld : s.led.held = []
  · simp [hheld]
  · simp [hheld]

theorem exec_posScaleSet (r : Ref) (s : State) : exec (.posScaleSet r) s = execPosScaleSet r s := rfl

/-- Settles O14: the two branches of the change of scale. -/
theorem scaleOnlyWithoutAdmissions : Obligations.ScaleOnlyWithoutAdmissions := by
  unfold Obligations.ScaleOnlyWithoutAdmissions
  refine ⟨fun r p s h hlo hhi hheld => ?_, fun r p s h hlo hhi hheld => ?_⟩
  · have hexec := (exec_posScaleSet r s).trans (execPosScaleSet_inRange h hlo hhi)
    rw [if_neg hheld] at hexec
    have hframe : Frame [.emitted, .host, .kw, .fab] s (refuse p stDENIED noField s) :=
      refuse_frame p stDENIED noField s (List.Subset.refl _) (Frame.refl _ s)
    refine ⟨hexec, fun u hu => ?_⟩
    cases hexec.symm.trans hu
    exact ⟨hframe.pos_eq (by decide), hframe.led_eq (by decide)⟩
  · have hexec := (exec_posScaleSet r s).trans (execPosScaleSet_inRange h hlo hhi)
    rw [if_pos hheld] at hexec
    exact ⟨_, hexec, wantRecord_pos _ _, wantRecord_wanted_isSome _ _,
      wantRecord_frame 4 _ (by decide) (State.setPos_frame s _ (by decide) (Frame.refl _ s))⟩

/-! ## The settings that wait (01 R77, R80) -/

/-- What a waiting setting is, whatever boundary it waits for. -/
def settingOf (r : PendingReprog) : Reprog × Nat × Half := (r.what, r.issuer, r.opcode)

/-- A new window length moves the boundaries alone (01 R77). -/
theorem setShift_settings (n : Nat) (s : State) : (setShift n s).pos.pendingRp.map settingOf = s.pos.pendingRp.map settingOf := by
  unfold setShift
  split
  · rfl
  · simp [settingOf, Function.comp_def]

theorem applyPosition_settings (what : Reprog) (s : State) :
    (applyPosition what s).pos.pendingRp.map settingOf = s.pos.pendingRp.map settingOf := by
  cases what with
  | window n k w => exact setShift_settings n _
  | _ => rfl

/-- Of the position a deferred setting changes what its own kind changes: nothing for a trigger or an image setting. -/
theorem applyDeferred_pos (b : Long) (r : PendingReprog) (s : State) : (applyDeferred b r s).pos = (applyPosition r.what s).pos := by
  obtain ⟨what, bd, issuer, op⟩ := r
  cases what <;> simp [applyDeferred, isImage, recordsSetting, noticeApplied, applyTrigger, applyPosition]

theorem applyEach_settings (b : Long) (l : List PendingReprog) (s : State) :
    (applyEach b l s).pos.pendingRp.map settingOf = s.pos.pendingRp.map settingOf := by
  induction l generalizing s with
  | nil => rfl
  | cons r t ih => rw [applyEach, ih, applyDeferred_pos, applyPosition_settings]

/-- Exactly the settings of a later boundary still wait (01 R77). -/
theorem applyDue_settings (b : Long) (s : State) :
    (applyDue b s).pos.pendingRp.map settingOf = (s.pos.pendingRp.filter fun r => after r.boundary b).map settingOf :=
  applyEach_settings b _ _

/-! ## Each setting as it takes effect -/

/-- A window setting (01 R68, R72, R77). -/
theorem applyPosition_window (n k w : Nat) (s : State) :
    let u := applyPosition (.window n k w) s
    u.pos.shift = n ∧ u.pos.spdFilt = k ∧ u.pos.spdWin = w ∧ u.pos.hwm = s.pos.hwm ∧ u.pos.count = s.pos.count ∧
    (n ≠ s.pos.shift → u.pos.pendingRp = s.pos.pendingRp.map fun r => { r with boundary := realign s n r.boundary }) := by
  intro u
  by_cases hn : n = s.pos.shift
  · have hu : u = s.setPos { s.pos with spdFilt := k, spdWin := w } := if_pos hn
    rw [hu]
    exact ⟨hn.symm, rfl, rfl, rfl, rfl, fun hne => absurd hn hne⟩
  · have hu : u.pos = _ := congrArg State.pos (if_neg hn)
    rw [hu]
    exact ⟨rfl, rfl, rfl, rfl, rfl, fun _ => rfl⟩

/-- A trigger setting reaches the generators unchanged by its notice (04 R192). -/
theorem applyDeferred_trigger_lanes (b at_ : Long) (tg p f issuer : Nat) (op : Half) (s : State) :
    (applyDeferred b ⟨.trigger tg p f, at_, issuer, op⟩ s).lanes = (applyTrigger tg p f (posI b) s).lanes := by
  simp [applyDeferred, isImage, recordsSetting]

/-- An SSI setting is asked to be recorded (14 R673). -/
theorem applyDeferred_ssi_wanted (b at_ : Long) (c : SsiCfg) (issuer : Nat) (op : Half) (s : State) :
    (applyDeferred b ⟨.ssi c, at_, issuer, op⟩ s).boot.wanted.isSome = true := by
  have hboot : (applyDeferred b ⟨.ssi c, at_, issuer, op⟩ s).boot = (wantRecord 4 (applyPosition (.ssi c) s)).boot := by
    simp [applyDeferred, isImage, recordsSetting]
  rw [hboot]
  exact wantRecord_wanted_isSome _ _

/-- `ceilI a b` is the least whole number whose multiple of `b` is not below `a`. -/
theorem ceilI_spec (a : Int) {b : Nat} (hb : 0 < b) : a ≤ ceilI a b * b ∧ (ceilI a b - 1) * b < a := by
  have hlow := Int.ediv_mul_le (-a) (b := (b : Int)) (by omega)
  have hhigh := Int.lt_ediv_add_one_mul_self (-a) (b := (b : Int)) (by omega)
  unfold ceilI
  constructor <;> linarith

/-- The next trigger is at the first of the new positions at or after the boundary (04 R191, R192). -/
theorem applyTrigger_next {tg p : Nat} (f : Nat) (x : Int) {s : State} (ht : tg < s.lanes.tg.length) (hp : 0 < p) :
    let g := getI (applyTrigger tg p f x s).lanes.tg tg TrigGen.reset
    g.p = p ∧ g.f = f ∧ g.changed = true ∧ x ≤ trigPos g g.nextK ∧ trigPos g (g.nextK - 1) < x := by
  intro g
  have hg : g = { getI s.lanes.tg tg TrigGen.reset with p := p, f := f, nextK := ceilI (x - f) (max 1 p), changed := true } :=
    getI_upd_self _ _ _ _ ht
  obtain ⟨hlow, hhigh⟩ := ceilI_spec (x - f) hp
  rw [hg, Nat.max_eq_right hp]
  refine ⟨rfl, rfl, rfl, ?_, ?_⟩ <;> (unfold trigPos; dsimp only; linarith)

/-! ## The boundary itself (01 R47, R72) -/

theorem exec_windowBoundary (w : Word) (s : State) :
    exec (.windowBoundary w) s = .next (if boundaryDue s then boundary w s else s) := rfl

/-- The next boundary is the first multiple of the window length after the one just worked (01 R72). -/
theorem boundary_nextBoundary (w : Word) (s : State) :
    (boundary w s).pos.nextBoundary = boundaryAfter (boundary w s).pos.shift s.pos.nextBoundary := by
  simp only [boundary, State.setPos_pos]

/-- A class's bucket after a refill (07 R378). -/
theorem refillTokens_tokS {s : State} {c : Nat} {t : Int} (h : s.draw.tokS[c]? = some t) : (refillTokens s).draw.tokS[c]? =
    some (capBucket (t + refillOf s (classDemand s 4 c)) (refillOf s (classDemand s 4 c))) := by
  simp [refillTokens, h]

/-- Settles O19: the boundary, then the settings that wait, each setting of chapter 01 and 04, and the buckets. -/
theorem windowBoundaryWork : Obligations.WindowBoundaryWork := by
  unfold Obligations.WindowBoundaryWork
  refine ⟨fun w s hdue => ?due, fun w s hdue => ?early, applyDue_settings, fun b at_ n k w issuer op s => ?window,
    fun b at_ port issuer v op s a ha => ?preset, fun b at_ port n issuer op s e he => ?encFilt,
    fun b at_ c issuer op s => ?ssi, fun b at_ tg p f issuer op s ht hp => ?trigger, fun s c t h => refillTokens_tokS h⟩
  case due =>
    rw [exec_windowBoundary, if_pos hdue]
    exact ⟨_, rfl, boundary_nextBoundary w s⟩
  case early =>
    rw [exec_windowBoundary, hdue, if_neg Bool.false_ne_true]
  case window =>
    intro u
    have hu : u.pos = (applyPosition (.window n k w) s).pos := applyDeferred_pos b _ s
    rw [hu]
    exact applyPosition_window n k w s
  case preset =>
    rw [applyDeferred_pos]
    have hcnt := getElem?_upd_self (fun a : AuxPort => { a with cnt := v, loaded := some (s.now, a.cnt) }) ha
    simp [applyPosition, hcnt]
  case encFilt =>
    rw [applyDeferred_pos]
    exact getElem?_upd_self (fun e : EncCfg => { e with filtN := n }) he
  case ssi =>
    exact ⟨applyDeferred_pos b _ s, applyDeferred_ssi_wanted b at_ c issuer op s⟩
  case trigger =>
    rw [applyDeferred_trigger_lanes]
    exact applyTrigger_next f (posI b) ht hp

end Sys2Proof.Machine
end

section
/-! PROOFS. Admission of a request that is no recipe: the refusal with every failing budget, and the entry that a commit makes. -/

namespace Sys2Proof.Machine

open Sys2Proof

/-! ## The entry that a commit makes -/

/-- The admission that a request becomes when it commits under a handle. -/
def enteredAdm (q : Request) (handle : Nat) (s : State) : Admission :=
  { handle := handle, kind := q.kind, cls := q.cls, tenant := q.tenant, fence := 1, demands := withTable q.demands
    spos := spos s, object := q.object, vDecl := q.vDecl, recipe := q.recipe, order := s.led.nextOrder }

/-- The first refill of the class buckets is no matter of the Ledger (07 R379). -/
@[simp] theorem fillBuckets_led (cls : Nat) (ds : List Demand) (s : State) : (fillBuckets cls ds s).led = s.led :=
  (fillBuckets_frame cls ds s (List.Subset.refl _) (Frame.refl _ s)).led_eq (by decide)

/-- A commit enters the request last and keeps every admission held (02 R97). -/
@[simp] theorem commitAdm_held (q : Request) (handle : Nat) (s : State) :
    (commitAdm q handle s).led.held = s.led.held ++ [enteredAdm q handle s] := by
  rw [commitAdm, fillBuckets_led, State.setLed_led, enteredAdm]

theorem commitAdm_getLast? (q : Request) (handle : Nat) (s : State) :
    (commitAdm q handle s).led.held.getLast? = some (enteredAdm q handle s) := by
  rw [commitAdm_held, List.getLast?_concat]

/-! ## The two decisions -/

/-- The state a request commits in: one of class 0 to 6 reclaims class-7 budget first, one of class 7 takes only what is
uncommitted (02 R99, R100). -/
def reclaimedFor (q : Request) (s : State) : State :=
  if q.cls = 7 then s else reclaim (s.led.held.length + 1) (vEff s.led.vadm) (withTable q.demands) s

theorem reclaimedFor_class7 {q : Request} (hq : q.cls = 7) (s : State) : reclaimedFor q s = s := if_pos hq

section Decision

variable {q : Request} {s : State}

/-- With a failing budget the request is refused with all that fail (02 R97, R109). -/
theorem decideAdm_short (hl : shorts s (vEff s.led.vadm) q.cls (withTable q.demands) ≠ []) (handle : Nat) :
    decideAdm q handle s = refused (shorts s (vEff s.led.vadm) q.cls (withTable q.demands)) s := by
  rw [decideAdm, if_pos (by simpa using hl)]

/-- With none it commits (02 R97, R98). -/
theorem decideAdm_fits (hl : shorts s (vEff s.led.vadm) q.cls (withTable q.demands) = []) (handle : Nat) :
    decideAdm q handle s = { payload := none, state := commitAdm q handle (reclaimedFor q s) } := by
  rw [decideAdm, if_neg (by simp [hl]), reclaimedFor]

end Decision

/-- Settles O16: the refusal counts itself and writes no more; the commit enters the request after whatever was reclaimed. -/
theorem admissionIsAllOrNothing : Obligations.AdmissionIsAllOrNothing := by
  unfold Obligations.AdmissionIsAllOrNothing
  intro q h s l
  refine ⟨fun hshort => ?_, fun hfits => ?_⟩
  · rw [decideAdm_short hshort]
    exact ⟨rfl, rfl⟩
  · rw [decideAdm_fits hfits]
    refine ⟨rfl, enteredAdm q h (reclaimedFor q s), commitAdm_getLast? q h _, rfl, rfl, rfl, rfl, rfl, rfl, rfl, fun hq => ?_⟩
    rw [commitAdm_held, reclaimedFor_class7 hq]

end Sys2Proof.Machine
end

section
/-! PROOFS. Every command keeps the invariant and takes nothing back: the commands with several cases first, then the
dispatch, whose other arms are one operation under a guard, a reply after refusals, or a list command's body. -/

namespace Sys2Proof.Machine

open Sys2Proof

variable {z s : State}

/-! ## How the meanings of commands are put together -/

theorem ite_lawful {c : Prop} [Decidable c] {t : State} (hs : Lawful z s) (ht : Lawful z t) :
    Lawful z (if c then s else t) :=
  ite_both (fun _ => hs) fun _ => ht

/-- A refusal at step 14 before the rest of an opcode's meaning. -/
theorem Lawful.refuseOr {c : Prop} [Decidable c] {p : Packet} {st : Half} {off : Nat} {t : State} (hs : Lawful z s)
    (ht : Lawful z t) : Lawful z (if c then refuse p st off s else t) :=
  ite_lawful (refuse_lawful _ _ _ _ hs) ht

theorem Lawful.at_ {t : Nat} (hs : Lawful z s) : Lawful z (s.at_ t) := State.at__lawful s t hs

/-- A packet's row: the opcode's own meaning is what is left to show. -/
theorem Lawful.row {opcode : Half} {r : Ref} {body : Packet → State → State} (hs : Lawful z s)
    (hb : ∀ p, Lawful z (body p s)) : LawfulNext z (.next (runOp opcode r s body)) :=
  next_lawful (runOp_lawful _ _ _ _ hs hb)

/-- A list command's row. -/
theorem Lawful.cmd {engine cmd : Nat} {f : CmdList → Cmd → State} (hs : Lawful z s) (hf : ∀ l c, Lawful z (f l c)) :
    LawfulNext z (.next (withCmd engine cmd s f)) :=
  next_lawful (withCmd_lawful _ _ _ _ hs hf)

/-- An injection that cannot act leaves the state given for that. -/
theorem inject_getD_lawful (x : Injection) {t : State} (hs : Lawful z s) (ht : Lawful z t) :
    Lawful z ((inject x s).getD t) := by
  cases hi : inject x s with
  | none => exact ht
  | some u => exact inject_lawful x s hs u hi

/-! ## The protocol -/

theorem execSidebandDatagram_lawful (d : Datagram) (t : Nat) (s : State) (hz : Lawful z s) :
    LawfulNext z (execSidebandDatagram d t s) := by
  have hs : Lawful z ((s.at_ t).setKw { (s.at_ t).kw with sbActive := some (s.at_ t).now }) :=
    State.setKw_lawful hz.at_ <| KwOk.same rfl rfl
  exact next_lawful <| ite_lawful hz.at_ <| ite_lawful (State.setKw_lawful hs (KwOk.same rfl rfl)) <| ite_lawful hs <|
    answerSideband_lawful _ _ hs

theorem execSidebandCacheExpiry_lawful (addr : Word) (port tag : Half) (s : State) (hz : Lawful z s) :
    LawfulNext z (execSidebandCacheExpiry addr port tag s) := by
  refine next_lawful ?_
  split
  exacts [hz, State.setKw_lawful hz.at_ <| KwOk.same rfl rfl]

theorem execPacketTimeLimit_lawful (r : Ref) (s : State) (hz : Lawful z s) : LawfulNext z (execPacketTimeLimit r s) := by
  refine next_lawful ?_
  split
  exacts [hz, ite_lawful hz <| cancelP_lawful _ _ _ _ hz.at_]

theorem execDeadlineExpiry_lawful (r : Ref) (s : State) (hz : Lawful z s) : LawfulNext z (execDeadlineExpiry r s) := by
  refine next_lawful ?_
  split
  exacts [hz, ite_lawful hz <| cancelP_lawful _ _ _ _ hz]

theorem execKwSqDbWrite_lawful (n : Nat) (v : Word) (placed : HostPlaced) (s : State) (hz : Lawful z s) :
    LawfulNext z (execKwSqDbWrite n v placed s) := by
  have hp : Lawful z ((s.setHost (memPlace s.host placed.bytes)).setKw { s.kw with badHost := placed.faulty }) :=
    State.setKw_lawful (State.setHost_lawful hz <| memPlace_wf _ _) <| KwOk.same rfl rfl
  exact next_lawful <| ite_lawful (sqDoorbell_lawful _ _ _ hp) hp

/-! ## The System and Ledger groups -/

theorem execLedgConfig_lawful (r : Ref) (s : State) (hz : Lawful z s) : LawfulNext z (execLedgConfig r s) := by
  refine hz.row fun _ => hz.refuseOr <| hz.refuseOr ?_
  dsimp only
  split
  exacts [refuse_lawful _ _ _ _ hz, hz.refuseOr <| ok_lawful _ _ _ <| State.setLed_lawful hz]

theorem execLedgRelease_lawful (r : Ref) (s : State) (hz : Lawful z s) : LawfulNext z (execLedgRelease r s) := by
  refine hz.row fun _ => ?_
  split
  · exact refuse_lawful _ _ _ _ hz
  · exact ite_lawful (ledgBench_lawful _ _ _ hz) <| hz.refuseOr <| ite_lawful (refuseWith_lawful _ _ _ _ hz) <|
      ok_lawful _ _ _ <| release_lawful _ _ hz

/-! ## Position -/

theorem execAuxEncoderEdge_lawful (port : Nat) (k : HeldEdge) (t : Nat) (s : State) (hz : Lawful z s) :
    LawfulNext z (execAuxEncoderEdge port k t s) := by
  refine next_lawful <| ite_lawful (repeatOut_lawful _ _ _ hz.at_) ?_
  split
  · exact quadError_lawful _ _ <| repeatOut_lawful _ _ _ hz.at_
  · exact auxEdge_lawful _ _ _ <| repeatOut_lawful _ _ _ hz.at_
  · exact auxEdge_lawful _ _ _ <| repeatOut_lawful _ _ _ hz.at_

/-! ## Triggers and reception -/

theorem execTriggerMessageSend_lawful (l : Nat) (s : State) (hz : Lawful z s) :
    LawfulNext z (execTriggerMessageSend l s) := by
  refine next_lawful ?_
  split
  exacts [ite_lawful (sendTrigger_lawful _ _ _ _ hz) hz, hz]

theorem execCamramPacketReceived_lawful (l : Nat) (s : State) (hz : Lawful z s) :
    LawfulNext z (execCamramPacketReceived l s) := by
  refine next_lawful <| ite_lawful hz ?_
  split
  exacts [hz, packetTaken_lawful _ _ _ <| modLane_lawful _ _ _ hz]

/-! ## Lanes -/

theorem execDetectProbe_lawful (l : Nat) (terminated : Bool) (s : State) (hz : Lawful z s) :
    LawfulNext z (execDetectProbe l terminated s) := by
  have probed : Lawful z (match (laneOf s l).probed with | none => s | some t => s.at_ (t + msTicks 12)) := by
    split
    exacts [hz, hz.at_]
  exact next_lawful <| ite_lawful hz <|
    ite_lawful (goTrain_lawful _ _ _ (modLane_lawful _ _ _ (State.emit_lawful _ _ probed))) <| modLane_lawful _ _ _ <|
    State.emit_lawful _ _ probed

theorem execBringupTimeout_lawful (q : LaneLimit) (s : State) (hz : Lawful z s) :
    LawfulNext z (execBringupTimeout q s) := by
  refine next_lawful <| ite_lawful hz ?_
  split
  exacts [bringupExpired_lawful _ _ hz.at_, hz]

theorem execControlXactTimeout_lawful (l : Nat) (s : State) (hz : Lawful z s) :
    LawfulNext z (execControlXactTimeout l s) := by
  refine next_lawful ?_
  split
  · exact hz
  dsimp only
  split
  · exact modLane_lawful _ _ _ hz.at_
  · exact doneLater_lawful _ _ _ _ <| modLane_lawful _ _ _ hz.at_

theorem execLaneConfig_lawful (r : Ref) (s : State) (hz : Lawful z s) : LawfulNext z (execLaneConfig r s) := by
  refine hz.row fun _ => ?_
  dsimp only
  split
  · exact refuse_lawful _ _ _ _ hz
  · exact ite_lawful (ok_lawful _ _ _ (modLane_lawful _ _ _ hz)) <| hz.refuseOr <| ok_lawful _ _ _ <|
      modLane_lawful _ _ _ hz

theorem execLaneEnable_lawful (r : Ref) (s : State) (hz : Lawful z s) : LawfulNext z (execLaneEnable r s) := by
  refine hz.row fun _ => hz.refuseOr <| hz.refuseOr <| hz.refuseOr <| ite_lawful ?_ ?_
  · exact ite_lawful (ok_lawful _ _ _ hz) <| hz.refuseOr <| ok_lawful _ _ _ <| goDetect_lawful _ _ <|
      modLane_lawful _ _ _ hz
  · exact hz.refuseOr <| ite_lawful (ok_lawful _ _ _ (ite_lawful (stopLane_lawful _ _ _ _ hz) hz)) <| hz.refuseOr <|
      ok_lawful _ _ _ <| ite_lawful hz <| stopLane_lawful _ _ _ _ hz

theorem execLaneTriggerConfig_lawful (r : Ref) (s : State) (hz : Lawful z s) :
    LawfulNext z (execLaneTriggerConfig r s) := by
  refine hz.row fun _ => hz.refuseOr <| hz.refuseOr <| hz.refuseOr <| hz.refuseOr <| ite_lawful ?_ ?_
  · exact done_lawful _ _ _ _ <| noticeHolder_lawful _ _ _ _ <| applyTrigger_lawful _ _ _ _ _ <|
      dropReprog_lawful _ _ hz
  · exact done_lawful _ _ _ _ <| deferReprog_lawful _ _ _ _ hz

theorem execLaneEyescan_lawful (r : Ref) (s : State) (hz : Lawful z s) : LawfulNext z (execLaneEyescan r s) := by
  refine hz.row fun _ => hz.refuseOr <| hz.refuseOr ?_
  dsimp only
  split
  · exact refuse_lawful _ _ _ _ hz
  · exact hz.refuseOr <| ite_lawful (modLane_lawful _ _ _ (commitP_lawful _ _ hz)) <| endEye_lawful _ _ _ <|
      modLane_lawful _ _ _ <| commitP_lawful _ _ hz

theorem execLaneEqBounds_lawful (r : Ref) (s : State) (hz : Lawful z s) : LawfulNext z (execLaneEqBounds r s) := by
  refine hz.row fun _ => hz.refuseOr ?_
  dsimp only
  split
  exacts [refuse_lawful _ _ _ _ hz, ok_lawful _ _ _ <| modLane_lawful _ _ _ hz]

theorem execLaneUnretire_lawful (r : Ref) (s : State) (hz : Lawful z s) : LawfulNext z (execLaneUnretire r s) :=
  hz.row fun _ => hz.refuseOr <| ok_lawful _ _ _ <|
    ite_lawful (goDetect_lawful _ _ (returned_lawful _ _ _ (wantRecord_lawful _ _ (modLane_lawful _ _ _ hz)))) <|
    goLane_lawful _ _ _ _ <| returned_lawful _ _ _ <| wantRecord_lawful _ _ <| modLane_lawful _ _ _ hz

/-! ## The image pipeline -/

theorem execSlotTimeout_lawful (c : Nat) (k : Int) (s : State) (hz : Lawful z s) :
    LawfulNext z (execSlotTimeout c k s) := by
  refine next_lawful ?_
  split
  exacts [hz, modPlnChan_lawful _ _ _ hz.at_]

theorem execScanLineConceal_lawful (c : Nat) (q : UpsetLine) (s : State) (hz : Lawful z s) :
    LawfulNext z (execScanLineConceal c q s) := by
  have hs : Lawful z (upsetSlot c q.k q.pixels s) := upsetSlot_lawful _ _ _ _ hz
  refine next_lawful <| ite_lawful hz ?_
  dsimp only
  split
  exacts [ite_lawful (passSlot_lawful _ _ hs) hs, hs]

theorem execScanLineProcess_lawful (v : Nat) (k : Int) (s : State) (hz : Lawful z s) :
    LawfulNext z (execScanLineProcess v k s) := by
  refine next_lawful <| ite_lawful hz ?_
  dsimp only
  split
  exacts [processLine_lawful _ _ _ _ <| passClean_lawful _ _ _ hz, hz]

theorem execTapEnd_lawful (h : Nat) (s : State) (hz : Lawful z s) : LawfulNext z (execTapEnd h s) := by
  refine next_lawful ?_
  split
  · exact hz
  refine ite_lawful hz ?_
  dsimp only
  split
  exacts [release_lawful _ _ <| endTap_lawful _ _ _ hz, endTap_lawful _ _ _ hz]

theorem execPlnChannelConfig_lawful (r : Ref) (s : State) (hz : Lawful z s) :
    LawfulNext z (execPlnChannelConfig r s) := by
  refine hz.row fun _ => ?_
  dsimp only
  split
  · exact refuse_lawful _ _ _ _ hz
  refine hz.refuseOr ?_
  split
  · exact refuse_lawful _ _ _ _ hz
  refine ok_lawful _ _ _ <| emptyView_lawful _ _ <| modPlnChan_lawful _ _ _ ?_
  split
  exacts [emptyView_lawful _ _ hz, hz]

theorem execPlnViewConfig_lawful (r : Ref) (s : State) (hz : Lawful z s) : LawfulNext z (execPlnViewConfig r s) := by
  refine hz.row fun _ => ?_
  dsimp only
  split
  · exact refuse_lawful _ _ _ _ hz
  · exact hz.refuseOr <| hz.refuseOr <| hz.refuseOr <| hz.refuseOr <| ok_lawful _ _ _ <| emptyView_lawful _ _ <|
      modView_lawful _ _ _ hz

theorem execPlnStatConfig_lawful (r : Ref) (s : State) (hz : Lawful z s) : LawfulNext z (execPlnStatConfig r s) := by
  refine hz.row fun _ => hz.refuseOr <| hz.refuseOr <| hz.refuseOr <| hz.refuseOr ?_
  split
  exacts [refuse_lawful _ _ _ _ hz, ok_lawful _ _ _ <| modView_lawful _ _ _ hz]

theorem execPlnTapOpen_lawful (r : Ref) (pick : Nat) (s : State) (hz : Lawful z s) :
    LawfulNext z (execPlnTapOpen r pick s) := by
  refine hz.row fun _ => hz.refuseOr <| hz.refuseOr <| hz.refuseOr ?_
  dsimp only
  split
  · exact refuse_lawful _ _ _ _ hz
  refine hz.refuseOr ?_
  split
  · exact refuseWith_lawful _ _ _ _ <| decideAdm_lawful _ _ _ hz
  · exact ok_lawful _ _ _ <| State.setPln_lawful (decideAdm_lawful _ _ _ hz) id id

theorem execPlnTapClose_lawful (r : Ref) (s : State) (hz : Lawful z s) : LawfulNext z (execPlnTapClose r s) := by
  refine hz.row fun _ => ?_
  split
  exacts [refuse_lawful _ _ _ _ hz, ok_lawful _ _ _ <| release_lawful _ _ hz]

/-! ## Benches and tiles -/

theorem execTileDispatch_lawful (b : Nat) (t : Nat) (s : State) (hz : Lawful z s) :
    LawfulNext z (execTileDispatch b t s) := by
  refine next_lawful <| ite_lawful hz.at_ ?_
  split
  exacts [modBench_lawful _ _ _ hz.at_, hz.at_]

theorem execTileComplete_lawful (b k : Nat) (gen : Word) (t : Nat) (s : State) (hz : Lawful z s) :
    LawfulNext z (execTileComplete b k gen t s) := by
  refine next_lawful ?_
  split
  exacts [complete_lawful _ _ _ hz.at_, hz.at_]

theorem execCertOverrun_lawful (b k : Nat) (s : State) (hz : Lawful z s) : LawfulNext z (execCertOverrun b k s) := by
  refine next_lawful ?_
  split
  exacts [overrun_lawful _ _ _ hz.at_, hz]

theorem execBenchResetDone_lawful (b : Nat) (imageOk : Bool) (s : State) (hz : Lawful z s) :
    LawfulNext z (execBenchResetDone b imageOk s) := by
  refine next_lawful ?_
  split
  exacts [resetDone_lawful _ _ _ _ _ _ _ hz, hz]

theorem execFabChipLoss_lawful (s : State) (hz : Lawful z s) : LawfulNext z (execFabChipLoss s) := by
  refine next_lawful ?_
  split
  exacts [chipDone_lawful _ _ _ _ hz, hz]

theorem execFabApplied_lawful (b : Nat) (s : State) (hz : Lawful z s) : LawfulNext z (execFabApplied b s) := by
  refine next_lawful ?_
  split
  exacts [ite_lawful (applyChange_lawful _ _ _ _ hz) hz, hz]

theorem execBenchBuild_lawful (r : LoadRef) (pick : Nat) (s : State) (hz : Lawful z s) :
    LawfulNext z (execBenchBuild r pick s) := by
  refine hz.row fun _ => ?_
  split
  · exact refuse_lawful _ _ _ _ hz
  split
  · exact refuse_lawful _ _ _ _ hz
  split
  exacts [refuseWith_lawful _ _ _ _ hz, buildAdmit_lawful _ _ _ _ _ hz]

theorem execBenchRebuild_lawful (r : LoadRef) (s : State) (hz : Lawful z s) : LawfulNext z (execBenchRebuild r s) := by
  refine hz.row fun _ => ?_
  split
  · exact refuse_lawful _ _ _ _ hz
  split
  · exact refuse_lawful _ _ _ _ hz
  dsimp only
  split
  exacts [refuseWith_lawful _ _ _ _ hz, rebuildAdmit_lawful _ _ _ _ hz]

theorem execBenchRelease_lawful (r : Ref) (s : State) (hz : Lawful z s) : LawfulNext z (execBenchRelease r s) := by
  refine hz.row fun _ => ?_
  dsimp only
  split
  · exact refuse_lawful _ _ _ _ hz
  · exact ite_lawful (modP_lawful _ _ _ (modBench_lawful _ _ _ hz)) <| ok_lawful _ _ _ <| releaseBench_lawful _ _ hz

theorem execBenchReset_lawful (r : Ref) (s : State) (hz : Lawful z s) : LawfulNext z (execBenchReset r s) := by
  refine hz.row fun _ => ?_
  dsimp only
  split
  exacts [refuse_lawful _ _ _ _ hz, hz.refuseOr <| hz.refuseOr <| startReset_lawful _ _ _ _ _ _ <| ok_lawful _ _ _ hz]

theorem execBenchReadmit_lawful (r : Ref) (pick : Nat) (s : State) (hz : Lawful z s) :
    LawfulNext z (execBenchReadmit r pick s) := by
  refine hz.row fun _ => ?_
  split
  · exact refuse_lawful _ _ _ _ hz
  dsimp only
  split
  exacts [refuseWith_lawful _ _ _ _ hz, readmitAdmit_lawful _ _ _ hz]

theorem execStakeUnretire_lawful (r : Ref) (s : State) (hz : Lawful z s) : LawfulNext z (execStakeUnretire r s) := by
  refine hz.row fun _ => hz.refuseOr <| hz.refuseOr <| ok_lawful _ _ _ ?_
  split
  · exact noticeBenchCapacity_lawful _ _ <| refreshDemands_lawful _ _ <| returned_lawful _ _ _ <|
      wantRecord_lawful _ _ <| State.setFab_lawful hz id
  · exact refreshDemands_lawful _ _ <| returned_lawful _ _ _ <| wantRecord_lawful _ _ <| State.setFab_lawful hz id

theorem execLoadParams_lawful (poisonedAt : Option Long) (s : State) (hz : Lawful z s) :
    LawfulNext z (execLoadParams poisonedAt s) := by
  refine hz.cmd fun _ _ => ite_lawful (failCmd_lawful _ _ _ hz) <| ite_lawful (failCmd_lawful _ _ _ hz) <|
    ite_lawful (failCmd_lawful _ _ _ hz) ?_
  dsimp only
  split
  · exact failCmd_lawful _ _ _ hz
  · exact ite_lawful (failPoisoned_lawful _ _ _ _ _ hz) <| advance_lawful _ _ <| placeCopy_lawful _ _ _ <|
      modBench_lawful _ _ _ hz

theorem execSelectParams_lawful (s : State) (hz : Lawful z s) : LawfulNext z (execSelectParams s) :=
  hz.cmd fun _ _ => ite_lawful (failCmd_lawful _ _ _ hz) <| ite_lawful (failCmd_lawful _ _ _ hz) <|
    ite_lawful (advance_lawful _ _ (modBench_lawful _ _ _ hz)) <|
    ite_lawful (advance_lawful _ _ (modBench_lawful _ _ _ hz)) <| failCmd_lawful _ _ _ hz

/-! ## Command lists -/

theorem execListStart_lawful (engine : Nat) (s : State) (hz : Lawful z s) : LawfulNext z (execListStart engine s) := by
  refine next_lawful <| ite_lawful hz ?_
  split
  · exact hz
  split
  exacts [cancelP_lawful _ _ _ _ hz, State.setFab_lawful (commitP_lawful _ _ (modList_lawful _ _ _ hz)) id]

theorem execWaitEvent_lawful (engine t : Nat) (s : State) (hz : Lawful z s) :
    LawfulNext z (execWaitEvent engine t s) := by
  refine next_lawful <| ite_lawful hz ?_
  split
  · exact hz
  refine ite_lawful hz ?_
  split
  exacts [ite_lawful (passWait_lawful _ _ hz) hz, hz]

theorem execWriteStamp_lawful (engine : Nat) (x : WriteEnd) (s : State) (hz : Lawful z s) :
    LawfulNext z (execWriteStamp engine x s) := by
  refine hz.cmd fun _ _ => ?_
  split
  · exact failCmd_lawful _ _ _ hz
  · exact ite_lawful (dmaFail_lawful _ _ hz) <| endWrite_lawful _ _ _ <| writePlaceBut_lawful _ _ _ _ hz

/-! ## Memory -/

theorem execCopy_lawful (x : WriteEnd) (poisonedAt : Option Long) (s : State) (hz : Lawful z s) :
    LawfulNext z (execCopy x poisonedAt s) := by
  refine hz.cmd fun _ _ => ite_lawful (failCmd_lawful _ _ _ hz) ?_
  dsimp only
  split
  · exact failCmd_lawful _ _ _ hz
  split
  · exact failCmd_lawful _ _ _ hz
  · exact ite_lawful (dmaFail_lawful _ _ hz) <| ite_lawful (failPoisoned_lawful _ _ _ _ _ hz) <|
      endWrite_lawful _ _ _ <| writeRows_lawful _ _ _ _ _ _ hz

theorem execFill_lawful (x : WriteEnd) (s : State) (hz : Lawful z s) : LawfulNext z (execFill x s) := by
  refine hz.cmd fun _ _ => ite_lawful (failCmd_lawful _ _ _ hz) ?_
  dsimp only
  split
  · exact failCmd_lawful _ _ _ hz
  · exact ite_lawful (dmaFail_lawful _ _ hz) <| endWrite_lawful _ _ _ <| writeRows_lawful _ _ _ _ _ _ hz

theorem execCheck_lawful (x : WriteEnd) (poisonedAt : Option Long) (s : State) (hz : Lawful z s) :
    LawfulNext z (execCheck x poisonedAt s) := by
  refine hz.cmd fun _ _ => ite_lawful (failCmd_lawful _ _ _ hz) ?_
  dsimp only
  split
  · exact failCmd_lawful _ _ _ hz
  split
  · exact failCmd_lawful _ _ _ hz
  · exact ite_lawful (dmaFail_lawful _ _ hz) <| ite_lawful (failPoisoned_lawful _ _ _ _ _ hz) <|
      endWrite_lawful _ _ _ <| writePlaceBut_lawful _ _ _ _ hz

theorem execMemoryGrant_lawful (ingot : Bool) (bank : Nat) (arrivals : List MemArrival) (singleBit : Bool) (t : Nat)
    (s : State) (hz : Lawful z s) : LawfulNext z (execMemoryGrant ingot bank arrivals singleBit t s) := by
  refine next_lawful <| ite_lawful hz.at_ <| ite_lawful (State.setDraw_lawful hz.at_ id id) ?_
  dsimp only
  split
  · exact grant_lawful _ _ _ _ <| openCycle_lawful _ _ _ <| State.setDraw_lawful hz.at_ id id
  · exact openCycle_lawful _ _ _ <| State.setDraw_lawful hz.at_ id id

theorem execRequestAging_lawful (id : Nat) (s : State) (hz : Lawful z s) : LawfulNext z (execRequestAging id s) := by
  refine next_lawful ?_
  split
  exacts [hz, State.setDraw_lawful hz.at_ (by simp) (by simp)]

theorem execDrawAlloc_lawful (r : Ref) (pick extent : Nat) (s : State) (hz : Lawful z s) :
    LawfulNext z (execDrawAlloc r pick extent s) := by
  refine hz.row fun _ => ?_
  dsimp only
  split
  · exact refuse_lawful _ _ _ _ hz
  split
  exacts [refuseWith_lawful _ _ _ _ hz, ok_lawful _ _ _ <| State.setDraw_lawful hz id id]

theorem execDrawFree_lawful (r : Ref) (s : State) (hz : Lawful z s) : LawfulNext z (execDrawFree r s) := by
  refine hz.row fun _ => ?_
  split
  exacts [refuse_lawful _ _ _ _ hz, hz.refuseOr <| hz.refuseOr <| ok_lawful _ _ _ <| State.setDraw_lawful hz id id]

theorem execDrawStreamOpen_lawful (r : Ref) (pick : Nat) (s : State) (hz : Lawful z s) :
    LawfulNext z (execDrawStreamOpen r pick s) := by
  refine hz.row fun _ => ?_
  dsimp only
  split
  · exact refuseWith_lawful _ _ _ _ <| decideAdm_lawful _ _ _ hz
  · exact ok_lawful _ _ _ <| State.setDraw_lawful (decideAdm_lawful _ _ _ hz) id id

theorem execDrawStreamClose_lawful (r : Ref) (s : State) (hz : Lawful z s) : LawfulNext z (execDrawStreamClose r s) := by
  refine hz.row fun _ => ?_
  split
  exacts [refuse_lawful _ _ _ _ hz, hz.refuseOr <| ok_lawful _ _ _ <| release_lawful _ _ hz]

/-! ## ASSAY -/

theorem execAsyLibDefine_lawful (r : Ref) (s : State) (hz : Lawful z s) : LawfulNext z (execAsyLibDefine r s) := by
  refine hz.row fun _ => hz.refuseOr <| hz.refuseOr <| hz.refuseOr <| hz.refuseOr <|
    ite_lawful (hz.refuseOr (hz.refuseOr (ok_lawful _ _ _ (State.setAsy_lawful hz)))) ?_
  dsimp only
  split
  exacts [refuse_lawful _ _ _ _ hz, hz.refuseOr <| ok_lawful _ _ _ <| State.setAsy_lawful hz]

theorem execAssayRtComplete_lawful (ecc : AsyEcc) (libError : Option Nat) (s : State) (hz : Lawful z s) :
    LawfulNext z (execAssayRtComplete ecc libError s) := by
  refine next_lawful <| ite_lawful hz ?_
  split
  · exact hz
  · next x rest _ =>
    have hs : Lawful z (countEcc ecc (s.setAsy { s.asy with rt := rest })) := countEcc_lawful _ _ <| State.setAsy_lawful hz
    dsimp only
    split
    · exact State.setAsy_lawful hs
    · exact ite_lawful (State.setAsy_lawful hs) <| ite_lawful (rtLost_lawful _ _ (asyFault_lawful _ _ _ _ _ hs)) <|
        keepRt_lawful _ _ _ <| rtDone_lawful _ _ _ hs

/-! ## Verdicts and actuation -/

theorem execTileResultIngest_lawful (poisoned : Bool) (s : State) (hz : Lawful z s) :
    LawfulNext z (execTileResultIngest poisoned s) := by
  refine next_lawful ?_
  split
  exacts [hz, ite_lawful (ingest_lawful _ _ _ (openParts_lawful _ (State.setHm_lawful hz))) hz]

theorem execVerdictIssue_lawful (recipe : Nat) (part : Int) (s : State) (hz : Lawful z s) :
    LawfulNext z (execVerdictIssue recipe part s) := by
  refine next_lawful ?_
  split
  exacts [verdictIssue_lawful _ _ _ <| openParts_lawful _ hz, openParts_lawful _ hz]

theorem execVerdictDeadline_lawful (recipe : Nat) (part : Int) (s : State) (hz : Lawful z s) :
    LawfulNext z (execVerdictDeadline recipe part s) := by
  refine next_lawful ?_
  split
  exacts [ite_lawful (issueLate_lawful _ _ _ (openParts_lawful _ hz)) <| openParts_lawful _ hz, openParts_lawful _ hz]

theorem execPlateMaxLenClose_lawful (recipe : Nat) (s : State) (hz : Lawful z s) :
    LawfulNext z (execPlateMaxLenClose recipe s) := by
  refine next_lawful ?_
  split
  exacts [ite_lawful (closeLong_lawful _ _ _ hz) hz, hz]

theorem execActuationSwitchOn_lawful (h goodCopies : Nat) (t : Nat) (s : State) (hz : Lawful z s) :
    LawfulNext z (execActuationSwitchOn h goodCopies t s) := by
  refine next_lawful ?_
  dsimp only
  split
  · exact hz.at_
  · have kept {c : Prop} [Decidable c] {f : Faults} : Lawful z (if c then (s.at_ t).setFlt f else s.at_ t) :=
      ite_lawful (State.setFlt_lawful hz.at_) hz.at_
    exact ite_lawful hz.at_ <| ite_lawful (loseAct_lawful _ _ kept) <| switchOn_lawful _ _ <|
      ite_lawful (secondCopy_lawful _ _ kept) kept

theorem execPulseSwitchOff_lawful (ch : Nat) (t : Nat) (s : State) (hz : Lawful z s) :
    LawfulNext z (execPulseSwitchOff ch t s) := by
  refine next_lawful ?_
  split
  exacts [ite_lawful (switchOff_lawful _ _ hz.at_) hz.at_, hz.at_]

theorem execPulseCapExpiry_lawful (ch : Nat) (s : State) (hz : Lawful z s) : LawfulNext z (execPulseCapExpiry ch s) := by
  refine next_lawful ?_
  split
  · exact ite_lawful hz <| ite_lawful (switchOff_lawful _ _ hz) <| bumpAct_lawful _ _ <| switchOff_lawful _ _ hz.at_
  · exact hz

theorem execInterlockSkip_lawful (h : Nat) (s : State) (hz : Lawful z s) : LawfulNext z (execInterlockSkip h s) := by
  refine next_lawful ?_
  split
  exacts [hz, ite_lawful (noteInterlock_lawful _ _ _ (skipAct_lawful _ _ hz)) hz]

theorem execHmRingSet_lawful (r : Ref) (s : State) (hz : Lawful z s) : LawfulNext z (execHmRingSet r s) := by
  refine hz.row fun _ => ite_lawful ?_ ?_
  · split
    exacts [refuse_lawful _ _ _ _ hz, ok_lawful _ _ _ <| startRing_lawful _ _ <| modTen_lawful _ _ _ hz fun _ k => k]
  · split
    · exact refuse_lawful _ _ _ _ hz
    split
    exacts [refuse_lawful _ _ _ _ hz, ok_lawful _ _ _ <| startRing_lawful _ _ <| startRing_lawful _ _ <|
      modRecipe_lawful _ _ _ hz]

theorem execHmActCancel_lawful (r : Ref) (s : State) (hz : Lawful z s) : LawfulNext z (execHmActCancel r s) := by
  refine hz.row fun _ => ?_
  split
  exacts [refuse_lawful _ _ _ _ hz, ite_lawful (refuseWith_lawful _ _ _ _ hz) <| ok_lawful _ _ _ <|
    release_lawful _ _ hz]

theorem execHmPlateEdge_lawful (r : Ref) (s : State) (hz : Lawful z s) : LawfulNext z (execHmPlateEdge r s) := by
  refine hz.row fun _ => ?_
  split
  · exact refuse_lawful _ _ _ _ hz
  split
  · exact refuse_lawful _ _ _ _ hz
  exact hz.refuseOr <| hz.refuseOr <| hz.refuseOr <| ok_lawful _ _ _ <| edgeFor_lawful _ _ _ _ hz

/-! ## Field I/O -/

theorem execDioBreak_lawful (n t : Nat) (s : State) (hz : Lawful z s) : LawfulNext z (execDioBreak n t s) := by
  refine next_lawful <| ite_lawful hz.at_ ?_
  split
  · exact clearBreak_lawful _ _ hz.at_
  · exact ite_lawful hz.at_ <| noticeBreak_lawful _ _ _ _ <| modChan_lawful _ _ _ hz.at_
  · exact ite_lawful hz.at_ <| noticeBreak_lawful _ _ _ _ <| modChan_lawful _ _ _ hz.at_

theorem execSupplyCauseClear_lawful (n : Nat) (s : State) (hz : Lawful z s) :
    LawfulNext z (execSupplyCauseClear n s) := by
  refine next_lawful ?_
  split
  exacts [ite_lawful (pruneRecipes_lawful _ (setCause_lawful _ _ _ _ hz.at_)) hz, hz]

theorem execDioConfig_lawful (r : Ref) (s : State) (hz : Lawful z s) : LawfulNext z (execDioConfig r s) := by
  refine hz.row fun _ => ite_lawful (hz.refuseOr (ok_lawful _ _ _ (State.setDio_lawful hz id id))) <| hz.refuseOr <|
    hz.refuseOr ?_
  split
  exacts [refuse_lawful _ _ _ _ hz, ok_lawful _ _ _ <| applyDio_lawful _ _ _ hz]

theorem execDioUnretire_lawful (r : Ref) (s : State) (hz : Lawful z s) : LawfulNext z (execDioUnretire r s) := by
  refine hz.row fun _ => hz.refuseOr <| ite_lawful ?_ ?_
  · exact hz.refuseOr <| hz.refuseOr <| ok_lawful _ _ _ <| settleOut_lawful _ _ <| returned_lawful _ _ _ <|
      wantRecord_lawful _ _ <| modChan_lawful _ _ _ hz
  · exact hz.refuseOr <| hz.refuseOr <| ok_lawful _ _ _ <| noticeCapacity_lawful _ _ _ <| settleFeed_lawful _ _ <|
      returned_lawful _ _ _ <| wantRecord_lawful _ _ <| modFeed_lawful _ _ _ hz

/-! ## Recipes, telegrams and tempering -/

theorem execRcpStatus_lawful (r : Ref) (s : State) (hz : Lawful z s) : LawfulNext z (execRcpStatus r s) := by
  refine hz.row fun _ => ?_
  split
  exacts [refuse_lawful _ _ _ _ hz, ok_lawful _ _ _ hz]

theorem execRecipeLoad_lawful (r : LoadRef) (pick : Nat) (s : State) (hz : Lawful z s) :
    LawfulNext z (execRecipeLoad r pick s) := by
  refine hz.row fun _ => ?_
  split
  · exact refuse_lawful _ _ _ _ hz
  split
  exacts [refuseWith_lawful _ _ _ _ hz, loadAdmit_lawful _ _ _ _ hz]

theorem execRecipeRelease_lawful (r : Ref) (s : State) (hz : Lawful z s) : LawfulNext z (execRecipeRelease r s) := by
  refine hz.row fun _ => ?_
  split
  exacts [refuse_lawful _ _ _ _ hz, ok_lawful _ _ _ <| release_lawful _ _ hz]

theorem execRecipeSwitch_lawful (h : Nat) (s : State) (hz : Lawful z s) : LawfulNext z (execRecipeSwitch h s) := by
  have away (h : Nat) : Lawful z (switchAway h (openParts s)) := switchAway_lawful _ _ <| openParts_lawful _ hz
  refine next_lawful ?_
  split
  · exact hz
  refine ite_lawful hz <| ite_lawful (ite_lawful ?_ hz) ?_
  · exact outgoingDone_lawful _ _ <| noticeActive_lawful _ _ _ _ _ <| becomeActive_lawful _ _ <| away _
  · split
    exacts [ite_lawful (outgoingDone_lawful _ _ (noticeActive_lawful _ _ _ _ _ (away _))) hz, hz]

theorem execCheckpoint_lawful (h : Nat) (s : State) (hz : Lawful z s) : LawfulNext z (execCheckpoint h s) := by
  refine next_lawful ?_
  split
  · exact hz
  · exact ite_lawful hz <| wantRecord_lawful _ _ <| modRecipe_lawful _ _ _ <| State.setBoot_lawful hz.at_ rfl rfl rfl

theorem execTokDictLoad_lawful (r : LoadRef) (s : State) (hz : Lawful z s) : LawfulNext z (execTokDictLoad r s) := by
  refine hz.row fun _ => ?_
  split
  · exact refuse_lawful _ _ _ _ hz
  split
  exacts [refuse_lawful _ _ _ _ hz, hz.refuseOr <| ok_lawful _ _ _ <| State.setRcp_lawful hz]

theorem execTokSelectSet_lawful (r : Ref) (s : State) (hz : Lawful z s) : LawfulNext z (execTokSelectSet r s) := by
  refine hz.row fun _ => hz.refuseOr ?_
  dsimp only
  split
  exacts [refuse_lawful _ _ _ _ hz, ok_lawful _ _ _ <| State.setRcp_lawful hz]

theorem execTmpCacheConfig_lawful (r : Ref) (pick : Nat) (s : State) (hz : Lawful z s) :
    LawfulNext z (execTmpCacheConfig r pick s) := by
  refine hz.row fun _ => ?_
  split
  exacts [refuse_lawful _ _ _ _ hz, cacheConfig_lawful _ _ _ hz]

theorem execTmpLabel_lawful (r : Ref) (s : State) (hz : Lawful z s) : LawfulNext z (execTmpLabel r s) := by
  refine hz.row fun _ => hz.refuseOr ?_
  dsimp only
  split
  exacts [refuse_lawful _ _ _ _ hz, ok_lawful _ _ _ <| labelAll_lawful _ _ hz]

theorem execMinibatchStart_lawful (s : State) (hz : Lawful z s) : LawfulNext z (execMinibatchStart s) := by
  refine next_lawful ?_
  split
  exacts [hz, ite_lawful (State.setRcp_lawful hz) hz]

theorem execMinibatchCommit_lawful (s : State) (hz : Lawful z s) : LawfulNext z (execMinibatchCommit s) := by
  refine next_lawful ?_
  split
  exacts [countFenced_lawful _ _ <| State.setRcp_lawful hz, hz, ite_lawful (State.setRcp_lawful hz) hz]

theorem execTmpEpochDone_lawful (params : Bytes) (pick : Nat) (s : State) (hz : Lawful z s) :
    LawfulNext z (execTmpEpochDone params pick s) := by
  refine next_lawful ?_
  split
  exacts [hz, ite_lawful (completeEpoch_lawful _ _ _ _ hz) hz]

theorem execTmpShadow_lawful (r : Ref) (pick : Nat) (s : State) (hz : Lawful z s) :
    LawfulNext z (execTmpShadow r pick s) := by
  refine hz.row fun _ => ?_
  split
  exacts [startShadow_lawful _ _ _ hz, stopShadow_lawful _ _ hz, refuse_lawful _ _ _ _ hz]

theorem execTmpPromote_lawful (r : Ref) (s : State) (hz : Lawful z s) : LawfulNext z (execTmpPromote r s) := by
  refine hz.row fun _ => ?_
  split
  · exact refuse_lawful _ _ _ _ hz
  · exact refuse_lawful _ _ _ _ hz
  split
  exacts [refuse_lawful _ _ _ _ hz, done_lawful _ _ _ _ <| selectOn_lawful _ _ _ _ _ _ _ _ <|
    loadIdle_lawful _ _ _ hz]

theorem execTmpRollback_lawful (r : Ref) (s : State) (hz : Lawful z s) : LawfulNext z (execTmpRollback r s) := by
  refine hz.row fun _ => ?_
  split
  · exact refuse_lawful _ _ _ _ hz
  split
  exacts [refuse_lawful _ _ _ _ hz, done_lawful _ _ _ _ <| selectOn_lawful _ _ _ _ _ _ _ _ hz]

/-! ## Faults, power and start-up -/

theorem execFaultInjectionFire_lawful (index : Nat) (s : State) (hz : Lawful z s) :
    LawfulNext z (execFaultInjectionFire index s) := by
  refine next_lawful ?_
  split
  exacts [hz, ite_lawful (inject_getD_lawful _ (State.setFlt_lawful hz) hz) hz]

theorem execPwrDomain_lawful (r : Ref) (s : State) (hz : Lawful z s) : LawfulNext z (execPwrDomain r s) := by
  refine hz.row fun _ => hz.refuseOr <| hz.refuseOr <| ite_lawful ?_ ?_
  · exact hz.refuseOr <| ite_lawful (ok_lawful _ _ _ hz) <| ok_lawful _ _ _ <| noticeDomain_lawful _ _ _ _ <|
      domainOn_lawful _ _ hz
  · exact ite_lawful (ok_lawful _ _ _ hz) <| hz.refuseOr <| switchDomainOff_lawful _ _ _ hz

theorem execRecordWriteStart_lawful (t : Nat) (s : State) (hz : Lawful z s) :
    LawfulNext z (execRecordWriteStart t s) := by
  refine next_lawful ?_
  split
  exacts [ite_lawful (startWrite_lawful _ _ hz.at_) hz.at_, hz.at_]

theorem execRecordPageDone_lawful (verifyOk : Bool) (t : Nat) (s : State) (hz : Lawful z s) :
    LawfulNext z (execRecordPageDone verifyOk t s) := by
  refine next_lawful ?_
  split
  exacts [pageDone_lawful _ _ _ hz.at_, hz.at_]

theorem execRecConfig_lawful (r : Ref) (s : State) (hz : Lawful z s) : LawfulNext z (execRecConfig r s) := by
  refine hz.row fun _ => ?_
  dsimp only
  split
  · exact refuse_lawful _ _ _ _ hz
  · exact ok_lawful _ _ _ <| wantRecord_lawful _ _ <|
      ite_lawful (State.setKw_lawful (State.setBoot_lawful hz rfl rfl rfl) (KwOk.same rfl rfl)) <|
      State.setBoot_lawful hz rfl rfl rfl

theorem execBootSlotWrite_lawful (r : LoadRef) (s : State) (hz : Lawful z s) : LawfulNext z (execBootSlotWrite r s) := by
  refine hz.row fun _ => ?_
  split
  exacts [refuse_lawful _ _ _ _ hz, hz.refuseOr <| ok_lawful _ _ _ <| State.setBoot_lawful hz rfl rfl rfl]

theorem execBootKeysLoad_lawful (r : LoadRef) (s : State) (hz : Lawful z s) : LawfulNext z (execBootKeysLoad r s) := by
  refine hz.row fun _ => ?_
  split
  exacts [refuse_lawful _ _ _ _ hz, hz.refuseOr <| ok_lawful _ _ _ <| State.setBoot_lawful hz rfl rfl rfl]

theorem execMgmtSupplyReturn_lawful (x mv : Nat) (s : State) (hz : Lawful z s) :
    LawfulNext z (execMgmtSupplyReturn x mv s) :=
  next_lawful <| ite_lawful hz <| ite_lawful (setDom_lawful _ _ _ (setDom_lawful _ _ _ (setInput_lawful _ _ _ hz))) <|
    stepRecord_lawful _ <|
    State.setBoot_lawful (setDom_lawful _ _ _ (setDom_lawful _ _ _ (setInput_lawful _ _ _ hz))) rfl rfl rfl

/-! ## The dispatch and the step -/

/-- Every command keeps the invariant and takes nothing back, measured from any earlier state. -/
theorem exec_lawful (c : Instr) (s : State) (hz : Lawful z s) : LawfulNext z (exec c s) := by
  cases c with
  | descriptorFetch _ _ _ => exact next_lawful <| ite_lawful (fetch_lawful _ _ _ hz.at_) hz.at_
  | sidebandDatagram _ _ => exact execSidebandDatagram_lawful _ _ _ hz
  | sidebandCacheExpiry _ _ _ => exact execSidebandCacheExpiry_lawful _ _ _ _ hz
  | noticeDelivery _ => exact next_lawful <| deliverOne_lawful _ _ hz
  | irqCoalesceTimeout _ =>
    exact next_lawful <| ite_lawful hz <| msixSend_lawful _ _ _ <| modTen_lawful _ _ _ hz.at_ fun _ k => k
  | packetTimeLimit _ => exact execPacketTimeLimit_lawful _ _ hz
  | deadlineExpiry _ => exact execDeadlineExpiry_lawful _ _ hz
  | kwSqDbWrite _ _ _ => exact execKwSqDbWrite_lawful _ _ _ _ hz
  | kwCqDbWrite _ _ => exact next_lawful <| ite_lawful (cqDoorbell_lawful _ _ _ hz) hz
  | ringEnable _ => exact next_lawful <| ite_lawful (enableRing_lawful _ _ hz) hz
  | ringDisable _ => exact next_lawful <| ite_lawful (disableRing_lawful _ _ hz) hz
  | kwIrqCoalWrite _ _ => exact next_lawful <| ite_lawful (writeCoal_lawful _ _ _ hz) hz
  | msixUnmask _ _ => exact next_lawful <| ite_lawful (unmask_lawful _ _ _ hz) hz
  | w1cClear _ _ _ _ => exact next_lawful <| ite_lawful (clearFlags_lawful _ _ _ _ _ hz) hz
  | rcRead _ _ _ => exact next_lawful <| ite_lawful (regRead_lawful _ _ _ _ _ hz) hz
  | rsLowRead _ _ _ => exact next_lawful <| ite_lawful (regRead_lawful _ _ _ _ _ hz) hz
  | plnStatRidxWrite _ _ => exact next_lawful <| ite_lawful (setRidx_lawful _ _ _ hz) hz
  | registerWrite _ _ _ _ => exact next_lawful <| ite_lawful (barWrite_lawful _ _ _ _ _ hz) hz
  | barAccessError _ _ _ _ =>
    exact next_lawful <|
      ite_lawful (ite_lawful (accessError_lawful _ _ hz) (barRead_lawful _ _ _ _ (accessError_lawful _ _ hz))) hz
  | functionLevelReset _ => exact next_lawful <| ite_lawful (functionReset_lawful _ _ hz) hz
  | numvfsReduce _ =>
    exact next_lawful <| ite_lawful hz <| State.setKw_lawful (removeTenants_lawful _ _ hz) <| KwOk.same rfl rfl
  | hostLinkLoss _ => exact next_lawful <| ite_lawful (linkLoss_lawful _ hz.at_) hz.at_
  | hostLossRelease =>
    exact next_lawful <| ite_lawful hz <| releaseWhere_lawful _ _ <| State.setKw_lawful hz.at_ <| KwOk.same rfl rfl
  | hostLinkReturn _ =>
    exact next_lawful <| ite_lawful hz.at_ <| signalReturn_lawful _ _ <| State.setKw_lawful hz.at_ <|
      KwOk.same rfl rfl
  | sysStatus _ =>
    exact hz.row fun _ => hz.refuseOr <| hz.refuseOr <| ite_lawful (ok_lawful _ _ _ hz) <| ok_lawful _ _ _ hz
  | sysIdentify _ => exact hz.row fun _ => ok_lawful _ _ _ hz
  | sysFence _ => exact hz.row fun _ => done_lawful _ _ _ _ <| bumpFence_lawful _ _ <| modP_lawful _ _ _ hz
  | sysOutcomes _ =>
    exact hz.row fun _ => hz.refuseOr <| ok_lawful _ _ _ <| ite_lawful (modTen_lawful _ _ _ hz (fun _ k => k)) hz
  | sysReset _ => exact hz.row fun _ => hz.refuseOr <| hz.refuseOr <| hz.refuseOr <| sysReset_lawful _ _ _ hz
  | tenConfig _ => exact hz.row fun _ => hz.refuseOr <| ok_lawful _ _ _ <| modTen_lawful _ _ _ hz fun _ k => k
  | sysHostlossSet _ =>
    exact hz.row fun _ => hz.refuseOr <| ok_lawful _ _ _ <| wantRecord_lawful _ _ <| State.setKw_lawful hz <|
      KwOk.same rfl rfl
  | posStatus _ => exact hz.row fun _ => ok_lawful _ _ _ hz
  | posScaleSet _ =>
    exact hz.row fun _ => hz.refuseOr <| hz.refuseOr <| ok_lawful _ _ _ <| wantRecord_lawful _ _ <|
      State.setPos_lawful hz
  | posEncConfig _ => exact hz.row fun _ => encConfig_lawful _ _ hz
  | posWindowSet _ => exact hz.row fun _ => hz.refuseOr <| hz.refuseOr <| hz.refuseOr <| posReprog_lawful _ _ _ hz
  | posPreset _ => exact hz.row fun _ => hz.refuseOr <| posReprog_lawful _ _ _ hz
  | posSsiConfig _ =>
    exact hz.row fun _ => hz.refuseOr <| hz.refuseOr <| hz.refuseOr <| hz.refuseOr <| hz.refuseOr <|
      posReprog_lawful _ _ _ <| ite_lawful (wantRecord_lawful _ _ hz) hz
  | ledgStatus _ => exact hz.row fun _ => hz.refuseOr <| hz.refuseOr <| ok_lawful _ _ _ hz
  | ledgConfig _ => exact execLedgConfig_lawful _ _ hz
  | ledgRelease _ => exact execLedgRelease_lawful _ _ hz
  | ledgList _ => exact hz.row fun _ => ok_lawful _ _ _ hz
  | masterEdge _ _ =>
    exact next_lawful <| ite_lawful (masterEdge_lawful _ _ (repeatOut_lawful _ _ _ hz.at_)) <|
      repeatOut_lawful _ _ _ hz.at_
  | auxEncoderEdge _ _ _ => exact execAuxEncoderEdge_lawful _ _ _ _ hz
  | zEdgeCapture _ _ =>
    exact next_lawful <| ite_lawful (repeatOut_lawful _ _ _ hz.at_) <|
      ite_lawful (masterZ_lawful _ (repeatOut_lawful _ _ _ hz.at_)) <| auxZ_lawful _ _ <|
      repeatOut_lawful _ _ _ hz.at_
  | speedUpdate _ => exact next_lawful <| ite_lawful (speedStep_lawful _ hz.at_) hz.at_
  | stationaryTimeout => exact next_lawful <| ite_lawful hz <| State.setPos_lawful hz.at_
  | windowBoundary _ => exact next_lawful <| ite_lawful (boundary_lawful _ _ hz) hz
  | triggerFire _ => exact next_lawful <| ite_lawful (fire_lawful _ _ hz) hz
  | triggerMessageSend _ => exact execTriggerMessageSend_lawful _ _ hz
  | camramBlockReceived _ _ _ => exact next_lawful <| ite_lawful (blockReceived_lawful _ _ _ _ hz) hz
  | camramPacketReceived _ => exact execCamramPacketReceived_lawful _ _ hz
  | cxpPacketReceived _ _ =>
    exact next_lawful <| ite_lawful hz <| ite_lawful (modLane_lawful _ _ _ hz) <| cxpPacket_lawful _ _ _ hz
  | cxpAlignmentLoss _ => exact next_lawful <| lockLossEach_lawful _ _ hz
  | detectProbe _ _ => exact execDetectProbe_lawful _ _ _ hz
  | trainResend _ => exact next_lawful <| ite_lawful hz <| sendTrain_lawful _ _ _ hz.at_
  | bitLock _ => exact next_lawful <| ite_lawful (goLane_lawful _ _ _ _ hz) hz
  | prbsTrainVerified _ => exact next_lawful <| ite_lawful (sendUplink_lawful _ _ _ _ (goLane_lawful _ _ _ _ hz)) hz
  | blockLock _ => exact next_lawful <| ite_lawful (goLane_lawful _ _ _ _ (modLane_lawful _ _ _ hz)) hz
  | capExchange _ _ => exact next_lawful <| ite_lawful (capExchange_lawful _ _ _ hz) hz
  | bringupTimeout _ => exact execBringupTimeout_lawful _ _ hz
  | capFaultRetry _ => exact next_lawful <| ite_lawful hz <| goDetect_lawful _ _ hz.at_
  | cxpDetectAligned _ _ _ => exact next_lawful <| ite_lawful hz <| goEach_lawful _ _ _ _ <| modLane_lawful _ _ _ hz
  | cxpDiscoverAck _ => exact next_lawful <| ite_lawful (goEach_lawful _ _ _ _ hz) hz
  | cxpResyncDone _ => exact next_lawful <| ite_lawful (activeEach_lawful _ _ _ (modLane_lawful _ _ _ hz)) hz
  | cxpBringupTimeout _ =>
    exact next_lawful <| ite_lawful hz <| ite_lawful (detectEach_lawful _ _ hz.at_) <|
      ite_lawful (detectEach_lawful _ _ (modLane_lawful _ _ _ hz.at_)) hz
  | controlReply _ _ _ => exact next_lawful <| ite_lawful (ctrlAnswer_lawful _ _ _ _ hz) hz
  | controlXactTimeout _ => exact execControlXactTimeout_lawful _ _ hz
  | prbsCheckerLock _ => exact next_lawful <| testPair_lawful _ _ _ _ hz
  | prbsLockLoss _ _ _ => exact next_lawful <| testPair_lawful _ _ _ _ hz
  | eyescanDone _ _ =>
    exact next_lawful <|
      ite_lawful (ite_lawful (endEye_lawful _ _ _ (modLane_lawful _ _ _ hz)) (modLane_lawful _ _ _ hz)) hz
  | eqAdaptation _ _ _ _ _ =>
    exact next_lawful <|
      ite_lawful (adaptOne_lawful _ _ _ _ (adaptOne_lawful _ _ _ _ (adaptOne_lawful _ _ _ _
      (modLane_lawful _ _ _ hz.at_)))) hz.at_
  | laneStatus _ => exact hz.row fun _ => hz.refuseOr <| ok_lawful _ _ _ hz
  | laneConfig _ => exact execLaneConfig_lawful _ _ hz
  | laneEnable _ => exact execLaneEnable_lawful _ _ hz
  | laneTriggerConfig _ => exact execLaneTriggerConfig_lawful _ _ hz
  | laneCtrlXact _ =>
    exact hz.row fun _ => hz.refuseOr <| hz.refuseOr <| hz.refuseOr <| hz.refuseOr <| hz.refuseOr <|
      startCtrl_lawful _ _ _ _ hz
  | lanePrbs _ _ _ =>
    exact hz.row fun _ => hz.refuseOr <| hz.refuseOr <| hz.refuseOr <| hz.refuseOr <| hz.refuseOr <|
      ok_lawful _ _ _ <| modLane_lawful _ _ _ <| testPair_lawful _ _ _ _ hz
  | laneInject _ =>
    exact hz.row fun _ => hz.refuseOr <| hz.refuseOr <| hz.refuseOr <| hz.refuseOr <| hz.refuseOr <| hz.refuseOr <|
      ok_lawful _ _ _ <| modLane_lawful _ _ _ hz
  | laneLoopback _ =>
    exact hz.row fun _ => hz.refuseOr <| hz.refuseOr <| hz.refuseOr <| hz.refuseOr <| ok_lawful _ _ _ <|
      modLane_lawful _ _ _ hz
  | laneEyescan _ => exact execLaneEyescan_lawful _ _ hz
  | laneEqBounds _ => exact execLaneEqBounds_lawful _ _ hz
  | laneUnretire _ => exact execLaneUnretire_lawful _ _ hz
  | slotTimeout _ _ => exact execSlotTimeout_lawful _ _ _ hz
  | scanLineConceal _ _ => exact execScanLineConceal_lawful _ _ _ hz
  | scanLineProcess _ _ => exact execScanLineProcess_lawful _ _ _ hz
  | tilePlace _ _ _ => exact next_lawful <| ite_lawful (placeTile_lawful _ _ _ _ hz) hz
  | tapEnd _ => exact execTapEnd_lawful _ _ hz
  | plnStatus _ => exact hz.row fun _ => hz.refuseOr <| ok_lawful _ _ _ hz
  | plnChannelConfig _ => exact execPlnChannelConfig_lawful _ _ hz
  | plnViewConfig _ => exact execPlnViewConfig_lawful _ _ hz
  | plnCalLoad _ => exact hz.row fun _ => takeList_lawful _ _ _ _ hz
  | plnFilterConfig _ =>
    exact hz.row fun _ => hz.refuseOr <| hz.refuseOr <| hz.refuseOr <| hz.refuseOr <| hz.refuseOr <|
      imgReprog_lawful _ _ _ _ hz
  | plnLevelBounds _ => exact hz.row fun _ => hz.refuseOr <| hz.refuseOr <| hz.refuseOr <| imgReprog_lawful _ _ _ _ hz
  | plnStatConfig _ => exact execPlnStatConfig_lawful _ _ hz
  | plnTapOpen _ _ => exact execPlnTapOpen_lawful _ _ _ hz
  | plnTapClose _ => exact execPlnTapClose_lawful _ _ hz
  | calDark _ => exact hz.cmd fun _ _ => calLoad_lawful _ _ _ _ _ hz
  | calFlat _ => exact hz.cmd fun _ _ => calLoad_lawful _ _ _ _ _ hz
  | calDefect _ => exact hz.cmd fun _ _ => calLoad_lawful _ _ _ _ _ hz
  | tileDispatch _ _ => exact execTileDispatch_lawful _ _ _ hz
  | tileComplete _ _ _ _ => exact execTileComplete_lawful _ _ _ _ _ hz
  | certOverrun _ _ => exact execCertOverrun_lawful _ _ _ hz
  | benchPrivateFault _ _ _ _ =>
    exact next_lawful <| ite_lawful hz.at_ <| ite_lawful (bumpBench_lawful _ _ _ _ hz.at_) <|
      ite_lawful (privateFault_lawful _ _ _ _ _ hz.at_) hz.at_
  | benchResetDone _ _ => exact execBenchResetDone_lawful _ _ _ hz
  | chipWideFault _ _ => exact next_lawful <| ite_lawful (chipFault_lawful _ _ _ hz.at_) hz.at_
  | fabChipLoss => exact execFabChipLoss_lawful _ hz
  | nocLinkError _ _ => exact next_lawful <| ite_lawful hz.at_ <| chipFault_lawful _ _ _ hz.at_
  | benchLoadDone _ =>
    exact next_lawful <| ite_lawful (endChange_lawful _ _ hz) <| ite_lawful (modBench_lawful _ _ _ hz) hz
  | fabApplied _ => exact execFabApplied_lawful _ _ hz
  | fabStatus _ => exact hz.row fun _ => ok_lawful _ _ _ hz
  | benchBuild _ _ => exact execBenchBuild_lawful _ _ _ hz
  | benchRebuild _ => exact execBenchRebuild_lawful _ _ hz
  | benchRelease _ => exact execBenchRelease_lawful _ _ hz
  | benchReset _ => exact execBenchReset_lawful _ _ hz
  | benchReadmit _ _ => exact execBenchReadmit_lawful _ _ _ hz
  | fabList _ => exact hz.row fun _ => takeList_lawful _ _ _ _ hz
  | stakeUnretire _ => exact execStakeUnretire_lawful _ _ hz
  | listStart _ => exact execListStart_lawful _ _ hz
  | nop _ => exact hz.cmd fun _ _ => advance_lawful _ _ hz
  | waitEvent _ _ => exact execWaitEvent_lawful _ _ _ hz
  | signalEvent _ => exact hz.cmd fun _ _ => advance_lawful _ _ <| modTen_lawful _ _ _ hz fun _ k => k
  | writeStamp _ _ => exact execWriteStamp_lawful _ _ _ hz
  | loadParams _ => exact execLoadParams_lawful _ _ hz
  | selectParams => exact execSelectParams_lawful _ hz
  | runTiles _ =>
    exact hz.cmd fun _ _ => ite_lawful (failCmd_lawful _ _ _ hz) <| ite_lawful (failCmd_lawful _ _ _ hz) <|
      runTiles_lawful _ _ _ _ _ hz
  | copy _ _ => exact execCopy_lawful _ _ _ hz
  | fill _ => exact execFill_lawful _ _ hz
  | check _ _ => exact execCheck_lawful _ _ _ hz
  | memoryGrant _ _ _ _ _ => exact execMemoryGrant_lawful _ _ _ _ _ _ hz
  | requestAging _ => exact execRequestAging_lawful _ _ hz
  | ingotReread _ _ _ _ => exact next_lawful <| ite_lawful (doubleBit_lawful _ _ _ _ _ hz.at_) hz.at_
  | channelTimeout _ _ _ _ _ => exact next_lawful <| ite_lawful (timeout_lawful _ _ _ _ _ hz.at_) hz.at_
  | patrolScrub _ _ =>
    exact next_lawful <| ite_lawful hz <| State.emit_lawful _ _ <| ite_lawful (corrected_lawful _ _ _ hz) hz
  | drawStatus _ => exact hz.row fun _ => ok_lawful _ _ _ hz
  | drawAlloc _ _ _ => exact execDrawAlloc_lawful _ _ _ _ hz
  | drawFree _ => exact execDrawFree_lawful _ _ hz
  | drawList _ => exact hz.row fun _ => takeList_lawful _ _ _ _ hz
  | drawStreamOpen _ _ => exact execDrawStreamOpen_lawful _ _ _ hz
  | drawStreamClose _ => exact execDrawStreamClose_lawful _ _ hz
  | drawRangeSet _ =>
    exact hz.row fun _ => hz.refuseOr <| hz.refuseOr <| ok_lawful _ _ _ <| State.setDraw_lawful hz id id
  | drawPortMode _ =>
    exact hz.row fun _ => hz.refuseOr <| hz.refuseOr <| hz.refuseOr <| ok_lawful _ _ _ <|
      State.setDraw_lawful hz id id
  | drawChanUnretire _ =>
    exact hz.row fun _ => hz.refuseOr <| hz.refuseOr <| ok_lawful _ _ _ <| noticeCapacity_lawful _ _ _ <|
      returned_lawful _ _ _ <| wantRecord_lawful _ _ <| modDram_lawful _ _ _ <| State.setDraw_lawful hz id <|
      emptyChannel_wf _ _
  | asyStatus _ => exact hz.row fun _ => ok_lawful _ _ _ hz
  | asyLibDefine _ => exact execAsyLibDefine_lawful _ _ hz
  | asyList _ => exact hz.row fun _ => takeList_lawful _ _ _ _ hz
  | sort _ => exact hz.cmd fun _ _ => sortLike_lawful _ _ _ _ _ _ hz
  | merge _ => exact hz.cmd fun _ _ => sortLike_lawful _ _ _ _ _ _ hz
  | topk _ => exact hz.cmd fun _ _ => sortLike_lawful _ _ _ _ _ _ hz
  | nms _ => exact hz.cmd fun _ _ => sortLike_lawful _ _ _ _ _ _ hz
  | nnSearch _ _ => exact hz.cmd fun _ _ => nnSearch_lawful _ _ _ _ _ _ _ hz
  | libLoad _ => exact hz.cmd fun _ _ => libLoad_lawful _ _ _ _ _ hz
  | assayRtComplete _ _ => exact execAssayRtComplete_lawful _ _ _ hz
  | tileResultIngest _ => exact execTileResultIngest_lawful _ _ hz
  | verdictIssue _ _ => exact execVerdictIssue_lawful _ _ _ hz
  | verdictDeadline _ _ => exact execVerdictDeadline_lawful _ _ _ hz
  | plateMaxLenClose _ => exact execPlateMaxLenClose_lawful _ _ hz
  | actuationSwitchOn _ _ _ => exact execActuationSwitchOn_lawful _ _ _ _ hz
  | pulseSwitchOff _ _ => exact execPulseSwitchOff_lawful _ _ _ hz
  | pulseCapExpiry _ => exact execPulseCapExpiry_lawful _ _ hz
  | interlockSkip _ => exact execInterlockSkip_lawful _ _ hz
  | hmStatus _ => exact hz.row fun _ => hz.refuseOr <| ok_lawful _ _ _ hz
  | hmRingSet _ => exact execHmRingSet_lawful _ _ hz
  | hmActSchedule _ _ => exact hz.row fun _ => done_lawful _ _ _ _ <| hostAct_lawful _ _ _ _ _ hz
  | hmActCancel _ => exact execHmActCancel_lawful _ _ hz
  | hmPlateEdge _ => exact execHmPlateEdge_lawful _ _ hz
  | hmList _ => exact hz.row fun _ => takeList_lawful _ _ _ _ hz
  | actEnqueue _ =>
    exact hz.cmd fun _ _ => ite_lawful (failCmd_lawful _ _ _ hz) <|
      ite_lawful (advance_lawful _ _ (hostAct_lawful _ _ _ _ _ hz)) <| failCmd_lawful _ _ _ <|
      hostAct_lawful _ _ _ _ _ hz
  | inputEdgeAccept _ _ => exact next_lawful <| ite_lawful (acceptDue_lawful _ _ hz.at_) hz.at_
  | dioBreak _ _ => exact execDioBreak_lawful _ _ _ hz
  | dioOpenload _ => exact next_lawful <| ite_lawful (noticeUnit_lawful _ _ _ (modChan_lawful _ _ _ hz)) hz
  | openloadClear _ => exact next_lawful <| ite_lawful (modChan_lawful _ _ _ hz) hz
  | dioShort _ _ _ =>
    exact next_lawful <| ite_lawful hz.at_ <| pruneRecipes_lawful _ <| upsetRetire_lawful _ _ _ _ _ _ _ <|
      noticeUnit_lawful _ _ _ <| endPulse_lawful _ _ <| modChan_lawful _ _ _ hz.at_
  | feedTrip _ _ _ _ =>
    exact next_lawful <| ite_lawful hz.at_ <| upsetRetire_lawful _ _ _ _ _ _ _ <| upsetRetire_lawful _ _ _ _ _ _ _ <|
      noticeUnit_lawful _ _ _ <| openFeed_lawful _ _ _ hz.at_
  | feedReclose _ => exact next_lawful <| ite_lawful (settleFeed_lawful _ _ (modFeed_lawful _ _ _ hz.at_)) hz
  | couplerFrameError _ _ _ => exact next_lawful <| ite_lawful (frameError_lawful _ _ _ _ hz.at_) hz.at_
  | linkWatchdog _ =>
    exact next_lawful <| ite_lawful hz <| pruneRecipes_lawful _ <| setCause_lawful _ _ _ _ <|
      modChan_lawful _ _ _ hz.at_
  | linkCauseClear _ =>
    exact next_lawful <| ite_lawful (pruneRecipes_lawful _ (setCause_lawful _ _ _ _ (modChan_lawful _ _ _ hz.at_))) hz
  | fieldSupply _ _ _ => exact next_lawful <| ite_lawful hz.at_ <| fieldSupply_lawful _ _ _ hz.at_
  | supplyCauseClear _ => exact execSupplyCauseClear_lawful _ _ hz
  | dioStatus _ => exact hz.row fun _ => ok_lawful _ _ _ hz
  | dioConfig _ => exact execDioConfig_lawful _ _ hz
  | dioUnretire _ => exact execDioUnretire_lawful _ _ hz
  | dioSafeAssert _ => exact hz.row fun _ => ok_lawful _ _ _ <| pruneRecipes_lawful _ <| setCause_lawful _ _ _ _ hz
  | dioSafeRelease _ =>
    exact hz.row fun _ => hz.refuseOr <| hz.refuseOr <| ok_lawful _ _ _ <| pruneRecipes_lawful _ <|
      clearIf_lawful _ _ _ _ <| clearIf_lawful _ _ _ _ <| clearIf_lawful _ _ _ _ hz
  | rcpStatus _ => exact execRcpStatus_lawful _ _ hz
  | recipeLoad _ _ => exact execRecipeLoad_lawful _ _ _ hz
  | recipeActivate _ =>
    exact hz.row fun _ => ite_lawful (done_lawful _ _ _ _ (activate_lawful _ _ _ _ _ _ _ hz)) <|
      refuse_lawful _ _ _ _ hz
  | recipeRelease _ => exact execRecipeRelease_lawful _ _ hz
  | recipeSwitch _ => exact execRecipeSwitch_lawful _ _ hz
  | checkpoint _ => exact execCheckpoint_lawful _ _ hz
  | tokDictLoad _ => exact execTokDictLoad_lawful _ _ hz
  | tokSelectSet _ => exact execTokSelectSet_lawful _ _ hz
  | telegram _ => exact hz.row fun _ => hz.refuseOr <| hz.refuseOr <| hz.refuseOr <| takeTelegram_lawful _ _ hz
  | tmpCacheConfig _ _ => exact execTmpCacheConfig_lawful _ _ _ hz
  | tmpLabel _ => exact execTmpLabel_lawful _ _ hz
  | tmpEpoch _ _ =>
    exact hz.row fun _ => ite_lawful (commitP_lawful _ _ (requestEpoch_lawful _ _ _ _ _ _ _ hz)) <|
      ite_lawful (refuseWith_lawful _ _ _ _ (requestEpoch_lawful _ _ _ _ _ _ _ hz)) <| refuse_lawful _ _ _ _ hz
  | epoch _ =>
    exact hz.cmd fun _ _ => ite_lawful hz <| ite_lawful (failCmd_lawful _ _ _ hz) <|
      ite_lawful (requestEpoch_lawful _ _ _ _ _ _ _ hz) <| failCmd_lawful _ _ _ <|
      requestEpoch_lawful _ _ _ _ _ _ _ hz
  | minibatchStart => exact execMinibatchStart_lawful _ hz
  | minibatchCommit => exact execMinibatchCommit_lawful _ hz
  | tmpEpochDone _ _ => exact execTmpEpochDone_lawful _ _ _ hz
  | tmpShadow _ _ => exact execTmpShadow_lawful _ _ _ hz
  | tmpPromote _ => exact execTmpPromote_lawful _ _ hz
  | tmpRollback _ => exact execTmpRollback_lawful _ _ hz
  | tmpList _ => exact hz.row fun _ => takeList_lawful _ _ _ _ hz
  | fltLogRead _ => exact hz.row fun _ => hz.refuseOr <| ok_lawful _ _ _ <| State.setFlt_lawful hz
  | fltStatus _ => exact hz.row fun _ => ok_lawful _ _ _ hz
  | fltConfig _ =>
    exact hz.row fun _ => hz.refuseOr <| hz.refuseOr <| hz.refuseOr <| ok_lawful _ _ _ <| wantRecord_lawful _ _ <|
      State.setFlt_lawful hz
  | fltInject _ =>
    exact hz.row fun _ => hz.refuseOr <| hz.refuseOr <| hz.refuseOr <| hz.refuseOr <| ok_lawful _ _ _ <|
      State.setFlt_lawful hz
  | faultInjectionFire _ => exact execFaultInjectionFire_lawful _ _ hz
  | ctrlFault _ _ _ =>
    exact next_lawful <| ite_lawful hz.at_ <| ite_lawful (ctrlFault_lawful _ _ _ hz.at_) <|
      journalLost_lawful _ hz.at_
  | fltCtrlRestart _ =>
    exact next_lawful <| ite_lawful hz <| ite_lawful (restartDone_lawful _ hz) <| journalLost_lawful _ hz
  | mgmtRestart _ => exact next_lawful <| ite_lawful (mgmtRestarts_lawful _ hz.at_) hz.at_
  | pwrStatus _ => exact hz.row fun _ => ok_lawful _ _ _ hz
  | thermStatus _ => exact hz.row fun _ => ok_lawful _ _ _ hz
  | pwrDomain _ => exact execPwrDomain_lawful _ _ hz
  | pwrSagSet _ =>
    exact hz.row fun _ => hz.refuseOr <|
      ite_lawful (sagWarn_lawful _ (ok_lawful _ _ _ (wantRecord_lawful _ _ (State.setPwr_lawful hz id)))) <|
      ok_lawful _ _ _ <| wantRecord_lawful _ _ <| State.setPwr_lawful hz id
  | pwrAvsBounds _ =>
    exact hz.row fun _ => hz.refuseOr <| hz.refuseOr <| hz.refuseOr <| ok_lawful _ _ _ <| State.setPwr_lawful hz id
  | supplyLost _ _ => exact next_lawful <| ite_lawful (inputLost_lawful _ _ _ _ hz) hz
  | inputOvervoltage _ _ => exact next_lawful <| ite_lawful (inputLost_lawful _ _ _ _ hz) hz
  | sagWarn _ _ => exact next_lawful <| ite_lawful (sagWarn_lawful _ (setVbus_lawful _ _ hz.at_)) hz.at_
  | sagClear _ _ =>
    exact next_lawful <|
      ite_lawful (supplyCleared_lawful _ (noticeUnit_lawful _ _ _ (setVbus_lawful _ _
      (State.setPwr_lawful hz.at_ id)))) hz.at_
  | sagReset _ _ =>
    exact next_lawful <|
      ite_lawful (heldDown_lawful _ (faultReset_lawful _ _ _ (State.setPwr_lawful
      (setVbus_lawful _ _ hz.at_) id))) hz.at_
  | sagPowerUp _ _ =>
    exact next_lawful <| ite_lawful (beginStart_lawful _ (State.setPwr_lawful (setVbus_lawful _ _ hz.at_) id)) hz.at_
  | railWarn _ _ _ => exact next_lawful <| ite_lawful (railWarn_lawful _ _ (setRail_lawful _ _ _ hz.at_)) hz.at_
  | railClear _ _ _ =>
    exact next_lawful <|
      ite_lawful (supplyCleared_lawful _ (noticeUnit_lawful _ _ _ (setRail_lawful _ _ _ (State.setPwr_lawful hz.at_
      (by simp))))) hz.at_
  | railReset _ _ _ => exact next_lawful <| ite_lawful (railReset_lawful _ _ (setRail_lawful _ _ _ hz.at_)) hz.at_
  | pllLoss _ _ =>
    exact next_lawful <| ite_lawful hz.at_ <| ite_lawful (State.setPwr_lawful hz.at_ id) <|
      ite_lawful (beginStart_lawful _ (faultReset_lawful _ _ _ hz.at_)) hz.at_
  | thermWarn _ _ =>
    exact next_lawful <|
      ite_lawful (noticeUnit_lawful _ _ _ (State.setLed_lawful (setTemps_lawful _ _
      (State.setPwr_lawful hz.at_ id)))) hz.at_
  | thermClear _ _ =>
    exact next_lawful <|
      ite_lawful (noticeCapacity_lawful _ _ _ (noticeUnit_lawful _ _ _ (State.setLed_lawful (setTemps_lawful _ _
      (State.setPwr_lawful hz.at_ id))))) hz.at_
  | thermThrottle _ _ _ _ =>
    exact next_lawful <| ite_lawful hz.at_ <| ite_lawful (throttleUp_lawful _ _ (State.setPwr_lawful hz.at_ id)) <|
      ite_lawful (throttleDown_lawful _ _ (State.setPwr_lawful hz.at_ id)) hz.at_
  | thermalShutdown _ _ =>
    exact next_lawful <|
      ite_lawful (shutDown_lawful _ _ (faultReset_lawful _ _ _ (setTemps_lawful _ _ hz.at_))) hz.at_
  | thermalCutoff _ _ =>
    exact next_lawful <|
      ite_lawful (State.setBoot_lawful (State.setPwr_lawful (resetCore_lawful _ _ _
      (setTemps_lawful _ _ hz.at_)) id) rfl rfl rfl) hz.at_
  | fanFail _ _ =>
    exact next_lawful <| ite_lawful hz <| ite_lawful (State.setPwr_lawful hz id) <| fansFull_lawful _ _ <|
      noticeUnit_lawful _ _ _ <| State.setPwr_lawful (State.setPwr_lawful hz id) id
  | avsAdaptation _ _ _ _ => exact next_lawful <| ite_lawful (adapt_lawful _ _ _ _ hz.at_) hz.at_
  | powerOn _ _ => exact next_lawful <| ite_lawful (powerOn_lawful _ _ hz.at_) hz.at_
  | bootStepComplete _ _ => exact next_lawful <| ite_lawful (completeStep_lawful _ _ hz.at_) hz.at_
  | keeperOverrun => exact next_lawful <| ite_lawful (keeperInvalidate_lawful _ hz) hz
  | recordWriteStart _ => exact execRecordWriteStart_lawful _ _ hz
  | recordPageDone _ _ => exact execRecordPageDone_lawful _ _ _ hz
  | recRead _ => exact hz.row fun _ => ok_lawful _ _ _ hz
  | bootStatus _ => exact hz.row fun _ => ok_lawful _ _ _ hz
  | recConfig _ => exact execRecConfig_lawful _ _ hz
  | bootSlotWrite _ => exact execBootSlotWrite_lawful _ _ hz
  | bootSlotSelect _ =>
    exact hz.row fun _ => hz.refuseOr <| ok_lawful _ _ _ <| wantRecord_lawful _ _ <|
      State.setBoot_lawful hz rfl rfl rfl
  | bootSlotConfirm _ =>
    exact hz.row fun _ => hz.refuseOr <| ok_lawful _ _ _ <| wantRecord_lawful _ _ <|
      State.setBoot_lawful hz rfl rfl rfl
  | bootKeysLoad _ => exact execBootKeysLoad_lawful _ _ hz
  | rtcSet _ => exact hz.row fun _ => ok_lawful _ _ _ <| State.setBoot_lawful hz rfl rfl rfl
  | ptbInterpolation _ => exact next_lawful <| ite_lawful (interpolate_lawful _ hz.at_) hz.at_
  | keeperSample _ _ => exact next_lawful <| ite_lawful (keeperSample_lawful _ _ hz) hz
  | dioInputSample _ _ _ _ =>
    exact next_lawful <| ite_lawful (modChan_lawful _ _ _ (acceptDue_lawful _ _ hz.at_)) hz.at_
  | couplerStatusFrame _ _ _ _ =>
    exact next_lawful <| ite_lawful hz.at_ <| ite_lawful (modChan_lawful _ _ _ hz.at_) <| modChan_lawful _ _ _ hz.at_
  | supplyRestored _ _ => exact next_lawful <| ite_lawful (setVin_lawful _ _ _ _ _ hz) hz
  | mgmtSupplyLoss _ => exact next_lawful <| ite_lawful (mgmtDown_lawful _ (setInputs_lawful _ _ hz)) hz
  | mgmtSupplyReturn _ _ => exact execMgmtSupplyReturn_lawful _ _ _ hz
  | mgmtRestartDone _ =>
    exact next_lawful <| ite_lawful (recovered_lawful _ _ _ _ _ (State.setPwr_lawful hz.at_ id)) hz.at_
  | keeperPowerLoss =>
    exact next_lawful <| ite_lawful hz <|
      State.setPwr_lawful (State.setFlt_lawful (State.setBoot_lawful hz rfl rfl rfl)) id
  | keeperLow _ => exact next_lawful <| State.setPwr_lawful hz id
  | sectorEraseDone _ _ => exact next_lawful <| ite_lawful (eraseDone_lawful _ _ _ hz) hz
  | sidebandLink _ =>
    exact next_lawful <| ite_lawful hz <| settleClocks_lawful _ <| State.setKw_lawful hz <| KwOk.same rfl rfl

/-- A state that meets the invariant has taken nothing back from itself. -/
theorem Lawful.refl (hs : Inv s) : Lawful s s :=
  ⟨hs, ⟨rfl, le_rfl, List.suffix_rfl, rfl, rfl, rfl⟩⟩

/-- The invariant speaks neither of the queue nor of the time. -/
theorem Inv.with_pending_now (hs : Inv s) (cs : List Instr) (t : Nat) : Inv { s with pending := cs, now := t } :=
  ⟨hs.hostMem, hs.unitMem, hs.tenants, hs.fences, hs.sbFence, hs.lanes, hs.triggers, hs.channels, hs.views, hs.benches,
    hs.ingot, hs.dio, hs.feeds, hs.domains⟩

/-- Settles O4: an idle step changes the time alone, and every command keeps the invariant. -/
theorem everyStepKeepsInv : Obligations.EveryStepKeepsInv := by
  unfold Obligations.EveryStepKeepsInv
  intro s t hs ht
  unfold step at ht
  split at ht
  · cases ht
    exact hs.with_pending_now s.pending (s.now + 1)
  · next c cs _ => exact (exec_lawful c _ (Lawful.refl (hs.with_pending_now cs s.now)) t ht).inv

end Sys2Proof.Machine
end

section
/-! PROOFS. What the protocol's operations leave alone and what they write: the ring of a tenant, the rest of the protocol
engine, host memory, and the packets that are outstanding. -/

namespace Sys2Proof.Machine

open Sys2Proof

/-! ## Host memory -/

theorem cellAt_setCell_ne {a b : Nat} (h : b ≠ a) (v : Byte) (c : List Host.Cell) :
    cellAt (setCell c a v) b = cellAt c b := by
  induction c with
  | nil =>
    rw [setCell]
    split
    · rfl
    · exact if_neg h.symm
  | cons x r ih =>
    obtain ⟨k, y⟩ := x
    simp only [setCell, cellAt]
    split_ifs <;> grind [cellAt]

/-- A byte outside what was written stays as it was. -/
theorem memGet_memWrite_outside (m : Memory) (a : Nat) (b : Bytes) (x : Nat) (h : x < a ∨ a + b.length ≤ x) :
    memGet (memWrite m a b) x = memGet m x := by
  induction b generalizing m a with
  | nil => rfl
  | cons y r ih =>
    simp only [List.length_cons] at h
    rw [memWrite, ih _ _ (by omega)]
    exact cellAt_setCell_ne (by omega) y m.cells

@[simp] theorem padTo_length (n : Nat) (b : Bytes) : (padTo n b).length = n := by
  simp [padTo]
  omega

@[simp] theorem withCrc_length (b : Bytes) : (withCrc b).length = b.length + 4 := by simp [withCrc]

/-! ## A tenant's ring -/

/-- What a tenant holds beside its outcome log and what waits to be signalled on its vectors. -/
def Tenant.ring (t : Tenant) : Tenant :=
  { t with outcomes := [], overwritten := 0, coalPending := 0, coalSince := 0, pba := [] }

theorem ten_modTen_cases (s : State) (n m : Nat) (f : Tenant → Tenant) :
    ten (modTen n f s) m = ten s m ∨ m = n ∧ ten (modTen n f s) m = f (ten s n) := by
  by_cases hm : n = m
  · subst hm
    by_cases hn : n < s.kw.tenants.length
    · exact .inr ⟨rfl, ten_modTen_self s n f hn⟩
    · left
      simp only [ten, modTen, State.setKw_kw, getI, upd, List.getD_eq_getElem?_getD, List.getElem?_modify]
      simp [List.getElem?_eq_none (Nat.le_of_not_lt hn)]
  · exact .inl (ten_modTen_ne s n m f hm)

/-- What every value of `f` keeps, every tenant keeps. -/
theorem ten_modTen_keeps {α : Type} (g : Tenant → α) {f : Tenant → Tenant} (hf : ∀ t, g (f t) = g t) (s : State)
    (n m : Nat) : g (ten (modTen n f s) m) = g (ten s m) := by
  rcases ten_modTen_cases s n m f with h | ⟨rfl, h⟩
  · rw [h]
  · rw [h, hf]

@[simp] theorem msixSend_ring (n v m : Nat) (s : State) : (ten (msixSend n v s) m).ring = (ten s m).ring := by
  unfold msixSend
  split
  · rfl
  split
  · exact ten_modTen_keeps Tenant.ring (by intro; rfl) s n m
  · rfl

@[simp] theorem coalesce_ring (n m : Nat) (b : Bool) (s : State) : (ten (coalesce n b s) m).ring = (ten s m).ring := by
  unfold coalesce
  dsimp only
  split
  · rw [msixSend_ring]
    exact ten_modTen_keeps Tenant.ring (by intro; rfl) s n m
  · exact ten_modTen_keeps Tenant.ring (by intro; rfl) s n m

@[simp] theorem logOutcome_ring (n m : Nat) (e : OutcomeEntry) (s : State) :
    (ten (logOutcome n e s) m).ring = (ten s m).ring := by
  rw [logOutcome]
  exact ten_modTen_keeps Tenant.ring (fun t => by dsimp only [Tenant.ring]) s n m

@[simp] theorem ten_dropP (r : Ref) (s : State) (m : Nat) : ten (dropP r s) m = ten s m := rfl
@[simp] theorem ten_withdraw (r : Ref) (s : State) (m : Nat) : ten (withdraw r s) m = ten s m := rfl

/-- The newest entry of an outcome log is the last one entered (03 R177). -/
theorem logOutcome_getLast? (n : Nat) (e : OutcomeEntry) (s : State) (hn : n < s.kw.tenants.length) :
    (ten (logOutcome n e s) n).outcomes.getLast? = some e := by
  rw [logOutcome, ten_modTen_self s n _ hn]
  simp [List.getLast?_drop]

/-- A full outcome log stays full (15 R699). -/
theorem logOutcome_length_full (n : Nat) (e : OutcomeEntry) (s : State) (hn : n < s.kw.tenants.length)
    (h : (ten s n).outcomes.length = 256) : (ten (logOutcome n e s) n).outcomes.length = 256 := by
  rw [logOutcome, ten_modTen_self s n _ hn]
  simp [h]

/-! ## The rest of the protocol engine -/

/-- The protocol engine without its tenants, the packets outstanding and the replies that wait. -/
def Kwelo.rest (k : Kwelo) : Kwelo := { k with tenants := [], outstanding := [], waitingReplies := [] }

/-- The protocol engine without its tenants. -/
def Kwelo.shared (k : Kwelo) : Kwelo := { k with tenants := [] }

theorem Kwelo.rest_of_shared {k l : Kwelo} (h : l.shared = k.shared) : l.rest = k.rest := by
  have := congrArg Kwelo.rest h
  exact this

theorem outstanding_of_shared {k l : State} (h : l.kw.shared = k.kw.shared) : l.kw.outstanding = k.kw.outstanding := by
  have := congrArg Kwelo.outstanding h
  exact this

@[simp] theorem modTen_shared (n : Nat) (f : Tenant → Tenant) (s : State) : (modTen n f s).kw.shared = s.kw.shared := rfl
@[simp] theorem msixSend_shared (n v : Nat) (s : State) : (msixSend n v s).kw.shared = s.kw.shared := by
  unfold msixSend
  split_ifs <;> rfl
@[simp] theorem coalesce_shared (n : Nat) (b : Bool) (s : State) : (coalesce n b s).kw.shared = s.kw.shared := by
  unfold coalesce
  dsimp only
  split
  · exact msixSend_shared n 0 _
  · rfl
@[simp] theorem writeSlot_shared (n v : Nat) (b : Bytes) (s : State) : (writeSlot n v b s).kw.shared = s.kw.shared := rfl
@[simp] theorem logOutcome_shared (n : Nat) (e : OutcomeEntry) (s : State) :
    (logOutcome n e s).kw.shared = s.kw.shared := rfl

/-! ## Outstanding no more -/

theorem findP_congr {s t : State} (h : t.kw.outstanding = s.kw.outstanding) (r : Ref) : findP r t = findP r s := by
  rw [findP, findP, h]

theorem findP_of_shared {s t : State} (h : t.kw.shared = s.kw.shared) (r : Ref) : findP r t = findP r s :=
  findP_congr (outstanding_of_shared h) r

theorem findP_eq_none_iff {r : Ref} {s : State} : findP r s = none ↔ ∀ p ∈ s.kw.outstanding, sameRef r p = false := by
  simp [findP, sameRef]

theorem findP_ref {r : Ref} {p : Packet} {s : State} (h : findP r s = some p) : p.ref = r := by
  have := List.find?_some h
  simp only [Bool.and_eq_true, beq_iff_eq] at this
  obtain ⟨h1, h2⟩ := this
  rw [Packet.ref, h1, h2]

theorem findP_dropP_of_none {r : Ref} {s : State} (q : Ref) (h : findP r s = none) : findP r (dropP q s) = none := by
  rw [findP_eq_none_iff] at h ⊢
  intro p hp
  exact h p (List.mem_filter.1 hp).1

theorem findP_clearEn_of_none {r : Ref} {s : State} (n : Nat) (h : findP r s = none) : findP r (clearEn n s) = none := by
  rw [findP_eq_none_iff] at h ⊢
  intro p hp
  obtain ⟨q, hq, rfl⟩ := List.mem_map.1 hp
  have := h q hq
  split
  · exact this
  · exact this

theorem findP_logCancelled_of_none {r : Ref} (l : List Packet) {s : State} (h : findP r s = none) :
    findP r (logCancelled l s) = none := by
  induction l generalizing s with
  | nil => exact h
  | cons p l ih => exact ih (findP_dropP_of_none (s := s) p.ref h)

theorem findP_ringError_of_none {r : Ref} {s : State} (n b : Nat) (h : findP r s = none) :
    findP r (ringError n b s) = none := by
  refine findP_logCancelled_of_none _ ?_
  rw [findP_congr (modTen_outstanding _ n _), findP_of_shared (msixSend_shared n 2 _)]
  exact findP_clearEn_of_none n h

end Sys2Proof.Machine
end

section
/-! PROOFS. Where a reply goes: the ring of a tenant, its outcome log, the replies that wait and the sideband. -/

namespace Sys2Proof.Machine

open Sys2Proof

/-! ## The replies by their destination -/

@[simp] theorem logReply_shared (i : ReplyInfo) (s : State) : (logReply i s).kw.shared = s.kw.shared :=
  logOutcome_shared i.tenant _ s

@[simp] theorem ringReply_shared (i : ReplyInfo) (s : State) : (ringReply i s).kw.shared = s.kw.shared := by
  unfold ringReply
  dsimp only
  rw [coalesce_shared, writeSlot_shared, modTen_shared, State.setHost_kw]

theorem findP_tenantReply_of_none {r : Ref} {s : State} (i : ReplyInfo) (orphan : Bool) (h : findP r s = none) :
    findP r (tenantReply i orphan s) = none := by
  unfold tenantReply
  split
  · rwa [findP_of_shared (logReply_shared i s)]
  split
  · rw [findP_of_shared (logReply_shared i _)]
    exact findP_ringError_of_none i.tenant 2 h
  · rwa [findP_of_shared (ringReply_shared i s)]

/-- A packet that has ended is outstanding no more, wherever its outcome goes. -/
theorem findP_finish (p : Packet) (st : Half) (fence sp : Word) (res : Bytes) (s : State) :
    findP p.ref (finish p st fence sp res s) = none := by
  have h : findP p.ref (dropP p.ref s) = none := findP_dropP p.ref s
  unfold finish
  dsimp only
  split
  · exact h
  unfold deliver
  dsimp only
  split
  · exact h
  · exact findP_tenantReply_of_none _ _ h

theorem finish_of_running {p : Packet} {s : State} (hp : p.principal < 64) (hc : ctrlHeld s = false) (st : Half)
    (fence sp : Word) (res : Bytes) :
    finish p st fence sp res s = tenantReply (infoOf p st fence sp res) p.orphan (dropP p.ref s) := by
  simp [finish, deliver, hc, Nat.ne_of_lt hp]

theorem finish_of_held {p : Packet} {s : State} (hp : p.principal < 64) (hc : ctrlHeld s = true) (st : Half)
    (fence sp : Word) (res : Bytes) :
    finish p st fence sp res s = (dropP p.ref s).setKw { (dropP p.ref s).kw with
      waitingReplies := s.kw.waitingReplies ++
        [{ packet := p, status := st, result := res, fence := fence, spos := sp }] } := by
  simp [finish, hc, Nat.ne_of_lt hp, dropP]

theorem finish_of_sideband {p : Packet} (hp : p.principal = 64) (st : Half) (fence sp : Word) (res : Bytes) (s : State) :
    finish p st fence sp res s =
      sidebandReply p.sbAddr p.sbPort p.sbCrc (infoOf p st fence sp res) (dropP p.ref s) := by
  simp [finish, deliver, hp]

theorem tenantReply_dead {i : ReplyInfo} {orphan : Bool} {s : State} (h : ringLive s i.tenant = false ∨ orphan = true) :
    tenantReply i orphan s = logReply i s := by
  unfold tenantReply
  rcases h with h | h <;> simp [h]

theorem tenantReply_bad {i : ReplyInfo} {s : State} (h : ringLive s i.tenant = true) (hb : replyBad i s = true) :
    tenantReply i false s = logReply i (ringError i.tenant 2 s) := by
  simp [tenantReply, h, hb]

theorem tenantReply_good {i : ReplyInfo} {s : State} (h : ringLive s i.tenant = true) (hb : replyBad i s = false) :
    tenantReply i false s = ringReply i s := by
  simp [tenantReply, h, hb]

/-! ## A reply on the ring -/

/-- A result of at most 32 bytes stands in the entry itself and nothing is written to the reply buffer (03 R147). -/
theorem ringReply_short {i : ReplyInfo} {s : State} (h : i.result.length ≤ 32) :
    ringReply i s = coalesce i.tenant i.notify (writeSlot i.tenant 0
      (replyHead i.status i.tag i.opcode i.sp i.fence i.result.length i.slot 0 ++ padTo 32 i.result)
      (modTen i.tenant (fun t => { t with reserved := t.reserved - 1 }) s)) := by
  have hplace : resultPlace i = (0, i.result) := if_pos h
  have hpart : bufferPart i = [] := if_neg fun hc => absurd hc.1 (Nat.not_lt.2 h)
  unfold ringReply
  rw [hplace, hpart]
  rfl

@[simp] theorem coalesce_host (n : Nat) (b : Bool) (s : State) : (coalesce n b s).host = s.host :=
  coalesce_frame (fr := [.emitted, .kw]) n b s (List.Subset.refl _) (Frame.refl _ s) .host (by decide)

theorem writeSlot_host (n v : Nat) (body : Bytes) (s : State) :
    (writeSlot n v body s).host = memWrite s.host ((ten s n).cqBase.toNat + 64 * (ten s n).cqTail)
      (withCrc (padTo 56 body ++ le4 (b2n (ten s n).phase))) := rfl

theorem ten_writeSlot_self (n v : Nat) (body : Bytes) (s : State) (hn : n < s.kw.tenants.length) :
    ten (writeSlot n v body s) n = { ten s n with
      cqTail := if (ten s n).cqTail + 1 = cqSlots (ten s n) then 0 else (ten s n).cqTail + 1
      phase := if (ten s n).cqTail + 1 = cqSlots (ten s n) then !(ten s n).phase else (ten s n).phase
      unconsumed := (ten s n).unconsumed ++ [v] } := by
  unfold writeSlot
  dsimp only
  refine (ten_modTen_self _ n _ ?_).trans ?_
  · exact hn
  · simp only [ten_setHost, decide_eq_true_eq]

/-- A short reply's entry: TAIL moves on, PHASE turns over at the ring's end, the reserved slot is taken (03 R147). -/
theorem ringReply_short_ring {i : ReplyInfo} {s : State} (h : i.result.length ≤ 32) (hn : i.tenant < s.kw.tenants.length) :
    let t := ten s i.tenant
    (ten (ringReply i s) i.tenant).ring = Tenant.ring { t with
      reserved := t.reserved - 1
      cqTail := if t.cqTail + 1 = cqSlots t then 0 else t.cqTail + 1
      phase := if t.cqTail + 1 = cqSlots t then !t.phase else t.phase
      unconsumed := t.unconsumed ++ [0] } := by
  rw [ringReply_short h, coalesce_ring, ten_writeSlot_self _ _ _ _ (by rwa [modTen_length]), ten_modTen_self s _ _ hn]
  rfl

theorem ringReply_short_host {i : ReplyInfo} {s : State} (h : i.result.length ≤ 32) (hn : i.tenant < s.kw.tenants.length) :
    let t := ten s i.tenant
    (ringReply i s).host = memWrite s.host (t.cqBase.toNat + 64 * t.cqTail)
      (withCrc (padTo 56 (replyHead i.status i.tag i.opcode i.sp i.fence i.result.length i.slot 0 ++ padTo 32 i.result) ++
        le4 (b2n t.phase))) := by
  rw [ringReply_short h, coalesce_host, writeSlot_host, ten_modTen_self s _ _ hn]
  rfl

/-! ## A ring error -/

@[simp] theorem logCancelled_ring (l : List Packet) (s : State) (m : Nat) :
    (ten (logCancelled l s) m).ring = (ten s m).ring := by
  induction l generalizing s with
  | nil => rfl
  | cons p l ih => rw [logCancelled, ih, logOutcome_ring, ten_withdraw, ten_dropP]

theorem ten_clearEn_self (n : Nat) (s : State) (hn : n < s.kw.tenants.length) :
    ten (clearEn n s) n = { ten s n with en := false, reserved := 0 } :=
  ten_modTen_self s n _ hn

@[simp] theorem clearEn_tenants_length (n : Nat) (s : State) :
    (clearEn n s).kw.tenants.length = s.kw.tenants.length :=
  modTen_length s n _

@[simp] theorem msixSend_tenants_length (n v : Nat) (s : State) :
    (msixSend n v s).kw.tenants.length = s.kw.tenants.length := by
  unfold msixSend
  split
  · rfl
  split
  · exact modTen_length s n _
  · rfl

/-- A ring error disables the ring, sets its cause and bumps the fence; the rest of the ring stays (03 R151, R157). -/
theorem ringError_ring (n b : Nat) (s : State) (hn : n < s.kw.tenants.length) :
    (ten (ringError n b s) n).ring = Tenant.ring { ten s n with
      en := false, reserved := 0, ringStatus := (ten s n).ringStatus ||| (1 <<< b)
      fence := nextFence (ten s n).fence } := by
  have hstatus : ten (setStatus n b (clearEn n s)) n = { ten s n with
      en := false, reserved := 0, ringStatus := (ten s n).ringStatus ||| (1 <<< b) } := by
    rw [setStatus, ten_modTen_self _ n _ (by rwa [clearEn_tenants_length]), ten_clearEn_self n s hn]
  have hlen : n < (msixSend n 2 (setStatus n b (clearEn n s))).kw.tenants.length := by
    rwa [msixSend_tenants_length, setStatus, modTen_length, clearEn_tenants_length]
  have hsent := congrArg (fun t : Tenant => { t with fence := nextFence t.fence })
    (msixSend_ring n 2 n (setStatus n b (clearEn n s)))
  unfold ringError
  dsimp only
  rw [logCancelled_ring, ten_modTen_self _ n _ hlen]
  rw [hstatus] at hsent
  exact hsent

/-! ## A reply of the sideband -/

theorem sidebandReply_kept (addr : Word) (port : Half) (crc : Word) (i : ReplyInfo) (s : State) :
    (sidebandReply addr port crc i s).kw.sbCache.getLast? =
      some { addr := addr, port := port, tag := i.tag, crc := crc, at_ := s.now, reply := sidebandBytes i } := by
  simp [sidebandReply, sendSideband, List.getLast?_drop]

/-! ## The obligation, clause by clause -/

theorem finish_on_good_ring {p : Packet} {s : State} (hp : p.principal < 64) (ho : p.orphan = false)
    (hl : ringLive s p.principal = true) (hc : ctrlHeld s = false) {st : Half} {fence sp : Word} {res : Bytes}
    (hb : replyBad (infoOf p st fence sp res) s = false) :
    finish p st fence sp res s = ringReply (infoOf p st fence sp res) (dropP p.ref s) := by
  rw [finish_of_running hp hc, ho]
  exact tenantReply_good hl hb

theorem finish_on_bad_ring {p : Packet} {s : State} (hp : p.principal < 64) (ho : p.orphan = false)
    (hl : ringLive s p.principal = true) (hc : ctrlHeld s = false) {st : Half} {fence sp : Word} {res : Bytes}
    (hb : replyBad (infoOf p st fence sp res) s = true) :
    finish p st fence sp res s =
      logReply (infoOf p st fence sp res) (ringError p.principal 2 (dropP p.ref s)) := by
  rw [finish_of_running hp hc, ho]
  exact tenantReply_bad hl hb

/-- Settles O7: the state that `finish` answers is named for each destination; its ring, its outcome log and its chapters
are read off it. -/
theorem repliesReachTheirPrincipal : Obligations.RepliesReachTheirPrincipal := by
  unfold Obligations.RepliesReachTheirPrincipal
  refine ⟨?_, ?_, ?_, ?_, ?_⟩
  · intro p st fence sp res s hs hp ho hl hc hb hres n t u entry
    have hn : p.principal < s.kw.tenants.length := by rwa [hs.tenants]
    have hu : u = ringReply (infoOf p st fence sp res) (dropP p.ref s) := finish_on_good_ring hp ho hl hc hb
    have hring := ringReply_short_ring (i := infoOf p st fence sp res) (s := dropP p.ref s) hres hn
    have hhost : u.host = memWrite s.host (t.cqBase.toNat + 64 * t.cqTail) entry :=
      hu ▸ ringReply_short_host (i := infoOf p st fence sp res) (s := dropP p.ref s) hres hn
    rw [← hu] at hring
    have hentry : entry.length = 64 := by simp [entry]
    refine ⟨findP_finish p st fence sp res s, hhost, hentry, ?_, congrArg Tenant.cqTail hring, congrArg Tenant.phase hring,
      congrArg Tenant.reserved hring, (congrArg Tenant.fence hring :), ?_⟩
    · intro a ha
      rw [hhost]
      exact memGet_memWrite_outside _ _ _ _ (by rwa [hentry])
    · rw [hu]
      exact ringReply_frame _ _ (by decide) (dropP_frame _ _ (by decide) (Frame.refl _ s))
  · intro p st fence sp res s hs hp ho hl hc hb u
    let s1 := ringError p.principal 2 (dropP p.ref s)
    have hu : u = logReply (infoOf p st fence sp res) s1 := finish_on_bad_ring hp ho hl hc hb
    have hn : p.principal < s.kw.tenants.length := by rwa [hs.tenants]
    have hn1 : p.principal < s1.kw.tenants.length := by
      have hlaw : Lawful s s1 := ringError_lawful _ _ _ (dropP_lawful p.ref s (Lawful.refl hs))
      rwa [hlaw.inv.tenants]
    have hring : (ten u p.principal).ring = Tenant.ring { ten s p.principal with
        en := false, reserved := 0, ringStatus := (ten s p.principal).ringStatus ||| (1 <<< 2)
        fence := nextFence (ten s p.principal).fence } := by
      rw [hu, logReply, logOutcome_ring]
      exact ringError_ring p.principal 2 (dropP p.ref s) hn
    have hframe : Frame [.emitted, .kw, .fab] s u := by
      rw [hu]
      exact logReply_frame _ _ (by decide) (ringError_frame _ _ _ (by decide)
        (dropP_frame _ _ (by decide) (Frame.refl _ s)))
    refine ⟨findP_finish p st fence sp res s, hframe .host (by decide), congrArg Tenant.en hring, ?_,
      congrArg Tenant.fence hring, ?_, hframe⟩
    · have hstatus := congrArg Tenant.ringStatus hring
      exact hstatus ▸ (by simp [Tenant.ring])
    · rw [hu]
      exact logOutcome_getLast? _ _ s1 hn1
  · intro p st fence sp res s hs hp hc hdead u
    have hn : p.principal < s.kw.tenants.length := by rwa [hs.tenants]
    have hu : u = logReply (infoOf p st fence sp res) (dropP p.ref s) :=
      (finish_of_running hp hc st fence sp res).trans (tenantReply_dead hdead)
    have hframe : Frame [.kw] s u := by
      rw [hu]
      exact logReply_frame _ _ (by decide) (dropP_frame _ _ (by decide) (Frame.refl _ s))
    refine ⟨findP_finish p st fence sp res s, hframe .host (by decide), hframe .emitted (by decide), ?_, ?_, hframe⟩
    · rw [hu]
      exact logOutcome_getLast? _ _ (dropP p.ref s) hn
    · intro hfull
      rw [hu]
      exact logOutcome_length_full _ _ (dropP p.ref s) hn hfull
  · intro p st fence sp res s hp hc u
    have hu : u = _ := finish_of_held hp hc st fence sp res
    refine ⟨findP_finish p st fence sp res s, ?_, ?_, ?_⟩
    · rw [hu]
      rfl
    · rw [hu]
      exact State.setKw_frame _ _ (by decide) (dropP_frame p.ref s (by decide) (Frame.refl _ s))
    · rw [hu]
      rfl
  · intro p st fence sp res s hp u
    have hu : u = _ := finish_of_sideband hp st fence sp res s
    refine ⟨findP_finish p st fence sp res s, ?_, ?_, ⟨sidebandBytes (infoOf p st fence sp res), ?_, ?_⟩, ?_⟩
    · rw [hu]
      rfl
    · rw [hu]
      rfl
    · rw [hu]
      rfl
    · rw [hu, sidebandReply_kept]
      rfl
    · rw [hu]
      exact sidebandReply_frame _ _ _ _ _ (by decide) (dropP_frame p.ref s (by decide) (Frame.refl _ s))

end Sys2Proof.Machine
end

section
/-! PROOFS. What brings packets in and what ends them without a reply of theirs: the fetch, the sideband, the notices and
the time limits. -/

namespace Sys2Proof.Machine

open Sys2Proof

/-! ## Fetching -/

theorem leVal_lt (b : Bytes) : leVal b < 256 ^ b.length := by
  induction b with
  | nil => simp [leVal]
  | cons x r ih =>
    have hx : x.toNat < 256 := x.isLt
    rw [leVal, List.length_cons, pow_succ]
    omega

theorem fld_lt (b : Bytes) (off n : Nat) : fld b off n < 256 ^ n := by
  have hlen : ((b.drop off).take n).length ≤ n := List.length_take_le n _
  calc fld b off n < 256 ^ ((b.drop off).take n).length := leVal_lt _
    _ ≤ 256 ^ n := Nat.pow_le_pow_right (by decide) hlen

theorem ofNat_fld_toNat (b : Bytes) (off : Nat) : (BitVec.ofNat 16 (fld b off 2)).toNat = fld b off 2 :=
  (BitVec.toNat_ofNat _ _).trans (Nat.mod_eq_of_lt (fld_lt b off 2))

theorem hostBad_of_none {s : State} (h : s.kw.badHost = []) (a n : Nat) : hostBad s a n = false := by
  rw [hostBad, h]
  rfl

/-- A good descriptor of a readable ring: its packet is validated after the head has moved on and a slot is reserved
(03 R145, R146). -/
theorem fetch_of_good {n : Nat} {s : State} (hb : s.kw.badHost = []) {d : Bytes}
    (hd : d = memRead s.host ((ten s n).sqBase.toNat + 16 * (ten s n).sqHead) 16)
    (hgood : badDescriptor (fld d 0 8) (fld d 8 2) = false) :
    fetch n true s = accept n (memRead s.host (fld d 0 8) (fld d 8 2)) (BitVec.ofNat 16 (ten s n).sqHead)
      (modTen n (fun t => { t with sqHead := (t.sqHead + 1) % 2 ^ t.sqLog, reserved := t.reserved + 1 }) s) := by
  subst hd
  simp [fetch, hostBad_of_none hb, hgood]

theorem accept_of_valid {n : Nat} {b : Bytes} {s : State} (h : validate n b s = none) (slot : Half) :
    accept n b slot s = addPacket (packetOf n b slot s) s := by
  rw [accept, h]

theorem exec_descriptorFetch_of_idle {n t : Nat} {dmaOk : Bool} {s : State} (h : canFetch (s.at_ t) n = false) :
    exec (.descriptorFetch n dmaOk t) s = .next (s.at_ t) :=
  congrArg Host.Outcome.next (if_neg (by simp [h]))

theorem exec_descriptorFetch_of_ready {n t : Nat} {dmaOk : Bool} {s : State} (h : canFetch (s.at_ t) n = true) :
    exec (.descriptorFetch n dmaOk t) s = .next (fetch n dmaOk (s.at_ t)) :=
  congrArg Host.Outcome.next (if_pos h)

/-! ## The sideband -/

/-- The state in which a datagram that reaches the sideband is looked at: its time has come and the port is in use. -/
def heard (t : Nat) (s : State) : State := (s.at_ t).setKw { s.kw with sbActive := some (max s.now t) }

theorem heard_frame (t : Nat) (s : State) {fr : List Chapter} (h : [.now, .kw] ⊆ fr) : Frame fr s (heard t s) :=
  State.setKw_frame _ _ (List.Subset.trans (by decide) h)
    (State.at__frame s t (List.Subset.trans (by decide) h) (Frame.refl _ s))

@[simp] theorem keptReplies_heard (t : Nat) (s : State) : keptReplies (heard t s) = keptReplies (s.at_ t) := rfl

section
variable {d : Datagram} {t : Nat} {s : State} (hup : mgmtUp s = true) (hlink : s.kw.sbLink = true)
include hup hlink

/-- With MGMT and the port up, a datagram is dropped, discarded or answered (03 R166, R168). -/
theorem exec_sidebandDatagram : exec (.sidebandDatagram d t) s = .next (
    if d.kind != .arp && !allowed s d.srcAddr then
      (heard t s).setKw { (heard t s).kw with sbDropped := s.kw.sbDropped + 1 }
    else if d.dstAddr != s.kw.sbAddr then heard t s
    else answerSideband d (heard t s)) := by
  have hon : ¬ (!(mgmtUp (s.at_ t) && (s.at_ t).kw.sbLink)) = true := by
    have hup' : mgmtUp (s.at_ t) = true := hup
    simp [hup', hlink]
  exact congrArg Host.Outcome.next (if_neg hon)

theorem exec_sidebandDatagram_dropped (hk : d.kind ≠ .arp) (ha : allowed s d.srcAddr = false) :
    exec (.sidebandDatagram d t) s =
      .next ((heard t s).setKw { (heard t s).kw with sbDropped := s.kw.sbDropped + 1 }) := by
  rw [exec_sidebandDatagram hup hlink, if_pos (by simp [hk, ha])]

theorem exec_sidebandDatagram_elsewhere (ha : allowed s d.srcAddr = true) (hd : d.dstAddr ≠ s.kw.sbAddr) :
    exec (.sidebandDatagram d t) s = .next (heard t s) := by
  rw [exec_sidebandDatagram hup hlink, if_neg (by simp [ha]), if_pos (by simp [hd])]

theorem exec_sidebandDatagram_here (ha : d.kind = .arp ∨ allowed s d.srcAddr = true) (hd : d.dstAddr = s.kw.sbAddr) :
    exec (.sidebandDatagram d t) s = .next (answerSideband d (heard t s)) := by
  rw [exec_sidebandDatagram hup hlink, if_neg (by rcases ha with ha | ha <;> simp [ha]), if_neg (by simp [hd])]

end

theorem find?_kept_of_any {l : List SbReply} {d : Datagram} (h : l.any (sbKey d) = false) :
    (l.find? fun e => sbKey d e && e.crc == sbCrcOf d.bytes) = none := by
  rw [List.any_eq_false] at h
  rw [List.find?_eq_none]
  intro e he
  simp [h e he]

/-- A packet of a new key that is valid, with fewer than 8 of the sideband's outstanding, becomes outstanding (03 R171). -/
theorem serveSideband_of_new {d : Datagram} {s : State} (hk : (keptReplies s).any (sbKey d) = false)
    (hv : validate 64 d.bytes s = none) (hl : (s.kw.outstanding.filter (·.principal == 64)).length < 8) :
    serveSideband d s =
      addPacket { packetOf 64 d.bytes 0xFFFF s with sbAddr := d.srcAddr, sbPort := d.srcPort } s := by
  obtain ⟨hf, ht⟩ := Option.or_eq_none_iff.1 hv
  rw [serveSideband, find?_kept_of_any hk]
  simp only [acceptSideband, hf, hk, ht, Nat.not_le.2 hl]
  simp

theorem exec_sidebandCacheExpiry {a : Word} {port tag : Half} {s : State} {e : SbReply}
    (h : s.kw.sbCache.find? (fun e => e.addr == a && e.port == port && e.tag == tag) = some e) :
    exec (.sidebandCacheExpiry a port tag) s = .next ((s.at_ (e.at_ + sTicks 10)).setKw
      { s.kw with sbCache := s.kw.sbCache.filter fun x => !(x == e) }) := by
  show execSidebandCacheExpiry a port tag s = _
  rw [execSidebandCacheExpiry, h]
  rfl

/-! ## Notices -/

theorem deliverOne_held {n : Nat} {s : State} {nt : Notice} {r : List Notice} (hl : ringLive s n = true)
    (hc : ctrlHeld s = false) (hf : slotFree (ten s n) = true) (hb : slotBad s n = false)
    (ho : (ten s n).overflow = 0) (hn : (ten s n).heldNotices = nt :: r) :
    deliverOne n s = writeNotice n nt (modTen n (fun t => { t with heldNotices := r }) s) := by
  simp [deliverOne, hl, hc, hf, hb, ho, hn]

theorem writeNotice_ring (n : Nat) (nt : Notice) (s : State) (hn : n < s.kw.tenants.length) :
    (ten (writeNotice n nt s) n).ring = Tenant.ring { ten s n with
      cqTail := if (ten s n).cqTail + 1 = cqSlots (ten s n) then 0 else (ten s n).cqTail + 1
      phase := if (ten s n).cqTail + 1 = cqSlots (ten s n) then !(ten s n).phase else (ten s n).phase
      unconsumed := (ten s n).unconsumed ++ [1] } := by
  rw [writeNotice, msixSend_ring, ten_writeSlot_self n 1 _ s hn]

/-! ## Signals -/

theorem msixSend_of_not_held {n v : Nat} {s : State} (h3 : v ≠ 3) (h : vectorHeld (ten s n) v = false) :
    msixSend n v s = s.emit (.msix n v) := by
  simp [msixSend, h3, h]

@[simp] theorem msixSend_coalPending (n v m : Nat) (s : State) :
    (ten (msixSend n v s) m).coalPending = (ten s m).coalPending := by
  unfold msixSend
  split
  · rfl
  split
  · exact ten_modTen_keeps Tenant.coalPending (by intro; rfl) s n m
  · rfl

@[simp] theorem msixSend_now (n v : Nat) (s : State) : (msixSend n v s).now = s.now :=
  msixSend_frame (fr := [.emitted, .kw]) n v s (List.Subset.refl _) (Frame.refl _ s) .now (by decide)

theorem exec_irqCoalesceTimeout {n : Nat} {s : State} (hlink : s.kw.linkUp = true) (hp : (ten s n).coalPending ≠ 0)
    (ht : (ten s n).coalTime ≠ 0) :
    exec (.irqCoalesceTimeout n) s = .next (msixSend n 0 (modTen n (fun t => { t with coalPending := 0 })
      (s.at_ ((ten s n).coalSince + usTicks (ten s n).coalTime)))) :=
  congrArg Host.Outcome.next (if_neg (by simp [hp, ht, hlink]))

/-! ## Packets that end -/

theorem findP_cancelP {r : Ref} {p : Packet} {s : State} (h : findP r s = some p) (st : Half) (fence : Word) (u : State) :
    findP r (cancelP p st fence u) = none := by
  rw [← findP_ref h]
  exact findP_finish p st fence _ [] _

theorem cancelP_now (p : Packet) (st : Half) (fence : Word) (s : State) : (cancelP p st fence s).now = s.now :=
  cancelP_frame (fr := [.emitted, .host, .kw, .fab]) p st fence s (List.Subset.refl _) (Frame.refl _ s) .now (by decide)

theorem exec_packetTimeLimit {r : Ref} {p : Packet} {s : State} (h : findP r s = some p) (hc : p.committed = false)
    (ht : p.tmo ≠ 0) :
    exec (.packetTimeLimit r) s = .next (cancelP p stTIMED_OUT (fenceOf s p.principal)
      (s.at_ (p.fetchedAt + msTicks p.tmo))) := by
  show execPacketTimeLimit r s = _
  rw [execPacketTimeLimit, h]
  exact congrArg Host.Outcome.next (if_neg (by simp [hc, ht]))

theorem exec_deadlineExpiry {r : Ref} {p : Packet} {s : State} (h : findP r s = some p) (hc : p.committed = false)
    (hd : deadlineReached s p = true) :
    exec (.deadlineExpiry r) s = .next (cancelP p stTIMED_OUT (fenceOf s p.principal) s) := by
  show execDeadlineExpiry r s = _
  rw [execDeadlineExpiry, h]
  exact congrArg Host.Outcome.next (if_neg (by simp [hc, hd]))

/-- Settles O8: each command is brought to one state by its equation above; the fields and chapters are read off it. -/
theorem fetchAndSideband : Obligations.FetchAndSideband := by
  unfold Obligations.FetchAndSideband
  refine ⟨?_, ?_, ?_, ?_, ?_, ?_, ?_, ?_⟩
  · intro n t dmaOk s h
    exact exec_descriptorFetch_of_idle h
  · intro n t s hs hn hf hb u d b u1 hgood hv
    let p := packetOf n b (BitVec.ofNat 16 (ten u n).sqHead) u1
    have hlen : n < u.kw.tenants.length := by rwa [show u.kw.tenants.length = 64 from hs.tenants]
    have hu1 : ten u1 n = { ten s n with
        sqHead := ((ten s n).sqHead + 1) % 2 ^ (ten s n).sqLog, reserved := (ten s n).reserved + 1 } :=
      ten_modTen_self u n _ hlen
    refine ⟨addPacket p u1, p, ?_, rfl, rfl, rfl, ofNat_fld_toNat b 2, ofNat_fld_toNat b 4, rfl, rfl, rfl, rfl,
      congrArg Tenant.sqHead hu1, congrArg Tenant.reserved hu1, ?_⟩
    · rw [exec_descriptorFetch_of_ready hf, fetch_of_good (s := s.at_ t) hb rfl hgood, accept_of_valid hv]
    · exact addPacket_frame _ _ (by decide) (modTen_frame _ _ _ (by decide)
        (State.at__frame _ _ (by decide) (Frame.refl _ s)))
  · intro d t s hup hlink
    refine ⟨?_, ?_, ?_, ?_, ?_⟩
    · intro hk hd
      refine ⟨_, exec_sidebandDatagram_here hup hlink (.inl hk) hd, ?_⟩
      rw [answerSideband, hk]
      exact ⟨rfl, rfl, State.emit_frame _ _ (by decide) (heard_frame t s (by decide))⟩
    · intro hk ha
      exact ⟨_, exec_sidebandDatagram_dropped hup hlink hk ha, rfl, rfl,
        State.setKw_frame _ _ (by decide) (heard_frame t s (by decide))⟩
    · intro ha hd hk hfrag
      refine ⟨_, exec_sidebandDatagram_here hup hlink (.inr ha) hd, ?_⟩
      rw [answerSideband, hk, hfrag]
      exact ⟨rfl, rfl, State.emit_frame _ _ (by decide) (heard_frame t s (by decide))⟩
    · intro ha hother
      refine ⟨heard t s, ?_, rfl, heard_frame t s (by decide)⟩
      by_cases hd : d.dstAddr = s.kw.sbAddr
      · obtain ⟨hk, hport⟩ := hother.resolve_left (fun h => h hd)
        rw [exec_sidebandDatagram_here hup hlink (.inr ha) hd, answerSideband, hk]
        exact congrArg Host.Outcome.next (if_pos (by simpa [sbUdpPort] using hport))
      · exact exec_sidebandDatagram_elsewhere hup hlink ha hd
    · intro ha hd hk hport hfrag
      have hserved : exec (.sidebandDatagram d t) s = .next (serveSideband d (heard t s)) := by
        rw [exec_sidebandDatagram_here hup hlink (.inr ha) hd, answerSideband, hk]
        simp [hport, hfrag, sbUdpPort]
      refine ⟨fun e he => ?_, fun hkept hv hroom => ?_⟩
      · refine ⟨_, hserved, ?_⟩
        rw [serveSideband, keptReplies_heard, he]
        exact ⟨rfl, rfl, sendSideband_frame _ _ _ _ (by decide) (heard_frame t s (by decide))⟩
      · rw [serveSideband_of_new (s := heard t s) hkept hv hroom] at hserved
        exact ⟨_, _, hserved, rfl, rfl, rfl, rfl, rfl, addPacket_frame _ _ (by decide) (heard_frame t s (by decide))⟩
  · intro a port tag s e he
    exact ⟨_, exec_sidebandCacheExpiry he, rfl, rfl,
      State.setKw_frame _ _ (by decide) (State.at__frame _ _ (by decide) (Frame.refl _ s))⟩
  · intro n s nt rest hs hn hl hc hf hb ho hheld
    let s1 := modTen n (fun t => { t with heldNotices := rest }) s
    have hlen : n < s.kw.tenants.length := by rwa [hs.tenants]
    have hlen1 : n < s1.kw.tenants.length := by rwa [modTen_length]
    have hs1 : ten s1 n = { ten s n with heldNotices := rest } := ten_modTen_self s n _ hlen
    have hring := writeNotice_ring n nt s1 hlen1
    rw [hs1] at hring
    refine ⟨writeNotice n nt s1, congrArg Host.Outcome.next (deliverOne_held hl hc hf hb ho hheld),
      congrArg Tenant.heldNotices hring, congrArg Tenant.unconsumed hring, ?_⟩
    exact writeNotice_frame _ _ _ (by decide) (modTen_frame _ _ _ (by decide) (Frame.refl _ s))
  · intro n s hs hn hlink hp ht
    let s1 := s.at_ ((ten s n).coalSince + usTicks (ten s n).coalTime)
    let s2 := modTen n (fun t => { t with coalPending := 0 }) s1
    have hlen : n < s1.kw.tenants.length := by rwa [show s1.kw.tenants.length = 64 from hs.tenants]
    have hs2 : ten s2 n = { ten s n with coalPending := 0 } := ten_modTen_self s1 n _ hlen
    refine ⟨msixSend n 0 s2, exec_irqCoalesceTimeout hlink hp ht, ?_, ?_, ?_, ?_⟩
    · rw [msixSend_coalPending, hs2]
    · intro hv
      have hv2 : vectorHeld (ten s2 n) 0 = false := by
        rw [hs2]
        exact hv
      rw [msixSend_of_not_held (by decide) hv2]
      rfl
    · rw [msixSend_now]
      rfl
    · exact msixSend_frame _ _ _ (by decide) (modTen_frame _ _ _ (by decide)
        (State.at__frame _ _ (by decide) (Frame.refl _ s)))
  · intro r p s h hcom htmo
    exact ⟨_, exec_packetTimeLimit h hcom htmo, findP_cancelP h _ _ _, cancelP_now _ _ _ _, rfl⟩
  · intro r p s h hcom hd
    exact ⟨_, exec_deadlineExpiry h hcom hd, findP_cancelP h _ _ _, rfl⟩

end Sys2Proof.Machine
end

section
/-! PROOFS. What ends without a reply on any ring: the packets of a ring that is disabled, a function reset, the host link
lost and back. -/

namespace Sys2Proof.Machine

open Sys2Proof

/-! ## Packets that end off the ring -/

/-- Only outcome logs, replies that wait, outstanding packets and what the fabric holds for them are touched. -/
structure OffRing (s t : State) : Prop where
  frame : Frame [.kw, .fab] s t
  rest : t.kw.rest = s.kw.rest
  ring : ∀ m, (ten t m).ring = (ten s m).ring

theorem OffRing.refl (s : State) : OffRing s s := ⟨Frame.refl _ s, rfl, fun _ => rfl⟩

theorem OffRing.trans {s t u : State} (h : OffRing s t) (k : OffRing t u) : OffRing s u :=
  ⟨h.frame.trans' k.frame, k.rest.trans h.rest, fun m => (k.ring m).trans (h.ring m)⟩

theorem offRing_dropP (r : Ref) (s : State) : OffRing s (dropP r s) :=
  ⟨dropP_frame r s (by decide) (Frame.refl _ s), rfl, fun _ => rfl⟩

theorem offRing_withdraw (r : Ref) (s : State) : OffRing s (withdraw r s) :=
  ⟨withdraw_frame r s (by decide) (Frame.refl _ s), rfl, fun _ => rfl⟩

theorem offRing_logReply (i : ReplyInfo) (s : State) : OffRing s (logReply i s) :=
  ⟨logReply_frame i s (by decide) (Frame.refl _ s), Kwelo.rest_of_shared (logReply_shared i s),
    fun m => logOutcome_ring i.tenant m _ s⟩

/-- The outcome of a tenant's packet whose ring is gone reaches the outcome log or waits (03 R177). -/
theorem offRing_finish {p : Packet} {s : State} (hp : p.principal < 64)
    (hdead : ringLive s p.principal = false ∨ p.orphan = true) (st : Half) (fence sp : Word) (res : Bytes) :
    OffRing s (finish p st fence sp res s) := by
  have hdrop := offRing_dropP p.ref s
  cases hc : ctrlHeld s with
  | true =>
    rw [finish_of_held hp hc]
    exact hdrop.trans ⟨State.setKw_frame _ _ (by decide) (Frame.refl _ _), rfl, fun _ => rfl⟩
  | false =>
    rw [finish_of_running hp hc, tenantReply_dead hdead]
    exact hdrop.trans (offRing_logReply _ _)

theorem offRing_cancelP {p : Packet} (hp : p.principal < 64) (ho : p.orphan = true) (st : Half) (fence : Word)
    (s : State) : OffRing s (cancelP p st fence s) :=
  (offRing_withdraw p.ref s).trans (offRing_finish hp (.inr ho) st fence (spos s) [])

theorem offRing_cancelAll {l : List Packet} {s : State} (hl : ∀ p ∈ l, p.principal < 64 ∧ p.orphan = true) :
    OffRing s (cancelAll l s) := by
  induction l generalizing s with
  | nil => exact OffRing.refl s
  | cons p l ih =>
    obtain ⟨⟨hp, ho⟩, hl⟩ := List.forall_mem_cons.1 hl
    exact (offRing_cancelP hp ho _ _ s).trans (ih hl)

/-! ## A ring disabled -/

/-- Every packet of a tenant whose EN is cleared has lost its reserved slot (03 R177). -/
theorem orphan_of_mem_clearEn {n : Nat} {s : State} {p : Packet} (hp : p ∈ (clearEn n s).kw.outstanding)
    (hn : p.principal = n) : p.orphan = true := by
  obtain ⟨q, -, rfl⟩ := List.mem_map.1 hp
  by_cases hq : q.principal = n
  · simp [hq]
  · simp [hq] at hn

/-- A disabled ring is its tenant with EN cleared and the next fence; the packets it cancels end off the ring. -/
theorem disableRing_offRing {n : Nat} (hn : n < 64) (s : State) :
    OffRing (modTen n (fun t => { t with fence := nextFence t.fence }) (clearEn n s)) (disableRing n s) := by
  refine offRing_cancelAll fun p hp => ?_
  obtain ⟨hmem, hcond⟩ := List.mem_filter.1 hp
  simp only [Bool.and_eq_true, beq_iff_eq] at hcond
  obtain ⟨hprin, -⟩ := hcond
  exact ⟨hprin ▸ hn, orphan_of_mem_clearEn hmem hprin⟩

theorem disableRing_frame_kw_fab {n : Nat} (hn : n < 64) (s : State) : Frame [.kw, .fab] s (disableRing n s) :=
  (modTen_frame _ _ _ (by decide) (clearEn_frame _ _ (by decide) (Frame.refl _ s))).trans' (disableRing_offRing hn s).frame

theorem disableRing_rest {n : Nat} (hn : n < 64) (s : State) : (disableRing n s).kw.rest = s.kw.rest :=
  (disableRing_offRing hn s).rest

theorem disableRing_ring {n : Nat} (hn : n < 64) {s : State} (hlen : n < s.kw.tenants.length) :
    (ten (disableRing n s) n).ring = Tenant.ring { ten s n with
      en := false, reserved := 0, fence := nextFence (ten s n).fence } := by
  rw [(disableRing_offRing hn s).ring n, ten_modTen_self _ n _ (by rwa [clearEn_tenants_length]), ten_clearEn_self n s hlen]

/-! ## Function-level reset -/

theorem ten_functionReset {n : Nat} {s : State} (hs : Inv s) (hn : n < 64) :
    let t := ten (disableRing n s) n
    ten (functionReset n s) n = { Tenant.reset n with
      fence := t.fence, classMask := t.classMask, heldNotices := t.heldNotices, overflow := t.overflow
      noticeSeq := t.noticeSeq, outcomes := t.outcomes, overwritten := t.overwritten, hostARing := t.hostARing
      latches := t.latches.filter fun e => decide (0x8000 ≤ e.1) } := by
  have hlaw : Lawful s (disableRing n s) := disableRing_lawful n s (Lawful.refl hs)
  exact ten_modTen_self _ n _ (by rwa [hlaw.inv.tenants])

theorem functionReset_frame_kw_fab {n : Nat} (hn : n < 64) (s : State) : Frame [.kw, .fab] s (functionReset n s) :=
  modTen_frame _ _ _ (by decide) (disableRing_frame_kw_fab hn s)

/-! ## The host link -/

theorem lt_of_mem_tenantsUp {n : Nat} {s : State} (h : n ∈ tenantsUp s) : n < 64 :=
  List.mem_range.1 (List.mem_filter.1 h).1

theorem loseLink_keeps {l : List Nat} (hl : ∀ n ∈ l, n < 64) (s : State) :
    Frame [.kw, .fab] s (loseLink l s) ∧ (loseLink l s).kw.rest = s.kw.rest := by
  induction l generalizing s with
  | nil => exact ⟨Frame.refl _ s, rfl⟩
  | cons n l ih =>
    obtain ⟨hn, hl⟩ := List.forall_mem_cons.1 hl
    obtain ⟨hframe, hrest⟩ := ih hl (disableRing n (setStatus n 4 s))
    have hstatus : Frame [.kw, .fab] s (setStatus n 4 s) := setStatus_frame n 4 s (by decide) (Frame.refl _ s)
    exact ⟨(hstatus.trans' (disableRing_frame_kw_fab hn _)).trans' hframe, hrest.trans (disableRing_rest hn _)⟩

/-- Loss of the link: marked down at its time, logged once, and nothing else but in the protocol engine and the fabric. -/
theorem linkLoss_keeps (s : State) :
    Frame [.kw, .fab, .flt] s (linkLoss s) ∧ (linkLoss s).kw.linkUp = false ∧ (linkLoss s).kw.lostAt = s.now ∧
      (linkLoss s).flt.nextSeq = s.flt.nextSeq + 1 := by
  let s1 := s.setKw { s.kw with linkUp := false, lostAt := s.now, lossReleased := false }
  obtain ⟨hframe, hrest⟩ := loseLink_keeps (fun n => lt_of_mem_tenantsUp (n := n) (s := s1)) s1
  have hs1 : Frame [.kw, .fab, .flt] s s1 := State.setKw_frame _ _ (by decide) (Frame.refl _ s)
  have hflt : (loseLink (tenantsUp s1) s1).flt = s1.flt := hframe .flt (by decide)
  refine ⟨logFault_frame _ _ (by decide) (hs1.trans' (hframe.mono (by decide))), (congrArg Kwelo.linkUp hrest :),
    (congrArg Kwelo.lostAt hrest :), ?_⟩
  exact congrArg (fun f : Faults => f.nextSeq + 1) hflt

@[simp] theorem signalReturn_shared (l : List Nat) (s : State) : (signalReturn l s).kw.shared = s.kw.shared := by
  induction l generalizing s with
  | nil => rfl
  | cons n l ih => rw [signalReturn, ih, msixSend_shared]

/-! ## The commands -/

theorem exec_functionLevelReset {n : Nat} {s : State} (h : barReachable s n = true) :
    exec (.functionLevelReset n) s = .next (functionReset n s) :=
  congrArg Host.Outcome.next (if_pos h)

theorem exec_hostLinkLoss {s : State} (h : s.kw.linkUp = true) (t : Nat) :
    exec (.hostLinkLoss t) s = .next (linkLoss (s.at_ t)) :=
  congrArg Host.Outcome.next (if_pos h)

/-- Settles O10: what the host's side does to a ring is a tenant with its EN cleared and its fence bumped, and packets that
end off the ring. -/
theorem hostSide : Obligations.HostSide := by
  unfold Obligations.HostSide
  refine ⟨?_, ?_, ?_, ?_, ?_⟩
  · intro n s hs hn hreach
    have hten := ten_functionReset hs hn
    have hring := disableRing_ring hn (s := s) (by rwa [hs.tenants])
    refine ⟨_, exec_functionLevelReset hreach, ?_, congrArg Tenant.en hten, ?_, congrArg Tenant.events hten,
      (functionReset_frame_kw_fab hn s).led_eq (by decide)⟩
    · exact (congrArg Tenant.fence hten).trans (congrArg Tenant.fence hring :)
    · exact (congrArg Tenant.classMask hten).trans (congrArg Tenant.classMask hring :)
  · intro n s hn
    refine ⟨_, congrArg Host.Outcome.next (if_neg (Nat.not_le.2 hn)), rfl, ?_⟩
    intro k hk
    exact decide_eq_false (Nat.not_le.2 hk)
  · intro t s hlink
    obtain ⟨hframe, hdown, hlost, hseq⟩ := linkLoss_keeps (s.at_ t)
    have hall : Frame [.now, .kw, .fab, .flt] s (linkLoss (s.at_ t)) :=
      (State.at__frame s t (by decide) (Frame.refl _ s)).trans' (hframe.mono (by decide))
    exact ⟨_, exec_hostLinkLoss hlink t, hdown, hlost, hall.led_eq (by decide), hseq, hall .host (by decide),
      hall .emitted (by decide), hall⟩
  · intro s hlink hrel honce hdom hfatal
    exact congrArg Host.Outcome.next (if_neg (by simp [hlink, hrel, honce, hdom, hfatal]))
  · intro gen width t s hlink hpow
    have hpow' : hostPowered (s.at_ t) = true := hpow
    refine ⟨fun htrains => ?_, fun htrains => ?_⟩
    · let s1 := (s.at_ t).setKw { s.kw with linkUp := true, link := (gen, width) }
      have hshared := signalReturn_shared (tenantsUp s1) s1
      refine ⟨signalReturn (tenantsUp s1) s1, ?_, (congrArg Kwelo.linkUp hshared :), (congrArg Kwelo.link hshared :), ?_⟩
      · exact congrArg Host.Outcome.next (if_neg (by simp [hlink, hpow', htrains]))
      · exact signalReturn_frame _ _ (by decide) (State.setKw_frame _ _ (by decide)
          (State.at__frame s t (by decide) (Frame.refl _ s)))
    · exact congrArg Host.Outcome.next (if_pos (by simp [htrains]))

end Sys2Proof.Machine
end

section
/-! PROOFS. What the lanes' operations make of the lane they name, and that they leave every other lane alone: each operation's
`lanes` as one change of one lane. -/

namespace Sys2Proof.Machine

open Sys2Proof

/-! ## One lane changed -/

/-- The lanes with lane `l` changed by `f`. -/
def Lanes.mod (l : Nat) (f : Lane → Lane) (x : Lanes) : Lanes := { x with lane := upd x.lane l f }

@[simp] theorem modLane_lanes (l : Nat) (f : Lane → Lane) (s : State) : (modLane l f s).lanes = s.lanes.mod l f := rfl

@[simp] theorem Lanes.mod_tg (l : Nat) (f : Lane → Lane) (x : Lanes) : (x.mod l f).tg = x.tg := rfl

theorem Lanes.mod_mod (l : Nat) (f g : Lane → Lane) (x : Lanes) : (x.mod l f).mod l g = x.mod l fun y => g (f y) := by
  simp only [Lanes.mod, upd, List.modify_modify_eq]
  rfl

/-- A change that lane `l` does not notice is none. -/
theorem Lanes.mod_of_fixed {l : Nat} {f : Lane → Lane} {x : Lanes} (h : ∀ y, x.lane[l]? = some y → f y = y) : x.mod l f = x := by
  have hlist : upd x.lane l f = x.lane := by
    refine List.ext_getElem? fun i => ?_
    rw [upd, List.getElem?_modify]
    by_cases hi : l = i
    · subst hi
      cases hy : x.lane[l]? with
      | none => rfl
      | some y => simp [h y hy]
    · simp [hi]
  rw [Lanes.mod, hlist]

/-- Two changes of lane `l` one after the other are one change of it. -/
theorem lanes_mod_trans {s t u : State} {l : Nat} {f g : Lane → Lane} (h : t.lanes = s.lanes.mod l f)
    (k : u.lanes = t.lanes.mod l g) : u.lanes = s.lanes.mod l fun x => g (f x) := by
  rw [k, h, Lanes.mod_mod]

theorem laneOf_congr {s u : State} (h : u.lanes = s.lanes) (m : Nat) : laneOf u m = laneOf s m := by
  rw [laneOf, laneOf, h]

theorem laneOf_of_getElem? {s : State} {l : Nat} {y : Lane} (h : s.lanes.lane[l]? = some y) : laneOf s l = y :=
  getI_of_getElem? _ h

theorem laneOf_mod_self {s u : State} {l : Nat} {f : Lane → Lane} (h : u.lanes = s.lanes.mod l f)
    (hl : l < s.lanes.lane.length) : laneOf u l = f (laneOf s l) :=
  (laneOf_congr (s := modLane l f s) h l).trans (laneOf_modLane_self s l f hl)

theorem laneOf_mod_ne {s u : State} {l m : Nat} {f : Lane → Lane} (h : u.lanes = s.lanes.mod l f) (hm : m ≠ l) :
    laneOf u m = laneOf s m :=
  (laneOf_congr (s := modLane l f s) h m).trans (laneOf_modLane_ne s l m f hm.symm)

/-- What every value of `f` keeps, every lane keeps. -/
theorem laneOf_mod_keeps {α : Type} (g : Lane → α) {s u : State} {l : Nat} {f : Lane → Lane} (h : u.lanes = s.lanes.mod l f)
    (hf : ∀ x, g (f x) = g x) (m : Nat) : g (laneOf u m) = g (laneOf s m) := by
  by_cases hm : m = l
  · subst hm
    by_cases hl : m < s.lanes.lane.length
    · rw [laneOf_mod_self h hl, hf]
    · have hsame : u.lanes = s.lanes := h.trans <| Lanes.mod_of_fixed fun y hy => by
        rw [List.getElem?_eq_none (Nat.le_of_not_lt hl)] at hy
        cases hy
      rw [laneOf_congr hsame]
  · rw [laneOf_mod_ne h hm]

theorem laneOf_modLane_keeps {α : Type} (g : Lane → α) {f : Lane → Lane} (hf : ∀ x, g (f x) = g x) (s : State) (l m : Nat) :
    g (laneOf (modLane l f s) m) = g (laneOf s m) := laneOf_mod_keeps g rfl hf m

theorem modLane_of_fixed {l : Nat} {f : Lane → Lane} {s : State} (h : f (laneOf s l) = laneOf s l) : modLane l f s = s := by
  have hx : s.lanes.mod l f = s.lanes := Lanes.mod_of_fixed fun y hy => by rwa [laneOf_of_getElem? hy] at h
  change s.setLanes (s.lanes.mod l f) = s
  rw [hx]
  rfl

/-- A lane that is not as at reset is one of the unit's. -/
theorem lt_of_state_ne_disabled {s : State} {l : Nat} (h : (laneOf s l).state ≠ .disabled) : l < s.lanes.lane.length := by
  by_contra hl
  refine h ?_
  rw [laneOf, getI, List.getD_eq_default _ _ (Nat.le_of_not_lt hl)]
  rfl

/-! ## What leaves every lane alone -/

@[simp] theorem noticeUnit_lanes (code : Half) (data : Bytes) (s : State) : (noticeUnit code data s).lanes = s.lanes :=
  (noticeUnitAt_frame_self code (spos s) data s).lanes_eq (by decide)
@[simp] theorem noticeHolder_lanes (n : Nat) (code : Half) (data : Bytes) (s : State) :
    (noticeHolder n code data s).lanes = s.lanes := noticeHolderAt_lanes n code (spos s) data s
@[simp] theorem noticeDown_lanes (l cause : Nat) (s : State) : (noticeDown l cause s).lanes = s.lanes := noticeUnit_lanes _ _ s
@[simp] theorem noticeUp_lanes (l : Nat) (s : State) : (noticeUp l s).lanes = s.lanes := noticeUnit_lanes _ _ s
@[simp] theorem recovered_lanes (cls inst affected : Nat) (injected : Bool) (s : State) :
    (recovered cls inst affected injected s).lanes = s.lanes := rfl
@[simp] theorem upset_lanes (cls inst how : Nat) (counts injected : Bool) (retries affected : Nat) (s : State) :
    (upset cls inst how counts injected retries affected s).lanes = s.lanes :=
  (upset_frame cls inst how counts injected retries affected s (List.Subset.refl _) (Frame.refl _ s)).lanes_eq (by decide)
@[simp] theorem returned_lanes (cls inst : Nat) (s : State) : (returned cls inst s).lanes = s.lanes := rfl
@[simp] theorem doneLater_lanes (p : Packet) (st : Half) (res : Bytes) (s : State) : (doneLater p st res s).lanes = s.lanes :=
  (doneLater_frame p st res s (List.Subset.refl _) (Frame.refl _ s)).lanes_eq (by decide)
@[simp] theorem unsentTrigger_lanes (l : Nat) (t : SentTrigger) (s : State) : (unsentTrigger l t s).lanes = s.lanes := rfl
@[simp] theorem commitP_lanes (r : Ref) (s : State) : (commitP r s).lanes = s.lanes := rfl
@[simp] theorem at_lanes (s : State) (t : Nat) : (s.at_ t).lanes = s.lanes := rfl
@[simp] theorem emit_lanes (s : State) (e : Emit) : (s.emit e).lanes = s.lanes := rfl

/-! ## Entering a state -/

/-- A lane that enters a state at a rate, at a time. -/
def Lane.enter (st : LaneState) (rate now : Nat) (x : Lane) : Lane :=
  { x with state := st, rate := rate, since := now, probed := none, probes := 0 }

/-- A lane whose uplink is taken for a time. -/
def Lane.sending (busy : Nat) (x : Lane) : Lane := { x with busyUntil := busy }

/-- A lane whose bring-up starts afresh (04 R211). -/
def Lane.afresh (x : Lane) : Lane := { x with agreed := none, bitExpiries := 0 }

/-- A lane that has recovered from its upset (04 R240). -/
def Lane.recovered (x : Lane) : Lane :=
  { x with bitExpiries := 0, afterUpset := false, upsetInjected := false, lostLines := 0 }

theorem goLane_lanes (l : Nat) (st : LaneState) (rate : Nat) (s : State) :
    (goLane l st rate s).lanes = s.lanes.mod l (Lane.enter st rate s.now) := rfl

theorem sendUplink_lanes (l ty : Nat) (payload : Bytes) (s : State) : (sendUplink l ty payload s).lanes = s.lanes.mod l
    (Lane.sending (charBoundary l (max s.now (laneOf s l).busyUntil) + (7 + payload.length) * charTicks)) := rfl

@[simp] theorem sendUplink_emitted (l ty : Nat) (payload : Bytes) (s : State) :
    (sendUplink l ty payload s).emitted = .uplink l (uplinkMsg ty payload) :: s.emitted := rfl
@[simp] theorem sendUplink_now (l ty : Nat) (payload : Bytes) (s : State) : (sendUplink l ty payload s).now = s.now := rfl
@[simp] theorem goLane_now (l : Nat) (st : LaneState) (rate : Nat) (s : State) : (goLane l st rate s).now = s.now := rfl
@[simp] theorem goLane_emitted (l : Nat) (st : LaneState) (rate : Nat) (s : State) :
    (goLane l st rate s).emitted = s.emitted := rfl
@[simp] theorem goTrain_now (l rate : Nat) (s : State) : (goTrain l rate s).now = s.now := rfl
@[simp] theorem goTrain_emitted (l rate : Nat) (s : State) :
    (goTrain l rate s).emitted = .uplink l (uplinkMsg 2 [BitVec.ofNat 8 rate, 0]) :: s.emitted := rfl
@[simp] theorem goDetect_now (l : Nat) (s : State) : (goDetect l s).now = s.now := rfl

/-- TRAIN is entered with a TRAIN message, which takes the uplink for a time (04 Table 4.8). -/
theorem goTrain_lanes (l rate : Nat) (s : State) :
    ∃ busy, (goTrain l rate s).lanes = s.lanes.mod l fun x => (x.enter .train rate s.now).sending busy :=
  ⟨_, lanes_mod_trans (goLane_lanes l .train rate s) (sendUplink_lanes l 2 _ _)⟩

theorem goDetect_lanes (l : Nat) (s : State) :
    (goDetect l s).lanes = s.lanes.mod l fun x => x.afresh.enter .detect 0 s.now :=
  Lanes.mod_mod l Lane.afresh _ _

theorem goActive_lanes (l rate : Nat) (s : State) :
    (goActive l rate s).lanes = s.lanes.mod l fun x => x.recovered.enter .active rate s.now := by
  have hgo : (goLane l .active rate (modLane l Lane.recovered s)).lanes =
      s.lanes.mod l fun x => x.recovered.enter .active rate s.now := Lanes.mod_mod l Lane.recovered _ _
  unfold goActive
  dsimp only
  rw [noticeUp_lanes]
  split
  · exact hgo
  · exact hgo

/-! ## Leaving ACTIVE -/

/-- A lane with no eye scan running. -/
def Lane.noEye (x : Lane) : Lane := { x with eye := none }

/-- The end of a scan leaves everything else of the lanes alone. -/
theorem endEye_lanes (l : Nat) (aborted : Bool) (s : State) : (endEye l aborted s).lanes = s.lanes.mod l Lane.noEye := by
  unfold endEye
  cases he : (laneOf s l).eye with
  | none =>
    refine (Lanes.mod_of_fixed fun y hy => ?_).symm
    rw [laneOf_of_getElem? hy] at he
    rw [Lane.noEye, ← he]
  | some e =>
    dsimp only
    split
    · rfl
    · rw [doneLater_lanes]
      rfl

/-- What a lane has lost when it has left ACTIVE: its scan, its block lock, its buffer, its waiting trigger and what it was to
send. -/
def Lane.cleared (x : Lane) : Lane :=
  { x with rx := [], rxNeed := 0, rxTail := 0, rxHold := false, rxDrop := 0, lock := false, missedSync := 0, waiting := none
           txq := [], cxp := [], eye := none }

theorem leaveActive_lanes (l : Nat) (s : State) : (leaveActive l s).lanes = s.lanes.mod l Lane.cleared := by
  unfold leaveActive
  dsimp only
  rw [endEye_lanes, modLane_lanes, Lanes.mod_mod]
  split <;> rfl

/-- A lane as its retirement leaves it (04 R242). -/
def Lane.retire (x : Lane) : Lane := { x.cleared with state := .retired, rate := 0 }

theorem retireLane_lanes (l : Nat) (s : State) : (retireLane l s).lanes = s.lanes.mod l Lane.retire := by
  unfold retireLane
  rw [noticeUnit_lanes]
  change (leaveActive l s).lanes.mod l _ = _
  rw [leaveActive_lanes, Lanes.mod_mod]
  rfl

/-- An upset of a lane retires that lane or leaves the lanes as they are (12 R570, R573). -/
theorem upsetRetire_lanes (l how : Nat) (injected : Bool) (retries affected : Nat) (s : State) :
    (upsetRetire 1 l how injected retries affected s).lanes = s.lanes ∨
    (upsetRetire 1 l how injected retries affected s).lanes = s.lanes.mod l Lane.retire := by
  have hupset : (upset 1 l how true injected retries affected s).lanes = s.lanes := upset_lanes ..
  unfold upsetRetire checkRetire
  dsimp only
  split_ifs
  · exact .inl hupset
  · exact .inl hupset
  · exact .inl hupset
  · right
    rw [retireNow, retireLane_lanes, hupset]

/-- The change `f` is a lane's fall from ACTIVE: one upset counted, all it held gone, and the lane in `st` or RETIRED. -/
structure FallsTo (st : LaneState) (f : Lane → Lane) : Prop where
  state : ∀ x, (f x).state = st ∨ (f x).state = .retired
  rx : ∀ x, (f x).rx = []
  missedSync : ∀ x, (f x).missedSync = 0
  lock : ∀ x, (f x).lock = false
  ctr : ∀ x, (f x).ctr = bumpAt x.ctr cUPSETS

theorem FallsTo.retire {st : LaneState} {f : Lane → Lane} (h : FallsTo st f) : FallsTo st fun x => (f x).retire :=
  ⟨fun _ => .inr rfl, fun _ => rfl, fun _ => rfl, fun _ => rfl, h.ctr⟩

/-- A lane of which an upset is counted. -/
def Lane.upsetBy (injected : Bool) (x : Lane) : Lane :=
  ({ x with afterUpset := true, upsetInjected := injected } : Lane).bump cUPSETS

/-- Where an upset takes a lane: to TRAIN in Camram mode, to DETECT in CoaXPress mode (04 R239, R240). -/
def fallState (x : Lane) : LaneState := if x.cfg.camram then .train else .detect

/-- An upset leads to the lane's state of recovery, or to RETIRED (04 R239, R240, R242). -/
theorem laneFalls_lanes (l how : Nat) (injected : Bool) (s : State) :
    ∃ f, (laneFalls l how injected s).lanes = s.lanes.mod l f ∧ FallsTo (fallState (laneOf s l)) f := by
  let s1 := leaveActive l (modLane l (Lane.upsetBy injected) s)
  let s2 := if (laneOf s l).cfg.camram then goTrain l (laneOf s l).rate s1 else goDetect l s1
  have hleft : s1.lanes = s.lanes.mod l fun x => (x.upsetBy injected).cleared :=
    lanes_mod_trans (modLane_lanes l _ s) (leaveActive_lanes l _)
  have hback : ∃ f, s2.lanes = s.lanes.mod l f ∧ FallsTo (fallState (laneOf s l)) f := by
    by_cases hc : (laneOf s l).cfg.camram = true
    · obtain ⟨busy, htrain⟩ := goTrain_lanes l (laneOf s l).rate s1
      refine ⟨_, (congrArg State.lanes (if_pos hc)).trans (lanes_mod_trans hleft htrain), ?_⟩
      rw [fallState, if_pos hc]
      exact ⟨fun _ => .inl rfl, fun _ => rfl, fun _ => rfl, fun _ => rfl, fun _ => rfl⟩
    · refine ⟨_, (congrArg State.lanes (if_neg hc)).trans (lanes_mod_trans hleft (goDetect_lanes l s1)), ?_⟩
      rw [fallState, if_neg hc]
      exact ⟨fun _ => .inl rfl, fun _ => rfl, fun _ => rfl, fun _ => rfl, fun _ => rfl⟩
  obtain ⟨f, hf, hfalls⟩ := hback
  have hdown : (noticeDown l 1 s2).lanes = s.lanes.mod l f := (noticeDown_lanes l 1 s2).trans hf
  rcases upsetRetire_lanes l how injected 0 0 (noticeDown l 1 s2) with h | h
  · exact ⟨f, h.trans hdown, hfalls⟩
  · exact ⟨_, lanes_mod_trans hdown h, hfalls.retire⟩

/-! ## Loss of lock -/

/-- A lane whose lock is lost, counted (04 R204). -/
def Lane.unlock (x : Lane) : Lane := { x with lock := false, missedSync := 0, ctr := bumpAt x.ctr cSYNCLOSS }

/-- Loss of lock is counted, and is an upset of an ACTIVE lane (04 R204). -/
theorem lockLoss_eq (l : Nat) (s : State) : lockLoss l s =
    if (laneOf s l).state = .active then laneFalls l 0x06 false (modLane l Lane.unlock s) else modLane l Lane.unlock s := rfl

theorem lockLoss_active {l : Nat} {s : State} (h : (laneOf s l).state = .active) :
    ∃ f, (lockLoss l s).lanes = s.lanes.mod l (fun x => f x.unlock) ∧ FallsTo (fallState (laneOf s l)) f := by
  obtain ⟨f, hf, hfalls⟩ := laneFalls_lanes l 0x06 false (modLane l Lane.unlock s)
  have hcfg : (laneOf (modLane l Lane.unlock s) l).cfg = (laneOf s l).cfg :=
    laneOf_modLane_keeps Lane.cfg (by intro; rfl) s l l
  rw [fallState, hcfg, ← fallState] at hfalls
  rw [lockLoss_eq, if_pos h]
  exact ⟨f, lanes_mod_trans (modLane_lanes l _ s) hf, hfalls⟩

theorem lockLoss_bringUp {l : Nat} {s : State} (h : (laneOf s l).state ≠ .active) : lockLoss l s = modLane l Lane.unlock s := by
  rw [lockLoss_eq, if_neg h]

end Sys2Proof.Machine
end

section
/-! PROOFS. Trigger generators: a firing, and the TRIGGER message that leaves on the uplink. -/

namespace Sys2Proof.Machine

open Sys2Proof

/-! ## A firing (04 R191) -/

/-- A generator after a firing. -/
def TrigGen.fired (g : TrigGen) : TrigGen := { g with scan := g.scan + 1, nextK := g.nextK + 1, changed := false }

/-- What a lane says of triggers given to it. -/
def Lane.triggers (x : Lane) : LaneState × Option (SentTrigger × Nat) × List SentTrigger := (x.state, x.waiting, x.sent)

theorem giveTrigger_lanes (l : Nat) (t : SentTrigger) (s : State) : ∃ f, (giveTrigger l t s).lanes = s.lanes.mod l f := by
  unfold giveTrigger
  dsimp only
  split
  · exact ⟨_, rfl⟩
  · exact ⟨_, rfl⟩

theorem triggerLane_tg (t : SentTrigger) (l : Nat) (a : List Nat × State) : (triggerLane t l a).2.lanes.tg = a.2.lanes.tg := by
  unfold triggerLane
  dsimp only
  split_ifs
  · rfl
  · rfl
  · obtain ⟨f, hf⟩ := giveTrigger_lanes l t a.2
    rw [hf, Lanes.mod_tg]

theorem triggerLanes_tg (t : SentTrigger) (ls : List Nat) (a : List Nat × State) :
    (triggerLanes t ls a).2.lanes.tg = a.2.lanes.tg := by
  induction ls generalizing a with
  | nil => rfl
  | cons l r ih => rw [triggerLanes, ih, triggerLane_tg]

/-- A lane that is not ACTIVE is given no trigger. -/
theorem triggerLane_idle (t : SentTrigger) (l : Nat) (a : List Nat × State) {m : Nat} (h : (laneOf a.2 m).state ≠ .active) :
    (laneOf (triggerLane t l a).2 m).triggers = (laneOf a.2 m).triggers := by
  unfold triggerLane
  dsimp only
  split_ifs with hl
  · exact laneOf_modLane_keeps Lane.triggers (by intro; rfl) a.2 l m
  · exact laneOf_modLane_keeps Lane.triggers (by intro; rfl) a.2 l m
  · obtain ⟨f, hf⟩ := giveTrigger_lanes l t a.2
    have hml : m ≠ l := fun e => hl (e ▸ h)
    rw [laneOf_mod_ne hf hml]

theorem triggerLanes_idle (t : SentTrigger) (ls : List Nat) (a : List Nat × State) {m : Nat}
    (h : (laneOf a.2 m).state ≠ .active) : (laneOf (triggerLanes t ls a).2 m).triggers = (laneOf a.2 m).triggers := by
  induction ls generalizing a with
  | nil => rfl
  | cons l r ih =>
    have hone := triggerLane_idle t l a h
    have hstate : (laneOf (triggerLane t l a).2 m).state = (laneOf a.2 m).state := congrArg Prod.fst hone
    rw [triggerLanes, ih _ (by rwa [hstate]), hone]

/-- A firing advances its generator and then goes through lanes. -/
theorem fire_lanes (tg : Nat) (s : State) : ∃ t ls s2, s2.lanes = { s.lanes with tg := upd s.lanes.tg tg TrigGen.fired } ∧
    (fire tg s).lanes = (triggerLanes t ls ([], s2)).2.lanes := by
  unfold fire
  dsimp only
  split
  · refine ⟨_, _, _, ?_, (openSlots_frame _ _ _ _ _ _ _ (List.Subset.refl _) (Frame.refl _ _)).lanes_eq (by decide)⟩
    rfl
  · refine ⟨_, _, _, ?_, rfl⟩
    rfl

theorem fire_tg (tg : Nat) (s : State) : (fire tg s).lanes.tg = upd s.lanes.tg tg TrigGen.fired := by
  obtain ⟨t, ls, s2, hs2, hfire⟩ := fire_lanes tg s
  rw [hfire, triggerLanes_tg, hs2]

theorem fire_idle (tg : Nat) {s : State} {m : Nat} (h : (laneOf s m).state ≠ .active) :
    (laneOf (fire tg s) m).triggers = (laneOf s m).triggers := by
  obtain ⟨t, ls, s2, hs2, hfire⟩ := fire_lanes tg s
  have hm : laneOf s2 m = laneOf s m := by rw [laneOf, hs2, laneOf]
  rw [laneOf_congr hfire, triggerLanes_idle t ls ([], s2) (by rwa [hm]), hm]

theorem exec_triggerFire (tg : Nat) (s : State) : exec (.triggerFire tg) s = .next (if tgDue s tg then fire tg s else s) := rfl

/-! ## The TRIGGER message (04 R193, R196) -/

theorem le_ceilDiv_mul (a : Nat) {b : Nat} (hb : 0 < b) : a ≤ ceilDiv a b * b := by
  have h := Nat.lt_div_mul_add hb (a := a + b - 1)
  rw [ceilDiv]
  omega

/-- A character boundary at or after an instant is not before it. -/
theorem le_charBoundary (l t : Nat) : t ≤ charBoundary l t := by
  have h := le_ceilDiv_mul (t - Config.uplinkPhase l % charTicks) (b := charTicks) (by decide)
  unfold charBoundary
  dsimp only
  omega

/-- FINE and the time to the end of the comma make up 6.000 us (04 R196). -/
theorem fineOf_add {crossed commaEnd : Nat} (hc : crossed ≤ commaEnd) (h : commaEnd ≤ crossed + 2400) :
    fineOf crossed commaEnd + commaEnd = crossed + 2400 := by
  unfold fineOf usTicks
  omega

/-- With no CONTROL message before it, a TRIGGER takes the first boundary that is free. -/
theorem sendTrigger_alone {l : Nat} {s : State} (hq : (laneOf s l).txq = []) (t : SentTrigger) (crossed : Nat) :
    sendTrigger l t crossed s =
      let st := charBoundary l (max crossed (laneOf s l).busyUntil)
      (modLane l (fun x => { x with waiting := none, txq := [], busyUntil := st + 17 * charTicks, sent := (t :: x.sent).take 64 })
        (s.at_ st)).emit
        (.uplink l (uplinkMsg 1 (le4 t.spos.toNat ++ le4 t.scan.toNat ++ le2 (fineOf crossed (st + charTicks))))) := by
  unfold sendTrigger
  dsimp only
  rw [hq]
  rfl

theorem exec_triggerMessageSend {l crossed : Nat} {t : SentTrigger} {s : State} (ha : (laneOf s l).state = .active)
    (hw : (laneOf s l).waiting = some (t, crossed)) : exec (.triggerMessageSend l) s = .next (sendTrigger l t crossed s) := by
  change execTriggerMessageSend l s = _
  unfold execTriggerMessageSend
  rw [hw]
  exact congrArg Host.Outcome.next (if_pos ha)

/-- Settles O18: the generator that fires, the lanes it goes through, and the message of a waiting trigger. -/
theorem triggersFireAndAreSent : Obligations.TriggersFireAndAreSent := by
  unfold Obligations.TriggersFireAndAreSent
  refine ⟨fun tg s hs htg hdue => ?fires, fun tg s hdue => ?early, fun l crossed t s hs hl ha hq hw => ?sent⟩
  case fires =>
    refine ⟨fire tg s, ?_, ?_, fun j hj => ?_, fun l hl => ?_, ?_⟩
    · rw [exec_triggerFire, if_pos hdue]
    · rw [fire_tg]
      exact getI_upd_self _ _ _ _ (by rwa [hs.triggers])
    · rw [fire_tg]
      exact getI_upd_ne _ _ _ _ _ hj.symm
    · have hkept := congrArg Prod.snd (fire_idle tg hl)
      exact ⟨congrArg Prod.fst hkept, congrArg Prod.snd hkept⟩
    · exact fire_frame tg s (List.Subset.refl _) (Frame.refl _ s)
  case early =>
    rw [exec_triggerFire, hdue, if_neg Bool.false_ne_true]
  case sent =>
    intro st
    have hle : max crossed (laneOf s l).busyUntil ≤ st := le_charBoundary _ _
    have hlane : laneOf (sendTrigger l t crossed s) l = { laneOf s l with
        waiting := none, txq := [], busyUntil := st + 17 * charTicks, sent := (t :: (laneOf s l).sent).take 64 } := by
      rw [sendTrigger_alone hq]
      exact laneOf_modLane_self (s.at_ st) l _ (by rwa [at_lanes, hs.lanes])
    refine ⟨_, fineOf crossed (st + 64), exec_triggerMessageSend ha hw, fun hfine => ?_, ?_, hle, ?_, ?_, ?_, ?_, ?_⟩
    · exact fineOf_add (by omega) hfine
    · rw [sendTrigger_alone hq]
      rfl
    · rw [hlane]
    · rw [hlane]
      rfl
    · rw [hlane]
    · rw [sendTrigger_alone hq]
      rfl
    · exact sendTrigger_frame l t crossed s (List.Subset.refl _) (Frame.refl _ s)

end Sys2Proof.Machine
end

section
/-! PROOFS. Camram bring-up: what each event of Table 4.8 does to a lane that is in its state, and that it does nothing to any other. -/

namespace Sys2Proof.Machine

open Sys2Proof

theorem inState_iff {s : State} {l : Nat} {c : Bool} {st : LaneState} :
    inState s l c st = true ↔ (laneOf s l).cfg.camram = c ∧ (laneOf s l).state = st := by simp [inState]

/-! ## DETECT -/

/-- The state in which a probe has been sent, 12 ms after the one before (04 Table 4.8). -/
def probeSent (l : Nat) (s : State) : State :=
  (match (laneOf s l).probed with | none => s | some t => s.at_ (t + msTicks 12)).emit (.probe l)

/-- A lane after a probe. -/
def Lane.probe (now : Nat) (terminated : Bool) (x : Lane) : Lane :=
  { x with probed := some now, probes := if terminated then x.probes + 1 else 0 }

theorem probeSent_now (l : Nat) (s : State) : (probeSent l s).now =
    match (laneOf s l).probed with | some t => max s.now (t + 12 * 400000) | none => s.now := by
  unfold probeSent
  cases (laneOf s l).probed <;> rfl

theorem probeSent_lanes (l : Nat) (s : State) : (probeSent l s).lanes = s.lanes := by
  unfold probeSent
  cases (laneOf s l).probed <;> rfl

theorem probeSent_emitted (l : Nat) (s : State) : (probeSent l s).emitted = .probe l :: s.emitted := by
  unfold probeSent
  cases (laneOf s l).probed <;> rfl

theorem exec_detectProbe {l : Nat} {s : State} (h : inState s l true .detect = true) (terminated : Bool) :
    exec (.detectProbe l terminated) s = .next (if terminated && (laneOf s l).probes == 1
      then goTrain l 1 (modLane l (Lane.probe (probeSent l s).now terminated) (probeSent l s))
      else modLane l (Lane.probe (probeSent l s).now terminated) (probeSent l s)) :=
  congrArg Host.Outcome.next (if_neg (by simp [h]))

theorem laneOf_probe {l : Nat} {s : State} (hl : l < s.lanes.lane.length) (terminated : Bool) :
    laneOf (modLane l (Lane.probe (probeSent l s).now terminated) (probeSent l s)) l =
      (laneOf s l).probe (probeSent l s).now terminated := by
  rw [laneOf_modLane_self _ _ _ (by rwa [probeSent_lanes]), laneOf_congr (probeSent_lanes l s)]

/-- A probe of a lane in DETECT (04 Table 4.8). -/
theorem detectProbe_cases {l : Nat} {s : State} (hl : l < s.lanes.lane.length) (h : inState s l true .detect = true) :
    ((laneOf s l).probes = 0 → ∃ u, exec (.detectProbe l true) s = .next u ∧ (laneOf u l).state = .detect ∧
      (laneOf u l).probes = 1 ∧ u.emitted = .probe l :: s.emitted ∧ u.now = (probeSent l s).now ∧
      (laneOf u l).probed = some (probeSent l s).now) ∧
    ((laneOf s l).probes = 1 → ∃ u, exec (.detectProbe l true) s = .next u ∧ (laneOf u l).state = .train ∧
      (laneOf u l).rate = 1 ∧ u.now = (probeSent l s).now ∧ u.emitted = .uplink l (uplinkMsg 2 [1, 0]) :: .probe l :: s.emitted) ∧
    (∃ u, exec (.detectProbe l false) s = .next u ∧ (laneOf u l).state = .detect ∧ (laneOf u l).probes = 0) := by
  have hstate := (inState_iff.1 h).2
  refine ⟨fun h0 => ?_, fun h1 => ?_, ?_⟩
  · have hexec := exec_detectProbe h true
    rw [h0, if_neg (by decide)] at hexec
    refine ⟨_, hexec, ?_⟩
    rw [laneOf_probe hl]
    exact ⟨hstate, congrArg (· + 1) h0, probeSent_emitted l s, rfl, rfl⟩
  · have hexec := exec_detectProbe h true
    rw [h1, if_pos (by decide)] at hexec
    obtain ⟨busy, htrain⟩ := goTrain_lanes l 1 (modLane l (Lane.probe (probeSent l s).now true) (probeSent l s))
    refine ⟨_, hexec, ?_⟩
    rw [laneOf_mod_self htrain (by rwa [modLane_length, probeSent_lanes])]
    refine ⟨rfl, rfl, rfl, ?_⟩
    rw [goTrain_emitted, modLane_emitted, probeSent_emitted]
    rfl
  · have hexec := exec_detectProbe h false
    rw [Bool.false_and, if_neg Bool.false_ne_true] at hexec
    refine ⟨_, hexec, ?_⟩
    rw [laneOf_probe hl]
    exact ⟨hstate, rfl⟩

/-! ## TRAIN, BIT_LOCK and BLOCK_LOCK -/

theorem exec_trainResend {l : Nat} {s : State} (h : inState s l true .train = true) : ∃ t, exec (.trainResend l) s =
    .next (sendUplink l 2 [BitVec.ofNat 8 (laneOf s l).rate, 0] (s.at_ t)) :=
  ⟨_, congrArg Host.Outcome.next (if_neg (by simp [h]))⟩

theorem exec_bitLock {l : Nat} {s : State} (h : inState s l true .train = true) :
    exec (.bitLock l) s = .next (goLane l .bitLock (laneOf s l).rate s) :=
  congrArg Host.Outcome.next (if_pos h)

theorem exec_prbsTrainVerified {l : Nat} {s : State} (h : inState s l true .bitLock = true) :
    exec (.prbsTrainVerified l) s = .next (sendUplink l 3 [] (goLane l .blockLock (laneOf s l).rate s)) :=
  congrArg Host.Outcome.next (if_pos h)

theorem exec_blockLock {l : Nat} {s : State} (h : inState s l true .blockLock = true) : exec (.blockLock l) s =
    .next (goLane l .capExchange (laneOf s l).rate (modLane l (fun x => { x with lock := true, missedSync := 0 }) s)) :=
  congrArg Host.Outcome.next (if_pos h)

/-! ## CAP_EXCHANGE (04 R211, R214, R215) -/

theorem exec_capExchange {l : Nat} {s : State} (h : inState s l true .capExchange = true) (hlock : (laneOf s l).lock = true)
    (b : Bytes) : exec (.capExchange l b) s = .next (capExchange l b s) :=
  congrArg Host.Outcome.next (if_pos (by simp [h, hlock]))

/-- After an upset the CAPABILITY is of another camera than the one accepted before (04 R215). -/
def otherCamera (x : Lane) (c : Capability) : Bool :=
  x.afterUpset && (match x.capability with | some o => o.cameraId != c.cameraId | none => false)

theorem otherCamera_of_ne {x : Lane} {c o : Capability} (ha : x.afterUpset = true) (ho : x.capability = some o)
    (hne : o.cameraId ≠ c.cameraId) : otherCamera x c = true := by simp [otherCamera, ha, ho, hne]

theorem otherCamera_of_same {x : Lane} {c : Capability}
    (h : ∀ o, x.afterUpset = true → x.capability = some o → o.cameraId = c.cameraId) : otherCamera x c = false := by
  unfold otherCamera
  cases ha : x.afterUpset with
  | false => rfl
  | true =>
    cases ho : x.capability with
    | none => rfl
    | some o => simp [h o ha ho]

/-- A lane that has accepted a CAPABILITY with a rate agreed. -/
def Lane.agree (r : Nat) (c : Capability) (x : Lane) : Lane :=
  { x with agreed := some r, capability := some c, bitExpiries := if r = x.rate then x.bitExpiries else 0 }

/-- What follows a CAPABILITY that is accepted (04 R211). -/
def capAccepted (l : Nat) (c : Capability) (agreed : Option Nat) (s : State) : State :=
  match agreed with
  | none => goDetect l s
  | some r =>
    let s1 := sendUplink l 4 [BitVec.ofNat 8 r, BitVec.ofNat 8 c.lanes, 0, 0] (modLane l (Lane.agree r c) s)
    if r = (laneOf s l).rate then goActive l r s1 else goTrain l r s1

theorem capExchange_eq (l : Nat) (b : Bytes) (s : State) : capExchange l b s =
    if capReserved b then modLane l (Lane.bump cUNMAPPED) s
    else if fld b 0 1 ≠ 1 then s
    else if capConflict s l (readCapability b) then capFault l false s
    else if otherCamera (laneOf s l) (readCapability b) then capFault l true s
    else capAccepted l (readCapability b) (agreedRate (laneOf s l) (readCapability b).rates) s := rfl

theorem laneOf_capFault {l : Nat} {s : State} (hl : l < s.lanes.lane.length) (changed : Bool) :
    (laneOf (capFault l changed s) l).state = .capFault ∧ (laneOf (capFault l changed s) l).cameraChanged = changed := by
  have hlanes : (capFault l changed s).lanes =
      s.lanes.mod l fun x => Lane.enter .capFault 0 s.now { x with cameraChanged := changed } :=
    (noticeDown_lanes _ _ _).trans (Lanes.mod_mod _ _ _ _)
  rw [laneOf_mod_self hlanes hl]
  exact ⟨rfl, rfl⟩

/-- The agreed rate is kept with the CAPABILITY; at the present rate the lane is ACTIVE, else it trains (04 R211). -/
theorem laneOf_capAccepted {l : Nat} {s : State} (hl : l < s.lanes.lane.length) (c : Capability) (r : Nat) :
    let y := laneOf (capAccepted l c (some r) s) l
    y.agreed = some r ∧ y.capability = some c ∧ y.rate = r ∧
      y.state = (if r = (laneOf s l).rate then .active else .train) := by
  have hsent := lanes_mod_trans (modLane_lanes l (Lane.agree r c) s)
    (sendUplink_lanes l 4 [BitVec.ofNat 8 r, BitVec.ofNat 8 c.lanes, 0, 0] _)
  unfold capAccepted
  dsimp only
  split_ifs
  · rw [laneOf_mod_self (lanes_mod_trans hsent (goActive_lanes l r _)) hl]
    exact ⟨rfl, rfl, rfl, rfl⟩
  · obtain ⟨busy, htrain⟩ := goTrain_lanes l r
      (sendUplink l 4 [BitVec.ofNat 8 r, BitVec.ofNat 8 c.lanes, 0, 0] (modLane l (Lane.agree r c) s))
    rw [laneOf_mod_self (lanes_mod_trans hsent htrain) hl]
    exact ⟨rfl, rfl, rfl, rfl⟩

/-! ## The time limits (04 Table 4.8, R212) -/

theorem exec_bringupTimeout {l d : Nat} {s : State} (hc : (laneOf s l).cfg.camram = true)
    (hd : bringupLimit (laneOf s l).state = some d) :
    exec (.bringupTimeout ⟨l, false⟩) s = .next (bringupExpired l (s.at_ ((laneOf s l).since + d))) := by
  change execBringupTimeout ⟨l, false⟩ s = _
  unfold execBringupTimeout
  simp [hc, hd]

theorem exec_bringupTimeout_met (l : Nat) (s : State) : exec (.bringupTimeout ⟨l, true⟩) s = .next s :=
  congrArg Host.Outcome.next (if_pos (Bool.or_true _))

@[simp] theorem fallback_now (l : Nat) (s : State) : (fallback l s).now = s.now := by
  unfold fallback
  dsimp only
  split <;> rfl

/-- A lane whose fallback is counted: the bring-ups that follow are at a rate one code lower (04 R212). -/
def Lane.lowered (x : Lane) : Lane := ({ x with cap := some (x.rate - 1) } : Lane).bump cFALLBACK

theorem fallback_lanes (l : Nat) (s : State) : ∃ f, (fallback l s).lanes = s.lanes.mod l f ∧
    ((laneOf s l).agreed = some (laneOf s l).rate → (laneOf s l).cfg.rateMin < (laneOf s l).rate → f = Lane.lowered) := by
  unfold fallback
  dsimp only
  split
  · exact ⟨Lane.lowered, rfl, fun _ _ => rfl⟩
  · rename_i hno
    exact ⟨id, (Lanes.mod_of_fixed fun _ _ => rfl).symm, fun ha hm => absurd ⟨ha, hm⟩ hno⟩

/-- Back to DETECT, at a lower rate where one was agreed (04 R212). -/
theorem laneOf_fallback_detect {l : Nat} {s : State} (hl : l < s.lanes.lane.length) :
    let y := laneOf (goDetect l (fallback l s)) l
    y.state = .detect ∧ y.rate = 0 ∧ ((laneOf s l).agreed = some (laneOf s l).rate →
      (laneOf s l).cfg.rateMin < (laneOf s l).rate → y.cap = some ((laneOf s l).rate - 1)) := by
  obtain ⟨f, hf, hlow⟩ := fallback_lanes l s
  dsimp only
  rw [laneOf_mod_self (lanes_mod_trans hf (goDetect_lanes l _)) hl]
  refine ⟨rfl, rfl, fun ha hm => ?_⟩
  rw [hlow ha hm]
  rfl

theorem bringupExpired_train {l : Nat} {s : State} (h : (laneOf s l).state = .train) :
    bringupExpired l s = goDetect l (fallback l s) := by
  unfold bringupExpired
  simp only [h]

theorem bringupExpired_bitLock {l : Nat} {s : State} (h : (laneOf s l).state = .bitLock) : bringupExpired l s =
    if 2 ≤ (laneOf s l).bitExpiries then goDetect l (fallback l s)
    else goTrain l (laneOf s l).rate (modLane l (fun x => { x with bitExpiries := x.bitExpiries + 1 }) s) := by
  unfold bringupExpired
  simp only [h]

theorem bringupExpired_later {l : Nat} {s : State} (h : (laneOf s l).state = .blockLock ∨ (laneOf s l).state = .capExchange) :
    bringupExpired l s = goTrain l (laneOf s l).rate s := by
  unfold bringupExpired
  rcases h with h | h <;> simp only [h]

/-- TRAIN's limit: back to DETECT. -/
theorem exec_bringupTimeout_train {l : Nat} {s : State} (hl : l < s.lanes.lane.length) (h : inState s l true .train = true) :
    ∃ u, exec (.bringupTimeout ⟨l, false⟩) s = .next u ∧ (laneOf u l).state = .detect ∧ (laneOf u l).rate = 0 ∧
      u.now = max s.now ((laneOf s l).since + 50 * 400000) := by
  obtain ⟨hc, hst⟩ := inState_iff.1 h
  have hexec := exec_bringupTimeout (d := msTicks 50) hc (by rw [hst]; rfl)
  rw [bringupExpired_train (by rwa [laneOf_at])] at hexec
  obtain ⟨hstate, hrate, -⟩ := laneOf_fallback_detect (s := s.at_ ((laneOf s l).since + msTicks 50)) hl
  exact ⟨_, hexec, hstate, hrate, by rw [goDetect_now, fallback_now]; rfl⟩

/-- BIT_LOCK's limit: TRAIN again, and from the third expiry on back to DETECT. -/
theorem exec_bringupTimeout_bitLock {l : Nat} {s : State} (hl : l < s.lanes.lane.length) (h : inState s l true .bitLock = true) :
    ∃ u, exec (.bringupTimeout ⟨l, false⟩) s = .next u ∧ u.now = max s.now ((laneOf s l).since + 20 * 400000) ∧
      (laneOf u l).state = (if (laneOf s l).bitExpiries < 2 then .train else .detect) ∧
      ((laneOf s l).bitExpiries < 2 →
        (laneOf u l).rate = (laneOf s l).rate ∧ (laneOf u l).bitExpiries = (laneOf s l).bitExpiries + 1) ∧
      (2 ≤ (laneOf s l).bitExpiries → (laneOf s l).agreed = some (laneOf s l).rate →
        (laneOf s l).cfg.rateMin < (laneOf s l).rate → (laneOf u l).cap = some ((laneOf s l).rate - 1)) := by
  obtain ⟨hc, hst⟩ := inState_iff.1 h
  have hexec := exec_bringupTimeout (d := msTicks 20) hc (by rw [hst]; rfl)
  rw [bringupExpired_bitLock (by rwa [laneOf_at]), laneOf_at] at hexec
  by_cases h2 : 2 ≤ (laneOf s l).bitExpiries
  · rw [if_pos h2] at hexec
    obtain ⟨hstate, -, hcap⟩ := laneOf_fallback_detect (s := s.at_ ((laneOf s l).since + msTicks 20)) hl
    refine ⟨_, hexec, by rw [goDetect_now, fallback_now]; rfl, ?_, fun hlt => absurd h2 hlt.not_ge, fun _ => hcap⟩
    rw [if_neg h2.not_gt, hstate]
  · rw [if_neg h2] at hexec
    have hlt : (laneOf s l).bitExpiries < 2 := Nat.lt_of_not_le h2
    obtain ⟨busy, htrain⟩ := goTrain_lanes l (laneOf s l).rate
      (modLane l (fun x => { x with bitExpiries := x.bitExpiries + 1 }) (s.at_ ((laneOf s l).since + msTicks 20)))
    have hlane := laneOf_mod_self (lanes_mod_trans (s := s) (modLane_lanes l _ _) htrain) hl
    refine ⟨_, hexec, rfl, ?_, fun _ => ?_, fun hge => absurd hge h2⟩
    · rw [hlane, if_pos hlt]
      rfl
    · rw [hlane]
      exact ⟨rfl, rfl⟩

/-- The limits of BLOCK_LOCK and CAP_EXCHANGE: TRAIN again at the same rate. -/
theorem exec_bringupTimeout_later {l : Nat} {s : State} (hl : l < s.lanes.lane.length)
    (h : inState s l true .blockLock = true ∨ inState s l true .capExchange = true) :
    ∃ u, exec (.bringupTimeout ⟨l, false⟩) s = .next u ∧ (laneOf u l).state = .train ∧ (laneOf u l).rate = (laneOf s l).rate ∧
      u.now = max s.now ((laneOf s l).since + (if (laneOf s l).state = .blockLock then 5 else 10) * 400000) := by
  rw [inState_iff, inState_iff, ← and_or_left] at h
  obtain ⟨hc, hst⟩ := h
  have hlimit : bringupLimit (laneOf s l).state = some (msTicks (if (laneOf s l).state = .blockLock then 5 else 10)) := by
    rcases hst with hst | hst <;> rw [hst] <;> rfl
  have hexec := exec_bringupTimeout hc hlimit
  rw [bringupExpired_later (by rwa [laneOf_at])] at hexec
  obtain ⟨busy, htrain⟩ := goTrain_lanes l (laneOf s l).rate
    (s.at_ ((laneOf s l).since + msTicks (if (laneOf s l).state = .blockLock then 5 else 10)))
  refine ⟨_, hexec, ?_⟩
  rw [laneOf_at, laneOf_mod_self (s := s) htrain hl]
  exact ⟨rfl, rfl, rfl⟩

/-- CAP_FAULT returns to DETECT after one second (04 R214). -/
theorem exec_capFaultRetry {l : Nat} {s : State} (h : inState s l true .capFault = true) (hc : (laneOf s l).cameraChanged = false) :
    exec (.capFaultRetry l) s = .next (goDetect l (s.at_ ((laneOf s l).since + sTicks 1))) :=
  congrArg Host.Outcome.next (if_neg (by simp [h, hc]))

/-- Settles O22: each event by its own lemma above; an event of another state fails the command's own test. -/
theorem camramBringUp : Obligations.CamramBringUp := by
  unfold Obligations.CamramBringUp
  refine ⟨fun l s hs hl h => ?detect, fun l s hs hl h hr => ?resend, fun l s h => exec_bitLock h, fun l s hs hl h => ?verified,
    fun l s h => exec_blockLock h, fun l b s hs hl h hlock => ?capExchange,
    fun l s hs hl h => exec_bringupTimeout_train (by rwa [hs.lanes]) h,
    fun l s hs hl h => exec_bringupTimeout_bitLock (by rwa [hs.lanes]) h,
    fun l s hs hl h => exec_bringupTimeout_later (by rwa [hs.lanes]) h, exec_bringupTimeout_met,
    fun l s hs hl h hc => ?retry, fun l s h => ?noRetry, fun l ok b s => ?others⟩
  case detect =>
    have hcases := detectProbe_cases (by rwa [hs.lanes]) h
    rw [probeSent_now] at hcases
    exact hcases
  case resend =>
    obtain ⟨t, hexec⟩ := exec_trainResend h
    refine ⟨_, hexec, rfl, ?_⟩
    rw [laneOf_mod_self (sendUplink_lanes l 2 _ _) (by rwa [at_lanes, hs.lanes])]
    exact ⟨(inState_iff.1 h).2, rfl⟩
  case verified =>
    refine ⟨_, exec_prbsTrainVerified h, ?_⟩
    rw [laneOf_mod_self (lanes_mod_trans (goLane_lanes l .blockLock _ s) (sendUplink_lanes l 3 _ _)) (by rwa [hs.lanes])]
    exact ⟨rfl, rfl, rfl⟩
  case capExchange =>
    rw [← hs.lanes] at hl
    rw [exec_capExchange h hlock, capExchange_eq]
    refine ⟨fun hr => by rw [if_pos hr], fun hr hv => ?_⟩
    rw [hr, if_neg Bool.false_ne_true, if_neg (not_not_intro hv)]
    refine ⟨fun hconf => ?_, fun hconf => ?_⟩
    · rw [if_pos hconf]
      exact ⟨_, rfl, laneOf_capFault hl false⟩
    rw [hconf, if_neg Bool.false_ne_true]
    refine ⟨fun o ha ho hne => ?_, fun hsame => ?_⟩
    · rw [if_pos (otherCamera_of_ne ha ho hne)]
      exact ⟨_, rfl, laneOf_capFault hl true⟩
    rw [otherCamera_of_same hsame, if_neg Bool.false_ne_true]
    refine ⟨fun hnone => by rw [hnone, capAccepted], fun a ha => ?_⟩
    rw [ha]
    exact ⟨_, rfl, laneOf_capAccepted hl _ a⟩
  case retry =>
    refine ⟨_, exec_capFaultRetry h hc, ?_, rfl⟩
    rw [laneOf_mod_self (goDetect_lanes l _) (by rwa [at_lanes, hs.lanes])]
    rfl
  case noRetry =>
    refine congrArg Host.Outcome.next (if_pos ?_)
    rcases h with h | h <;> simp [h]
  case others =>
    refine ⟨fun h => congrArg Host.Outcome.next (if_pos (by simp [h])), fun h => ⟨congrArg Host.Outcome.next (if_pos (by simp [h])),
      congrArg Host.Outcome.next (if_neg (by simp [h]))⟩, fun h => congrArg Host.Outcome.next (if_neg (by simp [h])),
      fun h => congrArg Host.Outcome.next (if_neg (by simp [h])), fun h => congrArg Host.Outcome.next (if_neg (by simp [h]))⟩

end Sys2Proof.Machine
end

section
/-! PROOFS. CoaXPress bring-up: an operation carried out on each lane of a group, and the events of Table 4.9. -/

namespace Sys2Proof.Machine

open Sys2Proof

/-! ## One operation on each lane of a list -/

/-- An operation on each lane of a list, in order. -/
def eachLane (op : Nat → State → State) (ls : List Nat) (s : State) : State := ls.foldl (fun t l => op l t) s

/-- The operation changes the lane it names and no other. -/
def ActsOnLane (op : Nat → State → State) : Prop := ∀ l s, ∃ f, (op l s).lanes = s.lanes.mod l f

theorem Lanes.mod_length (l : Nat) (f : Lane → Lane) (x : Lanes) : (x.mod l f).lane.length = x.lane.length := upd_length _ _ _

theorem ActsOnLane.length {op : Nat → State → State} (h : ActsOnLane op) (l : Nat) (s : State) :
    (op l s).lanes.lane.length = s.lanes.lane.length := by
  obtain ⟨f, hf⟩ := h l s
  rw [hf, Lanes.mod_length]

theorem laneOf_eachLane_of_not_mem {op : Nat → State → State} (h : ActsOnLane op) {ls : List Nat} {s : State} {k : Nat}
    (hk : k ∉ ls) : laneOf (eachLane op ls s) k = laneOf s k := by
  induction ls generalizing s with
  | nil => rfl
  | cons l r ih =>
    rw [List.mem_cons, not_or] at hk
    obtain ⟨hkl, hkr⟩ := hk
    obtain ⟨f, hf⟩ := h l s
    rw [eachLane, List.foldl_cons, ← eachLane, ih hkr, laneOf_mod_ne hf hkl]

/-- A lane of the list is as the operation leaves it; one that stands there once was until then as it was at the beginning. -/
theorem laneOf_eachLane_of_mem {op : Nat → State → State} (h : ActsOnLane op) {ls : List Nat} {s : State} {k : Nat}
    (hk : k ∈ ls) : ∃ t, t.lanes.lane.length = s.lanes.lane.length ∧ laneOf (eachLane op ls s) k = laneOf (op k t) k ∧
      (ls.Nodup → laneOf t k = laneOf s k) := by
  induction ls generalizing s with
  | nil => cases hk
  | cons l r ih =>
    by_cases hkr : k ∈ r
    · obtain ⟨t, hlen, hop, hsame⟩ := ih (s := op l s) hkr
      refine ⟨t, hlen.trans (h.length l s), hop, fun hnd => ?_⟩
      obtain ⟨hlr, hnr⟩ := List.nodup_cons.1 hnd
      obtain ⟨f, hf⟩ := h l s
      rw [hsame hnr, laneOf_mod_ne hf (fun e => hlr (e ▸ hkr))]
    · obtain rfl := (List.mem_cons.1 hk).resolve_right hkr
      exact ⟨s, rfl, laneOf_eachLane_of_not_mem h hkr, fun _ => rfl⟩

/-- What the operation keeps of a lane, the whole list keeps. -/
theorem laneOf_eachLane_keeps {α : Type} (g : Lane → α) {op : Nat → State → State}
    (h : ∀ l s m, g (laneOf (op l s) m) = g (laneOf s m)) (ls : List Nat) (s : State) (m : Nat) :
    g (laneOf (eachLane op ls s) m) = g (laneOf s m) := by
  induction ls generalizing s with
  | nil => rfl
  | cons l r ih => exact (ih (op l s)).trans (h l s m)

theorem goEach_eq (st : LaneState) (rate : Nat) (ls : List Nat) (s : State) :
    goEach st rate ls s = eachLane (fun l => goLane l st rate) ls s := by
  induction ls generalizing s with
  | nil => rfl
  | cons l r ih => exact ih _

theorem activeEach_eq (rate : Nat) (ls : List Nat) (s : State) :
    activeEach rate ls s = eachLane (fun l => goActive l rate) ls s := by
  induction ls generalizing s with
  | nil => rfl
  | cons l r ih => exact ih _

theorem detectEach_eq (ls : List Nat) (s : State) : detectEach ls s = eachLane goDetect ls s := by
  induction ls generalizing s with
  | nil => rfl
  | cons l r ih => exact ih _

theorem goLane_actsOnLane (st : LaneState) (rate : Nat) : ActsOnLane fun l => goLane l st rate :=
  fun l s => ⟨_, goLane_lanes l st rate s⟩
theorem goActive_actsOnLane (rate : Nat) : ActsOnLane fun l => goActive l rate := fun l s => ⟨_, goActive_lanes l rate s⟩
theorem goDetect_actsOnLane : ActsOnLane goDetect := fun l s => ⟨_, goDetect_lanes l s⟩

/-- Each lane of the list enters the state at the rate. -/
theorem laneOf_goEach_of_mem (st : LaneState) (rate : Nat) {ls : List Nat} {s : State} {k : Nat} (hk : k ∈ ls)
    (hlen : k < s.lanes.lane.length) :
    (laneOf (goEach st rate ls s) k).state = st ∧ (laneOf (goEach st rate ls s) k).rate = rate := by
  obtain ⟨t, ht, hop, -⟩ := laneOf_eachLane_of_mem (goLane_actsOnLane st rate) (s := s) hk
  rw [goEach_eq, hop, laneOf_mod_self (goLane_lanes k st rate t) (by rwa [ht])]
  exact ⟨rfl, rfl⟩

theorem laneOf_activeEach_of_mem (rate : Nat) {ls : List Nat} {s : State} {k : Nat} (hk : k ∈ ls)
    (hlen : k < s.lanes.lane.length) :
    (laneOf (activeEach rate ls s) k).state = .active ∧ (laneOf (activeEach rate ls s) k).rate = rate := by
  obtain ⟨t, ht, hop, -⟩ := laneOf_eachLane_of_mem (goActive_actsOnLane rate) (s := s) hk
  rw [activeEach_eq, hop, laneOf_mod_self (goActive_lanes k rate t) (by rwa [ht])]
  exact ⟨rfl, rfl⟩

theorem laneOf_detectEach_of_mem {ls : List Nat} {s : State} {k : Nat} (hk : k ∈ ls) (hlen : k < s.lanes.lane.length) :
    (laneOf (detectEach ls s) k).state = .detect := by
  obtain ⟨t, ht, hop, -⟩ := laneOf_eachLane_of_mem goDetect_actsOnLane (s := s) hk
  rw [detectEach_eq, hop, laneOf_mod_self (goDetect_lanes k t) (by rwa [ht])]
  rfl

theorem detectEach_now (ls : List Nat) (s : State) : (detectEach ls s).now = s.now := by
  induction ls generalizing s with
  | nil => rfl
  | cons l r ih => exact ih _

/-! ## The lanes of a group (04 R181, R216) -/

theorem mem_cxpGroup {s : State} {l k : Nat} {sts : List LaneState} : k ∈ cxpGroup s l sts ↔
    (∃ i < (laneOf s (firstLane s l)).cfg.group, firstLane s l + i = k) ∧ (laneOf s k).cfg.camram = false ∧
      (laneOf s k).state ∈ sts := by
  simp [cxpGroup]

theorem cxpGroup_nodup (s : State) (l : Nat) (sts : List LaneState) : (cxpGroup s l sts).Nodup :=
  (List.Nodup.map (fun _ _ => Nat.add_left_cancel) List.nodup_range).filter _

theorem masterIn_iff {s : State} {l : Nat} {st : LaneState} :
    masterIn s l st = true ↔ firstLane s l = l ∧ (laneOf s l).cfg.camram = false ∧ (laneOf s l).state = st := by
  rw [← inState_iff]
  simp [masterIn]

/-- The master is a lane of its own group. -/
theorem master_mem_cxpGroup {s : State} {l : Nat} {st : LaneState} (h : masterIn s l st = true)
    (hg : 1 ≤ (laneOf s l).cfg.group) : l ∈ cxpGroup s l [st] := by
  obtain ⟨hfirst, hc, hst⟩ := masterIn_iff.1 h
  rw [mem_cxpGroup, hfirst]
  exact ⟨⟨0, hg, rfl⟩, hc, List.mem_singleton.2 hst⟩

theorem lt_of_mem_cxpGroup {s : State} {l k : Nat} {sts : List LaneState} (hd : .disabled ∉ sts) (h : k ∈ cxpGroup s l sts) :
    k < s.lanes.lane.length := by
  obtain ⟨-, -, hst⟩ := mem_cxpGroup.1 h
  exact lt_of_state_ne_disabled fun e => hd (e ▸ hst)

/-! ## The target rate (04 R185, R217) -/

/-- Looked for from above, what is found is the greatest. -/
theorem find?_reverse_range {p : Nat → Bool} {n a : Nat} (h : (List.range n).reverse.find? p = some a) :
    p a = true ∧ ∀ c, a < c → c < n → p c = false := by
  induction n with
  | zero => cases h
  | succ n ih =>
    rw [List.range_succ, List.reverse_append, List.reverse_singleton, List.singleton_append, List.find?_cons] at h
    cases hn : p n with
    | true =>
      rw [hn] at h
      cases h
      exact ⟨hn, fun c hc hlt => by omega⟩
    | false =>
      rw [hn] at h
      obtain ⟨ha, hmax⟩ := ih h
      refine ⟨ha, fun c hc hlt => ?_⟩
      rcases Nat.lt_succ_iff_lt_or_eq.1 hlt with hcn | rfl
      · exact hmax c hc hcn
      · exact hn

/-- The target is a rate of the device within every lane's limits, and no higher rate of the device is. -/
theorem groupRate_spec {s : State} {ls : List Nat} {rates : Byte} {a : Nat} (h : groupRate s ls rates = some a) :
    (rates.getLsbD a = true ∧ ∀ k ∈ ls, (laneOf s k).cfg.rateMin ≤ a ∧ a ≤ (laneOf s k).cfg.rateMax) ∧
    ∀ c, a < c → c < 8 → rates.getLsbD c = true → ∃ k ∈ ls, c < (laneOf s k).cfg.rateMin ∨
      (laneOf s k).cfg.rateMax < c ∨ (laneOf s k).cap.getD 7 < c := by
  obtain ⟨ha, hmax⟩ := find?_reverse_range h
  simp only [Bool.and_eq_true, decide_eq_true_eq, List.all_eq_true] at ha
  obtain ⟨⟨h1, hrate⟩, hall⟩ := ha
  refine ⟨⟨hrate, fun k hk => ?_⟩, fun c hac hc hcr => ?_⟩
  · have := hall k hk
    omega
  · have hno := hmax c hac hc
    simp only [hcr, show (1 ≤ c) from by omega, decide_true, Bool.true_and, List.all_eq_false, Bool.and_eq_true,
      decide_eq_true_eq] at hno
    obtain ⟨k, hk, hout⟩ := hno
    exact ⟨k, hk, by omega⟩

/-! ## The events (04 Table 4.9) -/

theorem exec_cxpDetectAligned {l : Nat} {s : State} (h : masterIn s l .detect = true) (rates : Byte) (conn : Nat) :
    exec (.cxpDetectAligned l rates conn) s =
      let n := min conn (laneOf s l).cfg.group
      let ls := (cxpGroup s l [.detect]).filter fun k => decide (k < l + n)
      .next (goEach .discover 1 ls (modLane l (fun x => { x with cxpTarget := ((groupRate s ls rates).getD 0, n) }) s)) :=
  congrArg Host.Outcome.next (if_neg (by simp [h]))

theorem exec_cxpDiscoverAck {l : Nat} {s : State} (h : masterIn s l .discover = true) (ht : (laneOf s l).cxpTarget.1 ≠ 0) :
    exec (.cxpDiscoverAck l) s = .next (goEach .resync (laneOf s l).cxpTarget.1 (cxpGroup s l [.discover]) s) :=
  congrArg Host.Outcome.next (if_pos (by simp [h, ht]))

theorem exec_cxpResyncDone {l : Nat} {s : State} (h : masterIn s l .resync = true) : exec (.cxpResyncDone l) s = .next
    (activeEach (laneOf s l).rate (cxpGroup s l [.resync]) (modLane l (fun x => { x with agreed := some x.rate }) s)) :=
  congrArg Host.Outcome.next (if_pos h)

theorem exec_cxpBringupTimeout_discover {l : Nat} {s : State} (h : masterIn s l .discover = true) :
    exec (.cxpBringupTimeout ⟨l, false⟩) s =
      .next (detectEach (cxpGroup s l [.discover]) (s.at_ ((laneOf s l).since + msTicks 500))) :=
  congrArg Host.Outcome.next (if_pos h)

theorem exec_cxpBringupTimeout_resync {l : Nat} {s : State} (h : masterIn s l .resync = true) :
    exec (.cxpBringupTimeout ⟨l, false⟩) s =
      .next (detectEach (cxpGroup s l [.resync]) (modLane l Lane.lowered (s.at_ ((laneOf s l).since + msTicks 100)))) := by
  have hno : masterIn s l .discover ≠ true := fun hd => by
    obtain ⟨-, -, hd⟩ := masterIn_iff.1 hd
    obtain ⟨-, -, hr⟩ := masterIn_iff.1 h
    rw [hd] at hr
    cases hr
  exact congrArg Host.Outcome.next ((if_neg hno).trans (if_pos h))

/-- Alignment at CXP-1 (04 R217). -/
theorem cxpDetectAligned_spec {l : Nat} {s : State} (hl : l < s.lanes.lane.length) (hg : 1 ≤ (laneOf s l).cfg.group)
    (h : masterIn s l .detect = true) (rates : Byte) (conn : Nat) :
    let n := min conn (laneOf s l).cfg.group
    let ls := (cxpGroup s l [.detect]).filter fun k => decide (k < l + n)
    ∃ u, exec (.cxpDetectAligned l rates conn) s = .next u ∧ (laneOf u l).cxpTarget = ((groupRate s ls rates).getD 0, n) ∧
      (∀ k ∈ ls, (laneOf u k).state = .discover ∧ (laneOf u k).rate = 1) ∧ (∀ k, k ∉ ls → (laneOf u k).state = (laneOf s k).state) ∧
      (1 ≤ n → l ∈ ls) ∧ Frame [.lanes] s u := by
  intro n ls
  refine ⟨_, exec_cxpDetectAligned h rates conn, ?_, fun k hk => ?_, fun k hk => ?_, fun hn => ?_, ?_⟩
  · rw [goEach_eq, laneOf_eachLane_keeps Lane.cxpTarget fun l s m => laneOf_mod_keeps _ (goLane_lanes l _ _ s) (fun _ => rfl) m]
    rw [laneOf_modLane_self s l _ hl]
  · refine laneOf_goEach_of_mem _ _ hk ?_
    rw [modLane_length]
    exact lt_of_mem_cxpGroup (by decide) (List.mem_filter.1 hk).1
  · rw [goEach_eq, laneOf_eachLane_of_not_mem (goLane_actsOnLane _ _) hk]
    exact laneOf_modLane_keeps Lane.state (by intro; rfl) s l k
  · exact List.mem_filter.2 ⟨master_mem_cxpGroup h hg, decide_eq_true (by omega)⟩
  · exact goEach_frame _ _ _ _ (by decide) (modLane_frame _ _ _ (by decide) (Frame.refl _ s))

/-- The end of RESYNC's limit: the target is lowered, the fallback counted (04 R212, Table 4.9). -/
theorem cxpBringupTimeout_resync_spec {l : Nat} {s : State} (hl : l < s.lanes.lane.length) (h : masterIn s l .resync = true) :
    ∃ u, exec (.cxpBringupTimeout ⟨l, false⟩) s = .next u ∧ (∀ k ∈ cxpGroup s l [.resync], (laneOf u k).state = .detect) ∧
      u.now = max s.now ((laneOf s l).since + 100 * 400000) ∧ (laneOf u l).cap = some ((laneOf s l).rate - 1) ∧
      (laneOf u l).ctr = bumpAt (laneOf s l).ctr cFALLBACK := by
  refine ⟨_, exec_cxpBringupTimeout_resync h, fun k hk => ?_, by rw [detectEach_now]; rfl, ?_, ?_⟩
  · refine laneOf_detectEach_of_mem hk ?_
    rw [modLane_length]
    exact lt_of_mem_cxpGroup (by decide) hk
  · rw [detectEach_eq, laneOf_eachLane_keeps Lane.cap fun l s m => laneOf_mod_keeps _ (goDetect_lanes l s) (fun _ => rfl) m]
    rw [laneOf_modLane_self (s.at_ _) l _ hl]
    rfl
  · rw [detectEach_eq, laneOf_eachLane_keeps Lane.ctr fun l s m => laneOf_mod_keeps _ (goDetect_lanes l s) (fun _ => rfl) m]
    rw [laneOf_modLane_self (s.at_ _) l _ hl]
    rfl

/-- Settles O23: each event moves the lanes of the master's group that are in its state. -/
theorem cxpBringUp : Obligations.CxpBringUp := by
  unfold Obligations.CxpBringUp
  intro l s hs hl hg
  rw [← hs.lanes] at hl
  refine ⟨fun rates conn h => cxpDetectAligned_spec hl hg h rates conn, fun rates ls a h => groupRate_spec h, fun h ht => ?ack,
    fun h => ?noAck, fun h => ?done, fun h => ?discover, fun h => cxpBringupTimeout_resync_spec hl h, rfl⟩
  case ack =>
    refine ⟨_, exec_cxpDiscoverAck h ht, fun k hk => laneOf_goEach_of_mem _ _ hk (lt_of_mem_cxpGroup (by decide) hk),
      master_mem_cxpGroup h hg, goEach_frame _ _ _ _ (by decide) (Frame.refl _ s)⟩
  case noAck =>
    refine congrArg Host.Outcome.next (if_neg ?_)
    rcases h with h | h <;> simp [h]
  case done =>
    refine ⟨_, exec_cxpResyncDone h, fun k hk => laneOf_activeEach_of_mem _ hk ?_, master_mem_cxpGroup h hg, ?_⟩
    · rw [modLane_length]
      exact lt_of_mem_cxpGroup (by decide) hk
    · rw [activeEach_eq, laneOf_eachLane_keeps Lane.agreed fun l s m => laneOf_mod_keeps _ (goActive_lanes l _ s) (fun _ => rfl) m]
      rw [laneOf_modLane_self s l _ hl]
  case discover =>
    refine ⟨_, exec_cxpBringupTimeout_discover h, fun k hk => laneOf_detectEach_of_mem hk (lt_of_mem_cxpGroup (by decide) hk), ?_⟩
    rw [detectEach_now]
    rfl

end Sys2Proof.Machine
end

section
/-! PROOFS. Camram reception: blocks with and without their sync word, and the packet at the front of the buffer. -/

namespace Sys2Proof.Machine

open Sys2Proof

/-! ## What routing reads -/

theorem takes_congr {s u : State} (h : u.pln = s.pln) (n x c : Nat) : takes u n x c = takes s n x c := by
  have hchan : ∀ m, plnChan u m = plnChan s m := fun m => by rw [plnChan, plnChan, h]
  induction n generalizing x with
  | zero => rfl
  | succ n ih =>
    rw [takes, takes, hchan]
    cases (plnChan s x).twin with
    | none => rfl
    | some d => exact congrArg (x == c || ·) (ih d)

theorem takers_congr {s u : State} (h : u.pln = s.pln) (c : Nat) : takers u c = takers s c := by
  have hchan : ∀ m, plnChan u m = plnChan s m := fun m => by rw [plnChan, plnChan, h]
  simp only [takers, takes_congr h, hchan]

/-- What routing reads of a lane: its configuration, the CAPABILITY it accepted and the triggers sent. -/
def Lane.routing (x : Lane) : LaneCfg × Option Capability × List SentTrigger := (x.cfg, x.capability, x.sent)

section Routing

variable {s u : State} (h : ∀ m, (laneOf u m).routing = (laneOf s m).routing)
include h

theorem firstLane_congr (l : Nat) : firstLane u l = firstLane s l := by
  have hcfg : (laneOf u l).cfg = (laneOf s l).cfg := congrArg Prod.fst (h l)
  rw [firstLane, firstLane, hcfg]

theorem vcOf_congr (l vc : Nat) : vcOf u l vc = vcOf s l vc := by
  have hcfg : (laneOf u l).cfg = (laneOf s l).cfg := congrArg Prod.fst (h l)
  rw [vcOf, vcOf, hcfg]

theorem findTrigger_congr (l : Nat) (sp scan : Word) : findTrigger u l sp scan = findTrigger s l sp scan := by
  have hsent : (laneOf u (firstLane s l)).sent = (laneOf s (firstLane s l)).sent := congrArg (·.2.2) (h _)
  rw [findTrigger, firstLane_congr h, hsent, findTrigger]

theorem announced_congr (l dt : Nat) : announced u l dt = announced s l dt := by
  have hcap : ∀ m, (laneOf u m).capability = (laneOf s m).capability := fun m => congrArg (·.2.1) (h m)
  rw [announced, firstLane_congr h, hcap, hcap, announced]

end Routing

/-! ## Blocks (04 R203 to R206) -/

@[simp] theorem Lane.bump_missedSync (i : Nat) (x : Lane) : (x.bump i).missedSync = x.missedSync := rfl

theorem Lane.bumpBy_missedSync (n i : Nat) (x : Lane) : (x.bumpBy n i).missedSync = x.missedSync := by
  induction n generalizing x with
  | zero => rfl
  | succ n ih => exact ih _

theorem Lane.atFirst_missedSync (x : Lane) : x.atFirst.missedSync = x.missedSync := by
  unfold Lane.atFirst
  dsimp only
  split <;> rfl

theorem takeWord_missedSync (b : Block) (i : Nat) (w : Word) (x : Lane) : (takeWord b i w x).missedSync = x.missedSync := by
  have hfirst : (if i = b.first then x.atFirst else x).missedSync = x.missedSync := by
    split
    · exact x.atFirst_missedSync
    · rfl
  unfold takeWord
  dsimp only
  generalize (if i = b.first then x.atFirst else x) = y at hfirst ⊢
  split_ifs <;> exact hfirst

theorem takeWords_missedSync (b : Block) (i : Nat) (l : List Word) (x : Lane) :
    (takeWords b i l x).missedSync = x.missedSync := by
  induction l generalizing i x with
  | nil => rfl
  | cons w r ih => rw [takeWords, ih, takeWord_missedSync]

/-- The words of a block leave the run of missing sync words as it is. -/
theorem takeBlock_missedSync (b : Block) (x : Lane) : (takeBlock b x).missedSync = x.missedSync := by
  have hstuff : (if b.stuffErrors = 0 then x else (x.bumpBy b.stuffErrors cSTUFFERR).flag flSTUFF).missedSync = x.missedSync := by
    split
    · rfl
    · exact x.bumpBy_missedSync _ _
  unfold takeBlock
  dsimp only
  generalize (if b.stuffErrors = 0 then x else (x.bumpBy b.stuffErrors cSTUFFERR).flag flSTUFF) = y at hstuff ⊢
  split
  · rw [takeWords_missedSync, hstuff]
  · exact hstuff

theorem exec_camramBlockReceived (l e : Nat) (line : List Bool) (s : State) : exec (.camramBlockReceived l e line) s =
    .next (if (laneOf s l).locked then blockReceived l e line s else s) := rfl

theorem blockReceived_synced {e : Nat} (he : e ≤ 4) (l : Nat) (line : List Bool) (s : State) : blockReceived l e line s =
    modLane l (fun x => takeBlock (readBlock false line) { x with missedSync := 0 }) s := by
  have hmissing : decide (4 < e) = false := decide_eq_false he.not_gt
  unfold blockReceived
  rw [hmissing]
  rfl

theorem blockReceived_lost {e l : Nat} {s : State} (he : 4 < e) (h3 : (laneOf s l).missedSync = 3) (line : List Bool) :
    blockReceived l e line s = lockLoss l s := by
  unfold blockReceived
  dsimp only
  rw [decide_eq_true he, h3]
  exact if_pos (by decide)

/-- The fourth missing sync word in an ACTIVE lane (04 R204, R240). -/
theorem lockLoss_active_camram {l : Nat} {s : State} (hl : l < s.lanes.lane.length) (hc : (laneOf s l).cfg.camram = true)
    (ha : (laneOf s l).state = .active) :
    let y := laneOf (lockLoss l s) l
    (y.state = .train ∨ y.state = .retired) ∧ y.rx = [] ∧ y.missedSync = 0 ∧ y.lock = false ∧
      y.ctr = bumpAt (bumpAt (laneOf s l).ctr cSYNCLOSS) cUPSETS := by
  obtain ⟨f, hf, hfalls⟩ := lockLoss_active ha
  rw [fallState, if_pos hc] at hfalls
  dsimp only
  rw [laneOf_mod_self hf hl]
  exact ⟨hfalls.state _, hfalls.rx _, hfalls.missedSync _, hfalls.lock _, hfalls.ctr _⟩

/-! ## Packets (04 R188, R205 to R208) -/

theorem countInject_uninjected {l : Nat} {s : State} (hi : (laneOf s l).inject.1 ≠ 3) : countInject l s = s :=
  modLane_of_fixed (if_pos hi)

/-- With no packet injection on the lane a packet is routed as it was received, counted when its CRC fails. -/
theorem packetTaken_uninjected {l : Nat} {s : State} (hi : (laneOf s l).inject.1 ≠ 3) (w : List RxWord) :
    packetTaken l w s = routePacket l (readPacket w) ((readPacket w).bad || !(readPacket w).crcGood)
      (if (readPacket w).crcGood then s else countCrc l false s) := by
  have hdue : injectDue (laneOf s l) = false := by simp [injectDue, hi]
  unfold packetTaken
  simp [hdue, countInject_uninjected hi]

/-- The state in which a packet of `n` words has been taken from the lane's buffer. -/
def packetOut (l n : Nat) (s : State) : State :=
  modLane l (fun x => { x with rx := x.rx.drop n, rxTail := min x.rxTail (x.rx.length - n) }) s

theorem packetOut_routing (l n : Nat) (s : State) (m : Nat) : (laneOf (packetOut l n s) m).routing = (laneOf s m).routing :=
  laneOf_modLane_keeps Lane.routing (by intro; rfl) s l m

theorem exec_camramPacketReceived {l : Nat} {s : State} {w : List RxWord} (ha : inState s l true .active = true)
    (hw : frontOf (laneOf s l) = some w) :
    exec (.camramPacketReceived l) s = .next (packetTaken l w (packetOut l w.length s)) := by
  change execCamramPacketReceived l s = _
  unfold execCamramPacketReceived
  rw [ha, hw]
  rfl

theorem exec_camramPacketReceived_idle {l : Nat} {s : State}
    (h : inState s l true .active = false ∨ frontOf (laneOf s l) = none) : exec (.camramPacketReceived l) s = .next s := by
  change execCamramPacketReceived l s = _
  unfold execCamramPacketReceived
  rcases h with h | h
  · rw [h]
    rfl
  · rw [h]
    exact congrArg Host.Outcome.next (ite_self s)

/-- Whatever else it holds, a packet with a reserved field, to discard or of no data type the unit knows goes no further (04 R208). -/
theorem routePacket_unmapped {l : Nat} {p : CamPacket} {s : State} (bad : Bool)
    (h : p.reserved ≠ 0 ∨ vcOf s l p.vc = 0 ∨ (isPixel p.dt = false ∧ p.dt ≠ 0x20 ∧ p.dt ≠ 0x21 ∧ p.dt ≠ 0x3E)) :
    routePacket l p bad s = unmapped l s := by
  unfold routePacket
  dsimp only
  rcases h with h | h | ⟨hp, h20, h21, h3e⟩
  · exact if_pos (.inl h)
  · exact if_pos (.inr h)
  · simp [hp, h20, h21, h3e]

theorem routePacket_event {l : Nat} {p : CamPacket} {s : State} (bad : Bool) (hr : p.reserved = 0) (hdt : p.dt = 0x20)
    (hv : vcOf s l p.vc = 1) : routePacket l p bad s = camEvent l p.vc p.payload s := by
  unfold routePacket
  simp [hr, hdt, hv, isPixel]

theorem routePacket_pixel {l : Nat} {p : CamPacket} {s : State} (bad : Bool) (hr : p.reserved = 0) (hp : isPixel p.dt = true)
    (hv : 0x80 ≤ vcOf s l p.vc) : routePacket l p bad s = pixelPacket l p bad s := by
  have hv0 : vcOf s l p.vc ≠ 0 := by omega
  unfold routePacket
  simp [hr, hv0, hp]

section Pixel

variable {l : Nat} {p : CamPacket} {s : State} (bad : Bool) (hr : p.reserved = 0) (hp : isPixel p.dt = true)
  (ha : announced s l p.dt = true) (hv : 0x80 ≤ vcOf s l p.vc)
include hr hp ha hv

theorem routePacket_badstamp (ht : findTrigger s l p.spos (BitVec.ofNat 32 (fld p.payload 0 4)) = none) :
    routePacket l p bad s = modLane l (Lane.bump cBADSTAMP) s := by
  rw [routePacket_pixel bad hr hp hv, pixelPacket]
  simp [ha, hv.not_gt, ht]

/-- A stamp that names a trigger takes the packet's samples to that scan line (04 R207). -/
theorem routePacket_segment {t : SentTrigger}
    (ht : findTrigger s l p.spos (BitVec.ofNat 32 (fld p.payload 0 4)) = some t) :
    ∃ g : Segment, routePacket l p bad s = deliverSegment (takers s (vcOf s l p.vc - 0x80)) g s ∧
      g.k = t.k ∧ g.scan = t.scan ∧ g.first = fld p.payload 4 2 ∧ g.count = fld p.payload 6 2 ∧ g.bad = bad ∧
      (∀ i, i < g.samples.length → g.samples[i]? = some (sampleOf p.dt (rawPixel p.dt (p.payload.drop 8) i))) := by
  refine ⟨{ k := t.k, scan := t.scan, first := fld p.payload 4 2, count := fld p.payload 6 2, bad := bad
            samples := (List.range ((List.range (fld p.payload 6 2 + 1)).foldl
              (fun m i => if dtBytes p.dt i ≤ (p.payload.drop 8).length then i else m) 0)).map
                fun i => sampleOf p.dt (rawPixel p.dt (p.payload.drop 8) i) }, ?_, rfl, rfl, rfl, rfl, rfl, fun i hi => ?_⟩
  · rw [routePacket_pixel bad hr hp hv, pixelPacket]
    simp [ha, hv.not_gt, ht]
  · rw [List.length_map, List.length_range] at hi
    rw [List.getElem?_map, List.getElem?_range hi]
    rfl

end Pixel

/-- Settles O20: the block with and without its sync word, and the packet at the front of the buffer by where it is routed. -/
theorem camramReception : Obligations.CamramReception := by
  unfold Obligations.CamramReception
  refine ⟨fun l e line s hs hl hlocked he => ?synced, fun l e line s hs hl hlocked he h3 => ?lost, fun l e line s hlocked => ?unlocked,
    fun l s h => exec_camramPacketReceived_idle h, fun l s w hs hl ha hw hi => ?packet⟩
  case synced =>
    rw [← hs.lanes] at hl
    rw [exec_camramBlockReceived, if_pos hlocked, blockReceived_synced he]
    refine ⟨_, rfl, ?_, fun j hj => laneOf_modLane_ne s l j _ hj.symm, modLane_frame _ _ _ (by decide) (Frame.refl _ s)⟩
    rw [laneOf_modLane_self s l _ hl, takeBlock_missedSync]
  case lost =>
    rw [← hs.lanes] at hl
    rw [exec_camramBlockReceived, if_pos hlocked, blockReceived_lost he h3]
    simp only [Lane.locked, Bool.and_eq_true] at hlocked
    obtain ⟨⟨hc, -⟩, -⟩ := hlocked
    refine ⟨fun ha => ⟨_, rfl, lockLoss_active_camram hl hc ha⟩, fun hcap => ?_⟩
    rw [lockLoss_bringUp (by rw [hcap]; decide)]
    rfl
  case unlocked =>
    rw [exec_camramBlockReceived, hlocked, if_neg Bool.false_ne_true]
  case packet =>
    intro p v s'
    have hroute : ∀ m, (laneOf s' m).routing = (laneOf s m).routing := packetOut_routing l w.length s
    have hv : vcOf s' l p.vc = v := vcOf_congr hroute l p.vc
    have hi' : (laneOf s' l).inject.1 ≠ 3 := by
      rwa [laneOf_modLane_keeps Lane.inject (by intro; rfl) s l l]
    have hexec : exec (.camramPacketReceived l) s =
        .next (routePacket l p (p.bad || !p.crcGood) (if p.crcGood then s' else countCrc l false s')) :=
      (exec_camramPacketReceived ha hw).trans (congrArg Host.Outcome.next (packetTaken_uninjected hi' w))
    refine ⟨fun hcrc => ⟨?_, ?_⟩, fun hcrc => ?_⟩
    · rw [hexec, hcrc, Bool.not_false, Bool.or_true, if_neg Bool.false_ne_true]
    · have hlen : l < s'.lanes.lane.length := by rw [modLane_length, hs.lanes]; exact hl
      rw [countCrc, laneOf_modLane_self s' l _ hlen, laneOf_modLane_self s l _ (by rwa [hs.lanes])]
      rfl
    rw [hexec, hcrc, Bool.not_true, Bool.or_false, if_pos rfl]
    rw [← announced_congr hroute l p.dt, ← findTrigger_congr hroute, ← hv]
    refine ⟨fun h => congrArg Host.Outcome.next (routePacket_unmapped p.bad h),
      fun hr hp han hv80 ht => congrArg Host.Outcome.next (routePacket_badstamp p.bad hr hp han hv80 ht),
      fun t hr hp han hv80 ht => ?_, fun hr hdt hv1 => congrArg Host.Outcome.next (routePacket_event p.bad hr hdt hv1)⟩
    obtain ⟨g, hg, hfields⟩ := routePacket_segment p.bad hr hp han hv80 ht
    rw [takers_congr (rfl : s'.pln = s.pln)] at hg
    exact ⟨g, congrArg Host.Outcome.next hg, hfields⟩

end Sys2Proof.Machine
end

section
/-! PROOFS. CoaXPress reception: packets by their stream, scan lines paired with triggers, loss of alignment, and the replies and
the time limit of the control channel. -/

namespace Sys2Proof.Machine

open Sys2Proof

/-! ## Packets by their stream (04 R188) -/

theorem exec_cxpPacketReceived (l : Nat) (p : CxpArrival) (s : State) : exec (.cxpPacketReceived l p) s = .next (
    if !inState s l false .active then s
    else if p.full then modLane l (fun x => (x.bump cOVF).flag flOVF) s
    else cxpPacket l p.packet s) := rfl

section Active

variable {l : Nat} {s : State} (ha : inState s l false .active = true)
include ha

theorem exec_cxpPacketReceived_taken (p : CxpPacket) : exec (.cxpPacketReceived l ⟨p, false⟩) s = .next (cxpPacket l p s) := by
  rw [exec_cxpPacketReceived, ha]
  rfl

theorem exec_cxpPacketReceived_full (p : CxpPacket) :
    exec (.cxpPacketReceived l ⟨p, true⟩) s = .next (modLane l (fun x => (x.bump cOVF).flag flOVF) s) := by
  rw [exec_cxpPacketReceived, ha]
  rfl

end Active

theorem cxpPacket_imageHeader {s : State} {l vc : Nat} {stream : Byte} (h : streamVc s l stream = some vc) (n : Nat) :
    cxpPacket l (.imageHeader stream n) s = if vcOf s l vc < 0x80 then unmapped l s else cxpHeader l stream vc s := by
  simp only [cxpPacket, h]

theorem cxpPacket_event {s : State} {l vc : Nat} {stream : Byte} (h : streamVc s l stream = some vc) (data : Bytes) :
    cxpPacket l (.event stream data) s = if vcOf s l vc = 1 then camEvent l vc data s else unmapped l s := by
  simp only [cxpPacket, h]

theorem cxpPacket_scanLine {s : State} {l vc : Nat} {stream : Byte} (h : streamVc s l stream = some vc) (first format : Nat)
    (samples : List Nat) (good : Bool) :
    cxpPacket l (.scanLine stream first format samples good) s = cxpLine l stream vc first format samples good s := by
  simp only [cxpPacket, h]

/-- An image header leaves its stream last in the list of its group's first lane, with no trigger and no scan line (04 R199). -/
theorem laneOf_cxpHeader {l : Nat} {s : State} (hl : firstLane s l < s.lanes.lane.length) (stream : Byte) (vc : Nat) :
    (laneOf (cxpHeader l stream vc s) (firstLane s l)).cxp.getLast? = some { stream := stream, trigs := [], lines := 0 } := by
  have hmiss : ∀ ts cs, (missEach ts cs s).lanes = s.lanes := fun ts cs =>
    (missEach_frame ts cs s (List.Subset.refl _) (Frame.refl _ s)).lanes_eq (by decide)
  unfold cxpHeader
  dsimp only
  rw [laneOf_modLane_self]
  · simp
  · split
    · rwa [hmiss]
    · exact hl

/-! ## Scan lines (04 R199, R205) -/

/-- The trigger with which the image of a stream pairs its present scan line. -/
def pairedTrigger (s : State) (f : Nat) (stream : Byte) : Option SentTrigger :=
  ((laneOf s f).cxp.find? fun c => c.stream == stream).bind fun c => if c.lines = 0 then none else c.trigs[c.lines - 1]?

/-- The state in which a piece's CRC has been counted. -/
def pieceCounted (l : Nat) (good : Bool) (s : State) : State := if good then s else countCrc l false s

/-- The state in which a piece from pixel 0 on has begun the next scan line of its stream. -/
def lineBegun (f : Nat) (stream : Byte) (first : Nat) (s : State) : State :=
  if first = 0 then modStream f stream (fun c => { c with lines := c.lines + 1 }) s else s

/-- A piece of a scan line as it reaches the image pipeline. -/
def pieceSegment (t : SentTrigger) (first format : Nat) (samples : List Nat) (good : Bool) : Segment :=
  { k := t.k, scan := t.scan, first := first, count := samples.length, bad := !good
    samples := samples.map fun r => sampleOf format (r % 2 ^ dtBits format) }

section Piece

variable {l : Nat} {s : State} (hi : (laneOf s l).inject.1 ≠ 3) (stream : Byte) (vc first format : Nat) (samples : List Nat)
  (good : Bool)
include hi

theorem cxpLine_uninjected : cxpLine l stream vc first format samples good s =
    if !isPixel format || vcOf s l vc < 0x80 then unmapped l (pieceCounted l good s)
    else
      let s1 := lineBegun (firstLane s l) stream first (pieceCounted l good s)
      match pairedTrigger s1 (firstLane s l) stream with
      | none => modLane l (Lane.bump cBADSTAMP) s1
      | some t => deliverSegment (takers s1 (vcOf s l vc - 0x80)) (pieceSegment t first format samples good) s1 := by
  have hdue : injectDue (laneOf s l) = false := by simp [injectDue, hi]
  unfold cxpLine
  dsimp only
  rw [hdue, countInject_uninjected hi]
  simp only [Bool.false_and, Bool.not_false, Bool.and_true, Bool.false_eq_true, if_false]
  refine if_congr Iff.rfl rfl ?_
  rw [← pieceCounted, ← lineBegun, pairedTrigger]
  cases ((laneOf (lineBegun (firstLane s l) stream first (pieceCounted l good s)) (firstLane s l)).cxp.find?
    fun c => c.stream == stream) with
  | none => rfl
  | some c =>
    dsimp only [Option.bind_some]
    cases (if c.lines = 0 then none else c.trigs[c.lines - 1]?) <;> rfl

end Piece

/-! ## Loss of alignment (04 R204) -/

theorem lockLossEach_eq (ls : List Nat) (s : State) : lockLossEach ls s = eachLane lockLoss ls s := by
  induction ls generalizing s with
  | nil => rfl
  | cons l r ih => exact ih _

theorem lockLoss_actsOnLane : ActsOnLane lockLoss := by
  intro l s
  by_cases ha : (laneOf s l).state = .active
  · obtain ⟨f, hf, -⟩ := lockLoss_active ha
    exact ⟨_, hf⟩
  · exact ⟨Lane.unlock, congrArg State.lanes (lockLoss_bringUp ha)⟩

theorem exec_cxpAlignmentLoss (l : Nat) (s : State) :
    exec (.cxpAlignmentLoss l) s = .next (eachLane lockLoss (cxpGroup s l [.active, .discover]) s) :=
  congrArg Host.Outcome.next (lockLossEach_eq _ s)

/-- Each lane of the group loses its lock as it was before the command: no other lane's loss changes it. -/
theorem laneOf_alignmentLoss {l k : Nat} {s : State} (hk : k ∈ cxpGroup s l [.active, .discover]) :
    let y := laneOf (eachLane lockLoss (cxpGroup s l [.active, .discover]) s) k
    ((laneOf s k).state = .active → (y.state = .detect ∨ y.state = .retired) ∧
      y.ctr = bumpAt (bumpAt (laneOf s k).ctr cSYNCLOSS) cUPSETS) ∧
    ((laneOf s k).state = .discover → y.state = .discover ∧ y.ctr = bumpAt (laneOf s k).ctr cSYNCLOSS) := by
  obtain ⟨t, hlen, hop, hsame⟩ := laneOf_eachLane_of_mem lockLoss_actsOnLane (s := s) hk
  have ht : laneOf t k = laneOf s k := hsame (cxpGroup_nodup s l _)
  have hk' : k < t.lanes.lane.length := by
    rw [hlen]
    exact lt_of_mem_cxpGroup (by decide) hk
  obtain ⟨-, hc, -⟩ := mem_cxpGroup.1 hk
  dsimp only
  rw [hop, ← ht]
  refine ⟨fun ha => ?_, fun hd => ?_⟩
  · obtain ⟨f, hf, hfalls⟩ := lockLoss_active ha
    rw [fallState, ht, hc, if_neg Bool.false_ne_true] at hfalls
    rw [laneOf_mod_self hf hk']
    exact ⟨hfalls.state _, hfalls.ctr _⟩
  · rw [lockLoss_bringUp (by rw [hd]; decide), laneOf_modLane_self t k _ hk']
    exact ⟨hd, rfl⟩

/-! ## The control channel (04 R220) -/

theorem exec_controlReply {l : Nat} {s : State} (ha : (laneOf s l).state = .active) (tag : Byte) (b : Bytes) :
    exec (.controlReply l tag b) s = .next (ctrlAnswer l tag b s) := congrArg Host.Outcome.next (if_pos ha)

theorem ctrlAnswer_late {l : Nat} {s : State} {tag : Byte} (h : (laneOf s l).ctrl.find? (fun x => x.tag == tag) = none) (b : Bytes) :
    ctrlAnswer l tag b s = countFenced 0 s := by
  unfold ctrlAnswer
  rw [h]

theorem ctrlAnswer_waited {l : Nat} {s : State} {tag : Byte} {x : CtrlXact} {p : Packet}
    (h : (laneOf s l).ctrl.find? (fun x => x.tag == tag) = some x) (hp : findP x.ref s = some p) (b : Bytes) :
    ctrlAnswer l tag b s =
      doneLater p stOK b (modLane l (fun y => { y with ctrl := y.ctrl.filter fun z => !(z.ref == x.ref) }) s) := by
  have hp' : ∀ f, findP x.ref (modLane l f s) = some p := fun _ => hp
  unfold ctrlAnswer
  rw [h]
  dsimp only
  rw [hp']

theorem exec_controlXactTimeout {l : Nat} {s : State} {x : CtrlXact} {rest : List CtrlXact} {p : Packet}
    (h : (laneOf s l).ctrl = x :: rest) (hp : findP x.ref s = some p) : exec (.controlXactTimeout l) s =
      .next (doneLater p stTIMED_OUT [] (modLane l (fun y => { y with ctrl := rest }) (s.at_ (x.since + msTicks 200)))) := by
  have hp' : ∀ f t, findP x.ref (modLane l f (s.at_ t)) = some p := fun _ _ => hp
  change execControlXactTimeout l s = _
  unfold execControlXactTimeout
  rw [h]
  dsimp only
  rw [hp']

/-- Settles O21: packets by their stream, pieces by their trigger, the group's loss of alignment, and the control channel. -/
theorem cxpReceptionAndControl : Obligations.CxpReceptionAndControl := by
  unfold Obligations.CxpReceptionAndControl
  refine ⟨fun l p full s => ⟨fun h => ?idle, fun ha => exec_cxpPacketReceived_full ha p⟩,
    fun l stream n first format samples data good s ha hnone => ?noStream, fun l vc n stream data s hs ha hvc => ?stream,
    fun l vc first format stream samples good s ha hvc hi => ?piece, fun l s h => ?aligned,
    fun l s hs => ⟨_, exec_cxpAlignmentLoss l s, fun k hk => laneOf_alignmentLoss hk⟩, fun l tag b s ha hnone => ?late,
    fun l tag b s x p ha hx hp => ⟨_, ?waited, rfl⟩, fun l s x rest p hx hp => exec_controlXactTimeout hx hp⟩
  case idle =>
    rw [exec_cxpPacketReceived, h]
    rfl
  case noStream =>
    rw [exec_cxpPacketReceived_taken ha, exec_cxpPacketReceived_taken ha, exec_cxpPacketReceived_taken ha]
    simp only [cxpPacket, hnone]
    exact ⟨rfl, rfl, rfl⟩
  case stream =>
    rw [exec_cxpPacketReceived_taken ha, exec_cxpPacketReceived_taken ha, cxpPacket_imageHeader hvc, cxpPacket_event hvc]
    refine ⟨fun hlow => by rw [if_pos hlow, unmapped], fun hhigh => ?_, fun hhost => by rw [if_pos hhost, camEvent]⟩
    rw [if_neg hhigh.not_gt]
    have hlen : firstLane s l < s.lanes.lane.length :=
      (Nat.sub_le _ _).trans_lt (lt_of_state_ne_disabled (by rw [(inState_iff.1 ha).2]; decide))
    exact ⟨_, rfl, laneOf_cxpHeader hlen stream vc, cxpHeader_frame l stream vc s (List.Subset.refl _) (Frame.refl _ s)⟩
  case piece =>
    rw [exec_cxpPacketReceived_taken ha, cxpPacket_scanLine hvc, cxpLine_uninjected hi]
    intro s0
    refine ⟨fun hout => ?_, fun hp hv => ?_⟩
    · have hno : (!isPixel format || decide (vcOf s l vc < 0x80)) = true := by rcases hout with h | h <;> simp [h]
      rw [hno]
      rfl
    · have hyes : (!isPixel format || decide (vcOf s l vc < 0x80)) = false := by simp [hp, hv]
      rw [hyes, if_neg Bool.false_ne_true]
      intro s1 image trig
      refine ⟨fun hnone => ?_, fun t ht => ⟨pieceSegment t first format samples good, ?_, rfl, rfl, rfl, rfl, rfl, rfl⟩⟩
      · have hpair : pairedTrigger (lineBegun (firstLane s l) stream first (pieceCounted l good s)) (firstLane s l) stream = none :=
          hnone
        simp only [hpair]
        rfl
      · have hpair : pairedTrigger (lineBegun (firstLane s l) stream first (pieceCounted l good s)) (firstLane s l) stream = some t :=
          ht
        simp only [hpair]
        rfl
  case aligned =>
    rw [exec_cxpAlignmentLoss, h]
    rfl
  case late =>
    rw [exec_controlReply ha, ctrlAnswer_late hnone]
  case waited =>
    rw [exec_controlReply ha, ctrlAnswer_waited hx hp]

end Sys2Proof.Machine
end

section
/-! PROOFS. LANE_CONFIG, LANE_ENABLE and LANE_UNRETIRE. -/

namespace Sys2Proof.Machine

open Sys2Proof

/-! ## LANE_CONFIG (04 R181) -/

/-- What a LANE_CONFIG cannot change on an enabled lane. -/
def LaneCfg.fixed (c : LaneCfg) : Bool × Nat × Nat × Nat × List Nat × List (Nat × Nat) × Nat :=
  (c.camram, c.rateMin, c.rateMax, c.group, c.vc, c.sid, c.tg)

theorem LaneCfg.fixed_eq_iff (c d : LaneCfg) :
    ({ c with crcLim := d.crcLim, trigMax := d.trigMax } : LaneCfg) = d ↔ c.fixed = d.fixed := by
  obtain ⟨camram, rateMin, rateMax, group, tg, crcLim, trigMax, vc, sid⟩ := d
  simp only [LaneCfg.fixed, LaneCfg.mk.injEq, Prod.mk.injEq, true_and]
  tauto

theorem exec_laneConfig_bad {r : Ref} {p : Packet} {s : State} (h : opStarts 0x0402 r p s = true) {off : Nat}
    (hbad : laneCfgBad s p.params = some off) : exec (.laneConfig r) s = .next (refuse p stBAD_PARAM off s) := by
  refine congrArg Host.Outcome.next ((runOp_starts h _).trans ?_)
  dsimp only
  rw [hbad]

theorem exec_laneConfig {r : Ref} {p : Packet} {s : State} (h : opStarts 0x0402 r p s = true)
    (hgood : laneCfgBad s p.params = none) : exec (.laneConfig r) s = .next (
      let l := fld p.params 0 1
      let c := laneCfgOf p.params
      if !(laneOf s l).enabled then ok p [] (modLane l (fun x => { x with cfg := c, crcNext := none }) s)
      else if ({ c with crcLim := (laneOf s l).cfg.crcLim, trigMax := (laneOf s l).cfg.trigMax } : LaneCfg) ≠ (laneOf s l).cfg then refuse p stDENIED noField s
      else ok p [] (modLane l (fun x => { x with cfg := { x.cfg with trigMax := c.trigMax }, crcNext := some c.crcLim }) s)) := by
  refine congrArg Host.Outcome.next ((runOp_starts h _).trans ?_)
  dsimp only
  rw [hgood]

/-! ## LANE_ENABLE (04 R182) -/

theorem forgetLane_state (x : Lane) : (forgetLane x).state = x.state := rfl

/-- A lane that is stopped is in the state it is stopped in. -/
theorem laneOf_stopLane {l : Nat} {s : State} (hl : l < s.lanes.lane.length) (dest : LaneState) (cause : Nat) :
    (laneOf (stopLane l dest cause s) l).state = dest := by
  have hstop : (stopLane l dest cause s).lanes = s.lanes.mod l fun x => (forgetLane x.cleared).enter dest 0
      (leaveActive l s).now := by
    have hgo : (goLane l dest 0 (modLane l forgetLane (leaveActive l s))).lanes = _ :=
      (Lanes.mod_mod l forgetLane _ _).trans ((congrArg (Lanes.mod l _) (leaveActive_lanes l s)).trans (Lanes.mod_mod l _ _ _))
    unfold stopLane
    dsimp only
    split
    · rw [noticeDown_lanes]
      exact hgo
    · exact hgo
  rw [laneOf_mod_self hstop hl]
  rfl

theorem enabled_iff {x : Lane} : x.enabled = true ↔ x.state ≠ .disabled ∧ x.state ≠ .retired := by simp [Lane.enabled]

theorem exec_laneEnable {r : Ref} {p : Packet} {s : State} (h : opStarts 0x0403 r p s = true) (hl : fld p.params 0 1 ≤ 23)
    (hdest : fld p.params 1 1 ≤ 2) : exec (.laneEnable r) s = .next (
      let l := fld p.params 0 1
      let x := laneOf s l
      if x.state = .retired then refuse p stRETIRED 0x20 s
      else if fld p.params 1 1 = 1 then
        if x.enabled && x.state != .test then ok p [] s
        else if !laneOn s l then refuse p stDENIED noField s
        else ok p [] (goDetect l (modLane l forgetLane s))
      else if x.enabled && laneUsed s l then refuse p stDENIED noField s
      else if fld p.params 1 1 = 0 then ok p [] (if x.enabled then stopLane l .disabled 3 s else s)
      else if !laneOn s l || laneUsed s l then refuse p stDENIED noField s
      else ok p [] (if x.state = .test then s else stopLane l .test 3 s)) := by
  refine congrArg Host.Outcome.next ((runOp_starts h _).trans ?_)
  dsimp only
  rw [if_neg hl.not_gt, if_neg hdest.not_gt]

section Enable

variable {r : Ref} {p : Packet} {s : State} (h : opStarts 0x0403 r p s = true) (hl : fld p.params 0 1 ≤ 23)
include h hl

theorem exec_laneEnable_retired (hdest : fld p.params 1 1 ≤ 2) (hret : (laneOf s (fld p.params 0 1)).state = .retired) :
    exec (.laneEnable r) s = .next (refuse p stRETIRED 0x20 s) := by
  rw [exec_laneEnable h hl hdest]
  exact congrArg Host.Outcome.next (if_pos hret)

section InService

variable (hret : (laneOf s (fld p.params 0 1)).state ≠ .retired)
include hret

theorem exec_laneEnable_enabled (hdest : fld p.params 1 1 = 1) (hen : (laneOf s (fld p.params 0 1)).enabled = true)
    (ht : (laneOf s (fld p.params 0 1)).state ≠ .test) : exec (.laneEnable r) s = .next (ok p [] s) := by
  rw [exec_laneEnable h hl (by omega)]
  simp [hret, hdest, hen, ht]

theorem exec_laneEnable_detect (hdest : fld p.params 1 1 = 1)
    (hst : (laneOf s (fld p.params 0 1)).state = .disabled ∨ (laneOf s (fld p.params 0 1)).state = .test)
    (hon : laneOn s (fld p.params 0 1) = true) : exec (.laneEnable r) s =
      .next (ok p [] (goDetect (fld p.params 0 1) (modLane (fld p.params 0 1) forgetLane s))) := by
  have hno : ((laneOf s (fld p.params 0 1)).enabled && (laneOf s (fld p.params 0 1)).state != .test) = false := by
    rcases hst with hst | hst <;> simp [Lane.enabled, hst]
  rw [exec_laneEnable h hl (by omega)]
  simp [hret, hdest, hno, hon]

theorem exec_laneEnable_used (hdest : fld p.params 1 1 = 0 ∨ fld p.params 1 1 = 2)
    (hen : (laneOf s (fld p.params 0 1)).enabled = true) (hu : laneUsed s (fld p.params 0 1) = true) :
    exec (.laneEnable r) s = .next (refuse p stDENIED noField s) := by
  have h1 : fld p.params 1 1 ≠ 1 := by omega
  rw [exec_laneEnable h hl (by omega)]
  simp [hret, h1, hen, hu]

theorem exec_laneEnable_disable (hdest : fld p.params 1 1 = 0)
    (hfree : (laneOf s (fld p.params 0 1)).enabled = false ∨ laneUsed s (fld p.params 0 1) = false) :
    exec (.laneEnable r) s = .next (ok p []
      (if (laneOf s (fld p.params 0 1)).enabled then stopLane (fld p.params 0 1) .disabled 3 s else s)) := by
  have hno : ((laneOf s (fld p.params 0 1)).enabled && laneUsed s (fld p.params 0 1)) = false := by
    rcases hfree with hf | hf <;> simp [hf]
  rw [exec_laneEnable h hl (by omega)]
  simp [hret, hdest, hno]

theorem exec_laneEnable_test (hdest : fld p.params 1 1 = 2) (hon : laneOn s (fld p.params 0 1) = true)
    (hu : laneUsed s (fld p.params 0 1) = false) : exec (.laneEnable r) s = .next (ok p []
      (if (laneOf s (fld p.params 0 1)).state = .test then s else stopLane (fld p.params 0 1) .test 3 s)) := by
  rw [exec_laneEnable h hl (by omega)]
  simp [hret, hdest, hon, hu]

end InService

end Enable

/-! ## LANE_UNRETIRE (04 R243) -/

/-- The state in which a retired lane's record is asked for and its history cleared. -/
def laneReturned (l : Nat) (s : State) : State := returned 1 l (wantRecord 3 (modLane l forgetLane s))

theorem laneReturned_boot (l : Nat) (s : State) : (laneReturned l s).boot.wanted.isSome = true :=
  wantRecord_wanted_isSome 3 (modLane l forgetLane s)

theorem laneReturned_upsets (l : Nat) (s : State) : ∀ u ∈ (laneReturned l s).flt.upsets, ¬(u.1 = 1 ∧ u.2.1 = l) := by
  intro u hu hmatch
  obtain ⟨-, hkeep⟩ := List.mem_filter.1 (hu : u ∈ s.flt.upsets.filter fun u => !(u.1 == 1 && u.2.1 == l))
  simp [hmatch] at hkeep

theorem goDetect_boot (l : Nat) (s : State) : (goDetect l s).boot = s.boot := rfl
theorem goDetect_flt (l : Nat) (s : State) : (goDetect l s).flt = s.flt := rfl

theorem exec_laneUnretire {r : Ref} {p : Packet} {s : State} (h : opStarts 0x0460 r p s = true) :
    exec (.laneUnretire r) s = .next (
      let l := fld p.params 0 1
      if 23 < l ∨ (laneOf s l).state ≠ .retired then refuse p stBAD_PARAM 0x20 s
      else ok p [] (if laneOn s l then goDetect l (laneReturned l s) else goLane l .disabled 0 (laneReturned l s))) :=
  congrArg Host.Outcome.next (runOp_starts h _)

/-- Settles O24: each opcode by its own equation above. -/
theorem laneConfiguration : Obligations.LaneConfiguration := by
  unfold Obligations.LaneConfiguration
  refine ⟨fun r p s h => ⟨fun off hbad => exec_laneConfig_bad h hbad, fun hgood => ?config⟩,
    fun r p s h hl => ⟨fun hret hdest => exec_laneEnable_retired h hl hdest hret, fun hret => ?enable⟩,
    fun r p s h hs hl => ⟨fun hst => ?inService, fun hst hon => ?unretire⟩⟩
  case config =>
    rw [exec_laneConfig h hgood]
    refine ⟨fun hen => ?_, fun hen hne => ?_, fun hen heq => ?_⟩
    · simp [hen]
    · dsimp only
      rw [hen, if_neg (by decide), if_pos (mt (LaneCfg.fixed_eq_iff _ _).1 hne)]
    · dsimp only
      rw [hen, if_neg (by decide), if_neg (not_not_intro ((LaneCfg.fixed_eq_iff _ _).2 heq))]
  case enable =>
    refine ⟨exec_laneEnable_enabled h hl hret, exec_laneEnable_detect h hl hret, exec_laneEnable_used h hl hret, ?_, ?_, ?_, ?_⟩
    · intro hdest hen
      rw [exec_laneEnable_disable h hl hret hdest (.inl hen), hen]
      rfl
    · intro hdest hen hu hs
      rw [exec_laneEnable_disable h hl hret hdest (.inr hu), if_pos hen]
      have hlen : fld p.params 0 1 < s.lanes.lane.length := by rw [hs.lanes]; omega
      exact ⟨_, rfl, laneOf_stopLane hlen .disabled 3⟩
    · intro hdest hst hon hu
      rw [exec_laneEnable_test h hl hret hdest hon hu, if_pos hst]
    · intro hdest hst hon hu hs
      rw [exec_laneEnable_test h hl hret hdest hon hu, if_neg hst]
      have hlen : fld p.params 0 1 < s.lanes.lane.length := by rw [hs.lanes]; omega
      exact ⟨_, rfl, laneOf_stopLane hlen .test 3⟩
  case inService =>
    rw [exec_laneUnretire h]
    exact congrArg Host.Outcome.next (if_pos (.inr hst))
  case unretire =>
    have hno : ¬ (23 < fld p.params 0 1 ∨ (laneOf s (fld p.params 0 1)).state ≠ .retired) := not_or.2 ⟨hl.not_gt, not_not_intro hst⟩
    refine ⟨goDetect (fld p.params 0 1) (laneReturned (fld p.params 0 1) s), ?_, ?_, ?_, ?_⟩
    · rw [exec_laneUnretire h]
      exact congrArg Host.Outcome.next ((if_neg hno).trans (congrArg (ok p []) (if_pos hon)))
    · rw [laneOf_mod_self (goDetect_lanes _ _)]
      · rfl
      · change _ < (modLane (fld p.params 0 1) forgetLane s).lanes.lane.length
        rw [modLane_length, hs.lanes]
        omega
    · rw [goDetect_boot]
      exact laneReturned_boot _ s
    · rw [goDetect_flt]
      exact laneReturned_upsets _ s

end Sys2Proof.Machine
end

section
/-! PROOFS. The test features: the pattern generator and the checker of a lane in TEST, LANE_PRBS, LANE_INJECT and LANE_LOOPBACK. -/

namespace Sys2Proof.Machine

open Sys2Proof

/-! ## One bit (04 R222 to R227) -/

/-- The next generator bit is an inverted one. -/
def Lane.injectsBit (x : Lane) : Bool :=
  x.injectNext || (x.inject.1 == 2 && decide (2 ^ x.inject.2.1 ≤ x.injectCount + 1))

theorem genBit_spec (x : Lane) : (genBit x).1 = (prbsNext x.prbs x.gen ^^ x.injectsBit) ∧
    (genBit x).2.ctr = if x.injectsBit then bumpAt x.ctr cINJECTED else x.ctr := by
  unfold genBit
  dsimp only
  split
  case isTrue h =>
    have hdue : x.injectsBit = true := h
    rw [hdue]
    exact ⟨(Bool.xor_true _).symm, rfl⟩
  case isFalse h =>
    have hdue : x.injectsBit = false := eq_false_of_ne_true h
    rw [hdue]
    exact ⟨(Bool.xor_false _).symm, rfl⟩

theorem checkBit_seeking {x : Lane} (h : x.prbsLock = false) (b : Bool) : checkBit x b = seekBit x b := by
  rw [checkBit, h, if_neg Bool.false_ne_true]

theorem checkBit_locked {x : Lane} (h : x.prbsLock = true) (b : Bool) : checkBit x b = freeBit x b := by
  rw [checkBit, if_pos h]

theorem seekBit_locks_iff (x : Lane) (b : Bool) :
    (seekBit x b).prbsLock = true ↔ b = prbsNext x.prbs x.chk ∧ x.chkRun = 63 := by
  unfold seekBit
  dsimp only
  split <;> simp [*]

theorem freeBit_bits (x : Lane) (b : Bool) : (freeBit x b).bits = x.bits + 1 := by
  unfold freeBit
  dsimp only
  split <;> rfl

theorem freeBit_errs (x : Lane) (b : Bool) : (freeBit x b).errs = add48 x.errs (b2n (b != prbsNext x.prbs x.chk)) := by
  unfold freeBit
  dsimp only
  split <;> rfl

/-- The 256th error of a block ends the lock and is counted (04 R224). -/
theorem freeBit_of_full {x : Lane} {b : Bool} (h : 256 ≤ x.chkBlock.2 + b2n (b != prbsNext x.prbs x.chk)) :
    (freeBit x b).prbsLock = false ∧ (freeBit x b).ctr = bumpAt x.ctr cPRBSLOSS := by
  unfold freeBit
  dsimp only
  rw [if_pos h]
  exact ⟨rfl, rfl⟩

theorem freeBit_of_room {x : Lane} {b : Bool} (h : ¬ 256 ≤ x.chkBlock.2 + b2n (b != prbsNext x.prbs x.chk)) :
    (freeBit x b).prbsLock = x.prbsLock := by
  unfold freeBit
  dsimp only
  rw [if_neg h]

/-- What one received bit does to the checker (04 R224). -/
theorem checkBit_spec (x : Lane) (b : Bool) :
    (x.prbsLock = false → (checkBit x b).bits = x.bits ∧ (checkBit x b).errs = x.errs ∧
      ((checkBit x b).prbsLock = true ↔ b = prbsNext x.prbs x.chk ∧ x.chkRun = 63)) ∧
    (x.prbsLock = true → (checkBit x b).bits = x.bits + 1 ∧
      (checkBit x b).errs = min (2 ^ 48 - 1) (x.errs + b2n (b != prbsNext x.prbs x.chk)) ∧
      ((checkBit x b).prbsLock = false ↔ 256 ≤ x.chkBlock.2 + b2n (b != prbsNext x.prbs x.chk))) := by
  refine ⟨fun h => ?_, fun h => ?_⟩
  · rw [checkBit_seeking h]
    exact ⟨rfl, rfl, seekBit_locks_iff x b⟩
  · rw [checkBit_locked h]
    refine ⟨freeBit_bits x b, freeBit_errs x b, fun hlost => ?_, fun hfull => (freeBit_of_full hfull).1⟩
    by_contra hroom
    rw [freeBit_of_room hroom, h] at hlost
    cases hlost

/-! ## A lane in TEST, and its pair (04 R222 to R228) -/

@[simp] theorem sendTest_lanes (l : Nat) (b : List Bool) (s : State) : (sendTest l b s).lanes = s.lanes := by
  unfold sendTest
  split <;> rfl

/-- What a lane in TEST sends over `n` bit times, and the lane then. -/
def Lane.generated (n : Nat) (x : Lane) : List Bool × Lane := if x.generating then genBits n x else ([], x)

/-- A lane in TEST after the bits of `line`. -/
def Lane.tested (line : List Bool) (x : Lane) : Lane :=
  if x.checking then (if x.loopback = 1 then (x.generated line.length).1 else line).foldl checkBit (x.generated line.length).2
  else (x.generated line.length).2

theorem testLine_of_not_test {l : Nat} {s : State} (h : (laneOf s l).state ≠ .test) (line : List Bool) : testLine l line s = s :=
  if_pos h

theorem testLine_lanes {l : Nat} {s : State} (h : (laneOf s l).state = .test) (line : List Bool) :
    (testLine l line s).lanes = s.lanes.mod l fun _ => (laneOf s l).tested line := by
  unfold testLine Lane.tested
  dsimp only
  rw [if_neg (not_not_intro h), ← Lane.generated]
  generalize (laneOf s l).generated line.length = g
  obtain ⟨sent, y⟩ := g
  dsimp only
  split_ifs <;> simp

theorem laneOf_testLine {l : Nat} {s : State} (h : (laneOf s l).state = .test) (line : List Bool) :
    laneOf (testLine l line s) l = (laneOf s l).tested line :=
  laneOf_mod_self (f := fun _ => (laneOf s l).tested line) (testLine_lanes h line) (lt_of_state_ne_disabled (by simp [h]))

theorem laneOf_testLine_ne {l m : Nat} (hm : m ≠ l) (line : List Bool) (s : State) :
    laneOf (testLine l line s) m = laneOf s m := by
  by_cases h : (laneOf s l).state = .test
  · exact laneOf_mod_ne (testLine_lanes h line) hm
  · rw [testLine_of_not_test h]

@[simp] theorem testLine_length (l : Nat) (line : List Bool) (s : State) :
    (testLine l line s).lanes.lane.length = s.lanes.lane.length := by
  by_cases h : (laneOf s l).state = .test
  · rw [testLine_lanes h]
    exact List.length_modify ..
  · rw [testLine_of_not_test h]

/-- A checker without a generator takes what the coax brings. -/
theorem Lane.tested_checking {x : Lane} (hc : x.checking = true) (hb : x.loopback ≠ 1) (hg : x.generating = false)
    (line : List Bool) : x.tested line = line.foldl checkBit x := by
  simp [Lane.tested, Lane.generated, hc, hb, hg]

theorem Lane.checking_state {x : Lane} (h : x.checking = true) : x.state = .test := by
  simp only [Lane.checking, Bool.and_eq_true, beq_iff_eq] at h
  exact h.1

theorem laneOf_testLine_checking {l : Nat} {s : State} (hc : (laneOf s l).checking = true) (hb : (laneOf s l).loopback ≠ 1)
    (hg : (laneOf s l).generating = false) (line : List Bool) :
    laneOf (testLine l line s) l = line.foldl checkBit (laneOf s l) := by
  rw [laneOf_testLine (Lane.checking_state hc), Lane.tested_checking hc hb hg]

theorem loopPartner_ne (l : Nat) : loopPartner l ≠ l := by
  unfold loopPartner
  split <;> omega

theorem laneOf_testPair (l : Nat) (line other : List Bool) (s : State) :
    laneOf (testPair l line other s) l = laneOf (testLine l line s) l :=
  laneOf_testLine_ne (loopPartner_ne l).symm other _

theorem testPair_alone {l : Nat} {s : State} (h : (laneOf s (loopPartner l)).state ≠ .test) (line other : List Bool) :
    testPair l line other s = testLine l line s :=
  testLine_of_not_test (by rwa [laneOf_testLine_ne (loopPartner_ne l)]) other

theorem testPair_length (l : Nat) (line other : List Bool) (s : State) :
    (testPair l line other s).lanes.lane.length = s.lanes.lane.length := by
  rw [testPair, testLine_length, testLine_length]

section Checker

variable {l : Nat} {s : State} (hc : (laneOf s l).checking = true) (hb : (laneOf s l).loopback ≠ 1)
  (hg : (laneOf s l).generating = false)
include hc hb hg

/-- The 64th successive bit that matches locks the checker (04 R224). -/
theorem testPair_locks (hseek : (laneOf s l).prbsLock = false) (hrun : (laneOf s l).chkRun = 63) (other : List Bool) :
    (laneOf (testPair l [prbsNext (laneOf s l).prbs (laneOf s l).chk] other s) l).prbsLock = true := by
  rw [laneOf_testPair, laneOf_testLine_checking hc hb hg, List.foldl_cons, List.foldl_nil, checkBit_seeking hseek]
  exact (seekBit_locks_iff _ _).2 ⟨rfl, hrun⟩

/-- The 256th error of a block loses lock (04 R224). -/
theorem testPair_loses (hlock : (laneOf s l).prbsLock = true) (herrs : 255 ≤ (laneOf s l).chkBlock.2) (other : List Bool) :
    let u := testPair l [!prbsNext (laneOf s l).prbs (laneOf s l).chk] other s
    (laneOf u l).prbsLock = false ∧ (laneOf u l).ctr = bumpAt (laneOf s l).ctr cPRBSLOSS := by
  dsimp only
  rw [laneOf_testPair, laneOf_testLine_checking hc hb hg, List.foldl_cons, List.foldl_nil, checkBit_locked hlock]
  refine freeBit_of_full ?_
  have hone : b2n ((!prbsNext (laneOf s l).prbs (laneOf s l).chk) != prbsNext (laneOf s l).prbs (laneOf s l).chk) = 1 := by
    cases prbsNext (laneOf s l).prbs (laneOf s l).chk <;> rfl
  rw [hone]
  omega

end Checker

theorem exec_prbsCheckerLock (l : Nat) (line other : List Bool) (s : State) :
    exec (.prbsCheckerLock ⟨l, line, other⟩) s = .next (testPair l line other s) := rfl

theorem exec_prbsLockLoss (l : Nat) (line other : List Bool) (s : State) :
    exec (.prbsLockLoss l line other) s = .next (testPair l line other s) := rfl

/-! ## LANE_PRBS (04 R222, R229) -/

/-- LOCK, LANE_BITS and LANE_ERRS as LANE_PRBS answers them (15 Table 15.7). -/
def prbsBytes (x : Lane) : Bytes := le1 (b2n x.prbsLock) ++ List.replicate 3 0 ++ le8 x.bits.toNat ++ le8 x.errs

/-- A new run is read as no lock, no bits and no errors. -/
theorem prbsBytes_of_new {x : Lane} (hlock : x.prbsLock = false) (hbits : x.bits = 0) (herrs : x.errs = 0) :
    prbsBytes x = List.replicate 20 0 := by
  rw [prbsBytes, hlock, hbits, herrs]
  rfl

/-- The state in which LANE_PRBS has been carried out on the parameters `b`. -/
def prbsDone (b : Bytes) (line other : List Bool) (s : State) : State :=
  modLane (fld b 0 1) (prbsAct (fld b 1 1) (fld b 2 1) (fld b 3 1)) (testPair (fld b 0 1) line other s)

section Prbs

variable {r : Ref} {p : Packet} {s : State} (h : opStarts 0x0430 r p s = true) (hl : fld p.params 0 1 ≤ 23)
  (hpat : fld p.params 1 1 ∈ [7, 15, 23, 31]) (hlow : 1 ≤ fld p.params 2 1)
  (hhigh : fld p.params 2 1 ≤ topRate (laneOf s (fld p.params 0 1)).cfg.camram) (hact : fld p.params 3 1 ≤ 3)
include h hl hpat hlow hhigh hact

theorem exec_lanePrbs (line other : List Bool) : exec (.lanePrbs r line other) s = .next (
    if (laneOf s (fld p.params 0 1)).state ≠ .test then refuse p stDENIED noField s
    else ok p (prbsBytes (laneOf (prbsDone p.params line other s) (fld p.params 0 1))) (prbsDone p.params line other s)) := by
  have hknown : [7, 15, 23, 31].contains (fld p.params 1 1) = true := List.contains_iff_mem.2 hpat
  refine congrArg Host.Outcome.next ((runOp_starts h _).trans ?_)
  dsimp only
  rw [hknown, if_neg hl.not_gt, if_neg (by decide), if_neg (not_or.2 ⟨hlow.not_gt, hhigh.not_gt⟩), if_neg hact.not_gt]
  rfl

theorem exec_lanePrbs_denied (ht : (laneOf s (fld p.params 0 1)).state ≠ .test) (line other : List Bool) :
    exec (.lanePrbs r line other) s = .next (refuse p stDENIED noField s) := by
  rw [exec_lanePrbs h hl hpat hlow hhigh hact, if_pos ht]

theorem exec_lanePrbs_test (ht : (laneOf s (fld p.params 0 1)).state = .test) (line other : List Bool) :
    exec (.lanePrbs r line other) s = .next (ok p (prbsBytes (laneOf (prbsDone p.params line other s) (fld p.params 0 1)))
      (prbsDone p.params line other s)) := by
  rw [exec_lanePrbs h hl hpat hlow hhigh hact, if_neg (not_not_intro ht)]

end Prbs

theorem laneOf_prbsDone {b : Bytes} {s : State} (ht : (laneOf s (fld b 0 1)).state = .test) (line other : List Bool) :
    laneOf (prbsDone b line other s) (fld b 0 1) =
      prbsAct (fld b 1 1) (fld b 2 1) (fld b 3 1) (laneOf (testLine (fld b 0 1) line s) (fld b 0 1)) := by
  have hlen : fld b 0 1 < (testPair (fld b 0 1) line other s).lanes.lane.length := by
    rw [testPair_length]
    exact lt_of_state_ne_disabled (by simp [ht])
  rw [prbsDone, laneOf_modLane_self _ _ _ hlen, laneOf_testPair]

theorem prbsDone_frame (b : Bytes) (line other : List Bool) (s : State) : Frame [.emitted, .lanes] s (prbsDone b line other s) :=
  modLane_frame _ _ _ (by decide) (testPair_frame _ _ _ _ (List.Subset.refl _) (Frame.refl _ s))

/-- A lane on which a pattern is started. -/
theorem prbsAct_start {act : Nat} (h : act = 1 ∨ act = 2) (pat rate : Nat) (x : Lane) : prbsAct pat rate act x = { x with
    prbs := pat, prbsRate := rate, prbsAction := act, gen := Config.prbsSeed pat, prbsLock := false, chkRun := 0
    chkBlock := (0, 0), bits := 0, errs := 0 } := by
  rcases h with rfl | rfl <;> rfl

theorem prbsDone_read {b : Bytes} (h : fld b 3 1 = 3) (line other : List Bool) (s : State) :
    prbsDone b line other s = testPair (fld b 0 1) line other s := by
  rw [prbsDone, h]
  exact modLane_of_fixed rfl

/-- LANE_PRBS, by its ACTION (15 Table 15.7). -/
theorem lanePrbs_cases {r : Ref} {p : Packet} {s : State} (line other : List Bool) (h : opStarts 0x0430 r p s = true)
    (hl : fld p.params 0 1 ≤ 23) (hpat : fld p.params 1 1 ∈ [7, 15, 23, 31]) (hlow : 1 ≤ fld p.params 2 1)
    (hhigh : fld p.params 2 1 ≤ topRate (laneOf s (fld p.params 0 1)).cfg.camram) (hact : fld p.params 3 1 ≤ 3) :
    let l := fld p.params 0 1
    ((laneOf s l).state = .test → fld p.params 3 1 = 1 ∨ fld p.params 3 1 = 2 →
      ∃ s', exec (.lanePrbs r line other) s = .next (ok p (List.replicate 20 0) s') ∧
        (laneOf s' l).prbs = fld p.params 1 1 ∧ (laneOf s' l).prbsRate = fld p.params 2 1 ∧ (laneOf s' l).prbsAction = fld p.params 3 1 ∧
        (laneOf s' l).prbsLock = false ∧ (laneOf s' l).bits = 0 ∧ (laneOf s' l).errs = 0 ∧ Frame [.emitted, .lanes] s s') ∧
    ((laneOf s l).state = .test → fld p.params 3 1 = 3 → exec (.lanePrbs r line other) s = .next (ok p (prbsBytes (laneOf (testLine l line s) l))
      (testPair l line other s))) ∧
    ((laneOf s l).state = .test → fld p.params 3 1 = 0 → ∃ res s', exec (.lanePrbs r line other) s = .next (ok p res s') ∧
      (laneOf s' l).checking = false ∧ (laneOf s' l).generating = false ∧ (laneOf s' l).prbsLock = false) := by
  refine ⟨fun ht hstart => ?_, fun ht hread => ?_, fun ht hstop => ?_⟩
  · have hexec := exec_lanePrbs_test h hl hpat hlow hhigh hact ht line other
    have hlane := laneOf_prbsDone ht line other
    rw [prbsAct_start hstart] at hlane
    rw [prbsBytes_of_new (by rw [hlane]) (by rw [hlane]) (by rw [hlane])] at hexec
    refine ⟨prbsDone p.params line other s, hexec, ?_⟩
    rw [hlane]
    exact ⟨rfl, rfl, rfl, rfl, rfl, rfl, prbsDone_frame _ _ _ _⟩
  · rw [exec_lanePrbs_test h hl hpat hlow hhigh hact ht, prbsDone_read hread, laneOf_testPair]
  · have hlane := laneOf_prbsDone ht line other
    rw [hstop] at hlane
    refine ⟨_, _, exec_lanePrbs_test h hl hpat hlow hhigh hact ht line other, ?_⟩
    rw [hlane]
    simp [prbsAct, Lane.checking, Lane.generating]

/-! ## LANE_INJECT and LANE_LOOPBACK (04 R225, R226, R228) -/

section Inject

variable {r : Ref} {p : Packet} {s : State} (h : opStarts 0x0431 r p s = true) (hl : fld p.params 0 1 ≤ 23)
  (hmode : fld p.params 1 1 ≤ 3) (hexp : fld p.params 1 1 = 2 → 10 ≤ fld p.params 2 1 ∧ fld p.params 2 1 ≤ 40)
  (hnum : fld p.params 1 1 = 3 → 1 ≤ fld p.params 4 2)
include h hl hmode hexp hnum

theorem exec_laneInject : exec (.laneInject r) s = .next (
    let l := fld p.params 0 1
    let m := fld p.params 1 1
    if (m = 1 ∨ m = 2) ∧ (laneOf s l).state ≠ .test then refuse p stDENIED noField s
    else if m = 3 ∧ (laneOf s l).state ≠ .active then refuse p stDENIED noField s
    else ok p [] (modLane l (fun x => { x with
      inject := (m, fld p.params 2 1, fld p.params 4 2), injectCount := 0, injectNext := m == 1 && x.generating }) s)) := by
  refine congrArg Host.Outcome.next ((runOp_starts h _).trans ?_)
  dsimp only
  rw [if_neg hl.not_gt, if_neg hmode.not_gt, if_neg (by omega), if_neg (by omega)]

theorem exec_laneInject_denied (hstate : (fld p.params 1 1 = 1 ∨ fld p.params 1 1 = 2) ∧ (laneOf s (fld p.params 0 1)).state ≠ .test ∨
    fld p.params 1 1 = 3 ∧ (laneOf s (fld p.params 0 1)).state ≠ .active) :
    exec (.laneInject r) s = .next (refuse p stDENIED noField s) := by
  rw [exec_laneInject h hl hmode hexp hnum]
  dsimp only
  rcases hstate with hgen | hpkt
  · rw [if_pos hgen]
  · rw [if_neg (by omega), if_pos hpkt]

theorem exec_laneInject_set (hgen : fld p.params 1 1 = 1 ∨ fld p.params 1 1 = 2 → (laneOf s (fld p.params 0 1)).state = .test)
    (hpkt : fld p.params 1 1 = 3 → (laneOf s (fld p.params 0 1)).state = .active) : exec (.laneInject r) s =
      .next (ok p [] (modLane (fld p.params 0 1) (fun x => { x with
        inject := (fld p.params 1 1, fld p.params 2 1, fld p.params 4 2), injectCount := 0
        injectNext := fld p.params 1 1 == 1 && x.generating }) s)) := by
  rw [exec_laneInject h hl hmode hexp hnum]
  dsimp only
  rw [if_neg fun hno => hno.2 (hgen hno.1), if_neg fun hno => hno.2 (hpkt hno.1)]

end Inject

section Loopback

variable {r : Ref} {p : Packet} {s : State} (h : opStarts 0x0432 r p s = true) (hl : fld p.params 0 1 ≤ 23)
  (hkind : fld p.params 1 1 ≤ 2)
include h hl hkind

theorem exec_laneLoopback : exec (.laneLoopback r) s = .next (
    let l := fld p.params 0 1
    if (laneOf s l).state ≠ .test then refuse p stDENIED noField s
    else if fld p.params 1 1 = 2 ∧ (laneOf s (loopPartner l)).state ≠ .test then refuse p stDENIED noField s
    else ok p [] (modLane l (fun x => { x with loopback := fld p.params 1 1 }) s)) := by
  refine congrArg Host.Outcome.next ((runOp_starts h _).trans ?_)
  dsimp only
  rw [if_neg hl.not_gt, if_neg hkind.not_gt]

theorem exec_laneLoopback_denied (hstate : (laneOf s (fld p.params 0 1)).state ≠ .test ∨
    (fld p.params 1 1 = 2 ∧ (laneOf s (loopPartner (fld p.params 0 1))).state ≠ .test)) :
    exec (.laneLoopback r) s = .next (refuse p stDENIED noField s) := by
  rw [exec_laneLoopback h hl hkind]
  dsimp only
  by_cases ht : (laneOf s (fld p.params 0 1)).state = .test
  · rw [if_neg (not_not_intro ht), if_pos (hstate.resolve_left (not_not_intro ht))]
  · rw [if_pos ht]

theorem exec_laneLoopback_set (ht : (laneOf s (fld p.params 0 1)).state = .test)
    (hpartner : fld p.params 1 1 = 2 → (laneOf s (loopPartner (fld p.params 0 1))).state = .test) : exec (.laneLoopback r) s =
      .next (ok p [] (modLane (fld p.params 0 1) (fun x => { x with loopback := fld p.params 1 1 }) s)) := by
  rw [exec_laneLoopback h hl hkind]
  dsimp only
  rw [if_neg (not_not_intro ht), if_neg fun hno => hno.2 (hpartner hno.1)]

end Loopback

end Sys2Proof.Machine
end

section
/-! PROOFS. The eye scan: LANE_EYESCAN, its points, and its end. -/

namespace Sys2Proof.Machine

open Sys2Proof

/-! ## The end of a scan (04 R234, R235) -/

theorem eyeBytes_length (l : Nat) (e : EyeScan) (aborted : Bool) (w : Word) :
    (eyeBytes l e aborted w).length = 32 + 4 * (e.phCount * e.vCount) := by
  delta eyeBytes
  simp [eyePoints, List.length_flatMap]
  omega

theorem endEye_reply {l : Nat} {s : State} {e : EyeScan} {p : Packet} (he : (laneOf s l).eye = some e)
    (hp : findP e.ref s = some p) (aborted : Bool) :
    endEye l aborted s = doneLater p stOK (eyeBytes l e aborted (spos s)) (modLane l Lane.noEye s) := by
  have hkept : findP e.ref (modLane l (fun x => { x with eye := none }) s) = some p := hp
  unfold endEye
  rw [he]
  dsimp only
  rw [hkept]
  rfl

/-- A scan that has ended is waited for no more. -/
theorem findP_endEye {l : Nat} {s : State} {e : EyeScan} (he : (laneOf s l).eye = some e) (aborted : Bool) :
    findP e.ref (endEye l aborted s) = none := by
  cases hp : findP e.ref s with
  | some p =>
    rw [endEye_reply he hp, ← findP_ref hp]
    exact findP_finish ..
  | none =>
    have hkept : findP e.ref (modLane l (fun x => { x with eye := none }) s) = none := hp
    unfold endEye
    rw [he]
    dsimp only
    rw [hkept]
    exact hkept

/-! ## LANE_EYESCAN (04 R231 to R235) -/

/-- The scan that the packet asks for. -/
def scanOf (p : Packet) (s : State) : EyeScan :=
  let b := p.params
  let x := laneOf s (fld b 0 1)
  { ref := p.ref, bitsExp := fld b 1 1, phMin := BitVec.ofNat 8 (fld b 2 1), phStep := fld b 3 1, phCount := fld b 4 1
    vMin := BitVec.ofNat 8 (fld b 5 1), vStep := fld b 6 1, vCount := fld b 7 1, sposStart := spos s
    ctle := getI x.eq 0 0, vga := getI x.eq 1 0, dfe1 := getI x.eq 2 0, rate := x.rate, counts := [] }

/-- A lane on which a scan runs. -/
def Lane.scan (e : EyeScan) (x : Lane) : Lane := { x with eye := some e }

/-- The state in which the scan has begun. -/
def scanBegun (p : Packet) (s : State) : State := modLane (fld p.params 0 1) (Lane.scan (scanOf p s)) (commitP p.ref s)

section Begin

variable {r : Ref} {p : Packet} {s : State} (h : opStarts 0x0440 r p s = true) (hl : fld p.params 0 1 ≤ 23)
include h hl

theorem exec_laneEyescan_cxp (hc : (laneOf s (fld p.params 0 1)).cfg.camram = false) :
    exec (.laneEyescan r) s = .next (refuse p stBAD_PARAM 0x20 s) := by
  refine congrArg Host.Outcome.next ((runOp_starts h _).trans ?_)
  dsimp only
  rw [hc, if_neg hl.not_gt, if_pos (by decide)]

variable (hc : (laneOf s (fld p.params 0 1)).cfg.camram = true)
include hc

theorem exec_laneEyescan_bad {off : Nat} (hbad : eyeBad p.params = some off) :
    exec (.laneEyescan r) s = .next (refuse p stBAD_PARAM off s) := by
  refine congrArg Host.Outcome.next ((runOp_starts h _).trans ?_)
  dsimp only
  rw [hc, if_neg hl.not_gt, if_neg (by decide), hbad]

theorem exec_laneEyescan (hgood : eyeBad p.params = none) : exec (.laneEyescan r) s = .next (
    if eyeBusy s (fld p.params 0 1) then refuse p stBUSY noField s
    else if (laneOf s (fld p.params 0 1)).state = .active then scanBegun p s
    else endEye (fld p.params 0 1) true (scanBegun p s)) := by
  refine congrArg Host.Outcome.next ((runOp_starts h _).trans ?_)
  dsimp only
  rw [hc, if_neg hl.not_gt, if_neg (by decide), hgood]
  rfl

end Begin

theorem laneOf_scanBegun {p : Packet} {s : State} (hlen : fld p.params 0 1 < s.lanes.lane.length) :
    laneOf (scanBegun p s) (fld p.params 0 1) = (laneOf s (fld p.params 0 1)).scan (scanOf p s) :=
  laneOf_modLane_self (commitP p.ref s) _ _ hlen

theorem scanBegun_frame (p : Packet) (s : State) : Frame [.kw, .lanes] s (scanBegun p s) :=
  modLane_frame _ _ _ (by decide) (commitP_frame _ _ (by decide) (Frame.refl _ s))

/-- LANE_EYESCAN: it starts on an ACTIVE lane, and ends at once on another (04 R231). -/
theorem laneEyescan_cases {r : Ref} {p : Packet} {s : State} (h : opStarts 0x0440 r p s = true) (hl : fld p.params 0 1 ≤ 23)
    (hc : (laneOf s (fld p.params 0 1)).cfg.camram = true) (hgood : eyeBad p.params = none)
    (hfree : eyeBusy s (fld p.params 0 1) = false) (hlen : fld p.params 0 1 < s.lanes.lane.length) :
    ((laneOf s (fld p.params 0 1)).state = .active → ∃ u e, exec (.laneEyescan r) s = .next u ∧
      (laneOf u (fld p.params 0 1)).eye = some e ∧ e.ref = p.ref ∧ e.bitsExp = fld p.params 1 1 ∧ e.counts = [] ∧
      Frame [.kw, .lanes] s u) ∧
    ((laneOf s (fld p.params 0 1)).state ≠ .active → ∃ u, exec (.laneEyescan r) s = .next u ∧
      (laneOf u (fld p.params 0 1)).eye = none ∧ findP p.ref u = none) := by
  have hexec := exec_laneEyescan h hl hc hgood
  rw [hfree, if_neg Bool.false_ne_true] at hexec
  have heye : (laneOf (scanBegun p s) (fld p.params 0 1)).eye = some (scanOf p s) := by
    rw [laneOf_scanBegun hlen]
    rfl
  refine ⟨fun ha => ?_, fun ha => ?_⟩
  · rw [if_pos ha] at hexec
    exact ⟨_, scanOf p s, hexec, heye, rfl, rfl, rfl, scanBegun_frame p s⟩
  · rw [if_neg ha] at hexec
    refine ⟨_, hexec, ?_, findP_endEye heye true⟩
    rw [laneOf_mod_self (endEye_lanes _ true _) (by rwa [scanBegun, modLane_length])]
    rfl

/-! ## EYESCAN_DONE (04 R232, R234) -/

/-- A lane whose scan has measured more points. -/
def Lane.measure (counts : List Nat) (x : Lane) : Lane := { x with eye := x.eye.map (addPoints counts) }

theorem exec_eyescanDone {l : Nat} {s : State} (ha : (laneOf s l).state = .active) (counts : List Nat) :
    exec (.eyescanDone l counts) s = .next (
      if (laneOf (modLane l (Lane.measure counts) s) l).eye.any fun e => e.counts.length == eyePoints e
      then endEye l false (modLane l (Lane.measure counts) s) else modLane l (Lane.measure counts) s) :=
  congrArg Host.Outcome.next (if_pos ha)

/-- The next points of a scan: it ends with the last of them (04 R234). -/
theorem eyescanDone_cases {l : Nat} {counts : List Nat} {s : State} {e : EyeScan} {p : Packet}
    (ha : (laneOf s l).state = .active) (he : (laneOf s l).eye = some e) (hp : findP e.ref s = some p) :
    let e' := addPoints counts e
    (e'.counts.length = eyePoints e' → ∃ res s', exec (.eyescanDone l counts) s = .next (doneLater p stOK res s') ∧
      (laneOf s' l).eye = none ∧ res.length = 32 + 4 * (e.phCount * e.vCount) ∧ Frame [.lanes] s s') ∧
    (e'.counts.length ≠ eyePoints e' → ∃ u, exec (.eyescanDone l counts) s = .next u ∧ (laneOf u l).eye = some e' ∧
      Frame [.lanes] s u) := by
  intro e'
  have hlen : l < s.lanes.lane.length := lt_of_state_ne_disabled (by simp [ha])
  have heye : (laneOf (modLane l (Lane.measure counts) s) l).eye = some e' := by
    rw [laneOf_modLane_self s l _ hlen, Lane.measure, he]
    rfl
  have hframe : Frame [.lanes] s (modLane l (Lane.measure counts) s) := modLane_frame _ _ _ (by decide) (Frame.refl _ s)
  have hexec := exec_eyescanDone ha counts
  rw [heye, Option.any_some] at hexec
  refine ⟨fun hfull => ?_, fun hmore => ?_⟩
  · rw [if_pos (beq_iff_eq.2 hfull), endEye_reply heye (p := p) hp] at hexec
    refine ⟨_, _, hexec, ?_, eyeBytes_length l e' false _, modLane_frame _ _ _ (by decide) hframe⟩
    rw [laneOf_modLane_self _ _ _ (by rwa [modLane_length])]
    rfl
  · rw [if_neg (mt beq_iff_eq.1 hmore)] at hexec
    exact ⟨_, hexec, heye, hframe⟩

end Sys2Proof.Machine
end

section
/-! PROOFS. The equalisers: an adaptation and LANE_EQ_BOUNDS. -/

namespace Sys2Proof.Machine

open Sys2Proof

theorem clampI_bounds {lo hi : Int} (h : lo ≤ hi) (v : Int) : lo ≤ clampI lo hi v ∧ clampI lo hi v ≤ hi := by
  unfold clampI
  omega

/-! ## An adaptation (04 R236, R238) -/

/-- A lane whose parameter `i` moves to the proposed value, within its bounds. -/
def Lane.adapt (i : Nat) (v : Int) (x : Lane) : Lane :=
  { x with eq := upd x.eq i fun _ => clampI (getI x.eqMin i 0) (getI x.eqMax i 0) v
           pinned := x.pinned || decide (v < getI x.eqMin i 0) || decide (getI x.eqMax i 0 < v) }

/-- A lane whose PINNED begins anew. -/
def Lane.unpin (x : Lane) : Lane := { x with pinned := false }

/-- A lane with other times of its last LOOP_PINNED. -/
def Lane.noticed (n : List (Option Nat)) (x : Lane) : Lane := { x with eqNotice := n }

theorem Lane.adapt_noticed (i : Nat) (v : Int) (n : List (Option Nat)) (x : Lane) :
    (x.noticed n).adapt i v = (x.adapt i v).noticed n := rfl

theorem Lane.noticed_noticed (m n : List (Option Nat)) (x : Lane) : (x.noticed m).noticed n = x.noticed n := rfl

@[simp] theorem Lane.noticed_eq (n : List (Option Nat)) (x : Lane) : (x.noticed n).eq = x.eq := rfl
@[simp] theorem Lane.noticed_pinned (n : List (Option Nat)) (x : Lane) : (x.noticed n).pinned = x.pinned := rfl
@[simp] theorem Lane.noticed_eqMin (n : List (Option Nat)) (x : Lane) : (x.noticed n).eqMin = x.eqMin := rfl
@[simp] theorem Lane.noticed_eqMax (n : List (Option Nat)) (x : Lane) : (x.noticed n).eqMax = x.eqMax := rfl
@[simp] theorem Lane.adapt_eqMin (i : Nat) (v : Int) (x : Lane) : (x.adapt i v).eqMin = x.eqMin := rfl
@[simp] theorem Lane.adapt_eqMax (i : Nat) (v : Int) (x : Lane) : (x.adapt i v).eqMax = x.eqMax := rfl
@[simp] theorem Lane.unpin_eqMin (x : Lane) : x.unpin.eqMin = x.eqMin := rfl
@[simp] theorem Lane.unpin_eqMax (x : Lane) : x.unpin.eqMax = x.eqMax := rfl

/-- The notice of a pinned parameter changes the time of its last notice alone. -/
theorem laneOf_eqPinned (l i : Nat) (upper : Bool) {s : State} (hl : l < s.lanes.lane.length) :
    ∃ n, laneOf (eqPinned l i upper s) l = (laneOf s l).noticed n := by
  unfold eqPinned
  split
  · exact ⟨upd (laneOf s l).eqNotice i fun _ => some s.now,
      (laneOf_congr (noticeUnit_lanes ..) l).trans (laneOf_modLane_self s l _ hl)⟩
  · exact ⟨(laneOf s l).eqNotice, rfl⟩

theorem laneOf_adaptOne {l : Nat} {s : State} (hl : l < s.lanes.lane.length) (i : Nat) (v : Int) :
    ∃ n, laneOf (adaptOne l i v s) l = ((laneOf s l).adapt i v).noticed n := by
  let lo := getI (laneOf s l).eqMin i 0
  let hi := getI (laneOf s l).eqMax i 0
  let s1 := modLane l (fun x => { x with eq := upd x.eq i fun _ => clampI lo hi v
                                         pinned := x.pinned || decide (v < lo) || decide (hi < v) }) s
  have hs1 : laneOf s1 l = (laneOf s l).adapt i v := laneOf_modLane_self s l _ hl
  have hlen : l < s1.lanes.lane.length := (modLane_length s l _).symm ▸ hl
  have hpin (upper : Bool) : ∃ n, laneOf (eqPinned l i upper s1) l = ((laneOf s l).adapt i v).noticed n := by
    rw [← hs1]
    exact laneOf_eqPinned l i upper hlen
  unfold adaptOne
  dsimp only
  split
  · exact hpin false
  split
  · exact hpin true
  · exact ⟨(laneOf s l).eqNotice, hs1⟩

theorem adaptOne_length (l i : Nat) (v : Int) (s : State) (m : Nat) (hm : s.lanes.lane.length = m) :
    (adaptOne l i v s).lanes.lane.length = m := by
  unfold adaptOne eqPinned
  dsimp only
  split_ifs <;> simpa [Lanes.mod, upd] using hm

/-- The state in which all three parameters have moved. -/
def adapted (l : Nat) (a b c : Int) (s : State) : State :=
  adaptOne l 2 c (adaptOne l 1 b (adaptOne l 0 a (modLane l Lane.unpin s)))

theorem exec_eqAdaptation {l : Nat} {s : State} (h : (laneOf s l).enabled = true) (a b c : Int) (t : Nat) :
    exec (.eqAdaptation l a b c t) s = .next (adapted l a b c (s.at_ t)) :=
  congrArg Host.Outcome.next (if_pos h)

theorem exec_eqAdaptation_off {l : Nat} {s : State} (h : (laneOf s l).enabled = false) (a b c : Int) (t : Nat) :
    exec (.eqAdaptation l a b c t) s = .next (s.at_ t) :=
  congrArg Host.Outcome.next (if_neg (ne_true_of_eq_false h))

theorem laneOf_adapted {l : Nat} {s : State} (hl : l < s.lanes.lane.length) (a b c : Int) : ∃ n,
    laneOf (adapted l a b c s) l = ((((laneOf s l).unpin.adapt 0 a).adapt 1 b).adapt 2 c).noticed n := by
  have hs0 := modLane_length s l Lane.unpin
  have hs1 := adaptOne_length l 0 a _ _ hs0
  have hs2 := adaptOne_length l 1 b _ _ hs1
  obtain ⟨n0, h0⟩ := laneOf_adaptOne (hs0 ▸ hl) 0 a
  obtain ⟨n1, h1⟩ := laneOf_adaptOne (hs1 ▸ hl) 1 b
  obtain ⟨n2, h2⟩ := laneOf_adaptOne (hs2 ▸ hl) 2 c
  rw [laneOf_modLane_self s l _ hl] at h0
  rw [h0, Lane.adapt_noticed, Lane.noticed_noticed] at h1
  rw [h1, Lane.adapt_noticed, Lane.noticed_noticed] at h2
  exact ⟨n2, h2⟩

/-- Every parameter that an adaptation moves is within its bounds (04 R237). -/
theorem adapt_bounds {x : Lane} (hlen : x.eq.length = 3) (a b c : Int) {i : Nat} (hi : i < 3)
    (hord : getI x.eqMin i 0 ≤ getI x.eqMax i 0) :
    let v := getI (((x.unpin.adapt 0 a).adapt 1 b).adapt 2 c).eq i 0
    getI x.eqMin i 0 ≤ v ∧ v ≤ getI x.eqMax i 0 := by
  have heq : (((x.unpin.adapt 0 a).adapt 1 b).adapt 2 c).eq = [clampI (getI x.eqMin 0 0) (getI x.eqMax 0 0) a,
      clampI (getI x.eqMin 1 0) (getI x.eqMax 1 0) b, clampI (getI x.eqMin 2 0) (getI x.eqMax 2 0) c] := by
    obtain ⟨e0, e1, e2, he⟩ := List.length_eq_three.1 hlen
    simp [Lane.adapt, Lane.unpin, upd, he]
  rw [heq]
  obtain rfl | rfl | rfl : i = 0 ∨ i = 1 ∨ i = 2 := by omega
  · exact clampI_bounds hord a
  · exact clampI_bounds hord b
  · exact clampI_bounds hord c

/-- PINNED says whether a proposal lay outside the bounds (04 R238). -/
theorem adapt_pinned_iff (x : Lane) (a b c : Int) :
    (((x.unpin.adapt 0 a).adapt 1 b).adapt 2 c).pinned = true ↔
      ∃ i, i < 3 ∧ (getI [a, b, c] i 0 < getI x.eqMin i 0 ∨ getI x.eqMax i 0 < getI [a, b, c] i 0) := by
  have hthree (q : Nat → Prop) : (∃ i, i < 3 ∧ q i) ↔ q 0 ∨ q 1 ∨ q 2 := by
    simp only [Nat.exists_lt_succ_right, Nat.not_lt_zero, false_and, exists_false, false_or, or_assoc]
  rw [hthree]
  simp [Lane.adapt, Lane.unpin, getI, or_assoc]

/-- An adaptation of an enabled lane (04 R236 to R238). -/
theorem eqAdaptation_enabled {l : Nat} {s : State} (hl : l < s.lanes.lane.length) (hen : (laneOf s l).enabled = true)
    (hlen : (laneOf s l).eq.length = 3) (hord : ∀ i, i < 3 → getI (laneOf s l).eqMin i 0 ≤ getI (laneOf s l).eqMax i 0)
    (a b c : Int) (t : Nat) : ∃ u, exec (.eqAdaptation l a b c t) s = .next u ∧
      (∀ i, i < 3 → getI (laneOf s l).eqMin i 0 ≤ getI (laneOf u l).eq i 0 ∧ getI (laneOf u l).eq i 0 ≤ getI (laneOf s l).eqMax i 0) ∧
      ((laneOf u l).pinned = true ↔ ∃ i, i < 3 ∧ (getI [a, b, c] i 0 < getI (laneOf s l).eqMin i 0 ∨
        getI (laneOf s l).eqMax i 0 < getI [a, b, c] i 0)) ∧
      (laneOf u l).eqMin = (laneOf s l).eqMin ∧ (laneOf u l).eqMax = (laneOf s l).eqMax := by
  obtain ⟨n, hn⟩ := laneOf_adapted (s := s.at_ t) hl a b c
  refine ⟨_, exec_eqAdaptation hen a b c t, ?_⟩
  rw [hn, laneOf_at]
  refine ⟨fun i hi => ?_, ?_, by simp, by simp⟩
  · rw [Lane.noticed_eq]
    exact adapt_bounds hlen a b c hi (hord i hi)
  · rw [Lane.noticed_pinned]
    exact adapt_pinned_iff (laneOf s l) a b c

/-! ## LANE_EQ_BOUNDS (04 R237) -/

/-- The bounds of the packet: minima, or maxima. -/
def eqLow (b : Bytes) : List Int := [(fld b 1 1 : Int), (fld b 3 1 : Int), sfld b 5 1]
def eqHigh (b : Bytes) : List Int := [(fld b 2 1 : Int), (fld b 4 1 : Int), sfld b 6 1]

/-- Parameter `i` has no bound outside its range. -/
def boundsBad (lo hi : List Int) (i : Nat) : Option Nat :=
  let (rl, rh) := getI [((0 : Int), (31 : Int)), (0, 63), (-32, 31)] i (0, 0)
  if getI lo i 0 < rl ∨ rh < getI lo i 0 then some (0x21 + 2 * i)
  else if getI hi i 0 < rl ∨ rh < getI hi i 0 ∨ getI hi i 0 < getI lo i 0 then some (0x22 + 2 * i)
  else none

theorem boundsBad_eq_none {lo hi : List Int} {i : Nat} {rl rh : Int}
    (hrange : getI [((0 : Int), (31 : Int)), (0, 63), (-32, 31)] i (0, 0) = (rl, rh)) (hlow : rl ≤ getI lo i 0)
    (hord : getI lo i 0 ≤ getI hi i 0) (hhigh : getI hi i 0 ≤ rh) : boundsBad lo hi i = none := by
  unfold boundsBad
  rw [hrange]
  dsimp only
  rw [if_neg (by omega), if_neg (by omega)]

/-- A lane whose parameters are moved into new bounds. -/
def Lane.bound (lo hi : List Int) (x : Lane) : Lane :=
  { x with eqMin := lo, eqMax := hi, eq := x.eq.mapIdx fun i v => clampI (getI lo i 0) (getI hi i 0) v
           pinned := x.pinned || (List.range 3).any fun i =>
             decide (getI x.eq i 0 < getI lo i 0) || decide (getI hi i 0 < getI x.eq i 0) }

theorem exec_laneEqBounds {r : Ref} {p : Packet} {s : State} (h : opStarts 0x0450 r p s = true) (hl : fld p.params 0 1 ≤ 23)
    (hgood : [0, 1, 2].findSome? (boundsBad (eqLow p.params) (eqHigh p.params)) = none) : exec (.laneEqBounds r) s =
      .next (ok p [] (modLane (fld p.params 0 1) (Lane.bound (eqLow p.params) (eqHigh p.params)) s)) := by
  refine congrArg Host.Outcome.next ((runOp_starts h _).trans ?_)
  dsimp only
  rw [if_neg hl.not_gt]
  split
  · next off hbad => cases hgood.symm.trans hbad
  · rfl

theorem getI_mapIdx {α β : Type} {f : Nat → α → β} {l : List α} {i : Nat} (h : i < l.length) (d : β) (e : α) :
    getI (l.mapIdx f) i d = f i (getI l i e) := by
  simp [getI, h]

/-- LANE_EQ_BOUNDS with bounds in range moves each parameter into them (04 R237). -/
theorem laneEqBounds_inRange {r : Ref} {p : Packet} {s : State} (h : opStarts 0x0450 r p s = true) (hs : Inv s)
    (hl : fld p.params 0 1 ≤ 23) (h0 : fld p.params 1 1 ≤ fld p.params 2 1) (h0' : fld p.params 2 1 ≤ 31)
    (h1 : fld p.params 3 1 ≤ fld p.params 4 1) (h1' : fld p.params 4 1 ≤ 63) (hlow : -32 ≤ sfld p.params 5 1)
    (h2 : sfld p.params 5 1 ≤ sfld p.params 6 1) (h2' : sfld p.params 6 1 ≤ 31) :
    ∃ s', exec (.laneEqBounds r) s = .next (ok p [] s') ∧
      (laneOf s' (fld p.params 0 1)).eqMin = eqLow p.params ∧ (laneOf s' (fld p.params 0 1)).eqMax = eqHigh p.params ∧
      (∀ i, i < 3 → (laneOf s (fld p.params 0 1)).eq.length = 3 →
        getI (laneOf s' (fld p.params 0 1)).eqMin i 0 ≤ getI (laneOf s' (fld p.params 0 1)).eq i 0 ∧
        getI (laneOf s' (fld p.params 0 1)).eq i 0 ≤ getI (laneOf s' (fld p.params 0 1)).eqMax i 0) ∧ Frame [.lanes] s s' := by
  have hlen : fld p.params 0 1 < s.lanes.lane.length := by rw [hs.lanes]; omega
  have hord0 : getI (eqLow p.params) 0 0 ≤ getI (eqHigh p.params) 0 0 := Int.ofNat_le.2 h0
  have hord1 : getI (eqLow p.params) 1 0 ≤ getI (eqHigh p.params) 1 0 := Int.ofNat_le.2 h1
  have hgood : [0, 1, 2].findSome? (boundsBad (eqLow p.params) (eqHigh p.params)) = none := by
    have hctle := boundsBad_eq_none (i := 0) rfl (Int.natCast_nonneg _) hord0 (Int.ofNat_le.2 h0')
    have hvga := boundsBad_eq_none (i := 1) rfl (Int.natCast_nonneg _) hord1 (Int.ofNat_le.2 h1')
    have hdfe := boundsBad_eq_none (lo := eqLow p.params) (hi := eqHigh p.params) (i := 2) rfl hlow h2 h2'
    simp [hctle, hvga, hdfe]
  refine ⟨_, exec_laneEqBounds h hl hgood, ?_⟩
  rw [laneOf_modLane_self _ _ _ hlen]
  refine ⟨rfl, rfl, fun i hi heq => ?_, modLane_frame _ _ _ (by decide) (Frame.refl _ s)⟩
  have hmoved : getI ((laneOf s (fld p.params 0 1)).bound (eqLow p.params) (eqHigh p.params)).eq i 0 =
      clampI (getI (eqLow p.params) i 0) (getI (eqHigh p.params) i 0) (getI (laneOf s (fld p.params 0 1)).eq i 0) :=
    getI_mapIdx (by omega) 0 0
  rw [hmoved]
  refine clampI_bounds ?_ _
  obtain rfl | rfl | rfl : i = 0 ∨ i = 1 ∨ i = 2 := by omega
  · exact hord0
  · exact hord1
  · exact h2

end Sys2Proof.Machine
end

section
/-! PROOFS. LANE_STATUS, LANE_CTRL_XACT and LANE_TRIGGER_CONFIG, and what chapter 04's tests and monitoring amount to. -/

namespace Sys2Proof.Machine

open Sys2Proof

/-! ## LANE_STATUS (04 Table 4.11) -/

theorem exec_laneStatus {r : Ref} {p : Packet} {s : State} (h : opStarts 0x0401 r p s = true) : exec (.laneStatus r) s = .next (
    let x := laneOf s (fld p.params 0 1)
    if 23 < fld p.params 0 1 then refuse p stBAD_PARAM 0x20 s
    else ok p (le4 (laneStatusReg s (fld p.params 0 1)).toNat ++ eqBytes x ++ le8 x.bits.toNat ++ le8 x.errs ++
      x.ctr.flatMap fun w => le4 w.toNat) s) :=
  congrArg Host.Outcome.next (runOp_starts h _)

/-! ## LANE_CTRL_XACT (04 R218, R219) -/

@[simp] theorem emitUplinks_lanes (l : Nat) (ms : List Bytes) (s : State) : (emitUplinks l ms s).lanes = s.lanes :=
  (emitUplinks_frame l ms s (List.Subset.refl _) (Frame.refl _ s)).lanes_eq (by decide)

theorem emitUplinks_emitted (l : Nat) (ms : List Bytes) (s : State) :
    (emitUplinks l ms s).emitted = (ms.map (Emit.uplink l)).reverse ++ s.emitted := by
  induction ms generalizing s with
  | nil => rfl
  | cons m ms ih =>
    rw [emitUplinks, ih]
    simp [State.emit]

/-- A lane on which a transaction waits for its reply. -/
def Lane.await (x : CtrlXact) (y : Lane) : Lane := { y with ctrl := y.ctrl ++ [x] }

/-- A lane with messages to send. -/
def Lane.queueUp (now : Nat) (ms : List Bytes) (y : Lane) : Lane :=
  { y with busyUntil := max now y.busyUntil, txq := y.txq ++ ms.map fun m => m.length + 1 }

/-- The transaction of a packet. -/
def xactOf (p : Packet) (s : State) : CtrlXact := { ref := p.ref, tag := Config.ctrlTag p.order, since := s.now }

/-- The state in which a transaction has committed. -/
def xactBegun (l : Nat) (p : Packet) (s : State) : State := modLane l (Lane.await (xactOf p s)) (commitP p.ref s)

theorem startCtrl_cxp {l : Nat} {s : State} (hc : (laneOf s l).cfg.camram = false) (p : Packet) (b : Bytes) :
    startCtrl l p b s = (xactBegun l p s).emit (.cxpControl l b) := by
  unfold startCtrl
  dsimp only
  rw [hc]
  rfl

theorem startCtrl_camram {l : Nat} {s : State} (hc : (laneOf s l).cfg.camram = true) (p : Packet) (b : Bytes) :
    startCtrl l p b s = emitUplinks l (ctrlMessages (Config.ctrlTag p.order) b)
      (modLane l (Lane.queueUp s.now (ctrlMessages (Config.ctrlTag p.order) b)) (xactBegun l p s)) := by
  unfold startCtrl
  dsimp only
  rw [hc]
  rfl

theorem startCtrl_cxp_emitted {l : Nat} {s : State} (hc : (laneOf s l).cfg.camram = false) (p : Packet) (b : Bytes) :
    (startCtrl l p b s).emitted = .cxpControl l b :: s.emitted := by
  rw [startCtrl_cxp hc]
  rfl

theorem startCtrl_camram_emitted {l : Nat} {s : State} (hc : (laneOf s l).cfg.camram = true) (p : Packet) (b : Bytes) :
    (startCtrl l p b s).emitted = ((ctrlMessages (Config.ctrlTag p.order) b).map (Emit.uplink l)).reverse ++ s.emitted := by
  rw [startCtrl_camram hc, emitUplinks_emitted]
  rfl

theorem laneOf_xactBegun {l : Nat} {s : State} (hl : l < s.lanes.lane.length) (p : Packet) :
    laneOf (xactBegun l p s) l = (laneOf s l).await (xactOf p s) :=
  laneOf_modLane_self (commitP p.ref s) l _ hl

/-- The transaction started is the last that the lane waits for. -/
theorem startCtrl_waits {l : Nat} {s : State} (hl : l < s.lanes.lane.length) (p : Packet) (b : Bytes) :
    ((laneOf (startCtrl l p b s) l).ctrl.getLast?).map (·.ref) = some p.ref := by
  have hctrl : (laneOf (startCtrl l p b s) l).ctrl = (laneOf s l).ctrl ++ [xactOf p s] := by
    by_cases hc : (laneOf s l).cfg.camram = true
    · have hq := laneOf_modLane_keeps Lane.ctrl (f := Lane.queueUp s.now (ctrlMessages (Config.ctrlTag p.order) b)) (by intro; rfl)
        (xactBegun l p s) l l
      rw [startCtrl_camram hc, laneOf_congr (emitUplinks_lanes ..), hq, laneOf_xactBegun hl]
      rfl
    · rw [startCtrl_cxp (eq_false_of_ne_true hc), laneOf_congr (emit_lanes ..), laneOf_xactBegun hl]
      rfl
  rw [hctrl, List.getLast?_concat]
  rfl

theorem exec_laneCtrlXact {r : Ref} {p : Packet} {s : State} (h : opStarts 0x0420 r p s = true) (hl : fld p.params 0 1 ≤ 23)
    (hlow : 1 ≤ fld p.params 2 2) (hhigh : fld p.params 2 2 ≤ 1024) (hlen : fld p.params 2 2 = p.params.length - 4) :
    exec (.laneCtrlXact r) s = .next (
      let l := fld p.params 0 1
      if (laneOf s l).state = .retired then refuse p stRETIRED 0x20 s
      else if !(laneOf s l).cfg.camram && (laneOf s l).state != .active then refuse p stBUSY noField s
      else startCtrl l p (p.params.drop 4) s) := by
  refine congrArg Host.Outcome.next ((runOp_starts h _).trans ?_)
  dsimp only
  rw [if_neg hl.not_gt, if_neg (by omega), if_neg (not_not_intro hlen)]

/-- LANE_CTRL_XACT, by the lane's mode and state (04 R218, R220). -/
theorem laneCtrlXact_cases {r : Ref} {p : Packet} {s : State} (h : opStarts 0x0420 r p s = true) (hl : fld p.params 0 1 ≤ 23)
    (hlow : 1 ≤ fld p.params 2 2) (hhigh : fld p.params 2 2 ≤ 1024) (hlen : fld p.params 2 2 = p.params.length - 4) :
    let l := fld p.params 0 1
    ((laneOf s l).state = .retired → exec (.laneCtrlXact r) s = .next (refuse p stRETIRED 0x20 s)) ∧
    ((laneOf s l).cfg.camram = false → (laneOf s l).state ≠ .retired → (laneOf s l).state ≠ .active →
      exec (.laneCtrlXact r) s = .next (refuse p stBUSY noField s)) ∧
    ((laneOf s l).cfg.camram = false → (laneOf s l).state = .active →
      exec (.laneCtrlXact r) s = .next (startCtrl l p (p.params.drop 4) s)) ∧
    ((laneOf s l).cfg.camram = true → (laneOf s l).state ≠ .retired →
      exec (.laneCtrlXact r) s = .next (startCtrl l p (p.params.drop 4) s)) := by
  have hexec := exec_laneCtrlXact h hl hlow hhigh hlen
  refine ⟨fun hr => ?_, fun hc hr ha => ?_, fun hc ha => ?_, fun hc hr => ?_⟩
  · rw [hexec]
    exact congrArg Host.Outcome.next (if_pos hr)
  · simp [hexec, hc, hr, ha]
  · simp [hexec, ha]
  · simp [hexec, hc, hr]

/-! ## LANE_TRIGGER_CONFIG (04 R191, R192) -/

/-- The state in which a trigger setting is in force at once. -/
def triggerNow (p : Packet) (s : State) : State :=
  let tg := fld p.params 0 1
  noticeHolder p.principal 0x0203 (le2 0x0410) (applyTrigger tg (fld p.params 4 4) (fld p.params 8 4) (posI s.pos.hwm + 1)
    (dropReprog (.trigger tg (fld p.params 4 4) (fld p.params 8 4)) s))

/-- The state in which a trigger setting waits for its boundary. -/
def triggerLater (p : Packet) (s : State) : State :=
  deferReprog (.trigger (fld p.params 0 1) (fld p.params 4 4) (fld p.params 8 4)) p.principal p.opcode s

theorem exec_laneTriggerConfig {r : Ref} {p : Packet} {s : State} (h : opStarts 0x0410 r p s = true) (htg : fld p.params 0 1 ≤ 7)
    (hlow : 16 ≤ fld p.params 4 4) (hhigh : fld p.params 4 4 ≤ 2 ^ 20) (hphase : fld p.params 8 4 < fld p.params 4 4) :
    exec (.laneTriggerConfig r) s = .next (
      if p.atOnce && !s.pos.stationary then refuse p stBUSY noField s
      else if p.atOnce then done p stACCEPTED [] (triggerNow p s)
      else done p stACCEPTED [] (triggerLater p s)) := by
  refine congrArg Host.Outcome.next ((runOp_starts h _).trans ?_)
  dsimp only
  rw [if_neg htg.not_gt, if_neg (not_or.2 ⟨hlow.not_gt, hhigh.not_gt⟩), if_neg hphase.not_ge]
  rfl

theorem triggerLater_waits (p : Packet) (s : State) :
    ((triggerLater p s).pos.pendingRp.getLast?).map (fun x => (x.what, x.boundary)) =
      some (.trigger (fld p.params 0 1) (fld p.params 4 4) (fld p.params 8 4), boundaryAfter s.pos.shift s.pos.hwm) := by
  change (List.getLast? (_ ++ [_])).map _ = _
  rw [List.getLast?_concat]
  rfl

theorem triggerLater_frame (p : Packet) (s : State) : Frame [.pos] s (triggerLater p s) :=
  deferReprog_frame _ _ _ s (List.Subset.refl _) (Frame.refl _ s)

/-- A setting in force at once: its next firing is beyond the HWM (04 R192). -/
theorem triggerNow_tg {p : Packet} {s : State} (htg : fld p.params 0 1 < s.lanes.tg.length) (hp : 0 < fld p.params 4 4) :
    let g := getI (triggerNow p s).lanes.tg (fld p.params 0 1) TrigGen.reset
    g.p = fld p.params 4 4 ∧ g.f = fld p.params 8 4 ∧ posI s.pos.hwm < trigPos g g.nextK := by
  have hlanes : (triggerNow p s).lanes = (applyTrigger (fld p.params 0 1) (fld p.params 4 4) (fld p.params 8 4) (posI s.pos.hwm + 1)
    (dropReprog (.trigger (fld p.params 0 1) (fld p.params 4 4) (fld p.params 8 4)) s)).lanes := noticeHolder_lanes ..
  obtain ⟨hpitch, hphase, -, hnext, -⟩ := applyTrigger_next (fld p.params 8 4) (posI s.pos.hwm + 1)
    (s := dropReprog (.trigger (fld p.params 0 1) (fld p.params 4 4) (fld p.params 8 4)) s) htg hp
  rw [hlanes]
  exact ⟨hpitch, hphase, Int.lt_of_add_one_le hnext⟩

section TriggerConfig

variable {r : Ref} {p : Packet} {s : State} (h : opStarts 0x0410 r p s = true) (hs : Inv s) (htg : fld p.params 0 1 ≤ 7)
  (hlow : 16 ≤ fld p.params 4 4) (hhigh : fld p.params 4 4 ≤ 2 ^ 20) (hphase : fld p.params 8 4 < fld p.params 4 4)
include h hs htg hlow hhigh hphase

/-- LANE_TRIGGER_CONFIG, at the next boundary or with APPLY_STATIONARY (04 R192). -/
theorem laneTriggerConfig_cases :
    let tg := fld p.params 0 1
    (p.atOnce = false → ∃ s', exec (.laneTriggerConfig r) s = .next (done p stACCEPTED [] s') ∧ s'.lanes = s.lanes ∧
      (s'.pos.pendingRp.getLast?).map (fun x => (x.what, x.boundary)) =
        some (.trigger tg (fld p.params 4 4) (fld p.params 8 4), boundaryAfter s.pos.shift s.pos.hwm) ∧ Frame [.pos] s s') ∧
    (p.atOnce = true → s.pos.stationary = false → exec (.laneTriggerConfig r) s = .next (refuse p stBUSY noField s)) ∧
    (p.atOnce = true → s.pos.stationary = true → ∃ s', exec (.laneTriggerConfig r) s = .next (done p stACCEPTED [] s') ∧
      (getI s'.lanes.tg tg TrigGen.reset).p = fld p.params 4 4 ∧ (getI s'.lanes.tg tg TrigGen.reset).f = fld p.params 8 4 ∧
      posI s.pos.hwm < trigPos (getI s'.lanes.tg tg TrigGen.reset) (getI s'.lanes.tg tg TrigGen.reset).nextK) := by
  have hexec := exec_laneTriggerConfig h htg hlow hhigh hphase
  refine ⟨fun hlater => ?_, fun hnow hmoves => ?_, fun hnow hstill => ?_⟩
  · rw [hlater] at hexec
    exact ⟨triggerLater p s, hexec, rfl, triggerLater_waits p s, triggerLater_frame p s⟩
  · rw [hnow, hmoves] at hexec
    exact hexec
  · rw [hnow, hstill] at hexec
    exact ⟨triggerNow p s, hexec, triggerNow_tg (by rw [hs.triggers]; omega) (by omega)⟩

end TriggerConfig

/-- Settles O25: each opcode and each event by its own lemma above. -/
theorem laneTestsAndMonitoring : Obligations.LaneTestsAndMonitoring := by
  unfold Obligations.LaneTestsAndMonitoring
  refine ⟨fun r p s line other h _ hl hpat hlow hhigh hact =>
      ⟨fun ht => exec_lanePrbs_denied h hl hpat hlow hhigh hact ht line other, lanePrbs_cases line other h hl hpat hlow hhigh hact⟩,
    fun r p s h hl hm hexp hnum => ⟨exec_laneInject_denied h hl hm hexp hnum, exec_laneInject_set h hl hm hexp hnum⟩,
    genBit_spec, fun _ => ⟨rfl, rfl, rfl, rfl⟩,
    fun l line other s hs hl => ⟨exec_prbsCheckerLock l line other s, exec_prbsLockLoss l line other s,
      laneOf_testPair l line other s, fun hp => testPair_alone hp line other, fun ht => testLine_of_not_test ht line,
      fun hc hb hg => ⟨laneOf_testLine_checking hc hb hg line, testLine_frame l line s (List.Subset.refl _) (Frame.refl _ s)⟩,
      fun hc hb hseek hrun hg => ⟨_, exec_prbsCheckerLock .., testPair_locks hc hb hg hseek hrun other⟩,
      fun hc hb hlock herrs hg => ⟨_, exec_prbsLockLoss .., testPair_loses hc hb hg hlock herrs other⟩⟩,
    checkBit_spec,
    fun r p s h hl hk => ⟨exec_laneLoopback_denied h hl hk, exec_laneLoopback_set h hl hk⟩,
    fun r p s h hl => ⟨exec_laneEyescan_cxp h hl, fun hc => ⟨fun off => exec_laneEyescan_bad h hl hc, fun hgood hbusy => ?eyeBusy,
      fun hgood hfree hs => laneEyescan_cases h hl hc hgood hfree (by rw [hs.lanes]; omega)⟩⟩,
    fun l counts s e p _ _ ha he hp => eyescanDone_cases ha he hp,
    fun l a b c t s hs hl => ⟨fun hen hlen hord => eqAdaptation_enabled (by rwa [hs.lanes]) hen hlen hord a b c t, fun hoff => exec_eqAdaptation_off hoff a b c t⟩,
    fun r p s h hs hl h0 h0' h1 h1' hlow h2 h2' => laneEqBounds_inRange h hs hl h0 h0' h1 h1' hlow h2 h2',
    fun r p s h => ⟨fun hl => ?noLane, fun hl => ?status⟩,
    fun r p s h hs hl hlow hhigh hlen => ?ctrl,
    fun r p s h hs htg hlow hhigh hphase => laneTriggerConfig_cases h hs htg hlow hhigh hphase⟩
  case eyeBusy => rw [exec_laneEyescan h hl hc hgood, hbusy, if_pos rfl]
  case ctrl =>
    have hlane : fld p.params 0 1 < s.lanes.lane.length := by rw [hs.lanes]; omega
    obtain ⟨hretired, hbusy, hcxp, hcamram⟩ := laneCtrlXact_cases h hl hlow hhigh hlen
    have hframe := startCtrl_frame (fld p.params 0 1) p (p.params.drop 4) s (List.Subset.refl _) (Frame.refl _ s)
    refine ⟨hretired, hbusy, fun hc ha => ?_, fun hc hr => ?_⟩
    · exact ⟨_, hcxp hc ha, startCtrl_cxp_emitted hc p _, startCtrl_waits hlane p _, hframe⟩
    · exact ⟨_, hcamram hc hr, startCtrl_waits hlane p _, startCtrl_camram_emitted hc p _, hframe⟩
  case noLane =>
    rw [exec_laneStatus h]
    exact congrArg Host.Outcome.next (if_pos hl)
  case status =>
    rw [exec_laneStatus h]
    exact congrArg Host.Outcome.next (if_neg hl.not_gt)

end Sys2Proof.Machine
end

section
/-! PROOFS. Channels and views of the image pipeline: the entry of a table that a change keeps, and what the records of statistics,
concealment and taps leave alone. -/

namespace Sys2Proof.Machine

open Sys2Proof

/-! ## Entries that a change keeps -/

theorem Frame.pln_eq {l : List Chapter} {s t : State} (h : Frame l s t) (hp : Chapter.pln ∉ l) : t.pln = s.pln := h .pln hp

/-- What every value of `f` keeps, every entry of the changed table keeps. -/
theorem getI_upd_keeps {α β : Type} (g : α → β) {f : α → α} (hf : ∀ x, g (f x) = g x) (l : List α) (n m : Nat) (d : α) :
    g (getI (upd l n f) m d) = g (getI l m d) := by
  simp only [getI, upd, List.getD_eq_getElem?_getD, List.getElem?_modify]
  cases l[m]? with
  | none => rfl
  | some x => by_cases h : n = m <;> simp [h, hf]

theorem viewOf_modView_keeps {α : Type} (g : View → α) {f : View → View} (hf : ∀ x, g (f x) = g x) (s : State) (v m : Nat) :
    g (viewOf (modView v f s) m) = g (viewOf s m) := getI_upd_keeps g hf _ _ _ _

theorem plnChan_modPlnChan_keeps {α : Type} (g : Channel → α) {f : Channel → Channel} (hf : ∀ x, g (f x) = g x) (s : State)
    (c m : Nat) : g (plnChan (modPlnChan c f s) m) = g (plnChan s m) := getI_upd_keeps g hf _ _ _ _

theorem viewOf_congr {s t : State} (h : t.pln.view = s.pln.view) (v : Nat) : viewOf t v = viewOf s v := by rw [viewOf, viewOf, h]
theorem plnChan_congr {s t : State} (h : t.pln.chan = s.pln.chan) (c : Nat) : plnChan t c = plnChan s c := by
  rw [plnChan, plnChan, h]

/-! ## What the stages keep -/

/-- What no stage changes of a channel: its view and its mode. -/
def Channel.role (c : Channel) : Option Nat × Bool := (c.view, c.replace)

/-- What records leave of a channel beside its role: the scan lines on their way and PLN_CONC. -/
def Channel.flow (c : Channel) : List Slot × List ChanLine × Long × Option Nat × Bool := (c.slots, c.lines, c.conc, c.role)

/-- What the stages leave of a view until a scan line joins its row: its shape, the row and PLN_REPLACED. -/
def View.row (x : View) : Bool × Nat × Nat × Option Int × List ViewLine × Word :=
  (x.configured, x.width, x.tileH, x.rowOpen, x.rowLines, x.replaced)

/-- From `s` to `t` every view keeps its row and every channel its role. -/
structure KeepsRows (s t : State) : Prop where
  views : t.pln.view.length = s.pln.view.length
  row : ∀ v, (viewOf t v).row = (viewOf s v).row
  role : ∀ n, (plnChan t n).role = (plnChan s n).role

/-- From `s` to `t` every view keeps its row and every channel its scan lines too. -/
structure KeepsFlow (s t : State) : Prop where
  views : t.pln.view.length = s.pln.view.length
  row : ∀ v, (viewOf t v).row = (viewOf s v).row
  flow : ∀ n, (plnChan t n).flow = (plnChan s n).flow

theorem KeepsFlow.rows {s t : State} (h : KeepsFlow s t) : KeepsRows s t :=
  ⟨h.views, h.row, fun n => congrArg (·.2.2.2) (h.flow n)⟩

theorem KeepsRows.refl (s : State) : KeepsRows s s := ⟨rfl, fun _ => rfl, fun _ => rfl⟩
theorem KeepsFlow.refl (s : State) : KeepsFlow s s := ⟨rfl, fun _ => rfl, fun _ => rfl⟩

theorem KeepsRows.trans {s t u : State} (h : KeepsRows s t) (k : KeepsRows t u) : KeepsRows s u :=
  ⟨k.views.trans h.views, fun v => (k.row v).trans (h.row v), fun n => (k.role n).trans (h.role n)⟩
theorem KeepsFlow.trans {s t u : State} (h : KeepsFlow s t) (k : KeepsFlow t u) : KeepsFlow s u :=
  ⟨k.views.trans h.views, fun v => (k.row v).trans (h.row v), fun n => (k.flow n).trans (h.flow n)⟩

theorem KeepsFlow.of_tables {s t : State} (hv : t.pln.view = s.pln.view) (hc : t.pln.chan = s.pln.chan) : KeepsFlow s t :=
  ⟨congrArg List.length hv, fun v => congrArg View.row (viewOf_congr hv v), fun n => congrArg Channel.flow (plnChan_congr hc n)⟩

theorem KeepsFlow.of_frame {l : List Chapter} {s t : State} (h : Frame l s t) (hp : Chapter.pln ∉ l) : KeepsFlow s t :=
  .of_tables (by rw [h.pln_eq hp]) (by rw [h.pln_eq hp])

theorem modView_keepsFlow {f : View → View} (hf : ∀ x, (f x).row = x.row) (v : Nat) (s : State) : KeepsFlow s (modView v f s) :=
  ⟨modView_length s v f, fun w => viewOf_modView_keeps View.row hf s v w, fun _ => rfl⟩

theorem modPlnChan_keepsFlow {f : Channel → Channel} (hf : ∀ x, (f x).flow = x.flow) (c : Nat) (s : State) :
    KeepsFlow s (modPlnChan c f s) := ⟨rfl, fun _ => rfl, fun n => plnChan_modPlnChan_keeps Channel.flow hf s c n⟩

theorem modPlnChan_keepsRows {f : Channel → Channel} (hf : ∀ x, (f x).role = x.role) (c : Nat) (s : State) :
    KeepsRows s (modPlnChan c f s) := ⟨rfl, fun _ => rfl, fun n => plnChan_modPlnChan_keeps Channel.role hf s c n⟩

/-! ## Statistics records (05 R290) -/

/-- A view whose record was dropped. -/
def View.dropRecord (x : View) : View := { x with statLost := satInc x.statLost, statSeq := x.statSeq + 1 }

/-- A view whose record of `n` bytes was written into a ring of `size`. -/
def View.tookRecord (n size : Nat) (x : View) : View :=
  { x with statWidx := BitVec.ofNat 32 ((x.statWidx.toNat + n) % size), statSeq := x.statSeq + 1 }

/-- The bytes of a record: 16 of header and its body (05 Table 5.5). -/
def statRecord (v ty : Nat) (sp : Word) (body : Bytes) (x : View) : Bytes :=
  [BitVec.ofNat 8 ty] ++ le1 v ++ le2 0 ++ le4 (16 + body.length) ++ le4 x.statSeq.toNat ++ le4 sp.toNat ++ body

theorem statRecord_length (v ty : Nat) (sp : Word) (body : Bytes) (x : View) :
    (statRecord v ty sp body x).length = 16 + body.length := by
  simp [statRecord, le1, le2, le4, leBytes]
  omega

theorem ringBytes_frame_self (base size at_ : Nat) (b : Bytes) (s : State) : Frame [.draw] s (ringBytes base size at_ b s) :=
  ringBytes_frame base size at_ b s (List.Subset.refl _) (Frame.refl _ s)

/-- Without a ring, or without space in it, the record is dropped and counted. -/
theorem statWrite_drops {v : Nat} {body : Bytes} {s : State} (h : ∀ o, objOf s (viewOf s v).statRing = some o →
    o.lost = true ∨ o.size ≤ statUsed (viewOf s v) o.size + 16 + body.length) (ty : Nat) (sp : Word) :
    statWrite v ty sp body s = modView v View.dropRecord s := by
  unfold statWrite
  dsimp only
  cases ho : objOf s (viewOf s v).statRing with
  | none => rfl
  | some o =>
    have hfull := h o ho
    rw [Nat.add_assoc, ← statRecord_length v ty sp body (viewOf s v)] at hfull
    exact if_pos hfull

/-- With space in its ring it is written, and WIDX moves on by its length. -/
theorem statWrite_writes {v : Nat} {body : Bytes} {s : State} {o : Obj} (ho : objOf s (viewOf s v).statRing = some o)
    (hl : o.lost = false) (hfree : statUsed (viewOf s v) o.size + 16 + body.length < o.size) (ty : Nat) (sp : Word) :
    statWrite v ty sp body s = modView v (View.tookRecord (16 + body.length) o.size)
      (ringBytes o.addr o.size (viewOf s v).statWidx.toNat (statRecord v ty sp body (viewOf s v)) s) := by
  have hlen := statRecord_length v ty sp body (viewOf s v)
  have hroom : ¬ (o.lost = true ∨ o.size ≤ statUsed (viewOf s v) o.size + (statRecord v ty sp body (viewOf s v)).length) := by
    rw [hl, hlen, not_or, not_le, ← Nat.add_assoc]
    exact ⟨Bool.false_ne_true, hfree⟩
  have hmoves : View.tookRecord (16 + body.length) o.size =
      View.tookRecord (statRecord v ty sp body (viewOf s v)).length o.size := by rw [hlen]
  unfold statWrite
  dsimp only
  rw [ho, hmoves]
  exact if_neg hroom

/-- Either the ring has space for the record, or there is no ring or no space. -/
theorem statRing_free_or_full (v : Nat) (body : Bytes) (s : State) :
    (∃ o, objOf s (viewOf s v).statRing = some o ∧ o.lost = false ∧ statUsed (viewOf s v) o.size + 16 + body.length < o.size) ∨
    (∀ o, objOf s (viewOf s v).statRing = some o → o.lost = true ∨ o.size ≤ statUsed (viewOf s v) o.size + 16 + body.length) := by
  by_contra hno
  simp only [not_or, not_exists, not_and, not_forall, Bool.not_eq_true, not_le, exists_prop] at hno
  obtain ⟨hnone, o, ho, hl, hfree⟩ := hno
  exact hnone o ho hl hfree

/-- A record is dropped or written, and the rows do not notice. -/
theorem statWrite_keepsFlow (v ty : Nat) (sp : Word) (body : Bytes) (s : State) : KeepsFlow s (statWrite v ty sp body s) := by
  rcases statRing_free_or_full v body s with ⟨o, ho, hl, hfree⟩ | hfull
  · rw [statWrite_writes ho hl hfree ty sp]
    exact (KeepsFlow.of_frame (ringBytes_frame_self _ _ _ _ _) (by decide)).trans (modView_keepsFlow (by intro; rfl) v _)
  · rw [statWrite_drops hfull ty sp]
    exact modView_keepsFlow (by intro; rfl) v s

/-! ## Concealment and tap records (05 R262, R292) -/

theorem concRecord_keepsFlow (c : Nat) (x : ConcRun) (s : State) : KeepsFlow s (concRecord c x s) := by
  have hstat : ∀ v ty sp body, KeepsFlow s (statWrite v ty sp body s) := fun v ty sp body => statWrite_keepsFlow v ty sp body s
  unfold concRecord
  dsimp only
  split
  · exact ((hstat ..).trans (modPlnChan_keepsFlow (by intro; rfl) c _)).trans
      (.of_frame (noticeUnitAt_frame_self _ _ _ _) (by decide))
  · exact hstat ..

theorem concRecords_keepsFlow (c : Nat) (l : List ConcRun) (s : State) : KeepsFlow s (concRecords c l s) := by
  induction l generalizing s with
  | nil => exact .refl s
  | cons x r ih => exact (concRecord_keepsFlow c x s).trans (ih _)

theorem settleRuns_keepsFlow (c : Nat) (mine : ConcRun → Bool) (restart : Bool) (new : List ConcRun) (s : State) :
    KeepsFlow s (settleRuns c mine restart new s) :=
  (modPlnChan_keepsFlow (by intro; rfl) c s).trans (concRecords_keepsFlow c _ _)

/-- A tap's record changes the taps and memory. -/
theorem tapOne_tables (tflags : Nat) (sp scan : Word) (first count : Nat) (data : Bytes) (t : Tap) (s : State) :
    (tapOne tflags sp scan first count data t s).pln.view = s.pln.view ∧
      (tapOne tflags sp scan first count data t s).pln.chan = s.pln.chan := by
  unfold tapOne
  dsimp only
  split
  · split <;> exact ⟨rfl, rfl⟩
  · exact ⟨rfl, rfl⟩

theorem tapEach_tables (tflags : Nat) (sp scan : Word) (first count : Nat) (data : Bytes) (l : List Tap) (s : State) :
    (tapEach tflags sp scan first count data l s).pln.view = s.pln.view ∧
      (tapEach tflags sp scan first count data l s).pln.chan = s.pln.chan := by
  induction l generalizing s with
  | nil => exact ⟨rfl, rfl⟩
  | cons t r ih =>
    obtain ⟨hview, hchan⟩ := tapOne_tables tflags sp scan first count data t s
    obtain ⟨ihview, ihchan⟩ := ih (tapOne tflags sp scan first count data t s)
    exact ⟨ihview.trans hview, ihchan.trans hchan⟩

@[simp] theorem tapRecord_view (point source tflags : Nat) (sp scan : Word) (first count : Nat) (data : Bytes) (s : State) :
    (tapRecord point source tflags sp scan first count data s).pln.view = s.pln.view := (tapEach_tables ..).1
@[simp] theorem tapRecord_chan (point source tflags : Nat) (sp scan : Word) (first count : Nat) (data : Bytes) (s : State) :
    (tapRecord point source tflags sp scan first count data s).pln.chan = s.pln.chan := (tapEach_tables ..).2

theorem tapRecord_keepsFlow (point source tflags : Nat) (sp scan : Word) (first count : Nat) (data : Bytes) (s : State) :
    KeepsFlow s (tapRecord point source tflags sp scan first count data s) := .of_tables (tapRecord_view ..) (tapRecord_chan ..)

end Sys2Proof.Machine
end

section
/-! PROOFS. Segments and the slots of a channel. -/

namespace Sys2Proof.Machine

open Sys2Proof

variable {now : Nat} {g : Segment} {c : Channel} {x : Slot}

/-- A segment with no open slot is late (05 R255). -/
theorem takeSegment_late (h : ((expireSlots now c).slots.find? (isSlot g)).all (·.closed) = true) :
    takeSegment now g c = { expireSlots now c with late := satInc c.late } := by
  unfold takeSegment
  dsimp only
  cases hx : (expireSlots now c).slots.find? (isSlot g) with
  | none => rfl
  | some x =>
    rw [hx] at h
    exact if_pos h

/-- An open slot takes the segment, unless it duplicates pixels or lies beyond the width (05 R254, R256). -/
theorem takeSegment_open (hx : (expireSlots now c).slots.find? (isSlot g) = some x) (hopen : x.closed = false) :
    takeSegment now g c = if segDup g x then { expireSlots now c with dup := satInc c.dup }
      else { expireSlots now c with slots := (expireSlots now c).slots.map fun y => if isSlot g y then fillSlot g y else y } := by
  unfold takeSegment
  dsimp only
  rw [hx]
  dsimp only
  rw [hopen]
  rfl

/-- A filled slot is still the segment's. -/
theorem isSlot_fillSlot (g h : Segment) (x : Slot) : isSlot g (fillSlot h x) = isSlot g x := rfl

theorem expireSlots_slots_length (now : Nat) (c : Channel) : (expireSlots now c).slots.length = c.slots.length := List.length_map ..

/-- The segment's slot is filled, and every slot of another scan line is as the time limit left it. -/
theorem takeSegment_fills (hx : (expireSlots now c).slots.find? (isSlot g) = some x) (hopen : x.closed = false)
    (hnew : segDup g x = false) :
    takeSegment now g c = { expireSlots now c with slots := (takeSegment now g c).slots } ∧
      fillSlot g x ∈ (takeSegment now g c).slots ∧ (takeSegment now g c).slots.length = c.slots.length ∧
      (∀ y ∈ (takeSegment now g c).slots, isSlot g y = false → y ∈ (expireSlots now c).slots) := by
  have htake := takeSegment_open hx hopen
  rw [hnew, if_neg Bool.false_ne_true] at htake
  rw [htake]
  refine ⟨rfl, ?_, ?_, fun y hy hother => ?_⟩
  · exact List.mem_map.2 ⟨x, List.mem_of_find?_eq_some hx, if_pos (List.find?_some hx)⟩
  · rw [List.length_map, expireSlots_slots_length]
  · obtain ⟨w, hw, rfl⟩ := List.mem_map.1 hy
    by_cases hmine : isSlot g w = true
    · rw [if_pos hmine, isSlot_fillSlot, hmine] at hother
      cases hother
    · rwa [if_neg hmine]

/-- The columns of the segment get its pixels and the others keep theirs (05 R254). -/
theorem getElem?_fillSlot_samples {p : Nat} (hp : p < x.samples.length) : (fillSlot g x).samples[p]? =
    some (if g.first ≤ p ∧ p < g.first + g.count then
      (match g.samples[p - g.first]? with
        | some vs => some { value := vs.1, sat := vs.2, bad := g.bad }
        | none => x.samples.getD p none) else x.samples.getD p none) := by
  have hold : x.samples.getD p none = x.samples[p] := (List.getElem_eq_getD none).symm
  have hput : (fillSlot g x).samples[p]? = (putSamples g x.samples)[p]? := rfl
  rw [hput, hold, putSamples, List.getElem?_mapIdx, List.getElem?_eq_getElem hp, Option.map_some]
  split
  · cases g.samples[p - g.first]? with
    | none => rfl
    | some vs => rfl
  · rfl

theorem fillSlot_samples_length (g : Segment) (x : Slot) : (fillSlot g x).samples.length = x.samples.length := List.length_mapIdx ..

/-- Settles O26: the late segment, the duplicate, and the one that fills its slot. -/
theorem segmentsFillSlots : Obligations.SegmentsFillSlots := by
  unfold Obligations.SegmentsFillSlots
  refine ⟨fun now g c h => takeSegment_late h, fun now g c x hx hopen => ⟨fun hdup => ?_, takeSegment_fills hx hopen⟩,
    fun g x p hp => getElem?_fillSlot_samples hp, fun g x => ⟨rfl, fillSlot_samples_length g x, rfl, rfl⟩⟩
  rw [takeSegment_open hx hopen, if_pos hdup]

end Sys2Proof.Machine
end

section
/-! PROOFS. What stages 2 to 5 and the statistics leave of rows and channels, and stage 2 of one slot. -/

namespace Sys2Proof.Machine

open Sys2Proof

/-! ## Stage 2 of one pixel (05 R257, R261) -/

/-- A pixel that is not damaged has arrived. -/
theorem goodAt_eq_some_of_undamaged {x : Slot} {p : Nat} (h : causeAt x p = none) : ∃ g, goodAt x p = some g := by
  have hsample : ∃ g, getI x.samples p none = some g := by
    unfold causeAt at h
    cases hs : getI x.samples p none with
    | none =>
      rw [hs] at h
      split at h <;> cases h
    | some g => exact ⟨g, rfl⟩
  obtain ⟨g, hg⟩ := hsample
  exact ⟨g, by simp [goodAt, h, hg]⟩

theorem undamaged_of_goodAt {x : Slot} {p : Nat} {g : Sample} (h : goodAt x p = some g) : causeAt x p = none := by
  unfold goodAt at h
  split at h
  · cases h
  · exact Option.not_isSome_iff_eq_none.1 ‹_›

/-- A pixel that an upset hit is damaged, whatever else befell it. -/
theorem causeAt_isSome_of_upset {x : Slot} {p : Nat} (h : p ∈ x.upset) : (causeAt x p).isSome = true := by
  unfold causeAt
  split
  · rfl
  · split
    · rfl
    · split
      · rfl
      · simp [h]

theorem concealed_conc (k : Int) (maxGap target : Nat) (a : Option Last) (b : Option (Int × Sample)) :
    (concealed k maxGap target a b).1.conc = true := by
  cases a with
  | none => rfl
  | some a =>
    cases b with
    | none => rfl
    | some b =>
      dsimp only [concealed]
      split <;> rfl

section Pixel

variable (h : Int) (maxGap target : Nat) (c : Channel) {x : Slot} (later : List Slot) {p : Nat}

theorem stage2Pixel_good {g : Sample} (hg : goodAt x p = some g) :
    stage2Pixel h maxGap target c x later p = (goodPixel g, none) := by
  unfold stage2Pixel
  rw [undamaged_of_goodAt hg, hg]

theorem stage2Pixel_damaged (hd : (causeAt x p).isSome = true) :
    (stage2Pixel h maxGap target c x later p).1.conc = true ∧ (stage2Pixel h maxGap target c x later p).2.isSome = true := by
  obtain ⟨cause, hc⟩ := Option.isSome_iff_exists.1 hd
  unfold stage2Pixel
  rw [hc]
  exact ⟨concealed_conc .., rfl⟩

/-- Stage 2 gives a cause and a method exactly to the damaged pixels. -/
theorem stage2Pixel_isSome : (stage2Pixel h maxGap target c x later p).2.isSome = (causeAt x p).isSome := by
  cases hc : causeAt x p with
  | none =>
    obtain ⟨g, hg⟩ := goodAt_eq_some_of_undamaged hc
    rw [stage2Pixel_good h maxGap target c later hg]
    rfl
  | some cause => exact (stage2Pixel_damaged h maxGap target c later (by rw [hc]; rfl)).2

end Pixel

/-! ## Stage 2 of one slot (05 R261, R262) -/

/-- The pixels of a slot after stage 2, with the cause and method of each damaged one. -/
def stage2Out (n : Nat) (x : Slot) (later : List Slot) (s : State) : List (Pixel × Option (Nat × Nat)) :=
  let c := plnChan s n
  (List.range x.samples.length).map (stage2Pixel (rowH s (c.view.getD 0)) (viewOf s (c.view.getD 0)).maxGap
    (levelTargetAt s (c.view.getD 0) x.spos) c x later)

/-- The scan line that a slot becomes. -/
def stage2Line (n : Nat) (x : Slot) (later : List Slot) (s : State) : ChanLine :=
  { k := x.k, spos := x.spos, scan := x.scan, pixels := (stage2Out n x later s).map (·.1), overAdm := x.overAdm
    damaged := slotDamaged x, fresh := x.fresh }

/-- A channel whose oldest slot has passed stage 2. -/
def Channel.passed (x : Slot) (later : List Slot) (line : ChanLine) (nconc : Nat) (c history : Channel) : Channel :=
  { c with slots := later, lines := c.lines ++ [line], history := nextHistory history x, conc := c.conc + BitVec.ofNat 64 nconc }

/-- Pixels that a pass counts in PLN_CONC: none in replace mode. -/
def stage2Count (n : Nat) (x : Slot) (later : List Slot) (s : State) : Nat :=
  if (plnChan s n).replace then 0 else ((stage2Out n x later s).filter (·.2.isSome)).length

theorem stage2_eq (n : Nat) (x : Slot) (later : List Slot) (s : State) : stage2 n x later s =
    settleRuns n (fun r => r.cause != 5) x.fresh
      (damageRanges 0 x.spos ((stage2Out n x later s).map fun o => recordCause n (plnChan s n).replace o.2))
      (modPlnChan n (fun c => c.passed x later (stage2Line n x later s) (stage2Count n x later s) (plnChan s n))
        (tapRecord 0 n 0 x.spos x.scan 0 x.samples.length (t0Data (plnChan s n) x) s)) := rfl

theorem stage2_keepsRows (n : Nat) (x : Slot) (later : List Slot) (s : State) : KeepsRows s (stage2 n x later s) := by
  rw [stage2_eq]
  exact ((tapRecord_keepsFlow ..).rows.trans (modPlnChan_keepsRows (by intro; rfl) n _)).trans (settleRuns_keepsFlow ..).rows

/-- The channel's slots, lines and count after stage 2 on its oldest slot. -/
theorem stage2_flow {n : Nat} {s : State} (hn : n < s.pln.chan.length) (x : Slot) (later : List Slot) :
    (plnChan (stage2 n x later s) n).flow =
      ((plnChan s n).passed x later (stage2Line n x later s) (stage2Count n x later s) (plnChan s n)).flow := by
  rw [stage2_eq, (settleRuns_keepsFlow ..).flow, plnChan_modPlnChan_self _ _ _ (by rwa [tapRecord_chan]),
    plnChan_congr (tapRecord_chan ..)]

theorem stage2Line_pixels_length (n : Nat) (x : Slot) (later : List Slot) (s : State) :
    (stage2Line n x later s).pixels.length = x.samples.length := by simp [stage2Line, stage2Out]

theorem stage2Line_pixels {n : Nat} {x : Slot} {p : Nat} (later : List Slot) (s : State) (hp : p < x.samples.length) :
    (stage2Line n x later s).pixels[p]? = some (stage2Pixel (rowH s ((plnChan s n).view.getD 0))
      (viewOf s ((plnChan s n).view.getD 0)).maxGap (levelTargetAt s ((plnChan s n).view.getD 0) x.spos) (plnChan s n) x later p).1 := by
  simp [stage2Line, stage2Out, hp]

/-- What PLN_CONC counts are the damaged pixels. -/
theorem stage2Count_eq (n : Nat) (x : Slot) (later : List Slot) (s : State) : stage2Count n x later s =
    if (plnChan s n).replace then 0 else ((List.range x.samples.length).filter fun p => (causeAt x p).isSome).length := by
  have hsel : ((·.2.isSome) : Pixel × Option (Nat × Nat) → Bool) ∘ stage2Pixel (rowH s ((plnChan s n).view.getD 0))
      (viewOf s ((plnChan s n).view.getD 0)).maxGap (levelTargetAt s ((plnChan s n).view.getD 0) x.spos) (plnChan s n) x later =
      fun p => (causeAt x p).isSome := funext fun p => stage2Pixel_isSome ..
  unfold stage2Count stage2Out
  dsimp only
  rw [List.filter_map, List.length_map, hsel]

/-- A closed oldest slot passes in replace mode, or once what it waits for is known. -/
theorem passSlot_passes {n : Nat} {s : State} {x : Slot} {later : List Slot} (hslots : (plnChan s n).slots = x :: later)
    (hclosed : x.closed = true)
    (hgo : (plnChan s n).replace = true ∨ concealReady (rowH s ((plnChan s n).view.getD 0)) x later = true) :
    passSlot n s = stage2 n x later s := by
  unfold passSlot
  dsimp only
  rw [hslots]
  refine if_pos ?_
  rw [hclosed, Bool.true_and, Bool.or_eq_true]
  exact hgo

theorem passSlot_keepsRows (n : Nat) (s : State) : KeepsRows s (passSlot n s) := by
  unfold passSlot
  dsimp only
  split
  · exact .refl s
  · split
    · exact stage2_keepsRows ..
    · exact .refl s

/-! ## Before a view line (05 R249, R258) -/

theorem passClean_keepsRows (k : Int) (ns : List Nat) (s : State) : KeepsRows s (passClean k ns s) := by
  induction ns generalizing s with
  | nil => exact .refl s
  | cons n r ih =>
    refine KeepsRows.trans ?_ (ih _)
    split
    · split
      · exact passSlot_keepsRows n s
      · exact .refl s
    · exact .refl s

theorem dropLines_keepsRows (l : List (Nat × ChanLine)) (s : State) : KeepsRows s (dropLines l s) := by
  induction l generalizing s with
  | nil => exact .refl s
  | cons e r ih => exact (modPlnChan_keepsRows (by intro; rfl) e.1 s).trans (ih _)

/-- What each entry's own change keeps, every entry of the table keeps. -/
theorem getI_mapIdx_keeps {α β : Type} (g : α → β) {f : Nat → α → α} (hf : ∀ i x, g (f i x) = g x) (l : List α) (m : Nat) (d : α) :
    g (getI (l.mapIdx f) m d) = g (getI l m d) := by
  simp only [getI, List.getD_eq_getElem?_getD, List.getElem?_mapIdx]
  cases l[m]? with
  | none => rfl
  | some x => exact hf m x

theorem applyViewSet_row (v : Nat) (what : Reprog) (x : View) : (applyViewSet v what x).row = x.row := by
  unfold applyViewSet
  split
  · split <;> rfl
  · split <;> rfl
  · rfl

theorem applyCal_flow (c : Nat) (what : Reprog) (x : Channel) : (applyCal c what x).flow = x.flow := by
  unfold applyCal
  split
  · split_ifs <;> rfl
  · rfl

theorem applyImage_keepsFlow (what : Reprog) (s : State) : KeepsFlow s (applyImage what s) :=
  ⟨List.length_mapIdx .., fun v => getI_mapIdx_keeps View.row (fun v x => applyViewSet_row v what x) _ v _,
    fun n => getI_mapIdx_keeps Channel.flow (fun c x => applyCal_flow c what x) _ n _⟩

theorem applyImages_keepsFlow (l : List PendingReprog) (s : State) : KeepsFlow s (applyImages l s) := by
  induction l generalizing s with
  | nil => exact .refl s
  | cons r t ih => exact (applyImage_keepsFlow r.what s).trans (ih _)

theorem settleImages_keepsFlow (v : Nat) (sp : Word) (s : State) : KeepsFlow s (settleImages v sp s) := by
  refine KeepsFlow.trans ?_ (applyImages_keepsFlow ..)
  exact .of_tables rfl rfl

/-! ## Stages 3 to 7 (05 R263 to R280) -/

theorem stages35_keepsRows (n : Nat) (v : View) (x : ChanLine) (s : State) : KeepsRows s (stages35 n v x s).2 :=
  (((tapRecord_keepsFlow ..).rows.trans (modPlnChan_keepsRows (by intro; rfl) n _)).trans (settleRuns_keepsFlow ..).rows).trans
    (tapRecord_keepsFlow ..).rows

theorem allStages35_keepsRows (v : View) (l : List (Nat × ChanLine)) (s : State) : KeepsRows s (allStages35 v l s).2 := by
  induction l generalizing s with
  | nil => exact .refl s
  | cons e r ih => exact (stages35_keepsRows e.1 v e.2 s).trans (ih _)

theorem normalise_length (v : View) (l : List Pixel) : (normalise v l).1.length = l.length := List.length_mapIdx ..

theorem stitch_length (width : Nat) (ls : List (Channel × List Pixel)) : (stitch width ls).length = width := by simp [stitch]

/-! ## Statistics blocks (05 R287 to R289) -/

theorem blockRecord_keepsFlow (v : Nat) (s : State) : KeepsFlow s (blockRecord v s) := by
  unfold blockRecord
  dsimp only
  split
  · exact .refl s
  · exact (statWrite_keepsFlow ..).trans (modView_keepsFlow (by intro; rfl) v _)

theorem blockRecord_if_keepsFlow (c : Prop) [Decidable c] (v : Nat) (s : State) : KeepsFlow s (if c then blockRecord v s else s) := by
  split
  · exact blockRecord_keepsFlow v s
  · exact .refl s

theorem statLine_keepsFlow (v : Nat) (fresh : Bool) (y : ViewLine) (s : State) : KeepsFlow s (statLine v fresh y s) :=
  ((blockRecord_if_keepsFlow _ v s).trans (modView_keepsFlow (by intro; rfl) v _)).trans (blockRecord_if_keepsFlow _ v _)

end Sys2Proof.Machine
end

section
/-! PROOFS. SLOT_TIMEOUT, SCAN_LINE_CONCEAL, SCAN_LINE_PROCESS and TILE_PLACE. -/

namespace Sys2Proof.Machine

open Sys2Proof

/-! ## SLOT_TIMEOUT (05 R254) -/

/-- The slots of a channel with one of them closed. -/
def Channel.closeSlot (x : Slot) (c : Channel) : Channel :=
  { c with slots := c.slots.map fun y => if y = x then { y with closed := true } else y }

theorem exec_slotTimeout {c : Nat} {k : Int} {s : State} {x : Slot}
    (h : (plnChan s c).slots.find? (fun x => x.k == k && !x.closed) = some x) :
    exec (.slotTimeout c k) s = .next (modPlnChan c (Channel.closeSlot x) (s.at_ (slotLimit x))) := by
  change execSlotTimeout c k s = _
  unfold execSlotTimeout
  rw [h]
  rfl

theorem exec_slotTimeout_none {c : Nat} {k : Int} {s : State}
    (h : (plnChan s c).slots.find? (fun x => x.k == k && !x.closed) = none) : exec (.slotTimeout c k) s = .next s := by
  change execSlotTimeout c k s = _
  unfold execSlotTimeout
  rw [h]

/-! ## SCAN_LINE_CONCEAL (05 R257, R261, R262) -/

theorem exec_scanLineConceal_off {s : State} (h : imgOn s = false) (c : Nat) (q : UpsetLine) :
    exec (.scanLineConceal c q) s = .next s := by
  change execScanLineConceal c q s = _
  unfold execScanLineConceal
  rw [h]
  rfl

/-- A slot after an upset of the buffer of scan line `k`. -/
def Slot.hit (k : Int) (upset : List Nat) (x : Slot) : Slot := if x.k = k then { x with upset := x.upset ++ upset } else x

theorem Slot.hit_k (k : Int) (upset : List Nat) (x : Slot) : (x.hit k upset).k = x.k := by
  unfold Slot.hit
  split <;> rfl

theorem upsetSlot_eq (c : Nat) (k : Int) (upset : List Nat) (s : State) : upsetSlot c k upset s =
    modPlnChan c (fun ch => { ch with slots := ch.slots.map (Slot.hit k upset) }) s := rfl

/-- Every pixel the upset names is damaged in the slot of its scan line. -/
theorem causeAt_isSome_of_upsetSlot {c : Nat} {upset : List Nat} {s : State} {x : Slot} (hc : c < s.pln.chan.length)
    (hx : x ∈ (plnChan (upsetSlot c x.k upset s) c).slots) {p : Nat} (hp : p ∈ upset) : (causeAt x p).isSome = true := by
  rw [upsetSlot_eq, plnChan_modPlnChan_self s c _ hc] at hx
  obtain ⟨y, -, hy⟩ := List.mem_map.1 hx
  have hk : y.k = x.k := (Slot.hit_k x.k upset y).symm.trans (congrArg Slot.k hy)
  have hupset : x.upset = y.upset ++ upset := (congrArg Slot.upset hy).symm.trans (congrArg Slot.upset (if_pos hk))
  exact causeAt_isSome_of_upset (by rw [hupset]; exact List.mem_append_right _ hp)

theorem exec_scanLineConceal_passes {c : Nat} {upset : List Nat} {s : State} {x : Slot} {later : List Slot}
    (himg : imgOn s = true) (hslots : (plnChan (upsetSlot c x.k upset s) c).slots = x :: later)
    (hpass : passSlot c (upsetSlot c x.k upset s) = stage2 c x later (upsetSlot c x.k upset s)) :
    exec (.scanLineConceal c ⟨x.k, upset⟩) s = .next (stage2 c x later (upsetSlot c x.k upset s)) := by
  change execScanLineConceal c ⟨x.k, upset⟩ s = _
  unfold execScanLineConceal
  rw [himg]
  dsimp only
  rw [hslots]
  exact congrArg Host.Outcome.next ((if_pos rfl).trans hpass)

/-- A closed oldest slot becomes the channel's last line. -/
theorem scanLineConceal_passes {c : Nat} {upset : List Nat} {s : State} {x : Slot} {later : List Slot} (hc : c < s.pln.chan.length)
    (himg : imgOn s = true) (hslots : (plnChan (upsetSlot c x.k upset s) c).slots = x :: later) (hclosed : x.closed = true)
    (hgo : (plnChan s c).replace = true ∨ concealReady (rowH s ((plnChan s c).view.getD 0)) x later = true) :
    ∃ u line, exec (.scanLineConceal c ⟨x.k, upset⟩) s = .next u ∧ (plnChan u c).slots = later ∧
      (plnChan u c).lines = (plnChan s c).lines ++ [line] ∧ line.k = x.k ∧ line.spos = x.spos ∧ line.scan = x.scan ∧
      line.pixels.length = x.samples.length ∧ (∀ p ∈ upset, (causeAt x p).isSome = true) ∧
      (∀ p g, goodAt x p = some g → p < x.samples.length → line.pixels[p]? = some (goodPixel g)) ∧
      (∀ p, p < x.samples.length → (causeAt x p).isSome = true → (line.pixels[p]?).map (·.conc) = some true) ∧
      (plnChan u c).conc = (plnChan s c).conc + BitVec.ofNat 64 (if (plnChan s c).replace then 0
        else ((List.range x.samples.length).filter fun p => (causeAt x p).isSome).length) := by
  let t := upsetSlot c x.k upset s
  have hkeep : (plnChan t c).replace = (plnChan s c).replace ∧ (plnChan t c).view = (plnChan s c).view ∧
      (plnChan t c).lines = (plnChan s c).lines ∧ (plnChan t c).conc = (plnChan s c).conc := by
    have h := plnChan_modPlnChan_self s c (fun ch => { ch with slots := ch.slots.map (Slot.hit x.k upset) }) hc
    simp only [t, upsetSlot_eq, h, and_self]
  obtain ⟨hreplace, hview, hlines, hconc⟩ := hkeep
  have hct : c < t.pln.chan.length := by simpa [t, upsetSlot_eq] using hc
  have hpass : passSlot c t = stage2 c x later t := passSlot_passes hslots hclosed (by rw [hreplace, hview]; exact hgo)
  have hflow := stage2_flow hct x later
  simp only [Channel.flow, Channel.passed, Prod.mk.injEq] at hflow
  obtain ⟨hs, hl, hn, -⟩ := hflow
  rw [hlines] at hl
  rw [hconc, stage2Count_eq, hreplace] at hn
  refine ⟨_, stage2Line c x later t, exec_scanLineConceal_passes himg hslots hpass, hs, hl, rfl, rfl, rfl,
    stage2Line_pixels_length c x later t, fun p hp => ?_, fun p g hg hp => ?_, fun p hp hd => ?_, hn⟩
  · exact causeAt_isSome_of_upsetSlot hc (by rw [hslots]; exact List.mem_cons_self) hp
  · rw [stage2Line_pixels later t hp, stage2Pixel_good _ _ _ _ later hg]
  · rw [stage2Line_pixels later t hp]
    exact congrArg some (stage2Pixel_damaged _ _ _ _ later hd).1

/-! ## SCAN_LINE_PROCESS (05 R258, R264) -/

theorem exec_scanLineProcess {v : Nat} {k : Int} {s : State} {l : List (Nat × ChanLine)} (himg : imgOn s = true)
    (hconf : (viewOf s v).configured = true) (hl : linesAt (passClean k (viewChans s v) s) v k = some l) :
    exec (.scanLineProcess v k) s = .next (processLine v k l (passClean k (viewChans s v) s)) := by
  change execScanLineProcess v k s = _
  unfold execScanLineProcess
  rw [himg, hconf]
  dsimp only
  rw [hl]
  rfl

theorem exec_scanLineProcess_idle {v : Nat} {k : Int} {s : State}
    (h : imgOn s = false ∨ (viewOf s v).configured = false ∨ linesAt (passClean k (viewChans s v) s) v k = none) :
    exec (.scanLineProcess v k) s = .next s := by
  change execScanLineProcess v k s = _
  unfold execScanLineProcess
  rcases h with h | h | h
  · rw [h]
    rfl
  · rw [h, Bool.not_false, Bool.or_true]
    rfl
  · dsimp only
    rw [h]
    exact congrArg Host.Outcome.next (ite_self s)

/-- A view line has a line of each of its channels, and a view with lines has channels. -/
theorem linesAt_ne_nil {s : State} {v : Nat} {k : Int} {l : List (Nat × ChanLine)} (h : linesAt s v k = some l) : l ≠ [] := by
  rintro rfl
  unfold linesAt at h
  dsimp only at h
  split at h
  · cases h
  · rename_i hsome
    split at h
    · rename_i hlen
      rw [Option.some.inj h, List.length_nil, eq_comm, List.length_eq_zero_iff] at hlen
      exact hsome (by rw [hlen]; rfl)
    · cases h

theorem KeepsRows.viewChans {s t : State} (h : KeepsRows s t) (v : Nat) : viewChans t v = viewChans s v := by
  have hview : ∀ n, (plnChan t n).view = (plnChan s n).view := fun n => congrArg Prod.fst (h.role n)
  simp only [Machine.viewChans, hview]

theorem KeepsRows.replaceView {s t : State} (h : KeepsRows s t) (v : Nat) : replaceView t v = replaceView s v := by
  have hmode : ∀ n, (plnChan t n).replace = (plnChan s n).replace := fun n => congrArg Prod.snd (h.role n)
  simp only [Machine.replaceView, h.viewChans, hmode]

theorem KeepsRows.width {s t : State} (h : KeepsRows s t) (v : Nat) : (viewOf t v).width = (viewOf s v).width :=
  congrArg (·.2.1) (h.row v)
theorem KeepsRows.rowLines {s t : State} (h : KeepsRows s t) (v : Nat) : (viewOf t v).rowLines = (viewOf s v).rowLines :=
  congrArg (·.2.2.2.2.1) (h.row v)
theorem KeepsRows.replaced {s t : State} (h : KeepsRows s t) (v : Nat) : (viewOf t v).replaced = (viewOf s v).replaced :=
  congrArg (·.2.2.2.2.2) (h.row v)

/-- The view line joins the row, with the view's width of pixels (05 R258). -/
theorem viewLine_joins {v : Nat} {s : State} (hv : v < s.pln.view.length) (k : Int) (l : List (Nat × ChanLine)) (x : ChanLine) :
    ∃ y, (viewOf (viewLine v k l x s) v).rowLines = (viewOf s v).rowLines ++ [y] ∧ y.k = k ∧ y.pixels.length = (viewOf s v).width := by
  have hsettle := (settleImages_keepsFlow v x.spos s).rows
  unfold viewLine
  dsimp only
  generalize settleImages v x.spos s = s0 at hsettle ⊢
  have hstages := hsettle.trans (allStages35_keepsRows (viewOf s0 v) l s0)
  generalize allStages35 (viewOf s0 v) l s0 = e at hstages ⊢
  have hlen : (normalise (viewOf s0 v) (stitch (viewOf s0 v).width e.1)).1.length = (viewOf s v).width := by
    rw [normalise_length, stitch_length, hsettle.width]
  generalize normalise (viewOf s0 v) (stitch (viewOf s0 v).width e.1) = l7 at hlen ⊢
  refine ⟨{ k := k, spos := x.spos, scan := x.scan, pixels := l7.1, overAdm := l.any (·.2.overAdm) }, ?_, rfl, hlen⟩
  rw [(statLine_keepsFlow ..).rows.rowLines, viewOf_modView_self _ _ _ (by simpa using hstages.views ▸ hv),
    viewOf_congr (tapRecord_view ..), viewOf_congr (tapRecord_view ..), hstages.rowLines]

theorem skipGap_keepsRows (l : List (Nat × ChanLine)) (s : State) : KeepsRows s (skipGap l s) := by
  induction l generalizing s with
  | nil => exact .refl s
  | cons e r ih => exact (modPlnChan_keepsRows (by intro; rfl) e.1 s).trans (ih _)

/-- A skipped line is counted and leaves the row's lines (05 R264). -/
theorem skipLine_counts {v : Nat} {s : State} (hv : v < s.pln.view.length) (l : List (Nat × ChanLine)) :
    (viewOf (skipLine v l s) v).replaced = satInc (viewOf s v).replaced ∧
      (viewOf (skipLine v l s) v).rowLines = (viewOf s v).rowLines := by
  have hkeep := (blockRecord_if_keepsFlow (l.any (·.2.fresh) = true) v s).rows.trans (skipGap_keepsRows l _)
  unfold skipLine
  dsimp only
  rw [viewOf_modView_self _ _ _ (hkeep.views ▸ hv)]
  exact ⟨congrArg satInc (hkeep.replaced v), hkeep.rowLines v⟩

/-- A line of another row waits. -/
theorem processLine_waits {v : Nat} {k : Int} {l : List (Nat × ChanLine)} {s : State}
    (h : rowTakes s v k (l.any (·.2.fresh)) = false) : processLine v k l s = s := by
  cases l with
  | nil => rfl
  | cons e r =>
    unfold processLine
    dsimp only
    rw [h]
    rfl

/-- One that the row takes is skipped in replace mode where it is damaged, and else becomes the view's next line. -/
theorem processLine_takes {v : Nat} {k : Int} {l : List (Nat × ChanLine)} {s : State} (hl : l ≠ [])
    (h : rowTakes s v k (l.any (·.2.fresh)) = true) : ∃ x, processLine v k l s =
      if replaceView s v && l.any (·.2.damaged) then skipLine v l (dropLines l s) else viewLine v k l x (dropLines l s) := by
  cases l with
  | nil => exact absurd rfl hl
  | cons e r =>
    refine ⟨e.2, ?_⟩
    unfold processLine
    dsimp only
    rw [h]
    rfl

/-- What the lines of a view at one index become. -/
theorem scanLineProcess_cases {v : Nat} {k : Int} {s : State} {l : List (Nat × ChanLine)} (hv : v < s.pln.view.length)
    (himg : imgOn s = true) (hconf : (viewOf s v).configured = true)
    (hl : linesAt (passClean k (viewChans s v) s) v k = some l) :
    (rowTakes (passClean k (viewChans s v) s) v k (l.any (·.2.fresh)) = false →
      exec (.scanLineProcess v k) s = .next (passClean k (viewChans s v) s)) ∧
    (rowTakes (passClean k (viewChans s v) s) v k (l.any (·.2.fresh)) = true →
      (replaceView s v = false ∨ l.any (·.2.damaged) = false →
        ∃ u y, exec (.scanLineProcess v k) s = .next u ∧ (viewOf u v).rowLines = (viewOf s v).rowLines ++ [y] ∧ y.k = k ∧
          y.pixels.length = (viewOf s v).width) ∧
      (replaceView s v = true → l.any (·.2.damaged) = true →
        ∃ u, exec (.scanLineProcess v k) s = .next u ∧ (viewOf u v).replaced = satInc (viewOf s v).replaced ∧
          (viewOf u v).rowLines = (viewOf s v).rowLines)) := by
  have hclean := passClean_keepsRows k (viewChans s v) s
  have hexec := exec_scanLineProcess himg hconf hl
  generalize passClean k (viewChans s v) s = t at hclean hexec hl ⊢
  have hdrop := hclean.trans (dropLines_keepsRows l t)
  have hvd : v < (dropLines l t).pln.view.length := hdrop.views ▸ hv
  refine ⟨fun hwait => by rw [hexec, processLine_waits hwait], fun htake => ?_⟩
  obtain ⟨x, hx⟩ := processLine_takes (linesAt_ne_nil hl) htake
  rw [hclean.replaceView] at hx
  rw [hexec, hx]
  refine ⟨fun hgood => ?_, fun hreplace hdamaged => ?_⟩
  · have hcond : (replaceView s v && l.any (·.2.damaged)) = false := by rcases hgood with h | h <;> simp [h]
    obtain ⟨y, hrow, hk, hlen⟩ := viewLine_joins hvd k l x
    rw [hdrop.rowLines] at hrow
    rw [hdrop.width] at hlen
    exact ⟨_, y, by rw [hcond, if_neg Bool.false_ne_true], hrow, hk, hlen⟩
  · obtain ⟨hcount, hrow⟩ := skipLine_counts hvd l
    rw [hdrop.replaced] at hcount
    rw [hdrop.rowLines] at hrow
    exact ⟨_, by rw [hreplace, hdamaged, Bool.true_and, if_pos rfl], hcount, hrow⟩

/-! ## TILE_PLACE (05 R259, R260) -/

theorem exec_tilePlace_idle {v col : Nat} {j : Int} {s : State} (h : imgOn s = false ∨ (viewOf s v).rowOpen ≠ some j ∨
    rowDone s v j = false ∨ tileCols s v ≤ col ∨ col ∈ (viewOf s v).placed) : exec (.tilePlace v j col) s = .next s := by
  change execTilePlace v j col s = _
  unfold execTilePlace
  refine congrArg Host.Outcome.next (if_neg ?_)
  simp only [Bool.and_eq_true, beq_iff_eq, decide_eq_true_eq, Bool.not_eq_true', List.contains_eq_mem, decide_eq_false_iff_not]
  rintro ⟨⟨⟨⟨himg, hopen⟩, hdone⟩, hcol⟩, hnew⟩
  rcases h with h | h | h | h | h
  · exact Bool.false_ne_true (h.symm.trans himg)
  · exact h hopen
  · exact Bool.false_ne_true (h.symm.trans hdone)
  · exact hcol.not_ge h
  · exact hnew h

theorem exec_tilePlace {v col : Nat} {j : Int} {s : State} (himg : imgOn s = true) (hopen : (viewOf s v).rowOpen = some j)
    (hdone : rowDone s v j = true) (hcol : col < tileCols s v) (hnew : col ∉ (viewOf s v).placed) :
    exec (.tilePlace v j col) s = .next (placeTile v j col s) := by
  change execTilePlace v j col s = _
  unfold execTilePlace
  refine congrArg Host.Outcome.next (if_pos ?_)
  simp [himg, hopen, hdone, hcol, hnew]

/-- A view one of whose columns has been placed. -/
def View.place (col : Nat) (x : View) : View := { x with placed := x.placed ++ [col] }

/-- Where a finished tile goes is no matter of the views. -/
theorem placeTile_eq (v : Nat) (j : Int) (col : Nat) (s : State) :
    ∃ u, placeTile v j col s = closeRow v u ∧ u.pln.view = (modView v (View.place col) s).pln.view := by
  refine ⟨_, rfl, ?_⟩
  rw [tapRecord_view, (capture_frame _ _ (List.Subset.refl _) (Frame.refl _ _)).pln_eq (by decide),
    (toRecipes_frame _ _ _ _ (List.Subset.refl _) (Frame.refl _ _)).pln_eq (by decide)]
  split <;> rfl

theorem tileCols_congr {s t : State} {v : Nat} (hw : (viewOf t v).width = (viewOf s v).width)
    (ht : (viewOf t v).tileW = (viewOf s v).tileW) : tileCols t v = tileCols s v := by rw [tileCols, tileCols, hw, ht]

/-- After its last column the row closes; until then the column is noted (05 R259, R260). -/
theorem placeTile_cases {v : Nat} {s : State} (hv : v < s.pln.view.length) (j : Int) (col : Nat) :
    let u := placeTile v j col s
    ((viewOf s v).placed.length + 1 < tileCols s v →
      (viewOf u v).placed = (viewOf s v).placed ++ [col] ∧ (viewOf u v).rowOpen = (viewOf s v).rowOpen) ∧
    (tileCols s v ≤ (viewOf s v).placed.length + 1 →
      (viewOf u v).rowOpen = none ∧ (viewOf u v).rowLines = [] ∧ (viewOf u v).placed = []) := by
  obtain ⟨t, ht, hview⟩ := placeTile_eq v j col s
  have hnoted : viewOf t v = (viewOf s v).place col := (viewOf_congr hview v).trans (viewOf_modView_self s v _ hv)
  have hcols : tileCols t v = tileCols s v := tileCols_congr (by rw [hnoted]; rfl) (by rw [hnoted]; rfl)
  have hlen : (viewOf t v).placed.length = (viewOf s v).placed.length + 1 := by rw [hnoted]; exact List.length_append
  have hvt : v < t.pln.view.length := by rw [hview, modView_length]; exact hv
  dsimp only
  rw [ht, closeRow, hcols, hlen]
  refine ⟨fun hmore => ?_, fun hlast => ?_⟩
  · rw [if_pos hmore, hnoted]
    exact ⟨rfl, rfl⟩
  · rw [if_neg hlast.not_gt, viewOf_modView_self _ _ _ hvt]
    exact ⟨rfl, rfl, rfl⟩

/-- Settles O27: each of the four commands, where it has work and where it has none. -/
theorem scanLinesThroughThePipeline : Obligations.ScanLinesThroughThePipeline := by
  unfold Obligations.ScanLinesThroughThePipeline
  refine ⟨fun c k s => ⟨fun x hs hc hx => ?timeout, exec_slotTimeout_none⟩,
    fun c k upset s h => exec_scanLineConceal_off h c _,
    fun c upset s x later hs hc himg hslots hclosed hgo => scanLineConceal_passes (by rwa [hs.channels]) himg hslots hclosed hgo,
    fun v k s l hs hv himg hconf hl => scanLineProcess_cases (by rwa [hs.views]) himg hconf hl,
    fun v k s h => exec_scanLineProcess_idle h,
    fun v col j s hs hv himg hopen hdone hcol hnew => ?place, fun v col j s h => exec_tilePlace_idle h⟩
  case timeout =>
    refine ⟨_, exec_slotTimeout hx, ?_, rfl, fun j hj => plnChan_modPlnChan_ne (s.at_ _) c j _ hj.symm,
      modPlnChan_frame _ _ _ (by decide) (State.at__frame s _ (by decide) (Frame.refl _ s))⟩
    rw [plnChan_modPlnChan_self (s.at_ _) c _ (by rw [← hs.channels] at hc; exact hc)]
    rfl
  case place =>
    obtain ⟨hmore, hlast⟩ := placeTile_cases (hs.views ▸ hv) j col
    rw [hopen] at hmore
    exact ⟨_, exec_tilePlace himg hopen hdone hcol hnew, hmore, hlast,
      placeTile_frame v j col s (List.Subset.refl _) (Frame.refl _ s)⟩

end Sys2Proof.Machine
end

section
/-! PROOFS. Finished tiles and their flags, and the bounds of normalisation and statistics. -/

namespace Sys2Proof.Machine

open Sys2Proof

/-! ## Tiles (05 R281 to R284) -/

/-- The lowest flag of a register is its bit 0. -/
theorem bit_zero_flag (b : Bool) (x y z : Nat) : bit (b2n b + 2 * x + 4 * y + 8 * z) 0 = b := by
  have hodd : (b2n b + 2 * x + 4 * y + 8 * z) / 2 ^ 0 % 2 = b2n b := by
    have hb : b2n b < 2 := by cases b <;> decide
    rw [Nat.pow_zero, Nat.div_one]
    omega
  unfold bit
  rw [hodd]
  cases b <;> rfl

theorem tileLine_length (col w : Nat) (y : Option ViewLine) : (tileLine col w y).length = w := by
  cases y <;> simp [tileLine]

/-- The pixels of a tile, line by line. -/
def tilePixels (s : State) (v : Nat) (j : Int) (col : Nat) : List (List Pixel) :=
  ((List.range (rowH s v)).map fun i => rowLine s v j i).map (tileLine col (viewOf s v).tileW)

theorem tilePixels_length (s : State) (v : Nat) (j : Int) (col : Nat) : (tilePixels s v j col).length = rowH s v := by
  simp [tilePixels]

/-- A tile is as wide and as high as its view says. -/
theorem tilePixels_flatten_length (s : State) (v : Nat) (j : Int) (col : Nat) :
    (tilePixels s v j col).flatten.length = rowH s v * (viewOf s v).tileW := by
  simp [tilePixels, List.length_flatten, Function.comp_def, tileLine_length]

theorem buildTile_lflags (s : State) (v : Nat) (j : Int) (col : Nat) :
    (buildTile s v j col).lflags = (tilePixels s v j col).map lineFlags := rfl

theorem buildTile_data (s : State) (v : Nat) (j : Int) (col : Nat) :
    (buildTile s v j col).data = (tilePixels s v j col).flatten.map fun p => elementOf (viewOf s v).tileFmt p.value := rfl

/-- CONC_OVER of a tile. -/
def concOver (s : State) (v : Nat) (t : Tile) : Bool :=
  decide ((viewOf s v).concLimit * (t.tileW * t.tileH - t.padPix) < t.concPix * 1000)

theorem buildTile_holdReason (s : State) (v : Nat) (j : Int) (col : Nat) :
    (buildTile s v j col).holdReason = b2n (concOver s v (buildTile s v j col)) := rfl

/-- CONC_OVER is the lowest of the tile's flags. -/
theorem bit_buildTile_tflags (s : State) (v : Nat) (j : Int) (col : Nat) :
    bit (buildTile s v j col).tflags 0 = concOver s v (buildTile s v j col) := bit_zero_flag _ _ _ _

/-- A CONC_LIMIT above 1,000 is out of range, whatever else is. -/
theorem viewBad_isSome_of_concLimit {b : Bytes} (h : 1000 < fld b 10 2) : ∃ off, viewBad b = some off := by
  rw [← Option.isSome_iff_exists]
  unfold viewBad
  split_ifs <;> rfl

theorem exec_plnViewConfig_bad {r : Ref} {p : Packet} {s : State} (h : opStarts 0x0503 r p s = true) {off : Nat}
    (hbad : viewBad p.params = some off) : exec (.plnViewConfig r) s = .next (refuse p stBAD_PARAM off s) := by
  refine congrArg Host.Outcome.next ((runOp_starts h _).trans ?_)
  dsimp only
  rw [hbad]

/-- Settles O28: the lowest flag of a tile, its sizes, and the limit's range. -/
theorem tilesCarryTheirFlags : Obligations.TilesCarryTheirFlags := by
  unfold Obligations.TilesCarryTheirFlags
  refine ⟨fun s v col j => ⟨?_, ?_, ?_, ?_, rfl, rfl, rfl, rfl⟩, fun r p s h hlimit => ?_⟩
  · rw [bit_buildTile_tflags, concOver, decide_eq_true_iff]
  · rw [bit_buildTile_tflags, buildTile_holdReason, b2n]
  · rw [buildTile_lflags, List.length_map, tilePixels_length]
    rfl
  · rw [buildTile_data, List.length_map, tilePixels_flatten_length]
    rfl
  · obtain ⟨off, hoff⟩ := viewBad_isSome_of_concLimit hlimit
    exact ⟨off, exec_plnViewConfig_bad h hoff⟩

/-! ## The auto-level rule (05 R277, R278) -/

@[simp] theorem noticeUnit_pln (code : Half) (data : Bytes) (s : State) : (noticeUnit code data s).pln = s.pln :=
  (noticeUnitAt_frame_self code (spos s) data s).pln_eq (by decide)

/-- The gain of a view and its bounds. -/
def View.gain (x : View) : Nat × Nat × Nat := (x.g, x.grange)

/-- A view that takes the gain `raw`, held within bounds, after a window with valid pixels. -/
def View.setGain (bounds : Nat × Nat) (raw : Int) (x : View) : View :=
  { x with
    g := (clampI bounds.1 bounds.2 raw).toNat, pinned := decide (raw < bounds.1) || decide ((bounds.2 : Int) < raw)
    levelSum := (0, 0) }

theorem autoLevel_eq (v : Nat) (s : State) : autoLevel v s =
    let x := viewOf s v
    let raw := levelRaw x
    let t := modView v (View.setGain x.grange raw) s
    if x.levelSum.2 = 0 then s
    else if (decide (raw < x.grange.1) || decide ((x.grange.2 : Int) < raw)) && quiet x.pinNotice (sTicks 1) s.now then
      noticeUnit 0x0C01 (le2 (0x0500 + v) ++ le1 (b2n (decide ((x.grange.2 : Int) < raw))))
        (modView v (fun x => { x with pinNotice := some s.now }) t)
    else t := rfl

theorem autoLevel_idle {v : Nat} {s : State} (h : (viewOf s v).levelSum.2 = 0) : autoLevel v s = s := if_pos h

/-- LOOP_PINNED and its time are no matter of any gain (05 R279). -/
theorem autoLevel_gain {v : Nat} {s : State} (h : (viewOf s v).levelSum.2 ≠ 0) (w : Nat) : (viewOf (autoLevel v s) w).gain =
    (viewOf (modView v (View.setGain (viewOf s v).grange (levelRaw (viewOf s v))) s) w).gain := by
  rw [autoLevel_eq]
  dsimp only
  rw [if_neg h]
  split
  · rw [viewOf_congr (congrArg Planish.view (noticeUnit_pln ..))]
    exact viewOf_modView_keeps View.gain (by intro; rfl) _ v w
  · rfl

theorem setGain_bounds {x : View} (h : x.grange.1 ≤ x.grange.2) (raw : Int) :
    x.grange.1 ≤ (x.setGain x.grange raw).g ∧ (x.setGain x.grange raw).g ≤ x.grange.2 := by
  obtain ⟨hlow, hhigh⟩ := clampI_bounds (Int.ofNat_le.2 h) raw
  have hg : (x.setGain x.grange raw).g = (clampI x.grange.1 x.grange.2 raw).toNat := rfl
  omega

/-- The view's own gain stays within its bounds, and no other view's gain changes. -/
theorem autoLevel_bounds {v : Nat} {s : State} (hv : v < s.pln.view.length) (hrange : (viewOf s v).grange.1 ≤ (viewOf s v).grange.2)
    (hlow : (viewOf s v).grange.1 ≤ (viewOf s v).g) (hhigh : (viewOf s v).g ≤ (viewOf s v).grange.2) :
    (viewOf (autoLevel v s) v).grange.1 ≤ (viewOf (autoLevel v s) v).g ∧
    (viewOf (autoLevel v s) v).g ≤ (viewOf (autoLevel v s) v).grange.2 ∧
    (∀ w, w ≠ v → (viewOf (autoLevel v s) w).g = (viewOf s w).g) := by
  by_cases hn : (viewOf s v).levelSum.2 = 0
  · rw [autoLevel_idle hn]
    exact ⟨hlow, hhigh, fun _ _ => rfl⟩
  · have hself := autoLevel_gain hn v
    rw [viewOf_modView_self s v _ hv] at hself
    simp only [View.gain, Prod.mk.injEq] at hself
    obtain ⟨hg, hbounds⟩ := hself
    have hheld := setGain_bounds hrange (levelRaw (viewOf s v))
    rw [hg, hbounds]
    refine ⟨hheld.1, hheld.2, fun w hw => ?_⟩
    have hother := autoLevel_gain hn w
    rw [viewOf_modView_ne s v w _ hw.symm] at hother
    exact congrArg Prod.fst hother

/-! ## What concealed and uncovered columns do (05 R263, R275, R276) -/

theorem stitchColumn_uncovered {ls : List (Channel × List Pixel)} {x : Nat} (h : ∀ cl ∈ ls, resample cl.1 cl.2 x = none) :
    stitchColumn ls x = padPixel := by
  have hits : (ls.filterMap fun cl => (resample cl.1 cl.2 x).map fun p => (cl.1, p)) = [] :=
    List.filterMap_eq_nil_iff.2 fun cl hcl => by rw [h cl hcl, Option.map_none]
  unfold stitchColumn
  dsimp only
  rw [hits]

theorem temporal_concealed {x : Pixel} (h : x.conc = true) (a gate maxGap sv : Nat) (gap : Int) :
    (temporal a gate maxGap (some (sv, gap)) x).2 = some (sv, gap + 1) := by
  unfold temporal
  dsimp only
  rw [h]
  rfl

theorem temporal_concealed_first {x : Pixel} (h : x.conc = true) (a gate maxGap : Nat) :
    (temporal a gate maxGap none x).2 = none := by
  unfold temporal
  dsimp only
  rw [h]
  rfl

theorem nextProfile_invalid {x : Pixel} (h : (x.conc || x.repl || x.sat || x.pad) = true) (pb : Nat) (m : Option Nat) :
    nextProfile pb m x = m := by
  unfold nextProfile validPx
  rw [h]
  rfl

/-- A record in the ring or not, by the space in it (05 R290). -/
theorem statWrite_cases {v : Nat} {s : State} (hv : v < s.pln.view.length) (ty : Nat) (sp : Word) (body : Bytes) :
    (viewOf (statWrite v ty sp body s) v).statSeq = (viewOf s v).statSeq + 1 ∧
    ((∀ o, objOf s (viewOf s v).statRing = some o →
        o.lost = true ∨ o.size ≤ statUsed (viewOf s v) o.size + 16 + body.length) →
      (viewOf (statWrite v ty sp body s) v).statLost = satInc (viewOf s v).statLost ∧ (statWrite v ty sp body s).draw = s.draw) ∧
    (∀ o, objOf s (viewOf s v).statRing = some o → o.lost = false →
      statUsed (viewOf s v) o.size + 16 + body.length < o.size →
      (viewOf (statWrite v ty sp body s) v).statLost = (viewOf s v).statLost ∧
      (viewOf (statWrite v ty sp body s) v).statWidx = BitVec.ofNat 32 (((viewOf s v).statWidx.toNat + (16 + body.length)) % o.size)) := by
  have hdrop : (∀ o, objOf s (viewOf s v).statRing = some o →
      o.lost = true ∨ o.size ≤ statUsed (viewOf s v) o.size + 16 + body.length) →
      viewOf (statWrite v ty sp body s) v = (viewOf s v).dropRecord := fun h => by
    rw [statWrite_drops h, viewOf_modView_self s v _ hv]
  have hwrite : ∀ o, objOf s (viewOf s v).statRing = some o → o.lost = false →
      statUsed (viewOf s v) o.size + 16 + body.length < o.size →
      viewOf (statWrite v ty sp body s) v = (viewOf s v).tookRecord (16 + body.length) o.size := fun o ho hl hfree => by
    have hring := (ringBytes_frame_self o.addr o.size (viewOf s v).statWidx.toNat (statRecord v ty sp body (viewOf s v)) s).pln_eq
      (by decide)
    rw [statWrite_writes ho hl hfree, viewOf_modView_self _ _ _ (by rwa [hring]), viewOf_congr (congrArg Planish.view hring)]
  refine ⟨?_, fun h => ⟨by rw [hdrop h]; rfl, by rw [statWrite_drops h]; rfl⟩,
    fun o ho hl hfree => by rw [hwrite o ho hl hfree]; exact ⟨rfl, rfl⟩⟩
  rcases statRing_free_or_full v body s with ⟨o, ho, hl, hfree⟩ | hfull
  · rw [hwrite o ho hl hfree]
    rfl
  · rw [hdrop hfull]
    rfl

/-- Settles O29: the gain, the uncovered column, the filters and the ring. -/
theorem imageNormalisationBounds : Obligations.ImageNormalisationBounds := by
  unfold Obligations.ImageNormalisationBounds
  refine ⟨fun v s hs hv => autoLevel_bounds (by rwa [hs.views]), fun ls x h => ?_,
    fun a gate maxGap sv gap x h => ⟨temporal_concealed h a gate maxGap sv gap, temporal_concealed_first h a gate maxGap⟩,
    fun pb m x h => nextProfile_invalid h pb m, fun v ty sp body s hs hv => statWrite_cases (by rwa [hs.views]) ty sp body⟩
  rw [stitchColumn_uncovered h]
  exact ⟨rfl, rfl⟩

end Sys2Proof.Machine
end

section
/-! PROOFS. PLN_STATUS, PLN_CHANNEL_CONFIG, PLN_VIEW_CONFIG and PLN_STAT_CONFIG. -/

namespace Sys2Proof.Machine

open Sys2Proof

variable {r : Ref} {p : Packet} {s : State}

/-! ## PLN_STATUS -/

theorem exec_plnStatus (h : opStarts 0x0501 r p s = true) : exec (.plnStatus r) s = .next (
    if 3 < fld p.params 0 1 then refuse p stBAD_PARAM 0x20 s else ok p (plnStatusBytes s (fld p.params 0 1)) s) :=
  congrArg Host.Outcome.next (runOp_starts h _)

/-! ## A view emptied (05 R258) -/

/-- A channel of a view that is emptied. -/
def Channel.emptied (v : Nat) (c : Channel) : Channel :=
  if c.view = some v then { c with slots := [], lines := [], history := [], temporal := [], settled := [], runs := [] } else c

theorem Channel.emptied_view (v : Nat) (c : Channel) : (c.emptied v).view = c.view := by
  unfold Channel.emptied
  split <;> rfl

theorem plnChan_emptyView (v : Nat) (s : State) (n : Nat) : plnChan (emptyView v s) n = (plnChan s n).emptied v := by
  change getI (s.pln.chan.map (Channel.emptied v)) n Channel.reset = (getI s.pln.chan n Channel.reset).emptied v
  simp only [getI, List.getD_eq_getElem?_getD, List.getElem?_map]
  cases s.pln.chan[n]? with
  | none => rfl
  | some c => rfl

theorem viewOf_emptyView {v : Nat} {s : State} (hv : v < s.pln.view.length) :
    viewOf (emptyView v s) v = clearRow (viewOf s v) := viewOf_modView_self (s.setPln _) v _ hv

theorem emptyView_chan_length (v : Nat) (s : State) : (emptyView v s).pln.chan.length = s.pln.chan.length := List.length_map ..

theorem viewChans_emptyView (v w : Nat) (s : State) : viewChans (emptyView v s) w = viewChans s w := by
  simp only [viewChans, plnChan_emptyView, Channel.emptied_view]

theorem emptyView_frame_self (v : Nat) (s : State) : Frame [.pln] s (emptyView v s) :=
  emptyView_frame v s (List.Subset.refl _) (Frame.refl _ s)

/-- Nothing stays on the way in a channel of the emptied view. -/
theorem plnChan_emptyView_mem {v n : Nat} {s : State} (hn : n ∈ viewChans s v) :
    (plnChan (emptyView v s) n).slots = [] ∧ (plnChan (emptyView v s) n).lines = [] := by
  have hview : (plnChan s n).view = some v := by simpa using (List.mem_filter.1 hn).2
  rw [plnChan_emptyView, Channel.emptied, if_pos hview]
  exact ⟨rfl, rfl⟩

/-! ## PLN_CHANNEL_CONFIG (05 R248, R251, R273) -/

/-- The state with the channel's old view emptied. -/
def leftView (n : Nat) (s : State) : State :=
  match (plnChan s n).view with
  | some w => emptyView w s
  | none => s

theorem leftView_chan_length (n : Nat) (s : State) : (leftView n s).pln.chan.length = s.pln.chan.length := by
  unfold leftView
  split
  · exact emptyView_chan_length ..
  · rfl

theorem leftView_frame (n : Nat) (s : State) : Frame [.pln] s (leftView n s) := by
  unfold leftView
  split
  · exact emptyView_frame_self _ s
  · exact Frame.refl _ s

/-- The state that PLN_CHANNEL_CONFIG leaves where the grouping is legal. -/
def channelSet (b : Bytes) (s : State) : State :=
  emptyView (fld b 1 1) (modPlnChan (fld b 0 1) (channelOf b) (leftView (fld b 0 1) s))

theorem channelSet_frame (b : Bytes) (s : State) : Frame [.pln] s (channelSet b s) :=
  emptyView_frame _ _ (List.Subset.refl _) (modPlnChan_frame _ _ _ (List.Subset.refl _) (leftView_frame _ s))

/-- The channel is the one that its parameters describe, with nothing on the way. -/
theorem plnChan_channelSet {b : Bytes} (hn : fld b 0 1 < s.pln.chan.length) :
    plnChan (channelSet b s) (fld b 0 1) = channelOf b (plnChan (leftView (fld b 0 1) s) (fld b 0 1)) := by
  rw [channelSet, plnChan_emptyView, plnChan_modPlnChan_self _ _ _ (by rwa [leftView_chan_length])]
  exact if_pos rfl

theorem channel_le_of_channelBad {b : Bytes} (h : channelBad b = none) : fld b 0 1 ≤ 31 := by
  unfold channelBad at h
  by_contra hn
  rw [if_pos (not_le.1 hn)] at h
  cases h

theorem exec_plnChannelConfig_bad (h : opStarts 0x0502 r p s = true) {off : Nat} (hbad : channelBad p.params = some off) :
    exec (.plnChannelConfig r) s = .next (refuse p stBAD_PARAM off s) := by
  refine congrArg Host.Outcome.next ((runOp_starts h _).trans ?_)
  dsimp only
  rw [hbad]

section ChannelConfig

variable (h : opStarts 0x0502 r p s = true) (hgood : channelBad p.params = none)
include h hgood

theorem exec_plnChannelConfig_used
    (hused : viewUsed s (fld p.params 1 1) = true ∨ (plnChan s (fld p.params 0 1)).view.any (viewUsed s) = true) :
    exec (.plnChannelConfig r) s = .next (refuse p stDENIED noField s) := by
  refine congrArg Host.Outcome.next ((runOp_starts h _).trans ?_)
  dsimp only
  rw [hgood]
  exact if_pos (by rcases hused with hu | hu <;> simp [hu])

variable (hnew : viewUsed s (fld p.params 1 1) = false) (hold : (plnChan s (fld p.params 0 1)).view.any (viewUsed s) = false)
include hnew hold

theorem exec_plnChannelConfig_free : exec (.plnChannelConfig r) s =
    .next (match groupBad (channelSet p.params s) (fld p.params 0 1) with
      | some off => refuse p stBAD_PARAM off s
      | none => ok p [] (channelSet p.params s)) := by
  refine congrArg Host.Outcome.next ((runOp_starts h _).trans ?_)
  dsimp only
  rw [hgood, hnew, hold]
  rfl

/-- A legal grouping sets the channel; an illegal one is refused. -/
theorem plnChannelConfig_cases :
    let n := fld p.params 0 1
    let t := channelSet p.params s
    (groupBad t n = none → exec (.plnChannelConfig r) s = .next (ok p [] t) ∧
      (Inv s → (plnChan t n).view = some (fld p.params 1 1) ∧ (plnChan t n).slots = [] ∧ (plnChan t n).width = fld p.params 8 2 ∧
        (plnChan t n).format = fld p.params 4 1 ∧ (plnChan t n).ofs = sfld p.params 12 4 ∧
        (plnChan t n).scale = fld p.params 16 4 ∧ Frame [.pln] s t)) ∧
    (∀ off, groupBad t n = some off → exec (.plnChannelConfig r) s = .next (refuse p stBAD_PARAM off s)) := by
  have hexec := exec_plnChannelConfig_free h hgood hnew hold
  refine ⟨fun hlegal => ⟨by rw [hexec, hlegal], fun hs => ?_⟩, fun off hbad => by rw [hexec, hbad]⟩
  have hn : fld p.params 0 1 < s.pln.chan.length := by
    rw [hs.channels]
    exact Nat.lt_succ_of_le (channel_le_of_channelBad hgood)
  rw [plnChan_channelSet hn]
  exact ⟨rfl, rfl, rfl, rfl, rfl, rfl, channelSet_frame p.params s⟩

end ChannelConfig

/-! ## PLN_VIEW_CONFIG (05 R248, R251, R273) -/

/-- The view that PLN_VIEW_CONFIG makes of an old one. -/
def View.configure (b : Bytes) (x : View) : View :=
  { x with
    configured := true, bottom := fld b 1 1 == 1, tg := fld b 2 1, tileFmt := fld b 3 1, width := fld b 4 2
    tileW := fld b 6 2, tileH := fld b 8 2, concLimit := fld b 10 2, maxGap := fld b 12 1 }

/-- The state with the view configured, before its grouping is checked. -/
def viewSet (b : Bytes) (s : State) : State := modView (fld b 0 1) (View.configure b) s

theorem view_le_of_viewBad {b : Bytes} (h : viewBad b = none) : fld b 0 1 ≤ 3 := by
  unfold viewBad at h
  by_contra hn
  rw [if_pos (not_le.1 hn)] at h
  cases h

section ViewConfig

variable (h : opStarts 0x0503 r p s = true) (hgood : viewBad p.params = none)
include h hgood

theorem exec_plnViewConfig_good : exec (.plnViewConfig r) s = .next (
    let v := fld p.params 0 1
    let t := viewSet p.params s
    if viewUsed s v then refuse p stDENIED noField s
    else if 12 < surfaceCount t (fld p.params 1 1 == 1) then refuse p stBAD_PARAM 0x21 s
    else if (viewChans t v).any fun n => chanClash t (sourceOf t n) (fld p.params 2 1) then refuse p stBAD_PARAM 0x22 s
    else if tripleCover t v then refuse p stBAD_PARAM 0x24 s
    else ok p [] (emptyView v t)) := by
  refine congrArg Host.Outcome.next ((runOp_starts h _).trans ?_)
  dsimp only
  rw [hgood]
  rfl

variable (hfree : viewUsed s (fld p.params 0 1) = false)
include hfree

theorem exec_plnViewConfig_crowded (hcrowd : 12 < surfaceCount (viewSet p.params s) (fld p.params 1 1 == 1)) :
    exec (.plnViewConfig r) s = .next (refuse p stBAD_PARAM 0x21 s) := by
  rw [exec_plnViewConfig_good h hgood]
  dsimp only
  rw [hfree, if_neg Bool.false_ne_true, if_pos hcrowd]

/-- A legal grouping sets the view and empties it. -/
theorem exec_plnViewConfig_legal (hroom : surfaceCount (viewSet p.params s) (fld p.params 1 1 == 1) ≤ 12)
    (hcover : tripleCover (viewSet p.params s) (fld p.params 0 1) = false)
    (hclash : ∀ n ∈ viewChans (viewSet p.params s) (fld p.params 0 1),
      chanClash (viewSet p.params s) (sourceOf (viewSet p.params s) n) (fld p.params 2 1) = false) :
    exec (.plnViewConfig r) s = .next (ok p [] (emptyView (fld p.params 0 1) (viewSet p.params s))) := by
  have hnone : ((viewChans (viewSet p.params s) (fld p.params 0 1)).any fun n =>
      chanClash (viewSet p.params s) (sourceOf (viewSet p.params s) n) (fld p.params 2 1)) = false :=
    List.any_eq_false.2 fun n hn => Bool.not_eq_true _ ▸ hclash n hn
  rw [exec_plnViewConfig_good h hgood]
  dsimp only
  rw [hfree, if_neg Bool.false_ne_true, if_neg hroom.not_gt, hnone, if_neg Bool.false_ne_true, hcover, if_neg Bool.false_ne_true]

end ViewConfig

/-- The view after its configuration. -/
theorem viewOf_viewSet_emptied (hs : Inv s) {b : Bytes} (hgood : viewBad b = none) :
    viewOf (emptyView (fld b 0 1) (viewSet b s)) (fld b 0 1) = clearRow ((viewOf s (fld b 0 1)).configure b) := by
  have hv : fld b 0 1 < s.pln.view.length := by
    rw [hs.views]
    exact Nat.lt_succ_of_le (view_le_of_viewBad hgood)
  rw [viewOf_emptyView (by rwa [viewSet, modView_length]), viewSet, viewOf_modView_self s _ _ hv]

theorem viewSet_emptied_frame (b : Bytes) (s : State) : Frame [.pln] s (emptyView (fld b 0 1) (viewSet b s)) :=
  emptyView_frame _ _ (List.Subset.refl _) (modView_frame _ _ s (List.Subset.refl _) (Frame.refl _ s))

/-! ## PLN_STAT_CONFIG (05 R288) -/

/-- A view with its statistics configured. -/
def View.setStat (b : Bytes) (x : View) : View :=
  { x with statBlock := fld b 2 2, statBinW := fld b 4 2, statRing := fld b 8 4, statWidx := 0, statLines := [] }

theorem exec_plnStatConfig (h : opStarts 0x0510 r p s = true) : exec (.plnStatConfig r) s = .next (
    if 3 < fld p.params 0 1 then refuse p stBAD_PARAM 0x20 s
    else if !pow2In 64 4096 (fld p.params 2 2) then refuse p stBAD_PARAM 0x22 s
    else if !pow2In 16 512 (fld p.params 4 2) then refuse p stBAD_PARAM 0x24 s
    else if viewUsed s (fld p.params 0 1) then refuse p stDENIED noField s
    else match ringBad p (fld p.params 8 4) 0x28 s with
      | some (st, off) => refuse p st off s
      | none => ok p [] (modView (fld p.params 0 1) (View.setStat p.params) s)) :=
  congrArg Host.Outcome.next ((runOp_starts h _).trans rfl)

/-- A field out of range is refused at its offset. -/
theorem plnStatConfig_bad (h : opStarts 0x0510 r p s = true) :
    (3 < fld p.params 0 1 → exec (.plnStatConfig r) s = .next (refuse p stBAD_PARAM 0x20 s)) ∧
    (fld p.params 0 1 ≤ 3 → pow2In 64 4096 (fld p.params 2 2) = false →
      exec (.plnStatConfig r) s = .next (refuse p stBAD_PARAM 0x22 s)) ∧
    (fld p.params 0 1 ≤ 3 → pow2In 64 4096 (fld p.params 2 2) = true → pow2In 16 512 (fld p.params 4 2) = false →
      exec (.plnStatConfig r) s = .next (refuse p stBAD_PARAM 0x24 s)) := by
  have hexec := exec_plnStatConfig h
  refine ⟨fun hview => ?_, fun hview hblock => ?_, fun hview hblock hbin => ?_⟩
  · rw [hexec, if_pos hview]
  · rw [hexec, if_neg hview.not_gt, hblock]
    rfl
  · rw [hexec, if_neg hview.not_gt, hblock, hbin]
    rfl

/-- In range it is refused while the view is in use or its ring is at fault, and else sets the view. -/
theorem plnStatConfig_inRange (h : opStarts 0x0510 r p s = true) (hview : fld p.params 0 1 ≤ 3)
    (hblock : pow2In 64 4096 (fld p.params 2 2) = true) (hbin : pow2In 16 512 (fld p.params 4 2) = true) :
    (viewUsed s (fld p.params 0 1) = true → exec (.plnStatConfig r) s = .next (refuse p stDENIED noField s)) ∧
    (viewUsed s (fld p.params 0 1) = false →
      (∀ st off, ringBad p (fld p.params 8 4) 0x28 s = some (st, off) → exec (.plnStatConfig r) s = .next (refuse p st off s)) ∧
      (ringBad p (fld p.params 8 4) 0x28 s = none →
        exec (.plnStatConfig r) s = .next (ok p [] (modView (fld p.params 0 1) (View.setStat p.params) s)))) := by
  have hexec := exec_plnStatConfig h
  rw [if_neg hview.not_gt, hblock, hbin] at hexec
  refine ⟨fun hused => ?_, fun hfree => ⟨fun st off hring => ?_, fun hring => ?_⟩⟩
  · rw [hexec, hused]
    rfl
  · rw [hexec, hfree, hring]
    rfl
  · rw [hexec, hfree, hring]
    rfl

end Sys2Proof.Machine
end

section
/-! PROOFS. PLN_FILTER_CONFIG and PLN_LEVEL_BOUNDS: the settings of a view, deferred or at once. -/

namespace Sys2Proof.Machine

open Sys2Proof

/-! ## A setting of the image group (05 R249) -/

/-- A setting in force at once. -/
def imageNow (p : Packet) (where_ : Nat) (what : Reprog) (s : State) : State :=
  noticeApplied p.principal p.opcode where_ (spos s) (applyImage what (dropReprog what s))

theorem imgReprog_eq (p : Packet) (where_ : Nat) (what : Reprog) (s : State) : imgReprog p where_ what s =
    if p.atOnce && !s.pos.stationary then refuse p stBUSY noField s
    else if p.atOnce then done p stACCEPTED [] (imageNow p where_ what s)
    else done p stACCEPTED [] (deferReprog what p.principal p.opcode s) := rfl

/-- A deferred setting waits last, for the next boundary. -/
theorem deferReprog_waits (what : Reprog) (issuer : Nat) (opcode : Half) (s : State) :
    ((deferReprog what issuer opcode s).pos.pendingRp.getLast?).map (fun x => (x.what, x.boundary)) =
      some (what, boundaryAfter s.pos.shift s.pos.hwm) := by
  change (List.getLast? (_ ++ [_])).map _ = _
  rw [List.getLast?_concat]
  rfl

theorem imageNow_frame (p : Packet) (where_ : Nat) (what : Reprog) (s : State) :
    Frame [.emitted, .host, .pos, .kw, .pln, .fab, .flt] s (imageNow p where_ what s) :=
  noticeApplied_frame _ _ _ _ _ (by decide) (applyImage_frame _ _ (by decide)
    (dropReprog_frame _ _ (by decide) (Frame.refl _ s)))

theorem viewOf_imageNow (p : Packet) (where_ : Nat) (what : Reprog) (s : State) (w : Nat) :
    viewOf (imageNow p where_ what s) w = viewOf (applyImage what s) w :=
  viewOf_frame (noticeHolderAt_frame_self _ _ _ _ _) (by decide) w

theorem viewOf_imageNow_self {v : Nat} {s : State} (hv : v < s.pln.view.length) (p : Packet) (where_ : Nat) (what : Reprog) :
    viewOf (imageNow p where_ what s) v = applyViewSet v what (viewOf s v) := by
  rw [viewOf_imageNow]
  simp [viewOf, applyImage, getI, hv]

/-- A setting that is not of a view leaves it. -/
theorem viewOf_imageNow_ne {w : Nat} {what : Reprog} (hw : ∀ x, applyViewSet w what x = x) (p : Packet) (where_ : Nat) (s : State) :
    viewOf (imageNow p where_ what s) w = viewOf s w := by
  rw [viewOf_imageNow]
  simp only [viewOf, applyImage, State.setPln_pln, getI, List.getD_eq_getElem?_getD, List.getElem?_mapIdx]
  cases s.pln.view[w]? with
  | none => rfl
  | some x => exact hw x

section Reprog

variable {p : Packet} {s : State} {where_ : Nat} {what : Reprog} {c : Instr}
  (hexec : exec c s = .next (imgReprog p where_ what s))
include hexec

/-- Without APPLY_STATIONARY the setting waits for the next boundary. -/
theorem imgReprog_later (h : p.atOnce = false) : ∃ s', exec c s = .next (done p stACCEPTED [] s') ∧ s'.pln = s.pln ∧
    (s'.pos.pendingRp.getLast?).map (fun x => (x.what, x.boundary)) = some (what, boundaryAfter s.pos.shift s.pos.hwm) ∧
    Frame [.pos] s s' := by
  rw [imgReprog_eq, h] at hexec
  exact ⟨_, hexec, rfl, deferReprog_waits .., deferReprog_frame _ _ _ s (List.Subset.refl _) (Frame.refl _ s)⟩

/-- With it, it is refused on a strip that moves. -/
theorem imgReprog_moving (h : p.atOnce = true) (hm : s.pos.stationary = false) : exec c s = .next (refuse p stBUSY noField s) := by
  rw [imgReprog_eq, h, hm] at hexec
  exact hexec

/-- On one at standstill it is in force at once. -/
theorem imgReprog_now (h : p.atOnce = true) (hm : s.pos.stationary = true) :
    exec c s = .next (done p stACCEPTED [] (imageNow p where_ what s)) := by
  rw [imgReprog_eq, h, hm] at hexec
  exact hexec

end Reprog

/-! ## PLN_FILTER_CONFIG (05 R267, R269) -/

section Filter

variable {r : Ref} {p : Packet} {s : State} (h : opStarts 0x0505 r p s = true)
include h

theorem exec_plnFilterConfig : exec (.plnFilterConfig r) s = .next (
    if 3 < fld p.params 0 1 then refuse p stBAD_PARAM 0x20 s
    else if 256 < fld p.params 2 2 ∨ fld p.params 2 2 + 2 * fld p.params 4 1 + 2 * fld p.params 5 1 ≠ 256 then
      refuse p stBAD_PARAM 0x22 s
    else if 6 < fld p.params 6 1 then refuse p stBAD_PARAM 0x26 s
    else if fld p.params 10 1 < 8 ∨ 16 < fld p.params 10 1 then refuse p stBAD_PARAM 0x2A s
    else if 8 < fld p.params 11 1 then refuse p stBAD_PARAM 0x2B s
    else imgReprog p (fld p.params 0 1) (.plnFilter (fld p.params 0 1) (fld p.params 2 2) (fld p.params 4 1) (fld p.params 5 1)
      (fld p.params 6 1) (fld p.params 8 2) (fld p.params 10 1) (fld p.params 11 1) (fld p.params 12 2) (fld p.params 14 2)) s) :=
  congrArg Host.Outcome.next (runOp_starts h _)

theorem exec_plnFilterConfig_inRange (hv : fld p.params 0 1 ≤ 3)
    (hsum : fld p.params 2 2 + 2 * fld p.params 4 1 + 2 * fld p.params 5 1 = 256) (ha : fld p.params 6 1 ≤ 6)
    (hlow : 8 ≤ fld p.params 10 1) (hhigh : fld p.params 10 1 ≤ 16) (hlk : fld p.params 11 1 ≤ 8) :
    exec (.plnFilterConfig r) s = .next (imgReprog p (fld p.params 0 1) (.plnFilter (fld p.params 0 1) (fld p.params 2 2)
      (fld p.params 4 1) (fld p.params 5 1) (fld p.params 6 1) (fld p.params 8 2) (fld p.params 10 1) (fld p.params 11 1)
      (fld p.params 12 2) (fld p.params 14 2)) s) := by
  rw [exec_plnFilterConfig h, if_neg hv.not_gt, if_neg (by omega), if_neg ha.not_gt, if_neg (by omega), if_neg hlk.not_gt]

end Filter

/-- A filter setting reaches its own view alone. -/
theorem applyViewSet_plnFilter_ne {v w : Nat} (hw : w ≠ v) (h0 h1 h2 a gate pb lk pmin pmax : Nat) (x : View) :
    applyViewSet w (.plnFilter v h0 h1 h2 a gate pb lk pmin pmax) x = x := if_neg hw.symm

theorem applyViewSet_plnFilter_self (v h0 h1 h2 a gate pb lk pmin pmax : Nat) (x : View) :
    applyViewSet v (.plnFilter v h0 h1 h2 a gate pb lk pmin pmax) x =
      { x with kernel := (h0, h1, h2), tempA := a, gate := gate, pb := pb, lk := lk, prange := (pmin, pmax) } := if_pos rfl

/-! ## PLN_LEVEL_BOUNDS (05 R278) -/

section Level

variable {r : Ref} {p : Packet} {s : State} (h : opStarts 0x0506 r p s = true)
include h

theorem exec_plnLevelBounds : exec (.plnLevelBounds r) s = .next (
    if 3 < fld p.params 0 1 then refuse p stBAD_PARAM 0x20 s
    else if fld p.params 4 2 < 1024 ∨ 16384 < fld p.params 4 2 then refuse p stBAD_PARAM 0x24 s
    else if fld p.params 6 2 < 1024 ∨ 16384 < fld p.params 6 2 ∨ fld p.params 6 2 < fld p.params 4 2 then refuse p stBAD_PARAM 0x26 s
    else imgReprog p (fld p.params 0 1) (.plnLevel (fld p.params 0 1) (fld p.params 2 2) (fld p.params 4 2) (fld p.params 6 2)) s) :=
  congrArg Host.Outcome.next (runOp_starts h _)

theorem exec_plnLevelBounds_inRange (hv : fld p.params 0 1 ≤ 3) (hlow : 1024 ≤ fld p.params 4 2)
    (hord : fld p.params 4 2 ≤ fld p.params 6 2) (hhigh : fld p.params 6 2 ≤ 16384) : exec (.plnLevelBounds r) s = .next
      (imgReprog p (fld p.params 0 1) (.plnLevel (fld p.params 0 1) (fld p.params 2 2) (fld p.params 4 2) (fld p.params 6 2)) s) := by
  rw [exec_plnLevelBounds h, if_neg hv.not_gt, if_neg (by omega), if_neg (by omega)]

end Level

theorem applyViewSet_plnLevel_ne {v w : Nat} (hw : w ≠ v) (target lo hi : Nat) (x : View) :
    applyViewSet w (.plnLevel v target lo hi) x = x := if_neg hw.symm

theorem applyViewSet_plnLevel_self (v target lo hi : Nat) (x : View) : applyViewSet v (.plnLevel v target lo hi) x =
    { x with levelTarget := target, grange := (lo, hi), g := clampN lo hi x.g } := if_pos rfl

theorem clampN_bounds {lo hi : Nat} (h : lo ≤ hi) (g : Nat) : lo ≤ clampN lo hi g ∧ clampN lo hi g ≤ hi :=
  ⟨le_max_left .., max_le h (min_le_left ..)⟩

end Sys2Proof.Machine
end

section
/-! PROOFS. Taps, and the statement of the Image group's opcodes. -/

namespace Sys2Proof.Machine

open Sys2Proof

/-! ## PLN_TAP_OPEN (05 R291) -/

/-- The request of a tap. -/
def tapRequest (p : Packet) (s : State) : Request :=
  let d := tapDemand s (fld p.params 0 1) (fld p.params 1 1)
  { kind := .tap, cls := p.cls, tenant := p.tenant, demands := [⟨4, p.cls, d⟩, ⟨5, p.cls, d⟩], object := fld p.params 1 1
    vDecl := 0, recipe := 0 }

/-- The handle that a tap is given: no open tap has the same place of the eight. -/
def tapHandle (pick : Nat) (s : State) : Nat := freshHandle s pick fun h => !(s.pln.taps.any fun t => t.handle % 8 == h % 8)

/-- The tap that PLN_TAP_OPEN opens. -/
def openedTap (p : Packet) (pick : Nat) (s : State) : Tap :=
  { handle := tapHandle pick s, point := fld p.params 0 1, source := fld p.params 1 1
    start := expand s (BitVec.ofNat 32 (fld p.params 4 4)), length := fld p.params 8 4, ring := fld p.params 12 4, widx := 0
    seq := 0, drop := 0, tenant := p.tenant }

/-- The state with the tap entered last. -/
def tapEntered (t : Tap) (s : State) : State := s.setPln { s.pln with taps := s.pln.taps ++ [t] }

/-- The reply to a request for a tap, by what admission decides. -/
def tapReply (p : Packet) (pick : Nat) (s : State) (d : Decision) : State :=
  match d.payload with
  | some e => refuseWith p stREFUSED_BUDGET e d.state
  | none => ok p (le4 (tapHandle pick s)) (tapEntered (openedTap p pick s) d.state)

theorem exec_plnTapOpen {r : Ref} {p : Packet} {s : State} (h : opStarts 0x0520 r p s = true) (pick : Nat) :
    exec (.plnTapOpen r pick) s = .next (
      if 5 < fld p.params 0 1 then refuse p stBAD_PARAM 0x20 s
      else if (fld p.params 0 1 < 3 ∧ 31 < fld p.params 1 1) ∨ (3 ≤ fld p.params 0 1 ∧ 3 < fld p.params 1 1) then
        refuse p stBAD_PARAM 0x21 s
      else if !inHorizon s (BitVec.ofNat 32 (fld p.params 4 4)) then refuse p stREFUSED_HORIZON 0x24 s
      else match ringBad p (fld p.params 12 4) 0x2C s with
        | some (st, off) => refuse p st off s
        | none =>
          if 8 ≤ s.pln.taps.length then refuse p stBUSY noField s
          else tapReply p pick s (decideAdm (tapRequest p s) (tapHandle pick s) s)) :=
  congrArg Host.Outcome.next ((runOp_starts h _).trans rfl)

/-- A source is a channel for points 0 to 2 and a view for the others. -/
theorem tapSource_bad_iff (point source : Nat) : ((point < 3 ∧ 31 < source) ∨ (3 ≤ point ∧ 3 < source)) ↔
    (if point < 3 then 32 else 4) ≤ source := by
  split <;> omega

section TapOpen

variable {r : Ref} {p : Packet} {s : State} (h : opStarts 0x0520 r p s = true) (pick : Nat)
  (hpoint : fld p.params 0 1 ≤ 5)
include h hpoint

theorem exec_plnTapOpen_noSource (hsource : (if fld p.params 0 1 < 3 then 32 else 4) ≤ fld p.params 1 1) :
    exec (.plnTapOpen r pick) s = .next (refuse p stBAD_PARAM 0x21 s) := by
  rw [exec_plnTapOpen h, if_neg hpoint.not_gt, if_pos ((tapSource_bad_iff _ _).2 hsource)]

variable (hsource : fld p.params 1 1 < (if fld p.params 0 1 < 3 then 32 else 4))
include hsource

theorem exec_plnTapOpen_beyond (hhor : inHorizon s (BitVec.ofNat 32 (fld p.params 4 4)) = false) :
    exec (.plnTapOpen r pick) s = .next (refuse p stREFUSED_HORIZON 0x24 s) := by
  rw [exec_plnTapOpen h, if_neg hpoint.not_gt, if_neg (mt (tapSource_bad_iff _ _).1 hsource.not_ge), hhor]
  rfl

variable (hhor : inHorizon s (BitVec.ofNat 32 (fld p.params 4 4)) = true)
include hhor

theorem exec_plnTapOpen_inHorizon : exec (.plnTapOpen r pick) s = .next (
    match ringBad p (fld p.params 12 4) 0x2C s with
      | some (st, off) => refuse p st off s
      | none =>
        if 8 ≤ s.pln.taps.length then refuse p stBUSY noField s
        else tapReply p pick s (decideAdm (tapRequest p s) (tapHandle pick s) s)) := by
  rw [exec_plnTapOpen h, if_neg hpoint.not_gt, if_neg (mt (tapSource_bad_iff _ _).1 hsource.not_ge), hhor]
  rfl

/-- With its ring in order and a tap free, the Ledger decides (05 R291). -/
theorem exec_plnTapOpen_decides (hring : ringBad p (fld p.params 12 4) 0x2C s = none) (hfree : s.pln.taps.length < 8) :
    exec (.plnTapOpen r pick) s = .next (tapReply p pick s (decideAdm (tapRequest p s) (tapHandle pick s) s)) := by
  rw [exec_plnTapOpen_inHorizon h pick hpoint hsource hhor, hring]
  exact congrArg Host.Outcome.next (if_neg hfree.not_ge)

end TapOpen

theorem tapReply_refused {p : Packet} {s : State} (pick handle : Nat)
    (hl : shorts s (vEff s.led.vadm) p.cls (withTable (tapRequest p s).demands) ≠ []) :
    tapReply p pick s (decideAdm (tapRequest p s) handle s) = refuseWith p stREFUSED_BUDGET
      (budgetPayload (shorts s (vEff s.led.vadm) p.cls (withTable (tapRequest p s).demands)))
      (s.setLed { s.led with refusals := s.led.refusals + 1 }) := by
  rw [decideAdm_short (q := tapRequest p s) hl]
  rfl

/-- The admission just entered is found under its handle. -/
theorem findAdm_commitAdm_isSome (q : Request) (handle : Nat) (s : State) (t : Tap) :
    (findAdm (tapEntered t (commitAdm q handle s)) handle).isSome = true := by
  have hheld : (tapEntered t (commitAdm q handle s)).led.held = s.led.held ++ [enteredAdm q handle s] := commitAdm_held q handle s
  rw [findAdm, hheld, List.find?_isSome]
  exact ⟨_, List.mem_append_right _ (List.mem_singleton_self _), beq_self_eq_true handle⟩

theorem tapEntered_getLast? (t : Tap) (s : State) : (tapEntered t s).pln.taps.getLast? = some t := List.getLast?_concat

/-- Within the budgets the tap opens with its admission. -/
theorem tapReply_opens {p : Packet} {s : State} (pick : Nat)
    (hl : shorts s (vEff s.led.vadm) p.cls (withTable (tapRequest p s).demands) = []) :
    ∃ h s', tapReply p pick s (decideAdm (tapRequest p s) (tapHandle pick s) s) = ok p (le4 h) s' ∧
      (s'.pln.taps.getLast?).map (fun t => (t.handle, t.point, t.source, t.ring, t.seq, t.widx, t.drop)) =
        some (h, fld p.params 0 1, fld p.params 1 1, fld p.params 12 4, 0, 0, 0) ∧
      (s'.pln.taps.getLast?).map (fun t => (t.start, t.length)) =
        some (expand s (BitVec.ofNat 32 (fld p.params 4 4)), fld p.params 8 4) ∧ (findAdm s' h).isSome = true := by
  rw [decideAdm_fits (q := tapRequest p s) hl]
  refine ⟨tapHandle pick s, _, rfl, ?_, ?_, findAdm_commitAdm_isSome ..⟩
  · rw [tapEntered_getLast?]
    rfl
  · rw [tapEntered_getLast?]
    rfl

/-! ## PLN_TAP_CLOSE and TAP_END (05 R294) -/

theorem exec_plnTapClose {r : Ref} {p : Packet} {s : State} (h : opStarts 0x0521 r p s = true) : exec (.plnTapClose r) s = .next (
    match admTarget p (fld p.params 0 4) 0x20 [.tap] s with
    | .inl (st, off) => refuse p st off s
    | .inr a => ok p [] (release a s)) := congrArg Host.Outcome.next ((runOp_starts h _).trans rfl)

theorem admTarget_none {p : Packet} {h off : Nat} {kinds : List AdmKind} {s : State} (hf : findAdm s h = none) :
    admTarget p h off kinds s = .inl (stBAD_PARAM, off) := by
  unfold admTarget
  rw [hf]

/-- A handle of the kind names its admission to a tenant that may use it, and to no other. -/
theorem admTarget_some {p : Packet} {h off : Nat} {kinds : List AdmKind} {s : State} {a : Admission} (hf : findAdm s h = some a)
    (hk : kinds.contains a.kind = true) :
    admTarget p h off kinds s = if mayUse p a.tenant then .inr a else .inl (stDENIED, noField) := by
  unfold admTarget
  rw [hf]
  dsimp only
  rw [hk]
  cases mayUse p a.tenant <;> rfl

/-- The admissions are no matter of a tap's end and its notice. -/
theorem findAdm_endTap (h code : Nat) (s : State) : findAdm (endTap h code s) h = findAdm s h := by
  rw [findAdm, findAdm, (endTap_frame h code s (List.Subset.refl _) (Frame.refl _ s)).led_eq (by decide)]

/-- A tap of limited length is due once the HWM has reached its end. -/
theorem tapEnd_due {s : State} {t : Tap} (hlen : t.length ≠ 0)
    (hreached : reached s (t.start + BitVec.ofNat 64 t.length) = true) :
    ¬ (t.length = 0 ∨ (!reached s (t.start + BitVec.ofNat 64 t.length)) = true) := by simp [hlen, hreached]

section TapEnd

variable {h : Nat} {s : State} {t : Tap} (hfind : s.pln.taps.find? (fun t => t.handle == h) = some t)
include hfind

theorem endTap_eq (code : Nat) : endTap h code s = noticeHolder t.tenant 0x0503 (le4 h ++ le1 code)
    (s.setPln { s.pln with taps := s.pln.taps.filter fun t => t.handle != h }) := by
  unfold endTap
  rw [hfind]

theorem endTap_taps (code : Nat) : (endTap h code s).pln.taps = s.pln.taps.filter fun t => t.handle != h := by
  rw [endTap_eq hfind]
  exact congrArg Planish.taps ((noticeHolderAt_frame_self _ _ _ _ _).pln_eq (by decide))

section Reached

variable (hlen : t.length ≠ 0) (hreached : reached s (t.start + BitVec.ofNat 64 t.length) = true)
include hlen hreached

/-- TAP_END, where the HWM has reached the tap's end and no admission is held under its handle. -/
theorem exec_tapEnd_alone (hnone : findAdm s h = none) : exec (.tapEnd h) s = .next (endTap h 0 s) := by
  change execTapEnd h s = _
  unfold execTapEnd
  rw [hfind]
  dsimp only
  rw [if_neg (tapEnd_due hlen hreached), findAdm_endTap, hnone]

/-- With one held, it is released. -/
theorem exec_tapEnd_held {a : Admission} (ha : findAdm s h = some a) :
    exec (.tapEnd h) s = .next (release a (endTap h 0 s)) := by
  change execTapEnd h s = _
  unfold execTapEnd
  rw [hfind]
  dsimp only
  rw [if_neg (tapEnd_due hlen hreached), findAdm_endTap, ha]

end Reached

theorem exec_tapEnd_open (hopen : t.length = 0 ∨ reached s (t.start + BitVec.ofNat 64 t.length) = false) :
    exec (.tapEnd h) s = .next s := by
  change execTapEnd h s = _
  unfold execTapEnd
  rw [hfind]
  exact congrArg Host.Outcome.next (if_pos (hopen.imp_right fun hno => by rw [hno]; rfl))

end TapEnd

/-! ## The statement -/

/-- Settles O30: each opcode by its own lemmas above. -/
theorem imageOpcodes : Obligations.ImageOpcodes := by
  unfold Obligations.ImageOpcodes
  refine ⟨fun r p s h => ⟨fun hv => ?noView, fun hv => ?status⟩,
    fun r p s h => ⟨fun off hbad => exec_plnChannelConfig_bad h hbad, fun hgood => ⟨exec_plnChannelConfig_used h hgood,
      fun hnew hold => plnChannelConfig_cases h hgood hnew hold⟩⟩,
    fun r p s h => ⟨fun off hbad => exec_plnViewConfig_bad h hbad, fun hgood => ⟨fun hused => ?viewUsed, fun hfree hs =>
      ⟨exec_plnViewConfig_crowded h hgood hfree, fun hroom hcover hclash => ?viewSet⟩⟩⟩,
    fun r p s h => ⟨fun hv => ?filterView, fun hv hsum => ?filterSum, fun hv hsum ha hlow hhigh hlk => ?filter⟩,
    fun r p s h => ⟨fun hv => ?levelView, fun hv hbad => ?levelLow, fun hv hlow hlow' hbad => ?levelHigh,
      fun hv hlow hord hhigh => ?level⟩,
    fun r p s h => plnStatConfig_bad h, fun r p s h hv hblock hbin => plnStatConfig_inRange h hv hblock hbin,
    fun r pick p s h => ⟨fun hpoint => ?tapPoint, exec_plnTapOpen_noSource h pick⟩,
    fun r pick p s h hpoint hsource => ⟨exec_plnTapOpen_beyond h pick hpoint hsource, fun hhor => ?tapOpen⟩,
    fun r p s h => ⟨fun hnone => ?closeNone, fun a ha hk => ⟨fun hno => ?closeDenied, fun hyes => ?close⟩⟩,
    fun h s t hfind hlen hreached => ⟨endTap_taps hfind 0, exec_tapEnd_alone hfind hlen hreached,
      fun a ha => exec_tapEnd_held hfind hlen hreached ha⟩,
    fun h s t hfind hopen => exec_tapEnd_open hfind hopen⟩
  case noView => rw [exec_plnStatus h, if_pos hv]
  case status => rw [exec_plnStatus h, if_neg hv.not_gt]
  case viewUsed =>
    rw [exec_plnViewConfig_good h hgood]
    exact congrArg Host.Outcome.next (if_pos hused)
  case viewSet =>
    have hview := viewOf_viewSet_emptied hs hgood
    refine ⟨_, exec_plnViewConfig_legal h hgood hfree hroom hcover hclash, ?_⟩
    rw [hview, viewChans_emptyView]
    exact ⟨rfl, rfl, rfl, rfl, rfl, rfl, rfl, rfl, rfl, rfl, fun n hn => plnChan_emptyView_mem hn,
      viewSet_emptied_frame p.params s⟩
  case filterView => rw [exec_plnFilterConfig h, if_pos hv]
  case filterSum => rw [exec_plnFilterConfig h, if_neg hv.not_gt, if_pos (.inr hsum)]
  case filter =>
    have hexec := exec_plnFilterConfig_inRange h hv hsum ha hlow hhigh hlk
    refine ⟨imgReprog_later hexec, imgReprog_moving hexec, fun hnow hstill hs => ⟨_, imgReprog_now hexec hnow hstill, ?_⟩⟩
    rw [viewOf_imageNow_self (by rw [hs.views]; omega), applyViewSet_plnFilter_self]
    exact ⟨rfl, rfl, rfl, rfl, rfl, rfl, fun w hw => viewOf_imageNow_ne (applyViewSet_plnFilter_ne hw _ _ _ _ _ _ _ _ _) _ _ s,
      imageNow_frame _ _ _ s⟩
  case levelView => rw [exec_plnLevelBounds h, if_pos hv]
  case levelLow => rw [exec_plnLevelBounds h, if_neg hv.not_gt, if_pos hbad]
  case levelHigh => rw [exec_plnLevelBounds h, if_neg hv.not_gt, if_neg (by omega), if_pos (by omega)]
  case level =>
    have hexec := exec_plnLevelBounds_inRange h hv hlow hord hhigh
    refine ⟨imgReprog_later hexec, imgReprog_moving hexec, fun hnow hstill hs => ⟨_, imgReprog_now hexec hnow hstill, ?_⟩⟩
    rw [viewOf_imageNow_self (by rw [hs.views]; omega), applyViewSet_plnLevel_self]
    obtain ⟨hmin, hmax⟩ := clampN_bounds hord (viewOf s (fld p.params 0 1)).g
    exact ⟨rfl, rfl, hmin, hmax, fun w hw => viewOf_imageNow_ne (applyViewSet_plnLevel_ne hw _ _ _) _ _ s, imageNow_frame _ _ _ s⟩
  case tapPoint => rw [exec_plnTapOpen h, if_pos hpoint]
  case tapOpen =>
    have hexec := exec_plnTapOpen_inHorizon h pick hpoint hsource hhor
    refine ⟨fun st off hring => by rw [hexec, hring], fun hring => ⟨fun hfull => ?_, fun hfree => ?_⟩⟩
    · rw [hexec, hring]
      exact congrArg Host.Outcome.next (if_pos hfull)
    · have hdecides := exec_plnTapOpen_decides h pick hpoint hsource hhor hring hfree
      refine ⟨fun hshort => hdecides.trans (congrArg Host.Outcome.next (tapReply_refused pick _ hshort)), fun hfits => ?_⟩
      obtain ⟨handle, u, hreply, hopened⟩ := tapReply_opens pick hfits
      exact ⟨handle, u, hdecides.trans (congrArg Host.Outcome.next hreply), hopened⟩
  case closeNone => rw [exec_plnTapClose h, admTarget_none hnone]
  case closeDenied =>
    rw [exec_plnTapClose h, admTarget_some ha (by rw [hk]; rfl), hno]
    rfl
  case close =>
    rw [exec_plnTapClose h, admTarget_some ha (by rw [hk]; rfl), hyes]
    rfl

end Sys2Proof.Machine
end

section
/-! PROOFS. List opcodes: what stops a list before it is fetched, what its fetch can meet, and the list that enters the queue. -/

namespace Sys2Proof.Machine

open Sys2Proof

/-- The six list opcodes, with their codes and the engines they name (06 R326). -/
def listRows : List ((LoadRef → Instr) × Half × Nat) :=
  [(Instr.plnCalLoad, 0x0504, 2), (.fabList, 0x0610, 3), (.drawList, 0x0710, 1), (.asyList, 0x0810, 4), (.hmList, 0x0930, 5),
    (.tmpList, 0x0B30, 6)]

/-- Each of them carries out `takeList` of its engine. -/
theorem exec_listOpcode {r : Ref} {p : Packet} {s : State} {c : LoadRef → Instr} {code : Half} {e : Nat}
    (hc : (c, code, e) ∈ listRows) (h : opStarts code r p s = true) (q : Bool) : exec (c ⟨r, q⟩) s = .next (takeList e q p s) := by
  simp only [listRows, List.mem_cons, List.not_mem_nil, or_false, Prod.mk.injEq] at hc
  obtain ⟨rfl, rfl, rfl⟩ | ⟨rfl, rfl, rfl⟩ | ⟨rfl, rfl, rfl⟩ | ⟨rfl, rfl, rfl⟩ | ⟨rfl, rfl, rfl⟩ | ⟨rfl, rfl, rfl⟩ := hc
  all_goals exact congrArg Host.Outcome.next (runOp_starts h _)

/-! ## Before the fetch (06 R326, R327) -/

/-- A tenant with 16 lists on the engine is told so where nothing else is wrong with its descriptor. -/
theorem descRefusal_full {p : Packet} {e : Nat} {s : State} (hbad : descBad e p.params = none) (hbench : descBench p e s = none)
    (hstart : bit (fld p.params 3 1) 0 = false)
    (hfull : 16 ≤ (s.fab.lists.filter fun l => l.tenant == p.tenant && l.engine == e).length) :
    descRefusal p e s = some (stBUSY, noField) := by
  simp [descRefusal, hbad, hbench, hstart, hfull]

/-! ## The fetch -/

/-- What becomes of a list whose place may be read. -/
def fetchList (e : Nat) (poisoned : Bool) (p : Packet) (a : Place) (s : State) : State :=
  let n := fld p.params 4 4
  if a.host && hostBad s a.addr n then fetchFail p s
  else if (poisoned && !a.host) || (poisonAt s a n).isSome then refuse p stINTERNAL noField (tablePoison 3 (poisonAt s a n) s)
  else match readList s p.tenant p.params (readPlace s a n) with
    | .inl i => refuseWith p stBAD_PARAM (listResult 0 i stBAD_PARAM none) s
    | .inr cmds => if !s.pos.anchored && cmds.any (cmdStamped e) then refuse p stBUSY noField s else queueList p e cmds s

section Take

variable {e : Nat} {p : Packet} {s : State} (q : Bool)

theorem takeList_refused {st : Half} {off : Nat} (h : descRefusal p e s = some (st, off)) : takeList e q p s = refuse p st off s := by
  unfold takeList
  rw [h]

variable (h : descRefusal p e s = none)
include h

theorem takeList_moving (hm : e = 2 ∧ movingRefused p s = true) : takeList e q p s = refuse p stBUSY noField s := by
  unfold takeList
  rw [h]
  exact if_pos hm

variable (hm : ¬(e = 2 ∧ movingRefused p s = true))
include hm

theorem takeList_notIngot (hs : fld p.params 1 1 = 1) (hi : inIngot (fld p.params 8 8) = false) :
    takeList e q p s = refuse p stBAD_PARAM 0x28 s := by
  unfold takeList
  rw [h]
  exact (if_neg hm).trans (if_pos ⟨hs, by rw [hi]; rfl⟩)

variable (hi : fld p.params 1 1 = 1 → inIngot (fld p.params 8 8) = true)
include hi

theorem takeList_resolves : takeList e q p s =
    match resolve s p.tenant (fld p.params 1 1) (fld p.params 8 8) (fld p.params 4 4) false with
    | .inl st => refuse p st 0x28 s
    | .inr a => fetchList e q p a s := by
  unfold takeList
  rw [h]
  refine (if_neg hm).trans ((if_neg ?_).trans rfl)
  rintro ⟨h1, h2⟩
  simp [hi h1] at h2

theorem takeList_unreadable {st : Half}
    (hr : resolve s p.tenant (fld p.params 1 1) (fld p.params 8 8) (fld p.params 4 4) false = .inl st) :
    takeList e q p s = refuse p st 0x28 s := by rw [takeList_resolves q h hm hi, hr]

theorem takeList_readable {a : Place}
    (hr : resolve s p.tenant (fld p.params 1 1) (fld p.params 8 8) (fld p.params 4 4) false = .inr a) :
    takeList e q p s = fetchList e q p a s := by rw [takeList_resolves q h hm hi, hr]

end Take

/-! ## An error of host memory under the fetch (03 R151) -/

/-- A packet's outcome leaves a ring that is disabled as it was: it goes to the outcome log, or waits. -/
theorem finish_ring_dead {p : Packet} (hp : p.principal ≤ 64) {s : State} (hen : (ten s p.tenant).en = false) (st : Half)
    (fence sp : Word) (res : Bytes) : (ten (finish p st fence sp res s) p.tenant).ring = (ten s p.tenant).ring := by
  rcases Nat.lt_or_eq_of_le hp with hlt | heq
  · have htenant : p.tenant = p.principal := if_neg (Nat.ne_of_lt hlt)
    rw [htenant] at hen ⊢
    cases hheld : ctrlHeld s with
    | true =>
      rw [finish_of_held hlt hheld]
      rfl
    | false =>
      have hdead : ringLive (dropP p.ref s) p.principal = false := by simp [ringLive, hen]
      rw [finish_of_running hlt hheld, tenantReply_dead (.inl hdead), logReply, logOutcome_ring, ten_dropP]
  · rw [finish_of_sideband heq]
    rfl

theorem Tenant.ring_en (t : Tenant) : t.ring.en = t.en := rfl
theorem Tenant.ring_ringStatus (t : Tenant) : t.ring.ringStatus = t.ringStatus := rfl

theorem fetchFail_ring {p : Packet} (hp : p.principal ≤ 64) {s : State} (hen : (ten (ringError p.tenant 2 s) p.tenant).en = false) :
    (ten (fetchFail p s) p.tenant).ring = (ten (ringError p.tenant 2 s) p.tenant).ring := by
  unfold fetchFail
  dsimp only
  split
  · exact finish_ring_dead hp hen _ _ _ _
  · rfl

theorem findP_fetchFail (p : Packet) (s : State) : findP p.ref (fetchFail p s) = none := by
  unfold fetchFail
  dsimp only
  split
  · exact findP_finish ..
  · next h => exact Option.not_isSome_iff_eq_none.1 h

theorem dmaErr_set (w : Word) : (w ||| (1 <<< 2)).getLsbD 2 = true := by simp

/-- The tenant's rings are disabled with DMA_ERR (03 R151). -/
theorem fetchFail_disables {p : Packet} (hp : p.principal ≤ 64) {s : State} (hs : Inv s) :
    (ten (fetchFail p s) p.tenant).en = false ∧ (ten (fetchFail p s) p.tenant).ringStatus.getLsbD 2 = true := by
  have hn : p.tenant < s.kw.tenants.length := by
    rw [hs.tenants, Packet.tenant]
    split <;> omega
  have herr := ringError_ring p.tenant 2 s hn
  have hen : (ten (ringError p.tenant 2 s) p.tenant).en = false := by rw [← Tenant.ring_en, herr, Tenant.ring_en]
  rw [← Tenant.ring_en, ← Tenant.ring_ringStatus, fetchFail_ring hp hen, herr, Tenant.ring_en, Tenant.ring_ringStatus]
  exact ⟨rfl, dmaErr_set _⟩

/-! ## A list that was fetched -/

section Fetch

variable {e : Nat} {p : Packet} {a : Place} {s : State} {q : Bool}

theorem fetchList_hostBad (ha : a.host = true) (hb : hostBad s a.addr (fld p.params 4 4) = true) :
    fetchList e q p a s = fetchFail p s := if_pos (by rw [ha, hb]; rfl)

theorem fetchList_poisoned (ha : a.host = false) (hq : q = true ∨ (poisonAt s a (fld p.params 4 4)).isSome = true) :
    fetchList e q p a s = refuse p stINTERNAL noField (tablePoison 3 (poisonAt s a (fld p.params 4 4)) s) := by
  refine (if_neg (by simp [ha])).trans (if_pos ?_)
  rcases hq with hq | hq <;> simp [ha, hq]

variable (hb : a.host = true → hostBad s a.addr (fld p.params 4 4) = false)
  (hq : a.host = false → q = false ∧ poisonAt s a (fld p.params 4 4) = none)
include hb hq

theorem fetchList_reads : fetchList e q p a s =
    match readList s p.tenant p.params (readPlace s a (fld p.params 4 4)) with
    | .inl i => refuseWith p stBAD_PARAM (listResult 0 i stBAD_PARAM none) s
    | .inr cmds => if !s.pos.anchored && cmds.any (cmdStamped e) then refuse p stBUSY noField s else queueList p e cmds s := by
  have hclean : ((q && !a.host) || (poisonAt s a (fld p.params 4 4)).isSome) = false := by
    cases ha : a.host with
    | true => simp [poisonAt, ha]
    | false => simp [(hq ha).1, (hq ha).2]
  refine (if_neg ?_).trans ((if_neg (by rw [hclean]; decide)).trans rfl)
  cases ha : a.host with
  | true => simp [hb ha]
  | false => simp

theorem fetchList_bad {i : Nat} (hr : readList s p.tenant p.params (readPlace s a (fld p.params 4 4)) = .inl i) :
    fetchList e q p a s = refuseWith p stBAD_PARAM (listResult 0 i stBAD_PARAM none) s := by rw [fetchList_reads hb hq, hr]

variable {cmds : List Cmd} (hr : readList s p.tenant p.params (readPlace s a (fld p.params 4 4)) = .inr cmds)
include hr

theorem fetchList_unanchored (hanch : s.pos.anchored = false) (hst : cmds.any (cmdStamped e) = true) :
    fetchList e q p a s = refuse p stBUSY noField s := by
  rw [fetchList_reads hb hq, hr]
  exact if_pos (by rw [hanch, hst]; rfl)

theorem fetchList_good (h : s.pos.anchored = true ∨ cmds.any (cmdStamped e) = false) : fetchList e q p a s = queueList p e cmds s := by
  rw [fetchList_reads hb hq, hr]
  exact if_neg (by rcases h with h | h <;> simp [h])

end Fetch

/-! ## The queue (06 R327 to R329) -/

/-- The list that enters the queue. -/
def queuedList (p : Packet) (e : Nat) (cmds : List Cmd) (s : State) : CmdList :=
  { ref := p.ref, tenant := p.tenant, engine := e, inUnit := fld p.params 1 1 == 1, bench := fld p.params 2 1
    start := if bit (fld p.params 3 1) 0 then some (expand s (BitVec.ofNat 32 (fld p.params 0x10 4))) else none
    cmds := cmds, index := 0, running := false, cals := [] }

/-- A packet that is changed without its principal and tag stays where it was found. -/
theorem findP_modP {r : Ref} {f : Packet → Packet} (hf : ∀ p, (f p).ref = p.ref) (s : State) :
    findP r (modP r f s) = (findP r s).map f := by
  have hsame (p : Packet) (h : (f p).ref = p.ref) : sameRef r (f p) = sameRef r p := by
    simp only [Packet.ref, Ref.mk.injEq] at h
    rw [sameRef, sameRef, h.1, h.2]
  have key (l : List Packet) : (l.map fun p => if sameRef r p then f p else p).find? (sameRef r) = (l.find? (sameRef r)).map f := by
    induction l with
    | nil => rfl
    | cons p l ih =>
      cases hp : sameRef r p with
      | true => simp [hp, hsame p (hf p)]
      | false => simp [hp, ih]
  exact key s.kw.outstanding

theorem queueList_eq (p : Packet) (e : Nat) (cmds : List Cmd) (s : State) :
    queueList p e cmds s = modP p.ref (fun q => { q with started := true })
      (s.setFab { s.fab with lists := s.fab.lists ++ [queuedList p e cmds s] }) := rfl

theorem queueList_frame_self (p : Packet) (e : Nat) (cmds : List Cmd) (s : State) : Frame [.kw, .fab] s (queueList p e cmds s) :=
  queueList_frame p e cmds s (List.Subset.refl _) (Frame.refl _ s)

/-- The packet has started and is outstanding until its list ends. -/
theorem findP_queueList {p : Packet} {s : State} (h : findP p.ref s = some p) (e : Nat) (cmds : List Cmd) :
    (findP p.ref (queueList p e cmds s)).map (·.started) = some true := by
  have hfind : findP p.ref (s.setFab { s.fab with lists := s.fab.lists ++ [queuedList p e cmds s] }) = some p := h
  rw [queueList_eq, findP_modP (by intro; rfl), hfind]
  rfl

/-- Settles O31: the state that `takeList` answers is named for each thing a list can meet on its way to the queue. -/
theorem listsAreCheckedAndQueued : Obligations.ListsAreCheckedAndQueued := by
  unfold Obligations.ListsAreCheckedAndQueued
  intro r p s c code e hc h space len
  have hexec (q : Bool) : exec (c ⟨r, q⟩) s = .next (takeList e q p s) := exec_listOpcode hc h q
  have hfound : findP p.ref s = some p := by
    have hf := (opStarts_ready h).1
    rwa [findP_ref hf]
  refine ⟨fun st off q hd => ?refused, fun q hbad hbench hstart hfull => ?full, fun hd => ⟨fun q he hm => ?moving, fun hm =>
    ⟨fun q hspace hi => ?notIngot, fun hi => ⟨fun st q hr => ?unreadable, fun a hr => ?readable⟩⟩⟩⟩
  case refused => rw [hexec, takeList_refused q hd]
  case full => rw [hexec, takeList_refused q (descRefusal_full hbad hbench hstart hfull)]
  case moving => rw [hexec, takeList_moving q hd ⟨he, hm⟩]
  case notIngot => rw [hexec, takeList_notIngot q hd hm hspace hi]
  case unreadable => rw [hexec, takeList_unreadable q hd hm hi hr]
  case readable =>
    have hfetch (q : Bool) : exec (c ⟨r, q⟩) s = .next (fetchList e q p a s) := by rw [hexec, takeList_readable q hd hm hi hr]
    refine ⟨fun q ha hb hs hp => ?hostError, fun q ha hq => ?poisoned, fun q hb hq => ⟨fun i hread => ?bad, fun cmds hread =>
      ⟨fun hanch hst => ?unanchored, fun hgood => ?good⟩⟩⟩
    case hostError => exact ⟨_, by rw [hfetch, fetchList_hostBad ha hb], findP_fetchFail p s, fetchFail_disables hp hs⟩
    case poisoned =>
      exact ⟨_, by rw [hfetch, fetchList_poisoned ha hq], tablePoison_frame 3 _ s (List.Subset.refl _) (Frame.refl _ s)⟩
    case bad => rw [hfetch, fetchList_bad hb hq hread]
    case unanchored => rw [hfetch, fetchList_unanchored hb hq hread hanch hst]
    case good =>
      refine ⟨queueList p e cmds s, queuedList p e cmds s, by rw [hfetch, fetchList_good hb hq hread hgood], ?_⟩
      exact ⟨rfl, rfl, rfl, rfl, rfl, rfl, rfl, findP_queueList hfound e cmds, queueList_frame_self p e cmds s⟩

end Sys2Proof.Machine
end

section
/-! PROOFS. Lists at their engines: the start of a list, the end of a command and of a list, and the common commands. -/

namespace Sys2Proof.Machine

open Sys2Proof

/-! ## The end of a command (06 R330, R331) -/

/-- A result that names no burst is eight bytes. -/
theorem listResult_noPoison (done failing : Nat) (st : Half) :
    listResult done failing st none = le2 done ++ le2 failing ++ le2 st.toNat ++ le2 0 := List.append_nil _

/-- The queue without a list. -/
def listDropped (l : CmdList) (s : State) : State := s.setFab { s.fab with lists := s.fab.lists.filter fun x => !(x.ref == l.ref) }

/-- A list that leaves no calibration change ends with the reply of its packet, which committed at its start. -/
theorem endList_committed {l : CmdList} {s : State} {p : Packet} (hcals : l.cals = []) (hf : findP l.ref s = some p)
    (hp : p.committed = true) (st : Half) (res : Bytes) : endList l st res s = doneLater p st res (listDropped l s) := by
  unfold endList
  rw [hcals, hf]
  exact if_pos hp

theorem advance_more {l : CmdList} (h : l.index + 1 < l.cmds.length) (s : State) :
    advance l s = modList l (fun x => { x with index := x.index + 1 }) s := if_pos h

theorem advance_last {l : CmdList} (h : l.cmds.length ≤ l.index + 1) (s : State) :
    advance l s = endList l stOK (le2 l.cmds.length ++ le2 0xFFFF ++ le2 0 ++ le2 0) s :=
  (if_neg h.not_gt).trans (by rw [listResult_noPoison]; rfl)

theorem failCmd_eq (l : CmdList) (st : Half) (s : State) :
    failCmd l st s = endList l st (le2 l.index ++ le2 l.index ++ le2 st.toNat ++ le2 0) s := by
  rw [failCmd, failList, listResult_noPoison]

/-! ## LIST_START (06 R329, R332) -/

/-- The list is at work and its packet has committed. -/
def listStarted (e : Nat) (l : CmdList) (s : State) : State :=
  let s1 := commitP l.ref (modList l (fun x => { x with running := true }) s)
  s1.setFab { s1.fab with lastServed := upd s1.fab.lastServed e fun _ => l.tenant }

section Start

variable {e : Nat} {s : State} {l : CmdList}

theorem exec_listStart_idle (h : enginesUp s = false ∨ nextList s e = none) : exec (.listStart e) s = .next s := by
  change execListStart e s = _
  unfold execListStart
  rcases h with h | h
  · rw [h]
    rfl
  · rw [h]
    simp

variable (hup : enginesUp s = true) (hn : nextList s e = some l)
include hup hn

theorem exec_listStart_overdue {p : Packet} (h : overdue s l = some p) :
    exec (.listStart e) s = .next (cancelP p stTIMED_OUT (fenceOf s p.principal) s) := by
  change execListStart e s = _
  unfold execListStart
  rw [hup, hn]
  dsimp only
  rw [h]
  rfl

theorem exec_listStart_starts (h : overdue s l = none) : exec (.listStart e) s = .next (listStarted e l s) := by
  change execListStart e s = _
  unfold execListStart
  rw [hup, hn]
  dsimp only
  rw [h]
  rfl

end Start

theorem listStarted_frame (e : Nat) (l : CmdList) (s : State) : Frame [.kw, .fab] s (listStarted e l s) :=
  State.setFab_frame _ _ (by decide) (commitP_frame l.ref _ (by decide) (modList_frame l _ s (by decide) (Frame.refl _ s)))

/-- The start is the commit point of the list's packet (06 R329). -/
theorem findP_listStarted {e : Nat} {l : CmdList} {s : State} {p : Packet} (h : findP l.ref s = some p) :
    (findP l.ref (listStarted e l s)).map (fun q => (q.committed, q.commitSpos)) = some (true, spos s) := by
  have hf : findP l.ref (modList l (fun x => { x with running := true }) s) = some p := h
  have hc : findP l.ref (listStarted e l s) = findP l.ref (commitP l.ref (modList l (fun x => { x with running := true }) s)) := rfl
  rw [hc, commitP, findP_modP (by intro; rfl), hf]
  rfl

/-! ## The running command -/

section Running

variable {e : Nat} {s : State} {l : CmdList} {c : Cmd} (hup : enginesUp s = true)
  (hl : s.fab.lists.find? (fun l => l.engine == e && l.running) = some l) (hcur : l.cur = some c)
include hup hl hcur

theorem withCmd_runs {k : Nat} (hk : c.cmd = k) (f : CmdList → Cmd → State) : withCmd e k s f = f l c := by
  unfold withCmd
  rw [hup, hl]
  dsimp only
  rw [hcur]
  exact if_pos hk

theorem exec_nop (hk : c.cmd = 0) : exec (.nop e) s = .next (advance l s) :=
  congrArg Host.Outcome.next (withCmd_runs hup hl hcur hk _)

/-- The event counter of the tenant goes on by one (06 R333). -/
def signalled (t i : Nat) (s : State) : State := modTen t (fun t => { t with events := bumpAt t.events i }) s

theorem exec_signalEvent (hk : c.cmd = 2) :
    exec (.signalEvent e) s = .next (advance l (signalled l.tenant (c.arg0.toNat % 64) s)) :=
  congrArg Host.Outcome.next (withCmd_runs hup hl hcur hk _)

theorem exec_writeStamp (hk : c.cmd = 3) (x : WriteEnd) : exec (.writeStamp e x) s = .next (
    match resolve s l.tenant (b2n l.inUnit) c.arg1.toNat 8 true with
    | .inl st => failCmd l st s
    | .inr a =>
      if hostFails s x.dmaOk a 8 then dmaFail l s
      else endWrite l (lostAt x.lost a 8) (writePlaceBut (lostAt x.lost a 8) a (stampBytes s l) s)) :=
  congrArg Host.Outcome.next ((withCmd_runs hup hl hcur hk _).trans rfl)

end Running

/-! ## WRITE_STAMP -/

/-- A unit address that may be used names its own place. -/
theorem unitPlace_eq {s : State} {t v n : Nat} {w : Bool} {a : Place} (h : unitPlace s t v n w = .inr a) : a = ⟨false, v⟩ := by
  unfold unitPlace at h
  split at h
  · cases h
  · split_ifs at h
    cases h
    rfl

/-- Host memory and the unit's addresses are written at the address that the command names. -/
theorem resolve_addr {s : State} {t v n : Nat} {u w : Bool} {a : Place} (h : resolve s t (b2n u) v n w = .inr a) : a.addr = v := by
  cases u with
  | false =>
    cases h
    rfl
  | true => rw [unitPlace_eq (s := s) (t := t) (n := n) (w := w) h]

theorem lostAt_host {lost : Option Long} {a : Place} (h : a.host = true) (n : Nat) : lostAt lost a n = none := by
  rw [lostAt, if_pos h]

section Stamp

variable {e : Nat} {s : State} {l : CmdList} {c : Cmd} (hup : enginesUp s = true)
  (hl : s.fab.lists.find? (fun l => l.engine == e && l.running) = some l) (hcur : l.cur = some c) (hk : c.cmd = 3)
include hup hl hcur hk

theorem exec_writeStamp_refused {st : Half} (hr : resolve s l.tenant (b2n l.inUnit) c.arg1.toNat 8 true = .inl st) (x : WriteEnd) :
    exec (.writeStamp e x) s = .next (failCmd l st s) := by
  rw [exec_writeStamp hup hl hcur hk, hr]

variable {a : Place} (hr : resolve s l.tenant (b2n l.inUnit) c.arg1.toNat 8 true = .inr a)
include hr

theorem exec_writeStamp_dmaFails (ha : a.host = true) (x : WriteEnd) (h : x.dmaOk = false ∨ hostBad s a.addr 8 = true) :
    exec (.writeStamp e x) s = .next (failCmd l stINTERNAL (ringError l.tenant 2 s)) := by
  rw [exec_writeStamp hup hl hcur hk, hr]
  refine congrArg Host.Outcome.next (if_pos ?_)
  rcases h with h | h <;> simp [hostFails, ha, h]

/-- An access that no error of host memory meets writes its bytes, but for a burst that is lost. -/
theorem exec_writeStamp_writes (x : WriteEnd) (h : a.host = true → x.dmaOk = true ∧ hostBad s a.addr 8 = false) :
    exec (.writeStamp e x) s = .next (endWrite l (lostAt x.lost a 8) (writePlaceBut (lostAt x.lost a 8) a (stampBytes s l) s)) := by
  rw [exec_writeStamp hup hl hcur hk, hr]
  refine congrArg Host.Outcome.next (if_neg ?_)
  cases ha : a.host with
  | true => simp [hostFails, ha, h ha]
  | false => simp [hostFails, ha]

theorem exec_writeStamp_host (ha : a.host = true) (hb : hostBad s a.addr 8 = false) (lost : Option Long) :
    exec (.writeStamp e ⟨true, lost⟩) s = .next (advance l (s.setHost (memWrite s.host c.arg1.toNat (stampBytes s l)))) := by
  rw [exec_writeStamp_writes hup hl hcur hk hr _ fun _ => ⟨rfl, hb⟩, lostAt_host ha]
  simp only [endWrite, writePlaceBut, writePlace, ha, if_true, resolve_addr hr]

theorem exec_writeStamp_unit (ha : a.host = false) {dma : Bool} {lost : Option Long} (hlost : lostAt lost a 8 = none) :
    exec (.writeStamp e ⟨dma, lost⟩) s = .next (advance l (unitWrite c.arg1.toNat (stampBytes s l) s)) := by
  rw [exec_writeStamp_writes hup hl hcur hk hr _ (by simp [ha]), hlost]
  simp [endWrite, writePlaceBut, writePlace, ha, resolve_addr hr]

theorem exec_writeStamp_lost (ha : a.host = false) {dma : Bool} {lost : Option Long} {b : Nat} (hlost : lostAt lost a 8 = some b) :
    exec (.writeStamp e ⟨dma, lost⟩) s = .next (failList l stINTERNAL (some (BitVec.ofNat 64 b))
      (writePlaceBut (some b) a (stampBytes s l) s)) := by
  rw [exec_writeStamp_writes hup hl hcur hk hr _ (by simp [ha]), hlost]
  rfl

end Stamp

/-- A write to the unit, whole or but for a lost burst, is one of the memory tiers. -/
theorem writePlaceBut_unit_frame {a : Place} (ha : a.host = false) (lost : Option Nat) (b : Bytes) (s : State) :
    Frame [.draw] s (writePlaceBut lost a b s) := by
  have hw (v : Nat) (b : Bytes) {u : State} (h : Frame [.draw] s u) : Frame [.draw] s (unitWrite v b u) :=
    unitWrite_frame v b u (List.Subset.refl _) h
  have hplace : Frame [.draw] s (writePlace a b s) := by
    rw [writePlace, ha]
    exact hw _ _ (Frame.refl _ s)
  unfold writePlaceBut
  split
  · exact hplace
  split
  · exact hplace
  · exact hw _ _ (hw _ _ (Frame.refl _ s))

/-! ## WAIT_EVENT (06 R329) -/

theorem passWait_overdue {l : CmdList} {s : State} {p : Packet} (h : overdue s l = some p) :
    passWait l s = cancelP p stTIMED_OUT (fenceOf s p.principal) s := by
  unfold passWait
  rw [h]

theorem passWait_more {l : CmdList} {s : State} (h : overdue s l = none) (hi : l.index + 1 < l.cmds.length) :
    passWait l s = modList l (fun x => { x with index := x.index + 1 }) s := by
  unfold passWait
  rw [h]
  exact if_pos hi

theorem passWait_last {l : CmdList} {s : State} (h : overdue s l = none) (hi : l.cmds.length ≤ l.index + 1) :
    passWait l s = endList l stOK (le2 l.cmds.length ++ le2 0xFFFF ++ le2 0 ++ le2 0) (commitP l.ref s) := by
  unfold passWait
  rw [h]
  exact (if_neg hi.not_gt).trans (by rw [listResult_noPoison]; rfl)

section Wait

variable {e t : Nat} {s : State} {l : CmdList} {c : Cmd} (hup : enginesUp s = true) (hh : headList s e t = some l)
  (hr : l.running = false) (hs : startReached s l = true) (hcur : l.cur = some c) (hk : c.cmd = 1)
include hup hh hr hs hcur hk

/-- The oldest list of the tenant goes on where its event has come. -/
theorem exec_waitEvent : exec (.waitEvent e t) s = .next (if eventMet s l.tenant c = true then passWait l s else s) := by
  change execWaitEvent e t s = _
  unfold execWaitEvent
  rw [hup, hh]
  dsimp only
  rw [hr, hs, hcur]
  simp [hk]

theorem exec_waitEvent_met (h : eventMet s l.tenant c = true) : exec (.waitEvent e t) s = .next (passWait l s) := by
  rw [exec_waitEvent hup hh hr hs hcur hk, if_pos h]

end Wait

/-- Settles O32: each event and command at the front of a list is named with the state it answers. -/
theorem listsRunInOrder : Obligations.ListsRunInOrder := by
  unfold Obligations.ListsRunInOrder
  refine ⟨fun e s l hup hn => ⟨fun p h => exec_listStart_overdue hup hn h, fun h => ⟨_, exec_listStart_starts hup hn h, rfl,
      fun p => findP_listStarted, listStarted_frame e l s⟩⟩,
    fun e s => exec_listStart_idle, fun l s h => advance_more h s,
    fun l s p hlen hcals hf hp => ?last, fun l st s p hcals hf hp => ?fails,
    fun e s l c hup hl hcur => ⟨exec_nop hup hl hcur, fun hk => ?signal, fun hk =>
      ⟨fun st dma lost hr => exec_writeStamp_refused hup hl hcur hk hr ⟨dma, lost⟩, fun a hr =>
        ⟨fun lost ha hb => exec_writeStamp_host hup hl hcur hk hr ha hb lost,
          fun dma lost ha h => exec_writeStamp_dmaFails hup hl hcur hk hr ha ⟨dma, lost⟩ h,
          fun dma lost ha => exec_writeStamp_unit hup hl hcur hk hr ha,
          fun dma lost b ha h => ⟨_, exec_writeStamp_lost hup hl hcur hk hr ha h, writePlaceBut_unit_frame ha (some b) _ s⟩⟩⟩⟩,
    fun e t s l c hup hh hrun hs hcur hk => ⟨fun hno => ?waits, fun hmet => ?passes⟩⟩
  case last => rw [advance_last hlen.le, endList_committed hcals hf hp, listDropped]
  case fails => rw [failCmd_eq, endList_committed hcals hf hp, listDropped]
  case signal =>
    refine ⟨_, exec_signalEvent hup hl hcur hk, modTen_frame _ _ s (List.Subset.refl _) (Frame.refl _ s), fun hlen => ?_⟩
    exact ten_modTen_self s l.tenant _ hlen
  case waits => rw [exec_waitEvent hup hh hrun hs hcur hk, if_neg (by rw [hno]; decide)]
  case passes =>
    rw [exec_waitEvent_met hup hh hrun hs hcur hk hmet]
    exact ⟨fun p h => by rw [passWait_overdue h], fun h hi => by rw [passWait_more h hi]; rfl,
      fun h hi => by rw [passWait_last h hi]⟩

end Sys2Proof.Machine
end

section
/-! PROOFS. What replies, notices and ring errors leave of the fabric: everything but command lists and releases that wait, which a
ring error withdraws with the packets it cancels. -/

namespace Sys2Proof.Machine

open Sys2Proof

/-! ## Chapters outside a frame -/

theorem Frame.fab_eq {l : List Chapter} {s t : State} (h : Frame l s t) (hp : Chapter.fab ∉ l) : t.fab = s.fab := h .fab hp
theorem Frame.rcp_eq {l : List Chapter} {s t : State} (h : Frame l s t) (hp : Chapter.rcp ∉ l) : t.rcp = s.rcp := h .rcp hp
theorem Frame.flt_eq {l : List Chapter} {s t : State} (h : Frame l s t) (hp : Chapter.flt ∉ l) : t.flt = s.flt := h .flt hp
theorem Frame.kw_eq {l : List Chapter} {s t : State} (h : Frame l s t) (hp : Chapter.kw ∉ l) : t.kw = s.kw := h .kw hp
theorem Frame.now_eq {l : List Chapter} {s t : State} (h : Frame l s t) (hp : Chapter.now ∉ l) : t.now = s.now := h .now hp
theorem Frame.pwr_eq {l : List Chapter} {s t : State} (h : Frame l s t) (hp : Chapter.pwr ∉ l) : t.pwr = s.pwr := h .pwr hp

/-! ## Tables -/

theorem getI_map {α β : Type} (f : α → β) (l : List α) (i : Nat) (d : α) : getI (l.map f) i (f d) = f (getI l i d) := by
  simp only [getI, List.getD_eq_getElem?_getD, List.getElem?_map]
  cases l[i]? <;> rfl

/-! ## The benches but for the releases that wait -/

/-- A bench without the releases that wait for LOADING or RESETTING to end (06 R316). -/
def Bench.bare (x : Bench) : Bench := { x with releaseRefs := [] }

/-- The fabric without its benches and command lists. -/
def Fabric.rest (f : Fabric) : Fabric := { f with bench := [], lists := [] }

/-- From `s` to `t` every bench is as it was, but that releases which waited may have been withdrawn. -/
structure SameBenches (s t : State) : Prop where
  rest : t.fab.rest = s.fab.rest
  count : t.fab.bench.length = s.fab.bench.length
  bare : ∀ j, (benchOf t j).bare = (benchOf s j).bare
  refs : ∀ j, ∀ r ∈ (benchOf t j).releaseRefs, r ∈ (benchOf s j).releaseRefs

theorem SameBenches.of_fab {s t : State} (h : t.fab = s.fab) : SameBenches s t := by
  have hb (j : Nat) : benchOf t j = benchOf s j := by rw [benchOf, benchOf, h]
  exact ⟨by rw [h], by rw [h], fun j => by rw [hb], fun j r hr => by rwa [← hb]⟩

theorem SameBenches.of_frame {l : List Chapter} {s t : State} (h : Frame l s t) (hp : Chapter.fab ∉ l) : SameBenches s t :=
  .of_fab (h.fab_eq hp)

theorem SameBenches.refl (s : State) : SameBenches s s := .of_fab rfl

theorem SameBenches.trans {s t u : State} (h : SameBenches s t) (k : SameBenches t u) : SameBenches s u :=
  ⟨k.rest.trans h.rest, k.count.trans h.count, fun j => (k.bare j).trans (h.bare j), fun j r hr => h.refs j r (k.refs j r hr)⟩

/-- What does not depend on the releases that wait is as it was on every bench. -/
theorem SameBenches.read {s t : State} (h : SameBenches s t) {α : Type} (g : Bench → α) (hg : ∀ x, g x.bare = g x) (j : Nat) :
    g (benchOf t j) = g (benchOf s j) := by
  rw [← hg, h.bare, hg]

/-- The same measured from a state with the same fabric. -/
theorem SameBenches.after {s t u : State} (k : t.fab = s.fab) (h : SameBenches t u) : SameBenches s u := (of_fab k).trans h

theorem SameBenches.chipLoss {s t : State} (h : SameBenches s t) : t.fab.chipLoss = s.fab.chipLoss := by
  have := congrArg Fabric.chipLoss h.rest
  exact this

theorem SameBenches.retiredStakes {s t : State} (h : SameBenches s t) : t.fab.retiredStakes = s.fab.retiredStakes := by
  have := congrArg Fabric.retiredStakes h.rest
  exact this

theorem benchOf_withdraw (r : Ref) (s : State) (j : Nat) : benchOf (withdraw r s) j = dropRelease r (benchOf s j) :=
  getI_map (dropRelease r) s.fab.bench j Bench.reset

theorem withdraw_sameBenches (r : Ref) (s : State) : SameBenches s (withdraw r s) := by
  refine ⟨rfl, List.length_map .., fun j => ?_, fun j q hq => ?_⟩
  · rw [benchOf_withdraw]
    rfl
  · rw [benchOf_withdraw] at hq
    exact (List.mem_filter.1 hq).1

theorem logCancelled_sameBenches (l : List Packet) (s : State) : SameBenches s (logCancelled l s) := by
  induction l generalizing s with
  | nil => exact .refl s
  | cons p l ih =>
    refine SameBenches.trans ?_ (ih _)
    exact SameBenches.after (t := dropP p.ref s) rfl ((withdraw_sameBenches p.ref _).trans (.of_fab rfl))

theorem ringError_sameBenches (n b : Nat) (s : State) : SameBenches s (ringError n b s) := by
  refine SameBenches.trans (.of_fab ?_) (logCancelled_sameBenches _ _)
  exact (msixSend_frame n 2 _ (List.Subset.refl _) (Frame.refl _ _)).fab_eq (by decide)

/-! ## Replies -/

theorem tenantReply_sameBenches (i : ReplyInfo) (orphan : Bool) (s : State) : SameBenches s (tenantReply i orphan s) := by
  unfold tenantReply
  split
  · exact .of_fab rfl
  split
  · exact (ringError_sameBenches i.tenant 2 s).trans (.of_fab rfl)
  · exact .of_frame (ringReply_frame i s (List.Subset.refl _) (Frame.refl _ s)) (by decide)

theorem finish_sameBenches (p : Packet) (st : Half) (fence sp : Word) (res : Bytes) (s : State) :
    SameBenches s (finish p st fence sp res s) := by
  unfold finish
  dsimp only
  split
  · exact .of_fab rfl
  unfold deliver
  dsimp only
  split
  · exact .of_fab rfl
  · exact SameBenches.after (t := dropP p.ref s) rfl (tenantReply_sameBenches _ _ _)

theorem done_sameBenches (p : Packet) (st : Half) (res : Bytes) (s : State) : SameBenches s (done p st res s) :=
  finish_sameBenches ..
theorem ok_sameBenches (p : Packet) (res : Bytes) (s : State) : SameBenches s (ok p res s) := done_sameBenches ..
theorem doneLater_sameBenches (p : Packet) (st : Half) (res : Bytes) (s : State) : SameBenches s (doneLater p st res s) :=
  finish_sameBenches ..

theorem findP_ok (p : Packet) (res : Bytes) (s : State) : findP p.ref (ok p res s) = none := findP_finish ..

/-! ## Notices -/

theorem noticeTo_sameBenches (n : Nat) (code : Half) (sp : Word) (data : Bytes) (s : State) :
    SameBenches s (noticeTo n code sp data s) := by
  unfold noticeTo
  dsimp only
  split
  · exact .refl s
  split
  · exact .of_frame (holdNotice_frame n _ _ (List.Subset.refl _) (modTen_frame n _ s (List.Subset.refl _) (Frame.refl _ s)))
      (by decide)
  split
  · refine SameBenches.trans ?_ (.of_frame (holdNotice_frame n _ _ (List.Subset.refl _) (Frame.refl _ _)) (by decide))
    exact SameBenches.after (modTen_fab s n _) (ringError_sameBenches n 2 _)
  · exact .of_frame (writeNotice_frame n _ _ (List.Subset.refl _) (modTen_frame n _ s (by decide) (Frame.refl _ s))) (by decide)

theorem noticeAll_sameBenches (l : List Nat) (code : Half) (sp : Word) (data : Bytes) (s : State) :
    SameBenches s (noticeAll l code sp data s) := by
  induction l generalizing s with
  | nil => exact .refl s
  | cons n l ih => exact (noticeTo_sameBenches n code sp data s).trans (ih _)

theorem noticeUnitAt_sameBenches (code : Half) (sp : Word) (data : Bytes) (s : State) :
    SameBenches s (noticeUnitAt code sp data s) := by
  unfold noticeUnitAt
  split
  · exact .of_fab rfl
  · exact noticeAll_sameBenches ..

theorem noticeUnit_sameBenches (code : Half) (data : Bytes) (s : State) : SameBenches s (noticeUnit code data s) :=
  noticeUnitAt_sameBenches ..

theorem noticeHolderAt_sameBenches (n : Nat) (code : Half) (sp : Word) (data : Bytes) (s : State) :
    SameBenches s (noticeHolderAt n code sp data s) := by
  unfold noticeHolderAt
  split
  · exact .of_fab rfl
  split
  · exact noticeTo_sameBenches ..
  · exact (noticeTo_sameBenches 0 code sp data s).trans (noticeTo_sameBenches ..)

theorem noticeHolder_sameBenches (n : Nat) (code : Half) (data : Bytes) (s : State) : SameBenches s (noticeHolder n code data s) :=
  noticeHolderAt_sameBenches ..

/-! ## What a notice leaves of the upsets counted and the retirements that wait -/

/-- The upsets counted and the retirements that wait are as they were. -/
structure SameUpsets (s t : State) : Prop where
  upsets : t.flt.upsets = s.flt.upsets
  deferred : t.flt.deferred = s.flt.deferred

theorem SameUpsets.trans {s t u : State} (h : SameUpsets s t) (k : SameUpsets t u) : SameUpsets s u :=
  ⟨k.upsets.trans h.upsets, k.deferred.trans h.deferred⟩

theorem SameUpsets.of_frame {l : List Chapter} {s t : State} (h : Frame l s t) (hp : Chapter.flt ∉ l) : SameUpsets s t := by
  have e := h.flt_eq hp
  exact ⟨by rw [e], by rw [e]⟩

theorem logFault_sameUpsets (e : LogEntry) (s : State) : SameUpsets s (logFault e s) := ⟨rfl, rfl⟩

theorem noticeUnit_sameUpsets (code : Half) (data : Bytes) (s : State) : SameUpsets s (noticeUnit code data s) := by
  unfold noticeUnit noticeUnitAt
  split
  · exact ⟨rfl, rfl⟩
  · exact .of_frame (noticeAll_frame _ _ _ _ s (List.Subset.refl _) (Frame.refl _ s)) (by decide)

theorem noticeHolder_sameUpsets (n : Nat) (code : Half) (data : Bytes) (s : State) :
    SameUpsets s (noticeHolder n code data s) := by
  have hto (m : Nat) (u : State) : SameUpsets u (noticeTo m code (spos s) data u) :=
    .of_frame (noticeTo_frame m code (spos s) data u (List.Subset.refl _) (Frame.refl _ u)) (by decide)
  unfold noticeHolder noticeHolderAt
  split
  · exact ⟨rfl, rfl⟩
  split
  · exact hto 0 s
  · exact (hto 0 s).trans (hto n _)

end Sys2Proof.Machine
end

section
/-! PROOFS. Operations on one bench: what each leaves of it and of the other benches, and the reset of a bench. -/

namespace Sys2Proof.Machine

open Sys2Proof

/-! ## Changes of one bench -/

/-- From `s` to `t` the fabric has changed in bench `b` alone, and `g` of that bench is as it was. -/
structure OnBench {α : Type} (g : Bench → α) (b : Nat) (s t : State) : Prop where
  rest : t.fab.rest = s.fab.rest
  count : t.fab.bench.length = s.fab.bench.length
  others : ∀ j, j ≠ b → benchOf t j = benchOf s j
  same : g (benchOf t b) = g (benchOf s b)

section OnBench

variable {α β : Type} {g : Bench → α} {b : Nat} {s t u : State}

theorem OnBench.of_fab (h : t.fab = s.fab) : OnBench g b s t := by
  have hb (j : Nat) : benchOf t j = benchOf s j := by rw [benchOf, benchOf, h]
  exact ⟨by rw [h], by rw [h], fun j _ => hb j, by rw [hb]⟩

/-- The same measured from a state with the same fabric. -/
theorem OnBench.after (k : t.fab = s.fab) (h : OnBench g b t u) : OnBench g b s u := by
  have hb (j : Nat) : benchOf t j = benchOf s j := by rw [benchOf, benchOf, k]
  exact ⟨h.rest.trans (by rw [k]), h.count.trans (by rw [k]), fun j hj => (h.others j hj).trans (hb j), h.same.trans (by rw [hb])⟩

theorem OnBench.of_frame {l : List Chapter} (h : Frame l s t) (hp : Chapter.fab ∉ l) : OnBench g b s t := .of_fab (h.fab_eq hp)

theorem OnBench.trans (h : OnBench g b s t) (k : OnBench g b t u) : OnBench g b s u :=
  ⟨k.rest.trans h.rest, k.count.trans h.count, fun j hj => (k.others j hj).trans (h.others j hj), k.same.trans h.same⟩

/-- What is made of `g` alone is as it was too. -/
theorem OnBench.mono {k : Bench → β} (h : OnBench g b s t) (hk : ∀ x y, g x = g y → k x = k y) : OnBench k b s t :=
  ⟨h.rest, h.count, h.others, hk _ _ h.same⟩

theorem modBench_onBench {f : Bench → Bench} (hf : ∀ x, g (f x) = g x) (b : Nat) (s : State) : OnBench g b s (modBench b f s) :=
  ⟨rfl, modBench_length s b f, fun j hj => benchOf_modBench_ne s b j f hj.symm,
    getI_upd_keeps g hf s.fab.bench b b Bench.reset⟩

end OnBench

/-! ## Counters and copies -/

/-- A bench without its counters, and of those the number of overruns. -/
def Bench.tallied (x : Bench) : Bench × Word × Nat := ({ x with ctr := [] }, getI x.ctr 4 0, x.ctr.length)

/-- What a bench keeps when its work is cut off: all but its queue, its runs and the counters of both. -/
def Bench.desk (x : Bench) : Bench × Word × Nat :=
  ({ x with queue := [], running := [], tiles := 0, ctr := [] }, getI x.ctr 4 0, x.ctr.length)

theorem Bench.desk_of_tallied {x y : Bench} (h : x.tallied = y.tallied) : x.desk = y.desk := by
  simp only [Bench.tallied, Prod.mk.injEq] at h
  obtain ⟨h1, h2, h3⟩ := h
  simp only [Bench.desk, h2, h3, Prod.mk.injEq, and_true]
  exact congrArg (fun x : Bench => { x with queue := [], running := [], tiles := 0 }) h1

theorem bumpBench_onBench {i : Nat} (hi : i ≠ 4) (b n : Nat) (s : State) : OnBench Bench.tallied b s (bumpBench b i n s) :=
  modBench_onBench (fun x => by simp only [Bench.tallied, getI_upd_ne _ _ _ _ _ hi, upd_length]) b s

theorem placeCopy_onBench {α : Type} {g : Bench → α} (hg : ∀ x c, g { x with copies := c } = g x) (b i : Nat) (s : State) :
    OnBench g b s (placeCopy b i s) :=
  modBench_onBench (fun x => hg x _) b s

theorem placeCopies_onBench {α : Type} {g : Bench → α} (hg : ∀ x c, g { x with copies := c } = g x) (b : Nat) (s : State) :
    OnBench g b s (placeCopies b s) :=
  ((placeCopy_onBench hg b 0 s).trans (placeCopy_onBench hg b 1 _)).trans (placeCopy_onBench hg b 2 _)

section Read

variable {x y : Bench}

theorem Bench.tallied_state (h : x.tallied = y.tallied) : x.state = y.state := congrArg (fun z => z.1.state) h
theorem Bench.tallied_queue (h : x.tallied = y.tallied) : x.queue = y.queue := congrArg (fun z => z.1.queue) h
theorem Bench.tallied_handle (h : x.tallied = y.tallied) : x.handle = y.handle := congrArg (fun z => z.1.handle) h
theorem Bench.tallied_overruns (h : x.tallied = y.tallied) : getI x.ctr 4 0 = getI y.ctr 4 0 := congrArg (fun z => z.2.1) h
theorem Bench.desk_handle (h : x.desk = y.desk) : x.handle = y.handle := congrArg (fun z => z.1.handle) h
theorem Bench.desk_overruns (h : x.desk = y.desk) : getI x.ctr 4 0 = getI y.ctr 4 0 := congrArg (fun z => z.2.1) h

end Read

/-! ## Cutting off the work of a bench (06 R340, R344) -/

theorem giveHold_onBench (b : Nat) (t : Tile) (reason : Nat) (fence : Word) (s : State) :
    OnBench Bench.tallied b s (giveHold b t reason fence s) :=
  (bumpBench_onBench (by decide) b 1 s).trans
    (.of_frame (toHallmark_frame _ _ (List.Subset.refl _) (Frame.refl _ _)) (by decide))

theorem giveHolds_onBench (b : Nat) (l : List Tile) (reason : Nat) (fence : Word) (s : State) :
    OnBench Bench.tallied b s (giveHolds b l reason fence s) := by
  induction l generalizing s with
  | nil => exact .of_fab rfl
  | cons t l ih => exact (giveHold_onBench b t reason fence s).trans (ih _)

theorem retractResults_onBench (b reason : Nat) (fence : Word) (s : State) :
    OnBench Bench.desk b s (retractResults b reason fence s) := by
  have hbump {i : Nat} (hi : i ≠ 4) (n : Nat) (u : State) : OnBench Bench.desk b u (bumpBench b i n u) :=
    (bumpBench_onBench hi b n u).mono fun _ _ => Bench.desk_of_tallied
  refine OnBench.trans ?_ ((hbump (by decide) _ _).trans (hbump (by decide) _ _))
  refine OnBench.after (State.setHm_fab s _) (modBench_onBench (fun x => ?_) b _)
  simp only [Bench.desk, getI_upd_ne _ 5 4 _ _ (by decide), getI_upd_ne _ 6 4 _ _ (by decide), upd_length]

/-- A bench whose queue is empty and whose runs are cut off. -/
def Bench.cut (x : Bench) : Bench := { x with queue := [], running := x.running.map cutRun }

theorem flushBench_onBench (b reason : Nat) (fence : Word) (s : State) : OnBench Bench.desk b s (flushBench b reason fence s) :=
  (retractResults_onBench b reason fence s).trans ((modBench_onBench (f := Bench.cut) (fun _ => rfl) b _).trans
    ((giveHolds_onBench b _ reason fence _).mono fun _ _ => Bench.desk_of_tallied))

theorem flushBench_queue (b reason : Nat) (fence : Word) {s : State} (hb : b < s.fab.bench.length) :
    (benchOf (flushBench b reason fence s) b).queue = [] := by
  have hcount := (retractResults_onBench b reason fence s).count
  have hcut : (benchOf (modBench b Bench.cut (retractResults b reason fence s)) b).queue = [] := by
    rw [benchOf_modBench_self _ b _ (by rwa [hcount])]
    rfl
  unfold flushBench
  exact (Bench.tallied_queue (giveHolds_onBench b _ reason fence _).same).trans hcut

/-! ## A bench that is RESETTING -/

/-- From `s` to `u` the fabric has changed in bench `b` alone, which is RESETTING with an empty queue under the same handle. -/
structure BenchReset (b : Nat) (s u : State) : Prop where
  state : (benchOf u b).state = .resetting
  queue : (benchOf u b).queue = []
  handle : (benchOf u b).handle = (benchOf s b).handle
  overruns : getI (benchOf u b).ctr 4 0 = getI (benchOf s b).ctr 4 0
  others : ∀ j, j ≠ b → benchOf u j = benchOf s j
  rest : u.fab.rest = s.fab.rest
  count : u.fab.bench.length = s.fab.bench.length

theorem BenchReset.then {b : Nat} {s t u : State} (h : BenchReset b s t) (k : OnBench Bench.tallied b t u) : BenchReset b s u :=
  ⟨(Bench.tallied_state k.same).trans h.state, (Bench.tallied_queue k.same).trans h.queue,
    (Bench.tallied_handle k.same).trans h.handle, (Bench.tallied_overruns k.same).trans h.overruns,
    fun j hj => (k.others j hj).trans (h.others j hj), k.rest.trans h.rest, k.count.trans h.count⟩

theorem BenchReset.after {b : Nat} {s t u : State} (k : t.fab = s.fab) (h : BenchReset b t u) : BenchReset b s u := by
  have hb (j : Nat) : benchOf t j = benchOf s j := by rw [benchOf, benchOf, k]
  exact ⟨h.state, h.queue, h.handle.trans (by rw [hb]), h.overruns.trans (by rw [hb]), fun j hj => (h.others j hj).trans (hb j),
    h.rest.trans (by rw [k]), h.count.trans (by rw [k])⟩

/-- Work cut off, and the bench set to RESETTING: one bench is reset. -/
theorem modBench_flushBench_reset {f : Bench → Bench} (hstate : ∀ x, (f x).state = .resetting)
    (hrest : ∀ x, ((f x).queue, (f x).handle, (f x).ctr) = (x.queue, x.handle, x.ctr)) {b : Nat} {s : State}
    (hb : b < s.fab.bench.length) (reason : Nat) (fence : Word) : BenchReset b s (modBench b f (flushBench b reason fence s)) := by
  have hflush := flushBench_onBench b reason fence s
  have hself := benchOf_modBench_self (flushBench b reason fence s) b f (by rwa [hflush.count])
  have hf := hrest (benchOf (flushBench b reason fence s) b)
  simp only [Prod.mk.injEq] at hf
  obtain ⟨hqueue, hhandle, hctr⟩ := hf
  refine ⟨by rw [hself, hstate], by rw [hself, hqueue, flushBench_queue b reason fence hb], ?_, ?_, fun j hj => ?_, hflush.rest,
    (modBench_length _ b f).trans hflush.count⟩
  · rw [hself, hhandle]
    exact Bench.desk_handle hflush.same
  · rw [hself, hctr]
    exact Bench.desk_overruns hflush.same
  · rw [benchOf_modBench_ne _ b j f hj.symm, hflush.others j hj]

theorem rewindEpoch_fab (b : Nat) (s : State) : (rewindEpoch b s).fab = s.fab :=
  (rewindEpoch_frame b s (List.Subset.refl _) (Frame.refl _ s)).fab_eq (by decide)

theorem startReset_reset {b : Nat} {s : State} (hb : b < s.fab.bench.length) (stake cause more : Nat) (injected : Bool) :
    BenchReset b s (startReset b stake cause more injected s) := by
  unfold startReset
  dsimp only
  refine BenchReset.then (BenchReset.then ?_ (bumpBench_onBench (by decide) b 1 _)) (.of_fab (rewindEpoch_fab b _))
  refine BenchReset.after (t := bumpAdm (benchOf s b).handle s) rfl (modBench_flushBench_reset ?_ ?_ ?_ _ _)
  · exact fun _ => rfl
  · exact fun _ => rfl
  · exact hb

/-- The reset bumps the generation of the bench's admission and changes no other part of the Ledger (06 R340). -/
theorem startReset_led (b stake cause more : Nat) (injected : Bool) (s : State) :
    (startReset b stake cause more injected s).led = (bumpAdm (benchOf s b).handle s).led := by
  unfold startReset
  dsimp only
  rw [(rewindEpoch_frame b _ (List.Subset.refl _) (Frame.refl _ _)).led_eq (by decide), bumpBench, modBench_led, modBench_led]
  exact (flushBench_frame b _ _ _ (List.Subset.refl _) (Frame.refl _ _)).led_eq (by decide)

/-- An admission whose entry has changed, but not its handle, is found where it was. -/
theorem findAdm_map {s u : State} {f : Admission → Admission} (hf : ∀ a, (f a).handle = a.handle)
    (hu : u.led.held = s.led.held.map f) (h : Nat) : findAdm u h = (findAdm s h).map f := by
  rw [findAdm, hu, List.find?_map]
  simp only [Function.comp_def, hf]
  rfl

/-- The generation of a bench after its admission has been bumped. -/
theorem benchFence_of_bumped {b : Nat} {s u : State} {a : Admission} (ha : findAdm s (benchOf s b).handle = some a)
    (hh : (benchOf u b).handle = (benchOf s b).handle) (hl : u.led = (bumpAdm (benchOf s b).handle s).led) :
    benchFence u b = nextFence a.fence := by
  have hid : a.handle = (benchOf s b).handle := by simpa using List.find?_some ha
  have hfind : findAdm (bumpAdm (benchOf s b).handle s) (benchOf s b).handle = _ := findAdm_map (fun a => by split <;> rfl) rfl _
  rw [benchFence, hh, show findAdm u = findAdm (bumpAdm (benchOf s b).handle s) from funext fun h => by rw [findAdm, hl, findAdm],
    hfind, ha, Option.map_some, if_pos hid]
  rfl

/-! ## A fault of one stake (06 R340, R346) -/

/-- An upset of a stake is counted and logged; its retirement waits at least for the reset of its bench (06 R346). -/
theorem upsetRetire_stake (k how retries affected : Nat) (s : State) : ∃ waits,
    upsetRetire 2 k how false retries affected s = (upset 2 k how true false retries affected s).setFlt
      { (upset 2 k how true false retries affected s).flt with deferred := waits } := by
  unfold upsetRetire
  dsimp only
  rw [if_neg (by decide)]
  unfold checkRetire
  split
  · exact ⟨_, rfl⟩
  · rw [if_pos (by simp)]
    exact ⟨_, rfl⟩

theorem upset_upsets (cls inst how retries affected : Nat) (s : State) :
    (upset cls inst how true false retries affected s).flt.upsets = (cls, inst, s.now) :: s.flt.upsets := rfl

theorem upset_log (cls inst how retries affected : Nat) (counts injected : Bool) (s : State) :
    ((upset cls inst how counts injected retries affected s).flt.log.head?).map (fun e => (e.cls, e.kind, e.inst)) =
      some (cls, 1, inst) := by
  unfold upset logFault
  rw [State.setFlt_flt, List.take_succ_cons]
  rfl

theorem upset_fab (cls inst how retries affected : Nat) (counts injected : Bool) (s : State) :
    (upset cls inst how counts injected retries affected s).fab = s.fab :=
  (upset_frame cls inst how counts injected retries affected s (List.Subset.refl _) (Frame.refl _ s)).fab_eq (by decide)

theorem upset_led (cls inst how retries affected : Nat) (counts injected : Bool) (s : State) :
    (upset cls inst how counts injected retries affected s).led = s.led :=
  (upset_frame cls inst how counts injected retries affected s (List.Subset.refl _) (Frame.refl _ s)).led_eq (by decide)

/-- The state in which the reset starts: a reset under way is superseded (12 R590). -/
def superseded (b : Nat) (s : State) : State :=
  match (benchOf s b).resetting with
  | some (k, _, _, _) => supersede 2 k s
  | none => s

theorem superseded_frame (b : Nat) (s : State) : Frame [.flt] s (superseded b s) := by
  unfold superseded
  split
  · exact supersede_frame 2 _ s (List.Subset.refl _) (Frame.refl _ s)
  · exact Frame.refl _ s

theorem superseded_upsets (b : Nat) (s : State) : (superseded b s).flt.upsets = s.flt.upsets := by
  unfold superseded
  split <;> rfl

section Fault

variable {b : Nat} {s : State} (hfree : (benchOf s b).state ≠ .free) (hloss : s.fab.chipLoss = none)
include hfree hloss

theorem privateFault_eq (k cause : Nat) : privateFault b k cause false s =
    upsetRetire 2 k (detectOf cause) false 0 (heldBy s b + 0) (startReset b k cause 0 false (superseded b s)) := by
  unfold privateFault privateFaultOf
  dsimp only
  rw [if_neg hfree, hloss]
  rfl

/-- The bench is reset, its admission bumped, and one upset of the stake counted and logged. -/
theorem privateFault_spec (hb : b < s.fab.bench.length) (k cause : Nat) : ∃ u, privateFault b k cause false s = u ∧ BenchReset b s u ∧
    u.led = (bumpAdm (benchOf s b).handle s).led ∧ u.flt.upsets = (2, k, s.now) :: s.flt.upsets ∧
    (u.flt.log.head?).map (fun e => (e.cls, e.kind, e.inst)) = some (2, 1, k) := by
  have hsup := superseded_frame b s
  have hfab := hsup.fab_eq (by decide)
  have hreset : BenchReset b s (startReset b k cause 0 false (superseded b s)) :=
    (startReset_reset (by rwa [hfab]) k cause 0 false).after hfab
  have hframe := startReset_frame b k cause 0 false (superseded b s) (List.Subset.refl _) (Frame.refl _ _)
  have hflt := hframe.flt_eq (by decide)
  have hnow : (startReset b k cause 0 false (superseded b s)).now = s.now :=
    (hframe.now_eq (by decide)).trans (hsup.now_eq (by decide))
  have hled : (startReset b k cause 0 false (superseded b s)).led = (bumpAdm (benchOf s b).handle s).led := by
    rw [startReset_led, bumpAdm, bumpAdm, State.setLed_led, State.setLed_led, hsup.led_eq (by decide), benchOf_frame hsup (by decide)]
  obtain ⟨waits, hup⟩ := upsetRetire_stake k (detectOf cause) 0 (heldBy s b + 0) (startReset b k cause 0 false (superseded b s))
  rw [privateFault_eq hfree hloss, hup]
  refine ⟨_, rfl, hreset.then (.of_fab ?_), ?_, ?_, ?_⟩
  · rw [State.setFlt_fab, upset_fab]
  · rw [State.setFlt_led, upset_led, hled]
  · rw [State.setFlt_flt, upset_upsets, hnow, hflt, superseded_upsets]
  · rw [State.setFlt_flt, upset_log]

end Fault

end Sys2Proof.Machine
end

section
/-! PROOFS. Tiles on the fabric: dispatch, completion, and the watchdog. -/

namespace Sys2Proof.Machine

open Sys2Proof

/-! ## TILE_DISPATCH (06 R318 to R322) -/

/-- The tile that is dispatched next was queued. -/
theorem mem_of_nextTile {s : State} {x : Bench} {l rest : List Tile} {t : Tile} (h : nextTile s x l = some (t, rest)) : t ∈ l := by
  induction l generalizing rest with
  | nil => cases h
  | cons y l ih =>
    unfold nextTile at h
    split at h
    · obtain ⟨⟨u, r⟩, hu, he⟩ := Option.map_eq_some_iff.1 h
      cases he
      exact List.mem_cons_of_mem _ (ih hu)
    · cases h
      exact List.mem_cons_self ..

/-- Live stakes, powered, on which no run goes on. -/
theorem mem_idleStakes {s : State} {x : Bench} {k : Nat} : k ∈ idleStakes s x ↔
    k ∈ liveStakes s x.groups ∧ stakePowered s k = true ∧ ∀ r ∈ x.running, r.state ≠ .gone → r.stake ≠ k := by
  have hrun : (x.running.any fun r => r.stake == k && r.state != .gone) = false ↔
      ∀ r ∈ x.running, r.state ≠ .gone → r.stake ≠ k := by
    rw [List.any_eq_false]
    exact forall₂_congr fun r _ => by simp only [Bool.and_eq_true, beq_iff_eq, bne_iff_ne]; tauto
  rw [idleStakes, List.mem_filter, Bool.and_eq_true, Bool.not_eq_true', hrun]

theorem idleStakes_pairwise (s : State) (x : Bench) : (idleStakes s x).Pairwise (· < ·) :=
  ((List.pairwise_lt_range.filter _).filter _).filter _

/-- The first of the idle stakes has the lowest number. -/
theorem idleStakes_head_le {s : State} {x : Bench} {k : Nat} {ks : List Nat} (h : idleStakes s x = k :: ks) {j : Nat}
    (hj : j ∈ idleStakes s x) : k ≤ j := by
  have hp := idleStakes_pairwise s x
  rw [h] at hj hp
  rcases List.mem_cons.1 hj with rfl | hj
  · exact le_rfl
  · exact ((List.pairwise_cons.1 hp).1 j hj).le

/-- The bench after the dispatch of a tile to a stake. -/
def Bench.dispatched (s : State) (b k : Nat) (t : Tile) (rest : List Tile) (x : Bench) : Bench :=
  { x with
    queue := rest, running := x.running ++ [runOf s b k t]
    rowSlot := (t.view, t.row, slotOf x t) :: x.rowSlot.filter fun e => e.1 != t.view }

section Dispatch

variable {b t : Nat} {s : State}

theorem exec_tileDispatch {k : Nat} {ks : List Nat} {tile : Tile} {rest : List Tile} (harmed : (benchOf s b).state = .armed)
    (hn : nextTile (s.at_ t) (benchOf s b) (benchOf s b).queue = some (tile, rest))
    (hi : idleStakes (s.at_ t) (benchOf s b) = k :: ks) :
    exec (.tileDispatch b t) s = .next (modBench b (Bench.dispatched (s.at_ t) b k tile rest) (s.at_ t)) := by
  change execTileDispatch b t s = _
  unfold execTileDispatch
  dsimp only
  rw [benchOf_at, if_neg (not_not_intro harmed), hn, hi]
  rfl

theorem exec_tileDispatch_idle (h : (benchOf s b).state ≠ .armed ∨ nextTile (s.at_ t) (benchOf s b) (benchOf s b).queue = none ∨
    idleStakes (s.at_ t) (benchOf s b) = []) : exec (.tileDispatch b t) s = .next (s.at_ t) := by
  change execTileDispatch b t s = _
  unfold execTileDispatch
  dsimp only
  rw [benchOf_at]
  rcases h with h | h | h
  · rw [if_pos h]
  · split
    · rfl
    · rw [h]
  · split
    · rfl
    · rw [h]
      cases nextTile (s.at_ t) (benchOf s b) (benchOf s b).queue <;> rfl

/-- The row of the tile has taken the parameter slot that the tile has (06 R322). -/
theorem slotOf_dispatched (s : State) (b k : Nat) (tile : Tile) (rest : List Tile) :
    slotOf ((benchOf s b).dispatched s b k tile rest) tile = slotOf (benchOf s b) tile := by
  rw [slotOf, Bench.dispatched]
  simp

end Dispatch

/-! ## TILE_COMPLETE (06 R321, R344) -/

theorem exec_tileComplete_none {b k t : Nat} {gen : Word} {s : State} (h : findRun (benchOf s b) k gen = none) :
    exec (.tileComplete b k gen t) s = .next (s.at_ t) := by
  change execTileComplete b k gen t s = _
  unfold execTileComplete
  dsimp only
  rw [benchOf_at, h]

/-- The outcome that a completed run hands to HALLMARK. -/
def outcomeOf (b : Nat) (r : Running) (s : State) : Outcome :=
  { bench := b, recipe := (benchOf s b).recipe, adm := (benchOf s b).handle, tile := r.tile, hold := r.tile.holdReason, fence := r.fence
    result := some { r.result with cands := r.result.cands.take 64 }, vslots := ((benchOf s b).cert.map (·.vslots)).getD 0, at_ := s.now }

/-- An outcome enters the ingest queue last where it has room (09 R453). -/
theorem toHallmark_room {s : State} (h : s.hm.ingest.length < 8192) (o : Outcome) :
    toHallmark o s = s.setHm { s.hm with ingest := s.hm.ingest ++ [o] } := if_pos h

/-- The tally of a tile that ended with a result leaves the runs of the bench. -/
theorem benchOf_countTile {b : Nat} {s : State} (hb : b < s.fab.bench.length) (m : ModelResult) :
    (benchOf (countTile b m s) b).running = (benchOf s b).running ∧ (benchOf (countTile b m s) b).tiles = (benchOf s b).tiles + 1 := by
  have hself : benchOf (modBench b (fun x => { x with tiles := x.tiles + 1 }) s) b =
      { benchOf s b with tiles := (benchOf s b).tiles + 1 } := benchOf_modBench_self s b _ hb
  have hsame := ((bumpBench_onBench (i := 5) (by decide) b (b2n m.accSat) _).trans
    (bumpBench_onBench (i := 6) (by decide) b m.nanCvt _)).same.trans (congrArg Bench.tallied hself)
  have h1 := congrArg (fun x => x.1.running) hsame
  have h2 := congrArg (fun x => x.1.tiles) hsame
  exact ⟨h1, h2⟩

theorem countTile_frame_self (b : Nat) (m : ModelResult) (s : State) : Frame [.fab] s (countTile b m s) :=
  countTile_frame b m s (List.Subset.refl _) (Frame.refl _ s)

theorem dropRun_frame_self (b : Nat) (r : Running) (s : State) : Frame [.fab] s (dropRun b r s) :=
  dropRun_frame b r s (List.Subset.refl _) (Frame.refl _ s)

theorem benchOf_dropRun {b : Nat} {s : State} (hb : b < s.fab.bench.length) (r : Running) :
    benchOf (dropRun b r s) b = { benchOf s b with running := (benchOf s b).running.erase r } := benchOf_modBench_self s b _ hb

section Complete

variable {b : Nat} {s : State} {r : Running}

theorem complete_overrun (hg : r.state ≠ .gone) (hc : cTileOf (benchOf s b) < cyclesOf s r) : complete b r s = overrun b r s :=
  if_pos ⟨hg, hc⟩

variable (h : r.state = .gone ∨ cyclesOf s r ≤ cTileOf (benchOf s b))
include h

theorem complete_in_time : complete b r s =
    if !runCurrent s b r then fabFenced b (dropRun b r s)
    else toHallmark (outcomeOf b r s) (countTile b r.result (dropRun b r s)) :=
  if_neg fun hc => h.elim hc.1 fun hle => absurd hc.2 hle.not_gt

/-- A result of an older generation leaves the stake and only counts (06 R344). -/
theorem complete_fenced (hcur : runCurrent s b r = false) : complete b r s = fabFenced b (dropRun b r s) := by
  rw [complete_in_time h, hcur]
  rfl

theorem complete_current (hcur : runCurrent s b r = true) (hroom : s.hm.ingest.length < 8192) :
    complete b r s = (countTile b r.result (dropRun b r s)).setHm { s.hm with ingest := s.hm.ingest ++ [outcomeOf b r s] } := by
  have hhm : (countTile b r.result (dropRun b r s)).hm = s.hm := ((dropRun_frame_self b r s).trans'
    (countTile_frame_self b r.result _)) .hm (by decide)
  rw [complete_in_time h, hcur]
  refine (toHallmark_room (by rwa [hhm]) _).trans ?_
  rw [hhm]

end Complete

theorem exec_tileComplete {b k t : Nat} {gen : Word} {s : State} {r : Running} (h : findRun (benchOf s b) k gen = some r) :
    exec (.tileComplete b k gen t) s = .next (complete b r (s.at_ t)) := by
  change execTileComplete b k gen t s = _
  unfold execTileComplete
  dsimp only
  rw [benchOf_at, h]

/-- FAB_FENCED goes on by one, and nothing else of the bench changes. -/
theorem benchOf_fabFenced {b : Nat} {s : State} (hb : b < s.fab.bench.length) :
    benchOf (fabFenced b s) b = { benchOf s b with ctr := upd (benchOf s b).ctr 3 (fun w => satAdd w 1) } :=
  benchOf_modBench_self s b _ hb

/-! ## The watchdog (06 R321) -/

theorem satAdd_zero (w : Word) : satAdd w 0 = w := by
  rw [satAdd, if_pos (by have := w.isLt; omega), Nat.add_zero, BitVec.ofNat_toNat, BitVec.setWidth_eq]

/-- A counter that the table does not hold reads 0 and stays so. -/
theorem getI_upd_satAdd (l : List Word) (i : Nat) : getI (upd l i fun w => satAdd w 1) i 0 =
    satAdd (getI l i 0) (if i < l.length then 1 else 0) := by
  by_cases h : i < l.length
  · rw [if_pos h, getI_upd_self _ _ _ _ h]
  · rw [if_neg h, satAdd_zero]
    simp only [getI, upd, List.getD_eq_getElem?_getD, List.getElem?_modify]
    rw [List.getElem?_eq_none (Nat.le_of_not_lt h)]
    rfl

/-- The run leaves the stake; its tile, if it had no outcome yet, is HOLD, and the overrun is counted. -/
def overrunCounted (b : Nat) (r : Running) (s : State) : State :=
  bumpBench b 4 1 (if r.state = .live then giveHold b r.tile 0x12 r.fence (dropRun b r s) else dropRun b r s)

theorem overrun_eq (b : Nat) (r : Running) (s : State) : overrun b r s = privateFault b r.stake 5 false (overrunCounted b r s) := rfl

/-- The overruns counted, and the rest of the bench but for its runs and counters as it was. -/
theorem overrunCounted_bench {b : Nat} {s : State} (hb : b < s.fab.bench.length) (r : Running) :
    OnBench Bench.state b s (overrunCounted b r s) ∧ getI (benchOf (overrunCounted b r s) b).ctr 4 0 =
      satAdd (getI (benchOf s b).ctr 4 0) (if 4 < (benchOf s b).ctr.length then 1 else 0) := by
  have hheld : OnBench Bench.desk b s (if r.state = .live then giveHold b r.tile 0x12 r.fence (dropRun b r s) else dropRun b r s) := by
    have hdrop : OnBench Bench.desk b s (dropRun b r s) := by
      refine modBench_onBench ?_ b s
      exact fun _ => rfl
    split
    · exact hdrop.trans ((giveHold_onBench b r.tile 0x12 r.fence _).mono fun _ _ => Bench.desk_of_tallied)
    · exact hdrop
  refine ⟨(hheld.mono fun x y h => congrArg (fun x => x.1.state) h).trans ?_, ?_⟩
  · refine modBench_onBench ?_ b _
    exact fun _ => rfl
  · have h4 := congrArg (fun x => satAdd x.2.1 (if 4 < x.2.2 then 1 else 0)) hheld.same
    rw [overrunCounted, bumpBench, benchOf_modBench_self _ b _ (by rwa [hheld.count])]
    exact (getI_upd_satAdd _ 4).trans h4

theorem overrun_resets {b : Nat} {s : State} (hb : b < s.fab.bench.length) (hfree : (benchOf s b).state ≠ .free)
    (hloss : s.fab.chipLoss = none) (r : Running) :
    (benchOf (overrun b r s) b).state = .resetting ∧ (benchOf (overrun b r s) b).queue = [] ∧
      getI (benchOf (overrun b r s) b).ctr 4 0 =
        satAdd (getI (benchOf s b).ctr 4 0) (if 4 < (benchOf s b).ctr.length then 1 else 0) := by
  obtain ⟨hbench, hcount⟩ := overrunCounted_bench hb r
  have hloss' : (overrunCounted b r s).fab.chipLoss = none := by
    have := congrArg Fabric.chipLoss hbench.rest
    exact this.trans hloss
  obtain ⟨u, hu, hreset, -⟩ := privateFault_spec (b := b) (by rw [hbench.same]; exact hfree) hloss' (by rwa [hbench.count]) r.stake 5
  rw [overrun_eq, hu]
  exact ⟨hreset.state, hreset.queue, hreset.overruns.trans hcount⟩

section Overrun

variable {b k : Nat} {s : State}

theorem exec_certOverrun_none (h : (benchOf s b).running.find? (fun r => r.stake == k && r.state != .gone) = none) :
    exec (.certOverrun b k) s = .next s := by
  change execCertOverrun b k s = _
  unfold execCertOverrun
  rw [h]

theorem exec_certOverrun {r : Running} (h : (benchOf s b).running.find? (fun r => r.stake == k && r.state != .gone) = some r) :
    exec (.certOverrun b k) s = .next (overrun b r (s.at_ (overrunAt s (benchOf s b) r))) := by
  change execCertOverrun b k s = _
  unfold execCertOverrun
  rw [h]

end Overrun

theorem at_frame (s : State) (t : Nat) : Frame [.now] s (s.at_ t) := State.setNow_frame s _ (List.Subset.refl _) (Frame.refl _ s)

/-- Settles O35: each event is named with the state it answers, and the bench is read off it. -/
theorem tilesOnTheFabric : Obligations.TilesOnTheFabric := by
  unfold Obligations.TilesOnTheFabric
  refine ⟨fun b t s => ⟨fun k ks tile rest hs hb harmed hn hi => ?dispatch, exec_tileDispatch_idle⟩,
    fun b k t gen s => exec_tileComplete_none,
    fun b k t gen s r hs hb hfind => ⟨fun hin => ⟨fun hcur => ?fenced, fun hcur hroom => ?current⟩,
      fun hg hc hfree hloss => ?overrun⟩,
    fun b k s => ⟨fun r hs hb hfind hfree hloss => ?watchdog, exec_certOverrun_none⟩⟩
  case dispatch =>
    have hself := benchOf_modBench_self (s.at_ t) b (Bench.dispatched (s.at_ t) b k tile rest) (hs.benches.symm ▸ hb)
    obtain ⟨hlive, -, hidle⟩ := mem_idleStakes.1 (hi ▸ List.mem_cons_self ..)
    refine ⟨_, runOf (s.at_ t) b k tile, exec_tileDispatch harmed hn hi, by rw [hself]; rfl, by rw [hself]; rfl, rfl, rfl, rfl, rfl,
      rfl, rfl, rfl, ?_, mem_of_nextTile hn, hlive, hidle, fun j hlive hpow hfree => ?_, fun j hj => ?_, ?_⟩
    · rw [hself]
      exact slotOf_dispatched (s.at_ t) b k tile rest
    · exact idleStakes_head_le hi (mem_idleStakes.2 ⟨hlive, hpow, hfree⟩)
    · exact benchOf_modBench_ne (s.at_ t) b j _ hj.symm
    · exact modBench_frame b _ _ (by decide) ((at_frame s t).mono (by decide))
  case fenced =>
    have hlen : b < (s.at_ t).fab.bench.length := hs.benches.symm ▸ hb
    refine ⟨_, by rw [exec_tileComplete hfind, complete_fenced hin hcur], ?_⟩
    rw [benchOf_fabFenced ((modBench_length (s.at_ t) b _).symm ▸ hlen), benchOf_dropRun hlen]
    exact ⟨rfl, rfl, rfl, fabFenced_frame b _ (by decide) (dropRun_frame b r _ (by decide) ((at_frame s t).mono (by decide)))⟩
  case current =>
    have hlen : b < (s.at_ t).fab.bench.length := hs.benches.symm ▸ hb
    obtain ⟨hrun, htiles⟩ := benchOf_countTile (b := b) (s := dropRun b r (s.at_ t)) ((modBench_length (s.at_ t) b _).symm ▸ hlen) r.result
    rw [benchOf_dropRun hlen] at hrun htiles
    have hexec := (exec_tileComplete hfind (t := t)).trans (congrArg Host.Outcome.next (complete_current hin hcur hroom))
    refine ⟨_, outcomeOf b r (s.at_ t), hexec, hrun, htiles, rfl, rfl, rfl,
      rfl, rfl, rfl, ?_⟩
    exact State.setHm_frame _ _ (by decide) (countTile_frame b _ _ (by decide) (dropRun_frame b r _ (by decide)
      ((at_frame s t).mono (by decide))))
  case overrun =>
    refine ⟨_, by rw [exec_tileComplete hfind, complete_overrun hg hc], ?_⟩
    exact overrun_resets (s := s.at_ t) (hs.benches.symm ▸ hb) hfree hloss r
  case watchdog =>
    refine ⟨_, exec_certOverrun hfind, ?_⟩
    exact overrun_resets (s := s.at_ _) (hs.benches.symm ▸ hb) hfree hloss r

end Sys2Proof.Machine
end

section
/-! PROOFS. Faults of the fabric and their recoveries: the end of LOADING and RESETTING, a bench's reset, and the loss of the chip. -/

namespace Sys2Proof.Machine

open Sys2Proof

/-! ## The end of LOADING or RESETTING -/

/-- The bench as LOADING or RESETTING leaves it. -/
def Bench.settled (s : State) (x : Bench) : Bench :=
  { x with
    state := if x.back = .unadmitted then .unadmitted else restState s x, resetting := none, releaseRefs := []
    loads := false, source := [], running := x.running.map goneRun }

theorem restState_ne_resetting (s : State) (x : Bench) : restState s x ≠ .resetting := by
  unfold restState
  split
  · split <;> decide
  · decide

theorem settled_ne_resetting (s : State) (x : Bench) : (x.settled s).state ≠ .resetting := by
  unfold Bench.settled
  dsimp only
  split
  · decide
  · exact restState_ne_resetting s x

/-- The reply of a build leaves every bench as it was, but for the packet that waited and for releases withdrawn. -/
theorem buildReply_keeps (b : Nat) (s : State) :
    ∃ t, OnBench (fun x : Bench => { x with loadRef := none }) b s t ∧ SameBenches t (buildReply b s) := by
  unfold buildReply
  split
  · refine ⟨modBench b (fun x => { x with loadRef := none }) s, modBench_onBench ?_ b s, doneLater_sameBenches ..⟩
    exact fun _ => rfl
  · exact ⟨s, .of_fab rfl, .refl s⟩

theorem buildReply_sameUpsets (b : Nat) (s : State) : SameUpsets s (buildReply b s) :=
  .of_frame (buildReply_frame b s (List.Subset.refl _) (Frame.refl _ s)) (by decide)

/-- The packet of the build is answered (06 R310). -/
theorem buildReply_answers {b : Nat} {s : State} (hb : b < s.fab.bench.length) {r : Ref} {p : Packet}
    (hr : (benchOf s b).loadRef = some r) (hp : findP r s = some p) :
    findP r (buildReply b s) = none ∧ (benchOf (buildReply b s) b).loadRef = none := by
  have hbind : ((benchOf s b).loadRef.bind fun r => findP r s) = some p := by rw [hr]; exact hp
  unfold buildReply
  rw [hbind]
  dsimp only
  refine ⟨?_, ?_⟩
  · rw [← findP_ref hp]
    exact findP_finish ..
  · refine ((doneLater_sameBenches _ _ _ _).read Bench.loadRef (fun _ => rfl) b).trans ?_
    rw [benchOf_modBench_self s b _ hb]

section End

variable {b : Nat} {s : State} (hrefs : (benchOf s b).releaseRefs = []) (hrel : (benchOf s b).releasing = false)
include hrefs hrel

/-- With no release that waits, the bench settles and its build is answered. -/
theorem endChange_eq : endChange b s = buildReply b (modBench b (Bench.settled s) s) := by
  have hnone (u : State) : pendingReleases b false [] u = u := rfl
  have hsettled : modBench b (fun y => { y with
      state := if (benchOf s b).back = .unadmitted then .unadmitted else restState s (benchOf s b), resetting := none
      releaseRefs := [], loads := false, source := [], running := y.running.map goneRun }) s = modBench b (Bench.settled s) s := by
    unfold modBench
    refine congrArg s.setFab (congrArg (fun l => { s.fab with bench := l }) ?_)
    refine List.ext_getElem? fun i => ?_
    simp only [upd, List.getElem?_modify, benchOf, getI, List.getD_eq_getElem?_getD]
    by_cases hi : b = i
    · subst hi
      cases s.fab.bench[b]? <;> simp [Bench.settled]
    · simp [hi]
  unfold endChange
  dsimp only
  rw [hrefs, hrel, hsettled, hnone]

/-- What the end of LOADING or RESETTING makes of the benches. -/
structure ChangeEnded (b : Nat) (s u : State) : Prop where
  state : (benchOf u b).state = ((benchOf s b).settled s).state
  resetting : (benchOf u b).resetting = none
  releasing : (benchOf u b).releasing = (benchOf s b).releasing
  refs : (benchOf u b).releaseRefs = []
  others : ∀ j, j ≠ b → (benchOf u j).bare = (benchOf s j).bare
  otherRefs : ∀ j, j ≠ b → ∀ r ∈ (benchOf u j).releaseRefs, r ∈ (benchOf s j).releaseRefs
  rest : u.fab.rest = s.fab.rest
  count : u.fab.bench.length = s.fab.bench.length
  upsets : SameUpsets s u

theorem endChange_ended (hb : b < s.fab.bench.length) : ChangeEnded b s (endChange b s) := by
  have hself := benchOf_modBench_self s b (Bench.settled s) hb
  have hne (j : Nat) (hj : j ≠ b) := benchOf_modBench_ne s b j (Bench.settled s) hj.symm
  obtain ⟨t, hon, hsame⟩ := buildReply_keeps b (modBench b (Bench.settled s) s)
  have hread {α : Type} (g : Bench → α) (hg : ∀ x, g x.bare = g x) (hl : ∀ x : Bench, g { x with loadRef := none } = g x) :
      g (benchOf (buildReply b (modBench b (Bench.settled s) s)) b) = g ((benchOf s b).settled s) := by
    rw [hsame.read g hg b, ← hl, congrArg g hon.same, hl, hself]
  rw [endChange_eq hrefs hrel]
  refine ⟨hread Bench.state (fun _ => rfl) fun _ => rfl, hread Bench.resetting (fun _ => rfl) fun _ => rfl,
    hread Bench.releasing (fun _ => rfl) fun _ => rfl, ?_, fun j hj => ?_, fun j hj r hr => ?_, hsame.rest.trans hon.rest,
    hsame.count.trans (hon.count.trans (modBench_length s b _)), ?_⟩
  · have hempty : (benchOf t b).releaseRefs = [] := by
      have := congrArg Bench.releaseRefs hon.same
      rw [hself] at this
      exact this
    refine List.eq_nil_iff_forall_not_mem.2 fun r hr => ?_
    have := hsame.refs b r hr
    rw [hempty] at this
    exact List.not_mem_nil this
  · rw [hsame.bare j, hon.others j hj, hne j hj]
  · have := hsame.refs j r hr
    rwa [hon.others j hj, hne j hj] at this
  · exact SameUpsets.trans (t := modBench b (Bench.settled s) s) ⟨rfl, rfl⟩ (buildReply_sameUpsets b _)

end End

/-! ## Retirements that wait for a recovery (12 R573) -/

theorem settleRetirements_fab {s : State} (h : s.flt.deferred = []) : (settleRetirements s).fab = s.fab := by
  unfold settleRetirements
  split
  · rfl
  · rw [h]
    rfl

theorem retireOfBench_none {s : State} (h : s.flt.deferred = []) (b : Nat) :
    (retireOfBench b s).fab = s.fab ∧ (retireOfBench b s).flt.deferred = [] := by
  unfold retireOfBench
  split
  · exact ⟨rfl, h⟩
  · rw [h]
    exact ⟨rfl, rfl⟩

/-- A loss of the equivalence is logged and told (12 R597). -/
theorem equivLost_keeps (e : LogEntry) (s : State) : SameBenches s (equivLost e s) ∧ SameUpsets s (equivLost e s) := by
  refine ⟨?_, ?_⟩
  · exact SameBenches.after (t := logFault { e with fflags := Nat.lor e.fflags 1 } s) rfl (noticeUnit_sameBenches _ _ _)
  · exact (logFault_sameUpsets _ s).trans (noticeUnit_sameUpsets _ _ _)

theorem recovered_keeps (cls inst affected : Nat) (injected : Bool) (s : State) :
    SameBenches s (recovered cls inst affected injected s) ∧ SameUpsets s (recovered cls inst affected injected s) :=
  ⟨.of_fab rfl, logFault_sameUpsets _ s⟩

/-! ## BENCH_RESET_DONE (06 R342) -/

theorem exec_benchResetDone {b : Nat} {s : State} {x : Nat × Nat × Nat × Bool} (hx : (benchOf s b).resetting = some x)
    (good : Bool) : exec (.benchResetDone b good) s = .next (resetDone b good x.1 x.2.1 x.2.2.1 x.2.2.2 s) := by
  change execBenchResetDone b good s = _
  unfold execBenchResetDone
  rw [hx]

/-- After the reset itself the end of a recovery changes no bench, where no retirement waits for it. -/
theorem resetDone_keeps (b : Nat) (good : Bool) (stake cause held : Nat) (injected : Bool) {s : State} (hd : s.flt.deferred = [])
    (he : SameUpsets s (endChange b s)) : SameBenches (endChange b s) (resetDone b good stake cause held injected s) := by
  unfold resetDone
  extract_lets x inst e s1 s2 s3
  have h2 : SameBenches s1 s2 ∧ SameUpsets s1 s2 := by
    unfold s2
    split
    · exact recovered_keeps 2 inst held injected s1
    · exact equivLost_keeps e s1
  have h3 : SameBenches s1 s3 ∧ SameUpsets s1 s3 :=
    ⟨h2.1.trans (noticeHolder_sameBenches ..), h2.2.trans (noticeHolder_sameUpsets ..)⟩
  obtain ⟨hfab, hdef⟩ := retireOfBench_none (h3.2.deferred.trans (he.deferred.trans hd)) b
  exact h3.1.trans (.of_fab ((settleRetirements_fab hdef).trans hfab))

/-! ## The loss of the chip (06 R343) -/

/-- A bench that the loss of the chip has reset. -/
def Bench.Lost (x : Bench) : Prop := x.state = .resetting ∧ x.queue = []

/-- Every bench of the list that is not FREE is lost, and a bench that is not lost is as it was. -/
structure BenchesLost (l : List Nat) (s u : State) : Prop where
  lost : ∀ b ∈ l, (benchOf s b).state ≠ .free → (benchOf u b).Lost
  kept : ∀ b, benchOf u b = benchOf s b ∨ (benchOf u b).Lost
  rest : u.fab.rest = s.fab.rest

theorem BenchesLost.trans {l m : List Nat} {s t u : State} (h : BenchesLost l s t) (k : BenchesLost m t u) :
    BenchesLost (l ++ m) s u := by
  have hlater (b : Nat) (hb : (benchOf t b).Lost) : (benchOf u b).Lost := by
    rcases k.kept b with he | hl
    · rwa [he]
    · exact hl
  refine ⟨fun b hb hfree => ?_, fun b => ?_, k.rest.trans h.rest⟩
  · rcases List.mem_append.1 hb with hb | hb
    · exact hlater b (h.lost b hb hfree)
    · rcases h.kept b with he | hl
      · exact k.lost b hb (by rwa [he])
      · exact hlater b hl
  · rcases h.kept b with he | hl
    · rw [← he]
      exact k.kept b
    · exact .inr (hlater b hl)

/-- A bench that is not FREE is one of the table. -/
theorem lt_of_not_free {b : Nat} {s : State} (h : (benchOf s b).state ≠ .free) : b < s.fab.bench.length := by
  refine Nat.lt_of_not_le fun hle => h ?_
  rw [benchOf, getI, List.getD_eq_default _ _ hle]
  rfl

theorem loseBench_free {b : Nat} {s : State} (h : (benchOf s b).state = .free) : loseBench b s = s := by
  unfold loseBench
  exact if_pos h

theorem loseBench_reset {b : Nat} {s : State} (hb : b < s.fab.bench.length) (h : (benchOf s b).state ≠ .free) :
    BenchReset b s (loseBench b s) := by
  have key (u : State) (hu : u.fab = s.fab) (g : Word) (back : BenchState) : BenchReset b s (rewindEpoch b (modBench b (fun y => { y with
      state := .resetting, back := back, resetting := none, loads := false }) (flushBench b 0x11 g u))) := by
    refine BenchReset.then (.after hu ?_) (.of_fab (rewindEpoch_fab b _))
    refine modBench_flushBench_reset ?_ ?_ (hu ▸ hb) _ _
    · exact fun _ => rfl
    · exact fun _ => rfl
  unfold loseBench
  extract_lets x s0 s1 s2
  rw [if_neg h]
  refine key s1 ?_ _ _
  unfold s1 s0
  split <;> rfl

theorem loseBench_lost (b : Nat) (s : State) : BenchesLost [b] s (loseBench b s) := by
  by_cases hfree : (benchOf s b).state = .free
  · rw [loseBench_free hfree]
    exact ⟨fun j hj hn => absurd (List.mem_singleton.1 hj ▸ hfree) hn, fun _ => .inl rfl, rfl⟩
  · have hreset := loseBench_reset (lt_of_not_free hfree) hfree
    have hlost : (benchOf (loseBench b s) b).Lost := ⟨hreset.state, hreset.queue⟩
    refine ⟨fun j hj _ => List.mem_singleton.1 hj ▸ hlost, fun j => ?_, hreset.rest⟩
    by_cases hj : j = b
    · exact .inr (hj ▸ hlost)
    · exact .inl (hreset.others j hj)

theorem loseBenches_lost (l : List Nat) (s : State) : BenchesLost l s (loseBenches l s) := by
  induction l generalizing s with
  | nil => exact ⟨fun b hb => absurd hb List.not_mem_nil, fun _ => .inl rfl, rfl⟩
  | cons b l ih => exact (loseBench_lost b s).trans (ih _)

/-- The state in which the benches are lost: a recovery of the chip under way is superseded (12 R590). -/
def chipSuperseded (s : State) : State :=
  match s.fab.chipLoss with
  | some (c, _, _) => supersede (chipClass c) 0 s
  | none => s

theorem chipSuperseded_fab (s : State) : (chipSuperseded s).fab = s.fab := by
  unfold chipSuperseded
  split
  · exact (supersede_frame _ 0 s (List.Subset.refl _) (Frame.refl _ s)).fab_eq (by decide)
  · rfl

/-- The recovery of the chip that is under way, and the count of the losses. -/
def Fabric.lossOf (f : Fabric) : Option Nat × Word := (f.chipLoss.map (·.1), f.chipLosses)

/-- The fabric after a loss of the chip: its benches are lost, the loss stands under its cause, and it is counted unless a
recovery was under way. -/
theorem chipLose_fab (cause : Nat) (injected : Bool) (s : State) :
    (chipLose cause injected s).fab.bench = (loseBenches (List.range 16) (chipSuperseded s)).fab.bench ∧
      (chipLose cause injected s).fab.lossOf = (some cause, if s.fab.chipLoss.isSome then s.fab.chipLosses else s.fab.chipLosses + 1) := by
  have hfab (l : List Obj) (u : State) : (reinitShared l u).fab = u.fab :=
    (reinitShared_frame l u (List.Subset.refl _) (Frame.refl _ u)).fab_eq (by decide)
  have hcount (l : List Nat) (u : State) : (loseBenches l u).fab.chipLosses = u.fab.chipLosses :=
    (congrArg Fabric.chipLosses (loseBenches_lost l u).rest :)
  unfold chipLose chipSuperseded
  generalize List.range 16 = l
  cases s.fab.chipLoss with
  | none => simp only [State.setFab_fab, hfab, Fabric.lossOf, hcount, Option.map_some, and_self, Option.isSome_none]
  | some x =>
    have hsuper := (supersede_frame (chipClass x.1) 0 s (List.Subset.refl _) (Frame.refl _ s)).fab_eq (by decide)
    simp only [State.setFab_fab, hfab, Fabric.lossOf, hcount, hsuper, Option.map_some, and_self, Option.isSome_some]

theorem chipFault_lost (cause : Nat) (s : State) :
    (∀ b, b < 16 → (benchOf s b).state ≠ .free → (benchOf (chipFault cause false s) b).Lost) ∧
      (chipFault cause false s).fab.lossOf = (some cause, if s.fab.chipLoss.isSome then s.fab.chipLosses else s.fab.chipLosses + 1) := by
  have hfab : (chipFault cause false s).fab = (chipLose cause false s).fab := upset_fab ..
  obtain ⟨hbench, hloss⟩ := chipLose_fab cause false s
  have hsuper (j : Nat) : benchOf (chipSuperseded s) j = benchOf s j := by rw [benchOf, benchOf, chipSuperseded_fab]
  refine ⟨fun b hb hfree => ?_, ?_⟩
  · rw [benchOf, hfab, hbench]
    exact (loseBenches_lost (List.range 16) (chipSuperseded s)).lost b (List.mem_range.2 hb) (by rwa [hsuper])
  · rw [hfab, hloss]

/-! ## The return of the chip (06 R343) -/

/-- No release waits on any bench. -/
def NoReleases (s : State) : Prop := ∀ b, (benchOf s b).releaseRefs = [] ∧ (benchOf s b).releasing = false

/-- No bench outside the list is RESETTING, and none at all is after the list. -/
theorem endBenches_ended (l : List Nat) {s : State} (hrel : NoReleases s)
    (hl : ∀ b, (benchOf s b).state = .resetting → b ∈ l) :
    (∀ b, (benchOf (endBenches l s) b).state ≠ .resetting) ∧ (endBenches l s).fab.rest = s.fab.rest ∧
      SameUpsets s (endBenches l s) := by
  induction l generalizing s with
  | nil => exact ⟨fun b hb => absurd (hl b hb) List.not_mem_nil, rfl, ⟨rfl, rfl⟩⟩
  | cons c l ih =>
    unfold endBenches
    split
    next hc =>
      obtain ⟨hrefs, hno⟩ := hrel c
      have hend := endChange_ended hrefs hno (lt_of_not_free (by rw [hc]; decide))
      have hstate : (benchOf (endChange c s) c).state ≠ .resetting := hend.state ▸ settled_ne_resetting s _
      have hread {α : Type} (g : Bench → α) (hg : ∀ x, g x.bare = g x) (j : Nat) (hj : j ≠ c) :
          g (benchOf (endChange c s) j) = g (benchOf s j) := by
        rw [← hg, hend.others j hj, hg]
      refine (ih (fun j => ?_) fun j hj => ?_).imp_right (And.imp (·.trans hend.rest) hend.upsets.trans)
      · by_cases hjc : j = c
        · subst hjc
          exact ⟨hend.refs, hend.releasing.trans hno⟩
        · refine ⟨List.eq_nil_iff_forall_not_mem.2 fun r hr => ?_, ?_⟩
          · have := hend.otherRefs j hjc r hr
            rw [(hrel j).1] at this
            exact List.not_mem_nil this
          · exact (hread Bench.releasing (fun _ => rfl) j hjc).trans (hrel j).2
      · have hjc : j ≠ c := fun h => hstate (h ▸ hj)
        exact (List.mem_cons.1 (hl j ((hread Bench.state (fun _ => rfl) j hjc).symm.trans hj))).resolve_left hjc
    next hc =>
      refine ih hrel fun j hj => (List.mem_cons.1 (hl j hj)).resolve_left ?_
      rintro rfl
      exact hc hj

/-- A bench whose runs that were cut off are gone. -/
def Bench.returned (x : Bench) : Bench := { x with running := x.running.map goneRun }

theorem benchOf_goneRuns (s : State) (j : Nat) : benchOf (goneRuns s) j = (benchOf s j).returned :=
  getI_map Bench.returned s.fab.bench j Bench.reset

/-- The benches as they stand when the chip has returned: none is RESETTING. -/
theorem endBenches_all {s : State} (hcount : s.fab.bench.length = 16) (hrel : NoReleases s) :
    (∀ b, (benchOf (endBenches (List.range 16) (goneRuns s)) b).state ≠ .resetting) ∧
      (endBenches (List.range 16) (goneRuns s)).fab.rest = s.fab.rest ∧ SameUpsets s (endBenches (List.range 16) (goneRuns s)) := by
  have hgone : NoReleases (goneRuns s) := fun b => by
    rw [benchOf_goneRuns]
    exact hrel b
  have hlist (b : Nat) (hb : (benchOf (goneRuns s) b).state = .resetting) : b ∈ List.range 16 := by
    refine List.mem_range.2 ?_
    rw [benchOf_goneRuns] at hb
    have hfree : (benchOf s b).state ≠ .free := by
      rw [show (benchOf s b).state = .resetting from hb]
      decide
    exact hcount ▸ lt_of_not_free hfree
  obtain ⟨hstate, hrest, hups⟩ := endBenches_ended (List.range 16) hgone hlist
  exact ⟨hstate, hrest, SameUpsets.trans (t := goneRuns s) ⟨rfl, rfl⟩ hups⟩

theorem chipDone_ended (cause held : Nat) (injected : Bool) {s : State} (hinv : Inv s) (hdef : s.flt.deferred = [])
    (hcut : s.fab.cutOff = []) (hrel : NoReleases s) :
    (chipDone cause held injected s).fab.chipLoss = none ∧ ∀ b, (benchOf (chipDone cause held injected s) b).state ≠ .resetting := by
  obtain ⟨hstate, hrest, hups⟩ :=
    endBenches_all (s := s.setFab { s.fab with chipLoss := none, cutOff := [] }) hinv.benches hrel
  unfold chipDone
  generalize List.range 16 = l at hstate hrest hups ⊢
  extract_lets cut e _ s1 s2 s3
  have h2 : SameBenches s1 s2 ∧ SameUpsets s1 s2 := by
    unfold s2
    split
    · exact equivLost_keeps e s1
    split
    · exact ⟨.refl s1, rfl, rfl⟩
    · exact recovered_keeps _ 0 held injected s1
  have h3 : SameBenches s1 s3 ∧ SameUpsets s1 s3 :=
    ⟨h2.1.trans (noticeUnit_sameBenches ..), h2.2.trans (noticeUnit_sameUpsets ..)⟩
  rw [show cut = [] from hcut, repeatCmds]
  have hfab : (settleRetirements (s3.setFab { s3.fab with chipSince := s.fab.chipSince })).fab =
      { s3.fab with chipSince := s.fab.chipSince } := settleRetirements_fab (h3.2.deferred.trans (hups.deferred.trans hdef))
  refine ⟨?_, fun b => ?_⟩
  · rw [hfab]
    exact h3.1.chipLoss.trans (congrArg Fabric.chipLoss hrest)
  · rw [benchOf, hfab]
    exact h3.1.read Bench.state (fun _ => rfl) b ▸ hstate b

/-! ## The commands -/

theorem exec_chipWideFault {cause : Nat} {s : State} (h : (cause = 7 ∨ cause = 8) ∧ domOn s 2 = true) (t : Nat) :
    exec (.chipWideFault cause t) s = .next (chipFault cause false (s.at_ t)) :=
  congrArg Host.Outcome.next (if_pos h)

theorem exec_benchPrivateFault {b k : Nat} {s : State} (hfree : (benchOf s b).state ≠ .free) (hin : inBench s b k = true)
    {cause : Nat} (h2 : 2 ≤ cause) (h6 : cause ≤ 6) (t : Nat) :
    exec (.benchPrivateFault b k cause t) s = .next (privateFault b k cause false (s.at_ t)) := by
  have hin' : inBench (s.at_ t) b k = true := hin
  change execBenchPrivateFault b k cause t s = _
  unfold execBenchPrivateFault
  dsimp only
  rw [if_neg (by simp [hin', hfree]), if_neg (by omega), if_pos (by simp [privateCause, h2, h6])]

theorem privateFault_commanded {b k cause t : Nat} {s : State} {a : Admission} (hinv : Inv s) (hb : b < 16)
    (hfree : (benchOf s b).state ≠ .free) (hin : inBench s b k = true) (h2 : 2 ≤ cause) (h6 : cause ≤ 6)
    (hloss : s.fab.chipLoss = none) (ha : findAdm s (benchOf s b).handle = some a) :
    ∃ u, exec (.benchPrivateFault b k cause t) s = .next u ∧ (benchOf u b).state = .resetting ∧ (benchOf u b).queue = [] ∧
      benchFence u b = nextFence a.fence ∧ (∀ j, j ≠ b → (benchOf u j).bare = (benchOf s j).bare) ∧
      u.flt.upsets = (2, k, max s.now t) :: s.flt.upsets ∧
      (u.flt.log.head?).map (fun e => (e.cls, e.kind, e.inst)) = some (2, 1, k) := by
  obtain ⟨u, hu, hreset, hled, hups, hlog⟩ := privateFault_spec (s := s.at_ t) hfree hloss (hinv.benches ▸ hb) k cause
  refine ⟨u, (exec_benchPrivateFault hfree hin h2 h6 t).trans (congrArg Host.Outcome.next hu), hreset.state, hreset.queue, ?_,
    fun j hj => congrArg Bench.bare (hreset.others j hj), hups, hlog⟩
  exact benchFence_of_bumped (s := s.at_ t) ha hreset.handle hled

theorem resetDone_commanded {b : Nat} {s : State} {x : Nat × Nat × Nat × Bool} (good : Bool) (hinv : Inv s) (hb : b < 16)
    (hx : (benchOf s b).resetting = some x) (hdef : s.flt.deferred = []) (hrefs : (benchOf s b).releaseRefs = [])
    (hrel : (benchOf s b).releasing = false) :
    ∃ u, exec (.benchResetDone b good) s = .next u ∧ (benchOf u b).resetting = none ∧
      (benchOf u b).state = ((benchOf s b).settled s).state ∧ ∀ j, j ≠ b → (benchOf u j).bare = (benchOf s j).bare := by
  have hend := endChange_ended hrefs hrel (hinv.benches ▸ hb)
  have hkeep := resetDone_keeps b good x.1 x.2.1 x.2.2.1 x.2.2.2 hdef hend.upsets
  exact ⟨_, exec_benchResetDone hx good, (hkeep.read Bench.resetting (fun _ => rfl) b).trans hend.resetting,
    (hkeep.read Bench.state (fun _ => rfl) b).trans hend.state, fun j hj => (hkeep.bare j).trans (hend.others j hj)⟩

theorem nocLinkError_commanded (n t : Nat) (s : State) :
    (n < 3 ∨ domOn s 2 = false → exec (.nocLinkError n t) s = .next (s.at_ t)) ∧
      (3 ≤ n → domOn s 2 = true → exec (.nocLinkError n t) s = exec (.chipWideFault 8 t) s) := by
  refine ⟨fun h => congrArg Host.Outcome.next (if_pos ?_), fun hn hdom => ?_⟩
  · exact h.imp_right fun h => by rw [show domOn (s.at_ t) 2 = false from h]; rfl
  · rw [exec_chipWideFault ⟨.inr rfl, hdom⟩]
    refine congrArg Host.Outcome.next (if_neg ?_)
    rw [show domOn (s.at_ t) 2 = true from hdom]
    simp only [Bool.not_true, Bool.false_eq_true, or_false]
    omega

/-- Settles O36: the fault of a stake is the reset of one bench and an upset, its end settles the bench; a chip-wide fault is
the loss of every bench in turn, its end settles each. -/
theorem fabricFaultsAndRecovery : Obligations.FabricFaultsAndRecovery := by
  unfold Obligations.FabricFaultsAndRecovery
  refine ⟨fun b k cause t s a hinv hb hfree hin h2 h6 hloss ha => privateFault_commanded hinv hb hfree hin h2 h6 hloss ha,
    fun b k t s hfree hin => ?_, fun b k cause t s h => ?_,
    fun b good s x hinv hb hx hdef hrefs hrel => resetDone_commanded good hinv hb hx hdef hrefs hrel, fun b good s hx => ?_,
    fun cause t s => ⟨fun hc hdom hinv => ?_, fun h => ?_⟩, nocLinkError_commanded, fun s hloss => ?_,
    fun s x hinv hloss hdef hcut hrel => ?_⟩
  · have hin' : inBench (s.at_ t) b k = true := hin
    refine congrArg Host.Outcome.next ((if_neg ?_).trans (if_pos rfl))
    simp [hin', hfree]
  · refine congrArg Host.Outcome.next (if_pos ?_)
    exact h.imp_right fun h => by rw [show inBench (s.at_ t) b k = false from h]; rfl
  · change execBenchResetDone b good s = _
    unfold execBenchResetDone
    rw [hx]
  · obtain ⟨hlost, hloss⟩ := chipFault_lost cause (s.at_ t)
    simp only [Fabric.lossOf, Prod.mk.injEq] at hloss
    exact ⟨_, exec_chipWideFault ⟨hc, hdom⟩ t, hlost, hloss⟩
  · exact congrArg Host.Outcome.next (if_neg h)
  · change execFabChipLoss s = _
    unfold execFabChipLoss
    rw [hloss]
  · obtain ⟨cause, held, injected⟩ := x
    have hexec : exec .fabChipLoss s = .next (chipDone cause held injected s) := by
      change execFabChipLoss s = _
      unfold execFabChipLoss
      rw [hloss]
    exact ⟨_, hexec, chipDone_ended cause held injected hinv hdef hcut hrel⟩

end Sys2Proof.Machine
end

section
/-! PROOFS. The opcodes of the fabric that act on no list, and the changes that wait for a tile row. -/

namespace Sys2Proof.Machine

open Sys2Proof

/-! ## The bench a packet names (15 R693) -/

theorem lt_of_benchTarget_none {p : Packet} {s : State} (h : benchTarget p s = none) : fld p.params 0 1 < 16 := by
  unfold benchTarget at h
  dsimp only at h
  split at h
  · cases h
  · omega

/-! ## BENCH_RESET (15 Table 15.9) -/

section Reset

variable {r : Ref} {p : Packet} {s : State} (hstarts : opStarts 0x0605 r p s = true)
include hstarts

theorem exec_benchReset_refused {st : Half} {off : Nat} (h : benchTarget p s = some (st, off)) :
    exec (.benchReset r) s = .next (refuse p st off s) := by
  refine congrArg Host.Outcome.next ((runOp_starts hstarts _).trans ?_)
  dsimp only
  rw [h]

variable (htarget : benchTarget p s = none)
include htarget

theorem exec_benchReset : exec (.benchReset r) s = .next (
    if (benchOf s (fld p.params 0 1)).state = .resetting then refuse p stBUSY noField s
    else if (benchOf s (fld p.params 0 1)).state ≠ .built ∧ (benchOf s (fld p.params 0 1)).state ≠ .armed then
      refuse p stDENIED noField s
    else startReset (fld p.params 0 1) (256 + Config.resetStake (fld p.params 0 1) % 256)
      (Config.resetCause (fld p.params 0 1) % 256) 0 false (ok p [] s)) := by
  refine congrArg Host.Outcome.next ((runOp_starts hstarts _).trans ?_)
  dsimp only
  rw [htarget]

theorem benchReset_commanded (hstate : (benchOf s (fld p.params 0 1)).state = .built ∨ (benchOf s (fld p.params 0 1)).state = .armed)
    (hinv : Inv s) : ∃ u, exec (.benchReset r) s = .next u ∧ (benchOf u (fld p.params 0 1)).state = .resetting ∧
      (benchOf u (fld p.params 0 1)).queue = [] ∧ findP p.ref u = none ∧ u.flt = s.flt ∧
      ∀ j, j ≠ fld p.params 0 1 → (benchOf u j).bare = (benchOf s j).bare := by
  have hok := ok_sameBenches p [] s
  have hreset (stake cause : Nat) := startReset_reset (b := fld p.params 0 1) (s := ok p [] s)
    (by rw [hok.count, hinv.benches]; exact lt_of_benchTarget_none htarget) stake cause 0 false
  have hframe (b stake cause : Nat) : Frame [.led, .fab, .hm, .rcp] (ok p [] s) (startReset b stake cause 0 false (ok p [] s)) :=
    startReset_frame b stake cause 0 false _ (List.Subset.refl _) (Frame.refl _ _)
  have hexec := exec_benchReset hstarts htarget
  rw [if_neg (by rcases hstate with h | h <;> rw [h] <;> decide), if_neg (by rcases hstate with h | h <;> simp [h])] at hexec
  refine ⟨_, hexec, (hreset _ _).state, (hreset _ _).queue, ?_, ?_, fun j hj => ?_⟩
  · rw [findP, (hframe _ _ _).kw_eq (by decide)]
    exact findP_ok p [] s
  · exact ((hframe _ _ _).flt_eq (by decide)).trans
      ((ok_frame p [] s (List.Subset.refl _) (Frame.refl _ s)).flt_eq (by decide))
  · rw [(hreset _ _).others j hj, hok.bare j]

end Reset

/-! ## STAKE_UNRETIRE (06 R347, 12 R572) -/

/-- The state in which a stake is live again: a Record write is wanted, its upsets are forgotten, and the demands are those of
the stakes there now. -/
def stakeReturned (k : Nat) (s : State) : State :=
  let s1 := s.setFab { s.fab with retiredStakes := s.fab.retiredStakes.filter (· != k) }
  refreshDemands (vEff s1.led.vadm) (returned 2 k (wantRecord 3 s1))

theorem stakeReturned_boot (k : Nat) (s : State) : (stakeReturned k s).boot.wanted.isSome = true :=
  wantRecord_wanted_isSome 3 (s.setFab { s.fab with retiredStakes := s.fab.retiredStakes.filter (· != k) })

theorem stakeReturned_upsets (k : Nat) (s : State) : ∀ x ∈ (stakeReturned k s).flt.upsets, ¬(x.1 = 2 ∧ x.2.1 = k) := by
  rintro x hx ⟨hcls, hinst⟩
  have := (List.mem_filter.1 (show x ∈ s.flt.upsets.filter fun u => !(u.1 == 2 && u.2.1 == k) from hx)).2
  rw [hcls, hinst] at this
  simp at this

/-- The notice of a bench's capacity changes no bench, no upset and not what the Record waits for. -/
theorem noticeBenchCapacity_keeps (b : Nat) (s : State) : SameBenches s (noticeBenchCapacity b s) ∧
    SameUpsets s (noticeBenchCapacity b s) ∧ (noticeBenchCapacity b s).boot = s.boot :=
  ⟨(noticeUnit_sameBenches ..).trans (noticeUnit_sameBenches ..), (noticeUnit_sameUpsets ..).trans (noticeUnit_sameUpsets ..),
    (noticeUnit_boot ..).trans (noticeUnit_boot ..)⟩

section Unretire

variable {r : Ref} {p : Packet} {s : State} (hstarts : opStarts 0x0620 r p s = true)
include hstarts

theorem exec_stakeUnretire : exec (.stakeUnretire r) s = .next (
    if !s.fab.retiredStakes.contains (fld p.params 0 1) then refuse p stBAD_PARAM 0x20 s
    else if (benchHolding s (fld p.params 0 1)).any fun b => (benchOf s b).state != .built then refuse p stDENIED noField s
    else ok p [] (match benchHolding s (fld p.params 0 1) with
      | some b => noticeBenchCapacity b (stakeReturned (fld p.params 0 1) s)
      | none => stakeReturned (fld p.params 0 1) s)) :=
  congrArg Host.Outcome.next (runOp_starts hstarts _)

theorem stakeUnretire_commanded (hret : s.fab.retiredStakes.contains (fld p.params 0 1) = true)
    (hown : benchHolding s (fld p.params 0 1) = none ∨
      ∃ b, benchHolding s (fld p.params 0 1) = some b ∧ (benchOf s b).state = .built) :
    ∃ u, exec (.stakeUnretire r) s = .next (ok p [] u) ∧
      u.fab.retiredStakes = s.fab.retiredStakes.filter (· != fld p.params 0 1) ∧ u.boot.wanted.isSome = true ∧
      ∀ x ∈ u.flt.upsets, ¬(x.1 = 2 ∧ x.2.1 = fld p.params 0 1) := by
  have hexec := exec_stakeUnretire hstarts
  rw [hret] at hexec
  rcases hown with hnone | ⟨b, hsome, hbuilt⟩
  · rw [hnone] at hexec
    exact ⟨_, hexec, rfl, stakeReturned_boot _ s, stakeReturned_upsets _ s⟩
  · rw [hsome, Option.any_some, hbuilt] at hexec
    obtain ⟨hsame, hups, hboot⟩ := noticeBenchCapacity_keeps b (stakeReturned (fld p.params 0 1) s)
    refine ⟨_, hexec, hsame.retiredStakes, ?_, ?_⟩
    · exact hboot ▸ stakeReturned_boot _ s
    · exact hups.upsets ▸ stakeReturned_upsets _ s

end Unretire

/-! ## Changes that take effect (06 R314, R337) -/

theorem exec_fabApplied_due {b : Nat} {c : BenchChange} {bd : Long} {s : State} (hc : (benchOf s b).change = some (c, bd))
    (hstate : (benchOf s b).state = .armed ∨ (benchOf s b).state = .built) (hdue : changeDue s b bd = true) :
    exec (.fabApplied b) s = .next (applyChange b c bd s) := by
  change execFabApplied b s = _
  unfold execFabApplied
  rw [hc]
  exact congrArg Host.Outcome.next (if_pos ⟨hstate, hdue⟩)

theorem exec_fabApplied_waits {b : Nat} {s : State} (h : (benchOf s b).change = none ∨ ∃ c bd, (benchOf s b).change = some (c, bd) ∧
    (changeDue s b bd = false ∨ ((benchOf s b).state ≠ .armed ∧ (benchOf s b).state ≠ .built))) :
    exec (.fabApplied b) s = .next s := by
  change execFabApplied b s = _
  unfold execFabApplied
  rcases h with h | ⟨c, bd, h, hno⟩
  · rw [h]
  · rw [h]
    refine congrArg Host.Outcome.next (if_neg ?_)
    rintro ⟨hstate, hdue⟩
    rcases hno with hno | ⟨harmed, hbuilt⟩
    · exact absurd (hno.symm.trans hdue) (by decide)
    · exact hstate.elim harmed hbuilt

theorem notePromoted_sameBenches (op : Half) (cand rcp : Nat) (bd : Long) (s : State) :
    SameBenches s (notePromoted op cand rcp bd s) := by
  unfold notePromoted
  split
  · exact .refl s
  split
  · exact .refl s
  · refine SameBenches.after ?_ (noticeHolderAt_sameBenches _ _ _ _ _)
    split <;> rfl

/-- The bench on which a slot selection has taken effect. -/
def Bench.selected (slot : Nat) (x : Bench) : Bench := { x with prevSlot := x.slot, slot := slot, change := none }

/-- The bench on which a rebuild has taken effect. -/
def Bench.rebuilt (image : Bytes) (c : Cert) (x : Bench) : Bench :=
  { x with image := image, cert := some c, change := none, back := x.state, state := .loading, loads := true }

section Applied

variable {b : Nat} {s : State}

theorem applySelect_sameBenches (slot tenant cand rcp : Nat) (op : Half) (bd : Long) :
    SameBenches (modBench b (Bench.selected slot) s) (applyChange b (.select slot tenant op cand rcp) bd s) :=
  (noticeHolderAt_sameBenches ..).trans (notePromoted_sameBenches ..)

theorem applyRebuild_sameBenches (image : Bytes) (c : Cert) (tenant : Nat) (bd : Long) :
    SameBenches (placeCopy b 0 (modBench b (Bench.rebuilt image c) s)) (applyChange b (.rebuild image c tenant) bd s) :=
  noticeHolderAt_sameBenches ..

variable (hb : b < s.fab.bench.length)
include hb

theorem applySelect_read {α : Type} (g : Bench → α) (hg : ∀ x, g x.bare = g x) (slot tenant cand rcp : Nat) (op : Half) (bd : Long) :
    g (benchOf (applyChange b (.select slot tenant op cand rcp) bd s) b) = g ((benchOf s b).selected slot) := by
  rw [(applySelect_sameBenches slot tenant cand rcp op bd).read g hg b, benchOf_modBench_self s b _ hb]

theorem applyRebuild_read {α : Type} (g : Bench → α) (hg : ∀ x, g x.bare = g x) (hcopies : ∀ x c, g { x with copies := c } = g x)
    (image : Bytes) (c : Cert) (tenant : Nat) (bd : Long) :
    g (benchOf (applyChange b (.rebuild image c tenant) bd s) b) = g ((benchOf s b).rebuilt image c) := by
  rw [(applyRebuild_sameBenches image c tenant bd).read g hg b, (placeCopy_onBench hcopies b 0 _).same,
    benchOf_modBench_self s b _ hb]

end Applied

/-- Settles O37: the opcodes case by case, and a due change as one change of its bench with notices. -/
theorem fabricOpcodesAndChanges : Obligations.FabricOpcodesAndChanges := by
  unfold Obligations.FabricOpcodesAndChanges
  refine ⟨fun r p s h => congrArg Host.Outcome.next (runOp_starts h _),
    fun r p s h => ⟨fun st off => exec_benchReset_refused h, fun htarget => ⟨fun hstate => ?_, fun h1 h2 h3 => ?_,
      benchReset_commanded h htarget⟩⟩,
    fun r p s h => ⟨fun hret => ?_, fun b hret hown hstate => ?_, stakeUnretire_commanded h⟩,
    fun b slot tenant cand rcp op bd s hinv hb hc hstate hdue => ?_,
    fun b tenant image c bd s hinv hb hc hstate hdue => ?_, fun b s => exec_fabApplied_waits⟩
  · rw [exec_benchReset h htarget, if_pos hstate]
  · rw [exec_benchReset h htarget, if_neg h1, if_pos ⟨h2, h3⟩]
  · rw [exec_stakeUnretire h, hret]
    rfl
  · rw [exec_stakeUnretire h, hret, hown, Option.any_some, if_neg (by decide), if_pos (by simpa using hstate)]
  · have hread {α : Type} (g : Bench → α) (hg : ∀ x, g x.bare = g x) :=
      applySelect_read (hinv.benches ▸ hb) g hg slot tenant cand rcp op bd
    exact ⟨_, exec_fabApplied_due hc hstate hdue, hread Bench.slot fun _ => rfl, hread Bench.prevSlot fun _ => rfl,
      hread Bench.change fun _ => rfl, hread Bench.state fun _ => rfl⟩
  · have hread {α : Type} (g : Bench → α) (hg : ∀ x, g x.bare = g x) (hcopies : ∀ x c, g { x with copies := c } = g x) :=
      applyRebuild_read (hinv.benches ▸ hb) g hg hcopies image c tenant bd
    exact ⟨_, exec_fabApplied_due hc hstate hdue, hread Bench.state (fun _ => rfl) fun _ _ => rfl,
      hread Bench.image (fun _ => rfl) fun _ _ => rfl, hread Bench.cert (fun _ => rfl) fun _ _ => rfl,
      hread Bench.change (fun _ => rfl) fun _ _ => rfl⟩

end Sys2Proof.Machine
end

section
/-! PROOFS. The life of a bench: its building and loading, its release, its rebuilding, and its re-admission. -/

namespace Sys2Proof.Machine

open Sys2Proof

/-! ## Room and admission where nothing moves and nothing is revoked -/

theorem makeRoom_enough {n : Nat} {s : State} (h : n ≤ poolFree s) (fuel : Nat) : makeRoom fuel n s = s := by
  cases fuel with
  | zero => rfl
  | succ fuel => exact if_pos h

theorem makeRoom_unmovable {s : State} (h : ∀ o ∈ s.draw.objs, movable s o = false) (fuel n : Nat) : makeRoom fuel n s = s := by
  have hnone : s.draw.objs.filter (movable s) = [] := List.filter_eq_nil_iff.2 fun o ho => by simp [h o ho]
  cases fuel with
  | zero => rfl
  | succ fuel =>
    unfold makeRoom
    rw [hnone]
    exact ite_self s

/-- A refusal for the supply stands alone (02 R116). -/
theorem shorts_of_supplyShorts {s : State} {cls : Nat} (h : supplyShorts s cls ≠ []) (v : Nat) (ds : List Demand) :
    shorts s v cls ds = supplyShorts s cls := by
  unfold supplyShorts at h
  split at h
  next hw => exact if_pos hw
  next => exact absurd rfl h

theorem supplyShorts_of_shorts {s : State} {v cls : Nat} {ds : List Demand} (h : shorts s v cls ds = []) : supplyShorts s cls = [] :=
  not_not.1 fun hs => hs ((shorts_of_supplyShorts hs v ds).symm.trans h)

/-- With no class-7 admission there is none to reclaim (02 R99). -/
theorem reclaim_no_class7 {s : State} (h : ∀ a ∈ s.led.held, a.cls ≠ 7) (fuel v : Nat) (ds : List Demand) :
    reclaim fuel v ds s = s := by
  have hnone (has : Admission → Bool) : s.led.held.filter (fun a => a.cls == 7 && has a) = [] :=
    List.filter_eq_nil_iff.2 fun a ha => by simp [h a ha]
  cases fuel with
  | zero => rfl
  | succ fuel =>
    unfold reclaim
    simp only [hnone]
    rw [List.findSome?_eq_none_iff.2]
    intro bi _
    split <;> rfl

theorem reclaimedFor_none {q : Request} {s : State} (h : q.cls = 7 ∨ ∀ a ∈ s.led.held, a.cls ≠ 7) : reclaimedFor q s = s := by
  rcases h with h | h
  · exact reclaimedFor_class7 h s
  · rw [reclaimedFor, reclaim_no_class7 h, ite_self]

theorem commitAdm_frame_self (q : Request) (h : Nat) (s : State) : Frame [.led, .draw] s (commitAdm q h s) :=
  commitAdm_frame q h s (List.Subset.refl _) (Frame.refl _ s)

/-- A committed request holds an admission. -/
theorem findAdm_commitAdm (q : Request) (h : Nat) (s : State) : (findAdm (commitAdm q h s) h).isSome = true := by
  rw [findAdm, commitAdm_held, List.find?_isSome]
  exact ⟨enteredAdm q h s, by simp, by simp [enteredAdm]⟩

/-! ## BENCH_BUILD (06 R308 to R312) -/

section Build

variable {r : Ref} {p : Packet} {s : State}

theorem lt_of_buildForm {im : Option RecipeImage} (h : buildForm p s = .inr im) : fld p.params 0 1 < 16 := by
  unfold buildForm at h
  dsimp only at h
  split at h
  · cases h
  · omega

section Exec

variable (hstarts : opStarts 0x0602 r p s = true) (poisoned : Bool) (pick : Nat)
include hstarts

theorem exec_benchBuild : exec (.benchBuild ⟨r, poisoned⟩ pick) s = .next (
    match buildForm p s with
    | .inl (st, off) => refuse p st off s
    | .inr im => match readImage p 0x30 0x38 0x40 poisoned s with
      | .inl (st, off) => refuse p st off s
      | .inr (image, cert) => match certCheck s cert image (BitVec.ofNat 32 (fld p.params 4 4)) im with
        | some c => refuseWith p stREFUSED_CERT (le2 c) s
        | none => buildAdmit p pick image cert s) :=
  congrArg Host.Outcome.next (runOp_starts hstarts _)

theorem exec_benchBuild_admit {im : Option RecipeImage} {image cert : Bytes} (hform : buildForm p s = .inr im)
    (hread : readImage p 0x30 0x38 0x40 poisoned s = .inr (image, cert))
    (hcert : certCheck s cert image (BitVec.ofNat 32 (fld p.params 4 4)) im = none) :
    exec (.benchBuild ⟨r, poisoned⟩ pick) s = .next (buildAdmit p pick image cert s) := by
  rw [exec_benchBuild hstarts, hform]
  dsimp only
  rw [hread]
  dsimp only
  rw [hcert]

end Exec

/-- The bench under the handle of its admission. -/
def Bench.under (h : Nat) (x : Bench) : Bench := { x with handle := h }

/-- The request of a build, made of the bench as it will be built. -/
def buildRequest (p : Packet) (image cert : Bytes) (s : State) : Request :=
  let s1 := modBench (fld p.params 0 1) (builtBench p image cert) s
  benchRequest (fld p.params 0 1) p.cls p.tenant 0 (benchOf s1 (fld p.params 0 1)) s1

variable {image cert : Bytes}

theorem buildAdmit_noRoom (hpool : poolFree s < fld p.params 12 4) (hobjs : ∀ o ∈ s.draw.objs, movable s o = false)
    (hsupply : supplyShorts s p.cls = []) (pick : Nat) : buildAdmit p pick image cert s =
      refuseWith p stREFUSED_BUDGET (sheetShort (fld p.params 0 1) p.cls (fld p.params 12 4) (freeSheet s)) (countRefusal s) := by
  unfold buildAdmit
  dsimp only
  rw [hsupply, makeRoom_unmovable hobjs, if_neg (by decide), if_pos hpool]

variable (hpool : fld p.params 12 4 ≤ poolFree s)
include hpool

theorem buildAdmit_room (hsupply : supplyShorts s p.cls = []) (pick : Nat) : buildAdmit p pick image cert s =
    let h := freshHandle s pick fun _ => true
    let d := decideAdm (buildRequest p image cert s) h (modBench (fld p.params 0 1) (builtBench p image cert) s)
    match d.payload with
    | some e => refuseWith p stREFUSED_BUDGET e (countRefusal s)
    | none => commitP p.ref (placeCopies (fld p.params 0 1) (modBench (fld p.params 0 1) (Bench.under h) d.state)) := by
  unfold buildAdmit
  dsimp only
  rw [hsupply, makeRoom_enough hpool, if_neg (by decide), if_neg (Nat.not_lt.2 hpool)]
  rfl

/-- A build whose demands do not fit is refused with every failing budget. -/
theorem buildAdmit_short {l : List Short} (hl : shorts (modBench (fld p.params 0 1) (builtBench p image cert) s) (vEff s.led.vadm) p.cls
      (withTable (buildRequest p image cert s).demands) = l) (hne : l ≠ []) (pick : Nat) :
    buildAdmit p pick image cert s = refuseWith p stREFUSED_BUDGET (budgetPayload l) (countRefusal s) := by
  subst hl
  by_cases hsupply : supplyShorts s p.cls = []
  · rw [buildAdmit_room hpool hsupply]
    dsimp only
    rw [decideAdm_short hne]
    rfl
  · rw [shorts_of_supplyShorts (s := modBench (fld p.params 0 1) (builtBench p image cert) s) hsupply]
    unfold buildAdmit
    dsimp only
    rw [if_pos (by simpa using hsupply)]
    rfl

/-- A build whose demands fit commits its packet; nothing else is reclaimed for it. -/
theorem buildAdmit_fits (hl : shorts (modBench (fld p.params 0 1) (builtBench p image cert) s) (vEff s.led.vadm) p.cls
      (withTable (buildRequest p image cert s).demands) = []) (hcls : p.cls = 7 ∨ ∀ a ∈ s.led.held, a.cls ≠ 7) (pick : Nat) :
    buildAdmit p pick image cert s =
      let h := freshHandle s pick fun _ => true
      commitP p.ref (placeCopies (fld p.params 0 1) (modBench (fld p.params 0 1) (Bench.under h)
        (commitAdm (buildRequest p image cert s) h (modBench (fld p.params 0 1) (builtBench p image cert) s)))) := by
  have hreclaim := reclaimedFor_none (q := buildRequest p image cert s)
    (s := modBench (fld p.params 0 1) (builtBench p image cert) s) hcls
  have hsupply : supplyShorts (modBench (fld p.params 0 1) (builtBench p image cert) s) p.cls = [] := supplyShorts_of_shorts hl
  rw [buildAdmit_room hpool hsupply]
  dsimp only
  rw [decideAdm_fits hl, hreclaim]

end Build

/-- The state that the commit of a build leaves. -/
structure BuildCommitted (p : Packet) (image : Bytes) (h : Nat) (s u : State) : Prop where
  state : (benchOf u (fld p.params 0 1)).state = .loading
  handle : (benchOf u (fld p.params 0 1)).handle = h
  groups : (benchOf u (fld p.params 0 1)).groups = BitVec.ofNat 32 (fld p.params 4 4)
  recipe : (benchOf u (fld p.params 0 1)).recipe = fld p.params 8 4
  share : (benchOf u (fld p.params 0 1)).share = fld p.params 12 4
  image : (benchOf u (fld p.params 0 1)).image = image
  admission : (findAdm u h).isSome = true
  packet : (findP p.ref u).map (·.committed) = some true
  emitted : u.emitted = s.emitted
  host : u.host = s.host

theorem commitP_led (r : Ref) (s : State) : (commitP r s).led = s.led := rfl

/-- What is read of a bench that has been given its handle and its copies after its admission. -/
theorem read_placed {α : Type} {g : Bench → α} (hg : ∀ x c, g { x with copies := c } = g x) {b h : Nat} {f : Bench → Bench} {s t : State}
    (hb : b < s.fab.bench.length) (ht : t.fab = (modBench b f s).fab) :
    g (benchOf (placeCopies b (modBench b (Bench.under h) t)) b) = g (Bench.under h (f (benchOf s b))) := by
  have hbench : benchOf t b = f (benchOf s b) := by
    rw [benchOf, ht]
    exact benchOf_modBench_self s b f hb
  rw [(placeCopies_onBench hg b _).same, benchOf_modBench_self, hbench]
  rw [ht, modBench_length]
  exact hb

theorem build_committed {p : Packet} {s : State} (hb : fld p.params 0 1 < s.fab.bench.length) (hp : findP p.ref s = some p)
    (image cert : Bytes) (q : Request) (h : Nat) :
    BuildCommitted p image h s (commitP p.ref (placeCopies (fld p.params 0 1) (modBench (fld p.params 0 1) (Bench.under h)
      (commitAdm q h (modBench (fld p.params 0 1) (builtBench p image cert) s))))) := by
  have hfab : (commitAdm q h (modBench (fld p.params 0 1) (builtBench p image cert) s)).fab = _ :=
    (commitAdm_frame_self q h _).fab_eq (by decide)
  have hframe : Frame [.led, .draw, .fab] s (commitAdm q h (modBench (fld p.params 0 1) (builtBench p image cert) s)) :=
    commitAdm_frame _ _ _ (by decide) (modBench_frame _ _ _ (by decide) (Frame.refl _ s))
  have hheld := findAdm_commitAdm q h (modBench (fld p.params 0 1) (builtBench p image cert) s)
  generalize commitAdm q h (modBench (fld p.params 0 1) (builtBench p image cert) s) = t at hfab hframe hheld ⊢
  have hread {α : Type} (g : Bench → α) (hg : ∀ x c, g { x with copies := c } = g x) := read_placed (h := h) hg hb hfab
  have hplaced : Frame [.fab] t (placeCopies (fld p.params 0 1) (modBench (fld p.params 0 1) (Bench.under h) t)) :=
    placeCopies_frame _ _ (by decide) (modBench_frame _ _ _ (by decide) (Frame.refl _ t))
  generalize placeCopies (fld p.params 0 1) (modBench (fld p.params 0 1) (Bench.under h) t) = w at hread hplaced ⊢
  have hall : Frame [.led, .draw, .fab] s w := hframe.trans' (hplaced.mono (by decide))
  refine ⟨hread Bench.state fun _ _ => rfl, hread Bench.handle fun _ _ => rfl, hread Bench.groups fun _ _ => rfl,
    hread Bench.recipe fun _ _ => rfl, hread Bench.share fun _ _ => rfl, hread Bench.image fun _ _ => rfl, ?_, ?_,
    hall .emitted (by decide), hall .host (by decide)⟩
  · rw [findAdm, commitP_led, hplaced.led_eq (by decide)]
    exact hheld
  · have hfind : findP p.ref w = some p := by
      rw [findP, hall.kw_eq (by decide)]
      exact hp
    rw [commitP, findP_modP (by intro; rfl), hfind]
    rfl

/-! ## BENCH_LOAD_DONE (06 R310) -/

/-- LOADING ends, and the packet that built the bench is answered. -/
theorem benchLoadDone_commanded {b : Nat} {s : State} (hb : b < s.fab.bench.length) (hstate : (benchOf s b).state = .loading)
    (hloss : s.fab.chipLoss = none) (hrefs : (benchOf s b).releaseRefs = []) (hrel : (benchOf s b).releasing = false) :
    ∃ u, exec (.benchLoadDone b) s = .next u ∧ (benchOf u b).state = ((benchOf s b).settled s).state ∧
      ∀ q p, (benchOf s b).loadRef = some q → findP q s = some p → findP q u = none ∧ (benchOf u b).loadRef = none := by
  have hexec : exec (.benchLoadDone b) s = .next (endChange b s) :=
    congrArg Host.Outcome.next (if_pos ⟨hstate, by rw [hloss]; rfl⟩)
  refine ⟨_, hexec, (endChange_ended hrefs hrel hb).state, fun q p hq hp => ?_⟩
  rw [endChange_eq hrefs hrel]
  refine buildReply_answers (p := p) ?_ ?_ ?_
  · rwa [modBench_length]
  · rw [benchOf_modBench_self s b _ hb]
    exact hq
  · exact hp

theorem benchLoadDone_chipLoss {s : State} (hloss : s.fab.chipLoss.isSome = true) (b : Nat) :
    exec (.benchLoadDone b) s = .next s := by
  have hnone : ¬ s.fab.chipLoss.isNone = true := by simpa [Option.isSome_iff_ne_none] using hloss
  exact congrArg Host.Outcome.next ((if_neg fun h => hnone h.2).trans (if_neg hnone))

/-- On a bench that is not LOADING only the source of the load is forgotten. -/
theorem benchLoadDone_other {b : Nat} {s : State} (hstate : (benchOf s b).state ≠ .loading) (hloss : s.fab.chipLoss = none) :
    exec (.benchLoadDone b) s = .next (modBench b (fun x => { x with loads := false, source := [] }) s) :=
  congrArg Host.Outcome.next ((if_neg fun h => hstate h.1).trans (if_pos (by rw [hloss]; rfl)))

/-! ## BENCH_RELEASE (06 R316) -/

/-- The bench with one more release that waits. -/
def Bench.awaiting (r : Ref) (x : Bench) : Bench := { x with releaseRefs := x.releaseRefs ++ [r] }

section Release

variable {r : Ref} {p : Packet} {s : State} (hstarts : opStarts 0x0604 r p s = true)
include hstarts

theorem exec_benchRelease : exec (.benchRelease r) s = .next (
    match benchTarget p s with
    | some (st, off) => refuse p st off s
    | none =>
      if midChange (benchOf s (fld p.params 0 1)) then
        modP p.ref (fun q => { q with started := true })
          (modBench (fld p.params 0 1) (Bench.awaiting p.ref) s)
      else ok p [] (releaseBench (fld p.params 0 1) s)) :=
  congrArg Host.Outcome.next (runOp_starts hstarts _)

theorem benchRelease_waits (htarget : benchTarget p s = none) (hmid : midChange (benchOf s (fld p.params 0 1)) = true) (hinv : Inv s) :
    ∃ u, exec (.benchRelease r) s = .next u ∧ (benchOf u (fld p.params 0 1)).state = (benchOf s (fld p.params 0 1)).state ∧
      (benchOf u (fld p.params 0 1)).releaseRefs = (benchOf s (fld p.params 0 1)).releaseRefs ++ [p.ref] ∧ Frame [.kw, .fab] s u := by
  have hexec := exec_benchRelease hstarts
  rw [htarget, hmid] at hexec
  dsimp only at hexec
  rw [if_pos rfl] at hexec
  have hself := benchOf_modBench_self s (fld p.params 0 1) (Bench.awaiting p.ref) (hinv.benches ▸ lt_of_benchTarget_none htarget)
  refine ⟨_, hexec, ?_, ?_, modP_frame _ _ _ (by decide) (modBench_frame _ _ _ (by decide) (Frame.refl _ s))⟩
  · exact (congrArg Bench.state hself :)
  · exact (congrArg Bench.releaseRefs hself :)

end Release

/-! ## BENCH_REBUILD (06 R313, R314) -/

section Rebuild

variable {r : Ref} {p : Packet} {s : State} (hstarts : opStarts 0x0603 r p s = true) (poisoned : Bool)

include hstarts in
theorem exec_benchRebuild : exec (.benchRebuild ⟨r, poisoned⟩) s = .next (
    match rebuildRefusal p s with
    | some (st, off) => refuse p st off s
    | none => match readImage p 0x28 0x30 0x38 poisoned s with
      | .inl (st, off) => refuse p st off s
      | .inr (image, cert) =>
        let x := benchOf s (fld p.params 0 1)
        match certCheck s cert image x.groups (benchRecipe s x) with
        | some c => refuseWith p stREFUSED_CERT (le2 c) s
        | none => rebuildAdmit p image cert s) :=
  congrArg Host.Outcome.next (runOp_starts hstarts _)

/-- The decision of a rebuild: the exchange of the demands of the bench's admission (06 R313). -/
theorem rebuildAdmit_held {a : Admission} (ha : findAdm s (benchOf s (fld p.params 0 1)).handle = some a) (image cert : Bytes) :
    rebuildAdmit p image cert s =
      let x := { benchOf s (fld p.params 0 1) with cert := some (certOf cert) }
      let d := exchange a (benchRequest (fld p.params 0 1) a.cls a.tenant 200 x s).demands s
      match d.payload with
      | some e => refuseWith p stREFUSED_BUDGET e d.state
      | none => rebuildCommit p image (certOf cert) (settleExchange a (fld p.params 0 1) x d.state) := by
  unfold rebuildAdmit
  dsimp only
  rw [ha] <;> rfl

include hstarts in
theorem exec_benchRebuild_admit {image cert : Bytes} (hyes : rebuildRefusal p s = none)
    (hread : readImage p 0x28 0x30 0x38 poisoned s = .inr (image, cert))
    (hcert : certCheck s cert image (benchOf s (fld p.params 0 1)).groups (benchRecipe s (benchOf s (fld p.params 0 1))) = none) :
    exec (.benchRebuild ⟨r, poisoned⟩) s = .next (rebuildAdmit p image cert s) := by
  rw [exec_benchRebuild hstarts, hyes]
  dsimp only
  rw [hread]
  dsimp only
  rw [hcert]

end Rebuild

/-- A bench that is not ARMED goes through LOADING with the new image. -/
theorem rebuildCommit_built {p : Packet} {s : State} (hb : fld p.params 0 1 < s.fab.bench.length)
    (hstate : (benchOf s (fld p.params 0 1)).state = .built) (image : Bytes) (c : Cert) :
    (benchOf (rebuildCommit p image c s) (fld p.params 0 1)).state = .loading ∧
      (benchOf (rebuildCommit p image c s) (fld p.params 0 1)).image = image ∧
      (benchOf (rebuildCommit p image c s) (fld p.params 0 1)).cert = some c := by
  have hread {α : Type} (g : Bench → α) (hg : ∀ x, g x.bare = g x) (hc : ∀ x c, g { x with copies := c } = g x) (f : Bench → Bench)
      (res : Bytes) : g (benchOf (ok p res (placeCopy (fld p.params 0 1) 0 (modBench (fld p.params 0 1) f s))) (fld p.params 0 1)) =
      g (f (benchOf s (fld p.params 0 1))) := by
    rw [(ok_sameBenches p res _).read g hg, (placeCopy_onBench hc _ 0 _).same, benchOf_modBench_self s _ f hb]
  unfold rebuildCommit
  dsimp only
  rw [if_neg (by rw [hstate]; decide)]
  exact ⟨hread Bench.state (fun _ => rfl) (fun _ _ => rfl) _ _, hread Bench.image (fun _ => rfl) (fun _ _ => rfl) _ _,
    hread Bench.cert (fun _ => rfl) (fun _ _ => rfl) _ _⟩

/-- The bench with a rebuild that waits for its tile row. -/
def Bench.changing (p : Packet) (image : Bytes) (c : Cert) (bd : Long) (x : Bench) : Bench :=
  { x with change := some (.rebuild image c p.principal, bd), source := sourceOfBuild p 0x28 0x30 0x38 }

/-- An ARMED bench keeps its image until the tile row at which the change takes effect. -/
theorem rebuildCommit_armed {p : Packet} {s : State} (hb : fld p.params 0 1 < s.fab.bench.length)
    (hstate : (benchOf s (fld p.params 0 1)).state = .armed) (image : Bytes) (c : Cert) {α : Type} (g : Bench → α)
    (hg : ∀ x, g x.bare = g x) : g (benchOf (rebuildCommit p image c s) (fld p.params 0 1)) =
      g ((benchOf s (fld p.params 0 1)).changing p image c (boundaryAfter s.pos.shift s.pos.hwm)) := by
  unfold rebuildCommit
  dsimp only
  rw [if_pos hstate, (done_sameBenches p _ _ _).read g hg, benchOf_modBench_self s _ _ hb]
  rfl

/-! ## BENCH_READMIT (06 R317) -/

theorem lt_of_readmitRefusal_none {p : Packet} {s : State} (h : readmitRefusal p s = none) : fld p.params 0 1 < 16 := by
  refine lt_of_benchTarget_none (s := s) (Option.eq_none_iff_forall_ne_some.2 fun e he => ?_)
  unfold readmitRefusal at h
  rw [he] at h
  cases h

section Readmit

variable {r : Ref} {p : Packet} {s : State}

theorem exec_benchReadmit (hstarts : opStarts 0x0606 r p s = true) (pick : Nat) : exec (.benchReadmit r pick) s = .next (
    match readmitRefusal p s with
    | some (st, off) => refuse p st off s
    | none =>
      let x := benchOf s (fld p.params 0 1)
      match certCheck s ((x.cert.map (·.raw)).getD []) x.image x.groups (benchRecipe s x) with
      | some c => refuseWith p stREFUSED_CERT (le2 c) s
      | none => readmitAdmit p pick s) :=
  congrArg Host.Outcome.next (runOp_starts hstarts _)

theorem exec_benchReadmit_admit (hstarts : opStarts 0x0606 r p s = true) (pick : Nat) (hyes : readmitRefusal p s = none)
    (hcert : certCheck s (((benchOf s (fld p.params 0 1)).cert.map (·.raw)).getD []) (benchOf s (fld p.params 0 1)).image
      (benchOf s (fld p.params 0 1)).groups (benchRecipe s (benchOf s (fld p.params 0 1))) = none) :
    exec (.benchReadmit r pick) s = .next (readmitAdmit p pick s) := by
  rw [exec_benchReadmit hstarts, hyes]
  dsimp only
  rw [hcert]

/-- The request of a re-admission: the bench with its own image, recipe and tenant. -/
def readmitRequest (p : Packet) (s : State) : Request :=
  benchRequest (fld p.params 0 1) p.cls (benchOf s (fld p.params 0 1)).tenant 0 (benchOf s (fld p.params 0 1)) s

/-- The bench as a re-admission leaves it. -/
def Bench.readmitted (st : BenchState) (h : Nat) (x : Bench) : Bench := { x with handle := h, back := .built, state := st }

/-- The state that a re-admission gives the bench. -/
def readmittedTo (s : State) (x : Bench) : BenchState := if x.loads then .loading else restState s x

/-- The state in which a re-admission is answered. -/
def readmittedState (p : Packet) (h : Nat) (s : State) : State :=
  startGen h (benchOf s (fld p.params 0 1)).gen (modBench (fld p.params 0 1)
    (Bench.readmitted (readmittedTo s (benchOf s (fld p.params 0 1))) h) (commitAdm (readmitRequest p s) h s))

theorem readmitAdmit_short (hl : shorts s (vEff s.led.vadm) p.cls (withTable (readmitRequest p s).demands) ≠ []) (pick : Nat) :
    readmitAdmit p pick s = refuseWith p stREFUSED_BUDGET
      (budgetPayload (shorts s (vEff s.led.vadm) p.cls (withTable (readmitRequest p s).demands))) (countRefusal s) := by
  have hd := decideAdm_short (q := readmitRequest p s) hl (freshHandle s pick fun _ => true)
  unfold readmitAdmit
  dsimp only
  rw [show benchRequest (fld p.params 0 1) p.cls (benchOf s (fld p.params 0 1)).tenant 0 (benchOf s (fld p.params 0 1)) s =
    readmitRequest p s from rfl, hd]
  rfl

variable (hb : fld p.params 0 1 < s.fab.bench.length)
include hb

theorem benchOf_readmittedState (h : Nat) :
    benchOf (readmittedState p h s) (fld p.params 0 1) =
      (benchOf s (fld p.params 0 1)).readmitted (readmittedTo s (benchOf s (fld p.params 0 1))) h := by
  have hadm := commitAdm_frame_self (readmitRequest p s) h s
  refine (benchOf_modBench_self (commitAdm (readmitRequest p s) h s) _ _ ?_).trans ?_
  · rwa [hadm.fab_eq (by decide)]
  · rw [benchOf_frame hadm (by decide)]

/-- The new admission starts at the bench's generation (06 R344). -/
theorem benchFence_readmittedState (h : Nat) :
    benchFence (readmittedState p h s) (fld p.params 0 1) = (benchOf s (fld p.params 0 1)).gen := by
  obtain ⟨a, ha⟩ := Option.isSome_iff_exists.1 (findAdm_commitAdm (readmitRequest p s) h s)
  have hid : a.handle = h := by simpa using List.find?_some ha
  have hfind : findAdm (readmittedState p h s) h = _ := findAdm_map (s := commitAdm (readmitRequest p s) h s)
    (fun a => by split <;> rfl) rfl h
  rw [benchFence, benchOf_readmittedState hb, show (
      (benchOf s (fld p.params 0 1)).readmitted (readmittedTo s (benchOf s (fld p.params 0 1))) h).handle = h from rfl, hfind, ha,
    Option.map_some, if_pos hid]
  rfl

theorem readmitAdmit_fits (hl : shorts s (vEff s.led.vadm) p.cls (withTable (readmitRequest p s).demands) = [])
    (hcls : p.cls = 7 ∨ ∀ a ∈ s.led.held, a.cls ≠ 7) (pick : Nat) : ∃ h, readmitAdmit p pick s =
      ok p (le4 h ++ le4 (benchOf s (fld p.params 0 1)).gen.toNat) (readmittedState p h s) := by
  refine ⟨freshHandle s pick fun _ => true, ?_⟩
  have hd := decideAdm_fits (q := readmitRequest p s) hl (freshHandle s pick fun _ => true)
  rw [reclaimedFor_none (q := readmitRequest p s) hcls] at hd
  have hrest (x : Bench) (h : Nat) : restState (commitAdm (readmitRequest p s) h s) x = restState s x := by
    rw [restState, findRecipe, (commitAdm_frame_self (readmitRequest p s) h s).rcp_eq (by decide), restState, findRecipe]
  have hreply (h : Nat) : benchHandleFence (readmittedState p h s) (fld p.params 0 1) =
      le4 h ++ le4 (benchOf s (fld p.params 0 1)).gen.toNat := by
    rw [benchHandleFence, benchFence_readmittedState hb, benchOf_readmittedState hb, Bench.readmitted]
  rw [← hreply]
  unfold readmitAdmit
  dsimp only
  rw [show benchRequest (fld p.params 0 1) p.cls (benchOf s (fld p.params 0 1)).tenant 0 (benchOf s (fld p.params 0 1)) s =
    readmitRequest p s from rfl, hd]
  dsimp only
  rw [hrest]
  rfl

end Readmit

/-- Settles O34: each opcode's refusals as its own cases, and its effect as the change of one bench. -/
theorem benchLifecycle : Obligations.BenchLifecycle := by
  unfold Obligations.BenchLifecycle
  refine ⟨fun r pick p s poisoned h hinv => ⟨fun st off hform => ?_, fun im hform => ⟨fun st off hread => ?_,
      fun image cert hread => ⟨fun e hcert => ?_, fun hcert hpool hobjs hsupply => ?_, fun hcert hpool => ⟨fun hne => ?_,
        fun hnil hcls => ?_⟩⟩⟩⟩,
    fun b s hinv hb hstate hloss hrefs hrel => benchLoadDone_commanded (hinv.benches ▸ hb) hstate hloss hrefs hrel,
    fun b s => ⟨fun hloss => benchLoadDone_chipLoss hloss b, benchLoadDone_other⟩,
    fun r p s h => ⟨fun st off htarget => ?_, fun htarget => ⟨fun hmid => ?_, benchRelease_waits h htarget⟩⟩,
    fun r p s poisoned h => ⟨fun st off hno => ?_, fun hyes => ⟨fun st off hread => ?_, fun image cert hread =>
      ⟨fun e hcert => ?_, fun a hcert ha => ⟨fun e he => ?_, fun hfits => ?_⟩⟩⟩⟩,
    fun p image c s hinv hb => ⟨fun hstate => rebuildCommit_built (hinv.benches ▸ hb) hstate image c, fun hstate => ?_⟩,
    fun r pick p s h => ⟨fun st off hno => ?_, fun hyes hinv => ⟨fun e hcert => ?_, fun hcert => ⟨fun hne => ?_, fun hnil hcls => ?_⟩⟩⟩⟩
  · rw [exec_benchBuild h, hform]
  · rw [exec_benchBuild h, hform]
    dsimp only
    rw [hread]
  · rw [exec_benchBuild h, hform]
    dsimp only
    rw [hread]
    dsimp only
    rw [hcert]
  · rw [exec_benchBuild_admit h poisoned pick hform hread hcert, buildAdmit_noRoom hpool hobjs hsupply]
    rfl
  · rw [exec_benchBuild_admit h poisoned pick hform hread hcert]
    exact congrArg Host.Outcome.next (buildAdmit_short hpool rfl hne pick)
  · have hp : findP p.ref s = some p := by
      have hf := (opStarts_ready h).1
      rwa [findP_ref hf]
    have hexec := (exec_benchBuild_admit h poisoned pick hform hread hcert).trans
      (congrArg Host.Outcome.next (buildAdmit_fits hpool hnil hcls pick))
    have hdone := build_committed (hinv.benches ▸ lt_of_buildForm hform) hp image cert (buildRequest p image cert s)
      (freshHandle s pick fun _ => true)
    exact ⟨_, _, hexec, hdone.state, hdone.handle, hdone.groups, hdone.recipe, hdone.share, hdone.image, hdone.admission,
      hdone.packet, hdone.emitted, hdone.host⟩
  · rw [exec_benchRelease h, htarget]
  · rw [exec_benchRelease h, htarget, hmid]
    rfl
  · rw [exec_benchRebuild h, hno]
  · rw [exec_benchRebuild h, hyes]
    dsimp only
    rw [hread]
  · rw [exec_benchRebuild h, hyes]
    dsimp only
    rw [hread]
    dsimp only
    rw [hcert]
  · rw [exec_benchRebuild_admit h poisoned hyes hread hcert, rebuildAdmit_held ha]
    dsimp only
    rw [he]
  · rw [exec_benchRebuild_admit h poisoned hyes hread hcert, rebuildAdmit_held ha]
    dsimp only
    rw [hfits]
  · have hread {α : Type} (g : Bench → α) (hg : ∀ x, g x.bare = g x) :=
      rebuildCommit_armed (hinv.benches ▸ hb) hstate image c g hg
    exact ⟨hread Bench.change fun _ => rfl, (hread Bench.state fun _ => rfl).trans hstate, hread Bench.image fun _ => rfl,
      hread Bench.cert fun _ => rfl, hread Bench.queue fun _ => rfl, hread Bench.running fun _ => rfl⟩
  · rw [exec_benchReadmit h, hno]
  · rw [exec_benchReadmit h, hyes]
    dsimp only
    rw [hcert]
  · rw [exec_benchReadmit_admit h pick hyes hcert]
    exact congrArg Host.Outcome.next (readmitAdmit_short hne pick)
  · have hb : fld p.params 0 1 < s.fab.bench.length := hinv.benches ▸ lt_of_readmitRefusal_none hyes
    obtain ⟨handle, hfits⟩ := readmitAdmit_fits hb hnil hcls pick
    have hread {α : Type} (g : Bench → α) := congrArg g (benchOf_readmittedState hb handle)
    exact ⟨_, handle, (exec_benchReadmit_admit h pick hyes hcert).trans (congrArg Host.Outcome.next hfits), hread Bench.handle,
      hread Bench.state, benchFence_readmittedState hb handle, hread Bench.image, hread Bench.slots⟩

end Sys2Proof.Machine
end

section
/-! PROOFS. Arbitration of the memory banks and channels: eligibility, the cycle, the choice, the grant, and aging. -/

namespace Sys2Proof.Machine

open Sys2Proof

/-! ## The request served first (07 R374) -/

/-- Place of a request in the order of its class and of having a deadline, which the order of service refines. -/
def MemReq.rank (r : MemReq) : Nat := 2 * r.cls + (if r.deadline.isNone then 1 else 0)

theorem cls_le_of_rank_le {a b : MemReq} (h : a.rank ≤ b.rank) : a.cls ≤ b.cls := by
  unfold MemReq.rank at h
  split at h <;> split at h <;> omega

theorem deadline_none_of_rank_le {a b : MemReq} (h : a.rank ≤ b.rank) (hc : b.cls = a.cls) (ha : a.deadline = none) :
    b.deadline = none := by
  cases hb : b.deadline with
  | none => rfl
  | some d =>
    simp [MemReq.rank, ha, hb, hc] at h

theorem rank_le_of_before {a b : MemReq} (h : before a b = true) : a.rank ≤ b.rank := by
  simp only [before, Bool.or_eq_true, decide_eq_true_eq, Bool.and_eq_true, beq_iff_eq] at h
  unfold MemReq.rank
  rcases h with h | ⟨hc, he⟩
  · split <;> split <;> omega
  · unfold earlier at he
    cases ha : a.deadline <;> cases hb : b.deadline <;> simp_all

theorem rank_le_of_not_before {a b : MemReq} (h : before a b = false) : b.rank ≤ a.rank := by
  simp only [before, Bool.or_eq_false_iff, decide_eq_false_iff_not, Bool.and_eq_false_iff, beq_eq_false_iff_ne] at h
  unfold MemReq.rank
  obtain ⟨hle, hc | he⟩ := h
  · split <;> split <;> omega
  · unfold earlier at he
    cases ha : a.deadline <;> cases hb : b.deadline <;> simp_all
    all_goals omega

/-- The request kept of the one found so far and the next. -/
def firstTwo (m : Option MemReq) (r : MemReq) : Option MemReq :=
  match m with
  | none => some r
  | some x => if before r x then some r else some x

theorem firstOf_eq (l : List MemReq) : firstOf l = l.foldl firstTwo none := rfl

theorem firstTwo_spec (m : Option MemReq) (r : MemReq) : ∃ z, firstTwo m r = some z ∧ (z = r ∨ m = some z) ∧
    z.rank ≤ r.rank ∧ ∀ x, m = some x → z.rank ≤ x.rank := by
  cases m with
  | none => exact ⟨r, rfl, .inl rfl, le_rfl, by simp⟩
  | some x =>
    cases hb : before r x with
    | true =>
      refine ⟨r, if_pos hb, .inl rfl, le_rfl, ?_⟩
      rintro _ ⟨⟩
      exact rank_le_of_before hb
    | false =>
      refine ⟨x, if_neg (by simp [hb]), .inr rfl, rank_le_of_not_before hb, ?_⟩
      rintro _ ⟨⟩
      exact le_rfl

theorem foldl_firstTwo {l : List MemReq} {m : Option MemReq} {z : MemReq} (h : l.foldl firstTwo m = some z) :
    (z ∈ l ∨ m = some z) ∧ (∀ x ∈ l, z.rank ≤ x.rank) ∧ ∀ x, m = some x → z.rank ≤ x.rank := by
  induction l generalizing m with
  | nil =>
    subst h
    exact ⟨.inr rfl, by simp, by rintro _ ⟨⟩; exact le_rfl⟩
  | cons r l ih =>
    obtain ⟨y, hy, hor, hyr, hym⟩ := firstTwo_spec m r
    obtain ⟨hin, hl, hm⟩ := ih h
    have hzy := hm y hy
    refine ⟨?_, ?_, fun x hx => hzy.trans (hym x hx)⟩
    · rcases hin with hin | heq
      · exact .inl (List.mem_cons_of_mem r hin)
      · cases hy.symm.trans heq
        exact hor.imp (by rintro rfl; exact List.mem_cons_self) id
    · rintro x (_ | ⟨_, hx⟩)
      · exact hzy.trans hyr
      · exact hl x hx

theorem foldl_firstTwo_none {l : List MemReq} {m : Option MemReq} (h : l.foldl firstTwo m = none) : m = none ∧ l = [] := by
  induction l generalizing m with
  | nil => exact ⟨h, rfl⟩
  | cons r l ih =>
    obtain ⟨y, hy, -⟩ := firstTwo_spec m r
    exact absurd (hy.symm.trans (ih h).1) (by simp)

theorem firstOf_some {l : List MemReq} {z : MemReq} (h : firstOf l = some z) : z ∈ l ∧ ∀ x ∈ l, z.rank ≤ x.rank := by
  obtain ⟨hin, hl, -⟩ := foldl_firstTwo (firstOf_eq l ▸ h)
  exact ⟨hin.resolve_right (by simp), hl⟩

theorem firstOf_none {l : List MemReq} (h : firstOf l = none) : l = [] := (foldl_firstTwo_none (firstOf_eq l ▸ h)).2

/-! ## The choice of a bank or channel (07 R373) -/

theorem eligible_iff (s : State) (r : MemReq) : eligible s r = true ↔
    0 < getI (if r.ingot then s.draw.cycleTok.2.1 else s.draw.cycleTok.1) r.cls 0 ∧
      ∀ h, r.stream = some h → 0 < streamTok s h r.ingot := by
  simp [eligible, Option.all_eq_true]

/-- A choice is the first of the eligible requests, or as slack the first of all where none is eligible. -/
theorem choose_cases {s : State} {l : List MemReq} {r : MemReq} {slack : Bool} (h : choose s l = some (r, slack)) :
    slack = false ∧ firstOf (l.filter (eligible s)) = some r ∨
      slack = true ∧ l.filter (eligible s) = [] ∧ firstOf l = some r := by
  unfold choose at h
  split at h
  next x hx =>
    cases h
    exact .inl ⟨rfl, hx⟩
  next hx =>
    obtain ⟨y, hy, heq⟩ := Option.map_eq_some_iff.1 h
    cases heq
    exact .inr ⟨rfl, firstOf_none hx, hy⟩

theorem choose_spec {s : State} {l : List MemReq} {r : MemReq} {slack : Bool} (h : choose s l = some (r, slack)) : r ∈ l ∧
    (slack = false → eligible s r = true ∧ ∀ x ∈ l, eligible s x = true → r.rank ≤ x.rank) ∧
    (slack = true → ∀ x ∈ l, eligible s x = false ∧ r.rank ≤ x.rank) := by
  rcases choose_cases h with ⟨rfl, hf⟩ | ⟨rfl, hnone, hf⟩
  · obtain ⟨hin, hmin⟩ := firstOf_some hf
    obtain ⟨hr, he⟩ := List.mem_filter.1 hin
    exact ⟨hr, fun _ => ⟨he, fun x hx hxe => hmin x (List.mem_filter.2 ⟨hx, hxe⟩)⟩, by simp⟩
  · obtain ⟨hin, hmin⟩ := firstOf_some hf
    exact ⟨hin, by simp, fun _ x hx => ⟨by simpa using List.filter_eq_nil_iff.1 hnone x hx, hmin x hx⟩⟩

theorem choose_none {s : State} {l : List MemReq} (h : choose s l = none) : l = [] := by
  unfold choose at h
  split at h
  · cases h
  · exact firstOf_none (Option.map_eq_none_iff.1 h)

/-! ## The cycle (07 R372, R380) -/

theorem openCycle_begins {s : State} {ingot : Bool} {bank : Nat}
    (h : s.draw.cycleServed.1 ≠ s.now ∨ (ingot, bank) ∈ s.draw.cycleServed.2) :
    (openCycle ingot bank s).draw.cycleTok = bucketsOf s := by
  unfold openCycle
  rw [if_neg]
  · rfl
  · rintro ⟨hnow, hserved⟩
    rcases h with h | h
    · exact h hnow
    · simp [h] at hserved

theorem openCycle_goes_on {s : State} {ingot : Bool} {bank : Nat} (hnow : s.draw.cycleServed.1 = s.now)
    (h : (ingot, bank) ∉ s.draw.cycleServed.2) : (openCycle ingot bank s).draw.cycleTok = s.draw.cycleTok := by
  unfold openCycle
  rw [if_pos ⟨hnow, by simpa using h⟩]
  rfl

theorem openCycle_draw (ingot : Bool) (bank : Nat) (s : State) : ∃ tok served,
    (openCycle ingot bank s).draw = { s.draw with cycleTok := tok, cycleServed := served } := by
  unfold openCycle
  split <;> exact ⟨_, _, rfl⟩

/-! ## The grant (07 R380, R385) -/

/-- The buckets of a tier after a grant. -/
def tierPaid (r : MemReq) (ingot : Bool) (l : List Int) : List Int := if r.ingot = ingot then upd l r.cls (· - 64) else l

/-- A stream after a grant. -/
def Stream.paid (r : MemReq) (x : Stream) : Stream :=
  if r.stream = some x.handle then
    { x with tokI := if r.ingot then x.tokI - 64 else x.tokI, tokS := if r.ingot then x.tokS else x.tokS - 64 }
  else x

theorem payGrant_eq (r : MemReq) (s : State) : payGrant r s = s.setDraw { s.draw with
    tokI := tierPaid r true s.draw.tokI, tokS := tierPaid r false s.draw.tokS, streams := s.draw.streams.map (Stream.paid r) } := rfl

theorem tierPaid_other {r : MemReq} {ingot : Bool} (h : r.ingot ≠ ingot) (l : List Int) : tierPaid r ingot l = l := if_neg h

theorem tierPaid_cls {r : MemReq} {ingot : Bool} {l : List Int} (h : r.ingot = ingot) (hc : r.cls < l.length) :
    getI (tierPaid r ingot l) r.cls 0 = getI l r.cls 0 - 64 ∧ ∀ k, k ≠ r.cls → getI (tierPaid r ingot l) k 0 = getI l k 0 := by
  rw [tierPaid, if_pos h]
  exact ⟨getI_upd_self _ _ _ _ hc, fun k hk => getI_upd_ne _ _ _ _ _ hk.symm⟩

theorem map_paid_none {r : MemReq} (h : r.stream = none) (l : List Stream) : l.map (Stream.paid r) = l :=
  (List.map_congr_left fun x _ => if_neg (by simp [h])).trans (List.map_id l)

theorem paid_ingot {r : MemReq} {x : Stream} (h : r.stream = some x.handle) (hi : r.ingot = true) :
    x.paid r = { x with tokI := x.tokI - 64 } := by
  simp [Stream.paid, h, hi]

theorem paid_sheet {r : MemReq} {x : Stream} (h : r.stream = some x.handle) (hi : r.ingot = false) :
    x.paid r = { x with tokS := x.tokS - 64 } := by
  simp [Stream.paid, h, hi]

theorem corrected_draw (ingot : Bool) (bank : Nat) (s : State) : ∃ chan n,
    (corrected ingot bank s).draw = { s.draw with chan := chan, sheetCorr := n } := by
  unfold corrected
  split <;> exact ⟨_, _, rfl⟩

/-- The state in which a request has been granted, before its burst reaches anyone. -/
def granted (r : MemReq) (slack singleBit : Bool) (s : State) : State :=
  let s1 := payGrant r (s.setDraw { s.draw with
    waiting := s.draw.waiting.erase r
    slack := if slack then bumpSat s.draw.slack r.cls else s.draw.slack
    late := if servedLate s r then bumpSat s.draw.late r.cls else s.draw.late })
  (if singleBit then corrected r.ingot r.bank s1 else s1).emit (.grant r.id)

theorem grant_eq (r : MemReq) (slack singleBit : Bool) (s : State) :
    grant r slack singleBit s = touchBurst r (granted r slack singleBit s) := rfl

/-- A grant changes the queue, the counters of its class, the buckets it pays from and the correction counters. -/
theorem granted_draw (r : MemReq) (slack singleBit : Bool) (s : State) : ∃ late chan n,
    (granted r slack singleBit s).draw = { s.draw with
      waiting := s.draw.waiting.erase r
      slack := if slack then bumpSat s.draw.slack r.cls else s.draw.slack
      late := late
      tokI := tierPaid r true s.draw.tokI
      tokS := tierPaid r false s.draw.tokS
      streams := s.draw.streams.map (Stream.paid r)
      chan := chan
      sheetCorr := n } := by
  cases singleBit with
  | false => exact ⟨_, _, _, rfl⟩
  | true =>
    obtain ⟨chan, n, h⟩ := corrected_draw r.ingot r.bank (payGrant r (s.setDraw { s.draw with
      waiting := s.draw.waiting.erase r
      slack := if slack then bumpSat s.draw.slack r.cls else s.draw.slack
      late := if servedLate s r then bumpSat s.draw.late r.cls else s.draw.late }))
    exact ⟨_, chan, n, h⟩

theorem granted_emitted (r : MemReq) (slack singleBit : Bool) (s : State) :
    (granted r slack singleBit s).emitted = .grant r.id :: s.emitted := by
  cases singleBit with
  | false => rfl
  | true => exact congrArg (Emit.grant r.id :: ·) (corrected_frame _ _ _ (List.Subset.refl _) (Frame.refl _ _) .emitted (by decide))

theorem granted_frame (r : MemReq) (slack singleBit : Bool) (s : State) :
    Frame [.emitted, .draw] s (granted r slack singleBit s) := by
  have hpaid := payGrant_frame (fr := [.emitted, .draw]) (z := s) r _ (by decide)
    (State.setDraw_frame s { s.draw with
      waiting := s.draw.waiting.erase r
      slack := if slack then bumpSat s.draw.slack r.cls else s.draw.slack
      late := if servedLate s r then bumpSat s.draw.late r.cls else s.draw.late } (by decide) (Frame.refl _ s))
  cases singleBit with
  | false => exact State.emit_frame _ _ (by decide) hpaid
  | true => exact State.emit_frame _ _ (by decide) (corrected_frame _ _ _ (by decide) hpaid)

/-! ## What the burst brings (07 R388) -/

theorem touchBurst_write {r : MemReq} (h : r.write = true) (s : State) : touchBurst r s = s.setDraw { s.draw with
    chan := s.draw.chan.map fun c => { c with poison := c.poison.filter fun p => p != r.addr.toNat / 64 * 64 } } := if_pos h

theorem touchBurst_read {r : MemReq} {s : State} (h : r.write = false)
    (hno : poisonIn s (r.addr.toNat / 64 * 64) 64 = none ∨ ∃ e, r.issuer = .list e) : touchBurst r s = s := by
  unfold touchBurst
  rw [if_neg (by simp [h])]
  rcases hno with hno | ⟨e, he⟩
  · rw [hno]
    cases r.issuer <;> rfl
  · rw [he]

theorem touchBurst_poisoned {r : MemReq} {s : State} {p : Nat} (h : r.write = false)
    (hp : poisonIn s (r.addr.toNat / 64 * 64) 64 = some p) (hlist : ∀ e, r.issuer ≠ .list e) :
    touchBurst r s = consumePoison r.issuer p (eccUnc (BitVec.ofNat 64 p) (consumerOf r.issuer) s) := by
  unfold touchBurst
  rw [if_neg (by simp [h]), hp]
  cases hi : r.issuer
  case list e => exact absurd hi (hlist e)
  all_goals rfl

/-! ## MEMORY_GRANT (07 R372 to R380) -/

/-- The state in which requests have come to their banks and channels. -/
def requestsArrived (arrivals : List MemArrival) (t : Nat) (s : State) : State :=
  (s.at_ t).setDraw { s.draw with waiting := s.draw.waiting ++ arrivals.filterMap (arrive (s.at_ t)) }

/-- The requests that wait at a bank or channel. -/
def waitingAt (ingot : Bool) (bank : Nat) (s : State) : List MemReq :=
  s.draw.waiting.filter fun x => x.ingot == ingot && x.bank == bank

theorem requestsArrived_frame (arrivals : List MemArrival) (t : Nat) (s : State) :
    Frame [.now, .emitted, .draw] s (requestsArrived arrivals t s) :=
  State.setDraw_frame _ _ (by decide) (State.setNow_frame s _ (by decide) (Frame.refl _ s))

section Grant

variable {ingot : Bool} {bank t : Nat} {arrivals : List MemArrival} {single : Bool} {s : State}

theorem exec_memoryGrant : exec (.memoryGrant ingot bank arrivals single t) s = .next (
    if !domOn s 2 then s.at_ t
    else if !bankServes s ingot bank || (waitingAt ingot bank (requestsArrived arrivals t s)).isEmpty then requestsArrived arrivals t s
    else match choose (openCycle ingot bank (requestsArrived arrivals t s)) (waitingAt ingot bank (requestsArrived arrivals t s)) with
      | some (r, slack) => grant r slack single (openCycle ingot bank (requestsArrived arrivals t s))
      | none => openCycle ingot bank (requestsArrived arrivals t s)) := rfl

theorem exec_memoryGrant_off (h : domOn s 2 = false) : exec (.memoryGrant ingot bank arrivals single t) s = .next (s.at_ t) := by
  rw [exec_memoryGrant, h]
  rfl

variable (hon : domOn s 2 = true)
include hon

theorem exec_memoryGrant_idle (h : bankServes s ingot bank = false ∨ waitingAt ingot bank (requestsArrived arrivals t s) = []) :
    exec (.memoryGrant ingot bank arrivals single t) s = .next (requestsArrived arrivals t s) := by
  rw [exec_memoryGrant, hon, if_neg (by decide), if_pos]
  rcases h with h | h <;> simp [h]

theorem exec_memoryGrant_grants {r : MemReq} {slack : Bool} (hserves : bankServes s ingot bank = true)
    (hc : choose (openCycle ingot bank (requestsArrived arrivals t s)) (waitingAt ingot bank (requestsArrived arrivals t s)) =
      some (r, slack)) :
    exec (.memoryGrant ingot bank arrivals single t) s = .next (touchBurst r
      (granted r slack single (openCycle ingot bank (requestsArrived arrivals t s)))) := by
  have hne : waitingAt ingot bank (requestsArrived arrivals t s) ≠ [] := List.ne_nil_of_mem (choose_spec hc).1
  rw [exec_memoryGrant, hon, hserves, if_neg (by decide), if_neg (by simpa using hne), hc]
  rfl

end Grant

/-- What a grant in a cycle that has been opened changes of the state before the requests came. -/
theorem granted_openCycle (ingot : Bool) (bank : Nat) (arrivals : List MemArrival) (t : Nat) (r : MemReq) (slack single : Bool)
    (s : State) :
    let s1 := requestsArrived arrivals t s
    let g := granted r slack single (openCycle ingot bank s1)
    Frame [.now, .emitted, .draw] s g ∧ g.emitted = .grant r.id :: s.emitted ∧
      ∃ tok served late chan n, g.draw = { s.draw with
        waiting := s1.draw.waiting.erase r
        slack := if slack then bumpSat s.draw.slack r.cls else s.draw.slack
        late := late
        tokI := tierPaid r true s.draw.tokI
        tokS := tierPaid r false s.draw.tokS
        streams := s.draw.streams.map (Stream.paid r)
        chan := chan
        sheetCorr := n
        cycleTok := tok
        cycleServed := served } := by
  intro s1 g
  obtain ⟨tok, served, hopen⟩ := openCycle_draw ingot bank s1
  obtain ⟨late, chan, n, hg⟩ := granted_draw r slack single (openCycle ingot bank s1)
  have hcycle : Frame [.draw] s1 (openCycle ingot bank s1) := openCycle_frame ingot bank s1 (by decide) (Frame.refl _ s1)
  refine ⟨?_, ?_, tok, served, late, chan, n, ?_⟩
  · exact ((requestsArrived_frame arrivals t s).trans' (hcycle.mono (by decide))).trans'
      ((granted_frame r slack single _).mono (by decide))
  · exact (granted_emitted r slack single _).trans (congrArg _ (hcycle .emitted (by decide)))
  · rw [hg, hopen]
    rfl

/-! ## REQUEST_AGING (07 R375) -/

theorem exec_requestAging_none {s : State} {id : Nat}
    (h : s.draw.waiting.find? (fun r => r.id == id && r.deadline.isNone) = none) : exec (.requestAging id) s = .next s := by
  change execRequestAging id s = _
  unfold execRequestAging
  rw [h]

theorem exec_requestAging {s : State} {id : Nat} {r : MemReq}
    (h : s.draw.waiting.find? (fun r => r.id == id && r.deadline.isNone) = some r) :
    exec (.requestAging id) s = .next ((s.at_ (r.arrival + 20000)).setDraw { s.draw with waiting := s.draw.waiting.map fun x =>
      if x = r then { x with deadline := some s.pos.hwm, aged := true } else x }) := by
  change execRequestAging id s = _
  unfold execRequestAging
  rw [h]
  rfl

/-- Settles O39: eligibility, the cycle and the choice by the order of ranks, then the grant as one change of DRAW's state. -/
theorem arbiterServesByClass : Obligations.ArbiterServesByClass := by
  unfold Obligations.ArbiterServesByClass
  refine ⟨eligible_iff, fun s ingot bank => ⟨openCycle_begins, openCycle_goes_on⟩, fun s l r slack h => ?choice,
    fun s l => choose_none, fun s ingot bank t arrivals single => ⟨exec_memoryGrant_off, exec_memoryGrant_idle,
      fun r slack hon hserves hc => ?grant⟩,
    fun s id r h => ⟨_, exec_requestAging h, rfl, rfl,
      State.setDraw_frame _ _ (by decide) (State.setNow_frame s _ (by decide) (Frame.refl _ s))⟩,
    fun s id => exec_requestAging_none⟩
  case choice =>
    obtain ⟨hin, hbest, hslack⟩ := choose_spec h
    refine ⟨hin, fun hs => ⟨(hbest hs).1, fun x hx he => ?_⟩, fun hs x hx => ?_⟩
    · have hrank := (hbest hs).2 x hx he
      exact ⟨cls_le_of_rank_le hrank, deadline_none_of_rank_le hrank⟩
    · obtain ⟨hno, hrank⟩ := hslack hs x hx
      exact ⟨hno, cls_le_of_rank_le hrank⟩
  case grant =>
    obtain ⟨hframe, hemit, tok, served, late, chan, n, hdraw⟩ := granted_openCycle ingot bank arrivals t r slack single s
    refine ⟨_, granted r slack single (openCycle ingot bank (requestsArrived arrivals t s)), exec_memoryGrant_grants hon hserves hc,
      fun hcls hi => ?_, fun hcls hi => ?_, fun hst => ?_, fun x hx hst hi => ?_, fun x hx hst hi => ?_, fun hs => ?_, fun hs => ?_,
      ?_, hemit, ?_, ?_, hframe, fun hw => touchBurst_write hw _, touchBurst_read, fun p => touchBurst_poisoned⟩
    all_goals rw [hdraw]
    · exact ⟨tierPaid_other (by simp [hi]) _, tierPaid_cls hi hcls⟩
    · exact ⟨tierPaid_other (by simp [hi]) _, tierPaid_cls hi hcls⟩
    · exact map_paid_none hst _
    · exact List.mem_map.2 ⟨x, hx, paid_ingot hst hi⟩
    · exact List.mem_map.2 ⟨x, hx, paid_sheet hst hi⟩
    · exact if_neg (by simp [hs])
    · exact if_pos hs
    · rfl

end Sys2Proof.Machine
end

section
/-! PROOFS. Errors of INGOT: the second read, a timeout and the poison table, the pixels of PLANISH, and the patrol scrub. -/

namespace Sys2Proof.Machine

open Sys2Proof

/-! ## Channels -/

theorem Frame.draw_eq {l : List Chapter} {s t : State} (h : Frame l s t) (hp : Chapter.draw ∉ l) : t.draw = s.draw := h .draw hp

@[simp] theorem noticeUnit_draw (code : Half) (data : Bytes) (s : State) : (noticeUnit code data s).draw = s.draw :=
  (noticeUnitAt_frame_self code (spos s) data s).draw_eq (by decide)

theorem chan_modDram_self {s : State} {ch : Nat} {c : DramChan} (h : s.draw.chan[ch]? = some c) (f : DramChan → DramChan) :
    (modDram ch f s).draw.chan[ch]? = some (f c) := getElem?_upd_self f h

theorem chan_modDram_ne {ch k : Nat} (h : k ≠ ch) (f : DramChan → DramChan) (s : State) :
    (modDram ch f s).draw.chan[k]? = s.draw.chan[k]? := by
  simp [modDram, upd, h.symm]

/-- Errors are counted by the channel of the burst alone (07 R386, R394). -/
theorem chan_eccUnc_self {s : State} {a : Long} {c : DramChan} (h : s.draw.chan[chanOfAddr a]? = some c) (consumer : Nat) :
    (eccUnc a consumer s).draw.chan[chanOfAddr a]? = some { c with unc := satInc c.unc } := by
  rw [eccUnc, noticeUnit_draw]
  exact chan_modDram_self h _

theorem chan_eccUnc_ne {a : Long} {k : Nat} (h : k ≠ chanOfAddr a) (consumer : Nat) (s : State) :
    (eccUnc a consumer s).draw.chan[k]? = s.draw.chan[k]? := by
  rw [eccUnc, noticeUnit_draw]
  exact chan_modDram_ne h _ s

theorem chan_corrected {s : State} {ch : Nat} {c : DramChan} (h : s.draw.chan[ch]? = some c) :
    (corrected true ch s).draw.chan[ch]? = some { c with corr := c.corr + 1 } := chan_modDram_self h _

/-! ## The poison table (07 R388) -/

/-- The retirement of a channel may be withheld; then all that is read from it is poisoned. -/
def channelLost (ch : Nat) (s : State) : State :=
  if (getI s.draw.chan ch DramChan.reset).retired then s else modDram ch (fun c => { c with allPoison := true }) s

section Poison

variable {s : State} {a : Long} {c : DramChan} (h : s.draw.chan[chanOfAddr a]? = some c)
include h

theorem poisonBurst_eq : poisonBurst a s =
    if c.poison.contains (a.toNat / 64 * 64) then s
    else if c.poison.length < 64 then modDram (chanOfAddr a) (fun c => { c with poison := c.poison ++ [a.toNat / 64 * 64] }) s
    else channelLost (chanOfAddr a) (retireDram (chanOfAddr a) s) := by
  unfold poisonBurst
  dsimp only
  rw [getI_of_getElem? _ h]
  rfl

theorem chan_poisonBurst (hroom : c.poison.length < 64) : (poisonBurst a s).draw.chan[chanOfAddr a]? =
    some (if c.poison.contains (a.toNat / 64 * 64) then c else { c with poison := c.poison ++ [a.toNat / 64 * 64] }) := by
  cases hin : c.poison.contains (a.toNat / 64 * 64) with
  | true => rw [poisonBurst_eq h, if_pos hin, h, if_pos rfl]
  | false =>
    rw [poisonBurst_eq h, if_neg (by simpa using hin), if_pos hroom, if_neg (by decide)]
    exact chan_modDram_self h _

end Poison

theorem chan_channelLost {ch : Nat} {s : State} (h : ch < s.draw.chan.length) :
    ∃ c, (channelLost ch s).draw.chan[ch]? = some c ∧ (c.retired = true ∨ c.allPoison = true) := by
  have hc := List.getElem?_eq_getElem h
  unfold channelLost
  rw [getI_of_getElem? _ hc]
  split
  next hret => exact ⟨_, hc, .inl hret⟩
  next => exact ⟨_, chan_modDram_self hc _, .inr rfl⟩

theorem chan_poisonBurst_full {s : State} {a : Long} {c : DramChan} (h : s.draw.chan[chanOfAddr a]? = some c)
    (hfull : 64 ≤ c.poison.length) (hno : c.poison.contains (a.toNat / 64 * 64) = false) (hinv : Inv s) :
    ∃ c', (poisonBurst a s).draw.chan[chanOfAddr a]? = some c' ∧ (c'.retired = true ∨ c'.allPoison = true) := by
  obtain ⟨hlt, -⟩ := List.getElem?_eq_some_iff.1 h
  have hkept : (retireDram (chanOfAddr a) s).draw.chan.length = s.draw.chan.length :=
    (retireDram_lawful (chanOfAddr a) s (Lawful.refl hinv)).inv.ingot.trans hinv.ingot.symm
  rw [poisonBurst_eq h, if_neg (by simpa using hno), if_neg (Nat.not_lt.2 hfull)]
  exact chan_channelLost (hkept ▸ hlt)

/-! ## Double-bit errors and timeouts (07 R386, R388) -/

/-- A delivery to a consumer is poisoned (07 R386, R387). -/
def deliveredPoisoned (a : Long) (consumer : Nat) (s : State) : State := planishPoison a consumer (eccUnc a consumer s)

/-- A burst cannot be had: what was read is delivered poisoned, what was written is lost. -/
def burstLost (a : Long) (consumer : Nat) (write : Bool) (s : State) : State :=
  if write then poisonBurst a (deliveredPoisoned a consumer s) else deliveredPoisoned a consumer s

/-- What the one repetition of an access brings, where it is allowed. -/
def retried (a : Long) (consumer : Nat) (write : Bool) (o : RetryOutcome) (s : State) : State :=
  match o with
  | .failed => burstLost a consumer write s
  | .corrected => corrected true (chanOfAddr a) s
  | .clean => s

/-- An error is an upset that counts toward the channel's retirement, whatever the repetition brought. -/
theorem timeout_eq (a : Long) (consumer : Nat) (write : Bool) (o : RetryOutcome) (s : State) :
    timeout a consumer write o s = upsetRetire 3 (chanOfAddr a) (Config.detectCode 3 % 256) false (b2n (rereadAllowed s consumer)) 0
      (if rereadAllowed s consumer then retried a consumer write o s else burstLost a consumer write s) := by
  unfold timeout
  cases rereadAllowed s consumer <;> cases o <;> cases write <;> rfl

theorem doubleBit_eq (a : Long) (consumer : Nat) (o : RetryOutcome) (s : State) :
    doubleBit a consumer o false s = upsetRetire 3 (chanOfAddr a) 1 false (b2n (rereadAllowed s consumer)) 0
      (if rereadAllowed s consumer then retried a consumer false o s else burstLost a consumer false s) := by
  unfold doubleBit
  cases rereadAllowed s consumer <;> cases o <;> rfl

section Live

variable {a : Long} {t : Nat} {s : State}

theorem exec_ingotReread (h : ingotLive (s.at_ t) a = true) (consumer : Nat) (o : RetryOutcome) :
    exec (.ingotReread a consumer o t) s = .next (doubleBit a consumer o false (s.at_ t)) :=
  congrArg Host.Outcome.next (if_pos h)

theorem exec_channelTimeout (h : ingotLive (s.at_ t) a = true) (consumer : Nat) (write : Bool) (o : RetryOutcome) :
    exec (.channelTimeout a consumer write o t) s = .next (timeout a consumer write o (s.at_ t)) :=
  congrArg Host.Outcome.next (if_pos h)

theorem exec_patrolScrub (h : ingotLive s a = true) (single : Bool) : exec (.patrolScrub a single) s =
    .next ((if single then corrected true (chanOfAddr a) s else s).emit (.patrol a.toNat)) := by
  change execPatrolScrub a single s = _
  unfold execPatrolScrub
  rw [h]
  rfl

/-- Whether a channel is live is no matter of time. -/
theorem ingotLive_at (a : Long) (t : Nat) (s : State) : ingotLive (s.at_ t) a = ingotLive s a := rfl

theorem ingotEvents_dead (h : ingotLive (s.at_ t) a = false) (consumer : Nat) (write single : Bool) (o : RetryOutcome) :
    exec (.ingotReread a consumer o t) s = .next (s.at_ t) ∧ exec (.channelTimeout a consumer write o t) s = .next (s.at_ t) ∧
      exec (.patrolScrub a single) s = .next s := by
  have hdead : ¬ ingotLive (s.at_ t) a = true := by simp [h]
  refine ⟨congrArg Host.Outcome.next (if_neg hdead), congrArg Host.Outcome.next (if_neg hdead), ?_⟩
  rw [ingotLive_at] at h
  exact congrArg Host.Outcome.next (if_pos (by rw [h]; rfl))

end Live

theorem patrolScrub_frame (a : Long) (single : Bool) (s : State) :
    Frame [.emitted, .draw] s ((if single then corrected true (chanOfAddr a) s else s).emit (.patrol a.toNat)) := by
  refine State.emit_frame _ _ (by decide) ?_
  cases single with
  | false => exact Frame.refl _ s
  | true => exact corrected_frame true _ s (by decide) (Frame.refl _ s)

/-! ## The pixels of PLANISH (07 R387) -/

/-- The slot of a scan line whose pixels in the burst at `b` are damaged. -/
def Slot.struck (b c : Nat) (x : Slot) : Slot :=
  { x with upset := x.upset ++ (List.range x.samples.length).filter fun p => Config.burstHolds b c x.k p }

theorem slots_poisonSlots (b : Nat) (s : State) (c : Nat) :
    (plnChan (poisonSlots b s) c).slots = (plnChan s c).slots.map (Slot.struck b c) := by
  simp only [plnChan, getI, poisonSlots, State.setPln_pln, List.getD_eq_getElem?_getD, List.getElem?_mapIdx]
  cases s.pln.chan[c]? <;> rfl

theorem planishPoison_planish (a : Long) (s : State) : planishPoison a 0 s = poisonSlots (a.toNat / 64 * 64) s := by
  rw [planishPoison, if_pos rfl]

theorem planishPoison_other {consumer : Nat} (h : consumer ≠ 0) (a : Long) (s : State) : planishPoison a consumer s = s := if_neg h

/-- Settles O40: an error by what its repetition brings, then the counters, the poison table and the pixels by their own
lemmas. -/
theorem memoryErrors : Obligations.MemoryErrors := by
  unfold Obligations.MemoryErrors
  refine ⟨fun s consumer h => if_pos h, fun a consumer t o s h => ?reread, fun a consumer t write o s h => ?timeout,
    fun a consumer s c h => ⟨chan_eccUnc_self h consumer, fun k hk => chan_eccUnc_ne hk consumer s, chan_corrected h,
      chan_poisonBurst h, chan_poisonBurst_full h⟩,
    fun a consumer s => ⟨fun h => planishPoison_other h a s, ?planish⟩, fun a single s h => ?scrub,
    fun a consumer t write single o s h => ingotEvents_dead h consumer write single o⟩
  case reread =>
    rw [exec_ingotReread h, doubleBit_eq]
    refine ⟨fun hno => by rw [hno]; rfl, fun hyes => ?_⟩
    rw [hyes]
    refine ⟨?_, ?_, ?_⟩ <;> rintro rfl <;> rfl
  case timeout =>
    rw [exec_channelTimeout h, timeout_eq]
    refine ⟨Config.detectCode 3 % 256, fun hno => by rw [hno]; rfl, fun hyes => ?_⟩
    rw [hyes]
    refine ⟨?_, ?_, ?_⟩ <;> rintro rfl <;> rfl
  case planish =>
    rintro rfl
    refine ⟨planishPoison_frame a 0 s (by decide) (Frame.refl _ s), fun c i => ?_⟩
    rw [planishPoison_planish, slots_poisonSlots, List.getElem?_map]
    rfl
  case scrub =>
    refine ⟨_, exec_patrolScrub h single, ?_, patrolScrub_frame a single s, ?_, ?_⟩
    · cases single <;> rfl
    · rintro rfl
      rfl
    · rintro c rfl hc
      exact chan_corrected hc

end Sys2Proof.Machine
end

section
/-! PROOFS. The opcodes of the memory group: status, objects, streams, classes, and the return of a channel. -/

namespace Sys2Proof.Machine

open Sys2Proof

section Opcode

variable {r : Ref} {p : Packet} {s : State}

theorem exec_drawStatus (h : opStarts 0x0701 r p s = true) : exec (.drawStatus r) s = .next (ok p (le8 (poolFree s) ++
    (List.range 4).flatMap (fun ch => le8 (ingotFree s ch)) ++ le4 (drawChan s).toNat ++ s.draw.tokS.flatMap (leInt 4) ++
      s.draw.tokI.flatMap (leInt 4)) s) :=
  congrArg Host.Outcome.next (runOp_starts h _)

/-! ## DRAW_ALLOC (07 R354 to R357) -/

/-- The object that an allocation makes at a place. -/
def allocated (p : Packet) (pick : Nat) (place : Tier × Nat × Nat) (s : State) : Obj :=
  let q := allocOf p.params
  { handle := freshHandle s pick fun _ => true, tenant := p.tenant, tier := place.1, size := q.size
    anyTier := bits q.flags 1 0 == 0, pinned := bit q.flags 2 || place.1 == .foil, shared := bit q.flags 3
    cls := bits q.flags 6 4, bench := if q.bench = 0xFF then none else some q.bench, channel := place.2.1, addr := place.2.2
    lost := false, order := s.draw.nextOrder }

section Alloc

variable (h : opStarts 0x0702 r p s = true) (pick ext : Nat)
include h

theorem exec_drawAlloc : exec (.drawAlloc r pick ext) s = .next (
    match allocRefusal p (allocOf p.params) s with
    | some (st, off) => refuse p st off s
    | none => match placeObj s (allocOf p.params) ext with
      | .inl n => refuseWith p stBUSY (le8 n) s
      | .inr (tier, ch, a) => ok p (allocResult (allocated p pick (tier, ch, a) s)) (s.setDraw { s.draw with
          objs := s.draw.objs ++ [allocated p pick (tier, ch, a) s], nextOrder := s.draw.nextOrder + 1 })) :=
  congrArg Host.Outcome.next (runOp_starts h _)

theorem exec_drawAlloc_refused {st : Half} {off : Nat} (hr : allocRefusal p (allocOf p.params) s = some (st, off)) :
    exec (.drawAlloc r pick ext) s = .next (refuse p st off s) := by
  rw [exec_drawAlloc h, hr]

theorem exec_drawAlloc_noPlace {n : Nat} (hr : allocRefusal p (allocOf p.params) s = none)
    (hp : placeObj s (allocOf p.params) ext = .inl n) :
    exec (.drawAlloc r pick ext) s = .next (refuseWith p stBUSY (le8 n) s) := by
  rw [exec_drawAlloc h, hr]
  dsimp only
  rw [hp]

theorem exec_drawAlloc_placed {place : Tier × Nat × Nat} (hr : allocRefusal p (allocOf p.params) s = none)
    (hp : placeObj s (allocOf p.params) ext = .inr place) :
    exec (.drawAlloc r pick ext) s = .next (ok p (allocResult (allocated p pick place s))
      (s.setDraw { s.draw with objs := s.draw.objs ++ [allocated p pick place s], nextOrder := s.draw.nextOrder + 1 })) := by
  rw [exec_drawAlloc h, hr]
  dsimp only
  rw [hp]

end Alloc

theorem allocRefusal_size (h : fld p.params 0 8 < 64 ∨ 2 ^ 32 < fld p.params 0 8) :
    allocRefusal p (allocOf p.params) s = some (stBAD_PARAM, 0x20) := if_pos h

theorem allocRefusal_align (hlo : 64 ≤ fld p.params 0 8) (hhi : fld p.params 0 8 ≤ 2 ^ 32)
    (h : fld p.params 11 1 < 6 ∨ 21 < fld p.params 11 1) :
    allocRefusal p (allocOf p.params) s = some (stBAD_PARAM, 0x2B) :=
  (if_neg (by omega)).trans (if_pos h)

theorem allocResult_length (o : Obj) : (allocResult o).length = 16 := by simp [allocResult]

/-- An object's size is the size asked for, rounded up to whole bursts (07 R354). -/
theorem allocOf_size (b : Bytes) :
    (allocOf b).size % 64 = 0 ∧ fld b 0 8 ≤ (allocOf b).size ∧ (allocOf b).size < fld b 0 8 + 64 := by
  have hsize : (allocOf b).size = (fld b 0 8 + 64 - 1) / 64 * 64 := rfl
  omega

/-! ## DRAW_FREE (07 R361) -/

theorem exec_drawFree (h : opStarts 0x0703 r p s = true) : exec (.drawFree r) s = .next (
    match objOf s (fld p.params 0 4) with
    | none => refuse p stBAD_PARAM 0x20 s
    | some o =>
      if !mayUse p o.tenant then refuse p stDENIED noField s
      else if referred s o then refuse p stBUSY noField s
      else ok p [] (s.setDraw { s.draw with objs := s.draw.objs.filter fun x => x.handle != o.handle })) :=
  congrArg Host.Outcome.next (runOp_starts h _)

theorem drawFree_object (h : opStarts 0x0703 r p s = true) {o : Obj} (ho : objOf s (fld p.params 0 4) = some o) :
    (mayUse p o.tenant = false → exec (.drawFree r) s = .next (refuse p stDENIED noField s)) ∧
    (mayUse p o.tenant = true →
      (referred s o = true → exec (.drawFree r) s = .next (refuse p stBUSY noField s)) ∧
      (referred s o = false → exec (.drawFree r) s = .next (ok p [] (s.setDraw
        { s.draw with objs := s.draw.objs.filter fun x => x.handle != o.handle })))) := by
  rw [exec_drawFree h, ho]
  dsimp only
  refine ⟨fun hno => ?_, fun hyes => ⟨fun href => ?_, fun href => ?_⟩⟩
  · rw [hno]
    rfl
  · rw [hyes, href]
    rfl
  · rw [hyes, href]
    rfl

/-! ## DRAW_STREAM_OPEN and DRAW_STREAM_CLOSE (07 R368, R379) -/

/-- The request for a stream of the packet's class. -/
def streamRequest (p : Packet) : Request :=
  { kind := .stream, cls := p.cls, tenant := p.tenant, demands := [⟨4, p.cls, fld p.params 0 8⟩, ⟨5, p.cls, fld p.params 8 8⟩]
    object := 0xFFFF, vDecl := 0, recipe := 0 }

/-- The stream of that request, with its first refill. -/
def openedStream (p : Packet) (h : Nat) (s : State) : Stream :=
  { handle := h, tenant := p.tenant, sheet := fld p.params 0 8, ingot := fld p.params 8 8
    tokS := refillOf s (fld p.params 0 8), tokI := refillOf s (fld p.params 8 8) }

section StreamOpen

variable (h : opStarts 0x0720 r p s = true) (pick : Nat)
include h

theorem exec_drawStreamOpen : exec (.drawStreamOpen r pick) s = .next (
    let n := freshHandle s pick fun _ => true
    let d := decideAdm (streamRequest p) n s
    match d.payload with
    | some e => refuseWith p stREFUSED_BUDGET e d.state
    | none => ok p (le4 n) (d.state.setDraw { d.state.draw with streams := d.state.draw.streams ++ [openedStream p n s] })) :=
  congrArg Host.Outcome.next (runOp_starts h _)

theorem exec_drawStreamOpen_short (hl : shorts s (vEff s.led.vadm) p.cls (withTable (streamRequest p).demands) ≠ []) :
    exec (.drawStreamOpen r pick) s = .next (refuseWith p stREFUSED_BUDGET
      (budgetPayload (shorts s (vEff s.led.vadm) p.cls (withTable (streamRequest p).demands))) (countRefusal s)) := by
  rw [exec_drawStreamOpen h]
  dsimp only
  rw [decideAdm_short (q := streamRequest p) hl]
  rfl

theorem exec_drawStreamOpen_fits (hl : shorts s (vEff s.led.vadm) p.cls (withTable (streamRequest p).demands) = []) :
    let n := freshHandle s pick fun _ => true
    let u := commitAdm (streamRequest p) n (reclaimedFor (streamRequest p) s)
    exec (.drawStreamOpen r pick) s =
      .next (ok p (le4 n) (u.setDraw { u.draw with streams := u.draw.streams ++ [openedStream p n s] })) := by
  rw [exec_drawStreamOpen h]
  dsimp only
  rw [decideAdm_fits (q := streamRequest p) hl]

end StreamOpen

theorem exec_drawStreamClose (h : opStarts 0x0721 r p s = true) : exec (.drawStreamClose r) s = .next (
    match admTarget p (fld p.params 0 4) 0x20 [.stream] s with
    | .inl (st, off) => refuse p st off s
    | .inr a => if s.fab.lists.any (listNames a.handle) then refuse p stBUSY noField s else ok p [] (release a s)) :=
  congrArg Host.Outcome.next (runOp_starts h _)

/-! ## DRAW_RANGE_SET and DRAW_PORT_MODE (07 R370, R371) -/

theorem exec_drawRangeSet (h : opStarts 0x0730 r p s = true) : exec (.drawRangeSet r) s = .next (
    if 15 < fld p.params 0 1 then refuse p stBAD_PARAM 0x20 s
    else if !s.led.held.isEmpty then refuse p stDENIED noField s
    else ok p [] (s.setDraw { s.draw with
      ranges := upd s.draw.ranges (fld p.params 0 1) fun _ => BitVec.ofNat 64 (fld p.params 8 8) })) :=
  congrArg Host.Outcome.next (runOp_starts h _)

theorem exec_drawPortMode (h : opStarts 0x0731 r p s = true) : exec (.drawPortMode r) s = .next (
    if 3 < fld p.params 0 1 then refuse p stBAD_PARAM 0x20 s
    else if 1 < fld p.params 1 1 then refuse p stBAD_PARAM 0x21 s
    else if !s.led.held.isEmpty then refuse p stDENIED noField s
    else ok p [] (s.setDraw { s.draw with
      rangeMode := upd s.draw.rangeMode (fld p.params 0 1) fun _ => fld p.params 1 1 == 1 })) :=
  congrArg Host.Outcome.next (runOp_starts h _)

/-! ## DRAW_CHAN_UNRETIRE (07 R393) -/

theorem cellAt_filter (keep : Nat → Bool) (cells : List Host.Cell) (x : Nat) :
    cellAt (cells.filter fun c => keep c.1) x = if keep x then cellAt cells x else 0 := by
  induction cells with
  | nil => simp [cellAt]
  | cons c r ih =>
    obtain ⟨k, v⟩ := c
    by_cases hk : k = x
    · subst hk
      cases hkeep : keep k <;> simp [hkeep, ih, cellAt]
    · cases hkeep : keep k <;> simp [hkeep, ih, cellAt, hk]

theorem memGet_emptyChannel (ch : Nat) (m : Memory) (x : Nat) :
    memGet (emptyChannel ch m) x = if inIngot x ∧ x / 2 ^ 34 = ch then 0 else memGet m x := by
  refine (cellAt_filter (fun a => !(inIngot a && a / 2 ^ 34 == ch)) m.cells x).trans ?_
  by_cases hx : inIngot x = true ∧ x / 2 ^ 34 = ch
  · rw [if_pos hx, if_neg (by simpa using hx)]
  · rw [if_neg hx, if_pos (by simpa [-not_and, not_and_or] using hx)]
    rfl

/-- A channel is back in service, unpoisoned and empty. -/
def channelReturned (ch : Nat) (s : State) : State :=
  noticeCapacity 5 0 (returned 3 ch (wantRecord 3 (modDram ch (fun c => { c with retired := false, poison := [] })
    (s.setDraw { s.draw with mem := emptyChannel ch s.draw.mem }))))

theorem channelReturned_draw (ch : Nat) (s : State) : (channelReturned ch s).draw =
    (modDram ch (fun c => { c with retired := false, poison := [] })
      (s.setDraw { s.draw with mem := emptyChannel ch s.draw.mem })).draw := by
  rw [channelReturned, noticeCapacity, noticeUnit_draw,
    (returned_frame 3 ch _ (List.Subset.refl _) (Frame.refl _ _)).draw_eq (by decide),
    (wantRecord_frame 3 _ (List.Subset.refl _) (Frame.refl _ _)).draw_eq (by decide)]

theorem channelReturned_wanted (ch : Nat) (s : State) : (channelReturned ch s).boot.wanted.isSome = true := by
  rw [channelReturned, noticeCapacity, noticeUnit_boot,
    (returned_frame 3 ch _ (List.Subset.refl _) (Frame.refl _ _)).boot_eq (by decide), wantRecord_wanted_isSome]

theorem exec_drawChanUnretire (h : opStarts 0x0740 r p s = true) : exec (.drawChanUnretire r) s = .next (
    if 3 < fld p.params 0 1 ∨ !(getI s.draw.chan (fld p.params 0 1) DramChan.reset).retired then refuse p stBAD_PARAM 0x20 s
    else if !s.led.held.isEmpty then refuse p stDENIED noField s
    else ok p [] (channelReturned (fld p.params 0 1) s)) :=
  congrArg Host.Outcome.next (runOp_starts h _)

section Unretire

variable (h : opStarts 0x0740 r p s = true) {c : DramChan} (hc : s.draw.chan[fld p.params 0 1]? = some c)
include h hc

theorem exec_drawChanUnretire_live (hlive : c.retired = false) :
    exec (.drawChanUnretire r) s = .next (refuse p stBAD_PARAM 0x20 s) := by
  rw [exec_drawChanUnretire h, getI_of_getElem? _ hc, hlive, if_pos (.inr rfl)]

variable (hch : fld p.params 0 1 ≤ 3) (hret : c.retired = true)
include hch hret

theorem exec_drawChanUnretire_retired : exec (.drawChanUnretire r) s = .next (
    if !s.led.held.isEmpty then refuse p stDENIED noField s else ok p [] (channelReturned (fld p.params 0 1) s)) := by
  rw [exec_drawChanUnretire h, getI_of_getElem? _ hc, hret, if_neg]
  rintro (hbig | hno)
  · omega
  · exact absurd hno (by decide)

end Unretire

end Opcode

/-- Settles O41: each opcode by its own equation above. -/
theorem memoryOpcodes : Obligations.MemoryOpcodes := by
  unfold Obligations.MemoryOpcodes
  refine ⟨fun r p s => exec_drawStatus, fun r p s pick ext h => ⟨fun hsize => ?_, fun hlo hhi halign => ?_,
      fun st off => exec_drawAlloc_refused h pick ext, fun n => exec_drawAlloc_noPlace h pick ext, fun tier ch a hr hp => ?alloc⟩,
    fun r p s h => ⟨fun hnone => ?_, fun o ho => ?free⟩,
    fun r p s pick h => ⟨exec_drawStreamOpen_short h pick, fun hl => ?opened⟩,
    fun r p s h => ⟨fun st off ht => ?_, fun a ht => ⟨fun hnames => ?_, fun hnames => ?_⟩⟩,
    fun r p s h => ?range, fun r p s h => ?mode,
    fun r p s h => ⟨fun hbig => ?_, fun c hch hc => ⟨exec_drawChanUnretire_live h hc, fun hret hheld => ?_,
      fun hret hheld => ?unretired⟩⟩⟩
  · exact exec_drawAlloc_refused h pick ext (allocRefusal_size hsize)
  · exact exec_drawAlloc_refused h pick ext (allocRefusal_align hlo hhi halign)
  case alloc =>
    obtain ⟨hround, hle, hlt⟩ := allocOf_size p.params
    exact ⟨_, allocated p pick (tier, ch, a) s, _, exec_drawAlloc_placed h pick ext hr hp, rfl, rfl, rfl, rfl, hround, hle, hlt,
      rfl, rfl, rfl, rfl, rfl, allocResult_length _, rfl, State.setDraw_frame s _ (by decide) (Frame.refl _ s)⟩
  · rw [exec_drawFree h, hnone]
  case free =>
    obtain ⟨hdenied, hmay⟩ := drawFree_object h ho
    exact ⟨hdenied, fun hyes => ⟨(hmay hyes).1, fun href => ⟨_, (hmay hyes).2 href, rfl,
      State.setDraw_frame s _ (by decide) (Frame.refl _ s)⟩⟩⟩
  case opened =>
    refine ⟨_, _, _, exec_drawStreamOpen_fits h pick hl, List.mem_append_right _ (List.mem_singleton.2 rfl), rfl, rfl, rfl, rfl,
      enteredAdm (streamRequest p) (freshHandle s pick fun _ => true) (reclaimedFor (streamRequest p) s), ?_, rfl, rfl, rfl, rfl⟩
    rw [State.setDraw_led, commitAdm_held]
    exact List.mem_append_right _ (List.mem_singleton.2 rfl)
  · rw [exec_drawStreamClose h, ht]
  · rw [exec_drawStreamClose h, ht]
    exact congrArg Host.Outcome.next (if_pos hnames)
  · rw [exec_drawStreamClose h, ht]
    exact congrArg Host.Outcome.next (if_neg (by simp [hnames]))
  case range =>
    rw [exec_drawRangeSet h]
    refine ⟨fun hbig => by rw [if_pos hbig], fun hle hnil => ?_, fun hle hheld => ?_⟩
    · rw [if_neg (by omega), if_neg (by simp [hnil])]
    · rw [if_neg (by omega), if_pos (by simpa using hheld)]
  case mode =>
    rw [exec_drawPortMode h]
    refine ⟨fun hbig => by rw [if_pos hbig], fun hle hbig => ?_, fun hle hmode hnil => ?_, fun hle hmode hheld => ?_⟩
    · rw [if_neg (by omega), if_pos hbig]
    · rw [if_neg (by omega), if_neg (by omega), if_neg (by simp [hnil])]
    · rw [if_neg (by omega), if_neg (by omega), if_pos (by simpa using hheld)]
  · rw [exec_drawChanUnretire h, if_pos (.inl hbig)]
  · rw [exec_drawChanUnretire_retired h hc hch hret, if_pos (by simpa using hheld)]
  case unretired =>
    refine ⟨channelReturned (fld p.params 0 1) s, ?_, ?_, channelReturned_wanted _ s, fun x => ?_⟩
    · rw [exec_drawChanUnretire_retired h hc hch hret, if_neg (by simp [hheld])]
    · rw [channelReturned_draw]
      exact chan_modDram_self hc _
    · rw [channelReturned_draw]
      exact memGet_emptyChannel _ s.draw.mem x

end Sys2Proof.Machine
end

section
/-! PROOFS. Rows of bytes in the memories: what writing them leaves alone, and that they read back in the memories that the
machine holds, which are in canonical form, but not in every memory that a state can be made of. -/

namespace Sys2Proof.Machine

open Sys2Proof

/-! ## Bytes of a memory in canonical form (log entry 11) -/

theorem cellAt_of_cellsAbove {lo : Nat} {c : List Host.Cell} (h : cellsAbove lo c = true) {a : Nat} (ha : a ≤ lo) :
    cellAt c a = 0 := by
  induction c generalizing lo with
  | nil => rfl
  | cons x r ih =>
    obtain ⟨k, v⟩ := x
    simp only [cellsAbove, Bool.and_eq_true, decide_eq_true_eq] at h
    obtain ⟨⟨hk, -⟩, hr⟩ := h
    rw [cellAt, if_neg (by omega), ih hr (by omega)]

theorem wf_of_cellsAbove {lo : Nat} {c : List Host.Cell} (h : cellsAbove lo c = true) : Memory.wf ⟨c⟩ = true := by
  cases c with
  | nil => rfl
  | cons x r =>
    simp only [cellsAbove, Bool.and_eq_true] at h
    obtain ⟨⟨-, hv⟩, hr⟩ := h
    exact Bool.and_eq_true_iff.2 ⟨hv, hr⟩

/-- Where no address is listed twice, a cell holds what was written last; a byte 0 takes its entry away. -/
theorem cellAt_setCell_self {c : List Host.Cell} (h : Memory.wf ⟨c⟩ = true) (a : Nat) (v : Byte) :
    cellAt (setCell c a v) a = v := by
  induction c with
  | nil =>
    rw [setCell]
    split
    next hv => exact hv.symm
    next => exact if_pos rfl
  | cons x r ih =>
    obtain ⟨k, y⟩ := x
    obtain ⟨-, hr⟩ := Bool.and_eq_true_iff.1 h
    rcases Nat.lt_trichotomy k a with hk | rfl | hk
    · rw [setCell, if_pos hk, cellAt, if_neg hk.ne, ih (wf_of_cellsAbove hr)]
    · rw [setCell, if_neg (lt_irrefl k), if_pos rfl]
      split
      next hv => rw [cellAt_of_cellsAbove hr le_rfl, hv]
      next => exact if_pos rfl
    · rw [setCell, if_neg hk.not_gt, if_neg hk.ne']
      split
      next hv => rw [cellAt, if_neg hk.ne', cellAt_of_cellsAbove hr hk.le, hv]
      next => exact if_pos rfl

/-- Bytes that were written are read back. -/
theorem memRead_memWrite {m : Memory} (h : m.wf = true) (a : Nat) (b : Bytes) : memRead (memWrite m a b) a b.length = b := by
  induction b generalizing m a with
  | nil => rfl
  | cons x r ih =>
    have hfirst : memGet (memWrite (memSet m a x) (a + 1) r) a = x :=
      (memGet_memWrite_outside _ _ _ _ (.inl a.lt_succ_self)).trans (cellAt_setCell_self h a x)
    have hrest := ih (memSet_wf m a x h) (a + 1)
    rw [memRead] at hrest
    rw [memRead, List.length_cons, List.range_succ_eq_map, List.map_cons, List.map_map, memWrite]
    refine congrArg₂ List.cons hfirst (Eq.trans (List.map_congr_left fun i _ => ?_) hrest)
    rw [Function.comp_apply, Nat.succ_eq_add_one, Nat.add_comm i, Nat.add_assoc]

/-! ## Places -/

/-- The memory that a place lies in. -/
def memOf (host : Bool) (s : State) : Memory := if host then s.host else s.draw.mem

theorem readPlace_eq (s : State) (p : Place) (n : Nat) : readPlace s p n = memRead (memOf p.host s) p.addr n := by
  unfold readPlace memOf
  split <;> rfl

theorem memOf_writePlace (host : Bool) (p : Place) (b : Bytes) (s : State) :
    memOf host (writePlace p b s) = if host = p.host then memWrite (memOf host s) p.addr b else memOf host s := by
  obtain ⟨h, a⟩ := p
  cases h <;> cases host <;> rfl

/-- A write leaves the bytes outside it. -/
theorem memGet_writePlace_outside {p : Place} {b : Bytes} {x : Nat} (h : x < p.addr ∨ p.addr + b.length ≤ x) (host : Bool)
    (s : State) : memGet (memOf host (writePlace p b s)) x = memGet (memOf host s) x := by
  rw [memOf_writePlace]
  split
  · exact memGet_memWrite_outside _ _ _ _ h
  · rfl

theorem writePlaceBut_cases (g : Nat) (p : Place) (b : Bytes) (s : State) :
    ((p.host = true ∨ burstMeets g p.addr b.length = false) ∧ writePlaceBut (some g) p b s = writePlace p b s) ∨
      writePlaceBut (some g) p b s = writePlace ⟨false, max p.addr (g + 64)⟩ (b.drop (g + 64 - p.addr))
        (writePlace ⟨false, p.addr⟩ (b.take (g - p.addr)) s) := by
  unfold writePlaceBut
  dsimp only
  split
  next h => exact .inl ⟨by simpa using h, rfl⟩
  next => exact .inr rfl

/-- A write but for a lost burst leaves the bytes outside it too. -/
theorem memGet_writePlaceBut_outside {p : Place} {b : Bytes} {x : Nat} (h : x < p.addr ∨ p.addr + b.length ≤ x) (lost : Option Nat)
    (host : Bool) (s : State) : memGet (memOf host (writePlaceBut lost p b s)) x = memGet (memOf host s) x := by
  cases lost with
  | none => exact memGet_writePlace_outside h host s
  | some g =>
    rcases writePlaceBut_cases g p b s with ⟨-, heq⟩ | heq
    · rw [heq, memGet_writePlace_outside h]
    · rw [heq, memGet_writePlace_outside (by simp only [List.length_drop]; omega),
        memGet_writePlace_outside (by simp only [List.length_take]; omega)]

/-- No byte of the lost burst is written. -/
theorem memGet_writePlaceBut_lost {p : Place} (hp : p.host = false) {g x : Nat} (hlo : g ≤ x) (hhi : x < g + 64) (b : Bytes)
    (host : Bool) (s : State) : memGet (memOf host (writePlaceBut (some g) p b s)) x = memGet (memOf host s) x := by
  rcases writePlaceBut_cases g p b s with ⟨hor, heq⟩ | heq
  · have hmeets := hor.resolve_left (by simp [hp])
    simp only [burstMeets, Bool.and_eq_false_iff, decide_eq_false_iff_not] at hmeets
    rw [heq, memGet_writePlace_outside (by omega)]
  · rw [heq, memGet_writePlace_outside (.inl (by dsimp only; omega)),
      memGet_writePlace_outside (by simp only [List.length_take]; omega)]

/-! ## Rows (07 R363) -/

/-- The place of the row at an offset. -/
def Place.row (p : Place) (o : Nat) : Place := { p with addr := p.addr + o }

theorem memGet_writeRows_outside {p : Place} {len x : Nat} {offs : List Nat}
    (h : ∀ o ∈ offs, x < p.addr + o ∨ p.addr + o + len ≤ x) (lost : Option Nat) (data : Bytes) (host : Bool) (s : State) :
    memGet (memOf host (writeRows lost p len offs data s)) x = memGet (memOf host s) x := by
  induction offs generalizing data s with
  | nil => rfl
  | cons o r ih =>
    have hrow : x < (p.row o).addr ∨ (p.row o).addr + (data.take len).length ≤ x := by
      have ho := h o List.mem_cons_self
      simp only [Place.row, List.length_take]
      omega
    rw [writeRows, ih fun q hq => h q (List.mem_cons_of_mem o hq)]
    exact memGet_writePlaceBut_outside hrow lost host s

theorem memGet_writeRows_lost {p : Place} (hp : p.host = false) {g x : Nat} (hlo : g ≤ x) (hhi : x < g + 64) (len : Nat)
    (offs : List Nat) (data : Bytes) (host : Bool) (s : State) :
    memGet (memOf host (writeRows (some g) p len offs data s)) x = memGet (memOf host s) x := by
  induction offs generalizing data s with
  | nil => rfl
  | cons o r ih =>
    rw [writeRows, ih]
    exact memGet_writePlaceBut_lost (p := p.row o) hp hlo hhi _ host s

/-- Rows that lie one after another read back as they were written, where the memory is in canonical form. -/
theorem flatMap_readPlace_writeRows {p : Place} {len : Nat} {offs : List Nat} (hsep : offs.Pairwise fun o q => o + len ≤ q)
    {data : Bytes} (hdata : data.length = offs.length * len) {s : State} (hwf : (memOf p.host s).wf = true) :
    (offs.flatMap fun o => readPlace (writeRows none p len offs data s) (p.row o) len) = data := by
  induction offs generalizing data s with
  | nil => exact (List.length_eq_zero_iff.1 (by simpa using hdata)).symm
  | cons o r ih =>
    obtain ⟨ho, hr⟩ := List.pairwise_cons.1 hsep
    rw [List.length_cons, Nat.succ_mul] at hdata
    have hmem : memOf p.host (writePlace (p.row o) (data.take len) s) =
        memWrite (memOf p.host s) (p.row o).addr (data.take len) := (memOf_writePlace _ _ _ _).trans (if_pos rfl)
    have hrest := ih hr (data := data.drop len) (s := writePlace (p.row o) (data.take len) s)
      (by rw [List.length_drop]; omega) (by rw [hmem]; exact memWrite_wf _ _ _ hwf)
    have hfirst : readPlace (writeRows none p len (o :: r) data s) (p.row o) len = data.take len := by
      have hlen : (data.take len).length = len := by rw [List.length_take]; omega
      have hback := memRead_memWrite hwf (p.row o).addr (data.take len)
      rw [hlen] at hback
      calc readPlace (writeRows none p len (o :: r) data s) (p.row o) len
          = memRead (memOf p.host (writePlace (p.row o) (data.take len) s)) (p.row o).addr len := by
            rw [readPlace_eq]
            refine List.map_congr_left fun i hi => memGet_writeRows_outside (offs := r) (fun q hq => ?_) none (data.drop len)
              p.host (writePlace (p.row o) (data.take len) s)
            have hq := ho q hq
            have hi := List.mem_range.1 hi
            simp only [Place.row]
            omega
        _ = data.take len := by
            rw [hmem]
            exact hback
    rw [List.flatMap_cons, hfirst]
    exact (congrArg _ hrest).trans (List.take_append_drop len data)

theorem rowOffsets_separate {pitch len : Nat} (h : len ≤ pitch) (rows : Nat) :
    (rowOffsets rows pitch).Pairwise fun o q => o + len ≤ q := by
  refine List.pairwise_map.2 (List.pairwise_lt_range.imp fun {i j} hij => ?_)
  have hle := Nat.mul_le_mul_right pitch (Nat.succ_le_of_lt hij)
  rw [Nat.succ_mul] at hle
  omega

theorem readRows_writeRows {p : Place} {rows pitch len : Nat} {data : Bytes} (hdata : data.length = rows * len) (hlen : len ≤ pitch)
    {s : State} (hwf : (memOf p.host s).wf = true) :
    readRows (writeRows none p len (rowOffsets rows pitch) data s) p rows pitch len = data :=
  flatMap_readPlace_writeRows (rowOffsets_separate hlen rows) (by simpa [rowOffsets] using hdata) hwf

/-- In a state that the machine can be in, rows that do not overlap one another read back as they were written. -/
theorem readRows_writeRows_of_inv {p : Place} {rows pitch len : Nat} {data : Bytes} (hdata : data.length = rows * len)
    (hlen : len ≤ pitch) {s : State} (hinv : Inv s) :
    readRows (writeRows none p len (rowOffsets rows pitch) data s) p rows pitch len = data := by
  refine readRows_writeRows hdata hlen ?_
  unfold memOf
  split
  · exact hinv.hostMem
  · exact hinv.unitMem

/-! ## A memory that lists an address twice -/

/-- Host memory lists address 0 twice, so that a byte 0 written there uncovers the second entry. No step leads here: both
memories of `Inv` are in canonical form. -/
def listedTwice : State := State.reset.setHost ⟨[(0, 1), (0, 1)]⟩

theorem listedTwice_reads_one :
    readRows (writeRows none ⟨true, 0⟩ 1 (rowOffsets 1 1) [0] listedTwice) ⟨true, 0⟩ 1 1 1 = [1] := rfl

/-- Refutes O38: its last sentence speaks of every state, and in a host memory that lists address 0 twice a row of one byte 0
reads back as 1. In a state that meets `Inv` the rows do read back (`readRows_writeRows_of_inv`). -/
theorem not_drawCommands : ¬ Obligations.DrawCommands := by
  unfold Obligations.DrawCommands
  rintro ⟨-, -, hback⟩
  have hzero := hback ⟨true, 0⟩ 1 1 1 [0] listedTwice rfl le_rfl
  rw [listedTwice_reads_one] at hzero
  exact absurd hzero (by decide)

end Sys2Proof.Machine
end

section
/-! PROOFS. The order of ASSAY's entries: the sort, what SORT, MERGE, TOPK and NMS put out, and the keys of FP32. -/

namespace Sys2Proof.Machine

open Sys2Proof

/-! ## The sort (08 R399 to R403) -/

theorem Ranking.before_iff (r : Ranking) (a b : Entry) : r.before a b = true ↔
    r.key a.key < r.key b.key ∨ r.key a.key = r.key b.key ∧ r.tie a ≤ r.tie b := by
  simp [Ranking.before]

theorem Ranking.before_total (r : Ranking) (a b : Entry) : r.before a b = true ∨ r.before b a = true := by
  rw [before_iff, before_iff]
  omega

theorem Ranking.before_trans (r : Ranking) {a b c : Entry} (hab : r.before a b = true) (hbc : r.before b c = true) :
    r.before a c = true := by
  rw [before_iff] at *
  omega

/-- The sort is an insertion sort, so that the library's facts about it hold here. -/
theorem sortEntries_eq_insertionSort (r : Ranking) (l : List Entry) :
    sortEntries r l = l.insertionSort fun a b => r.before a b = true := by
  have insert_eq (e : Entry) (t : List Entry) : insertEntry r e t = t.orderedInsert (fun a b => r.before a b = true) e := by
    induction t with
    | nil => rfl
    | cons x t ih => rw [insertEntry, List.orderedInsert_cons, ih]
  induction l with
  | nil => rfl
  | cons e t ih => rw [sortEntries, List.insertionSort_cons, insert_eq, ih]

theorem sortEntries_perm (r : Ranking) (l : List Entry) : (sortEntries r l).Perm l := by
  rw [sortEntries_eq_insertionSort]
  exact List.perm_insertionSort _ l

theorem sortEntries_pairwise (r : Ranking) (l : List Entry) : (sortEntries r l).Pairwise fun a b => r.before a b = true := by
  have : Std.Total fun a b => r.before a b = true := ⟨r.before_total⟩
  have : IsTrans Entry fun a b => r.before a b = true := ⟨fun _ _ _ => r.before_trans⟩
  rw [sortEntries_eq_insertionSort]
  exact List.pairwise_insertionSort _ l

/-! ## What the operations put out (08 R407 to R411) -/

/-- The input of an operation in the order of its keys. -/
def sortedInput (o : AssayOp) (l : List Entry) : List Entry := sortEntries (rankBy o.dir o.stable o.fmt o.cmd l) l

section Out

variable {o : AssayOp} (l : List Entry) (box : Nat → Box)

theorem runEntries_topk (h : o.cmd = 0x102) : (runEntries o l box).out = (sortedInput o l).take o.k := by
  simp only [runEntries, sortedInput, h]

theorem runEntries_nms (h : o.cmd = 0x103) : runEntries o l box = nmsRun o l box := by
  simp only [runEntries, h]

theorem runEntries_whole (htopk : o.cmd ≠ 0x102) (hnms : o.cmd ≠ 0x103) : (runEntries o l box).out = sortedInput o l := by
  unfold runEntries
  split
  next h => exact absurd h htopk
  next h => exact absurd h hnms
  next => rfl

theorem runEntries_sublist (h : o.cmd ≠ 0x103) : (runEntries o l box).out.Sublist (sortedInput o l) := by
  by_cases htopk : o.cmd = 0x102
  · rw [runEntries_topk l box htopk]
    exact List.take_sublist ..
  · rw [runEntries_whole l box htopk h]

end Out

/-- Keys never go against the order, and in stable mode entries of equal keys follow their input order (08 R401, R402). -/
theorem sortedInput_pairwise (o : AssayOp) (l : List Entry) : (sortedInput o l).Pairwise fun a b =>
    dirOrd o.dir o.fmt a.key ≤ dirOrd o.dir o.fmt b.key ∧
      (o.stable = true → dirOrd o.dir o.fmt a.key = dirOrd o.dir o.fmt b.key → a.idx ≤ b.idx) := by
  refine (sortEntries_pairwise (rankBy o.dir o.stable o.fmt o.cmd l) l).imp fun {a b} h => ?_
  rw [Ranking.before_iff] at h
  simp only [rankBy] at h
  refine ⟨by omega, fun hst heq => ?_⟩
  have htie : tieOf o.stable o.cmd l a ≤ tieOf o.stable o.cmd l b := by omega
  simpa [tieOf, hst] using htie

/-- What is taken of an ordered list stands before whatever is left out. -/
theorem rel_of_mem_take_of_notMem {α : Type} {R : α → α → Prop} {l : List α} (h : l.Pairwise R) {k : Nat} {e f : α}
    (he : e ∈ l.take k) (hf : f ∈ l) (hout : f ∉ l.take k) : R e f := by
  rw [← List.take_append_drop k l] at h hf
  exact (List.pairwise_append.1 h).2.2 e he f ((List.mem_append.1 hf).resolve_left hout)

/-! ## NMS (08 R410, R411) -/

theorem nmsKeep_spec {k : Nat} (iou : Nat) (cross : Bool) (l : List (Entry × Box)) {kept : List (Entry × Box)}
    (hk : kept.length ≤ k) :
    (nmsKeep k iou cross l kept).length ≤ k ∧ ∀ p ∈ nmsKeep k iou cross l kept, p ∈ kept ∨ p ∈ l := by
  induction l generalizing kept with
  | nil => exact ⟨hk, fun p => .inl⟩
  | cons e r ih =>
    rw [nmsKeep]
    split
    next => exact ⟨hk, fun p => .inl⟩
    next hroom =>
      split
      next =>
        obtain ⟨hlen, hmem⟩ := ih hk
        exact ⟨hlen, fun p hp => (hmem p hp).imp_right (List.mem_cons_of_mem e)⟩
      next =>
        obtain ⟨hlen, hmem⟩ := ih (kept := kept ++ [e]) (by rw [List.length_append, List.length_singleton]; omega)
        refine ⟨hlen, fun p hp => ?_⟩
        have hp := hmem p hp
        rw [List.mem_append, List.mem_singleton] at hp
        rw [List.mem_cons]
        tauto

/-- The entries with a good box, in descending order of their keys. -/
def goodBoxes (o : AssayOp) (l : List Entry) (box : Nat → Box) : List (Entry × Box) :=
  ((sortEntries { key := dirOrd true o.fmt, tie := fun e => e.idx } l).map fun e => (e, box e.idx)).filter fun p => !p.2.bad

theorem nmsRun_spec (o : AssayOp) (l : List Entry) (box : Nat → Box) :
    (nmsRun o l box).out.length ≤ o.k ∧ ∀ e ∈ (nmsRun o l box).out, e ∈ l ∧ (box e.idx).bad = false := by
  obtain ⟨hlen, hmem⟩ := nmsKeep_spec o.iou o.cross (goodBoxes o l box) (kept := []) (Nat.zero_le o.k)
  refine ⟨(List.length_map _).trans_le hlen, fun e he => ?_⟩
  obtain ⟨p, hp, rfl⟩ := List.mem_map.1 he
  obtain ⟨hin, hgood⟩ := List.mem_filter.1 ((hmem p hp).resolve_left List.not_mem_nil)
  obtain ⟨e, hsorted, rfl⟩ := List.mem_map.1 hin
  exact ⟨(sortEntries_perm _ l).mem_iff.1 hsorted, by simpa using hgood⟩

/-! ## Keys of FP32 (08 R399) -/

theorem keyOrd_nan {k : Word} (h : f32NaN k = true) : keyOrd 2 k = 2 ^ 32 := if_pos h

theorem keyOrd_lt_nan {k : Word} (h : f32NaN k = false) : keyOrd 2 k < 2 ^ 32 := by
  have hk := k.isLt
  refine (if_neg (by simp [h])).trans_lt ?_
  unfold f32Key
  split <;> omega

/-- Settles O42: the sort is a permutation in order, TOPK takes the first of it, NMS keeps entries of it. -/
theorem sortIsAnOrderedCopy : Obligations.SortIsAnOrderedCopy := by
  unfold Obligations.SortIsAnOrderedCopy
  refine ⟨fun o l box h => ?whole, fun o l box h => ?topk, fun o l box h =>
    (sortedInput_pairwise o l).sublist (runEntries_sublist l box h), fun o l box h => ?nms, fun k j hk => ?nan, by decide⟩
  case whole =>
    rw [runEntries_whole l box (by omega) (by omega)]
    exact sortEntries_perm _ l
  case topk =>
    have hperm : (sortedInput o l).Perm l := sortEntries_perm _ l
    rw [runEntries_topk l box h]
    exact ⟨by rw [List.length_take, hperm.length_eq], fun e he => hperm.mem_iff.1 (List.mem_of_mem_take he),
      fun e he f hf hout => (rel_of_mem_take_of_notMem (sortedInput_pairwise o l) he (hperm.mem_iff.2 hf) hout).1⟩
  case nms =>
    rw [runEntries_nms l box h]
    exact nmsRun_spec o l box
  case nan =>
    rw [keyOrd_nan hk]
    cases hj : f32NaN j with
    | true => simp [keyOrd_nan hj]
    | false =>
      have hlt := keyOrd_lt_nan hj
      exact ⟨hlt.le, iff_of_false hlt.ne Bool.false_ne_true⟩

end Sys2Proof.Machine
end

section
/-! PROOFS. The commands of ASSAY's Q unit: what each meets on its way from its body to its output, and the library store. -/

namespace Sys2Proof.Machine

open Sys2Proof

/-! ## The output of a command (08 R416, R417) -/

section Write

variable {l : CmdList} {c : Cmd} {out : AsyOut} {lost : Option Long} {s : State}

theorem asyWrite_refused {st : Half}
    (hr : resolve s l.tenant (bits c.arg0.toNat 3 2) (fld c.body 8 8) (outBytes out).length true = .inl st) :
    asyWrite l c out lost s = failCmd l st s := by
  unfold asyWrite
  dsimp only
  rw [hr]

variable {d : Place} (hr : resolve s l.tenant (bits c.arg0.toNat 3 2) (fld c.body 8 8) (outBytes out).length true = .inr d)
include hr

theorem asyWrite_lost {g : Nat} (hg : lostAt lost d (outBytes out).length = some g) : asyWrite l c out lost s =
    failList l stINTERNAL (some (BitVec.ofNat 64 g))
      (asyFault false c.cmd none false (writePlaceBut (some g) d (outBytes out) (countOp false out.discarded s))) := by
  unfold asyWrite
  dsimp only
  rw [hr]
  dsimp only
  rw [hg]
  rfl

theorem asyWrite_writes (hg : lostAt lost d (outBytes out).length = none)
    (hh : hostFails s true d (outBytes out).length = false) :
    asyWrite l c out lost s = advance l (writePlace d (outBytes out) (countOp false out.discarded s)) := by
  unfold asyWrite
  dsimp only
  rw [hr]
  dsimp only
  rw [hg, hh]
  rfl

end Write

/-! ## SORT, MERGE, TOPK and NMS (08 R407 to R411) -/

/-- Bytes of the box array, which NMS alone reads. -/
def boxLen (c : Cmd) : Nat := if c.cmd = 0x103 then 16 * (opOf c.cmd c.body).n else 0

/-- Bytes of the input entries. -/
def srcLen (c : Cmd) : Nat := 8 * (opOf c.cmd c.body).n

def srcPlace (s : State) (l : CmdList) (c : Cmd) : Sum Half Place :=
  resolve s l.tenant (bits c.arg0.toNat 1 0) (fld c.body 0 8) (srcLen c) false

def boxPlace (s : State) (l : CmdList) (c : Cmd) : Sum Half Place :=
  resolve s l.tenant (bits c.arg0.toNat 5 4) (fld c.body 0x10 8) (boxLen c) false

/-- A command whose body is good and whose stream is held. -/
def accepted (s : State) (l : CmdList) (c : Cmd) : Bool := bodyOk s l.tenant c && streamHeld s l.tenant (c.arg1.toNat % 2 ^ 32)

def inputFails (s : State) (c : Cmd) (a x : Place) : Bool := hostFails s true a (srcLen c) || hostFails s true x (boxLen c)

def inputPoison (s : State) (c : Cmd) (a x : Place) : Option Nat := (poisonAt s a (srcLen c)).or (poisonAt s x (boxLen c))

/-- The input entries as they are read. -/
def inputEntries (s : State) (c : Cmd) (a : Place) : List Entry := entriesOf (opOf c.cmd c.body).n (readPlace s a (srcLen c))

/-- The operation's output from its inputs as they are read. -/
def sortOut (s : State) (c : Cmd) (a x : Place) : AsyOut :=
  runEntries (opOf c.cmd c.body) (inputEntries s c a) fun i => boxOf ((readPlace s x (boxLen c)).drop (16 * i))

/-- The state in which the inputs have been read. -/
def sortCounted (ecc : AsyEcc) (s : State) (c : Cmd) (a : Place) : State :=
  countEcc ecc (countNans false (nanCount (opOf c.cmd c.body).fmt (inputEntries s c a)) s)

section SortLike

variable {poisonedAt lost : Option Long} {ecc : AsyEcc} {s : State} {l : CmdList} {c : Cmd}

theorem exec_sortLike (hup : enginesUp s = true) (hl : s.fab.lists.find? (fun l => l.engine == 4 && l.running) = some l)
    (hcur : l.cur = some c) {i : AsyErrors → Instr}
    (hi : (i, c.cmd) ∈ [(Instr.sort, (0x100 : Nat)), (.merge, 0x101), (.topk, 0x102), (.nms, 0x103)]) (x : AsyErrors) :
    exec (i x) s = .next (sortLike x.poisonedAt x.lost x.ecc s l c) := by
  simp only [List.mem_cons, List.not_mem_nil, or_false, Prod.mk.injEq] at hi
  rcases hi with ⟨rfl, hk⟩ | ⟨rfl, hk⟩ | ⟨rfl, hk⟩ | ⟨rfl, hk⟩
  all_goals exact congrArg Host.Outcome.next (withCmd_runs hup hl hcur hk _)

theorem accepted_eq_false (h : bodyOk s l.tenant c = false ∨ streamHeld s l.tenant (c.arg1.toNat % 2 ^ 32) = false) :
    accepted s l c = false := Bool.and_eq_false_iff.2 h

theorem sortLike_rejected (h : accepted s l c = false) : sortLike poisonedAt lost ecc s l c = failCmd l stBAD_PARAM s :=
  if_pos (by simpa [accepted, ← Bool.not_and] using h)

variable (hacc : accepted s l c = true)
include hacc

theorem sortLike_accepted : sortLike poisonedAt lost ecc s l c =
    match srcPlace s l c with
    | .inl st => failCmd l st s
    | .inr a => match (if c.cmd = 0x103 then boxPlace s l c else .inr a) with
      | .inl st => failCmd l st s
      | .inr x =>
        if inputFails s c a x then dmaFail l s
        else if poisonedAt.isSome || (inputPoison s c a x).isSome then asyPoisoned l c.cmd poisonedAt (inputPoison s c a x) s
        else if ecc.uncorrectable then asyFail l c.cmd none none false (countEcc ecc s)
        else if !mergeOrdered (opOf c.cmd c.body) (inputEntries s c a) || boxReserved (boxLen c / 16) (readPlace s x (boxLen c))
          then failCmd l stBAD_PARAM (sortCounted ecc s c a)
        else asyWrite l c (sortOut s c a x) lost (sortCounted ecc s c a) :=
  if_neg (by simpa [accepted, ← Bool.not_and] using hacc)

theorem sortLike_noSource {st : Half} (ha : srcPlace s l c = .inl st) : sortLike poisonedAt lost ecc s l c = failCmd l st s := by
  rw [sortLike_accepted hacc, ha]

variable {a : Place} (ha : srcPlace s l c = .inr a)
include ha

theorem sortLike_noBoxes {st : Half} (hk : c.cmd = 0x103) (hx : boxPlace s l c = .inl st) :
    sortLike poisonedAt lost ecc s l c = failCmd l st s := by
  rw [sortLike_accepted hacc, ha]
  dsimp only
  rw [if_pos hk, hx]

variable {x : Place} (hx : c.cmd = 0x103 → boxPlace s l c = .inr x) (hno : c.cmd ≠ 0x103 → x = a)
include hx hno

theorem sortLike_placed : sortLike poisonedAt lost ecc s l c =
    if inputFails s c a x then dmaFail l s
    else if poisonedAt.isSome || (inputPoison s c a x).isSome then asyPoisoned l c.cmd poisonedAt (inputPoison s c a x) s
    else if ecc.uncorrectable then asyFail l c.cmd none none false (countEcc ecc s)
    else if !mergeOrdered (opOf c.cmd c.body) (inputEntries s c a) || boxReserved (boxLen c / 16) (readPlace s x (boxLen c))
      then failCmd l stBAD_PARAM (sortCounted ecc s c a)
    else asyWrite l c (sortOut s c a x) lost (sortCounted ecc s c a) := by
  have hbox : (if c.cmd = 0x103 then boxPlace s l c else .inr a) = .inr x := by
    split
    next hk => exact hx hk
    next hk => rw [hno hk]
  rw [sortLike_accepted hacc, ha]
  dsimp only
  rw [hbox]

theorem sortLike_hostFails (hf : inputFails s c a x = true) :
    sortLike poisonedAt lost ecc s l c = failCmd l stINTERNAL (ringError l.tenant 2 s) := by
  rw [sortLike_placed hacc ha hx hno, if_pos hf]
  rfl

variable (hf : inputFails s c a x = false)
include hf

theorem sortLike_delivered (b : Long) : sortLike (some b) lost ecc s l c =
    failList l stINTERNAL (some b) (asyFault false c.cmd none false s) := by
  rw [sortLike_placed hacc ha hx hno, hf]
  rfl

theorem sortLike_poisoned {b : Nat} (hp : inputPoison s c a x = some b) : sortLike none lost ecc s l c =
    failList l stINTERNAL (some (BitVec.ofNat 64 b)) (asyFault false c.cmd none false (tablePoison 1 (some b) s)) := by
  rw [sortLike_placed hacc ha hx hno, hf, hp]
  rfl

variable (hp : inputPoison s c a x = none)
include hp

theorem sortLike_uncorrectable (he : ecc.uncorrectable = true) : sortLike none lost ecc s l c =
    failCmd l stINTERNAL (asyFault false c.cmd none false (countEcc ecc s)) := by
  rw [sortLike_placed hacc ha hx hno, hf, hp, he]
  rfl

variable (he : ecc.uncorrectable = false)
include he

theorem sortLike_badInput (h : mergeOrdered (opOf c.cmd c.body) (inputEntries s c a) = false ∨
    boxReserved (boxLen c / 16) (readPlace s x (boxLen c)) = true) :
    sortLike none lost ecc s l c = failCmd l stBAD_PARAM (sortCounted ecc s c a) := by
  have hbad : (!mergeOrdered (opOf c.cmd c.body) (inputEntries s c a) ||
      boxReserved (boxLen c / 16) (readPlace s x (boxLen c))) = true := by simpa using h
  rw [sortLike_placed hacc ha hx hno, hf, hp, he, hbad]
  rfl

theorem sortLike_goodInput (hm : mergeOrdered (opOf c.cmd c.body) (inputEntries s c a) = true)
    (hr : boxReserved (boxLen c / 16) (readPlace s x (boxLen c)) = false) :
    sortLike none lost ecc s l c = asyWrite l c (sortOut s c a x) lost (sortCounted ecc s c a) := by
  rw [sortLike_placed hacc ha hx hno, hf, hp, he, hm, hr]
  rfl

end SortLike

/-! ## NN_SEARCH (08 R412, R413, R427) -/

theorem nnOne_length (lib : List LibEntry) (o : AssayOp) (query : Bytes) : (nnOne lib o query).length = min o.k o.libCount := by
  rw [nnOne, List.length_take, (sortEntries_perm _ _).length_eq, List.length_map, List.length_range]

theorem nnRun_length (lib : List LibEntry) (o : AssayOp) (queries : List Bytes) :
    (nnRun lib o queries).out.length = queries.length * min o.k o.libCount := by
  simp [nnRun, List.length_flatMap, nnOne_length]

/-- Bytes of the queries. -/
def queryLen (c : Cmd) : Nat := 128 * (opOf c.cmd c.body).q

def queryPlace (s : State) (l : CmdList) (c : Cmd) : Sum Half Place :=
  resolve s l.tenant (bits c.arg0.toNat 5 4) (fld c.body 0x10 8) (queryLen c) false

/-- The nearest entries for the queries as they are read. -/
def searchOut (s : State) (c : Cmd) (x : Place) : AsyOut :=
  nnRun s.asy.lib (opOf c.cmd c.body)
    ((List.range (opOf c.cmd c.body).q).map fun i => ((readPlace s x (queryLen c)).drop (128 * i)).take 128)

theorem searchOut_length (s : State) (c : Cmd) (x : Place) :
    (searchOut s c x).out.length = (opOf c.cmd c.body).q * min (opOf c.cmd c.body).k (opOf c.cmd c.body).libCount := by
  rw [searchOut, nnRun_length, List.length_map, List.length_range]

section Search

variable {poisonedAt lost : Option Long} {ecc : AsyEcc} {libError : Option Nat} {s : State} {l : CmdList} {c : Cmd}

theorem exec_nnSearch (hup : enginesUp s = true) (hl : s.fab.lists.find? (fun l => l.engine == 4 && l.running) = some l)
    (hcur : l.cur = some c) (hk : c.cmd = 0x104) (x : AsyErrors) (libError : Option Nat) :
    exec (.nnSearch x libError) s = .next (nnSearch x.poisonedAt x.lost x.ecc libError s l c) :=
  congrArg Host.Outcome.next (withCmd_runs hup hl hcur hk _)

theorem nnSearch_rejected (h : accepted s l c = false) :
    nnSearch poisonedAt lost ecc libError s l c = failCmd l stBAD_PARAM s :=
  if_pos (by simpa [accepted, ← Bool.not_and] using h)

variable (hacc : accepted s l c = true)
include hacc

theorem nnSearch_accepted : nnSearch poisonedAt lost ecc libError s l c =
    match queryPlace s l c with
    | .inl st => failCmd l st s
    | .inr x =>
      if hostFails s true x (queryLen c) then dmaFail l s
      else if damagedIn s (opOf c.cmd c.body) then asyFail l c.cmd none none false s
      else if poisonedAt.isSome || (poisonAt s x (queryLen c)).isSome
        then asyPoisoned l c.cmd poisonedAt (poisonAt s x (queryLen c)) s
      else if libError.isSome || ecc.uncorrectable then asyFail l c.cmd libError none false (countEcc ecc s)
      else asyWrite l c (searchOut s c x) lost (countEcc ecc s) :=
  if_neg (by simpa [accepted, ← Bool.not_and] using hacc)

theorem nnSearch_noQueries {st : Half} (hx : queryPlace s l c = .inl st) :
    nnSearch poisonedAt lost ecc libError s l c = failCmd l st s := by
  rw [nnSearch_accepted hacc, hx]

variable {x : Place} (hx : queryPlace s l c = .inr x) (hh : hostFails s true x (queryLen c) = false)
include hx hh

theorem nnSearch_damaged (hd : damagedIn s (opOf c.cmd c.body) = true) : nnSearch poisonedAt lost ecc libError s l c =
    failCmd l stINTERNAL (asyFault false c.cmd none false s) := by
  rw [nnSearch_accepted hacc, hx]
  dsimp only
  rw [hh, hd]
  rfl

variable (hd : damagedIn s (opOf c.cmd c.body) = false)
include hd

theorem nnSearch_delivered (b : Long) : nnSearch (some b) lost ecc libError s l c =
    failList l stINTERNAL (some b) (asyFault false c.cmd none false s) := by
  rw [nnSearch_accepted hacc, hx]
  dsimp only
  rw [hh, hd]
  rfl

variable (hp : poisonAt s x (queryLen c) = none)
include hp

theorem nnSearch_read : nnSearch none lost ecc libError s l c =
    if libError.isSome || ecc.uncorrectable then asyFail l c.cmd libError none false (countEcc ecc s)
    else asyWrite l c (searchOut s c x) lost (countEcc ecc s) := by
  rw [nnSearch_accepted hacc, hx]
  dsimp only
  rw [hh, hd, hp]
  rfl

theorem nnSearch_lost (h : (libError.isSome || ecc.uncorrectable) = true) : nnSearch none lost ecc libError s l c =
    failCmd l stINTERNAL (asyFault false c.cmd libError false (countEcc ecc s)) := by
  rw [nnSearch_read hacc hx hh hd hp, if_pos h]
  rfl

theorem nnSearch_searches (he : ecc.uncorrectable = false) : nnSearch none lost ecc none s l c =
    asyWrite l c (searchOut s c x) lost (countEcc ecc s) := by
  rw [nnSearch_read hacc hx hh hd hp, he]
  rfl

end Search

/-! ## LIB_LOAD (08 R419 to R421) -/

/-- The library in which a load has replaced the entries that it names. -/
def loadedLib (first count : Nat) (b : Bytes) (lib : List LibEntry) : List LibEntry :=
  (lib.filter fun e => !(decide (first ≤ e.index) && decide (e.index < first + count))) ++ loadedEntries first count b

/-- Entry `k` of a load. -/
def loadedEntry (first count k : Nat) (b : Bytes) : LibEntry :=
  { index := first + k, vec := (b.drop (128 * k)).take 128, label := fld b (128 * count + 2 * k) 2 }

theorem loadedEntries_eq (first count : Nat) (b : Bytes) :
    loadedEntries first count b = (List.range count).map fun k => loadedEntry first count k b := rfl

theorem find?_loadedEntries {first count k : Nat} (hk : k < count) (b : Bytes) :
    (loadedEntries first count b).find? (fun e => e.index == first + k) = some (loadedEntry first count k b) := by
  have hrange : (List.range count).find? (fun i => first + i == first + k) = some k := by
    rw [List.find?_range_eq_some]
    exact ⟨beq_self_eq_true _, List.mem_range.2 hk, fun j hj => by simp [hj.ne]⟩
  rw [loadedEntries_eq, List.find?_map]
  exact congrArg (Option.map _) hrange

theorem libEntry_loadedLib {first count k : Nat} (hk : k < count) (b : Bytes) (lib : List LibEntry) :
    libEntry (loadedLib first count b lib) (first + k) = loadedEntry first count k b := by
  have hold : (lib.filter fun e => !(decide (first ≤ e.index) && decide (e.index < first + count))).find?
      (fun e => e.index == first + k) = none := by
    refine List.find?_eq_none.2 fun e he heq => ?_
    have hout := (List.mem_filter.1 he).2
    have heq := beq_iff_eq.1 heq
    simp at hout
    omega
  rw [libEntry, loadedLib, List.find?_append, hold, find?_loadedEntries hk]
  rfl

theorem libEntry_loadedLib_outside {first count k : Nat} (hk : k < first ∨ first + count ≤ k) (b : Bytes) (lib : List LibEntry) :
    libEntry (loadedLib first count b lib) k = libEntry lib k := by
  have hnew : (loadedEntries first count b).find? (fun e => e.index == k) = none := by
    refine List.find?_eq_none.2 fun e he heq => ?_
    obtain ⟨i, hi, rfl⟩ := List.mem_map.1 he
    have hi := List.mem_range.1 hi
    have heq := beq_iff_eq.1 heq
    dsimp only at heq
    omega
  have hold : (lib.filter fun e => !(decide (first ≤ e.index) && decide (e.index < first + count))).find?
      (fun e => e.index == k) = lib.find? fun e => e.index == k := by
    rw [List.find?_filter]
    refine congrArg (List.find? · lib) (funext fun e => Bool.eq_iff_iff.2 ?_)
    simp
    omega
  rw [libEntry, loadedLib, List.find?_append, hold, hnew, Option.or_none]
  rfl

/-- Bytes of a load's source. -/
def loadLen (c : Cmd) : Nat := 130 * fld c.body 12 4

def loadPlace (s : State) (l : CmdList) (c : Cmd) : Sum Half Place :=
  resolve s l.tenant (bits c.arg0.toNat 1 0) (fld c.body 0 8) (loadLen c) false

/-- The state in which the load has ended. -/
def libLoaded (ecc : AsyEcc) (s : State) (c : Cmd) (a : Place) : State :=
  (countEcc ecc s).setAsy { (countEcc ecc s).asy with
    lib := loadedLib (fld c.body 8 4) (fld c.body 12 4) (readPlace s a (loadLen c)) s.asy.lib
    ranges := s.asy.ranges.map (mendRange (fld c.body 8 4) (fld c.body 12 4)) }

theorem libLoaded_frame (ecc : AsyEcc) (s : State) (c : Cmd) (a : Place) : Frame [.asy] s (libLoaded ecc s c a) :=
  State.setAsy_frame _ _ (List.Subset.refl _) (countEcc_frame ecc s (List.Subset.refl _) (Frame.refl _ s))

section Load

variable {poisonedAt : Option Long} {ecc : AsyEcc} {s : State} {l : CmdList} {c : Cmd}

theorem exec_libLoad (hup : enginesUp s = true) (hl : s.fab.lists.find? (fun l => l.engine == 4 && l.running) = some l)
    (hcur : l.cur = some c) (hk : c.cmd = 0x110) (x : LoadErrors) :
    exec (.libLoad x) s = .next (libLoad x.poisonedAt x.ecc s l c) :=
  congrArg Host.Outcome.next (withCmd_runs hup hl hcur hk _)

theorem libLoad_rejected
    (h : 4 ≤ c.arg0.toNat ∨ fld c.body 12 4 = 0 ∨ streamHeld s l.tenant (c.arg1.toNat % 2 ^ 32) = false) :
    libLoad poisonedAt ecc s l c = failCmd l stBAD_PARAM s :=
  if_pos (by simpa using h)

variable (harg : c.arg0.toNat < 4) (hcount : 1 ≤ fld c.body 12 4)
  (hheld : streamHeld s l.tenant (c.arg1.toNat % 2 ^ 32) = true)
include harg hcount hheld

theorem libLoad_accepted : libLoad poisonedAt ecc s l c =
    if !inRanges s l.tenant (fld c.body 8 4) (fld c.body 12 4) || rangePinned s (fld c.body 8 4) (fld c.body 12 4)
    then failCmd l stDENIED s
    else match loadPlace s l c with
    | .inl st => failCmd l st s
    | .inr a =>
      if hostFails s true a (loadLen c) then dmaFail l s
      else if poisonedAt.isSome || (poisonAt s a (loadLen c)).isSome
        then asyPoisoned l c.cmd poisonedAt (poisonAt s a (loadLen c)) s
      else if ecc.uncorrectable then asyFail l c.cmd none none false (countEcc ecc s)
      else advance l (libLoaded ecc s c a) :=
  if_neg <| by
    rintro (hbig | hnone | hno)
    · omega
    · omega
    · rw [hheld] at hno
      cases hno

theorem libLoad_denied (h : inRanges s l.tenant (fld c.body 8 4) (fld c.body 12 4) = false ∨
    rangePinned s (fld c.body 8 4) (fld c.body 12 4) = true) : libLoad poisonedAt ecc s l c = failCmd l stDENIED s :=
  (libLoad_accepted harg hcount hheld).trans (if_pos (by simpa using h))

variable (hin : inRanges s l.tenant (fld c.body 8 4) (fld c.body 12 4) = true)
  (hpin : rangePinned s (fld c.body 8 4) (fld c.body 12 4) = false)
include hin hpin

theorem libLoad_noSource {st : Half} (ha : loadPlace s l c = .inl st) : libLoad poisonedAt ecc s l c = failCmd l st s := by
  rw [libLoad_accepted harg hcount hheld, hin, hpin, ha]
  rfl

variable {a : Place} (ha : loadPlace s l c = .inr a) (hh : hostFails s true a (loadLen c) = false)
include ha hh

theorem libLoad_delivered (b : Long) : libLoad (some b) ecc s l c =
    failList l stINTERNAL (some b) (asyFault false c.cmd none false s) := by
  rw [libLoad_accepted harg hcount hheld, hin, hpin, ha]
  dsimp only
  rw [hh]
  rfl

theorem libLoad_loads (hp : poisonAt s a (loadLen c) = none) (he : ecc.uncorrectable = false) :
    libLoad none ecc s l c = advance l (libLoaded ecc s c a) := by
  rw [libLoad_accepted harg hcount hheld, hin, hpin, ha]
  dsimp only
  rw [hh, hp, he]
  rfl

end Load

end Sys2Proof.Machine
end

section
/-! PROOFS. ASSAY's opcodes and its RT unit, and the statement of all of ASSAY's commands. -/

namespace Sys2Proof.Machine

open Sys2Proof

/-! ## ASY_LIB_DEFINE (08 R419) -/

section Define

variable {r : Ref} {p : Packet} {s : State} (h : opStarts 0x0802 r p s = true)
include h

theorem exec_asyLibDefine : exec (.asyLibDefine r) s = .next (
    if 65535 < fld p.params 0 4 then refuse p stBAD_PARAM 0x20 s
    else if fld p.params 4 4 < 1 ∨ 65536 < fld p.params 0 4 + fld p.params 4 4 then refuse p stBAD_PARAM 0x24 s
    else if s.kw.numVfs < fld p.params 8 1 then refuse p stBAD_PARAM 0x28 s
    else if 1 < fld p.params 9 1 then refuse p stBAD_PARAM 0x29 s
    else if fld p.params 9 1 = 1 then
      if s.asy.ranges.any fun x => decide (x.first < fld p.params 0 4 + fld p.params 4 4) &&
          decide (fld p.params 0 4 < x.first + x.count) then refuse p stDENIED noField s
      else if 32 ≤ s.asy.ranges.length then refuse p stBAD_PARAM noField s
      else ok p [] (s.setAsy { s.asy with ranges := s.asy.ranges ++
        [{ first := fld p.params 0 4, count := fld p.params 4 4, tenant := fld p.params 8 1, damaged := false }] })
    else match s.asy.ranges.find? fun x =>
        x.first == fld p.params 0 4 && x.count == fld p.params 4 4 && x.tenant == fld p.params 8 1 with
      | none => refuse p stBAD_PARAM 0x20 s
      | some x =>
        if rangePinned s (fld p.params 0 4) (fld p.params 4 4) then refuse p stDENIED noField s
        else ok p [] (s.setAsy { s.asy with ranges := s.asy.ranges.filter (· != x) })) :=
  congrArg Host.Outcome.next ((runOp_starts h _).trans rfl)

theorem exec_asyLibDefine_first (hbig : 65535 < fld p.params 0 4) :
    exec (.asyLibDefine r) s = .next (refuse p stBAD_PARAM 0x20 s) := by
  rw [exec_asyLibDefine h, if_pos hbig]

variable (hfirst : fld p.params 0 4 ≤ 65535)
include hfirst

theorem exec_asyLibDefine_count (hbad : fld p.params 4 4 < 1 ∨ 65536 < fld p.params 0 4 + fld p.params 4 4) :
    exec (.asyLibDefine r) s = .next (refuse p stBAD_PARAM 0x24 s) := by
  rw [exec_asyLibDefine h, if_neg hfirst.not_gt, if_pos hbad]

variable (hcount : 1 ≤ fld p.params 4 4) (hend : fld p.params 0 4 + fld p.params 4 4 ≤ 65536)
include hcount hend

theorem exec_asyLibDefine_owner (hbig : s.kw.numVfs < fld p.params 8 1) :
    exec (.asyLibDefine r) s = .next (refuse p stBAD_PARAM 0x28 s) := by
  rw [exec_asyLibDefine h, if_neg hfirst.not_gt, if_neg (by omega), if_pos hbig]

variable (howner : fld p.params 8 1 ≤ s.kw.numVfs)
include howner

theorem exec_asyLibDefine_action (hbig : 1 < fld p.params 9 1) :
    exec (.asyLibDefine r) s = .next (refuse p stBAD_PARAM 0x29 s) := by
  rw [exec_asyLibDefine h, if_neg hfirst.not_gt, if_neg (by omega), if_neg howner.not_gt, if_pos hbig]

section Assign

variable (hact : fld p.params 9 1 = 1)
include hact

theorem exec_asyLibDefine_clash
    (hx : ∃ x ∈ s.asy.ranges, x.first < fld p.params 0 4 + fld p.params 4 4 ∧ fld p.params 0 4 < x.first + x.count) :
    exec (.asyLibDefine r) s = .next (refuse p stDENIED noField s) := by
  rw [exec_asyLibDefine h, if_neg hfirst.not_gt, if_neg (by omega), if_neg howner.not_gt, if_neg (by omega), if_pos hact,
    if_pos (by simpa using hx)]

theorem exec_asyLibDefine_assigns
    (hx : ∀ x ∈ s.asy.ranges, fld p.params 0 4 + fld p.params 4 4 ≤ x.first ∨ x.first + x.count ≤ fld p.params 0 4) :
    exec (.asyLibDefine r) s = .next (
      if 32 ≤ s.asy.ranges.length then refuse p stBAD_PARAM noField s
      else ok p [] (s.setAsy { s.asy with ranges := s.asy.ranges ++
        [{ first := fld p.params 0 4, count := fld p.params 4 4, tenant := fld p.params 8 1, damaged := false }] })) := by
  rw [exec_asyLibDefine h, if_neg hfirst.not_gt, if_neg (by omega), if_neg howner.not_gt, if_neg (by omega), if_pos hact, if_neg]
  simp only [List.any_eq_true, Bool.and_eq_true, decide_eq_true_eq]
  rintro ⟨x, hmem, hlo, hhi⟩
  have hx := hx x hmem
  omega

end Assign

theorem exec_asyLibDefine_frees (hact : fld p.params 9 1 = 0) : exec (.asyLibDefine r) s = .next (
    match s.asy.ranges.find? fun x =>
        x.first == fld p.params 0 4 && x.count == fld p.params 4 4 && x.tenant == fld p.params 8 1 with
      | none => refuse p stBAD_PARAM 0x20 s
      | some x =>
        if rangePinned s (fld p.params 0 4) (fld p.params 4 4) then refuse p stDENIED noField s
        else ok p [] (s.setAsy { s.asy with ranges := s.asy.ranges.filter (· != x) })) := by
  rw [exec_asyLibDefine h, if_neg hfirst.not_gt, if_neg (by omega), if_neg howner.not_gt, if_neg (by omega), if_neg (by omega)]

end Define

/-! ## What the RT unit's operations make of ASSAY (08 R424 to R426) -/

theorem Frame.asy_eq {l : List Chapter} {s t : State} (h : Frame l s t) (hp : Chapter.asy ∉ l) : t.asy = s.asy := h .asy hp

@[simp] theorem noticeUnit_asy (code : Half) (data : Bytes) (s : State) : (noticeUnit code data s).asy = s.asy :=
  (noticeUnit_frame code data s (List.Subset.refl _) (Frame.refl _ s)).asy_eq (by decide)

@[simp] theorem upset_asy (cls inst how retries affected : Nat) (counts injected : Bool) (s : State) :
    (upset cls inst how counts injected retries affected s).asy = s.asy :=
  (upset_frame cls inst how counts injected retries affected s (List.Subset.refl _) (Frame.refl _ s)).asy_eq (by decide)

/-- A fault counts one upset in its unit, and of the rest of ASSAY it reaches the ranges alone. -/
theorem asyFault_asy (rt : Bool) (op : Nat) (entry : Option Nat) (injected : Bool) (s : State) : ∃ ranges,
    (asyFault rt op entry injected s).asy =
      { (modAsyUnit rt (fun u => { u with faults := satInc u.faults }) s).asy with ranges := ranges } := by
  unfold asyFault
  dsimp only
  rw [noticeUnit_asy, upset_asy]
  cases entry with
  | none => exact ⟨_, rfl⟩
  | some i => exact ⟨_, rfl⟩

theorem rtLost_asy (x : RtOp) (s : State) : (rtLost x s).asy = s.asy :=
  (rtLost_frame x s (List.Subset.refl _) (Frame.refl _ s)).asy_eq (by decide)

theorem foldTile_asy (recipe : Nat) (f : Fold) (s : State) : (foldTile recipe f s).asy = s.asy :=
  (foldTile_frame recipe f s (List.Subset.refl _) (Frame.refl _ s)).asy_eq (by decide)

/-- An operation that completed has changed the counters of its own unit alone. -/
theorem rtDone_asy (r : Recipe) (x : RtOp) (s : State) : ∃ unit, (rtDone r x s).asy = { s.asy with rtUnit := unit } := by
  unfold rtDone
  split
  · split
    · exact ⟨_, rfl⟩
    · exact ⟨_, rfl⟩
  · split
    · exact ⟨_, foldTile_asy _ _ _⟩
    · exact ⟨_, rfl⟩
  · exact ⟨_, rfl⟩

theorem findPart_modPart {s : State} {recipe : Nat} {id : Int} {f : Part → Part} {p : Part} (h : findPart s recipe id = some p)
    (hf : ∀ q, (f q).recipe = q.recipe ∧ (f q).id = q.id) : findPart (modPart recipe id f s) recipe id = some (f p) := by
  have hsame (q : Part) : ((if q.recipe = recipe ∧ q.id = id then f q else q).recipe == recipe &&
      (if q.recipe = recipe ∧ q.id = id then f q else q).id == id) = (q.recipe == recipe && q.id == id) := by
    split
    · rw [(hf q).1, (hf q).2]
    · rfl
  have hp : p.recipe = recipe ∧ p.id = id := by simpa using List.find?_some h
  rw [findPart, modPart, State.setHm_hm, List.find?_map]
  refine (congrArg (Option.map _) ((congrArg (List.find? · s.hm.parts) (funext hsame)).trans h)).trans ?_
  rw [Option.map_some, if_pos hp]

/-! ## ASSAY_RT_COMPLETE -/

/-- The oldest operation is taken, and the single-bit errors that it met are counted. -/
def rtTaken (ecc : AsyEcc) (rest : List RtOp) (s : State) : State := countEcc ecc (s.setAsy { s.asy with rt := rest })

/-- What loses an operation: an uncorrectable error, or for a search a library word that fails or a damaged range. -/
def rtLoses (ecc : AsyEcc) (lib : Option Nat) (r : Recipe) (x : RtOp) (s : State) : Bool :=
  ecc.uncorrectable || (x.part.isSome && (lib.isSome || damagedIn s r.image.partOp))

/-- The state in which an operation of the recipe is lost. -/
def rtFailed (ecc : AsyEcc) (lib : Option Nat) (r : Recipe) (x : RtOp) (rest : List RtOp) (s : State) : State :=
  rtLost x (asyFault true (rtCmd r.image x) (if x.part.isSome then lib else none) false (rtTaken ecc rest s))

/-- The state in which an operation of the recipe has completed. -/
def rtCompleted (ecc : AsyEcc) (r : Recipe) (x : RtOp) (rest : List RtOp) (s : State) : State :=
  keepRt x (rtTaken ecc rest s) (rtDone r x (rtTaken ecc rest s))

theorem exec_assayRtComplete_idle {s : State} (h : domOn s 2 = false ∨ s.asy.rt = []) (ecc : AsyEcc) (lib : Option Nat) :
    exec (.assayRtComplete ecc lib) s = .next s := by
  refine congrArg Host.Outcome.next ?_
  rcases h with h | h
  · rw [h]
    rfl
  · rw [h]
    exact ite_self s

section Complete

variable (ecc : AsyEcc) (lib : Option Nat) {s : State} {x : RtOp} {rest : List RtOp} (hdom : domOn s 2 = true)
  (hrt : s.asy.rt = x :: rest)
include hdom hrt

theorem exec_assayRtComplete : exec (.assayRtComplete ecc lib) s = .next (
    match findRecipe s x.recipe with
    | none => countEcc ecc (s.setAsy { s.asy with rt := rest, fenced := satInc s.asy.fenced })
    | some r =>
      if recipeFence s x.recipe ≠ x.fence then countEcc ecc (s.setAsy { s.asy with rt := rest, fenced := satInc s.asy.fenced })
      else if rtLoses ecc lib r x s then rtFailed ecc lib r x rest s
      else rtCompleted ecc r x rest s) := by
  refine congrArg Host.Outcome.next ?_
  rw [hdom, hrt]
  rfl

theorem exec_assayRtComplete_fenced (h : ∀ r, findRecipe s x.recipe = some r → recipeFence s x.recipe ≠ x.fence) :
    exec (.assayRtComplete ecc lib) s =
      .next (countEcc ecc (s.setAsy { s.asy with rt := rest, fenced := satInc s.asy.fenced })) := by
  rw [exec_assayRtComplete ecc lib hdom hrt]
  cases hr : findRecipe s x.recipe with
  | none => rfl
  | some r => exact congrArg Host.Outcome.next (if_pos (h r hr))

variable {r : Recipe} (hr : findRecipe s x.recipe = some r) (hf : recipeFence s x.recipe = x.fence)
include hr hf

theorem exec_assayRtComplete_current : exec (.assayRtComplete ecc lib) s = .next (
    if rtLoses ecc lib r x s then rtFailed ecc lib r x rest s else rtCompleted ecc r x rest s) := by
  rw [exec_assayRtComplete ecc lib hdom hrt, hr]
  exact congrArg Host.Outcome.next (if_neg (not_not.2 hf))

end Complete

theorem rtFailed_asy (ecc : AsyEcc) (lib : Option Nat) (r : Recipe) (x : RtOp) (rest : List RtOp) (s : State) : ∃ ranges,
    (rtFailed ecc lib r x rest s).asy = { (rtTaken ecc rest s).asy with
      rtUnit := { s.asy.rtUnit with faults := satInc s.asy.rtUnit.faults }, ranges := ranges } := by
  rw [rtFailed, rtLost_asy]
  exact asyFault_asy true _ _ false (rtTaken ecc rest s)

theorem rtCompleted_asy (ecc : AsyEcc) (r : Recipe) (x : RtOp) (rest : List RtOp) (s : State) : ∃ unit last,
    (rtCompleted ecc r x rest s).asy = { (rtTaken ecc rest s).asy with rtUnit := unit, rtLast := last } := by
  obtain ⟨unit, hunit⟩ := rtDone_asy r x (rtTaken ecc rest s)
  refine ⟨unit, (rtCompleted ecc r x rest s).asy.rtLast, ?_⟩
  rw [rtCompleted, keepRt, State.setAsy_asy, hunit]

/-- A per-part search that completes counts one operation. -/
theorem rtCompleted_part {ecc : AsyEcc} {r : Recipe} {x : RtOp} {rest : List RtOp} {s : State} {id : Int} {p : Part}
    (hx : x.part = some id) (hp : findPart s x.recipe id = some p) :
    findPart (rtCompleted ecc r x rest s) x.recipe id = some (judgePart s r.image p) ∧
      (rtCompleted ecc r x rest s).asy.rtUnit.ops = s.asy.rtUnit.ops + 1 := by
  have hdone : rtDone r x (rtTaken ecc rest s) =
      countOp true 0 (modPart x.recipe id (judgePart s r.image) (rtTaken ecc rest s)) := by
    have hkept : findPart (rtTaken ecc rest s) x.recipe id = some p := hp
    unfold rtDone
    rw [hx]
    dsimp only
    rw [hkept]
    rfl
  rw [rtCompleted, hdone]
  exact ⟨findPart_modPart hp fun _ => ⟨rfl, rfl⟩, rfl⟩

/-! ## All of ASSAY's commands -/

/-- Settles O43: each command by its own equations above; the output of a command is that of `asyWrite`. -/
theorem assayCommands : Obligations.AssayCommands := by
  unfold Obligations.AssayCommands
  refine ⟨fun s l c i hup hl hcur hi => ?sorts, fun s l c hup hl hcur hk => ?searches, fun s l c hup hl hcur hk => ?loads,
    fun r p s h => congrArg Host.Outcome.next ((runOp_starts h _).trans rfl), fun r p s h => ?defines,
    fun ecc lib s h => exec_assayRtComplete_idle h ecc lib, fun ecc lib s x rest hdom hrt => ?completes⟩
  case sorts =>
    have hexec (q lost ecc) : exec (i ⟨q, lost, ecc⟩) s = .next (sortLike q lost ecc s l c) := exec_sortLike hup hl hcur hi _
    simp only [hexec, Host.Outcome.next.injEq]
    refine ⟨fun q lost ecc h => sortLike_rejected (accepted_eq_false h), fun hbody hheld => ?_⟩
    have hacc : accepted s l c = true := Bool.and_eq_true_iff.2 ⟨hbody, hheld⟩
    refine ⟨fun q lost ecc st => sortLike_noSource hacc, fun q lost ecc a st ha hk => sortLike_noBoxes hacc ha hk,
      fun q lost ecc a x ha hx hno => ⟨sortLike_hostFails hacc ha hx hno, fun hf => ⟨?_, ?_, ?_, ?_⟩⟩⟩
    · rintro b rfl
      exact sortLike_delivered hacc ha hx hno hf b
    · rintro b rfl hp
      exact ⟨_, sortLike_poisoned hacc ha hx hno hf hp⟩
    · rintro rfl
      exact sortLike_uncorrectable hacc ha hx hno hf
    · rintro rfl hp he
      refine ⟨sortLike_badInput hacc ha hx hno hf hp he, fun hm hres => ?_⟩
      have hgood := sortLike_goodInput (lost := lost) hacc ha hx hno hf hp he hm hres
      exact ⟨fun st hr => hgood.trans (asyWrite_refused hr), fun d hr =>
        ⟨fun hg hh => hgood.trans (asyWrite_writes hr hg hh), fun g hg => ⟨_, hgood.trans (asyWrite_lost hr hg)⟩⟩⟩
  case searches =>
    have hexec := exec_nnSearch hup hl hcur hk
    simp only [hexec, Host.Outcome.next.injEq]
    refine ⟨fun q lost ecc lib h => nnSearch_rejected (accepted_eq_false h), fun hbody hheld => ?_⟩
    have hacc : accepted s l c = true := Bool.and_eq_true_iff.2 ⟨hbody, hheld⟩
    rw [← hk]
    refine ⟨fun q lost ecc lib st => nnSearch_noQueries hacc, fun x hx hh =>
      ⟨fun q lost ecc lib => nnSearch_damaged hacc hx hh, fun hd =>
        ⟨fun b lost ecc lib => nnSearch_delivered hacc hx hh hd b, fun hp => ⟨fun lost ecc k => ?_, fun lost ecc he => ?_,
          fun lost ecc d he => ⟨searchOut_length s c x, fun hr hg hout => ?_⟩⟩⟩⟩⟩
    · exact nnSearch_lost hacc hx hh hd hp rfl
    · exact nnSearch_lost hacc hx hh hd hp he
    · exact (nnSearch_searches hacc hx hh hd hp he).trans (asyWrite_writes hr hg hout)
  case loads =>
    have hexec := exec_libLoad hup hl hcur hk
    simp only [hexec, Host.Outcome.next.injEq]
    rw [← hk]
    refine ⟨fun q ecc => libLoad_rejected, fun harg hcount hheld => ⟨fun q ecc => libLoad_denied harg hcount hheld,
      fun hin hpin => ⟨fun q ecc st => libLoad_noSource harg hcount hheld hin hpin, fun a ha hh =>
        ⟨fun b ecc => libLoad_delivered harg hcount hheld hin hpin ha hh b, fun ecc hp he => ?_⟩⟩⟩⟩
    exact ⟨libLoaded ecc s c a, libLoad_loads harg hcount hheld hin hpin ha hh hp he, libLoaded_frame ecc s c a, rfl,
      fun k hlt => libEntry_loadedLib hlt _ _, fun k hout => libEntry_loadedLib_outside hout _ _⟩
  case defines =>
    refine ⟨exec_asyLibDefine_first h, exec_asyLibDefine_count h, exec_asyLibDefine_owner h, fun hfirst hcount hend howner =>
      ⟨exec_asyLibDefine_action h hfirst hcount hend howner, fun hact =>
        ⟨exec_asyLibDefine_clash h hfirst hcount hend howner hact, fun hx => ?assigns⟩, fun hact => ?frees⟩⟩
    case assigns =>
      rw [exec_asyLibDefine_assigns h hfirst hcount hend howner hact hx]
      exact ⟨fun hfull => by rw [if_pos hfull], fun hroom => by rw [if_neg hroom.not_ge]⟩
    case frees =>
      rw [exec_asyLibDefine_frees h hfirst hcount hend howner hact]
      refine ⟨fun hnone => by rw [hnone], fun x hx => ?_⟩
      rw [hx]
      exact ⟨fun hpin => by rw [hpin]; rfl, fun hpin => by rw [hpin]; rfl⟩
  case completes =>
    by_cases hcur : ∃ r, findRecipe s x.recipe = some r ∧ recipeFence s x.recipe = x.fence
    · obtain ⟨r, hr, hf⟩ := hcur
      have hexec := exec_assayRtComplete_current ecc lib hdom hrt hr hf
      cases hloses : rtLoses ecc lib r x s with
      | true =>
        obtain ⟨ranges, hasy⟩ := rtFailed_asy ecc lib r x rest s
        rw [hloses, if_pos rfl] at hexec
        refine ⟨_, hexec, by rw [hasy]; rfl, by rw [hasy]; rfl, by rw [hasy]; rfl, fun hold => absurd hf (hold r hr),
          fun r' hr' _ => ⟨fun _ => by rw [hasy]; exact ⟨rfl, rfl⟩, fun id p he hlib hd hx hp => ?_⟩⟩
        cases hr.symm.trans hr'
        simp [rtLoses, he, hlib, hd] at hloses
      | false =>
        obtain ⟨unit, last, hasy⟩ := rtCompleted_asy ecc r x rest s
        rw [hloses, if_neg Bool.false_ne_true] at hexec
        refine ⟨_, hexec, by rw [hasy]; rfl, by rw [hasy]; rfl, by rw [hasy]; rfl, fun hold => absurd hf (hold r hr),
          fun r' hr' _ => ⟨fun he => ?_, fun id p _ _ _ hx hp => ?_⟩⟩
        · simp [rtLoses, he] at hloses
        · cases hr.symm.trans hr'
          exact rtCompleted_part hx hp
    · have hold : ∀ r, findRecipe s x.recipe = some r → recipeFence s x.recipe ≠ x.fence := fun r hr hf => hcur ⟨r, hr, hf⟩
      exact ⟨_, exec_assayRtComplete_fenced ecc lib hdom hrt hold, rfl, rfl, rfl, fun _ => rfl,
        fun r hr hf => absurd hf (hold r hr)⟩

end Sys2Proof.Machine
end

section
/-! PROOFS. HALLMARK's shared operations: what each of them leaves of the parts, the entries and the counters, so that no later
proof unfolds a log write or a notice. -/

namespace Sys2Proof.Machine

open Sys2Proof

theorem Frame.hm_eq {l : List Chapter} {s t : State} (h : Frame l s t) (hp : Chapter.hm ∉ l) : t.hm = s.hm := h .hm hp
theorem Frame.dio_eq {l : List Chapter} {s t : State} (h : Frame l s t) (hp : Chapter.dio ∉ l) : t.dio = s.dio := h .dio hp

/-! ## What a record in a HALLMARK ring leaves (09 R459, R474, R475) -/

/-- HALLMARK but for its rings: their write indices, their losses and the numbers of their records. -/
def Hallmark.offRing (h : Hallmark) : Hallmark := { h with lost := [], ringIdx := [], actSeq := [] }

@[simp] theorem hmRing_offRing (ring : Nat) (b : Bytes) (s : State) : (hmRing ring b s).hm.offRing = s.hm.offRing := by
  unfold hmRing
  dsimp only
  split
  · rfl
  · split
    · rfl
    · split <;> rfl

@[simp] theorem logAct_offRing (e : ActEntry) (recipe : Option Nat) (tenant outcome : Nat) (target : Long) (shift : Nat) (on off : Word)
    (s : State) : (logAct e recipe tenant outcome target shift on off s).hm.offRing = s.hm.offRing := hmRing_offRing ..

theorem acts_of_offRing {s t : State} (h : t.hm.offRing = s.hm.offRing) : t.hm.acts = s.hm.acts := (congrArg Hallmark.acts h :)
theorem actCtr_of_offRing {s t : State} (h : t.hm.offRing = s.hm.offRing) : t.hm.actCtr = s.hm.actCtr := (congrArg Hallmark.actCtr h :)

@[simp] theorem logActOf_acts (a : Act) (outcome : Nat) (off : Word) (s : State) : (logActOf a outcome off s).hm.acts = s.hm.acts :=
  acts_of_offRing (logAct_offRing ..)
@[simp] theorem logActOf_actCtr (a : Act) (outcome : Nat) (off : Word) (s : State) :
    (logActOf a outcome off s).hm.actCtr = s.hm.actCtr := actCtr_of_offRing (logAct_offRing ..)

@[simp] theorem dropAct_acts (h : Nat) (s : State) : (dropAct h s).hm.acts = s.hm.acts.filter (·.handle != h) := rfl
@[simp] theorem pruneRecipes_hm (s : State) : (pruneRecipes s).hm = s.hm := rfl
@[simp] theorem bumpAct_acts (i : Nat) (s : State) : (bumpAct i s).hm.acts = s.hm.acts := rfl
@[simp] theorem bumpAct_dio (i : Nat) (s : State) : (bumpAct i s).dio = s.dio := rfl

/-! ## What a notice leaves -/

@[simp] theorem noticeUnit_hm (code : Half) (data : Bytes) (s : State) : (noticeUnit code data s).hm = s.hm :=
  (noticeUnit_frame code data s (List.Subset.refl _) (Frame.refl _ s)).hm_eq (by decide)
@[simp] theorem noticeUnit_dio (code : Half) (data : Bytes) (s : State) : (noticeUnit code data s).dio = s.dio :=
  (noticeUnit_frame code data s (List.Subset.refl _) (Frame.refl _ s)).dio_eq (by decide)

/-! ## Recipes and parts by their handles -/

theorem findRecipe_handle {s : State} {h : Nat} {r : Recipe} (hr : findRecipe s h = some r) : r.handle = h := by
  simpa using List.find?_some (p := fun r : Recipe => r.handle == h) hr

theorem findRecipe_modRecipe (h : Nat) (s : State) {f : Recipe → Recipe} (hf : ∀ r, (f r).handle = r.handle) :
    findRecipe (modRecipe h f s) h = (findRecipe s h).map f := by
  have hsame : (fun r : Recipe => (if r.handle = h then f r else r).handle == h) = fun r => r.handle == h := by
    funext r
    split
    · rw [hf]
    · rfl
  have hfind : findRecipe (modRecipe h f s) h = (findRecipe s h).map fun r => if r.handle = h then f r else r :=
    List.find?_map.trans (congrArg (Option.map _) (congrArg (List.find? · s.rcp.recipes) hsame))
  rw [hfind]
  cases hr : findRecipe s h with
  | none => rfl
  | some r => exact congrArg some (if_pos (findRecipe_handle hr))

theorem openPlate_spec {s : State} {h : Nat} {p : Part} (hp : openPlate s h = some p) :
    p ∈ s.hm.parts ∧ p.recipe = h ∧ p.stop = none := ⟨List.mem_of_find?_eq_some hp, by simpa using List.find?_some hp⟩

/-! ## A refused entry (09 R457, R471, R474) -/

section Refuse

variable (e : ActEntry) (target : Long) (st : Half) (outcome : Nat) (recipe : Option Nat) (tenant : Nat) (s : State)

@[simp] theorem refuseAct_acts : (refuseAct e target st outcome recipe tenant s).hm.acts = s.hm.acts := by
  refine (acts_of_offRing (logAct_offRing ..)).trans ?_
  split_ifs <;> rfl

@[simp] theorem refuseAct_led : (refuseAct e target st outcome recipe tenant s).led = s.led :=
  (refuseAct_frame e target st outcome recipe tenant s (List.Subset.refl _) (Frame.refl _ s)).led_eq (by decide)

end Refuse

end Sys2Proof.Machine
end

section
/-! PROOFS. The verdict of a part, and the fields of its record. -/

namespace Sys2Proof.Machine

open Sys2Proof

/-! ## Reading a field of a row of little-endian fields (00 R2) -/

theorem leVal_leBytes (n v : Nat) : leVal (leBytes n v) = v % 256 ^ n := by
  induction n generalizing v with
  | zero => simp [leBytes, leVal, Nat.mod_one]
  | succ n ih => rw [leBytes, leVal, ih, pow_succ', Nat.mod_mul, BitVec.toNat_ofNat]

theorem fld_append_right {a b : Bytes} {off : Nat} (h : a.length ≤ off) (n : Nat) :
    fld (a ++ b) off n = fld b (off - a.length) n := by
  rw [fld, fld, List.drop_append, List.drop_eq_nil_of_le h, List.nil_append]

theorem fld_append_left {a b : Bytes} {n : Nat} (h : a.length = n) : fld (a ++ b) 0 n = leVal a := by
  rw [fld, List.drop_zero, List.take_left' h]

theorem leVal_le1 {v : Nat} (h : v < 256) : leVal (le1 v) = v := (leVal_leBytes 1 v).trans (Nat.mod_eq_of_lt h)
theorem leVal_le2 {v : Nat} (h : v < 65536) : leVal (le2 v) = v := (leVal_leBytes 2 v).trans (Nat.mod_eq_of_lt h)
theorem leVal_le4 {v : Nat} (h : v < 2 ^ 32) : leVal (le4 v) = v := (leVal_leBytes 4 v).trans (Nat.mod_eq_of_lt h)
theorem leVal_le4_word (w : Word) : leVal (le4 w.toNat) = w.toNat := leVal_le4 w.isLt

theorem leVal_leInt8 (i : Int) : leVal (leInt 8 i) = (BitVec.ofInt 64 i).toNat := by
  rw [leInt, leVal_leBytes, BitVec.toNat_ofInt]
  omega

/-! ## The verdict (09 R441, R448, R449) -/

theorem addReason_ne_nil {reason : Nat} (h : reason ≠ 0) (l : List Nat) : addReason reason l ≠ [] := by
  unfold addReason
  split
  next hc =>
    rcases hc with hc | hc
    · exact absurd hc h
    · exact List.ne_nil_of_mem (List.contains_iff_mem.1 hc)
  next => simp

theorem addReason_head? (reason : Nat) {l : List Nat} (h : l ≠ []) : (addReason reason l).head? = l.head? := by
  unfold addReason
  split
  · rfl
  · exact List.head?_append_of_ne_nil _ h

theorem addReason_nil {reason : Nat} (h : reason ≠ 0) : addReason reason [] = [reason] := by simp [addReason, h]

section Verdict

variable (im : RecipeImage) (p : Part)

/-- The part's reasons, with that of a candidate that is unknown. -/
def verdictReasons : List Nat := if (judged im p).any (·.verdict == 3) then addReason 0x26 p.reasons else p.reasons

theorem verdictReasons_eq_nil : verdictReasons im p = [] ↔ (∀ c ∈ judged im p, c.verdict ≠ 3) ∧ p.reasons = [] := by
  unfold verdictReasons
  split
  next h =>
    obtain ⟨c, hc, h3⟩ := List.any_eq_true.1 h
    exact iff_of_false (addReason_ne_nil (by decide) _) fun ⟨hno, _⟩ => hno c hc (beq_iff_eq.1 h3)
  next h =>
    refine (and_iff_right fun c hc h3 => h (List.any_eq_true.2 ⟨c, hc, beq_iff_eq.2 h3⟩)).symm

theorem verdictOf_forced : (verdictOf im p true).1 = 2 := rfl

/-- Unless it is forced, a verdict is REJECT with a confirmed candidate, PASS without a reason, and HOLD else. -/
theorem verdictOf_unforced : (verdictOf im p false).1 =
    if ∃ c ∈ judged im p, c.verdict = 1 then 1 else if verdictReasons im p = [] then 0 else 2 := by
  have hany : (judged im p).any (·.verdict == 1) = true ↔ ∃ c ∈ judged im p, c.verdict = 1 := by simp
  unfold verdictOf
  dsimp only
  rw [if_neg Bool.false_ne_true, ← verdictReasons]
  by_cases hc : ∃ c ∈ judged im p, c.verdict = 1
  · rw [if_pos (hany.2 hc), if_pos hc]
  · rw [if_neg (mt hany.1 hc), if_neg hc]
    by_cases hr : verdictReasons im p = []
    · rw [if_pos (List.isEmpty_iff.2 hr), if_pos hr]
    · rw [if_neg (mt List.isEmpty_iff.1 hr), if_neg hr]

end Verdict

/-! ## The verdict record (09 Table 9.6) -/

/-- A row of fields holds each at the sum of the widths before it. -/
theorem fld_flatten {l : List Bytes} {i : Nat} {f : Bytes} (h : l[i]? = some f) :
    fld l.flatten ((l.take i).map List.length).sum f.length = leVal f := by
  induction l generalizing i with
  | nil => cases h
  | cons x l ih =>
    cases i with
    | zero =>
      cases h
      exact fld_append_left rfl
    | succ i =>
      rw [List.take_succ_cons, List.map_cons, List.sum_cons, List.flatten_cons, fld_append_right (Nat.le_add_right _ _),
        Nat.add_sub_cancel_left]
      exact ih h

/-- PRIMARY of a verdict with its reasons (09 R449). -/
def primaryOf (v : Nat) (reasons : List Nat) : Nat := if v = 1 then 0x100 else if v = 0 then 0 else (reasons.head?).getD 0

theorem primaryOf_lt {reasons : List Nat} (h : ∀ x ∈ reasons, x < 65536) (v : Nat) : primaryOf v reasons < 65536 := by
  unfold primaryOf
  split_ifs
  · decide
  · decide
  · cases reasons with
    | nil => decide
    | cons x l => exact h x List.mem_cons_self

section Record

variable (s : State) (r : Recipe) (p : Part) (v action aflags : Nat) (reasons : List Nat)

/-- The fields that a record ends with: of the part's worst candidate, or of none. -/
def defectField (i : Nat) (f : Candidate → Nat) : Nat := (p.cands.head?.map f).getD (Config.noDefect i p.id)

/-- The fields of a verdict record, in their order. -/
def verdictFields : List Bytes :=
  [[0x01], le1 v, le1 action, le1 aflags, le2 (primaryOf v reasons),
    le2 (((judged r.image p).find? (·.verdict == 1)).map (·.label) |>.getD 0), le4 r.seq, le4 r.handle, leInt 8 p.id,
    le4 (low32 p.start).toNat, le4 (low32 (endOf r.image p)).toNat, le4 (spos s).toNat, le4 (reasonBits reasons).toNat,
    le4 p.seen.length, le4 p.holdTiles, le4 (p.worst.getD Config.emptyWorst).toNat, le4 (recipeFence s r.handle).toNat,
    le1 (defectField p 0 (·.view)), [0], le2 (defectField p 1 (·.col)), le4 (defectField p 2 fun c => c.spos.toNat)]

theorem verdictRecord_eq : verdictRecord s r p v action aflags reasons = (verdictFields s r p v action aflags reasons).flatten := by
  simp only [verdictFields, List.flatten_cons, List.flatten_nil, List.append_nil, ← List.append_assoc]
  rfl

theorem verdictFields_widths : (verdictFields s r p v action aflags reasons).map List.length =
    [1, 1, 1, 1, 2, 2, 4, 4, 8, 4, 4, 4, 4, 4, 4, 4, 4, 1, 1, 2, 4] := rfl

theorem verdictRecord_length : (verdictRecord s r p v action aflags reasons).length = 64 := by
  rw [verdictRecord_eq, List.length_flatten, verdictFields_widths]
  rfl

theorem verdictRecord_field {i : Nat} {f : Bytes} (h : (verdictFields s r p v action aflags reasons)[i]? = some f) :
    fld (verdictRecord s r p v action aflags reasons)
      (([1, 1, 1, 1, 2, 2, 4, 4, 8, 4, 4, 4, 4, 4, 4, 4, 4, 1, 1, 2, 4].take i).sum) f.length = leVal f := by
  rw [verdictRecord_eq, ← verdictFields_widths s r p v action aflags reasons, ← List.map_take]
  exact fld_flatten h

end Record

/-- Settles O44: the verdict by its two tests, and the record's fields read back from its bytes. -/
theorem verdictsAndTheirReasons : Obligations.VerdictsAndTheirReasons := by
  unfold Obligations.VerdictsAndTheirReasons
  refine ⟨fun im p => ⟨?reject, ?pass, ?range, verdictOf_forced im p⟩, fun reason l => addReason_head? reason,
    fun reason h => by rw [addReason_nil h]; rfl, fun s r p v action aflags reasons hv hseq hhandle hseen hhold hreasons => ?record⟩
  case reject =>
    rw [verdictOf_unforced]
    split_ifs <;> simp_all
  case pass =>
    rw [verdictOf_unforced]
    have hnone := verdictReasons_eq_nil im p
    split_ifs with hc hr
    · obtain ⟨c, hm, h1⟩ := hc
      exact iff_of_false (by decide) fun h => (h.1 c hm).1 h1
    · exact iff_of_true rfl ⟨fun c hm => ⟨fun h1 => hc ⟨c, hm, h1⟩, (hnone.1 hr).1 c hm⟩, (hnone.1 hr).2⟩
    · exact iff_of_false (by decide) fun h => hr (hnone.2 ⟨fun c hm => (h.1 c hm).2, h.2⟩)
  case range =>
    rw [verdictOf_unforced]
    split_ifs <;> decide
  case record =>
    have hfield {i : Nat} {f : Bytes} := verdictRecord_field s r p v action aflags reasons (i := i) (f := f)
    have hprimary : fld (verdictRecord s r p v action aflags reasons) 4 2 = primaryOf v reasons :=
      (hfield (i := 4) rfl).trans (leVal_le2 (primaryOf_lt hreasons v))
    refine ⟨verdictRecord_length s r p v action aflags reasons, (hfield (i := 1) rfl).trans (leVal_le1 (by omega)),
      (hfield (i := 6) rfl).trans (leVal_le4 hseq), (hfield (i := 7) rfl).trans (leVal_le4 hhandle),
      (hfield (i := 8) rfl).trans (leVal_leInt8 p.id), (hfield (i := 9) rfl).trans (leVal_le4_word _),
      (hfield (i := 11) rfl).trans (leVal_le4_word _), (hfield (i := 13) rfl).trans (leVal_le4 hseen),
      (hfield (i := 14) rfl).trans (leVal_le4 hhold), (hfield (i := 16) rfl).trans (leVal_le4_word _), ?_, ?_, ?_⟩
    · rintro rfl
      exact hprimary
    · rintro rfl
      exact hprimary
    · rintro rfl
      rw [hprimary]
      cases reasons <;> rfl

end Sys2Proof.Machine
end

section
/-! PROOFS. The end of a plate at MAX_LEN, and two parts that share a PART_ID, of which it closes the one that was not open. -/

namespace Sys2Proof.Machine

open Sys2Proof

/-- The part that the id of an overlong plate names ends at its own START + MAX_LEN (09 R438). -/
theorem findPart_closeLong {s : State} {r : Recipe} {p q : Part} (hq : findPart s r.handle p.id = some q) :
    findPart (closeLong r p s) r.handle p.id =
      some { q with stop := some (posL (plateLast r.image q)), reasons := addReason 0x25 q.reasons } :=
  findPart_modPart hq fun _ => ⟨rfl, rfl⟩

theorem exec_plateMaxLenClose {s : State} {recipe : Nat} {r : Recipe} {p : Part} (hr : findRecipe s recipe = some r)
    (hp : openPlate s recipe = some p) (hreached : reached s (posL (plateLast r.image p)) = true) (hdom : domOn s 2 = true) :
    exec (.plateMaxLenClose recipe) s = .next (closeLong r p s) := by
  refine congrArg Host.Outcome.next ?_
  rw [hr, hp]
  exact if_pos ⟨hreached, hdom⟩

/-! ## A recipe with two plates of one PART_ID -/

/-- A PLATE recipe with MAX_LEN 60. -/
def plateRecipe : Recipe := newRecipe 1 0 { imageOf [] with model := 1, maxLen := 60 } State.reset

/-- A plate from 0 that ended at 50, and a later one of the same PART_ID that is open from 100. -/
def endedPlate : Part := freshPart 1 1 0 (some 50)
def openTwin : Part := freshPart 1 1 100 none

/-- Both stand in HALLMARK, and the HWM is past the open plate's START + MAX_LEN. -/
def twinPlates : State :=
  { State.reset with
    pwr := { Power.reset with domains := List.replicate 13 true }
    pos := { Position.reset with hwm := 200 }
    rcp := { Recipes.reset with recipes := [plateRecipe] }
    hm := { Hallmark.reset with parts := [endedPlate, openTwin] } }

theorem exec_twinPlates : exec (.plateMaxLenClose 1) twinPlates = .next (closeLong plateRecipe openTwin twinPlates) :=
  exec_plateMaxLenClose (r := plateRecipe) (p := openTwin) rfl rfl (by decide) rfl

/-- The plate that is found under the open plate's PART_ID is the ended one: it now ends at 0 + 60, not at 100 + 60. -/
theorem findPart_twinPlates : (findPart (closeLong plateRecipe openTwin twinPlates) 1 openTwin.id).map (·.stop) =
    some (some (posL 60)) := by
  have h : findPart twinPlates plateRecipe.handle openTwin.id = some endedPlate := rfl
  exact congrArg (Option.map (·.stop)) (findPart_closeLong h)

/-- Refutes O45: with two parts of one recipe and one PART_ID, PLATE_MAX_LEN_CLOSE sets the END of both, each from its own START, and
the part found under the id of the plate that was open is the other one. -/
theorem not_partsReceiveOneVerdict : ¬ Obligations.PartsReceiveOneVerdict := by
  unfold Obligations.PartsReceiveOneVerdict
  rintro ⟨-, -, -, -, -, -, -, hplate, -⟩
  obtain ⟨hclose, -⟩ := hplate 1 twinPlates plateRecipe openTwin rfl rfl rfl
  obtain ⟨u, hu, -, hend, -⟩ := hclose (by decide)
  obtain rfl := Host.Outcome.next.inj (exec_twinPlates.symm.trans hu)
  obtain ⟨q, hq, hstop⟩ := Option.map_eq_some_iff.1 findPart_twinPlates
  exact absurd (hstop.symm.trans (hend q hq).1) (by decide)

end Sys2Proof.Machine
end

section
/-! PROOFS. Switching an output on and off: what each outcome of a switch-on leaves of the queue and the outputs, and what the
commands make of them. -/

namespace Sys2Proof.Machine

open Sys2Proof

/-! ## The queue -/

theorem findAct_handle {s : State} {h : Nat} {a : Act} (hf : findAct s h = some a) : a.handle = h := by
  simpa using List.find?_some (p := fun a : Act => a.handle == h) hf

theorem findAct_mem {s : State} {h : Nat} {a : Act} (hf : findAct s h = some a) : a ∈ s.hm.acts := List.mem_of_find?_eq_some hf

theorem findAct_none {s : State} {h : Nat} : findAct s h = none ↔ ∀ b ∈ s.hm.acts, b.handle ≠ h := by
  simp [findAct]

theorem findAct_congr {s t : State} (h : t.hm.acts = s.hm.acts) (k : Nat) : findAct t k = findAct s k := by rw [findAct, findAct, h]

/-- The entry of a handle is the one that a change of that handle gives, where the change keeps the handle. -/
theorem findAct_modAct {s : State} {h : Nat} {a : Act} (hf : findAct s h = some a) {f : Act → Act} (hh : ∀ b, (f b).handle = b.handle) :
    findAct (modAct h f s) h = some (f a) := by
  have hsame : (fun b : Act => (if b.handle = h then f b else b).handle == h) = fun b => b.handle == h := by
    funext b
    split
    · rw [hh]
    · rfl
  rw [findAct, modAct, State.setHm_hm, List.find?_map]
  refine (congrArg (Option.map _) ((congrArg (List.find? · s.hm.acts) hsame).trans hf)).trans ?_
  rw [Option.map_some, if_pos (findAct_handle hf)]

theorem mem_modAct {s : State} {a : Act} (ha : a ∈ s.hm.acts) (f : Act → Act) : f a ∈ (modAct a.handle f s).hm.acts :=
  List.mem_map.2 ⟨a, ha, if_pos rfl⟩

/-- An entry that is held, and one whose output is switched on at this moment. -/
def Act.asHeld (a : Act) : Act := { a with state := .held }
def Act.fired (s : State) (a : Act) : Act := { a with state := .firing, onAt := s.now, onSpos := spos s }

/-! ## What an entry's end leaves (09 R474, R476) -/

@[simp] theorem skipAct_acts (a : Act) (s : State) : (skipAct a s).hm.acts = s.hm.acts.filter (·.handle != a.handle) := by
  simp [skipAct]

@[simp] theorem skipAct_dio (a : Act) (s : State) : (skipAct a s).dio = s.dio :=
  (skipAct_frame a s (List.Subset.refl _) (Frame.refl _ s)).dio_eq (by decide)

@[simp] theorem equivLost_hm (e : LogEntry) (s : State) : (equivLost e s).hm = s.hm :=
  (equivLost_frame e s (List.Subset.refl _) (Frame.refl _ s)).hm_eq (by decide)

@[simp] theorem loseAct_acts (a : Act) (s : State) : (loseAct a s).hm.acts = s.hm.acts.filter (·.handle != a.handle) := by
  simp [loseAct]

@[simp] theorem loseAct_dio (a : Act) (s : State) : (loseAct a s).dio = s.dio :=
  (loseAct_frame a s (List.Subset.refl _) (Frame.refl _ s)).dio_eq (by decide)

@[simp] theorem noteInterlock_acts (a : Act) (code : Nat) (s : State) : (noteInterlock a code s).hm.acts = s.hm.acts := by
  simp [noteInterlock]

@[simp] theorem noteInterlock_dio (a : Act) (code : Nat) (s : State) : (noteInterlock a code s).dio = s.dio := by
  simp [noteInterlock]

theorem mem_filter_handle {l : List Act} {a b : Act} : b ∈ l.filter (·.handle != a.handle) ↔ b ∈ l ∧ b.handle ≠ a.handle := by
  simp

/-- The state of a switch-on in which one copy failed is the state before but for the fault log (09 R476). -/
theorem secondCopy_frame_self (injected : Bool) (s : State) : Frame [.flt] s (secondCopy injected s) :=
  secondCopy_frame injected s (List.Subset.refl _) (Frame.refl _ s)

/-! ## Outputs -/

theorem chan_modChan_self {s : State} {n : Nat} {c : DioChan} (h : s.dio.chan[n]? = some c) (f : DioChan → DioChan) :
    (modChan n f s).dio.chan[n]? = some (f c) := getElem?_upd_self f h

theorem chan_modChan_ne {n k : Nat} (hk : k ≠ n) (f : DioChan → DioChan) (s : State) :
    (modChan n f s).dio.chan[k]? = s.dio.chan[k]? := by simp [modChan, upd, Ne.symm hk]

/-- An output is brought up to date by its own channel alone. -/
theorem chan_settleOut_ne {n k : Nat} (hk : k ≠ n) (s : State) : (settleOut n s).dio.chan[k]? = s.dio.chan[k]? :=
  chan_modChan_ne hk _ s

theorem chan_settleOut_out {s : State} {n : Nat} {c : DioChan} (h : s.dio.chan[n]? = some c) :
    ((settleOut n s).dio.chan[n]?).map (·.out) = some (outNow s n) := by
  rw [settleOut, chan_modChan_self h]
  rfl

theorem chanOf_eq {s : State} {n : Nat} {c : DioChan} (h : s.dio.chan[n]? = some c) : chanOf s n = c := getI_of_getElem? _ h

theorem chanOf_congr {s t : State} {n : Nat} (h : t.dio.chan[n]? = s.dio.chan[n]?) : chanOf t n = chanOf s n := by
  simp only [chanOf, getI, List.getD_eq_getElem?_getD, h]

/-- A channel with no cause of a safe state is off where no entry holds it on. -/
theorem outNow_of_not_firing {s : State} {n : Nat} (hc : (chanOf s n).causes = 0) (hf : firingOn s n = none) : outNow s n = false := by
  simp [outNow, DioChan.safe, hc, hf]

/-! ## What a switch-on judges by -/

section Judges

variable {s t : State} (a : Act)

theorem spos_congr (h : t.pos = s.pos) : spos t = spos s := by
  unfold spos ptb
  rw [h]

theorem switchDue_congr (h : t.pos = s.pos) : switchDue t a = switchDue s a := by
  unfold switchDue hwmAt dLead puPerMetre
  rw [h]

theorem latestReached_congr (h : t.pos = s.pos) : latestReached t a = latestReached s a := by
  unfold latestReached hwmAt dLead puPerMetre
  rw [h]

theorem interlocked_congr (hd : t.dio = s.dio) (hh : t.hm = s.hm) : interlocked t a = interlocked s a := by
  unfold interlocked loadOn chanOf firingOn
  rw [hd, hh]

end Judges

/-! ## An entry that checks (09 R463, R472; 10 R500, R506) -/

section SwitchOn

variable {a : Act} {s : State}

theorem switchOn_noOutput (h : (chanOf s a.entry.channel).dir ≠ 2) : switchOn a s = skipAct a s := if_pos h

variable (hdir : (chanOf s a.entry.channel).dir = 2)
include hdir

theorem switchOn_safe (h : (chanOf s a.entry.channel).causes ≠ 0) :
    switchOn a s = skipAct a (s.setDio { s.dio with safeSkip := satInc s.dio.safeSkip }) := by
  have hsafe : (chanOf s a.entry.channel).safe = true := bne_iff_ne.2 h
  unfold switchOn
  dsimp only
  rw [if_neg (not_not.2 hdir), if_pos hsafe]

variable (hlive : (chanOf s a.entry.channel).causes = 0)
include hlive

theorem switchOn_live : switchOn a s =
    if (feedOf s (a.entry.channel / 2)).closed = false then skipAct a s
    else if interlocked s a then
      (if latestReached s a then noteInterlock a 1 (skipAct a s)
       else if a.state = .held then s else noteInterlock a 0 (modAct a.handle Act.asHeld s))
    else if a.state = .held ∧ latestReached s a then noteInterlock a 1 (skipAct a s)
    else fireAct a s := by
  have hsafe : ¬ (chanOf s a.entry.channel).safe = true := by simp [DioChan.safe, hlive]
  unfold switchOn
  dsimp only
  rw [if_neg (not_not.2 hdir), if_neg hsafe]
  cases (feedOf s (a.entry.channel / 2)).closed <;> rfl

variable (hclosed : (feedOf s (a.entry.channel / 2)).closed = true)
include hclosed

theorem switchOn_free (hi : interlocked s a = false) : switchOn a s =
    if a.state = .held ∧ latestReached s a then noteInterlock a 1 (skipAct a s) else fireAct a s := by
  rw [switchOn_live hdir hlive, hclosed, if_neg (by decide), hi, if_neg (by decide)]

end SwitchOn

/-- What can become of the queue at a switch-on: the entry is gone, or it stays with a state of its own and all others stay. -/
theorem switchOn_acts (a : Act) (s : State) : (switchOn a s).hm.acts = s.hm.acts ∨
    (switchOn a s).hm.acts = s.hm.acts.filter (·.handle != a.handle) ∨
    ∃ f : Act → Act, (∀ b, (f b).handle = b.handle) ∧
      (switchOn a s).hm.acts = s.hm.acts.map fun b => if b.handle = a.handle then f b else b := by
  by_cases hdir : (chanOf s a.entry.channel).dir = 2
  case neg => exact .inr (.inl (by rw [switchOn_noOutput hdir, skipAct_acts]))
  by_cases hlive : (chanOf s a.entry.channel).causes = 0
  case neg => exact .inr (.inl (by rw [switchOn_safe hdir hlive, skipAct_acts]; rfl))
  rw [switchOn_live hdir hlive]
  split
  · exact .inr (.inl (skipAct_acts a s))
  · split
    · split
      · exact .inr (.inl (by rw [noteInterlock_acts, skipAct_acts]))
      · split
        · exact .inl rfl
        · exact .inr (.inr ⟨Act.asHeld, fun _ => rfl, by rw [noteInterlock_acts]; rfl⟩)
    · split
      · exact .inr (.inl (by rw [noteInterlock_acts, skipAct_acts]))
      · exact .inr (.inr ⟨Act.fired s, fun _ => rfl, rfl⟩)

/-- An entry that is gone does not come back at the switch-on of another. -/
theorem findAct_switchOn_none {s : State} {h : Nat} (hnone : findAct s h = none) (b : Act) : findAct (switchOn b s) h = none := by
  rw [findAct_none] at hnone ⊢
  intro x hx
  rcases switchOn_acts b s with he | he | ⟨f, hf, he⟩ <;> rw [he] at hx
  · exact hnone x hx
  · exact hnone x (List.mem_of_mem_filter hx)
  · obtain ⟨y, hy, rfl⟩ := List.mem_map.1 hx
    split
    · rw [hf]
      exact hnone y hy
    · exact hnone y hy

section Fires

variable {a : Act} {s : State}

/-- A channel that was off for a short is free again at the next entry (10 R499). -/
def DioChan.rearmed (c : DioChan) : DioChan := { c with shorted := false }

/-- The entry is on and its channel free, before the output follows. -/
def firing (a : Act) (s : State) : State := modChan a.entry.channel DioChan.rearmed (modAct a.handle (Act.fired s) s)

theorem fireAct_eq (a : Act) (s : State) : fireAct a s = settleOut a.entry.channel (firing a s) := rfl

theorem findAct_fireAct {h : Nat} (hf : findAct s h = some a) : findAct (fireAct a s) h = some (a.fired s) := by
  obtain rfl := findAct_handle hf
  exact findAct_modAct hf fun _ => rfl

theorem mem_fireAct (ha : a ∈ s.hm.acts) : a.fired s ∈ (fireAct a s).hm.acts := mem_modAct ha (Act.fired s)

/-- The output of an entry that fires goes on: an entry is on there, and nothing holds the channel off. -/
theorem fireAct_out {c : DioChan} (ha : a ∈ s.hm.acts) (hc : s.dio.chan[a.entry.channel]? = some c) (hdir : c.dir = 2)
    (hlive : c.causes = 0) (hret : c.retired = false) (hclosed : (feedOf s (a.entry.channel / 2)).closed = true) :
    ((fireAct a s).dio.chan[a.entry.channel]?).map (·.out) = some true := by
  have hchan : (firing a s).dio.chan[a.entry.channel]? = some c.rearmed := chan_modChan_self (s := modAct a.handle _ s) hc _
  have hfires : (firingOn (firing a s) a.entry.channel).isSome = true := by
    rw [firingOn, List.find?_isSome]
    exact ⟨a.fired s, mem_modAct ha (Act.fired s), by simp [Act.fired]⟩
  have hdir' : c.rearmed.dir = 2 := hdir
  have hlive' : c.rearmed.safe = false := by simp [DioChan.safe, DioChan.rearmed, hlive]
  have hret' : c.rearmed.retired = false := hret
  have hclosed' : (feedOf (firing a s) (a.entry.channel / 2)).closed = true := hclosed
  rw [fireAct_eq, chan_settleOut_out hchan]
  unfold outNow
  rw [chanOf_eq hchan]
  dsimp only
  rw [hdir', hlive', hret', hclosed', hfires]
  rfl

theorem fireAct_chan_ne {k : Nat} (hk : k ≠ a.entry.channel) : (fireAct a s).dio.chan[k]? = s.dio.chan[k]? :=
  (chan_settleOut_ne hk _).trans (chan_modChan_ne hk _ (modAct a.handle (Act.fired s) s))

theorem fireAct_frame_self (a : Act) (s : State) : Frame [.hm, .dio] s (fireAct a s) :=
  fireAct_frame a s (List.Subset.refl _) (Frame.refl _ s)

end Fires

/-! ## ACTUATION_SWITCH_ON (09 R463, R466, R476) -/

/-- Copies that check, with an injected bad one taken off (12 Table 12.7). -/
def goodCopies (a : Act) (n : Nat) (s : State) : Nat := if injectedBad s a then n - 1 else n

/-- An injected bad copy is used up. -/
def injectionUsed (a : Act) (s : State) : State := if injectedBad s a then s.setFlt { s.flt with badCopy := none } else s

/-- The state in which a switch-on is judged: where one copy is left, the fault log says so. -/
def copiesChecked (a : Act) (n : Nat) (s : State) : State :=
  if goodCopies a n s = 1 then secondCopy (injectedBad s a) (injectionUsed a s) else injectionUsed a s

theorem injectionUsed_frame (a : Act) (s : State) : Frame [.flt] s (injectionUsed a s) := by
  unfold injectionUsed
  split
  · exact State.setFlt_frame _ _ (List.Subset.refl _) (Frame.refl _ s)
  · exact Frame.refl _ s

theorem copiesChecked_frame (a : Act) (n : Nat) (s : State) : Frame [.flt] s (copiesChecked a n s) := by
  unfold copiesChecked
  split
  · exact (injectionUsed_frame a s).trans' (secondCopy_frame_self _ _)
  · exact injectionUsed_frame a s

/-- What a switch-on judges by is the same before and after its copies were checked. -/
theorem chanOf_copiesChecked (a : Act) (n : Nat) (s : State) (k : Nat) : chanOf (copiesChecked a n s) k = chanOf s k :=
  chanOf_frame (copiesChecked_frame a n s) (by decide) k

theorem feedOf_copiesChecked (a : Act) (n : Nat) (s : State) (k : Nat) : feedOf (copiesChecked a n s) k = feedOf s k :=
  feedOf_frame (copiesChecked_frame a n s) (by decide) k

theorem interlocked_copiesChecked (a : Act) (n : Nat) (s : State) : interlocked (copiesChecked a n s) a = interlocked s a :=
  interlocked_congr a ((copiesChecked_frame a n s).dio_eq (by decide)) ((copiesChecked_frame a n s).hm_eq (by decide))

theorem latestReached_copiesChecked (a : Act) (n : Nat) (s : State) : latestReached (copiesChecked a n s) a = latestReached s a :=
  latestReached_congr a ((copiesChecked_frame a n s).pos_eq (by decide))

theorem findAct_copiesChecked (a : Act) (n : Nat) (s : State) (h : Nat) : findAct (copiesChecked a n s) h = findAct s h :=
  findAct_congr (congrArg Hallmark.acts ((copiesChecked_frame a n s).hm_eq (by decide))) h

section Command

variable {h : Nat} {s : State} {a : Act} (hf : findAct s h = some a) (n t : Nat)
include hf

theorem exec_actuationSwitchOn_idle (hidle : a.state = .firing ∨ switchDue (s.at_ t) a = false ∨ domOn s 2 = false) :
    exec (.actuationSwitchOn h n t) s = .next (s.at_ t) := by
  have hf' : findAct (s.at_ t) h = some a := hf
  have hdom : domOn (s.at_ t) 2 = domOn s 2 := rfl
  refine congrArg Host.Outcome.next ?_
  rw [hf']
  dsimp only
  rw [hdom]
  exact if_pos (by simpa [or_assoc] using hidle)

variable (hon : a.state ≠ .firing) (hdue : switchDue (s.at_ t) a = true) (hdom : domOn s 2 = true)
include hon hdue hdom

theorem exec_actuationSwitchOn : exec (.actuationSwitchOn h n t) s = .next (
    if goodCopies a n s = 0 then loseAct a (injectionUsed a (s.at_ t)) else switchOn a (copiesChecked a n (s.at_ t))) := by
  have hf' : findAct (s.at_ t) h = some a := hf
  have hdom' : domOn (s.at_ t) 2 = true := hdom
  have hgood : n - b2n (injectedBad (s.at_ t) a) = goodCopies a n (s.at_ t) := by
    unfold goodCopies
    cases injectedBad (s.at_ t) a <;> rfl
  refine congrArg Host.Outcome.next ?_
  rw [hf']
  dsimp only
  rw [if_neg (by simp [hon, hdue, hdom']), hgood]
  rfl

theorem exec_actuationSwitchOn_lost (h0 : goodCopies a n s = 0) :
    exec (.actuationSwitchOn h n t) s = .next (loseAct a (injectionUsed a (s.at_ t))) := by
  rw [exec_actuationSwitchOn hf n t hon hdue hdom, if_pos h0]

theorem exec_actuationSwitchOn_checks (hgood : 1 ≤ goodCopies a n s) :
    exec (.actuationSwitchOn h n t) s = .next (switchOn a (copiesChecked a n (s.at_ t))) := by
  rw [exec_actuationSwitchOn hf n t hon hdue hdom, if_neg (by omega)]

section Output

variable {c : DioChan} (hc : s.dio.chan[a.entry.channel]? = some c) (hgood : 1 ≤ goodCopies a n s)
include hc hgood

theorem exec_actuationSwitchOn_noOutput (hdir : c.dir ≠ 2) :
    exec (.actuationSwitchOn h n t) s = .next (skipAct a (copiesChecked a n (s.at_ t))) := by
  rw [exec_actuationSwitchOn_checks hf n t hon hdue hdom hgood, switchOn_noOutput]
  rwa [chanOf_copiesChecked, chanOf_at, chanOf_eq hc]

variable (hdir : c.dir = 2)
include hdir

theorem exec_actuationSwitchOn_safe (hsafe : c.causes ≠ 0) : exec (.actuationSwitchOn h n t) s =
    .next (skipAct a ((copiesChecked a n (s.at_ t)).setDio
      { (copiesChecked a n (s.at_ t)).dio with safeSkip := satInc (copiesChecked a n (s.at_ t)).dio.safeSkip })) := by
  rw [exec_actuationSwitchOn_checks hf n t hon hdue hdom hgood, switchOn_safe]
  · rwa [chanOf_copiesChecked, chanOf_at, chanOf_eq hc]
  · rwa [chanOf_copiesChecked, chanOf_at, chanOf_eq hc]

variable (hlive : c.causes = 0)
include hlive

/-- On a live output the feed, the interlock and LATEST decide. -/
theorem exec_actuationSwitchOn_live : exec (.actuationSwitchOn h n t) s = .next (
    if (feedOf s (a.entry.channel / 2)).closed = false then skipAct a (copiesChecked a n (s.at_ t))
    else if interlocked (s.at_ t) a then
      (if latestReached (s.at_ t) a then noteInterlock a 1 (skipAct a (copiesChecked a n (s.at_ t)))
       else if a.state = .held then copiesChecked a n (s.at_ t)
       else noteInterlock a 0 (modAct a.handle Act.asHeld (copiesChecked a n (s.at_ t))))
    else if a.state = .held ∧ latestReached (s.at_ t) a then noteInterlock a 1 (skipAct a (copiesChecked a n (s.at_ t)))
    else fireAct a (copiesChecked a n (s.at_ t))) := by
  rw [exec_actuationSwitchOn_checks hf n t hon hdue hdom hgood, switchOn_live, feedOf_copiesChecked, interlocked_copiesChecked,
    latestReached_copiesChecked, feedOf_at]
  · rwa [chanOf_copiesChecked, chanOf_at, chanOf_eq hc]
  · rwa [chanOf_copiesChecked, chanOf_at, chanOf_eq hc]

variable (hclosed : (feedOf s (a.entry.channel / 2)).closed = true)
include hclosed

theorem exec_actuationSwitchOn_holds (hi : interlocked (s.at_ t) a = true) (hlate : latestReached (s.at_ t) a = false)
    (hpend : a.state = .pending) :
    ∃ u, exec (.actuationSwitchOn h n t) s = .next u ∧ u.dio = s.dio ∧ (findAct u h).map (·.state) = some .held := by
  refine ⟨_, exec_actuationSwitchOn_live hf n t hon hdue hdom hc hgood hdir hlive, ?_⟩
  rw [hclosed, if_neg (by decide), hi, if_pos rfl, hlate, if_neg (by decide), hpend, if_neg (by decide)]
  constructor
  · rw [noteInterlock_dio]
    exact (copiesChecked_frame a n (s.at_ t)).dio_eq (by decide)
  · have hfind : findAct (copiesChecked a n (s.at_ t)) h = some a := (findAct_copiesChecked a n (s.at_ t) h).trans hf
    rw [findAct_congr (noteInterlock_acts a 0 _), findAct_handle hf, findAct_modAct hfind (f := Act.asHeld) fun _ => rfl]
    rfl

theorem exec_actuationSwitchOn_fires (hi : interlocked (s.at_ t) a = false)
    (hstill : a.state = .pending ∨ latestReached (s.at_ t) a = false) (hret : c.retired = false) :
    ∃ u, exec (.actuationSwitchOn h n t) s = .next u ∧
      findAct u h = some { a with state := .firing, onAt := (s.at_ t).now, onSpos := spos (s.at_ t) } ∧
      (u.dio.chan[a.entry.channel]?).map (·.out) = some true ∧
      (∀ k, k ≠ a.entry.channel → u.dio.chan[k]? = s.dio.chan[k]?) ∧
      Frame [.now, .hm, .dio, .flt, .emitted, .host, .kw, .fab] s u := by
  have hframe : Frame [.flt] (s.at_ t) (copiesChecked a n (s.at_ t)) := copiesChecked_frame a n (s.at_ t)
  have hdio : (copiesChecked a n (s.at_ t)).dio = s.dio := hframe.dio_eq (by decide)
  have hfind : findAct (copiesChecked a n (s.at_ t)) h = some a := (findAct_copiesChecked a n (s.at_ t) h).trans hf
  have hfires : ¬ (a.state = .held ∧ latestReached (s.at_ t) a = true) := by
    rintro ⟨hheld, hlate⟩
    simp [hheld, hlate] at hstill
  refine ⟨_, exec_actuationSwitchOn_live hf n t hon hdue hdom hc hgood hdir hlive, ?_⟩
  rw [hclosed, if_neg (by decide), hi, if_neg (by decide), if_neg hfires]
  refine ⟨?_, fireAct_out (findAct_mem hfind) (by rw [hdio, hc]) hdir hlive hret
    (by rw [feedOf_copiesChecked, feedOf_at, hclosed]), fun k hk => (fireAct_chan_ne hk).trans (by rw [hdio]), ?_⟩
  · rw [findAct_fireAct hfind, Act.fired, hframe.now_eq (by decide), spos_congr (hframe.pos_eq (by decide))]
  · exact ((at_frame s t).mono (by decide)).trans' ((hframe.mono (by decide)).trans'
      ((fireAct_frame_self a _).mono (by decide)))

end Output

end Command

/-! ## INTERLOCK_SKIP (09 R472) -/

section Skip

variable {h : Nat} {s : State} {a : Act} (hf : findAct s h = some a)
include hf

theorem exec_interlockSkip : exec (.interlockSkip h) s = .next (
    if a.state = .held ∧ interlocked s a = true ∧ latestReached s a = true ∧ domOn s 2 = true
    then noteInterlock a 1 (skipAct a s) else s) := by
  refine congrArg Host.Outcome.next ?_
  rw [hf]

theorem exec_interlockSkip_idle (h0 : a.state ≠ .held ∨ interlocked s a = false ∨ latestReached s a = false ∨ domOn s 2 = false) :
    exec (.interlockSkip h) s = .next s := by
  rw [exec_interlockSkip hf, if_neg]
  rintro ⟨h1, h2, h3, h4⟩
  simp [h1, h2, h3, h4] at h0

end Skip

/-! ## The end of a pulse (09 R465) -/

/-- The pulse is logged FIRED and out of the queue; then its output is off, before a held switch-on goes on. -/
def pulseLogged (a : Act) (s : State) : State := logActOf a 0 (spos s) (dropAct a.handle s)

def pulseEnded (a : Act) (s : State) : State := pruneRecipes (settleOut a.entry.channel (pulseLogged a s))

theorem switchOff_eq (a : Act) (s : State) : switchOff a s = resumeHeld (partnerOf a.entry.channel) (pulseEnded a s) := rfl

theorem pulseLogged_frame (a : Act) (s : State) : Frame [.led, .draw, .hm] s (pulseLogged a s) :=
  logActOf_frame a 0 _ _ (by decide) (dropAct_frame a.handle s (by decide) (Frame.refl _ s))

theorem pulseEnded_frame (a : Act) (s : State) : Frame [.led, .draw, .hm, .dio, .rcp] s (pulseEnded a s) :=
  pruneRecipes_frame _ (by decide) (settleOut_frame _ _ (by decide) ((pulseLogged_frame a s).mono (by decide)))

@[simp] theorem pulseLogged_acts (a : Act) (s : State) : (pulseLogged a s).hm.acts = s.hm.acts.filter (·.handle != a.handle) := by
  simp [pulseLogged]

@[simp] theorem pulseEnded_acts (a : Act) (s : State) : (pulseEnded a s).hm.acts = s.hm.acts.filter (·.handle != a.handle) :=
  pulseLogged_acts a s

theorem pulseEnded_dio (a : Act) (s : State) : (pulseEnded a s).dio = (settleOut a.entry.channel (pulseLogged a s)).dio := rfl

theorem pulseEnded_actCtr (a : Act) (s : State) : (pulseEnded a s).hm.actCtr = s.hm.actCtr :=
  logActOf_actCtr a 0 (spos s) (dropAct a.handle s)

theorem pulseEnded_chan_ne (a : Act) (s : State) {k : Nat} (hk : k ≠ a.entry.channel) :
    (pulseEnded a s).dio.chan[k]? = s.dio.chan[k]? :=
  (chan_settleOut_ne hk _).trans (congrArg (fun d : FieldIo => d.chan[k]?) ((pulseLogged_frame a s).dio_eq (by decide)))

/-- The output of the only entry that was on there goes off, where no safe state holds it on. -/
theorem pulseEnded_out {a : Act} {s : State} {c : DioChan} (hc : s.dio.chan[a.entry.channel]? = some c) (hlive : c.causes = 0)
    (honly : ∀ b ∈ s.hm.acts, b.entry.channel = a.entry.channel → b.state = .firing → b.handle = a.handle) :
    ((pulseEnded a s).dio.chan[a.entry.channel]?).map (·.out) = some false := by
  have hdio : (pulseLogged a s).dio = s.dio := (pulseLogged_frame a s).dio_eq (by decide)
  have hc' : (pulseLogged a s).dio.chan[a.entry.channel]? = some c := by rw [hdio, hc]
  have hoff : firingOn (pulseLogged a s) a.entry.channel = none := by
    rw [firingOn, pulseLogged_acts, List.find?_eq_none]
    intro b hb hon
    obtain ⟨hmem, hne⟩ := mem_filter_handle.1 hb
    obtain ⟨hch, hst⟩ : b.entry.channel = a.entry.channel ∧ b.state = .firing := by simpa using hon
    exact hne (honly b hmem hch hst)
  rw [pulseEnded_dio, chan_settleOut_out hc', outNow_of_not_firing (by rw [chanOf_eq hc', hlive]) hoff]

/-! ### The switch-on that waited -/

theorem heldOn_spec {s : State} {n : Nat} {b : Act} (h : heldOn s n = some b) :
    b ∈ s.hm.acts ∧ b.entry.channel = n ∧ b.state = .held :=
  ⟨List.mem_of_find?_eq_some h, by simpa using List.find?_some h⟩

theorem resumeHeld_none {s : State} {n : Nat} (h : heldOn s n = none) : resumeHeld n s = s := by
  unfold resumeHeld
  rw [h]

theorem resumeHeld_due {s : State} {n : Nat} {b : Act} (h : heldOn s n = some b) (hdue : switchDue s b = true) :
    resumeHeld n s = switchOn b s := by
  unfold resumeHeld
  rw [h]
  exact if_pos hdue

theorem heldOn_pulseEnded_none {a : Act} {s : State} {n : Nat} (h : heldOn s n = none) : heldOn (pulseEnded a s) n = none := by
  rw [heldOn, List.find?_eq_none] at h ⊢
  intro b hb
  rw [pulseEnded_acts] at hb
  exact h b (List.mem_of_mem_filter hb)

theorem heldOn_pulseEnded {a b : Act} {s : State} {n : Nat} (h : heldOn s n = some b) (hne : b.handle ≠ a.handle) :
    heldOn (pulseEnded a s) n = some b := by
  rw [heldOn, List.find?_eq_some_iff_append] at h
  obtain ⟨hb, l, m, hl, hno⟩ := h
  rw [heldOn, pulseEnded_acts, hl, List.find?_eq_some_iff_append]
  refine ⟨hb, l.filter (·.handle != a.handle), m.filter (·.handle != a.handle), ?_, fun x hx => hno x (List.mem_of_mem_filter hx)⟩
  rw [List.filter_append, List.filter_cons_of_pos (by simpa using hne)]

theorem findAct_pulseEnded_none (a : Act) (s : State) : findAct (pulseEnded a s) a.handle = none := by
  rw [findAct_none, pulseEnded_acts]
  exact fun b hb => (mem_filter_handle.1 hb).2

theorem findAct_resumeHeld_none {s : State} {h : Nat} (hnone : findAct s h = none) (n : Nat) : findAct (resumeHeld n s) h = none := by
  unfold resumeHeld
  split
  · split
    · exact findAct_switchOn_none hnone _
    · exact hnone
  · exact hnone

theorem findAct_switchOff_none (a : Act) (s : State) : findAct (switchOff a s) a.handle = none :=
  findAct_resumeHeld_none (findAct_pulseEnded_none a s) _

theorem switchOff_not_waiting {a : Act} {s : State} (h : heldOn s (partnerOf a.entry.channel) = none) :
    switchOff a s = pulseEnded a s := resumeHeld_none (heldOn_pulseEnded_none h)

theorem partnerOf_ne (n : Nat) : partnerOf n ≠ n := by
  unfold partnerOf
  split <;> omega

theorem partnerOf_partnerOf (n : Nat) : partnerOf (partnerOf n) = n := by
  unfold partnerOf
  split_ifs <;> omega

/-- The channel exists where no safe state holds it: a channel that does not exist reads cause RESET. -/
theorem chan_of_live {s : State} {n : Nat} (h : (chanOf s n).causes = 0) : ∃ c, s.dio.chan[n]? = some c ∧ c.causes = 0 := by
  cases hc : s.dio.chan[n]? with
  | some c => exact ⟨c, rfl, chanOf_eq hc ▸ h⟩
  | none =>
    have hreset : chanOf s n = DioChan.reset := by simp [chanOf, getI, List.getD_eq_getElem?_getD, hc]
    rw [hreset] at h
    exact absurd h (by decide)

section Waiting

variable {a b : Act} {s : State} (hb : heldOn s (partnerOf a.entry.channel) = some b) (hne : b.handle ≠ a.handle)
  (hdue : switchDue s b = true) (hlate : latestReached s b = false) (hdir : (chanOf s b.entry.channel).dir = 2)
  (hlive : (chanOf s b.entry.channel).causes = 0) (hclosed : (feedOf s (b.entry.channel / 2)).closed = true)
  (hfree : (chanOf s a.entry.channel).causes = 0)
  (honly : ∀ x ∈ s.hm.acts, x.entry.channel = a.entry.channel → x.state = .firing → x.handle = a.handle)
include hb hne hdue hlate hdir hlive hclosed hfree honly

/-- The switch-on that waited for this channel fires: the load that interlocked it is off. -/
theorem switchOff_fires_held : switchOff a s = fireAct b (pulseEnded a s) := by
  obtain ⟨-, hch, -⟩ := heldOn_spec hb
  have hpos : (pulseEnded a s).pos = s.pos := (pulseEnded_frame a s).pos_eq (by decide)
  have hother : chanOf (pulseEnded a s) b.entry.channel = chanOf s b.entry.channel :=
    chanOf_congr (pulseEnded_chan_ne a s (hch ▸ partnerOf_ne _))
  have hfeed : feedOf (pulseEnded a s) (b.entry.channel / 2) = feedOf s (b.entry.channel / 2) :=
    feedOf_frame (pulseLogged_frame a s) (by decide) _
  have hoff : (chanOf (pulseEnded a s) (partnerOf b.entry.channel)).out = false := by
    obtain ⟨c, hc, hcauses⟩ := chan_of_live hfree
    obtain ⟨d, hd, hout⟩ := Option.map_eq_some_iff.1 (pulseEnded_out hc hcauses honly)
    rw [hch, partnerOf_partnerOf, chanOf_eq hd, hout]
  have hunlocked : interlocked (pulseEnded a s) b = false := by
    unfold interlocked
    rw [hoff]
    rfl
  rw [switchOff_eq, resumeHeld_due (heldOn_pulseEnded hb hne) ((switchDue_congr b hpos).trans hdue),
    switchOn_free (hother ▸ hdir) (hother ▸ hlive) (hfeed ▸ hclosed) hunlocked, (latestReached_congr b hpos).trans hlate,
    if_neg (by simp)]

theorem mem_switchOff_fired : { b with state := .firing, onAt := s.now, onSpos := spos s } ∈ (switchOff a s).hm.acts := by
  have hmem : b ∈ (pulseEnded a s).hm.acts := by
    rw [pulseEnded_acts]
    exact mem_filter_handle.2 ⟨(heldOn_spec hb).1, hne⟩
  have hfired : b.fired (pulseEnded a s) = { b with state := .firing, onAt := s.now, onSpos := spos s } := by
    unfold Act.fired
    rw [spos_congr ((pulseEnded_frame a s).pos_eq (by decide)), (pulseEnded_frame a s).now_eq (by decide)]
  rw [switchOff_fires_held hb hne hdue hlate hdir hlive hclosed hfree honly, ← hfired]
  exact mem_fireAct hmem

end Waiting

/-! ## PULSE_SWITCH_OFF and PULSE_CAP_EXPIRY (09 R465, R466) -/

theorem offDue_spec {s : State} {a : Act} (h : offDue s a = true) :
    a.onAt + usTicks 100 ≤ s.now ∧ (a.entry.us = true → a.onAt + usTicks a.entry.length ≤ s.now) ∧
      (a.entry.us = false → behind s = false ∧ posI a.target + a.entry.length - dLead s a.entry.leadUs ≤ posI s.pos.hwm) := by
  unfold offDue minOn hwmAt at h
  cases hus : a.entry.us <;> simp_all

section Pulse

variable {ch : Nat} {s : State} {a : Act} (hon : firingOn s ch = some a)
include hon

theorem exec_pulseSwitchOff (t : Nat) : exec (.pulseSwitchOff ch t) s = .next (
    if offDue (s.at_ t) a = true ∧ domOn s 2 = true then switchOff a (s.at_ t) else s.at_ t) := by
  have hon' : firingOn (s.at_ t) ch = some a := hon
  refine congrArg Host.Outcome.next ?_
  rw [hon']
  rfl

theorem exec_pulseCapExpiry_idle (h : a.entry.us = true ∨ domOn s 2 = false) : exec (.pulseCapExpiry ch) s = .next s := by
  refine congrArg Host.Outcome.next ?_
  rw [hon]
  exact if_pos (by simpa using h)

/-- When MAX_MS of the entry has passed since it switched on. -/
def capAt (a : Act) : Nat := a.onAt + msTicks (capMs a.entry)

variable (hpu : a.entry.us = false) (hdom : domOn s 2 = true)
include hpu hdom

theorem exec_pulseCapExpiry : exec (.pulseCapExpiry ch) s = .next (
    if offDue s a = true ∧ s.now < capAt a then switchOff a s else bumpAct 2 (switchOff a (s.at_ (capAt a)))) := by
  refine congrArg Host.Outcome.next ?_
  rw [hon]
  exact if_neg (by simp [hpu, hdom])

end Pulse

theorem capped_now (a : Act) (s : State) (t : Nat) : t ≤ (bumpAct 2 (switchOff a (s.at_ t))).now := by
  have hnow : (switchOff a (s.at_ t)).now = (s.at_ t).now :=
    (switchOff_frame a (s.at_ t) (List.Subset.refl _) (Frame.refl _ _)).now_eq (by decide)
  exact hnow ▸ Nat.le_max_right s.now t

theorem capped_actCtr {a : Act} {s : State} (h : heldOn s (partnerOf a.entry.channel) = none) (t : Nat) :
    (bumpAct 2 (switchOff a (s.at_ t))).hm.actCtr = bumpSat s.hm.actCtr 2 := by
  have h' : heldOn (s.at_ t) (partnerOf a.entry.channel) = none := h
  rw [switchOff_not_waiting h']
  exact congrArg (bumpSat · 2) (pulseEnded_actCtr a (s.at_ t))

/-! ## The statement -/

/-- Settles O46: a switch-on by the channel, the feed, the interlock and LATEST; a switch-off by the pulse's end, which leaves its
output off, and by the switch-on that waited for it. -/
theorem actuationFiresOnce : Obligations.ActuationFiresOnce := by
  unfold Obligations.ActuationFiresOnce
  refine ⟨fun h n t s a c hf hc => ?on, fun h s a hf => ⟨fun hheld hi hl hd => ?_, exec_interlockSkip_idle hf⟩,
    fun ch t s a hon => ?off, fun a s => ?ends, fun ch h n t s hnone hoff => ?absent⟩
  case on =>
    refine ⟨exec_actuationSwitchOn_idle hf n t, fun hstate hdue hdom =>
      ⟨exec_actuationSwitchOn_lost hf n t hstate hdue hdom, exec_actuationSwitchOn_noOutput hf n t hstate hdue hdom hc,
        exec_actuationSwitchOn_safe hf n t hstate hdue hdom hc, fun hgood hdir hlive hopen => ?_, fun hgood hdir hlive hclosed => ?_⟩⟩
    · refine (exec_actuationSwitchOn_live hf n t hstate hdue hdom hc hgood hdir hlive).trans ?_
      rw [if_pos hopen]
      rfl
    · have hlive' := exec_actuationSwitchOn_live hf n t hstate hdue hdom hc hgood hdir hlive
      rw [hclosed, if_neg (by decide)] at hlive'
      refine ⟨fun hi hlate => ?_, fun hi hlate hheld => ?_,
        exec_actuationSwitchOn_holds hf n t hstate hdue hdom hc hgood hdir hlive hclosed,
        fun hi hheld hlate => ?_, exec_actuationSwitchOn_fires hf n t hstate hdue hdom hc hgood hdir hlive hclosed⟩
      · rw [hi, if_pos rfl, hlate, if_pos rfl] at hlive'
        exact hlive'
      · rw [hi, if_pos rfl, hlate, if_neg (by decide), if_pos hheld] at hlive'
        exact hlive'
      · rw [hi, if_neg (by decide), if_pos ⟨hheld, hlate⟩] at hlive'
        exact hlive'
  case off =>
    refine ⟨fun hdue hdom => ?_, fun hidle => ?_, offDue_spec, fun hpu hdom => ⟨fun hdue hcap => ?_, fun hcap => ?_⟩,
      exec_pulseCapExpiry_idle hon⟩
    · rw [exec_pulseSwitchOff hon, if_pos ⟨hdue, hdom⟩]
    · rw [exec_pulseSwitchOff hon, if_neg]
      rintro ⟨hdue, hdom⟩
      simp [hdue, hdom] at hidle
    · rw [exec_pulseCapExpiry hon hpu hdom]
      exact congrArg Host.Outcome.next (if_pos ⟨hdue, hcap⟩)
    · refine ⟨bumpAct 2 (switchOff a (s.at_ (capAt a))), ?_, findAct_switchOff_none a _, capped_now a s _, fun hnone => ?_⟩
      · rw [exec_pulseCapExpiry hon hpu hdom, if_neg]
        rintro ⟨hdue, hlt⟩
        rcases hcap with hcap | hcap
        · exact Bool.false_ne_true (hcap.symm.trans hdue)
        · exact Nat.not_lt.2 hcap hlt
      · exact capped_actCtr hnone _
  case ends =>
    refine ⟨findAct_switchOff_none a s, ?_, ?_, loseAct_dio a s, skipAct_dio a s, fun b hb hne => ⟨?_, ?_⟩, fun hnone => ?_,
      fun b hb hne hdue hlate hdir hlive hclosed hfree honly => mem_switchOff_fired hb hne hdue hlate hdir hlive hclosed hfree honly⟩
    · rw [findAct_none, skipAct_acts]
      exact fun b hb => (mem_filter_handle.1 hb).2
    · rw [findAct_none, loseAct_acts]
      exact fun b hb => (mem_filter_handle.1 hb).2
    · rw [skipAct_acts]
      exact mem_filter_handle.2 ⟨hb, hne⟩
    · rw [loseAct_acts]
      exact mem_filter_handle.2 ⟨hb, hne⟩
    · rw [switchOff_not_waiting hnone]
      refine ⟨fun b hb hne => ?_, fun k hk => pulseEnded_chan_ne a s hk, fun c hc hlive honly => pulseEnded_out hc hlive honly⟩
      rw [pulseEnded_acts]
      exact mem_filter_handle.2 ⟨hb, hne⟩
  case absent =>
    refine ⟨?_, ?_, ?_, ?_⟩
    all_goals refine congrArg Host.Outcome.next ?_
    · rw [show findAct (s.at_ t) h = none from hnone]
    · rw [hnone]
    · rw [show firingOn (s.at_ t) ch = none from hoff]
    · rw [hoff]
  · rw [exec_interlockSkip hf, if_pos ⟨hheld, hi, hl, hd⟩]

end Sys2Proof.Machine
end

section
/-! PROOFS. The feed timeline: what admit_pulse grants, and the judgement of an entry. -/

namespace Sys2Proof.Machine

open Sys2Proof

/-! ## The pulse that lies first -/

/-- Of two pulses the one that lies first, the earlier put forward on equal positions. -/
def firstPulse (m : Option Act) (a : Act) : Option Act :=
  match m with
  | none => some a
  | some b => if posI a.pOn < posI b.pOn then some a else some b

theorem earliestAct_eq (l : List Act) : earliestAct l = l.foldl firstPulse none := rfl

theorem firstPulse_eq (m : Option Act) (a : Act) : firstPulse m a = some a ∨ firstPulse m a = m ∧ m ≠ none := by
  cases m with
  | none => exact .inl rfl
  | some b =>
    rw [firstPulse]
    split
    · exact .inl rfl
    · exact .inr ⟨rfl, by simp⟩

theorem foldl_firstPulse {l : List Act} {m : Option Act} {q : Act} (h : l.foldl firstPulse m = some q) : m = some q ∨ q ∈ l := by
  induction l generalizing m with
  | nil => exact .inl h
  | cons a l ih =>
    rcases ih h with hm | hm
    · rcases firstPulse_eq m a with he | ⟨he, -⟩
      · exact .inr (Option.some.inj (he.symm.trans hm) ▸ List.mem_cons_self)
      · exact .inl (he.symm.trans hm)
    · exact .inr (List.mem_cons_of_mem a hm)

theorem foldl_firstPulse_none {l : List Act} {m : Option Act} (h : l.foldl firstPulse m = none) : m = none ∧ l = [] := by
  induction l generalizing m with
  | nil => exact ⟨h, rfl⟩
  | cons a l ih =>
    rcases firstPulse_eq m a with he | ⟨he, hm⟩
    · exact absurd ((ih h).1.symm.trans he) (by simp)
    · exact absurd (he.symm.trans (ih h).1) hm

theorem earliestAct_mem {l : List Act} {q : Act} (h : earliestAct l = some q) : q ∈ l :=
  (foldl_firstPulse (earliestAct_eq l ▸ h)).resolve_left (by simp)

theorem earliestAct_none {l : List Act} (h : earliestAct l = none) : l = [] := (foldl_firstPulse_none (earliestAct_eq l ▸ h)).2

/-! ## admit_pulse (09 R469, R470) -/

section Admit

variable (acts : List Act) (e : ActEntry) (on off : Int)

/-- The pulses that a pulse from `on` moved by `shift` does not come after. -/
def pulsesAhead (shift : Nat) : List Act := acts.filter fun a => decide (on + shift ≤ posI a.pOff)

/-- The moved pulse stands against none. -/
def Clear (shift : Nat) : Prop := ∀ a ∈ acts, conflicts e.channel e.loadMa (on + shift) (off + shift) a = false

/-- An answer of admit_pulse: a shift that is 0 or within LATEST at which the pulse is clear, or the shift beyond LATEST that
would be needed. -/
def Answers : Sum Nat Nat → Prop
  | .inr shift => (shift = 0 ∨ shift ≤ e.latest) ∧ Clear acts e on off shift
  | .inl needed => e.latest < needed

variable {acts e on off}

/-- Moved behind a pulse that it meets, the pulse has fewer ahead of it. -/
theorem pulsesAhead_lt {shift : Nat} {q : Act} (hq : q ∈ acts) (hmeets : on + shift ≤ posI q.pOff) :
    (pulsesAhead acts on (posI q.pOff + 1 - on).toNat).length < (pulsesAhead acts on shift).length := by
  have hsub : pulsesAhead acts on (posI q.pOff + 1 - on).toNat =
      (pulsesAhead acts on shift).filter fun a => decide (on + (posI q.pOff + 1 - on).toNat ≤ posI a.pOff) := by
    rw [pulsesAhead, pulsesAhead, List.filter_filter]
    refine List.filter_congr fun a _ => ?_
    rw [← Bool.decide_and, decide_eq_decide]
    omega
  rw [hsub, List.length_filter_lt_length_iff_exists]
  exact ⟨q, List.mem_filter.2 ⟨hq, decide_eq_true hmeets⟩, by simp; omega⟩

/-- Each move leaves fewer pulses ahead, so fuel beyond their number is enough to come to an answer. -/
theorem admitPulse_answers (fuel shift : Nat) (hfuel : (pulsesAhead acts on shift).length < fuel)
    (hshift : shift = 0 ∨ shift ≤ e.latest) : Answers acts e on off (admitPulse fuel acts e on off shift) := by
  induction fuel generalizing shift with
  | zero => exact absurd hfuel (Nat.not_lt_zero _)
  | succ fuel ih =>
    unfold admitPulse
    split
    next hnone =>
      exact ⟨hshift, fun a ha => by simpa using List.filter_eq_nil_iff.1 (earliestAct_none hnone) a ha⟩
    next q hq =>
      obtain ⟨hmem, hmeets⟩ := List.mem_filter.1 (earliestAct_mem hq)
      have hon : on + shift ≤ posI q.pOff := by
        simp only [conflicts, Bool.and_eq_true, decide_eq_true_eq] at hmeets
        exact hmeets.1.2
      dsimp only
      split
      next hlate => exact hlate
      next hlate => exact ih _ (by have := pulsesAhead_lt hmem hon; omega) (.inr (Nat.not_lt.1 hlate))

theorem admitPulse_spec {n : Nat} (h : acts.length < n) : Answers acts e on off (admitPulse n acts e on off 0) :=
  admitPulse_answers n 0 (Nat.lt_of_le_of_lt (List.length_filter_le _ _) h) (.inl rfl)

end Admit

/-! ## The judgement (09 R460, R461, R469, R471, R473) -/

/-- What an answer of the timeline comes to (09 R469, R471). -/
def ActVerdict.ofTimeline : Sum Nat Nat → ActVerdict
  | .inr shift => .admitted shift
  | .inl needed => .refused stREFUSED_BUDGET 1 needed

section Judge

variable {s : State} {e : ActEntry} {target : Long}

theorem judgeAct_bad {o : Nat} (hbad : entryBad s e = some o) : judgeAct s e target = .refused stBAD_PARAM 1 0 := by
  unfold judgeAct
  rw [hbad]
  rfl

variable (hgood : entryBad s e = none)
include hgood

theorem judgeAct_full (hfull : 4096 ≤ s.hm.acts.length) : judgeAct s e target = .refused stBUSY 1 0 := by
  unfold judgeAct
  rw [hgood]
  exact if_pos hfull

variable (hroom : s.hm.acts.length < 4096)
include hroom

theorem judgeAct_retired (hret : (chanOf s e.channel).retired = true ∨ (feedOf s (e.channel / 2)).retired = true) :
    judgeAct s e target = .refused stRETIRED 5 0 := by
  unfold judgeAct
  rw [hgood]
  dsimp only
  rw [if_neg (by simp), if_neg (by omega), if_pos (by simpa using hret)]

variable (hchan : (chanOf s e.channel).retired = false) (hfeed : (feedOf s (e.channel / 2)).retired = false)
include hchan hfeed

theorem judgeAct_late (hlate : posI target - leadAdm s e.leadUs ≤ posI s.pos.hwm) :
    judgeAct s e target = .refused stTIMED_OUT 6 0 := by
  unfold judgeAct spanOn
  rw [hgood]
  dsimp only
  rw [if_neg (by simp), if_neg (by omega), hchan, hfeed, if_neg (by simp), if_pos hlate]

/-- An entry that nothing else is against answers what the timeline of its feed answers. -/
theorem judgeAct_timeline (htime : posI s.pos.hwm < posI target - leadAdm s e.leadUs) : judgeAct s e target =
    ActVerdict.ofTimeline (admitPulse (s.hm.acts.length + 2) (feedActs s (e.channel / 2)) e
      (posI target - leadAdm s e.leadUs) (posI target + tailOf s e) 0) := by
  unfold judgeAct spanOn
  rw [hgood]
  dsimp only
  rw [if_neg (by simp), if_neg (by omega), hchan, hfeed, if_neg (by simp), if_neg (by omega)]
  cases admitPulse (s.hm.acts.length + 2) (feedActs s (e.channel / 2)) e (posI target - leadAdm s e.leadUs)
    (posI target + tailOf s e) 0 <;> rfl

theorem judgeAct_answers (htime : posI s.pos.hwm < posI target - leadAdm s e.leadUs) :
    (∀ shift, judgeAct s e target = .admitted shift → shift = 0 ∨ shift ≤ e.latest) ∧
      (∀ st outcome needed, judgeAct s e target = .refused st outcome needed →
        st = stREFUSED_BUDGET ∧ outcome = 1 ∧ e.latest < needed) := by
  have hlen : (feedActs s (e.channel / 2)).length < s.hm.acts.length + 2 := by
    have := List.length_filter_le (fun a : Act => a.entry.channel / 2 == e.channel / 2) s.hm.acts
    exact Nat.lt_of_le_of_lt this (by omega)
  have hans := admitPulse_spec (e := e) (on := posI target - leadAdm s e.leadUs) (off := posI target + tailOf s e) hlen
  rw [judgeAct_timeline hgood hroom hchan hfeed htime]
  cases h : admitPulse (s.hm.acts.length + 2) (feedActs s (e.channel / 2)) e (posI target - leadAdm s e.leadUs)
      (posI target + tailOf s e) 0 with
  | inr shift =>
    have hgranted : Answers _ e _ _ (.inr shift) := h ▸ hans
    exact ⟨fun _ heq => ActVerdict.admitted.inj heq ▸ hgranted.1, fun _ _ _ heq => ActVerdict.noConfusion heq⟩
  | inl needed =>
    have hneeded : Answers _ e _ _ (.inl needed) := h ▸ hans
    refine ⟨fun _ heq => ActVerdict.noConfusion heq, fun st outcome n heq => ?_⟩
    obtain ⟨rfl, rfl, rfl⟩ := ActVerdict.refused.inj heq
    exact ⟨rfl, rfl, hneeded⟩

end Judge

/-- A good entry names an output and has its current and its length within Table 9.6. -/
theorem entryBad_none {s : State} {e : ActEntry} (h : entryBad s e = none) :
    1 ≤ e.loadMa ∧ e.loadMa ≤ 1000 ∧ (chanOf s e.channel).dir = 2 ∧ entryLengthOk e = true := by
  unfold entryBad at h
  split_ifs at h with hdir hload hlen
  simp only [Bool.not_eq_true', Bool.not_eq_false] at hlen
  refine ⟨by omega, by omega, by omega, hlen⟩

/-- Admitted is only what none of the refusals is for. -/
theorem judgeAct_admitted {s : State} {e : ActEntry} {target : Long} {shift : Nat} (h : judgeAct s e target = .admitted shift) :
    entryBad s e = none ∧ s.hm.acts.length < 4096 ∧ posI s.pos.hwm < posI target - leadAdm s e.leadUs := by
  unfold judgeAct spanOn at h
  dsimp only at h
  split_ifs at h with hbad hfull hret hlate
  exact ⟨by simpa using hbad, by omega, by omega⟩

/-! ## The admitted entry -/

/-- An entry as it joins the queue, moved by its shift (09 R462, R469). -/
def enteredAct (handle : Nat) (e : ActEntry) (target : Long) (shift : Nat) (recipe : Option Nat) (tenant : Nat) (s : State) : Act :=
  { handle := handle, entry := e, target := target + BitVec.ofNat 64 shift, shift := shift, pOn := posL ((spanOn s e target).1 + shift)
    pOff := posL ((spanOn s e target).2 + shift), recipe := recipe, tenant := tenant, state := .pending, onAt := 0, onSpos := 0 }

section Commit

variable (handle : Nat) (e : ActEntry) (target : Long) (shift : Nat) (recipe : Option Nat) (tenant : Nat) (s : State)

theorem commitAct_hm : (commitAct handle e target shift recipe tenant s).hm = { s.hm with
    acts := s.hm.acts ++ [enteredAct handle e target shift recipe tenant s]
    actCtr := if shift = 0 then s.hm.actCtr else bumpSat s.hm.actCtr 0 } := by
  unfold commitAct
  dsimp only
  split <;> rfl

theorem commitAct_frame_self : Frame [.hm] s (commitAct handle e target shift recipe tenant s) :=
  commitAct_frame handle e target shift recipe tenant s (List.Subset.refl _) (Frame.refl _ s)

end Commit

/-- Settles O47: admit_pulse by the pulses still ahead, and the judgement by its refusals in their order. -/
theorem pulsesFitTheTimeline : Obligations.PulsesFitTheTimeline := by
  unfold Obligations.PulsesFitTheTimeline
  refine ⟨fun acts e on off n shift hn => ?_, fun handle shift tenant e target recipe s => ?_, fun s e target => ?_⟩
  · have hans := admitPulse_spec (e := e) (on := on) (off := off) hn
    exact ⟨fun h => (h ▸ hans : Answers acts e on off (.inr shift)), fun h => (h ▸ hans : Answers acts e on off (.inl shift))⟩
  · exact ⟨enteredAct handle e target shift recipe tenant s, congrArg Hallmark.acts (commitAct_hm ..), rfl, rfl, rfl, rfl, rfl, rfl,
      rfl, congrArg Hallmark.actCtr (commitAct_hm ..), commitAct_frame_self handle e target shift recipe tenant s⟩
  · refine ⟨fun o => judgeAct_bad, judgeAct_full, judgeAct_retired, fun hgood hroom hchan hfeed =>
      ⟨judgeAct_late hgood hroom hchan hfeed, judgeAct_answers hgood hroom hchan hfeed⟩, fun shift h => ?_⟩
    obtain ⟨hgood, hroom, htime⟩ := judgeAct_admitted h
    obtain ⟨hlow, hhigh, hdir, hlen⟩ := entryBad_none hgood
    exact ⟨htime, hroom, hlow, hhigh, hdir, hlen⟩

end Sys2Proof.Machine
end

section
/-! PROOFS. The opcodes of the HALLMARK group. -/

namespace Sys2Proof.Machine

open Sys2Proof

/-! ## HM_STATUS and HM_RING_SET (15 R710) -/

theorem exec_hmStatus {r : Ref} {p : Packet} {s : State} (h : opStarts 0x0901 r p s = true) : exec (.hmStatus r) s = .next (
    if 15 < fld p.params 0 1 ∧ fld p.params 0 1 ≠ 0xFF then refuse p stBAD_PARAM 0x20 s
    else ok p (regBytes (hmRegs s) ++ lostBytes s (verdictRings s) ++ lostBytes s (actRings s) ++ le4 hmOutLag ++
      (if fld p.params 0 1 = 0xFF then [] else timelineBytes (feedActs s (fld p.params 0 1)))) s) :=
  congrArg Host.Outcome.next (runOp_starts h _)

theorem lookupN_assign_self (l : List (Nat × Nat)) (k v : Nat) : lookupN (assign l k v) k = v := by simp [lookupN, assign]

theorem lookupN_assign_ne (l : List (Nat × Nat)) {k j : Nat} (h : k ≠ j) (v : Nat) : lookupN (assign l k v) j = lookupN l j := by
  have hsame : (fun e : Nat × Nat => decide (e.1 != k ∧ e.1 == j)) = fun e => e.1 == j := by
    funext e
    by_cases he : e.1 = j
    · simp [he, h.symm]
    · simp [he]
  have hfind : (assign l k v).find? (fun e => e.1 == j) = l.find? fun e => e.1 == j := by
    rw [assign, List.find?_cons_of_neg (by simpa using h), List.find?_filter, hsame]
  rw [lookupN, lookupN, hfind]

/-- The rings of a recipe, set to start at their first slot. -/
def recipeRings (h v a : Nat) (s : State) : State :=
  startRing a (startRing v (modRecipe h (fun x => { x with vring := v, aring := a }) s))

/-- The ring of a tenant's host entries, set to start at its first slot. -/
def hostRing (tenant a : Nat) (s : State) : State := startRing a (modTen tenant (fun t => { t with hostARing := a }) s)

theorem startRing_index (h : Nat) (s : State) : lookupN (startRing h s).hm.ringIdx h = 0 := lookupN_assign_self ..

theorem recipeRings_vring_index (h v a : Nat) (s : State) : lookupN (recipeRings h v a s).hm.ringIdx v = 0 := by
  by_cases hva : a = v
  · subst hva
    exact startRing_index ..
  · exact (lookupN_assign_ne _ hva 0).trans (startRing_index ..)

section RingSet

variable {r : Ref} {p : Packet} {s : State} (h : opStarts 0x0902 r p s = true)
include h

theorem exec_hmRingSet : exec (.hmRingSet r) s = .next (
    if fld p.params 0 4 = 0 then
      match ringsBad p [(fld p.params 8 4, 0x28)] s with
      | some (st, off) => refuse p st off s
      | none => ok p [] (hostRing p.tenant (fld p.params 8 4) s)
    else match admTarget p (fld p.params 0 4) 0x20 [.recipe] s with
      | .inl (st, off) => refuse p st off s
      | .inr _ => match ringsBad p [(fld p.params 4 4, 0x24), (fld p.params 8 4, 0x28)] s with
        | some (st, off) => refuse p st off s
        | none => ok p [] (recipeRings (fld p.params 0 4) (fld p.params 4 4) (fld p.params 8 4) s)) :=
  congrArg Host.Outcome.next ((runOp_starts h _).trans rfl)

theorem exec_hmRingSet_host (h0 : fld p.params 0 4 = 0) (hgood : ringsBad p [(fld p.params 8 4, 0x28)] s = none) :
    exec (.hmRingSet r) s = .next (ok p [] (hostRing p.tenant (fld p.params 8 4) s)) := by
  rw [exec_hmRingSet h, if_pos h0, hgood]

theorem exec_hmRingSet_host_bad (h0 : fld p.params 0 4 = 0) {st : Half} {off : Nat}
    (hbad : ringsBad p [(fld p.params 8 4, 0x28)] s = some (st, off)) : exec (.hmRingSet r) s = .next (refuse p st off s) := by
  rw [exec_hmRingSet h, if_pos h0, hbad]

variable (h0 : fld p.params 0 4 ≠ 0)
include h0

theorem exec_hmRingSet_noRecipe {st : Half} {off : Nat} (ht : admTarget p (fld p.params 0 4) 0x20 [.recipe] s = .inl (st, off)) :
    exec (.hmRingSet r) s = .next (refuse p st off s) := by
  rw [exec_hmRingSet h, if_neg h0, ht]

variable {x : Admission} (ht : admTarget p (fld p.params 0 4) 0x20 [.recipe] s = .inr x)
include ht

theorem exec_hmRingSet_recipe_bad {st : Half} {off : Nat}
    (hbad : ringsBad p [(fld p.params 4 4, 0x24), (fld p.params 8 4, 0x28)] s = some (st, off)) :
    exec (.hmRingSet r) s = .next (refuse p st off s) := by
  rw [exec_hmRingSet h, if_neg h0, ht]
  dsimp only
  rw [hbad]

theorem exec_hmRingSet_recipe (hgood : ringsBad p [(fld p.params 4 4, 0x24), (fld p.params 8 4, 0x28)] s = none) :
    exec (.hmRingSet r) s = .next (ok p [] (recipeRings (fld p.params 0 4) (fld p.params 4 4) (fld p.params 8 4) s)) := by
  rw [exec_hmRingSet h, if_neg h0, ht]
  dsimp only
  rw [hgood]

end RingSet

theorem hostRing_frame (tenant a : Nat) (s : State) : Frame [.kw, .hm] s (hostRing tenant a s) :=
  startRing_frame _ _ (by decide) (modTen_frame _ _ s (by decide) (Frame.refl _ s))

theorem ten_hostRing {tenant : Nat} {s : State} (h : tenant < s.kw.tenants.length) (a : Nat) :
    (ten (hostRing tenant a s) tenant).hostARing = a := by
  rw [hostRing, startRing, ten_setHm, ten_modTen_self _ _ _ h]

theorem recipeRings_frame (h v a : Nat) (s : State) : Frame [.hm, .rcp] s (recipeRings h v a s) :=
  startRing_frame _ _ (by decide) (startRing_frame _ _ (by decide) (modRecipe_frame _ _ s (by decide) (Frame.refl _ s)))

theorem findRecipe_recipeRings (h v a : Nat) (s : State) :
    (findRecipe (recipeRings h v a s) h).map (fun x => (x.vring, x.aring)) = (findRecipe s h).map fun _ => (v, a) := by
  have hfind : findRecipe (recipeRings h v a s) h = (findRecipe s h).map fun x => { x with vring := v, aring := a } :=
    findRecipe_modRecipe h s fun _ => rfl
  rw [hfind, Option.map_map]
  rfl

/-! ## A host entry (09 R431, R460, R469, R471) -/

/-- Offset in the entry of the first field at fault: of the entry, of its flags, or the reserved one (09 Table 9.6). -/
def hostFieldBad (b : Bytes) (s : State) : Option Nat :=
  if (entryBad s (entryOfBytes b)).any (· = 0) then some 0 else if 1 < fld b 1 1 then some 1
  else (entryBad s (entryOfBytes b)).or (if fld b 22 2 ≠ 0 then some 22 else none)

/-- A refusal of a host entry, counted and logged in the state `t`. -/
def hostRefused (b : Bytes) (tenant : Nat) (s : State) (st : Half) (outcome : Nat) (result : Bytes) (t : State) : HostAct :=
  { status := st, result := result, state := refuseAct (entryOfBytes b) (expand s (entryOfBytes b).spos) st outcome none tenant t }

theorem commitAct_acts (handle : Nat) (e : ActEntry) (target : Long) (shift : Nat) (recipe : Option Nat) (tenant : Nat) (s : State) :
    (commitAct handle e target shift recipe tenant s).hm.acts = s.hm.acts ++ [enteredAct handle e target shift recipe tenant s] := by
  rw [commitAct_hm]

/-- The request that an admitted host entry makes of the Ledger. -/
def hostRequest (b : Bytes) (cls tenant : Nat) : Request :=
  { kind := .actuation, cls := cls, tenant := tenant, demands := [], object := (entryOfBytes b).channel, vDecl := 0, recipe := 0 }

/-- The handle that an admitted host entry has. -/
def hostHandle (pick : Nat) (s : State) : Nat := freshHandle s pick fun _ => true

/-- The state in which the Ledger has admitted a host entry, its pulse not yet in the queue. -/
def hostAdmitted (b : Bytes) (cls tenant pick : Nat) (s : State) : State :=
  commitAdm (hostRequest b cls tenant) (hostHandle pick s) (reclaimedFor (hostRequest b cls tenant) s)

/-- The admission of a host entry. -/
def hostAdmission (b : Bytes) (cls tenant pick : Nat) (s : State) : Admission :=
  enteredAdm (hostRequest b cls tenant) (hostHandle pick s) (reclaimedFor (hostRequest b cls tenant) s)

/-- The pulse of a host entry that is admitted. -/
def hostPulse (b : Bytes) (cls tenant pick shift : Nat) (s : State) : Act :=
  enteredAct (hostHandle pick s) (entryOfBytes b) (expand s (entryOfBytes b).spos) shift none tenant (hostAdmitted b cls tenant pick s)

theorem hostAdmitted_getLast? (b : Bytes) (cls tenant pick : Nat) (s : State) :
    (hostAdmitted b cls tenant pick s).led.held.getLast? = some (hostAdmission b cls tenant pick s) := commitAdm_getLast? ..

/-- With no admission of class 7 to preempt, the Ledger leaves the queue as it is. -/
theorem hostAdmitted_acts {s : State} {cls : Nat} (h : cls = 7 ∨ ∀ y ∈ s.led.held, y.cls ≠ 7) (b : Bytes) (tenant pick : Nat) :
    (hostAdmitted b cls tenant pick s).hm.acts = s.hm.acts := by
  rw [hostAdmitted, (commitAdm_frame_self _ _ _).hm_eq (by decide), reclaimedFor_none h]

section HostAct

variable {b : Bytes} {s : State} (cls tenant pick : Nat)

theorem hostFieldBad_channel (h : entryBad s (entryOfBytes b) = some 0) : hostFieldBad b s = some 0 := by simp [hostFieldBad, h]

theorem hostFieldBad_flags (h : entryBad s (entryOfBytes b) ≠ some 0) (hf : 1 < fld b 1 1) : hostFieldBad b s = some 1 := by
  have hb : ¬ (entryBad s (entryOfBytes b)).any (· = 0) = true := by
    cases he : entryBad s (entryOfBytes b) with
    | none => exact Bool.false_ne_true
    | some o => simpa using fun h0 => h (he.trans (congrArg some h0))
  rw [hostFieldBad, if_neg hb, if_pos hf]

theorem hostFieldBad_entry {o : Nat} (h : entryBad s (entryOfBytes b) = some o) (h0 : o ≠ 0) (hf : fld b 1 1 ≤ 1) :
    hostFieldBad b s = some o := by
  rw [hostFieldBad, if_neg (by simp [h, h0]), if_neg (by omega), h, Option.some_or]

theorem hostFieldBad_reserved (h : entryBad s (entryOfBytes b) = none) (hf : fld b 1 1 ≤ 1) (hr : fld b 22 2 ≠ 0) :
    hostFieldBad b s = some 22 := by
  rw [hostFieldBad, if_neg (by simp [h]), if_neg (by omega), h, Option.none_or, if_pos hr]

theorem hostFieldBad_none (h : entryBad s (entryOfBytes b) = none) (hf : fld b 1 1 ≤ 1) (hr : fld b 22 2 = 0) :
    hostFieldBad b s = none := by
  rw [hostFieldBad, if_neg (by simp [h]), if_neg (by omega), h, Option.none_or, if_neg (by simp [hr])]

theorem hostAct_badField {o : Nat} (h : hostFieldBad b s = some o) :
    hostAct b cls tenant pick s = hostRefused b tenant s stBAD_PARAM 1 (le2 14 ++ le2 (0x20 + o)) s := by
  unfold hostFieldBad at h
  unfold hostAct
  dsimp only
  rw [h]
  rfl

variable (hgood : hostFieldBad b s = none)
include hgood

theorem hostAct_beyond (h : inHorizon s (entryOfBytes b).spos = false) :
    hostAct b cls tenant pick s = hostRefused b tenant s stREFUSED_HORIZON 1 (le2 14 ++ le2 0x24) s := by
  unfold hostFieldBad at hgood
  unfold hostAct
  dsimp only
  rw [hgood, h]
  rfl

variable (hin : inHorizon s (entryOfBytes b).spos = true)
include hin

theorem hostAct_supply (h : supplyShorts s cls ≠ []) : hostAct b cls tenant pick s =
    { hostRefused b tenant s stBUSY 1 [] (countRefusal s) with
      status := stREFUSED_BUDGET, result := budgetPayload (supplyShorts s cls) } := by
  have hne : (supplyShorts s cls).isEmpty = false := by simpa using h
  unfold hostFieldBad at hgood
  unfold hostAct
  dsimp only
  rw [hgood, hin, hne]
  rfl

variable {cls} (hsup : supplyShorts s cls = [])
include hsup

theorem hostAct_refused {st : Half} {outcome needed : Nat}
    (h : judgeAct s (entryOfBytes b) (expand s (entryOfBytes b).spos) = .refused st outcome needed) :
    hostAct b cls tenant pick s = hostRefused b tenant s st outcome
      (if st = stREFUSED_BUDGET then timelineShort cls (entryOfBytes b) needed else le2 14 ++ le2 noField) s := by
  unfold hostFieldBad at hgood
  unfold hostAct
  dsimp only
  rw [hgood, hin, hsup, h]
  rfl

variable {shift : Nat} (hadm : judgeAct s (entryOfBytes b) (expand s (entryOfBytes b).spos) = .admitted shift)
include hadm

theorem hostAct_admitted : hostAct b cls tenant pick s =
    match (decideAdm (hostRequest b cls tenant) (hostHandle pick s) s).payload with
    | some pl =>
      { hostRefused b tenant s stBUSY 1 [] (decideAdm (hostRequest b cls tenant) (hostHandle pick s) s).state with
        status := stREFUSED_BUDGET, result := pl }
    | none =>
      { status := stOK
        result := le4 (hostHandle pick s) ++
          le4 (low32 (expand s (entryOfBytes b).spos + BitVec.ofNat 64 shift)).toNat ++ le4 shift
        state := commitAct (hostHandle pick s) (entryOfBytes b) (expand s (entryOfBytes b).spos) shift none tenant
          (decideAdm (hostRequest b cls tenant) (hostHandle pick s) s).state } := by
  unfold hostFieldBad at hgood
  unfold hostAct
  dsimp only
  rw [hgood, hin, hsup, hadm]
  rfl

theorem hostAct_short (hl : shorts s (vEff s.led.vadm) cls (withTable []) ≠ []) : hostAct b cls tenant pick s =
    { hostRefused b tenant s stBUSY 1 [] (countRefusal s) with
      status := stREFUSED_BUDGET, result := budgetPayload (shorts s (vEff s.led.vadm) cls (withTable [])) } := by
  have hd := decideAdm_short (q := hostRequest b cls tenant) hl (hostHandle pick s)
  rw [hostAct_admitted tenant pick hgood hin hsup hadm, hd]
  rfl

theorem hostAct_fits (hl : shorts s (vEff s.led.vadm) cls (withTable []) = []) : hostAct b cls tenant pick s =
    { status := stOK
      result := le4 (hostHandle pick s) ++
        le4 (low32 (expand s (entryOfBytes b).spos + BitVec.ofNat 64 shift)).toNat ++ le4 shift
      state := commitAct (hostHandle pick s) (entryOfBytes b) (expand s (entryOfBytes b).spos) shift none tenant
        (hostAdmitted b cls tenant pick s) } := by
  have hd := decideAdm_fits (q := hostRequest b cls tenant) hl (hostHandle pick s)
  rw [hostAct_admitted tenant pick hgood hin hsup hadm, hd]
  rfl

end HostAct

theorem supplyShorts_warned {s : State} {cls : Nat} (hc : 6 ≤ cls) (hw : supplyWarned s = true) : supplyShorts s cls ≠ [] := by
  rw [supplyShorts, if_pos ⟨hc, hw⟩]
  exact List.cons_ne_nil _ _

/-! ## HM_ACT_SCHEDULE, ACT_ENQUEUE and HM_ACT_CANCEL (09 R431, R467, R469) -/

theorem exec_hmActSchedule {r : Ref} {p : Packet} {s : State} (h : opStarts 0x0910 r p s = true) (pick : Nat) :
    exec (.hmActSchedule r pick) s = .next (done p (hostAct p.params p.cls p.tenant pick s).status
      (hostAct p.params p.cls p.tenant pick s).result (hostAct p.params p.cls p.tenant pick s).state) :=
  congrArg Host.Outcome.next (runOp_starts h _)

theorem exec_actEnqueue_idle {s : State} (h : enginesUp s = false ∨ s.fab.lists.find? (fun l => l.engine == 5 && l.running) = none)
    (pick : Nat) : exec (.actEnqueue pick) s = .next s := by
  refine congrArg Host.Outcome.next ?_
  unfold withCmd
  rcases h with h | h
  · rw [h]
    rfl
  · rw [h]
    exact ite_self s

section Enqueue

variable {s : State} {l : CmdList} {c : Cmd} (hup : enginesUp s = true)
  (hl : s.fab.lists.find? (fun l => l.engine == 5 && l.running) = some l) (hcur : l.cur = some c) (hk : c.cmd = 0x100) (pick : Nat)
include hup hl hcur hk

theorem exec_actEnqueue_badArgs (h : c.arg0 ≠ 0 ∨ c.arg1 ≠ 0) : exec (.actEnqueue pick) s = .next (failCmd l stBAD_PARAM s) :=
  congrArg Host.Outcome.next ((withCmd_runs hup hl hcur hk _).trans (if_pos h))

theorem exec_actEnqueue (h0 : c.arg0 = 0) (h1 : c.arg1 = 0) {p : Packet} (hp : findP l.ref s = some p) :
    exec (.actEnqueue pick) s = .next (
      if (hostAct c.body p.cls l.tenant pick s).status = stOK then advance l (hostAct c.body p.cls l.tenant pick s).state
      else failCmd l (hostAct c.body p.cls l.tenant pick s).status (hostAct c.body p.cls l.tenant pick s).state) := by
  refine congrArg Host.Outcome.next ((withCmd_runs hup hl hcur hk _).trans ?_)
  rw [hp]
  exact if_neg (by simp [h0, h1])

end Enqueue

theorem exec_hmActCancel {r : Ref} {p : Packet} {s : State} (h : opStarts 0x0911 r p s = true) : exec (.hmActCancel r) s = .next (
    match admTarget p (fld p.params 0 4) 0x20 [.actuation] s with
    | .inl (st, off) => refuse p st off s
    | .inr a =>
      if (findAct s a.handle).any fun x => x.state == .firing || (x.state == .pending && switchDue s x) then
        refuseWith p stDENIED [1] s
      else ok p [] (release a s)) := congrArg Host.Outcome.next ((runOp_starts h _).trans rfl)

/-! ## HM_PLATE_EDGE (09 R435 to R438) -/

section Edge

variable (x : Recipe) (leading : Bool) (pos : Long) (s : State)

/-- The state in which an edge is judged: a plate that is overlong by then has closed, unless the unit is behind (09 R438). -/
def edgeJudged : State := if behind s then s else closeOverlong leading pos s x

theorem edgeJudged_frame : Frame [.hm] s (edgeJudged x leading pos s) := by
  unfold edgeJudged
  split
  · exact Frame.refl _ s
  · exact closeOverlong_frame leading pos s x (List.Subset.refl _) (Frame.refl _ s)

theorem edgeFor_unconcerned {x : Recipe} {leading : Bool} {pos : Long} {s : State} (h : edgeConcerns s x leading pos = false) :
    edgeFor [x] leading pos s = (false, s) := by
  unfold edgeFor
  simp [h]

theorem edgeFor_concerned {x : Recipe} {leading : Bool} {pos : Long} {s : State} (h : edgeConcerns s x leading pos = true) :
    edgeFor [x] leading pos s =
      if edgeTaken (edgeJudged x leading pos s) x leading pos then (true, plateEdge x leading pos (edgeJudged x leading pos s))
      else (false, bumpTile 2 (edgeJudged x leading pos s)) := by
  have hl : [x].filter (fun r => edgeConcerns s r leading pos) = [x] := by simp [h]
  have hj : (if behind s then s else [x].foldl (closeOverlong leading pos) s) = edgeJudged x leading pos s := rfl
  unfold edgeFor
  rw [hl]
  dsimp only
  rw [hj]
  cases ht : edgeTaken (edgeJudged x leading pos s) x leading pos
  · rw [List.filter_cons_of_neg (by simp [ht])]
    rfl
  · rw [List.filter_cons_of_pos (by simp [ht])]
    rfl

end Edge

section Taken

variable {x : Recipe} {leading : Bool} {pos : Long} {s : State}

theorem edgeTaken_spec {t : State} (h : edgeTaken t x leading pos = true) :
    behind t = false ∧ leading ≠ (openPlate t x.handle).isSome := by
  simp only [edgeTaken, Bool.and_eq_true, Bool.not_eq_true', bne_iff_ne] at h
  exact ⟨h.1.1, h.2⟩

/-- An edge that is not taken leaves the recipes alone. -/
theorem edgeFor_ignored (h : (edgeFor [x] leading pos s).1 = false) : (edgeFor [x] leading pos s).2.rcp = s.rcp := by
  cases hc : edgeConcerns s x leading pos with
  | false => rw [edgeFor_unconcerned hc]
  | true =>
    rw [edgeFor_concerned hc] at h ⊢
    split at h
    · exact Bool.noConfusion h
    next ht =>
      rw [if_neg ht]
      exact (edgeJudged_frame x leading pos s).rcp_eq (by decide)

/-- A taken edge concerns the recipe, is not behind, and opens or closes a plate in the state in which it is judged. -/
theorem edgeFor_taken (h : (edgeFor [x] leading pos s).1 = true) : edgeConcerns s x leading pos = true ∧ behind s = false ∧
    leading ≠ (openPlate (edgeJudged x leading pos s) x.handle).isSome ∧
    (edgeFor [x] leading pos s).2 = plateEdge x leading pos (edgeJudged x leading pos s) := by
  cases hc : edgeConcerns s x leading pos with
  | false =>
    rw [edgeFor_unconcerned hc] at h
    exact Bool.noConfusion h
  | true =>
    rw [edgeFor_concerned hc] at h ⊢
    split at h
    next ht =>
      obtain ⟨hb, hplate⟩ := edgeTaken_spec ht
      have hpos : (edgeJudged x leading pos s).pos = s.pos := (edgeJudged_frame x leading pos s).pos_eq (by decide)
      rw [if_pos ht]
      exact ⟨rfl, by rwa [behind, hpos] at hb, hplate, rfl⟩
    · exact Bool.noConfusion h

/-- The state in which a taken edge has been noted in its recipe. -/
def edgeNoted (x : Recipe) (pos : Long) (t : State) : State := modRecipe x.handle (fun r => { r with lastEdge := some pos }) t

theorem findRecipe_edgeNoted (t : State) :
    (findRecipe (edgeNoted x pos t) x.handle) = (findRecipe t x.handle).map fun r => { r with lastEdge := some pos } :=
  findRecipe_modRecipe _ t fun _ => rfl

theorem lastEdge_edgeNoted {t : State} (hx : (findRecipe t x.handle).isSome = true) :
    (findRecipe (edgeNoted x pos t) x.handle).map (·.lastEdge) = some (some pos) := by
  obtain ⟨y, hy⟩ := Option.isSome_iff_exists.1 hx
  rw [findRecipe_edgeNoted, hy]
  rfl

theorem plateEdge_trailing (t : State) : plateEdge x false pos t =
    match openPlate t x.handle with
    | some p => closePlate x p (posI pos + x.image.edgeOfs) (edgeNoted x pos t)
    | none => edgeNoted x pos t := by
  unfold plateEdge
  exact if_neg (by decide)

theorem lastEdge_plateEdge {t : State} (hx : (findRecipe t x.handle).isSome = true) :
    (findRecipe (plateEdge x leading pos t) x.handle).map (·.lastEdge) = some (some pos) := by
  have hnoted : (findRecipe (edgeNoted x pos t) x.handle).map (·.lastEdge) = some (some pos) := lastEdge_edgeNoted hx
  cases leading with
  | true =>
    have hnext : findRecipe (plateEdge x true pos t) x.handle =
        (findRecipe (edgeNoted x pos t) x.handle).map fun r => { r with nextPart := x.nextPart + 1 } :=
      findRecipe_modRecipe (f := fun r => { r with nextPart := x.nextPart + 1 }) _ _ fun _ => rfl
    rw [hnext, Option.map_map]
    exact hnoted
  | false =>
    rw [plateEdge_trailing]
    split
    · exact hnoted
    · exact hnoted

theorem plateEdge_leading_part (t : State) : (plateEdge x true pos t).hm.parts.getLast? =
    some (freshPart x.handle (x.nextPart + 1) (posL (posI pos + x.image.edgeOfs)) none) := List.getLast?_concat

theorem findPart_closePlate {t : State} {p z : Part} (hz : findPart t x.handle p.id = some z) (stop : Int) :
    (findPart (closePlate x p stop t) x.handle p.id).map (·.stop) = some (some (posL stop)) := by
  unfold closePlate
  rw [findPart_modPart hz]
  · rfl
  · exact fun _ => ⟨rfl, rfl⟩

/-- The plate that an edge closes ends at the edge's position. -/
theorem findPart_plateEdge_trailing {t : State} {q z : Part} (hq : openPlate t x.handle = some q)
    (hz : findPart t x.handle q.id = some z) :
    (findPart (plateEdge x false pos t) x.handle q.id).map (·.stop) = some (some (posL (posI pos + x.image.edgeOfs))) := by
  rw [plateEdge_trailing, hq]
  exact findPart_closePlate (t := edgeNoted x pos t) hz _

/-- With one plate open, closing it at MAX_LEN leaves none open. -/
theorem openPlate_closeLong {q : Part} (hone : ∀ y ∈ s.hm.parts, y.recipe = x.handle → y.stop = none → y = q) :
    openPlate (closeLong x q s) x.handle = none := by
  rw [openPlate, List.find?_eq_none]
  intro y hy hopen
  obtain ⟨hrec, hstop⟩ : y.recipe = x.handle ∧ y.stop = none := by simpa using hopen
  obtain ⟨z, hz, rfl⟩ := List.mem_map.1 (show y ∈ List.map _ s.hm.parts from hy)
  by_cases hzq : z.recipe = x.handle ∧ z.id = q.id
  · rw [if_pos hzq] at hstop
    exact absurd hstop (by simp)
  · rw [if_neg hzq] at hrec hstop
    exact hzq ⟨hrec, congrArg Part.id (hone z hz hrec hstop)⟩

/-- A trailing edge that is taken finds the one open plate still open, as it was before the edge. -/
theorem edgeJudged_trailing {q : Part} (hopen : openPlate s x.handle = some q)
    (hone : ∀ y ∈ s.hm.parts, y.recipe = x.handle → y.stop = none → y = q) (hb : behind s = false)
    (htaken : false ≠ (openPlate (edgeJudged x false pos s) x.handle).isSome) : edgeJudged x false pos s = s := by
  have hclose : edgeJudged x false pos s =
      if plateLast x.image q < posI pos + x.image.edgeOfs then closeLong x q s else s := by
    unfold edgeJudged closeOverlong
    rw [hb, hopen]
    simp
  rw [hclose] at htaken ⊢
  split at htaken
  · rw [openPlate_closeLong hone] at htaken
    exact absurd rfl htaken
  next hlong => rw [if_neg hlong]

/-- An edge of a known recipe that is taken is noted there. -/
theorem edgeFor_lastEdge (hx : (findRecipe s x.handle).isSome = true) (h : (edgeFor [x] leading pos s).1 = true) :
    (findRecipe (edgeFor [x] leading pos s).2 x.handle).map (·.lastEdge) = some (some pos) := by
  obtain ⟨-, -, -, htaken⟩ := edgeFor_taken h
  have hrcp : (edgeJudged x leading pos s).rcp = s.rcp := (edgeJudged_frame x leading pos s).rcp_eq (by decide)
  have hjudged : findRecipe (edgeJudged x leading pos s) x.handle = findRecipe s x.handle := by rw [findRecipe, hrcp, findRecipe]
  rw [htaken]
  exact lastEdge_plateEdge (by rwa [hjudged])

/-- A taken leading edge opens the recipe's next part at its position. -/
theorem edgeFor_leading_part (h : (edgeFor [x] true pos s).1 = true) : (edgeFor [x] true pos s).2.hm.parts.getLast? =
    some (freshPart x.handle (x.nextPart + 1) (posL (posI pos + x.image.edgeOfs)) none) := by
  obtain ⟨-, -, -, htaken⟩ := edgeFor_taken h
  rw [htaken]
  exact plateEdge_leading_part _

/-- A taken trailing edge ends the one plate that is open at its position. -/
theorem edgeFor_trailing_part {q : Part} (hq : q ∈ s.hm.parts) (hrec : q.recipe = x.handle) (hstop : q.stop = none)
    (hone : ∀ y ∈ s.hm.parts, y.recipe = x.handle → y.stop = none → y = q) (h : (edgeFor [x] false pos s).1 = true) :
    (findPart (edgeFor [x] false pos s).2 x.handle q.id).map (·.stop) = some (some (posL (posI pos + x.image.edgeOfs))) := by
  have hopen : openPlate s x.handle = some q := by
    have hsome : (openPlate s x.handle).isSome = true := List.find?_isSome.2 ⟨q, hq, by simp [hrec, hstop]⟩
    obtain ⟨y, hy⟩ := Option.isSome_iff_exists.1 hsome
    obtain ⟨hmem, hyrec, hystop⟩ := openPlate_spec hy
    rw [hy, hone y hmem hyrec hystop]
  obtain ⟨z, hz⟩ := Option.isSome_iff_exists.1 (show (findPart s x.handle q.id).isSome = true from
    List.find?_isSome.2 ⟨q, hq, by simp [hrec]⟩)
  obtain ⟨-, hb, hplate, htaken⟩ := edgeFor_taken h
  rw [htaken, edgeJudged_trailing hopen hone hb hplate]
  exact findPart_plateEdge_trailing hopen hz

end Taken

section PlateEdge

variable {r : Ref} {p : Packet} {s : State} (h : opStarts 0x0920 r p s = true)
include h

theorem exec_hmPlateEdge : exec (.hmPlateEdge r) s = .next (
    match admTarget p (fld p.params 0 4) 0x20 [.recipe] s with
    | .inl (st, off) => refuse p st off s
    | .inr a => match findRecipe s a.handle with
      | none => refuse p stBAD_PARAM 0x20 s
      | some x =>
        if 1 < fld p.params 4 1 then refuse p stBAD_PARAM 0x24 s
        else if x.image.model ≠ 1 ∨ x.image.edgeSrc ≠ 1 then refuse p stBAD_PARAM 0x20 s
        else if !inHorizon s (BitVec.ofNat 32 (fld p.params 8 4)) then refuse p stREFUSED_HORIZON 0x28 s
        else ok p (le1 (b2n (edgeFor [x] (fld p.params 4 1 == 0) (expand s (BitVec.ofNat 32 (fld p.params 8 4))) s).1) ++ [0, 0, 0])
          (edgeFor [x] (fld p.params 4 1 == 0) (expand s (BitVec.ofNat 32 (fld p.params 8 4))) s).2) :=
  congrArg Host.Outcome.next ((runOp_starts h _).trans rfl)

variable {a : Admission} (ha : admTarget p (fld p.params 0 4) 0x20 [.recipe] s = .inr a) {x : Recipe}
  (hx : findRecipe s a.handle = some x)
include ha hx

theorem exec_hmPlateEdge_found : exec (.hmPlateEdge r) s = .next (
    if 1 < fld p.params 4 1 then refuse p stBAD_PARAM 0x24 s
    else if x.image.model ≠ 1 ∨ x.image.edgeSrc ≠ 1 then refuse p stBAD_PARAM 0x20 s
    else if !inHorizon s (BitVec.ofNat 32 (fld p.params 8 4)) then refuse p stREFUSED_HORIZON 0x28 s
    else ok p (le1 (b2n (edgeFor [x] (fld p.params 4 1 == 0) (expand s (BitVec.ofNat 32 (fld p.params 8 4))) s).1) ++ [0, 0, 0])
      (edgeFor [x] (fld p.params 4 1 == 0) (expand s (BitVec.ofNat 32 (fld p.params 8 4))) s).2) := by
  rw [exec_hmPlateEdge h, ha]
  dsimp only
  rw [hx]

end PlateEdge

theorem takenByte_zero {b : Bool} (h : BitVec.ofNat 8 (b2n b) = 0) : b = false := by
  cases b with
  | false => rfl
  | true => exact absurd h (by decide)

theorem takenByte_one {b : Bool} (h : BitVec.ofNat 8 (b2n b) = 1) : b = true := by
  cases b with
  | false => exact absurd h (by decide)
  | true => rfl

theorem takenByte_cases (b : Bool) : BitVec.ofNat 8 (b2n b) = 0 ∨ BitVec.ofNat 8 (b2n b) = 1 := by
  cases b with
  | false => exact .inl rfl
  | true => exact .inr rfl

/-- Settles O48: each opcode by the equation of its arm, a host entry by the first of its refusals that applies, and a plate
edge by the state in which it is judged. -/
theorem hallmarkOpcodes : Obligations.HallmarkOpcodes := by
  unfold Obligations.HallmarkOpcodes
  refine ⟨fun r p s h => ?status, fun r p s h => ?ringSet, fun b cls tenant pick s => ?hostEntry,
    fun r p s pick h => exec_hmActSchedule h pick, fun pick s l c p hup hl hcur hk => ?enqueue,
    fun pick s h => exec_actEnqueue_idle h pick, fun r p s h => ?cancel, fun r p s h => ?plateEdge⟩
  case status =>
    refine ⟨fun hlow hhigh => ?_, fun hk => ?_⟩
    · rw [exec_hmStatus h, if_pos ⟨hlow, hhigh⟩]
    · rw [exec_hmStatus h, if_neg (by omega)]
      rfl
  case ringSet =>
    refine ⟨fun st off h0 hbad => exec_hmRingSet_host_bad h h0 hbad, fun h0 hgood => ?_,
      fun st off h0 ht => exec_hmRingSet_noRecipe h h0 ht, fun x h0 ht => ⟨fun st off hbad => exec_hmRingSet_recipe_bad h h0 ht hbad,
        fun hgood => ?_⟩⟩
    · exact ⟨_, exec_hmRingSet_host h h0 hgood, hostRing_frame _ _ s, startRing_index .., fun hten => ten_hostRing hten _⟩
    · exact ⟨_, exec_hmRingSet_recipe h h0 ht hgood, recipeRings_frame _ _ _ s, startRing_index .., recipeRings_vring_index ..,
        findRecipe_recipeRings ..⟩
  case hostEntry =>
    refine ⟨fun he => ?_, fun he hf => ?_, fun o he h0 hf => ?_, fun he hf hr => ?_, fun he hf hr => ?_⟩
    · exact hostAct_badField cls tenant pick (hostFieldBad_channel he)
    · exact hostAct_badField cls tenant pick (hostFieldBad_flags he hf)
    · exact hostAct_badField cls tenant pick (hostFieldBad_entry he h0 hf)
    · exact hostAct_badField cls tenant pick (hostFieldBad_reserved he hf hr)
    have hgood := hostFieldBad_none he hf hr
    refine ⟨fun hin => hostAct_beyond cls tenant pick hgood hin, fun hin hcls hwarn => ?supply, fun hin hsup =>
      ⟨fun st outcome needed hj => hostAct_refused tenant pick hgood hin hsup hj, fun shift hj hl => ?short,
        fun shift hj hl => ?fits⟩⟩
    case supply =>
      rw [hostAct_supply cls tenant pick hgood hin (supplyShorts_warned hcls hwarn)]
      exact ⟨rfl, rfl, refuseAct_led .., refuseAct_acts ..⟩
    case short =>
      rw [hostAct_short tenant pick hgood hin hsup hj hl]
      exact ⟨rfl, rfl, refuseAct_acts ..⟩
    case fits =>
      rw [hostAct_fits tenant pick hgood hin hsup hj hl]
      refine ⟨_, hostPulse b cls tenant pick shift s, hostAdmission b cls tenant pick s, rfl, rfl, ?last, rfl, rfl, rfl, rfl, rfl, rfl,
        rfl, ?held, rfl, rfl, rfl, rfl, fun hnone => ?queue⟩
      case last =>
        dsimp only
        rw [commitAct_acts]
        exact List.getLast?_concat
      case held =>
        dsimp only
        rw [(commitAct_frame_self _ _ _ _ _ _ _).led_eq (by decide)]
        exact hostAdmitted_getLast? ..
      case queue =>
        dsimp only
        rw [commitAct_acts, hostAdmitted_acts hnone]
        rfl
  case enqueue =>
    refine ⟨fun hargs => exec_actEnqueue_badArgs hup hl hcur hk pick hargs, fun h0 h1 hp => ⟨fun hst => ?_, fun hst => ?_⟩⟩
    · rw [exec_actEnqueue hup hl hcur hk pick h0 h1 hp, if_pos hst]
    · rw [exec_actEnqueue hup hl hcur hk pick h0 h1 hp, if_neg hst]
  case cancel =>
    refine ⟨fun st off ht => ?_, fun a ht => ⟨fun hgone => ?_, fun hgone => ?_⟩⟩
    · rw [exec_hmActCancel h, ht]
    · rw [exec_hmActCancel h, ht]
      exact congrArg Host.Outcome.next (if_pos hgone)
    · rw [exec_hmActCancel h, ht]
      exact congrArg Host.Outcome.next (if_neg (by rw [hgone]; exact Bool.false_ne_true))
  case plateEdge =>
    refine ⟨fun st off ht => ?_, fun a x ha hx => ?_⟩
    · rw [exec_hmPlateEdge h, ht]
    have hfound := exec_hmPlateEdge_found h ha hx
    have hhandle : x.handle = a.handle := findRecipe_handle hx
    refine ⟨fun hk => ?_, fun hk hmodel => ?_, fun hk hmodel hsrc => ⟨fun hin => ?_, fun hin => ?_⟩⟩
    · rw [hfound, if_pos hk]
    · rw [hfound, if_neg (by omega), if_pos hmodel]
    · rw [hfound, if_neg (by omega), if_neg (by simp [hmodel, hsrc]), if_pos (by simp [hin])]
    · rw [if_neg (by omega), if_neg (by simp [hmodel, hsrc]), if_neg (by simp [hin])] at hfound
      refine ⟨_, _, hfound, edgeFor_frame _ _ _ s (List.Subset.refl _) (Frame.refl _ s), takenByte_cases _,
        fun h0 => edgeFor_ignored (takenByte_zero h0), fun h1 => ?noted, fun h1 hk0 => ?leading,
        fun q h1 hk1 hq hrec hstop hone => ?trailing⟩
      case noted =>
        obtain ⟨hconc, hb, -, -⟩ := edgeFor_taken (takenByte_one h1)
        exact ⟨hb, hconc, hhandle ▸ edgeFor_lastEdge (by rw [hhandle, hx]; rfl) (takenByte_one h1)⟩
      case leading =>
        have htaken := takenByte_one h1
        rw [hk0] at htaken ⊢
        exact ⟨_, edgeFor_leading_part htaken, hhandle, rfl, rfl, rfl, rfl⟩
      case trailing =>
        have htaken := takenByte_one h1
        rw [hk1] at htaken ⊢
        rw [← hhandle] at hrec hone ⊢
        exact edgeFor_trailing_part hq hrec hstop hone htaken

end Sys2Proof.Machine
end

section
/-! PROOFS. Field outputs: what an output's update, a pulse's end and a cause of a safe state leave of a channel, and which
operations enter nothing in the actuation queue. -/

namespace Sys2Proof.Machine

open Sys2Proof

/-! ## An output brought up to date (10 R495 to R507, Table 10.9) -/

/-- A channel whose output has been brought up to date. -/
def DioChan.settled (o : Bool) (c : DioChan) : DioChan :=
  { c with out := o, meas := if c.dir = 2 ∧ !o then 0 else c.meas, openload := if o then false else c.openload }

theorem chan_settleOut {s : State} {n : Nat} {c : DioChan} (h : s.dio.chan[n]? = some c) :
    (settleOut n s).dio.chan[n]? = some (c.settled (outNow s n)) := chan_modChan_self h _

theorem settleOut_feed (n : Nat) (s : State) : (settleOut n s).dio.feed = s.dio.feed := rfl
theorem settleOut_fieldV (n : Nat) (s : State) : (settleOut n s).dio.fieldV = s.dio.fieldV := rfl

theorem feedOf_eq {s : State} {k : Nat} {f : Feed} (h : s.dio.feed[k]? = some f) : feedOf s k = f := getI_of_getElem? _ h

theorem feedOf_congr {s t : State} (h : t.dio.feed = s.dio.feed) (k : Nat) : feedOf t k = feedOf s k := by rw [feedOf, feedOf, h]

theorem feed_modFeed_self {s : State} {k : Nat} {f : Feed} (h : s.dio.feed[k]? = some f) (g : Feed → Feed) :
    (modFeed k g s).dio.feed[k]? = some (g f) := getElem?_upd_self g h

theorem feed_modFeed_ne {j k : Nat} (h : j ≠ k) (g : Feed → Feed) (s : State) :
    (modFeed k g s).dio.feed[j]? = s.dio.feed[j]? := by simp [modFeed, upd, h.symm]

/-! ### What holds an output off -/

section Off

variable {s : State} {n : Nat}

theorem outNow_of_open (h : (feedOf s (n / 2)).closed = false) : outNow s n = false := by simp [outNow, h]

theorem outNow_of_retired (h : (chanOf s n).retired = true) : outNow s n = false := by simp [outNow, h]

theorem outNow_of_safe (hc : (chanOf s n).safe = true) (ho : (chanOf s n).safeOn = false) : outNow s n = false := by
  simp [outNow, hc, ho]

/-- A channel that a short has switched off stays off until an entry switches it on. -/
theorem outNow_of_shorted (hc : (chanOf s n).shorted = true) (hf : firingOn s n = none) : outNow s n = false := by
  simp [outNow, hc, hf]

end Off

/-! ## The queue and its pulses -/

theorem firingOn_none {s : State} {n : Nat} :
    firingOn s n = none ↔ ∀ a ∈ s.hm.acts, a.entry.channel = n → a.state ≠ .firing := by
  simp [firingOn]

/-- Nothing has entered the actuation queue between two states. -/
def FewerActs (s t : State) : Prop := t.hm.acts ⊆ s.hm.acts

section FewerActs

variable {s t u : State}

theorem FewerActs.refl (s : State) : FewerActs s s := List.Subset.refl _
theorem FewerActs.trans (h : FewerActs s t) (k : FewerActs t u) : FewerActs s u := List.Subset.trans k h
theorem FewerActs.of_acts (h : t.hm.acts = s.hm.acts) : FewerActs s t := fun _ ha => h ▸ ha
theorem FewerActs.of_frame {l : List Chapter} (h : Frame l s t) (hp : Chapter.hm ∉ l) : FewerActs s t :=
  .of_acts (congrArg Hallmark.acts (h.hm_eq hp))

/-- A channel on which no pulse is on gets none without a new entry. -/
theorem FewerActs.firingOn_none {n : Nat} (h : FewerActs s t) (hoff : firingOn s n = none) : firingOn t n = none :=
  Machine.firingOn_none.2 fun a ha => Machine.firingOn_none.1 hoff a (h ha)

end FewerActs

theorem dropAct_fewer (h : Nat) (s : State) : FewerActs s (dropAct h s) := fun _ ha => List.mem_of_mem_filter ha

theorem logActOf_dropAct_fewer (a : Act) (outcome : Nat) (off : Word) (h : Nat) (s : State) :
    FewerActs s (logActOf a outcome off (dropAct h s)) :=
  (dropAct_fewer h s).trans (.of_acts (logActOf_acts ..))

theorem logFired_acts (l : List Act) (s : State) :
    (logFired l s).hm.acts = s.hm.acts.filter fun a => l.all fun b => a.handle != b.handle := by
  induction l generalizing s with
  | nil => simp [logFired]
  | cons b l ih => rw [logFired, ih, logActOf_acts, dropAct_acts, List.filter_filter]; simp [Bool.and_comm]

theorem logFired_dio (l : List Act) (s : State) : (logFired l s).dio = s.dio :=
  (logFired_frame l s (List.Subset.refl _) (Frame.refl _ s)).dio_eq (by decide)

/-- The pulses that are on at a channel, logged FIRED and out of the queue, before the output follows. -/
def pulsesLogged (n : Nat) (s : State) : State :=
  logFired (s.hm.acts.filter fun a => a.entry.channel == n && a.state == .firing) s

theorem endPulse_eq (n : Nat) (s : State) : endPulse n s = settleOut n (pulsesLogged n s) := rfl

@[simp] theorem pulsesLogged_dio (n : Nat) (s : State) : (pulsesLogged n s).dio = s.dio := logFired_dio _ s

theorem pulsesLogged_fewer (n : Nat) (s : State) : FewerActs s (pulsesLogged n s) := by
  intro a ha
  rw [pulsesLogged, logFired_acts] at ha
  exact List.mem_of_mem_filter ha

theorem firingOn_pulsesLogged (n : Nat) (s : State) : firingOn (pulsesLogged n s) n = none := by
  rw [firingOn_none, pulsesLogged, logFired_acts]
  intro a ha hch hst
  obtain ⟨hmem, hall⟩ := List.mem_filter.1 ha
  have hon : a ∈ s.hm.acts.filter fun a => a.entry.channel == n && a.state == .firing :=
    List.mem_filter.2 ⟨hmem, by simp [hch, hst]⟩
  simpa using List.all_eq_true.1 hall a hon

/-! ## The end of a pulse (09 R474) -/

theorem endPulse_fewer (n : Nat) (s : State) : FewerActs s (endPulse n s) := pulsesLogged_fewer n s

theorem firingOn_endPulse (n : Nat) (s : State) : firingOn (endPulse n s) n = none := firingOn_pulsesLogged n s

theorem chan_endPulse {s : State} {n : Nat} {c : DioChan} (h : s.dio.chan[n]? = some c) :
    (endPulse n s).dio.chan[n]? = some (c.settled (outNow (pulsesLogged n s) n)) :=
  chan_settleOut (s := pulsesLogged n s) (by rwa [pulsesLogged_dio])

theorem chan_endPulse_ne {n k : Nat} (hk : k ≠ n) (s : State) : (endPulse n s).dio.chan[k]? = s.dio.chan[k]? := by
  rw [endPulse_eq, chan_settleOut_ne hk, pulsesLogged_dio]

theorem endPulse_feed (n : Nat) (s : State) : (endPulse n s).dio.feed = s.dio.feed := by
  rw [endPulse_eq, settleOut_feed, pulsesLogged_dio]

theorem endPulse_fieldV (n : Nat) (s : State) : (endPulse n s).dio.fieldV = s.dio.fieldV := by
  rw [endPulse_eq, settleOut_fieldV, pulsesLogged_dio]

/-! ## Causes of safe states (10 R503 to R507) -/

/-- A set of causes with one cause set or cleared. -/
def causeSet (b : Nat) (on : Bool) (w : Word) : Word := if on then w ||| ((1 : Word) <<< b) else w &&& ~~~((1 : Word) <<< b)

def DioChan.withCause (b : Nat) (on : Bool) (c : DioChan) : DioChan := { c with causes := causeSet b on c.causes }

theorem getLsbD_causeSet (b : Nat) (on : Bool) (w : Word) {i : Nat} (hi : i < 32) :
    (causeSet b on w).getLsbD i = if i = b then on else w.getLsbD i := by
  have hbit : ((1 : Word) <<< b).getLsbD i = decide (i = b) := by
    rw [BitVec.getLsbD_shiftLeft, show (1 : Word) = 1#32 from rfl, BitVec.getLsbD_one]
    simp only [hi, decide_true, Bool.true_and]
    grind
  cases on
  · rw [causeSet, if_neg Bool.false_ne_true, BitVec.getLsbD_and, BitVec.getLsbD_not, hbit]
    by_cases hib : i = b <;> simp [hib, hi]
  · rw [causeSet, if_pos rfl, BitVec.getLsbD_or, hbit]
    by_cases hib : i = b <;> simp [hib]

/-- A cause that is as asked stays as it is. -/
theorem causeSet_of_getLsbD {b : Nat} {on : Bool} {w : Word} (h : w.getLsbD b = on) : causeSet b on w = w := by
  refine BitVec.eq_of_getLsbD_eq fun i hi => ?_
  rw [getLsbD_causeSet b on w hi]
  split
  next hib => rw [hib, h]
  next => rfl

/-- What the change of a cause leaves off: an output of an open feed, one that is not SAFE ON in its safe state, and one that
leaves its safe state (10 R497, R504, R507). -/
def StaysOff (b : Nat) (on : Bool) (c : DioChan) (closed : Bool) : Prop :=
  closed = false ∨ if (c.withCause b on).safe = true then c.safeOn = false else c.safe = true

theorem actSkipped_dio (a : Act) (s : State) : (logActOf { a with onSpos := 0 } 2 0 (dropAct a.handle s)).dio = s.dio :=
  (logActOf_frame _ 2 0 _ (by decide) (dropAct_frame a.handle s (by decide) (Frame.refl [.led, .draw, .hm] s))).dio_eq (by decide)

/-- A pulse skipped in the cycle of its switch-on changes no channel and no feed. -/
theorem skipNow_dio (n : Nat) (s : State) : ∃ k, (skipNow n s).dio = { s.dio with safeSkip := k } := by
  unfold skipNow
  split
  · split
    · exact ⟨_, congrArg (fun d : FieldIo => { d with safeSkip := satInc d.safeSkip }) (actSkipped_dio _ s)⟩
    · exact ⟨_, rfl⟩
  · exact ⟨_, rfl⟩

/-- The state in which a changed cause settles its output: the causes are changed, and a switch-on of this cycle is skipped. -/
def causeChanged (b : Nat) (on : Bool) (n : Nat) (s : State) : State :=
  if !(chanOf s n).safe && on && (chanOf s n).dir == 2 then skipNow n (modChan n (DioChan.withCause b on) s)
  else modChan n (DioChan.withCause b on) s

theorem causeOn_eq (b : Nat) (on : Bool) (n : Nat) (s : State) : causeOn b on n s =
    if (!(chanOf s n).safe && on && !(chanOf s n).safeOn) || ((chanOf s n).safe && !(chanOf (causeChanged b on n s) n).safe)
    then endPulse n (causeChanged b on n s) else settleOut n (causeChanged b on n s) := rfl

theorem causeChanged_dio (b : Nat) (on : Bool) (n : Nat) (s : State) :
    ∃ k, (causeChanged b on n s).dio = { (modChan n (DioChan.withCause b on) s).dio with safeSkip := k } := by
  unfold causeChanged
  split
  · exact skipNow_dio n _
  · exact ⟨_, rfl⟩

section CauseChanged

variable (b : Nat) (on : Bool) (n : Nat) (s : State)

theorem causeChanged_chan : (causeChanged b on n s).dio.chan = (modChan n (DioChan.withCause b on) s).dio.chan := by
  obtain ⟨k, h⟩ := causeChanged_dio b on n s
  rw [h]

theorem causeChanged_feed : (causeChanged b on n s).dio.feed = s.dio.feed := by
  obtain ⟨k, h⟩ := causeChanged_dio b on n s
  rw [h]
  rfl

theorem causeChanged_fieldV : (causeChanged b on n s).dio.fieldV = s.dio.fieldV := by
  obtain ⟨k, h⟩ := causeChanged_dio b on n s
  rw [h]
  rfl

theorem causeOn_feed : (causeOn b on n s).dio.feed = s.dio.feed := by
  rw [causeOn_eq]
  split
  · rw [endPulse_feed, causeChanged_feed]
  · rw [settleOut_feed, causeChanged_feed]

theorem causeOn_fieldV : (causeOn b on n s).dio.fieldV = s.dio.fieldV := by
  rw [causeOn_eq]
  split
  · rw [endPulse_fieldV, causeChanged_fieldV]
  · rw [settleOut_fieldV, causeChanged_fieldV]

variable {n}

theorem causeOn_chan_ne {k : Nat} (hk : k ≠ n) : (causeOn b on n s).dio.chan[k]? = s.dio.chan[k]? := by
  have hbefore : (causeChanged b on n s).dio.chan[k]? = s.dio.chan[k]? := by rw [causeChanged_chan, chan_modChan_ne hk]
  rw [causeOn_eq]
  split
  · rw [chan_endPulse_ne hk, hbefore]
  · rw [chan_settleOut_ne hk, hbefore]

variable {s}

/-- A changed cause leaves its channel with that cause changed and the output brought up to date, off where it stays off. -/
theorem causeOn_chan {c : DioChan} (h : s.dio.chan[n]? = some c) :
    ∃ o, (causeOn b on n s).dio.chan[n]? = some ((c.withCause b on).settled o) ∧
      (StaysOff b on c (feedOf s (n / 2)).closed → o = false) := by
  have hchan : (causeChanged b on n s).dio.chan[n]? = some (c.withCause b on) := by rw [causeChanged_chan, chan_modChan_self h]
  have hnow {t : State} (ht : t.dio = (causeChanged b on n s).dio) : chanOf t n = c.withCause b on :=
    chanOf_eq (by rw [ht, hchan])
  have hfeed {t : State} (ht : t.dio = (causeChanged b on n s).dio) : feedOf t (n / 2) = feedOf s (n / 2) :=
    feedOf_congr (by rw [ht, causeChanged_feed]) _
  have hoff {t : State} (ht : t.dio = (causeChanged b on n s).dio) (hstay : StaysOff b on c (feedOf s (n / 2)).closed)
      (hends : (c.withCause b on).safe = false → c.safe = true → firingOn t n = none) : outNow t n = false := by
    rcases hstay with hopen | hsafe
    · exact outNow_of_open (by rw [hfeed ht, hopen])
    · split at hsafe
      next hin => exact outNow_of_safe (by rw [hnow ht, hin]) (by rw [hnow ht]; exact hsafe)
      next hin =>
        have hno : (c.withCause b on).causes = 0 := by simpa [DioChan.safe] using hin
        exact outNow_of_not_firing (by rw [hnow ht, hno]) (hends (by simpa using hin) hsafe)
  rw [causeOn_eq, chanOf_eq h, hnow rfl]
  split
  next => exact ⟨_, chan_endPulse hchan, fun hstay => hoff (pulsesLogged_dio n _) hstay fun _ _ => firingOn_pulsesLogged n _⟩
  next hkeep => exact ⟨_, chan_settleOut hchan, fun hstay => hoff rfl hstay fun hout hin => absurd (by simp [hout, hin]) hkeep⟩

end CauseChanged

theorem causeEach_feed (b : Nat) (on : Bool) (l : List Nat) (s : State) : (causeEach b on l s).dio.feed = s.dio.feed := by
  induction l generalizing s with
  | nil => rfl
  | cons m l ih => rw [causeEach, ih, causeOn_feed]

theorem causeEach_fieldV (b : Nat) (on : Bool) (l : List Nat) (s : State) : (causeEach b on l s).dio.fieldV = s.dio.fieldV := by
  induction l generalizing s with
  | nil => rfl
  | cons m l ih => rw [causeEach, ih, causeOn_fieldV]

theorem causeEach_chan_ne (b : Nat) (on : Bool) {l : List Nat} {n : Nat} (hn : n ∉ l) (s : State) :
    (causeEach b on l s).dio.chan[n]? = s.dio.chan[n]? := by
  induction l generalizing s with
  | nil => rfl
  | cons m l ih =>
    obtain ⟨hm, hl⟩ : n ≠ m ∧ n ∉ l := by simpa using hn
    rw [causeEach, ih hl, causeOn_chan_ne b on s hm]

theorem causeEach_chan (b : Nat) (on : Bool) {l : List Nat} {n : Nat} (hl : l.Nodup) (hn : n ∈ l) {s : State} {c : DioChan}
    (h : s.dio.chan[n]? = some c) : ∃ o, (causeEach b on l s).dio.chan[n]? = some ((c.withCause b on).settled o) ∧
      (StaysOff b on c (feedOf s (n / 2)).closed → o = false) := by
  induction l generalizing s with
  | nil => cases hn
  | cons m l ih =>
    obtain ⟨hm, hl⟩ := List.nodup_cons.1 hl
    rw [causeEach]
    rcases List.mem_cons.1 hn with rfl | hn
    · rw [causeEach_chan_ne b on hm]
      exact causeOn_chan b on h
    · have hne : n ≠ m := fun he => hm (he ▸ hn)
      rw [← feedOf_congr (causeOn_feed b on m s)]
      exact ih hl hn (by rwa [causeOn_chan_ne b on s hne])

/-! ### SET_CAUSE with its notices -/

theorem noticeSafe_dio (b : Nat) (changed : List Nat) (vals : List Word) (s : State) : (noticeSafe b changed vals s).dio = s.dio :=
  (noticeSafe_frame b changed vals s (List.Subset.refl _) (Frame.refl _ s)).dio_eq (by decide)

section SetCause

variable (b : Nat) (on : Bool) (l : List Nat) (s : State)

theorem setCause_feed : (setCause b on l s).dio.feed = s.dio.feed := by rw [setCause, noticeSafe_dio, causeEach_feed]

theorem setCause_fieldV : (setCause b on l s).dio.fieldV = s.dio.fieldV := by rw [setCause, noticeSafe_dio, causeEach_fieldV]

variable {l s} {n : Nat}

theorem setCause_chan_ne (h : n ∉ l) : (setCause b on l s).dio.chan[n]? = s.dio.chan[n]? := by
  rw [setCause, noticeSafe_dio, causeEach_chan_ne]
  exact fun hn => h (List.mem_of_mem_filter hn)

variable {b on} {c : DioChan} (h : s.dio.chan[n]? = some c)
include h

theorem setCause_chan_same (hsame : c.causes.getLsbD b = on) : (setCause b on l s).dio.chan[n]? = some c := by
  rw [setCause, noticeSafe_dio, causeEach_chan_ne, h]
  intro hn
  simpa [chanOf_eq h, hsame] using (List.mem_filter.1 hn).2

/-- A cause that changes: its channel, with the output brought up to date, off where it stays off. -/
theorem setCause_chan (hl : l.Nodup) (hn : n ∈ l) (hdiff : c.causes.getLsbD b ≠ on) :
    ∃ o, (setCause b on l s).dio.chan[n]? = some ((c.withCause b on).settled o) ∧
      (StaysOff b on c (feedOf s (n / 2)).closed → o = false) := by
  rw [setCause, noticeSafe_dio]
  exact causeEach_chan b on (hl.filter _) (List.mem_filter.2 ⟨hn, by simpa [chanOf_eq h] using hdiff⟩) h

/-- Every channel of the list has the cause as asked, and no other has. -/
theorem setCause_causes (hl : l.Nodup) : ((setCause b on l s).dio.chan[n]?).map (·.causes) =
    some (if n ∈ l then causeSet b on c.causes else c.causes) := by
  by_cases hn : n ∈ l
  · rw [if_pos hn]
    by_cases hsame : c.causes.getLsbD b = on
    · rw [setCause_chan_same h hsame, Option.map_some, causeSet_of_getLsbD hsame]
    · obtain ⟨o, hset, -⟩ := setCause_chan h hl hn hsame
      rw [hset]
      rfl
  · rw [if_neg hn, setCause_chan_ne b on hn, h, Option.map_some]

end SetCause

end Sys2Proof.Machine
end

section
/-! PROOFS. Retirement of field channels and feeds: what an upset that counts can bring about, and that nothing enters the
actuation queue with it. -/

namespace Sys2Proof.Machine

open Sys2Proof

/-! ## Work that ends enters nothing in the actuation queue -/

theorem openStrip_fewer (r : Recipe) (s : State) : FewerActs s (openStrip r s) := by
  unfold openStrip
  split
  · exact .refl s
  · exact .of_acts rfl

theorem openAll_fewer (l : List Recipe) (s : State) : FewerActs s (openAll l s) := by
  induction l generalizing s with
  | nil => exact .refl s
  | cons r l ih => exact (openStrip_fewer r s).trans (ih _)

theorem openParts_fewer (s : State) : FewerActs s (openParts s) := openAll_fewer _ s

theorem fixParts_fewer (sel : Part → Bool) (reason : Nat) (s : State) : FewerActs s (fixParts sel reason s) := .of_acts rfl

theorem foldTile_fewer (recipe : Nat) (f : Fold) (s : State) : FewerActs s (foldTile recipe f s) := by
  unfold foldTile
  split
  · exact .refl s
  · exact .of_acts rfl

theorem toHallmark_fewer (o : Outcome) (s : State) : FewerActs s (toHallmark o s) := by
  unfold toHallmark
  split
  · exact .of_acts rfl
  · exact (openParts_fewer s).trans (foldTile_fewer ..)

theorem giveHolds_fewer (b : Nat) (l : List Tile) (reason : Nat) (fence : Word) (s : State) :
    FewerActs s (giveHolds b l reason fence s) := by
  induction l generalizing s with
  | nil => exact .refl s
  | cons t l ih => exact FewerActs.trans (toHallmark_fewer _ (bumpBench b 0 1 s)) (ih _)

theorem flushBench_fewer (b reason : Nat) (fence : Word) (s : State) : FewerActs s (flushBench b reason fence s) :=
  giveHolds_fewer b _ reason fence _

theorem cancelActivation_fewer (h : Nat) (s : State) : FewerActs s (cancelActivation h s) :=
  .of_frame (cancelActivation_frame h s (List.Subset.refl _) (Frame.refl _ s)) (by decide)

theorem undoRt_fewer (h : Nat) (s : State) : FewerActs s (undoRt h s) := by
  unfold undoRt
  split
  · exact .refl s
  · split
    · exact .refl s
    · exact .of_acts rfl

theorem endRecipe_fewer (h : Nat) (why : Why) (s : State) : FewerActs s (endRecipe h why s) := by
  have hundo : FewerActs s (if why = .revoked then undoRt h s else s) := by
    split
    · exact undoRt_fewer h s
    · exact .refl s
  exact hundo.trans ((openParts_fewer _).trans ((fixParts_fewer _ why.reason _).trans (cancelActivation_fewer h _)))

/-- The parts that need a bench whose admission ends are opened, and get HOLD (06 Table 6.5). -/
def benchPartsHeld (b : Nat) (why : Why) (s : State) : State :=
  match findRecipe (openParts s) (benchOf s b).recipe with
  | some r =>
    fixParts (fun p => p.recipe == (benchOf s b).recipe && needsBench (openParts s) r.image b p) why.reason (openParts s)
  | none => openParts s

theorem benchPartsHeld_fewer (b : Nat) (why : Why) (s : State) : FewerActs s (benchPartsHeld b why s) := by
  unfold benchPartsHeld
  split
  · exact (openParts_fewer s).trans (fixParts_fewer ..)
  · exact openParts_fewer s

theorem endBench_eq (b : Nat) (why : Why) (fence : Word) (s : State) : endBench b why fence s =
    benchState b why fence (endTemperWork b (benchOf s b).temper (benchReply b (flushBench b 0x14 fence
      (if (benchOf s b).temper = true then benchPartsHeld b why s
       else cancelActivation (benchOf s b).recipe (benchPartsHeld b why s))))) := rfl

theorem endBench_fewer (b : Nat) (why : Why) (fence : Word) (s : State) : FewerActs s (endBench b why fence s) := by
  have hends (x : Bool) (u : State) : FewerActs u (benchState b why fence (endTemperWork b x (benchReply b u))) :=
    .of_frame (l := [.emitted, .host, .pos, .led, .kw, .fab, .draw, .rcp]) (benchState_frame b why fence _ (by decide)
      (endTemperWork_frame b x _ (by decide) (benchReply_frame b u (by decide) (Frame.refl _ u)))) (by decide)
  rw [endBench_eq]
  refine FewerActs.trans ?_ ((flushBench_fewer b 0x14 fence _).trans (hends _ _))
  split
  · exact benchPartsHeld_fewer b why s
  · exact (benchPartsHeld_fewer b why s).trans (cancelActivation_fewer ..)

theorem endActuation_fewer (h : Nat) (s : State) : FewerActs s (endActuation h s) := by
  unfold endActuation
  split
  · exact .refl s
  · split
    · exact .refl s
    · exact logActOf_dropAct_fewer ..

theorem endWork_fewer (a : Admission) (why : Why) (s : State) : FewerActs s (endWork a why s) := by
  have hframe {l : List Chapter} {t : State} (h : Frame l s t) (hl : Chapter.hm ∉ l) : FewerActs s t := .of_frame h hl
  unfold endWork
  split
  · exact endRecipe_fewer ..
  · exact endBench_fewer ..
  · exact endActuation_fewer ..
  · exact hframe (endEpoch_frame s (List.Subset.refl _) (Frame.refl _ s)) (by decide)
  · exact hframe (endTap_frame _ _ s (List.Subset.refl _) (Frame.refl _ s)) (by decide)
  · exact hframe (endStream_frame _ s (List.Subset.refl _) (Frame.refl _ s)) (by decide)
  · exact hframe (endCapture_frame s (List.Subset.refl _) (Frame.refl _ s)) (by decide)
  · exact hframe (endShadow_frame s (List.Subset.refl _) (Frame.refl _ s)) (by decide)

/-! ## Nor does a revocation (02 R105, R110) -/

theorem revokeOne_fewer (cause budget inst : Nat) (a : Admission) (s : State) : FewerActs s (revokeOne cause budget inst a s) :=
  FewerActs.trans (.of_frame (tellRevoked_frame cause budget inst a s (List.Subset.refl _) (Frame.refl _ s)) (by decide))
    (endWork_fewer a .revoked (cutBuckets a.cls (dropAdm a.handle (tellRevoked cause budget inst a s))))

/-- A list of admissions, each ended where it is still held. -/
theorem fewer_if_held {f : State → State} (hf : ∀ u, FewerActs u (f u)) (held : Bool) (s : State) :
    FewerActs s (if held = true then f s else s) := by
  split
  · exact hf s
  · exact .refl s

theorem revokeAll_fewer (cause budget inst : Nat) (l : List Admission) (s : State) :
    FewerActs s (revokeAll cause budget inst l s) := by
  induction l generalizing s with
  | nil => exact .refl s
  | cons a l ih => exact (fewer_if_held (fun u => revokeOne_fewer cause budget _ a u) _ s).trans (ih _)

theorem revokeBench_fewer (cause budget inst : Nat) (a : Admission) (s : State) : FewerActs s (revokeBench cause budget inst a s) :=
  (revokeAll_fewer ..).trans (revokeOne_fewer ..)

theorem revokeBenches_fewer (cause budget inst : Nat) (l : List Admission) (s : State) :
    FewerActs s (revokeBenches cause budget inst l s) := by
  induction l generalizing s with
  | nil => exact .refl s
  | cons a l ih => exact (fewer_if_held (fun u => revokeBench_fewer cause budget _ a u) _ s).trans (ih _)

theorem revoke_fewer (cause budget inst : Nat) (a : Admission) (s : State) : FewerActs s (revoke cause budget inst a s) := by
  unfold revoke
  split
  · exact (revokeOne_fewer ..).trans (revokeBenches_fewer ..)
  · split
    · exact revokeBench_fewer ..
    · exact revokeOne_fewer ..

theorem shrink_fewer (fuel v cause : Nat) (s : State) : FewerActs s (shrink fuel v cause s) := by
  induction fuel generalizing s with
  | zero => exact .refl s
  | succ fuel ih =>
    unfold shrink
    split
    · exact .refl s
    · exact (revoke_fewer ..).trans (ih _)

theorem revokeStaff_fewer (l : List Admission) (s : State) : FewerActs s (revokeStaff l s) := by
  induction l generalizing s with
  | nil => exact .refl s
  | cons a l ih => exact (fewer_if_held (fun u => revoke_fewer cSTAKE 1 a.object a u) _ s).trans (ih _)

theorem capacityRun_fewer (cause : Nat) (s : State) : FewerActs s (capacityRun cause s) :=
  (revokeStaff_fewer (shortStaffed s) (refreshDemands (vEff s.led.vadm) s)).trans (shrink_fewer ..)

theorem settleVAdm_fewer (s : State) : FewerActs s (settleVAdm s) := by
  unfold settleVAdm
  dsimp only
  split
  · exact .refl s
  · split
    · exact capacityRun_fewer cRECIPE (refreshDemands _ (s.setLed _))
    · exact .of_acts rfl

theorem onCapacityChange_fewer (cause : Nat) (s : State) : FewerActs s (onCapacityChange cause s) :=
  (capacityRun_fewer cause s).trans ((settleVAdm_fewer _).trans (settleVAdm_fewer _))

/-! ## An upset that counts (12 R570, R573) -/

/-- An upset that counts changes the fault state, and may then retire what it names. -/
theorem upsetRetire_cases (cls inst how : Nat) (injected : Bool) (retries affected : Nat) (s : State) : ∃ t, Frame [.flt] s t ∧
    (upsetRetire cls inst how injected retries affected s = t ∨
      upsetRetire cls inst how injected retries affected s = retireNow cls inst t) := by
  have hupset : Frame [.flt] s (upset cls inst how true injected retries affected s) :=
    upset_frame cls inst how true injected retries affected s (List.Subset.refl _) (Frame.refl _ s)
  unfold upsetRetire
  dsimp only
  split
  · exact ⟨_, hupset, .inl rfl⟩
  · unfold checkRetire
    split
    · exact ⟨_, hupset, .inl rfl⟩
    · split
      · exact ⟨_, deferRetirement_frame cls inst _ (List.Subset.refl _) hupset, .inl rfl⟩
      · exact ⟨_, hupset, .inr rfl⟩

theorem retireEntries_fewer (l : List Act) (s : State) : FewerActs s (retireEntries l s) := by
  induction l generalizing s with
  | nil => exact .refl s
  | cons a l ih => exact (logActOf_dropAct_fewer ..).trans (ih _)

theorem retireEntries_dio (l : List Act) (s : State) : (retireEntries l s).dio = s.dio :=
  (retireEntries_frame l s (List.Subset.refl _) (Frame.refl _ s)).dio_eq (by decide)

/-! ## The retirement of a field channel (10 R501) -/

/-- A channel after its retirement: its output is off. -/
def DioChan.retire (c : DioChan) : DioChan := DioChan.settled false { c with retired := true }

/-- The channel is marked, and a Record write is asked for. -/
def channelMarked (n : Nat) (s : State) : State := wantRecord 2 (modChan n (fun c => { c with retired := true }) s)

theorem retireChannel_eq (n : Nat) (s : State) : retireChannel n s = noticeUnit 0x0A06 (le1 0 ++ le1 n) (logRetired 4 n
    (retireEntries (pendingOn (endPulse n (channelMarked n s)) n) (endPulse n (channelMarked n s)))) := rfl

theorem retireChannel_dio (n : Nat) (s : State) : (retireChannel n s).dio = (endPulse n (channelMarked n s)).dio := by
  rw [retireChannel_eq, noticeUnit_dio]
  exact retireEntries_dio _ _

theorem retireChannel_fewer (n : Nat) (s : State) : FewerActs s (retireChannel n s) := by
  rw [retireChannel_eq]
  exact (endPulse_fewer n (channelMarked n s)).trans ((retireEntries_fewer _ _).trans
    (.of_acts (congrArg Hallmark.acts (noticeUnit_hm ..))))

theorem chan_retireChannel {s : State} {n : Nat} {c : DioChan} (h : s.dio.chan[n]? = some c) :
    (retireChannel n s).dio.chan[n]? = some c.retire := by
  have hmarked : (channelMarked n s).dio.chan[n]? = some { c with retired := true } := chan_modChan_self h _
  have hoff : outNow (pulsesLogged n (channelMarked n s)) n = false :=
    outNow_of_retired (by rw [chanOf_eq (c := { c with retired := true }) (by rw [pulsesLogged_dio, hmarked])])
  rw [retireChannel_dio, chan_endPulse hmarked, hoff]
  rfl

/-- An upset of a channel leaves the channel as it was, or retired; and no pulse is entered. -/
theorem upsetRetire_channel {s : State} {n : Nat} {c : DioChan} (h : s.dio.chan[n]? = some c) (how : Nat) (injected : Bool)
    (retries affected : Nat) : FewerActs s (upsetRetire 4 n how injected retries affected s) ∧
      ((upsetRetire 4 n how injected retries affected s).dio.chan[n]? = some c ∨
        (upsetRetire 4 n how injected retries affected s).dio.chan[n]? = some c.retire) := by
  obtain ⟨t, ht, hu | hu⟩ := upsetRetire_cases 4 n how injected retries affected s
  · rw [hu, ht.dio_eq (by decide)]
    exact ⟨.of_frame ht (by decide), .inl h⟩
  · rw [hu]
    exact ⟨FewerActs.trans (.of_frame ht (by decide)) (retireChannel_fewer n t),
      .inr (chan_retireChannel (by rw [ht.dio_eq (by decide), h]))⟩

/-! ## A feed that is off, and the record of its trip (10 R497, R500) -/

/-- Feed `k` is open and the outputs of both its channels are off. -/
structure FeedOff (k : Nat) (s : State) : Prop where
  feed : (s.dio.feed[k]?).map (·.closed) = some false
  out : ∀ n, n / 2 = k → (s.dio.chan[n]?).map (·.out) = some false

section FeedOff

variable {k : Nat} {s t : State} (h : FeedOff k s)
include h

theorem FeedOff.open_ : (feedOf s k).closed = false := by
  obtain ⟨f, hf, hopen⟩ := Option.map_eq_some_iff.1 h.feed
  rw [feedOf_eq hf, hopen]

theorem FeedOff.of_dio (hd : t.dio = s.dio) : FeedOff k t := ⟨by rw [hd, h.feed], fun n hn => by rw [hd, h.out n hn]⟩

theorem FeedOff.after_modChan {f : DioChan → DioChan} (hf : ∀ c, (f c).out = c.out) (n : Nat) : FeedOff k (modChan n f s) := by
  refine ⟨h.feed, fun m hm => ?_⟩
  obtain ⟨c, hc, hout⟩ := Option.map_eq_some_iff.1 (h.out m hm)
  by_cases hmn : m = n
  · subst hmn
    rw [chan_modChan_self hc, Option.map_some, hf, hout]
  · rw [chan_modChan_ne hmn, hc, Option.map_some, hout]

theorem FeedOff.after_settleOut (n : Nat) : FeedOff k (settleOut n s) := by
  refine ⟨h.feed, fun m hm => ?_⟩
  by_cases hmn : m = n
  · subst hmn
    obtain ⟨c, hc, -⟩ := Option.map_eq_some_iff.1 (h.out m hm)
    rw [chan_settleOut_out hc, outNow_of_open (by rw [hm, h.open_])]
  · rw [chan_settleOut_ne hmn, h.out m hm]

theorem FeedOff.after_endPulse (n : Nat) : FeedOff k (endPulse n s) := (h.of_dio (pulsesLogged_dio n s)).after_settleOut n

end FeedOff

/-! ### Feeds brought up to date (10 R497) -/

/-- A feed brought up to date. -/
def Feed.settled (f : Feed) : Feed := { f with closed := !f.unpowered && !f.tripped && !f.retired }

theorem settleFeed_eq (k : Nat) (s : State) :
    settleFeed k s = settleOut (2 * k + 1) (settleOut (2 * k) (modFeed k Feed.settled s)) := rfl

theorem feed_settleFeed {s : State} {k : Nat} {f : Feed} (h : s.dio.feed[k]? = some f) :
    (settleFeed k s).dio.feed[k]? = some f.settled := feed_modFeed_self h Feed.settled

theorem feed_settleFeed_ne {j k : Nat} (h : j ≠ k) (s : State) : (settleFeed k s).dio.feed[j]? = s.dio.feed[j]? :=
  feed_modFeed_ne h Feed.settled s

theorem chan_settleFeed_ne {n k : Nat} (h : n / 2 ≠ k) (s : State) : (settleFeed k s).dio.chan[n]? = s.dio.chan[n]? := by
  rw [settleFeed_eq, chan_settleOut_ne (by omega), chan_settleOut_ne (by omega)]
  rfl

/-- A feed that opens is off with both its channels. -/
theorem settleFeed_off {s : State} {k : Nat} {f : Feed} (h : s.dio.feed[k]? = some f) (hopen : f.settled.closed = false)
    (hk : 2 * k + 1 < s.dio.chan.length) : FeedOff k (settleFeed k s) := by
  have hsettled : (modFeed k Feed.settled s).dio.feed[k]? = some f.settled := feed_modFeed_self h Feed.settled
  have hoff {t : State} (ht : t.dio.feed = (modFeed k Feed.settled s).dio.feed) {n : Nat} (hn : n / 2 = k) : outNow t n = false :=
    outNow_of_open (by rw [hn, feedOf_eq (f := f.settled) (by rw [ht, hsettled]), hopen])
  refine ⟨by rw [feed_settleFeed h, Option.map_some, hopen], fun n hn => ?_⟩
  rw [settleFeed_eq]
  by_cases hodd : n = 2 * k + 1
  · subst hodd
    have hc : (settleOut (2 * k) (modFeed k Feed.settled s)).dio.chan[2 * k + 1]? = s.dio.chan[2 * k + 1]? :=
      chan_settleOut_ne (by omega) _
    rw [chan_settleOut_out (hc.trans (List.getElem?_eq_getElem hk)), hoff (settleOut_feed _ _) hn]
  · obtain rfl : n = 2 * k := by omega
    have hc : (modFeed k Feed.settled s).dio.chan[2 * k]? = some (s.dio.chan[2 * k]'(by omega)) :=
      List.getElem?_eq_getElem (l := s.dio.chan) _
    rw [chan_settleOut_ne hodd, chan_settleOut_out hc, hoff rfl hn]

/-! ## OPEN_FEED (10 R497, R500, R511) -/

section OpenFeed

variable (k : Nat) (F : Feed → Feed) (s : State)

/-- The feed and its outputs follow its change, before the pulses on its channels end. -/
def feedChanged : State := settleFeed k (modFeed k F s)

theorem openFeed_dio : (openFeed k F s).dio = (endPulse (2 * k + 1) (endPulse (2 * k) (feedChanged k F s))).dio := rfl

theorem openFeed_fieldV : (openFeed k F s).dio.fieldV = s.dio.fieldV := by
  rw [openFeed_dio, endPulse_fieldV, endPulse_fieldV]
  rfl

variable {k s}

theorem feed_openFeed {f : Feed} (h : s.dio.feed[k]? = some f) : (openFeed k F s).dio.feed[k]? = some (F f).settled := by
  rw [openFeed_dio, endPulse_feed, endPulse_feed, feedChanged, feed_settleFeed (feed_modFeed_self h F)]

theorem feed_openFeed_ne {j : Nat} (h : j ≠ k) : (openFeed k F s).dio.feed[j]? = s.dio.feed[j]? := by
  rw [openFeed_dio, endPulse_feed, endPulse_feed, feedChanged, feed_settleFeed_ne h, feed_modFeed_ne h]

theorem chan_openFeed_ne {n : Nat} (h : n / 2 ≠ k) : (openFeed k F s).dio.chan[n]? = s.dio.chan[n]? := by
  rw [openFeed_dio, chan_endPulse_ne (by omega), chan_endPulse_ne (by omega), feedChanged, chan_settleFeed_ne h]
  rfl

theorem openFeed_off {f : Feed} (h : s.dio.feed[k]? = some f) (hopen : (F f).settled.closed = false)
    (hk : 2 * k + 1 < s.dio.chan.length) : FeedOff k (openFeed k F s) := by
  have hchanged : FeedOff k (feedChanged k F s) := settleFeed_off (feed_modFeed_self h F) hopen hk
  exact ((hchanged.after_endPulse _).after_endPulse _).of_dio (openFeed_dio k F s)

theorem firingOn_openFeed {n : Nat} (h : n / 2 = k) : firingOn (openFeed k F s) n = none := by
  have heven := firingOn_endPulse (2 * k) (feedChanged k F s)
  have hlast := endPulse_fewer (2 * k + 1) (endPulse (2 * k) (feedChanged k F s))
  by_cases hodd : n = 2 * k + 1
  · subst hodd
    exact firingOn_endPulse (2 * k + 1) (endPulse (2 * k) (feedChanged k F s))
  · obtain rfl : n = 2 * k := by omega
    exact hlast.firingOn_none heven

end OpenFeed

/-! ## The retirement of a feed (10 R501) -/

/-- The feed is marked, and a Record write is asked for; then the pulses on its channels end. -/
def feedMarked (k : Nat) (s : State) : State := wantRecord 2 (modFeed k (fun f => { f with retired := true }) s)

def feedEnded (k : Nat) (s : State) : State := endPulse (2 * k + 1) (endPulse (2 * k) (feedMarked k s))

/-- The feed is open, and the entries of its channels that have not switched on are gone. -/
def feedEmptied (k : Nat) (s : State) : State :=
  retireEntries (pendingOn (feedEnded k s) (2 * k) ++ pendingOn (feedEnded k s) (2 * k + 1)) (settleFeed k (feedEnded k s))

/-- The retirement is logged and told. -/
def feedRetired (k : Nat) (s : State) : State := noticeUnit 0x0A06 (le1 1 ++ le1 k) (logRetired 5 k (feedEmptied k s))

theorem retireFeed_eq (k : Nat) (s : State) : retireFeed k s = onCapacityChange cFEED (feedRetired k s) := rfl

theorem feedRetired_frame (k : Nat) (s : State) : Frame [.emitted, .host, .kw, .fab, .flt] (feedEmptied k s) (feedRetired k s) :=
  noticeUnit_frame _ _ _ (by decide) (logRetired_frame 5 k _ (by decide) (Frame.refl _ _))

theorem retireFeed_dio (k : Nat) (s : State) : (retireFeed k s).dio = (settleFeed k (feedEnded k s)).dio := by
  rw [retireFeed_eq, (onCapacityChange_frame cFEED _ (List.Subset.refl _) (Frame.refl _ (feedRetired k s))).dio_eq (by decide),
    (feedRetired_frame k s).dio_eq (by decide), feedEmptied, retireEntries_dio]

theorem retireFeed_fewer (k : Nat) (s : State) : FewerActs (settleFeed k (feedEnded k s)) (retireFeed k s) :=
  (retireEntries_fewer _ _).trans ((FewerActs.of_frame (feedRetired_frame k s) (by decide)).trans (onCapacityChange_fewer cFEED _))

/-! ## A trip that stands (10 R500) -/

/-- What a trip leaves of its feed. -/
def Feed.record (f : Feed) : Bool × Bool × Nat × Word := (f.trip, f.tripped, f.tripAt, f.trips)

/-- Feed `k` is off after a trip at `at_`, its `count`-th, and no pulse is on at its channels. -/
structure TripStands (k at_ : Nat) (count : Word) (s : State) : Prop where
  off : FeedOff k s
  record : (s.dio.feed[k]?).map Feed.record = some (true, true, at_, count)
  idle : ∀ n, n / 2 = k → firingOn s n = none

section TripStands

variable {k at_ : Nat} {count : Word} {s t : State} (h : TripStands k at_ count s)
include h

theorem TripStands.feed : ∃ f, s.dio.feed[k]? = some f ∧ f.closed = false ∧ f.trip = true ∧ f.tripped = true ∧ f.tripAt = at_ ∧
    f.trips = count := by
  obtain ⟨f, hf, hrec⟩ := Option.map_eq_some_iff.1 h.record
  have hopen : f.closed = false := by simpa [hf] using h.off.feed
  simp only [Feed.record, Prod.mk.injEq] at hrec
  exact ⟨f, hf, hopen, hrec⟩

theorem TripStands.later (hd : t.dio = s.dio) (ha : FewerActs s t) : TripStands k at_ count t :=
  ⟨h.off.of_dio hd, by rw [hd, h.record], fun n hn => ha.firingOn_none (h.idle n hn)⟩

theorem TripStands.of_frame {l : List Chapter} (ht : Frame l s t) (hd : Chapter.dio ∉ l) (hh : Chapter.hm ∉ l) :
    TripStands k at_ count t := h.later (ht.dio_eq hd) (.of_frame ht hh)

theorem TripStands.after_endPulse (n : Nat) : TripStands k at_ count (endPulse n s) :=
  ⟨h.off.after_endPulse n, by rw [endPulse_feed, h.record], fun m hm => (endPulse_fewer n s).firingOn_none (h.idle m hm)⟩

theorem TripStands.after_settleOut (n : Nat) : TripStands k at_ count (settleOut n s) :=
  ⟨h.off.after_settleOut n, h.record, h.idle⟩

theorem TripStands.after_modFeed {g : Feed → Feed} (hg : ∀ f, (g f).record = f.record)
    (hopen : ∀ f, f.tripped = true → f.closed = false → (g f).closed = false) : TripStands k at_ count (modFeed k g s) := by
  obtain ⟨f, hf, hclosed, htrip, htripped, hat, hcount⟩ := h.feed
  have hmod := feed_modFeed_self hf g
  refine ⟨⟨?_, h.off.out⟩, ?_, h.idle⟩
  · rw [hmod, Option.map_some, hopen f htripped hclosed]
  · rw [hmod, Option.map_some, hg, Feed.record, htrip, htripped, hat, hcount]

theorem TripStands.after_retireChannel (n : Nat) : TripStands k at_ count (retireChannel n s) := by
  have hmarked : TripStands k at_ count (channelMarked n s) :=
    ⟨(h.off.after_modChan (f := fun c => { c with retired := true }) (fun _ => rfl) n).of_dio rfl, h.record, h.idle⟩
  exact ⟨(hmarked.after_endPulse n).off.of_dio (retireChannel_dio n s), by rw [retireChannel_dio, (hmarked.after_endPulse n).record],
    fun m hm => (retireChannel_fewer n s).firingOn_none (h.idle m hm)⟩

theorem TripStands.after_retireFeed : TripStands k at_ count (retireFeed k s) := by
  have hmarked : TripStands k at_ count (modFeed k (fun f => { f with retired := true }) s) :=
    h.after_modFeed (fun _ => rfl) fun _ _ hopen => hopen
  have hended : TripStands k at_ count (feedEnded k s) :=
    ((hmarked.later (t := feedMarked k s) rfl (.of_acts rfl)).after_endPulse (2 * k)).after_endPulse (2 * k + 1)
  have hsettled : TripStands k at_ count (modFeed k Feed.settled (feedEnded k s)) :=
    hended.after_modFeed (fun _ => rfl) fun f htripped _ => by simp [Feed.settled, htripped]
  exact ((hsettled.after_settleOut (2 * k)).after_settleOut (2 * k + 1)).later (retireFeed_dio k s) (retireFeed_fewer k s)

/-- An upset of the feed or of one of the channels, with the retirement it may bring about, leaves the trip standing. -/
theorem TripStands.after_upset {cls inst : Nat} (hcls : cls = 4 ∨ cls = 5 ∧ inst = k) (how : Nat) (injected : Bool)
    (retries affected : Nat) : TripStands k at_ count (upsetRetire cls inst how injected retries affected s) := by
  obtain ⟨t, ht, hu⟩ := upsetRetire_cases cls inst how injected retries affected s
  have hlogged : TripStands k at_ count t := h.of_frame ht (by decide) (by decide)
  rcases hu with hu | hu
  · rwa [hu]
  · rw [hu]
    rcases hcls with rfl | ⟨rfl, rfl⟩
    · exact hlogged.after_retireChannel inst
    · exact hlogged.after_retireFeed

end TripStands

end Sys2Proof.Machine
end

section
/-! PROOFS. Inputs: what a run of samples can do to the filter, the acceptance of an edge, and the flags of a wire break. -/

namespace Sys2Proof.Machine

open Sys2Proof

/-! ## The filter (10 "Input filter", R487) -/

section Filter

variable (now : Nat) (mv : Int) (ua : Nat) (c : DioChan)

/-- A sample settles the class, and where it is valid the last level and the count. -/
theorem sampleChan_cases : ∃ k, sampleChan now mv ua c = { c with cls := k } ∨
    ∃ raw, sampleChan now mv ua c = { c with cls := k, raw := raw, count := nextCount { c with cls := k } raw } := by
  unfold sampleChan
  dsimp only
  split
  · exact ⟨_, .inl rfl⟩
  · exact ⟨_, .inr ⟨_, rfl⟩⟩

/-- A sample changes neither y nor the edges counted nor the configuration. -/
theorem sampleChan_keeps : (sampleChan now mv ua c).y = c.y ∧ (sampleChan now mv ua c).edges = c.edges ∧
    (sampleChan now mv ua c).cfg = c.cfg ∧ (sampleChan now mv ua c).sampled = c.sampled := by
  obtain ⟨k, h | ⟨raw, h⟩⟩ := sampleChan_cases now mv ua c <;> rw [h] <;> exact ⟨rfl, rfl, rfl, rfl⟩

theorem limit_congr {c d : DioChan} (h : d.cfg = c.cfg) : d.limit = c.limit := by rw [DioChan.limit, DioChan.limit, h]

/-- A sample moves the count by one at most, and not beyond LIMIT. -/
theorem sampleChan_count : (sampleChan now mv ua c).count ≤ c.count + 1 ∧
    (c.count ≤ c.limit → c.count ≤ (sampleChan now mv ua c).count + 1 ∧ (sampleChan now mv ua c).count ≤ c.limit) := by
  obtain ⟨k, h | ⟨raw, h⟩⟩ := sampleChan_cases now mv ua c
  · rw [h]
    exact ⟨Nat.le_succ _, fun hc => ⟨Nat.le_succ _, hc⟩⟩
  · have hlimit : ({ c with cls := k } : DioChan).limit = c.limit := rfl
    rw [h]
    unfold nextCount
    dsimp only
    rw [hlimit]
    cases raw
    · rw [if_neg Bool.false_ne_true]
      omega
    · rw [if_pos rfl]
      omega

end Filter

/-- What a run of samples does to a filter: one sample for each time, level and current of a list. -/
def sampleRun (l : List (Nat × Int × Nat)) (c : DioChan) : DioChan := l.foldl (fun d x => sampleChan x.1 x.2.1 x.2.2 d) c

theorem sampleRun_keeps (l : List (Nat × Int × Nat)) (c : DioChan) :
    (sampleRun l c).y = c.y ∧ (sampleRun l c).edges = c.edges ∧ (sampleRun l c).cfg = c.cfg := by
  induction l generalizing c with
  | nil => exact ⟨rfl, rfl, rfl⟩
  | cons x l ih =>
    obtain ⟨hy, hedges, hcfg, -⟩ := sampleChan_keeps x.1 x.2.1 x.2.2 c
    obtain ⟨hy', hedges', hcfg'⟩ := ih (sampleChan x.1 x.2.1 x.2.2 c)
    exact ⟨hy'.trans hy, hedges'.trans hedges, hcfg'.trans hcfg⟩

/-- A run of samples moves the count by no more than its length. -/
theorem sampleRun_count (l : List (Nat × Int × Nat)) {c : DioChan} (h : c.count ≤ c.limit) :
    (sampleRun l c).count ≤ c.count + l.length ∧ c.count ≤ (sampleRun l c).count + l.length := by
  induction l generalizing c with
  | nil => exact ⟨le_rfl, le_rfl⟩
  | cons x l ih =>
    obtain ⟨hup, hrest⟩ := sampleChan_count x.1 x.2.1 x.2.2 c
    obtain ⟨hdown, hlimit⟩ := hrest h
    obtain ⟨-, -, hcfg, -⟩ := sampleChan_keeps x.1 x.2.1 x.2.2 c
    have hrun := ih (c := sampleChan x.1 x.2.1 x.2.2 c) (by rwa [limit_congr hcfg])
    rw [List.length_cons]
    change (sampleRun l (sampleChan x.1 x.2.1 x.2.2 c)).count ≤ _ ∧ _ ≤ (sampleRun l (sampleChan x.1 x.2.1 x.2.2 c)).count + _
    omega

/-- The count stands at the end that y has taken. -/
def DioChan.atEnd (c : DioChan) : Prop := c.count = 0 ∧ c.y = false ∨ c.count = c.limit ∧ c.y = true

/-- A run that is shorter than LIMIT does not reach the other end. -/
theorem sampleRun_not_due {l : List (Nat × Int × Nat)} {c : DioChan} (hl : l.length < c.limit) (hc : c.atEnd) :
    edgeDue (sampleRun l c) = false := by
  obtain ⟨hy, -, hcfg⟩ := sampleRun_keeps l c
  rcases hc with ⟨hcount, hlow⟩ | ⟨hcount, hhigh⟩
  · have hrun := sampleRun_count l (c := c) (by omega)
    have hne : (sampleRun l c).count ≠ (sampleRun l c).limit := by
      rw [limit_congr hcfg]
      omega
    simp [edgeDue, hy, hlow, hne]
  · have hrun := sampleRun_count l (c := c) (by omega)
    have hne : (sampleRun l c).count ≠ 0 := by omega
    simp [edgeDue, hy, hhigh, hne]

/-- A flag that is set holds y. -/
theorem edgeDue_of_flagged {c : DioChan} (h : c.brk = true ∨ c.invalid = true) : edgeDue c = false := by
  rcases h with h | h <;> simp [edgeDue, h]

/-! ## The acceptance of an edge (10 R488, R489) -/

section Accept

variable {s : State} {n : Nat} {c : DioChan}

theorem noticeUnitAt_dio (code : Half) (sp : Word) (data : Bytes) (s : State) : (noticeUnitAt code sp data s).dio = s.dio :=
  (noticeUnitAt_frame code sp data s (List.Subset.refl _) (Frame.refl _ s)).dio_eq (by decide)

/-- The notice of an edge changes its channel in nothing but the time of the notice. -/
theorem noteEdge_chan (h : s.dio.chan[n]? = some c) (level : Bool) (stamp : Long) :
    ∃ e, (noteEdge n level stamp s).dio.chan[n]? = some { c with edgeNotice := e } := by
  unfold noteEdge
  split
  · exact ⟨_, h⟩
  · split
    · rw [noticeUnitAt_dio]
      exact ⟨_, chan_modChan_self h _⟩
    · exact ⟨_, h⟩

theorem noteEdge_chan_ne {k : Nat} (hk : k ≠ n) (level : Bool) (stamp : Long) (s : State) :
    (noteEdge n level stamp s).dio.chan[k]? = s.dio.chan[k]? := by
  unfold noteEdge
  split
  · rfl
  · split
    · rw [noticeUnitAt_dio, chan_modChan_ne hk]
    · rfl

theorem sensorEdge_dio (n : Nat) (level : Bool) (stamp : Long) (s : State) : (sensorEdge n level stamp s).dio = s.dio :=
  (sensorEdge_frame n level stamp s (List.Subset.refl _) (Frame.refl _ s)).dio_eq (by decide)

/-- A channel whose edge has been accepted: y has changed, and the edge is counted. -/
def DioChan.accepted (c : DioChan) : DioChan := { c with y := !c.y, edges := c.edges + 1, dueAt := none }

theorem acceptEdge_chan (h : s.dio.chan[n]? = some c) (stamp : Long) :
    ∃ e, (acceptEdge n stamp s).dio.chan[n]? = some { c.accepted with edgeNotice := e } := by
  have hmod := chan_modChan_self h fun d => { d with y := !(chanOf s n).y, edges := d.edges + 1, dueAt := none }
  rw [chanOf_eq h] at hmod
  obtain ⟨e, he⟩ := noteEdge_chan hmod (!c.y) stamp
  refine ⟨e, ?_⟩
  unfold acceptEdge
  dsimp only
  rw [sensorEdge_dio, chanOf_eq h]
  exact he

theorem acceptEdge_chan_ne {k : Nat} (hk : k ≠ n) (stamp : Long) (s : State) :
    (acceptEdge n stamp s).dio.chan[k]? = s.dio.chan[k]? := by
  unfold acceptEdge
  dsimp only
  rw [sensorEdge_dio, noteEdge_chan_ne hk, chan_modChan_ne hk]

theorem acceptEdge_frame_self (n : Nat) (stamp : Long) (s : State) :
    Frame [.emitted, .host, .kw, .fab, .hm, .dio, .rcp, .flt] s (acceptEdge n stamp s) :=
  acceptEdge_frame n stamp s (List.Subset.refl _) (Frame.refl _ s)

theorem acceptDue_due (h : s.dio.chan[n]? = some c) {stamp : Long} (hat : c.dueAt = some stamp) (hdue : edgeDue c = true) :
    acceptDue n s = acceptEdge n stamp s := by
  unfold acceptDue
  rw [chanOf_eq h, hat]
  exact if_pos hdue

theorem acceptDue_idle (h : s.dio.chan[n]? = some c) (hidle : c.dueAt = none ∨ edgeDue c = false) : acceptDue n s = s := by
  unfold acceptDue
  rw [chanOf_eq h]
  rcases hidle with hidle | hidle
  · rw [hidle]
  · split
    · rw [if_neg (by simp [hidle])]
    · rfl

end Accept

/-! ## DIO_INPUT_SAMPLE and INPUT_EDGE_ACCEPT -/

/-- A channel after a sample at `now`, with the stamp of the edge that the sample makes due. -/
def DioChan.sampledAt (now : Nat) (stamp : Long) (mv : Int) (ua : Nat) (c : DioChan) : DioChan :=
  stampDue stamp (sampleChan now mv ua { c with sampled := some now })

/-- TS has not passed since the sample before. -/
def DioChan.early (now : Nat) (c : DioChan) : Bool := c.sampled.any fun at_ => decide (now < at_ + usTicks c.ts)

theorem sampleTime_eq (now : Nat) (c : DioChan) : sampleTime now c = !c.early now := by
  unfold sampleTime DioChan.early
  cases c.sampled with
  | none => rfl
  | some at_ => exact Bool.eq_iff_iff.2 (by simp)

section Input

variable {s : State} {n : Nat} {c : DioChan} (mv : Int) (ua t : Nat)

theorem exec_dioInputSample_noInput (hno : isInput s n = false) : exec (.dioInputSample n mv ua t) s = .next (s.at_ t) := by
  have hno' : isInput (s.at_ t) n = false := hno
  refine congrArg Host.Outcome.next (if_neg ?_)
  rw [hno']
  exact Bool.false_ne_true

theorem exec_inputEdgeAccept_noInput (hno : isInput s n = false) : exec (.inputEdgeAccept n t) s = .next (s.at_ t) := by
  have hno' : isInput (s.at_ t) n = false := hno
  exact congrArg Host.Outcome.next (if_neg (by rw [hno']; exact Bool.false_ne_true))

theorem exec_inputEdgeAccept (hin : isInput s n = true) : exec (.inputEdgeAccept n t) s = .next (acceptDue n (s.at_ t)) :=
  congrArg Host.Outcome.next (if_pos hin)

variable (h : s.dio.chan[n]? = some c)
include h

theorem exec_dioInputSample_early (hearly : c.early (s.at_ t).now = true) :
    exec (.dioInputSample n mv ua t) s = .next (s.at_ t) := by
  refine congrArg Host.Outcome.next (if_neg ?_)
  rw [chanOf_at, chanOf_eq h, sampleTime_eq, hearly]
  simp

theorem exec_dioInputSample (hin : isInput s n = true) (hready : c.early (s.at_ t).now = false) : exec (.dioInputSample n mv ua t) s =
    .next (modChan n (DioChan.sampledAt (acceptDue n (s.at_ t)).now (ptb (acceptDue n (s.at_ t))) mv ua) (acceptDue n (s.at_ t))) := by
  have hin' : isInput (s.at_ t) n = true := hin
  refine congrArg Host.Outcome.next (if_pos ?_)
  rw [hin', chanOf_at, chanOf_eq h, sampleTime_eq, hready]
  rfl

end Input

/-! ## DIO_BREAK (10 R491) -/

section Break

variable {s : State} {n : Nat} {c : DioChan}

theorem noticeBreak_dio (n kind : Nat) (set : Bool) (s : State) : (noticeBreak n kind set s).dio = s.dio := noticeUnit_dio ..

/-- The change of a flag, told with DIO_BREAK; where the flag stands already there is nothing to tell. -/
def flagTold (n kind : Nat) (set : Bool) (f : DioChan → DioChan) (changes : Bool) (s : State) : State :=
  if changes then noticeBreak n kind set (modChan n f s) else s

theorem flagTold_chan (h : s.dio.chan[n]? = some c) {f : DioChan → DioChan} {changes : Bool} (hsame : changes = false → f c = c)
    (kind : Nat) (set : Bool) : (flagTold n kind set f changes s).dio.chan[n]? = some (f c) := by
  unfold flagTold
  cases changes
  · rw [if_neg Bool.false_ne_true, h, hsame rfl]
  · rw [if_pos rfl, noticeBreak_dio, chan_modChan_self h]

theorem flagTold_chan_ne {k : Nat} (hk : k ≠ n) (kind : Nat) (set : Bool) (f : DioChan → DioChan) (changes : Bool) (s : State) :
    (flagTold n kind set f changes s).dio.chan[k]? = s.dio.chan[k]? := by
  unfold flagTold
  split
  · rw [noticeBreak_dio, chan_modChan_ne hk]
  · rfl

theorem flagTold_frame (n kind : Nat) (set : Bool) (f : DioChan → DioChan) (changes : Bool) (s : State) :
    Frame [.emitted, .host, .kw, .fab, .dio, .flt] s (flagTold n kind set f changes s) := by
  unfold flagTold
  split
  · exact noticeBreak_frame _ _ _ _ (by decide) (modChan_frame n f s (by decide) (Frame.refl _ s))
  · exact Frame.refl _ s

/-- A channel with one of the flags of a wire break as given. -/
def DioChan.withBrk (b : Bool) (c : DioChan) : DioChan := { c with brk := b }
def DioChan.withInvalid (b : Bool) (c : DioChan) : DioChan := { c with invalid := b }

theorem DioChan.withBrk_self {b : Bool} {c : DioChan} (h : c.brk = b) : c.withBrk b = c := by subst h; rfl
theorem DioChan.withInvalid_self {b : Bool} {c : DioChan} (h : c.invalid = b) : c.withInvalid b = c := by subst h; rfl

theorem clearBreak_eq (n : Nat) (s : State) : clearBreak n s =
    flagTold n 2 false (DioChan.withInvalid false) (chanOf s n).invalid
      (flagTold n 1 false (DioChan.withBrk false) (chanOf s n).brk s) := rfl

/-- What samples of one class for 10 ms make of a channel. -/
def DioChan.flagged (c : DioChan) : DioChan :=
  match c.cls.1 with
  | 0 => (c.withBrk false).withInvalid false
  | 1 => c.withBrk true
  | _ => c.withInvalid true

/-- What they make of the state. -/
def breakSettled (n : Nat) (s : State) : State :=
  match (chanOf s n).cls.1 with
  | 0 => clearBreak n s
  | 1 => flagTold n 1 true (DioChan.withBrk true) (!(chanOf s n).brk) s
  | _ => flagTold n 2 true (DioChan.withInvalid true) (!(chanOf s n).invalid) s

theorem breakSettled_chan (h : s.dio.chan[n]? = some c) : (breakSettled n s).dio.chan[n]? = some c.flagged := by
  unfold breakSettled DioChan.flagged
  rw [chanOf_eq h]
  split
  · rw [clearBreak_eq, chanOf_eq h]
    exact flagTold_chan (flagTold_chan h DioChan.withBrk_self 1 false) DioChan.withInvalid_self 2 false
  · exact flagTold_chan h (fun hset => DioChan.withBrk_self (by simpa using hset)) 1 true
  · exact flagTold_chan h (fun hset => DioChan.withInvalid_self (by simpa using hset)) 2 true

theorem breakSettled_chan_ne {k : Nat} (hk : k ≠ n) (s : State) : (breakSettled n s).dio.chan[k]? = s.dio.chan[k]? := by
  unfold breakSettled
  split
  · rw [clearBreak_eq, flagTold_chan_ne hk, flagTold_chan_ne hk]
  · exact flagTold_chan_ne hk ..
  · exact flagTold_chan_ne hk ..

theorem breakSettled_frame (n : Nat) (s : State) : Frame [.emitted, .host, .kw, .fab, .dio, .flt] s (breakSettled n s) := by
  unfold breakSettled
  split
  · exact clearBreak_frame n s (List.Subset.refl _) (Frame.refl _ s)
  · exact flagTold_frame n 1 true _ _ s
  · exact flagTold_frame n 2 true _ _ s

theorem execDioBreak_eq (n t : Nat) (s : State) : exec (.dioBreak n t) s = .next (
    if !isInput s n || !(chanOf s n).wb || decide ((s.at_ t).now < (chanOf s n).cls.2 + msTicks 10) then s.at_ t
    else breakSettled n (s.at_ t)) := by
  refine congrArg Host.Outcome.next (ite_congr rfl (fun _ => rfl) fun _ => ?_)
  unfold breakSettled flagTold
  generalize (chanOf (s.at_ t) n).cls.1 = kind
  rcases kind with _ | _ | kind
  · rfl
  · cases (chanOf (s.at_ t) n).brk <;> rfl
  · cases (chanOf (s.at_ t) n).invalid <;> rfl

end Break

/-! ## The statement -/

/-- Settles O49: a run of samples by how far it moves the count, an edge by its acceptance, and the flags by the class. -/
theorem inputFilterAcceptsEdges : Obligations.InputFilterAcceptsEdges := by
  unfold Obligations.InputFilterAcceptsEdges
  refine ⟨fun c l hl hend => ⟨sampleRun_not_due hl hend, sampleRun_keeps l c⟩,
    fun n mv ua t s c hc => ⟨fun hno => ⟨exec_dioInputSample_noInput mv ua t hno, exec_inputEdgeAccept_noInput t hno⟩,
      fun hin => ⟨exec_dioInputSample_early mv ua t hc, fun hready hidle => ?sample, fun stamp hready hat hdue => ?late,
        fun stamp hat hdue => ?accept, fun hidle => ?idle⟩⟩,
    fun c => edgeDue_of_flagged, fun n t s c hc => ⟨fun hidle => ?unbroken, fun hin hwb hlong => ?broken⟩⟩
  case sample =>
    have hexec := exec_dioInputSample mv ua t hc hin hready
    rw [acceptDue_idle (s := s.at_ t) hc hidle] at hexec
    exact ⟨_, _, hexec, chan_modChan_self hc _, rfl, fun k hk => chan_modChan_ne hk _ (s.at_ t),
      modChan_frame n _ _ (by decide) ((at_frame s t).mono (by decide))⟩
  case late =>
    obtain ⟨e, he⟩ := acceptEdge_chan (s := s.at_ t) hc stamp
    have hexec := exec_dioInputSample mv ua t hc hin hready
    rw [acceptDue_due (s := s.at_ t) hc hat hdue] at hexec
    have hnow : (acceptEdge n stamp (s.at_ t)).now = (s.at_ t).now := (acceptEdge_frame_self n stamp _).now_eq (by decide)
    obtain ⟨hy, hedges, -, hsampled⟩ := sampleChan_keeps (acceptEdge n stamp (s.at_ t)).now mv ua
      { c.accepted with edgeNotice := e, sampled := some (acceptEdge n stamp (s.at_ t)).now }
    exact ⟨_, _, hexec, chan_modChan_self he _, hy, hedges, hsampled.trans (congrArg some hnow),
      fun k hk => (chan_modChan_ne hk _ _).trans (acceptEdge_chan_ne hk stamp (s.at_ t))⟩
  case accept =>
    obtain ⟨e, he⟩ := acceptEdge_chan (s := s.at_ t) hc stamp
    refine ⟨_, _, (exec_inputEdgeAccept t hin).trans (congrArg Host.Outcome.next (acceptDue_due (s := s.at_ t) hc hat hdue)), he,
      rfl, rfl, rfl, rfl, rfl, fun k hk => acceptEdge_chan_ne hk stamp (s.at_ t), ?_⟩
    exact ((at_frame s t).mono (by decide)).trans' ((acceptEdge_frame_self n stamp _).mono (by decide))
  case idle => rw [exec_inputEdgeAccept t hin, acceptDue_idle (s := s.at_ t) hc hidle]
  case unbroken =>
    rw [execDioBreak_eq, chanOf_eq hc, if_pos]
    rcases hidle with hidle | hidle | hidle <;> simp only [hidle, Bool.not_false, Bool.true_or, Bool.or_true, decide_true]
  case broken =>
    have hset : (breakSettled n (s.at_ t)).dio.chan[n]? = some c.flagged := breakSettled_chan hc
    refine ⟨_, _, ?_, hset, ?_, ?_, ?_, ?_, fun k hk => breakSettled_chan_ne hk (s.at_ t),
      ((at_frame s t).mono (by decide)).trans' ((breakSettled_frame n _).mono (by decide))⟩
    · rw [execDioBreak_eq, chanOf_eq hc, if_neg (by simp only [hin, hwb, Nat.not_lt.2 hlong, decide_false]; decide)]
    all_goals unfold DioChan.flagged
    · split <;> rfl
    · intro hcls
      rw [hcls]
      exact ⟨rfl, rfl⟩
    · intro hcls
      rw [hcls]
      exact ⟨rfl, rfl⟩
    · intro hcls
      rw [hcls]
      exact ⟨rfl, rfl⟩

end Sys2Proof.Machine
end

section
/-! PROOFS. The Field I/O group: its status words, the configuration of a channel, the return to service, and the safe-state causes that
the host and the sideband set and clear. -/

namespace Sys2Proof.Machine

open Sys2Proof

/-! ## DIO_STATUS (10 Table 10.9) -/

theorem flatMap_le4_length (l : List Nat) : (l.flatMap le4).length = 4 * l.length := by
  induction l with
  | nil => rfl
  | cons x l ih => rw [List.flatMap_cons, List.length_append, ih, le4_length, List.length_cons, Nat.mul_succ, Nat.add_comm]

/-- A row of 32-bit words read back. -/
theorem fld_flatMap_le4 {l : List Nat} {i v : Nat} (h : l[i]? = some v) : fld (l.flatMap le4) (4 * i) 4 = v % 2 ^ 32 := by
  induction l generalizing i with
  | nil => cases h
  | cons x l ih =>
    rw [List.flatMap_cons]
    cases i with
    | zero =>
      cases h
      exact (fld_append_left (le4_length _)).trans (leVal_leBytes 4 _)
    | succ i =>
      rw [fld_append_right (by rw [le4_length]; omega), le4_length, Nat.mul_succ, Nat.add_sub_cancel]
      exact ih h

/-- The words of DIO_STATUS, in their order. -/
def dioWords (s : State) : List Nat := (List.range 32).map (dioStatus s) ++ (List.range 16).map (feedStatus s) ++ [fieldV s]

theorem dioWords_length (s : State) : (dioWords s).length = 49 := by simp [dioWords]

theorem dioWords_chan (s : State) {n : Nat} (h : n < 32) : (dioWords s)[n]? = some (dioStatus s n) := by
  rw [dioWords, List.append_assoc, List.getElem?_append_left (by simpa using h)]
  simp [h]

theorem dioWords_feed (s : State) {k : Nat} (h : k < 16) : (dioWords s)[32 + k]? = some (feedStatus s k) := by
  rw [dioWords, List.append_assoc, List.getElem?_append_right (by simp), List.getElem?_append_left (by simpa using h)]
  simp [h]

theorem dioWords_fieldV (s : State) : (dioWords s)[48]? = some (fieldV s) := by
  rw [dioWords, List.getElem?_append_right (by simp)]
  simp

theorem exec_dioStatus {r : Ref} {p : Packet} {s : State} (h : opStarts 0x0A01 r p s = true) :
    exec (.dioStatus r) s = .next (ok p ((dioWords s).flatMap le4) s) := by
  refine congrArg Host.Outcome.next ((runOp_starts h _).trans ?_)
  simp only [dioWords, List.flatMap_append, List.flatMap_map, List.flatMap_cons, List.flatMap_nil, List.append_nil]

/-! ### The fields of a status word -/

theorem b2n_le_one (b : Bool) : b2n b ≤ 1 := by cases b <;> decide

theorem bit_of_mod {v i : Nat} {b : Bool} (h : v / 2 ^ i % 2 = b2n b) : bit v i = b := by
  rw [bit, h]
  cases b <;> rfl

/-- DIO_STATUSn of a channel. -/
def DioChan.status (c : DioChan) : Nat :=
  b2n c.y + 2 * b2n c.raw + 4 * b2n c.out + 8 * b2n c.brk + 16 * b2n c.invalid + 32 * b2n c.openload + 64 * b2n c.short +
    128 * b2n c.safe + 256 * b2n c.retired + 512 * (c.causes.toNat % 64) + 65536 * (c.meas % 65536)

theorem dioStatus_eq {s : State} {n : Nat} {c : DioChan} (h : s.dio.chan[n]? = some c) : dioStatus s n = c.status := by
  rw [dioStatus, chanOf_eq h]
  rfl

theorem DioChan.status_fields (c : DioChan) : bit c.status 0 = c.y ∧ bit c.status 1 = c.raw ∧ bit c.status 2 = c.out ∧
    bit c.status 3 = c.brk ∧ bit c.status 4 = c.invalid ∧ bit c.status 5 = c.openload ∧ bit c.status 6 = c.short ∧
    bit c.status 7 = c.safe ∧ bit c.status 8 = c.retired ∧ bits c.status 14 9 = c.causes.toNat % 64 ∧
    bits c.status 31 16 = c.meas % 65536 := by
  have hy := b2n_le_one c.y
  have hraw := b2n_le_one c.raw
  have hout := b2n_le_one c.out
  have hbrk := b2n_le_one c.brk
  have hinvalid := b2n_le_one c.invalid
  have hopenload := b2n_le_one c.openload
  have hshort := b2n_le_one c.short
  have hsafe := b2n_le_one c.safe
  have hretired := b2n_le_one c.retired
  refine ⟨bit_of_mod ?_, bit_of_mod ?_, bit_of_mod ?_, bit_of_mod ?_, bit_of_mod ?_, bit_of_mod ?_, bit_of_mod ?_, bit_of_mod ?_,
    bit_of_mod ?_, ?_, ?_⟩
  all_goals
    simp only [DioChan.status, bits]
    omega

/-! ## DIO_CONFIG (10 R481, R482, R516) -/

section Config

variable {r : Ref} {p : Packet} {s : State} (h : opStarts 0x0A02 r p s = true)
include h

theorem exec_dioConfig_global (hn : fld p.params 0 1 = 0xFF) (hv : fld p.params 8 8 ≤ 1) :
    exec (.dioConfig r) s = .next (ok p [] (s.setDio { s.dio with sagSafe := fld p.params 8 8 == 1 })) := by
  have hbit : bit (fld p.params 8 8) 0 = (fld p.params 8 8 == 1) := by
    interval_cases fld p.params 8 8 <;> rfl
  refine congrArg Host.Outcome.next ((runOp_starts h _).trans ?_)
  dsimp only
  rw [if_pos hn, if_neg (by omega), hbit]

theorem exec_dioConfig_globalBad (hn : fld p.params 0 1 = 0xFF) (hv : 1 < fld p.params 8 8) :
    exec (.dioConfig r) s = .next (refuse p stBAD_PARAM 0x28 s) := by
  refine congrArg Host.Outcome.next ((runOp_starts h _).trans ?_)
  dsimp only
  rw [if_pos hn, if_pos hv]

theorem exec_dioConfig_noChan (hn : 31 < fld p.params 0 1) (hg : fld p.params 0 1 ≠ 0xFF) :
    exec (.dioConfig r) s = .next (refuse p stBAD_PARAM 0x20 s) := by
  refine congrArg Host.Outcome.next ((runOp_starts h _).trans ?_)
  dsimp only
  rw [if_neg hg, if_pos hn]

section Chan

variable (hn : fld p.params 0 1 ≤ 31)
include hn

theorem exec_dioConfig_used (hused : chanNamed s (fld p.params 0 1) = true ∨ pendingOn s (fld p.params 0 1) ≠ []) :
    exec (.dioConfig r) s = .next (refuse p stDENIED noField s) := by
  refine congrArg Host.Outcome.next ((runOp_starts h _).trans ?_)
  dsimp only
  rw [if_neg (by omega), if_neg (by omega), if_pos (by simpa using hused)]

variable (hnamed : chanNamed s (fld p.params 0 1) = false) (hpend : pendingOn s (fld p.params 0 1) = [])
include hnamed hpend

theorem exec_dioConfig_bad {o : Nat} (hbad : dioBad s (fld p.params 0 1) (fld p.params 8 8) = some o) :
    exec (.dioConfig r) s = .next (refuse p stBAD_PARAM o s) := by
  refine congrArg Host.Outcome.next ((runOp_starts h _).trans ?_)
  dsimp only
  rw [if_neg (by omega), if_neg (by omega), if_neg (by simp [hnamed, hpend]), hbad]

theorem exec_dioConfig (hgood : dioBad s (fld p.params 0 1) (fld p.params 8 8) = none) :
    exec (.dioConfig r) s = .next (ok p [] (applyDio (fld p.params 0 1) (fld p.params 8 8) s)) := by
  refine congrArg Host.Outcome.next ((runOp_starts h _).trans ?_)
  dsimp only
  rw [if_neg (by omega), if_neg (by omega), if_neg (by simp [hnamed, hpend]), hgood]

end Chan

end Config

/-- A channel with a new configuration, before its output follows. -/
def DioChan.configured (v now : Nat) (c : DioChan) : DioChan :=
  let wb := bit v 3 && bits v 1 0 == 1
  { c with
    cfg := BitVec.ofNat 64 v, cfgLost := false, count := 0, y := false, cls := (0, now), shorted := false
    sampled := none, dueAt := none
    brk := c.brk && wb, invalid := c.invalid && wb, openload := c.openload && bits v 1 0 == 2 && bit v 4 }

section ApplyDio

variable (n v : Nat) (s : State)

theorem firingOn_applyDio : firingOn (applyDio n v s) n = none := firingOn_endPulse n (modChan n (DioChan.configured v s.now) s)

variable {n s}

theorem chan_applyDio_ne {k : Nat} (hk : k ≠ n) : (applyDio n v s).dio.chan[k]? = s.dio.chan[k]? :=
  (chan_endPulse_ne hk (modChan n (DioChan.configured v s.now) s)).trans (chan_modChan_ne hk _ s)

/-- The output is off outside the safe state: no entry is on (10 R481). -/
theorem chan_applyDio {c : DioChan} (h : s.dio.chan[n]? = some c) :
    ∃ o, (applyDio n v s).dio.chan[n]? = some ((c.configured v s.now).settled o) ∧ (c.causes = 0 → o = false) := by
  have hmod : (modChan n (DioChan.configured v s.now) s).dio.chan[n]? = some (c.configured v s.now) := chan_modChan_self h _
  have hnow := chanOf_eq (s := pulsesLogged n (modChan n (DioChan.configured v s.now) s)) (by rw [pulsesLogged_dio, hmod])
  exact ⟨_, chan_endPulse hmod, fun hlive =>
    outNow_of_not_firing ((congrArg DioChan.causes hnow).trans hlive) (firingOn_pulsesLogged n _)⟩

end ApplyDio

/-! ## DIO_UNRETIRE (10 R502; 12 R572) -/

/-- A channel, or a feed, is in service again, its return asked for in the Record and logged. -/
def outputReturned (n : Nat) (s : State) : State :=
  settleOut n (returned 4 n (wantRecord 3 (modChan n (fun c => { c with retired := false }) s)))

def feedReturned (k : Nat) (s : State) : State :=
  settleFeed k (returned 5 k (wantRecord 3 (modFeed k (fun f => { f with retired := false }) s)))

theorem outputReturned_retired {s : State} {n : Nat} {c : DioChan} (h : s.dio.chan[n]? = some c) :
    ((outputReturned n s).dio.chan[n]?).map (·.retired) = some false := by
  have hmod := chan_modChan_self h fun c => { c with retired := false }
  exact congrArg (Option.map _)
    (chan_settleOut (s := returned 4 n (wantRecord 3 (modChan n (fun c => { c with retired := false }) s))) hmod)

theorem outputReturned_wanted (n : Nat) (s : State) : (outputReturned n s).boot.wanted.isSome = true :=
  wantRecord_wanted_isSome 3 (modChan n (fun c => { c with retired := false }) s)

theorem feedReturned_feed {s : State} {k : Nat} {f : Feed} (h : s.dio.feed[k]? = some f) :
    (feedReturned k s).dio.feed[k]? = some { f with retired := false, closed := !f.unpowered && !f.tripped } := by
  have hmod := feed_modFeed_self h fun f => { f with retired := false }
  have hset := feed_settleFeed (s := returned 5 k (wantRecord 3 (modFeed k (fun f => { f with retired := false }) s))) hmod
  rw [feedReturned, hset, Feed.settled, Bool.not_false, Bool.and_true]

theorem feedReturned_wanted (k : Nat) (s : State) : (feedReturned k s).boot.wanted.isSome = true :=
  wantRecord_wanted_isSome 3 (modFeed k (fun f => { f with retired := false }) s)

theorem noticeCapacity_frame_self (budget inst : Nat) (s : State) :
    Frame [.emitted, .host, .kw, .fab, .flt] s (noticeCapacity budget inst s) :=
  noticeCapacity_frame budget inst s (List.Subset.refl _) (Frame.refl _ s)

theorem exec_dioUnretire {r : Ref} {p : Packet} {s : State} (h : opStarts 0x0A20 r p s = true) : exec (.dioUnretire r) s = .next (
    let n := fld p.params 1 1
    if 1 < fld p.params 0 1 then refuse p stBAD_PARAM 0x20 s
    else if fld p.params 0 1 = 0 then
      if 31 < n ∨ !(chanOf s n).retired then refuse p stBAD_PARAM 0x21 s
      else if chanHeld s n then refuse p stDENIED noField s
      else ok p [] (outputReturned n s)
    else if 15 < n ∨ !(feedOf s n).retired then refuse p stBAD_PARAM 0x21 s
    else if chanHeld s (2 * n) || chanHeld s (2 * n + 1) then refuse p stDENIED noField s
    else ok p [] (noticeCapacity 7 n (feedReturned n s))) := congrArg Host.Outcome.next (runOp_starts h _)

section Unretire

variable {r : Ref} {p : Packet} {s : State} (h : opStarts 0x0A20 r p s = true)
include h

theorem exec_dioUnretire_noKind (hk : 1 < fld p.params 0 1) : exec (.dioUnretire r) s = .next (refuse p stBAD_PARAM 0x20 s) := by
  rw [exec_dioUnretire h]
  exact congrArg Host.Outcome.next (if_pos hk)

section Channel

variable (hk : fld p.params 0 1 = 0)
include hk

theorem exec_dioUnretire_channel_none (hno : 31 < fld p.params 1 1 ∨ (chanOf s (fld p.params 1 1)).retired = false) :
    exec (.dioUnretire r) s = .next (refuse p stBAD_PARAM 0x21 s) := by
  rw [exec_dioUnretire h]
  dsimp only
  rw [if_neg (by omega), if_pos hk, if_pos (by simpa using hno)]

theorem exec_dioUnretire_channel (hn : fld p.params 1 1 ≤ 31) (hret : (chanOf s (fld p.params 1 1)).retired = true) :
    exec (.dioUnretire r) s = .next (if chanHeld s (fld p.params 1 1) then refuse p stDENIED noField s
      else ok p [] (outputReturned (fld p.params 1 1) s)) := by
  rw [exec_dioUnretire h]
  dsimp only
  rw [if_neg (by omega), if_pos hk, if_neg (by simp [hn, hret])]

end Channel

section Feed

variable (hk : fld p.params 0 1 = 1)
include hk

theorem exec_dioUnretire_feed_none (hno : 15 < fld p.params 1 1 ∨ (feedOf s (fld p.params 1 1)).retired = false) :
    exec (.dioUnretire r) s = .next (refuse p stBAD_PARAM 0x21 s) := by
  rw [exec_dioUnretire h]
  dsimp only
  rw [if_neg (by omega), if_neg (by omega), if_pos (by simpa using hno)]

theorem exec_dioUnretire_feed (hn : fld p.params 1 1 ≤ 15) (hret : (feedOf s (fld p.params 1 1)).retired = true) :
    exec (.dioUnretire r) s = .next (
      if chanHeld s (2 * fld p.params 1 1) || chanHeld s (2 * fld p.params 1 1 + 1) then refuse p stDENIED noField s
      else ok p [] (noticeCapacity 7 (fld p.params 1 1) (feedReturned (fld p.params 1 1) s))) := by
  rw [exec_dioUnretire h]
  dsimp only
  rw [if_neg (by omega), if_neg (by omega), if_neg (by simp [hn, hret])]

end Feed

end Unretire

/-! ## DIO_SAFE_ASSERT and DIO_SAFE_RELEASE (10 R503, R510) -/

theorem mem_maskChans {m : Word} {n : Nat} : n ∈ maskChans m ↔ m.getLsbD n = true := by
  rw [maskChans, List.mem_filter, List.mem_range, and_iff_right_iff_imp]
  exact BitVec.lt_of_getLsbD

theorem maskChans_nodup (m : Word) : (maskChans m).Nodup := List.nodup_range.filter _

/-- A channel with a cause that is set is in its safe state. -/
theorem safe_withCause {b : Nat} (hb : b < 32) (c : DioChan) : (c.withCause b true).safe = true := by
  refine bne_iff_ne.2 fun h0 => ?_
  have hset := getLsbD_causeSet b true c.causes hb
  rw [show causeSet b true c.causes = 0 from h0, if_pos rfl] at hset
  simp at hset

/-- An output that is not SAFE ON goes off with its first cause. -/
theorem setCause_out {b : Nat} (hb : b < 32) {l : List Nat} {n : Nat} (hl : l.Nodup) (hn : n ∈ l) {s : State} {c : DioChan}
    (h : s.dio.chan[n]? = some c) (hfirst : c.causes.getLsbD b = false) (hoff : c.safeOn = false) :
    ((setCause b true l s).dio.chan[n]?).map (·.out) = some false := by
  obtain ⟨o, hset, hstays⟩ := setCause_chan h hl hn (b := b) (on := true) (by rw [hfirst]; decide)
  have ho : o = false := hstays (.inr (by rwa [if_pos (safe_withCause hb c)]))
  rw [hset, ho]
  rfl

/-- The cause that an issuer sets (10 Table 10.6). -/
def issuerCause (p : Packet) : Nat := if p.principal = 64 then 0 else 1

theorem issuerCause_lt (p : Packet) : issuerCause p < 32 := by
  unfold issuerCause
  split <;> decide

theorem causeSet_issuer (p : Packet) (w : Word) :
    causeSet (issuerCause p) true w = w ||| (if p.principal = 64 then 1 else 2) := by
  unfold issuerCause
  split <;> rfl

theorem exec_dioSafeAssert {r : Ref} {p : Packet} {s : State} (h : opStarts 0x0A30 r p s = true) :
    exec (.dioSafeAssert r) s =
      .next (ok p [] (pruneRecipes (setCause (issuerCause p) true (maskChans (BitVec.ofNat 32 (fld p.params 0 4))) s))) :=
  congrArg Host.Outcome.next (runOp_starts h _)

/-- A set of causes with a cause cleared that a mask names. -/
def causeReleased (causes b : Nat) (w : Word) : Word := if bit causes b then causeSet b false w else w

theorem bit_eq_testBit (v i : Nat) : bit v i = v.testBit i := by
  rw [bit, Nat.testBit_eq_decide_div_mod_eq]
  rfl

theorem getLsbD_causeReleased (causes b : Nat) (w : Word) {i : Nat} (hi : i < 32) :
    (causeReleased causes b w).getLsbD i = (w.getLsbD i && !(decide (i = b) && causes.testBit b)) := by
  unfold causeReleased
  rw [bit_eq_testBit]
  split
  next hset =>
    rw [getLsbD_causeSet b false w hi]
    by_cases hib : i = b <;> simp [hib, hset]
  next hset => simp [hset]

/-- The causes that a release clears, one after the other, are those of its mask. -/
theorem causeReleased_all {causes : Nat} (h : causes ≤ 7) (w : Word) :
    causeReleased causes 2 (causeReleased causes 1 (causeReleased causes 0 w)) = w &&& ~~~(BitVec.ofNat 32 causes) := by
  refine BitVec.eq_of_getLsbD_eq fun i hi => ?_
  rw [getLsbD_causeReleased _ _ _ hi, getLsbD_causeReleased _ _ _ hi, getLsbD_causeReleased _ _ _ hi, BitVec.getLsbD_and,
    BitVec.getLsbD_not, BitVec.getLsbD_ofNat]
  rcases i with _ | _ | _ | i
  case succ.succ.succ =>
    have hpow : 2 ^ 3 ≤ 2 ^ (i + 3) := Nat.pow_le_pow_right (by decide) (by omega)
    simp [Nat.testBit_lt_two_pow (show causes < 2 ^ (i + 3) by omega), hi]
  all_goals simp

theorem clearIf_causes {l : List Nat} (hl : l.Nodup) {n : Nat} {s : State} {w : Word}
    (h : (s.dio.chan[n]?).map (·.causes) = some w) (causes b : Nat) :
    ((clearIf causes b l s).dio.chan[n]?).map (·.causes) = some (if n ∈ l then causeReleased causes b w else w) := by
  obtain ⟨c, hc, rfl⟩ := Option.map_eq_some_iff.1 h
  unfold clearIf causeReleased
  split
  · exact setCause_causes hc hl
  · rw [ite_self, h]

/-- The causes of a mask, cleared on the channels of a list. -/
def causesCleared (causes : Nat) (l : List Nat) (s : State) : State :=
  clearIf causes 2 l (clearIf causes 1 l (clearIf causes 0 l s))

theorem causesCleared_causes {l : List Nat} (hl : l.Nodup) {n : Nat} {s : State} {c : DioChan} (h : s.dio.chan[n]? = some c)
    {causes : Nat} (hcauses : causes ≤ 7) : ((causesCleared causes l s).dio.chan[n]?).map (·.causes) =
      some (if n ∈ l then c.causes &&& ~~~(BitVec.ofNat 32 causes) else c.causes) := by
  have h0 : (s.dio.chan[n]?).map (·.causes) = some c.causes := by rw [h]; rfl
  have hall := clearIf_causes hl (clearIf_causes hl (clearIf_causes hl h0 causes 0) causes 1) causes 2
  rw [causesCleared, hall]
  by_cases hn : n ∈ l
  · simp only [if_pos hn, causeReleased_all hcauses]
  · simp only [if_neg hn]

section Release

variable {r : Ref} {p : Packet} {s : State} (h : opStarts 0x0A31 r p s = true)
include h

theorem exec_dioSafeRelease : exec (.dioSafeRelease r) s = .next (
    if 7 < fld p.params 4 1 then refuse p stBAD_PARAM 0x24 s
    else if mayNotClear p (fld p.params 4 1) then refuse p stDENIED noField s
    else ok p [] (pruneRecipes (causesCleared (fld p.params 4 1) (maskChans (BitVec.ofNat 32 (fld p.params 0 4))) s))) :=
  congrArg Host.Outcome.next (runOp_starts h _)

theorem exec_dioSafeRelease_denied (hcauses : fld p.params 4 1 ≤ 7) (hp : p.principal ≠ 64) (hsb : bit (fld p.params 4 1) 0 = true) :
    exec (.dioSafeRelease r) s = .next (refuse p stDENIED noField s) := by
  rw [exec_dioSafeRelease h, if_neg (by omega), if_pos (by simp [mayNotClear, hp, hsb])]

theorem exec_dioSafeRelease_clears (hcauses : fld p.params 4 1 ≤ 7) (hmay : p.principal = 64 ∨ bit (fld p.params 4 1) 0 = false) :
    exec (.dioSafeRelease r) s =
      .next (ok p [] (pruneRecipes (causesCleared (fld p.params 4 1) (maskChans (BitVec.ofNat 32 (fld p.params 0 4))) s))) := by
  rw [exec_dioSafeRelease h, if_neg (by omega), if_neg]
  rcases hmay with hmay | hmay <;> simp [mayNotClear, hmay]

end Release

/-! ## The statement -/

/-- Settles O51: each opcode by its own equations above, the status word by its fields, and the causes by the channels of the
mask. -/
theorem fieldIoOpcodes : Obligations.FieldIoOpcodes := by
  unfold Obligations.FieldIoOpcodes
  refine ⟨fun r p s h => ?status, fun s n c hc => ?word, fun r p s h => ?config, fun r p s h => ?unretire,
    fun r p s _ h => ⟨_, exec_dioSafeAssert h, fun n c hc => ⟨?asserted, fun hn hlive hoff => ?off⟩⟩, fun r p s _ h => ?release⟩
  case status =>
    refine ⟨_, exec_dioStatus h, by rw [flatMap_le4_length, dioWords_length], fun n hn => fld_flatMap_le4 (dioWords_chan s hn),
      fun k hk => ?_, fld_flatMap_le4 (dioWords_fieldV s)⟩
    rw [show 128 + 4 * k = 4 * (32 + k) by omega]
    exact fld_flatMap_le4 (dioWords_feed s hk)
  case word =>
    dsimp only
    rw [dioStatus_eq hc]
    exact c.status_fields
  case config =>
    refine ⟨exec_dioConfig_global h, exec_dioConfig_globalBad h, exec_dioConfig_noChan h, exec_dioConfig_used h,
      fun o hn hnamed hpend hbad => exec_dioConfig_bad h hn hnamed hpend hbad, fun c hn hc hnamed hpend hgood => ?_⟩
    obtain ⟨o, hset, hoff⟩ := chan_applyDio (fld p.params 8 8) hc
    exact ⟨_, _, exec_dioConfig h hn hnamed hpend hgood, hset, rfl, rfl, rfl, rfl, rfl, rfl, rfl, rfl, hoff,
      firingOn_applyDio _ _ s, fun k hk => chan_applyDio_ne _ hk⟩
  case unretire =>
    refine ⟨exec_dioUnretire_noKind h, exec_dioUnretire_channel_none h, exec_dioUnretire_feed_none h,
      fun c hk hn hc hret => ?_, fun f hk hn hf hret => ?_⟩
    · have hexec := exec_dioUnretire_channel h hk hn (by rw [chanOf_eq hc, hret])
      exact ⟨fun hheld => by rw [hexec, if_pos hheld], fun hfree =>
        ⟨_, hexec.trans (congrArg Host.Outcome.next (if_neg (by simp [hfree]))), outputReturned_retired hc,
          outputReturned_wanted _ s⟩⟩
    · have hexec := exec_dioUnretire_feed h hk hn (by rw [feedOf_eq hf, hret])
      have htold := noticeCapacity_frame_self 7 (fld p.params 1 1) (feedReturned (fld p.params 1 1) s)
      refine ⟨fun hheld => ?_, fun hfirst hsecond =>
        ⟨_, hexec.trans (congrArg Host.Outcome.next (if_neg (by simp [hfirst, hsecond]))), ?_, ?_⟩⟩
      · rw [hexec, if_pos (by simpa using hheld)]
      · rw [htold.dio_eq (by decide), feedReturned_feed hf]
      · rw [htold.boot_eq (by decide), feedReturned_wanted]
  case asserted =>
    refine (setCause_causes hc (maskChans_nodup _)).trans ?_
    rw [causeSet_issuer]
    simp only [mem_maskChans]
  case off =>
    exact setCause_out (issuerCause_lt p) (maskChans_nodup _) (mem_maskChans.2 hn) hc (by rw [hlive]; simp) hoff
  case release =>
    refine ⟨fun hbad => by rw [exec_dioSafeRelease h, if_pos hbad], exec_dioSafeRelease_denied h,
      fun hcauses hmay => ⟨_, exec_dioSafeRelease_clears h hcauses hmay, fun n c hc => ?_⟩⟩
    refine (causesCleared_causes (maskChans_nodup _) hc hcauses).trans ?_
    simp only [mem_maskChans]

end Sys2Proof.Machine
end

section
/-! PROOFS. Outputs and feeds: open loads, shorts, trips and reclosing, coupler frames, the link watchdog and the field supplies. -/

namespace Sys2Proof.Machine

open Sys2Proof

/-! ## What has left the unit stays so at a notice -/

theorem msixSend_emits (n v : Nat) (s : State) : s.emitted <:+ (msixSend n v s).emitted := by
  unfold msixSend
  split
  · exact List.suffix_rfl
  · split
    · exact List.suffix_rfl
    · exact List.suffix_cons _ _

theorem ringError_emits (n bitNo : Nat) (s : State) : s.emitted <:+ (ringError n bitNo s).emitted := by
  have hlogged (l : List Packet) (u : State) : (logCancelled l u).emitted = u.emitted :=
    logCancelled_frame l u (List.Subset.refl _) (Frame.refl _ u) .emitted (by decide)
  unfold ringError
  dsimp only
  rw [hlogged, modTen_emitted]
  exact msixSend_emits n 2 (setStatus n bitNo (clearEn n s))

theorem holdNotice_emitted (n : Nat) (nt : Notice) (s : State) : (holdNotice n nt s).emitted = s.emitted :=
  holdNotice_frame n nt s (List.Subset.refl _) (Frame.refl _ s) .emitted (by decide)

theorem noticeTo_emits (n : Nat) (code : Half) (sp : Word) (data : Bytes) (s : State) :
    s.emitted <:+ (noticeTo n code sp data s).emitted := by
  unfold noticeTo
  dsimp only
  split
  · exact List.suffix_rfl
  · split
    · rw [holdNotice_emitted, modTen_emitted]
    · split
      · rw [holdNotice_emitted]
        exact ringError_emits n 2 (modTen n _ s)
      · exact msixSend_emits n 1 (writeSlot n 1 _ (modTen n _ s))

theorem noticeAll_emits (l : List Nat) (code : Half) (sp : Word) (data : Bytes) (s : State) :
    s.emitted <:+ (noticeAll l code sp data s).emitted := by
  induction l generalizing s with
  | nil => exact List.suffix_rfl
  | cons n l ih => exact (noticeTo_emits n code sp data s).trans (ih _)

theorem noticeUnit_emits (code : Half) (data : Bytes) (s : State) : s.emitted <:+ (noticeUnit code data s).emitted := by
  unfold noticeUnit noticeUnitAt
  split
  · exact List.suffix_rfl
  · exact noticeAll_emits ..

theorem upsetRetire_channel_emits (n how : Nat) (injected : Bool) (retries affected : Nat) (s : State) :
    s.emitted <:+ (upsetRetire 4 n how injected retries affected s).emitted := by
  obtain ⟨t, ht, hu | hu⟩ := upsetRetire_cases 4 n how injected retries affected s
  · rw [hu, ht .emitted (by decide)]
  · have hended : Frame [.led, .draw, .hm, .dio, .boot] t (endPulse n (channelMarked n t)) :=
      endPulse_frame n _ (by decide) (wantRecord_frame 2 _ (by decide) (modChan_frame n _ t (by decide) (Frame.refl _ t)))
    have hlogged (l : List Act) (u : State) : Frame [.led, .draw, .hm, .flt] u (logRetired 4 n (retireEntries l u)) :=
      logRetired_frame 4 n _ (by decide) (retireEntries_frame l u (by decide) (Frame.refl _ u))
    rw [hu, ← ht .emitted (by decide), ← hended .emitted (by decide),
      ← hlogged (pendingOn (endPulse n (channelMarked n t)) n) _ .emitted (by decide)]
    exact noticeUnit_emits ..

/-! ## Open loads (10 R498) -/

section OpenLoad

variable {n : Nat} {s : State} {c : DioChan} (h : s.dio.chan[n]? = some c)
include h

theorem exec_dioOpenload : exec (.dioOpenload n) s = .next (
    if isOutput s n && domOn s 4 && c.ol && !c.out && !c.openload then
      noticeUnit 0x0A03 (le1 n) (modChan n (fun c => { c with openload := true }) s)
    else s) := by
  rw [← chanOf_eq h]
  rfl

theorem exec_openloadClear : exec (.openloadClear n) s = .next (
    if isOutput s n && domOn s 4 && !c.out then modChan n (fun c => { c with openload := false }) s else s) := by
  rw [← chanOf_eq h]
  rfl

end OpenLoad

/-! ## Shorts (10 R499) -/

/-- A channel whose short is counted, and that is off until its next entry. -/
def DioChan.shortCounted (c : DioChan) : DioChan := { c with shorted := true, short := true, shorts := satInc c.shorts }

/-- The short is counted, the pulse ended and the short told. -/
def shortTold (n : Nat) (overload : Bool) (s : State) : State :=
  noticeUnit 0x0A04 (le1 n ++ le1 (b2n overload)) (endPulse n (modChan n DioChan.shortCounted s))

theorem chan_shortTold {n : Nat} {s : State} {c : DioChan} (h : s.dio.chan[n]? = some c) (overload : Bool) :
    (shortTold n overload s).dio.chan[n]? = some (c.shortCounted.settled false) := by
  have hmod : (modChan n DioChan.shortCounted s).dio.chan[n]? = some c.shortCounted := chan_modChan_self h _
  have hnow := chanOf_eq (s := pulsesLogged n (modChan n DioChan.shortCounted s)) (by rw [pulsesLogged_dio, hmod])
  rw [shortTold, noticeUnit_dio, chan_endPulse hmod, outNow_of_shorted (by rw [hnow]; rfl) (firingOn_pulsesLogged n _)]

theorem firingOn_shortTold (n : Nat) (overload : Bool) (s : State) : firingOn (shortTold n overload s) n = none :=
  (FewerActs.of_acts (congrArg Hallmark.acts (noticeUnit_hm ..))).firingOn_none (firingOn_endPulse n (modChan n DioChan.shortCounted s))

section Short

variable (n t : Nat) (overload : Bool) (s : State)

theorem exec_dioShort : exec (.dioShort n overload t) s = .next (
    if !(isOutput s n && (chanOf s n).out) then s.at_ t
    else pruneRecipes (upsetRetire 4 n 0x07 false 0 (pulsesOn s n) (shortTold n overload (s.at_ t)))) := rfl

end Short

/-! ## Trips (10 R500) -/

/-- A feed that has tripped at `now`. -/
def Feed.trippedAt (now : Nat) (f : Feed) : Feed :=
  { f with tripped := true, tripAt := now, trip := true, trips := satInc f.trips }

theorem exec_feedTrip (k peak higher t : Nat) (s : State) : exec (.feedTrip k peak higher t) s = .next (
    if !(decide (k < 16) && (feedOf s k).closed) then s.at_ t
    else
      let s1 := openFeed k (Feed.trippedAt (s.at_ t).now) (s.at_ t)
      let s2 := noticeUnit 0x0A05 (le1 k ++ [0] ++ le2 peak) s1
      let s3 := upsetRetire 5 k 0x07 false 0 (pulsesOn s (2 * k) + pulsesOn s (2 * k + 1)) s2
      upsetRetire 4 (2 * k + higher % 2) 0x07 false 0 (pulsesOn s (2 * k + higher % 2)) s3) := rfl

theorem openFeed_tripStands {k now : Nat} {s : State} {f : Feed} (h : s.dio.feed[k]? = some f) (hk : 2 * k + 1 < s.dio.chan.length) :
    TripStands k now (satInc f.trips) (openFeed k (Feed.trippedAt now) s) := by
  refine ⟨openFeed_off _ h ?_ hk, ?_, fun n hn => firingOn_openFeed _ hn⟩
  · simp [Feed.settled, Feed.trippedAt]
  · rw [feed_openFeed _ h]
    rfl

theorem exec_feedReclose (k : Nat) (s : State) : exec (.feedReclose k) s = .next (
    if (feedOf s k).tripped then
      settleFeed k (modFeed k (fun f => { f with tripped := false }) (s.at_ ((feedOf s k).tripAt + msTicks 100)))
    else s) := rfl

/-! ## Couplers (10 R483, R509) -/

theorem exec_couplerStatusFrame (n : Nat) (crcOk : Bool) (meas t : Nat) (s : State) :
    exec (.couplerStatusFrame n crcOk meas t) s = .next (
      if !(decide (n < 32) && domOn s 4) then s.at_ t
      else if crcOk then modChan n (fun c => { c with lastFrame := (s.at_ t).now, meas := measOf c meas }) (s.at_ t)
      else modChan n (fun c => { c with cplErr := satInc c.cplErr, framesSince := (s.at_ t).now }) (s.at_ t)) := rfl

theorem exec_couplerFrameError (n : Nat) (retryOk : Bool) (t : Nat) (s : State) : exec (.couplerFrameError n retryOk t) s = .next (
    if isOutput s n && domOn s 4 then frameError n retryOk false (s.at_ t) else s.at_ t) := rfl

/-- A lost switch-on leaves of its channel all but what its output shows. -/
theorem loseSwitchOn_chan {n : Nat} {s : State} {c : DioChan} (h : s.dio.chan[n]? = some c) :
    (loseSwitchOn n s).dio.chan[n]? = some c ∨ ∃ o, (loseSwitchOn n s).dio.chan[n]? = some (c.settled o) := by
  unfold loseSwitchOn
  split
  next a _ =>
    exact .inr ⟨_, chan_settleOut (s := logActOf { a with onSpos := 0 } 2 0 (dropAct a.handle s)) (by rw [actSkipped_dio, h])⟩
  next => exact .inl h

/-- Both frames of a switching command failed: they are counted, and the keepalive stops. -/
def keepaliveStopped (n : Nat) (s : State) : State :=
  (modChan n (fun c => { c with keepalive := false }) (modChan n (fun c => { c with cplErr := satAdd c.cplErr 2 }) s)).emit
    (.stopKeepalive n)

theorem frameError_twice (n : Nat) (injected : Bool) (s : State) : frameError n false injected s =
    upsetRetire 4 n 0x02 injected 1 (b2n (lostSwitchOn s n).isSome) (loseSwitchOn n (keepaliveStopped n s)) := rfl

theorem frameError_twice_chan {n : Nat} {s : State} {c : DioChan} (h : s.dio.chan[n]? = some c) (injected : Bool) :
    ∃ d, (frameError n false injected s).dio.chan[n]? = some d ∧ d.keepalive = false ∧ d.cplErr = satAdd c.cplErr 2 := by
  have hstopped : (keepaliveStopped n s).dio.chan[n]? = some { c with cplErr := satAdd c.cplErr 2, keepalive := false } :=
    chan_modChan_self (chan_modChan_self h _) _
  have hlost : ∃ d, (loseSwitchOn n (keepaliveStopped n s)).dio.chan[n]? = some d ∧ d.keepalive = false ∧
      d.cplErr = satAdd c.cplErr 2 := by
    rcases loseSwitchOn_chan hstopped with hd | ⟨o, hd⟩
    · exact ⟨_, hd, rfl, rfl⟩
    · exact ⟨_, hd, rfl, rfl⟩
  obtain ⟨d, hd, hkeep, herr⟩ := hlost
  rw [frameError_twice]
  obtain ⟨-, hsame | hret⟩ := upsetRetire_channel hd 0x02 injected 1 (b2n (lostSwitchOn s n).isSome)
  · exact ⟨d, hsame, hkeep, herr⟩
  · exact ⟨d.retire, hret, hkeep, herr⟩

theorem frameError_twice_emitted (n : Nat) (injected : Bool) (s : State) :
    .stopKeepalive n ∈ (frameError n false injected s).emitted := by
  have hlost : (loseSwitchOn n (keepaliveStopped n s)).emitted = .stopKeepalive n :: s.emitted :=
    loseSwitchOn_frame n _ (List.Subset.refl _) (Frame.refl _ (keepaliveStopped n s)) .emitted (by decide)
  rw [frameError_twice]
  exact (upsetRetire_channel_emits ..).subset (by rw [hlost]; exact List.mem_cons_self)

/-! ## The link watchdog (10 R509), and causes that clear themselves (10 Table 10.6) -/

theorem setCause_now (b : Nat) (on : Bool) (l : List Nat) (s : State) : (setCause b on l s).now = s.now :=
  (setCause_frame b on l s (List.Subset.refl _) (Frame.refl _ s)).now_eq (by decide)

/-- A cause that clears itself: outside its safe state the output is off (10 R507). -/
theorem setCause_cleared {b n : Nat} {s : State} {c : DioChan} (h : s.dio.chan[n]? = some c) (hset : c.causes.getLsbD b = true) :
    ∃ d, (setCause b false [n] s).dio.chan[n]? = some d ∧ d.causes = causeSet b false c.causes ∧
      (d.causes = 0 → d.out = false) := by
  obtain ⟨o, hd, hoff⟩ := setCause_chan h (List.nodup_singleton n) List.mem_cons_self (b := b) (on := false) (by rw [hset]; decide)
  refine ⟨_, hd, rfl, fun hnone => hoff (.inr ?_)⟩
  have hout : (c.withCause b false).causes = 0 := hnone
  have hin : c.causes ≠ 0 := fun h0 => by simp [h0] at hset
  have hunsafe : (c.withCause b false).safe = false := bne_eq_false_iff_eq.2 hout
  rw [if_neg (by rw [hunsafe]; decide)]
  exact bne_iff_ne.2 hin

/-- The state in which the watchdog sets cause LINK: the keepalive runs again while domain FIELD is on. -/
def watchdogFired (n : Nat) (s : State) : State :=
  modChan n (fun c => { c with keepalive := domOn s 4, framesSince := s.now }) s

theorem exec_linkWatchdog (n : Nat) (s : State) : exec (.linkWatchdog n) s = .next (
    if !(decide (n < 32)) || (chanOf s n).causes.getLsbD 3 then s
    else pruneRecipes (setCause 3 true [n] (watchdogFired n (s.at_ ((chanOf s n).lastFrame + usTicks 100))))) := rfl

theorem exec_linkCauseClear (n : Nat) (s : State) : exec (.linkCauseClear n) s = .next (
    if (chanOf s n).causes.getLsbD 3 && (chanOf s n).keepalive && domOn s 4 then
      pruneRecipes (setCause 3 false [n] (modChan n (fun c => { c with lastFrame := max s.now ((chanOf s n).framesSince + msTicks 10) })
        (s.at_ ((chanOf s n).framesSince + msTicks 10))))
    else s) := rfl

/-- The watchdog sets cause LINK, which leaves an output off that is not SAFE ON. -/
theorem linkWatchdog_chan {n : Nat} {s : State} {c : DioChan} (h : s.dio.chan[n]? = some c) (hclear : c.causes.getLsbD 3 = false) :
    ∃ d, (setCause 3 true [n] (watchdogFired n s)).dio.chan[n]? = some d ∧ d.causes = c.causes ||| 8 ∧ d.keepalive = domOn s 4 ∧
      (c.safeOn = false → d.out = false) := by
  have hmod : (watchdogFired n s).dio.chan[n]? = some { c with keepalive := domOn s 4, framesSince := s.now } := chan_modChan_self h _
  obtain ⟨o, hd, hoff⟩ := setCause_chan hmod (List.nodup_singleton n) List.mem_cons_self (b := 3) (on := true) (by rw [hclear]; decide)
  exact ⟨_, hd, rfl, rfl, fun hsafe => hoff (.inr (by rwa [if_pos (safe_withCause (by decide) _)]))⟩

theorem exec_supplyCauseClear {n since : Nat} {s : State} (h : (chanOf s n).supplySince = some since) :
    exec (.supplyCauseClear n) s = .next (
      if (chanOf s n).causes.getLsbD 4 then pruneRecipes (setCause 4 false [n] (s.at_ (since + msTicks 100))) else s) := by
  refine congrArg Host.Outcome.next ?_
  rw [h]

theorem exec_supplyCauseClear_idle {n : Nat} {s : State} (h : (chanOf s n).supplySince = none ∨ (chanOf s n).causes.getLsbD 4 = false) :
    exec (.supplyCauseClear n) s = .next s := by
  cases hs : (chanOf s n).supplySince with
  | none => exact congrArg Host.Outcome.next (by rw [hs])
  | some since =>
    rcases h with h | h
    · rw [hs] at h
      cases h
    · rw [exec_supplyCauseClear hs, if_neg (by rw [h]; decide)]

end Sys2Proof.Machine
end

section
/-! PROOFS. The field supplies: their loss opens feeds and sets cause SUPPLY, and their return closes feeds; and the statement on
outputs and feeds. -/

namespace Sys2Proof.Machine

open Sys2Proof

/-! ## A supply that is measured (10 R511) -/

theorem setSince_causes (l : List Nat) (v : Option Nat) (s : State) (n : Nat) :
    ((setSince l v s).dio.chan[n]?).map (·.causes) = (s.dio.chan[n]?).map (·.causes) := by
  rw [setSince, State.setDio_dio, List.getElem?_mapIdx, Option.map_map]
  congr 1
  funext c
  exact apply_ite DioChan.causes _ _ _ |>.trans (ite_self _)

/-- The supply's voltage and the time it has been good for are noted. -/
def supplyMeasured (x mv : Nat) (s : State) : State :=
  setSince (supplyChans x) (if 19200 ≤ mv then some s.now else none)
    (s.setDio { s.dio with fieldV := upd s.dio.fieldV x fun _ => mv % 65536 })

theorem supplyMeasured_frame (x mv : Nat) (s : State) : Frame [.dio] s (supplyMeasured x mv s) :=
  setSince_frame _ _ _ (List.Subset.refl _) (State.setDio_frame s _ (List.Subset.refl _) (Frame.refl _ s))

theorem supplyMeasured_lawful {z s : State} (h : Lawful z s) (x mv : Nat) : Lawful z (supplyMeasured x mv s) :=
  setSince_lawful _ _ _ (State.setDio_lawful h (fun hlen => hlen) (fun hlen => hlen))

theorem fieldSupply_eq (x mv : Nat) (s : State) : fieldSupply x mv s =
    if mv < 14000 then
      let s3 := setCause 4 true (supplyChans x)
        (openFeeds (supplyFeeds x) (fun f => { f with unpowered := true }) (supplyMeasured x mv s))
      pruneRecipes (settleFields (if (feedOf s (8 * x)).unpowered then s3 else noticeSupply x true mv s3))
    else if 19200 ≤ mv ∧ (feedOf s (8 * x)).unpowered then
      noticeSupply x false mv (closeFeeds (supplyFeeds x) (fun f => { f with unpowered := false }) (supplyMeasured x mv s))
    else supplyMeasured x mv s := rfl

theorem exec_fieldSupply {x : Nat} (hx : x ≤ 1) (mv t : Nat) (s : State) :
    exec (.fieldSupply x mv t) s = .next (fieldSupply x mv (s.at_ t)) := congrArg Host.Outcome.next (if_neg (by omega))

theorem exec_fieldSupply_none {x : Nat} (hx : 1 < x) (mv t : Nat) (s : State) :
    exec (.fieldSupply x mv t) s = .next (s.at_ t) := congrArg Host.Outcome.next (if_pos hx)

theorem mem_supplyFeeds {x k : Nat} : k ∈ supplyFeeds x ↔ 8 * x ≤ k ∧ k < 8 * x + 8 := by
  simp only [supplyFeeds, List.mem_map, List.mem_range]
  exact ⟨fun ⟨i, hi, he⟩ => by omega, fun _ => ⟨k - 8 * x, by omega, by omega⟩⟩

theorem mem_supplyChans {x n : Nat} : n ∈ supplyChans x ↔ 16 * x ≤ n ∧ n < 16 * x + 16 := by
  simp only [supplyChans, List.mem_map, List.mem_range]
  exact ⟨fun ⟨i, hi, he⟩ => by omega, fun _ => ⟨n - 16 * x, by omega, by omega⟩⟩

theorem supplyFeeds_nodup (x : Nat) : (supplyFeeds x).Nodup := List.nodup_range.map fun _ _ h => Nat.add_right_cancel h

theorem supplyChans_nodup (x : Nat) : (supplyChans x).Nodup := List.nodup_range.map fun _ _ h => Nat.add_right_cancel h

/-- The channels of a supply are those of its feeds. -/
theorem feed_of_supplyChans {x n : Nat} (h : n ∈ supplyChans x) : n / 2 ∈ supplyFeeds x := by
  rw [mem_supplyChans] at h
  rw [mem_supplyFeeds]
  omega

/-! ### The loss of a supply -/

/-- Feed `k` has lost its supply: it is UNPOWERED and off. -/
structure FeedLost (k : Nat) (s : State) : Prop where
  off : FeedOff k s
  unpowered : (s.dio.feed[k]?).map (·.unpowered) = some true

theorem openFeed_lost {j k : Nat} {s : State} (hs : Inv s) (hk : k < 16) (h : j = k ∨ FeedLost k s) :
    FeedLost k (openFeed j (fun f => { f with unpowered := true }) s) := by
  by_cases hj : j = k
  · subst hj
    obtain ⟨f, hf⟩ : ∃ f, s.dio.feed[j]? = some f := ⟨_, List.getElem?_eq_getElem (by rwa [hs.feeds])⟩
    refine ⟨openFeed_off _ hf (by simp [Feed.settled]) (by rw [hs.dio]; omega), ?_⟩
    rw [feed_openFeed _ hf]
    rfl
  · have hlost := h.resolve_left hj
    have hfeed := feed_openFeed_ne (s := s) (fun f => { f with unpowered := true }) (Ne.symm hj)
    refine ⟨⟨by rw [hfeed, hlost.off.feed], fun n hn => ?_⟩, by rw [hfeed, hlost.unpowered]⟩
    rw [chan_openFeed_ne _ (by omega), hlost.off.out n hn]

theorem openFeeds_lost {l : List Nat} {k : Nat} {s : State} (hs : Inv s) (hk : k < 16) (h : k ∈ l ∨ FeedLost k s) :
    FeedLost k (openFeeds l (fun f => { f with unpowered := true }) s) := by
  induction l generalizing s with
  | nil => exact h.resolve_left List.not_mem_nil
  | cons j l ih =>
    have hinv := (openFeed_lawful j (fun f => { f with unpowered := true }) s (Lawful.refl hs)).inv
    by_cases hkl : k ∈ l
    · exact ih hinv (.inl hkl)
    · refine ih hinv (.inr (openFeed_lost hs hk (h.imp_left fun hmem => ?_)))
      exact ((List.mem_cons.1 hmem).resolve_right hkl).symm

theorem openFeeds_fieldV (l : List Nat) (F : Feed → Feed) (s : State) : (openFeeds l F s).dio.fieldV = s.dio.fieldV := by
  induction l generalizing s with
  | nil => rfl
  | cons j l ih => rw [openFeeds, ih, openFeed_fieldV]

/-- The feeds of a supply are off and its channels take cause SUPPLY. -/
def supplyLost (x mv : Nat) (s : State) : State :=
  setCause 4 true (supplyChans x) (openFeeds (supplyFeeds x) (fun f => { f with unpowered := true }) (supplyMeasured x mv s))

section SupplyLost

variable {x mv : Nat} {s : State}

theorem supplyLost_fieldV (hmv : mv < 65536) (hx : x < s.dio.fieldV.length) : (supplyLost x mv s).dio.fieldV[x]? = some mv := by
  have hmeasured : (supplyMeasured x mv s).dio.fieldV = upd s.dio.fieldV x fun _ => mv % 65536 := rfl
  rw [supplyLost, setCause_fieldV, openFeeds_fieldV, hmeasured,
    getElem?_upd_self _ (List.getElem?_eq_getElem hx), Nat.mod_eq_of_lt hmv]

variable (hs : Inv s) (hx : x ≤ 1)
include hs hx

theorem supplyLost_opened {k : Nat} (hk : k ∈ supplyFeeds x) :
    FeedLost k (openFeeds (supplyFeeds x) (fun f => { f with unpowered := true }) (supplyMeasured x mv s)) :=
  openFeeds_lost (supplyMeasured_lawful (Lawful.refl hs) x mv).inv (by rw [mem_supplyFeeds] at hk; omega) (.inl hk)

theorem supplyLost_feed {k : Nat} (hk : k ∈ supplyFeeds x) :
    ((supplyLost x mv s).dio.feed[k]?).map (fun f => (f.unpowered, f.closed)) = some (true, false) := by
  obtain ⟨hoff, hunpowered⟩ := supplyLost_opened (mv := mv) hs hx hk
  obtain ⟨f, hf, hopen⟩ := Option.map_eq_some_iff.1 hoff.feed
  have hu : f.unpowered = true := by simpa [hf] using hunpowered
  rw [supplyLost, setCause_feed, hf, Option.map_some, hopen, hu]

theorem supplyLost_chan {n : Nat} (hn : n ∈ supplyChans x) :
    ((supplyLost x mv s).dio.chan[n]?).map (fun c => (c.causes.getLsbD 4, c.out)) = some (true, false) := by
  obtain ⟨hoff, -⟩ := supplyLost_opened (mv := mv) hs hx (feed_of_supplyChans hn)
  obtain ⟨c, hc, hout⟩ := Option.map_eq_some_iff.1 (hoff.out n rfl)
  by_cases hset : c.causes.getLsbD 4 = true
  · rw [supplyLost, setCause_chan_same hc hset, Option.map_some, hset, hout]
  · obtain ⟨o, hd, hstays⟩ := setCause_chan hc (supplyChans_nodup x) hn hset
    have hbit : ((c.withCause 4 true).settled o).causes.getLsbD 4 = true := getLsbD_causeSet 4 true c.causes (by decide)
    rw [supplyLost, hd, hstays (.inl hoff.open_), Option.map_some]
    rw [hstays (.inl hoff.open_)] at hbit
    rw [hbit]
    rfl

end SupplyLost

/-- The field sides lose no more than their copies of the configuration. -/
theorem settleFields_dio (s : State) : (settleFields s).dio = s.dio ∨
    (settleFields s).dio = { s.dio with chan := s.dio.chan.map fun c => { c with cfgLost := true } } := by
  unfold settleFields
  split
  · dsimp only
    split
    · exact .inr rfl
    · exact .inr rfl
  · exact .inl rfl

theorem settleFields_feed (s : State) : (settleFields s).dio.feed = s.dio.feed := by
  rcases settleFields_dio s with h | h <;> rw [h]

theorem settleFields_fieldV (s : State) : (settleFields s).dio.fieldV = s.dio.fieldV := by
  rcases settleFields_dio s with h | h <;> rw [h]

theorem settleFields_chan (s : State) (n : Nat) : ((settleFields s).dio.chan[n]?).map (fun c => (c.causes.getLsbD 4, c.out)) =
    (s.dio.chan[n]?).map (fun c => (c.causes.getLsbD 4, c.out)) := by
  rcases settleFields_dio s with h | h
  · rw [h]
  · rw [h, List.getElem?_map, Option.map_map]
    rfl

theorem noticeSupply_dio (x : Nat) (lost : Bool) (mv : Nat) (s : State) : (noticeSupply x lost mv s).dio = s.dio := noticeUnit_dio ..

/-! ### The return of a supply -/

theorem settleOut_causes (m : Nat) (s : State) (n : Nat) :
    ((settleOut m s).dio.chan[n]?).map (·.causes) = (s.dio.chan[n]?).map (·.causes) := by
  by_cases hn : n = m
  · subst hn
    cases hc : s.dio.chan[n]? with
    | none => rw [settleOut, modChan, State.setDio_dio, upd, List.getElem?_modify, hc]; rfl
    | some c => rw [chan_settleOut hc]; rfl
  · rw [chan_settleOut_ne hn]

theorem settleFeed_causes (k : Nat) (s : State) (n : Nat) :
    ((settleFeed k s).dio.chan[n]?).map (·.causes) = (s.dio.chan[n]?).map (·.causes) := by
  rw [settleFeed_eq, settleOut_causes, settleOut_causes]
  rfl

theorem closeFeeds_causes (l : List Nat) (F : Feed → Feed) (s : State) (n : Nat) :
    ((closeFeeds l F s).dio.chan[n]?).map (·.causes) = (s.dio.chan[n]?).map (·.causes) := by
  induction l generalizing s with
  | nil => rfl
  | cons j l ih =>
    rw [closeFeeds, ih, settleFeed_causes]
    rfl

theorem feed_closeFeeds_ne {l : List Nat} {k : Nat} (hk : k ∉ l) (F : Feed → Feed) (s : State) :
    (closeFeeds l F s).dio.feed[k]? = s.dio.feed[k]? := by
  induction l generalizing s with
  | nil => rfl
  | cons j l ih =>
    obtain ⟨hj, hl⟩ : k ≠ j ∧ k ∉ l := by simpa using hk
    rw [closeFeeds, ih hl, feed_settleFeed_ne hj, feed_modFeed_ne hj]

theorem feed_closeFeeds {l : List Nat} {k : Nat} (hl : l.Nodup) (hk : k ∈ l) (F : Feed → Feed) {s : State} {f : Feed}
    (h : s.dio.feed[k]? = some f) : (closeFeeds l F s).dio.feed[k]? = some (F f).settled := by
  induction l generalizing s with
  | nil => cases hk
  | cons j l ih =>
    obtain ⟨hj, hl⟩ := List.nodup_cons.1 hl
    rw [closeFeeds]
    by_cases hkj : k = j
    · subst hkj
      rw [feed_closeFeeds_ne hj, feed_settleFeed (feed_modFeed_self h F)]
    · exact ih hl ((List.mem_cons.1 hk).resolve_left hkj) (by rw [feed_settleFeed_ne hkj, feed_modFeed_ne hkj, h])

/-- The feeds of a supply that returns, before its notice. -/
def supplyReturned (x mv : Nat) (s : State) : State :=
  closeFeeds (supplyFeeds x) (fun f => { f with unpowered := false }) (supplyMeasured x mv s)

theorem supplyReturned_feed {x k : Nat} (mv : Nat) {s : State} {f : Feed} (hk : k ∈ supplyFeeds x) (h : s.dio.feed[k]? = some f) :
    (supplyReturned x mv s).dio.feed[k]? = some (Feed.settled { f with unpowered := false }) :=
  feed_closeFeeds (supplyFeeds_nodup x) hk (fun f => { f with unpowered := false }) (s := supplyMeasured x mv s) h

theorem supplyReturned_causes (x mv : Nat) (s : State) (n : Nat) :
    ((supplyReturned x mv s).dio.chan[n]?).map DioChan.causes = (s.dio.chan[n]?).map DioChan.causes :=
  (closeFeeds_causes _ _ _ n).trans (setSince_causes _ _ _ n)

end Sys2Proof.Machine
end

section
/-! PROOFS. The statement on outputs and feeds, from what each of their events does (10 R498 to R511). -/

namespace Sys2Proof.Machine

open Sys2Proof

theorem pruneRecipes_dio (s : State) : (pruneRecipes s).dio = s.dio := rfl

theorem le_now_of_at {s u : State} {t : Nat} (h : u.now = (s.at_ t).now) : t ≤ u.now := h ▸ Nat.le_max_right s.now t

/-- An event at a channel in the state it is timed at leaves all but the time and the field side. -/
theorem modChan_at_frame (n : Nat) (f : DioChan → DioChan) (s : State) (t : Nat) : Frame [.now, .dio] s (modChan n f (s.at_ t)) :=
  modChan_frame n f _ (by decide) (State.setNow_frame s _ (by decide) (Frame.refl _ s))

theorem dioOpenload_flags {n : Nat} {s : State} {c : DioChan} (h : s.dio.chan[n]? = some c) (hout : isOutput s n = true)
    (hon : domOn s 4 = true) (hoff : c.out = false) (hol : c.ol = true) (hnew : c.openload = false) :
    ∃ u, exec (.dioOpenload n) s = .next u ∧ u.dio.chan[n]? = some { c with openload := true } ∧
      ∀ k, k ≠ n → u.dio.chan[k]? = s.dio.chan[k]? := by
  refine ⟨_, (exec_dioOpenload h).trans (by rw [if_pos (by simp [hout, hon, hoff, hol, hnew])]), ?_, fun k hk => ?_⟩
  · rw [noticeUnit_dio, chan_modChan_self h]
  · rw [noticeUnit_dio, chan_modChan_ne hk]

theorem dioShort_shuts {n : Nat} {s : State} {c : DioChan} (h : s.dio.chan[n]? = some c) (hout : isOutput s n = true)
    (hon : c.out = true) (t : Nat) (overload : Bool) :
    ∃ u d, exec (.dioShort n overload t) s = .next u ∧ u.dio.chan[n]? = some d ∧ d.out = false ∧ d.short = true ∧
      d.shorts = satInc c.shorts ∧ d.cfg = c.cfg ∧ firingOn u n = none := by
  have htold : (shortTold n overload (s.at_ t)).dio.chan[n]? = some (c.shortCounted.settled false) :=
    chan_shortTold (s := s.at_ t) h overload
  have hnext := (exec_dioShort n t overload s).trans (by rw [if_neg (by rw [hout, chanOf_eq h, hon]; decide)])
  obtain ⟨hfewer, hd⟩ := upsetRetire_channel htold 0x07 false 0 (pulsesOn s n)
  have hidle := hfewer.firingOn_none (firingOn_shortTold n overload (s.at_ t))
  rcases hd with hd | hd
  · exact ⟨_, _, hnext, hd, rfl, rfl, rfl, rfl, hidle⟩
  · exact ⟨_, _, hnext, hd, rfl, rfl, rfl, rfl, hidle⟩

theorem feedTrip_opens {k : Nat} {s : State} {f : Feed} (hs : Inv s) (h : s.dio.feed[k]? = some f) (hclosed : f.closed = true)
    (peak higher t : Nat) :
    ∃ u, exec (.feedTrip k peak higher t) s = .next u ∧ TripStands k (s.at_ t).now (satInc f.trips) u := by
  have hk : k < 16 := hs.feeds ▸ (List.getElem?_eq_some_iff.1 h).1
  have hopened := openFeed_tripStands (now := (s.at_ t).now) (s := s.at_ t) h (hs.dio.symm ▸ (by omega : 2 * k + 1 < 32))
  have htold := hopened.of_frame (noticeUnit_frame 0x0A05 (le1 k ++ [0] ++ le2 peak) _ (List.Subset.refl _) (Frame.refl _ _))
    (by decide) (by decide)
  refine ⟨_, (exec_feedTrip k peak higher t s).trans (by rw [if_neg (by simp [hk, feedOf_eq h, hclosed])]), ?_⟩
  exact (htold.after_upset (.inr ⟨rfl, rfl⟩) ..).after_upset (.inl rfl) ..

theorem feedReclose_closes {k : Nat} {s : State} {f : Feed} (h : s.dio.feed[k]? = some f) (htripped : f.tripped = true) :
    ∃ u, exec (.feedReclose k) s = .next u ∧ f.tripAt + msTicks 100 ≤ u.now ∧
      u.dio.feed[k]? = some { f with tripped := false, closed := !f.unpowered && !f.retired } := by
  refine ⟨_, (exec_feedReclose k s).trans (by rw [if_pos (by rw [feedOf_eq h, htripped])]), ?_, ?_⟩
  · rw [feedOf_eq h]
    exact Nat.le_max_right ..
  · rw [feed_settleFeed (feed_modFeed_self (s := s.at_ _) h _), Feed.settled, Bool.not_false, Bool.and_true]

theorem couplerStatusFrame_heard {n : Nat} {s : State} {c : DioChan} (hn : n < 32) (hon : domOn s 4 = true)
    (h : s.dio.chan[n]? = some c) (ok : Bool) (meas t : Nat) :
    ∃ u, exec (.couplerStatusFrame n ok meas t) s = .next u ∧ Frame [.now, .dio] s u ∧
      u.dio.chan[n]? = some (if ok then { c with lastFrame := (s.at_ t).now, meas := measOf c meas }
        else { c with cplErr := satInc c.cplErr, framesSince := (s.at_ t).now }) ∧
      ∀ k, k ≠ n → u.dio.chan[k]? = s.dio.chan[k]? := by
  rw [exec_couplerStatusFrame, if_neg (by simp [hn, hon])]
  cases ok with
  | true =>
    exact ⟨_, rfl, modChan_at_frame n _ s t, chan_modChan_self (s := s.at_ t) h _, fun k hk => chan_modChan_ne hk _ (s.at_ t)⟩
  | false =>
    exact ⟨_, rfl, modChan_at_frame n _ s t, chan_modChan_self (s := s.at_ t) h _, fun k hk => chan_modChan_ne hk _ (s.at_ t)⟩

theorem linkWatchdog_fires {n : Nat} {s : State} {c : DioChan} (hn : n < 32) (h : s.dio.chan[n]? = some c)
    (hclear : c.causes.getLsbD 3 = false) :
    ∃ u d, exec (.linkWatchdog n) s = .next u ∧ u.dio.chan[n]? = some d ∧ d.causes = c.causes ||| 8 ∧ d.keepalive = domOn s 4 ∧
      (c.safeOn = false → d.out = false) ∧ c.lastFrame + usTicks 100 ≤ u.now := by
  obtain ⟨d, hd, hcauses, hkeep, hout⟩ := linkWatchdog_chan (s := s.at_ (c.lastFrame + usTicks 100)) h hclear
  rw [exec_linkWatchdog, chanOf_eq h, if_neg (by rw [hclear]; simpa using hn)]
  exact ⟨_, d, rfl, hd, hcauses, hkeep, hout, le_now_of_at (s := s) (setCause_now 3 true [n] _)⟩

theorem linkCauseClear_clears {n : Nat} {s : State} {c : DioChan} (h : s.dio.chan[n]? = some c) (hset : c.causes.getLsbD 3 = true)
    (hkeep : c.keepalive = true) (hon : domOn s 4 = true) :
    ∃ u d, exec (.linkCauseClear n) s = .next u ∧ u.dio.chan[n]? = some d ∧ d.causes = c.causes &&& ~~~8 ∧
      (d.causes = 0 → d.out = false) ∧ c.framesSince + msTicks 10 ≤ u.now := by
  have hmod := chan_modChan_self (s := s.at_ (c.framesSince + msTicks 10)) h
    fun e => { e with lastFrame := max s.now (c.framesSince + msTicks 10) }
  obtain ⟨d, hd, hcauses, hout⟩ := setCause_cleared hmod hset
  rw [exec_linkCauseClear, chanOf_eq h, if_pos (by rw [hset, hkeep, hon]; rfl)]
  exact ⟨_, d, rfl, hd, hcauses, hout, le_now_of_at (s := s) (setCause_now 3 false [n] _)⟩

theorem supplyCauseClear_clears {n since : Nat} {s : State} {c : DioChan} (h : s.dio.chan[n]? = some c)
    (hsince : c.supplySince = some since) (hset : c.causes.getLsbD 4 = true) :
    ∃ u d, exec (.supplyCauseClear n) s = .next u ∧ u.dio.chan[n]? = some d ∧ d.causes = c.causes &&& ~~~16 ∧
      (d.causes = 0 → d.out = false) ∧ since + msTicks 100 ≤ u.now := by
  obtain ⟨d, hd, hcauses, hout⟩ := setCause_cleared (s := s.at_ (since + msTicks 100)) h hset
  rw [exec_supplyCauseClear (by rw [chanOf_eq h, hsince]), chanOf_eq h, if_pos hset]
  exact ⟨_, d, rfl, hd, hcauses, hout, le_now_of_at (s := s) (setCause_now 4 false [n] _)⟩

/-! ## A supply at each of its levels -/

section FieldSupply

variable {x mv : Nat} {s : State} (hs : Inv s) (hx : x ≤ 1) (t : Nat)
include hs hx

theorem fieldSupply_low (hlow : mv < 14000) :
    ∃ u, exec (.fieldSupply x mv t) s = .next u ∧ (x < s.dio.fieldV.length → u.dio.fieldV[x]? = some mv) ∧
      (∀ k ∈ supplyFeeds x, (u.dio.feed[k]?).map (fun f => (f.unpowered, f.closed)) = some (true, false)) ∧
      ∀ n ∈ supplyChans x, (u.dio.chan[n]?).map (fun c => (c.causes.getLsbD 4, c.out)) = some (true, false) := by
  have hat : Inv (s.at_ t) := (State.at__lawful s t (Lawful.refl hs)).inv
  obtain ⟨u, hu, hdio⟩ : ∃ u, fieldSupply x mv (s.at_ t) = pruneRecipes (settleFields u) ∧
      u.dio = (supplyLost x mv (s.at_ t)).dio := by
    refine ⟨_, by rw [fieldSupply_eq, if_pos hlow], ?_⟩
    split
    · rfl
    · exact noticeSupply_dio ..
  refine ⟨_, exec_fieldSupply hx mv t s, fun hlen => ?_, fun k hk => ?_, fun n hn => ?_⟩ <;> rw [hu, pruneRecipes_dio]
  · rw [settleFields_fieldV, hdio]
    exact supplyLost_fieldV (s := s.at_ t) (by omega) hlen
  · rw [settleFields_feed, hdio, supplyLost_feed hat hx hk]
  · rw [settleFields_chan, hdio, supplyLost_chan hat hx hn]

theorem fieldSupply_high (hhigh : 19200 ≤ mv) (hlost : (feedOf s (8 * x)).unpowered = true) :
    ∃ u, exec (.fieldSupply x mv t) s = .next u ∧
      (∀ k ∈ supplyFeeds x, (u.dio.feed[k]?).map (fun f => (f.unpowered, f.closed)) =
        (s.dio.feed[k]?).map (fun f => (false, !f.tripped && !f.retired))) ∧
      ∀ n : Nat, (u.dio.chan[n]?).map DioChan.causes = (s.dio.chan[n]?).map DioChan.causes := by
  have hdio : (fieldSupply x mv (s.at_ t)).dio = (supplyReturned x mv (s.at_ t)).dio := by
    rw [fieldSupply_eq, if_neg (by omega), if_pos ⟨hhigh, hlost⟩]
    exact noticeSupply_dio ..
  refine ⟨_, exec_fieldSupply hx mv t s, fun k hk => ?_, fun n => ?_⟩ <;> rw [hdio]
  · have hlen : k < s.dio.feed.length := by
      rw [mem_supplyFeeds] at hk
      rw [hs.feeds]
      omega
    have hf := List.getElem?_eq_getElem hlen
    rw [supplyReturned_feed (s := s.at_ t) mv hk hf, hf]
    rfl
  · exact supplyReturned_causes x mv (s.at_ t) n

omit hs in
theorem fieldSupply_between (hok : 14000 ≤ mv) (hsame : mv < 19200 ∨ (feedOf s (8 * x)).unpowered = false) :
    ∃ u, exec (.fieldSupply x mv t) s = .next u ∧ u.dio.feed = s.dio.feed ∧ Frame [.now, .dio] s u := by
  have hmeasured : fieldSupply x mv (s.at_ t) = supplyMeasured x mv (s.at_ t) := by
    rw [fieldSupply_eq, if_neg (by omega), if_neg]
    rintro ⟨hhigh, hlost⟩
    rcases hsame with h | h
    · omega
    · exact absurd (hlost.symm.trans h) (by decide)
  refine ⟨_, exec_fieldSupply hx mv t s, ?_, ?_⟩ <;> rw [hmeasured]
  · rfl
  · exact (supplyMeasured_frame x mv (s.at_ t)).step (by decide) ((at_frame s t).mono (by decide))

end FieldSupply

/-- Settles O50: each event is named with the state it answers, and the channel or feed is read off it. -/
theorem outputsFeedsAndTheirFaults : Obligations.OutputsFeedsAndTheirFaults := by
  unfold Obligations.OutputsFeedsAndTheirFaults
  refine ⟨fun n s c h => ⟨dioOpenload_flags h, fun hno => ?_, fun hout hon hoff => ?_, fun hno => ?_⟩,
    fun n t overload s c h => ⟨fun hout hon => dioShort_shuts h hout hon t overload, fun hno => ?_⟩,
    fun k peak higher t s f hs h => ⟨fun hclosed => ?_, fun hopen => ?_, feedReclose_closes h, fun hno => ?_⟩,
    fun n meas t ok s hno => ⟨?_, ?_⟩, fun n meas t s c hn hon h => ⟨?_, ?_⟩,
    fun n t s c hon h => ⟨fun hno retry => ?_, fun hout => ⟨?_, ?_⟩⟩,
    fun n s c hn h => ⟨linkWatchdog_fires hn h, fun hset => ?_, linkCauseClear_clears h, fun hno => ?_⟩,
    fun x mv t s hx => exec_fieldSupply_none hx mv t s,
    fun x mv t s hs hx => ⟨fieldSupply_low hs hx t, fieldSupply_high hs hx t, fieldSupply_between hx t⟩,
    fun n s c h => ⟨fun since => supplyCauseClear_clears h, fun hno => exec_supplyCauseClear_idle (by rwa [chanOf_eq h])⟩⟩
  case refine_1 =>
    rw [exec_dioOpenload h, if_neg]
    rcases hno with hno | hno | hno | hno | hno <;> simp [hno]
  case refine_2 =>
    refine ⟨_, (exec_openloadClear h).trans (by rw [if_pos (by simp [hout, hon, hoff])]), chan_modChan_self h _, ?_,
      fun k hk => chan_modChan_ne hk _ s⟩
    exact modChan_frame n _ s (List.Subset.refl _) (Frame.refl _ s)
  case refine_3 =>
    rw [exec_openloadClear h, if_neg]
    rcases hno with hno | hno | hno <;> simp [hno]
  case refine_4 =>
    rw [exec_dioShort, if_pos]
    rcases hno with hno | hno <;> simp [hno, chanOf_eq h]
  case refine_5 =>
    obtain ⟨u, hu, hstands⟩ := feedTrip_opens hs h hclosed peak higher t
    obtain ⟨g, hg, hopen, htrip, htripped, hat, htrips⟩ := hstands.feed
    exact ⟨u, g, hu, hg, hopen, htrip, htripped, hat, htrips, hstands.off.out _ (by omega), hstands.off.out _ (by omega),
      hstands.idle _ (by omega), hstands.idle _ (by omega)⟩
  case refine_6 => rw [exec_feedTrip, if_pos (by simp [feedOf_eq h, hopen])]
  case refine_7 => rw [exec_feedReclose, if_neg (by simp [feedOf_eq h, hno])]
  case refine_8 =>
    rw [exec_couplerStatusFrame, if_pos]
    rcases hno with hno | hno <;> simp [hno]
  case refine_9 =>
    rw [exec_couplerFrameError, if_neg]
    rcases hno with hno | hno <;> simp [isOutput, hno]
  case refine_10 => exact couplerStatusFrame_heard hn hon h true meas t
  case refine_11 => exact couplerStatusFrame_heard hn hon h false meas t
  case refine_12 => rw [exec_couplerFrameError, if_neg (by simp [hno])]
  case refine_13 =>
    rw [exec_couplerFrameError, if_pos (by simp [hout, hon])]
    exact ⟨_, rfl, chan_modChan_self (s := s.at_ t) h _, modChan_at_frame n _ s t⟩
  case refine_14 =>
    obtain ⟨d, hd, hkeep, herr⟩ := frameError_twice_chan (s := s.at_ t) h false
    exact ⟨_, d, (exec_couplerFrameError n false t s).trans (by rw [if_pos (by simp [hout, hon])]), hd, hkeep, herr,
      frameError_twice_emitted n false (s.at_ t)⟩
  case refine_15 => rw [exec_linkWatchdog, if_pos (by simp [chanOf_eq h, hset])]
  case refine_16 =>
    rw [exec_linkCauseClear, chanOf_eq h, if_neg]
    rcases hno with hno | hno | hno <;> rw [hno] <;> simp

end Sys2Proof.Machine
end

section
/-! PROOFS. Minibatches: when the next one of an epoch starts, and what becomes of its update. -/

namespace Sys2Proof.Machine

open Sys2Proof

/-! ## Starting a minibatch (11 R556) -/

/-- The minibatch due is the next one: none is in flight, fewer than S have committed, and the strip has moved on far enough. -/
theorem minibatchDue_iff {s : State} {e : Epoch} : minibatchDue s e = true ↔ e.started = e.done ∧ e.done < epochSteps e ∧
    s.pos.stationary = false ∧ s.pos.dirRev = false ∧
    (e.done * e.span + epochSteps e - 1) / epochSteps e ≤ (posI s.pos.hwm - posI e.commitHwm).toNat := by
  simp only [minibatchDue, Bool.and_eq_true, beq_iff_eq, decide_eq_true_eq, Bool.not_eq_true', and_assoc]
  refine and_congr_right fun _ => and_congr_right fun hlt => ?_
  rw [Nat.max_eq_right (Nat.one_le_of_lt hlt)]
  rfl

theorem exec_minibatchStart {s : State} {e : Epoch} (he : s.rcp.epoch = some e) : exec .minibatchStart s = .next (
    if temperRuns s && minibatchDue s e then s.setRcp { s.rcp with epoch := some { e with started := e.done + 1 } } else s) := by
  change execMinibatchStart s = _
  rw [execMinibatchStart, he]

theorem exec_minibatchStart_none {s : State} (he : s.rcp.epoch = none) : exec .minibatchStart s = .next s := by
  change execMinibatchStart s = _
  rw [execMinibatchStart, he]

/-! ## Committing its update (11 R557, R558; 02 R112) -/

theorem exec_minibatchCommit_late {s : State} {t : Nat} {rest : List Nat} (h : s.rcp.lateBatch = t :: rest) :
    exec .minibatchCommit s = .next (countFenced t (s.setRcp { s.rcp with lateBatch := rest })) := by
  change execMinibatchCommit s = _
  rw [execMinibatchCommit, h]

theorem exec_minibatchCommit {s : State} {e : Epoch} (h : s.rcp.lateBatch = []) (he : s.rcp.epoch = some e) :
    exec .minibatchCommit s = .next (
      if temperRuns s && e.started == e.done + 1 then s.setRcp { s.rcp with epoch := some { e with done := e.done + 1 } } else s) := by
  change execMinibatchCommit s = _
  rw [execMinibatchCommit, h, he]

theorem exec_minibatchCommit_none {s : State} (h : s.rcp.lateBatch = []) (he : s.rcp.epoch = none) :
    exec .minibatchCommit s = .next s := by
  change execMinibatchCommit s = _
  rw [execMinibatchCommit, h, he]

/-- Settles O54: a minibatch starts under `minibatchDue`, whose S is that of the statement where the epoch has a batch size. -/
theorem minibatchesFollowTheStrip : Obligations.MinibatchesFollowTheStrip := by
  unfold Obligations.MinibatchesFollowTheStrip
  refine ⟨fun s e he hb => ?_, fun s t rest h => exec_minibatchCommit_late h, fun s e h he => ⟨fun hrun hstart => ?_, fun hno => ?_⟩,
    fun s he => ⟨exec_minibatchStart_none he, fun h => exec_minibatchCommit_none h he⟩⟩
  · have hsteps : (e.entries.length * e.passes + e.b - 1) / e.b = epochSteps e := by rw [epochSteps, Nat.max_eq_right hb]; rfl
    have hdue := minibatchDue_iff (s := s) (e := e)
    rw [exec_minibatchStart he]
    dsimp only
    rw [hsteps, ← hdue, ← Bool.and_eq_true]
    exact ⟨fun h => by rw [if_pos h], fun h => by rw [if_neg h]⟩
  · rw [exec_minibatchCommit h he, if_pos (by simp [hrun, hstart])]
  · rw [exec_minibatchCommit h he, if_neg]
    rcases hno with hno | hno <;> simp [hno]

end Sys2Proof.Machine
end

section
/-! PROOFS. UTF-8: the head of a string is a code point exactly where it is the encoding of a scalar value, and else the longest
beginning that one could still have. -/

namespace Sys2Proof.Machine

open Sys2Proof

/-! ## Bytes by their values -/

theorem inRange_iff {lo hi : Nat} {b : Byte} : inRange lo hi b = true ↔ lo ≤ b.toNat ∧ b.toNat ≤ hi := by
  simp [inRange]

theorem byte_ofNat {n : Nat} {x : Byte} (h : n = x.toNat) : BitVec.ofNat 8 n = x := by
  rw [h, BitVec.ofNat_toNat, BitVec.setWidth_eq]

theorem toNat_byte {n : Nat} (h : n < 256) : (BitVec.ofNat 8 n).toNat = n := by
  rw [BitVec.toNat_ofNat, Nat.mod_eq_of_lt h]

/-- What a lead byte announces, by its range. -/
theorem utf8Need_cases (x : Byte) : (utf8Need x = 1 ∧ x.toNat ≤ 0x7F) ∨ (utf8Need x = 2 ∧ 0xC2 ≤ x.toNat ∧ x.toNat ≤ 0xDF) ∨
    (utf8Need x = 3 ∧ 0xE0 ≤ x.toNat ∧ x.toNat ≤ 0xEF) ∨ (utf8Need x = 4 ∧ 0xF0 ≤ x.toNat ∧ x.toNat ≤ 0xF4) ∨
    (utf8Need x = 0 ∧ (0x80 ≤ x.toNat ∧ x.toNat ≤ 0xC1 ∨ 0xF5 ≤ x.toNat)) := by
  unfold utf8Need
  simp only [inRange_iff]
  split_ifs <;> omega

/-- The second byte is a continuation byte, within narrower bounds after four of the lead bytes. -/
theorem utf8Second_iff {lead x : Byte} : utf8Second lead x = true ↔ 0x80 ≤ x.toNat ∧ x.toNat ≤ 0xBF ∧
    (lead.toNat = 0xE0 → 0xA0 ≤ x.toNat) ∧ (lead.toNat = 0xED → x.toNat ≤ 0x9F) ∧ (lead.toNat = 0xF0 → 0x90 ≤ x.toNat) ∧
    (lead.toNat = 0xF4 → x.toNat ≤ 0x8F) := by
  unfold utf8Second
  split <;> rw [inRange_iff]
  case h_5 h0 h1 h2 h3 =>
    exact ⟨fun h => ⟨h.1, h.2, fun e => (h0 e).elim, fun e => (h1 e).elim, fun e => (h2 e).elim, fun e => (h3 e).elim⟩,
      fun h => ⟨h.1, h.2.1⟩⟩
  all_goals omega

/-! ## Continuation bytes -/

theorem contCount_cons {x : Byte} (h : inRange 0x80 0xBF x = true) (n : Nat) (l : Bytes) :
    contCount (n + 1) (x :: l) = 1 + contCount n l := by rw [contCount, if_pos h]

theorem contCount_le (n : Nat) (l : Bytes) : contCount n l ≤ n ∧ contCount n l ≤ l.length := by
  induction n generalizing l with
  | zero => simp [contCount]
  | succ n ih =>
    cases l with
    | nil => simp [contCount]
    | cons x l =>
      have := ih l
      rw [contCount, List.length_cons]
      split <;> omega

/-- All the continuation bytes asked for are there: the first of them. -/
theorem contCount_full {n : Nat} {l : Bytes} (h : contCount (n + 1) l = n + 1) :
    ∃ x r, l = x :: r ∧ inRange 0x80 0xBF x = true ∧ contCount n r = n := by
  cases l with
  | nil => simp [contCount] at h
  | cons x r =>
    rw [contCount] at h
    split at h
    next hx => exact ⟨x, r, rfl, hx, by omega⟩
    next => omega

/-- The byte after the last continuation byte settles the count, whatever follows it. -/
theorem contCount_take_succ {n : Nat} {l : Bytes} (hn : contCount n l < n) (hl : contCount n l < l.length) (r : Bytes) :
    contCount n (l.take (contCount n l + 1) ++ r) = contCount n l := by
  induction n generalizing l with
  | zero => omega
  | succ n ih =>
    cases l with
    | nil => simp at hl
    | cons x l =>
      by_cases hx : inRange 0x80 0xBF x = true
      · rw [contCount_cons hx, List.length_cons] at *
        rw [Nat.add_comm 1, List.take_succ_cons, List.cons_append, contCount_cons hx, ih (by omega) (by omega), Nat.add_comm]
      · simp [contCount, hx]

/-- Continuation bytes that fall short can be made up. -/
theorem contCount_fill (n : Nat) (l : Bytes) :
    contCount n (l.take (contCount n l) ++ List.replicate (n - contCount n l) 0x80) = n := by
  induction n generalizing l with
  | zero => simp [contCount]
  | succ n ih =>
    have hfill : inRange 0x80 0xBF (0x80 : Byte) = true := by decide
    have hnone : contCount (n + 1) (List.replicate (n + 1) 0x80) = n + 1 := by
      rw [List.replicate_succ, contCount_cons hfill]
      have := ih []
      have hz : contCount n [] = 0 := by cases n <;> rfl
      rw [hz] at this
      rw [Nat.sub_zero, List.take_nil, List.nil_append] at this
      rw [this, Nat.add_comm]
    cases l with
    | nil => simpa [contCount] using hnone
    | cons x l =>
      by_cases hx : inRange 0x80 0xBF x = true
      · rw [contCount_cons hx, Nat.add_comm 1, List.take_succ_cons, List.cons_append, contCount_cons hx, Nat.add_sub_add_right, ih,
          Nat.add_comm]
      · have hz : contCount (n + 1) (x :: l) = 0 := by simp [contCount, hx]
        rw [hz]
        exact hnone

/-! ## The head of a string -/

theorem utf8Head_ascii {x : Byte} (h : x.toNat ≤ 0x7F) (l : Bytes) : utf8Head (x :: l) = (true, 1) := by
  rcases utf8Need_cases x with hx | hx | hx | hx | hx <;> simp_all [utf8Head] <;> omega

/-- A lead byte that announces more than itself, with the bytes that follow it. -/
theorem utf8Head_long {lead x : Byte} (hneed : 2 ≤ utf8Need lead) (hx : utf8Second lead x = true) (l : Bytes) :
    utf8Head (lead :: x :: l) =
      (2 + contCount (utf8Need lead - 2) l == utf8Need lead, 2 + contCount (utf8Need lead - 2) l) := by
  have h0 : utf8Need lead ≠ 0 := by omega
  have h1 : utf8Need lead ≠ 1 := by omega
  simp [utf8Head, h0, h1, hx]

theorem utf8Head_noLead {lead : Byte} (h : utf8Need lead = 0) (l : Bytes) : utf8Head (lead :: l) = (false, 1) := by
  simp [utf8Head, h]

theorem utf8Head_noSecond {lead x : Byte} (hneed : 2 ≤ utf8Need lead) (hx : utf8Second lead x = false) (l : Bytes) :
    utf8Head (lead :: x :: l) = (false, 1) := by
  have h0 : utf8Need lead ≠ 0 := by omega
  have h1 : utf8Need lead ≠ 1 := by omega
  simp [utf8Head, h0, h1, hx]

theorem utf8Head_alone {lead : Byte} (hneed : 2 ≤ utf8Need lead) : utf8Head [lead] = (false, 1) := by
  have h0 : utf8Need lead ≠ 0 := by omega
  have h1 : utf8Need lead ≠ 1 := by omega
  simp [utf8Head, h0, h1]

/-- A string that is not empty begins with a byte below 0x80; with a byte that leads nothing, or nothing here, which the byte after
it settles; or with the two bytes of a longer sequence. -/
theorem utf8Head_shapes {b : Bytes} (hb : b ≠ []) :
    (∃ x l, b = x :: l ∧ x.toNat ≤ 0x7F ∧ utf8Head b = (true, 1)) ∨
    (utf8Head b = (false, 1) ∧ (1 < b.length → ∀ r, utf8Head (b.take 2 ++ r) = (false, 1))) ∨
    (∃ x y l, b = x :: y :: l ∧ 2 ≤ utf8Need x ∧ utf8Second x y = true) := by
  match b with
  | x :: l =>
    rcases Nat.lt_trichotomy (utf8Need x) 1 with hx | hx | hx
    · have hno (l : Bytes) := utf8Head_noLead (Nat.lt_one_iff.1 hx) l
      exact .inr (.inl ⟨hno l, fun _ r => hno _⟩)
    · have hascii : x.toNat ≤ 0x7F := by rcases utf8Need_cases x with h | h | h | h | h <;> omega
      exact .inl ⟨x, l, rfl, hascii, utf8Head_ascii hascii l⟩
    · match l with
      | [] => exact .inr (.inl ⟨utf8Head_alone hx, fun h => absurd h (lt_irrefl 1)⟩)
      | y :: l =>
        cases hy : utf8Second x y with
        | false => exact .inr (.inl ⟨utf8Head_noSecond hx hy l, fun _ r => utf8Head_noSecond hx hy r⟩)
        | true => exact .inr (.inr ⟨x, y, l, rfl, hx, hy⟩)

/-- The head takes at least a byte, and no more than there are. -/
theorem utf8Head_bounds {b : Bytes} (hb : b ≠ []) : 1 ≤ (utf8Head b).2 ∧ (utf8Head b).2 ≤ b.length := by
  have hpos := List.length_pos_iff.2 hb
  rcases utf8Head_shapes hb with ⟨x, l, -, -, h⟩ | ⟨h, -⟩ | ⟨x, y, l, rfl, hx, hy⟩
  · rw [h]
    omega
  · rw [h]
    omega
  · have := contCount_le (utf8Need x - 2) l
    rw [utf8Head_long hx hy]
    simp only [List.length_cons]
    omega

/-- The byte after an ill-formed head settles it, whatever follows that byte. -/
theorem utf8Head_take_succ {b : Bytes} {n : Nat} (h : utf8Head b = (false, n)) (hn : n < b.length) (r : Bytes) :
    utf8Head (b.take (n + 1) ++ r) = (false, n) := by
  have hb : b ≠ [] := by rintro rfl; simp at hn
  rcases utf8Head_shapes hb with ⟨x, l, -, -, htrue⟩ | ⟨hone, hsettles⟩ | ⟨x, y, l, rfl, hx, hy⟩
  · rw [htrue] at h
    cases h
  · rw [hone] at h
    cases h
    exact hsettles hn r
  · rw [utf8Head_long hx hy, Prod.mk.injEq, beq_eq_false_iff_ne] at h
    obtain ⟨hshort, rfl⟩ := h
    have hle := contCount_le (utf8Need x - 2) l
    simp only [List.length_cons] at hn
    have htake : (x :: y :: l).take (2 + contCount (utf8Need x - 2) l + 1) ++ r =
        x :: y :: (l.take (contCount (utf8Need x - 2) l + 1) ++ r) := by
      rw [Nat.add_comm 2]
      rfl
    rw [htake, utf8Head_long hx hy, contCount_take_succ (by omega) (by omega), beq_eq_false_iff_ne.2 hshort]

/-- An ill-formed head of more than a byte can be made up to a code point. -/
theorem utf8Head_fill {b : Bytes} {n : Nat} (hb : b ≠ []) (h : utf8Head b = (false, n)) (hn : n ≠ 1) :
    ∃ r, utf8Head (b.take n ++ r) = (true, (b.take n ++ r).length) := by
  rcases utf8Head_shapes hb with ⟨x, l, -, -, htrue⟩ | ⟨hone, -⟩ | ⟨x, y, l, rfl, hx, hy⟩
  · rw [htrue] at h
    cases h
  · rw [hone] at h
    cases h
    exact absurd rfl hn
  · rw [utf8Head_long hx hy, Prod.mk.injEq] at h
    obtain ⟨-, rfl⟩ := h
    have hle := contCount_le (utf8Need x - 2) l
    refine ⟨List.replicate (utf8Need x - 2 - contCount (utf8Need x - 2) l) 0x80, ?_⟩
    have htake : (x :: y :: l).take (2 + contCount (utf8Need x - 2) l) = x :: y :: l.take (contCount (utf8Need x - 2) l) := by
      rw [Nat.add_comm 2]
      rfl
    rw [htake, List.cons_append, List.cons_append, utf8Head_long hx hy, contCount_fill]
    simp only [List.length_cons, List.length_append, List.length_take, List.length_replicate, Prod.mk.injEq, beq_iff_eq]
    omega

/-! ## Encodings (RFC 3629) -/

theorem utf8Of_one {c : Nat} (h : c < 0x80) : utf8Of c = [BitVec.ofNat 8 c] := by simp [utf8Of, h]

theorem utf8Of_two {c : Nat} (hlo : 0x80 ≤ c) (hhi : c < 0x800) :
    utf8Of c = [BitVec.ofNat 8 (0xC0 + c / 64), BitVec.ofNat 8 (0x80 + c % 64)] := by
  rw [utf8Of, if_neg (by omega), if_pos hhi]
  rfl

theorem utf8Of_three {c : Nat} (hlo : 0x800 ≤ c) (hhi : c < 0x10000) : utf8Of c =
    [BitVec.ofNat 8 (0xE0 + c / 4096), BitVec.ofNat 8 (0x80 + c / 64 % 64), BitVec.ofNat 8 (0x80 + c % 64)] := by
  rw [utf8Of, if_neg (by omega), if_neg (by omega), if_pos hhi]
  rfl

theorem utf8Of_four {c : Nat} (hlo : 0x10000 ≤ c) : utf8Of c = [BitVec.ofNat 8 (0xF0 + c / 262144),
    BitVec.ofNat 8 (0x80 + c / 4096 % 64), BitVec.ofNat 8 (0x80 + c / 64 % 64), BitVec.ofNat 8 (0x80 + c % 64)] := by
  rw [utf8Of, if_neg (by omega), if_neg (by omega), if_neg (by omega)]
  rfl

/-- A continuation byte carries six bits. -/
theorem inRange_cont (k : Nat) : inRange 0x80 0xBF (BitVec.ofNat 8 (0x80 + k % 64)) = true := by
  rw [inRange_iff, toNat_byte (by omega)]
  omega

theorem exists_cont {x : Byte} (h : inRange 0x80 0xBF x = true) : ∃ k, x.toNat = 0x80 + k ∧ k < 64 := by
  rw [inRange_iff] at h
  exact ⟨x.toNat - 0x80, by omega, by omega⟩

/-- The encoding of a scalar value is taken as one code point, whatever follows it. -/
theorem utf8Head_utf8Of {c : Nat} (h : isScalar c) (rest : Bytes) : utf8Head (utf8Of c ++ rest) = (true, (utf8Of c).length) := by
  have hc : c < 0xD800 ∨ 0xE000 ≤ c ∧ c ≤ 0x10FFFF := h
  rcases lt_or_ge c 0x80 with h1 | h1
  · rw [utf8Of_one h1]
    exact utf8Head_ascii (by rw [toNat_byte (by omega)]; omega) rest
  rcases lt_or_ge c 0x800 with h2 | h2
  · rw [utf8Of_two h1 h2]
    have hlead : (BitVec.ofNat 8 (0xC0 + c / 64)).toNat = 0xC0 + c / 64 := toNat_byte (by omega)
    have hneed : utf8Need (BitVec.ofNat 8 (0xC0 + c / 64)) = 2 := by
      have := utf8Need_cases (BitVec.ofNat 8 (0xC0 + c / 64))
      omega
    have hsecond : utf8Second (BitVec.ofNat 8 (0xC0 + c / 64)) (BitVec.ofNat 8 (0x80 + c % 64)) = true := by
      rw [utf8Second_iff, hlead, toNat_byte (by omega)]
      omega
    exact (utf8Head_long (by omega) hsecond rest).trans (by rw [hneed]; rfl)
  rcases lt_or_ge c 0x10000 with h3 | h3
  · rw [utf8Of_three h2 h3]
    have hlead : (BitVec.ofNat 8 (0xE0 + c / 4096)).toNat = 0xE0 + c / 4096 := toNat_byte (by omega)
    have hneed : utf8Need (BitVec.ofNat 8 (0xE0 + c / 4096)) = 3 := by
      have := utf8Need_cases (BitVec.ofNat 8 (0xE0 + c / 4096))
      omega
    have hsecond : utf8Second (BitVec.ofNat 8 (0xE0 + c / 4096)) (BitVec.ofNat 8 (0x80 + c / 64 % 64)) = true := by
      rw [utf8Second_iff, hlead, toNat_byte (by omega)]
      omega
    refine (utf8Head_long (by omega) hsecond (_ :: rest)).trans ?_
    rw [hneed, contCount_cons (inRange_cont c)]
    rfl
  · rw [utf8Of_four h3]
    have hlead : (BitVec.ofNat 8 (0xF0 + c / 262144)).toNat = 0xF0 + c / 262144 := toNat_byte (by omega)
    have hneed : utf8Need (BitVec.ofNat 8 (0xF0 + c / 262144)) = 4 := by
      have := utf8Need_cases (BitVec.ofNat 8 (0xF0 + c / 262144))
      omega
    have hsecond : utf8Second (BitVec.ofNat 8 (0xF0 + c / 262144)) (BitVec.ofNat 8 (0x80 + c / 4096 % 64)) = true := by
      rw [utf8Second_iff, hlead, toNat_byte (by omega)]
      omega
    refine (utf8Head_long (by omega) hsecond (_ :: _ :: rest)).trans ?_
    rw [hneed, contCount_cons (inRange_cont _), contCount_cons (inRange_cont c)]
    rfl

/-- What is taken as a code point is the encoding of a scalar value. -/
theorem utf8Of_of_utf8Head {b : Bytes} {n : Nat} (h : utf8Head b = (true, n)) : ∃ c, isScalar c ∧ b.take n = utf8Of c := by
  have hb : b ≠ [] := by rintro rfl; cases h
  rcases utf8Head_shapes hb with ⟨x, l, rfl, hx, hone⟩ | ⟨hfalse, -⟩ | ⟨x, y, l, rfl, hx, hy⟩
  · rw [hone] at h
    cases h
    exact ⟨x.toNat, .inl (by omega), by rw [utf8Of_one (by omega), byte_ofNat rfl]; rfl⟩
  · rw [hfalse] at h
    cases h
  · rw [utf8Head_long hx hy, Prod.mk.injEq, beq_iff_eq] at h
    obtain ⟨hfull, rfl⟩ := h
    rw [utf8Second_iff] at hy
    rw [hfull]
    obtain ⟨j, hj⟩ := Nat.exists_eq_add_of_le hy.1
    rcases utf8Need_cases x with hn | ⟨hn, hlo, hhi⟩ | ⟨hn, hlo, hhi⟩ | ⟨hn, hlo, hhi⟩ | hn
    · omega
    · obtain ⟨i, hi⟩ := Nat.exists_eq_add_of_le (show 0xC0 ≤ x.toNat by omega)
      refine ⟨i * 64 + j, .inl (by omega), ?_⟩
      rw [utf8Of_two (by omega) (by omega), byte_ofNat (x := x) (by omega), byte_ofNat (x := y) (by omega), hn]
      rfl
    · obtain ⟨i, hi⟩ := Nat.exists_eq_add_of_le hlo
      rw [hn] at hfull ⊢
      obtain ⟨z, l, rfl, hz, -⟩ := contCount_full (n := 0) (Nat.add_left_cancel (n := 2) hfull)
      obtain ⟨k, hk, hk64⟩ := exists_cont hz
      refine ⟨i * 4096 + j * 64 + k, ?_, ?_⟩
      · rw [isScalar]
        omega
      · rw [utf8Of_three (by omega) (by omega), byte_ofNat (x := x) (by omega), byte_ofNat (x := y) (by omega),
          byte_ofNat (x := z) (by omega)]
        rfl
    · obtain ⟨i, hi⟩ := Nat.exists_eq_add_of_le hlo
      rw [hn] at hfull ⊢
      obtain ⟨z, l, rfl, hz, hl⟩ := contCount_full (n := 1) (Nat.add_left_cancel (n := 2) hfull)
      obtain ⟨w, l, rfl, hw, -⟩ := contCount_full (n := 0) hl
      obtain ⟨k, hk, hk64⟩ := exists_cont hz
      obtain ⟨m, hm, hm64⟩ := exists_cont hw
      refine ⟨i * 262144 + j * 4096 + k * 64 + m, ?_, ?_⟩
      · rw [isScalar]
        omega
      · rw [utf8Of_four (by omega), byte_ofNat (x := x) (by omega), byte_ofNat (x := y) (by omega),
          byte_ofNat (x := z) (by omega), byte_ofNat (x := w) (by omega)]
        rfl
    · omega

/-- An ill-formed head is one byte or the beginning of an encoding, and with the next byte it would begin none (11 R541). -/
theorem illFormed_maximal {b : Bytes} {n : Nat} (hb : b ≠ []) (h : utf8Head b = (false, n)) :
    (n = 1 ∨ ∃ c, isScalar c ∧ b.take n <+: utf8Of c) ∧
      (n = b.length ∨ ∀ c, isScalar c → ¬ b.take (n + 1) <+: utf8Of c) := by
  have hbounds : 1 ≤ n ∧ n ≤ b.length := by simpa [h] using utf8Head_bounds hb
  refine ⟨or_iff_not_imp_left.2 fun hn => ?_, or_iff_not_imp_left.2 fun hn c hc hpre => ?_⟩
  · obtain ⟨r, hr⟩ := utf8Head_fill hb h hn
    obtain ⟨c, hc, htake⟩ := utf8Of_of_utf8Head hr
    rw [List.take_length] at htake
    exact ⟨c, hc, htake ▸ List.prefix_append _ r⟩
  · obtain ⟨r, hr⟩ := hpre
    have hwell : utf8Head (b.take (n + 1) ++ r) = (true, (utf8Of c).length) := by
      rw [hr, ← utf8Head_utf8Of hc [], List.append_nil]
    rw [utf8Head_take_succ h (by omega)] at hwell
    cases hwell

end Sys2Proof.Machine
end

section
/-! PROOFS. Tokens of a text: what becomes of its bytes, and that REPL stands for ill-formed subparts alone. -/

namespace Sys2Proof.Machine

open Sys2Proof

/-! ## One step of the tokeniser (11 R541, R542) -/

theorem tokenise_nil (dict : List Bytes) (fuel : Nat) : tokenise dict fuel [] = ⟨[], 0, 0⟩ := by cases fuel <;> rfl

section Step

variable {dict : List Bytes} {b : Bytes} {n : Nat} (hb : b ≠ [])
include hb

theorem tokenise_illFormed (h : utf8Head b = (false, n)) (fuel : Nat) :
    tokenise dict (fuel + 1) b = Tokens.bad n (tokenise dict fuel (b.drop n)) := by
  rw [tokenise, if_neg (by simpa using hb), h]

theorem tokenise_unmatched (h : utf8Head b = (true, n)) (hno : longestMatch dict (b.take (wellFormedLen b.length b)) = none)
    (fuel : Nat) : tokenise dict (fuel + 1) b = Tokens.add ((b.take n).map (·.toNat)) (tokenise dict fuel (b.drop n)) := by
  rw [tokenise, if_neg (by simpa using hb), h, hno]

theorem tokenise_matched {i len : Nat} (h : utf8Head b = (true, n))
    (hyes : longestMatch dict (b.take (wellFormedLen b.length b)) = some (i, len)) (fuel : Nat) :
    tokenise dict (fuel + 1) b = Tokens.add [0x200 + i] (tokenise dict fuel (b.drop len)) := by
  rw [tokenise, if_neg (by simpa using hb), h, hyes]

end Step

/-! ## REPL (11 R539, R541) -/

/-- A byte's token is no REPL. -/
theorem count_repl_bytes (b : Bytes) : (b.map (·.toNat)).count tokREPL = 0 := by
  refine List.count_eq_zero.2 fun h => ?_
  obtain ⟨x, -, hx⟩ := List.mem_map.1 h
  exact absurd (hx ▸ x.isLt) (by decide)

/-- REPLs stand for the ill-formed subparts and for nothing else. -/
theorem count_repl_tokenise (dict : List Bytes) (fuel : Nat) (b : Bytes) :
    (tokenise dict fuel b).tokens.count tokREPL = (tokenise dict fuel b).repls := by
  induction fuel generalizing b with
  | zero => rfl
  | succ fuel ih =>
    rcases eq_or_ne b [] with rfl | hb
    · rfl
    · rcases hh : utf8Head b with ⟨_ | _, n⟩
      · rw [tokenise_illFormed hb hh, Tokens.bad, List.count_cons_self, ih, Nat.add_comm]
      · rcases hm : longestMatch dict (b.take (wellFormedLen b.length b)) with _ | ⟨i, len⟩
        · rw [tokenise_unmatched hb hh hm, Tokens.add, List.count_append, count_repl_bytes, ih, Nat.zero_add]
        · have hi : [0x200 + i].count tokREPL = 0 := List.count_eq_zero.2 fun h => by
            have := List.mem_singleton.1 h
            simp only [tokREPL] at this
            omega
          rw [tokenise_matched hb hh hm, Tokens.add, List.count_append, hi, ih, Nat.zero_add]

/-! ## Without a dictionary -/

theorem longestMatch_nil (stretch : Bytes) : longestMatch [] stretch = none := rfl

/-- What follows a head fits the fuel that is left. -/
theorem length_drop_head {b : Bytes} {fuel : Nat} (hb : b ≠ []) (h : b.length ≤ fuel + 1) :
    (b.drop (utf8Head b).2).length ≤ fuel := by
  have := utf8Head_bounds hb
  rw [List.length_drop]
  omega

/-- Every byte is a byte token or a byte of an ill-formed subpart, each of which has one at least. -/
theorem tokenise_bytes {fuel : Nat} {b : Bytes} (h : b.length ≤ fuel) :
    (tokenise [] fuel b).tokens.length + (tokenise [] fuel b).badBytes = b.length + (tokenise [] fuel b).repls ∧
      (tokenise [] fuel b).repls ≤ (tokenise [] fuel b).badBytes := by
  induction fuel generalizing b with
  | zero =>
    rw [List.eq_nil_of_length_eq_zero (Nat.le_zero.1 h)]
    exact ⟨rfl, le_rfl⟩
  | succ fuel ih =>
    rcases eq_or_ne b [] with rfl | hb
    · exact ⟨rfl, le_rfl⟩
    · have hbounds := utf8Head_bounds hb
      have hrest := ih (length_drop_head hb h)
      rcases hh : utf8Head b with ⟨_ | _, n⟩ <;> rw [hh] at hbounds hrest <;> dsimp only at hbounds hrest <;>
        rw [List.length_drop] at hrest
      · rw [tokenise_illFormed hb hh, Tokens.bad]
        simp only [List.length_cons]
        omega
      · rw [tokenise_unmatched hb hh (longestMatch_nil _), Tokens.add]
        simp only [List.length_append, List.length_map, List.length_take]
        omega

/-! ## Well-formed texts -/

/-- A text that is well-formed throughout is its byte tokens. -/
theorem tokenise_wellFormed {fuel : Nat} {b : Bytes} (h : b.length ≤ fuel) (hwell : wellFormedLen fuel b = b.length) :
    (tokenise [] fuel b).repls = 0 ∧ (tokenise [] fuel b).tokens = b.map (·.toNat) := by
  induction fuel generalizing b with
  | zero =>
    rw [List.eq_nil_of_length_eq_zero (Nat.le_zero.1 h)]
    exact ⟨rfl, rfl⟩
  | succ fuel ih =>
    rcases eq_or_ne b [] with rfl | hb
    · exact ⟨rfl, rfl⟩
    · have hbounds := utf8Head_bounds hb
      have hfuel := length_drop_head hb h
      rcases hh : utf8Head b with ⟨_ | _, n⟩ <;> rw [hh] at hbounds hfuel <;> rw [wellFormedLen, hh] at hwell <;>
        dsimp only at hbounds hfuel hwell
      · omega
      · obtain ⟨hrepls, htokens⟩ := ih hfuel (by rw [List.length_drop]; omega)
        rw [tokenise_unmatched hb hh (longestMatch_nil _), Tokens.add, htokens, ← List.map_append, List.take_append_drop]
        exact ⟨hrepls, rfl⟩

/-- ASCII is well-formed. -/
theorem utf8Ok_ascii {b : Bytes} (h : ∀ x ∈ b, x.toNat < 128) : utf8Ok b = true := by
  rw [utf8Ok, beq_iff_eq]
  induction b with
  | nil => rfl
  | cons x b ih =>
    have hx : x.toNat ≤ 0x7F := Nat.le_of_lt_succ (h x List.mem_cons_self)
    rw [List.length_cons, wellFormedLen, utf8Head_ascii hx]
    dsimp only
    rw [List.drop_succ_cons, List.drop_zero, ih fun y hy => h y (List.mem_cons_of_mem x hy), Nat.add_comm]

end Sys2Proof.Machine
end

section
/-! PROOFS. What is held no more after an admission's end: nothing that follows the end holds an admission anew. -/

namespace Sys2Proof.Machine

open Sys2Proof

/-! ## Handles held -/

/-- Whatever is held at the end was held at the start. -/
def FewerAdms (s t : State) : Prop := t.led.held.map (·.handle) ⊆ s.led.held.map (·.handle)

section FewerAdms

variable {s t u : State}

theorem FewerAdms.refl (s : State) : FewerAdms s s := List.Subset.refl _
theorem FewerAdms.trans (h : FewerAdms s t) (k : FewerAdms t u) : FewerAdms s u := List.Subset.trans k h
theorem FewerAdms.of_handles (h : t.led.held.map (·.handle) = s.led.held.map (·.handle)) : FewerAdms s t := fun _ ha => h ▸ ha
theorem FewerAdms.of_frame {l : List Chapter} (h : Frame l s t) (hp : Chapter.led ∉ l) : FewerAdms s t :=
  .of_handles (by rw [h.led_eq hp])
theorem FewerAdms.of_filter {p : Admission → Bool} (h : t.led.held = s.led.held.filter p) : FewerAdms s t := by
  rw [FewerAdms, h]
  exact List.map_subset _ (List.filter_subset_self _)

theorem findAdm_eq_none {h : Nat} : findAdm s h = none ↔ h ∉ s.led.held.map (·.handle) := by
  rw [findAdm, List.find?_eq_none]
  simp [List.mem_map]

/-- An admission that is not held is not held later. -/
theorem FewerAdms.findAdm_none (k : FewerAdms s t) {h : Nat} (hs : findAdm s h = none) : findAdm t h = none :=
  findAdm_eq_none.2 fun ht => findAdm_eq_none.1 hs (k ht)

end FewerAdms

theorem dropAdm_fewerAdms (h : Nat) (s : State) : FewerAdms s (dropAdm h s) := .of_filter rfl

theorem findAdm_dropAdm (h : Nat) (s : State) : findAdm (dropAdm h s) h = none := by
  simp [findAdm_eq_none, dropAdm, List.mem_map]

theorem cutBuckets_fewerAdms (cls : Nat) (s : State) : FewerAdms s (cutBuckets cls s) :=
  .of_frame (cutBuckets_frame cls s (List.Subset.refl _) (Frame.refl _ s)) (by decide)

theorem dropHeld_fewerAdms (h : Nat) (s : State) : FewerAdms s (dropHeld h s) := by
  unfold dropHeld
  split
  · exact .refl s
  · exact (dropAdm_fewerAdms h s).trans (cutBuckets_fewerAdms ..)

/-! ## The end of work -/

theorem releaseUnadmitted_fewerAdms (b : Nat) (l : List Ref) (s : State) : FewerAdms s (releaseUnadmitted b l s) := by
  have hexpired : FewerAdms s (cancelExpired l s) :=
    .of_frame (cancelExpired_frame l s (List.Subset.refl _) (Frame.refl _ s)) (by decide)
  unfold releaseUnadmitted
  dsimp only
  split
  · exact hexpired
  · refine hexpired.trans (FewerAdms.trans (t := freeBench b (cancelExpired l s)) (.of_handles rfl) ?_)
    exact .of_frame (refuseGone_frame _ _ (List.Subset.refl _) (ok_frame _ _ _ (List.Subset.refl _) (Frame.refl _ _))) (by decide)

theorem benchState_fewerAdms (b : Nat) (why : Why) (fence : Word) (s : State) : FewerAdms s (benchState b why fence s) := by
  unfold benchState
  dsimp only
  split
  · exact FewerAdms.trans (.of_handles rfl) (releaseUnadmitted_fewerAdms ..)
  · split
    · exact .of_handles rfl
    · exact .of_handles rfl

/-- The epoch is over: its samples are unlocked, and a minibatch in flight will come late (11 R558; 02 R112). -/
def epochOver (e : Epoch) (s : State) : State :=
  s.setRcp { s.rcp with
    epoch := none, cache := s.rcp.cache.map unlockEntry
    lateBatch := if e.started = e.done then s.rcp.lateBatch else s.rcp.lateBatch ++ [e.tenant] }

/-- Its admission is dropped, and its samples' headers are written. -/
def epochCut (e : Epoch) (s : State) : State := writeCacheHeaders e.entries (dropHeld e.handle (epochOver e s))

theorem epochCut_fewerAdms (e : Epoch) (s : State) : FewerAdms s (epochCut e s) :=
  FewerAdms.trans (t := epochOver e s) (.of_handles rfl) ((dropHeld_fewerAdms e.handle _).trans
    (.of_frame (writeCacheHeaders_frame e.entries _ (List.Subset.refl _) (Frame.refl _ _)) (by decide)))

theorem endEpoch_fewerAdms (s : State) : FewerAdms s (endEpoch s) := by
  unfold endEpoch
  split
  · exact .refl s
  next e _ =>
    refine (epochCut_fewerAdms e s).trans (.of_frame (l := [.emitted, .host, .pos, .kw, .fab]) ?_ (by decide))
    have hcut : Frame [.emitted, .host, .pos, .kw, .fab] (epochCut e s) (epochCut e s) := Frame.refl _ _
    dsimp only
    split
    · split
      · exact failList_frame _ _ _ _ (by decide) hcut
      · exact hcut
    · split
      · exact doneLater_frame _ _ _ _ (by decide) hcut
      · exact hcut

theorem endShadow_fewerAdms (s : State) : FewerAdms s (endShadow s) := by
  unfold endShadow
  split
  · exact .refl s
  · exact FewerAdms.trans (.of_handles rfl) (dropHeld_fewerAdms ..)

theorem endTemperWork_fewerAdms (b : Nat) (temper : Bool) (s : State) : FewerAdms s (endTemperWork b temper s) := by
  have hshadow (x : Bool) (u : State) : FewerAdms u (if x then endShadow u else u) := by
    split
    · exact endShadow_fewerAdms u
    · exact .refl u
  cases temper with
  | false => exact hshadow _ s
  | true => exact (endEpoch_fewerAdms s).trans (hshadow _ _)

theorem benchPartsHeld_frame_self (b : Nat) (why : Why) (s : State) : Frame [.hm, .rcp] s (benchPartsHeld b why s) := by
  have hopen : Frame [.hm, .rcp] s (openParts s) := openParts_frame s (List.Subset.refl _) (Frame.refl _ s)
  unfold benchPartsHeld
  split
  · exact fixParts_frame _ _ _ (by decide) hopen
  · exact hopen

theorem endBench_fewerAdms (b : Nat) (why : Why) (fence : Word) (s : State) : FewerAdms s (endBench b why fence s) := by
  have hparts : FewerAdms s (benchPartsHeld b why s) := .of_frame (benchPartsHeld_frame_self b why s) (by decide)
  have hcancel : FewerAdms s (if (benchOf s b).temper = true then benchPartsHeld b why s
      else cancelActivation (benchOf s b).recipe (benchPartsHeld b why s)) := by
    split
    · exact hparts
    · exact hparts.trans (.of_frame (cancelActivation_frame _ _ (List.Subset.refl _) (Frame.refl _ _)) (by decide))
  rw [endBench_eq]
  refine (hcancel.trans ?_).trans ((endTemperWork_fewerAdms b _ _).trans (benchState_fewerAdms ..))
  exact .of_frame (l := [.emitted, .host, .kw, .fab, .hm, .rcp])
    (benchReply_frame b _ (by decide) (flushBench_frame b _ _ _ (by decide) (Frame.refl _ _))) (by decide)

theorem logActOf_frame_self (a : Act) (outcome : Nat) (off : Word) (s : State) : Frame [.draw, .hm] s (logActOf a outcome off s) :=
  logActOf_frame a outcome off s (by decide) (Frame.refl _ s)

theorem endActuation_fewerAdms (h : Nat) (s : State) : FewerAdms s (endActuation h s) := by
  unfold endActuation
  split
  · exact .refl s
  · split
    · exact .refl s
    · exact FewerAdms.trans (t := dropAct h s) (.of_filter rfl) (.of_frame (logActOf_frame_self _ _ _ _) (by decide))

theorem endWork_fewerAdms (a : Admission) (why : Why) (s : State) : FewerAdms s (endWork a why s) := by
  have hframe {l : List Chapter} {t : State} (h : Frame l s t) (hl : Chapter.led ∉ l) : FewerAdms s t := .of_frame h hl
  unfold endWork
  split
  · exact hframe (endRecipe_frame _ _ s (List.Subset.refl _) (Frame.refl _ s)) (by decide)
  · exact endBench_fewerAdms ..
  · exact endActuation_fewerAdms ..
  · exact endEpoch_fewerAdms s
  · exact hframe (endTap_frame _ _ s (List.Subset.refl _) (Frame.refl _ s)) (by decide)
  · exact hframe (endStream_frame _ s (List.Subset.refl _) (Frame.refl _ s)) (by decide)
  · exact hframe (endCapture_frame s (List.Subset.refl _) (Frame.refl _ s)) (by decide)
  · exact endShadow_fewerAdms s

/-- What an admission leaves behind holds neither the admission nor anything new. -/
theorem endAdm_drops (a : Admission) (why : Why) (s : State) :
    FewerAdms s (endAdm a why s) ∧ findAdm (endAdm a why s) a.handle = none := by
  have hrest : FewerAdms (dropAdm a.handle s) (endAdm a why s) := (cutBuckets_fewerAdms ..).trans (endWork_fewerAdms ..)
  exact ⟨(dropAdm_fewerAdms a.handle s).trans hrest, hrest.findAdm_none (findAdm_dropAdm a.handle s)⟩

/-! ## Revocations, and the changes of the Ledger that bring them about (02 R105, R110) -/

/-- A relation that runs through every revocation, and through every change of the Ledger that keeps what is held. -/
structure ThroughRevocation (R : State → State → Prop) : Prop where
  refl : ∀ s, R s s
  trans : ∀ {s t u}, R s t → R t u → R s u
  one : ∀ cause budget inst a s, R s (revokeOne cause budget inst a s)
  ledger : ∀ s led, led.held.map (·.handle) = s.led.held.map (·.handle) → R s (s.setLed led)

section Through

variable {R : State → State → Prop} (h : ThroughRevocation R)
include h

theorem ThroughRevocation.ite {f : State → State} (hf : ∀ u, R u (f u)) (held : Bool) (s : State) :
    R s (if held = true then f s else s) := by
  split
  · exact hf s
  · exact h.refl s

theorem ThroughRevocation.refreshDemands (v : Nat) (s : State) : R s (refreshDemands v s) :=
  h.ledger s _ (by simp [Function.comp_def])

theorem ThroughRevocation.revokeAll (cause budget inst : Nat) (l : List Admission) (s : State) :
    R s (revokeAll cause budget inst l s) := by
  induction l generalizing s with
  | nil => exact h.refl s
  | cons a l ih => exact h.trans (h.ite (fun u => h.one cause budget _ a u) _ s) (ih _)

theorem ThroughRevocation.revokeBench (cause budget inst : Nat) (a : Admission) (s : State) :
    R s (revokeBench cause budget inst a s) := h.trans (h.revokeAll ..) (h.one ..)

theorem ThroughRevocation.revokeBenches (cause budget inst : Nat) (l : List Admission) (s : State) :
    R s (revokeBenches cause budget inst l s) := by
  induction l generalizing s with
  | nil => exact h.refl s
  | cons a l ih => exact h.trans (h.ite (fun u => h.revokeBench cause budget _ a u) _ s) (ih _)

theorem ThroughRevocation.revoke (cause budget inst : Nat) (a : Admission) (s : State) : R s (revoke cause budget inst a s) := by
  unfold Machine.revoke
  split
  · exact h.trans (h.one ..) (h.revokeBenches ..)
  · split
    · exact h.revokeBench ..
    · exact h.one ..

theorem ThroughRevocation.shrink (fuel v cause : Nat) (s : State) : R s (shrink fuel v cause s) := by
  induction fuel generalizing s with
  | zero => exact h.refl s
  | succ fuel ih =>
    unfold Machine.shrink
    split
    · exact h.refl s
    · exact h.trans (h.revoke ..) (ih _)

theorem ThroughRevocation.revokeStaff (l : List Admission) (s : State) : R s (revokeStaff l s) := by
  induction l generalizing s with
  | nil => exact h.refl s
  | cons a l ih => exact h.trans (h.ite (fun u => h.revoke cSTAKE 1 a.object a u) _ s) (ih _)

theorem ThroughRevocation.capacityRun (cause : Nat) (s : State) : R s (capacityRun cause s) :=
  h.trans (h.refreshDemands ..) (h.trans (h.revokeStaff ..) (h.shrink ..))

theorem ThroughRevocation.settleVAdm (s : State) : R s (settleVAdm s) := by
  have hset : ∀ v, R s (Machine.refreshDemands (vEff v) (s.setLed { s.led with vadm := v })) := fun v =>
    h.trans (h.ledger s { s.led with vadm := v } rfl) (h.refreshDemands ..)
  unfold Machine.settleVAdm
  dsimp only
  split
  · exact h.refl s
  · split
    · exact h.trans (hset _) (h.capacityRun ..)
    · exact hset _

end Through

theorem tellRevoked_fewerAdms (cause budget inst : Nat) (a : Admission) (s : State) :
    FewerAdms s (tellRevoked cause budget inst a s) :=
  FewerAdms.trans (t := s.setLed { s.led with
    revokes := s.led.revokes + 1, revoked := (a.kind, a.tenant, a.object) :: s.led.revoked }) (.of_handles rfl)
    (.of_frame (noticeHolderAt_frame_self _ _ _ _ _) (by decide))

theorem fewerAdms_throughRevocation : ThroughRevocation FewerAdms where
  refl := .refl
  trans := .trans
  one := fun cause budget inst a s => (tellRevoked_fewerAdms cause budget inst a s).trans (endAdm_drops ..).1
  ledger := fun _ _ h => .of_handles h

/-! ## Releases (02 R107) -/

theorem releaseBenches_fewerAdms (l : List Admission) (s : State) : FewerAdms s (releaseBenches l s) := by
  induction l generalizing s with
  | nil => exact .refl s
  | cons a l ih =>
    refine FewerAdms.trans ?_ (ih _)
    exact fewerAdms_throughRevocation.ite (f := fun u => endAdm a .released (tellRevoked cRECIPE
      ((Config.releaseNamed a.object).1 % 256) ((Config.releaseNamed a.object).2 % 256) a u))
      (fun u => (tellRevoked_fewerAdms ..).trans (endAdm_drops ..).1) _ s

/-- A released admission is held no more. -/
theorem findAdm_release (a : Admission) (s : State) : findAdm (release a s) a.handle = none := by
  have hsettle := fewerAdms_throughRevocation.settleVAdm
  exact ((hsettle _).trans (hsettle _)).findAdm_none (endAdm_drops a .released _).2

end Sys2Proof.Machine
end

section
/-! PROOFS. RECIPE_LOAD: the checks and budgets that refuse an image, and the recipe that one enters. -/

namespace Sys2Proof.Machine

open Sys2Proof

/-! ## Admission at the v_adm that a recipe brings about (02 R104) -/

/-- The v_adm that a recipe's request brings about. -/
def broughtAbout (q : Request) (s : State) : Nat := max (if hasRecipe s.led.held then s.led.vadm else 0) (vAdmOf s q.vDecl)

/-- The budgets looked at before the request's own: the supply's, or those that what is held would not fit at a higher speed. -/
def firstShorts (q : Request) (s : State) : List Short :=
  if 6 ≤ q.cls ∧ supplyWarned s then supplyShorts s q.cls
  else if s.led.vadm ≠ 0 ∧ s.led.vadm < broughtAbout q s then heldShorts s (broughtAbout q s) q.cls else []

/-- What is held at the new speed, with enough of class 7 reclaimed. -/
def roomMade (q : Request) (s : State) : State :=
  reclaim ((refreshDemands (broughtAbout q s) s).led.held.length + 1) (broughtAbout q s) (withTable q.demands)
    (refreshDemands (broughtAbout q s) s)

/-- The recipe's admission is entered, and v_adm is what it brings about. -/
def recipeAdmitted (q : Request) (h : Nat) (s : State) : State :=
  (commitAdm q h (roomMade q s)).setLed { (commitAdm q h (roomMade q s)).led with vadm := broughtAbout q s }

theorem not_isEmpty {α : Type} {l : List α} (h : l ≠ []) : (!l.isEmpty) = true := by
  rw [Bool.not_eq_true', List.isEmpty_eq_false_iff]
  exact h

section Admit

variable {q : Request} {s : State}

theorem admitRecipe_first (hne : firstShorts q s ≠ []) (h : Nat) : admitRecipe q h s = refused (firstShorts q s) s :=
  if_pos (not_isEmpty hne)

variable (hfirst : firstShorts q s = [])
include hfirst

theorem admitRecipe_short (hne : shorts s (broughtAbout q s) q.cls (withTable q.demands) ≠ []) (h : Nat) :
    admitRecipe q h s = refused (shorts s (broughtAbout q s) q.cls (withTable q.demands)) s := by
  exact (if_neg (c := (!(firstShorts q s).isEmpty) = true) (by simp [hfirst])).trans (if_pos (not_isEmpty hne))

theorem admitRecipe_fits (hown : shorts s (broughtAbout q s) q.cls (withTable q.demands) = []) (h : Nat) :
    admitRecipe q h s = { payload := none, state := recipeAdmitted q h s } := by
  refine (if_neg (c := (!(firstShorts q s).isEmpty) = true) (by simp [hfirst])).trans (if_neg ?_)
  change ¬ (!(shorts s (broughtAbout q s) q.cls (withTable q.demands)).isEmpty) = true
  simp [hown]

end Admit

/-- With no class-7 admission nothing is reclaimed. -/
theorem roomMade_no_class7 {q : Request} {s : State} (h : ∀ a ∈ s.led.held, a.cls ≠ 7) :
    roomMade q s = refreshDemands (broughtAbout q s) s := by
  refine reclaim_no_class7 (fun a ha => ?_) _ _ _
  obtain ⟨b, hb, rfl⟩ := List.mem_map.1 ha
  exact h b hb

theorem recipeAdmitted_rcp_no_class7 {q : Request} {s : State} (hno : ∀ a ∈ s.led.held, a.cls ≠ 7) (h : Nat) :
    (recipeAdmitted q h s).rcp = s.rcp := by
  refine (Frame.rcp_eq (commitAdm_frame_self q h _) (by decide)).trans ?_
  rw [roomMade_no_class7 hno]
  rfl

theorem enteredAdm_mem_recipeAdmitted (q : Request) (h : Nat) (s : State) :
    enteredAdm q h (roomMade q s) ∈ (recipeAdmitted q h s).led.held := by
  have hheld : (recipeAdmitted q h s).led.held = (commitAdm q h (roomMade q s)).led.held := rfl
  rw [hheld, commitAdm_held]
  exact List.mem_append_right _ (List.mem_singleton.2 rfl)

/-! ## RECIPE_LOAD (11 R521 to R525) -/

/-- The request for admission that an image makes. -/
def loadRequest (p : Packet) (h : Nat) (im : RecipeImage) (s : State) : Request :=
  { kind := .recipe, cls := p.cls, tenant := p.tenant, demands := recipeDemands s p.cls im, object := 0xFFFF
    vDecl := im.vDecl, recipe := h }

/-- The handle that a new admission is given. -/
def pickedHandle (pick : Nat) (s : State) : Nat := freshHandle s pick fun _ => true

/-- The recipe joins those held. -/
def recipeJoined (r : Recipe) (s : State) : State := s.setRcp { s.rcp with recipes := s.rcp.recipes ++ [r] }

theorem recipeJoined_recipes (r : Recipe) (s : State) : (recipeJoined r s).rcp.recipes = s.rcp.recipes ++ [r] := rfl

theorem recipeJoined_led (r : Recipe) (s : State) : (recipeJoined r s).led = s.led := rfl

/-- A load as its admission is decided. -/
def loadDecided (p : Packet) (h : Nat) (im : RecipeImage) (s : State) (d : Decision) : State :=
  match d.payload with
  | some e => refuseWith p stREFUSED_BUDGET e d.state
  | none => ok p (le4 h ++ le4 1) (recipeJoined (newRecipe h p.tenant im s) d.state)

theorem loadAdmit_eq (p : Packet) (pick : Nat) (im : RecipeImage) (s : State) : loadAdmit p pick im s =
    loadDecided p (pickedHandle pick s) im s (admitRecipe (loadRequest p (pickedHandle pick s) im s) (pickedHandle pick s) s) := rfl

section Load

variable {r : Ref} {p : Packet} {s : State} (h : opStarts 0x0B02 r p s = true) {poisoned : Bool} (pick : Nat)
include h

theorem recipeLoad_unread {st : Half} {off : Nat} (hb : recipeBytes p poisoned s = .inl (st, off)) :
    exec (.recipeLoad ⟨r, poisoned⟩ pick) s = .next (refuse p st off s) := by
  refine congrArg Host.Outcome.next ((runOp_starts h _).trans ?_)
  dsimp only
  rw [hb]

variable {b : Bytes} (hb : recipeBytes p poisoned s = .inr b)
include hb

theorem recipeLoad_failed {k off : Nat} (hk : recipeCheck s p b = some (k, off)) : exec (.recipeLoad ⟨r, poisoned⟩ pick) s =
    .next (refuseWith p (if k = 9 then stBUSY else stBAD_PARAM) (le2 k ++ le2 off) s) := by
  refine congrArg Host.Outcome.next ((runOp_starts h _).trans ?_)
  dsimp only
  rw [hb]
  dsimp only
  rw [hk]

theorem recipeLoad_passed (hk : recipeCheck s p b = none) :
    exec (.recipeLoad ⟨r, poisoned⟩ pick) s = .next (loadAdmit p pick (imageOf b) s) := by
  refine congrArg Host.Outcome.next ((runOp_starts h _).trans ?_)
  dsimp only
  rw [hb]
  dsimp only
  rw [hk]

end Load

end Sys2Proof.Machine
end

section
/-! PROOFS. Recipes found by their handles after a change, and RECIPE_ACTIVATE. -/

namespace Sys2Proof.Machine

open Sys2Proof

/-! ## Recipes by their handles -/

theorem findRecipe_congr {s t : State} (h : t.rcp.recipes = s.rcp.recipes) (k : Nat) : findRecipe t k = findRecipe s k := by
  rw [findRecipe, findRecipe, h]

theorem recipeHeld_congr {s t : State} (h : t.led = s.led) (k : Nat) : recipeHeld t k = recipeHeld s k := by
  rw [recipeHeld, recipeHeld, h]

theorem findRecipe_modRecipe_ne {h k : Nat} (hk : k ≠ h) (s : State) {f : Recipe → Recipe} (hf : ∀ r, (f r).handle = r.handle) :
    findRecipe (modRecipe h f s) k = findRecipe s k := by
  have hsame : (fun r : Recipe => (if r.handle = h then f r else r).handle == k) = fun r => r.handle == k := by
    funext r
    split
    · rw [hf]
    · rfl
  have hfind : findRecipe (modRecipe h f s) k = (findRecipe s k).map fun r => if r.handle = h then f r else r :=
    List.find?_map.trans (congrArg (Option.map _) (congrArg (List.find? · s.rcp.recipes) hsame))
  rw [hfind]
  cases hr : findRecipe s k with
  | none => rfl
  | some r => exact congrArg some (if_neg (findRecipe_handle hr ▸ hk))

/-! ## A pending activation (11 R531, R535) -/

/-- The outgoing recipe of an activation: it ends at E, and a deactivation's issuer is told (11 R531). -/
def Recipe.ending (alone : Bool) (issuer : Nat) (e : Long) (r : Recipe) : Recipe :=
  { r with endAt := some e, issuer := if alone then issuer else r.issuer }

/-- The incoming recipe of an activation: it is pending at E (11 Table 11.5). -/
def Recipe.awaiting (outgoing issuer : Nat) (e : Long) (r : Recipe) : Recipe :=
  { r with state := .pending, switchAt := e, outgoing := outgoing, issuer := issuer }

/-- The outgoing recipe, if there is one, ends at E. -/
def endingAt (alone : Bool) (old : Option Recipe) (issuer : Nat) (e : Long) (s : State) : State :=
  match old with
  | some o => modRecipe o.handle (Recipe.ending alone issuer e) s
  | none => s

theorem commitActivation_none (old : Option Recipe) (issuer : Nat) (e : Long) (s : State) :
    commitActivation none old issuer e s = endingAt true old issuer e s := by cases old <;> rfl

theorem commitActivation_some (i : Recipe) (old : Option Recipe) (issuer : Nat) (e : Long) (s : State) :
    commitActivation (some i) old issuer e s =
      modRecipe i.handle (Recipe.awaiting ((old.map (·.handle)).getD 0) issuer e) (endingAt false old issuer e s) := by
  cases old <;> rfl

theorem findRecipe_endingAt {s : State} {o r : Recipe} (alone : Bool) (issuer : Nat) (e : Long)
    (hr : findRecipe s o.handle = some r) :
    findRecipe (endingAt alone (some o) issuer e s) o.handle = some (r.ending alone issuer e) := by
  rw [endingAt, findRecipe_modRecipe o.handle s (f := Recipe.ending alone issuer e) fun _ => rfl, hr]
  rfl

theorem findRecipe_endingAt_isSome (alone : Bool) (old : Option Recipe) (issuer : Nat) (e : Long) (s : State) (k : Nat)
    (hk : (findRecipe s k).isSome = true) : (findRecipe (endingAt alone old issuer e s) k).isSome = true := by
  cases old with
  | none => exact hk
  | some o =>
    rw [endingAt]
    rcases eq_or_ne k o.handle with rfl | hne
    · rwa [findRecipe_modRecipe _ s (f := Recipe.ending alone issuer e) fun _ => rfl, Option.isSome_map]
    · rwa [findRecipe_modRecipe_ne hne s (f := Recipe.ending alone issuer e) fun _ => rfl]

/-- The incoming recipe is pending at E. -/
theorem commitActivation_incoming {i : Recipe} {s : State} (hi : (findRecipe s i.handle).isSome = true) (old : Option Recipe)
    (issuer : Nat) (e : Long) :
    (findRecipe (commitActivation (some i) old issuer e s) i.handle).map (fun x => (x.state, x.switchAt, x.issuer)) =
      some (.pending, e, issuer) := by
  obtain ⟨r, hr⟩ := Option.isSome_iff_exists.1 (findRecipe_endingAt_isSome false old issuer e s i.handle hi)
  rw [commitActivation_some, findRecipe_modRecipe _ _ (f := Recipe.awaiting _ issuer e) fun _ => rfl, hr]
  rfl

/-- The outgoing recipe ends at E, were it the incoming one as well. -/
theorem commitActivation_outgoing {o r : Recipe} {s : State} (hr : findRecipe s o.handle = some r) (inc : Option Recipe)
    (issuer : Nat) (e : Long) : (findRecipe (commitActivation inc (some o) issuer e s) o.handle).bind (·.endAt) = some e := by
  cases inc with
  | none =>
    rw [commitActivation_none, findRecipe_endingAt true issuer e hr]
    rfl
  | some i =>
    rw [commitActivation_some]
    rcases eq_or_ne o.handle i.handle with hsame | hne
    · rw [← hsame, findRecipe_modRecipe _ _ (f := Recipe.awaiting _ issuer e) fun _ => rfl, findRecipe_endingAt false issuer e hr]
      rfl
    · rw [findRecipe_modRecipe_ne hne _ (f := Recipe.awaiting _ issuer e) fun _ => rfl, findRecipe_endingAt false issuer e hr]
      rfl

/-! ## The recipe that a handle names (15 R693) -/

theorem recipeFor_found {s : State} {t k off : Nat} {r : Recipe} (h : recipeFor s t k off = .inr r) :
    findRecipe s k = some r ∧ recipeHeld s k = true := by
  unfold recipeFor at h
  split at h
  · cases h
  next x hx =>
    split_ifs at h with hheld
    · cases h
      exact ⟨hx, by simpa using hheld⟩

theorem recipeFor_refusal {s : State} {t k off off' : Nat} {st : Half} (h : recipeFor s t k off = .inl (st, off')) :
    st = stBAD_PARAM ∨ st = stDENIED := by
  unfold recipeFor at h
  split at h
  · cases h
    exact .inl rfl
  · split_ifs at h
    · cases h
      exact .inl rfl
    · cases h
      exact .inr rfl

theorem optRecipe_some {s : State} {t k off : Nat} {r : Recipe} (h : optRecipe s t k off = .inr (some r)) :
    findRecipe s r.handle = some r := by
  unfold optRecipe at h
  split_ifs at h
  · cases h
  · split at h
    · cases h
    next x hx =>
      cases h
      have hfound := (recipeFor_found hx).1
      rwa [findRecipe_handle hfound]

theorem optRecipe_refusal {s : State} {t k off off' : Nat} {st : Half} (h : optRecipe s t k off = .inl (st, off')) :
    st ≠ stACCEPTED := by
  unfold optRecipe at h
  split_ifs at h
  split at h
  next e he =>
    cases h
    rcases recipeFor_refusal he with rfl | rfl <;> decide
  · cases h

theorem activateFault_refusal {s : State} {inc old : Option Recipe} {st : Half} {off : Nat}
    (h : activateFault s inc old = some (st, off)) : st ≠ stACCEPTED := by
  unfold activateFault at h
  dsimp only at h
  split_ifs at h <;> (cases h; decide)

/-! ## RECIPE_ACTIVATE (11 R528 to R535) -/

/-- An activation that comes to a refusal. -/
def notActivated (st : Half) (off : Nat) (s : State) : Activation := { status := st, off := off, e := 0, state := s }

section Activate

variable {t issuer h outH : Nat} {now : Bool} {w : Word} {s : State}

theorem activate_noIncoming {st : Half} {off : Nat} (hi : optRecipe s t h 0x20 = .inl (st, off)) :
    activate t issuer h outH now w s = notActivated st off s := by
  unfold activate
  rw [hi]
  rfl

variable {inc : Option Recipe} (hi : optRecipe s t h 0x20 = .inr inc)
include hi

theorem activate_noOutgoing {st : Half} {off : Nat} (ho : optRecipe s t outH 0x24 = .inl (st, off)) :
    activate t issuer h outH now w s = notActivated st off s := by
  unfold activate
  rw [hi, ho]
  rfl

variable {old : Option Recipe} (ho : optRecipe s t outH 0x24 = .inr old)
include ho

theorem activate_fault {st : Half} {off : Nat} (hf : activateFault s inc old = some (st, off)) :
    activate t issuer h outH now w s = notActivated st off s := by
  unfold activate
  rw [hi, ho]
  dsimp only
  rw [hf]
  rfl

theorem activate_late (hf : activateFault s inc old = none) (hnow : now = false) (hin : inHorizon s w = false) :
    activate t issuer h outH now w s = notActivated stREFUSED_HORIZON 0x28 s := by
  unfold activate
  rw [hi, ho]
  dsimp only
  rw [hf, hnow, hin]
  rfl

theorem activate_commits (hf : activateFault s inc old = none) (hin : now = true ∨ inHorizon s w = true) :
    activate t issuer h outH now w s = { status := stACCEPTED, off := 0, e := switchPos old (activateAt s now w)
                                         state := commitActivation inc old issuer (switchPos old (activateAt s now w)) s } := by
  unfold activate
  rw [hi, ho]
  dsimp only
  rw [hf]
  refine if_neg ?_
  rcases hin with hin | hin <;> simp [hin]

end Activate

/-- The activation that a packet asks for. -/
def activationOf (p : Packet) (s : State) : Activation :=
  activate p.tenant p.principal (fld p.params 0 4) (fld p.params 4 4) (bit (fld p.params 12 1) 0) (BitVec.ofNat 32 (fld p.params 8 4)) s

section Opcode

variable {r : Ref} {p : Packet} {s : State} (h : opStarts 0x0B03 r p s = true)
include h

theorem exec_recipeActivate : exec (.recipeActivate r) s = .next (
    if (activationOf p s).status = stACCEPTED then done p stACCEPTED [] (activationOf p s).state
    else refuse p (activationOf p s).status (activationOf p s).off s) := congrArg Host.Outcome.next (runOp_starts h _)

theorem recipeActivate_refused {st : Half} {off : Nat} (hx : activationOf p s = notActivated st off s) (hst : st ≠ stACCEPTED) :
    exec (.recipeActivate r) s = .next (refuse p st off s) := by
  rw [exec_recipeActivate h, hx]
  exact congrArg Host.Outcome.next (if_neg hst)

end Opcode

theorem commitActivation_frame_self (inc old : Option Recipe) (issuer : Nat) (e : Long) (s : State) :
    Frame [.rcp] s (commitActivation inc old issuer e s) :=
  commitActivation_frame inc old issuer e s (List.Subset.refl _) (Frame.refl _ s)

/-- A second activation of the views of a pending one is refused (11 R535). -/
theorem activateFault_pending {s : State} {i : Recipe} (h : activationPending s i.image.views = true) (old : Option Recipe) :
    activateFault s (some i) old = some (stBUSY, noField) := by
  unfold activateFault
  exact (if_neg (by simp)).trans (if_pos h)

end Sys2Proof.Machine
end

section
/-! PROOFS. TELEGRAM, its result and its blocks; TOK_DICT_LOAD and TOK_SELECT_SET; and the statement on telegrams. -/

namespace Sys2Proof.Machine

open Sys2Proof

/-! ## Counters (11 R541, R543, R545) -/

/-- A telegram's counters: bytes, REPLs, truncations and late telegrams. -/
theorem countTelegram_ctr {s : State} (h : 3 < s.rcp.ctr.length) (t : Tokens) (trunc late : Bool) :
    getI (countTelegram t trunc late s).rcp.ctr 0 0 = satAdd (getI s.rcp.ctr 0 0) t.badBytes ∧
      getI (countTelegram t trunc late s).rcp.ctr 1 0 = satAdd (getI s.rcp.ctr 1 0) t.repls ∧
      getI (countTelegram t trunc late s).rcp.ctr 2 0 = satAdd (getI s.rcp.ctr 2 0) (b2n trunc) ∧
      getI (countTelegram t trunc late s).rcp.ctr 3 0 = satAdd (getI s.rcp.ctr 3 0) (b2n late) := by
  have hself {l : List Word} {i : Nat} (hi : i < l.length) (n : Nat) :
      getI (upd l i fun w => satAdd w n) i 0 = satAdd (getI l i 0) n := getI_upd_self l i _ 0 hi
  have hne {l : List Word} {i j : Nat} (hij : i ≠ j) (n : Nat) : getI (upd l i fun w => satAdd w n) j 0 = getI l j 0 :=
    getI_upd_ne l i j _ 0 hij
  have hlen {l : List Word} (i n : Nat) : (upd l i fun w => satAdd w n).length = l.length := List.length_modify ..
  simp only [countTelegram, bumpRcpN, State.setRcp_rcp]
  refine ⟨?_, ?_, ?_, ?_⟩
  · rw [hne (by decide), hne (by decide), hne (by decide), hself (by omega)]
  · rw [hne (by decide), hne (by decide), hself (by rw [hlen]; omega), hne (by decide)]
  · rw [hne (by decide), hself (by rw [hlen, hlen]; omega), hne (by decide), hne (by decide)]
  · rw [hself (by rw [hlen, hlen, hlen]; omega), hne (by decide), hne (by decide), hne (by decide)]

/-! ## What a selection and the giving of blocks leave (11 R547 to R549) -/

/-- From `s` to `t` the blocks of every recipe and the first four counters are as they were. -/
structure SameTokens (s t : State) : Prop where
  blocks : t.rcp.recipes.map (·.blocks) = s.rcp.recipes.map (·.blocks)
  ctr : ∀ i, i < 4 → getI t.rcp.ctr i 0 = getI s.rcp.ctr i 0

theorem SameTokens.of_rcp {s t : State} (h : t.rcp = s.rcp) : SameTokens s t := ⟨by rw [h], fun i _ => by rw [h]⟩
theorem SameTokens.refl (s : State) : SameTokens s s := .of_rcp rfl
theorem SameTokens.trans {s t u : State} (h : SameTokens s t) (k : SameTokens t u) : SameTokens s u :=
  ⟨k.blocks.trans h.blocks, fun i hi => (k.ctr i hi).trans (h.ctr i hi)⟩

theorem modRecipe_sameTokens (h : Nat) {f : Recipe → Recipe} (hf : ∀ r, (f r).blocks = r.blocks) (s : State) :
    SameTokens s (modRecipe h f s) := by
  refine ⟨?_, fun _ _ => rfl⟩
  simp only [modRecipe, State.setRcp_rcp, List.map_map]
  refine List.map_congr_left fun r _ => ?_
  rw [Function.comp_apply]
  split
  · exact hf r
  · rfl

theorem endingAt_sameTokens (alone : Bool) (old : Option Recipe) (issuer : Nat) (e : Long) (s : State) :
    SameTokens s (endingAt alone old issuer e s) := by
  cases old with
  | none => exact .refl s
  | some o => exact modRecipe_sameTokens o.handle (f := Recipe.ending alone issuer e) (fun _ => rfl) s

theorem commitActivation_sameTokens (inc old : Option Recipe) (issuer : Nat) (e : Long) (s : State) :
    SameTokens s (commitActivation inc old issuer e s) := by
  cases inc with
  | none =>
    rw [commitActivation_none]
    exact endingAt_sameTokens true old issuer e s
  | some i =>
    rw [commitActivation_some]
    exact (endingAt_sameTokens false old issuer e s).trans
      (modRecipe_sameTokens i.handle (f := Recipe.awaiting _ issuer e) (fun _ => rfl) _)

theorem activate_sameTokens (t issuer h outH : Nat) (now : Bool) (w : Word) (s : State) :
    SameTokens s (activate t issuer h outH now w s).state := by
  unfold activate
  dsimp only
  split
  · exact .refl s
  · exact .refl s
  · split
    · exact .refl s
    · split
      · exact .refl s
      · exact commitActivation_sameTokens ..

/-- A failed selection is counted in a counter of its own (11 R547). -/
theorem bumpSelfail_sameTokens (s : State) : SameTokens s (bumpRcp 4 s) :=
  ⟨rfl, fun i hi => getI_upd_ne s.rcp.ctr 4 i satInc 0 (by omega)⟩

theorem selectRecipe_sameTokens (p : Packet) (e : SelEntry) (views : Nat) (w : Word) (s : State) :
    SameTokens s (selectRecipe p e views w s).state := by
  unfold selectRecipe
  dsimp only
  split
  · exact .refl s
  · refine SameTokens.trans ?_ (.of_rcp (Frame.rcp_eq (noticeHolderAt_frame_self _ _ _ _ _) (by decide)))
    split
    · exact activate_sameTokens ..
    · exact bumpSelfail_sameTokens s

theorem giveBlocks_ctr (l : List (Recipe × Long)) (kept : List Nat) (s : State) :
    (giveBlocks l kept s).rcp.ctr = s.rcp.ctr := by
  induction l generalizing s with
  | nil => rfl
  | cons x l ih => exact ih _

theorem insertBlock_length (x : Long) (blk : List Nat) (l : List (Long × List Nat)) :
    (insertBlock x blk l).length ≤ l.length + 1 := by
  induction l with
  | nil => exact le_rfl
  | cons y l ih =>
    rw [insertBlock]
    split_ifs
    · exact Nat.le_succ _
    · exact le_rfl
    · exact Nat.succ_le_succ ih

/-- Each target adds a block at most. -/
theorem giveBlocks_blocks {k : Nat} {s : State} (h : ∀ x ∈ s.rcp.recipes, x.blocks.length ≤ k) (l : List (Recipe × Long))
    (kept : List Nat) : ∀ x ∈ (giveBlocks l kept s).rcp.recipes, x.blocks.length ≤ k + l.length := by
  induction l generalizing k s with
  | nil => exact h
  | cons y l ih =>
    have hone : ∀ x ∈ (modRecipe y.1.handle (fun q => { q with
        blocks := insertBlock y.2 (condBlock q.image.condN kept) q.blocks }) s).rcp.recipes, x.blocks.length ≤ k + 1 := by
      intro x hx
      obtain ⟨q, hq, rfl⟩ := List.mem_map.1 hx
      have hq := h q hq
      split
      · exact (insertBlock_length ..).trans (Nat.succ_le_succ hq)
      · omega
    intro x hx
    have := ih hone x hx
    rw [List.length_cons]
    omega

theorem condTargets_length (s : State) (views : Nat) (a : Long) : (condTargets s views a).length ≤ 4 :=
  (List.length_filterMap_le _ _).trans (List.length_filter_le _ (List.range 4))

theorem blocksFull_false {s : State} (h : ∀ x ∈ s.rcp.recipes, x.blocks.length ≤ 4) : blocksFull s = false := by
  rw [blocksFull, List.any_eq_false]
  exact fun x hx => by simpa using h x hx

theorem blocks_of_sameTokens {s t : State} (h : SameTokens s t) {k : Nat} (hs : ∀ x ∈ s.rcp.recipes, x.blocks.length ≤ k) :
    ∀ x ∈ t.rcp.recipes, x.blocks.length ≤ k := by
  intro x hx
  have hmem : x.blocks ∈ s.rcp.recipes.map (·.blocks) := h.blocks ▸ List.mem_map_of_mem hx
  obtain ⟨y, hy, he⟩ := List.mem_map.1 hmem
  exact he ▸ hs y hy

/-! ## The result (11 Table 11.9) -/

/-- The fields of a telegram's result, in their order. -/
def telegramFields (s : State) (t : Tokens) (kept : List Nat) (trunc late : Bool) (sel : Option Selection) (e : Long) : List Bytes :=
  [le2 kept.length, le2 (b2n trunc + 2 * b2n late + 4 * b2n sel.isSome), le2 t.badBytes, le2 t.repls,
    le4 ((sel.map (·.recipe)).getD 0), le2 ((sel.map (·.status.toNat)).getD 0), le2 0, le4 (low32 e).toNat,
    le4 ((s.rcp.dict.map (·.1)).getD 0), kept.flatMap le2]

section Result

variable (s : State) (t : Tokens) (kept : List Nat) (trunc late : Bool) (sel : Option Selection) (e : Long)

theorem telegramResult_eq :
    telegramResult s t kept trunc late sel e = (telegramFields s t kept trunc late sel e).flatten := by
  simp only [telegramFields, List.flatten_cons, List.flatten_nil, List.append_nil, ← List.append_assoc]
  rfl

theorem flatMap_le2_length (l : List Nat) : (l.flatMap le2).length = 2 * l.length := by
  simp [List.length_flatMap, Nat.mul_comm]

theorem telegramResult_length : (telegramResult s t kept trunc late sel e).length = 24 + 2 * kept.length := by
  rw [telegramResult_eq, telegramFields]
  simp only [List.flatten_cons, List.flatten_nil, List.length_append, List.length_nil, le2_length, le4_length, flatMap_le2_length]
  omega

/-- The result begins with COUNT and ends with the tokens kept. -/
theorem telegramResult_ends : (telegramResult s t kept trunc late sel e).take 2 = le2 kept.length ∧
    (telegramResult s t kept trunc late sel e).drop 24 = kept.flatMap le2 := by
  refine ⟨?_, List.drop_left' (by simp)⟩
  rw [telegramResult_eq, telegramFields, List.flatten_cons]
  exact List.take_left' (le2_length _)

theorem telegramResult_flags : fld (telegramResult s t kept trunc late sel e) 2 2 =
    b2n trunc + 2 * b2n late + 4 * b2n sel.isSome := by
  have htrunc := b2n_le_one trunc
  have hlate := b2n_le_one late
  have hsel := b2n_le_one sel.isSome
  rw [telegramResult_eq]
  exact (fld_flatten (i := 1) rfl).trans (leVal_le2 (by omega))

/-- TRUNC, LATE and SELECTED of a result. -/
theorem telegramFlags_bits (n : Nat) (late selects : Bool) : b2n (decide (256 < n)) + 2 * b2n late + 4 * b2n selects =
    (if 256 < n then 1 else 0) + (if late then 2 else 0) + (if selects then 4 else 0) := by
  by_cases hn : 256 < n <;> cases late <;> cases selects <;> simp [b2n, hn]

theorem telegramResult_recipe :
    fld (telegramResult s t kept trunc late sel e) 8 4 = ((sel.map (·.recipe)).getD 0) % 2 ^ 32 := by
  rw [telegramResult_eq]
  exact (fld_flatten (i := 4) rfl).trans (leVal_leBytes 4 _)

theorem telegramResult_status :
    fld (telegramResult s t kept trunc late sel e) 12 2 = (sel.map (·.status.toNat)).getD 0 := by
  rw [telegramResult_eq]
  refine (fld_flatten (i := 5) rfl).trans (leVal_le2 ?_)
  cases sel with
  | none => decide
  | some x => exact x.status.isLt

end Result

/-! ## TELEGRAM (11 R540 to R549) -/

section Telegram

variable {r : Ref} {p : Packet} {s : State} (h : opStarts 0x0B12 r p s = true)
include h

theorem exec_telegram : exec (.telegram r) s = .next (
    if 3 < fld p.params 0 1 then refuse p stBAD_PARAM 0x20 s
    else if fld p.params 8 2 < 1 ∨ 1024 < fld p.params 8 2 ∨ p.params.length ≠ 16 + fld p.params 8 2 then refuse p stBAD_LENGTH 0x0A s
    else if !inHorizon s (BitVec.ofNat 32 (fld p.params 4 4)) then refuse p stREFUSED_HORIZON 0x24 s
    else takeTelegram p s) := congrArg Host.Outcome.next (runOp_starts h _)

end Telegram

section InOrder

variable (p : Packet) (s : State)

/-- The tokens of a telegram's text under the dictionary loaded. -/
def telegramTokens : Tokens := tokenise ((s.rcp.dict.map (·.2)).getD []) (fld p.params 8 2) (p.params.drop 16)

def telegramKept : List Nat := (telegramTokens p s).tokens.take 256

def telegramTrunc : Bool := decide (256 < (telegramTokens p s).tokens.length)

/-- The HWM has reached the telegram's boundary (11 R545). -/
def telegramLate : Bool := reached s (expand s (BitVec.ofNat 32 (fld p.params 4 4)))

/-- A, or the next position-window boundary of a late telegram. -/
def telegramAt : Long :=
  if telegramLate p s then boundaryAfter s.pos.shift s.pos.hwm else expand s (BitVec.ofNat 32 (fld p.params 4 4))

/-- The telegram is counted. -/
def telegramCounted : State := countTelegram (telegramTokens p s) (telegramTrunc p s) (telegramLate p s) s

/-- Its selection, if it makes one (11 R547). -/
def telegramSelection : Option Selection :=
  if bit (fld p.params 1 1) 0 then
    (selected s (fld p.params 0 1) (fld p.params 2 1) (telegramKept p s)).map fun e =>
      selectRecipe p e (fld p.params 2 1) (BitVec.ofNat 32 (fld p.params 4 4)) (telegramCounted p s)
  else none

def telegramSelected : State := ((telegramSelection p s).map (·.state)).getD (telegramCounted p s)

/-- Where its blocks go (11 R548). -/
def telegramTargets : List (Recipe × Long) :=
  if bit (fld p.params 1 1) 1 then condTargets (telegramSelected p s) (fld p.params 2 1) (telegramAt p s) else []

def telegramGiven : State := giveBlocks (telegramTargets p s) (telegramKept p s) (telegramSelected p s)

/-- E of the result: of the switch, or of the conditioning row. -/
def telegramE : Long := (((telegramSelection p s).bind (·.e)).or ((telegramTargets p s).head?.map (·.2))).getD 0

theorem takeTelegram_eq : takeTelegram p s =
    if blocksFull (telegramGiven p s) then refuse p stBUSY noField s
    else ok p (telegramResult s (telegramTokens p s) (telegramKept p s) (telegramTrunc p s) (telegramLate p s)
      (telegramSelection p s) (telegramE p s)) (telegramGiven p s) := rfl

theorem telegramSelected_sameTokens : SameTokens (telegramCounted p s) (telegramSelected p s) := by
  unfold telegramSelected telegramSelection
  split
  · cases selected s (fld p.params 0 1) (fld p.params 2 1) (telegramKept p s) with
    | none => exact .refl _
    | some e => exact selectRecipe_sameTokens ..
  · exact .refl _

/-- Neither the selection nor the blocks change the telegram's counters. -/
theorem telegramGiven_ctr {i : Nat} (hi : i < 4) :
    getI (telegramGiven p s).rcp.ctr i 0 = getI (telegramCounted p s).rcp.ctr i 0 := by
  rw [telegramGiven, giveBlocks_ctr, (telegramSelected_sameTokens p s).ctr i hi]

/-- TOK_BADBYTES, TOK_REPLS, TOK_TRUNC and TOK_LATE after a telegram. -/
theorem telegramGiven_counts (h : 3 < s.rcp.ctr.length) :
    getI (telegramGiven p s).rcp.ctr 0 0 = satAdd (getI s.rcp.ctr 0 0) (telegramTokens p s).badBytes ∧
      getI (telegramGiven p s).rcp.ctr 1 0 = satAdd (getI s.rcp.ctr 1 0) (telegramTokens p s).repls ∧
      getI (telegramGiven p s).rcp.ctr 2 0 =
        satAdd (getI s.rcp.ctr 2 0) (if 256 < (telegramTokens p s).tokens.length then 1 else 0) ∧
      getI (telegramGiven p s).rcp.ctr 3 0 = satAdd (getI s.rcp.ctr 3 0) (if telegramLate p s then 1 else 0) := by
  have hcounted := countTelegram_ctr h (telegramTokens p s) (telegramTrunc p s) (telegramLate p s)
  rw [b2n, b2n, telegramTrunc] at hcounted
  simp only [decide_eq_true_eq] at hcounted
  rw [telegramGiven_ctr p s (by decide), telegramGiven_ctr p s (by decide), telegramGiven_ctr p s (by decide),
    telegramGiven_ctr p s (by decide)]
  exact hcounted

/-- The blocks that wait before any is given: those that waited when the telegram came. -/
theorem telegramSelected_blocks {k : Nat} (hs : ∀ x ∈ s.rcp.recipes, x.blocks.length ≤ k) :
    ∀ x ∈ (telegramSelected p s).rcp.recipes, x.blocks.length ≤ k :=
  blocks_of_sameTokens (s := telegramCounted p s) (telegramSelected_sameTokens p s) hs

/-- A telegram without conditioning gives no block. -/
theorem telegramGiven_unconditioned (hcond : bit (fld p.params 1 1) 1 = false) (hs : ∀ x ∈ s.rcp.recipes, x.blocks.length ≤ 4) :
    blocksFull (telegramGiven p s) = false := by
  have htargets : telegramTargets p s = [] := if_neg (by rw [hcond]; exact Bool.false_ne_true)
  rw [telegramGiven, htargets]
  exact blocksFull_false (telegramSelected_blocks p s hs)

/-- Four views give four blocks at most. -/
theorem telegramGiven_fresh (hs : ∀ x ∈ s.rcp.recipes, x.blocks = []) : blocksFull (telegramGiven p s) = false := by
  have htargets : (telegramTargets p s).length ≤ 4 := by
    unfold telegramTargets
    split
    · exact condTargets_length ..
    · exact Nat.zero_le _
  have hnone : ∀ x ∈ (telegramSelected p s).rcp.recipes, x.blocks.length ≤ 0 :=
    telegramSelected_blocks p s fun x hx => by rw [hs x hx]; exact le_rfl
  refine blocksFull_false fun x hx => (giveBlocks_blocks hnone _ _ x hx).trans ?_
  omega

end InOrder

/-! ## TOK_DICT_LOAD (11 R537, R538) -/

section DictLoad

variable {r : Ref} {p : Packet} {poisoned : Bool} {s : State} (h : opStarts 0x0B10 r p s = true)
include h

theorem tokDictLoad_unread {st : Half} {off : Nat}
    (hb : ingotBytes p (fld p.params 0 8) (fld p.params 8 4) 0x20 poisoned s = .inl (st, off)) :
    exec (.tokDictLoad ⟨r, poisoned⟩) s = .next (refuse p st off s) := by
  refine congrArg Host.Outcome.next ((runOp_starts h _).trans ?_)
  dsimp only
  rw [hb]

theorem tokDictLoad_bad {b : Bytes} (hb : ingotBytes p (fld p.params 0 8) (fld p.params 8 4) 0x20 poisoned s = .inr b) {i : Nat}
    (hi : readDict b = .inl i) : exec (.tokDictLoad ⟨r, poisoned⟩) s = .next (refuse p stBAD_PARAM i s) := by
  refine congrArg Host.Outcome.next ((runOp_starts h _).trans ?_)
  dsimp only
  rw [hb]
  dsimp only
  rw [hi]

theorem tokDictLoad_read {b : Bytes} (hb : ingotBytes p (fld p.params 0 8) (fld p.params 8 4) 0x20 poisoned s = .inr b)
    {d : Nat × List Bytes} (hd : readDict b = .inr d) : exec (.tokDictLoad ⟨r, poisoned⟩) s = .next (
      if dictBound s d.1 then refuse p stDENIED noField s else ok p [] (s.setRcp { s.rcp with dict := some d })) := by
  refine congrArg Host.Outcome.next ((runOp_starts h _).trans ?_)
  dsimp only
  rw [hb]
  dsimp only
  rw [hd]

end DictLoad

/-! ## TOK_SELECT_SET (11 R546) -/

/-- The first element of a list on which `f` answers. -/
theorem findSome?_range_mapIdx {α β : Type} (f : Nat → α → Option β) (g : Nat → α) (n : Nat) :
    (((List.range n).map g).mapIdx f).findSome? id = (List.range n).findSome? fun i => f i (g i) := by
  have hl : ((List.range n).map g).mapIdx f = (List.range n).map fun i => f i (g i) := by
    refine List.ext_getElem (by simp) fun i h1 h2 => by simp
  rw [hl, List.findSome?_map]
  rfl

theorem findSome?_range_first {β : Type} {f : Nat → Option β} {n i : Nat} {y : β} (hi : i < n) (hy : f i = some y)
    (hbefore : ∀ j, j < i → f j = none) : (List.range n).findSome? f = some y := by
  obtain ⟨k, rfl⟩ := Nat.exists_eq_add_of_lt hi
  rw [Nat.add_assoc, List.range_add, List.findSome?_append, List.findSome?_eq_none_iff.2 fun j hj => hbefore j (List.mem_range.1 hj),
    Option.none_or, List.findSome?_map, List.range_succ_eq_map, List.findSome?_cons, Function.comp_apply, Nat.add_zero, hy]

section SelectSet

variable {r : Ref} {p : Packet} {s : State} (h : opStarts 0x0B11 r p s = true) (hlen : p.params.length = 4 + 8 * fld p.params 0 2)
include h hlen

theorem tokSelectSet_bad {off : Nat}
    (hfound : ((List.range (fld p.params 0 2)).findSome? fun i => selFault s i (selEntry p.params i)) = some off) :
    exec (.tokSelectSet r) s = .next (refuse p stBAD_PARAM off s) := by
  refine congrArg Host.Outcome.next ((runOp_starts h _).trans ?_)
  dsimp only
  rw [if_neg (not_not.2 hlen), findSome?_range_mapIdx, hfound]

theorem tokSelectSet_good
    (hfound : ((List.range (fld p.params 0 2)).findSome? fun i => selFault s i (selEntry p.params i)) = none) :
    exec (.tokSelectSet r) s =
      .next (ok p [] (s.setRcp { s.rcp with select := (List.range (fld p.params 0 2)).map (selEntry p.params) })) := by
  refine congrArg Host.Outcome.next ((runOp_starts h _).trans ?_)
  dsimp only
  rw [if_neg (not_not.2 hlen), findSome?_range_mapIdx, hfound]

end SelectSet

/-! ## The statement -/

/-- Settles O53: the tokeniser by induction on its fuel, the head of a string by RFC 3629's encodings, and TELEGRAM by what its
selection and its blocks leave of the counters and of the blocks that wait. -/
theorem telegramsBecomeTokens : Obligations.TelegramsBecomeTokens := by
  unfold Obligations.TelegramsBecomeTokens
  refine ⟨fun b => tokenise_bytes le_rfl, fun dict b => count_repl_tokenise dict _ b,
    fun b h => tokenise_wellFormed le_rfl (beq_iff_eq.1 h), fun b => utf8Ok_ascii, fun c rest h => utf8Head_utf8Of h rest,
    fun b n h => utf8Of_of_utf8Head h, fun b n hb h => ?illFormed, fun r p s h => ?telegram, fun r p poisoned s h => ?dict,
    fun r p s h => ?select⟩
  case illFormed =>
    have hbounds := utf8Head_bounds hb
    rw [h] at hbounds
    exact ⟨hbounds.1, hbounds.2, illFormed_maximal hb h⟩
  case telegram =>
    refine ⟨fun hkind => ?_, fun hkind hlen => ?_, fun hkind hlo hhi hlen hin => ?_, fun hkind hlo hhi hlen hin => ?_⟩
    · rw [exec_telegram h, if_pos hkind]
    · rw [exec_telegram h, if_neg (by omega), if_pos hlen]
    · rw [exec_telegram h, if_neg (by omega), if_neg (by omega), if_pos (by simp [hin])]
    · have htake : exec (.telegram r) s = .next (takeTelegram p s) := by
        rw [exec_telegram h, if_neg (by omega), if_neg (by omega), if_neg (by simp [hin])]
      rw [takeTelegram_eq] at htake
      refine ⟨fun hfull => htake.trans (congrArg _ (if_pos hfull)), fun hfree => ⟨_, htake.trans (congrArg _ (if_neg ?_)),
        telegramResult_length .., (telegramResult_ends ..).1, (telegramResult_flags ..).trans (telegramFlags_bits ..),
        telegramResult_recipe .., telegramResult_status .., (telegramResult_ends ..).2, telegramGiven_counts p s⟩, ?_⟩
      · exact ne_true_of_eq_false hfree
      · rintro (⟨hcond, hs⟩ | hs)
        · exact telegramGiven_unconditioned p s hcond hs
        · exact telegramGiven_fresh p s hs
  case dict =>
    refine ⟨fun st off hb => tokDictLoad_unread h hb, fun b hb => ⟨fun i hi => tokDictLoad_bad h hb hi, fun d hd hbound => ?_,
      fun d hd hbound => ?_⟩⟩
    · rw [tokDictLoad_read h hb hd, if_pos hbound]
    · rw [tokDictLoad_read h hb hd, hbound]
      rfl
  case select =>
    refine ⟨fun hlen => ?_, fun i off hlen hi hoff hbefore => ?_, fun hlen hnone => ?_⟩
    · refine congrArg Host.Outcome.next ((runOp_starts h _).trans ?_)
      exact if_pos hlen
    · exact tokSelectSet_bad h hlen (findSome?_range_first hi hoff hbefore)
    · exact tokSelectSet_good h hlen (List.findSome?_eq_none_iff.2 fun i hi => hnone i (List.mem_range.1 hi))

end Sys2Proof.Machine
end

section
/-! PROOFS. RECIPE_SWITCH at E, checkpoints, RCP_STATUS, and the statement on recipes. -/

namespace Sys2Proof.Machine

open Sys2Proof

/-! ## What opening parts leaves of a recipe (09 R434) -/

theorem findRecipe_modRecipe_some {s : State} {h : Nat} {r : Recipe} (hr : findRecipe s h = some r) {f : Recipe → Recipe}
    (hf : ∀ x, (f x).handle = x.handle) : findRecipe (modRecipe h f s) h = some (f r) :=
  (findRecipe_modRecipe h s hf).trans (congrArg (Option.map f) hr)

/-- The recipe has opened `k` more parts. -/
def Recipe.openedMore (k : Nat) (r : Recipe) : Recipe := { r with nextPart := r.nextPart + k }

theorem openStrip_recipe {s : State} {k : Nat} {r : Recipe} (h : findRecipe s k = some r) (x : Recipe) :
    ∃ n, findRecipe (openStrip x s) k = some { r with nextPart := n } := by
  unfold openStrip
  split
  · exact ⟨r.nextPart, h⟩
  · dsimp only
    rcases eq_or_ne k x.handle with rfl | hne
    · exact ⟨_, findRecipe_modRecipe_some (s := s.setHm _) h (f := Recipe.openedMore (stripDue s x).length) fun _ => rfl⟩
    · exact ⟨r.nextPart, (findRecipe_modRecipe_ne hne (s.setHm _) (f := Recipe.openedMore (stripDue s x).length) fun _ => rfl).trans h⟩

/-- The parts that the HWM has reached are opened: of a recipe only its next part number moves on. -/
theorem openAll_recipe {s : State} {k : Nat} {r : Recipe} (h : findRecipe s k = some r) (l : List Recipe) :
    ∃ n, findRecipe (openAll l s) k = some { r with nextPart := n } := by
  induction l generalizing s r with
  | nil => exact ⟨r.nextPart, h⟩
  | cons x l ih =>
    obtain ⟨n, hn⟩ := openStrip_recipe h x
    obtain ⟨m, hm⟩ := ih hn
    exact ⟨m, hm⟩

theorem openParts_recipe {s : State} {k : Nat} {r : Recipe} (h : findRecipe s k = some r) :
    ∃ n, findRecipe (openParts s) k = some { r with nextPart := n } := openAll_recipe h _

theorem openParts_frame_self (s : State) : Frame [.hm, .rcp] s (openParts s) :=
  openParts_frame s (List.Subset.refl _) (Frame.refl _ s)

theorem openParts_led (s : State) : (openParts s).led = s.led := (openParts_frame_self s).led_eq (by decide)

/-! ## The outgoing recipe is switched away (11 R532) -/

/-- The recipe is switched away. -/
def Recipe.switchedAway (r : Recipe) : Recipe := { r with state := .outgoing }

theorem switchAway_led (h : Nat) (s : State) : (switchAway h s).led = s.led :=
  (switchAway_frame h s (List.Subset.refl _) (Frame.refl _ s)).led_eq (by decide)

theorem switchAway_fab (h : Nat) (s : State) : (switchAway h s).fab = s.fab :=
  (switchAway_frame h s (List.Subset.refl _) (Frame.refl _ s)).fab_eq (by decide)

theorem switchAway_other {h k : Nat} (hk : k ≠ h) (s : State) : findRecipe (switchAway h s) k = findRecipe s k := by
  unfold switchAway
  split
  · split
    · exact findRecipe_modRecipe_ne hk s (f := Recipe.switchedAway) fun _ => rfl
    · rfl
  · rfl

theorem switchAway_active {s : State} {h : Nat} {o : Recipe} (ho : findRecipe s h = some o) (hstate : o.state = .active)
    (hheld : recipeHeld s h = true) : findRecipe (switchAway h s) h = some o.switchedAway := by
  unfold switchAway
  rw [ho]
  dsimp only
  rw [if_pos ⟨hstate, hheld⟩]
  exact findRecipe_modRecipe_some ho (f := Recipe.switchedAway) fun _ => rfl

theorem switchAway_idle {s : State} {h : Nat} {o : Recipe} (ho : findRecipe s h = some o) (hstate : o.state ≠ .active) :
    switchAway h s = s := by
  unfold switchAway
  rw [ho]
  exact if_neg fun hc => hstate hc.1

/-! ## The outgoing recipe's last verdict (11 R533, Table 11.5) -/

/-- The recipe is held again, and keeps no blocks. -/
def Recipe.rested (r : Recipe) : Recipe := { r with state := .held, endAt := none, blocks := [], block := [] }

/-- Nothing of the recipe is left to judge. -/
def judgedOut (h : Nat) (s : State) : Prop := ∀ q ∈ s.hm.parts, q.recipe = h → q.issued = true

theorem judgedOut_iff {h : Nat} {s : State} :
    (s.hm.parts.any fun p => p.recipe == h && !p.issued) = false ↔ judgedOut h s := by
  simp [judgedOut]

theorem outgoingDone_hm (h : Nat) (s : State) : (outgoingDone h s).hm = s.hm :=
  (outgoingDone_frame h s (List.Subset.refl _) (Frame.refl _ s)).hm_eq (by decide)

theorem noticeActive_frame_self (tenant handle code : Nat) (e : Word) (s : State) :
    Frame [.emitted, .host, .kw, .fab, .flt] s (noticeActive tenant handle code e s) := noticeHolderAt_frame_self _ _ _ _ s

theorem noticeActive_led (tenant handle code : Nat) (e : Word) (s : State) : (noticeActive tenant handle code e s).led = s.led :=
  Frame.led_eq (noticeActive_frame_self tenant handle code e s) (by decide)

theorem noticeActive_hm (tenant handle code : Nat) (e : Word) (s : State) : (noticeActive tenant handle code e s).hm = s.hm :=
  Frame.hm_eq (noticeActive_frame_self tenant handle code e s) (by decide)

theorem findRecipe_noticeActive (tenant handle code : Nat) (e : Word) (s : State) (k : Nat) :
    findRecipe (noticeActive tenant handle code e s) k = findRecipe s k :=
  findRecipe_congr (by rw [(noticeActive_frame_self tenant handle code e s).rcp_eq (by decide)]) k

theorem recipeHeld_noticeActive (tenant handle code : Nat) (e : Word) (s : State) (k : Nat) :
    recipeHeld (noticeActive tenant handle code e s) k = recipeHeld s k :=
  recipeHeld_congr (noticeActive_led tenant handle code e s) k

theorem outgoingDone_other {h k : Nat} (hk : k ≠ h) (s : State) : findRecipe (outgoingDone h s) k = findRecipe s k := by
  unfold outgoingDone
  split
  · split
    · rw [findRecipe_noticeActive]
      exact findRecipe_modRecipe_ne hk s (f := Recipe.rested) fun _ => rfl
    · rfl
  · rfl

section Outgoing

variable {s : State} {h : Nat} {o : Recipe} (ho : findRecipe s h = some o)
include ho

theorem outgoingDone_idle (hstate : o.state ≠ .outgoing) : outgoingDone h s = s := by
  unfold outgoingDone
  rw [ho]
  exact if_neg fun hc => hstate hc.1

/-- An outgoing recipe is held once nothing of it is left to judge, and outgoing until then. -/
theorem outgoingDone_outgoing (hstate : o.state = .outgoing) (hheld : recipeHeld s h = true) :
    ∃ x, findRecipe (outgoingDone h s) h = some x ∧ (x.state = .outgoing ∨ x.state = .held) ∧
      (x.state = .outgoing ↔ ∃ q ∈ (outgoingDone h s).hm.parts, q.recipe = h ∧ q.issued = false) := by
  rw [outgoingDone_hm]
  have hleft : (∃ q ∈ s.hm.parts, q.recipe = h ∧ q.issued = false) ↔ ¬ judgedOut h s := by simp [judgedOut]
  rw [hleft]
  unfold outgoingDone
  rw [ho]
  dsimp only
  by_cases hj : judgedOut h s
  · rw [if_pos ⟨hstate, hheld, judgedOut_iff.2 hj⟩, findRecipe_noticeActive]
    refine ⟨o.rested, ?_, .inr rfl, iff_of_false (fun hx => nomatch hx) (not_not.2 hj)⟩
    exact findRecipe_modRecipe_some ho (f := Recipe.rested) fun _ => rfl
  · rw [if_neg fun hc => hj (judgedOut_iff.1 hc.2.2)]
    exact ⟨o, ho, .inl hstate, iff_of_true hstate hj⟩

end Outgoing

/-! ## The benches of a recipe (11 Table 11.5) -/

/-- Recipe and state of bench `b`. -/
def benchRole (s : State) (b : Nat) : Option (Nat × BenchState) := s.fab.bench[b]?.map fun x => (x.recipe, x.state)

theorem benchRole_congr {s t : State} (h : t.fab = s.fab) (b : Nat) : benchRole t b = benchRole s b := by
  rw [benchRole, benchRole, h]

theorem benchRole_eq {s : State} {b : Nat} (hb : b < s.fab.bench.length) :
    benchRole s b = some ((benchOf s b).recipe, (benchOf s b).state) := by
  rw [benchRole, benchOf, getI, List.getD_eq_getElem _ _ hb, List.getElem?_eq_getElem hb]
  rfl

theorem SameBenches.benchRole {s t : State} (h : SameBenches s t) (b : Nat) : benchRole t b = benchRole s b := by
  by_cases hb : b < s.fab.bench.length
  · rw [benchRole_eq hb, benchRole_eq (h.count ▸ hb), h.read Bench.recipe (fun _ => rfl), h.read Bench.state fun _ => rfl]
  · have hcount := h.count
    rw [Machine.benchRole, Machine.benchRole, List.getElem?_eq_none (l := s.fab.bench) (by omega),
      List.getElem?_eq_none (l := t.fab.bench) (by omega)]

theorem noticeActive_sameBenches (tenant handle code : Nat) (e : Word) (s : State) :
    SameBenches s (noticeActive tenant handle code e s) := noticeHolderAt_sameBenches ..

theorem benchRole_disarm {s : State} {h k b : Nat} (hk : k ≠ h) {x : BenchState} (hb : benchRole s b = some (k, x)) :
    benchRole (disarm h s) b = some (k, x) := by
  obtain ⟨y, hy, hrole⟩ := Option.map_eq_some_iff.1 hb
  cases hrole
  simp [benchRole, disarm, hy, hk]

/-- The end of another recipe's work leaves a recipe's benches alone. -/
theorem outgoingDone_benchRole {s : State} {h k b : Nat} (hk : k ≠ h) {x : BenchState} (hb : benchRole s b = some (k, x)) :
    benchRole (outgoingDone h s) b = some (k, x) := by
  unfold outgoingDone
  split
  · split
    · rw [(noticeActive_sameBenches ..).benchRole]
      exact benchRole_disarm (s := modRecipe _ _ s) hk hb
    · exact hb
  · exact hb

/-! ## The incoming recipe becomes ACTIVE (11 R532) -/

/-- The recipe as it becomes ACTIVE at E: it counts its parts afresh. -/
def Recipe.activated (r : Recipe) (now : Nat) (x : Recipe) : Recipe :=
  { x with
    state := .active, activeFrom := r.switchAt, origin := if r.image.model = 0 then r.switchAt else x.origin, nextPart := 0
    lastEdge := none, endAt := none, lastCkpt := now }

theorem becomeActive_recipe {r x : Recipe} {s : State} (hx : findRecipe s r.handle = some x) :
    findRecipe (becomeActive r s) r.handle = some (r.activated s.now x) :=
  findRecipe_modRecipe_some (s := s.setHm _) hx (f := Recipe.activated r s.now) fun _ => rfl

theorem becomeActive_other {r : Recipe} {k : Nat} (hk : k ≠ r.handle) (s : State) :
    findRecipe (becomeActive r s) k = findRecipe s k :=
  findRecipe_modRecipe_ne hk (s.setHm _) (f := Recipe.activated r s.now) fun _ => rfl

theorem becomeActive_led (r : Recipe) (s : State) : (becomeActive r s).led = s.led := rfl

/-- The parts of an earlier activation are dropped. -/
theorem becomeActive_parts (r : Recipe) (s : State) : ∀ q ∈ (becomeActive r s).hm.parts, q.recipe ≠ r.handle := by
  intro q hq
  simpa using (List.mem_filter.1 hq).2

/-- A built inspection bench of the recipe is armed. -/
theorem becomeActive_benchRole {r : Recipe} {s : State} {b : Nat} {y : Bench} (hy : s.fab.bench[b]? = some y)
    (hrec : y.recipe = r.handle) (hbuilt : y.state = .built) (htemper : y.temper = false) :
    benchRole (becomeActive r s) b = some (r.handle, .armed) := by
  simp [benchRole, becomeActive, arm, modRecipe, hy, hrec, hbuilt, htemper]

/-! ## RECIPE_SWITCH (11 R532 to R534) -/

/-- Every part reached is opened, the outgoing recipe is switched away, and the incoming one becomes ACTIVE. -/
def switchedIn (r : Recipe) (s : State) : State := becomeActive r (switchAway r.outgoing (openParts s))

/-- A pending activation whose E is reached. -/
def takenOver (r : Recipe) (s : State) : State :=
  outgoingDone r.outgoing (noticeActive r.tenant r.handle 0 (low32 r.switchAt) (switchedIn r s))

/-- A deactivation whose E is reached. -/
def takenOut (r : Recipe) (e : Long) (s : State) : State :=
  outgoingDone r.handle (noticeActive r.issuer 0 0 (low32 e) (switchAway r.handle (openParts s)))

theorem exec_recipeSwitch_inert {h : Nat} {s : State} (hc : findRecipe s h = none ∨ domOn s 2 = false ∨ recipeHeld s h = false) :
    exec (.recipeSwitch h) s = .next s := by
  refine congrArg Host.Outcome.next ?_
  dsimp only
  split
  · rfl
  next r hr =>
    refine if_pos ?_
    rcases hc with hc | hc | hc
    · exact absurd (hr.symm.trans hc) (by simp)
    · simp [hc]
    · simp [hc]

section Switch

variable {s : State} {h : Nat} {r : Recipe} (hr : findRecipe s h = some r) (hon : domOn s 2 = true) (hheld : recipeHeld s h = true)
include hr hon hheld

theorem exec_recipeSwitch_pending (hstate : r.state = .pending) :
    exec (.recipeSwitch h) s = .next (if reached s r.switchAt then takenOver r s else s) := by
  cases findRecipe_handle hr
  refine congrArg Host.Outcome.next ?_
  dsimp only
  rw [hr]
  dsimp only
  rw [if_neg (by simp [hon, hheld]), if_pos hstate]
  rfl

theorem exec_recipeSwitch_ending (hstate : r.state ≠ .pending) {e : Long} (he : r.endAt = some e) :
    exec (.recipeSwitch h) s = .next (
      if r.state = .active ∧ reached s e ∧ (s.rcp.recipes.any fun x => x.state == .pending && x.outgoing == h) = false
      then takenOut r e s else s) := by
  cases findRecipe_handle hr
  refine congrArg Host.Outcome.next ?_
  dsimp only
  rw [hr]
  dsimp only
  rw [if_neg (by simp [hon, hheld]), if_neg hstate, he]
  rfl

theorem exec_recipeSwitch_staying (hstate : r.state ≠ .pending) (he : r.endAt = none) : exec (.recipeSwitch h) s = .next s := by
  refine congrArg Host.Outcome.next ?_
  dsimp only
  rw [hr]
  dsimp only
  rw [if_neg (by simp [hon, hheld]), if_neg hstate, he]

/-- Nothing happens before E, and nothing to a recipe that is neither pending nor to end. -/
theorem exec_recipeSwitch_resting (hstate : r.state = .held ∨ r.state = .outgoing ∨ (r.state = .active ∧ r.endAt = none)) :
    exec (.recipeSwitch h) s = .next s := by
  have hpending : r.state ≠ .pending := by rcases hstate with hx | hx | ⟨hx, _⟩ <;> simp [hx]
  cases he : r.endAt with
  | none => exact exec_recipeSwitch_staying hr hon hheld hpending he
  | some e =>
    have hactive : r.state ≠ .active := by
      rcases hstate with hx | hx | ⟨_, hx⟩
      · simp [hx]
      · simp [hx]
      · exact absurd (he.symm.trans hx) (by simp)
    rw [exec_recipeSwitch_ending hr hon hheld hpending he, if_neg fun hc => hactive hc.1]

end Switch

theorem takenOver_parts (r : Recipe) (s : State) : ∀ q ∈ (takenOver r s).hm.parts, q.recipe ≠ r.handle := by
  rw [takenOver, outgoingDone_hm, noticeActive_hm]
  exact becomeActive_parts r _

theorem switchedIn_led (r : Recipe) (s : State) : (switchedIn r s).led = s.led := by
  rw [switchedIn, becomeActive_led, switchAway_led, openParts_led]

/-- The recipe that the incoming one takes over from is outgoing, and HELD once nothing of it is left to judge. -/
theorem takenOver_outgoing {s : State} {r o : Recipe} (hne : r.outgoing ≠ r.handle) (ho : findRecipe s r.outgoing = some o)
    (hactive : o.state = .active) (hheld : recipeHeld s r.outgoing = true) :
    (findRecipe (takenOver r s) r.outgoing).map (·.state) = some .outgoing ∨
      (findRecipe (takenOver r s) r.outgoing).map (·.state) = some .held := by
  obtain ⟨n, hn⟩ := openParts_recipe ho
  have hopened : recipeHeld (openParts s) r.outgoing = true :=
    (recipeHeld_congr (openParts_led s) _).trans hheld
  have haway := switchAway_active hn hactive hopened
  have hin : findRecipe (noticeActive r.tenant r.handle 0 (low32 r.switchAt) (switchedIn r s)) r.outgoing = _ :=
    (findRecipe_noticeActive ..).trans ((becomeActive_other hne _).trans haway)
  have hstill := (recipeHeld_noticeActive r.tenant r.handle 0 (low32 r.switchAt) (switchedIn r s) r.outgoing).trans
    ((recipeHeld_congr (switchedIn_led r s) r.outgoing).trans hheld)
  obtain ⟨x, hx, hstate, -⟩ := outgoingDone_outgoing hin rfl hstill
  rw [takenOver, hx]
  exact hstate.imp (congrArg some) (congrArg some)

section TakenOver

variable {s : State} {r : Recipe} (hr : findRecipe s r.handle = some r) (hpending : r.state = .pending)
include hr hpending

/-- The incoming recipe is not switched away, were it named as the outgoing one. -/
theorem switchAway_incoming : ∃ n, findRecipe (switchAway r.outgoing (openParts s)) r.handle = some { r with nextPart := n } := by
  obtain ⟨n, hn⟩ := openParts_recipe hr
  refine ⟨n, ?_⟩
  rcases eq_or_ne r.handle r.outgoing with heq | hne
  · have hidle : switchAway r.outgoing (openParts s) = openParts s := heq ▸ switchAway_idle hn (by simp [hpending])
    rwa [hidle]
  · rw [switchAway_other hne, hn]

theorem findRecipe_announced : ∃ now n,
    findRecipe (noticeActive r.tenant r.handle 0 (low32 r.switchAt) (switchedIn r s)) r.handle =
      some (r.activated now { r with nextPart := n }) := by
  obtain ⟨n, hn⟩ := switchAway_incoming hr hpending
  exact ⟨_, n, (findRecipe_noticeActive ..).trans (becomeActive_recipe hn)⟩

/-- A recipe that names itself as the outgoing one is ACTIVE by then, and its work does not end. -/
theorem takenOver_self (heq : r.handle = r.outgoing) :
    takenOver r s = noticeActive r.tenant r.handle 0 (low32 r.switchAt) (switchedIn r s) := by
  obtain ⟨now, n, hx⟩ := findRecipe_announced hr hpending
  exact (congrArg (outgoingDone · _) heq.symm).trans (outgoingDone_idle hx (by simp [Recipe.activated]))

/-- The end of the outgoing recipe's work leaves the incoming one alone. -/
theorem takenOver_recipe : ∃ now n, findRecipe (takenOver r s) r.handle = some (r.activated now { r with nextPart := n }) := by
  obtain ⟨now, n, hx⟩ := findRecipe_announced hr hpending
  refine ⟨now, n, ?_⟩
  rcases eq_or_ne r.handle r.outgoing with heq | hne
  · rw [takenOver_self hr hpending heq, hx]
  · rw [takenOver, outgoingDone_other hne, hx]

/-- The built inspection benches of the incoming recipe are armed. -/
theorem takenOver_benches {b : Nat} {y : Bench} (hy : s.fab.bench[b]? = some y) (hrec : y.recipe = r.handle)
    (hbuilt : y.state = .built) (htemper : y.temper = false) : ((takenOver r s).fab.bench[b]?).map (·.state) = some .armed := by
  have hfab : (switchAway r.outgoing (openParts s)).fab = s.fab :=
    (switchAway_fab _ _).trans ((openParts_frame_self s).fab_eq (by decide))
  have harmed : benchRole (noticeActive r.tenant r.handle 0 (low32 r.switchAt) (switchedIn r s)) b = some (r.handle, .armed) :=
    ((noticeActive_sameBenches ..).benchRole b).trans (becomeActive_benchRole (hfab ▸ hy) hrec hbuilt htemper)
  have hrole : benchRole (takenOver r s) b = some (r.handle, .armed) := by
    rcases eq_or_ne r.handle r.outgoing with heq | hne
    · rw [takenOver_self hr hpending heq, harmed]
    · exact outgoingDone_benchRole hne harmed
  have hstate := congrArg (Option.map Prod.snd) hrole
  rwa [benchRole, Option.map_map] at hstate

end TakenOver

/-- A deactivated recipe is outgoing, and HELD once nothing of it is left to judge. -/
theorem takenOut_recipe {s : State} {r : Recipe} (hr : findRecipe s r.handle = some r) (hactive : r.state = .active)
    (hheld : recipeHeld s r.handle = true) (e : Long) :
    ∃ x, findRecipe (takenOut r e s) r.handle = some x ∧ (x.state = .outgoing ∨ x.state = .held) ∧
      (x.state = .outgoing ↔ ∃ q ∈ (takenOut r e s).hm.parts, q.recipe = r.handle ∧ q.issued = false) := by
  obtain ⟨n, hn⟩ := openParts_recipe hr
  have hopened : recipeHeld (openParts s) r.handle = true :=
    (recipeHeld_congr (openParts_led s) _).trans hheld
  have haway := switchAway_active hn hactive hopened
  have hled : (noticeActive r.issuer 0 0 (low32 e) (switchAway r.handle (openParts s))).led = (openParts s).led :=
    (noticeActive_led ..).trans (switchAway_led ..)
  exact outgoingDone_outgoing ((findRecipe_noticeActive ..).trans haway) rfl ((recipeHeld_congr hled _).trans hopened)

/-! ## CHECKPOINT (11 R527) -/

/-- A checkpoint of the recipe in the list of those a draft Record holds. -/
def checkpointed (r : Recipe) (s : State) : State :=
  let s1 := s.at_ (r.lastCkpt + sTicks r.image.ckptS)
  let l := upd s1.boot.draft.ckpt (ckptPlace s1 r.handle s1.boot.draft.ckpt) fun _ =>
    (r.image.recipeId, r.handle, lastSeq r, r.promotions)
  modRecipe r.handle (fun x => { x with lastCkpt := s1.now }) (s1.setBoot { s1.boot with draft := { s1.boot.draft with ckpt := l } })

theorem exec_checkpoint_inert {h : Nat} {s : State}
    (hc : findRecipe s h = none ∨ recipeHeld s h = false ∨ domOn s 2 = false ∨ s.flt.fatal = true) :
    exec (.checkpoint h) s = .next s := by
  refine congrArg Host.Outcome.next ?_
  dsimp only
  split
  · rfl
  next r hr =>
    refine if_pos ?_
    rcases hc with hc | hc | hc | hc
    · exact absurd (hr.symm.trans hc) (by simp)
    · simp [hc]
    · simp [hc]
    · simp [hc]

theorem exec_checkpoint_notActive {h : Nat} {s : State} {r : Recipe} (hr : findRecipe s h = some r) (hstate : r.state ≠ .active) :
    exec (.checkpoint h) s = .next s := by
  refine congrArg Host.Outcome.next ?_
  dsimp only
  rw [hr]
  exact if_pos (.inl hstate)

theorem exec_checkpoint_active {h : Nat} {s : State} {r : Recipe} (hr : findRecipe s h = some r) (hstate : r.state = .active)
    (hheld : recipeHeld s h = true) (hon : domOn s 2 = true) (hfatal : s.flt.fatal = false) :
    exec (.checkpoint h) s = .next (wantRecord 1 (checkpointed r s)) := by
  cases findRecipe_handle hr
  refine congrArg Host.Outcome.next ?_
  dsimp only
  rw [hr]
  exact if_neg (by simp [hstate, hheld, hon, hfatal])

theorem checkpointed_frame (r : Recipe) (s : State) : Frame [.now, .rcp, .boot] s (wantRecord 1 (checkpointed r s)) :=
  wantRecord_frame 1 _ (by decide)
    (modRecipe_frame _ _ _ (by decide) (State.setBoot_frame _ _ (by decide) (State.at__frame s _ (by decide) (Frame.refl _ s))))

theorem checkpointed_now (r : Recipe) (s : State) : r.lastCkpt + sTicks r.image.ckptS ≤ (wantRecord 1 (checkpointed r s)).now :=
  le_max_right _ _

/-- A place found in a list that is not empty lies in it. -/
theorem findIdx?_or_getD_lt {α : Type} {l : List α} (h : l ≠ []) (p q r : α → Bool) :
    ((l.findIdx? p).or ((l.findIdx? q).or (l.findIdx? r))).getD 0 < l.length := by
  have hpos : 0 < l.length := List.length_pos_iff.2 h
  have hin (f : α → Bool) (i : Nat) (hi : l.findIdx? f = some i) : i < l.length := (List.findIdx?_eq_some_iff_getElem.1 hi).1
  cases hp : l.findIdx? p with
  | some i => exact hin p i hp
  | none => cases hq : l.findIdx? q with
    | some i => exact hin q i hq
    | none => cases hr : l.findIdx? r with
      | some i => exact hin r i hr
      | none => exact hpos

theorem mem_upd_const {α : Type} {l : List α} {n : Nat} (h : n < l.length) (x : α) : x ∈ upd l n fun _ => x :=
  List.mem_of_getElem? (getElem?_upd_self (fun _ => x) (List.getElem?_eq_getElem h))

theorem checkpointed_entry {r : Recipe} {s : State} (h : s.boot.draft.ckpt ≠ []) :
    (r.image.recipeId, r.handle, lastSeq r, r.promotions) ∈ (wantRecord 1 (checkpointed r s)).boot.draft.ckpt :=
  mem_upd_const (l := s.boot.draft.ckpt) (findIdx?_or_getD_lt h _ _ _) _

/-- The recipe as its checkpoint is written. -/
def Recipe.saved (now : Nat) (r : Recipe) : Recipe := { r with lastCkpt := now }

theorem checkpointed_recipe {r : Recipe} {s : State} (hr : findRecipe s r.handle = some r) :
    (findRecipe (wantRecord 1 (checkpointed r s)) r.handle).map (·.lastCkpt) = some (wantRecord 1 (checkpointed r s)).now :=
  congrArg (Option.map (·.lastCkpt)) (findRecipe_modRecipe_some (s := (s.at_ _).setBoot _) hr
    (f := Recipe.saved (s.at_ (r.lastCkpt + sTicks r.image.ckptS)).now) fun _ => rfl)

/-! ## RECIPE_RELEASE and RCP_STATUS (15 Table 15.14) -/

section Opcodes

variable {r : Ref} {p : Packet} {s : State}

theorem recipeRelease_refused (h : opStarts 0x0B04 r p s = true) {st : Half} {off : Nat}
    (ha : admTarget p (fld p.params 0 4) 0x20 [.recipe] s = .inl (st, off)) :
    exec (.recipeRelease r) s = .next (refuse p st off s) := by
  refine congrArg Host.Outcome.next ((runOp_starts h _).trans ?_)
  rw [ha]

theorem recipeRelease_releases (h : opStarts 0x0B04 r p s = true) {a : Admission}
    (ha : admTarget p (fld p.params 0 4) 0x20 [.recipe] s = .inr a) :
    exec (.recipeRelease r) s = .next (ok p [] (release a s)) := by
  refine congrArg Host.Outcome.next ((runOp_starts h _).trans ?_)
  rw [ha]

theorem rcpStatus_refused (h : opStarts 0x0B01 r p s = true) {st : Half} {off : Nat}
    (hx : recipeFor s p.tenant (fld p.params 0 4) 0x20 = .inl (st, off)) :
    exec (.rcpStatus r) s = .next (refuse p st off s) := by
  refine congrArg Host.Outcome.next ((runOp_starts h _).trans ?_)
  dsimp only
  rw [hx]

theorem rcpStatus_answers (h : opStarts 0x0B01 r p s = true) {x : Recipe}
    (hx : recipeFor s p.tenant (fld p.params 0 4) 0x20 = .inr x) : exec (.rcpStatus r) s = .next (ok p
      (le1 x.state.code ++ le1 x.blocks.length ++ le1 s.rcp.cands.length ++ [0] ++ le4 (low32 (statusE x)).toNat ++ le4 (lastSeq x) ++
        (shadowOf s x.handle).1.flatMap le4 ++ le8 (shadowOf s x.handle).2) s) := by
  refine congrArg Host.Outcome.next ((runOp_starts h _).trans ?_)
  dsimp only
  rw [hx]

end Opcodes

/-! ## The statement on recipes, clause by clause -/

section Clauses

variable {r : Ref} {p : Packet} {s : State}

section Load

variable (h : opStarts 0x0B02 r p s = true) (pick : Nat) {poisoned : Bool} {b : Bytes} (hb : recipeBytes p poisoned s = .inr b)
  (hk : recipeCheck s p b = none)
include h hb hk

theorem recipeLoad_firstShort (hne : firstShorts (loadRequest p (pickedHandle pick s) (imageOf b) s) s ≠ []) :
    exec (.recipeLoad ⟨r, poisoned⟩ pick) s = .next (refuseWith p stREFUSED_BUDGET
      (budgetPayload (firstShorts (loadRequest p (pickedHandle pick s) (imageOf b) s) s))
      (s.setLed { s.led with refusals := s.led.refusals + 1 })) := by
  rw [recipeLoad_passed h pick hb hk, loadAdmit_eq, admitRecipe_first hne]
  rfl

variable (hfirst : firstShorts (loadRequest p (pickedHandle pick s) (imageOf b) s) s = [])
include hfirst

theorem recipeLoad_ownShort {l : List Short} (hne : l ≠ [])
    (hl : shorts s (vAdmWith s (imageOf b)) p.cls (withTable (recipeDemands s p.cls (imageOf b))) = l) :
    exec (.recipeLoad ⟨r, poisoned⟩ pick) s = .next (refuseWith p stREFUSED_BUDGET (budgetPayload l)
      (s.setLed { s.led with refusals := s.led.refusals + 1 })) := by
  subst hl
  rw [recipeLoad_passed h pick hb hk, loadAdmit_eq, admitRecipe_short hfirst hne]
  rfl

/-- One recipe more is held, at the v_adm it brings about. -/
theorem recipeLoad_enters (hown : shorts s (vAdmWith s (imageOf b)) p.cls (withTable (recipeDemands s p.cls (imageOf b))) = []) :
    ∃ h s' x, exec (.recipeLoad ⟨r, poisoned⟩ pick) s = .next (ok p (le4 h ++ le4 1) s') ∧ s'.rcp.recipes.getLast? = some x ∧
      x.handle = h ∧ x.state = .held ∧ x.image = imageOf b ∧ x.tenant = p.tenant ∧ x.fence = 1 ∧
      s'.led.vadm = vAdmWith s (imageOf b) ∧
      ((∀ a ∈ s.led.held, a.cls ≠ 7) → s'.rcp.recipes = s.rcp.recipes ++ [x]) ∧
      ∃ a ∈ s'.led.held, a.handle = h ∧ a.kind = .recipe ∧ a.cls = p.cls := by
  have hexec : exec (.recipeLoad ⟨r, poisoned⟩ pick) s = .next (ok p (le4 (pickedHandle pick s) ++ le4 1)
      (recipeJoined (newRecipe (pickedHandle pick s) p.tenant (imageOf b) s)
        (recipeAdmitted (loadRequest p (pickedHandle pick s) (imageOf b) s) (pickedHandle pick s) s))) := by
    rw [recipeLoad_passed h pick hb hk, loadAdmit_eq, admitRecipe_fits hfirst hown]
    rfl
  refine ⟨_, _, _, hexec, List.getLast?_concat, rfl, rfl, rfl, rfl, rfl, rfl, fun hno => ?_,
    enteredAdm (loadRequest p (pickedHandle pick s) (imageOf b) s) (pickedHandle pick s)
      (roomMade (loadRequest p (pickedHandle pick s) (imageOf b) s) s), ?_, rfl, rfl, rfl⟩
  · rw [recipeJoined_recipes, recipeAdmitted_rcp_no_class7 hno]
  · rw [recipeJoined_led]
    exact enteredAdm_mem_recipeAdmitted _ _ s

end Load

theorem recipeActivate_commits (h : opStarts 0x0B03 r p s = true) {inc old : Option Recipe}
    (hi : optRecipe s p.tenant (fld p.params 0 4) 0x20 = .inr inc) (ho : optRecipe s p.tenant (fld p.params 4 4) 0x24 = .inr old)
    (hf : activateFault s inc old = none)
    (hin : bit (fld p.params 12 1) 0 = true ∨ inHorizon s (BitVec.ofNat 32 (fld p.params 8 4)) = true) {e : Long}
    (he : switchPos old (activateAt s (bit (fld p.params 12 1) 0) (BitVec.ofNat 32 (fld p.params 8 4))) = e) :
    ∃ s', exec (.recipeActivate r) s = .next (done p stACCEPTED [] s') ∧ Frame [.rcp] s s' ∧
      (∀ i, inc = some i → (findRecipe s' i.handle).map (fun x => (x.state, x.switchAt, x.issuer)) = some (.pending, e, p.principal)) ∧
      (∀ o, old = some o → (findRecipe s' o.handle).bind (·.endAt) = some e) := by
  refine ⟨commitActivation inc old p.principal e s, ?_, commitActivation_frame_self _ _ _ _ _, ?_, ?_⟩
  · rw [exec_recipeActivate h, activationOf, activate_commits hi ho hf hin, he]
    exact congrArg Host.Outcome.next (if_pos rfl)
  · rintro i rfl
    exact commitActivation_incoming (Option.isSome_of_eq_some (optRecipe_some hi)) ..
  · rintro o rfl
    exact commitActivation_outgoing (optRecipe_some ho) ..

end Clauses

/-- Settles O52: the four opcodes by the outcomes of their checks, the switch by what each of its steps leaves of the two recipes
and of their benches. -/
theorem recipesLoadSwitchAndRelease : Obligations.RecipesLoadSwitchAndRelease := by
  unfold Obligations.RecipesLoadSwitchAndRelease
  refine ⟨fun r p s pick poisoned h => ⟨fun st off hb => recipeLoad_unread h pick hb, fun b hb => ⟨?_, ?_, ?_, ?_⟩⟩,
    fun r p s h => ⟨fun st off hi => ?_, fun inc st off hi ho => ?_, fun inc old hi ho =>
      ⟨fun st off hf => ?_, fun hf hnow hin => ?_, ?_⟩⟩,
    fun s i old h => activateFault_pending h old, fun h s hc => exec_recipeSwitch_inert hc,
    fun h s r hr hon hheld => ⟨fun hp hno => ?_, fun hp hreached => ?_, fun e hactive he hreached hnext => ?_, fun e hactive he hc => ?_,
      fun hstate => exec_recipeSwitch_resting hr hon hheld hstate⟩,
    fun r p s h => ⟨fun st off ha => recipeRelease_refused h ha, fun a ha => ⟨recipeRelease_releases h ha, findAdm_release a s⟩⟩,
    fun h s hc => exec_checkpoint_inert hc,
    fun h s r hr => ⟨fun hstate => exec_checkpoint_notActive hr hstate, fun hstate hheld hon hfatal => ?_⟩,
    fun r p s h => ⟨fun st off hx => rcpStatus_refused h hx, fun x hx => rcpStatus_answers h hx⟩⟩
  · exact fun k off hk => recipeLoad_failed h pick hb hk
  · exact fun hk hne => recipeLoad_firstShort h pick hb hk hne
  · exact fun hk hfirst hne => recipeLoad_ownShort h pick hb hk hfirst hne rfl
  · exact fun hk hfirst hown => recipeLoad_enters h pick hb hk hfirst hown
  · exact recipeActivate_refused h (activate_noIncoming hi) (optRecipe_refusal hi)
  · exact recipeActivate_refused h (activate_noOutgoing hi ho) (optRecipe_refusal ho)
  · exact recipeActivate_refused h (activate_fault hi ho hf) (activateFault_refusal hf)
  · exact recipeActivate_refused h (activate_late hi ho hf hnow hin) (by decide)
  · exact fun hf hin => recipeActivate_commits h hi ho hf hin rfl
  · rw [exec_recipeSwitch_pending hr hon hheld hp, hno]
    rfl
  · cases findRecipe_handle hr
    obtain ⟨now, n, hx⟩ := takenOver_recipe hr hp
    rw [exec_recipeSwitch_pending hr hon hheld hp, hreached]
    exact ⟨_, _, rfl, hx, rfl, rfl, rfl, rfl, rfl, fun hm => if_pos hm, takenOver_parts r s,
      fun o hne ho hactive hheld => takenOver_outgoing hne ho hactive hheld,
      fun b y hy hrec hbuilt htemper => takenOver_benches hr hp hy hrec hbuilt htemper⟩
  · cases findRecipe_handle hr
    rw [exec_recipeSwitch_ending hr hon hheld (by simp [hactive]) he, if_pos ⟨hactive, hreached, by simpa using hnext⟩]
    obtain ⟨x, hx, hstate⟩ := takenOut_recipe hr hactive hheld e
    exact ⟨_, x, rfl, hx, hstate⟩
  · rw [exec_recipeSwitch_ending hr hon hheld (by simp [hactive]) he, if_neg]
    rintro ⟨-, hreached, hany⟩
    rcases hc with hc | ⟨x, hx, hp, ho⟩
    · simp [hc] at hreached
    · simpa [hp, ho] using List.any_eq_false.1 hany x hx
  · cases findRecipe_handle hr
    exact ⟨_, exec_checkpoint_active hr hstate hheld hon hfatal, wantRecord_wanted_isSome .., checkpointed_now r s,
      checkpointed_recipe hr, checkpointed_frame r s, checkpointed_entry⟩

end Sys2Proof.Machine
end

section
/-! PROOFS. The sample cache: TMP_CACHE_CONFIG and TMP_LABEL. -/

namespace Sys2Proof.Machine

open Sys2Proof

theorem writeCacheHeaders_rcp (l : List Nat) (s : State) : (writeCacheHeaders l s).rcp = s.rcp :=
  Frame.rcp_eq (writeCacheHeaders_frame l s (List.Subset.refl _) (Frame.refl _ s)) (by decide)

theorem writeCacheHeaders_led (l : List Nat) (s : State) : (writeCacheHeaders l s).led = s.led :=
  Frame.led_eq (writeCacheHeaders_frame l s (List.Subset.refl _) (Frame.refl _ s)) (by decide)

/-! ## TMP_CACHE_CONFIG (11 R550) -/

/-- Bytes that an entry takes: its header and its tile. -/
def sampleBytes (p : Packet) (s : State) : Nat :=
  64 + tileBytes (viewOf s (fld p.params 4 1)).tileFmt (viewOf s (fld p.params 4 1)).tileW (viewOf s (fld p.params 4 1)).tileH

/-- The request for admission that a capture makes. -/
def captureRequest (p : Packet) (s : State) : Request :=
  { kind := .capture, cls := 7, tenant := p.tenant, object := fld p.params 4 1, vDecl := 0, recipe := 0
    demands := [⟨5, 7, captureDemand s (fld p.params 4 1) (fld p.params 6 2) (sampleBytes p s) (BitVec.ofNat 32 (fld p.params 8 4))⟩] }

/-- The capture that a packet configures. -/
def captureCfg (p : Packet) (h : Nat) (s : State) : CacheCfg :=
  { handle := h, obj := fld p.params 0 4, view := fld p.params 4 1, stride := fld p.params 6 2
    colMask := BitVec.ofNat 32 (fld p.params 8 4), capturing := true, entry := sampleBytes p s }

/-- Entries that the cache's object holds. -/
def cacheEntries (p : Packet) (s : State) : Nat := ((objOf s (fld p.params 0 4)).map (·.size)).getD 0 / sampleBytes p s

/-- The capture begins with an empty cache. -/
def captureBegun (p : Packet) (h : Nat) (s t : State) : State :=
  writeCacheHeaders (List.range (cacheEntries p s))
    (t.setRcp { t.rcp with cacheCfg := some (captureCfg p h s), cache := List.replicate (cacheEntries p s) freeEntry })

/-- A cache configuration as its admission is decided. -/
def captureDecided (p : Packet) (h : Nat) (s : State) (d : Decision) : State :=
  match d.payload with
  | some e => refuseWith p stREFUSED_BUDGET e (countRefusal s)
  | none => ok p (le4 h) (captureBegun p h s d.state)

theorem cacheConfig_eq (p : Packet) (pick : Nat) (s : State) : cacheConfig p pick s =
    captureDecided p (pickedHandle pick s) s (decideAdm (captureRequest p s) (pickedHandle pick s) (dropCapture s)) := rfl

theorem captureBegun_rcp (p : Packet) (h : Nat) (s t : State) : (captureBegun p h s t).rcp =
    { t.rcp with cacheCfg := some (captureCfg p h s), cache := List.replicate (cacheEntries p s) freeEntry } :=
  writeCacheHeaders_rcp _ _

section Config

variable {r : Ref} {p : Packet} {s : State} (h : opStarts 0x0B20 r p s = true) (pick : Nat)
include h

theorem tmpCacheConfig_refused {st : Half} {off : Nat} (hf : cacheFault s p = some (st, off)) :
    exec (.tmpCacheConfig r pick) s = .next (refuse p st off s) := by
  refine congrArg Host.Outcome.next ((runOp_starts h _).trans ?_)
  rw [hf]

variable (hf : cacheFault s p = none)
include hf

theorem tmpCacheConfig_decided : exec (.tmpCacheConfig r pick) s = .next (captureDecided p (pickedHandle pick s) s
    (decideAdm (captureRequest p s) (pickedHandle pick s) (dropCapture s))) := by
  refine congrArg Host.Outcome.next ((runOp_starts h _).trans ?_)
  rw [hf]
  exact cacheConfig_eq p pick s

theorem tmpCacheConfig_short {l : List Short}
    (hl : shorts (dropCapture s) (vEff (dropCapture s).led.vadm) 7 (withTable (captureRequest p s).demands) = l) (hne : l ≠ []) :
    exec (.tmpCacheConfig r pick) s = .next (refuseWith p stREFUSED_BUDGET (budgetPayload l) (countRefusal s)) := by
  subst hl
  rw [tmpCacheConfig_decided h pick hf, decideAdm_short (q := captureRequest p s) hne]
  rfl

/-- A capture that the Ledger can hold begins with an empty cache. -/
theorem tmpCacheConfig_begins
    (hl : shorts (dropCapture s) (vEff (dropCapture s).led.vadm) 7 (withTable (captureRequest p s).demands) = []) :
    ∃ h s' c, exec (.tmpCacheConfig r pick) s = .next (ok p (le4 h) s') ∧ s'.rcp.cacheCfg = some c ∧ c.handle = h ∧
      c.obj = fld p.params 0 4 ∧ c.view = fld p.params 4 1 ∧ c.stride = fld p.params 6 2 ∧
      c.colMask = BitVec.ofNat 32 (fld p.params 8 4) ∧ c.capturing = true ∧ s'.rcp.cache.length = cacheEntries p s ∧
      ∀ e ∈ s'.rcp.cache, e.state = 0 ∧ e.lock = false ∧ e.tile = none := by
  have hrcp := captureBegun_rcp p (pickedHandle pick s) s
    (commitAdm (captureRequest p s) (pickedHandle pick s) (reclaimedFor (captureRequest p s) (dropCapture s)))
  refine ⟨pickedHandle pick s, _, captureCfg p (pickedHandle pick s) s, ?_, congrArg Recipes.cacheCfg hrcp, rfl, rfl, rfl, rfl, rfl, rfl,
    (congrArg (fun x : Recipes => x.cache.length) hrcp).trans List.length_replicate, fun e he => ?_⟩
  · rw [tmpCacheConfig_decided h pick hf, decideAdm_fits (q := captureRequest p s) hl]
    rfl
  · rw [hrcp] at he
    cases List.eq_of_mem_replicate he
    exact ⟨rfl, rfl, rfl⟩

end Config

/-! ## TMP_LABEL (11 R553) -/

/-- The cache with its labels recorded. -/
def labelled (l : List (Nat × Nat)) (c : List CacheEntry) : List CacheEntry :=
  match l with
  | [] => c
  | t :: r => labelled r (upd c t.1 (labelEntry t.2))

/-- The entry with the labels it is given. -/
def CacheEntry.relabelled (l : List (Nat × Nat)) (e : CacheEntry) : CacheEntry := l.foldl (fun e t => labelEntry t.2 e) e

theorem labelled_length (l : List (Nat × Nat)) (c : List CacheEntry) : (labelled l c).length = c.length := by
  induction l generalizing c with
  | nil => rfl
  | cons t l ih => exact (ih _).trans (upd_length ..)

/-- Each entry is given the labels that name it. -/
theorem labelled_getElem? {m : List CacheEntry} {k : Nat} {e : CacheEntry} (he : m[k]? = some e) (l : List (Nat × Nat)) :
    (labelled l m)[k]? = some (e.relabelled (l.filter fun t => t.1 == k)) := by
  induction l generalizing m e with
  | nil => exact he
  | cons t l ih =>
    rw [labelled]
    by_cases hk : t.1 = k
    · subst hk
      rw [ih (getElem?_upd_self (labelEntry t.2) he), List.filter_cons_of_pos (by simp)]
      rfl
    · rw [List.filter_cons_of_neg (by simpa using hk)]
      exact ih ((List.getElem?_modify_ne _ _ hk).trans he)

theorem labelAll_rcp (l : List (Nat × Nat)) (s : State) : (labelAll l s).rcp = { s.rcp with cache := labelled l s.rcp.cache } := by
  induction l generalizing s with
  | nil => rfl
  | cons t l ih =>
    obtain ⟨k, label⟩ := t
    have hstep : (writeCacheHeader k (s.setRcp { s.rcp with cache := upd s.rcp.cache k (labelEntry label) })).rcp =
        { s.rcp with cache := upd s.rcp.cache k (labelEntry label) } :=
      writeCacheHeaders_rcp [k] (s.setRcp { s.rcp with cache := upd s.rcp.cache k (labelEntry label) })
    rw [labelAll, ih, hstep]
    rfl

/-- A label on a locked entry waits for its unlocking, and any other is recorded at once. -/
theorem labelEntry_waits (e : CacheEntry) (label : Nat) : (labelEntry label e).lock = e.lock ∧
    (e.lock = true → (labelEntry label e).label = e.label ∧ (unlockEntry (labelEntry label e)).label = label) ∧
    (e.lock = false → (labelEntry label e).label = label) := by
  cases hlock : e.lock with
  | true => simp [labelEntry, unlockEntry, hlock]
  | false => simp [labelEntry, hlock]

section Targets

variable {s : State} {b : Bytes}

/-- With every target good, the targets are what the packet names. -/
theorem targets_good {n : Nat} {l : List (Nat × Nat)} (hlen : l.length = n)
    (hgood : ∀ i, i < n → labelTarget s b i = .inr (getI l i (0, 0))) : (List.range n).map (labelTarget s b) = l.map .inr := by
  refine List.ext_getElem (by simp [hlen]) fun i hi hl => ?_
  rw [List.getElem_map, List.getElem_range, List.getElem_map, hgood i (by simpa using hi), getI, List.getD_eq_getElem]

theorem firstFault_good (l : List (Nat × Nat)) : firstFault (l.map .inr) = none := by simp [firstFault]

theorem goodTargets_good (l : List (Nat × Nat)) : goodTargets (l.map .inr) = l := by simp [goodTargets, List.filterMap_map]

theorem firstFault_first {n i : Nat} {st : Half} {off : Nat} (hi : i < n) (hbad : labelTarget s b i = .inl (st, off))
    (hbefore : ∀ j, j < i → ∃ t, labelTarget s b j = .inr t) :
    firstFault ((List.range n).map (labelTarget s b)) = some (st, off) := by
  rw [firstFault, List.findSome?_map]
  refine findSome?_range_first hi (by simp [hbad]) fun j hj => ?_
  obtain ⟨t, ht⟩ := hbefore j hj
  simp [ht]

end Targets

section Label

variable {r : Ref} {p : Packet} {s : State} (h : opStarts 0x0B21 r p s = true)
include h

theorem tmpLabel_badLength (hlen : p.params.length ≠ 4 + 12 * fld p.params 0 2) :
    exec (.tmpLabel r) s = .next (refuse p stBAD_LENGTH 0x0A s) :=
  congrArg Host.Outcome.next ((runOp_starts h _).trans (if_pos hlen))

variable (hlen : p.params.length = 4 + 12 * fld p.params 0 2)
include hlen

theorem tmpLabel_refused {st : Half} {off : Nat}
    (hf : firstFault ((List.range (fld p.params 0 2)).map (labelTarget s p.params)) = some (st, off)) :
    exec (.tmpLabel r) s = .next (refuse p st off s) := by
  refine congrArg Host.Outcome.next ((runOp_starts h _).trans ?_)
  dsimp only
  rw [if_neg (not_not.2 hlen), hf]

theorem tmpLabel_labels {l : List (Nat × Nat)} (hl : l.length = fld p.params 0 2)
    (hgood : ∀ i, i < fld p.params 0 2 → labelTarget s p.params i = .inr (getI l i (0, 0))) :
    exec (.tmpLabel r) s = .next (ok p [] (labelAll l s)) := by
  refine congrArg Host.Outcome.next ((runOp_starts h _).trans ?_)
  dsimp only
  rw [if_neg (not_not.2 hlen), targets_good hl hgood, firstFault_good, goodTargets_good]

end Label

end Sys2Proof.Machine
end

section
/-! PROOFS. Epochs: TMP_EPOCH and EPOCH, and the end of an epoch. -/

namespace Sys2Proof.Machine

open Sys2Proof

/-! ## The samples of an epoch (11 R554) -/

theorem mem_samplesOf {s : State} {i : Nat} :
    i ∈ samplesOf s ↔ ∃ e, s.rcp.cache[i]? = some e ∧ e.state = 2 ∧ e.lock = false := by
  simp [samplesOf, List.mem_mapIdx, List.getElem?_eq_some_iff]

theorem samplesOf_congr {s t : State} (h : t.rcp = s.rcp) : samplesOf t = samplesOf s := by rw [samplesOf, samplesOf, h]

/-- The entry, locked where an epoch takes it. -/
def CacheEntry.sampled (x : CacheEntry) : CacheEntry := if x.state = 2 ∧ !x.lock then { x with lock := true } else x

/-! ## The request for an epoch (11 R554, R555) -/

/-- The request for admission that an epoch makes. -/
def epochRequest (t tb : Nat) (c : Cert) (b : Bytes) (s : State) : Request :=
  { kind := .epoch, cls := 7, tenant := t, object := tb, vDecl := 0, recipe := 0
    demands := tileDemands tb c ((samplesOf s).length * fld b 5 1) (puPerMetre s).1 ((puPerMetre s).2 * fld b 8 4) }

/-- An epoch's request that is refused. -/
def epochRefusal (st : Half) (off : Nat) (s : State) : EpochReq := { status := st, off := off, payload := [], state := s }

/-- An epoch's request as its admission is decided. -/
def epochDecided (ref : Ref) (fromList : Bool) (t h : Nat) (b : Bytes) (d : Decision) : EpochReq :=
  match d.payload with
  | some e => { status := stREFUSED_BUDGET, off := noField, payload := e, state := d.state }
  | none => { status := stOK, off := 0, payload := [], state := commitEpoch ref fromList t h b d.state }

/-- The epoch as it starts. -/
def epochStarted (ref : Ref) (fromList : Bool) (t h : Nat) (b : Bytes) (s : State) : Epoch :=
  { handle := h, ref := ref, fromList := fromList, tenant := t, recipe := fld b 0 4, bench := fld b 4 1, passes := fld b 5 1
    b := fld b 6 2, span := fld b 8 4, hyper := (b.drop 16).take 32, entries := samplesOf s, commitHwm := s.pos.hwm
    started := 0, done := 0 }

section Request

variable {ref : Ref} {fromList : Bool} {t cls pick : Nat} {b : Bytes} {s : State}

theorem requestEpoch_class (hcls : cls ≠ 7) : requestEpoch ref fromList t cls pick b s = epochRefusal stBAD_PARAM 0x06 s := if_pos hcls

variable (hcls : cls = 7)
include hcls

theorem requestEpoch_fault {st : Half} {off : Nat} (hf : epochFault s t b = some (st, off)) :
    requestEpoch ref fromList t cls pick b s = epochRefusal st off s := by
  refine (if_neg (not_not.2 hcls)).trans ?_
  rw [hf]
  rfl

theorem requestEpoch_decided {tb : Nat} {c : Cert} (hf : epochFault s t b = none) (ht : temperFor s = .inr (tb, c)) :
    requestEpoch ref fromList t cls pick b s =
      epochDecided ref fromList t (pickedHandle pick s) b (decideAdm (epochRequest t tb c b s) (pickedHandle pick s) s) := by
  refine (if_neg (not_not.2 hcls)).trans ?_
  rw [hf, ht]
  rfl

end Request

theorem commitEpoch_rcp (ref : Ref) (fromList : Bool) (t h : Nat) (b : Bytes) (s : State) :
    (commitEpoch ref fromList t h b s).rcp =
      { s.rcp with epoch := some (epochStarted ref fromList t h b s), cache := s.rcp.cache.map CacheEntry.sampled } :=
  writeCacheHeaders_rcp _ _

theorem commitEpoch_led (ref : Ref) (fromList : Bool) (t h : Nat) (b : Bytes) (s : State) :
    (commitEpoch ref fromList t h b s).led = s.led := writeCacheHeaders_led _ _

/-- Every sample of an epoch is locked. -/
theorem commitEpoch_locks {ref : Ref} {fromList : Bool} {t h : Nat} {b : Bytes} {s : State} {i : Nat} (hi : i ∈ samplesOf s) :
    ((commitEpoch ref fromList t h b s).rcp.cache[i]?).map (·.lock) = some true := by
  obtain ⟨e, he, hstate, hlock⟩ := mem_samplesOf.1 hi
  rw [commitEpoch_rcp, List.getElem?_map, he]
  simp [CacheEntry.sampled, hstate, hlock]

/-! ## The decision on an epoch (11 R554, R555) -/

section Request

variable {ref : Ref} {fromList : Bool} {t cls pick : Nat} {b : Bytes} {s : State} {tb : Nat} {c : Cert} (hcls : cls = 7)
  (hf : epochFault s t b = none) (ht : temperFor s = .inr (tb, c))
include hcls hf ht

theorem requestEpoch_short {l : List Short} (hl : shorts s (vEff s.led.vadm) 7 (withTable (epochRequest t tb c b s).demands) = l)
    (hne : l ≠ []) : requestEpoch ref fromList t cls pick b s =
      { status := stREFUSED_BUDGET, off := noField, payload := budgetPayload l, state := countRefusal s } := by
  subst hl
  rw [requestEpoch_decided hcls hf ht, decideAdm_short (q := epochRequest t tb c b s) hne]
  rfl

theorem requestEpoch_fits (hl : shorts s (vEff s.led.vadm) 7 (withTable (epochRequest t tb c b s).demands) = []) :
    requestEpoch ref fromList t cls pick b s =
      { status := stOK, off := 0, payload := []
        state := commitEpoch ref fromList t (pickedHandle pick s) b
          (commitAdm (epochRequest t tb c b s) (pickedHandle pick s) s) } := by
  rw [requestEpoch_decided hcls hf ht, decideAdm_fits (q := epochRequest t tb c b s) hl, reclaimedFor_class7 rfl]
  rfl

/-- An epoch that the Ledger can hold starts with all the samples, and locks them. -/
theorem requestEpoch_starts (hl : shorts s (vEff s.led.vadm) 7 (withTable (epochRequest t tb c b s).demands) = []) :
    let x := requestEpoch ref fromList t cls pick b s
    x.status = stOK ∧ (∃ e, x.state.rcp.epoch = some e ∧ e.entries = samplesOf s ∧ e.started = 0 ∧ e.done = 0 ∧ e.ref = ref ∧
      e.fromList = fromList ∧ e.tenant = t ∧ e.recipe = fld b 0 4 ∧ e.passes = fld b 5 1 ∧ e.b = fld b 6 2 ∧ e.span = fld b 8 4 ∧
      e.commitHwm = s.pos.hwm ∧ ∃ a ∈ x.state.led.held, a.handle = e.handle ∧ a.kind = .epoch ∧ a.cls = 7) ∧
      ∀ i ∈ samplesOf s, (x.state.rcp.cache[i]?).map (·.lock) = some true := by
  have hframe := commitAdm_frame_self (epochRequest t tb c b s) (pickedHandle pick s) s
  have hsamples := samplesOf_congr (hframe.rcp_eq (by decide))
  rw [requestEpoch_fits hcls hf ht hl]
  refine ⟨rfl, ⟨_, congrArg Recipes.epoch (commitEpoch_rcp ..), hsamples, rfl, rfl, rfl, rfl, rfl, rfl, rfl, rfl, rfl,
    congrArg Position.hwm (hframe.pos_eq (by decide)), enteredAdm (epochRequest t tb c b s) (pickedHandle pick s) s, ?_, rfl, rfl, rfl⟩,
    fun i hi => commitEpoch_locks (hsamples ▸ hi)⟩
  rw [commitEpoch_led, commitAdm_held]
  exact List.mem_append_right _ (List.mem_singleton.2 rfl)

end Request

/-! ## TMP_EPOCH and EPOCH (11 R554; 15 R712) -/

section Opcode

variable {r : Ref} {p : Packet} {s : State} (h : opStarts 0x0B22 r p s = true) (pick : Nat)
include h

theorem exec_tmpEpoch : exec (.tmpEpoch r pick) s = .next (
    let x := requestEpoch r false p.tenant p.cls pick p.params s
    if x.status = stOK then commitP r x.state
    else if x.status = stREFUSED_BUDGET then refuseWith p stREFUSED_BUDGET x.payload x.state
    else refuse p x.status x.off s) := congrArg Host.Outcome.next (runOp_starts h _)

theorem tmpEpoch_starts (hx : (requestEpoch r false p.tenant p.cls pick p.params s).status = stOK) :
    exec (.tmpEpoch r pick) s = .next (commitP r (requestEpoch r false p.tenant p.cls pick p.params s).state) :=
  (exec_tmpEpoch h pick).trans (congrArg Host.Outcome.next (if_pos hx))

theorem tmpEpoch_short (hx : (requestEpoch r false p.tenant p.cls pick p.params s).status = stREFUSED_BUDGET) :
    exec (.tmpEpoch r pick) s = .next (refuseWith p stREFUSED_BUDGET (requestEpoch r false p.tenant p.cls pick p.params s).payload
      (requestEpoch r false p.tenant p.cls pick p.params s).state) :=
  (exec_tmpEpoch h pick).trans (congrArg Host.Outcome.next
    ((if_neg fun hok => absurd (hx.symm.trans hok) (by decide)).trans (if_pos hx)))

theorem tmpEpoch_refused (hok : (requestEpoch r false p.tenant p.cls pick p.params s).status ≠ stOK)
    (hbudget : (requestEpoch r false p.tenant p.cls pick p.params s).status ≠ stREFUSED_BUDGET) :
    exec (.tmpEpoch r pick) s = .next (refuse p (requestEpoch r false p.tenant p.cls pick p.params s).status
      (requestEpoch r false p.tenant p.cls pick p.params s).off s) :=
  (exec_tmpEpoch h pick).trans (congrArg Host.Outcome.next ((if_neg hok).trans (if_neg hbudget)))

end Opcode

/-- Without engines, or without a running list of the TEMPER engine, EPOCH does nothing. -/
theorem exec_epoch_idle (pick : Nat) {s : State}
    (hc : enginesUp s = false ∨ s.fab.lists.find? (fun l => l.engine == 6 && l.running) = none) : exec (.epoch pick) s = .next s := by
  refine congrArg Host.Outcome.next ?_
  unfold withCmd
  rcases hc with hc | hc
  · rw [hc]
    rfl
  · rw [hc]
    exact ite_self s

section Listed

variable {s : State} {l : CmdList} {c : Cmd} {p : Packet} (pick : Nat) (hup : enginesUp s = true)
  (hl : s.fab.lists.find? (fun l => l.engine == 6 && l.running) = some l) (hcur : l.cur = some c) (hcmd : c.cmd = 0x100)
  (hp : findP l.ref s = some p)
include hup hl hcur hcmd hp

theorem exec_epoch_listed : exec (.epoch pick) s = .next (
    if s.rcp.epoch.any fun e => e.fromList && e.ref == l.ref then s
    else if c.arg0 ≠ 0 ∨ c.arg1 ≠ 0 ∨ fld c.body 12 4 ≠ 0 then failCmd l stBAD_PARAM s
    else
      let x := requestEpoch l.ref true l.tenant p.cls pick c.body s
      if x.status = stOK then x.state else failCmd l x.status x.state) := by
  refine congrArg Host.Outcome.next ((withCmd_runs hup hl hcur hcmd _).trans ?_)
  dsimp only
  rw [hp]
  rfl

theorem exec_epoch_own (hown : (s.rcp.epoch.any fun e => e.fromList && e.ref == l.ref) = true) : exec (.epoch pick) s = .next s :=
  (exec_epoch_listed pick hup hl hcur hcmd hp).trans (congrArg Host.Outcome.next (if_pos hown))

variable (hown : (s.rcp.epoch.any fun e => e.fromList && e.ref == l.ref) = false)
include hown

theorem exec_epoch_reserved (hargs : c.arg0 ≠ 0 ∨ c.arg1 ≠ 0 ∨ fld c.body 12 4 ≠ 0) :
    exec (.epoch pick) s = .next (failCmd l stBAD_PARAM s) :=
  (exec_epoch_listed pick hup hl hcur hcmd hp).trans (congrArg Host.Outcome.next
    ((if_neg (by simp [hown])).trans (if_pos hargs)))

theorem exec_epoch_asked (h0 : c.arg0 = 0) (h1 : c.arg1 = 0) (h2 : fld c.body 12 4 = 0) : exec (.epoch pick) s = .next (
    let x := requestEpoch l.ref true l.tenant p.cls pick c.body s
    if x.status = stOK then x.state else failCmd l x.status x.state) :=
  (exec_epoch_listed pick hup hl hcur hcmd hp).trans (congrArg Host.Outcome.next
    ((if_neg (by simp [hown])).trans (if_neg (by simp [h0, h1, h2]))))

end Listed

/-! ## The end of an epoch (11 R559) -/

/-- The candidate that an epoch leaves. -/
def epochCand (e : Epoch) (params : Bytes) (h : Nat) (s : State) : Cand :=
  { handle := h, tenant := e.tenant, digest := (((benchOf s e.bench).cert).map (·.digest)).getD [], params := params
    copies := copyPair s e.bench 3, shadowRecipe := 0, shadowSpan := 0, tally := List.replicate 9 0 }

/-- The epoch is closed: its samples are unlocked, and its candidate is kept. -/
def epochClosed (e : Epoch) (params : Bytes) (h : Nat) (s : State) : State :=
  s.setRcp { s.rcp with
    epoch := none, cache := s.rcp.cache.map unlockEntry, cands := s.rcp.cands ++ [epochCand e params h s] }

/-- What follows the closing of an epoch concerns the admission, the cache headers, the reply and the notice. -/
theorem completeEpoch_frame_closed (e : Epoch) (params : Bytes) (pick : Nat) (s : State) :
    Frame [.emitted, .host, .pos, .led, .kw, .fab, .draw, .flt] (epochClosed e params (pickedHandle pick s) s)
      (completeEpoch e params pick s) :=
  noticeHolder_frame _ _ _ _ (by decide) (epochReply_frame _ _ _ (by decide) (writeCacheHeaders_frame _ _ (by decide)
    (cutBuckets_frame _ _ (by decide) (dropAdm_frame _ _ (by decide) (Frame.refl _ _)))))

theorem completeEpoch_rcp (e : Epoch) (params : Bytes) (pick : Nat) (s : State) :
    (completeEpoch e params pick s).rcp = (epochClosed e params (pickedHandle pick s) s).rcp :=
  (completeEpoch_frame_closed e params pick s).rcp_eq (by decide)

theorem exec_tmpEpochDone_idle {s : State} (params : Bytes) (pick : Nat) (hc : s.rcp.epoch = none ∨ temperRuns s = false) :
    exec (.tmpEpochDone params pick) s = .next s := by
  refine congrArg Host.Outcome.next ?_
  rcases hc with hc | hc
  · rw [hc]
  · rw [hc]
    cases s.rcp.epoch <;> rfl

section Done

variable {s : State} {e : Epoch} (he : s.rcp.epoch = some e) (params : Bytes) (pick : Nat)
include he

theorem exec_tmpEpochDone_complete (hruns : temperRuns s = true) (hdone : e.done = epochSteps e) :
    exec (.tmpEpochDone params pick) s = .next (completeEpoch e params pick s) := by
  refine congrArg Host.Outcome.next ?_
  rw [he]
  exact if_pos (by simp [hruns, hdone])

theorem exec_tmpEpochDone_running (hdone : e.done ≠ epochSteps e) : exec (.tmpEpochDone params pick) s = .next s := by
  refine congrArg Host.Outcome.next ?_
  rw [he]
  exact if_neg (by simp [hdone])

end Done

end Sys2Proof.Machine
end

section
/-! PROOFS. TMP_SHADOW, TMP_PROMOTE and TMP_ROLLBACK, and the statement on tempering. -/

namespace Sys2Proof.Machine

open Sys2Proof

/-! ## The start of a shadow (11 R560) -/

/-- The request for admission that a shadow makes. -/
def shadowRequest (p : Packet) (im : RecipeImage) (tb : Nat) (c : Cert) (s : State) : Request :=
  { kind := .shadow, cls := 7, tenant := p.tenant, object := fld p.params 4 1, vDecl := 0, recipe := 0
    demands := shadowDemands s im (fld p.params 4 1) (fld p.params 6 2) tb c }

/-- A shadow's start as its admission is decided. -/
def shadowDecided (p : Packet) (h recipe : Nat) (d : Decision) : State :=
  match d.payload with
  | some e => refuseWith p stREFUSED_BUDGET e d.state
  | none => ok p (le4 h) (commitShadow h (fld p.params 0 4) (fld p.params 4 1) recipe (fld p.params 6 2) d.state)

section Start

variable {r : Ref} {p : Packet} {s : State} (h : opStarts 0x0B23 r p s = true) (pick : Nat) (hop : fld p.params 5 1 = 1)
include h hop

theorem exec_tmpShadow_start : exec (.tmpShadow r pick) s = .next (startShadow p pick s) := by
  refine congrArg Host.Outcome.next ((runOp_starts h _).trans ?_)
  rw [hop]
  rfl

theorem tmpShadow_refused {st : Half} {off : Nat} (hf : shadowFault s p = some (st, off)) :
    exec (.tmpShadow r pick) s = .next (refuse p st off s) := by
  rw [exec_tmpShadow_start h pick hop, startShadow, hf]

variable (hf : shadowFault s p = none)
include hf

theorem tmpShadow_noTemper {st : Half} (ht : temperFor s = .inl st) :
    exec (.tmpShadow r pick) s = .next (refuse p st noField s) := by
  rw [exec_tmpShadow_start h pick hop, startShadow, hf, ht]

variable {tb : Nat} {c : Cert} {x : Recipe} (ht : temperFor s = .inr (tb, c))
  (hx : findRecipe s (benchOf s (fld p.params 4 1)).recipe = some x)
include ht hx

theorem tmpShadow_decided : exec (.tmpShadow r pick) s = .next (shadowDecided p (pickedHandle pick s) x.handle
    (decideAdm (shadowRequest p x.image tb c s) (pickedHandle pick s) s)) := by
  rw [exec_tmpShadow_start h pick hop, startShadow, hf, ht, hx]
  rfl

theorem tmpShadow_short {l : List Short}
    (hl : shorts s (vEff s.led.vadm) 7 (withTable (shadowRequest p x.image tb c s).demands) = l) (hne : l ≠ []) :
    exec (.tmpShadow r pick) s = .next (refuseWith p stREFUSED_BUDGET (budgetPayload l) (countRefusal s)) := by
  subst hl
  rw [tmpShadow_decided h pick hop hf ht hx, decideAdm_short (q := shadowRequest p x.image tb c s) hne]
  rfl

/-- A shadow that the Ledger can hold starts with a fresh tally. -/
theorem tmpShadow_starts (hl : shorts s (vEff s.led.vadm) 7 (withTable (shadowRequest p x.image tb c s).demands) = []) :
    ∃ h s' y, exec (.tmpShadow r pick) s = .next (ok p (le4 h) s') ∧ s'.rcp.shadow = some y ∧ y.handle = h ∧
      y.cand = fld p.params 0 4 ∧ y.bench = fld p.params 4 1 ∧ y.recipe = x.handle ∧ y.stride = fld p.params 6 2 ∧
      y.startHwm = s.pos.hwm ∧ ∀ k ∈ s'.rcp.cands, k.handle = y.cand → k.tally = List.replicate 9 0 ∧ k.shadowRecipe = x.handle := by
  have hpos : (commitAdm (shadowRequest p x.image tb c s) (pickedHandle pick s) s).pos = s.pos :=
    Frame.pos_eq (commitAdm_frame_self _ _ s) (by decide)
  have hdecided := decideAdm_fits (q := shadowRequest p x.image tb c s) hl (pickedHandle pick s)
  rw [reclaimedFor_class7 rfl] at hdecided
  refine ⟨pickedHandle pick s, commitShadow (pickedHandle pick s) (fld p.params 0 4) (fld p.params 4 1) x.handle (fld p.params 6 2)
    (commitAdm (shadowRequest p x.image tb c s) (pickedHandle pick s) s), _, ?_, rfl, rfl, rfl, rfl, rfl, rfl,
    congrArg Position.hwm hpos, fun k hk hcand => ?_⟩
  · rw [tmpShadow_decided h pick hop hf ht hx, hdecided]
    rfl
  · obtain ⟨m, -, rfl⟩ := List.mem_map.1 hk
    by_cases hm : m.handle = fld p.params 0 4
    · rw [if_pos hm]
      exact ⟨rfl, rfl⟩
    · rw [if_neg hm] at hcand
      exact absurd hcand hm

end Start

/-! ## The end of a shadow (11 R560) -/

section Stop

variable {r : Ref} {p : Packet} {s : State} (h : opStarts 0x0B23 r p s = true) (pick : Nat)
include h

theorem tmpShadow_badOp (hop : 1 < fld p.params 5 1) : exec (.tmpShadow r pick) s = .next (refuse p stBAD_PARAM 0x25 s) := by
  refine congrArg Host.Outcome.next ((runOp_starts h _).trans ?_)
  split
  · omega
  · omega
  · rfl

variable (hop : fld p.params 5 1 = 0)
include hop

theorem exec_tmpShadow_stop : exec (.tmpShadow r pick) s = .next (stopShadow p s) := by
  refine congrArg Host.Outcome.next ((runOp_starts h _).trans ?_)
  rw [hop]
  rfl

theorem tmpShadow_stop_noCand {st : Half} {off : Nat} (hc : candFor s p.tenant (fld p.params 0 4) = .inl (st, off)) :
    exec (.tmpShadow r pick) s = .next (refuse p st off s) := by
  rw [exec_tmpShadow_stop h pick hop, stopShadow, hc]

variable {c : Cand} (hc : candFor s p.tenant (fld p.params 0 4) = .inr c)
include hc

theorem tmpShadow_stop_none (hs : s.rcp.shadow = none) : exec (.tmpShadow r pick) s = .next (refuse p stBAD_PARAM 0x20 s) := by
  rw [exec_tmpShadow_stop h pick hop, stopShadow, hc, hs]

variable {x : Shadow} (hs : s.rcp.shadow = some x)
include hs

theorem tmpShadow_stop_otherCand (hne : x.cand ≠ c.handle) :
    exec (.tmpShadow r pick) s = .next (refuse p stBAD_PARAM 0x20 s) := by
  rw [exec_tmpShadow_stop h pick hop, stopShadow, hc, hs]
  exact congrArg Host.Outcome.next (if_pos hne)

variable (hcand : x.cand = c.handle)
include hcand

theorem tmpShadow_stop_otherBench (hne : x.bench ≠ fld p.params 4 1) :
    exec (.tmpShadow r pick) s = .next (refuse p stBAD_PARAM 0x24 s) := by
  rw [exec_tmpShadow_stop h pick hop, stopShadow, hc, hs]
  exact congrArg Host.Outcome.next ((if_neg (not_not.2 hcand)).trans (if_pos hne))

theorem tmpShadow_stop_named (hbench : x.bench = fld p.params 4 1) {a : Admission} (ha : findAdm s x.handle = some a) :
    exec (.tmpShadow r pick) s =
      .next (if mayUse p a.tenant then ok p (le4 x.handle) (release a s) else refuse p stDENIED noField s) := by
  rw [exec_tmpShadow_stop h pick hop, stopShadow, hc, hs]
  refine congrArg Host.Outcome.next ((if_neg (not_not.2 hcand)).trans ((if_neg (not_not.2 hbench)).trans ?_))
  rw [ha]

end Stop

/-! ## Slots loaded and selected on live benches (11 R563, R564) -/

theorem liveBenches_nodup (s : State) (h : Nat) : (liveBenches s h).Nodup := List.nodup_range.filter _

theorem bench_modBench_self {s : State} {b : Nat} {y : Bench} (hy : s.fab.bench[b]? = some y) (f : Bench → Bench) :
    (modBench b f s).fab.bench[b]? = some (f y) := getElem?_upd_self f hy

theorem bench_modBench_ne {b k : Nat} (hne : k ≠ b) (f : Bench → Bench) (s : State) :
    (modBench b f s).fab.bench[k]? = s.fab.bench[k]? := List.getElem?_modify_ne _ _ hne.symm

section Select

variable (slot : Bench → Nat) (tenant : Nat) (opcode : Half) (cand recipe : Nat) (bd : Long)

/-- The bench selects the slot at the boundary. -/
def Bench.selecting (x : Bench) : Bench := { x with change := some (.select (slot x) tenant opcode cand recipe, bd) }

theorem selectOn_other {l : List Nat} {k : Nat} (hk : k ∉ l) (s : State) :
    (selectOn l slot tenant opcode cand recipe bd s).fab.bench[k]? = s.fab.bench[k]? := by
  induction l generalizing s with
  | nil => rfl
  | cons b l ih =>
    rw [List.mem_cons, not_or] at hk
    exact (ih hk.2 _).trans (bench_modBench_ne hk.1 _ s)

theorem selectOn_live {l : List Nat} (hl : l.Nodup) {k : Nat} (hk : k ∈ l) {s : State} {y : Bench} (hy : s.fab.bench[k]? = some y) :
    (selectOn l slot tenant opcode cand recipe bd s).fab.bench[k]? = some (y.selecting slot tenant opcode cand recipe bd) := by
  induction l generalizing s with
  | nil => cases hk
  | cons b l ih =>
    obtain ⟨hb, hrest⟩ := List.nodup_cons.1 hl
    rw [selectOn]
    rcases List.mem_cons.1 hk with rfl | hin
    · rw [selectOn_other _ _ _ _ _ _ hb]
      exact bench_modBench_self hy _
    · have hne : k ≠ b := fun heq => hb (heq ▸ hin)
      exact ih hrest hin ((bench_modBench_ne hne _ s).trans hy)

theorem selectOn_frame_self (l : List Nat) (s : State) : Frame [.fab] s (selectOn l slot tenant opcode cand recipe bd s) :=
  selectOn_frame l slot tenant opcode cand recipe bd s (List.Subset.refl _) (Frame.refl _ s)

end Select

theorem loadIdle_frame_self (l : List Nat) (params : Bytes) (s : State) : Frame [.fab] s (loadIdle l params s) :=
  loadIdle_frame l params s (List.Subset.refl _) (Frame.refl _ s)

theorem loadIdle_other {l : List Nat} {k : Nat} (hk : k ∉ l) (params : Bytes) (s : State) :
    (loadIdle l params s).fab.bench[k]? = s.fab.bench[k]? := by
  induction l generalizing s with
  | nil => rfl
  | cons b l ih =>
    rw [List.mem_cons, not_or] at hk
    exact (ih hk.2 _).trans ((bench_modBench_ne hk.1 _ _).trans (bench_modBench_ne hk.1 _ s))

/-- The bench's active slot stays, and its idle slot holds the parameters. -/
def LoadedIdle (params : Bytes) (y z : Bench) : Prop := z.slot = y.slot ∧ z.slots = upd y.slots (1 - y.slot) fun _ => params

theorem loadIdle_live {l : List Nat} (hl : l.Nodup) {k : Nat} (hk : k ∈ l) (params : Bytes) {s : State} {y : Bench}
    (hy : s.fab.bench[k]? = some y) : ∃ z, (loadIdle l params s).fab.bench[k]? = some z ∧ LoadedIdle params y z := by
  induction l generalizing s with
  | nil => cases hk
  | cons b l ih =>
    obtain ⟨hb, hrest⟩ := List.nodup_cons.1 hl
    rw [loadIdle]
    rcases List.mem_cons.1 hk with rfl | hin
    · rw [loadIdle_other hb]
      exact ⟨_, bench_modBench_self (bench_modBench_self hy _) _, rfl, rfl⟩
    · have hne : k ≠ b := fun heq => hb (heq ▸ hin)
      exact ih hrest hin ((bench_modBench_ne hne _ _).trans ((bench_modBench_ne hne _ s).trans hy))

/-! ## TMP_PROMOTE (11 R562, R563) -/

/-- The candidate is loaded and selected on the live benches of the recipe. -/
def promoted (p : Packet) (c : Cand) (x : Recipe) (s : State) : State :=
  selectOn (liveBenches s x.handle) (fun b => 1 - b.slot) p.principal 0x0B24 c.handle x.handle (boundaryAfter s.pos.shift s.pos.hwm)
    (loadIdle (liveBenches s x.handle) c.params s)

section Promote

variable {r : Ref} {p : Packet} {s : State} (h : opStarts 0x0B24 r p s = true)
include h

theorem tmpPromote_noCand {st : Half} {off : Nat} (hc : candFor s p.tenant (fld p.params 0 4) = .inl (st, off)) :
    exec (.tmpPromote r) s = .next (refuse p st off s) := by
  refine congrArg Host.Outcome.next ((runOp_starts h _).trans ?_)
  rw [hc]

variable {c : Cand} (hc : candFor s p.tenant (fld p.params 0 4) = .inr c)
include hc

theorem tmpPromote_noRecipe {st : Half} {off : Nat} (hx : recipeFor s p.tenant (fld p.params 4 4) 0x24 = .inl (st, off)) :
    exec (.tmpPromote r) s = .next (refuse p st off s) := by
  refine congrArg Host.Outcome.next ((runOp_starts h _).trans ?_)
  rw [hc, hx]

variable {x : Recipe} (hx : recipeFor s p.tenant (fld p.params 4 4) 0x24 = .inr x)
include hx

theorem tmpPromote_refused {st : Half} {off : Nat} (hf : promoteFault s c x = some (st, off)) :
    exec (.tmpPromote r) s = .next (refuse p st off s) := by
  refine congrArg Host.Outcome.next ((runOp_starts h _).trans ?_)
  rw [hc, hx]
  dsimp only
  rw [hf]

theorem tmpPromote_promotes (hf : promoteFault s c x = none) :
    exec (.tmpPromote r) s = .next (done p stACCEPTED [] (promoted p c x s)) := by
  refine congrArg Host.Outcome.next ((runOp_starts h _).trans ?_)
  rw [hc, hx]
  dsimp only
  rw [hf]
  rfl

end Promote

theorem promoted_frame (p : Packet) (c : Cand) (x : Recipe) (s : State) : Frame [.fab] s (promoted p c x s) :=
  selectOn_frame _ _ _ _ _ _ _ _ (List.Subset.refl _) (loadIdle_frame_self _ _ s)

theorem promoted_other {p : Packet} {c : Cand} {x : Recipe} {s : State} {b : Nat} (hb : b ∉ liveBenches s x.handle) :
    (promoted p c x s).fab.bench[b]? = s.fab.bench[b]? :=
  (selectOn_other _ _ _ _ _ _ hb _).trans (loadIdle_other hb _ s)

/-- A live bench selects its idle slot, which holds the candidate's parameters. -/
theorem promoted_live {p : Packet} {c : Cand} {x : Recipe} {s : State} {b : Nat} {y : Bench} (hb : b ∈ liveBenches s x.handle)
    (hy : s.fab.bench[b]? = some y) : ((promoted p c x s).fab.bench[b]?).map (fun z => (z.change, z.slot, z.slots)) =
      some (some (.select (1 - y.slot) p.principal 0x0B24 c.handle x.handle, boundaryAfter s.pos.shift s.pos.hwm), y.slot,
        upd y.slots (1 - y.slot) fun _ => c.params) := by
  obtain ⟨z, hz, hslot, hslots⟩ := loadIdle_live (liveBenches_nodup s x.handle) hb c.params hy
  rw [promoted, selectOn_live _ _ _ _ _ _ (liveBenches_nodup s x.handle) hb hz, Option.map_some, ← hslots, ← hslot]
  rfl

/-! ## TMP_ROLLBACK (11 R564) -/

/-- The slot before is selected on the live benches of the recipe. -/
def rolledBack (p : Packet) (x : Recipe) (s : State) : State :=
  selectOn (liveBenches s x.handle) (·.prevSlot) p.principal 0x0B25 0 x.handle (boundaryAfter s.pos.shift s.pos.hwm) s

section Rollback

variable {r : Ref} {p : Packet} {s : State} (h : opStarts 0x0B25 r p s = true)
include h

theorem tmpRollback_noRecipe {st : Half} {off : Nat} (hx : recipeFor s p.tenant (fld p.params 0 4) 0x20 = .inl (st, off)) :
    exec (.tmpRollback r) s = .next (refuse p st off s) := by
  refine congrArg Host.Outcome.next ((runOp_starts h _).trans ?_)
  rw [hx]

variable {x : Recipe} (hx : recipeFor s p.tenant (fld p.params 0 4) 0x20 = .inr x)
include hx

theorem tmpRollback_refused {st : Half} {off : Nat} (hf : slotFault s x.handle = some (st, off)) :
    exec (.tmpRollback r) s = .next (refuse p st off s) := by
  refine congrArg Host.Outcome.next ((runOp_starts h _).trans ?_)
  rw [hx]
  dsimp only
  rw [hf]

theorem tmpRollback_rollsBack (hf : slotFault s x.handle = none) :
    exec (.tmpRollback r) s = .next (done p stACCEPTED [] (rolledBack p x s)) := by
  refine congrArg Host.Outcome.next ((runOp_starts h _).trans ?_)
  rw [hx]
  dsimp only
  rw [hf]
  rfl

end Rollback

theorem rolledBack_frame (p : Packet) (x : Recipe) (s : State) : Frame [.fab] s (rolledBack p x s) :=
  selectOn_frame_self _ _ _ _ _ _ _ s

theorem rolledBack_other {p : Packet} {x : Recipe} {s : State} {b : Nat} (hb : b ∉ liveBenches s x.handle) :
    (rolledBack p x s).fab.bench[b]? = s.fab.bench[b]? := selectOn_other _ _ _ _ _ _ hb s

theorem rolledBack_live {p : Packet} {x : Recipe} {s : State} {b : Nat} {y : Bench} (hb : b ∈ liveBenches s x.handle)
    (hy : s.fab.bench[b]? = some y) : ((rolledBack p x s).fab.bench[b]?).map (·.change) =
      some (some (.select y.prevSlot p.principal 0x0B25 0 x.handle, boundaryAfter s.pos.shift s.pos.hwm)) := by
  rw [rolledBack, selectOn_live _ _ _ _ _ _ (liveBenches_nodup s x.handle) hb hy]
  rfl

/-! ## The statement on tempering -/

/-- Settles O55: each command by the outcomes of its checks and of the Ledger's decision, the end of an epoch by what its closing
leaves of the recipes' state, promotion and rollback bench by bench. -/
theorem temperingCommands : Obligations.TemperingCommands := by
  unfold Obligations.TemperingCommands
  refine ⟨fun r p s pick h => ⟨fun st off hf => tmpCacheConfig_refused h pick hf, fun hf =>
      ⟨fun hne => tmpCacheConfig_short h pick hf rfl hne, fun hl => tmpCacheConfig_begins h pick hf hl⟩⟩,
    fun r p s h => ⟨fun hlen => tmpLabel_badLength h hlen, fun i st off hlen hi hbad hbefore =>
      tmpLabel_refused h hlen (firstFault_first hi hbad hbefore), fun l hlen hl hgood => ?_⟩,
    fun e label => labelEntry_waits e label,
    fun s t cls pick b ref fromList => ⟨fun hcls => requestEpoch_class hcls, fun st off hcls hf => requestEpoch_fault hcls hf,
      fun tb c hcls hf ht => ⟨fun hne => ?_, fun hl => requestEpoch_starts hcls hf ht hl⟩⟩,
    fun r p pick s h => ⟨fun hx => tmpEpoch_starts h pick hx, fun hx => tmpEpoch_short h pick hx, fun hok hbudget =>
      tmpEpoch_refused h pick hok hbudget⟩,
    fun pick s l c p hup hl hcur hcmd hp => ⟨fun hown => exec_epoch_own pick hup hl hcur hcmd hp hown, fun hown hargs =>
      exec_epoch_reserved pick hup hl hcur hcmd hp hown hargs, fun hown h0 h1 h2 => ?_⟩,
    fun pick s hc => exec_epoch_idle pick hc,
    fun s params pick hc => exec_tmpEpochDone_idle params pick hc,
    fun s e params pick he hruns => ⟨fun hdone => ?_, fun hdone => exec_tmpEpochDone_running he params pick hdone⟩,
    fun r p s pick h hop => ⟨fun st off hf => tmpShadow_refused h pick hop hf, fun st hf ht => tmpShadow_noTemper h pick hop hf ht,
      fun tb c x hf ht hx => ⟨fun hne => tmpShadow_short h pick hop hf ht hx rfl hne, fun hl => tmpShadow_starts h pick hop hf ht hx hl⟩⟩,
    fun r p s pick h => ⟨fun hop => tmpShadow_badOp h pick hop, fun st off hop hc => tmpShadow_stop_noCand h pick hop hc,
      fun c hop hc => ⟨fun hs => tmpShadow_stop_none h pick hop hc hs, fun x hs =>
        ⟨fun hne => tmpShadow_stop_otherCand h pick hop hc hs hne, fun hcand hne => tmpShadow_stop_otherBench h pick hop hc hs hcand hne,
          fun a hcand hbench ha => ?_⟩⟩⟩,
    fun r p s h => ⟨fun st off hc => tmpPromote_noCand h hc, fun c hc => ⟨fun st off hx => tmpPromote_noRecipe h hc hx, fun x hx =>
      ⟨fun st off hf => tmpPromote_refused h hc hx hf, fun hf => ⟨promoted p c x s, tmpPromote_promotes h hc hx hf,
        promoted_frame p c x s, fun b hb => promoted_other hb, fun b y hb hy => promoted_live hb hy⟩⟩⟩⟩,
    fun r p s h => ⟨fun st off hx => tmpRollback_noRecipe h hx, fun x hx => ⟨fun st off hf => tmpRollback_refused h hx hf, fun hf =>
      ⟨rolledBack p x s, tmpRollback_rollsBack h hx hf, rolledBack_frame p x s, fun b hb => rolledBack_other hb,
        fun b y hb hy => rolledBack_live hb hy⟩⟩⟩⟩
  · refine ⟨labelAll l s, tmpLabel_labels h hlen hl hgood, labelAll_frame l s (by decide) (Frame.refl _ s), ?_⟩
    rw [labelAll_rcp]
    exact ⟨rfl, labelled_length l _, fun k e he => labelled_getElem? he l⟩
  · rw [requestEpoch_short hcls hf ht rfl hne]
    exact ⟨rfl, rfl, rfl⟩
  · rw [exec_epoch_asked pick hup hl hcur hcmd hp hown h0 h1 h2]
    exact ⟨fun hx => congrArg Host.Outcome.next (if_pos hx), fun hx => congrArg Host.Outcome.next (if_neg hx)⟩
  · refine ⟨_, epochCand e params (pickedHandle pick s) s, exec_tmpEpochDone_complete he params pick hruns hdone, ?_⟩
    rw [completeEpoch_rcp]
    exact ⟨rfl, rfl, rfl, rfl, rfl, rfl⟩
  · rw [tmpShadow_stop_named h pick hop hc hs hcand hbench ha]
    exact ⟨fun hmay => congrArg Host.Outcome.next (if_pos hmay), fun hmay => congrArg Host.Outcome.next (if_neg (by simp [hmay]))⟩

end Sys2Proof.Machine
end
